-- ==== Sys2Proof/Word.lean ====
section
/-! DEFINITION. The word types of the device: bytes, 32-bit register words and 64-bit values (R10, R11). -/

namespace Sys2Proof

/-- A byte of memory or of a message. -/
abbrev Byte := BitVec 8

/-- A 32-bit word: a register word, a general register. -/
abbrev Word := BitVec 32

/-- A 64-bit word: PV, TT, FN, a lattice word. -/
abbrev DWord := BitVec 64

/-- A run of bytes in ascending address order (R10). -/
abbrev Bytes := List Byte

end Sys2Proof
end

