-- ==== Sys2Proof/Syntax.lean ====
section
/-! DEFINITION. The commands of the block: one constructor of `Instr` per row of spec/opcode_table.json, in the table's
order, and the types of their operands. A command happens at the device's present TT; what the outside world decides
(a pin level, a received codeword, the length of a commit window) is an operand. An instruction row names the
lockstep group that executes it. -/

namespace Sys2Proof

/-- A master ID on the fabric (R36, R316). -/
abbrev Master := Fin 16
/-- A lockstep group LSG[g] (R2). -/
abbrev Group := Fin 8
/-- A head lane HL[n] (R2). -/
abbrev Lane := Fin 48
/-- An encoder ENC[n]. -/
abbrev Enc := Fin 8
/-- A position domain DOM[d]. -/
abbrev Dom := Fin 4
/-- A verify tile VT[t]. -/
abbrev Tile := Fin 64
/-- An output channel PEO[n]. -/
abbrev Chan := Fin 32
/-- A slot of the wheel (R154). -/
abbrev Slot := Fin 131072
/-- An interrupt source SRC[s] (R282). -/
abbrev Src := Fin 512
/-- A fault ID (R325). -/
abbrev FaultId := Fin 512
/-- A queue pair HQ[q] (R353). -/
abbrev Queue := Fin 64
/-- A track ID (R114). -/
abbrev TrackId := Fin 1048576
/-- A supply rail by its index (R469). -/
abbrev Rail := Fin 10
/-- A memory index of R299: 0 to 4, 8 + g, 16 + g, 32 + t. -/
abbrev MemIx := Fin 96
/-- A general register g0 to g31 by its number (R232). -/
abbrev GReg := BitVec 5

/-- What a sample of an encoder's A and B inputs accepts (R19, R20). -/
inductive EncEdge where
  | a      -- a transition of A alone
  | b      -- a transition of B alone
  | both   -- A and B in the same KCLK: an illegal transition
  deriving DecidableEq, Repr

/-- Which of an encoder's signals have been valid continuously for 1 ms (R21). -/
structure EncValid where
  a : Bool
  b : Bool
  z : Bool
  deriving DecidableEq, Repr

/-- The commit window of a boundary (R44, R45): its length in KCLK, and whether a step missed its own deadline. -/
structure CommitWindow where
  kclk : Nat
  missed : Bool
  deriving DecidableEq, Repr

/-- The outcome of forward error correction of a codeword (R59). -/
inductive Fec where
  | clean
  | corrected
  | uncorrectable
  deriving DecidableEq, Repr

/-- The data symbols of a received codeword (R54): the marker, the count and the 640 scrambled bytes. -/
structure Codeword where
  marker : BitVec 12
  count : Byte
  stream : Bytes
  deriving DecidableEq, Repr

/-- What the hardware finds during bisque (R409): the known-answer tests, the PUF read and the two copies of the
non-volatile store. -/
structure BisqueRun where
  shaOk : Bool
  mldsaOk : Bool
  pufOk : Bool
  nvOk : Bool
  deriving DecidableEq, Repr

/-- What the hardware finds during glost (R411): HBM training, and the number of the first self-test that fails, if
any. -/
structure GlostRun where
  hbmOk : Bool
  selfTest : Option Byte
  deriving DecidableEq, Repr

/-- The commit record (R182, both commit slots) and the bus record (R183) of one copy in one slot: eight fields each,
in the order of those rules. -/
structure CopyRecord where
  slot0 : Vector (BitVec 128) 8
  slot1 : Vector (BitVec 128) 8
  bus : Vector (BitVec 128) 8
  deriving DecidableEq, Repr

/-- How a re-admission pause went (R194, R195): the CCLK the drain took, whether the copied state's signature equals
the majority's, and whether the two majority copies' signatures are equal. -/
structure ReadmitRun where
  drain : Nat
  copyEqual : Bool
  majorityEqual : Bool
  deriving DecidableEq, Repr

/-- The exception causes of R265. -/
inductive Exc where
  | illegal | priv | fetchNx | fetchErr | fetchLat | align | mpuRd | mpuWr | busRd | latRd | storeErr | div0 | trap
  | loopSetup | mpuCfg
  deriving DecidableEq, Repr

/-- The atomic operations of R249. -/
inductive AtomOp where
  | swap | add | and | or | xor | min | max | minu | maxu | cas
  deriving DecidableEq, Repr

/-- An access that had left the group when an interrupt was entered (R227): its address, its size in bytes, and for an
atomic its operation with rd and rb. -/
structure KeptAccess where
  addr : Word
  size : Nat
  atom : Option (AtomOp × BitVec 5 × BitVec 5)
  deriving DecidableEq, Repr

/-- What made the FCU's self-check fail (R337): a lost heartbeat at SSC channel X or Y, the FCU's own channels, of which
one decides the next occurrence with the class given, or a lattice error in `FLT_CFG`. -/
inductive FcuSelfCause where
  | heartbeatX
  | heartbeatY
  | disagree (cls : Fin 5)
  | lattice
  deriving DecidableEq, Repr

/-- An uncorrectable error met in a device-reserved structure of HBM, whose layout the spec does not give (R384): the
n-th staged record, a slot image, or an archive buffer block. -/
inductive ReservedLoss where
  | staging (n : Nat)
  | slot (k : Fin 32)
  | archive
  deriving DecidableEq, Repr

/-- Who writes a queue pair's control register (R356, R381): master 0, or function f through its mirror. -/
inductive HqWriter where
  | master0
  | func (f : Fin 2)
  deriving DecidableEq, Repr

/-- The enable that changes in R374. -/
inductive BmeBit where
  | busMaster
  | msix
  deriving DecidableEq, Repr

/-- The reasons a join fails (R453, R457). -/
inductive JoinFail where
  | epoch
  | timeout
  | noStep
  deriving DecidableEq, Repr

/-- The count of a LOOP (R254): COUNT12, or the value of a register. -/
inductive LoopCount where
  | imm (n : BitVec 12)
  | reg (ra : GReg)
  deriving DecidableEq, Repr

/-- The commands, one constructor per row of the opcode table. -/
inductive Instr where
  /-- `POWER_ON_RESET` (R437). -/
  | powerOnReset (aonLost : Bool)
  /-- `RST_N_ASSERT` (R473). -/
  | rstNAssert
  /-- `PERST_N_ASSERT` (R377). -/
  | perstNAssert
  /-- `BISQUE` (R409). -/
  | bisque (r : BisqueRun)
  /-- `GLOST` (R411). -/
  | glost (r : GlostRun)
  /-- `GLOST_TIMEOUT` (R412). -/
  | glostTimeout
  /-- `PWR_WARN` (R457). -/
  | pwrWarn (rail : Rail)
  /-- `PWR_RAIL` (R457). -/
  | pwrRail (rail : Rail)
  /-- `CLK_LINK_LOSS` (R457). -/
  | clkLinkLoss
  /-- `CLK_PCIE_LOSS` (R457). -/
  | clkPcieLoss
  /-- `CLK_SYS_LOSS` (R457). -/
  | clkSysLoss
  /-- `TJ_HIGH` (R457). -/
  | tjHigh (t : Nat)
  /-- `ENCODER_EDGE` (R19). -/
  | encoderEdge (n : Enc) (e : EncEdge)
  /-- `ENC_OVERRATE_END` (R20). -/
  | encOverrateEnd (n : Enc)
  /-- `ENC_INDEX_EDGE` (R20). -/
  | encIndexEdge (n : Enc) (rising : Bool)
  /-- `ENC_SIGNAL_LOSS` (R20). -/
  | encSignalLoss (n : Enc) (a b : Bool)
  /-- `ENC_Z_LOSS` (R20). -/
  | encZLoss (n : Enc)
  /-- `ENC_LOSS_CLEAR` (R21). -/
  | encLossClear (n : Enc) (m : Master) (v : Word) (ok : EncValid)
  /-- `DOM_STOPPED_SET` (R28). -/
  | domStoppedSet (d : Dom)
  /-- `FIRE_IN_EDGE` (R38). -/
  | fireInEdge (rising : Bool)
  /-- `FIRING_BOUNDARY` (R44): its commit window, and whether a TWIN_PEER input is high at t0 (R445). -/
  | firingBoundary (cw : CommitWindow) (peer : Bool)
  /-- `FIRING_OVERSPEED` (R40). -/
  | firingOverspeed
  /-- `TB_SRC_LOST` (R43). -/
  | tbSrcLost
  /-- `SEAL_POINT` (R42). -/
  | sealPoint
  /-- `DOM_PRESET_GO` (R29). -/
  | domPresetGo (d : Dom) (m : Master)
  /-- `DOM_CVT_T2P` (R31). -/
  | domCvtT2p (d : Dom) (m : Master)
  /-- `DOM_CVT_P2T` (R33). -/
  | domCvtP2t (d : Dom) (m : Master)
  /-- `DOM_CVT_COMPLETE` (R36). -/
  | domCvtComplete (d : Dom) (m : Master)
  /-- `LANE_SIGNAL_DETECT` (R91). -/
  | laneSignalDetect (n : Lane)
  /-- `PAM4_TRAIN_TIMEOUT` (R53). -/
  | pam4TrainTimeout (n : Lane)
  /-- `CODEWORD_LOCK` (R55). -/
  | codewordLock (n : Lane)
  /-- `CODEWORD_LOCK_LOSS` (R55). -/
  | codewordLockLoss (n : Lane) (optical : Bool)
  /-- `CODEWORD_RECEIVE` (R59). -/
  | codewordReceive (n : Lane) (fec : Fec) (cw : Codeword)
  /-- `VER_SEND` (R91). -/
  | verSend (n : Lane)
  /-- `VER_RECEIVE` (R87). -/
  | verReceive (n : Lane)
  /-- `NEGOTIATE_TIMEOUT` (R91). -/
  | negotiateTimeout (n : Lane)
  /-- `SYNC_SEND` (R65). -/
  | syncSend (n : Lane) (frac : Byte)
  /-- `SYNC_RESPONSE_RECEIVE` (R64). -/
  | syncResponseReceive (n : Lane) (frac : Byte)
  /-- `SYNC_RESPONSE_MISSING` (R65). -/
  | syncResponseMissing (n : Lane)
  /-- `CALIBRATE_TIMEOUT` (R91). -/
  | calibrateTimeout (n : Lane)
  /-- `CHALLENGE_RESPONSE_RECEIVE` (R90). -/
  | challengeResponseReceive (n : Lane)
  /-- `CHALLENGE_CHECK_DONE` (R90). -/
  | challengeCheckDone (n : Lane)
  /-- `HL_ADMIT` (R92). -/
  | hlAdmit (n : Lane) (m : Master)
  /-- `HL_DETACH` (R92). -/
  | hlDetach (n : Lane) (m : Master)
  /-- `HL_RETRAIN` (R91). -/
  | hlRetrain (n : Lane) (m : Master)
  /-- `HL_CMB_READ` (R89). -/
  | hlCmbRead (n : Lane) (m : Master)
  /-- `HL_CMB_WRITE` (R89). -/
  | hlCmbWrite (n : Lane) (m : Master)
  /-- `HL_CMB_RESET` (R88). -/
  | hlCmbReset (n : Lane) (m : Master)
  /-- `HL_CMB_SET_PORT` (R447). -/
  | hlCmbSetPort (n : Lane) (m : Master)
  /-- `CTRL_RESPONSE_RECEIVE` (R88). -/
  | ctrlResponseReceive (n : Lane)
  /-- `CTRL_RESPONSE_TIMEOUT` (R88). -/
  | ctrlResponseTimeout (n : Lane)
  /-- `FEAT_RECEIVE` (R73). -/
  | featReceive (n : Lane)
  /-- `CROP_RECEIVE` (R78). -/
  | cropReceive (n : Lane)
  /-- `CROP_TIMEOUT` (R78). -/
  | cropTimeout (n : Lane) (slot : Nat)
  /-- `STAT_RECEIVE` (R83). -/
  | statReceive (n : Lane)
  /-- `HB_RECEIVE` (R82). -/
  | hbReceive (n : Lane)
  /-- `HB_SEND` (R82). -/
  | hbSend (n : Lane)
  /-- `HB_TIMEOUT` (R84). -/
  | hbTimeout (n : Lane)
  /-- `CAPTURE_MISS` (R72). -/
  | captureMiss (n : Lane)
  /-- `CRED_SEND` (R80). -/
  | credSend (n : Lane)
  /-- `TE_STAGE_RECORD` (R98). -/
  | teStageRecord
  /-- `TE_APPLY_BATCH` (R105). -/
  | teApplyBatch
  /-- `TE_DEC_WRITE` (R118). -/
  | teDecWrite (m : Master) (v : Word)
  /-- `TE_DECISION_TIMEOUT` (R119). -/
  | teDecisionTimeout (id : TrackId)
  /-- `VE_JOB_END` (R142). -/
  | veJobEnd (t : Tile)
  /-- `VE_OVERRUN` (R145). -/
  | veOverrun (t : Tile)
  /-- `VE_TILE_FAULT` (R145). -/
  | veTileFault (t : Tile)
  /-- `VE_SQ_TAIL_WRITE` (R135). -/
  | veSqTailWrite (g : Group) (m : Master) (v : Word)
  /-- `VE_CANCEL_GO` (R146). -/
  | veCancelGo (g : Group) (m : Master) (v : Word)
  /-- `VE_KLOAD_GO` (R148). -/
  | veKloadGo (m : Master)
  /-- `VE_KLOAD_UNLOAD` (R148). -/
  | veKloadUnload (m : Master) (v : Word)
  /-- `VE_KLOAD_DONE` (R148). -/
  | veKloadDone
  /-- `VT_RETURN` (R145). -/
  | vtReturn (t : Tile) (m : Master)
  /-- `VT_SELF_TEST_DONE` (R145). -/
  | vtSelfTestDone (t : Tile) (pass : Bool)
  /-- `EW_INSERT` (R154). -/
  | ewInsert (g : Group) (m : Master) (v : Word)
  /-- `EW_CANCEL_HANDLE` (R160). -/
  | ewCancelHandle (g : Group) (m : Master) (v : Word)
  /-- `EW_MASK_CANCEL` (R160). -/
  | ewMaskCancel (g : Group) (m : Master)
  /-- `EW_MASK_CANCEL_DONE` (R160). -/
  | ewMaskCancelDone (g : Group)
  /-- `NEAR_SET_LOAD` (R157). -/
  | nearSetLoad (d : Dom) (slot : Slot)
  /-- `LATE_EVENT_ACT` (R157). -/
  | lateEventAct (d : Dom) (slot : Slot)
  /-- `TIME_PULSE_END` (R165). -/
  | timePulseEnd (n : Chan)
  /-- `PEO_PULSE_MAX` (R166). -/
  | peoPulseMax (n : Chan)
  /-- `OFF_PULSE_TEST` (R171). -/
  | offPulseTest (n : Chan)
  /-- `OFF_PULSE_TEST_END` (R171). -/
  | offPulseTestEnd (n : Chan) (a b : Bool)
  /-- `READBACK_MISMATCH` (R170). -/
  | readbackMismatch (n : Chan) (a b : Bool)
  /-- `SAFE_STOP_FB` (R174). -/
  | safeStopFb (k : Fin 2) (level : Bool)
  /-- `EW_RELEASE` (R169). -/
  | ewRelease (g : Group) (m : Master)
  /-- `LOCKSTEP_COMPARE` (R184). -/
  | lockstepCompare (g : Group) (a b c : CopyRecord)
  /-- `READMISSION_COMPLETE` (R195). -/
  | readmissionComplete (g : Group) (r : ReadmitRun)
  /-- `COMPARATOR_SELF_TEST` (R201): the unit and the half that fail, if any. -/
  | comparatorSelfTest (g : Group) (fail : Option (Fin 3 × Fin 2))
  /-- `LS_CFG_WRITE` (R189). -/
  | lsCfgWrite (g : Group) (m : Master) (v : Word)
  /-- `LS_RESTART` (R200). -/
  | lsRestart (g : Group) (m : Master)
  /-- `LS_STOP` (R200). -/
  | lsStop (g : Group) (m : Master)
  /-- `LS_INJECT` (R202). -/
  | lsInject (g : Group) (m : Master) (v : Word)
  /-- `LS_UNRETIRE` (R197). -/
  | lsUnretire (g : Group) (m : Master) (v : Word)
  /-- `LS_POWER_OFF` (R205). -/
  | lsPowerOff (g : Group) (m : Master)
  /-- `LS_POWER_ON` (R205). -/
  | lsPowerOn (g : Group) (m : Master)
  /-- `LS_POWER_GOOD` (R205). -/
  | lsPowerGood (g : Group)
  /-- `LS_PWR_FAIL` (R205). -/
  | lsPwrFail (g : Group)
  /-- `DEBUG_HALT_TAKEN` (R203). -/
  | debugHaltTaken (g : Group)
  /-- `LOAD_DATA_RETURN` (R185). -/
  | loadDataReturn (g : Group)
  /-- `FETCH_FILL_RETURN` (R215). -/
  | fetchFillReturn (g : Group) (addr : Word)
  /-- `STORE_ERROR_RETURN` (R266). -/
  | storeErrorReturn (g : Group)
  /-- `EXCEPTION_ENTRY` (R271). -/
  | exceptionEntry (g : Group) (c : Exc) (faddr : Word)
  /-- `INTERRUPT_ENTRY` (R272). -/
  | interruptEntry (g : Group) (kept : Option KeptAccess)
  /-- `LATE_ARRIVAL` (R273). -/
  | lateArrival (g : Group)
  /-- `SRC_EDGE_EVENT` (R284). -/
  | srcEdgeEvent
  /-- `SRC_LEVEL_CHANGE` (R284). -/
  | srcLevelChange (s : Src)
  /-- `INTERRUPT_PRESENT` (R290). -/
  | interruptPresent (g : Group)
  /-- `WAIT_WAKE` (R294). -/
  | waitWake (g : Group)
  /-- `SRC_SETP` (R284). -/
  | srcSetp (s : Src) (m : Master)
  /-- `SRC_CLRP` (R284). -/
  | srcClrp (s : Src) (m : Master)
  /-- `IC_EOI` (R293). -/
  | icEoi (g : Group) (m : Master) (v : Word)
  /-- `SCRUB_READ` (R309). -/
  | scrubRead (i : MemIx)
  /-- `SCRUB_WRITE_BACK` (R308). -/
  | scrubWriteBack (i : MemIx)
  /-- `SCRUB_STALL` (R309). -/
  | scrubStall (i : MemIx)
  /-- `SP_RAW_READ` (R310). -/
  | spRawRead (m : Master)
  /-- `SP_RAW_WRITE` (R310). -/
  | spRawWrite (m : Master)
  /-- `SP_RAW_DONE` (R310). -/
  | spRawDone
  /-- `MPU_CFG_ERR` (R315). -/
  | mpuCfgErr (g : Group) (r : Option (Fin 32))
  /-- `FW_CFG_ERR` (R323). -/
  | fwCfgErr
  /-- `FAULT_OCCURRENCE` (R326). -/
  | faultOccurrence
  /-- `FCU_LOG_DRAIN` (R326). -/
  | fcuLogDrain
  /-- `FCU_INJECT` (R332). -/
  | fcuInject (m : Master) (v : Word)
  /-- `FLT_CFG_WRITE` (R327). -/
  | fltCfgWrite (i : FaultId) (m : Master) (v : Word)
  /-- `FLT_PEND_CLEAR` (R330). -/
  | fltPendClear (i : FaultId) (m : Master)
  /-- `FCU_SELF` (R337). -/
  | fcuSelf (why : FcuSelfCause)
  /-- `SSC_DISAGREE` (R337). -/
  | sscDisagree
  /-- `SSC_PERIODIC_TEST` (R337). -/
  | sscPeriodicTest (x y : Bool)
  /-- `SSC_INTRUSIVE_TEST` (R337). -/
  | sscIntrusiveTest (m : Master)
  /-- `SSC_INTRUSIVE_TEST_END` (R337). -/
  | sscIntrusiveTestEnd (badX badY : Bool)
  /-- `WD_KEY_WRITE` (R341). -/
  | wdKeyWrite (g : Group) (m : Master) (v : Word)
  /-- `WD_KEY1_LAPSE` (R339). -/
  | wdKey1Lapse (g : Group)
  /-- `WD_WARN` (R342). -/
  | wdWarn (g : Group)
  /-- `WD_EXPIRE` (R342). -/
  | wdExpire (g : Group)
  /-- `WD_FREEZE_CAP` (R343). -/
  | wdFreezeCap (g : Group)
  /-- `WD_TIMEBASE` (R334). -/
  | wdTimebase (ticks : Nat)
  /-- `CM_BEND` (R345). -/
  | cmBend (g : Group) (m : Master) (v : Word)
  /-- `CM_START` (R346). -/
  | cmStart (g : Group) (m : Master)
  /-- `RET_CLEAR` (R14). -/
  | retClear (m : Master)
  /-- `HOST_SQ_DOORBELL` (R357). -/
  | hostSqDoorbell (q : Queue) (f : Fin 2) (v : Word)
  /-- `HOST_CQ_DOORBELL` (R357). -/
  | hostCqDoorbell (q : Queue) (f : Fin 2) (v : Word)
  /-- `HOST_PACKET_FETCH` (R358). -/
  | hostPacketFetch (q : Queue) (p : Option Bytes)
  /-- `HOST_COMPLETION_WRITE` (R359). -/
  | hostCompletionWrite (q : Queue)
  /-- `MSIX_MESSAGE` (R372). -/
  | msixMessage (f : Fin 2) (vec : Byte)
  /-- `CHAIN_TIMEOUT` (R365). -/
  | chainTimeout (q : Queue)
  /-- `AUTH_CHECK_DONE` (R370). -/
  | authCheckDone
  /-- `HQ_ENABLE` (R356). -/
  | hqEnable (q : Queue) (w : HqWriter)
  /-- `HQ_DELETE` (R356). -/
  | hqDelete (q : Queue) (w : HqWriter)
  /-- `HOST_HEARTBEAT` (R379). -/
  | hostHeartbeat (m : Master)
  /-- `HI_HOST_LOST` (R379). -/
  | hiHostLost
  /-- `MIRROR_WRITE` (R354). -/
  | mirrorWrite (f : Fin 2) (off : Nat) (v : Word)
  /-- `BAR2_WRITE` (R355). -/
  | bar2Write (off : Nat) (data : Bytes)
  /-- `HI_LINK_DOWN` (R377). -/
  | hiLinkDown
  /-- `HI_FLR` (R375). -/
  | hiFlr (f : Fin 2)
  /-- `BUS_MASTER_DISABLE` (R374). -/
  | busMasterDisable (f : Fin 2) (b : BmeBit)
  /-- `D3HOT_ENTRY` (R374). -/
  | d3hotEntry (f : Fin 2)
  /-- `D0_RETURN` (R374). -/
  | d0Return (f : Fin 2)
  /-- `HI_PCIE_UNCORR` (R380). -/
  | hiPcieUncorr (bit : Fin 32)
  /-- `NOP` (R363). -/
  | nop (q : Queue)
  /-- `IDENTIFY` (R363). -/
  | identify (q : Queue)
  /-- `GET_STATUS` (R363). -/
  | getStatus (q : Queue)
  /-- `READ_LOG` (R363). -/
  | readLog (q : Queue)
  /-- `WRITE_REG` (R363). -/
  | writeReg (q : Queue)
  /-- `MODE_REQ` (R435). -/
  | modeReq (q : Queue)
  /-- `WARM_RESTART` (R376). -/
  | warmRestart (q : Queue)
  /-- `EPOCH_ADVANCE` (R455). -/
  | epochAdvance (q : Queue)
  /-- `TWIN_RELINQUISH` (R452). -/
  | twinRelinquish (q : Queue)
  /-- `EVENT_INSERT` (R363). -/
  | eventInsert (q : Queue)
  /-- `EVENT_CANCEL` (R363). -/
  | eventCancel (q : Queue)
  /-- `HEAD_CTRL` (R363). -/
  | headCtrl (q : Queue)
  /-- `APP_CTRL` (R363). -/
  | appCtrl (q : Queue)
  /-- `APP_LOAD` (R415). -/
  | appLoad (q : Queue)
  /-- `KERNEL_LOAD` (R363). -/
  | kernelLoad (q : Queue)
  /-- `VE_CANCEL` (R363). -/
  | veCancel (q : Queue)
  /-- `TRACK_DECIDE` (R363). -/
  | trackDecide (q : Queue)
  /-- `COIL_MARK` (R391). -/
  | coilMark (q : Queue)
  /-- `ARCH_READ` (R398): `bad` is where an unreadable NAND block starts in the part, and the number of the block. -/
  | archRead (q : Queue) (bad : Option (Nat × Nat))
  /-- `ARCH_INFO` (R363). -/
  | archInfo (q : Queue)
  /-- `FLASH_PROGRAM` (R389). -/
  | flashProgram (q : Queue)
  /-- `AUTH_REF` (R370). -/
  | authRef (q : Queue)
  /-- `ATTEST` (R419). -/
  | attest (q : Queue)
  /-- `ATTEST_SIGN_DONE` (R419). -/
  | attestSignDone (done : Bool)
  /-- `ARCHIVE_DURABLE` (R393). -/
  | archiveDurable
  /-- `AR_THERMAL_CHANGE` (R395). -/
  | arThermalChange (t : Nat)
  /-- `PWRFAIL_FALL` (R397). -/
  | pwrfailFall
  /-- `PF_SEAL_DONE` (R397). -/
  | pfSealDone
  /-- `PWRFAIL_REARM` (R397). -/
  | pwrfailRearm
  /-- `DM_SCRUB_READ` (R385): in the reserved range, the loss that the block shows, if any. -/
  | dmScrubRead (loss : Option ReservedLoss)
  /-- `DM_TEMP` (R400). -/
  | dmTemp (t : Nat)
  /-- `CF_ERASE` (R387). -/
  | cfErase (m : Master)
  /-- `CF_PROGRAM` (R387). -/
  | cfProgram (m : Master)
  /-- `CF_OP_COMPLETE` (R387): whether the read-back agrees. -/
  | cfOpComplete (ok : Bool)
  /-- `SG_LC_ADVANCE` (R403). -/
  | sgLcAdvance (m : Master) (v : Word)
  /-- `SG_SVN_COMMIT` (R413). -/
  | sgSvnCommit (m : Master) (v : Word)
  /-- `SG_FUSE_PROGRAM` (R405). -/
  | sgFuseProgram (m : Master)
  /-- `FUSE_PROGRAM_DONE` (R405): whether the bits verify. -/
  | fuseProgramDone (ok : Bool)
  /-- `SG_PUF_ENROLL` (R418). -/
  | sgPufEnroll (m : Master)
  /-- `PUF_ENROLL_DONE` (R418). -/
  | pufEnrollDone
  /-- `SG_VER_CHECK` (R408). -/
  | sgVerCheck (m : Master)
  /-- `SG_VER_DONE` (R408). -/
  | sgVerDone
  /-- `SG_DBG_GO` (R426). -/
  | sgDbgGo (m : Master) (v : Word)
  /-- `DBG_AUTH_DONE` (R427). -/
  | dbgAuthDone
  /-- `SG_DBG_END` (R426). -/
  | sgDbgEnd (m : Master)
  /-- `TAMPER_SWITCH` (R422). -/
  | tamperSwitch (n : Fin 4)
  /-- `TAMPER_MESH_FAIL` (R422). -/
  | tamperMeshFail (p : Fin 2)
  /-- `PACKAGE_MESH_TRIP` (R422). -/
  | packageMeshTrip
  /-- `LIGHT_SENSOR_TRIP` (R422). -/
  | lightSensorTrip
  /-- `SUPPLY_MONITOR_TRIP` (R422). -/
  | supplyMonitorTrip
  /-- `CLOCK_MONITOR_TRIP` (R422). -/
  | clockMonitorTrip
  /-- `TEMPERATURE_TRIP` (R422). -/
  | temperatureTrip (t : Int)
  /-- `JTAG_EXTEST` (R428). -/
  | jtagExtest
  /-- `JTAG_CLAMP` (R428). -/
  | jtagClamp
  /-- `DBG_HALT` (R203). -/
  | dbgHalt (m : Master)
  /-- `DBG_RESUME` (R203). -/
  | dbgResume (m : Master)
  /-- `DBG_STEP` (R203). -/
  | dbgStep (m : Master)
  /-- `DBG_REG_ACCESS` (R204). -/
  | dbgRegAccess (m : Master) (v db dc : Word)
  /-- `DBG_MEM_GO` (R464). -/
  | dbgMemGo (m : Master) (v : Word)
  /-- `PM_CTRL_WARM` (R439). -/
  | pmCtrlWarm (m : Master)
  /-- `PM_CTRL_WARM_ACTIVATE` (R390). -/
  | pmCtrlWarmActivate (m : Master)
  /-- `TW_FIRE_RECEIVE` (R448). -/
  | twFireReceive (n : Lane)
  /-- `TW_FIRE_LOST` (R448). -/
  | twFireLost
  /-- `TW_PLACE_RECEIVE` (R448). -/
  | twPlaceReceive (n : Lane)
  /-- `TW_PLACE_LATE` (R448). -/
  | twPlaceLate
  /-- `TW_CMD_RECEIVE` (R449). -/
  | twCmdReceive (n : Lane)
  /-- `TW_DIGEST_FINALISE` (R450). -/
  | twDigestFinalise
  /-- `TW_DIGEST_RECEIVE` (R451). -/
  | twDigestReceive (n : Lane)
  /-- `TW_DIGEST_MISSING` (R451). -/
  | twDigestMissing
  /-- `TW_HELLO` (R444): what the exchange shows of the peer: whether it is LEADER, and its PRIMARY. -/
  | twHello (n : Lane) (leader primary : Bool)
  /-- `TW_JOIN_ACK` (R453). -/
  | twJoinAck (n : Lane)
  /-- `TW_XFER_RECEIVE` (R453). -/
  | twXferReceive (n : Lane)
  /-- `TW_XFER_DONE` (R453): with the leader's mode. -/
  | twXferDone (n : Lane) (mode : Fin 8)
  /-- `TW_RELINQUISH` (R452). -/
  | twRelinquish (n : Lane)
  /-- `TW_CMD_ACK` (R449). -/
  | twCmdAck (n : Lane)
  /-- `TW_LEAVE` (R454). -/
  | twLeave (n : Lane)
  /-- `TW_JOIN_FAIL` (R453). -/
  | twJoinFail (why : JoinFail)
  /-- `TW_JOIN_RETRY` (R453). -/
  | twJoinRetry
  /-- `REGISTER_WRITE` (R12). -/
  | registerWrite (off : Nat) (m : Master) (v : Word)
  /-- `ADD` (R242). -/
  | add (g : Group) (rd ra rb : GReg)
  /-- `SUB` (R242). -/
  | sub (g : Group) (rd ra rb : GReg)
  /-- `AND` (R242). -/
  | and (g : Group) (rd ra rb : GReg)
  /-- `OR` (R242). -/
  | or (g : Group) (rd ra rb : GReg)
  /-- `XOR` (R242). -/
  | xor (g : Group) (rd ra rb : GReg)
  /-- `NOR` (R242). -/
  | nor (g : Group) (rd ra rb : GReg)
  /-- `SLT` (R242). -/
  | slt (g : Group) (rd ra rb : GReg)
  /-- `SLTU` (R242). -/
  | sltu (g : Group) (rd ra rb : GReg)
  /-- `SLL` (R242). -/
  | sll (g : Group) (rd ra rb : GReg)
  /-- `SRL` (R242). -/
  | srl (g : Group) (rd ra rb : GReg)
  /-- `SRA` (R242). -/
  | sra (g : Group) (rd ra rb : GReg)
  /-- `SLLI` (R242). -/
  | slli (g : Group) (rd ra : GReg) (sh : BitVec 5)
  /-- `SRLI` (R242). -/
  | srli (g : Group) (rd ra : GReg) (sh : BitVec 5)
  /-- `SRAI` (R242). -/
  | srai (g : Group) (rd ra : GReg) (sh : BitVec 5)
  /-- `MIN` (R242). -/
  | min (g : Group) (rd ra rb : GReg)
  /-- `MAX` (R242). -/
  | max (g : Group) (rd ra rb : GReg)
  /-- `MINU` (R242). -/
  | minu (g : Group) (rd ra rb : GReg)
  /-- `MAXU` (R242). -/
  | maxu (g : Group) (rd ra rb : GReg)
  /-- `ADDS` (R242). -/
  | adds (g : Group) (rd ra rb : GReg)
  /-- `SUBS` (R242). -/
  | subs (g : Group) (rd ra rb : GReg)
  /-- `EXTU` (R242). -/
  | extu (g : Group) (rd ra : GReg) (w sh : BitVec 5)
  /-- `EXTS` (R242). -/
  | exts (g : Group) (rd ra : GReg) (w sh : BitVec 5)
  /-- `INS` (R242). -/
  | ins (g : Group) (rd ra : GReg) (w sh : BitVec 5)
  /-- `CLZ` (R242). -/
  | clz (g : Group) (rd ra : GReg)
  /-- `CTZ` (R242). -/
  | ctz (g : Group) (rd ra : GReg)
  /-- `POPC` (R242). -/
  | popc (g : Group) (rd ra : GReg)
  /-- `BSWAP` (R242). -/
  | bswap (g : Group) (rd ra : GReg)
  /-- `ADDI` (R243). -/
  | addi (g : Group) (rd ra : GReg) (imm : BitVec 16)
  /-- `SLTI` (R243). -/
  | slti (g : Group) (rd ra : GReg) (imm : BitVec 16)
  /-- `SLTIU` (R243). -/
  | sltiu (g : Group) (rd ra : GReg) (imm : BitVec 16)
  /-- `ANDI` (R243). -/
  | andi (g : Group) (rd ra : GReg) (imm : BitVec 16)
  /-- `ORI` (R243). -/
  | ori (g : Group) (rd ra : GReg) (imm : BitVec 16)
  /-- `XORI` (R243). -/
  | xori (g : Group) (rd ra : GReg) (imm : BitVec 16)
  /-- `LUI` (R243). -/
  | lui (g : Group) (rd : GReg) (imm : BitVec 16)
  /-- `MUL` (R244). -/
  | mul (g : Group) (rd ra rb : GReg)
  /-- `MULH` (R244). -/
  | mulh (g : Group) (rd ra rb : GReg)
  /-- `MULHU` (R244). -/
  | mulhu (g : Group) (rd ra rb : GReg)
  /-- `MULHSU` (R244). -/
  | mulhsu (g : Group) (rd ra rb : GReg)
  /-- `MULQ` (R244). -/
  | mulq (g : Group) (rd ra rb : GReg)
  /-- `MACQ` (R244). -/
  | macq (g : Group) (rd ra rb : GReg)
  /-- `DIV` (R245). -/
  | div (g : Group) (rd ra rb : GReg)
  /-- `DIVU` (R245). -/
  | divu (g : Group) (rd ra rb : GReg)
  /-- `REM` (R245). -/
  | rem (g : Group) (rd ra rb : GReg)
  /-- `REMU` (R245). -/
  | remu (g : Group) (rd ra rb : GReg)
  /-- `ASWAP` (R249). -/
  | aswap (g : Group) (rd ra rb : GReg)
  /-- `AADD` (R249). -/
  | aadd (g : Group) (rd ra rb : GReg)
  /-- `AAND` (R249). -/
  | aand (g : Group) (rd ra rb : GReg)
  /-- `AOR` (R249). -/
  | aor (g : Group) (rd ra rb : GReg)
  /-- `AXOR` (R249). -/
  | axor (g : Group) (rd ra rb : GReg)
  /-- `AMIN` (R249). -/
  | amin (g : Group) (rd ra rb : GReg)
  /-- `AMAX` (R249). -/
  | amax (g : Group) (rd ra rb : GReg)
  /-- `AMINU` (R249). -/
  | aminu (g : Group) (rd ra rb : GReg)
  /-- `AMAXU` (R249). -/
  | amaxu (g : Group) (rd ra rb : GReg)
  /-- `ACAS` (R249). -/
  | acas (g : Group) (rd ra rb : GReg)
  /-- `LDB` (R246). -/
  | ldb (g : Group) (rd ra : GReg) (imm : BitVec 16)
  /-- `LDH` (R246). -/
  | ldh (g : Group) (rd ra : GReg) (imm : BitVec 16)
  /-- `LDW` (R246). -/
  | ldw (g : Group) (rd ra : GReg) (imm : BitVec 16)
  /-- `LDD` (R246). -/
  | ldd (g : Group) (rd ra : GReg) (imm : BitVec 16)
  /-- `LDBU` (R246). -/
  | ldbu (g : Group) (rd ra : GReg) (imm : BitVec 16)
  /-- `LDHU` (R246). -/
  | ldhu (g : Group) (rd ra : GReg) (imm : BitVec 16)
  /-- `STB` (R246). -/
  | stb (g : Group) (rs ra : GReg) (imm : BitVec 16)
  /-- `STH` (R246). -/
  | sth (g : Group) (rs ra : GReg) (imm : BitVec 16)
  /-- `STW` (R246). -/
  | stw (g : Group) (rs ra : GReg) (imm : BitVec 16)
  /-- `STD` (R246). -/
  | std (g : Group) (rs ra : GReg) (imm : BitVec 16)
  /-- `BEQ` (R251). -/
  | beq (g : Group) (an : Bool) (ra rb : GReg) (off : BitVec 15)
  /-- `BNE` (R251). -/
  | bne (g : Group) (an : Bool) (ra rb : GReg) (off : BitVec 15)
  /-- `BLT` (R251). -/
  | blt (g : Group) (an : Bool) (ra rb : GReg) (off : BitVec 15)
  /-- `BGE` (R251). -/
  | bge (g : Group) (an : Bool) (ra rb : GReg) (off : BitVec 15)
  /-- `BLTU` (R251). -/
  | bltu (g : Group) (an : Bool) (ra rb : GReg) (off : BitVec 15)
  /-- `BGEU` (R251). -/
  | bgeu (g : Group) (an : Bool) (ra rb : GReg) (off : BitVec 15)
  /-- `J` (R251). -/
  | j (g : Group) (off : BitVec 25)
  /-- `JAL` (R251). -/
  | jal (g : Group) (off : BitVec 25)
  /-- `JALR` (R251). -/
  | jalr (g : Group) (rd ra : GReg) (off : BitVec 15)
  /-- `LOOP` (R254). -/
  | loop (g : Group) (c : LoopCount) (end_ : BitVec 13)
  /-- `MFS` (R256). -/
  | mfs (g : Group) (rd : GReg) (sr : BitVec 5)
  /-- `MTS` (R256). -/
  | mts (g : Group) (sr : BitVec 5) (ra : GReg)
  /-- `WAIT` (R257). -/
  | wait (g : Group)
  /-- `TRAP` (R256). -/
  | trap (g : Group) (n : BitVec 10)
  /-- `RFE` (R274). -/
  | rfe (g : Group)
  /-- `IFLUSH` (R226). -/
  | iflush (g : Group)
  /-- `PFLUSH` (R221). -/
  | pflush (g : Group)
  /-- `PBAR` (R222). -/
  | pbar (g : Group)
  /-- `FENCE` (R248). -/
  | fence (g : Group)
  /-- `LINK_UP` (R377). -/
  | linkUp
  /-- `LINK_POWER_STATE_CHANGE` (R373). -/
  | linkPowerStateChange (lpm : Fin 8)
  /-- `MSIX_VECTOR_UNMASK` (R372). -/
  | msixVectorUnmask (f : Fin 2) (vec : Byte)
  /-- `BUS_MASTER_ENABLE` (R374). -/
  | busMasterEnable (f : Fin 2) (b : BmeBit)
  /-- `IMAGE_CHECK_DONE` (R420). -/
  | imageCheckDone
  /-- `TW_XFER_SEND` (R453). -/
  | twXferSend
  /-- `PWRFAIL_RETURN_HIGH` (R397). -/
  | pwrfailReturnHigh
  deriving DecidableEq, Repr

end Sys2Proof
end

