-- ==== Sys2Proof/Config.lean ====
section
/-! DEFINITION. What one device fixes and the spec leaves open: the free values, each a constant without a body. A free
value that differs from use to use is drawn by a counter of the state. -/

namespace Sys2Proof.Config

/-- The rate of SOSC against KCLK (R6, ±5 %), drawn once per KCLK from a counter of the state: only its remainder
modulo 101 counts (notes/assumptions/2.md). (DESIGN CHOICE, notes/assumptions/2.md) -/
opaque soscRate : Nat → Nat

/-- The slot that the n-th insertion takes, among the free ones (R154): only its remainder counts.
(DESIGN CHOICE, notes/assumptions/60.md) -/
opaque wheelSlot : Nat → Nat

/-- The data that a slot of the wheel store holds, and the event that raw-written data describes: the spec gives no
layout of a slot (R299, R310). Indexed by draw and field. (DESIGN CHOICE, notes/assumptions/60.md) -/
opaque wheelRaw : Nat → Nat → Nat

/-- A random number of the sagger (R90, R426), by draw: only its low 256 bits count.
(DESIGN CHOICE, notes/assumptions/10.md) -/
opaque random : Nat → Nat

/-- SHA3-512, which the spec names and does not define: 64 bytes as a little-endian number.
(DESIGN CHOICE, notes/assumptions/9.md) -/
opaque sha3 : Bytes → Nat

/-- Whether a signature by a public key over a message is a valid ML-DSA-87 signature, which the spec names and does not
define: key, message, signature. (DESIGN CHOICE, notes/assumptions/9.md) -/
opaque mldsaVerify : Bytes → Bytes → Bytes → Bool

/-- The device's own fields of a VER message that the spec does not fix (R86): SERIAL, VENDOR_ID, MODEL, CAPS and the
two maxima, as the number that bytes 12 to 37 spell. (DESIGN CHOICE, notes/assumptions/10.md) -/
opaque verFields : Nat

/-- The STATE byte of a heartbeat that the device sends (R82), by draw: the spec does not say when its bits are set.
(DESIGN CHOICE, notes/assumptions/10.md; DESIGN CHOICE, notes/assumptions/30.md) -/
opaque hbState : Nat → Nat

/-- What the device's answer to a twin's SYNC says that the spec does not fix for it (R62, R94), by draw: T2F in its low
8 bits, STATUS.LOCKED in the next. (DESIGN CHOICE, notes/assumptions/123.md) -/
opaque syncReply : Nat → Nat

/-- What programming adds to the bytes of a segment by write amplification (R396), by draw.
(DESIGN CHOICE, notes/assumptions/129.md) -/
opaque writeAmp : Nat → Nat

/-- How long an application of a batch takes, by draw: R106 gives only a bound.
(DESIGN CHOICE, notes/assumptions/42.md) -/
opaque applyTime : Nat → Nat

/-- The output of a kernel whose arithmetic the spec does not give in full (R129, R134, R147), as the number that its
bytes spell: a function of the kernel or its slot image, the descriptor's image fields and parameters, the input and the
second input, and of nothing else (R129). (DESIGN CHOICE, notes/assumptions/51.md) -/
opaque kernelOut : Bytes → Bytes → Bytes → Bytes → Nat

/-- The 12-byte RESULT of such a kernel, and what the spec leaves open in the RESULT of another: which of equal values
counts, and what stands where there is none. (DESIGN CHOICE, notes/assumptions/51.md) -/
opaque kernelResult : Bytes → Bytes → Bytes → Bytes → Nat

/-- How CONV reads its operands, for which the spec gives no layout (R134): the value of a pixel by format and pixel; a
weight and a bias by the second input, filter and tap. (DESIGN CHOICE, notes/assumptions/51.md) -/
opaque convPixel : Nat → Nat → Int
opaque convWeight : Bytes → Nat → Nat → Nat → Nat → Int
opaque convBias : Bytes → Nat → Nat → Nat → Int

/-- What a 32-bit accumulator holds for a sum outside its range (R129). (DESIGN CHOICE, notes/assumptions/51.md) -/
opaque accOverflow : Int → Int

/-- A pixel of MORPH whose window leaves the image, and the channel of format 2 that is not selected (R134): by the image
fields and parameters, the input, the pass and the pixel. (DESIGN CHOICE, notes/assumptions/51.md) -/
opaque edgePixel : Bytes → Bytes → Nat → Nat → Nat

/-- The bin of HIST for a value above 255 (R134), by value. (DESIGN CHOICE, notes/assumptions/51.md) -/
opaque histBin : Nat → Nat

/-- The working data of a job, bytes: R132 limits it, and the spec gives no number for it. By the slot image and the
descriptor. (DESIGN CHOICE, notes/assumptions/51.md) -/
opaque workingSet : Bytes → Bytes → Nat

/-- What a model slot, whose layout the spec does not give (R147), holds for the job with a descriptor: the
multiplications, inputs and outputs of each layer of an NNET model; the trees, their depth and the classes of a FOREST
model. (DESIGN CHOICE, notes/assumptions/53.md) -/
opaque netLayers : Bytes → Bytes → List (Nat × Nat × Nat)
opaque forestTrees : Bytes → Nat
opaque forestDepth : Bytes → Nat
opaque forestClasses : Bytes → Nat

/-- RESAMPLE, whose sample points the spec does not give (R134): the source pixel that NEAREST takes for an output
pixel, by the image fields and parameters, and what BILINEAR makes of an input.
(DESIGN CHOICE, notes/assumptions/51.md) -/
opaque nearestIx : Bytes → Nat → Nat
opaque bilinear : Bytes → Bytes → Nat → Nat

/-- How long a tile ran in a firing, by draw: the spec bounds it by the cost placed (R133, R142).
(DESIGN CHOICE, notes/assumptions/129.md) -/
opaque tileBusy : Nat → Nat

/-- Minimum and maximum that STATS reports when its mask includes no pixel (R134): the spec states none.
(DESIGN CHOICE, notes/assumptions/51.md) -/
opaque statsEmpty : Nat

/-- What a flash sector or line holds after an operation that did not end well, by draw and byte (R387, R399).
(DESIGN CHOICE, notes/assumptions/103.md) -/
opaque flashTorn : Nat → Nat → Byte

/-- Which bits of a fuse word a program that did not verify has blown, by draw (R405).
(DESIGN CHOICE, notes/assumptions/103.md) -/
opaque fuseTorn : Nat → Word

/-- The levels of the TAMP inputs, which no command carries (R432). (DESIGN CHOICE, notes/assumptions/88.md) -/
opaque tampLevels : Nat → Nat

/-- How long a core load through the HBM window took, by draw: R383 bounds it.
(DESIGN CHOICE, notes/assumptions/129.md) -/
opaque hbmLatency : Nat → Nat

/-- The PUF's seed-derived identity public key, as the number that its bytes spell, and the helper data of an enrolment,
by draw: the spec does not give the derivation (R416, R418). (DESIGN CHOICE, notes/assumptions/9.md) -/
opaque identityKey : Bytes → Nat
opaque pufHelper : Nat → Nat

/-- A signature by the identity key over a message, as the number that its bytes spell (R419).
(DESIGN CHOICE, notes/assumptions/9.md) -/
opaque sign : Nat → Bytes → Nat

/-- FCLK from the FCU's receipt of an occurrence to the feedback of the latches, by draw: R336 bounds it.
(DESIGN CHOICE, notes/assumptions/129.md) -/
opaque sscLatency : Nat → Nat

/-- Which channel's readback an intrusive test found wrong first, where both were, by draw (R337).
(DESIGN CHOICE, notes/assumptions/129.md) -/
opaque firstWrong : Nat → Bool

/-- The direction of a pulse that an either-direction event on its target starts without a crossing (R165), and which end
of two pulses in different measures counts as the later (R166), by draw. (DESIGN CHOICE, notes/assumptions/62.md) -/
opaque openUp : Nat → Bool

/-- How many events that the order of instructions and accesses does not fix, but their timing, a counter has counted
since it was last read (R227, R230, R301, R303): by draw and register. (DESIGN CHOICE, notes/assumptions/129.md) -/
opaque timingCount : Nat → Nat → Nat

/-- What the wrong path of a misprediction allocates in the BTB (R217, R223), by draw: branch PC, target and kind.
(DESIGN CHOICE, notes/assumptions/129.md) -/
opaque wrongPath : Nat → List (Word × Word × Nat)

/-- `MPU_STAT.ERR_REGION` after a lattice error in `MPU_CTRL`, by draw: it is no region's (R315).
(DESIGN CHOICE, notes/assumptions/129.md) -/
opaque ctrlRegion : Nat → Nat

/-- The contents of the boot ROM, which the spec does not give (R459), by offset.
(DESIGN CHOICE, notes/assumptions/129.md) -/
opaque bootRom : Nat → Byte

/-- The vendor ID that Nilopel fuses (R353, R404). (DESIGN CHOICE, notes/assumptions/10.md) -/
opaque vendorId : Word

/-- The subsystem vendor ID and, above it, the subsystem ID that Nilopel fuses (R353, R404). -/
opaque subsystem : Word

/-- Whether a lost block of the archive's write buffer held a record, by draw, coil and place in the open segment (R384).
(DESIGN CHOICE, notes/assumptions/129.md) -/
opaque bufferLoss : Nat → Nat → Nat → Bool

/-- The rate and the width that the PCI Express link trains to, by draw (R352). (PRESUMED, notes/assumptions/101.md) -/
opaque linkTrain : Nat → Nat

/-- What the boot ROM's comparator test routine commits in an injected slot (R202), by draw: in bit 0 whether it writes a
register, above it the PC. (DESIGN CHOICE, notes/assumptions/129.md) -/
opaque testSlot : Nat → Nat

end Sys2Proof.Config
end

