-- ==== Sys2Proof/Machine/FaultTable.lean ====
section
/-! DEFINITION. The fault table (R333): the fault IDs by name, and for every implemented fault its default and its
minimum reaction class (R329), as the fault tables of the chapters give them. -/

namespace Sys2Proof.Machine

/-- Fault LS_EJECT. -/
def F_LS_EJECT : Nat := 0x000
/-- Fault LS_RETIRE. -/
def F_LS_RETIRE : Nat := 0x001
/-- Fault LS_MISMATCH_APP. -/
def F_LS_MISMATCH_APP : Nat := 0x002
/-- Fault LS_MISMATCH_KW. -/
def F_LS_MISMATCH_KW : Nat := 0x003
/-- Fault LS_READMIT_FAIL. -/
def F_LS_READMIT_FAIL : Nat := 0x004
/-- Fault LS_CMP_STEST. -/
def F_LS_CMP_STEST : Nat := 0x005
/-- Fault LS_INJECT. -/
def F_LS_INJECT : Nat := 0x006
/-- Fault LS_PWR_FAIL. -/
def F_LS_PWR_FAIL : Nat := 0x007
/-- Fault LAT_UNC_SSP. -/
def F_LAT_UNC_SSP : Nat := 0x020
/-- Fault LAT_UNC_GRP. -/
def F_LAT_UNC_GRP : Nat := 0x021
/-- Fault LAT_UNC_TRACK. -/
def F_LAT_UNC_TRACK : Nat := 0x022
/-- Fault LAT_UNC_POOL. -/
def F_LAT_UNC_POOL : Nat := 0x023
/-- Fault LAT_UNC_RET. -/
def F_LAT_UNC_RET : Nat := 0x024
/-- Fault LAT_CORR_RATE. -/
def F_LAT_CORR_RATE : Nat := 0x025
/-- Fault SCRUB_STALL. -/
def F_SCRUB_STALL : Nat := 0x026
/-- Fault MPU_CFG_ERR_APP. -/
def F_MPU_CFG_ERR_APP : Nat := 0x027
/-- Fault MPU_CFG_ERR_KW. -/
def F_MPU_CFG_ERR_KW : Nat := 0x028
/-- Fault FW_CFG_ERR. -/
def F_FW_CFG_ERR : Nat := 0x029
/-- Fault FW_DENY. -/
def F_FW_DENY : Nat := 0x02A
/-- Fault FW_DBG_DENY. -/
def F_FW_DBG_DENY : Nat := 0x02B
/-- Fault LAT_RAW_WRITE. -/
def F_LAT_RAW_WRITE : Nat := 0x02C
/-- Fault TSB_FAULT_APP. -/
def F_TSB_FAULT_APP : Nat := 0x03C
/-- Fault TSB_OVF_APP. -/
def F_TSB_OVF_APP : Nat := 0x03D
/-- Fault TSB_FAULT_KW. -/
def F_TSB_FAULT_KW : Nat := 0x03E
/-- Fault TSB_OVF_KW. -/
def F_TSB_OVF_KW : Nat := 0x03F
/-- Faults ENC_FAULT[n]. -/
def F_ENC_FAULT (n : Nat) : Nat := 0x040 + n
/-- Faults DOM_DISAGREE[n]. -/
def F_DOM_DISAGREE (n : Nat) : Nat := 0x048 + n
/-- Faults DOM_PRI_LOST[n]. -/
def F_DOM_PRI_LOST (n : Nat) : Nat := 0x04C + n
/-- Faults DOM_FAILOVER[n]. -/
def F_DOM_FAILOVER (n : Nat) : Nat := 0x050 + n
/-- Faults DOM_CHK_LOST[n]. -/
def F_DOM_CHK_LOST (n : Nat) : Nat := 0x054 + n
/-- Fault ENC_INDEX. -/
def F_ENC_INDEX : Nat := 0x058
/-- Fault FIRING_OVERSPEED. -/
def F_FIRING_OVERSPEED : Nat := 0x059
/-- Fault COMMIT_OVERRUN. -/
def F_COMMIT_OVERRUN : Nat := 0x05A
/-- Fault TB_SRC_LOST. -/
def F_TB_SRC_LOST : Nat := 0x05B
/-- Fault EW_FULL. -/
def F_EW_FULL : Nat := 0x060
/-- Fault EW_QUOTA. -/
def F_EW_QUOTA : Nat := 0x061
/-- Fault EW_LATE_ARM. -/
def F_EW_LATE_ARM : Nat := 0x062
/-- Fault EW_PAST_DUE. -/
def F_EW_PAST_DUE : Nat := 0x063
/-- Fault EW_NEAR_FULL. -/
def F_EW_NEAR_FULL : Nat := 0x064
/-- Fault PEO_RB_SAFETY. -/
def F_PEO_RB_SAFETY : Nat := 0x065
/-- Fault PEO_RB_MISMATCH. -/
def F_PEO_RB_MISMATCH : Nat := 0x066
/-- Fault PEO_PULSE_MAX. -/
def F_PEO_PULSE_MAX : Nat := 0x067
/-- Fault SAFE_STOP_FB. -/
def F_SAFE_STOP_FB : Nat := 0x068
/-- Fault EW_LOG_OVF. -/
def F_EW_LOG_OVF : Nat := 0x069
/-- Fault EW_STORE_ERR. -/
def F_EW_STORE_ERR : Nat := 0x06A
/-- Fault HL_HEAD_LOST. -/
def F_HL_HEAD_LOST : Nat := 0x080
/-- Fault HEAD_GAP. -/
def F_HEAD_GAP : Nat := 0x081
/-- Fault HL_SYNC_LOSS. -/
def F_HL_SYNC_LOSS : Nat := 0x082
/-- Fault HL_VER_FAIL. -/
def F_HL_VER_FAIL : Nat := 0x083
/-- Fault HL_ID_FAIL. -/
def F_HL_ID_FAIL : Nat := 0x084
/-- Fault HL_SEQ_GAP. -/
def F_HL_SEQ_GAP : Nat := 0x085
/-- Fault HL_CAP_MISS. -/
def F_HL_CAP_MISS : Nat := 0x086
/-- Fault HL_TRIG_SKIP. -/
def F_HL_TRIG_SKIP : Nat := 0x087
/-- Fault HL_TRIG_OVF. -/
def F_HL_TRIG_OVF : Nat := 0x088
/-- Fault HL_CREDIT_VIOL. -/
def F_HL_CREDIT_VIOL : Nat := 0x089
/-- Fault HL_CROP_DROP. -/
def F_HL_CROP_DROP : Nat := 0x08A
/-- Fault HL_FEC_RATE. -/
def F_HL_FEC_RATE : Nat := 0x08B
/-- Fault HL_PEER_DOWN. -/
def F_HL_PEER_DOWN : Nat := 0x08C
/-- Fault TE_LAG. -/
def F_TE_LAG : Nat := 0x0C0
/-- Fault TE_BACKLOG. -/
def F_TE_BACKLOG : Nat := 0x0C1
/-- Fault TE_STORE_FULL. -/
def F_TE_STORE_FULL : Nat := 0x0C2
/-- Fault TE_STORE_LOW. -/
def F_TE_STORE_LOW : Nat := 0x0C3
/-- Fault TE_POOL_FULL. -/
def F_TE_POOL_FULL : Nat := 0x0C4
/-- Fault TE_CQ_OVF. -/
def F_TE_CQ_OVF : Nat := 0x0C5
/-- Fault TE_LATE_REC. -/
def F_TE_LATE_REC : Nat := 0x0C6
/-- Fault TE_POS_FAIL. -/
def F_TE_POS_FAIL : Nat := 0x0C7
/-- Fault TE_BATCH_TRUNC. -/
def F_TE_BATCH_TRUNC : Nat := 0x0C8
/-- Fault TE_DEC_OVF. -/
def F_TE_DEC_OVF : Nat := 0x0C9
/-- Fault TE_ARCH_STALL. -/
def F_TE_ARCH_STALL : Nat := 0x0CA
/-- Fault VE_OVERRUN. -/
def F_VE_OVERRUN : Nat := 0x0E0
/-- Fault VE_DEADLINE. -/
def F_VE_DEADLINE : Nat := 0x0E1
/-- Fault VE_TILE_FAULT. -/
def F_VE_TILE_FAULT : Nat := 0x0E2
/-- Fault VE_MEM_ERR. -/
def F_VE_MEM_ERR : Nat := 0x0E3
/-- Fault VE_QUARANTINE. -/
def F_VE_QUARANTINE : Nat := 0x0E4
/-- Fault VE_KLOAD_FAIL. -/
def F_VE_KLOAD_FAIL : Nat := 0x0E5
/-- Fault VE_POOL_FULL. -/
def F_VE_POOL_FULL : Nat := 0x0E6
/-- Fault VE_RQ_FULL. -/
def F_VE_RQ_FULL : Nat := 0x0E7
/-- Fault VE_REJECT. -/
def F_VE_REJECT : Nat := 0x0E8
/-- Fault VE_WINDOW. -/
def F_VE_WINDOW : Nat := 0x0E9
/-- Fault WD_WARN. -/
def F_WD_WARN : Nat := 0x100
/-- Fault WD_LATE. -/
def F_WD_LATE : Nat := 0x101
/-- Fault WD_EXPIRE_APP. -/
def F_WD_EXPIRE_APP : Nat := 0x102
/-- Fault WD_EXPIRE_KW. -/
def F_WD_EXPIRE_KW : Nat := 0x103
/-- Fault WD_INVALID. -/
def F_WD_INVALID : Nat := 0x104
/-- Fault WD_FREEZE_CAP. -/
def F_WD_FREEZE_CAP : Nat := 0x105
/-- Fault CONE_OVER. -/
def F_CONE_OVER : Nat := 0x106
/-- Fault CONE_UNDER. -/
def F_CONE_UNDER : Nat := 0x107
/-- Fault FCU_SELF. -/
def F_FCU_SELF : Nat := 0x108
/-- Fault SSC_DISAGREE. -/
def F_SSC_DISAGREE : Nat := 0x109
/-- Fault SSC_TEST_FAIL. -/
def F_SSC_TEST_FAIL : Nat := 0x10A
/-- Fault WD_TIMEBASE. -/
def F_WD_TIMEBASE : Nat := 0x10B
/-- Fault FCU_INJECT. -/
def F_FCU_INJECT : Nat := 0x10C
/-- Fault HI_LINK_DOWN. -/
def F_HI_LINK_DOWN : Nat := 0x120
/-- Fault HI_FLR. -/
def F_HI_FLR : Nat := 0x121
/-- Fault HI_HOST_LOST. -/
def F_HI_HOST_LOST : Nat := 0x122
/-- Fault HI_DMA_ERR. -/
def F_HI_DMA_ERR : Nat := 0x123
/-- Fault HI_DOORBELL. -/
def F_HI_DOORBELL : Nat := 0x124
/-- Fault HI_BAR2_DENY. -/
def F_HI_BAR2_DENY : Nat := 0x125
/-- Fault HI_MIRROR_WREJ. -/
def F_HI_MIRROR_WREJ : Nat := 0x126
/-- Fault HI_AUTH_FAIL. -/
def F_HI_AUTH_FAIL : Nat := 0x127
/-- Fault HI_PCIE_UNCORR. -/
def F_HI_PCIE_UNCORR : Nat := 0x128
/-- Fault DM_UNC. -/
def F_DM_UNC : Nat := 0x140
/-- Fault DM_UNC_RSV. -/
def F_DM_UNC_RSV : Nat := 0x141
/-- Fault DM_CORR_RATE. -/
def F_DM_CORR_RATE : Nat := 0x142
/-- Fault DM_INIT. -/
def F_DM_INIT : Nat := 0x143
/-- Fault DM_TEMP. -/
def F_DM_TEMP : Nat := 0x144
/-- Fault CF_PROG_FAIL. -/
def F_CF_PROG_FAIL : Nat := 0x148
/-- Fault CF_UNC. -/
def F_CF_UNC : Nat := 0x149
/-- Fault CF_ROLLBACK. -/
def F_CF_ROLLBACK : Nat := 0x14A
/-- Fault AR_PWRFAIL. -/
def F_AR_PWRFAIL : Nat := 0x150
/-- Fault AR_PF_INCOMPLETE. -/
def F_AR_PF_INCOMPLETE : Nat := 0x151
/-- Fault AR_FULL. -/
def F_AR_FULL : Nat := 0x152
/-- Fault AR_THERMAL. -/
def F_AR_THERMAL : Nat := 0x153
/-- Fault AR_WEAR. -/
def F_AR_WEAR : Nat := 0x154
/-- Fault AR_MEDIA. -/
def F_AR_MEDIA : Nat := 0x155
/-- Fault SG_IMAGE_REJ. -/
def F_SG_IMAGE_REJ : Nat := 0x160
/-- Fault SG_KEY_MISMATCH. -/
def F_SG_KEY_MISMATCH : Nat := 0x161
/-- Fault SG_PUF_FAIL. -/
def F_SG_PUF_FAIL : Nat := 0x162
/-- Fault SG_NV_ERR. -/
def F_SG_NV_ERR : Nat := 0x163
/-- Fault SG_ALARM_A. -/
def F_SG_ALARM_A : Nat := 0x164
/-- Fault SG_ALARM_B. -/
def F_SG_ALARM_B : Nat := 0x165
/-- Fault SG_DBG_AUTH_FAIL. -/
def F_SG_DBG_AUTH_FAIL : Nat := 0x166
/-- Fault SG_DBG_SESSION. -/
def F_SG_DBG_SESSION : Nat := 0x167
/-- Fault SG_SELFTEST. -/
def F_SG_SELFTEST : Nat := 0x168
/-- Fault SG_ENGINE. -/
def F_SG_ENGINE : Nat := 0x169
/-- Fault TW_PEER_LOST. -/
def F_TW_PEER_LOST : Nat := 0x180
/-- Fault TW_DIVERGE. -/
def F_TW_DIVERGE : Nat := 0x181
/-- Fault TW_TAKEOVER. -/
def F_TW_TAKEOVER : Nat := 0x182
/-- Fault TW_ROLE_CONFLICT. -/
def F_TW_ROLE_CONFLICT : Nat := 0x183
/-- Fault TW_JOIN_FAIL. -/
def F_TW_JOIN_FAIL : Nat := 0x184
/-- Fault TW_FIRE_LOST. -/
def F_TW_FIRE_LOST : Nat := 0x185
/-- Fault TW_PLACE_LATE. -/
def F_TW_PLACE_LATE : Nat := 0x186
/-- Fault PWR_WARN. -/
def F_PWR_WARN : Nat := 0x1A0
/-- Fault PWR_RAIL. -/
def F_PWR_RAIL : Nat := 0x1A1
/-- Fault CLK_LINK_LOSS. -/
def F_CLK_LINK_LOSS : Nat := 0x1A2
/-- Fault CLK_PCIE_LOSS. -/
def F_CLK_PCIE_LOSS : Nat := 0x1A3
/-- Fault CLK_SYS_LOSS. -/
def F_CLK_SYS_LOSS : Nat := 0x1A4
/-- Fault TJ_HIGH. -/
def F_TJ_HIGH : Nat := 0x1A5
/-- Fault MAINT_MOTION. -/
def F_MAINT_MOTION : Nat := 0x1A6

/-- One row of a fault table: the first ID, how many IDs, the default and the minimum class. -/
structure FaultRow where
  id : Nat
  count : Nat
  react : Nat
  min : Nat
  deriving DecidableEq, Repr

/-- Rows of the fault tables, part 0. -/
def faultRows0 : List FaultRow := [
  ⟨0x000, 1, 1, 1⟩,
  ⟨0x001, 1, 1, 1⟩,
  ⟨0x002, 1, 2, 2⟩,
  ⟨0x003, 1, 3, 3⟩,
  ⟨0x004, 1, 1, 1⟩,
  ⟨0x005, 1, 3, 3⟩,
  ⟨0x006, 1, 0, 0⟩,
  ⟨0x007, 1, 1, 1⟩,
  ⟨0x020, 1, 1, 1⟩,
  ⟨0x021, 1, 1, 1⟩,
  ⟨0x022, 1, 3, 1⟩,
  ⟨0x023, 1, 3, 1⟩,
  ⟨0x024, 1, 1, 0⟩,
  ⟨0x025, 1, 1, 0⟩,
  ⟨0x026, 1, 0, 0⟩,
  ⟨0x027, 1, 2, 2⟩,
  ⟨0x028, 1, 3, 3⟩,
  ⟨0x029, 1, 3, 3⟩,
  ⟨0x02A, 1, 0, 0⟩,
  ⟨0x02B, 1, 0, 0⟩]

/-- Rows of the fault tables, part 1. -/
def faultRows1 : List FaultRow := [
  ⟨0x02C, 1, 0, 0⟩,
  ⟨0x03C, 1, 2, 2⟩,
  ⟨0x03D, 1, 2, 2⟩,
  ⟨0x03E, 1, 3, 3⟩,
  ⟨0x03F, 1, 3, 3⟩,
  ⟨0x040, 8, 1, 0⟩,
  ⟨0x048, 4, 3, 3⟩,
  ⟨0x04C, 4, 3, 3⟩,
  ⟨0x050, 4, 1, 1⟩,
  ⟨0x054, 4, 1, 1⟩,
  ⟨0x058, 1, 1, 0⟩,
  ⟨0x059, 1, 1, 1⟩,
  ⟨0x05A, 1, 3, 3⟩,
  ⟨0x05B, 1, 1, 0⟩,
  ⟨0x060, 1, 1, 0⟩,
  ⟨0x061, 1, 0, 0⟩,
  ⟨0x062, 1, 1, 0⟩,
  ⟨0x063, 1, 1, 0⟩,
  ⟨0x064, 1, 1, 1⟩,
  ⟨0x065, 1, 3, 3⟩]

/-- Rows of the fault tables, part 2. -/
def faultRows2 : List FaultRow := [
  ⟨0x066, 1, 1, 0⟩,
  ⟨0x067, 1, 0, 0⟩,
  ⟨0x068, 1, 3, 3⟩,
  ⟨0x069, 1, 0, 0⟩,
  ⟨0x06A, 1, 3, 3⟩,
  ⟨0x080, 1, 1, 1⟩,
  ⟨0x081, 1, 1, 1⟩,
  ⟨0x082, 1, 1, 1⟩,
  ⟨0x083, 1, 1, 0⟩,
  ⟨0x084, 1, 1, 1⟩,
  ⟨0x085, 1, 1, 0⟩,
  ⟨0x086, 1, 0, 0⟩,
  ⟨0x087, 1, 0, 0⟩,
  ⟨0x088, 1, 1, 0⟩,
  ⟨0x089, 1, 1, 0⟩,
  ⟨0x08A, 1, 0, 0⟩,
  ⟨0x08B, 1, 1, 0⟩,
  ⟨0x08C, 1, 1, 1⟩,
  ⟨0x0C0, 1, 1, 0⟩,
  ⟨0x0C1, 1, 3, 1⟩]

/-- Rows of the fault tables, part 3. -/
def faultRows3 : List FaultRow := [
  ⟨0x0C2, 1, 1, 1⟩,
  ⟨0x0C3, 1, 0, 0⟩,
  ⟨0x0C4, 1, 1, 0⟩,
  ⟨0x0C5, 1, 1, 0⟩,
  ⟨0x0C6, 1, 0, 0⟩,
  ⟨0x0C7, 1, 1, 0⟩,
  ⟨0x0C8, 1, 1, 0⟩,
  ⟨0x0C9, 1, 1, 0⟩,
  ⟨0x0CA, 1, 1, 1⟩,
  ⟨0x0E0, 1, 1, 0⟩,
  ⟨0x0E1, 1, 3, 1⟩,
  ⟨0x0E2, 1, 1, 1⟩,
  ⟨0x0E3, 1, 1, 0⟩,
  ⟨0x0E4, 1, 1, 1⟩,
  ⟨0x0E5, 1, 1, 1⟩,
  ⟨0x0E6, 1, 1, 0⟩,
  ⟨0x0E7, 1, 1, 0⟩,
  ⟨0x0E8, 1, 0, 0⟩,
  ⟨0x0E9, 1, 1, 0⟩,
  ⟨0x100, 1, 1, 0⟩]

/-- Rows of the fault tables, part 4. -/
def faultRows4 : List FaultRow := [
  ⟨0x101, 1, 0, 0⟩,
  ⟨0x102, 1, 2, 2⟩,
  ⟨0x103, 1, 3, 3⟩,
  ⟨0x104, 1, 0, 0⟩,
  ⟨0x105, 1, 1, 0⟩,
  ⟨0x106, 1, 0, 0⟩,
  ⟨0x107, 1, 0, 0⟩,
  ⟨0x108, 1, 3, 3⟩,
  ⟨0x109, 1, 3, 3⟩,
  ⟨0x10A, 1, 3, 3⟩,
  ⟨0x10B, 1, 3, 3⟩,
  ⟨0x10C, 1, 0, 0⟩,
  ⟨0x120, 1, 1, 0⟩,
  ⟨0x121, 1, 0, 0⟩,
  ⟨0x122, 1, 1, 0⟩,
  ⟨0x123, 1, 1, 0⟩,
  ⟨0x124, 1, 1, 0⟩,
  ⟨0x125, 1, 0, 0⟩,
  ⟨0x126, 1, 0, 0⟩,
  ⟨0x127, 1, 1, 1⟩]

/-- Rows of the fault tables, part 5. -/
def faultRows5 : List FaultRow := [
  ⟨0x128, 1, 1, 0⟩,
  ⟨0x140, 1, 1, 1⟩,
  ⟨0x141, 1, 3, 1⟩,
  ⟨0x142, 1, 1, 0⟩,
  ⟨0x143, 1, 3, 3⟩,
  ⟨0x144, 1, 1, 0⟩,
  ⟨0x148, 1, 1, 1⟩,
  ⟨0x149, 1, 1, 1⟩,
  ⟨0x14A, 1, 1, 1⟩,
  ⟨0x150, 1, 3, 3⟩,
  ⟨0x151, 1, 1, 0⟩,
  ⟨0x152, 1, 1, 1⟩,
  ⟨0x153, 1, 1, 1⟩,
  ⟨0x154, 1, 1, 0⟩,
  ⟨0x155, 1, 1, 0⟩,
  ⟨0x160, 1, 1, 1⟩,
  ⟨0x161, 1, 1, 1⟩,
  ⟨0x162, 1, 1, 1⟩,
  ⟨0x163, 1, 1, 1⟩,
  ⟨0x164, 1, 4, 4⟩]

/-- Rows of the fault tables, part 6. -/
def faultRows6 : List FaultRow := [
  ⟨0x165, 1, 4, 4⟩,
  ⟨0x166, 1, 0, 0⟩,
  ⟨0x167, 1, 0, 0⟩,
  ⟨0x168, 1, 3, 3⟩,
  ⟨0x169, 1, 3, 3⟩,
  ⟨0x180, 1, 1, 1⟩,
  ⟨0x181, 1, 1, 1⟩,
  ⟨0x182, 1, 1, 1⟩,
  ⟨0x183, 1, 1, 1⟩,
  ⟨0x184, 1, 1, 0⟩,
  ⟨0x185, 1, 0, 0⟩,
  ⟨0x186, 1, 1, 0⟩,
  ⟨0x1A0, 1, 1, 0⟩,
  ⟨0x1A1, 1, 3, 3⟩,
  ⟨0x1A2, 1, 3, 3⟩,
  ⟨0x1A3, 1, 1, 0⟩,
  ⟨0x1A4, 1, 3, 1⟩,
  ⟨0x1A5, 1, 1, 0⟩,
  ⟨0x1A6, 1, 1, 0⟩]

/-- Every row of the fault tables (R50, R95, R126, R149, R175, R206, R280, R323, R334, R380, R400, R431, R457). -/
def faultRows : List FaultRow :=
  faultRows0 ++ faultRows1 ++ faultRows2 ++ faultRows3 ++ faultRows4 ++ faultRows5 ++ faultRows6

/-- The row that implements a fault ID, if any (R333). -/
def faultRow (i : Nat) : Option FaultRow :=
  faultRows.find? (fun r => decide (r.id ≤ i) && decide (i < r.id + r.count))

end Sys2Proof.Machine
end

