-- ==== Sys2Proof/Machine/RegMap.lean ====
section
/-! DEFINITION. The register map: one address per register (offset from 0x4000_0000 in the core view, R461, R462,
R465) and one descriptor per field, as the register tables of chapters 01 to 17 give them. A register of a
repeated block takes its instance numbers as arguments. A 64-bit register is named by the offset of its low word
(R11). -/

namespace Sys2Proof.Machine

/-- A field of a register word: the register's offset, the field's lowest bit and its width. -/
structure Fld where
  off : Nat
  lo : Nat
  width : Nat
  deriving DecidableEq, Repr


/-! ### TB (01_firings.md) -/

/-- `TB_CTRL` (R52). -/
def TB_CTRL : Nat := 0x10000
/-- `TB_CTRL.FSRC` [1:0], RW. -/
def TB_CTRL_FSRC : Fld := ⟨TB_CTRL, 0, 2⟩
/-- `TB_CTRL.FDOM` [3:2], RW. -/
def TB_CTRL_FDOM : Fld := ⟨TB_CTRL, 2, 2⟩
/-- `TB_CTRL.FIRE_POL` [4:4], RW. -/
def TB_CTRL_FIRE_POL : Fld := ⟨TB_CTRL, 4, 1⟩
/-- `TB_FMIN` (R52). -/
def TB_FMIN : Nat := 0x10004
/-- `TB_FMIN.FMIN` [23:0], RW. -/
def TB_FMIN_FMIN : Fld := ⟨TB_FMIN, 0, 24⟩
/-- `TB_FMAX` (R52). -/
def TB_FMAX : Nat := 0x10008
/-- `TB_FMAX.FMAX` [23:0], RW. -/
def TB_FMAX_FMAX : Fld := ⟨TB_FMAX, 0, 24⟩
/-- `TB_SEAL_MARGIN` (R52). -/
def TB_SEAL_MARGIN : Nat := 0x1000C
/-- `TB_SEAL_MARGIN.MARGIN` [23:0], RW. -/
def TB_SEAL_MARGIN_MARGIN : Fld := ⟨TB_SEAL_MARGIN, 0, 24⟩
/-- `TB_STEP` (R52). -/
def TB_STEP : Nat := 0x10010
/-- `TB_STEP.STEP` [31:0], RW. -/
def TB_STEP_STEP : Fld := ⟨TB_STEP, 0, 32⟩
/-- `TB_FN` (R52). -/
def TB_FN : Nat := 0x10018
/-- `TB_TT` (R52). -/
def TB_TT : Nat := 0x10020
/-- `TB_BTT` (R52). -/
def TB_BTT : Nat := 0x10028
/-- `TB_PERIOD` (R52). -/
def TB_PERIOD : Nat := 0x10030
/-- `TB_PERIOD.PERIOD` [23:0], RO. -/
def TB_PERIOD_PERIOD : Fld := ⟨TB_PERIOD, 0, 24⟩
/-- `TB_STAT` (R52). -/
def TB_STAT : Nat := 0x10034
/-- `TB_STAT.CAUSE` [1:0], RO. -/
def TB_STAT_CAUSE : Fld := ⟨TB_STAT, 0, 2⟩
/-- `TB_STAT.CFG_REJ` [8:8], W1C. -/
def TB_STAT_CFG_REJ : Fld := ⟨TB_STAT, 8, 1⟩
/-- `TB_STAT.CW_OVERRUN` [9:9], W1C. -/
def TB_STAT_CW_OVERRUN : Fld := ⟨TB_STAT, 9, 1⟩
/-- `TB_STAT.SEALED` [10:10], RO. -/
def TB_STAT_SEALED : Fld := ⟨TB_STAT, 10, 1⟩
/-- `TB_OVS_RUN` (R52). -/
def TB_OVS_RUN : Nat := 0x10038
/-- `TB_OVS_RUN.RUN` [7:0], RO. -/
def TB_OVS_RUN_RUN : Fld := ⟨TB_OVS_RUN, 0, 8⟩
/-- `TB_OVS_CNT` (R52). -/
def TB_OVS_CNT : Nat := 0x1003C
/-- `TB_OVS_CNT.CNT` [31:0], RC. -/
def TB_OVS_CNT_CNT : Fld := ⟨TB_OVS_CNT, 0, 32⟩
/-- `TB_SKIP_CNT` (R52). -/
def TB_SKIP_CNT : Nat := 0x10040
/-- `TB_SKIP_CNT.CNT` [31:0], RC. -/
def TB_SKIP_CNT_CNT : Fld := ⟨TB_SKIP_CNT, 0, 32⟩
/-- `TB_FMAX_CNT` (R52). -/
def TB_FMAX_CNT : Nat := 0x10044
/-- `TB_FMAX_CNT.CNT` [31:0], RC. -/
def TB_FMAX_CNT_CNT : Fld := ⟨TB_FMAX_CNT, 0, 32⟩
/-- `TB_STG_CNT` (R52). -/
def TB_STG_CNT : Nat := 0x10048
/-- `TB_STG_CNT.CNT` [10:0], RO. -/
def TB_STG_CNT_CNT : Fld := ⟨TB_STG_CNT, 0, 11⟩
/-- `TB_NEXT_TGT` (R52). -/
def TB_NEXT_TGT : Nat := 0x10050
/-- `TB_LATE_CNT` (R52). -/
def TB_LATE_CNT : Nat := 0x10058
/-- `TB_LATE_CNT.CNT` [31:0], RC. -/
def TB_LATE_CNT_CNT : Fld := ⟨TB_LATE_CNT, 0, 32⟩
/-- `TB_CW_MAX` (R52). -/
def TB_CW_MAX : Nat := 0x1005C
/-- `TB_CW_MAX.KCLK` [9:0], RC. -/
def TB_CW_MAX_KCLK : Fld := ⟨TB_CW_MAX, 0, 10⟩

/-! ### ENC[n] (01_firings.md) -/

/-- `ENC_CFG` (R52). -/
def ENC_CFG (n : Nat) : Nat := 0x11000 + n * 0x100
/-- `ENC_CFG.EN` [0:0], RW. -/
def ENC_CFG_EN (n : Nat) : Fld := ⟨(ENC_CFG n), 0, 1⟩
/-- `ENC_CFG.INV` [1:1], RW. -/
def ENC_CFG_INV (n : Nat) : Fld := ⟨(ENC_CFG n), 1, 1⟩
/-- `ENC_CFG.ZEN` [2:2], RW. -/
def ENC_CFG_ZEN (n : Nat) : Fld := ⟨(ENC_CFG n), 2, 1⟩
/-- `ENC_CFG.ZPOL` [3:3], RW. -/
def ENC_CFG_ZPOL (n : Nat) : Fld := ⟨(ENC_CFG n), 3, 1⟩
/-- `ENC_CFG.FILT` [7:4], RW. -/
def ENC_CFG_FILT (n : Nat) : Fld := ⟨(ENC_CFG n), 4, 4⟩
/-- `ENC_CNT` (R52). -/
def ENC_CNT (n : Nat) : Nat := 0x11008 + n * 0x100
/-- `ENC_ETT` (R52). -/
def ENC_ETT (n : Nat) : Nat := 0x11010 + n * 0x100
/-- `ENC_STAT` (R52). -/
def ENC_STAT (n : Nat) : Nat := 0x11018 + n * 0x100
/-- `ENC_STAT.LOSS_A` [0:0], W1C. -/
def ENC_STAT_LOSS_A (n : Nat) : Fld := ⟨(ENC_STAT n), 0, 1⟩
/-- `ENC_STAT.LOSS_B` [1:1], W1C. -/
def ENC_STAT_LOSS_B (n : Nat) : Fld := ⟨(ENC_STAT n), 1, 1⟩
/-- `ENC_STAT.LOSS_Z` [2:2], W1C. -/
def ENC_STAT_LOSS_Z (n : Nat) : Fld := ⟨(ENC_STAT n), 2, 1⟩
/-- `ENC_STAT.ILLEGAL` [3:3], W1C. -/
def ENC_STAT_ILLEGAL (n : Nat) : Fld := ⟨(ENC_STAT n), 3, 1⟩
/-- `ENC_STAT.OVERRATE` [4:4], W1C. -/
def ENC_STAT_OVERRATE (n : Nat) : Fld := ⟨(ENC_STAT n), 4, 1⟩
/-- `ENC_STAT.INDEX_ERR` [5:5], W1C. -/
def ENC_STAT_INDEX_ERR (n : Nat) : Fld := ⟨(ENC_STAT n), 5, 1⟩
/-- `ENC_STAT.INDEX_SEEN` [6:6], W1C. -/
def ENC_STAT_INDEX_SEEN (n : Nat) : Fld := ⟨(ENC_STAT n), 6, 1⟩
/-- `ENC_STAT.SIG_BAD` [8:8], RO. -/
def ENC_STAT_SIG_BAD (n : Nat) : Fld := ⟨(ENC_STAT n), 8, 1⟩
/-- `ENC_ILL_CNT` (R52). -/
def ENC_ILL_CNT (n : Nat) : Nat := 0x1101C + n * 0x100
/-- `ENC_ILL_CNT.CNT` [15:0], RC. -/
def ENC_ILL_CNT_CNT (n : Nat) : Fld := ⟨(ENC_ILL_CNT n), 0, 16⟩
/-- `ENC_ZPER` (R52). -/
def ENC_ZPER (n : Nat) : Nat := 0x11020 + n * 0x100
/-- `ENC_ZPER.COUNTS` [31:0], RW. -/
def ENC_ZPER_COUNTS (n : Nat) : Fld := ⟨(ENC_ZPER n), 0, 32⟩
/-- `ENC_ZTOL` (R52). -/
def ENC_ZTOL (n : Nat) : Nat := 0x11024 + n * 0x100
/-- `ENC_ZTOL.COUNTS` [7:0], RW. -/
def ENC_ZTOL_COUNTS (n : Nat) : Fld := ⟨(ENC_ZTOL n), 0, 8⟩
/-- `ENC_ZCNT` (R52). -/
def ENC_ZCNT (n : Nat) : Nat := 0x11028 + n * 0x100
/-- `ENC_RATE` (R52). -/
def ENC_RATE (n : Nat) : Nat := 0x11030 + n * 0x100
/-- `ENC_RATE.EDGES` [31:0], RO. -/
def ENC_RATE_EDGES (n : Nat) : Fld := ⟨(ENC_RATE n), 0, 32⟩
/-- `ENC_ZERR_CNT` (R52). -/
def ENC_ZERR_CNT (n : Nat) : Nat := 0x11034 + n * 0x100
/-- `ENC_ZERR_CNT.CNT` [15:0], RC. -/
def ENC_ZERR_CNT_CNT (n : Nat) : Fld := ⟨(ENC_ZERR_CNT n), 0, 16⟩

/-! ### DOM[d] (01_firings.md) -/

/-- `DOM_CFG` (R52). -/
def DOM_CFG (d : Nat) : Nat := 0x12000 + d * 0x100
/-- `DOM_CFG.EN` [0:0], RW. -/
def DOM_CFG_EN (d : Nat) : Fld := ⟨(DOM_CFG d), 0, 1⟩
/-- `DOM_CFG.PRI` [3:1], RW. -/
def DOM_CFG_PRI (d : Nat) : Fld := ⟨(DOM_CFG d), 1, 3⟩
/-- `DOM_CFG.CHKEN` [4:4], RW. -/
def DOM_CFG_CHKEN (d : Nat) : Fld := ⟨(DOM_CFG d), 4, 1⟩
/-- `DOM_CFG.CHK` [7:5], RW. -/
def DOM_CFG_CHK (d : Nat) : Fld := ⟨(DOM_CFG d), 5, 3⟩
/-- `DOM_CFG.FAILOVER` [8:8], RW. -/
def DOM_CFG_FAILOVER (d : Nat) : Fld := ⟨(DOM_CFG d), 8, 1⟩
/-- `DOM_CFG.INV` [9:9], RW. -/
def DOM_CFG_INV (d : Nat) : Fld := ⟨(DOM_CFG d), 9, 1⟩
/-- `DOM_CHK_RATIO` (R52). -/
def DOM_CHK_RATIO (d : Nat) : Nat := 0x12004 + d * 0x100
/-- `DOM_CHK_RATIO.RATIO` [31:0], RW. -/
def DOM_CHK_RATIO_RATIO (d : Nat) : Fld := ⟨(DOM_CHK_RATIO d), 0, 32⟩
/-- `DOM_CWIN` (R52). -/
def DOM_CWIN (d : Nat) : Nat := 0x12008 + d * 0x100
/-- `DOM_CWIN.COUNTS` [31:0], RW. -/
def DOM_CWIN_COUNTS (d : Nat) : Fld := ⟨(DOM_CWIN d), 0, 32⟩
/-- `DOM_CTOL` (R52). -/
def DOM_CTOL (d : Nat) : Nat := 0x1200C + d * 0x100
/-- `DOM_CTOL.PV` [31:0], RW. -/
def DOM_CTOL_PV (d : Nat) : Fld := ⟨(DOM_CTOL d), 0, 32⟩
/-- `DOM_CSTALL` (R52). -/
def DOM_CSTALL (d : Nat) : Nat := 0x12010 + d * 0x100
/-- `DOM_CSTALL.COUNTS` [31:0], RW. -/
def DOM_CSTALL_COUNTS (d : Nat) : Fld := ⟨(DOM_CSTALL d), 0, 32⟩
/-- `DOM_PHERR` (R52). -/
def DOM_PHERR (d : Nat) : Nat := 0x12014 + d * 0x100
/-- `DOM_PHERR.PV` [15:0], RW. -/
def DOM_PHERR_PV (d : Nat) : Fld := ⟨(DOM_PHERR d), 0, 16⟩
/-- `DOM_AMAX` (R52). -/
def DOM_AMAX (d : Nat) : Nat := 0x12018 + d * 0x100
/-- `DOM_AMAX.CS2` [31:0], RW. -/
def DOM_AMAX_CS2 (d : Nat) : Fld := ⟨(DOM_AMAX d), 0, 32⟩
/-- `DOM_VWIN` (R52). -/
def DOM_VWIN (d : Nat) : Nat := 0x1201C + d * 0x100
/-- `DOM_VWIN.KCLK` [23:0], RW. -/
def DOM_VWIN_KCLK (d : Nat) : Fld := ⟨(DOM_VWIN d), 0, 24⟩
/-- `DOM_PV` (R52). -/
def DOM_PV (d : Nat) : Nat := 0x12020 + d * 0x100
/-- `DOM_BPV` (R52). -/
def DOM_BPV (d : Nat) : Nat := 0x12028 + d * 0x100
/-- `DOM_VEL` (R52). -/
def DOM_VEL (d : Nat) : Nat := 0x12030 + d * 0x100
/-- `DOM_VEL.VEL` [31:0], RO. -/
def DOM_VEL_VEL (d : Nat) : Fld := ⟨(DOM_VEL d), 0, 32⟩
/-- `DOM_BVEL` (R52). -/
def DOM_BVEL (d : Nat) : Nat := 0x12034 + d * 0x100
/-- `DOM_BVEL.VEL` [31:0], RO. -/
def DOM_BVEL_VEL (d : Nat) : Fld := ⟨(DOM_BVEL d), 0, 32⟩
/-- `DOM_STAT` (R52). -/
def DOM_STAT (d : Nat) : Nat := 0x12038 + d * 0x100
/-- `DOM_STAT.STOPPED` [0:0], RO. -/
def DOM_STAT_STOPPED (d : Nat) : Fld := ⟨(DOM_STAT d), 0, 1⟩
/-- `DOM_STAT.REVERSE` [1:1], RO. -/
def DOM_STAT_REVERSE (d : Nat) : Fld := ⟨(DOM_STAT d), 1, 1⟩
/-- `DOM_STAT.ON_CHECK` [2:2], RO. -/
def DOM_STAT_ON_CHECK (d : Nat) : Fld := ⟨(DOM_STAT d), 2, 1⟩
/-- `DOM_STAT.CHK_LOST` [3:3], RO. -/
def DOM_STAT_CHK_LOST (d : Nat) : Fld := ⟨(DOM_STAT d), 3, 1⟩
/-- `DOM_STAT.DISAGREE` [8:8], W1C. -/
def DOM_STAT_DISAGREE (d : Nat) : Fld := ⟨(DOM_STAT d), 8, 1⟩
/-- `DOM_STAT.CHK_LOST_EV` [9:9], W1C. -/
def DOM_STAT_CHK_LOST_EV (d : Nat) : Fld := ⟨(DOM_STAT d), 9, 1⟩
/-- `DOM_STAT.PRI_LOST` [10:10], W1C. -/
def DOM_STAT_PRI_LOST (d : Nat) : Fld := ⟨(DOM_STAT d), 10, 1⟩
/-- `DOM_STAT.HIST_FULL` [11:11], RO. -/
def DOM_STAT_HIST_FULL (d : Nat) : Fld := ⟨(DOM_STAT d), 11, 1⟩
/-- `DOM_STAT.PRESET_REFUSED` [12:12], W1C. -/
def DOM_STAT_PRESET_REFUSED (d : Nat) : Fld := ⟨(DOM_STAT d), 12, 1⟩
/-- `DOM_DIFF` (R52). -/
def DOM_DIFF (d : Nat) : Nat := 0x1203C + d * 0x100
/-- `DOM_DIFF.PV` [31:0], RO. -/
def DOM_DIFF_PV (d : Nat) : Fld := ⟨(DOM_DIFF d), 0, 32⟩
/-- `DOM_HOLD_TT` (R52). -/
def DOM_HOLD_TT (d : Nat) : Nat := 0x12040 + d * 0x100
/-- `DOM_HCOUNT` (R52). -/
def DOM_HCOUNT (d : Nat) : Nat := 0x12048 + d * 0x100
/-- `DOM_HCOUNT.N` [16:0], RO. -/
def DOM_HCOUNT_N (d : Nat) : Fld := ⟨(DOM_HCOUNT d), 0, 17⟩
/-- `DOM_PRESET` (R52). -/
def DOM_PRESET (d : Nat) : Nat := 0x12050 + d * 0x100
/-- `DOM_PRESET_CTRL` (R52). -/
def DOM_PRESET_CTRL (d : Nat) : Nat := 0x12058 + d * 0x100
/-- `DOM_PRESET_CTRL.GO` [0:0], WO. -/
def DOM_PRESET_CTRL_GO (d : Nat) : Fld := ⟨(DOM_PRESET_CTRL d), 0, 1⟩
/-- `DOM_DIR_CNT` (R52). -/
def DOM_DIR_CNT (d : Nat) : Nat := 0x1205C + d * 0x100
/-- `DOM_DIR_CNT.CNT` [15:0], RC. -/
def DOM_DIR_CNT_CNT (d : Nat) : Fld := ⟨(DOM_DIR_CNT d), 0, 16⟩
/-- `DOM_CVT_CTRL` (R52). -/
def DOM_CVT_CTRL (d : Nat) : Nat := 0x12060 + d * 0x100
/-- `DOM_CVT_CTRL.GO` [0:0], WO. -/
def DOM_CVT_CTRL_GO (d : Nat) : Fld := ⟨(DOM_CVT_CTRL d), 0, 1⟩
/-- `DOM_CVT_CTRL.DIR` [1:1], WO. -/
def DOM_CVT_CTRL_DIR (d : Nat) : Fld := ⟨(DOM_CVT_CTRL d), 1, 1⟩
/-- `DOM_CVT_STAT` (R52). -/
def DOM_CVT_STAT (d : Nat) : Nat := 0x12064 + d * 0x100
/-- `DOM_CVT_STAT.BUSY` [0:0], RO. -/
def DOM_CVT_STAT_BUSY (d : Nat) : Fld := ⟨(DOM_CVT_STAT d), 0, 1⟩
/-- `DOM_CVT_STAT.RESULT` [3:1], RO. -/
def DOM_CVT_STAT_RESULT (d : Nat) : Fld := ⟨(DOM_CVT_STAT d), 1, 3⟩
/-- `DOM_CVT_IN` (R52). -/
def DOM_CVT_IN (d : Nat) : Nat := 0x12068 + d * 0x100
/-- `DOM_CVT_OUT` (R52). -/
def DOM_CVT_OUT (d : Nat) : Nat := 0x12070 + d * 0x100
/-- `DOM_CVT_ERR` (R52). -/
def DOM_CVT_ERR (d : Nat) : Nat := 0x12078 + d * 0x100
/-- `DOM_CVT_ERR.ERR` [31:0], RO. -/
def DOM_CVT_ERR_ERR (d : Nat) : Fld := ⟨(DOM_CVT_ERR d), 0, 32⟩

/-! ### HL[n] (02_head_links.md) -/

/-- `HL_CFG` (R97). -/
def HL_CFG (n : Nat) : Nat := 0x100000 + n * 0x1000
/-- `HL_CFG.MODE` [1:0], RW. -/
def HL_CFG_MODE (n : Nat) : Fld := ⟨(HL_CFG n), 0, 2⟩
/-- `HL_CFG.DOM` [3:2], RW. -/
def HL_CFG_DOM (n : Nat) : Fld := ⟨(HL_CFG n), 2, 2⟩
/-- `HL_CFG.SURF` [4:4], RW. -/
def HL_CFG_SURF (n : Nat) : Fld := ⟨(HL_CFG n), 4, 1⟩
/-- `HL_CFG.VMAX` [6:5], RW. -/
def HL_CFG_VMAX (n : Nat) : Fld := ⟨(HL_CFG n), 5, 2⟩
/-- `HL_CFG.IDREQ` [7:7], RW. -/
def HL_CFG_IDREQ (n : Nat) : Fld := ⟨(HL_CFG n), 7, 1⟩
/-- `HL_CFG.AUTO_ADMIT` [8:8], RW. -/
def HL_CFG_AUTO_ADMIT (n : Nat) : Fld := ⟨(HL_CFG n), 8, 1⟩
/-- `HL_CFG.NRZ_ONLY` [9:9], RW. -/
def HL_CFG_NRZ_ONLY (n : Nat) : Fld := ⟨(HL_CFG n), 9, 1⟩
/-- `HL_CFG.CROP_EN` [10:10], RW. -/
def HL_CFG_CROP_EN (n : Nat) : Fld := ⟨(HL_CFG n), 10, 1⟩
/-- `HL_CTRL` (R97). -/
def HL_CTRL (n : Nat) : Nat := 0x100004 + n * 0x1000
/-- `HL_CTRL.ADMIT` [0:0], WO. -/
def HL_CTRL_ADMIT (n : Nat) : Fld := ⟨(HL_CTRL n), 0, 1⟩
/-- `HL_CTRL.DETACH` [1:1], WO. -/
def HL_CTRL_DETACH (n : Nat) : Fld := ⟨(HL_CTRL n), 1, 1⟩
/-- `HL_CTRL.RETRAIN` [2:2], WO. -/
def HL_CTRL_RETRAIN (n : Nat) : Fld := ⟨(HL_CTRL n), 2, 1⟩
/-- `HL_STAT` (R97). -/
def HL_STAT (n : Nat) : Nat := 0x100008 + n * 0x1000
/-- `HL_STAT.STATE` [3:0], RO. -/
def HL_STAT_STATE (n : Nat) : Fld := ⟨(HL_STAT n), 0, 4⟩
/-- `HL_STAT.RATE` [5:4], RO. -/
def HL_STAT_RATE (n : Nat) : Fld := ⟨(HL_STAT n), 4, 2⟩
/-- `HL_STAT.VER` [7:6], RO. -/
def HL_STAT_VER (n : Nat) : Fld := ⟨(HL_STAT n), 6, 2⟩
/-- `HL_STAT.SYNCED` [8:8], RO. -/
def HL_STAT_SYNCED (n : Nat) : Fld := ⟨(HL_STAT n), 8, 1⟩
/-- `HL_STAT.ID_OK` [9:9], RO. -/
def HL_STAT_ID_OK (n : Nat) : Fld := ⟨(HL_STAT n), 9, 1⟩
/-- `HL_STAT.CFG_REJ` [10:10], W1C. -/
def HL_STAT_CFG_REJ (n : Nat) : Fld := ⟨(HL_STAT n), 10, 1⟩
/-- `HL_ISR` (R97). -/
def HL_ISR (n : Nat) : Nat := 0x10000C + n * 0x1000
/-- `HL_ISR.STATE_CHG` [0:0], W1C. -/
def HL_ISR_STATE_CHG (n : Nat) : Fld := ⟨(HL_ISR n), 0, 1⟩
/-- `HL_ISR.HEAD_LOST` [1:1], W1C. -/
def HL_ISR_HEAD_LOST (n : Nat) : Fld := ⟨(HL_ISR n), 1, 1⟩
/-- `HL_ISR.SYNC_LOSS` [2:2], W1C. -/
def HL_ISR_SYNC_LOSS (n : Nat) : Fld := ⟨(HL_ISR n), 2, 1⟩
/-- `HL_ISR.VER_FAIL` [3:3], W1C. -/
def HL_ISR_VER_FAIL (n : Nat) : Fld := ⟨(HL_ISR n), 3, 1⟩
/-- `HL_ISR.ID_FAIL` [4:4], W1C. -/
def HL_ISR_ID_FAIL (n : Nat) : Fld := ⟨(HL_ISR n), 4, 1⟩
/-- `HL_ISR.CREDIT_VIOL` [5:5], W1C. -/
def HL_ISR_CREDIT_VIOL (n : Nat) : Fld := ⟨(HL_ISR n), 5, 1⟩
/-- `HL_ISR.SEQ_GAP` [6:6], W1C. -/
def HL_ISR_SEQ_GAP (n : Nat) : Fld := ⟨(HL_ISR n), 6, 1⟩
/-- `HL_ISR.CAP_MISS` [7:7], W1C. -/
def HL_ISR_CAP_MISS (n : Nat) : Fld := ⟨(HL_ISR n), 7, 1⟩
/-- `HL_ISR.TRIG_SKIP` [8:8], W1C. -/
def HL_ISR_TRIG_SKIP (n : Nat) : Fld := ⟨(HL_ISR n), 8, 1⟩
/-- `HL_ISR.CROP_DROP` [9:9], W1C. -/
def HL_ISR_CROP_DROP (n : Nat) : Fld := ⟨(HL_ISR n), 9, 1⟩
/-- `HL_ISR.STAT_CHG` [10:10], W1C. -/
def HL_ISR_STAT_CHG (n : Nat) : Fld := ⟨(HL_ISR n), 10, 1⟩
/-- `HL_ISR.CMB_DONE` [11:11], W1C. -/
def HL_ISR_CMB_DONE (n : Nat) : Fld := ⟨(HL_ISR n), 11, 1⟩
/-- `HL_ISR.REC_DROP` [12:12], W1C. -/
def HL_ISR_REC_DROP (n : Nat) : Fld := ⟨(HL_ISR n), 12, 1⟩
/-- `HL_IER` (R97). -/
def HL_IER (n : Nat) : Nat := 0x100010 + n * 0x1000
/-- `HL_IER.EN` [12:0], RW. -/
def HL_IER_EN (n : Nat) : Fld := ⟨(HL_IER n), 0, 13⟩
/-- `HL_LAT_OFF` (R97). -/
def HL_LAT_OFF (n : Nat) : Nat := 0x100014 + n * 0x1000
/-- `HL_LAT_OFF.OFF` [15:0], RW. -/
def HL_LAT_OFF_OFF (n : Nat) : Fld := ⟨(HL_LAT_OFF n), 0, 16⟩
/-- `HL_COV` (R97). -/
def HL_COV (n : Nat) : Nat := 0x100018 + n * 0x1000
/-- `HL_COV.LO` [15:0], RW. -/
def HL_COV_LO (n : Nat) : Fld := ⟨(HL_COV n), 0, 16⟩
/-- `HL_COV.HI` [31:16], RW. -/
def HL_COV_HI (n : Nat) : Fld := ⟨(HL_COV n), 16, 16⟩
/-- `HL_CAP_ORIGIN` (R97). -/
def HL_CAP_ORIGIN (n : Nat) : Nat := 0x100020 + n * 0x1000
/-- `HL_CAP_PITCH` (R97). -/
def HL_CAP_PITCH (n : Nat) : Nat := 0x100028 + n * 0x1000
/-- `HL_CAP_PITCH.PV` [31:0], RW. -/
def HL_CAP_PITCH_PV (n : Nat) : Fld := ⟨(HL_CAP_PITCH n), 0, 32⟩
/-- `HL_PROFILE` (R97). -/
def HL_PROFILE (n : Nat) : Nat := 0x10002C + n * 0x1000
/-- `HL_PROFILE.IDX` [3:0], RW. -/
def HL_PROFILE_IDX (n : Nat) : Fld := ⟨(HL_PROFILE n), 0, 4⟩
/-- `HL_HB_CFG` (R97). -/
def HL_HB_CFG (n : Nat) : Nat := 0x100030 + n * 0x1000
/-- `HL_HB_CFG.PER` [7:0], RW. -/
def HL_HB_CFG_PER (n : Nat) : Fld := ⟨(HL_HB_CFG n), 0, 8⟩
/-- `HL_HB_CFG.TO_N` [15:8], RW. -/
def HL_HB_CFG_TO_N (n : Nat) : Fld := ⟨(HL_HB_CFG n), 8, 8⟩
/-- `HL_SYNC_CFG` (R97). -/
def HL_SYNC_CFG (n : Nat) : Nat := 0x100034 + n * 0x1000
/-- `HL_SYNC_CFG.PER` [7:0], RW. -/
def HL_SYNC_CFG_PER (n : Nat) : Fld := ⟨(HL_SYNC_CFG n), 0, 8⟩
/-- `HL_SYNC_CFG.AVG` [11:8], RW. -/
def HL_SYNC_CFG_AVG (n : Nat) : Fld := ⟨(HL_SYNC_CFG n), 8, 4⟩
/-- `HL_SYNC_CFG.LIMIT` [31:16], RW. -/
def HL_SYNC_CFG_LIMIT (n : Nat) : Fld := ⟨(HL_SYNC_CFG n), 16, 16⟩
/-- `HL_FIBRE_ASYM` (R97). -/
def HL_FIBRE_ASYM (n : Nat) : Nat := 0x100038 + n * 0x1000
/-- `HL_FIBRE_ASYM.ASYM` [31:0], RW. -/
def HL_FIBRE_ASYM_ASYM (n : Nat) : Fld := ⟨(HL_FIBRE_ASYM n), 0, 32⟩
/-- `HL_DELAY` (R97). -/
def HL_DELAY (n : Nat) : Nat := 0x10003C + n * 0x1000
/-- `HL_DELAY.DELAY` [31:0], RO. -/
def HL_DELAY_DELAY (n : Nat) : Fld := ⟨(HL_DELAY n), 0, 32⟩
/-- `HL_RESID` (R97). -/
def HL_RESID (n : Nat) : Nat := 0x100040 + n * 0x1000
/-- `HL_RESID.RESID` [31:0], RO. -/
def HL_RESID_RESID (n : Nat) : Fld := ⟨(HL_RESID n), 0, 32⟩
/-- `HL_RTT` (R97). -/
def HL_RTT (n : Nat) : Nat := 0x100044 + n * 0x1000
/-- `HL_RTT.RTT` [31:0], RO. -/
def HL_RTT_RTT (n : Nat) : Fld := ⟨(HL_RTT n), 0, 32⟩
/-- `HL_VERINFO` (R97). -/
def HL_VERINFO (n : Nat) : Nat := 0x100050 + n * 0x1000
/-- `HL_VERINFO.VMIN` [7:0], RO. -/
def HL_VERINFO_VMIN (n : Nat) : Fld := ⟨(HL_VERINFO n), 0, 8⟩
/-- `HL_VERINFO.VMAX` [15:8], RO. -/
def HL_VERINFO_VMAX (n : Nat) : Fld := ⟨(HL_VERINFO n), 8, 8⟩
/-- `HL_VERINFO.VENDOR` [31:16], RO. -/
def HL_VERINFO_VENDOR (n : Nat) : Fld := ⟨(HL_VERINFO n), 16, 16⟩
/-- `HL_VERMODEL` (R97). -/
def HL_VERMODEL (n : Nat) : Nat := 0x100054 + n * 0x1000
/-- `HL_VERMODEL.MODEL` [15:0], RO. -/
def HL_VERMODEL_MODEL (n : Nat) : Fld := ⟨(HL_VERMODEL n), 0, 16⟩
/-- `HL_VERMODEL.CAPS` [31:16], RO. -/
def HL_VERMODEL_CAPS (n : Nat) : Fld := ⟨(HL_VERMODEL n), 16, 16⟩
/-- `HL_SERIAL` (R97). -/
def HL_SERIAL (n i : Nat) : Nat := 0x100058 + n * 0x1000 + i * 0x4
/-- `HL_SERIAL.SERIAL` [31:0], RO. -/
def HL_SERIAL_SERIAL (n i : Nat) : Fld := ⟨(HL_SERIAL n i), 0, 32⟩
/-- `HL_HSTAT` (R97). -/
def HL_HSTAT (n : Nat) : Nat := 0x100068 + n * 0x1000
/-- `HL_HSTAT.STATE` [15:0], RO. -/
def HL_HSTAT_STATE (n : Nat) : Fld := ⟨(HL_HSTAT n), 0, 16⟩
/-- `HL_HSTAT.TEMP` [31:16], RO. -/
def HL_HSTAT_TEMP (n : Nat) : Fld := ⟨(HL_HSTAT n), 16, 16⟩
/-- `HL_HCOV` (R97). -/
def HL_HCOV (n : Nat) : Nat := 0x10006C + n * 0x1000
/-- `HL_HCOV.LO` [15:0], RO. -/
def HL_HCOV_LO (n : Nat) : Fld := ⟨(HL_HCOV n), 0, 16⟩
/-- `HL_HCOV.HI` [31:16], RO. -/
def HL_HCOV_HI (n : Nat) : Fld := ⟨(HL_HCOV n), 16, 16⟩
/-- `HL_FEAT_CRED` (R97). -/
def HL_FEAT_CRED (n : Nat) : Nat := 0x100070 + n * 0x1000
/-- `HL_FEAT_CRED.LIMIT` [31:0], RO. -/
def HL_FEAT_CRED_LIMIT (n : Nat) : Fld := ⟨(HL_FEAT_CRED n), 0, 32⟩
/-- `HL_CROP_CRED` (R97). -/
def HL_CROP_CRED (n : Nat) : Nat := 0x100074 + n * 0x1000
/-- `HL_CROP_CRED.LIMIT` [31:0], RO. -/
def HL_CROP_CRED_LIMIT (n : Nat) : Fld := ⟨(HL_CROP_CRED n), 0, 32⟩
/-- `HL_ADMIT_FN` (R97). -/
def HL_ADMIT_FN (n : Nat) : Nat := 0x100078 + n * 0x1000
/-- `HL_DETACH_FN` (R97). -/
def HL_DETACH_FN (n : Nat) : Nat := 0x100080 + n * 0x1000
/-- `HL_FEC_CORR` (R97). -/
def HL_FEC_CORR (n : Nat) : Nat := 0x100090 + n * 0x1000
/-- `HL_FEC_CORR.CNT` [31:0], RC. -/
def HL_FEC_CORR_CNT (n : Nat) : Fld := ⟨(HL_FEC_CORR n), 0, 32⟩
/-- `HL_FEC_UNC` (R97). -/
def HL_FEC_UNC (n : Nat) : Nat := 0x100094 + n * 0x1000
/-- `HL_FEC_UNC.CNT` [31:0], RC. -/
def HL_FEC_UNC_CNT (n : Nat) : Fld := ⟨(HL_FEC_UNC n), 0, 32⟩
/-- `HL_CRC_ERR` (R97). -/
def HL_CRC_ERR (n : Nat) : Nat := 0x100098 + n * 0x1000
/-- `HL_CRC_ERR.CNT` [15:0], RC. -/
def HL_CRC_ERR_CNT (n : Nat) : Fld := ⟨(HL_CRC_ERR n), 0, 16⟩
/-- `HL_SEQ_GAP_CNT` (R97). -/
def HL_SEQ_GAP_CNT (n : Nat) : Nat := 0x10009C + n * 0x1000
/-- `HL_SEQ_GAP_CNT.CNT` [15:0], RC. -/
def HL_SEQ_GAP_CNT_CNT (n : Nat) : Fld := ⟨(HL_SEQ_GAP_CNT n), 0, 16⟩
/-- `HL_TRIG_CNT` (R97). -/
def HL_TRIG_CNT (n : Nat) : Nat := 0x1000A0 + n * 0x1000
/-- `HL_TRIG_CNT.CNT` [31:0], RC. -/
def HL_TRIG_CNT_CNT (n : Nat) : Fld := ⟨(HL_TRIG_CNT n), 0, 32⟩
/-- `HL_TRIG_SKIP` (R97). -/
def HL_TRIG_SKIP (n : Nat) : Nat := 0x1000A4 + n * 0x1000
/-- `HL_TRIG_SKIP.CNT` [15:0], RC. -/
def HL_TRIG_SKIP_CNT (n : Nat) : Fld := ⟨(HL_TRIG_SKIP n), 0, 16⟩
/-- `HL_CAP_MISS` (R97). -/
def HL_CAP_MISS (n : Nat) : Nat := 0x1000A8 + n * 0x1000
/-- `HL_CAP_MISS.CNT` [15:0], RC. -/
def HL_CAP_MISS_CNT (n : Nat) : Fld := ⟨(HL_CAP_MISS n), 0, 16⟩
/-- `HL_REC_CNT` (R97). -/
def HL_REC_CNT (n : Nat) : Nat := 0x1000AC + n * 0x1000
/-- `HL_REC_CNT.CNT` [31:0], RC. -/
def HL_REC_CNT_CNT (n : Nat) : Fld := ⟨(HL_REC_CNT n), 0, 32⟩
/-- `HL_CROP_DROP` (R97). -/
def HL_CROP_DROP (n : Nat) : Nat := 0x1000B0 + n * 0x1000
/-- `HL_CROP_DROP.CNT` [15:0], RC. -/
def HL_CROP_DROP_CNT (n : Nat) : Fld := ⟨(HL_CROP_DROP n), 0, 16⟩
/-- `HL_CREDIT_VIOL` (R97). -/
def HL_CREDIT_VIOL (n : Nat) : Nat := 0x1000B4 + n * 0x1000
/-- `HL_CREDIT_VIOL.CNT` [15:0], RC. -/
def HL_CREDIT_VIOL_CNT (n : Nat) : Fld := ⟨(HL_CREDIT_VIOL n), 0, 16⟩
/-- `HL_VER_BAD` (R97). -/
def HL_VER_BAD (n : Nat) : Nat := 0x1000B8 + n * 0x1000
/-- `HL_VER_BAD.CNT` [15:0], RC. -/
def HL_VER_BAD_CNT (n : Nat) : Fld := ⟨(HL_VER_BAD n), 0, 16⟩
/-- `HL_LOSS_CNT` (R97). -/
def HL_LOSS_CNT (n : Nat) : Nat := 0x1000BC + n * 0x1000
/-- `HL_LOSS_CNT.CNT` [15:0], RC. -/
def HL_LOSS_CNT_CNT (n : Nat) : Fld := ⟨(HL_LOSS_CNT n), 0, 16⟩
/-- `HL_REC_DROP` (R97). -/
def HL_REC_DROP (n : Nat) : Nat := 0x1000C0 + n * 0x1000
/-- `HL_REC_DROP.CNT` [15:0], RC. -/
def HL_REC_DROP_CNT (n : Nat) : Fld := ⟨(HL_REC_DROP n), 0, 16⟩
/-- `HL_CROP_BASE` (R97). -/
def HL_CROP_BASE (n : Nat) : Nat := 0x1000C8 + n * 0x1000
/-- `HL_CROP_SLOTS` (R97). -/
def HL_CROP_SLOTS (n : Nat) : Nat := 0x1000D0 + n * 0x1000
/-- `HL_CROP_SLOTS.N` [15:0], RW. -/
def HL_CROP_SLOTS_N (n : Nat) : Fld := ⟨(HL_CROP_SLOTS n), 0, 16⟩
/-- `HL_CMB_CTRL` (R97). -/
def HL_CMB_CTRL (n : Nat) : Nat := 0x100100 + n * 0x1000
/-- `HL_CMB_CTRL.GO` [0:0], WO. -/
def HL_CMB_CTRL_GO (n : Nat) : Fld := ⟨(HL_CMB_CTRL n), 0, 1⟩
/-- `HL_CMB_CTRL.BUSY` [1:1], RO. -/
def HL_CMB_CTRL_BUSY (n : Nat) : Fld := ⟨(HL_CMB_CTRL n), 1, 1⟩
/-- `HL_CMB_CTRL.OP` [15:8], RW. -/
def HL_CMB_CTRL_OP (n : Nat) : Fld := ⟨(HL_CMB_CTRL n), 8, 8⟩
/-- `HL_CMB_CTRL.RSP_STATUS` [23:16], RO. -/
def HL_CMB_CTRL_RSP_STATUS (n : Nat) : Fld := ⟨(HL_CMB_CTRL n), 16, 8⟩
/-- `HL_CMB_ADDR` (R97). -/
def HL_CMB_ADDR (n : Nat) : Nat := 0x100104 + n * 0x1000
/-- `HL_CMB_ADDR.ADDR` [31:0], RW. -/
def HL_CMB_ADDR_ADDR (n : Nat) : Fld := ⟨(HL_CMB_ADDR n), 0, 32⟩
/-- `HL_CMB_DATA` (R97). -/
def HL_CMB_DATA (n i : Nat) : Nat := 0x100140 + n * 0x1000 + i * 0x4
/-- `HL_CMB_DATA.DATA` [31:0], RW. -/
def HL_CMB_DATA_DATA (n i : Nat) : Fld := ⟨(HL_CMB_DATA n i), 0, 32⟩

/-! ### HL globals (02_head_links.md) -/

/-- `HL_REQ_TOP` (R97). -/
def HL_REQ_TOP (d : Nat) : Nat := 0x130000 + d * 0x10
/-- `HL_REQ_TOP.LO` [15:0], RW. -/
def HL_REQ_TOP_LO (d : Nat) : Fld := ⟨(HL_REQ_TOP d), 0, 16⟩
/-- `HL_REQ_TOP.HI` [31:16], RW. -/
def HL_REQ_TOP_HI (d : Nat) : Fld := ⟨(HL_REQ_TOP d), 16, 16⟩
/-- `HL_REQ_BOT` (R97). -/
def HL_REQ_BOT (d : Nat) : Nat := 0x130004 + d * 0x10
/-- `HL_REQ_BOT.LO` [15:0], RW. -/
def HL_REQ_BOT_LO (d : Nat) : Fld := ⟨(HL_REQ_BOT d), 0, 16⟩
/-- `HL_REQ_BOT.HI` [31:16], RW. -/
def HL_REQ_BOT_HI (d : Nat) : Fld := ⟨(HL_REQ_BOT d), 16, 16⟩
/-- `HL_GAP_TOP` (R97). -/
def HL_GAP_TOP (d : Nat) : Nat := 0x130008 + d * 0x10
/-- `HL_GAP_TOP.LO` [15:0], RO. -/
def HL_GAP_TOP_LO (d : Nat) : Fld := ⟨(HL_GAP_TOP d), 0, 16⟩
/-- `HL_GAP_TOP.HI` [31:16], RO. -/
def HL_GAP_TOP_HI (d : Nat) : Fld := ⟨(HL_GAP_TOP d), 16, 16⟩
/-- `HL_GAP_BOT` (R97). -/
def HL_GAP_BOT (d : Nat) : Nat := 0x13000C + d * 0x10
/-- `HL_GAP_BOT.LO` [15:0], RO. -/
def HL_GAP_BOT_LO (d : Nat) : Fld := ⟨(HL_GAP_BOT d), 0, 16⟩
/-- `HL_GAP_BOT.HI` [31:16], RO. -/
def HL_GAP_BOT_HI (d : Nat) : Fld := ⟨(HL_GAP_BOT d), 16, 16⟩
/-- `HL_GAP_STAT` (R97). -/
def HL_GAP_STAT : Nat := 0x130040
/-- `HL_GAP_STAT.GAP` [7:0], RO. -/
def HL_GAP_STAT_GAP : Fld := ⟨HL_GAP_STAT, 0, 8⟩
/-- `HL_ACTIVE_LO` (R97). -/
def HL_ACTIVE_LO : Nat := 0x130044
/-- `HL_ACTIVE_LO.MAP` [31:0], RO. -/
def HL_ACTIVE_LO_MAP : Fld := ⟨HL_ACTIVE_LO, 0, 32⟩
/-- `HL_ACTIVE_HI` (R97). -/
def HL_ACTIVE_HI : Nat := 0x130048
/-- `HL_ACTIVE_HI.MAP` [15:0], RO. -/
def HL_ACTIVE_HI_MAP : Fld := ⟨HL_ACTIVE_HI, 0, 16⟩
/-- `HL_PEER` (R97). -/
def HL_PEER : Nat := 0x13004C
/-- `HL_PEER.LANE0` [5:0], RO. -/
def HL_PEER_LANE0 : Fld := ⟨HL_PEER, 0, 6⟩
/-- `HL_PEER.V0` [6:6], RO. -/
def HL_PEER_V0 : Fld := ⟨HL_PEER, 6, 1⟩
/-- `HL_PEER.LANE1` [13:8], RO. -/
def HL_PEER_LANE1 : Fld := ⟨HL_PEER, 8, 6⟩
/-- `HL_PEER.V1` [14:14], RO. -/
def HL_PEER_V1 : Fld := ⟨HL_PEER, 14, 1⟩
/-- `HL_IDLIST_BASE` (R97). -/
def HL_IDLIST_BASE : Nat := 0x130050
/-- `HL_IDLIST_N` (R97). -/
def HL_IDLIST_N : Nat := 0x130058
/-- `HL_IDLIST_N.N` [7:0], RW. -/
def HL_IDLIST_N_N : Fld := ⟨HL_IDLIST_N, 0, 8⟩
/-- `HL_GAP_CNT` (R97). -/
def HL_GAP_CNT : Nat := 0x13005C
/-- `HL_GAP_CNT.CNT` [15:0], RC. -/
def HL_GAP_CNT_CNT : Fld := ⟨HL_GAP_CNT, 0, 16⟩

/-! ### TE globals (03_tracks.md) -/

/-- `TE_CTRL` (R128). -/
def TE_CTRL : Nat := 0x140000
/-- `TE_CTRL.EN` [0:0], RW. -/
def TE_CTRL_EN : Fld := ⟨TE_CTRL, 0, 1⟩
/-- `TE_STAT` (R128). -/
def TE_STAT : Nat := 0x140004
/-- `TE_STAT.LAGGING` [0:0], RO. -/
def TE_STAT_LAGGING : Fld := ⟨TE_STAT, 0, 1⟩
/-- `TE_STAT.POOL_PAUSE` [1:1], RO. -/
def TE_STAT_POOL_PAUSE : Fld := ⟨TE_STAT, 1, 1⟩
/-- `TE_STAT.PARTIAL` [2:2], RO. -/
def TE_STAT_PARTIAL : Fld := ⟨TE_STAT, 2, 1⟩
/-- `TE_STAT.APPLYING` [3:3], RO. -/
def TE_STAT_APPLYING : Fld := ⟨TE_STAT, 3, 1⟩
/-- `TE_STAT.CFG_REJ` [8:8], W1C. -/
def TE_STAT_CFG_REJ : Fld := ⟨TE_STAT, 8, 1⟩
/-- `TE_BATCH_FN` (R128). -/
def TE_BATCH_FN : Nat := 0x140008
/-- `TE_SNAP_FN` (R128). -/
def TE_SNAP_FN : Nat := 0x140010
/-- `TE_SNAP_BATCH` (R128). -/
def TE_SNAP_BATCH : Nat := 0x140018
/-- `TE_FREE_CNT` (R128). -/
def TE_FREE_CNT : Nat := 0x140020
/-- `TE_FREE_CNT.N` [20:0], RO. -/
def TE_FREE_CNT_N : Fld := ⟨TE_FREE_CNT, 0, 21⟩
/-- `TE_LOW_WM` (R128). -/
def TE_LOW_WM : Nat := 0x140024
/-- `TE_LOW_WM.N` [20:0], RW. -/
def TE_LOW_WM_N : Fld := ⟨TE_LOW_WM, 0, 21⟩
/-- `TE_BATCH_MAX` (R128). -/
def TE_BATCH_MAX : Nat := 0x140028
/-- `TE_BATCH_MAX.N` [20:0], RW. -/
def TE_BATCH_MAX_N : Fld := ⟨TE_BATCH_MAX, 0, 21⟩
/-- `TE_DEC_TO` (R128). -/
def TE_DEC_TO : Nat := 0x14002C
/-- `TE_DEC_TO.FIRINGS` [15:0], RW. -/
def TE_DEC_TO_FIRINGS : Fld := ⟨TE_DEC_TO, 0, 16⟩
/-- `TE_DEC` (R128). -/
def TE_DEC : Nat := 0x140030
/-- `TE_DEC.ID` [19:0], WO. -/
def TE_DEC_ID : Fld := ⟨TE_DEC, 0, 20⟩
/-- `TE_DEC.ACTION` [21:20], WO. -/
def TE_DEC_ACTION : Fld := ⟨TE_DEC, 20, 2⟩
/-- `TE_DEC.CLASS` [31:24], WO. -/
def TE_DEC_CLASS : Fld := ⟨TE_DEC, 24, 8⟩
/-- `TE_DEC_PEND` (R128). -/
def TE_DEC_PEND : Nat := 0x140034
/-- `TE_DEC_PEND.N` [12:0], RO. -/
def TE_DEC_PEND_N : Fld := ⟨TE_DEC_PEND, 0, 13⟩
/-- `TE_POOL_USED` (R128). -/
def TE_POOL_USED : Nat := 0x140038
/-- `TE_POOL_USED.N` [17:0], RO. -/
def TE_POOL_USED_N : Fld := ⟨TE_POOL_USED, 0, 18⟩
/-- `TE_POOL_PEAK` (R128). -/
def TE_POOL_PEAK : Nat := 0x14003C
/-- `TE_POOL_PEAK.N` [17:0], RC. -/
def TE_POOL_PEAK_N : Fld := ⟨TE_POOL_PEAK, 0, 18⟩
/-- `TE_APPLY_LAST` (R128). -/
def TE_APPLY_LAST : Nat := 0x140040
/-- `TE_APPLY_LAST.FCLK` [23:0], RO. -/
def TE_APPLY_LAST_FCLK : Fld := ⟨TE_APPLY_LAST, 0, 24⟩
/-- `TE_APPLY_MAX` (R128). -/
def TE_APPLY_MAX : Nat := 0x140044
/-- `TE_APPLY_MAX.FCLK` [23:0], RC. -/
def TE_APPLY_MAX_FCLK : Fld := ⟨TE_APPLY_MAX, 0, 24⟩
/-- `TE_BATCH_RECS` (R128). -/
def TE_BATCH_RECS : Nat := 0x140048
/-- `TE_BATCH_RECS.N` [20:0], RO. -/
def TE_BATCH_RECS_N : Fld := ⟨TE_BATCH_RECS, 0, 21⟩
/-- `TE_REC_CNT` (R128). -/
def TE_REC_CNT : Nat := 0x140050
/-- `TE_REC_CNT.CNT` [31:0], RC. -/
def TE_REC_CNT_CNT : Fld := ⟨TE_REC_CNT, 0, 32⟩
/-- `TE_LATE_CNT` (R128). -/
def TE_LATE_CNT : Nat := 0x140054
/-- `TE_LATE_CNT.CNT` [31:0], RC. -/
def TE_LATE_CNT_CNT : Fld := ⟨TE_LATE_CNT, 0, 32⟩
/-- `TE_POSFAIL_CNT` (R128). -/
def TE_POSFAIL_CNT : Nat := 0x140058
/-- `TE_POSFAIL_CNT.CNT` [15:0], RC. -/
def TE_POSFAIL_CNT_CNT : Fld := ⟨TE_POSFAIL_CNT, 0, 16⟩
/-- `TE_NOLAT_CNT` (R128). -/
def TE_NOLAT_CNT : Nat := 0x14005C
/-- `TE_NOLAT_CNT.CNT` [15:0], RC. -/
def TE_NOLAT_CNT_CNT : Fld := ⟨TE_NOLAT_CNT, 0, 16⟩
/-- `TE_TRUNC_CNT` (R128). -/
def TE_TRUNC_CNT : Nat := 0x140060
/-- `TE_TRUNC_CNT.CNT` [31:0], RC. -/
def TE_TRUNC_CNT_CNT : Fld := ⟨TE_TRUNC_CNT, 0, 32⟩
/-- `TE_FULL_DROP` (R128). -/
def TE_FULL_DROP : Nat := 0x140064
/-- `TE_FULL_DROP.CNT` [31:0], RC. -/
def TE_FULL_DROP_CNT : Fld := ⟨TE_FULL_DROP, 0, 32⟩
/-- `TE_CQ_OVF_CNT` (R128). -/
def TE_CQ_OVF_CNT : Nat := 0x140068
/-- `TE_CQ_OVF_CNT.CNT` [15:0], RC. -/
def TE_CQ_OVF_CNT_CNT : Fld := ⟨TE_CQ_OVF_CNT, 0, 16⟩
/-- `TE_DEC_BAD` (R128). -/
def TE_DEC_BAD : Nat := 0x14006C
/-- `TE_DEC_BAD.CNT` [15:0], RC. -/
def TE_DEC_BAD_CNT : Fld := ⟨TE_DEC_BAD, 0, 16⟩
/-- `TE_DEC_OVF` (R128). -/
def TE_DEC_OVF : Nat := 0x140070
/-- `TE_DEC_OVF.CNT` [15:0], RC. -/
def TE_DEC_OVF_CNT : Fld := ⟨TE_DEC_OVF, 0, 16⟩
/-- `TE_CAND_OVF` (R128). -/
def TE_CAND_OVF : Nat := 0x140074
/-- `TE_CAND_OVF.CNT` [31:0], RC. -/
def TE_CAND_OVF_CNT : Fld := ⟨TE_CAND_OVF, 0, 32⟩
/-- `TE_COL_EVICT` (R128). -/
def TE_COL_EVICT : Nat := 0x140078
/-- `TE_COL_EVICT.CNT` [31:0], RC. -/
def TE_COL_EVICT_CNT : Fld := ⟨TE_COL_EVICT, 0, 32⟩
/-- `TE_BEHIND_CNT` (R128). -/
def TE_BEHIND_CNT : Nat := 0x14007C
/-- `TE_BEHIND_CNT.CNT` [31:0], RC. -/
def TE_BEHIND_CNT_CNT : Fld := ⟨TE_BEHIND_CNT, 0, 32⟩
/-- `TE_MERGE_CNT` (R128). -/
def TE_MERGE_CNT : Nat := 0x140080
/-- `TE_MERGE_CNT.CNT` [31:0], RC. -/
def TE_MERGE_CNT_CNT : Fld := ⟨TE_MERGE_CNT, 0, 32⟩
/-- `TE_DEC_TO_CNT` (R128). -/
def TE_DEC_TO_CNT : Nat := 0x140084
/-- `TE_DEC_TO_CNT.CNT` [31:0], RC. -/
def TE_DEC_TO_CNT_CNT : Fld := ⟨TE_DEC_TO_CNT, 0, 32⟩
/-- `TE_NODOM_CNT` (R128). -/
def TE_NODOM_CNT : Nat := 0x140088
/-- `TE_NODOM_CNT.CNT` [15:0], RC. -/
def TE_NODOM_CNT_CNT : Fld := ⟨TE_NODOM_CNT, 0, 16⟩
/-- `TE_CLASS_GRP` (R128). -/
def TE_CLASS_GRP (i : Nat) : Nat := 0x140200 + i * 0x4
/-- `TE_CLASS_GRP.GRP` [31:0], RW. -/
def TE_CLASS_GRP_GRP (i : Nat) : Fld := ⟨(TE_CLASS_GRP i), 0, 32⟩
/-- `TE_GRP_COMPAT` (R128). -/
def TE_GRP_COMPAT (g : Nat) : Nat := 0x140280 + g * 0x4
/-- `TE_GRP_COMPAT.MASK` [15:0], RW. -/
def TE_GRP_COMPAT_MASK (g : Nat) : Fld := ⟨(TE_GRP_COMPAT g), 0, 16⟩

/-! ### TE per domain (03_tracks.md) -/

/-- `TE_DCFG` (R128). -/
def TE_DCFG (d : Nat) : Nat := 0x140400 + d * 0x80
/-- `TE_DCFG.EN` [0:0], RW. -/
def TE_DCFG_EN (d : Nat) : Fld := ⟨(TE_DCFG d), 0, 1⟩
/-- `TE_DCFG.MERGE` [1:1], RW. -/
def TE_DCFG_MERGE (d : Nat) : Fld := ⟨(TE_DCFG d), 1, 1⟩
/-- `TE_DCFG.COL_W` [23:16], RW. -/
def TE_DCFG_COL_W (d : Nat) : Fld := ⟨(TE_DCFG d), 16, 8⟩
/-- `TE_COL_ORG` (R128). -/
def TE_COL_ORG (d : Nat) : Nat := 0x140404 + d * 0x80
/-- `TE_COL_ORG.ORG` [15:0], RW. -/
def TE_COL_ORG_ORG (d : Nat) : Fld := ⟨(TE_COL_ORG d), 0, 16⟩
/-- `TE_SCALE` (R128). -/
def TE_SCALE (d : Nat) : Nat := 0x140408 + d * 0x80
/-- `TE_SCALE.S` [31:0], RW. -/
def TE_SCALE_S (d : Nat) : Fld := ⟨(TE_SCALE d), 0, 32⟩
/-- `TE_LAT_TOL` (R128). -/
def TE_LAT_TOL (d : Nat) : Nat := 0x14040C + d * 0x80
/-- `TE_LAT_TOL.TOL` [15:0], RW. -/
def TE_LAT_TOL_TOL (d : Nat) : Fld := ⟨(TE_LAT_TOL d), 0, 16⟩
/-- `TE_GAP` (R128). -/
def TE_GAP (d : Nat) : Nat := 0x140410 + d * 0x80
/-- `TE_GAP.PV` [31:0], RW. -/
def TE_GAP_PV (d : Nat) : Fld := ⟨(TE_GAP d), 0, 32⟩
/-- `TE_CLOSE_MARGIN` (R128). -/
def TE_CLOSE_MARGIN (d : Nat) : Nat := 0x140414 + d * 0x80
/-- `TE_CLOSE_MARGIN.PV` [31:0], RW. -/
def TE_CLOSE_MARGIN_PV (d : Nat) : Fld := ⟨(TE_CLOSE_MARGIN d), 0, 32⟩
/-- `TE_MAXLEN` (R128). -/
def TE_MAXLEN (d : Nat) : Nat := 0x140418 + d * 0x80
/-- `TE_MAXLEN.PV` [31:0], RW. -/
def TE_MAXLEN_PV (d : Nat) : Fld := ⟨(TE_MAXLEN d), 0, 32⟩
/-- `TE_HZN` (R128). -/
def TE_HZN (d : Nat) : Nat := 0x140420 + d * 0x80
/-- `TE_OPEN_TOP` (R128). -/
def TE_OPEN_TOP (d : Nat) : Nat := 0x140428 + d * 0x80
/-- `TE_OPEN_TOP.N` [20:0], RO. -/
def TE_OPEN_TOP_N (d : Nat) : Fld := ⟨(TE_OPEN_TOP d), 0, 21⟩
/-- `TE_OPEN_BOT` (R128). -/
def TE_OPEN_BOT (d : Nat) : Nat := 0x14042C + d * 0x80
/-- `TE_OPEN_BOT.N` [20:0], RO. -/
def TE_OPEN_BOT_N (d : Nat) : Fld := ⟨(TE_OPEN_BOT d), 0, 21⟩
/-- `TE_EDGE_TOP` (R128). -/
def TE_EDGE_TOP (d : Nat) : Nat := 0x140430 + d * 0x80
/-- `TE_EDGE_TOP.LO` [15:0], RO. -/
def TE_EDGE_TOP_LO (d : Nat) : Fld := ⟨(TE_EDGE_TOP d), 0, 16⟩
/-- `TE_EDGE_TOP.HI` [31:16], RO. -/
def TE_EDGE_TOP_HI (d : Nat) : Fld := ⟨(TE_EDGE_TOP d), 16, 16⟩
/-- `TE_EDGE_BOT` (R128). -/
def TE_EDGE_BOT (d : Nat) : Nat := 0x140434 + d * 0x80
/-- `TE_EDGE_BOT.LOHI` [31:0], RO. -/
def TE_EDGE_BOT_LOHI (d : Nat) : Fld := ⟨(TE_EDGE_BOT d), 0, 32⟩
/-- `TE_CQ_BASE` (R128). -/
def TE_CQ_BASE (d : Nat) : Nat := 0x140438 + d * 0x80
/-- `TE_CQ_SIZE` (R128). -/
def TE_CQ_SIZE (d : Nat) : Nat := 0x140440 + d * 0x80
/-- `TE_CQ_SIZE.LOG2` [3:0], RW. -/
def TE_CQ_SIZE_LOG2 (d : Nat) : Fld := ⟨(TE_CQ_SIZE d), 0, 4⟩
/-- `TE_CQ_HEAD` (R128). -/
def TE_CQ_HEAD (d : Nat) : Nat := 0x140444 + d * 0x80
/-- `TE_CQ_HEAD.CNT` [31:0], RO. -/
def TE_CQ_HEAD_CNT (d : Nat) : Fld := ⟨(TE_CQ_HEAD d), 0, 32⟩
/-- `TE_CQ_TAIL` (R128). -/
def TE_CQ_TAIL (d : Nat) : Nat := 0x140448 + d * 0x80
/-- `TE_CQ_TAIL.CNT` [31:0], RW. -/
def TE_CQ_TAIL_CNT (d : Nat) : Fld := ⟨(TE_CQ_TAIL d), 0, 32⟩
/-- `TE_RPT_CFG` (R128). -/
def TE_RPT_CFG (d : Nat) : Nat := 0x14044C + d * 0x80
/-- `TE_RPT_CFG.MIN` [3:0], RW. -/
def TE_RPT_CFG_MIN (d : Nat) : Fld := ⟨(TE_RPT_CFG d), 0, 4⟩
/-- `TE_RPT_CFG.KMAX` [7:4], RW. -/
def TE_RPT_CFG_KMAX (d : Nat) : Fld := ⟨(TE_RPT_CFG d), 4, 4⟩
/-- `TE_RPT_CFG.LTOL` [31:16], RW. -/
def TE_RPT_CFG_LTOL (d : Nat) : Fld := ⟨(TE_RPT_CFG d), 16, 16⟩
/-- `TE_RPT_HIST` (R128). -/
def TE_RPT_HIST (d : Nat) : Nat := 0x140450 + d * 0x80
/-- `TE_RPT_HIST.N` [14:0], RO. -/
def TE_RPT_HIST_N (d : Nat) : Fld := ⟨(TE_RPT_HIST d), 0, 15⟩

/-! ### TE_ROLL (03_tracks.md) -/

/-- `TE_ROLL_CIRC` (R128). -/
def TE_ROLL_CIRC (d r : Nat) : Nat := 0x141000 + d * 0x400 + r * 0x10
/-- `TE_ROLL_CIRC.PV` [31:0], RW. -/
def TE_ROLL_CIRC_PV (d r : Nat) : Fld := ⟨(TE_ROLL_CIRC d r), 0, 32⟩
/-- `TE_ROLL_CFG` (R128). -/
def TE_ROLL_CFG (d r : Nat) : Nat := 0x141004 + d * 0x400 + r * 0x10
/-- `TE_ROLL_CFG.TOL` [23:0], RW. -/
def TE_ROLL_CFG_TOL (d r : Nat) : Fld := ⟨(TE_ROLL_CFG d r), 0, 24⟩
/-- `TE_ROLL_CFG.TOP` [24:24], RW. -/
def TE_ROLL_CFG_TOP (d r : Nat) : Fld := ⟨(TE_ROLL_CFG d r), 24, 1⟩
/-- `TE_ROLL_CFG.BOT` [25:25], RW. -/
def TE_ROLL_CFG_BOT (d r : Nat) : Fld := ⟨(TE_ROLL_CFG d r), 25, 1⟩
/-- `TE_ROLL_HITS` (R128). -/
def TE_ROLL_HITS (d r : Nat) : Nat := 0x141008 + d * 0x400 + r * 0x10
/-- `TE_ROLL_HITS.CNT` [31:0], RC. -/
def TE_ROLL_HITS_CNT (d r : Nat) : Fld := ⟨(TE_ROLL_HITS d r), 0, 32⟩
/-- `TE_ROLL_LAST` (R128). -/
def TE_ROLL_LAST (d r : Nat) : Nat := 0x14100C + d * 0x400 + r * 0x10
/-- `TE_ROLL_LAST.ID` [19:0], RO. -/
def TE_ROLL_LAST_ID (d r : Nat) : Fld := ⟨(TE_ROLL_LAST d r), 0, 20⟩
/-- `TE_ROLL_LAST.CHAIN` [23:20], RO. -/
def TE_ROLL_LAST_CHAIN (d r : Nat) : Fld := ⟨(TE_ROLL_LAST d r), 20, 4⟩

/-! ### VE globals (04_verify_engine.md) -/

/-- `VE_CTRL` (R151). -/
def VE_CTRL : Nat := 0x150000
/-- `VE_CTRL.EN` [0:0], RW. -/
def VE_CTRL_EN : Fld := ⟨VE_CTRL, 0, 1⟩
/-- `VE_CAP` (R151). -/
def VE_CAP : Nat := 0x150004
/-- `VE_CAP.PCT` [6:0], RW. -/
def VE_CAP_PCT : Fld := ⟨VE_CAP, 0, 7⟩
/-- `VE_STAT` (R151). -/
def VE_STAT : Nat := 0x150008
/-- `VE_STAT.CFG_REJ` [0:0], W1C. -/
def VE_STAT_CFG_REJ : Fld := ⟨VE_STAT, 0, 1⟩
/-- `VE_STAT.ADMITTING` [1:1], RO. -/
def VE_STAT_ADMITTING : Fld := ⟨VE_STAT, 1, 1⟩
/-- `VE_TILE_EN_LO` (R151). -/
def VE_TILE_EN_LO : Nat := 0x15000C
/-- `VE_TILE_EN_LO.EN` [31:0], RW. -/
def VE_TILE_EN_LO_EN : Fld := ⟨VE_TILE_EN_LO, 0, 32⟩
/-- `VE_TILE_EN_HI` (R151). -/
def VE_TILE_EN_HI : Nat := 0x150010
/-- `VE_TILE_EN_HI.EN` [31:0], RW. -/
def VE_TILE_EN_HI_EN : Fld := ⟨VE_TILE_EN_HI, 0, 32⟩
/-- `VE_TILE_OK_LO` (R151). -/
def VE_TILE_OK_LO : Nat := 0x150014
/-- `VE_TILE_OK_LO.MAP` [31:0], RO. -/
def VE_TILE_OK_LO_MAP : Fld := ⟨VE_TILE_OK_LO, 0, 32⟩
/-- `VE_TILE_OK_HI` (R151). -/
def VE_TILE_OK_HI : Nat := 0x150018
/-- `VE_TILE_OK_HI.MAP` [31:0], RO. -/
def VE_TILE_OK_HI_MAP : Fld := ⟨VE_TILE_OK_HI, 0, 32⟩
/-- `VE_NTILES` (R151). -/
def VE_NTILES : Nat := 0x15001C
/-- `VE_NTILES.T` [6:0], RO. -/
def VE_NTILES_T : Fld := ⟨VE_NTILES, 0, 7⟩
/-- `VE_CTILE` (R151). -/
def VE_CTILE : Nat := 0x150020
/-- `VE_CTILE.FCLK` [23:0], RO. -/
def VE_CTILE_FCLK : Fld := ⟨VE_CTILE, 0, 24⟩
/-- `VE_BUDGET` (R151). -/
def VE_BUDGET : Nat := 0x150024
/-- `VE_BUDGET.FCLK` [31:0], RO. -/
def VE_BUDGET_FCLK : Fld := ⟨VE_BUDGET, 0, 32⟩
/-- `VE_ADMITTED` (R151). -/
def VE_ADMITTED : Nat := 0x150028
/-- `VE_ADMITTED.FCLK` [31:0], RO. -/
def VE_ADMITTED_FCLK : Fld := ⟨VE_ADMITTED, 0, 32⟩
/-- `VE_ADMIT_N` (R151). -/
def VE_ADMIT_N : Nat := 0x15002C
/-- `VE_ADMIT_N.N` [10:0], RO. -/
def VE_ADMIT_N_N : Fld := ⟨VE_ADMIT_N, 0, 11⟩
/-- `VE_POOL_N` (R151). -/
def VE_POOL_N : Nat := 0x150030
/-- `VE_POOL_N.N` [10:0], RO. -/
def VE_POOL_N_N : Fld := ⟨VE_POOL_N, 0, 11⟩
/-- `VE_CAND_N` (R151). -/
def VE_CAND_N : Nat := 0x150034
/-- `VE_CAND_N.N` [10:0], RO. -/
def VE_CAND_N_N : Fld := ⟨VE_CAND_N, 0, 11⟩
/-- `VE_TILE_PEAK` (R151). -/
def VE_TILE_PEAK : Nat := 0x150038
/-- `VE_TILE_PEAK.FCLK` [23:0], RO. -/
def VE_TILE_PEAK_FCLK : Fld := ⟨VE_TILE_PEAK, 0, 24⟩
/-- `VE_ADMIT_CNT` (R151). -/
def VE_ADMIT_CNT : Nat := 0x150040
/-- `VE_ADMIT_CNT.CNT` [31:0], RC. -/
def VE_ADMIT_CNT_CNT : Fld := ⟨VE_ADMIT_CNT, 0, 32⟩
/-- `VE_REJ_CNT` (R151). -/
def VE_REJ_CNT : Nat := 0x150044
/-- `VE_REJ_CNT.CNT` [31:0], RC. -/
def VE_REJ_CNT_CNT : Fld := ⟨VE_REJ_CNT, 0, 32⟩
/-- `VE_DEFER_CNT` (R151). -/
def VE_DEFER_CNT : Nat := 0x150048
/-- `VE_DEFER_CNT.CNT` [31:0], RC. -/
def VE_DEFER_CNT_CNT : Fld := ⟨VE_DEFER_CNT, 0, 32⟩
/-- `VE_POOL_OVF` (R151). -/
def VE_POOL_OVF : Nat := 0x15004C
/-- `VE_POOL_OVF.CNT` [15:0], RC. -/
def VE_POOL_OVF_CNT : Fld := ⟨VE_POOL_OVF, 0, 16⟩
/-- `VE_OVERRUN_CNT` (R151). -/
def VE_OVERRUN_CNT : Nat := 0x150050
/-- `VE_OVERRUN_CNT.CNT` [15:0], RC. -/
def VE_OVERRUN_CNT_CNT : Fld := ⟨VE_OVERRUN_CNT, 0, 16⟩
/-- `VE_MEMERR_CNT` (R151). -/
def VE_MEMERR_CNT : Nat := 0x150054
/-- `VE_MEMERR_CNT.CNT` [15:0], RC. -/
def VE_MEMERR_CNT_CNT : Fld := ⟨VE_MEMERR_CNT, 0, 16⟩
/-- `VE_DEADLINE_CNT` (R151). -/
def VE_DEADLINE_CNT : Nat := 0x150058
/-- `VE_DEADLINE_CNT.CNT` [15:0], RC. -/
def VE_DEADLINE_CNT_CNT : Fld := ⟨VE_DEADLINE_CNT, 0, 16⟩
/-- `VE_CANCEL_CNT` (R151). -/
def VE_CANCEL_CNT : Nat := 0x15005C
/-- `VE_CANCEL_CNT.CNT` [31:0], RC. -/
def VE_CANCEL_CNT_CNT : Fld := ⟨VE_CANCEL_CNT, 0, 32⟩
/-- `VE_QUAR_N` (R151). -/
def VE_QUAR_N : Nat := 0x150060
/-- `VE_QUAR_N.N` [3:0], RW. -/
def VE_QUAR_N_N : Fld := ⟨VE_QUAR_N, 0, 4⟩
/-- `VE_KSVN_MIN` (R151). -/
def VE_KSVN_MIN : Nat := 0x150064
/-- `VE_KSVN_MIN.SVN` [31:0], RWL. -/
def VE_KSVN_MIN_SVN : Fld := ⟨VE_KSVN_MIN, 0, 32⟩
/-- `VE_KLOAD_ADDR` (R151). -/
def VE_KLOAD_ADDR : Nat := 0x150080
/-- `VE_KLOAD_LEN` (R151). -/
def VE_KLOAD_LEN : Nat := 0x150088
/-- `VE_KLOAD_LEN.BYTES` [23:0], RW. -/
def VE_KLOAD_LEN_BYTES : Fld := ⟨VE_KLOAD_LEN, 0, 24⟩
/-- `VE_KLOAD_CTRL` (R151). -/
def VE_KLOAD_CTRL : Nat := 0x15008C
/-- `VE_KLOAD_CTRL.GO` [0:0], WO. -/
def VE_KLOAD_CTRL_GO : Fld := ⟨VE_KLOAD_CTRL, 0, 1⟩
/-- `VE_KLOAD_CTRL.UNLOAD` [1:1], WO. -/
def VE_KLOAD_CTRL_UNLOAD : Fld := ⟨VE_KLOAD_CTRL, 1, 1⟩
/-- `VE_KLOAD_CTRL.SLOT` [12:8], RW. -/
def VE_KLOAD_CTRL_SLOT : Fld := ⟨VE_KLOAD_CTRL, 8, 5⟩
/-- `VE_KLOAD_CTRL.BUSY` [16:16], RO. -/
def VE_KLOAD_CTRL_BUSY : Fld := ⟨VE_KLOAD_CTRL, 16, 1⟩
/-- `VE_KLOAD_CTRL.RESULT` [19:17], RO. -/
def VE_KLOAD_CTRL_RESULT : Fld := ⟨VE_KLOAD_CTRL, 17, 3⟩
/-- `VE_KSLOT_VALID` (R151). -/
def VE_KSLOT_VALID : Nat := 0x150090
/-- `VE_KSLOT_VALID.MAP` [31:0], RO. -/
def VE_KSLOT_VALID_MAP : Fld := ⟨VE_KSLOT_VALID, 0, 32⟩
/-- `VE_KSLOT_QUAR` (R151). -/
def VE_KSLOT_QUAR : Nat := 0x150094
/-- `VE_KSLOT_QUAR.MAP` [31:0], RO. -/
def VE_KSLOT_QUAR_MAP : Fld := ⟨VE_KSLOT_QUAR, 0, 32⟩

/-! ### VE group (04_verify_engine.md) -/

/-- `VE_SQ_BASE` (R151). -/
def VE_SQ_BASE (g : Nat) : Nat := 0x151000 + g * 0x100
/-- `VE_SQ_SIZE` (R151). -/
def VE_SQ_SIZE (g : Nat) : Nat := 0x151008 + g * 0x100
/-- `VE_SQ_SIZE.LOG2` [3:0], RW. -/
def VE_SQ_SIZE_LOG2 (g : Nat) : Fld := ⟨(VE_SQ_SIZE g), 0, 4⟩
/-- `VE_SQ_TAIL` (R151). -/
def VE_SQ_TAIL (g : Nat) : Nat := 0x15100C + g * 0x100
/-- `VE_SQ_TAIL.CNT` [31:0], RW. -/
def VE_SQ_TAIL_CNT (g : Nat) : Fld := ⟨(VE_SQ_TAIL g), 0, 32⟩
/-- `VE_SQ_HEAD` (R151). -/
def VE_SQ_HEAD (g : Nat) : Nat := 0x151010 + g * 0x100
/-- `VE_SQ_HEAD.CNT` [31:0], RO. -/
def VE_SQ_HEAD_CNT (g : Nat) : Fld := ⟨(VE_SQ_HEAD g), 0, 32⟩
/-- `VE_RQ_BASE` (R151). -/
def VE_RQ_BASE (g : Nat) : Nat := 0x151018 + g * 0x100
/-- `VE_RQ_SIZE` (R151). -/
def VE_RQ_SIZE (g : Nat) : Nat := 0x151020 + g * 0x100
/-- `VE_RQ_SIZE.LOG2` [3:0], RW. -/
def VE_RQ_SIZE_LOG2 (g : Nat) : Fld := ⟨(VE_RQ_SIZE g), 0, 4⟩
/-- `VE_RQ_HEAD` (R151). -/
def VE_RQ_HEAD (g : Nat) : Nat := 0x151024 + g * 0x100
/-- `VE_RQ_HEAD.CNT` [31:0], RO. -/
def VE_RQ_HEAD_CNT (g : Nat) : Fld := ⟨(VE_RQ_HEAD g), 0, 32⟩
/-- `VE_RQ_TAIL` (R151). -/
def VE_RQ_TAIL (g : Nat) : Nat := 0x151028 + g * 0x100
/-- `VE_RQ_TAIL.CNT` [31:0], RW. -/
def VE_RQ_TAIL_CNT (g : Nat) : Fld := ⟨(VE_RQ_TAIL g), 0, 32⟩
/-- `VE_SHARE` (R151). -/
def VE_SHARE (g : Nat) : Nat := 0x15102C + g * 0x100
/-- `VE_SHARE.N` [10:0], RW. -/
def VE_SHARE_N (g : Nat) : Fld := ⟨(VE_SHARE g), 0, 11⟩
/-- `VE_GUSED` (R151). -/
def VE_GUSED (g : Nat) : Nat := 0x151030 + g * 0x100
/-- `VE_GUSED.FCLK` [31:0], RO. -/
def VE_GUSED_FCLK (g : Nat) : Fld := ⟨(VE_GUSED g), 0, 32⟩
/-- `VE_G_STAT` (R151). -/
def VE_G_STAT (g : Nat) : Nat := 0x151034 + g * 0x100
/-- `VE_G_STAT.CFG_REJ` [0:0], W1C. -/
def VE_G_STAT_CFG_REJ (g : Nat) : Fld := ⟨(VE_G_STAT g), 0, 1⟩
/-- `VE_G_STAT.RQ_FULL` [1:1], W1C. -/
def VE_G_STAT_RQ_FULL (g : Nat) : Fld := ⟨(VE_G_STAT g), 1, 1⟩
/-- `VE_WIN_BASE` (R151). -/
def VE_WIN_BASE (g w : Nat) : Nat := 0x151040 + g * 0x100 + w * 0x10
/-- `VE_WIN_SIZE` (R151). -/
def VE_WIN_SIZE (g w : Nat) : Nat := 0x151048 + g * 0x100 + w * 0x10
/-- `VE_WIN_SIZE.KIB4` [27:0], RW. -/
def VE_WIN_SIZE_KIB4 (g w : Nat) : Fld := ⟨(VE_WIN_SIZE g w), 0, 28⟩
/-- `VE_WIN_CTRL` (R151). -/
def VE_WIN_CTRL (g w : Nat) : Nat := 0x15104C + g * 0x100 + w * 0x10
/-- `VE_WIN_CTRL.EN` [0:0], RW. -/
def VE_WIN_CTRL_EN (g w : Nat) : Fld := ⟨(VE_WIN_CTRL g w), 0, 1⟩
/-- `VE_WIN_CTRL.RD` [1:1], RW. -/
def VE_WIN_CTRL_RD (g w : Nat) : Fld := ⟨(VE_WIN_CTRL g w), 1, 1⟩
/-- `VE_WIN_CTRL.WR` [2:2], RW. -/
def VE_WIN_CTRL_WR (g w : Nat) : Fld := ⟨(VE_WIN_CTRL g w), 2, 1⟩
/-- `VE_CANCEL_TAG` (R151). -/
def VE_CANCEL_TAG (g : Nat) : Nat := 0x151080 + g * 0x100
/-- `VE_CANCEL_TAG.TAG` [31:0], RW. -/
def VE_CANCEL_TAG_TAG (g : Nat) : Fld := ⟨(VE_CANCEL_TAG g), 0, 32⟩
/-- `VE_CANCEL_MASK` (R151). -/
def VE_CANCEL_MASK (g : Nat) : Nat := 0x151084 + g * 0x100
/-- `VE_CANCEL_MASK.MASK` [31:0], RW. -/
def VE_CANCEL_MASK_MASK (g : Nat) : Fld := ⟨(VE_CANCEL_MASK g), 0, 32⟩
/-- `VE_CANCEL_CTRL` (R151). -/
def VE_CANCEL_CTRL (g : Nat) : Nat := 0x151088 + g * 0x100
/-- `VE_CANCEL_CTRL.GO` [0:0], WO. -/
def VE_CANCEL_CTRL_GO (g : Nat) : Fld := ⟨(VE_CANCEL_CTRL g), 0, 1⟩
/-- `VE_CANCEL_CTRL.DISCARD` [1:1], RW. -/
def VE_CANCEL_CTRL_DISCARD (g : Nat) : Fld := ⟨(VE_CANCEL_CTRL g), 1, 1⟩
/-- `VE_CANCEL_CTRL.PENDING` [2:2], RO. -/
def VE_CANCEL_CTRL_PENDING (g : Nat) : Fld := ⟨(VE_CANCEL_CTRL g), 2, 1⟩

/-! ### VT[t] (04_verify_engine.md) -/

/-- `VT_STAT` (R151). -/
def VT_STAT (t : Nat) : Nat := 0x160000 + t * 0x400
/-- `VT_STAT.STATE` [1:0], RO. -/
def VT_STAT_STATE (t : Nat) : Fld := ⟨(VT_STAT t), 0, 2⟩
/-- `VT_STAT.FAULT` [8:8], W1C. -/
def VT_STAT_FAULT (t : Nat) : Fld := ⟨(VT_STAT t), 8, 1⟩
/-- `VT_LOAD` (R151). -/
def VT_LOAD (t : Nat) : Nat := 0x160004 + t * 0x400
/-- `VT_LOAD.FCLK` [23:0], RO. -/
def VT_LOAD_FCLK (t : Nat) : Fld := ⟨(VT_LOAD t), 0, 24⟩
/-- `VT_JOBS` (R151). -/
def VT_JOBS (t : Nat) : Nat := 0x160008 + t * 0x400
/-- `VT_JOBS.N` [10:0], RO. -/
def VT_JOBS_N (t : Nat) : Fld := ⟨(VT_JOBS t), 0, 11⟩
/-- `VT_BUSY_LAST` (R151). -/
def VT_BUSY_LAST (t : Nat) : Nat := 0x16000C + t * 0x400
/-- `VT_BUSY_LAST.FCLK` [23:0], RO. -/
def VT_BUSY_LAST_FCLK (t : Nat) : Fld := ⟨(VT_BUSY_LAST t), 0, 24⟩
/-- `VT_LAT_CORR` (R151). -/
def VT_LAT_CORR (t : Nat) : Nat := 0x160010 + t * 0x400
/-- `VT_LAT_CORR.CNT` [15:0], RC. -/
def VT_LAT_CORR_CNT (t : Nat) : Fld := ⟨(VT_LAT_CORR t), 0, 16⟩
/-- `VT_LAT_UNC` (R151). -/
def VT_LAT_UNC (t : Nat) : Nat := 0x160014 + t * 0x400
/-- `VT_LAT_UNC.CNT` [15:0], RC. -/
def VT_LAT_UNC_CNT (t : Nat) : Fld := ⟨(VT_LAT_UNC t), 0, 16⟩
/-- `VT_JOB_CNT` (R151). -/
def VT_JOB_CNT (t : Nat) : Nat := 0x160018 + t * 0x400
/-- `VT_JOB_CNT.CNT` [31:0], RC. -/
def VT_JOB_CNT_CNT (t : Nat) : Fld := ⟨(VT_JOB_CNT t), 0, 32⟩
/-- `VT_OVERRUN_CNT` (R151). -/
def VT_OVERRUN_CNT (t : Nat) : Nat := 0x16001C + t * 0x400
/-- `VT_OVERRUN_CNT.CNT` [15:0], RC. -/
def VT_OVERRUN_CNT_CNT (t : Nat) : Fld := ⟨(VT_OVERRUN_CNT t), 0, 16⟩
/-- `VT_CTRL` (R151). -/
def VT_CTRL (t : Nat) : Nat := 0x160020 + t * 0x400
/-- `VT_CTRL.RETURN` [0:0], WO. -/
def VT_CTRL_RETURN (t : Nat) : Fld := ⟨(VT_CTRL t), 0, 1⟩
/-- `VT_CTRL.ST_FAIL` [1:1], RO. -/
def VT_CTRL_ST_FAIL (t : Nat) : Fld := ⟨(VT_CTRL t), 1, 1⟩

/-! ### EW globals (05_position_events.md) -/

/-- `EW_CTRL` (R177). -/
def EW_CTRL : Nat := 0x20000
/-- `EW_CTRL.EN` [0:0], RW. -/
def EW_CTRL_EN : Fld := ⟨EW_CTRL, 0, 1⟩
/-- `EW_STAT` (R177). -/
def EW_STAT : Nat := 0x20004
/-- `EW_STAT.NEAR_FULL` [3:0], RO. -/
def EW_STAT_NEAR_FULL : Fld := ⟨EW_STAT, 0, 4⟩
/-- `EW_STAT.CFG_REJ` [8:8], W1C. -/
def EW_STAT_CFG_REJ : Fld := ⟨EW_STAT, 8, 1⟩
/-- `EW_USED` (R177). -/
def EW_USED : Nat := 0x20008
/-- `EW_USED.N` [17:0], RO. -/
def EW_USED_N : Fld := ⟨EW_USED, 0, 18⟩
/-- `EW_PEAK` (R177). -/
def EW_PEAK : Nat := 0x2000C
/-- `EW_PEAK.N` [17:0], RC. -/
def EW_PEAK_N : Fld := ⟨EW_PEAK, 0, 18⟩
/-- `EW_LOW_WM` (R177). -/
def EW_LOW_WM : Nat := 0x20010
/-- `EW_LOW_WM.N` [17:0], RW. -/
def EW_LOW_WM_N : Fld := ⟨EW_LOW_WM, 0, 18⟩
/-- `EW_INS_CNT` (R177). -/
def EW_INS_CNT : Nat := 0x20014
/-- `EW_INS_CNT.CNT` [31:0], RC. -/
def EW_INS_CNT_CNT : Fld := ⟨EW_INS_CNT, 0, 32⟩
/-- `EW_FIRE_CNT` (R177). -/
def EW_FIRE_CNT : Nat := 0x20018
/-- `EW_FIRE_CNT.CNT` [31:0], RC. -/
def EW_FIRE_CNT_CNT : Fld := ⟨EW_FIRE_CNT, 0, 32⟩
/-- `EW_LATE_CNT` (R177). -/
def EW_LATE_CNT : Nat := 0x2001C
/-- `EW_LATE_CNT.CNT` [15:0], RC. -/
def EW_LATE_CNT_CNT : Fld := ⟨EW_LATE_CNT, 0, 16⟩
/-- `EW_PAST_CNT` (R177). -/
def EW_PAST_CNT : Nat := 0x20020
/-- `EW_PAST_CNT.CNT` [15:0], RC. -/
def EW_PAST_CNT_CNT : Fld := ⟨EW_PAST_CNT, 0, 16⟩
/-- `EW_FULL_CNT` (R177). -/
def EW_FULL_CNT : Nat := 0x20024
/-- `EW_FULL_CNT.CNT` [15:0], RC. -/
def EW_FULL_CNT_CNT : Fld := ⟨EW_FULL_CNT, 0, 16⟩
/-- `EW_CANCEL_CNT` (R177). -/
def EW_CANCEL_CNT : Nat := 0x20028
/-- `EW_CANCEL_CNT.CNT` [31:0], RC. -/
def EW_CANCEL_CNT_CNT : Fld := ⟨EW_CANCEL_CNT, 0, 32⟩
/-- `EW_HELD_CNT` (R177). -/
def EW_HELD_CNT : Nat := 0x2002C
/-- `EW_HELD_CNT.CNT` [31:0], RC. -/
def EW_HELD_CNT_CNT : Fld := ⟨EW_HELD_CNT, 0, 32⟩
/-- `EW_NEAR_N` (R177). -/
def EW_NEAR_N (d : Nat) : Nat := 0x20030 + d * 0x4
/-- `EW_NEAR_N.N` [10:0], RO. -/
def EW_NEAR_N_N (d : Nat) : Fld := ⟨(EW_NEAR_N d), 0, 11⟩
/-- `EW_QUOTA` (R177). -/
def EW_QUOTA (g : Nat) : Nat := 0x20040 + g * 0x4
/-- `EW_QUOTA.N` [17:0], RW. -/
def EW_QUOTA_N (g : Nat) : Fld := ⟨(EW_QUOTA g), 0, 18⟩
/-- `EW_SSTOP_STAT` (R177). -/
def EW_SSTOP_STAT : Nat := 0x20060
/-- `EW_SSTOP_STAT.DRV0` [0:0], RO. -/
def EW_SSTOP_STAT_DRV0 : Fld := ⟨EW_SSTOP_STAT, 0, 1⟩
/-- `EW_SSTOP_STAT.DRV1` [1:1], RO. -/
def EW_SSTOP_STAT_DRV1 : Fld := ⟨EW_SSTOP_STAT, 1, 1⟩
/-- `EW_SSTOP_STAT.FB0` [2:2], RO. -/
def EW_SSTOP_STAT_FB0 : Fld := ⟨EW_SSTOP_STAT, 2, 1⟩
/-- `EW_SSTOP_STAT.FB1` [3:3], RO. -/
def EW_SSTOP_STAT_FB1 : Fld := ⟨EW_SSTOP_STAT, 3, 1⟩
/-- `EW_SSTOP_STAT.FB_ERR` [8:8], W1C. -/
def EW_SSTOP_STAT_FB_ERR : Fld := ⟨EW_SSTOP_STAT, 8, 1⟩
/-- `EW_SSTOP_CFG` (R177). -/
def EW_SSTOP_CFG : Nat := 0x20064
/-- `EW_SSTOP_CFG.FB_EN` [0:0], RWL. -/
def EW_SSTOP_CFG_FB_EN : Fld := ⟨EW_SSTOP_CFG, 0, 1⟩
/-- `EW_SSTOP_CFG.FB_DLY` [15:8], RWL. -/
def EW_SSTOP_CFG_FB_DLY : Fld := ⟨EW_SSTOP_CFG, 8, 8⟩
/-- `EW_HOLD_STAT` (R177). -/
def EW_HOLD_STAT : Nat := 0x20068
/-- `EW_HOLD_STAT.MAP` [31:0], RO. -/
def EW_HOLD_STAT_MAP : Fld := ⟨EW_HOLD_STAT, 0, 32⟩

/-! ### EW group (05_position_events.md) -/

/-- `EW_INS_TGT` (R177). -/
def EW_INS_TGT (g : Nat) : Nat := 0x22000 + g * 0x40
/-- `EW_INS_WIDTH` (R177). -/
def EW_INS_WIDTH (g : Nat) : Nat := 0x22008 + g * 0x40
/-- `EW_INS_WIDTH.W` [31:0], RW. -/
def EW_INS_WIDTH_W (g : Nat) : Fld := ⟨(EW_INS_WIDTH g), 0, 32⟩
/-- `EW_INS_TAG` (R177). -/
def EW_INS_TAG (g : Nat) : Nat := 0x2200C + g * 0x40
/-- `EW_INS_TAG.TAG` [31:0], RW. -/
def EW_INS_TAG_TAG (g : Nat) : Fld := ⟨(EW_INS_TAG g), 0, 32⟩
/-- `EW_INS_CTRL` (R177). -/
def EW_INS_CTRL (g : Nat) : Nat := 0x22010 + g * 0x40
/-- `EW_INS_CTRL.CH` [4:0], RW. -/
def EW_INS_CTRL_CH (g : Nat) : Fld := ⟨(EW_INS_CTRL g), 0, 5⟩
/-- `EW_INS_CTRL.ACTION` [9:8], RW. -/
def EW_INS_CTRL_ACTION (g : Nat) : Fld := ⟨(EW_INS_CTRL g), 8, 2⟩
/-- `EW_INS_CTRL.DIR` [11:10], RW. -/
def EW_INS_CTRL_DIR (g : Nat) : Fld := ⟨(EW_INS_CTRL g), 10, 2⟩
/-- `EW_INS_CTRL.PAST` [12:12], RW. -/
def EW_INS_CTRL_PAST (g : Nat) : Fld := ⟨(EW_INS_CTRL g), 12, 1⟩
/-- `EW_INS_CTRL.LOG` [13:13], RW. -/
def EW_INS_CTRL_LOG (g : Nat) : Fld := ⟨(EW_INS_CTRL g), 13, 1⟩
/-- `EW_INS_CTRL.PRIO` [19:16], RW. -/
def EW_INS_CTRL_PRIO (g : Nat) : Fld := ⟨(EW_INS_CTRL g), 16, 4⟩
/-- `EW_INS_STAT` (R177). -/
def EW_INS_STAT (g : Nat) : Nat := 0x22014 + g * 0x40
/-- `EW_INS_STAT.HANDLE` [23:0], RO. -/
def EW_INS_STAT_HANDLE (g : Nat) : Fld := ⟨(EW_INS_STAT g), 0, 24⟩
/-- `EW_INS_STAT.RESULT` [30:28], RO. -/
def EW_INS_STAT_RESULT (g : Nat) : Fld := ⟨(EW_INS_STAT g), 28, 3⟩
/-- `EW_INS_STAT.BUSY` [31:31], RO. -/
def EW_INS_STAT_BUSY (g : Nat) : Fld := ⟨(EW_INS_STAT g), 31, 1⟩
/-- `EW_CAN_HANDLE` (R177). -/
def EW_CAN_HANDLE (g : Nat) : Nat := 0x22018 + g * 0x40
/-- `EW_CAN_HANDLE.HANDLE` [23:0], WO. -/
def EW_CAN_HANDLE_HANDLE (g : Nat) : Fld := ⟨(EW_CAN_HANDLE g), 0, 24⟩
/-- `EW_CAN_STAT` (R177). -/
def EW_CAN_STAT (g : Nat) : Nat := 0x2201C + g * 0x40
/-- `EW_CAN_STAT.RESULT` [1:0], RO. -/
def EW_CAN_STAT_RESULT (g : Nat) : Fld := ⟨(EW_CAN_STAT g), 0, 2⟩
/-- `EW_CAN_STAT.BUSY` [31:31], RO. -/
def EW_CAN_STAT_BUSY (g : Nat) : Fld := ⟨(EW_CAN_STAT g), 31, 1⟩
/-- `EW_CAN_TAG` (R177). -/
def EW_CAN_TAG (g : Nat) : Nat := 0x22020 + g * 0x40
/-- `EW_CAN_TAG.TAG` [31:0], RW. -/
def EW_CAN_TAG_TAG (g : Nat) : Fld := ⟨(EW_CAN_TAG g), 0, 32⟩
/-- `EW_CAN_MASK` (R177). -/
def EW_CAN_MASK (g : Nat) : Nat := 0x22024 + g * 0x40
/-- `EW_CAN_MASK.MASK` [31:0], RW. -/
def EW_CAN_MASK_MASK (g : Nat) : Fld := ⟨(EW_CAN_MASK g), 0, 32⟩
/-- `EW_CAN_CTRL` (R177). -/
def EW_CAN_CTRL (g : Nat) : Nat := 0x22028 + g * 0x40
/-- `EW_CAN_CTRL.GO` [0:0], WO. -/
def EW_CAN_CTRL_GO (g : Nat) : Fld := ⟨(EW_CAN_CTRL g), 0, 1⟩
/-- `EW_CAN_CTRL.BUSY` [1:1], RO. -/
def EW_CAN_CTRL_BUSY (g : Nat) : Fld := ⟨(EW_CAN_CTRL g), 1, 1⟩
/-- `EW_CAN_N` (R177). -/
def EW_CAN_N (g : Nat) : Nat := 0x2202C + g * 0x40
/-- `EW_CAN_N.N` [17:0], RO. -/
def EW_CAN_N_N (g : Nat) : Fld := ⟨(EW_CAN_N g), 0, 18⟩
/-- `EW_G_CTRL` (R177). -/
def EW_G_CTRL (g : Nat) : Nat := 0x22030 + g * 0x40
/-- `EW_G_CTRL.RELEASE` [0:0], WO. -/
def EW_G_CTRL_RELEASE (g : Nat) : Fld := ⟨(EW_G_CTRL g), 0, 1⟩
/-- `EW_G_CTRL.HELD` [8:8], RO. -/
def EW_G_CTRL_HELD (g : Nat) : Fld := ⟨(EW_G_CTRL g), 8, 1⟩
/-- `EW_G_USED` (R177). -/
def EW_G_USED (g : Nat) : Nat := 0x22034 + g * 0x40
/-- `EW_G_USED.N` [17:0], RO. -/
def EW_G_USED_N (g : Nat) : Fld := ⟨(EW_G_USED g), 0, 18⟩

/-! ### EW log (05_position_events.md) -/

/-- `EW_LOG_BASE` (R177). -/
def EW_LOG_BASE (g : Nat) : Nat := 0x23000 + g * 0x20
/-- `EW_LOG_SIZE` (R177). -/
def EW_LOG_SIZE (g : Nat) : Nat := 0x23008 + g * 0x20
/-- `EW_LOG_SIZE.LOG2` [3:0], RW. -/
def EW_LOG_SIZE_LOG2 (g : Nat) : Fld := ⟨(EW_LOG_SIZE g), 0, 4⟩
/-- `EW_LOG_HEAD` (R177). -/
def EW_LOG_HEAD (g : Nat) : Nat := 0x2300C + g * 0x20
/-- `EW_LOG_HEAD.CNT` [31:0], RO. -/
def EW_LOG_HEAD_CNT (g : Nat) : Fld := ⟨(EW_LOG_HEAD g), 0, 32⟩
/-- `EW_LOG_TAIL` (R177). -/
def EW_LOG_TAIL (g : Nat) : Nat := 0x23010 + g * 0x20
/-- `EW_LOG_TAIL.CNT` [31:0], RW. -/
def EW_LOG_TAIL_CNT (g : Nat) : Fld := ⟨(EW_LOG_TAIL g), 0, 32⟩
/-- `EW_LOG_OVF` (R177). -/
def EW_LOG_OVF (g : Nat) : Nat := 0x23014 + g * 0x20
/-- `EW_LOG_OVF.CNT` [15:0], RC. -/
def EW_LOG_OVF_CNT (g : Nat) : Fld := ⟨(EW_LOG_OVF g), 0, 16⟩

/-! ### PEO[n] (05_position_events.md) -/

/-- `PEO_CFG` (R177). -/
def PEO_CFG (n : Nat) : Nat := 0x21000 + n * 0x40
/-- `PEO_CFG.MODE` [2:0], RW. -/
def PEO_CFG_MODE (n : Nat) : Fld := ⟨(PEO_CFG n), 0, 3⟩
/-- `PEO_CFG.DOM` [4:3], RW. -/
def PEO_CFG_DOM (n : Nat) : Fld := ⟨(PEO_CFG n), 3, 2⟩
/-- `PEO_CFG.OWNER` [7:5], RW. -/
def PEO_CFG_OWNER (n : Nat) : Fld := ⟨(PEO_CFG n), 5, 3⟩
/-- `PEO_CFG.SAFEVAL` [8:8], RW. -/
def PEO_CFG_SAFEVAL (n : Nat) : Fld := ⟨(PEO_CFG n), 8, 1⟩
/-- `PEO_CFG.B_ANTI` [9:9], RW. -/
def PEO_CFG_B_ANTI (n : Nat) : Fld := ⟨(PEO_CFG n), 9, 1⟩
/-- `PEO_CFG.SAFETY` [10:10], RW. -/
def PEO_CFG_SAFETY (n : Nat) : Fld := ⟨(PEO_CFG n), 10, 1⟩
/-- `PEO_CFG.RB_EN` [11:11], RW. -/
def PEO_CFG_RB_EN (n : Nat) : Fld := ⟨(PEO_CFG n), 11, 1⟩
/-- `PEO_CFG.RB_INV` [12:12], RW. -/
def PEO_CFG_RB_INV (n : Nat) : Fld := ⟨(PEO_CFG n), 12, 1⟩
/-- `PEO_CFG.TEST_EN` [13:13], RW. -/
def PEO_CFG_TEST_EN (n : Nat) : Fld := ⟨(PEO_CFG n), 13, 1⟩
/-- `PEO_PULSE` (R177). -/
def PEO_PULSE (n : Nat) : Nat := 0x21004 + n * 0x40
/-- `PEO_PULSE.WIDTH` [31:0], RW. -/
def PEO_PULSE_WIDTH (n : Nat) : Fld := ⟨(PEO_PULSE n), 0, 32⟩
/-- `PEO_PMAX` (R177). -/
def PEO_PMAX (n : Nat) : Nat := 0x21008 + n * 0x40
/-- `PEO_PMAX.KCLK` [31:0], RW. -/
def PEO_PMAX_KCLK (n : Nat) : Fld := ⟨(PEO_PMAX n), 0, 32⟩
/-- `PEO_PAST_TOL` (R177). -/
def PEO_PAST_TOL (n : Nat) : Nat := 0x2100C + n * 0x40
/-- `PEO_PAST_TOL.COUNTS` [23:0], RW. -/
def PEO_PAST_TOL_COUNTS (n : Nat) : Fld := ⟨(PEO_PAST_TOL n), 0, 24⟩
/-- `PEO_RB_DLY` (R177). -/
def PEO_RB_DLY (n : Nat) : Nat := 0x21010 + n * 0x40
/-- `PEO_RB_DLY.KCLK` [15:0], RW. -/
def PEO_RB_DLY_KCLK (n : Nat) : Fld := ⟨(PEO_RB_DLY n), 0, 16⟩
/-- `PEO_RB_FILT` (R177). -/
def PEO_RB_FILT (n : Nat) : Nat := 0x21014 + n * 0x40
/-- `PEO_RB_FILT.KCLK` [15:0], RW. -/
def PEO_RB_FILT_KCLK (n : Nat) : Fld := ⟨(PEO_RB_FILT n), 0, 16⟩
/-- `PEO_TEST_CFG` (R177). -/
def PEO_TEST_CFG (n : Nat) : Nat := 0x21018 + n * 0x40
/-- `PEO_TEST_CFG.PER` [15:0], RW. -/
def PEO_TEST_CFG_PER (n : Nat) : Fld := ⟨(PEO_TEST_CFG n), 0, 16⟩
/-- `PEO_TEST_CFG.W` [31:16], RW. -/
def PEO_TEST_CFG_W (n : Nat) : Fld := ⟨(PEO_TEST_CFG n), 16, 16⟩
/-- `PEO_STAT` (R177). -/
def PEO_STAT (n : Nat) : Nat := 0x2101C + n * 0x40
/-- `PEO_STAT.LOGIC` [0:0], RO. -/
def PEO_STAT_LOGIC (n : Nat) : Fld := ⟨(PEO_STAT n), 0, 1⟩
/-- `PEO_STAT.DRV_A` [1:1], RO. -/
def PEO_STAT_DRV_A (n : Nat) : Fld := ⟨(PEO_STAT n), 1, 1⟩
/-- `PEO_STAT.DRV_B` [2:2], RO. -/
def PEO_STAT_DRV_B (n : Nat) : Fld := ⟨(PEO_STAT n), 2, 1⟩
/-- `PEO_STAT.RB_A` [3:3], RO. -/
def PEO_STAT_RB_A (n : Nat) : Fld := ⟨(PEO_STAT n), 3, 1⟩
/-- `PEO_STAT.RB_B` [4:4], RO. -/
def PEO_STAT_RB_B (n : Nat) : Fld := ⟨(PEO_STAT n), 4, 1⟩
/-- `PEO_STAT.HELD` [5:5], RO. -/
def PEO_STAT_HELD (n : Nat) : Fld := ⟨(PEO_STAT n), 5, 1⟩
/-- `PEO_STAT.PULSING` [6:6], RO. -/
def PEO_STAT_PULSING (n : Nat) : Fld := ⟨(PEO_STAT n), 6, 1⟩
/-- `PEO_STAT.RB_ERR` [8:8], W1C. -/
def PEO_STAT_RB_ERR (n : Nat) : Fld := ⟨(PEO_STAT n), 8, 1⟩
/-- `PEO_STAT.TEST_ERR` [9:9], W1C. -/
def PEO_STAT_TEST_ERR (n : Nat) : Fld := ⟨(PEO_STAT n), 9, 1⟩
/-- `PEO_STAT.CFG_REJ` [10:10], W1C. -/
def PEO_STAT_CFG_REJ (n : Nat) : Fld := ⟨(PEO_STAT n), 10, 1⟩
/-- `PEO_STAT.PMAX_END` [11:11], W1C. -/
def PEO_STAT_PMAX_END (n : Nat) : Fld := ⟨(PEO_STAT n), 11, 1⟩
/-- `PEO_ISR` (R177). -/
def PEO_ISR (n : Nat) : Nat := 0x21020 + n * 0x40
/-- `PEO_ISR.FIRED` [0:0], W1C. -/
def PEO_ISR_FIRED (n : Nat) : Fld := ⟨(PEO_ISR n), 0, 1⟩
/-- `PEO_ISR.LATE` [1:1], W1C. -/
def PEO_ISR_LATE (n : Nat) : Fld := ⟨(PEO_ISR n), 1, 1⟩
/-- `PEO_ISR.PAST` [2:2], W1C. -/
def PEO_ISR_PAST (n : Nat) : Fld := ⟨(PEO_ISR n), 2, 1⟩
/-- `PEO_ISR.RB_ERR` [3:3], W1C. -/
def PEO_ISR_RB_ERR (n : Nat) : Fld := ⟨(PEO_ISR n), 3, 1⟩
/-- `PEO_ISR.TEST_ERR` [4:4], W1C. -/
def PEO_ISR_TEST_ERR (n : Nat) : Fld := ⟨(PEO_ISR n), 4, 1⟩
/-- `PEO_ISR.PMAX` [5:5], W1C. -/
def PEO_ISR_PMAX (n : Nat) : Fld := ⟨(PEO_ISR n), 5, 1⟩
/-- `PEO_IER` (R177). -/
def PEO_IER (n : Nat) : Nat := 0x21024 + n * 0x40
/-- `PEO_IER.EN` [5:0], RW. -/
def PEO_IER_EN (n : Nat) : Fld := ⟨(PEO_IER n), 0, 6⟩
/-- `PEO_EVENTS` (R177). -/
def PEO_EVENTS (n : Nat) : Nat := 0x21028 + n * 0x40
/-- `PEO_EVENTS.N` [17:0], RO. -/
def PEO_EVENTS_N (n : Nat) : Fld := ⟨(PEO_EVENTS n), 0, 18⟩
/-- `PEO_FIRE_CNT` (R177). -/
def PEO_FIRE_CNT (n : Nat) : Nat := 0x2102C + n * 0x40
/-- `PEO_FIRE_CNT.CNT` [31:0], RC. -/
def PEO_FIRE_CNT_CNT (n : Nat) : Fld := ⟨(PEO_FIRE_CNT n), 0, 32⟩
/-- `PEO_RB_ERR_CNT` (R177). -/
def PEO_RB_ERR_CNT (n : Nat) : Nat := 0x21030 + n * 0x40
/-- `PEO_RB_ERR_CNT.CNT` [15:0], RC. -/
def PEO_RB_ERR_CNT_CNT (n : Nat) : Fld := ⟨(PEO_RB_ERR_CNT n), 0, 16⟩
/-- `PEO_TEST_CNT` (R177). -/
def PEO_TEST_CNT (n : Nat) : Nat := 0x21034 + n * 0x40
/-- `PEO_TEST_CNT.CNT` [31:0], RC. -/
def PEO_TEST_CNT_CNT (n : Nat) : Fld := ⟨(PEO_TEST_CNT n), 0, 32⟩
/-- `PEO_LAST_TT` (R177). -/
def PEO_LAST_TT (n : Nat) : Nat := 0x21038 + n * 0x40

/-! ### Registers (06_lockstep.md) -/

/-- `LS_CFG` (R207). -/
def LS_CFG (g : Nat) : Nat := 0x200000 + g * 0x10000
/-- `LS_CFG.TMR` [0:0], RW. -/
def LS_CFG_TMR (g : Nat) : Fld := ⟨(LS_CFG g), 0, 1⟩
/-- `LS_CFG.READMIT` [1:1], RW. -/
def LS_CFG_READMIT (g : Nat) : Fld := ⟨(LS_CFG g), 1, 1⟩
/-- `LS_CTRL` (R207). -/
def LS_CTRL (g : Nat) : Nat := 0x200004 + g * 0x10000
/-- `LS_CTRL.RESTART` [0:0], WO. -/
def LS_CTRL_RESTART (g : Nat) : Fld := ⟨(LS_CTRL g), 0, 1⟩
/-- `LS_CTRL.STOP` [1:1], WO. -/
def LS_CTRL_STOP (g : Nat) : Fld := ⟨(LS_CTRL g), 1, 1⟩
/-- `LS_CTRL.INJECT` [2:2], WO. -/
def LS_CTRL_INJECT (g : Nat) : Fld := ⟨(LS_CTRL g), 2, 1⟩
/-- `LS_CTRL.UNRETIRE` [3:3], WO. -/
def LS_CTRL_UNRETIRE (g : Nat) : Fld := ⟨(LS_CTRL g), 3, 1⟩
/-- `LS_CTRL.COPY` [5:4], RW. -/
def LS_CTRL_COPY (g : Nat) : Fld := ⟨(LS_CTRL g), 4, 2⟩
/-- `LS_STAT` (R207). -/
def LS_STAT (g : Nat) : Nat := 0x200008 + g * 0x10000
/-- `LS_STAT.PRESENT` [2:0], RO. -/
def LS_STAT_PRESENT (g : Nat) : Fld := ⟨(LS_STAT g), 0, 3⟩
/-- `LS_STAT.ACTIVE` [5:3], RO. -/
def LS_STAT_ACTIVE (g : Nat) : Fld := ⟨(LS_STAT g), 3, 3⟩
/-- `LS_STAT.EJECTED` [8:6], RO. -/
def LS_STAT_EJECTED (g : Nat) : Fld := ⟨(LS_STAT g), 6, 3⟩
/-- `LS_STAT.RETIRED` [11:9], RO. -/
def LS_STAT_RETIRED (g : Nat) : Fld := ⟨(LS_STAT g), 9, 3⟩
/-- `LS_STAT.STATE` [13:12], RO. -/
def LS_STAT_STATE (g : Nat) : Fld := ⟨(LS_STAT g), 12, 2⟩
/-- `LS_STAT.WAIT` [14:14], RO. -/
def LS_STAT_WAIT (g : Nat) : Fld := ⟨(LS_STAT g), 14, 1⟩
/-- `LS_STAT.DEGR` [15:15], RO. -/
def LS_STAT_DEGR (g : Nat) : Fld := ⟨(LS_STAT g), 15, 1⟩
/-- `LS_STAT.CFG_REJ` [16:16], W1C. -/
def LS_STAT_CFG_REJ (g : Nat) : Fld := ⟨(LS_STAT g), 16, 1⟩
/-- `LS_PWR` (R207). -/
def LS_PWR (g : Nat) : Nat := 0x20000C + g * 0x10000
/-- `LS_PWR.OFF` [0:0], RW. -/
def LS_PWR_OFF (g : Nat) : Fld := ⟨(LS_PWR g), 0, 1⟩
/-- `LS_PWR.ON_ACK` [1:1], RO. -/
def LS_PWR_ON_ACK (g : Nat) : Fld := ⟨(LS_PWR g), 1, 1⟩
/-- `LS_EJ_CNT_A` (R207). -/
def LS_EJ_CNT_A (g : Nat) : Nat := 0x200010 + g * 0x10000
/-- `LS_EJ_CNT_A.CNT` [15:0], RC. -/
def LS_EJ_CNT_A_CNT (g : Nat) : Fld := ⟨(LS_EJ_CNT_A g), 0, 16⟩
/-- `LS_EJ_CNT_B` (R207). -/
def LS_EJ_CNT_B (g : Nat) : Nat := 0x200014 + g * 0x10000
/-- `LS_EJ_CNT_B.CNT` [15:0], RC. -/
def LS_EJ_CNT_B_CNT (g : Nat) : Fld := ⟨(LS_EJ_CNT_B g), 0, 16⟩
/-- `LS_EJ_CNT_C` (R207). -/
def LS_EJ_CNT_C (g : Nat) : Nat := 0x200018 + g * 0x10000
/-- `LS_EJ_CNT_C.CNT` [15:0], RC. -/
def LS_EJ_CNT_C_CNT (g : Nat) : Fld := ⟨(LS_EJ_CNT_C g), 0, 16⟩
/-- `LS_READMIT_CNT` (R207). -/
def LS_READMIT_CNT (g : Nat) : Nat := 0x20001C + g * 0x10000
/-- `LS_READMIT_CNT.CNT` [15:0], RC. -/
def LS_READMIT_CNT_CNT (g : Nat) : Fld := ⟨(LS_READMIT_CNT g), 0, 16⟩
/-- `LS_READMIT_DEFER` (R207). -/
def LS_READMIT_DEFER (g : Nat) : Nat := 0x200020 + g * 0x10000
/-- `LS_READMIT_DEFER.CNT` [15:0], RC. -/
def LS_READMIT_DEFER_CNT (g : Nat) : Fld := ⟨(LS_READMIT_DEFER g), 0, 16⟩
/-- `LS_PAUSE_LAST` (R207). -/
def LS_PAUSE_LAST (g : Nat) : Nat := 0x200024 + g * 0x10000
/-- `LS_PAUSE_LAST.CCLK` [10:0], RO. -/
def LS_PAUSE_LAST_CCLK (g : Nat) : Fld := ⟨(LS_PAUSE_LAST g), 0, 11⟩
/-- `LS_PAUSE_MAX` (R207). -/
def LS_PAUSE_MAX (g : Nat) : Nat := 0x200028 + g * 0x10000
/-- `LS_PAUSE_MAX.CCLK` [10:0], RC. -/
def LS_PAUSE_MAX_CCLK (g : Nat) : Fld := ⟨(LS_PAUSE_MAX g), 0, 11⟩
/-- `LS_MISMATCH_CNT` (R207). -/
def LS_MISMATCH_CNT (g : Nat) : Nat := 0x20002C + g * 0x10000
/-- `LS_MISMATCH_CNT.CNT` [15:0], RC. -/
def LS_MISMATCH_CNT_CNT (g : Nat) : Fld := ⟨(LS_MISMATCH_CNT g), 0, 16⟩
/-- `LS_EJ_FN` (R207). -/
def LS_EJ_FN (g c : Nat) : Nat := 0x200040 + g * 0x10000 + c * 0x10
/-- `LS_EJ_FN_B` (R207). -/
def LS_EJ_FN_B (g c : Nat) : Nat := 0x200048 + g * 0x10000 + c * 0x10
/-- `LS_STEST_PER` (R207). -/
def LS_STEST_PER (g : Nat) : Nat := 0x200070 + g * 0x10000
/-- `LS_STEST_PER.FIRINGS` [15:0], RWL. -/
def LS_STEST_PER_FIRINGS (g : Nat) : Fld := ⟨(LS_STEST_PER g), 0, 16⟩
/-- `LS_STEST_CNT` (R207). -/
def LS_STEST_CNT (g : Nat) : Nat := 0x200074 + g * 0x10000
/-- `LS_STEST_CNT.CNT` [31:0], RC. -/
def LS_STEST_CNT_CNT (g : Nat) : Fld := ⟨(LS_STEST_CNT g), 0, 32⟩
/-- `LS_STEST_STAT` (R207). -/
def LS_STEST_STAT (g : Nat) : Nat := 0x200078 + g * 0x10000
/-- `LS_STEST_STAT.FAIL` [0:0], W1C. -/
def LS_STEST_STAT_FAIL (g : Nat) : Fld := ⟨(LS_STEST_STAT g), 0, 1⟩
/-- `LS_STEST_STAT.UNIT` [2:1], RO. -/
def LS_STEST_STAT_UNIT (g : Nat) : Fld := ⟨(LS_STEST_STAT g), 1, 2⟩
/-- `LS_STEST_STAT.HALF` [3:3], RO. -/
def LS_STEST_STAT_HALF (g : Nat) : Fld := ⟨(LS_STEST_STAT g), 3, 1⟩
/-- `LS_CRAZE_HEAD` (R207). -/
def LS_CRAZE_HEAD (g : Nat) : Nat := 0x200080 + g * 0x10000
/-- `LS_CRAZE_HEAD.CNT` [31:0], RO. -/
def LS_CRAZE_HEAD_CNT (g : Nat) : Fld := ⟨(LS_CRAZE_HEAD g), 0, 32⟩
/-- `LS_DBG` (R207). -/
def LS_DBG (g : Nat) : Nat := 0x200084 + g * 0x10000
/-- `LS_DBG.HALTED` [0:0], RO. -/
def LS_DBG_HALTED (g : Nat) : Fld := ⟨(LS_DBG g), 0, 1⟩
/-- `LS_DBG.HALT_PEND` [1:1], RO. -/
def LS_DBG_HALT_PEND (g : Nat) : Fld := ⟨(LS_DBG g), 1, 1⟩
/-- `LS_RETIRED` (R207). -/
def LS_RETIRED (g : Nat) : Nat := 0x200090 + g * 0x10000
/-- `LS_RETIRED.MAP` [2:0], RO. -/
def LS_RETIRED_MAP (g : Nat) : Fld := ⟨(LS_RETIRED g), 0, 3⟩
/-- `LS_CRAZE` (R207). -/
def LS_CRAZE (g i j : Nat) : Nat := 0x200200 + g * 0x10000 + i * 0x20 + j * 4
/-- `LS_CRAZE.RECORD` [31:0], RO. -/
def LS_CRAZE_RECORD (g i j : Nat) : Fld := ⟨(LS_CRAZE g i j), 0, 32⟩

/-! ### Bounding (07_pipeline.md) -/

/-- `LS_P_ISSUE` (R230). -/
def LS_P_ISSUE (g : Nat) : Nat := 0x200100 + g * 0x10000
/-- `LS_P_ISSUE.CNT` [31:0], RC. -/
def LS_P_ISSUE_CNT (g : Nat) : Fld := ⟨(LS_P_ISSUE g), 0, 32⟩
/-- `LS_P_COMMIT` (R230). -/
def LS_P_COMMIT (g : Nat) : Nat := 0x200104 + g * 0x10000
/-- `LS_P_COMMIT.CNT` [31:0], RC. -/
def LS_P_COMMIT_CNT (g : Nat) : Fld := ⟨(LS_P_COMMIT g), 0, 32⟩
/-- `LS_P_MISPRED` (R230). -/
def LS_P_MISPRED (g : Nat) : Nat := 0x200108 + g * 0x10000
/-- `LS_P_MISPRED.CNT` [31:0], RC. -/
def LS_P_MISPRED_CNT (g : Nat) : Fld := ⟨(LS_P_MISPRED g), 0, 32⟩
/-- `LS_P_BTB_ALLOC` (R230). -/
def LS_P_BTB_ALLOC (g : Nat) : Nat := 0x20010C + g * 0x10000
/-- `LS_P_BTB_ALLOC.CNT` [31:0], RC. -/
def LS_P_BTB_ALLOC_CNT (g : Nat) : Fld := ⟨(LS_P_BTB_ALLOC g), 0, 32⟩
/-- `LS_P_LB_MISS` (R230). -/
def LS_P_LB_MISS (g : Nat) : Nat := 0x200110 + g * 0x10000
/-- `LS_P_LB_MISS.CNT` [31:0], RC. -/
def LS_P_LB_MISS_CNT (g : Nat) : Fld := ⟨(LS_P_LB_MISS g), 0, 32⟩
/-- `LS_P_FLASH_WAIT` (R230). -/
def LS_P_FLASH_WAIT (g : Nat) : Nat := 0x200114 + g * 0x10000
/-- `LS_P_FLASH_WAIT.CCLK` [31:0], RC. -/
def LS_P_FLASH_WAIT_CCLK (g : Nat) : Fld := ⟨(LS_P_FLASH_WAIT g), 0, 32⟩
/-- `LS_P_SPEC_LD` (R230). -/
def LS_P_SPEC_LD (g : Nat) : Nat := 0x200118 + g * 0x10000
/-- `LS_P_SPEC_LD.CNT` [31:0], RC. -/
def LS_P_SPEC_LD_CNT (g : Nat) : Fld := ⟨(LS_P_SPEC_LD g), 0, 32⟩
/-- `LS_P_ENTRY_WAIT` (R230). -/
def LS_P_ENTRY_WAIT (g : Nat) : Nat := 0x20011C + g * 0x10000
/-- `LS_P_ENTRY_WAIT.CCLK` [15:0], RC. -/
def LS_P_ENTRY_WAIT_CCLK (g : Nat) : Fld := ⟨(LS_P_ENTRY_WAIT g), 0, 16⟩
/-- `LS_P_REPLAY_HIT` (R230). -/
def LS_P_REPLAY_HIT (g : Nat) : Nat := 0x200120 + g * 0x10000
/-- `LS_P_REPLAY_HIT.CNT` [15:0], RC. -/
def LS_P_REPLAY_HIT_CNT (g : Nat) : Fld := ⟨(LS_P_REPLAY_HIT g), 0, 16⟩
/-- `LS_P_REPLAY_DROP` (R230). -/
def LS_P_REPLAY_DROP (g : Nat) : Nat := 0x200124 + g * 0x10000
/-- `LS_P_REPLAY_DROP.CNT` [15:0], RC. -/
def LS_P_REPLAY_DROP_CNT (g : Nat) : Fld := ⟨(LS_P_REPLAY_DROP g), 0, 16⟩

/-! ### SRC[s] (10_interrupts.md) -/

/-- `SRC_CFG` (R298). -/
def SRC_CFG (s : Nat) : Nat := 0x300000 + s * 0x10
/-- `SRC_CFG.PRIO` [5:0], RW. -/
def SRC_CFG_PRIO (s : Nat) : Fld := ⟨(SRC_CFG s), 0, 6⟩
/-- `SRC_CFG.EN` [6:6], RW. -/
def SRC_CFG_EN (s : Nat) : Fld := ⟨(SRC_CFG s), 6, 1⟩
/-- `SRC_CFG.TRIG` [7:7], RO. -/
def SRC_CFG_TRIG (s : Nat) : Fld := ⟨(SRC_CFG s), 7, 1⟩
/-- `SRC_CFG.AEOI` [8:8], RW. -/
def SRC_CFG_AEOI (s : Nat) : Fld := ⟨(SRC_CFG s), 8, 1⟩
/-- `SRC_CFG.BCAST` [9:9], RW. -/
def SRC_CFG_BCAST (s : Nat) : Fld := ⟨(SRC_CFG s), 9, 1⟩
/-- `SRC_CFG.TARGET` [23:16], RW. -/
def SRC_CFG_TARGET (s : Nat) : Fld := ⟨(SRC_CFG s), 16, 8⟩
/-- `SRC_VEC` (R298). -/
def SRC_VEC (s : Nat) : Nat := 0x300004 + s * 0x10
/-- `SRC_VEC.VEC` [31:2], RW. -/
def SRC_VEC_VEC (s : Nat) : Fld := ⟨(SRC_VEC s), 2, 30⟩
/-- `SRC_VEC.` [1:0], RO. -/
def SRC_VEC_ (s : Nat) : Fld := ⟨(SRC_VEC s), 0, 2⟩
/-- `SRC_STAT` (R298). -/
def SRC_STAT (s : Nat) : Nat := 0x300008 + s * 0x10
/-- `SRC_STAT.PEND` [0:0], RO. -/
def SRC_STAT_PEND (s : Nat) : Fld := ⟨(SRC_STAT s), 0, 1⟩
/-- `SRC_STAT.LINE` [1:1], RO. -/
def SRC_STAT_LINE (s : Nat) : Fld := ⟨(SRC_STAT s), 1, 1⟩
/-- `SRC_STAT.EDGE` [2:2], RO. -/
def SRC_STAT_EDGE (s : Nat) : Fld := ⟨(SRC_STAT s), 2, 1⟩
/-- `SRC_STAT.SWPEND` [3:3], RO. -/
def SRC_STAT_SWPEND (s : Nat) : Fld := ⟨(SRC_STAT s), 3, 1⟩
/-- `SRC_STAT.GPEND` [15:8], RO. -/
def SRC_STAT_GPEND (s : Nat) : Fld := ⟨(SRC_STAT s), 8, 8⟩
/-- `SRC_STAT.GACT` [23:16], RO. -/
def SRC_STAT_GACT (s : Nat) : Fld := ⟨(SRC_STAT s), 16, 8⟩
/-- `SRC_STAT.GPRES` [31:24], RO. -/
def SRC_STAT_GPRES (s : Nat) : Fld := ⟨(SRC_STAT s), 24, 8⟩
/-- `SRC_CTRL` (R298). -/
def SRC_CTRL (s : Nat) : Nat := 0x30000C + s * 0x10
/-- `SRC_CTRL.SETP` [0:0], WO. -/
def SRC_CTRL_SETP (s : Nat) : Fld := ⟨(SRC_CTRL s), 0, 1⟩
/-- `SRC_CTRL.CLRP` [1:1], WO. -/
def SRC_CTRL_CLRP (s : Nat) : Fld := ⟨(SRC_CTRL s), 1, 1⟩
/-- `SRC_CTRL.ORPHAN` [31:16], RC. -/
def SRC_CTRL_ORPHAN (s : Nat) : Fld := ⟨(SRC_CTRL s), 16, 16⟩

/-! ### IC globals (10_interrupts.md) -/

/-- `IC_STAT` (R298). -/
def IC_STAT : Nat := 0x304000
/-- `IC_STAT.CFG_REJ` [0:0], W1C. -/
def IC_STAT_CFG_REJ : Fld := ⟨IC_STAT, 0, 1⟩
/-- `IC_RR` (R298). -/
def IC_RR : Nat := 0x304004
/-- `IC_RR.GROUP` [2:0], RO. -/
def IC_RR_GROUP : Fld := ⟨IC_RR, 0, 3⟩
/-- `IC_ORPH_CNT` (R298). -/
def IC_ORPH_CNT : Nat := 0x304008
/-- `IC_ORPH_CNT.CNT` [31:0], RC. -/
def IC_ORPH_CNT_CNT : Fld := ⟨IC_ORPH_CNT, 0, 32⟩
/-- `IC_PEND` (R298). -/
def IC_PEND (i : Nat) : Nat := 0x304100 + i * 0x4
/-- `IC_PEND.MAP` [31:0], RO. -/
def IC_PEND_MAP (i : Nat) : Fld := ⟨(IC_PEND i), 0, 32⟩
/-- `IC_ACT` (R298). -/
def IC_ACT (i : Nat) : Nat := 0x304140 + i * 0x4
/-- `IC_ACT.MAP` [31:0], RO. -/
def IC_ACT_MAP (i : Nat) : Fld := ⟨(IC_ACT i), 0, 32⟩
/-- `IC_ORPH` (R298). -/
def IC_ORPH (i : Nat) : Nat := 0x304180 + i * 0x4
/-- `IC_ORPH.MAP` [31:0], RO. -/
def IC_ORPH_MAP (i : Nat) : Fld := ⟨(IC_ORPH i), 0, 32⟩

/-! ### IC group (10_interrupts.md) -/

/-- `IC_THRESH` (R298). -/
def IC_THRESH (g : Nat) : Nat := 0x204000 + g * 0x10000
/-- `IC_THRESH.THRESH` [5:0], RW. -/
def IC_THRESH_THRESH (g : Nat) : Fld := ⟨(IC_THRESH g), 0, 6⟩
/-- `IC_GSTAT` (R298). -/
def IC_GSTAT (g : Nat) : Nat := 0x204004 + g * 0x10000
/-- `IC_GSTAT.RPR` [5:0], RO. -/
def IC_GSTAT_RPR (g : Nat) : Fld := ⟨(IC_GSTAT g), 0, 6⟩
/-- `IC_GSTAT.IE` [6:6], RO. -/
def IC_GSTAT_IE (g : Nat) : Fld := ⟨(IC_GSTAT g), 6, 1⟩
/-- `IC_GSTAT.ELIG` [7:7], RO. -/
def IC_GSTAT_ELIG (g : Nat) : Fld := ⟨(IC_GSTAT g), 7, 1⟩
/-- `IC_GSTAT.WAIT` [8:8], RO. -/
def IC_GSTAT_WAIT (g : Nat) : Fld := ⟨(IC_GSTAT g), 8, 1⟩
/-- `IC_GSTAT.ENTRY` [9:9], RO. -/
def IC_GSTAT_ENTRY (g : Nat) : Fld := ⟨(IC_GSTAT g), 9, 1⟩
/-- `IC_PRES` (R298). -/
def IC_PRES (g : Nat) : Nat := 0x204008 + g * 0x10000
/-- `IC_PRES.SRC` [8:0], RO. -/
def IC_PRES_SRC (g : Nat) : Fld := ⟨(IC_PRES g), 0, 9⟩
/-- `IC_PRES.VALID` [15:15], RO. -/
def IC_PRES_VALID (g : Nat) : Fld := ⟨(IC_PRES g), 15, 1⟩
/-- `IC_PRES.PRIO` [21:16], RO. -/
def IC_PRES_PRIO (g : Nat) : Fld := ⟨(IC_PRES g), 16, 6⟩
/-- `IC_EOI` (R298). -/
def IC_EOI (g : Nat) : Nat := 0x20400C + g * 0x10000
/-- `IC_EOI.SRC` [8:0], WO. -/
def IC_EOI_SRC (g : Nat) : Fld := ⟨(IC_EOI g), 0, 9⟩
/-- `IC_EOI_BAD` (R298). -/
def IC_EOI_BAD (g : Nat) : Nat := 0x204010 + g * 0x10000
/-- `IC_EOI_BAD.CNT` [31:0], RC. -/
def IC_EOI_BAD_CNT (g : Nat) : Fld := ⟨(IC_EOI_BAD g), 0, 32⟩
/-- `IC_TAKEN_CNT` (R298). -/
def IC_TAKEN_CNT (g : Nat) : Nat := 0x204014 + g * 0x10000
/-- `IC_TAKEN_CNT.CNT` [31:0], RC. -/
def IC_TAKEN_CNT_CNT (g : Nat) : Fld := ⟨(IC_TAKEN_CNT g), 0, 32⟩
/-- `IC_LATE_CNT` (R298). -/
def IC_LATE_CNT (g : Nat) : Nat := 0x204018 + g * 0x10000
/-- `IC_LATE_CNT.CNT` [15:0], RC. -/
def IC_LATE_CNT_CNT (g : Nat) : Fld := ⟨(IC_LATE_CNT g), 0, 16⟩
/-- `IC_TAIL_CNT` (R298). -/
def IC_TAIL_CNT (g : Nat) : Nat := 0x20401C + g * 0x10000
/-- `IC_TAIL_CNT.CNT` [31:0], RC. -/
def IC_TAIL_CNT_CNT (g : Nat) : Fld := ⟨(IC_TAIL_CNT g), 0, 32⟩
/-- `IC_WAKE_CNT` (R298). -/
def IC_WAKE_CNT (g : Nat) : Nat := 0x204020 + g * 0x10000
/-- `IC_WAKE_CNT.CNT` [31:0], RC. -/
def IC_WAKE_CNT_CNT (g : Nat) : Fld := ⟨(IC_WAKE_CNT g), 0, 32⟩
/-- `IC_WDRAW_CNT` (R298). -/
def IC_WDRAW_CNT (g : Nat) : Nat := 0x204024 + g * 0x10000
/-- `IC_WDRAW_CNT.CNT` [15:0], RC. -/
def IC_WDRAW_CNT_CNT (g : Nat) : Fld := ⟨(IC_WDRAW_CNT g), 0, 16⟩
/-- `IC_ACT_N` (R298). -/
def IC_ACT_N (g : Nat) : Nat := 0x204028 + g * 0x10000
/-- `IC_ACT_N.N` [9:0], RO. -/
def IC_ACT_N_N (g : Nat) : Fld := ⟨(IC_ACT_N g), 0, 10⟩

/-! ### SP globals (11_memory_protection.md) -/

/-- `SP_STAT` (R324). -/
def SP_STAT : Nat := 0x500000
/-- `SP_STAT.CFG_REJ` [0:0], W1C. -/
def SP_STAT_CFG_REJ : Fld := ⟨SP_STAT, 0, 1⟩
/-- `SP_STAT.RAW_OK` [1:1], RO. -/
def SP_STAT_RAW_OK : Fld := ⟨SP_STAT, 1, 1⟩
/-- `SP_RAW_CTRL` (R324). -/
def SP_RAW_CTRL : Nat := 0x500004
/-- `SP_RAW_CTRL.GO` [0:0], WO. -/
def SP_RAW_CTRL_GO : Fld := ⟨SP_RAW_CTRL, 0, 1⟩
/-- `SP_RAW_CTRL.WR` [1:1], RW. -/
def SP_RAW_CTRL_WR : Fld := ⟨SP_RAW_CTRL, 1, 1⟩
/-- `SP_RAW_CTRL.MEM` [14:8], RW. -/
def SP_RAW_CTRL_MEM : Fld := ⟨SP_RAW_CTRL, 8, 7⟩
/-- `SP_RAW_CTRL.BUSY` [16:16], RO. -/
def SP_RAW_CTRL_BUSY : Fld := ⟨SP_RAW_CTRL, 16, 1⟩
/-- `SP_RAW_ADDR` (R324). -/
def SP_RAW_ADDR : Nat := 0x500008
/-- `SP_RAW_ADDR.OFFSET` [24:3], RW. -/
def SP_RAW_ADDR_OFFSET : Fld := ⟨SP_RAW_ADDR, 3, 22⟩
/-- `SP_RAW_DATA` (R324). -/
def SP_RAW_DATA : Nat := 0x500010
/-- `SP_RAW_CHK` (R324). -/
def SP_RAW_CHK : Nat := 0x500018
/-- `SP_RAW_CHK.CHK` [15:0], RW. -/
def SP_RAW_CHK_CHK : Fld := ⟨SP_RAW_CHK, 0, 16⟩
/-- `SP_RAW_CHK.SYN_ROW` [23:16], RO. -/
def SP_RAW_CHK_SYN_ROW : Fld := ⟨SP_RAW_CHK, 16, 8⟩
/-- `SP_RAW_CHK.SYN_COL` [31:24], RO. -/
def SP_RAW_CHK_SYN_COL : Fld := ⟨SP_RAW_CHK, 24, 8⟩
/-- `SP_TILE_SCRUB` (R324). -/
def SP_TILE_SCRUB : Nat := 0x50001C
/-- `SP_TILE_SCRUB.EN` [0:0], RW. -/
def SP_TILE_SCRUB_EN : Fld := ⟨SP_TILE_SCRUB, 0, 1⟩
/-- `SP_TILE_SCRUB.PER` [23:8], RW. -/
def SP_TILE_SCRUB_PER : Fld := ⟨SP_TILE_SCRUB, 8, 16⟩
/-- `SP_WW_CNT` (R324). -/
def SP_WW_CNT : Nat := 0x500020
/-- `SP_WW_CNT.CNT` [31:0], RC. -/
def SP_WW_CNT_CNT : Fld := ⟨SP_WW_CNT, 0, 32⟩
/-- `SP_CONF` (R324). -/
def SP_CONF (m : Nat) : Nat := 0x500040 + m * 0x4
/-- `SP_CONF.CNT` [31:0], RC. -/
def SP_CONF_CNT (m : Nat) : Fld := ⟨(SP_CONF m), 0, 32⟩

/-! ### SP_MEM (11_memory_protection.md) -/

/-- `SP_SCRUB_CFG` (R324). -/
def SP_SCRUB_CFG (i : Nat) : Nat := 0x500100 + i * 0x20
/-- `SP_SCRUB_CFG.EN` [0:0], RW. -/
def SP_SCRUB_CFG_EN (i : Nat) : Fld := ⟨(SP_SCRUB_CFG i), 0, 1⟩
/-- `SP_SCRUB_CFG.PER` [23:8], RW. -/
def SP_SCRUB_CFG_PER (i : Nat) : Fld := ⟨(SP_SCRUB_CFG i), 8, 16⟩
/-- `SP_CORR_LIM` (R324). -/
def SP_CORR_LIM (i : Nat) : Nat := 0x500104 + i * 0x20
/-- `SP_CORR_LIM.N` [15:0], RW. -/
def SP_CORR_LIM_N (i : Nat) : Fld := ⟨(SP_CORR_LIM i), 0, 16⟩
/-- `SP_CORR_CNT` (R324). -/
def SP_CORR_CNT (i : Nat) : Nat := 0x500108 + i * 0x20
/-- `SP_CORR_CNT.CNT` [31:0], RC. -/
def SP_CORR_CNT_CNT (i : Nat) : Fld := ⟨(SP_CORR_CNT i), 0, 32⟩
/-- `SP_CHK_CNT` (R324). -/
def SP_CHK_CNT (i : Nat) : Nat := 0x50010C + i * 0x20
/-- `SP_CHK_CNT.CNT` [15:0], RC. -/
def SP_CHK_CNT_CNT (i : Nat) : Fld := ⟨(SP_CHK_CNT i), 0, 16⟩
/-- `SP_UNC_CNT` (R324). -/
def SP_UNC_CNT (i : Nat) : Nat := 0x500110 + i * 0x20
/-- `SP_UNC_CNT.CNT` [15:0], RC. -/
def SP_UNC_CNT_CNT (i : Nat) : Fld := ⟨(SP_UNC_CNT i), 0, 16⟩
/-- `SP_LAST_ADDR` (R324). -/
def SP_LAST_ADDR (i : Nat) : Nat := 0x500114 + i * 0x20
/-- `SP_LAST_ADDR.OFFSET` [24:3], RO. -/
def SP_LAST_ADDR_OFFSET (i : Nat) : Fld := ⟨(SP_LAST_ADDR i), 3, 22⟩
/-- `SP_LAST_SYND` (R324). -/
def SP_LAST_SYND (i : Nat) : Nat := 0x500118 + i * 0x20
/-- `SP_LAST_SYND.ROW` [7:0], RO. -/
def SP_LAST_SYND_ROW (i : Nat) : Fld := ⟨(SP_LAST_SYND i), 0, 8⟩
/-- `SP_LAST_SYND.COL` [15:8], RO. -/
def SP_LAST_SYND_COL (i : Nat) : Fld := ⟨(SP_LAST_SYND i), 8, 8⟩
/-- `SP_LAST_SYND.KIND` [17:16], RO. -/
def SP_LAST_SYND_KIND (i : Nat) : Fld := ⟨(SP_LAST_SYND i), 16, 2⟩
/-- `SP_PASS_CNT` (R324). -/
def SP_PASS_CNT (i : Nat) : Nat := 0x50011C + i * 0x20
/-- `SP_PASS_CNT.CNT` [31:0], RC. -/
def SP_PASS_CNT_CNT (i : Nat) : Fld := ⟨(SP_PASS_CNT i), 0, 32⟩

/-! ### MPU of (11_memory_protection.md) -/

/-- `MPU_CTRL` (R324). -/
def MPU_CTRL (g : Nat) : Nat := 0x201000 + g * 0x10000
/-- `MPU_CTRL.EN` [0:0], RW. -/
def MPU_CTRL_EN (g : Nat) : Fld := ⟨(MPU_CTRL g), 0, 1⟩
/-- `MPU_CTRL.MBG` [1:1], RW. -/
def MPU_CTRL_MBG (g : Nat) : Fld := ⟨(MPU_CTRL g), 1, 1⟩
/-- `MPU_STAT` (R324). -/
def MPU_STAT (g : Nat) : Nat := 0x201004 + g * 0x10000
/-- `MPU_STAT.CFG_ERR` [0:0], W1C. -/
def MPU_STAT_CFG_ERR (g : Nat) : Fld := ⟨(MPU_STAT g), 0, 1⟩
/-- `MPU_STAT.ERR_REGION` [12:8], RO. -/
def MPU_STAT_ERR_REGION (g : Nat) : Fld := ⟨(MPU_STAT g), 8, 5⟩
/-- `MPU_STAT.REFUSED` [16:16], W1C. -/
def MPU_STAT_REFUSED (g : Nat) : Fld := ⟨(MPU_STAT g), 16, 1⟩
/-- `MPU_DENY_CNT` (R324). -/
def MPU_DENY_CNT (g : Nat) : Nat := 0x201008 + g * 0x10000
/-- `MPU_DENY_CNT.CNT` [15:0], RC. -/
def MPU_DENY_CNT_CNT (g : Nat) : Fld := ⟨(MPU_DENY_CNT g), 0, 16⟩
/-- `MPU_REFUSE_CNT` (R324). -/
def MPU_REFUSE_CNT (g : Nat) : Nat := 0x20100C + g * 0x10000
/-- `MPU_REFUSE_CNT.CNT` [15:0], RC. -/
def MPU_REFUSE_CNT_CNT (g : Nat) : Fld := ⟨(MPU_REFUSE_CNT g), 0, 16⟩
/-- `MPU_BASE` (R324). -/
def MPU_BASE (g r : Nat) : Nat := 0x201100 + g * 0x10000 + r * 0x10
/-- `MPU_BASE.ADDR` [31:5], RW. -/
def MPU_BASE_ADDR (g r : Nat) : Fld := ⟨(MPU_BASE g r), 5, 27⟩
/-- `MPU_LIMIT` (R324). -/
def MPU_LIMIT (g r : Nat) : Nat := 0x201104 + g * 0x10000 + r * 0x10
/-- `MPU_LIMIT.ADDR` [31:5], RW. -/
def MPU_LIMIT_ADDR (g r : Nat) : Fld := ⟨(MPU_LIMIT g r), 5, 27⟩
/-- `MPU_ATTR` (R324). -/
def MPU_ATTR (g r : Nat) : Nat := 0x201108 + g * 0x10000 + r * 0x10
/-- `MPU_ATTR.EN` [0:0], RW. -/
def MPU_ATTR_EN (g r : Nat) : Fld := ⟨(MPU_ATTR g r), 0, 1⟩
/-- `MPU_ATTR.TYPE` [2:1], RW. -/
def MPU_ATTR_TYPE (g r : Nat) : Fld := ⟨(MPU_ATTR g r), 1, 2⟩
/-- `MPU_ATTR.M_RWX` [5:3], RW. -/
def MPU_ATTR_M_RWX (g r : Nat) : Fld := ⟨(MPU_ATTR g r), 3, 3⟩
/-- `MPU_ATTR.S_RWX` [8:6], RW. -/
def MPU_ATTR_S_RWX (g r : Nat) : Fld := ⟨(MPU_ATTR g r), 6, 3⟩
/-- `MPU_ATTR.T_RWX` [11:9], RW. -/
def MPU_ATTR_T_RWX (g r : Nat) : Fld := ⟨(MPU_ATTR g r), 9, 3⟩

/-! ### FW (11_memory_protection.md) -/

/-- `FW_STAT` (R324). -/
def FW_STAT : Nat := 0x510000
/-- `FW_STAT.CFG_REJ` [0:0], W1C. -/
def FW_STAT_CFG_REJ : Fld := ⟨FW_STAT, 0, 1⟩
/-- `FW_STAT.CFG_ERR` [1:1], W1C. -/
def FW_STAT_CFG_ERR : Fld := ⟨FW_STAT, 1, 1⟩
/-- `FW_DBG_DENY` (R324). -/
def FW_DBG_DENY : Nat := 0x510004
/-- `FW_DBG_DENY.CNT` [15:0], RC. -/
def FW_DBG_DENY_CNT : Fld := ⟨FW_DBG_DENY, 0, 16⟩
/-- `FW_LAST_ADDR` (R324). -/
def FW_LAST_ADDR : Nat := 0x510008
/-- `FW_LAST_INFO` (R324). -/
def FW_LAST_INFO : Nat := 0x510010
/-- `FW_LAST_INFO.MASTER` [3:0], RO. -/
def FW_LAST_INFO_MASTER : Fld := ⟨FW_LAST_INFO, 0, 4⟩
/-- `FW_LAST_INFO.WR` [4:4], RO. -/
def FW_LAST_INFO_WR : Fld := ⟨FW_LAST_INFO, 4, 1⟩
/-- `FW_LAST_INFO.LOCKED` [5:5], RO. -/
def FW_LAST_INFO_LOCKED : Fld := ⟨FW_LAST_INFO, 5, 1⟩
/-- `FW_LAST_INFO.BEATS` [15:8], RO. -/
def FW_LAST_INFO_BEATS : Fld := ⟨FW_LAST_INFO, 8, 8⟩
/-- `FW_DENY_CNT` (R324). -/
def FW_DENY_CNT (m : Nat) : Nat := 0x510040 + m * 0x4
/-- `FW_DENY_CNT.CNT` [15:0], RC. -/
def FW_DENY_CNT_CNT (m : Nat) : Fld := ⟨(FW_DENY_CNT m), 0, 16⟩
/-- `FW_WIN_BASE` (R324). -/
def FW_WIN_BASE (k : Nat) : Nat := 0x510100 + k * 0x10
/-- `FW_WIN_BASE.PAGE` [27:0], RW. -/
def FW_WIN_BASE_PAGE (k : Nat) : Fld := ⟨(FW_WIN_BASE k), 0, 28⟩
/-- `FW_WIN_LIMIT` (R324). -/
def FW_WIN_LIMIT (k : Nat) : Nat := 0x510104 + k * 0x10
/-- `FW_WIN_LIMIT.PAGE` [27:0], RW. -/
def FW_WIN_LIMIT_PAGE (k : Nat) : Fld := ⟨(FW_WIN_LIMIT k), 0, 28⟩
/-- `FW_WIN_MASK` (R324). -/
def FW_WIN_MASK (k : Nat) : Nat := 0x510108 + k * 0x10
/-- `FW_WIN_MASK.RD` [15:0], RW. -/
def FW_WIN_MASK_RD (k : Nat) : Fld := ⟨(FW_WIN_MASK k), 0, 16⟩
/-- `FW_WIN_MASK.WR` [31:16], RW. -/
def FW_WIN_MASK_WR (k : Nat) : Fld := ⟨(FW_WIN_MASK k), 16, 16⟩
/-- `FW_WIN_CTRL` (R324). -/
def FW_WIN_CTRL (k : Nat) : Nat := 0x51010C + k * 0x10
/-- `FW_WIN_CTRL.EN` [0:0], RW. -/
def FW_WIN_CTRL_EN (k : Nat) : Fld := ⟨(FW_WIN_CTRL k), 0, 1⟩
/-- `FW_LOCK_BASE` (R324). -/
def FW_LOCK_BASE (k : Nat) : Nat := 0x510800 + k * 0x10
/-- `FW_LOCK_BASE.PAGE` [27:0], RWL. -/
def FW_LOCK_BASE_PAGE (k : Nat) : Fld := ⟨(FW_LOCK_BASE k), 0, 28⟩
/-- `FW_LOCK_LIMIT` (R324). -/
def FW_LOCK_LIMIT (k : Nat) : Nat := 0x510804 + k * 0x10
/-- `FW_LOCK_LIMIT.PAGE` [27:0], RWL. -/
def FW_LOCK_LIMIT_PAGE (k : Nat) : Fld := ⟨(FW_LOCK_LIMIT k), 0, 28⟩
/-- `FW_LOCK_ALLOW` (R324). -/
def FW_LOCK_ALLOW (k : Nat) : Nat := 0x510808 + k * 0x10
/-- `FW_LOCK_ALLOW.MASK` [15:0], RWL. -/
def FW_LOCK_ALLOW_MASK (k : Nat) : Fld := ⟨(FW_LOCK_ALLOW k), 0, 16⟩
/-- `FW_LOCK_CTRL` (R324). -/
def FW_LOCK_CTRL (k : Nat) : Nat := 0x51080C + k * 0x10
/-- `FW_LOCK_CTRL.EN` [0:0], RWL. -/
def FW_LOCK_CTRL_EN (k : Nat) : Fld := ⟨(FW_LOCK_CTRL k), 0, 1⟩

/-! ### FCU (12_supervision.md) -/

/-- `FCU_STAT` (R351). -/
def FCU_STAT : Nat := 0x400000
/-- `FCU_STAT.CFG_REJ` [0:0], W1C. -/
def FCU_STAT_CFG_REJ : Fld := ⟨FCU_STAT, 0, 1⟩
/-- `FCU_STAT.LOG_WRAP` [1:1], W1C. -/
def FCU_STAT_LOG_WRAP : Fld := ⟨FCU_STAT, 1, 1⟩
/-- `FCU_STAT.HB_OK` [2:2], RO. -/
def FCU_STAT_HB_OK : Fld := ⟨FCU_STAT, 2, 1⟩
/-- `FCU_WORST` (R351). -/
def FCU_WORST : Nat := 0x400004
/-- `FCU_WORST.CLASS` [2:0], RC. -/
def FCU_WORST_CLASS : Fld := ⟨FCU_WORST, 0, 3⟩
/-- `FCU_WORST.VALID` [3:3], RC. -/
def FCU_WORST_VALID : Fld := ⟨FCU_WORST, 3, 1⟩
/-- `FCU_FIRST` (R351). -/
def FCU_FIRST : Nat := 0x400008
/-- `FCU_FIRST.ID` [8:0], RO. -/
def FCU_FIRST_ID : Fld := ⟨FCU_FIRST, 0, 9⟩
/-- `FCU_FIRST.CLASS` [14:12], RO. -/
def FCU_FIRST_CLASS : Fld := ⟨FCU_FIRST, 12, 3⟩
/-- `FCU_FIRST.VALID` [31:31], W1C. -/
def FCU_FIRST_VALID : Fld := ⟨FCU_FIRST, 31, 1⟩
/-- `FCU_FIRST_FN` (R351). -/
def FCU_FIRST_FN : Nat := 0x400010
/-- `FCU_LOG_HEAD` (R351). -/
def FCU_LOG_HEAD : Nat := 0x400018
/-- `FCU_LOG_HEAD.CNT` [31:0], RO. -/
def FCU_LOG_HEAD_CNT : Fld := ⟨FCU_LOG_HEAD, 0, 32⟩
/-- `FCU_OCC_CNT` (R351). -/
def FCU_OCC_CNT : Nat := 0x40001C
/-- `FCU_OCC_CNT.CNT` [31:0], RC. -/
def FCU_OCC_CNT_CNT : Fld := ⟨FCU_OCC_CNT, 0, 32⟩
/-- `FCU_LOST` (R351). -/
def FCU_LOST : Nat := 0x400020
/-- `FCU_LOST.CNT` [15:0], RC. -/
def FCU_LOST_CNT : Fld := ⟨FCU_LOST, 0, 16⟩
/-- `FCU_INJ_CTRL` (R351). -/
def FCU_INJ_CTRL : Nat := 0x400024
/-- `FCU_INJ_CTRL.ID` [8:0], RW. -/
def FCU_INJ_CTRL_ID : Fld := ⟨FCU_INJ_CTRL, 0, 9⟩
/-- `FCU_INJ_CTRL.GO` [31:31], WO. -/
def FCU_INJ_CTRL_GO : Fld := ⟨FCU_INJ_CTRL, 31, 1⟩
/-- `FCU_INJ_DETAIL` (R351). -/
def FCU_INJ_DETAIL : Nat := 0x400028
/-- `FCU_INJ_DETAIL.DETAIL` [31:0], RW. -/
def FCU_INJ_DETAIL_DETAIL : Fld := ⟨FCU_INJ_DETAIL, 0, 32⟩
/-- `FCU_PEND` (R351). -/
def FCU_PEND (j : Nat) : Nat := 0x400100 + j * 0x4
/-- `FCU_PEND.MAP` [31:0], RO. -/
def FCU_PEND_MAP (j : Nat) : Fld := ⟨(FCU_PEND j), 0, 32⟩
/-- `FCU_LOG` (R351). -/
def FCU_LOG (e j : Nat) : Nat := 0x400800 + e * 0x20 + j * 4
/-- `FCU_LOG.ENTRY` [31:0], RO. -/
def FCU_LOG_ENTRY (e j : Nat) : Fld := ⟨(FCU_LOG e j), 0, 32⟩

/-! ### FLT[i] (12_supervision.md) -/

/-- `FLT_CFG` (R351). -/
def FLT_CFG (i : Nat) : Nat := 0x401000 + i * 0x10
/-- `FLT_CFG.REACT` [2:0], RW. -/
def FLT_CFG_REACT (i : Nat) : Fld := ⟨(FLT_CFG i), 0, 3⟩
/-- `FLT_CFG.MIN` [6:4], RO. -/
def FLT_CFG_MIN (i : Nat) : Fld := ⟨(FLT_CFG i), 4, 3⟩
/-- `FLT_CFG.NSRC` [13:8], RW. -/
def FLT_CFG_NSRC (i : Nat) : Fld := ⟨(FLT_CFG i), 8, 6⟩
/-- `FLT_CFG.LGRP` [18:16], RW. -/
def FLT_CFG_LGRP (i : Nat) : Fld := ⟨(FLT_CFG i), 16, 3⟩
/-- `FLT_CFG.IMPL` [31:31], RO. -/
def FLT_CFG_IMPL (i : Nat) : Fld := ⟨(FLT_CFG i), 31, 1⟩
/-- `FLT_STAT` (R351). -/
def FLT_STAT (i : Nat) : Nat := 0x401004 + i * 0x10
/-- `FLT_STAT.PEND` [0:0], W1C. -/
def FLT_STAT_PEND (i : Nat) : Fld := ⟨(FLT_STAT i), 0, 1⟩
/-- `FLT_STAT.NOTE` [1:1], RO. -/
def FLT_STAT_NOTE (i : Nat) : Fld := ⟨(FLT_STAT i), 1, 1⟩
/-- `FLT_STAT.LAST` [6:4], RO. -/
def FLT_STAT_LAST (i : Nat) : Fld := ⟨(FLT_STAT i), 4, 3⟩
/-- `FLT_STAT.INJ` [7:7], RO. -/
def FLT_STAT_INJ (i : Nat) : Fld := ⟨(FLT_STAT i), 7, 1⟩
/-- `FLT_DETAIL` (R351). -/
def FLT_DETAIL (i : Nat) : Nat := 0x401008 + i * 0x10
/-- `FLT_DETAIL.DETAIL` [31:0], RO. -/
def FLT_DETAIL_DETAIL (i : Nat) : Fld := ⟨(FLT_DETAIL i), 0, 32⟩
/-- `FLT_CNT` (R351). -/
def FLT_CNT (i : Nat) : Nat := 0x40100C + i * 0x10
/-- `FLT_CNT.CNT` [15:0], RC. -/
def FLT_CNT_CNT (i : Nat) : Fld := ⟨(FLT_CNT i), 0, 16⟩

/-! ### SSC (12_supervision.md) -/

/-- `SSC_STAT` (R351). -/
def SSC_STAT : Nat := 0x410000
/-- `SSC_STAT.DEV_X` [0:0], RO. -/
def SSC_STAT_DEV_X : Fld := ⟨SSC_STAT, 0, 1⟩
/-- `SSC_STAT.DEV_Y` [1:1], RO. -/
def SSC_STAT_DEV_Y : Fld := ⟨SSC_STAT, 1, 1⟩
/-- `SSC_STAT.GHOLD` [15:8], RO. -/
def SSC_STAT_GHOLD : Fld := ⟨SSC_STAT, 8, 8⟩
/-- `SSC_STAT.HB_LOST` [16:16], W1C. -/
def SSC_STAT_HB_LOST : Fld := ⟨SSC_STAT, 16, 1⟩
/-- `SSC_STAT.DISAGREE` [17:17], W1C. -/
def SSC_STAT_DISAGREE : Fld := ⟨SSC_STAT, 17, 1⟩
/-- `SSC_STAT.TEST_FAIL` [18:18], W1C. -/
def SSC_STAT_TEST_FAIL : Fld := ⟨SSC_STAT, 18, 1⟩
/-- `SSC_STAT.ITEST_PASS` [19:19], RO. -/
def SSC_STAT_ITEST_PASS : Fld := ⟨SSC_STAT, 19, 1⟩
/-- `SSC_STAT.CFG_REJ` [20:20], W1C. -/
def SSC_STAT_CFG_REJ : Fld := ⟨SSC_STAT, 20, 1⟩
/-- `SSC_CTRL` (R351). -/
def SSC_CTRL : Nat := 0x410004
/-- `SSC_CTRL.TEST` [0:0], WO. -/
def SSC_CTRL_TEST : Fld := ⟨SSC_CTRL, 0, 1⟩
/-- `SSC_CTRL.TEST_BUSY` [1:1], RO. -/
def SSC_CTRL_TEST_BUSY : Fld := ⟨SSC_CTRL, 1, 1⟩
/-- `SSC_TEST_PER` (R351). -/
def SSC_TEST_PER : Nat := 0x410008
/-- `SSC_TEST_PER.FIRINGS` [15:0], RWL. -/
def SSC_TEST_PER_FIRINGS : Fld := ⟨SSC_TEST_PER, 0, 16⟩
/-- `SSC_TEST_CNT` (R351). -/
def SSC_TEST_CNT : Nat := 0x41000C
/-- `SSC_TEST_CNT.CNT` [31:0], RC. -/
def SSC_TEST_CNT_CNT : Fld := ⟨SSC_TEST_CNT, 0, 32⟩
/-- `SSC_LAT_LAST` (R351). -/
def SSC_LAT_LAST : Nat := 0x410010
/-- `SSC_LAT_LAST.FCLK` [11:0], RO. -/
def SSC_LAT_LAST_FCLK : Fld := ⟨SSC_LAT_LAST, 0, 12⟩
/-- `SSC_LAT_MAX` (R351). -/
def SSC_LAT_MAX : Nat := 0x410014
/-- `SSC_LAT_MAX.FCLK` [11:0], RC. -/
def SSC_LAT_MAX_FCLK : Fld := ⟨SSC_LAT_MAX, 0, 12⟩

/-! ### WD of (12_supervision.md) -/

/-- `WD_PERIOD` (R351). -/
def WD_PERIOD (g : Nat) : Nat := 0x202000 + g * 0x10000
/-- `WD_PERIOD.US` [23:0], RWL. -/
def WD_PERIOD_US (g : Nat) : Fld := ⟨(WD_PERIOD g), 0, 24⟩
/-- `WD_KEY` (R351). -/
def WD_KEY (g : Nat) : Nat := 0x202004 + g * 0x10000
/-- `WD_KEY.KEY` [15:0], WO. -/
def WD_KEY_KEY (g : Nat) : Fld := ⟨(WD_KEY g), 0, 16⟩
/-- `WD_COUNT` (R351). -/
def WD_COUNT (g : Nat) : Nat := 0x202008 + g * 0x10000
/-- `WD_COUNT.US` [23:0], RO. -/
def WD_COUNT_US (g : Nat) : Fld := ⟨(WD_COUNT g), 0, 24⟩
/-- `WD_OPEN` (R351). -/
def WD_OPEN (g : Nat) : Nat := 0x20200C + g * 0x10000
/-- `WD_OPEN.US` [23:0], RO. -/
def WD_OPEN_US (g : Nat) : Fld := ⟨(WD_OPEN g), 0, 24⟩
/-- `WD_OPEN.K` [26:24], RO. -/
def WD_OPEN_K (g : Nat) : Fld := ⟨(WD_OPEN g), 24, 3⟩
/-- `WD_STAT` (R351). -/
def WD_STAT (g : Nat) : Nat := 0x202010 + g * 0x10000
/-- `WD_STAT.STAGE` [0:0], RO. -/
def WD_STAT_STAGE (g : Nat) : Fld := ⟨(WD_STAT g), 0, 1⟩
/-- `WD_STAT.OPEN` [1:1], RO. -/
def WD_STAT_OPEN (g : Nat) : Fld := ⟨(WD_STAT g), 1, 1⟩
/-- `WD_STAT.KEY1` [2:2], RO. -/
def WD_STAT_KEY1 (g : Nat) : Fld := ⟨(WD_STAT g), 2, 1⟩
/-- `WD_STAT.FROZEN` [3:3], RO. -/
def WD_STAT_FROZEN (g : Nat) : Fld := ⟨(WD_STAT g), 3, 1⟩
/-- `WD_STAT.CFG_REJ` [8:8], W1C. -/
def WD_STAT_CFG_REJ (g : Nat) : Fld := ⟨(WD_STAT g), 8, 1⟩
/-- `WD_STAT.LATE` [9:9], W1C. -/
def WD_STAT_LATE (g : Nat) : Fld := ⟨(WD_STAT g), 9, 1⟩
/-- `WD_STAT.INVALID` [10:10], W1C. -/
def WD_STAT_INVALID (g : Nat) : Fld := ⟨(WD_STAT g), 10, 1⟩
/-- `WD_STAT.INV_CAUSE` [14:12], RO. -/
def WD_STAT_INV_CAUSE (g : Nat) : Fld := ⟨(WD_STAT g), 12, 3⟩
/-- `WD_SVC_CNT` (R351). -/
def WD_SVC_CNT (g : Nat) : Nat := 0x202014 + g * 0x10000
/-- `WD_SVC_CNT.CNT` [31:0], RC. -/
def WD_SVC_CNT_CNT (g : Nat) : Fld := ⟨(WD_SVC_CNT g), 0, 32⟩
/-- `WD_WARN_CNT` (R351). -/
def WD_WARN_CNT (g : Nat) : Nat := 0x202018 + g * 0x10000
/-- `WD_WARN_CNT.CNT` [15:0], RC. -/
def WD_WARN_CNT_CNT (g : Nat) : Fld := ⟨(WD_WARN_CNT g), 0, 16⟩
/-- `WD_LATE_CNT` (R351). -/
def WD_LATE_CNT (g : Nat) : Nat := 0x20201C + g * 0x10000
/-- `WD_LATE_CNT.CNT` [15:0], RC. -/
def WD_LATE_CNT_CNT (g : Nat) : Fld := ⟨(WD_LATE_CNT g), 0, 16⟩
/-- `WD_FRZ` (R351). -/
def WD_FRZ (g : Nat) : Nat := 0x202020 + g * 0x10000
/-- `WD_FRZ.US` [19:0], RO. -/
def WD_FRZ_US (g : Nat) : Fld := ⟨(WD_FRZ g), 0, 20⟩

/-! ### CM of (12_supervision.md) -/

/-- `CM_CTRL` (R351). -/
def CM_CTRL (g : Nat) : Nat := 0x203000 + g * 0x10000
/-- `CM_CTRL.GATE` [0:0], RW. -/
def CM_CTRL_GATE (g : Nat) : Fld := ⟨(CM_CTRL g), 0, 1⟩
/-- `CM_CTRL.START` [1:1], WO. -/
def CM_CTRL_START (g : Nat) : Fld := ⟨(CM_CTRL g), 1, 1⟩
/-- `CM_CTRL.STARTED` [2:2], RO. -/
def CM_CTRL_STARTED (g : Nat) : Fld := ⟨(CM_CTRL g), 2, 1⟩
/-- `CM_BEND` (R351). -/
def CM_BEND (g : Nat) : Nat := 0x203004 + g * 0x10000
/-- `CM_BEND.CONE` [4:0], WO. -/
def CM_BEND_CONE (g : Nat) : Fld := ⟨(CM_BEND g), 0, 5⟩
/-- `CM_OVER` (R351). -/
def CM_OVER (g : Nat) : Nat := 0x203008 + g * 0x10000
/-- `CM_OVER.MAP` [31:0], RO. -/
def CM_OVER_MAP (g : Nat) : Fld := ⟨(CM_OVER g), 0, 32⟩
/-- `CM_UNDER` (R351). -/
def CM_UNDER (g : Nat) : Nat := 0x20300C + g * 0x10000
/-- `CM_UNDER.MAP` [31:0], RO. -/
def CM_UNDER_MAP (g : Nat) : Fld := ⟨(CM_UNDER g), 0, 32⟩
/-- `CM_VFN` (R351). -/
def CM_VFN (g : Nat) : Nat := 0x203010 + g * 0x10000
/-- `CM_VERDICT` (R351). -/
def CM_VERDICT (g : Nat) : Nat := 0x203018 + g * 0x10000
/-- `CM_VERDICT.CLEAN` [0:0], RO. -/
def CM_VERDICT_CLEAN (g : Nat) : Fld := ⟨(CM_VERDICT g), 0, 1⟩
/-- `CM_VERDICT.SKIPPED` [1:1], RO. -/
def CM_VERDICT_SKIPPED (g : Nat) : Fld := ⟨(CM_VERDICT g), 1, 1⟩
/-- `CM_VERDICT.CFG_REJ` [8:8], W1C. -/
def CM_VERDICT_CFG_REJ (g : Nat) : Fld := ⟨(CM_VERDICT g), 8, 1⟩
/-- `CM_BAD_CNT` (R351). -/
def CM_BAD_CNT (g : Nat) : Nat := 0x20301C + g * 0x10000
/-- `CM_BAD_CNT.CNT` [15:0], RC. -/
def CM_BAD_CNT_CNT (g : Nat) : Fld := ⟨(CM_BAD_CNT g), 0, 16⟩
/-- `CM_OVER_CNT` (R351). -/
def CM_OVER_CNT (g : Nat) : Nat := 0x203020 + g * 0x10000
/-- `CM_OVER_CNT.CNT` [31:0], RC. -/
def CM_OVER_CNT_CNT (g : Nat) : Fld := ⟨(CM_OVER_CNT g), 0, 32⟩
/-- `CM_UNDER_CNT` (R351). -/
def CM_UNDER_CNT (g : Nat) : Nat := 0x203024 + g * 0x10000
/-- `CM_UNDER_CNT.CNT` [31:0], RC. -/
def CM_UNDER_CNT_CNT (g : Nat) : Fld := ⟨(CM_UNDER_CNT g), 0, 32⟩
/-- `CM_SKIP_CNT` (R351). -/
def CM_SKIP_CNT (g : Nat) : Nat := 0x203028 + g * 0x10000
/-- `CM_SKIP_CNT.CNT` [31:0], RC. -/
def CM_SKIP_CNT_CNT (g : Nat) : Fld := ⟨(CM_SKIP_CNT g), 0, 32⟩
/-- `CM_CONE_CFG` (R351). -/
def CM_CONE_CFG (g c : Nat) : Nat := 0x203100 + g * 0x10000 + c * 0x4
/-- `CM_CONE_CFG.EXP` [3:0], RW. -/
def CM_CONE_CFG_EXP (g c : Nat) : Fld := ⟨(CM_CONE_CFG g c), 0, 4⟩
/-- `CM_CONE_CFG.EN` [4:4], RW. -/
def CM_CONE_CFG_EN (g c : Nat) : Fld := ⟨(CM_CONE_CFG g c), 4, 1⟩
/-- `CM_CONE_CFG.R_UNDER` [10:8], RW. -/
def CM_CONE_CFG_R_UNDER (g c : Nat) : Fld := ⟨(CM_CONE_CFG g c), 8, 3⟩
/-- `CM_CONE_CFG.R_OVER` [14:12], RW. -/
def CM_CONE_CFG_R_OVER (g c : Nat) : Fld := ⟨(CM_CONE_CFG g c), 12, 3⟩
/-- `CM_CNT` (R351). -/
def CM_CNT (g c : Nat) : Nat := 0x203200 + g * 0x10000 + c * 0x4
/-- `CM_CNT.NOW` [4:0], RO. -/
def CM_CNT_NOW (g c : Nat) : Fld := ⟨(CM_CNT g c), 0, 5⟩
/-- `CM_CNT.LAST` [12:8], RO. -/
def CM_CNT_LAST (g c : Nat) : Fld := ⟨(CM_CNT g c), 8, 5⟩

/-! ### RETAINED (12_supervision.md) -/

/-- `RET_WD_RST` (R351). -/
def RET_WD_RST (g : Nat) : Nat := 0x910000 + g * 0x10
/-- `RET_WD_RST.COUNT` [15:0], RO. -/
def RET_WD_RST_COUNT (g : Nat) : Fld := ⟨(RET_WD_RST g), 0, 16⟩
/-- `RET_WD_RST_FN` (R351). -/
def RET_WD_RST_FN (g : Nat) : Nat := 0x910008 + g * 0x10
/-- `RET_SAFE_ID` (R351). -/
def RET_SAFE_ID : Nat := 0x910080
/-- `RET_SAFE_ID.ID` [8:0], RO. -/
def RET_SAFE_ID_ID : Fld := ⟨RET_SAFE_ID, 0, 9⟩
/-- `RET_SAFE_ID.CLASS` [14:12], RO. -/
def RET_SAFE_ID_CLASS : Fld := ⟨RET_SAFE_ID, 12, 3⟩
/-- `RET_SAFE_ID.REQUEST` [15:15], RO. -/
def RET_SAFE_ID_REQUEST : Fld := ⟨RET_SAFE_ID, 15, 1⟩
/-- `RET_SAFE_ID.VALID` [31:31], RO. -/
def RET_SAFE_ID_VALID : Fld := ⟨RET_SAFE_ID, 31, 1⟩
/-- `RET_SAFE_DETAIL` (R351). -/
def RET_SAFE_DETAIL : Nat := 0x910084
/-- `RET_SAFE_DETAIL.DETAIL` [31:0], RO. -/
def RET_SAFE_DETAIL_DETAIL : Fld := ⟨RET_SAFE_DETAIL, 0, 32⟩
/-- `RET_SAFE_FN` (R351). -/
def RET_SAFE_FN : Nat := 0x910088
/-- `RET_SAFE_TT` (R351). -/
def RET_SAFE_TT : Nat := 0x910090
/-- `RET_WARM_CNT` (R351). -/
def RET_WARM_CNT : Nat := 0x910098
/-- `RET_WARM_CNT.CNT` [15:0], RO. -/
def RET_WARM_CNT_CNT : Fld := ⟨RET_WARM_CNT, 0, 16⟩
/-- `RET_CTRL` (R351). -/
def RET_CTRL : Nat := 0x91009C
/-- `RET_CTRL.CLR` [0:0], WO. -/
def RET_CTRL_CLR : Fld := ⟨RET_CTRL, 0, 1⟩
/-- `RET_USER` (R351). -/
def RET_USER (i : Nat) : Nat := 0x910800 + i * 0x4

/-! ### HI (13_host_commands.md) -/

/-- `HI_STAT` (R381). -/
def HI_STAT : Nat := 0x600000
/-- `HI_STAT.LINK_UP` [0:0], RO. -/
def HI_STAT_LINK_UP : Fld := ⟨HI_STAT, 0, 1⟩
/-- `HI_STAT.GEN` [3:1], RO. -/
def HI_STAT_GEN : Fld := ⟨HI_STAT, 1, 3⟩
/-- `HI_STAT.WIDTH` [7:4], RO. -/
def HI_STAT_WIDTH : Fld := ⟨HI_STAT, 4, 4⟩
/-- `HI_STAT.FLIT` [8:8], RO. -/
def HI_STAT_FLIT : Fld := ⟨HI_STAT, 8, 1⟩
/-- `HI_STAT.PF0_D` [10:9], RO. -/
def HI_STAT_PF0_D : Fld := ⟨HI_STAT, 9, 2⟩
/-- `HI_STAT.PF1_D` [12:11], RO. -/
def HI_STAT_PF1_D : Fld := ⟨HI_STAT, 11, 2⟩
/-- `HI_STAT.PF0_BME` [13:13], RO. -/
def HI_STAT_PF0_BME : Fld := ⟨HI_STAT, 13, 1⟩
/-- `HI_STAT.PF1_BME` [14:14], RO. -/
def HI_STAT_PF1_BME : Fld := ⟨HI_STAT, 14, 1⟩
/-- `HI_STAT.READY` [15:15], RO. -/
def HI_STAT_READY : Fld := ⟨HI_STAT, 15, 1⟩
/-- `HI_STAT.LPM` [17:16], RO. -/
def HI_STAT_LPM : Fld := ⟨HI_STAT, 16, 2⟩
/-- `HI_ISR` (R381). -/
def HI_ISR : Nat := 0x600004
/-- `HI_ISR.LINK_DOWN` [0:0], W1C. -/
def HI_ISR_LINK_DOWN : Fld := ⟨HI_ISR, 0, 1⟩
/-- `HI_ISR.FLR0` [1:1], W1C. -/
def HI_ISR_FLR0 : Fld := ⟨HI_ISR, 1, 1⟩
/-- `HI_ISR.FLR1` [2:2], W1C. -/
def HI_ISR_FLR1 : Fld := ⟨HI_ISR, 2, 1⟩
/-- `HI_ISR.HOST_LOST` [3:3], W1C. -/
def HI_ISR_HOST_LOST : Fld := ⟨HI_ISR, 3, 1⟩
/-- `HI_ISR.MIRROR_WREJ` [4:4], W1C. -/
def HI_ISR_MIRROR_WREJ : Fld := ⟨HI_ISR, 4, 1⟩
/-- `HI_ISR.BAR2_WREJ` [5:5], W1C. -/
def HI_ISR_BAR2_WREJ : Fld := ⟨HI_ISR, 5, 1⟩
/-- `HI_ISR.DMA_ERR` [6:6], W1C. -/
def HI_ISR_DMA_ERR : Fld := ⟨HI_ISR, 6, 1⟩
/-- `HI_ISR.RESTART` [7:7], W1C. -/
def HI_ISR_RESTART : Fld := ⟨HI_ISR, 7, 1⟩
/-- `HI_ISR.AUTH_FAIL` [8:8], W1C. -/
def HI_ISR_AUTH_FAIL : Fld := ⟨HI_ISR, 8, 1⟩
/-- `HI_IER` (R381). -/
def HI_IER (f : Nat) : Nat := 0x600008 + f * 0x4
/-- `HI_IER.EN` [8:0], RW. -/
def HI_IER_EN (f : Nat) : Fld := ⟨(HI_IER f), 0, 9⟩
/-- `HI_HOST_WD` (R381). -/
def HI_HOST_WD : Nat := 0x600010
/-- `HI_HOST_WD.PER` [15:0], RW. -/
def HI_HOST_WD_PER : Fld := ⟨HI_HOST_WD, 0, 16⟩
/-- `HI_HOST_HB` (R381). -/
def HI_HOST_HB : Nat := 0x600014
/-- `HI_HOST_HB.HB` [31:0], WO. -/
def HI_HOST_HB_HB : Fld := ⟨HI_HOST_HB, 0, 32⟩
/-- `HI_DISCARD_CNT` (R381). -/
def HI_DISCARD_CNT : Nat := 0x600018
/-- `HI_DISCARD_CNT.CNT` [31:0], RC. -/
def HI_DISCARD_CNT_CNT : Fld := ⟨HI_DISCARD_CNT, 0, 32⟩
/-- `HI_CPL_DROP` (R381). -/
def HI_CPL_DROP : Nat := 0x60001C
/-- `HI_CPL_DROP.CNT` [15:0], RC. -/
def HI_CPL_DROP_CNT : Fld := ⟨HI_CPL_DROP, 0, 16⟩
/-- `HI_LINKDOWN_CNT` (R381). -/
def HI_LINKDOWN_CNT : Nat := 0x600020
/-- `HI_LINKDOWN_CNT.CNT` [15:0], RC. -/
def HI_LINKDOWN_CNT_CNT : Fld := ⟨HI_LINKDOWN_CNT, 0, 16⟩
/-- `HI_FLR_CNT` (R381). -/
def HI_FLR_CNT : Nat := 0x600024
/-- `HI_FLR_CNT.PF0` [7:0], RC. -/
def HI_FLR_CNT_PF0 : Fld := ⟨HI_FLR_CNT, 0, 8⟩
/-- `HI_FLR_CNT.PF1` [15:8], RC. -/
def HI_FLR_CNT_PF1 : Fld := ⟨HI_FLR_CNT, 8, 8⟩
/-- `HI_MIRROR_WREJ` (R381). -/
def HI_MIRROR_WREJ : Nat := 0x600028
/-- `HI_MIRROR_WREJ.CNT` [15:0], RC. -/
def HI_MIRROR_WREJ_CNT : Fld := ⟨HI_MIRROR_WREJ, 0, 16⟩
/-- `HI_BAR2_WREJ` (R381). -/
def HI_BAR2_WREJ : Nat := 0x60002C
/-- `HI_BAR2_WREJ.CNT` [31:0], RC. -/
def HI_BAR2_WREJ_CNT : Fld := ⟨HI_BAR2_WREJ, 0, 32⟩
/-- `HI_AUTH_FAIL_CNT` (R381). -/
def HI_AUTH_FAIL_CNT : Nat := 0x600030
/-- `HI_AUTH_FAIL_CNT.CNT` [15:0], RC. -/
def HI_AUTH_FAIL_CNT_CNT : Fld := ⟨HI_AUTH_FAIL_CNT, 0, 16⟩
/-- `HI_AUTH_CTR` (R381). -/
def HI_AUTH_CTR : Nat := 0x600038
/-- `HI_CFG` (R381). -/
def HI_CFG : Nat := 0x600040
/-- `HI_CFG.LOCAL_AUTH` [0:0], RO. -/
def HI_CFG_LOCAL_AUTH : Fld := ⟨HI_CFG, 0, 1⟩
/-- `HI_CFG.CHAIN_TO` [15:8], RW. -/
def HI_CFG_CHAIN_TO : Fld := ⟨HI_CFG, 8, 8⟩
/-- `HI_CMD_CNT` (R381). -/
def HI_CMD_CNT : Nat := 0x600044
/-- `HI_CMD_CNT.CNT` [31:0], RC. -/
def HI_CMD_CNT_CNT : Fld := ⟨HI_CMD_CNT, 0, 32⟩
/-- `HI_PEND_CHAINS` (R381). -/
def HI_PEND_CHAINS : Nat := 0x600048
/-- `HI_PEND_CHAINS.N` [8:0], RO. -/
def HI_PEND_CHAINS_N : Fld := ⟨HI_PEND_CHAINS, 0, 9⟩
/-- `HI_ID` (R381). -/
def HI_ID : Nat := 0x60004C
/-- `HI_ID.VID` [15:0], RO. -/
def HI_ID_VID : Fld := ⟨HI_ID, 0, 16⟩
/-- `HI_ID.DID` [31:16], RO. -/
def HI_ID_DID : Fld := ⟨HI_ID, 16, 16⟩

/-! ### HQ[q] (13_host_commands.md) -/

/-- `HQ_SQ_BASE` (R381). -/
def HQ_SQ_BASE (q : Nat) : Nat := 0x601000 + q * 0x40
/-- `HQ_CQ_BASE` (R381). -/
def HQ_CQ_BASE (q : Nat) : Nat := 0x601008 + q * 0x40
/-- `HQ_SIZE` (R381). -/
def HQ_SIZE (q : Nat) : Nat := 0x601010 + q * 0x40
/-- `HQ_SIZE.SQ_LOG2` [3:0], RW. -/
def HQ_SIZE_SQ_LOG2 (q : Nat) : Fld := ⟨(HQ_SIZE q), 0, 4⟩
/-- `HQ_SIZE.CQ_LOG2` [11:8], RW. -/
def HQ_SIZE_CQ_LOG2 (q : Nat) : Fld := ⟨(HQ_SIZE q), 8, 4⟩
/-- `HQ_VEC` (R381). -/
def HQ_VEC (q : Nat) : Nat := 0x601014 + q * 0x40
/-- `HQ_VEC.VEC` [7:0], RW. -/
def HQ_VEC_VEC (q : Nat) : Fld := ⟨(HQ_VEC q), 0, 8⟩
/-- `HQ_MOD` (R381). -/
def HQ_MOD (q : Nat) : Nat := 0x601018 + q * 0x40
/-- `HQ_MOD.CNT` [7:0], RW. -/
def HQ_MOD_CNT (q : Nat) : Fld := ⟨(HQ_MOD q), 0, 8⟩
/-- `HQ_MOD.TIME` [25:16], RW. -/
def HQ_MOD_TIME (q : Nat) : Fld := ⟨(HQ_MOD q), 16, 10⟩
/-- `HQ_CTRL` (R381). -/
def HQ_CTRL (q : Nat) : Nat := 0x60101C + q * 0x40
/-- `HQ_CTRL.EN` [0:0], RW. -/
def HQ_CTRL_EN (q : Nat) : Fld := ⟨(HQ_CTRL q), 0, 1⟩
/-- `HQ_STAT` (R381). -/
def HQ_STAT (q : Nat) : Nat := 0x601020 + q * 0x40
/-- `HQ_STAT.RUN` [0:0], RO. -/
def HQ_STAT_RUN (q : Nat) : Fld := ⟨(HQ_STAT q), 0, 1⟩
/-- `HQ_STAT.ERR` [1:1], RO. -/
def HQ_STAT_ERR (q : Nat) : Fld := ⟨(HQ_STAT q), 1, 1⟩
/-- `HQ_STAT.CFG_REJ` [2:2], W1C. -/
def HQ_STAT_CFG_REJ (q : Nat) : Fld := ⟨(HQ_STAT q), 2, 1⟩
/-- `HQ_STAT.HELD` [3:3], RO. -/
def HQ_STAT_HELD (q : Nat) : Fld := ⟨(HQ_STAT q), 3, 1⟩
/-- `HQ_STAT.WAIT_CHAIN` [4:4], RO. -/
def HQ_STAT_WAIT_CHAIN (q : Nat) : Fld := ⟨(HQ_STAT q), 4, 1⟩
/-- `HQ_SQ_TAIL` (R381). -/
def HQ_SQ_TAIL (q : Nat) : Nat := 0x601024 + q * 0x40
/-- `HQ_SQ_TAIL.IDX` [11:0], RO. -/
def HQ_SQ_TAIL_IDX (q : Nat) : Fld := ⟨(HQ_SQ_TAIL q), 0, 12⟩
/-- `HQ_SQ_HEAD` (R381). -/
def HQ_SQ_HEAD (q : Nat) : Nat := 0x601028 + q * 0x40
/-- `HQ_SQ_HEAD.IDX` [11:0], RO. -/
def HQ_SQ_HEAD_IDX (q : Nat) : Fld := ⟨(HQ_SQ_HEAD q), 0, 12⟩
/-- `HQ_CQ_TAIL` (R381). -/
def HQ_CQ_TAIL (q : Nat) : Nat := 0x60102C + q * 0x40
/-- `HQ_CQ_TAIL.IDX` [11:0], RO. -/
def HQ_CQ_TAIL_IDX (q : Nat) : Fld := ⟨(HQ_CQ_TAIL q), 0, 12⟩
/-- `HQ_CQ_TAIL.PHASE` [16:16], RO. -/
def HQ_CQ_TAIL_PHASE (q : Nat) : Fld := ⟨(HQ_CQ_TAIL q), 16, 1⟩
/-- `HQ_CQ_HEAD` (R381). -/
def HQ_CQ_HEAD (q : Nat) : Nat := 0x601030 + q * 0x40
/-- `HQ_CQ_HEAD.IDX` [11:0], RO. -/
def HQ_CQ_HEAD_IDX (q : Nat) : Fld := ⟨(HQ_CQ_HEAD q), 0, 12⟩
/-- `HQ_UNSIG` (R381). -/
def HQ_UNSIG (q : Nat) : Nat := 0x601034 + q * 0x40
/-- `HQ_UNSIG.N` [12:0], RO. -/
def HQ_UNSIG_N (q : Nat) : Fld := ⟨(HQ_UNSIG q), 0, 13⟩
/-- `HQ_CMD_CNT` (R381). -/
def HQ_CMD_CNT (q : Nat) : Nat := 0x601038 + q * 0x40
/-- `HQ_CMD_CNT.CNT` [31:0], RC. -/
def HQ_CMD_CNT_CNT (q : Nat) : Fld := ⟨(HQ_CMD_CNT q), 0, 32⟩
/-- `HQ_ERR_CNT` (R381). -/
def HQ_ERR_CNT (q : Nat) : Nat := 0x60103C + q * 0x40
/-- `HQ_ERR_CNT.CNT` [15:0], RC. -/
def HQ_ERR_CNT_CNT (q : Nat) : Fld := ⟨(HQ_ERR_CNT q), 0, 16⟩

/-! ### DM (14_memory_archive.md) -/

/-- `DM_STAT` (R401). -/
def DM_STAT : Nat := 0x700000
/-- `DM_STAT.READY` [0:0], RO. -/
def DM_STAT_READY : Fld := ⟨DM_STAT, 0, 1⟩
/-- `DM_STAT.CFG_REJ` [1:1], W1C. -/
def DM_STAT_CFG_REJ : Fld := ⟨DM_STAT, 1, 1⟩
/-- `DM_STAT.TEMP` [15:8], RO. -/
def DM_STAT_TEMP : Fld := ⟨DM_STAT, 8, 8⟩
/-- `DM_SCRUB_PER` (R401). -/
def DM_SCRUB_PER : Nat := 0x700004
/-- `DM_SCRUB_PER.EN` [0:0], RW. -/
def DM_SCRUB_PER_EN : Fld := ⟨DM_SCRUB_PER, 0, 1⟩
/-- `DM_SCRUB_PER.PER` [23:8], RW. -/
def DM_SCRUB_PER_PER : Fld := ⟨DM_SCRUB_PER, 8, 16⟩
/-- `DM_SCRUB_PASS` (R401). -/
def DM_SCRUB_PASS : Nat := 0x700008
/-- `DM_SCRUB_PASS.CNT` [31:0], RC. -/
def DM_SCRUB_PASS_CNT : Fld := ⟨DM_SCRUB_PASS, 0, 32⟩
/-- `DM_CORR_CNT` (R401). -/
def DM_CORR_CNT : Nat := 0x70000C
/-- `DM_CORR_CNT.CNT` [31:0], RC. -/
def DM_CORR_CNT_CNT : Fld := ⟨DM_CORR_CNT, 0, 32⟩
/-- `DM_UNC_CNT` (R401). -/
def DM_UNC_CNT : Nat := 0x700010
/-- `DM_UNC_CNT.CNT` [15:0], RC. -/
def DM_UNC_CNT_CNT : Fld := ⟨DM_UNC_CNT, 0, 16⟩
/-- `DM_CORR_LIM` (R401). -/
def DM_CORR_LIM : Nat := 0x700014
/-- `DM_CORR_LIM.N` [15:0], RW. -/
def DM_CORR_LIM_N : Fld := ⟨DM_CORR_LIM, 0, 16⟩
/-- `DM_LAST_ADDR` (R401). -/
def DM_LAST_ADDR : Nat := 0x700018
/-- `DM_LAT_MAX` (R401). -/
def DM_LAT_MAX : Nat := 0x700020
/-- `DM_LAT_MAX.CCLK` [15:0], RC. -/
def DM_LAT_MAX_CCLK : Fld := ⟨DM_LAT_MAX, 0, 16⟩

/-! ### CF (14_memory_archive.md) -/

/-- `CF_STAT` (R401). -/
def CF_STAT : Nat := 0x720000
/-- `CF_STAT.ACTIVE` [0:0], RO. -/
def CF_STAT_ACTIVE : Fld := ⟨CF_STAT, 0, 1⟩
/-- `CF_STAT.TRIAL` [1:1], RO. -/
def CF_STAT_TRIAL : Fld := ⟨CF_STAT, 1, 1⟩
/-- `CF_STAT.TRIES` [3:2], RO. -/
def CF_STAT_TRIES : Fld := ⟨CF_STAT, 2, 2⟩
/-- `CF_STAT.ROLLBACK` [4:4], W1C. -/
def CF_STAT_ROLLBACK : Fld := ⟨CF_STAT, 4, 1⟩
/-- `CF_STAT.BUSY` [5:5], RO. -/
def CF_STAT_BUSY : Fld := ⟨CF_STAT, 5, 1⟩
/-- `CF_CMD` (R401). -/
def CF_CMD : Nat := 0x720004
/-- `CF_CMD.OP` [1:0], WO. -/
def CF_CMD_OP : Fld := ⟨CF_CMD, 0, 2⟩
/-- `CF_ADDR` (R401). -/
def CF_ADDR : Nat := 0x720008
/-- `CF_ADDR.ADDR` [25:7], RW. -/
def CF_ADDR_ADDR : Fld := ⟨CF_ADDR, 7, 19⟩
/-- `CF_SRC` (R401). -/
def CF_SRC : Nat := 0x720010
/-- `CF_RESULT` (R401). -/
def CF_RESULT : Nat := 0x720018
/-- `CF_RESULT.RESULT` [2:0], RO. -/
def CF_RESULT_RESULT : Fld := ⟨CF_RESULT, 0, 3⟩
/-- `CF_ERASE_CNT` (R401). -/
def CF_ERASE_CNT : Nat := 0x72001C
/-- `CF_ERASE_CNT.CNT` [31:0], RC. -/
def CF_ERASE_CNT_CNT : Fld := ⟨CF_ERASE_CNT, 0, 32⟩
/-- `CF_OP_TIME` (R401). -/
def CF_OP_TIME : Nat := 0x720020
/-- `CF_OP_TIME.US` [19:0], RO. -/
def CF_OP_TIME_US : Fld := ⟨CF_OP_TIME, 0, 20⟩

/-! ### AR (14_memory_archive.md) -/

/-- `AR_CTRL` (R401). -/
def AR_CTRL : Nat := 0x710000
/-- `AR_CTRL.EN` [0:0], RW. -/
def AR_CTRL_EN : Fld := ⟨AR_CTRL, 0, 1⟩
/-- `AR_CTRL.KEEP` [1:1], RW. -/
def AR_CTRL_KEEP : Fld := ⟨AR_CTRL, 1, 1⟩
/-- `AR_CTRL.CROPS` [2:2], RW. -/
def AR_CTRL_CROPS : Fld := ⟨AR_CTRL, 2, 1⟩
/-- `AR_STAT` (R401). -/
def AR_STAT : Nat := 0x710004
/-- `AR_STAT.READY` [0:0], RO. -/
def AR_STAT_READY : Fld := ⟨AR_STAT, 0, 1⟩
/-- `AR_STAT.PF_ACTIVE` [1:1], RO. -/
def AR_STAT_PF_ACTIVE : Fld := ⟨AR_STAT, 1, 1⟩
/-- `AR_STAT.PF_DONE` [2:2], W1C. -/
def AR_STAT_PF_DONE : Fld := ⟨AR_STAT, 2, 1⟩
/-- `AR_STAT.FULL` [3:3], RO. -/
def AR_STAT_FULL : Fld := ⟨AR_STAT, 3, 1⟩
/-- `AR_STAT.THROTTLE` [5:4], RO. -/
def AR_STAT_THROTTLE : Fld := ⟨AR_STAT, 4, 2⟩
/-- `AR_STAT.CFG_REJ` [8:8], W1C. -/
def AR_STAT_CFG_REJ : Fld := ⟨AR_STAT, 8, 1⟩
/-- `AR_RATE` (R401). -/
def AR_RATE : Nat := 0x710008
/-- `AR_RATE.MBS` [12:0], RW. -/
def AR_RATE_MBS : Fld := ⟨AR_RATE, 0, 13⟩
/-- `AR_PF_LIMIT` (R401). -/
def AR_PF_LIMIT : Nat := 0x71000C
/-- `AR_PF_LIMIT.MIB` [3:0], RW. -/
def AR_PF_LIMIT_MIB : Fld := ⟨AR_PF_LIMIT, 0, 4⟩
/-- `AR_DURABLE_FN` (R401). -/
def AR_DURABLE_FN : Nat := 0x710010
/-- `AR_PEND_BYTES` (R401). -/
def AR_PEND_BYTES : Nat := 0x710018
/-- `AR_FREE` (R401). -/
def AR_FREE : Nat := 0x710020
/-- `AR_LOW_WM` (R401). -/
def AR_LOW_WM : Nat := 0x710028
/-- `AR_HOST_WR` (R401). -/
def AR_HOST_WR : Nat := 0x710030
/-- `AR_NAND_WR` (R401). -/
def AR_NAND_WR : Nat := 0x710038
/-- `AR_WEAR` (R401). -/
def AR_WEAR : Nat := 0x710040
/-- `AR_WEAR.PCT` [7:0], RO. -/
def AR_WEAR_PCT : Fld := ⟨AR_WEAR, 0, 8⟩
/-- `AR_TEMP` (R401). -/
def AR_TEMP : Nat := 0x710044
/-- `AR_TEMP.C` [7:0], RO. -/
def AR_TEMP_C : Fld := ⟨AR_TEMP, 0, 8⟩
/-- `AR_CROP_SKIP` (R401). -/
def AR_CROP_SKIP : Nat := 0x710048
/-- `AR_CROP_SKIP.CNT` [31:0], RC. -/
def AR_CROP_SKIP_CNT : Fld := ⟨AR_CROP_SKIP, 0, 32⟩
/-- `AR_COILS` (R401). -/
def AR_COILS : Nat := 0x71004C
/-- `AR_COILS.N` [15:0], RO. -/
def AR_COILS_N : Fld := ⟨AR_COILS, 0, 16⟩
/-- `AR_COILS.OPEN` [31:16], RO. -/
def AR_COILS_OPEN : Fld := ⟨AR_COILS, 16, 16⟩
/-- `AR_MEDIA_CNT` (R401). -/
def AR_MEDIA_CNT : Nat := 0x710050
/-- `AR_MEDIA_CNT.CNT` [15:0], RC. -/
def AR_MEDIA_CNT_CNT : Fld := ⟨AR_MEDIA_CNT, 0, 16⟩
/-- `AR_PF_LAST` (R401). -/
def AR_PF_LAST : Nat := 0x710054
/-- `AR_PF_LAST.US` [15:0], RO. -/
def AR_PF_LAST_US : Fld := ⟨AR_PF_LAST, 0, 16⟩
/-- `AR_DELETE_CNT` (R401). -/
def AR_DELETE_CNT : Nat := 0x710058
/-- `AR_DELETE_CNT.CNT` [31:0], RC. -/
def AR_DELETE_CNT_CNT : Fld := ⟨AR_DELETE_CNT, 0, 32⟩
/-- `AR_DISC_CNT` (R401). -/
def AR_DISC_CNT : Nat := 0x71005C
/-- `AR_DISC_CNT.CNT` [31:0], RC. -/
def AR_DISC_CNT_CNT : Fld := ⟨AR_DISC_CNT, 0, 32⟩

/-! ### SG (15_security.md) -/

/-- `SG_LC` (R432). -/
def SG_LC : Nat := 0x800000
/-- `SG_LC.STATE` [1:0], RO. -/
def SG_LC_STATE : Fld := ⟨SG_LC, 0, 2⟩
/-- `SG_LC.KILL` [8:8], RO. -/
def SG_LC_KILL : Fld := ⟨SG_LC, 8, 1⟩
/-- `SG_LC.ID_VALID` [9:9], RO. -/
def SG_LC_ID_VALID : Fld := ⟨SG_LC, 9, 1⟩
/-- `SG_STAT` (R432). -/
def SG_STAT : Nat := 0x800004
/-- `SG_STAT.CFG_REJ` [0:0], W1C. -/
def SG_STAT_CFG_REJ : Fld := ⟨SG_STAT, 0, 1⟩
/-- `SG_STAT.BUSY` [1:1], RO. -/
def SG_STAT_BUSY : Fld := ⟨SG_STAT, 1, 1⟩
/-- `SG_STAT.NV_OK` [2:2], RO. -/
def SG_STAT_NV_OK : Fld := ⟨SG_STAT, 2, 1⟩
/-- `SG_BOOT_STAT` (R432). -/
def SG_BOOT_STAT : Nat := 0x800008
/-- `SG_BOOT_STAT.CODE` [3:0], RO. -/
def SG_BOOT_STAT_CODE : Fld := ⟨SG_BOOT_STAT, 0, 4⟩
/-- `SG_BOOT_STAT.STAGE` [5:4], RO. -/
def SG_BOOT_STAT_STAGE : Fld := ⟨SG_BOOT_STAT, 4, 2⟩
/-- `SG_BOOT_STAT.HALF` [6:6], RO. -/
def SG_BOOT_STAT_HALF : Fld := ⟨SG_BOOT_STAT, 6, 1⟩
/-- `SG_SVN_FLOOR` (R432). -/
def SG_SVN_FLOOR : Nat := 0x80000C
/-- `SG_SVN_FLOOR.GLOST` [7:0], RO. -/
def SG_SVN_FLOOR_GLOST : Fld := ⟨SG_SVN_FLOOR, 0, 8⟩
/-- `SG_SVN_FLOOR.KW` [15:8], RO. -/
def SG_SVN_FLOOR_KW : Fld := ⟨SG_SVN_FLOOR, 8, 8⟩
/-- `SG_SVN_FLOOR.APP` [23:16], RO. -/
def SG_SVN_FLOOR_APP : Fld := ⟨SG_SVN_FLOOR, 16, 8⟩
/-- `SG_SVN_COMMIT` (R432). -/
def SG_SVN_COMMIT : Nat := 0x800010
/-- `SG_SVN_COMMIT.RAISE` [2:0], WO. -/
def SG_SVN_COMMIT_RAISE : Fld := ⟨SG_SVN_COMMIT, 0, 3⟩
/-- `SG_EPOCH_MAX` (R432). -/
def SG_EPOCH_MAX : Nat := 0x800014
/-- `SG_EPOCH_MAX.EPOCH` [15:0], RO. -/
def SG_EPOCH_MAX_EPOCH : Fld := ⟨SG_EPOCH_MAX, 0, 16⟩
/-- `SG_LC_ADVANCE` (R432). -/
def SG_LC_ADVANCE : Nat := 0x800018
/-- `SG_LC_ADVANCE.TARGET` [1:0], WO. -/
def SG_LC_ADVANCE_TARGET : Fld := ⟨SG_LC_ADVANCE, 0, 2⟩
/-- `SG_ALARM_STAT` (R432). -/
def SG_ALARM_STAT : Nat := 0x80001C
/-- `SG_ALARM_STAT.TAMP` [3:0], RO. -/
def SG_ALARM_STAT_TAMP : Fld := ⟨SG_ALARM_STAT, 0, 4⟩
/-- `SG_ALARM_STAT.MESH` [4:4], RO. -/
def SG_ALARM_STAT_MESH : Fld := ⟨SG_ALARM_STAT, 4, 1⟩
/-- `SG_ALARM_STAT.LIGHT` [5:5], RO. -/
def SG_ALARM_STAT_LIGHT : Fld := ⟨SG_ALARM_STAT, 5, 1⟩
/-- `SG_ALARM_STAT.VOLT` [6:6], RO. -/
def SG_ALARM_STAT_VOLT : Fld := ⟨SG_ALARM_STAT, 6, 1⟩
/-- `SG_ALARM_STAT.CLK` [7:7], RO. -/
def SG_ALARM_STAT_CLK : Fld := ⟨SG_ALARM_STAT, 7, 1⟩
/-- `SG_ALARM_STAT.TEMP` [8:8], RO. -/
def SG_ALARM_STAT_TEMP : Fld := ⟨SG_ALARM_STAT, 8, 1⟩
/-- `SG_ALARM_STAT.DBG` [9:9], RO. -/
def SG_ALARM_STAT_DBG : Fld := ⟨SG_ALARM_STAT, 9, 1⟩
/-- `SG_ALARM_STAT.FCU` [10:10], RO. -/
def SG_ALARM_STAT_FCU : Fld := ⟨SG_ALARM_STAT, 10, 1⟩
/-- `SG_ALARM_STAT.CLASS` [13:12], RO. -/
def SG_ALARM_STAT_CLASS : Fld := ⟨SG_ALARM_STAT, 12, 2⟩
/-- `SG_ALARM_STAT.ERASED` [15:15], RO. -/
def SG_ALARM_STAT_ERASED : Fld := ⟨SG_ALARM_STAT, 15, 1⟩
/-- `SG_TAMP_CFG` (R432). -/
def SG_TAMP_CFG : Nat := 0x800020
/-- `SG_TAMP_CFG.MODE` [7:0], RWL. -/
def SG_TAMP_CFG_MODE : Fld := ⟨SG_TAMP_CFG, 0, 8⟩
/-- `SG_TAMP_CFG.CLASS` [11:8], RWL. -/
def SG_TAMP_CFG_CLASS : Fld := ⟨SG_TAMP_CFG, 8, 4⟩
/-- `SG_TAMP_STAT` (R432). -/
def SG_TAMP_STAT : Nat := 0x800024
/-- `SG_TAMP_STAT.LEVEL` [3:0], RO. -/
def SG_TAMP_STAT_LEVEL : Fld := ⟨SG_TAMP_STAT, 0, 4⟩
/-- `SG_FUSE_ADDR` (R432). -/
def SG_FUSE_ADDR : Nat := 0x800030
/-- `SG_FUSE_ADDR.WORD` [7:0], RW. -/
def SG_FUSE_ADDR_WORD : Fld := ⟨SG_FUSE_ADDR, 0, 8⟩
/-- `SG_FUSE_DATA` (R432). -/
def SG_FUSE_DATA : Nat := 0x800034
/-- `SG_FUSE_DATA.DATA` [31:0], RW. -/
def SG_FUSE_DATA_DATA : Fld := ⟨SG_FUSE_DATA, 0, 32⟩
/-- `SG_FUSE_CMD` (R432). -/
def SG_FUSE_CMD : Nat := 0x800038
/-- `SG_FUSE_CMD.GO` [0:0], WO. -/
def SG_FUSE_CMD_GO : Fld := ⟨SG_FUSE_CMD, 0, 1⟩
/-- `SG_FUSE_CMD.BUSY` [1:1], RO. -/
def SG_FUSE_CMD_BUSY : Fld := ⟨SG_FUSE_CMD, 1, 1⟩
/-- `SG_FUSE_CMD.RESULT` [3:2], RO. -/
def SG_FUSE_CMD_RESULT : Fld := ⟨SG_FUSE_CMD, 2, 2⟩
/-- `SG_FUSE_READ` (R432). -/
def SG_FUSE_READ : Nat := 0x80003C
/-- `SG_FUSE_READ.DATA` [31:0], RO. -/
def SG_FUSE_READ_DATA : Fld := ⟨SG_FUSE_READ, 0, 32⟩
/-- `SG_PUF_CTRL` (R432). -/
def SG_PUF_CTRL : Nat := 0x800040
/-- `SG_PUF_CTRL.ENROLL` [0:0], WO. -/
def SG_PUF_CTRL_ENROLL : Fld := ⟨SG_PUF_CTRL, 0, 1⟩
/-- `SG_PUF_CTRL.BUSY` [1:1], RO. -/
def SG_PUF_CTRL_BUSY : Fld := ⟨SG_PUF_CTRL, 1, 1⟩
/-- `SG_VER_ADDR` (R432). -/
def SG_VER_ADDR : Nat := 0x800048
/-- `SG_VER_LEN` (R432). -/
def SG_VER_LEN : Nat := 0x800050
/-- `SG_VER_LEN.BYTES` [24:0], RW. -/
def SG_VER_LEN_BYTES : Fld := ⟨SG_VER_LEN, 0, 25⟩
/-- `SG_VER_CTRL` (R432). -/
def SG_VER_CTRL : Nat := 0x800054
/-- `SG_VER_CTRL.GO` [0:0], WO. -/
def SG_VER_CTRL_GO : Fld := ⟨SG_VER_CTRL, 0, 1⟩
/-- `SG_VER_CTRL.BUSY` [1:1], RO. -/
def SG_VER_CTRL_BUSY : Fld := ⟨SG_VER_CTRL, 1, 1⟩
/-- `SG_VER_CTRL.RESULT` [4:2], RO. -/
def SG_VER_CTRL_RESULT : Fld := ⟨SG_VER_CTRL, 2, 3⟩
/-- `SG_EVT_HEAD` (R432). -/
def SG_EVT_HEAD : Nat := 0x800058
/-- `SG_EVT_HEAD.CNT` [31:0], RO. -/
def SG_EVT_HEAD_CNT : Fld := ⟨SG_EVT_HEAD, 0, 32⟩
/-- `SG_EVT_IDX` (R432). -/
def SG_EVT_IDX : Nat := 0x80005C
/-- `SG_EVT_IDX.IDX` [7:0], RW. -/
def SG_EVT_IDX_IDX : Fld := ⟨SG_EVT_IDX, 0, 8⟩
/-- `SG_EVT_DATA` (R432). -/
def SG_EVT_DATA (i : Nat) : Nat := 0x800060 + i * 0x4
/-- `SG_EVT_DATA.DATA` [31:0], RO. -/
def SG_EVT_DATA_DATA (i : Nat) : Fld := ⟨(SG_EVT_DATA i), 0, 32⟩
/-- `SG_DBG_CTRL` (R432). -/
def SG_DBG_CTRL : Nat := 0x800080
/-- `SG_DBG_CTRL.REQ_LEVEL` [1:0], RW. -/
def SG_DBG_CTRL_REQ_LEVEL : Fld := ⟨SG_DBG_CTRL, 0, 2⟩
/-- `SG_DBG_CTRL.KEY` [2:2], RW. -/
def SG_DBG_CTRL_KEY : Fld := ⟨SG_DBG_CTRL, 2, 1⟩
/-- `SG_DBG_CTRL.GO` [3:3], WO. -/
def SG_DBG_CTRL_GO : Fld := ⟨SG_DBG_CTRL, 3, 1⟩
/-- `SG_DBG_CTRL.END` [4:4], WO. -/
def SG_DBG_CTRL_END : Fld := ⟨SG_DBG_CTRL, 4, 1⟩
/-- `SG_DBG_CTRL.LEVEL` [6:5], RO. -/
def SG_DBG_CTRL_LEVEL : Fld := ⟨SG_DBG_CTRL, 5, 2⟩
/-- `SG_DBG_CTRL.BUSY` [7:7], RO. -/
def SG_DBG_CTRL_BUSY : Fld := ⟨SG_DBG_CTRL, 7, 1⟩
/-- `SG_DBG_CTRL.RESULT` [9:8], RO. -/
def SG_DBG_CTRL_RESULT : Fld := ⟨SG_DBG_CTRL, 8, 2⟩
/-- `SG_DBG_FAIL_CNT` (R432). -/
def SG_DBG_FAIL_CNT : Nat := 0x800084
/-- `SG_DBG_FAIL_CNT.CNT` [15:0], RC. -/
def SG_DBG_FAIL_CNT_CNT : Fld := ⟨SG_DBG_FAIL_CNT, 0, 16⟩
/-- `SG_DBG_NONCE` (R432). -/
def SG_DBG_NONCE (i : Nat) : Nat := 0x8000A0 + i * 0x4
/-- `SG_DBG_NONCE.NONCE` [31:0], RO. -/
def SG_DBG_NONCE_NONCE (i : Nat) : Fld := ⟨(SG_DBG_NONCE i), 0, 32⟩
/-- `SG_MEAS` (R432). -/
def SG_MEAS (i j : Nat) : Nat := 0x800100 + i * 0x40 + j * 4
/-- `SG_MEAS.MEAS` [31:0], RO. -/
def SG_MEAS_MEAS (i j : Nat) : Fld := ⟨(SG_MEAS i j), 0, 32⟩
/-- `SG_ID_DIGEST` (R432). -/
def SG_ID_DIGEST (j : Nat) : Nat := 0x800300 + j * 0x4
/-- `SG_ID_DIGEST.DIGEST` [31:0], RO. -/
def SG_ID_DIGEST_DIGEST (j : Nat) : Fld := ⟨(SG_ID_DIGEST j), 0, 32⟩
/-- `SG_PUF_HELPER_OUT` (R432). -/
def SG_PUF_HELPER_OUT (j : Nat) : Nat := 0x800400 + j * 0x4
/-- `SG_PUF_HELPER_OUT.DATA` [31:0], RO. -/
def SG_PUF_HELPER_OUT_DATA (j : Nat) : Fld := ⟨(SG_PUF_HELPER_OUT j), 0, 32⟩
/-- `SG_DBG_SIG` (R432). -/
def SG_DBG_SIG (i : Nat) : Nat := 0x801000 + i * 0x4
/-- `SG_ID_PUB` (R432). -/
def SG_ID_PUB (i : Nat) : Nat := 0x803000 + i * 0x4

/-! ### PM (16_modes_twins.md) -/

/-- `PM_MODE` (R458). -/
def PM_MODE : Nat := 0x900000
/-- `PM_MODE.MODE` [2:0], RO. -/
def PM_MODE_MODE : Fld := ⟨PM_MODE, 0, 3⟩
/-- `PM_MODE.PREV` [5:3], RO. -/
def PM_MODE_PREV : Fld := ⟨PM_MODE, 3, 3⟩
/-- `PM_MODE.DEGR` [19:16], RO. -/
def PM_MODE_DEGR : Fld := ⟨PM_MODE, 16, 4⟩
/-- `PM_MODE_FN` (R458). -/
def PM_MODE_FN : Nat := 0x900004
/-- `PM_MODE_REQ` (R458). -/
def PM_MODE_REQ : Nat := 0x90000C
/-- `PM_MODE_REQ.TARGET` [2:0], WO. -/
def PM_MODE_REQ_TARGET : Fld := ⟨PM_MODE_REQ, 0, 3⟩
/-- `PM_RST_CAUSE` (R458). -/
def PM_RST_CAUSE : Nat := 0x900010
/-- `PM_RST_CAUSE.CAUSE` [2:0], RO. -/
def PM_RST_CAUSE_CAUSE : Fld := ⟨PM_RST_CAUSE, 0, 3⟩
/-- `PM_RST_CAUSE.AON_KEPT` [4:4], RO. -/
def PM_RST_CAUSE_AON_KEPT : Fld := ⟨PM_RST_CAUSE, 4, 1⟩
/-- `PM_MODE_CNT` (R458). -/
def PM_MODE_CNT : Nat := 0x900014
/-- `PM_MODE_CNT.CNT` [15:0], RC. -/
def PM_MODE_CNT_CNT : Fld := ⟨PM_MODE_CNT, 0, 16⟩
/-- `PM_CTRL` (R458). -/
def PM_CTRL : Nat := 0x900018
/-- `PM_CTRL.WARM` [0:0], WO. -/
def PM_CTRL_WARM : Fld := ⟨PM_CTRL, 0, 1⟩
/-- `PM_CTRL.ACTIVATE` [1:1], WO. -/
def PM_CTRL_ACTIVATE : Fld := ⟨PM_CTRL, 1, 1⟩
/-- `PM_GENTRY` (R458). -/
def PM_GENTRY (g : Nat) : Nat := 0x900020 + g * 0x4
/-- `PM_GENTRY.ENTRY` [31:2], RW. -/
def PM_GENTRY_ENTRY (g : Nat) : Fld := ⟨(PM_GENTRY g), 2, 30⟩
/-- `PM_RAIL_STAT` (R458). -/
def PM_RAIL_STAT : Nat := 0x900040
/-- `PM_RAIL_STAT.GOOD` [6:0], RO. -/
def PM_RAIL_STAT_GOOD : Fld := ⟨PM_RAIL_STAT, 0, 7⟩
/-- `PM_CLK_STAT` (R458). -/
def PM_CLK_STAT : Nat := 0x900044
/-- `PM_CLK_STAT.LOCK` [2:0], RO. -/
def PM_CLK_STAT_LOCK : Fld := ⟨PM_CLK_STAT, 0, 3⟩
/-- `PM_TJ` (R458). -/
def PM_TJ : Nat := 0x900048
/-- `PM_TJ.C` [7:0], RO. -/
def PM_TJ_C : Fld := ⟨PM_TJ, 0, 8⟩
/-- `PM_WARN_CNT` (R458). -/
def PM_WARN_CNT : Nat := 0x90004C
/-- `PM_WARN_CNT.CNT` [15:0], RC. -/
def PM_WARN_CNT_CNT : Fld := ⟨PM_WARN_CNT, 0, 16⟩

/-! ### TW (16_modes_twins.md) -/

/-- `TW_CFG` (R458). -/
def TW_CFG : Nat := 0xA00000
/-- `TW_CFG.EN` [0:0], RW. -/
def TW_CFG_EN : Fld := ⟨TW_CFG, 0, 1⟩
/-- `TW_CFG.PRIMARY` [1:1], RW. -/
def TW_CFG_PRIMARY : Fld := ⟨TW_CFG, 1, 1⟩
/-- `TW_CFG.CONVERGE` [15:8], RW. -/
def TW_CFG_CONVERGE : Fld := ⟨TW_CFG, 8, 8⟩
/-- `TW_STAT` (R458). -/
def TW_STAT : Nat := 0xA00004
/-- `TW_STAT.ROLE` [1:0], RO. -/
def TW_STAT_ROLE : Fld := ⟨TW_STAT, 0, 2⟩
/-- `TW_STAT.INSTEP` [2:2], RO. -/
def TW_STAT_INSTEP : Fld := ⟨TW_STAT, 2, 1⟩
/-- `TW_STAT.PEER_ACT` [3:3], RO. -/
def TW_STAT_PEER_ACT : Fld := ⟨TW_STAT, 3, 1⟩
/-- `TW_STAT.ACT` [4:4], RO. -/
def TW_STAT_ACT : Fld := ⟨TW_STAT, 4, 1⟩
/-- `TW_STAT.CFG_REJ` [8:8], W1C. -/
def TW_STAT_CFG_REJ : Fld := ⟨TW_STAT, 8, 1⟩
/-- `TW_EPOCH` (R458). -/
def TW_EPOCH : Nat := 0xA00008
/-- `TW_EPOCH.EPOCH` [15:0], RO. -/
def TW_EPOCH_EPOCH : Fld := ⟨TW_EPOCH, 0, 16⟩
/-- `TW_EPOCH.PEER_MAX` [31:16], RO. -/
def TW_EPOCH_PEER_MAX : Fld := ⟨TW_EPOCH, 16, 16⟩
/-- `TW_DIG_TO` (R458). -/
def TW_DIG_TO : Nat := 0xA0000C
/-- `TW_DIG_TO.US` [15:0], RW. -/
def TW_DIG_TO_US : Fld := ⟨TW_DIG_TO, 0, 16⟩
/-- `TW_FIRE_TO` (R458). -/
def TW_FIRE_TO : Nat := 0xA00010
/-- `TW_FIRE_TO.US` [7:0], RW. -/
def TW_FIRE_TO_US : Fld := ⟨TW_FIRE_TO, 0, 8⟩
/-- `TW_XFER_RATE` (R458). -/
def TW_XFER_RATE : Nat := 0xA00014
/-- `TW_XFER_RATE.MBS` [12:0], RW. -/
def TW_XFER_RATE_MBS : Fld := ⟨TW_XFER_RATE, 0, 13⟩
/-- `TW_MISS_RUN` (R458). -/
def TW_MISS_RUN : Nat := 0xA00018
/-- `TW_MISS_RUN.N` [3:0], RO. -/
def TW_MISS_RUN_N : Fld := ⟨TW_MISS_RUN, 0, 4⟩
/-- `TW_DIV_CNT` (R458). -/
def TW_DIV_CNT : Nat := 0xA0001C
/-- `TW_DIV_CNT.CNT` [15:0], RC. -/
def TW_DIV_CNT_CNT : Fld := ⟨TW_DIV_CNT, 0, 16⟩
/-- `TW_TAKE_CNT` (R458). -/
def TW_TAKE_CNT : Nat := 0xA00020
/-- `TW_TAKE_CNT.CNT` [15:0], RC. -/
def TW_TAKE_CNT_CNT : Fld := ⟨TW_TAKE_CNT, 0, 16⟩
/-- `TW_FIRE_LOST_CNT` (R458). -/
def TW_FIRE_LOST_CNT : Nat := 0xA00024
/-- `TW_FIRE_LOST_CNT.CNT` [15:0], RC. -/
def TW_FIRE_LOST_CNT_CNT : Fld := ⟨TW_FIRE_LOST_CNT, 0, 16⟩
/-- `TW_CMP_FN` (R458). -/
def TW_CMP_FN : Nat := 0xA00028
/-- `TW_TT_OFS` (R458). -/
def TW_TT_OFS : Nat := 0xA00030
/-- `TW_WIN_BASE` (R458). -/
def TW_WIN_BASE (w : Nat) : Nat := 0xA00040 + w * 0x10
/-- `TW_WIN_SIZE` (R458). -/
def TW_WIN_SIZE (w : Nat) : Nat := 0xA00048 + w * 0x10
/-- `TW_WIN_SIZE.KIB4` [15:0], RW. -/
def TW_WIN_SIZE_KIB4 (w : Nat) : Fld := ⟨(TW_WIN_SIZE w), 0, 16⟩
/-- `TW_WIN_CTRL` (R458). -/
def TW_WIN_CTRL (w : Nat) : Nat := 0xA0004C + w * 0x10
/-- `TW_WIN_CTRL.EN` [0:0], RW. -/
def TW_WIN_CTRL_EN (w : Nat) : Fld := ⟨(TW_WIN_CTRL w), 0, 1⟩
/-- `TW_DIG_OWN` (R458). -/
def TW_DIG_OWN (j : Nat) : Nat := 0xA00100 + j * 0x4
/-- `TW_DIG_OWN.DIGEST` [31:0], RO. -/
def TW_DIG_OWN_DIGEST (j : Nat) : Fld := ⟨(TW_DIG_OWN j), 0, 32⟩
/-- `TW_DIG_PEER` (R458). -/
def TW_DIG_PEER (j : Nat) : Nat := 0xA00140 + j * 0x4
/-- `TW_DIG_PEER.DIGEST` [31:0], RO. -/
def TW_DIG_PEER_DIGEST (j : Nat) : Fld := ⟨(TW_DIG_PEER j), 0, 32⟩

/-! ### DEV (17_address_map.md) -/

/-- `DEV_PART` (R463). -/
def DEV_PART : Nat := 0x0
/-- `DEV_PART.PART` [7:0], RO. -/
def DEV_PART_PART : Fld := ⟨DEV_PART, 0, 8⟩
/-- `DEV_PART.REV` [15:8], RO. -/
def DEV_PART_REV : Fld := ⟨DEV_PART, 8, 8⟩
/-- `DEV_HL_LO` (R463). -/
def DEV_HL_LO : Nat := 0x4
/-- `DEV_HL_LO.MAP` [31:0], RO. -/
def DEV_HL_LO_MAP : Fld := ⟨DEV_HL_LO, 0, 32⟩
/-- `DEV_HL_HI` (R463). -/
def DEV_HL_HI : Nat := 0x8
/-- `DEV_HL_HI.MAP` [15:0], RO. -/
def DEV_HL_HI_MAP : Fld := ⟨DEV_HL_HI, 0, 16⟩
/-- `DEV_LSG` (R463). -/
def DEV_LSG : Nat := 0xC
/-- `DEV_LSG.MAP` [7:0], RO. -/
def DEV_LSG_MAP : Fld := ⟨DEV_LSG, 0, 8⟩
/-- `DEV_LSG.COPIES` [10:8], RO. -/
def DEV_LSG_COPIES : Fld := ⟨DEV_LSG, 8, 3⟩
/-- `DEV_VT_LO` (R463). -/
def DEV_VT_LO : Nat := 0x10
/-- `DEV_VT_LO.MAP` [31:0], RO. -/
def DEV_VT_LO_MAP : Fld := ⟨DEV_VT_LO, 0, 32⟩
/-- `DEV_VT_HI` (R463). -/
def DEV_VT_HI : Nat := 0x14
/-- `DEV_VT_HI.MAP` [31:0], RO. -/
def DEV_VT_HI_MAP : Fld := ⟨DEV_VT_HI, 0, 32⟩
/-- `DEV_TRACKS` (R463). -/
def DEV_TRACKS : Nat := 0x18
/-- `DEV_TRACKS.N` [20:0], RO. -/
def DEV_TRACKS_N : Fld := ⟨DEV_TRACKS, 0, 21⟩
/-- `DEV_ARCH_GB` (R463). -/
def DEV_ARCH_GB : Nat := 0x1C
/-- `DEV_ARCH_GB.GB` [15:0], RO. -/
def DEV_ARCH_GB_GB : Fld := ⟨DEV_ARCH_GB, 0, 16⟩
/-- `DEV_RWL_VIOL` (R463). -/
def DEV_RWL_VIOL : Nat := 0x20
/-- `DEV_RWL_VIOL.CNT` [31:0], RC. -/
def DEV_RWL_VIOL_CNT : Fld := ⟨DEV_RWL_VIOL, 0, 32⟩
/-- `DEV_RWL_LAST` (R463). -/
def DEV_RWL_LAST : Nat := 0x24
/-- `DEV_RWL_LAST.OFFSET` [23:0], RO. -/
def DEV_RWL_LAST_OFFSET : Fld := ⟨DEV_RWL_LAST, 0, 24⟩
/-- `DEV_RWL_LAST.MASTER` [31:28], RO. -/
def DEV_RWL_LAST_MASTER : Fld := ⟨DEV_RWL_LAST, 28, 4⟩

/-! ### DBG (17_address_map.md) -/

/-- `DBG_SEL` (R464). -/
def DBG_SEL : Nat := 0xF00000
/-- `DBG_SEL.GROUP` [2:0], RW. -/
def DBG_SEL_GROUP : Fld := ⟨DBG_SEL, 0, 3⟩
/-- `DBG_CTRL` (R464). -/
def DBG_CTRL : Nat := 0xF00004
/-- `DBG_CTRL.HALT` [0:0], WO. -/
def DBG_CTRL_HALT : Fld := ⟨DBG_CTRL, 0, 1⟩
/-- `DBG_CTRL.RESUME` [1:1], WO. -/
def DBG_CTRL_RESUME : Fld := ⟨DBG_CTRL, 1, 1⟩
/-- `DBG_CTRL.STEP` [2:2], WO. -/
def DBG_CTRL_STEP : Fld := ⟨DBG_CTRL, 2, 1⟩
/-- `DBG_STAT` (R464). -/
def DBG_STAT : Nat := 0xF00008
/-- `DBG_STAT.HALTED` [0:0], RO. -/
def DBG_STAT_HALTED : Fld := ⟨DBG_STAT, 0, 1⟩
/-- `DBG_STAT.REFUSED` [1:1], W1C. -/
def DBG_STAT_REFUSED : Fld := ⟨DBG_STAT, 1, 1⟩
/-- `DBG_STAT.LEVEL` [3:2], RO. -/
def DBG_STAT_LEVEL : Fld := ⟨DBG_STAT, 2, 2⟩
/-- `DBG_STAT.MEM_ERR` [4:4], W1C. -/
def DBG_STAT_MEM_ERR : Fld := ⟨DBG_STAT, 4, 1⟩
/-- `DBG_REG_SEL` (R464). -/
def DBG_REG_SEL : Nat := 0xF0000C
/-- `DBG_REG_SEL.REG` [5:0], RW. -/
def DBG_REG_SEL_REG : Fld := ⟨DBG_REG_SEL, 0, 6⟩
/-- `DBG_REG_SEL.WR` [8:8], RW. -/
def DBG_REG_SEL_WR : Fld := ⟨DBG_REG_SEL, 8, 1⟩
/-- `DBG_REG_DATA` (R464). -/
def DBG_REG_DATA : Nat := 0xF00010
/-- `DBG_REG_DATA.DATA` [31:0], RW. -/
def DBG_REG_DATA_DATA : Fld := ⟨DBG_REG_DATA, 0, 32⟩
/-- `DBG_MEM_ADDR` (R464). -/
def DBG_MEM_ADDR : Nat := 0xF00018
/-- `DBG_MEM_DATA` (R464). -/
def DBG_MEM_DATA : Nat := 0xF00020
/-- `DBG_MEM_CTRL` (R464). -/
def DBG_MEM_CTRL : Nat := 0xF00028
/-- `DBG_MEM_CTRL.GO` [0:0], WO. -/
def DBG_MEM_CTRL_GO : Fld := ⟨DBG_MEM_CTRL, 0, 1⟩
/-- `DBG_MEM_CTRL.WR` [1:1], RW. -/
def DBG_MEM_CTRL_WR : Fld := ⟨DBG_MEM_CTRL, 1, 1⟩
/-- `DBG_MEM_CTRL.SIZE` [3:2], RW. -/
def DBG_MEM_CTRL_SIZE : Fld := ⟨DBG_MEM_CTRL, 2, 2⟩
/-- `DBG_MEM_CTRL.BUSY` [8:8], RO. -/
def DBG_MEM_CTRL_BUSY : Fld := ⟨DBG_MEM_CTRL, 8, 1⟩

end Sys2Proof.Machine
end

