-- ==== Sys2Proof/Machine/RegTable.lean ====
section
/-! DEFINITION. The register tables as data: for every word of every register its reset value and the masks of its
field types (R12), block by block, as the register tables of chapters 01 to 17 give them. Resets that depend on
the instance, the part or the fuses are added in Machine/Regs.lean. -/

namespace Sys2Proof.Machine

/-- One word of a register (or of an array of `count` registers `stride` bytes apart): its offset in the instance,
its reset value and the bits of each field type of R12. `staged` marks the bits whose description says
"boundary" (R46); `wide`, the low word of a 64-bit register (R11). -/
structure RegRow where
  off : Nat
  stride : Nat := 4
  count : Nat := 1
  sub : Nat := 1
  reset : Nat := 0
  rw : Nat := 0
  w1c : Nat := 0
  wo : Nat := 0
  rwl : Nat := 0
  rc : Nat := 0
  staged : Nat := 0
  wide : Bool := false
  deriving DecidableEq, Repr

/-- A block of register words: `count` instances `stride` bytes apart from `base` (R461, R462). -/
structure RegBlock where
  base : Nat
  stride : Nat
  count : Nat
  rows : List RegRow
  deriving DecidableEq, Repr

/-- The register words of TB. -/
def tbRows : List RegRow :=
 [
  { off := 0x0, reset := 0x2, rw := 0x1F, staged := 0x1F },
  { off := 0x4, reset := 0x7A12, rw := 0xFFFFFF, staged := 0xFFFFFF },
  { off := 0x8, reset := 0x1312D0, rw := 0xFFFFFF, staged := 0xFFFFFF },
  { off := 0xC, reset := 0x9C4, rw := 0xFFFFFF, staged := 0xFFFFFF },
  { off := 0x10, rw := 0xFFFFFFFF, staged := 0xFFFFFFFF },
  { off := 0x18, wide := true },
  { off := 0x1C },
  { off := 0x20, wide := true },
  { off := 0x24 },
  { off := 0x28, wide := true },
  { off := 0x2C },
  { off := 0x30 },
  { off := 0x34, w1c := 0x300 },
  { off := 0x38 },
  { off := 0x3C, rc := 0xFFFFFFFF },
  { off := 0x40, rc := 0xFFFFFFFF },
  { off := 0x44, rc := 0xFFFFFFFF },
  { off := 0x48 },
  { off := 0x50, wide := true },
  { off := 0x54 }] ++
 [
  { off := 0x58, rc := 0xFFFFFFFF },
  { off := 0x5C, rc := 0x3FF }]

/-- The block TB. -/
def tbBlock : RegBlock := ⟨0x10000, 0x1000, 1, tbRows⟩

/-- The register words of ENC[n]. -/
def encRows : List RegRow :=
 [
  { off := 0x0, rw := 0xFF, staged := 0xFF },
  { off := 0x8, wide := true },
  { off := 0xC },
  { off := 0x10, wide := true },
  { off := 0x14 },
  { off := 0x18, w1c := 0x7F },
  { off := 0x1C, rc := 0xFFFF },
  { off := 0x20, rw := 0xFFFFFFFF },
  { off := 0x24, reset := 0x4, rw := 0xFF },
  { off := 0x28, wide := true },
  { off := 0x2C },
  { off := 0x30 },
  { off := 0x34, rc := 0xFFFF }]

/-- The block ENC[n]. -/
def encBlock : RegBlock := ⟨0x11000, 0x100, 8, encRows⟩

/-- The register words of DOM[d]. -/
def domRows : List RegRow :=
 [
  { off := 0x0, rw := 0x3FF, staged := 0x3FF },
  { off := 0x4, reset := 0x1000000, rw := 0xFFFFFFFF, staged := 0xFFFFFFFF },
  { off := 0x8, reset := 0x4E20, rw := 0xFFFFFFFF, staged := 0xFFFFFFFF },
  { off := 0xC, reset := 0x1400, rw := 0xFFFFFFFF, staged := 0xFFFFFFFF },
  { off := 0x10, reset := 0x190, rw := 0xFFFFFFFF, staged := 0xFFFFFFFF },
  { off := 0x14, reset := 0x40, rw := 0xFFFF },
  { off := 0x18, reset := 0x4E20, rw := 0xFFFFFFFF },
  { off := 0x1C, reset := 0x1E848, rw := 0xFFFFFF },
  { off := 0x20, wide := true },
  { off := 0x24 },
  { off := 0x28, wide := true },
  { off := 0x2C },
  { off := 0x30 },
  { off := 0x34 },
  { off := 0x38, reset := 0x1, w1c := 0x1700 },
  { off := 0x3C },
  { off := 0x40, wide := true },
  { off := 0x44 },
  { off := 0x48 },
  { off := 0x50, rw := 0xFFFFFFFF, wide := true }] ++
 [
  { off := 0x54, rw := 0xFFFFFFFF },
  { off := 0x58, wo := 0x1, staged := 0x1 },
  { off := 0x5C, rc := 0xFFFF },
  { off := 0x60, wo := 0x3 },
  { off := 0x64 },
  { off := 0x68, rw := 0xFFFFFFFF, wide := true },
  { off := 0x6C, rw := 0xFFFFFFFF },
  { off := 0x70, wide := true },
  { off := 0x74 },
  { off := 0x78 }]

/-- The block DOM[d]. -/
def domBlock : RegBlock := ⟨0x12000, 0x100, 4, domRows⟩

/-- The register words of HL[n]. -/
def hlRows : List RegRow :=
 [
  { off := 0x0, reset := 0x40, rw := 0x7FF, staged := 0x7FF },
  { off := 0x4, wo := 0x7, staged := 0x3 },
  { off := 0x8, w1c := 0x400 },
  { off := 0xC, w1c := 0x1FFF },
  { off := 0x10, rw := 0x1FFF },
  { off := 0x14, rw := 0xFFFF, staged := 0xFFFF },
  { off := 0x18, rw := 0xFFFFFFFF, staged := 0xFFFFFFFF },
  { off := 0x20, rw := 0xFFFFFFFF, staged := 0xFFFFFFFF, wide := true },
  { off := 0x24, rw := 0xFFFFFFFF, staged := 0xFFFFFFFF },
  { off := 0x28, rw := 0xFFFFFFFF, staged := 0xFFFFFFFF },
  { off := 0x2C, rw := 0xF, staged := 0xF },
  { off := 0x30, reset := 0x40A, rw := 0xFFFF, staged := 0xFFFF },
  { off := 0x34, reset := 0x1400464, rw := 0xFFFF0FFF, staged := 0xFFFF0FFF },
  { off := 0x38, rw := 0xFFFFFFFF, staged := 0xFFFFFFFF },
  { off := 0x3C },
  { off := 0x40 },
  { off := 0x44 },
  { off := 0x50 },
  { off := 0x54 },
  { off := 0x58, stride := 0x4, count := 4 }] ++
 [
  { off := 0x68 },
  { off := 0x6C },
  { off := 0x70 },
  { off := 0x74 },
  { off := 0x78, wide := true },
  { off := 0x7C },
  { off := 0x80, wide := true },
  { off := 0x84 },
  { off := 0x90, rc := 0xFFFFFFFF },
  { off := 0x94, rc := 0xFFFFFFFF },
  { off := 0x98, rc := 0xFFFF },
  { off := 0x9C, rc := 0xFFFF },
  { off := 0xA0, rc := 0xFFFFFFFF },
  { off := 0xA4, rc := 0xFFFF },
  { off := 0xA8, rc := 0xFFFF },
  { off := 0xAC, rc := 0xFFFFFFFF },
  { off := 0xB0, rc := 0xFFFF },
  { off := 0xB4, rc := 0xFFFF },
  { off := 0xB8, rc := 0xFFFF },
  { off := 0xBC, rc := 0xFFFF }] ++
 [
  { off := 0xC0, rc := 0xFFFF },
  { off := 0xC8, rw := 0xFFFFFFFF, staged := 0xFFFFFFFF, wide := true },
  { off := 0xCC, rw := 0xFF, staged := 0xFF },
  { off := 0xD0, rw := 0xFFFF, staged := 0xFFFF },
  { off := 0x100, rw := 0xFF00, wo := 0x1 },
  { off := 0x104, rw := 0xFFFFFFFF },
  { off := 0x140, stride := 0x4, count := 16, rw := 0xFFFFFFFF }]

/-- The block HL[n]. -/
def hlBlock : RegBlock := ⟨0x100000, 0x1000, 48, hlRows⟩

/-- The register words of HL globals. -/
def hlGlobalRows : List RegRow :=
 [
  { off := 0x0, stride := 0x10, count := 4, rw := 0xFFFFFFFF, staged := 0xFFFFFFFF },
  { off := 0x4, stride := 0x10, count := 4, rw := 0xFFFFFFFF, staged := 0xFFFFFFFF },
  { off := 0x8, stride := 0x10, count := 4 },
  { off := 0xC, stride := 0x10, count := 4 },
  { off := 0x40 },
  { off := 0x44 },
  { off := 0x48 },
  { off := 0x4C },
  { off := 0x50, rw := 0xFFFFFFFF, staged := 0xFFFFFFFF, wide := true },
  { off := 0x54, rw := 0xFF, staged := 0xFF },
  { off := 0x58, rw := 0xFF, staged := 0xFF },
  { off := 0x5C, rc := 0xFFFF }]

/-- The block HL globals. -/
def hlGlobalBlock : RegBlock := ⟨0x130000, 0x10000, 1, hlGlobalRows⟩

/-- The register words of TE globals. -/
def teRows : List RegRow :=
 [
  { off := 0x0, rw := 0x1, staged := 0x1 },
  { off := 0x4, w1c := 0x100 },
  { off := 0x8, wide := true },
  { off := 0xC },
  { off := 0x10, wide := true },
  { off := 0x14 },
  { off := 0x18, wide := true },
  { off := 0x1C },
  { off := 0x20, reset := 0x100000 },
  { off := 0x24, reset := 0x10000, rw := 0x1FFFFF },
  { off := 0x28, reset := 0x10000, rw := 0x1FFFFF, staged := 0x1FFFFF },
  { off := 0x2C, reset := 0x40, rw := 0xFFFF, staged := 0xFFFF },
  { off := 0x30, wo := 0xFF3FFFFF },
  { off := 0x34 },
  { off := 0x38 },
  { off := 0x3C, rc := 0x3FFFF },
  { off := 0x40 },
  { off := 0x44, rc := 0xFFFFFF },
  { off := 0x48 },
  { off := 0x50, rc := 0xFFFFFFFF }] ++
 [
  { off := 0x54, rc := 0xFFFFFFFF },
  { off := 0x58, rc := 0xFFFF },
  { off := 0x5C, rc := 0xFFFF },
  { off := 0x60, rc := 0xFFFFFFFF },
  { off := 0x64, rc := 0xFFFFFFFF },
  { off := 0x68, rc := 0xFFFF },
  { off := 0x6C, rc := 0xFFFF },
  { off := 0x70, rc := 0xFFFF },
  { off := 0x74, rc := 0xFFFFFFFF },
  { off := 0x78, rc := 0xFFFFFFFF },
  { off := 0x7C, rc := 0xFFFFFFFF },
  { off := 0x80, rc := 0xFFFFFFFF },
  { off := 0x84, rc := 0xFFFFFFFF },
  { off := 0x88, rc := 0xFFFF },
  { off := 0x200, stride := 0x4, count := 32, rw := 0xFFFFFFFF, staged := 0xFFFFFFFF },
  { off := 0x280, stride := 0x4, count := 16, rw := 0xFFFF, staged := 0xFFFF }]

/-- The block TE globals. -/
def teBlock : RegBlock := ⟨0x140000, 0x400, 1, teRows⟩

/-- The register words of TE per domain. -/
def teDomainRows : List RegRow :=
 [
  { off := 0x0, reset := 0x100000, rw := 0xFF0003, staged := 0xFF0003 },
  { off := 0x4, reset := 0x8000, rw := 0xFFFF, staged := 0xFFFF },
  { off := 0x8, rw := 0xFFFFFFFF, staged := 0xFFFFFFFF },
  { off := 0xC, reset := 0xA, rw := 0xFFFF, staged := 0xFFFF },
  { off := 0x10, reset := 0x1400, rw := 0xFFFFFFFF, staged := 0xFFFFFFFF },
  { off := 0x14, reset := 0x19000, rw := 0xFFFFFFFF, staged := 0xFFFFFFFF },
  { off := 0x18, rw := 0xFFFFFFFF, staged := 0xFFFFFFFF },
  { off := 0x20, wide := true },
  { off := 0x24 },
  { off := 0x28 },
  { off := 0x2C },
  { off := 0x30, reset := 0x80008000 },
  { off := 0x34, reset := 0x80008000 },
  { off := 0x38, rw := 0xFFFFFFFF, staged := 0xFFFFFFFF, wide := true },
  { off := 0x3C, rw := 0xFF, staged := 0xFF },
  { off := 0x40, reset := 0x4, rw := 0xF, staged := 0xF },
  { off := 0x44 },
  { off := 0x48, rw := 0xFFFFFFFF, staged := 0xFFFFFFFF },
  { off := 0x4C, reset := 0x140023, rw := 0xFFFF00FF, staged := 0xFFFF00FF },
  { off := 0x50 }]

/-- The block TE per domain. -/
def teDomainBlock : RegBlock := ⟨0x140400, 0x80, 4, teDomainRows⟩

/-- The register words of TE_ROLL. -/
def teRollRows : List RegRow :=
 [
  { off := 0x0, rw := 0xFFFFFFFF, staged := 0xFFFFFFFF },
  { off := 0x4, rw := 0x3FFFFFF, staged := 0x3FFFFFF },
  { off := 0x8, rc := 0xFFFFFFFF },
  { off := 0xC }]

/-- The block TE_ROLL. -/
def teRollBlock : RegBlock := ⟨0x141000, 0x10, 256, teRollRows⟩

/-- The register words of VE globals. -/
def veRows : List RegRow :=
 [
  { off := 0x0, rw := 0x1, staged := 0x1 },
  { off := 0x4, reset := 0x5A, rw := 0x7F, staged := 0x7F },
  { off := 0x8, w1c := 0x1 },
  { off := 0xC, reset := 0xFFFFFFFF, rw := 0xFFFFFFFF, staged := 0xFFFFFFFF },
  { off := 0x10, reset := 0xFFFFFFFF, rw := 0xFFFFFFFF, staged := 0xFFFFFFFF },
  { off := 0x14 },
  { off := 0x18 },
  { off := 0x1C },
  { off := 0x20 },
  { off := 0x24 },
  { off := 0x28 },
  { off := 0x2C },
  { off := 0x30 },
  { off := 0x34 },
  { off := 0x38 },
  { off := 0x40, rc := 0xFFFFFFFF },
  { off := 0x44, rc := 0xFFFFFFFF },
  { off := 0x48, rc := 0xFFFFFFFF },
  { off := 0x4C, rc := 0xFFFF },
  { off := 0x50, rc := 0xFFFF }] ++
 [
  { off := 0x54, rc := 0xFFFF },
  { off := 0x58, rc := 0xFFFF },
  { off := 0x5C, rc := 0xFFFFFFFF },
  { off := 0x60, reset := 0x3, rw := 0xF, staged := 0xF },
  { off := 0x64, rwl := 0xFFFFFFFF },
  { off := 0x80, rw := 0xFFFFFFFF, wide := true },
  { off := 0x84, rw := 0xFF },
  { off := 0x88, rw := 0xFFFFFF },
  { off := 0x8C, rw := 0x1F00, wo := 0x3, staged := 0x2 },
  { off := 0x90 },
  { off := 0x94 }]

/-- The block VE globals. -/
def veBlock : RegBlock := ⟨0x150000, 0x1000, 1, veRows⟩

/-- The register words of VE group. -/
def veGroupRows : List RegRow :=
 [
  { off := 0x0, rw := 0xFFFFFFFF, staged := 0xFFFFFFFF, wide := true },
  { off := 0x4, rw := 0xFF, staged := 0xFF },
  { off := 0x8, reset := 0x4, rw := 0xF, staged := 0xF },
  { off := 0xC, rw := 0xFFFFFFFF },
  { off := 0x10 },
  { off := 0x18, rw := 0xFFFFFFFF, staged := 0xFFFFFFFF, wide := true },
  { off := 0x1C, rw := 0xFF, staged := 0xFF },
  { off := 0x20, reset := 0x4, rw := 0xF, staged := 0xF },
  { off := 0x24 },
  { off := 0x28, rw := 0xFFFFFFFF, staged := 0xFFFFFFFF },
  { off := 0x2C, rw := 0x7FF, staged := 0x7FF },
  { off := 0x30 },
  { off := 0x34, w1c := 0x3 },
  { off := 0x40, stride := 0x10, count := 4, rw := 0xFFFFFFFF, staged := 0xFFFFFFFF, wide := true },
  { off := 0x44, stride := 0x10, count := 4, rw := 0xFF, staged := 0xFF },
  { off := 0x48, stride := 0x10, count := 4, rw := 0xFFFFFFF, staged := 0xFFFFFFF },
  { off := 0x4C, stride := 0x10, count := 4, rw := 0x7, staged := 0x7 },
  { off := 0x80, rw := 0xFFFFFFFF },
  { off := 0x84, rw := 0xFFFFFFFF },
  { off := 0x88, rw := 0x2, wo := 0x1 }]

/-- The block VE group. -/
def veGroupBlock : RegBlock := ⟨0x151000, 0x100, 8, veGroupRows⟩

/-- The register words of VT[t]. -/
def vtRows : List RegRow :=
 [
  { off := 0x0, w1c := 0x100 },
  { off := 0x4 },
  { off := 0x8 },
  { off := 0xC },
  { off := 0x10, rc := 0xFFFF },
  { off := 0x14, rc := 0xFFFF },
  { off := 0x18, rc := 0xFFFFFFFF },
  { off := 0x1C, rc := 0xFFFF },
  { off := 0x20, wo := 0x1 }]

/-- The block VT[t]. -/
def vtBlock : RegBlock := ⟨0x160000, 0x400, 64, vtRows⟩

/-- The register words of EW globals. -/
def ewRows : List RegRow :=
 [
  { off := 0x0, rw := 0x1, staged := 0x1 },
  { off := 0x4, w1c := 0x100 },
  { off := 0x8 },
  { off := 0xC, rc := 0x3FFFF },
  { off := 0x10, reset := 0x2000, rw := 0x3FFFF },
  { off := 0x14, rc := 0xFFFFFFFF },
  { off := 0x18, rc := 0xFFFFFFFF },
  { off := 0x1C, rc := 0xFFFF },
  { off := 0x20, rc := 0xFFFF },
  { off := 0x24, rc := 0xFFFF },
  { off := 0x28, rc := 0xFFFFFFFF },
  { off := 0x2C, rc := 0xFFFFFFFF },
  { off := 0x30, stride := 0x4, count := 4 },
  { off := 0x40, stride := 0x4, count := 8, reset := 0x4000, rw := 0x3FFFF, staged := 0x3FFFF },
  { off := 0x60, w1c := 0x100 },
  { off := 0x64, reset := 0x1400, rwl := 0xFF01 },
  { off := 0x68, reset := 0xFFFFFFFF }]

/-- The block EW globals. -/
def ewBlock : RegBlock := ⟨0x20000, 0x1000, 1, ewRows⟩

/-- The register words of EW group. -/
def ewGroupRows : List RegRow :=
 [
  { off := 0x0, rw := 0xFFFFFFFF, wide := true },
  { off := 0x4, rw := 0xFFFFFFFF },
  { off := 0x8, rw := 0xFFFFFFFF },
  { off := 0xC, rw := 0xFFFFFFFF },
  { off := 0x10, rw := 0xF3F1F },
  { off := 0x14 },
  { off := 0x18, wo := 0xFFFFFF },
  { off := 0x1C },
  { off := 0x20, rw := 0xFFFFFFFF },
  { off := 0x24, rw := 0xFFFFFFFF },
  { off := 0x28, wo := 0x1 },
  { off := 0x2C },
  { off := 0x30, wo := 0x1, staged := 0x1 },
  { off := 0x34 }]

/-- The block EW group. -/
def ewGroupBlock : RegBlock := ⟨0x22000, 0x40, 8, ewGroupRows⟩

/-- The register words of EW log. -/
def ewLogRows : List RegRow :=
 [
  { off := 0x0, rw := 0xFFFFFFFF, staged := 0xFFFFFFFF, wide := true },
  { off := 0x4, rw := 0xFF, staged := 0xFF },
  { off := 0x8, reset := 0x4, rw := 0xF, staged := 0xF },
  { off := 0xC },
  { off := 0x10, rw := 0xFFFFFFFF },
  { off := 0x14, rc := 0xFFFF }]

/-- The block EW log. -/
def ewLogBlock : RegBlock := ⟨0x23000, 0x20, 8, ewLogRows⟩

/-- The register words of PEO[n]. -/
def peoRows : List RegRow :=
 [
  { off := 0x0, reset := 0x200, rw := 0x3FFF, staged := 0x3FFF },
  { off := 0x4, reset := 0x1312D0, rw := 0xFFFFFFFF, staged := 0xFFFFFFFF },
  { off := 0x8, reset := 0x4A817C80, rw := 0xFFFFFFFF, staged := 0xFFFFFFFF },
  { off := 0xC, rw := 0xFFFFFF, staged := 0xFFFFFF },
  { off := 0x10, reset := 0x271, rw := 0xFFFF, staged := 0xFFFF },
  { off := 0x14, reset := 0x7D, rw := 0xFFFF, staged := 0xFFFF },
  { off := 0x18, reset := 0x4E20064, rw := 0xFFFFFFFF, staged := 0xFFFFFFFF },
  { off := 0x1C, reset := 0x20, w1c := 0xF00 },
  { off := 0x20, w1c := 0x3F },
  { off := 0x24, rw := 0x3F },
  { off := 0x28 },
  { off := 0x2C, rc := 0xFFFFFFFF },
  { off := 0x30, rc := 0xFFFF },
  { off := 0x34, rc := 0xFFFFFFFF },
  { off := 0x38, wide := true },
  { off := 0x3C }]

/-- The block PEO[n]. -/
def peoBlock : RegBlock := ⟨0x21000, 0x40, 32, peoRows⟩

/-- The register words of Registers. -/
def lsRows : List RegRow :=
 [
  { off := 0x0, reset := 0x3, rw := 0x3, staged := 0x3 },
  { off := 0x4, rw := 0x30, wo := 0xF, staged := 0x3 },
  { off := 0x8, reset := 0x1007, w1c := 0x10000 },
  { off := 0xC, reset := 0x2, rw := 0x1, staged := 0x1 },
  { off := 0x10, rc := 0xFFFF },
  { off := 0x14, rc := 0xFFFF },
  { off := 0x18, rc := 0xFFFF },
  { off := 0x1C, rc := 0xFFFF },
  { off := 0x20, rc := 0xFFFF },
  { off := 0x24 },
  { off := 0x28, rc := 0x7FF },
  { off := 0x2C, rc := 0xFFFF },
  { off := 0x40, stride := 0x10, count := 3, wide := true },
  { off := 0x44, stride := 0x10, count := 3 },
  { off := 0x48, stride := 0x10, count := 3, wide := true },
  { off := 0x4C, stride := 0x10, count := 3 },
  { off := 0x70, reset := 0x3E8, rwl := 0xFFFF },
  { off := 0x74, rc := 0xFFFFFFFF },
  { off := 0x78, w1c := 0x1 },
  { off := 0x80 }] ++
 [
  { off := 0x84 },
  { off := 0x90 },
  { off := 0x200, stride := 0x20, count := 16, sub := 8 }]

/-- The block Registers. -/
def lsBlock : RegBlock := ⟨0x200000, 0x10000, 8, lsRows⟩

/-- The register words of Bounding. -/
def lsPipeRows : List RegRow :=
 [
  { off := 0x100, rc := 0xFFFFFFFF },
  { off := 0x104, rc := 0xFFFFFFFF },
  { off := 0x108, rc := 0xFFFFFFFF },
  { off := 0x10C, rc := 0xFFFFFFFF },
  { off := 0x110, rc := 0xFFFFFFFF },
  { off := 0x114, rc := 0xFFFFFFFF },
  { off := 0x118, rc := 0xFFFFFFFF },
  { off := 0x11C, rc := 0xFFFF },
  { off := 0x120, rc := 0xFFFF },
  { off := 0x124, rc := 0xFFFF }]

/-- The block Bounding. -/
def lsPipeBlock : RegBlock := ⟨0x200000, 0x10000, 8, lsPipeRows⟩

/-- The register words of SRC[s]. -/
def srcRows : List RegRow :=
 [
  { off := 0x0, reset := 0x1, rw := 0xFF037F },
  { off := 0x4, reset := 0x10000000, rw := 0xFFFFFFFC },
  { off := 0x8 },
  { off := 0xC, wo := 0x3, rc := 0xFFFF0000 }]

/-- The block SRC[s]. -/
def srcBlock : RegBlock := ⟨0x300000, 0x10, 512, srcRows⟩

/-- The register words of IC globals. -/
def icRows : List RegRow :=
 [
  { off := 0x0, w1c := 0x1 },
  { off := 0x4 },
  { off := 0x8, rc := 0xFFFFFFFF },
  { off := 0x100, stride := 0x4, count := 16 },
  { off := 0x140, stride := 0x4, count := 16 },
  { off := 0x180, stride := 0x4, count := 16 }]

/-- The block IC globals. -/
def icBlock : RegBlock := ⟨0x304000, 0xC000, 1, icRows⟩

/-- The register words of IC group. -/
def icGroupRows : List RegRow :=
 [
  { off := 0x0, rw := 0x3F },
  { off := 0x4 },
  { off := 0x8 },
  { off := 0xC, wo := 0x1FF },
  { off := 0x10, rc := 0xFFFFFFFF },
  { off := 0x14, rc := 0xFFFFFFFF },
  { off := 0x18, rc := 0xFFFF },
  { off := 0x1C, rc := 0xFFFFFFFF },
  { off := 0x20, rc := 0xFFFFFFFF },
  { off := 0x24, rc := 0xFFFF },
  { off := 0x28 }]

/-- The block IC group. -/
def icGroupBlock : RegBlock := ⟨0x204000, 0x10000, 8, icGroupRows⟩

/-- The register words of SP globals. -/
def spRows : List RegRow :=
 [
  { off := 0x0, w1c := 0x1 },
  { off := 0x4, rw := 0x7F02, wo := 0x1 },
  { off := 0x8, rw := 0x1FFFFF8 },
  { off := 0x10, rw := 0xFFFFFFFF, wide := true },
  { off := 0x14, rw := 0xFFFFFFFF },
  { off := 0x18, rw := 0xFFFF },
  { off := 0x1C, reset := 0x10001, rw := 0xFFFF01 },
  { off := 0x20, rc := 0xFFFFFFFF },
  { off := 0x40, stride := 0x4, count := 16, rc := 0xFFFFFFFF }]

/-- The block SP globals. -/
def spBlock : RegBlock := ⟨0x500000, 0x100, 1, spRows⟩

/-- The register words of SP_MEM. -/
def spMemRows : List RegRow :=
 [
  { off := 0x0, reset := 0x10001, rw := 0xFFFF01 },
  { off := 0x4, reset := 0x40, rw := 0xFFFF },
  { off := 0x8, rc := 0xFFFFFFFF },
  { off := 0xC, rc := 0xFFFF },
  { off := 0x10, rc := 0xFFFF },
  { off := 0x14 },
  { off := 0x18 },
  { off := 0x1C, rc := 0xFFFFFFFF }]

/-- The block SP_MEM. -/
def spMemBlock : RegBlock := ⟨0x500100, 0x20, 24, spMemRows⟩

/-- The register words of MPU of. -/
def mpuRows : List RegRow :=
 [
  { off := 0x0, reset := 0x2, rw := 0x3 },
  { off := 0x4, w1c := 0x10001 },
  { off := 0x8, rc := 0xFFFF },
  { off := 0xC, rc := 0xFFFF },
  { off := 0x100, stride := 0x10, count := 32, rw := 0xFFFFFFE0 },
  { off := 0x104, stride := 0x10, count := 32, rw := 0xFFFFFFE0 },
  { off := 0x108, stride := 0x10, count := 32, rw := 0xFFF }]

/-- The block MPU of. -/
def mpuBlock : RegBlock := ⟨0x201000, 0x10000, 8, mpuRows⟩

/-- The register words of FW. -/
def fwRows : List RegRow :=
 [
  { off := 0x0, w1c := 0x3 },
  { off := 0x4, rc := 0xFFFF },
  { off := 0x8, wide := true },
  { off := 0xC },
  { off := 0x10 },
  { off := 0x40, stride := 0x4, count := 16, rc := 0xFFFF },
  { off := 0x100, stride := 0x10, count := 64, rw := 0xFFFFFFF, staged := 0xFFFFFFF },
  { off := 0x104, stride := 0x10, count := 64, rw := 0xFFFFFFF, staged := 0xFFFFFFF },
  { off := 0x108, stride := 0x10, count := 64, rw := 0xFFFFFFFF, staged := 0xFFFFFFFF },
  { off := 0x10C, stride := 0x10, count := 64, rw := 0x1, staged := 0x1 },
  { off := 0x800, stride := 0x10, count := 8, rwl := 0xFFFFFFF },
  { off := 0x804, stride := 0x10, count := 8, rwl := 0xFFFFFFF },
  { off := 0x808, stride := 0x10, count := 8, rwl := 0xFFFF },
  { off := 0x80C, stride := 0x10, count := 8, rwl := 0x1 }]

/-- The block FW. -/
def fwBlock : RegBlock := ⟨0x510000, 0x10000, 1, fwRows⟩

/-- The register words of FCU. -/
def fcuRows : List RegRow :=
 [
  { off := 0x0, reset := 0x4, w1c := 0x3 },
  { off := 0x4, rc := 0xF },
  { off := 0x8, w1c := 0x80000000 },
  { off := 0x10, wide := true },
  { off := 0x14 },
  { off := 0x18 },
  { off := 0x1C, rc := 0xFFFFFFFF },
  { off := 0x20, rc := 0xFFFF },
  { off := 0x24, rw := 0x1FF, wo := 0x80000000 },
  { off := 0x28, rw := 0xFFFFFFFF },
  { off := 0x100, stride := 0x4, count := 16 },
  { off := 0x800, stride := 0x20, count := 64, sub := 8 }]

/-- The block FCU. -/
def fcuBlock : RegBlock := ⟨0x400000, 0x1000, 1, fcuRows⟩

/-- The register words of FLT[i]. -/
def fltRows : List RegRow :=
 [
  { off := 0x0, rw := 0x73F07, staged := 0x70007 },
  { off := 0x4, w1c := 0x1 },
  { off := 0x8 },
  { off := 0xC, rc := 0xFFFF }]

/-- The block FLT[i]. -/
def fltBlock : RegBlock := ⟨0x401000, 0x10, 512, fltRows⟩

/-- The register words of SSC. -/
def sscRows : List RegRow :=
 [
  { off := 0x0, w1c := 0x170000 },
  { off := 0x4, wo := 0x1 },
  { off := 0x8, reset := 0x3E8, rwl := 0xFFFF },
  { off := 0xC, rc := 0xFFFFFFFF },
  { off := 0x10 },
  { off := 0x14, rc := 0xFFF }]

/-- The block SSC. -/
def sscBlock : RegBlock := ⟨0x410000, 0x10000, 1, sscRows⟩

/-- The register words of WD of. -/
def wdRows : List RegRow :=
 [
  { off := 0x0, reset := 0x186A0, rwl := 0xFFFFFF },
  { off := 0x4, wo := 0xFFFF },
  { off := 0x8 },
  { off := 0xC },
  { off := 0x10, w1c := 0x700 },
  { off := 0x14, rc := 0xFFFFFFFF },
  { off := 0x18, rc := 0xFFFF },
  { off := 0x1C, rc := 0xFFFF },
  { off := 0x20 }]

/-- The block WD of. -/
def wdBlock : RegBlock := ⟨0x202000, 0x10000, 8, wdRows⟩

/-- The register words of CM of. -/
def cmRows : List RegRow :=
 [
  { off := 0x0, rw := 0x1, wo := 0x2, staged := 0x1 },
  { off := 0x4, wo := 0x1F },
  { off := 0x8 },
  { off := 0xC },
  { off := 0x10, wide := true },
  { off := 0x14 },
  { off := 0x18, reset := 0x1, w1c := 0x100 },
  { off := 0x1C, rc := 0xFFFF },
  { off := 0x20, rc := 0xFFFFFFFF },
  { off := 0x24, rc := 0xFFFFFFFF },
  { off := 0x28, rc := 0xFFFFFFFF },
  { off := 0x100, stride := 0x4, count := 32, reset := 0x1101, rw := 0x771F, staged := 0x771F },
  { off := 0x200, stride := 0x4, count := 32 }]

/-- The block CM of. -/
def cmBlock : RegBlock := ⟨0x203000, 0x10000, 8, cmRows⟩

/-- The register words of RETAINED. -/
def retainedRows : List RegRow :=
 [
  { off := 0x0, stride := 0x10, count := 8 },
  { off := 0x8, stride := 0x10, count := 8, wide := true },
  { off := 0xC, stride := 0x10, count := 8 },
  { off := 0x80 },
  { off := 0x84 },
  { off := 0x88, wide := true },
  { off := 0x8C },
  { off := 0x90, wide := true },
  { off := 0x94 },
  { off := 0x98 },
  { off := 0x9C, wo := 0x1 },
  { off := 0x800, stride := 0x4, count := 512, rw := 0xFFFFFFFF }]

/-- The block RETAINED. -/
def retainedBlock : RegBlock := ⟨0x910000, 0x1000, 1, retainedRows⟩

/-- The register words of HI. -/
def hiRows : List RegRow :=
 [
  { off := 0x0 },
  { off := 0x4, w1c := 0x1FF },
  { off := 0x8, stride := 0x4, count := 2, rw := 0x1FF },
  { off := 0x10, rw := 0xFFFF },
  { off := 0x14, wo := 0xFFFFFFFF },
  { off := 0x18, rc := 0xFFFFFFFF },
  { off := 0x1C, rc := 0xFFFF },
  { off := 0x20, rc := 0xFFFF },
  { off := 0x24, rc := 0xFFFF },
  { off := 0x28, rc := 0xFFFF },
  { off := 0x2C, rc := 0xFFFFFFFF },
  { off := 0x30, rc := 0xFFFF },
  { off := 0x38, wide := true },
  { off := 0x3C },
  { off := 0x40, reset := 0xA00, rw := 0xFF00 },
  { off := 0x44, rc := 0xFFFFFFFF },
  { off := 0x48 },
  { off := 0x4C }]

/-- The block HI. -/
def hiBlock : RegBlock := ⟨0x600000, 0x1000, 1, hiRows⟩

/-- The register words of HQ[q]. -/
def hqRows : List RegRow :=
 [
  { off := 0x0, rw := 0xFFFFF000, wide := true },
  { off := 0x4, rw := 0xFFFFFFFF },
  { off := 0x8, rw := 0xFFFFF000, wide := true },
  { off := 0xC, rw := 0xFFFFFFFF },
  { off := 0x10, reset := 0x404, rw := 0xF0F },
  { off := 0x14, reset := 0x1, rw := 0xFF },
  { off := 0x18, reset := 0x1, rw := 0x3FF00FF },
  { off := 0x1C, rw := 0x1 },
  { off := 0x20, w1c := 0x4 },
  { off := 0x24 },
  { off := 0x28 },
  { off := 0x2C, reset := 0x10000 },
  { off := 0x30 },
  { off := 0x34 },
  { off := 0x38, rc := 0xFFFFFFFF },
  { off := 0x3C, rc := 0xFFFF }]

/-- The block HQ[q]. -/
def hqBlock : RegBlock := ⟨0x601000, 0x40, 64, hqRows⟩

/-- The register words of DM. -/
def dmRows : List RegRow :=
 [
  { off := 0x0, w1c := 0x2 },
  { off := 0x4, reset := 0x40001, rw := 0xFFFF01 },
  { off := 0x8, rc := 0xFFFFFFFF },
  { off := 0xC, rc := 0xFFFFFFFF },
  { off := 0x10, rc := 0xFFFF },
  { off := 0x14, reset := 0x400, rw := 0xFFFF },
  { off := 0x18, wide := true },
  { off := 0x1C },
  { off := 0x20, rc := 0xFFFF }]

/-- The block DM. -/
def dmBlock : RegBlock := ⟨0x700000, 0x10000, 1, dmRows⟩

/-- The register words of CF. -/
def cfRows : List RegRow :=
 [
  { off := 0x0, w1c := 0x10 },
  { off := 0x4, wo := 0x3 },
  { off := 0x8, rw := 0x3FFFF80 },
  { off := 0x10, rw := 0xFFFFFFFF, wide := true },
  { off := 0x14, rw := 0xFF },
  { off := 0x18 },
  { off := 0x1C, rc := 0xFFFFFFFF },
  { off := 0x20 }]

/-- The block CF. -/
def cfBlock : RegBlock := ⟨0x720000, 0x10000, 1, cfRows⟩

/-- The register words of AR. -/
def arRows : List RegRow :=
 [
  { off := 0x0, reset := 0x4, rw := 0x7, staged := 0x7 },
  { off := 0x4, w1c := 0x104 },
  { off := 0x8, reset := 0x1770, rw := 0x1FFF },
  { off := 0xC, reset := 0x8, rw := 0xF },
  { off := 0x10, wide := true },
  { off := 0x14 },
  { off := 0x18, wide := true },
  { off := 0x1C },
  { off := 0x20, wide := true },
  { off := 0x24 },
  { off := 0x28, reset := 0x4876E800, rw := 0xFFFFFFFF, wide := true },
  { off := 0x2C, reset := 0x17, rw := 0xFFFFFFFF },
  { off := 0x30, wide := true },
  { off := 0x34 },
  { off := 0x38, wide := true },
  { off := 0x3C },
  { off := 0x40 },
  { off := 0x44 },
  { off := 0x48, rc := 0xFFFFFFFF },
  { off := 0x4C }] ++
 [
  { off := 0x50, rc := 0xFFFF },
  { off := 0x54 },
  { off := 0x58, rc := 0xFFFFFFFF },
  { off := 0x5C, rc := 0xFFFFFFFF }]

/-- The block AR. -/
def arBlock : RegBlock := ⟨0x710000, 0x10000, 1, arRows⟩

/-- The register words of SG. -/
def sgRows : List RegRow :=
 [
  { off := 0x0 },
  { off := 0x4, w1c := 0x1 },
  { off := 0x8 },
  { off := 0xC },
  { off := 0x10, wo := 0x7 },
  { off := 0x14 },
  { off := 0x18, wo := 0x3 },
  { off := 0x1C },
  { off := 0x20, rwl := 0xFFF },
  { off := 0x24 },
  { off := 0x30, rw := 0xFF },
  { off := 0x34, rw := 0xFFFFFFFF },
  { off := 0x38, wo := 0x1 },
  { off := 0x3C },
  { off := 0x40, wo := 0x1 },
  { off := 0x48, rw := 0xFFFFFFFF, wide := true },
  { off := 0x4C, rw := 0xFF },
  { off := 0x50, rw := 0x1FFFFFF },
  { off := 0x54, wo := 0x1 },
  { off := 0x58 }] ++
 [
  { off := 0x5C, rw := 0xFF },
  { off := 0x60, stride := 0x4, count := 4 },
  { off := 0x80, rw := 0x7, wo := 0x18 },
  { off := 0x84, rc := 0xFFFF },
  { off := 0xA0, stride := 0x4, count := 8 },
  { off := 0x100, stride := 0x40, count := 8, sub := 16 },
  { off := 0x300, stride := 0x4, count := 16 },
  { off := 0x400, stride := 0x4, count := 128 },
  { off := 0x1000, stride := 0x4, count := 1157, wo := 0xFFFFFFFF },
  { off := 0x3000, stride := 0x4, count := 648 }]

/-- The block SG. -/
def sgBlock : RegBlock := ⟨0x800000, 0x10000, 1, sgRows⟩

/-- The register words of PM. -/
def pmRows : List RegRow :=
 [
  { off := 0x0 },
  { off := 0x4, wide := true },
  { off := 0x8 },
  { off := 0xC, wo := 0x7, staged := 0x7 },
  { off := 0x10 },
  { off := 0x14, rc := 0xFFFF },
  { off := 0x18, wo := 0x3 },
  { off := 0x20, stride := 0x4, count := 8, reset := 0x10000000, rw := 0xFFFFFFFC },
  { off := 0x40 },
  { off := 0x44 },
  { off := 0x48 },
  { off := 0x4C, rc := 0xFFFF }]

/-- The block PM. -/
def pmBlock : RegBlock := ⟨0x900000, 0x10000, 1, pmRows⟩

/-- The register words of TW. -/
def twRows : List RegRow :=
 [
  { off := 0x0, reset := 0x1000, rw := 0xFF03, staged := 0xFF03 },
  { off := 0x4, reset := 0x3, w1c := 0x100 },
  { off := 0x8, reset := 0x1 },
  { off := 0xC, reset := 0x14, rw := 0xFFFF, staged := 0xFFFF },
  { off := 0x10, reset := 0x4, rw := 0xFF, staged := 0xFF },
  { off := 0x14, reset := 0xFA0, rw := 0x1FFF, staged := 0x1FFF },
  { off := 0x18 },
  { off := 0x1C, rc := 0xFFFF },
  { off := 0x20, rc := 0xFFFF },
  { off := 0x24, rc := 0xFFFF },
  { off := 0x28, wide := true },
  { off := 0x2C },
  { off := 0x30, wide := true },
  { off := 0x34 },
  { off := 0x40, stride := 0x10, count := 4, rw := 0xFFFFFFFF, staged := 0xFFFFFFFF, wide := true },
  { off := 0x44, stride := 0x10, count := 4, rw := 0xFF, staged := 0xFF },
  { off := 0x48, stride := 0x10, count := 4, rw := 0xFFFF, staged := 0xFFFF },
  { off := 0x4C, stride := 0x10, count := 4, rw := 0x1, staged := 0x1 },
  { off := 0x100, stride := 0x4, count := 16 },
  { off := 0x140, stride := 0x4, count := 16 }]

/-- The block TW. -/
def twBlock : RegBlock := ⟨0xA00000, 0x10000, 1, twRows⟩

/-- The register words of DEV. -/
def devRows : List RegRow :=
 [
  { off := 0x0, reset := 0x148 },
  { off := 0x4, reset := 0xFFFFFFFF },
  { off := 0x8, reset := 0xFFFF },
  { off := 0xC, reset := 0x7FF },
  { off := 0x10, reset := 0xFFFFFFFF },
  { off := 0x14, reset := 0xFFFFFFFF },
  { off := 0x18, reset := 0x100000 },
  { off := 0x1C },
  { off := 0x20, rc := 0xFFFFFFFF },
  { off := 0x24 }]

/-- The block DEV. -/
def devBlock : RegBlock := ⟨0x0, 0x10000, 1, devRows⟩

/-- The register words of DBG. -/
def dbgRows : List RegRow :=
 [
  { off := 0x0, rw := 0x7 },
  { off := 0x4, wo := 0x7 },
  { off := 0x8, w1c := 0x12 },
  { off := 0xC, rw := 0x13F },
  { off := 0x10, rw := 0xFFFFFFFF },
  { off := 0x18, rw := 0xFFFFFFFF, wide := true },
  { off := 0x1C, rw := 0xFF },
  { off := 0x20, rw := 0xFFFFFFFF, wide := true },
  { off := 0x24, rw := 0xFFFFFFFF },
  { off := 0x28, rw := 0xE, wo := 0x1 }]

/-- The block DBG. -/
def dbgBlock : RegBlock := ⟨0xF00000, 0x10000, 1, dbgRows⟩

/-- Every block of registers. -/
def regBlocks : List RegBlock :=
  [encBlock, domBlock, peoBlock, ewGroupBlock, ewLogBlock, tbBlock,
   ewBlock, teDomainBlock, teRollBlock, teBlock, veGroupBlock, vtBlock,
   veBlock, hlBlock, hlGlobalBlock, lsBlock, lsPipeBlock, mpuBlock,
   wdBlock, cmBlock, icGroupBlock, srcBlock, icBlock, fltBlock,
   fcuBlock, sscBlock, spMemBlock, spBlock, fwBlock, hqBlock,
   hiBlock, dmBlock, cfBlock, arBlock, sgBlock, pmBlock,
   retainedBlock, twBlock, devBlock, dbgBlock]

end Sys2Proof.Machine
end

