-- ==== Sys2Proof/Machine/Sparse.lean ====
section
/-! DEFINITION. Sparse data by number: lists of (key, value) pairs whose keys rise strictly, and fixed families of
like things reached by index. -/

namespace Sys2Proof.Machine

/-- The value listed under a key. -/
def lookup {α : Type} (l : List (Nat × α)) (k : Nat) : Option α :=
  match l with
  | [] => none
  | (a, v) :: r => if a = k then some v else lookup r k

/-- The list without what it lists under a key. -/
def dropKey {α : Type} (l : List (Nat × α)) (k : Nat) : List (Nat × α) :=
  match l with
  | [] => []
  | (a, v) :: r => if a = k then dropKey r k else (a, v) :: dropKey r k

/-- The list with an entry put in its place by key, or replaced. -/
def putKey {α : Type} (l : List (Nat × α)) (k : Nat) (v : α) : List (Nat × α) :=
  match l with
  | [] => [(k, v)]
  | (a, w) :: r =>
    if k < a then (k, v) :: (a, w) :: r
    else if k = a then (k, v) :: r
    else (a, w) :: putKey r k v

/-- The list in which a key reads as `v`, where an unlisted key reads as `d`. -/
def setKey {α : Type} [DecidableEq α] (l : List (Nat × α)) (k : Nat) (v d : α) : List (Nat × α) :=
  if v = d then dropKey l k else putKey l k v

/-- Every key of the list is greater than `k`. -/
def keysAbove {α : Type} (k : Nat) (l : List (Nat × α)) : Bool :=
  match l with
  | [] => true
  | (a, _) :: r => decide (k < a) && keysAbove k r

/-- The keys of the list rise strictly. -/
def keysRise {α : Type} (l : List (Nat × α)) : Bool :=
  match l with
  | [] => true
  | (a, _) :: r => keysAbove a r && keysRise r

/-- A family of like things, with the one at an index replaced by its image. -/
def alter {α : Type} {n : Nat} (v : Vector α n) (i : Fin n) (f : α → α) : Vector α n :=
  v.set i (f (v.get i))

/-- The numbers 0 to n − 1 that a test accepts. -/
def numbersWhere (n : Nat) (p : Nat → Bool) : List Nat :=
  (List.range n).filter p

/-- An element put before the first element of a list that it does not follow. -/
def insertBy {α : Type} (le : α → α → Bool) (x : α) (l : List α) : List α :=
  match l with
  | [] => [x]
  | y :: r => if le x y then x :: y :: r else y :: insertBy le x r

/-- A list in order; equal elements keep their order. -/
def sortBy {α : Type} (le : α → α → Bool) (l : List α) : List α :=
  l.foldr (insertBy le) []

/-- The number a run of bytes spells, the first byte least significant (R10). -/
def leNat (b : Bytes) : Nat :=
  match b with
  | [] => 0
  | x :: r => x.toNat + 256 * leNat r

/-- A number as `n` bytes, the least significant first (R10). -/
def natLe (n v : Nat) : Bytes :=
  match n with
  | 0 => []
  | n + 1 => BitVec.ofNat 8 v :: natLe n (v / 256)

/-- The bits `lo` to `lo + width − 1` of a number. -/
def bitsOf (v lo width : Nat) : Nat :=
  v / 2 ^ lo % 2 ^ width

/-- The number whose bits `lo` to `lo + width − 1` are those of `x`, the others those of `v`. -/
def withBits (v lo width x : Nat) : Nat :=
  v - bitsOf v lo width * 2 ^ lo + x % 2 ^ width * 2 ^ lo

/-- A signed number from the low `w` bits of a number, in two's complement. -/
def signedOf (w v : Nat) : Int :=
  if 2 ^ (w - 1) ≤ v % 2 ^ w then ((v % 2 ^ w : Nat) : Int) - (2 ^ w : Nat) else ((v % 2 ^ w : Nat) : Int)

/-- The low `w` bits of a signed number, in two's complement. -/
def unsignedOf (w : Nat) (v : Int) : Nat :=
  (v % ((2 ^ w : Nat) : Int)).toNat

/-- The quotient rounded to the nearest integer, a tie away from zero (R484).
(DEDUCED, notes/assumptions/11.md; DEDUCED, notes/assumptions/37.md) -/
def divNearest (a : Int) (b : Nat) : Int :=
  if 0 ≤ a then (2 * a + b) / (2 * b) else -((2 * (-a) + b) / (2 * b))

/-- The quotient rounded up, for natural numbers. -/
def divUp (a b : Nat) : Nat :=
  (a + b - 1) / b

end Sys2Proof.Machine
end

