-- ==== Sys2Proof/Machine/State.lean ====
section
/-! DEFINITION. The state of the device as plain data, and the state after reset. A value that a register shows has
its home in the register file `regs`; the structures hold the rest, subsystem by subsystem. -/

namespace Sys2Proof.Machine

/-- The part (R2): fuses and package population select it. -/
inductive Part where
  | sk7348
  | sk7332
  | sk7316
  deriving DecidableEq, Repr

/-- Why the machine stops. -/
inductive Fault where
  /-- A command whose operand no such event can carry. No meaning raises it: each is total and answers a next state, and a
  step does not ask for `Instr.wellFormed`. Safe. -/
  | illFormed
  deriving DecidableEq, Repr

/-- Why a command is refused. No arm of `exec` refuses: every row of the table has its meaning. -/
inductive Refusal where
  /-- The command has no meaning in this model. Only an arm of `exec` could raise it, and none does. Safe. -/
  | notModelled (mnemonic : String)
  deriving DecidableEq, Repr

/-! ### Writes waiting for a boundary, faults and sources on their way -/

/-- A write in the stage (R46): register word, value, the master that wrote it, and its place in the order of staging. -/
structure Staged where
  off : Nat
  val : Word
  m : Master
  seq : Nat := 0
  deriving DecidableEq, Repr

/-- A fault occurrence on its way to the FCU (R325, R332). -/
structure FaultIn where
  id : Nat
  detail : Nat
  injected : Bool
  cls : Nat                      -- a class the detector asks for (R347)
  tt : Nat                       -- TT at which it was raised: occurrences of one instant arrive in one FCLK (R326)
  deriving DecidableEq, Repr

/-! ### The kiln -/

/-- What the kiln holds of an encoder input beside its registers (R18 to R21). -/
structure EncState where
  a : Bool := false              -- accepted level of A
  b : Bool := false              -- accepted level of B
  badA : Bool := false           -- fail-safe status of A: invalid
  badB : Bool := false           -- fail-safe status of B: invalid
  okTtA : Nat := 0               -- TT from which A has been valid, while it is (R21)
  okTtB : Nat := 0
  zBadTt : Nat := 0              -- TT at which Z was last reported invalid (R21)
  recent : List Nat := []        -- TT of acceptance of the edges of the last 1 µs, newest first
  overrate : Bool := false        -- in overrate
  edges : Nat := 0               -- edges in the current 1 ms
  zRef : Option Int := none      -- `ENC_CNT` at the reference index edge
  zRev : Bool := false           -- counting reversed since the reference
  up : Option Bool := none       -- direction of the last count
  deriving DecidableEq, Repr

/-- What the kiln holds of a position domain beside its registers. Positions are in 1/2^24 PV. -/
structure DomState where
  pos : Int := 0                 -- exact position at the last edge, or the held position (R24, R27)
  ett : Option Nat := none       -- TT from which R22 extends the position; none: the position holds
  hist : List (Nat × Int) := []  -- position history, newest first: TT and PV after the edge (R30)
  origin : Nat := 0              -- history origin (R32)
  winPri : Int := 0              -- primary counts of the open window (R25)
  winChk : Int := 0              -- check counts of the open window (R25)
  stall : Int := 0               -- net primary counts since the last accepted check edge (R26)
  chkSilent : Bool := false      -- the check encoder is taken as lost for want of edges (R26)
  whole : Int := 0               -- whole-count position at the last edge or preset (R153)
  moved : Int := 0               -- net motion since power-on, presets left out (R28)
  moves : List (Nat × Int) := [] -- motion of the last 1 s, newest first: TT and `moved` after it (R28)
  movedBefore : Int := 0         -- `moved` 1 s ago (R28)
  up : Option Bool := none       -- direction of the last motion (R51, R67)
  deriving DecidableEq, Repr

/-- A bank of the conversion service (R36): the registers that one master sees, and the conversion that runs. -/
structure CvtBank where
  inp : DWord := 0
  out : DWord := 0
  err : Word := 0
  result : Fin 8 := 0
  busy : Option (Fin 8 × DWord × Word) := none   -- the result, OUT and ERR to be taken when BUSY clears
  deriving DecidableEq, Repr

/-- A recognised source event that waits for its boundary (R38, R39): the TT of recognition, whether it is a FIRE_IN edge,
and of a step the index of the grid line crossed before it. -/
structure SourceEvent where
  tt : Nat
  fireIn : Bool
  before : Int := 0
  deriving DecidableEq, Repr

/-- The kiln. -/
structure Kiln where
  running : Bool := false        -- firing generation runs (R17)
  enc : Vector EncState 8 := Vector.replicate 8 {}
  dom : Vector DomState 4 := Vector.replicate 4 {}
  cvt : List (Nat × CvtBank) := []   -- by 16 d + m; unlisted: as reset (R36)
  src : List SourceEvent := []   -- source events: the first that waits, and the latest
  quiet : Nat := 0               -- consecutive FMAX firings without a FIRE_IN edge (R43)
  srcLost : Bool := false        -- TB_SRC_LOST raised since the last FIRE_IN edge
  ovsRaised : Bool := false      -- FIRING_OVERSPEED raised in this run (R40)
  t0 : Int := 0                  -- the step grid's T0 in PV (R37)
  k : Int := 0                   -- index of the grid line crossed last (R37)
  kStep : Int := 0               -- k at the previous step boundary (R37)
  maintExit : Bool := false      -- MAINTENANCE is left at the next boundary (R435)
  newEn : List Nat := []         -- domains that the commit in progress enables (R37)
  rebase : Bool := false         -- the commit in progress re-bases the grid (R37)
  deriving DecidableEq, Repr

/-! ### The wheel and the outputs -/

/-- An event of the wheel (R152), with its comparison count C (R153). -/
structure Event where
  cmp : Int
  width : Nat
  tag : Word
  ch : Chan
  action : Fin 4
  dir : Fin 4
  log : Bool
  prio : Fin 16
  group : Group
  seq : Nat
  handle : Nat
  insTt : Nat                    -- TT at which the insertion completed
  insFar : Bool                  -- C lay 4,096 counts or more from the count at insertion (R157)
  near : Bool                    -- loaded into its domain's near set
  kept : Bool                    -- kept outside a full near set (R158)
  deriving DecidableEq, Repr

/-- An event reached outside the near set, which acts through the late path (R157); `up` is its firing direction. -/
structure LateEvent where
  slot : Nat
  ev : Event
  up : Bool
  edge : Nat                     -- TT of the edge that reached it (R159)
  deriving DecidableEq, Repr

/-- What became of the last event of a slot: its handle, its group, and whether it has acted (R160). -/
structure SlotFate where
  handle : Nat
  group : Group
  fired : Bool
  deriving DecidableEq, Repr

/-- A port write held while the port is busy (R154, R160): its offset in the group block, the value, the writer. -/
structure HeldPort where
  off : Nat
  val : Word
  m : Master
  deriving DecidableEq, Repr

/-- The event wheel (R152 to R162). -/
structure Wheel where
  slots : List (Nat × Event) := []
  fates : List (Nat × SlotFate) := []
  late : List LateEvent := []
  seq : Nat := 0                 -- device-wide insertion sequence, 32-bit (R159)
  held : Vector (List HeldPort) 8 := Vector.replicate 8 []
  masked : Vector (Option Nat) 8 := Vector.replicate 8 none   -- mask cancel running: events removed (R160)
  raws : List Nat := []          -- words that raw access has written or read since their slots changed (R310)
  inserts : List (Nat × Bytes) := []  -- insertions of the firing: group and descriptor (R450)
  deriving DecidableEq, Repr

/-- A pulse that runs on a channel (R165, R166). -/
inductive Pulse where
  | time (endTt : Nat)
  | pos (endCount : Int) (up : Bool) (cap : Option Nat)
  deriving DecidableEq, Repr

/-- What an output channel holds beside its registers: L is `PEO_STAT.LOGIC`. -/
structure ChanState where
  pulse : Option Pulse := none
  since : Nat := 0               -- TT at which L last changed or was last tested (R171)
  test : Option Nat := none      -- TT at which the off-pulse test began (R171)
  deriving DecidableEq, Repr

/-- The intrusive test of the SSC that runs (R337). -/
structure IntrusiveTest where
  start : Nat
  setX : Bool                    -- the test set the latch of channel X
  setY : Bool
  abandoned : Bool := false
  deriving DecidableEq, Repr

/-- The output channels and the SAFE_STOP pins. -/
structure Outs where
  chan : Vector ChanState 32 := Vector.replicate 32 {}
  itest : Option IntrusiveTest := none   -- the SSC's intrusive test
  stopTt : Nat := 0              -- TT at which the SAFE_STOP pins last changed (R174)
  ioLost : Bool := false         -- VDD_IO is absent (R174, R442)
  deriving DecidableEq, Repr

/-! ### The head links -/

/-- A message received whole and found good, with the TT at which its first codeword arrived (R56, R59, R64). -/
structure RxMsg where
  tt : Nat
  bytes : Bytes
  deriving DecidableEq, Repr

/-- A message that waits for the transmitter (R56, R70), and the TT at which it was handed over. -/
structure TxMsg where
  tt : Nat
  bytes : Bytes
  deriving DecidableEq, Repr

/-- A capture whose TRIG has been sent and whose final FEAT is awaited (R69, R72); `no` counts the lane's TRIGs. -/
structure Capture where
  no : Nat
  tt : Nat
  fn : Nat
  tgt : Int
  got : Nat := 0                 -- records received (R73)
  trunc : Bool := false
  deriving DecidableEq, Repr

/-- A crop that fills its slot (R78). -/
structure CropFill where
  slot : Nat
  id : Nat
  since : Nat                    -- TT of its first fragment
  total : Nat
  got : Nat
  frags : List Nat
  deriving DecidableEq, Repr

/-- A SYNC whose response is awaited (R61, R64): T1 and DELAY in 1/256 KCLK. -/
structure SyncSent where
  id : Nat
  t1 : Nat
  delay : Nat
  deriving DecidableEq, Repr

/-- A CHALLENGE that runs (R90): bytes 16 to 79 of the request, and the response with the TT of its arrival. -/
structure Challenge where
  id : Nat
  req : Bytes
  sent : Nat
  resp : Option RxMsg
  deriving DecidableEq, Repr

/-- What a lane holds beside its registers (R53 to R94). -/
structure LaneState where
  since : Nat := 0               -- TT of entry to the present state, or of the present training attempt
  attempt : Nat := 0             -- PAM4 attempts that have failed (R53)
  descr : BitVec 58 := 0         -- the last 58 received bits of the message stream (R54)
  lastCnt : Nat := 0             -- count of the last codeword (R55)
  good : Nat := 0                -- consecutive codewords with correct marker and count (R55)
  bad : Nat := 0                 -- consecutive bad codewords (R55)
  search : Bool := true          -- a header with a valid HCRC is sought (R59)
  part : Option RxMsg := none    -- the message in assembly
  rx : List RxMsg := []          -- received messages, oldest first
  tx : List TxMsg := []          -- messages that wait for the transmitter, oldest first
  txRest : Bytes := []           -- bytes of a message that has begun, for the codewords to come (R57)
  txCount : Byte := 0            -- count of the next codeword sent (R54)
  scram : BitVec 58 := 0         -- the last 58 bits of message stream sent (R54)
  txWord : List (BitVec 10) := []  -- the codeword that leaves the lane pins: 544 symbols; empty: none
  txEnd : Nat := 0               -- TT at which it ends, in sevenths of a KCLK
  seqs : List (Nat × Nat) := []  -- next SEQ by TYPE, outgoing (R56)
  rxSeqs : List (Nat × Nat) := [] -- SEQ expected of FEAT and CROP (R59)
  fecHigh : Bool := false        -- HL_FEC_RATE raised, and more than 1,000 still in 1 s (R95)
  unc : List Nat := []           -- TTs of the uncorrectable codewords of the last 1 s, newest first (R95)
  verTt : Option Nat := none     -- last VER sent in this NEGOTIATE (R91)
  headVer : Option (Nat × Nat) := none  -- VMIN and VMAX of the VER received in this NEGOTIATE (R87, R91)
  hbTt : Option Nat := none      -- last HB sent (R82)
  hbRx : Nat := 0                -- last valid HB (R84)
  hbOld : Nat × Nat := (0, 0)    -- a former heartbeat period that still counts, and the TT until which it does (R89)
  syncTt : Option Nat := none    -- last SYNC sent
  syncId : Nat := 0
  steps : Nat := 0               -- SYNCs sent in this CALIBRATE (R65)
  exch : Nat := 0                -- exchanges since the entry to CALIBRATE (R64)
  goodRun : Nat := 0             -- consecutive exchanges within half the limit (R65)
  overRun : Nat := 0             -- consecutive exchanges over the limit (R65)
  syncs : List SyncSent := []    -- SYNCs awaiting a response, oldest first
  capNo : Nat := 0               -- TRIGs sent; CAP_ID is its low 16 bits (R69)
  sent : List Int := []          -- the grid points ahead that have been sent or skipped in the present direction (R67)
  caps : List Capture := []      -- outstanding captures, oldest first
  fcaps : List Capture := []     -- captures of the leader whose records arrive, oldest first (R448, R452)
  fNo : Nat := 0                 -- number of the latest of them: its CAP_ID counted on (R103)
  missRun : Nat := 0             -- consecutive missing captures (R72)
  detached : Bool := false       -- detached or lost since the last admission (R76)
  released : Bool := false       -- detached at a boundary, and not trained or admitted anew (R92, R93)
  lostFn : Option Nat := none    -- FN of the last head loss (R93)
  featUsed : Nat := 0            -- consumed FEAT credits (R80)
  cropUsed : Nat := 0
  featSent : Nat := 0            -- limits last sent in a CRED (R80)
  cropSent : Nat := 0
  credTt : Nat := 0              -- last CRED sent
  fills : List CropFill := []    -- crops that fill their slots
  ctrlId : Nat := 0              -- CTRL_ID of the next request (R88)
  mailbox : Option (Nat × Nat) := none   -- mailbox request that awaits its response: CTRL_ID and TT
  own : List (Nat × Nat) := []   -- the device's own requests that await responses: CTRL_ID and TT
  chal : Option Challenge := none
  peerOfs : Int := 0             -- the last residual of a peer SYNC, 1/256 KCLK, not cut to 32 bits (R453)
  headCap : Nat := 0             -- last CAP_ID that the head reported in HB (R82, R452)
  deriving DecidableEq, Repr

/-- A record handed to the Track Engine (R75), with the FEAT credits that taking it returns (R80). -/
structure RecIn where
  lane : Nat
  dom : Nat
  surf : Nat
  cap : Nat                      -- the capture in TRIG order (R103)
  capId : Nat
  pos : Nat                      -- position within the capture (R103)
  tt : Nat
  fn : Nat
  bytes : Bytes                  -- the 32 bytes of R74, LAT adjusted
  trunc : Bool
  credit : Nat
  batch : Nat := 0               -- the batch firing, once taken (R99)
  deriving DecidableEq, Repr

/-! ### The Track Engine -/

/-- A record placed on the strip (R101). -/
structure Placed where
  src : RecIn
  start : Int
  stop : Int
  latLo : Int
  latHi : Int
  deriving DecidableEq, Repr

/-- A sealed batch (R99, R105): its firing, its placed records in canonical order, its edge records, and DOM_BPV of each
domain at boundary F + 1 (R116). -/
structure Batch where
  fn : Nat
  recs : List Placed
  edges : List (Nat × Nat × Int) -- domain, surface, LAT
  bpv : List Int
  deriving DecidableEq, Repr

/-- A buffered decision (R118). -/
structure Decision where
  id : Nat
  m : Nat
  action : Nat
  cls : Nat
  deriving DecidableEq, Repr

/-- What the engine knows of a track beside its record (R117, R119): the boundary that published its queue entry, or of
its last HOLD, and the HOLDs so far. -/
structure TrackAux where
  pub : Option Nat := none
  holds : Nat := 0
  deriving DecidableEq, Repr

/-- An entry of the repeat history (R125): chain by roll. -/
structure RepeatEntry where
  id : Nat
  surf : Nat
  start : Int
  lat : Int
  chains : List (Nat × Nat)      -- chain[r], listed where it is not 0
  deriving DecidableEq, Repr

/-- A boundary as the kiln has recorded it: its FN, t0, and DOM_BPV of each domain. -/
structure Boundary where
  fn : Nat
  t0 : Nat
  bpv : List Int
  deriving DecidableEq, Repr

/-- One item of an application (R105, R122). -/
inductive Item where
  | free (id : Nat)
  | decide (d : Decision)
  | timeouts                     -- the tracks that time out are found
  | timeout (id : Nat)
  | seals                        -- the tracks to seal are found
  | seal (id : Nat)
  | record (p : Placed)
  | edges
  | closing (d surf : Nat)       -- the tracks to close are found
  | close (id reason : Nat)
  | finish
  deriving DecidableEq, Repr

/-- An application in progress (R105): its batch, the items left, and what the batch hash has taken in. -/
structure Application where
  batch : Batch
  admins : List (Nat × Option Int)
  items : List Item
  log : Bytes
  cost : Nat                     -- FCLK by R106
  deriving DecidableEq, Repr

/-- The Track Engine beside its registers. The track store itself is memory. -/
structure Tracks where
  incoming : List RecIn := []    -- records handed over and not yet taken, oldest first (R98)
  staged : List RecIn := []      -- records taken and not yet in a sealed batch (R99)
  bounds : List Boundary := []   -- the recorded boundaries, newest first (R99)
  hashes : List (Nat × Bytes) := []  -- batch hashes by batch FN, newest first (R105)
  sealedTo : Nat := 0            -- the last batch firing that has been sealed; 0: none
  batches : List Batch := []     -- sealed batches that wait, oldest first
  app : Option Application := none
  decs : List Decision := []     -- decisions buffered, in order of writing (R118)
  decsClosed : List (Nat × Decision) := []  -- those closed off at t0 of a boundary, by its FN
  adminDoms : List (Nat × Option Int) := []  -- domains that the next application closes for ADMIN, and a preset's PV (R116)
  live : List Nat := []          -- the tracks that are not FREE, ascending
  unpub : List Nat := []         -- tracks closed since the queue heads last advanced (R119)
  aux : List (Nat × TrackAux) := []
  sealedIds : List Nat := []     -- tracks SEALED by the application before (R105)
  cols : List (Nat × List Nat) := []  -- column references by (2 d + surf) 4096 + c (R108)
  cqNext : Vector Nat 4 := Vector.replicate 4 0   -- close-queue entries written, published or not (R117)
  hzn : Vector (Option Int) 4 := Vector.replicate 4 none   -- horizons (R116)
  presetFn : Vector Nat 4 := Vector.replicate 4 0  -- the boundary at which the domain's last preset committed (R116)
  history : Vector (List RepeatEntry) 4 := Vector.replicate 4 []  -- newest first (R125)
  pool : List Nat := []          -- tracks with a pre-image, in order of saving (R122)
  deriving DecidableEq, Repr

/-! ### The Verify Engine -/

/-- A job (R132): its group, its 64-byte descriptor, and its deferrals so far. -/
structure Job where
  g : Nat
  desc : Bytes
  defers : Nat := 0
  first : Option Nat := none     -- the boundary at which it was first a candidate (R136)
  deriving DecidableEq, Repr

/-- A job placed or settled at the present boundary (R139, R142): its place among the candidates, its tile, and, once it
has ended or is settled, its status, result and whether its output is complete. -/
structure Slot_ where
  ix : Nat
  job : Job
  tile : Option Nat
  cost : Nat
  fn : Nat
  status : Option Nat := none
  result : Bytes := List.replicate 12 0
  out : Bool := false
  cancelled : Bool := false      -- to be published CANCELLED (R146)
  deriving DecidableEq, Repr

/-- The contents of a kernel slot (R147): the image, and its overruns since the load. -/
structure KSlot where
  image : Bytes
  overruns : Nat := 0
  deriving DecidableEq, Repr

/-- The Verify Engine beside its registers. -/
structure Verify where
  copied : List Job := []        -- copied at the last seal point (R135)
  pool : List Job := []          -- the deferred pool, in order of entry (R136)
  slots : List Slot_ := []       -- placed and settled jobs that are not yet published, in order of placing
  out : List Nat := []           -- tiles with a fault outstanding (R131, R145)
  testing : List Nat := []       -- tiles whose self-test runs (R145)
  back : List Nat := []          -- tiles that return at the next boundary (R145)
  kslots : List (Nat × KSlot) := []   -- by slot − 0x80
  kpend : List (Nat × Option Bytes) := []  -- loads and unloads for the next boundary (R148)
  quarNext : List Nat := []      -- slots quarantined from the next boundary (R145)
  kload : Option (Nat × Nat) := none  -- the check that runs: address and length (R148)
  cancel : Vector (Option (Nat × Nat × Bool)) 8 := Vector.replicate 8 none  -- held cancels: TAG, MASK, DISCARD (R146)
  removed : List (Nat × Nat) := []  -- jobs that the cancels of the last seal point removed, by group (R146)
  digest : Bytes := []           -- result records published at the last seal point (R450)
  deriving DecidableEq, Repr
/-! ### The lockstep groups -/

/-- What a write in its mode shadow writes (R224, R277): STATUS, PREDCTL, or an MPU register by its offset. -/
inductive ShadowReg where
  | status
  | predctl
  | mpu (off : Nat)
  deriving DecidableEq, Repr

/-- A write in its mode shadow: it takes effect after `left` further committed instructions (R224). -/
structure ShadowWrite where
  reg : ShadowReg
  val : Word
  left : Nat
  deriving DecidableEq, Repr

/-- A branch or jump that has committed and whose delay slot comes next (R250). -/
structure DelaySlot where
  branch : Word                  -- PC of the branch
  next : Word                    -- where execution goes on after the slot
  annul : Bool
  before : List (ShadowWrite × Word)  -- the writes in their shadow before the branch, with the values then in effect (R277)
  deriving DecidableEq, Repr

/-- A replay entry (R228): the access kept at an entry, and what it returned: its data, or the code of its error status.
-/
structure Replay where
  pc : Word
  atom : Option AtomOp           -- none: a load
  addr : Word
  size : Nat
  data : DWord
  err : Option Exc
  back : Bool                    -- the data have returned (R185)
  deriving DecidableEq, Repr

/-- An interrupt entry whose late-arrival window may still run (R273): its source, the TT of d, and the source's word of
`SRC_STAT` before the delivery. -/
structure EntryWindow where
  src : Nat
  tt : Nat
  stat : Word
  deriving DecidableEq, Repr

/-- The kinds of branch of R217. -/
inductive BranchKind where
  | conditional | jump | call | ret | indirect
  deriving DecidableEq, Repr

/-- A BTB entry (R217). -/
structure BtbEntry where
  pc : Word
  target : Word
  kind : BranchKind
  deriving DecidableEq, Repr

/-- The prediction and fetch structures of a copy (R215 to R217, R226). They change no result, only time and which version
of the code a store leaves to fetch. -/
structure Predictor where
  lines : List (Nat × Bytes) := []  -- line buffers, oldest first: fabric address and contents
  prefetch : Option Nat := none  -- the line that an outstanding prefetch has requested (R215)
  queue : List (Nat × Bytes) := []  -- fetch queue: the ISP groups fetched ahead (R215, R226)
  loopBuf : List (Nat × Bytes) := []  -- loop buffer: fetch groups
  capturing : Bool := false      -- the loop's first iteration runs, which fills the loop buffer (R216)
  btb : List (Nat × List BtbEntry) := []  -- by set, oldest first
  dir : List (Nat × Fin 4) := []  -- direction counters that are not weakly not taken
  hist : BitVec 10 := 0
  ras : List Word := []          -- return stack, newest first
  deriving DecidableEq, Repr

/-- A re-admission pause (R194): the copies that come in, and the TT at which it began. -/
structure Pause where
  copies : Nat
  start : Nat
  deriving DecidableEq, Repr

/-- The state inside the sphere of replication, which each copy has (R179); its MPU registers stand beside it. -/
structure Copy where
  gpr : Vector Word 32 := Vector.replicate 32 0
  pc : Word := 0
  delay : Option DelaySlot := none
  pl : Fin 3 := 0                -- STATUS in effect (R234)
  ie : Bool := false
  dze : Bool := false
  nest : Fin 16 := 0
  prio : Fin 64 := 0
  tsbp : Word := 0x10040000
  evb : Word := 0x10000000
  cause : Word := 0
  faddr : Word := 0
  lc : Word := 0
  ls : Word := 0
  le : Word := 0
  predctl : Word := 0x77         -- in effect (R220)
  dwb : Word := 0
  cycHi : Word := 0              -- latched high words (R236)
  fnHi : Word := 0
  shadow : List ShadowWrite := []  -- writes in their mode shadow, oldest first
  kept : List (Nat × List ShadowWrite) := []  -- pending-write entries by depth (R277)
  storeErrs : List Word := []    -- stores whose error status is on its way (R265 STORE_ERR)
  pred : Predictor := {}
  deriving DecidableEq, Repr

/-- A copy that an ejection has stopped (R190): its state, and its MPU registers. -/
structure HeldCopy where
  copy : Copy
  mpu : List (Nat × Word)
  deriving DecidableEq, Repr

/-- A lockstep group: the state of its copies, and what stands outside them once per group, its LS, WD and CM blocks
beside their registers (R179). The copies that take part hold one state: an upset that makes one differ is found in the
slot in which it shows (R184). The copies that an ejection has stopped hold states of their own. -/
structure Core extends Copy where
  startTt : Nat := 0             -- TT of the group restart, from which CCLK count (R187)
  held : Vector (Option HeldCopy) 3 := Vector.replicate 3 none  -- copies stopped by an ejection, A, B and C (R190)
  issued : Option (Nat × Vector (BitVec 128) 8) := none  -- TT and record of the last bus record that won its vote (R181, R184)
  replays : List (Nat × Replay) := []  -- replay entries by depth (R228)
  armed : Bool := false          -- the next restricted access may be served from the replay entry of the depth
  due : List (Exc × Word) := []  -- exceptions that wait for the next commit boundary: store errors that have returned (R266)
  waited : Bool := false         -- an interrupt entry has been decided since `LS_P_ENTRY_WAIT` was last brought up (R227)
  entry : Option EntryWindow := none
  broken : Bool := true          -- stopped, powered off or in a restart at some instant of this firing (R346)
  startedT0 : Bool := false      -- `CM_CTRL.START` had been written at t0 of this firing (R346)
  restartDue : Bool := false     -- restarts at the next boundary (R198, R329)
  stopDue : Bool := false        -- stops at the end of the pause (R200)
  inject : Option (Fin 3) := none  -- an injection is pending (R202)
  ejections : Vector Nat 3 := Vector.replicate 3 0  -- ejections on record in `LS_EJ_FN`, at most 2 (R196)
  readmit : Nat := 0             -- copies to be re-admitted at the next boundary whatever READMIT says (R189, R197)
  pause : Option Pause := none
  stepping : Bool := false       -- a debugger's single step: halts after the next instruction (R203)
  stestFn : Nat := 0             -- FN of the last comparator self-test (R201)
  powering : Option Nat := none  -- TT at which the group was powered on, until power is good (R205)
  key1 : Option Nat := none      -- SOSC tick of the pending KEY1 (R339)
  expired : Option Nat := none   -- SOSC tick at which the count last reached its period (R340)
  key1Then : Bool := false       -- a KEY1 was pending at that count (R340)
  frzCapped : Bool := false      -- the erase freeze reached 500 ms (R343)
  deriving DecidableEq, Repr

/-! ### Supervision -/

/-- The FCU and the SSC beside their registers. -/
structure Supervision where
  logQ : List Bytes := []        -- log entries waiting to be written (R326)
  logged : Nat := 0              -- entries written since LOG_WRAP was last cleared (R331)
  testFn : Nat := 0              -- FN of the last periodic test of the SSC (R337)
  bootSafe : Option (Nat × Nat × Nat) := none  -- ID, class and detail of a DEV-SAFE reaction during BISQUE or GLOST (R329)
  deriving DecidableEq, Repr


/-! ### Memories and their protection -/

/-- The scrubber of a memory (R309): the word it reads next, the start of the pass, and the corrections of the current
second. -/
structure Scrubber where
  next : Nat := 0
  passStart : Nat := 0
  stalled : Bool := false        -- SCRUB_STALL raised in this pass
  corrected : Nat := 0
  rated : Bool := false          -- the rate fault has been raised in this second
  deriving DecidableEq, Repr

/-- A raw access that runs, with the values latched at its GO (R310). -/
structure RawAccess where
  mem : Nat
  off : Nat
  wr : Bool
  data : DWord
  chk : BitVec 16
  deriving DecidableEq, Repr

/-- What the memories and their guards hold beside their contents and registers. -/
structure Prot where
  /-- The lattice errors: by word address, the stored check bits XOR those of the stored data (R304, R305). -/
  lat : List (Nat × BitVec 16) := []
  /-- Write-backs queued, by memory index and word address (R308). -/
  writeBacks : List (Nat × Nat) := []
  /-- The scrubbers by memory index; an unlisted one is as reset. -/
  scrub : List (Nat × Scrubber) := []
  /-- The HBM scrubber (R385). -/
  hbmScrub : Scrubber := {}
  raw : Option RawAccess := none
  /-- SOSC ticks of the debug denials of the last second, newest first (R321). -/
  dbgDenials : List Nat := []
  /-- MPU regions that a lattice error disables, as 32 g + r (R315). -/
  mpuOff : List Nat := []
  deriving DecidableEq, Repr

/-! ### The sagger -/

/-- A security event (R433). -/
structure SecEvent where
  fn : Nat
  kind : Nat
  detail : Nat
  deriving DecidableEq, Repr

/-! ### The coil archive and the code flash -/

/-- A coil (R391, R392): its records in the order written, each with its part: 0 tracks and seals, 1 crops, 2 gap log. -/
structure Coil where
  seq : Nat                      -- the archive's coil sequence number
  id : Bytes
  dom : Option Nat               -- none: the automatic coil
  start : Int
  isOpen : Bool := true
  recs : List (Nat × Bytes) := []
  durable : Nat := 0             -- records that are in NAND
  segTracks : Nat := 0           -- records of each part in the open segment
  segCrops : Nat := 0
  segGaps : Nat := 0
  deriving DecidableEq, Repr

/-- A sealed segment that is being programmed (R393): its firing, its bytes, and how many records of each coil become
durable with it. -/
structure Segment where
  fn : Nat
  bytes : Nat
  counts : List (Nat × Nat)
  deriving DecidableEq, Repr

/-- An operation of the code flash that runs (R387). -/
structure FlashOp where
  erase : Bool
  addr : Nat                     -- the sector's or the line's fabric address
  start : Nat
  deriving DecidableEq, Repr

/-- The coil archive and the code flash beside their registers. -/
structure Archive where
  coils : List Coil := []        -- oldest first
  nextSeq : Nat := 0
  segs : List Segment := []      -- oldest first
  segBytes : Nat := 0            -- bytes of the open segment
  skipped : Bool := false        -- a crop of the open segment was skipped (R395)
  lost : Bool := false           -- records of the open segment were lost (R384)
  writes : List (Nat × Nat) := []  -- bytes accepted in the last 1 ms with their TT, newest first (R395)
  low : Bool := false            -- the filtered PWRFAIL_N is low (R397)
  refuse : Bool := false         -- hand-offs refused since a power-fail (R397)
  highSince : Option Nat := none -- TT of the filtered input's return high (R397)
  pfStart : Nat := 0
  pfDone : Option Nat := none    -- TT at which PF_DONE was set
  incomplete : Bool := false     -- a segment without its seal is to be discarded at glost (R397)
  wearRaised : Bool := false     -- AR_WEAR has been raised (R396)
  flash : Option FlashOp := none
  deriving DecidableEq, Repr
/-! ### The host -/

/-- What an authorisation that has been accepted says (R369): KIND, window, counter and the digest of its chain. -/
structure Auth where
  kind : Nat
  first : Nat
  last : Nat
  counter : Nat
  digest : Bytes
  deriving DecidableEq, Repr

/-- A chain that waits for its effective firing (R47): its queue (none: a chain of the twin's leader, R449), its packets,
an AUTH_REF included, and its place in the order of staging. -/
structure Chain where
  fn : Nat
  writes : Nat
  q : Option Nat
  cmds : List Bytes
  auth : Option Auth := none
  late : Bool := false           -- committed under LATE_NEXT (R366)
  imm : Bool := false            -- KERNEL_LOAD or VE_CANCEL of a twin pair, performed at the boundary (R449)
  codes : List (Nat × Nat) := [] -- results of image checks, by position (R415)
  seq : Nat := 0
  deriving DecidableEq, Repr

/-- A chain that has committed and waits, at an EVENT_INSERT, for the mask cancel of the event's group to complete
(R160): the group, the commands still to be finished by position, and the codes of its APP_LOADs. -/
structure ParkedChain where
  group : Group
  chain : Chain
  rest : List (Bytes × Nat)
  codes : List (Nat × Nat)
  deriving DecidableEq, Repr

/-- A chain that is being staged (R366, R370): what of it has been done. -/
structure Staging where
  q : Nat
  cmds : List Bytes
  blob : Bool                    -- its authorisation is still to be checked
  checked : Bool := false        -- its commands have been checked
  auth : Option Auth := none
  images : List Nat := []        -- positions of the APP_LOADs whose images are still to be checked
  codes : List (Nat × Nat) := []
  deriving DecidableEq, Repr

/-- A completion that has fallen due (R361). -/
structure Cpl where
  tag : Nat
  status : Nat
  chain : Bool
  held : Bool
  cfn : Nat
  result : Bytes
  deriving DecidableEq, Repr

/-- A queue pair beside its registers. -/
structure HostQueue where
  inbox : List Bytes := []       -- packets fetched and not yet taken (R358)
  resv : Nat := 0                -- packets fetched whose completions have not been written
  chain : List Bytes := []       -- the chain that is being collected
  chainTt : Nat := 0             -- TT at which the first packet of the chain fetched last came (R365)
  waitEnd : Bool := false        -- the chain is refused and its remaining packets are taken until END
  ready : List Cpl := []         -- completions due, oldest first
  mid : Bool := false            -- a chain's fetch is under way (R358)
  oldest : Nat := 0              -- TT of the oldest unsignalled entry (R372)
  deriving DecidableEq, Repr

/-- What an image check of the sagger is for (R420): the chain at the head of staging, or the FLASH_PROGRAM. -/
inductive ImageUse where
  | chain
  | flash
  deriving DecidableEq, Repr

/-- The FLASH_PROGRAM that runs (R389): its queue and command, the image in HBM, its length, the base of the half, and the
progress of the work. -/
structure FlashJob where
  q : Nat
  cmd : Bytes
  src : Nat
  len : Nat
  base : Nat
  checked : Bool := false        -- the image check has passed
  sector : Nat := 0              -- sectors erased
  line : Nat := 0                -- lines programmed
  halt : Bool := false           -- stops after the current sector (R375)
  deriving DecidableEq, Repr

/-- The host interface beside its registers. -/
structure HostIf where
  queues : List (Nat × HostQueue) := []
  staging : List Staging := []   -- chains being staged, in order of fetch
  checks : List ImageUse := []   -- image checks that wait or run, in order of arrival (R420)
  attest : Option (Nat × Bytes) := none   -- the attestation that is signed: its queue and packet
  kload : Option (Nat × Bytes) := none    -- the KERNEL_LOAD that waits for its check
  flash : Option FlashJob := none         -- the FLASH_PROGRAM that runs
  cancels : List (Nat × Bytes) := []      -- the VE_CANCELs that wait for a seal point
  out : List (Nat × Bytes) := []          -- writes to host memory, oldest first: host address and bytes
  msgs : List (Nat × Nat) := []           -- MSI-X messages sent, oldest first: function and vector
  pba : List Nat := []                    -- MSI-X pending bits, as 256 f + v (R353)
  table : List (Nat × Word) := []         -- words of the MSI-X tables that are not as reset, by 2048 f + word
  msixOn : Vector Bool 2 := Vector.replicate 2 false   -- MSI-X enable
  pme : Vector Bool 2 := Vector.replicate 2 false      -- a PME is outstanding
  advisory : Nat := 0            -- advisory non-fatal error messages that PF1 has sent (R355)
  isrDue : Vector Bool 2 := Vector.replicate 2 false   -- a function's share of `HI_ISR` awaits its message (R372)
  hbTt : Nat := 0                -- last write to `HI_HOST_HB` or a doorbell (R379)
  lost : Bool := false           -- the host is lost
  turn : Nat := 0                -- the queue fetched from last (R358)
  order : List Nat := []         -- the queues of the chains fetched whole and not yet taken, in order of fetch (R366)
  restart : Option (Nat × Bool) := none   -- the warm restart that WARM_RESTART asks for: when it begins, and ACTIVATE (R376)
  parked : List ParkedChain := []  -- chains that wait at an EVENT_INSERT for a group's mask cancel (R160)
  deriving DecidableEq, Repr


/-- A request of the sagger's engines (R420): the blob of the chain at the head of staging, the load of a slot, a head's
challenge, a debug authentication, an image check of the host's, a check of `SG_VER_CTRL`, an attestation. -/
inductive SagReq where
  | blob
  | kload
  | head (n : Fin 48)
  | debug
  | image
  | ver
  | attest
  deriving DecidableEq, Repr

/-- The sagger beside its registers. -/
structure Sagger where
  engine : List SagReq := []     -- the requests of the engines: the one that runs, then those that wait, in turn (R420)
  fuses : List (Nat × Word) := []   -- the fuse array: words that are not all 0 (R404)
  events : List SecEvent := []   -- the last 256, oldest first (R433)
  idKey : Bool := false          -- the identity private key is held (R416)
  storeKey : Bool := false       -- the store key is held (R416)
  dbgKeys : Bool := false        -- the debug and session keys are held (R423)
  sessVendor : Bool := false     -- the latest debug session was opened under the vendor key (R426, R427)
  headCheck : Nat := 0           -- TT at which the last check of a head's challenge ended (R90)
  active : Bool := false         -- the boot record's ACTIVE: half B (R390)
  trial : Bool := false          -- the boot record's TRIAL
  tries : Nat := 0               -- the boot record's TRIES
  rolledBack : Option Bool := none  -- the half that failed three times, until glost completes on the other (R390)
  ctrUnknown : Bool := false     -- the store did not verify: the counter is unknown (R421)
  halted : Bool := false         -- halted in BISQUE or GLOST (R410, R412)
  glostTt : Nat := 0             -- TT at which glost began
  usable : List Nat := []        -- keys 1 to 4 that glost found usable (R411)
  glostSvn : Nat := 0            -- SVN of the running glost, SVN and VERSION of the running Kilnware (R413, R419)
  kwSvn : Nat := 0
  kwVersion : Nat := 0
  appSvn : Option Nat := none    -- the lowest SVN of the images accepted at the last glost (R413)
  fuseOp : Option (Nat × Word) := none  -- the fuse program that runs (R405)
  ver : Option (Nat × Nat) := none  -- the check of `SG_VER_CTRL` that runs: address and length (R408)
  dbg : Option (Nat × Bool × Bytes × Bytes) := none  -- the authentication that runs: level, vendor key, nonce, signature (R426)
  rstNLow : Bool := false        -- RST_N is held low (R428)
  rstHeld : Bool := false        -- a reset by RST_N waits for the power-fail seal (R481)
  aonAlarm : Bool := false       -- a class A alarm is latched on VDD_AON (R424)
  scan : Bool := false           -- EXTEST or CLAMP acts (R428)
  deriving DecidableEq, Repr

/-! ### The twin -/

/-- A capture as the leader's TW_PLACE lists it (R446, R448). -/
structure Place where
  batch : Nat
  lane : Nat
  result : Nat
  capId : Nat
  pos : Int
  deriving DecidableEq, Repr

/-- What the digest of a firing takes in beside the batch hash (R450): the epoch, the Verify records, the insertions by
group and the TAGs. -/
structure DigestPart where
  fn : Nat
  epoch : Nat
  results : Bytes
  inserts : List (Nat × Bytes)
  tags : List Nat
  due : Nat                      -- TT of t0 of the next boundary, plus 480 KCLK
  deriving DecidableEq, Repr

/-- A TW_FIRE that waits for its boundary (R446, R448). -/
structure TwFire where
  fn : Nat
  cause : Nat
  commits : Nat
  deriving DecidableEq, Repr

/-- The transfer that a leader sends (R453): what has been sent of each object, and whether XFER_DONE has gone out. -/
structure Transfer where
  lane : Nat
  at_ : Nat := 0                 -- J, before which nothing is sent
  sent : List (Nat × Bytes) := []
  last : Nat := 0                -- TT of the last fragment
  size : Nat := 0                -- its bytes, which pace the next one
  deriving DecidableEq, Repr

/-- A device's join (R453): its start, J and the leader's epoch once JOIN_ACK has come, the images received, Y and the
leader's mode. -/
structure Join where
  start : Nat
  lane : Nat
  at_ : Option Nat := none
  reached : Bool := false        -- J has come: boundaries are taken from the leader
  epoch : Nat := 0
  images : List (Nat × Bytes) := []
  done : Option (Nat × Nat) := none
  apps : List Nat := []          -- the groups that ran when it began
  deriving DecidableEq, Repr

/-- The twin link beside its registers. -/
structure Twin where
  places : List Place := []      -- in the order received
  placed : List Nat := []        -- batches whose last TW_PLACE has arrived
  takeFn : Option Nat := none    -- the takeover boundary of this leader (R452)
  hello : Bool := false          -- HELLO has been sent in this exchange
  leadDue : Bool := false        -- becomes LEADER at its next boundary with TWIN_PEER low (R444, R445, R452)
  takeover : Bool := false       -- and by a takeover
  ceding : Option Nat := none    -- RELINQUISH sent, naming this boundary (R452)
  owed : Bool := false           -- SAFE or LOCKDOWN entered: RELINQUISH or LEAVE is to be sent (R452, R454)
  peerAct : Bool := false        -- TWIN_PEER as last sampled
  fire : Option TwFire := none   -- a TW_FIRE whose boundary is due
  fireLost : Bool := false       -- a boundary is due for want of a TW_FIRE
  parts : List DigestPart := []  -- firings whose digest is not finalised, oldest first
  tags : List Nat := []          -- TAGs of the chains committed at the last boundary
  results : Bytes := []          -- Verify records published at the last seal point
  epoch : Nat := 1               -- epoch at the last boundary
  own : List (Nat × Bytes) := [] -- own digests awaiting comparison, by FN
  peer : List (Nat × Bytes) := []
  from_ : Option Nat := none     -- the first firing that is compared
  due : List (Nat × Nat) := []   -- firings whose peer digest is awaited, and the TT of t0 of the boundary after
  equal : Nat := 0               -- consecutive equal digests (R453)
  join : Option Join := none
  joinY : Nat := 0               -- Y of the last completed join
  failTt : Option Nat := none    -- TT of the last failed join
  xfer : Option Transfer := none
  deriving DecidableEq, Repr


/-! ### The device -/

/-- The device. -/
structure State where
  /-- The commands that wait, first in, first out. -/
  pending : List Instr
  part : Part
  /-- Timebase time TT (R7). -/
  tt : Nat
  /-- Firing number FN (R7). -/
  fn : Nat
  /-- The register file: words that differ from their reset value, by register offset (R461). -/
  regs : List (Nat × Word)
  /-- High words of 64-bit registers latched by a read of the low word (R11), by 2^24 m + offset of the high word. -/
  latched : List (Nat × Word)
  /-- Memory by fabric address (R459): bytes that differ from what an unlisted address reads as. -/
  mem : List Host.Cell
  /-- The stage for the next boundary, in order of staging (R46). -/
  stage : List Staged
  /-- The number of writes and chains staged so far: their order (R44). -/
  stagings : Nat
  /-- The chains that wait for their firing (R47). -/
  chains : List Chain
  /-- Fault occurrences on their way to the FCU, in order (R325). -/
  fcuIn : List FaultIn
  /-- Events of edge sources on their way to the interrupt distributor, in order (R282). -/
  srcIn : List Nat
  kiln : Kiln
  lanes : Vector LaneState 48
  /-- The parts of the required span that no lane covered at the last boundary, by 2 d + surf (R85). -/
  gaps : Vector (List (Int × Int)) 8
  te : Tracks
  ve : Verify
  wheel : Wheel
  outs : Outs
  prot : Prot
  cores : Vector Core 8
  sup : Supervision
  host : HostIf
  /-- Sources pending with no eligible target (R295), ascending. -/
  orphans : List Nat
  /-- By source, the groups whose broadcast pending bit a SETP has set (R284, R289). -/
  swGroups : List (Nat × Nat)
  /-- Register words of type RWL that have been written since their reset (R12), ascending. -/
  locked : List Nat
  /-- The TT to which a counter that timing decides has been brought up, by register offset (R16).
  (DEDUCED, notes/assumptions/73.md) -/
  timing : List (Nat × Nat)
  arch : Archive
  tw : Twin
  sag : Sagger
  /-- SOSC 1 µs ticks counted since power-on (R6). -/
  sosc : Nat
  /-- The part of an SOSC tick that has passed, in thousandths of a KCLK at the nominal rate (R6). -/
  soscPart : Nat
  /-- The counter of free values drawn so far: the model's own field. -/
  draws : Nat
  deriving DecidableEq, Repr

/-- The device right after reset.
(DESIGN CHOICE, notes/assumptions/7.md; DESIGN CHOICE, notes/assumptions/8.md; DESIGN CHOICE,
notes/assumptions/134.md) -/
def State.reset : State :=
  { pending := [], part := .sk7348, tt := 0, fn := 0, regs := [], latched := [], mem := [], stage := [], stagings := 0, chains := [], fcuIn := [], srcIn := [],
    kiln := {}, lanes := Vector.replicate 48 {}, gaps := Vector.replicate 8 [], te := {}, ve := {}, arch := {}, tw := {}, wheel := {}, outs := {}, prot := {}, cores := Vector.replicate 8 {}, sup := {}, host := {}, orphans := [], swGroups := [], locked := [], timing := [], sag := {}, sosc := 0,
    soscPart := 0, draws := 0 }

end Sys2Proof.Machine
end

