-- ==== Sys2Proof/Machine/Regs.lean ====
section
/-! DEFINITION. The register file: the reset value of every register word, and reading and writing words, fields and
64-bit registers. -/

namespace Sys2Proof.Machine

/-! ### The part -/

/-- The number of head lanes (R2). -/
def Part.lanes (p : Part) : Nat :=
  match p with | .sk7348 => 48 | .sk7332 => 32 | .sk7316 => 16

/-- The number of lockstep groups (R2). -/
def Part.groups (p : Part) : Nat :=
  match p with | .sk7348 => 8 | .sk7332 => 6 | .sk7316 => 4

/-- The number of verify tiles (R2). -/
def Part.tiles (p : Part) : Nat :=
  match p with | .sk7348 => 64 | .sk7332 => 48 | .sk7316 => 32

/-- The track capacity (R2). -/
def Part.tracks (p : Part) : Nat :=
  match p with | .sk7316 => 524288 | _ => 1048576

/-- Whether the part has copy C of every group (R2, R5). -/
def Part.copyC (p : Part) : Bool :=
  match p with | .sk7348 => true | _ => false

/-- The archive's user capacity in GB (R2, R463). -/
def Part.archiveGb (p : Part) : Nat :=
  match p with | .sk7348 => 2000 | .sk7332 => 1000 | .sk7316 => 512

/-- The part's code in `CORE_ID.PART` and `DEV_PART` (R235, R463). -/
def Part.code (p : Part) : Nat :=
  match p with | .sk7348 => 0x48 | .sk7332 => 0x32 | .sk7316 => 0x16

/-! ### The register tables -/

/-- Whether a row of a table holds the word at an offset of its instance. -/
def RegRow.covers (r : RegRow) (rel : Nat) : Bool :=
  decide (r.off ≤ rel) && decide ((rel - r.off) / r.stride < r.count) && decide ((rel - r.off) % r.stride < 4 * r.sub)

/-- The row of a block that describes the word at a register offset. -/
def RegBlock.row (b : RegBlock) (off : Nat) : Option RegRow :=
  if b.base ≤ off ∧ off < b.base + b.count * b.stride then
    b.rows.find? (fun r => r.covers ((off - b.base) % b.stride))
  else none

/-- The row that describes the word at a register offset, if a register table lists it. -/
def regRow (off : Nat) : Option RegRow :=
  regBlocks.findSome? (fun b => b.row off)

/-- The reset value of a word as the tables give it. (DESIGN CHOICE, notes/assumptions/50.md) -/
def tableReset (off : Nat) : Nat :=
  match regRow off with
  | some r => r.reset
  | none => 0

/-! ### Reset values that depend on the instance or the part -/

/-- The instance of a repeated register that an offset falls in, if any. -/
def instanceAt (base stride count : Nat) (off : Nat) : Option Nat :=
  if base ≤ off ∧ off < base + stride * count ∧ (off - base) % stride = 0 then some ((off - base) / stride) else none

/-- Whether a source is level-triggered (R282). -/
def srcLevel (s : Nat) : Bool :=
  decide (s < 48) || (decide (64 ≤ s) && decide (s < 96)) || (decide (256 ≤ s) && decide (s < 384))

/-- The reset value of `SRC_CFG` (R282): the TARGET bits of absent groups read 0. -/
def srcCfgReset (p : Part) (s : Nat) : Nat :=
  if 384 ≤ s ∧ s < 392 then 63 + 0x40 + 0x100 + (if s - 384 < p.groups then 2 ^ (16 + (s - 384)) else 0)
  else 1 + (if srcLevel s then 0x80 else 0) + (if s = 48 then 0x200 else 0)

/-- The reset value of `FLT_CFG` (R327, R330, R333). -/
def fltCfgReset (i : Nat) : Nat :=
  match faultRow i with
  | some r => r.react + r.min * 0x10 + i / 8 * 0x100 + 0x80000000
  | none => 0

/-- The reset value of a register word on a part. (DESIGN CHOICE, notes/assumptions/50.md) -/
def regReset (p : Part) (off : Nat) : Word :=
  BitVec.ofNat 32 <|
  match instanceAt (FLT_CFG 0) 0x10 512 off with
  | some i => fltCfgReset i
  | none =>
  match instanceAt 0x300000 0x10 512 off with
  | some s => srcCfgReset p s
  | none =>
  match instanceAt 0x140280 4 16 off with
  | some g => 2 ^ g
  | none =>
  match instanceAt 0x200000 0x10000 8 off with
  | some _ => tableReset off - (if p.copyC then 0 else 1)
  | none =>
  match instanceAt 0x200008 0x10000 8 off with
  | some _ => tableReset off - (if p.copyC then 0 else 4)
  | none =>
  if off = 0x140020 then p.tracks
  else if off = 0x0 then 0x100 + p.code
  else if off = 0x4 then 2 ^ (min 32 p.lanes) - 1
  else if off = 0x8 then 2 ^ (p.lanes - 32) - 1
  else if off = 0xC then 2 ^ p.groups - 1 + (if p.copyC then 0x700 else 0x300)
  else if off = 0x10 then 2 ^ (min 32 p.tiles) - 1
  else if off = 0x14 then 2 ^ (p.tiles - 32) - 1
  else if off = 0x18 then p.tracks
  else if off = 0x1C then p.archiveGb
  else tableReset off

/-! ### Reading and writing -/

/-- A register word. -/
def State.rd (s : State) (off : Nat) : Word :=
  (lookup s.regs off).getD (regReset s.part off)

/-- The state with a register word written. -/
def State.wr (s : State) (off : Nat) (v : Word) : State :=
  { s with regs := setKey s.regs off v (regReset s.part off) }

/-- A field of a register. -/
def State.get (s : State) (f : Fld) : Nat :=
  bitsOf (s.rd f.off).toNat f.lo f.width

/-- The state with a field of a register written. -/
def State.put (s : State) (f : Fld) (v : Nat) : State :=
  s.wr f.off (BitVec.ofNat 32 (withBits (s.rd f.off).toNat f.lo f.width v))

/-- Whether a one-bit field is 1. -/
def State.flag (s : State) (f : Fld) : Bool :=
  s.get f != 0

/-- The state with a one-bit field written. -/
def State.putFlag (s : State) (f : Fld) (b : Bool) : State :=
  s.put f (if b then 1 else 0)

/-- A 64-bit register by the offset of its low word (R11). -/
def State.rd64 (s : State) (off : Nat) : Nat :=
  (s.rd off).toNat + (s.rd (off + 4)).toNat * 2 ^ 32

/-- The state with a 64-bit register written. -/
def State.wr64 (s : State) (off : Nat) (v : Nat) : State :=
  (s.wr off (BitVec.ofNat 32 v)).wr (off + 4) (BitVec.ofNat 32 (v / 2 ^ 32))

/-- A 64-bit register as a signed number. -/
def State.rdInt (s : State) (off : Nat) : Int :=
  signedOf 64 (s.rd64 off)

/-- The state with a 64-bit register written with a signed number. -/
def State.wrInt (s : State) (off : Nat) (v : Int) : State :=
  s.wr64 off (unsignedOf 64 v)

/-- A saturating counter advanced by n (R16). -/
def State.addTo (s : State) (f : Fld) (n : Nat) : State :=
  s.put f (min (s.get f + n) (2 ^ f.width - 1))

/-- A saturating counter advanced by 1 (R16). -/
def State.bump (s : State) (f : Fld) : State :=
  s.addTo f 1

/-- A wrapping counter advanced by 1 (R16). -/
def State.bumpWrap (s : State) (f : Fld) : State :=
  s.put f (s.get f + 1)

/-- A measurement that keeps its highest value. -/
def State.raiseTo (s : State) (f : Fld) (n : Nat) : State :=
  s.put f (max (s.get f) (min n (2 ^ f.width - 1)))

/-- Every register word of a range of offsets at its reset value (R14). -/
def State.resetRange (s : State) (lo hi : Nat) : State :=
  { s with regs := s.regs.filter (fun e => decide (e.1 < lo) || decide (hi ≤ e.1)) }

end Sys2Proof.Machine
end

