-- ==== Sys2Proof/Machine/Ops.lean ====
section
/-! DEFINITION. The operations that every subsystem shares: faults and interrupt events on their way, memory, free
values, and updates of one element of a subsystem's state. -/

namespace Sys2Proof.Machine

/-! ### Faults and interrupt events -/

/-- A fault occurrence sent to the FCU by its detector (R325).
(DEDUCED, notes/assumptions/36.md; DEDUCED, notes/assumptions/83.md) -/
def State.raise (s : State) (id : Nat) (detail : Nat) : State :=
  { s with fcuIn := s.fcuIn ++ [⟨id, detail % 2 ^ 32, false, 0, s.tt⟩] }

/-- A number drawn from the counter of free values; the next draw has another.
(DESIGN CHOICE, notes/assumptions/10.md) -/
def State.draw (s : State) : Nat × State :=
  (s.draws, { s with draws := s.draws + 1 })

/-- An event of an edge source sent to the interrupt distributor (R282, R284). -/
def State.raiseSrc (s : State) (src : Nat) : State :=
  { s with srcIn := s.srcIn ++ [src] }

/-- A state transformer applied where a condition holds. -/
def State.when (s : State) (c : Bool) (f : State → State) : State :=
  if c then f s else s

/-- A state transformer applied for every element of a list, in order. -/
def State.each {α : Type} (s : State) (l : List α) (f : State → α → State) : State :=
  l.foldl f s

/-! ### One element of a subsystem -/

/-- An encoder's state replaced by its image. -/
def State.onEnc (s : State) (n : Enc) (f : EncState → EncState) : State :=
  { s with kiln := { s.kiln with enc := alter s.kiln.enc n f } }

/-- A domain's state replaced by its image. -/
def State.onDom (s : State) (d : Dom) (f : DomState → DomState) : State :=
  { s with kiln := { s.kiln with dom := alter s.kiln.dom d f } }

/-- The kiln's state replaced by its image. -/
def State.onKiln (s : State) (f : Kiln → Kiln) : State :=
  { s with kiln := f s.kiln }

/-- The wheel's state replaced by its image. -/
def State.onWheel (s : State) (f : Wheel → Wheel) : State :=
  { s with wheel := f s.wheel }

/-- The archive's state replaced by its image. -/
def State.onArch (s : State) (f : Archive → Archive) : State :=
  { s with arch := f s.arch }

/-- A group's state replaced by its image. -/
def State.onCore (s : State) (g : Group) (f : Core → Core) : State :=
  { s with cores := alter s.cores g f }

/-- A lane's state replaced by its image. -/
def State.onLane (s : State) (n : Lane) (f : LaneState → LaneState) : State :=
  { s with lanes := alter s.lanes n f }

/-- The host interface's state replaced by its image. -/
def State.onHost (s : State) (f : HostIf → HostIf) : State :=
  { s with host := f s.host }

/-- The sagger's state replaced by its image. -/
def State.onSag (s : State) (f : Sagger → Sagger) : State :=
  { s with sag := f s.sag }

/-- The Track Engine's state replaced by its image. -/
def State.onTe (s : State) (f : Tracks → Tracks) : State :=
  { s with te := f s.te }

/-- The twin link's state replaced by its image. -/
def State.onTw (s : State) (f : Twin → Twin) : State :=
  { s with tw := f s.tw }

/-- The Verify Engine's state replaced by its image. -/
def State.onVe (s : State) (f : Verify → Verify) : State :=
  { s with ve := f s.ve }

/-- The outputs' state replaced by its image. -/
def State.onOuts (s : State) (f : Outs → Outs) : State :=
  { s with outs := f s.outs }

/-- The state of the memories' guards replaced by its image. -/
def State.onProt (s : State) (f : Prot → Prot) : State :=
  { s with prot := f s.prot }

/-- The supervision's state replaced by its image. -/
def State.onSup (s : State) (f : Supervision → Supervision) : State :=
  { s with sup := f s.sup }

/-- A channel's state replaced by its image. -/
def State.onChan (s : State) (n : Chan) (f : ChanState → ChanState) : State :=
  s.onOuts (fun x => { x with chan := alter s.outs.chan n f })

/-! ### Memory (R459) -/

/-- What a byte of memory that nothing has written reads as: an erased byte of code flash (R386), zero elsewhere.
(DESIGN CHOICE, notes/assumptions/3.md) -/
def memDefault (a : Nat) : Byte :=
  if a < 0x4000000 then 0xFF else 0

/-- The byte at a fabric address. (DESIGN CHOICE, notes/assumptions/3.md) -/
def byteAt (m : List Host.Cell) (a : Nat) : Byte :=
  (lookup m a).getD (memDefault a)

/-- The memory with a byte written. -/
def setByteAt (m : List Host.Cell) (a : Nat) (v : Byte) : List Host.Cell :=
  setKey m a v (memDefault a)

/-- The canonical form of memory: addresses rise strictly, and no entry equals what an unlisted address reads as. -/
def Memory.wf (m : List Host.Cell) : Bool :=
  keysRise m && m.all (fun c => decide (c.2 ≠ memDefault c.1))

/-- The memory with a run of bytes written from an address on. -/
def setBytesAt (m : List Host.Cell) (a : Nat) (b : Bytes) : List Host.Cell :=
  match b with
  | [] => m
  | x :: r => setBytesAt (setByteAt m a x) (a + 1) r

/-- A run of bytes from an address on. -/
def bytesAt (m : List Host.Cell) (a n : Nat) : Bytes :=
  (List.range n).map (fun i => byteAt m (a + i))

/-- The bytes of memory from an address on. -/
def State.bytes (s : State) (a n : Nat) : Bytes :=
  bytesAt s.mem a n

/-- The little-endian number of n bytes of memory. -/
def State.num (s : State) (a n : Nat) : Nat :=
  leNat (s.bytes a n)

/-- The state with a run of bytes written to memory. -/
def State.setBytes (s : State) (a : Nat) (b : Bytes) : State :=
  { s with mem := setBytesAt s.mem a b }

/-- Memory without the bytes of a range (they read as unlisted again). -/
def State.dropBytes (s : State) (lo hi : Nat) : State :=
  { s with mem := s.mem.filter (fun c => decide (c.1 < lo) || decide (hi ≤ c.1)) }

/-- The fabric address of the SSP (R459). -/
def sspBase : Nat := 0x20000000
/-- The size of the SSP: 16 MiB. -/
def sspSize : Nat := 0x1000000
/-- The fabric address of usable HBM (R382, R459). -/
def hbmBase : Nat := 0x1000000000
/-- The end of usable HBM: 28 GiB. -/
def hbmEnd : Nat := 0x1700000000
/-- The fabric address of a group's ISP (R459). -/
def ispBase (g : Nat) : Nat := 0x10000000 + g * 0x100000
/-- The fabric address of a group's DSP (R459). -/
def dspBase (g : Nat) : Nat := 0x10040000 + g * 0x100000
/-- The size of an ISP and of a DSP: 256 KiB. -/
def spSize : Nat := 0x40000
/-- The fabric address of a tile's SRAM (R459). -/
def tileBase (t : Nat) : Nat := 0x50000000 + t * 0x40000

/-- Whether a run of bytes lies in the SSP. -/
def inSsp (a n : Nat) : Bool :=
  decide (sspBase ≤ a) && decide (a + n ≤ sspBase + sspSize)

/-- Whether a run of bytes lies in usable HBM. -/
def inHbm (a n : Nat) : Bool :=
  decide (hbmBase ≤ a) && decide (a + n ≤ hbmEnd)

/-! ### Time -/

/-- One millisecond in KCLK. -/
def msKclk : Nat := 1250000
/-- One microsecond in KCLK. -/
def usKclk : Nat := 1250
/-- One second in KCLK. -/
def sKclk : Nat := 1250000000

/-! ### Indices -/

/-- Every index below n. -/
def allFin (n : Nat) : List (Fin n) :=
  List.finRange n

/-- An index modulo n. -/
def toIx (n : Nat) [NeZero n] (k : Nat) : Fin n :=
  Fin.ofNat n k

end Sys2Proof.Machine
end

