-- ==== Sys2Proof/Machine/Engine.lean ====
section
/-! DEFINITION. The requests of the sagger's engines and the order in which they are served (R420). -/

namespace Sys2Proof.Machine

/-- The class of a request (R420). -/
def SagReq.rank (r : SagReq) : Nat :=
  match r with
  | .blob => 1
  | .kload => 2
  | .head _ => 3
  | .debug => 4
  | .image => 5
  | .ver => 5
  | .attest => 6

/-- The requests that are outstanding. (DESIGN CHOICE, notes/assumptions/126.md) -/
def State.sagWants (s : State) : List SagReq :=
  let is (b : Bool) (r : SagReq) : List SagReq := if b then [r] else []
  is (match s.host.staging with | c :: _ => c.blob | [] => false) .blob ++ is s.ve.kload.isSome .kload
    ++ ((allFin 48).filter (fun n => match (s.lanes.get n).chal with | some c => c.resp.isSome | none => false)).map SagReq.head
    ++ is s.sag.dbg.isSome .debug ++ List.replicate s.host.checks.length .image ++ is s.sag.ver.isSome .ver
    ++ is s.host.attest.isSome .attest

/-- A request that arrives: the one that runs is not displaced, and those of its class or a higher one that wait come
first. (DESIGN CHOICE, notes/assumptions/126.md) -/
def queueSag (l : List SagReq) (r : SagReq) : List SagReq :=
  match l with
  | [] => [r]
  | run :: wait => run :: (wait.filter (fun x => decide (x.rank ≤ r.rank)) ++ r :: wait.filter (fun x => decide (r.rank < x.rank)))

/-- The engines' queue brought in line with the requests outstanding: those given up leave it, new ones join it.
(DESIGN CHOICE, notes/assumptions/126.md) -/
def State.syncEngine (s : State) : State :=
  let wants := s.sagWants
  let lacks (l : List SagReq) (r : SagReq) : Bool := decide (l.count r < wants.count r)
  let kept := s.sag.engine.foldl (fun l r => if lacks l r then l ++ [r] else l) []
  s.onSag (fun x => { x with engine := wants.foldl (fun l r => if lacks l r then queueSag l r else l) kept })

/-- The state in which a request leaves the engines, if it is the one that runs (R420): requests run to completion, one
at a time. (DESIGN CHOICE, notes/assumptions/126.md) -/
def State.served (s : State) (r : SagReq) : Option State :=
  let t := s.syncEngine
  if t.sag.engine.head? = some r then some (t.onSag (fun x => { x with engine := x.engine.tail })) else none

end Sys2Proof.Machine
end

