-- ==== Sys2Proof/Machine/Outputs.lean ====
section
/-! DEFINITION. The output channels PEO[0–31] and the SAFE_STOP pins: drive, holding, pulses and mode changes as they
reach the outputs (R165 to R174, R335, R434, R435). -/

namespace Sys2Proof.Machine

/-! ### Modes -/

/-- The mode codes of R434. -/
def modeBisque : Nat := 0
def modeGlost : Nat := 1
def modeStandby : Nat := 2
def modeRun : Nat := 3
def modeDegraded : Nat := 4
def modeMaintenance : Nat := 5
def modeSafe : Nat := 6
def modeLockdown : Nat := 7

/-- The mode the device is in (R434). -/
def State.mode (s : State) : Nat :=
  s.get PM_MODE_MODE

/-- Whether both SSC DEV-SAFE latches are set (R335). -/
def State.devSafe (s : State) : Bool :=
  s.flag SSC_STAT_DEV_X && s.flag SSC_STAT_DEV_Y

/-- Whether the LSG-SAFE latch of a group is set (R335). -/
def State.groupHeld (s : State) (g : Nat) : Bool :=
  (s.get SSC_STAT_GHOLD).testBit g

/-! ### Drive -/

/-- The channel's safe logical level (R167). -/
def State.safeVal (s : State) (n : Chan) : Bool :=
  s.flag (PEO_CFG_SAFEVAL n)

/-- Whether a channel is held by the mode, its owner's LSG-SAFE latch or the DEV-SAFE latches (R169). -/
def State.holdCause (s : State) (n : Chan) : Bool :=
  (s.mode != modeRun && s.mode != modeDegraded) || s.groupHeld (s.get (PEO_CFG_OWNER n)) || s.devSafe

/-- The channel's logical state L (R165). -/
def State.logic (s : State) (n : Chan) : Bool :=
  s.flag (PEO_STAT_LOGIC n)

/-- The levels of the channel's pins A and B (R167, R169, R171, R335); without VDD_IO those of the board's pulls (R442).
-/
def State.pinLevels (s : State) (n : Chan) : Bool × Bool :=
  let safe := s.safeVal n
  let lvl := if s.holdCause n || (s.outs.chan.get n).test.isSome then safe else s.logic n
  let a := if s.flag SSC_STAT_DEV_X then safe else lvl
  let b := if s.flag SSC_STAT_DEV_Y then safe else lvl
  if s.outs.ioLost then (false, true) else (a, b != s.flag (PEO_CFG_B_ANTI n))

/-- The pins of a channel brought to their levels; a change is stamped with the TT of the output register (R164). -/
def State.syncChan (s : State) (n : Chan) (at_ : Nat) : State :=
  let p := s.pinLevels n
  let s := s.putFlag (PEO_STAT_PULSING n) (s.outs.chan.get n).pulse.isSome
  if p = (s.flag (PEO_STAT_DRV_A n), s.flag (PEO_STAT_DRV_B n)) then s
  else ((s.putFlag (PEO_STAT_DRV_A n) p.1).putFlag (PEO_STAT_DRV_B n) p.2).wr64 (PEO_LAST_TT n) at_

/-- L of a channel set; a change restarts the time of the off-pulse test (R171). -/
def State.setLogic (s : State) (n : Chan) (l : Bool) (at_ : Nat) : State :=
  if s.logic n = l then s
  else (s.putFlag (PEO_STAT_LOGIC n) l).onChan n (fun c => { c with since := at_ })

/-- The off-pulse test of a channel abandoned, to be repeated after PER (R172). -/
def State.dropTest (s : State) (n : Chan) : State :=
  if (s.outs.chan.get n).test.isSome then s.onChan n (fun c => { c with test := none, since := s.tt }) else s

/-- A running pulse of a channel ended, with L at the safe level (R165, R166). -/
def State.endPulse (s : State) (n : Chan) (at_ : Nat) : State :=
  if (s.outs.chan.get n).pulse.isSome then
    (s.onChan n (fun c => { c with pulse := none })).setLogic n (s.safeVal n) at_
  else s

/-- A channel brought in line with its causes of holding and its configuration (R165, R169).
(DESIGN CHOICE, notes/assumptions/62.md) -/
def State.refreshChan (s : State) (n : Chan) : State :=
  let held := s.holdCause n
  let off := s.get (PEO_CFG_MODE n) = 0
  let changed := held != s.flag (PEO_STAT_HELD n)
  let s1 :=
    if changed || off then
      (((s.dropTest n).onChan n (fun c => { c with pulse := none })).setLogic n (s.safeVal n) s.tt)
    else if held then s.setLogic n (s.safeVal n) s.tt
    else s
  let s2 := if changed then s1.onChan n (fun c => { c with since := s.tt }) else s1
  let map := s2.get EW_HOLD_STAT_MAP
  ((s2.putFlag (PEO_STAT_HELD n) held).put EW_HOLD_STAT_MAP (withBits map n.val 1 (if held then 1 else 0))).syncChan n s.tt

/-- The SAFE_STOP pins brought to their levels; a change raises SRC[106] (R174, R335). -/
def State.refreshStop (s : State) : State :=
  let run := decide (2 ≤ s.mode) && decide (s.mode ≤ 5) && !s.outs.ioLost
  let x := run && !s.flag SSC_STAT_DEV_X
  let y := run && !s.flag SSC_STAT_DEV_Y
  if (x, y) = (s.flag EW_SSTOP_STAT_DRV0, s.flag EW_SSTOP_STAT_DRV1) then s
  else (((s.putFlag EW_SSTOP_STAT_DRV0 x).putFlag EW_SSTOP_STAT_DRV1 y).onOuts (fun o => { o with stopTt := s.tt })).raiseSrc 106

/-- Every channel and both SAFE_STOP pins brought in line with the mode and the SSC latches. -/
def State.refreshOuts (s : State) : State :=
  (s.each (allFin 32) State.refreshChan).refreshStop

/-! ### Modes as they change -/

/-- The intrusive test abandoned (R337, R435). (DEDUCED, notes/assumptions/85.md) -/
def State.abandonTest (s : State) : State :=
  match s.outs.itest with
  | some t => (s.onOuts (fun x => { x with itest := some { t with abandoned := true } })).putFlag SSC_STAT_ITEST_PASS false
  | none => s

/-- The device enters a mode (R434, R435): an intrusive test that runs is abandoned where MAINTENANCE is left (R337);
`PM_MODE`, its counter and FN, and the outputs follow; a twin owes its peer a message on SAFE and LOCKDOWN (R452, R454).
(DEDUCED, notes/assumptions/120.md) -/
def State.enterMode (s : State) (m : Nat) : State :=
  if s.mode = m then s
  else
    let s0 := s.when (s.mode == modeMaintenance) State.abandonTest
    let s1 := ((((s0.put PM_MODE_PREV s.mode).put PM_MODE_MODE m).wr64 PM_MODE_FN s.fn).bump PM_MODE_CNT_CNT).refreshOuts
    if modeSafe ≤ m then s1.onTw (fun x => { x with owed := true }) else s1

/-- A cause of DEGRADED that arises: its bit is set, and RUN becomes DEGRADED (R435, R436). -/
def State.degrade (s : State) (bit : Nat) : State :=
  let s1 := s.put PM_MODE_DEGR (withBits (s.get PM_MODE_DEGR) bit 1 1)
  if s1.mode = modeRun then s1.enterMode modeDegraded else s1

/-- A cause of DEGRADED withdrawn (R436); the mode changes at the next boundary. -/
def State.undegrade (s : State) (bit : Nat) : State :=
  s.put PM_MODE_DEGR (withBits (s.get PM_MODE_DEGR) bit 1 0)

/-- A cause of DEGRADED brought in line with a condition. -/
def State.degradeWhen (s : State) (bit : Nat) (c : Bool) : State :=
  if c then s.degrade bit else s.undegrade bit

/-- The first boundary at which no cause of DEGRADED holds returns the device to RUN (R435).
(DEDUCED, notes/assumptions/117.md) -/
def State.degradedExit (s : State) : State :=
  if s.mode = modeDegraded ∧ s.get PM_MODE_DEGR = 0 then s.enterMode modeRun else s

/-! ### Readback -/

/-- A readback mismatch of a channel (R170, R175). -/
def State.mismatch (s : State) (n : Chan) : State :=
  let s1 := ((s.putFlag (PEO_STAT_RB_ERR n) true).bump (PEO_RB_ERR_CNT_CNT n)).putFlag (PEO_ISR_RB_ERR n) true
  s1.raise (if s.flag (PEO_CFG_SAFETY n) then F_PEO_RB_SAFETY else F_PEO_RB_MISMATCH) n

/-- The levels expected on the readback pins (R170). -/
def State.expectRb (s : State) (n : Chan) : Bool × Bool :=
  let inv := s.flag (PEO_CFG_RB_INV n)
  (s.flag (PEO_STAT_DRV_A n) != inv, s.flag (PEO_STAT_DRV_B n) != inv)

/-- The levels of PEI[n]_A and PEI[n]_B as sampled (R170). -/
def State.samplePei (s : State) (n : Chan) (a b : Bool) : State :=
  (s.putFlag (PEO_STAT_RB_A n) a).putFlag (PEO_STAT_RB_B n) b

/-- `READBACK_MISMATCH` (R170): a readback level that has differed for `PEO_RB_FILT` KCLK from a drive steady for
`PEO_RB_DLY` before that. -/
def execReadbackMismatch (n : Chan) (a b : Bool) (s : State) : Host.Outcome State Fault Refusal :=
  let s1 := s.samplePei n a b
  let due := s.rd64 (PEO_LAST_TT n) + s.get (PEO_RB_DLY_KCLK n) + s.get (PEO_RB_FILT_KCLK n)
  .next (if s.flag (PEO_CFG_RB_EN n) && decide (due ≤ s.tt) && decide ((a, b) ≠ s.expectRb n) then s1.mismatch n else s1)

/-- `OFF_PULSE_TEST` (R171, R172): a test falls due. -/
def execOffPulseTest (n : Chan) (s : State) : Host.Outcome State Fault Refusal :=
  let c := s.outs.chan.get n
  let due := c.since + s.get (PEO_TEST_CFG_PER n) * msKclk
  .next (if s.flag (PEO_CFG_TEST_EN n) && s.get (PEO_CFG_MODE n) != 0 && !s.holdCause n && c.test.isNone
        && c.pulse.isNone && s.logic n != s.safeVal n && decide (due ≤ s.tt) then
      (s.onChan n (fun c => { c with test := some s.tt })).syncChan n s.tt
    else s)

/-- `OFF_PULSE_TEST_END` (R171): after W KCLK the test passes if each readback shows its expected safe value; L is
restored. -/
def execOffPulseTestEnd (n : Chan) (a b : Bool) (s : State) : Host.Outcome State Fault Refusal :=
  .next (match (s.outs.chan.get n).test with
    | none => s
    | some t0 =>
      if t0 + s.get (PEO_TEST_CFG_W n) ≤ s.tt then
        let s1 := s.samplePei n a b
        let s2 := if (a, b) = s.expectRb n then s1.bump (PEO_TEST_CNT_CNT n)
          else ((s1.mismatch n).putFlag (PEO_STAT_TEST_ERR n) true).putFlag (PEO_ISR_TEST_ERR n) true
        (s2.onChan n (fun c => { c with test := none, since := s.tt })).syncChan n s.tt
      else s)

/-- `SAFE_STOP_FB` (R174): a feedback pin that has differed from its SAFE_STOP pin for longer than `FB_DLY` ms.
(DEDUCED, notes/assumptions/36.md) -/
def execSafeStopFb (k : Fin 2) (level : Bool) (s : State) : Host.Outcome State Fault Refusal :=
  let drv := if k.val = 0 then s.flag EW_SSTOP_STAT_DRV0 else s.flag EW_SSTOP_STAT_DRV1
  let s1 := s.putFlag (if k.val = 0 then EW_SSTOP_STAT_FB0 else EW_SSTOP_STAT_FB1) level
  let due := s.outs.stopTt + s.get EW_SSTOP_CFG_FB_DLY * msKclk
  .next (if s.flag EW_SSTOP_CFG_FB_EN && level != drv && decide (due < s.tt) then
      ((s1.putFlag EW_SSTOP_STAT_FB_ERR true).raise F_SAFE_STOP_FB k).raiseSrc 107
    else s1)

/-! ### Pulses -/

/-- `TIME_PULSE_END` (R165, R166): a pulse timed in KCLK ends. -/
def execTimePulseEnd (n : Chan) (s : State) : Host.Outcome State Fault Refusal :=
  .next (match (s.outs.chan.get n).pulse with
    | some (.time e) => if e ≤ s.tt then (s.endPulse n e).syncChan n e else s
    | _ => s)

/-- `PEO_PULSE_MAX` (R166): a position pulse reaches `PEO_PMAX`. (DESIGN CHOICE, notes/assumptions/62.md) -/
def execPeoPulseMax (n : Chan) (s : State) : Host.Outcome State Fault Refusal :=
  .next (match (s.outs.chan.get n).pulse with
    | some (.pos _ _ (some e)) =>
      if e ≤ s.tt then
        ((((s.endPulse n e).syncChan n e).putFlag (PEO_STAT_PMAX_END n) true).putFlag (PEO_ISR_PMAX n) true).raise
          F_PEO_PULSE_MAX n
      else s
    | _ => s)

/-- Whether a pulse end is later than another (R166); `free` where they are in different measures. -/
def Pulse.later (free : Bool) (old new : Pulse) : Bool :=
  match old, new with
  | .time a, .time b => decide (a ≤ b)
  | .pos a true _, .pos b true _ => decide (a ≤ b)
  | .pos a false _, .pos b false _ => decide (b ≤ a)
  | _, _ => free

/-- The later of two times at which a position pulse is capped; no cap is later than any (R166).
(DESIGN CHOICE, notes/assumptions/62.md) -/
def laterCap (a b : Option Nat) : Option Nat :=
  match a, b with
  | some x, some y => some (max x y)
  | _, _ => none

/-- The pulse that runs after another PULSE: its end is the later of the two (R159, R166).
(DESIGN CHOICE, notes/assumptions/62.md) -/
def Pulse.join (free : Bool) (old new : Pulse) : Pulse :=
  match old, new with
  | .pos a u x, .pos b v y => if Pulse.later free (.pos a u x) (.pos b v y) then .pos b v (laterCap x y) else .pos a u (laterCap x y)
  | o, n => if Pulse.later free o n then n else o

/-- A PULSE starts or extends the channel's pulse (R165, R166). (DESIGN CHOICE, notes/assumptions/62.md) -/
def State.startPulse (s : State) (n : Chan) (p : Pulse) (at_ : Nat) : State :=
  let (k, s) := s.draw
  let q := match (s.outs.chan.get n).pulse with
    | some o => Pulse.join (Config.openUp k) o p
    | none => p
  (s.onChan n (fun c => { c with pulse := some q })).setLogic n (!s.safeVal n) at_

/-- A channel on which events have acted in one KCLK (R159): the pins take the result, and where L is as it was in
`old`, it has not changed (R171). -/
def State.settleChan (s old : State) (n : Chan) (at_ : Nat) : State :=
  let since := if (old.outs.chan.get n).test.isSome then s.tt else (old.outs.chan.get n).since
  let same := s.logic n == old.logic n && !s.holdCause n
  (s.when same (fun s => s.onChan n (fun c => { c with since := since }))).syncChan n at_

/-- An event acts on its channel's state (R165, R166, R169): the state after it, and whether the channel was held.
(DESIGN CHOICE, notes/assumptions/62.md) -/
def State.actOn (s : State) (e : Event) (up : Bool) (at_ : Nat) : State × Bool :=
  let n := e.ch
  let s0 := (s.bump (PEO_FIRE_CNT_CNT n)).putFlag (PEO_ISR_FIRED n) true
  if s.holdCause n then (s0, true)
  else
    let s1 := s0.dropTest n
    let w := if e.width = 0 then s1.get (PEO_PULSE_WIDTH n) else e.width
    let s2 :=
      match e.action with
      | 0 => s1.setLogic n true at_
      | 1 => (s1.onChan n (fun c => { c with pulse := none })).setLogic n false at_
      | 2 =>
        if s1.get (PEO_CFG_MODE n) = 3 then
          let pmax := s1.get (PEO_PMAX_KCLK n)
          s1.startPulse n (.pos (if up then e.cmp + w else e.cmp - w) up (if pmax = 0 then none else some (at_ + pmax))) at_
        else s1.startPulse n (.time (at_ + w)) at_
      | _ => s1.setLogic n (!s1.logic n) at_
    (s2, false)

end Sys2Proof.Machine
end

