-- ==== Sys2Proof/Machine/Position.lean ====
section
/-! DEFINITION. Positions and times: velocity (R30), interpolation (R22), time to position and position to time (R31 to
R33). -/

namespace Sys2Proof.Machine

/-- One PV in the fraction of an exact position. -/
def q24 : Nat := 16777216

/-- A domain of the kiln. -/
def State.dom (s : State) (d : Dom) : DomState :=
  s.kiln.dom.get d

/-- Whether a domain is enabled (R24). -/
def State.domOn (s : State) (d : Dom) : Bool :=
  s.flag (DOM_CFG_EN d)

/-- The history entries of the last 1 s, newest first (R30). -/
def State.recentHist (s : State) (d : Dom) : List (Nat × Int) :=
  (s.dom d).hist.takeWhile (fun e => decide (s.tt < e.1 + sKclk))

/-- Every fourth entry of a history after its first: where whole quadrature cycles before the latest edge began. -/
def cycleStarts (h : List (Nat × Int)) : List (Nat × Int) :=
  match h with
  | _ :: _ :: _ :: _ :: e :: r => e :: cycleStarts (e :: r)
  | _ => []

/-- The cycle start of the most recent span at least `vwin` long, or of the longest span there is (R30). -/
def spanStart (t0 vwin : Nat) (l : List (Nat × Int)) : Option (Nat × Int) :=
  match l with
  | [] => none
  | [e] => some e
  | e :: r => if vwin ≤ t0 - e.1 then some e else spanStart t0 vwin r

/-- The velocity `DOM_VEL` in 1/2^24 PV per KCLK, and the span W it is measured over (R30); a tie of the rounding goes
away from zero (DEDUCED, notes/assumptions/11.md) -/
def State.velocity (s : State) (d : Dom) : Int × Nat :=
  match s.recentHist d with
  | [] => (0, 0)
  | h :: r =>
    match spanStart h.1 (s.get (DOM_VWIN_KCLK d)) ((cycleStarts (h :: r)).take 1024) with
    | none => (0, 0)
    | some e => if h.1 ≤ e.1 then (0, 0) else (divNearest ((h.2 - e.2) * q24) (h.1 - e.1), h.1 - e.1)

/-- The ends of the PV range (R7, R24). -/
def satPv (v : Int) : Int :=
  max (-(2 ^ 63)) (min (2 ^ 63 - 1) v)

/-- An exact position rounded to the nearest PV (R484). -/
def roundPos (p : Int) : Int :=
  divNearest p q24

/-- The limit of the extension of R22, in 1/2^24 PV. (DEDUCED, notes/assumptions/15.md) -/
def State.extLimit (s : State) (d : Dom) : Int :=
  if s.flag (DOM_STAT_ON_CHECK d) then max 0 (256 * (s.get (DOM_CHK_RATIO_RATIO d) : Int) - q24) / q24 * q24
  else 255 * q24

/-- The extension of R22 after `dt` KCLK, in 1/2^24 PV, clamped. (DEDUCED, notes/assumptions/15.md) -/
def State.extension (s : State) (d : Dom) (dt : Nat) : Int :=
  let lim := s.extLimit d
  max (-lim) (min lim ((s.velocity d).1 * dt))

/-- The live position of a domain, PV (R22, R24). -/
def State.pv (s : State) (d : Dom) : Int :=
  let c := s.dom d
  match c.ett with
  | some t => if s.domOn d then satPv (roundPos (c.pos + s.extension d (s.tt - t))) else satPv (roundPos c.pos)
  | none => satPv (roundPos c.pos)

/-- The whole-count position of a domain, which accepted edges move (R153). -/
def State.count (s : State) (d : Dom) : Int :=
  (s.dom d).whole

/-- The bound E_P of R31 in PV for a velocity. -/
def State.boundP (s : State) (d : Dom) (v : Int) : Nat :=
  divUp (v.natAbs * 2 + (s.get (DOM_PHERR_PV d) + 1) * q24) q24

/-- The result of a conversion (R32, R33): the code, OUT and ERR. -/
structure Cvt where
  code : Nat
  out : Int
  err : Nat
  deriving DecidableEq, Repr

/-- The history searched for the two entries that bracket a TT: `later` is the entry after those still to be searched. -/
def bracket (tt : Nat) (later : Nat × Int) (l : List (Nat × Int)) : Option Int :=
  match l with
  | [] => none
  | e :: r =>
    if e.1 ≤ tt then
      if e.1 = tt then some e.2
      else some (divNearest (e.2 * ((later.1 - e.1 : Nat) : Int) + (later.2 - e.2) * ((tt - e.1 : Nat) : Int)) (later.1 - e.1))
    else bracket tt e r

/-- Time to position (R31, R32). -/
def State.t2p (s : State) (d : Dom) (tt : Nat) : Cvt :=
  let v := (s.velocity d).1
  let ep := s.boundP d v
  if s.tt < tt then ⟨3, 0, 0⟩
  else match (s.dom d).hist with
  | [] => if (s.dom d).origin ≤ tt then ⟨1, s.pv d, s.get (DOM_PHERR_PV d) + 1⟩ else ⟨2, 0, 0⟩
  | h :: r =>
    if h.1 < tt then
      ⟨1, satPv (roundPos (h.2 * q24 + s.extension d (tt - h.1))),
        min (divUp (ep * q24 + v.natAbs * (tt - h.1)) q24) 256⟩
    else if h.1 = tt then ⟨0, h.2, ep⟩
    else match bracket tt h r with
    | some p => ⟨0, p, ep⟩
    | none => ⟨2, 0, 0⟩

/-- One second in KCLK, squared. -/
def kclkPerS2 : Nat := 1562500000000000000

/-- The bound E_T of R33 in whole KCLK, rounded up, for a lead, a span and a velocity in 1/2^24 PV per KCLK. -/
def boundT (amax l w v : Nat) : Nat :=
  divUp (4 * l * v * kclkPerS2 + amax * 256 * (l + w) ^ 2 * q24 * w) (2 * v * w * kclkPerS2)

/-- Position to time (R33). -/
def State.p2t (s : State) (d : Dom) (target : Int) : Cvt :=
  let (v, w) := s.velocity d
  match (s.dom d).hist with
  | [] => ⟨4, 0, 0⟩
  | h :: _ =>
    if v = 0 then ⟨4, 0, 0⟩
    else if (0 < v ∧ target ≤ s.pv d) ∨ (v < 0 ∧ s.pv d ≤ target) then ⟨5, 0, 0⟩
    else
      let t := divNearest ((h.1 : Int) * v.natAbs + (target - h.2) * q24 * v.sign) v.natAbs
      ⟨0, t, boundT (s.get (DOM_AMAX_CS2 d)) (t - s.tt).toNat w v.natAbs⟩

end Sys2Proof.Machine
end

