-- ==== Sys2Proof/Machine/Lattice.lean ====
section
/-! DEFINITION. The memories and the lattice code: what every read and write of a word does (R299 to R309, R384). -/

namespace Sys2Proof.Machine

/-! ### The memories (R299) -/

/-- The delta pool and the wheel store have no fabric address: the model holds their words above the fabric's
addresses. -/
def poolBase : Nat := 0x10000000000
def wheelBase : Nat := 0x10001000000
/-- RETAINED as a memory: its words are the registers of the block (R14, R299). -/
def retBase : Nat := 0x40910000
/-- The Track SRAM view (R459), where the model holds the track store. -/
def trackBase : Nat := 0x30000000

/-- The size of the memory with an index, in bytes; none for a reserved index (R299). -/
def memSize (p : Part) (i : Nat) : Option Nat :=
  if i = 0 then some 0x1000000
  else if i = 1 then some (p.tracks * 32)
  else if i = 2 ∨ i = 3 then some 0x400000
  else if i = 4 then some 0x1000
  else if 8 ≤ i ∧ i < 8 + p.groups then some 0x40000
  else if 16 ≤ i ∧ i < 16 + p.groups then some 0x40000
  else if 32 ≤ i ∧ i < 32 + p.tiles then some 0x40000
  else none

/-- The address of the first byte of the memory with an index. -/
def memBase (i : Nat) : Nat :=
  if i = 0 then sspBase
  else if i = 1 then trackBase
  else if i = 2 then poolBase
  else if i = 3 then wheelBase
  else if i = 4 then retBase
  else if i < 16 then ispBase (i - 8)
  else if i < 32 then dspBase (i - 16)
  else tileBase (i - 32)

/-- The index of the memory that holds an address, if it is one of R299. -/
def memAt (a : Nat) : Option Nat :=
  if sspBase ≤ a ∧ a < sspBase + sspSize then some 0
  else if trackBase ≤ a ∧ a < trackBase + 0x2000000 then some 1
  else if poolBase ≤ a ∧ a < poolBase + 0x400000 then some 2
  else if wheelBase ≤ a ∧ a < wheelBase + 0x400000 then some 3
  else if retBase ≤ a ∧ a < retBase + 0x1000 then some 4
  else if 0x10000000 ≤ a ∧ a < 0x10800000 then
    let g := (a - 0x10000000) / 0x100000
    let r := (a - 0x10000000) % 0x100000
    if r < 0x40000 then some (8 + g) else if r < 0x80000 then some (16 + g) else none
  else if 0x50000000 ≤ a ∧ a < 0x51000000 then some (32 + (a - 0x50000000) / 0x40000)
  else none

/-- The fault of a memory's uncorrectable words (R323), where the memory has one. -/
def memFault (i : Nat) : Option Nat :=
  if i = 0 then some F_LAT_UNC_SSP
  else if i = 1 then some F_LAT_UNC_TRACK
  else if i = 2 then some F_LAT_UNC_POOL
  else if i = 4 then some F_LAT_UNC_RET
  else if 8 ≤ i ∧ i < 32 then some F_LAT_UNC_GRP
  else none

/-! ### The lattice code (R304, R305) -/

/-- The parity of a list of bits. -/
def parity (l : List Bool) : Bool :=
  l.foldl (fun a b => a != b) false

/-- The 16 check bits of a word: the row parities, then the column parities (R304). -/
def latEncode (d : DWord) : BitVec 16 :=
  let row (r : Nat) := parity ((List.range 8).map (fun c => d.toNat.testBit (8 * r + c)))
  let col (c : Nat) := parity ((List.range 8).map (fun r => d.toNat.testBit (8 * r + c)))
  let bit (i : Nat) : Bool := if i < 8 then row i else col (i - 8)
  BitVec.ofNat 16 ((List.range 16).foldl (fun a i => a + (if bit i then 2 ^ i else 0)) 0)

/-- The number of 1 bits among the low n bits of a number. -/
def onesBelow (n v : Nat) : Nat :=
  ((List.range n).filter (fun i => v.testBit i)).length

/-- What a read finds (R305). -/
inductive LatOutcome where
  | clean
  | dataBit (bit : Nat)
  | checkBit
  | uncorrectable
  deriving DecidableEq, Repr

/-- The number of the lowest 1 bit of the low 8 bits. -/
def lowestOne (v : Nat) : Nat :=
  ((List.range 8).find? (fun i => v.testBit i)).getD 0

/-- The outcome of a syndrome (R305): SR in the low byte, SC in the high byte. -/
def latDecode (syn : BitVec 16) : LatOutcome :=
  let sr := syn.toNat % 256
  let sc := syn.toNat / 256
  match onesBelow 8 sr, onesBelow 8 sc with
  | 0, 0 => .clean
  | 1, 1 => .dataBit (8 * lowestOne sr + lowestOne sc)
  | 1, 0 => .checkBit
  | 0, 1 => .checkBit
  | _, _ => .uncorrectable

/-- The stored data of the word at an address: RETAINED's words are registers, the others bytes of memory. -/
def State.word64 (s : State) (a : Nat) : DWord :=
  if retBase ≤ a ∧ a < retBase + 0x1000 then BitVec.ofNat 64 (s.rd64 (a - 0x40000000))
  else BitVec.ofNat 64 (s.num a 8)

/-- The stored data of a word replaced. -/
def State.setWord64 (s : State) (a : Nat) (d : DWord) : State :=
  if retBase ≤ a ∧ a < retBase + 0x1000 then s.wr64 (a - 0x40000000) d.toNat
  else s.setBytes a (natLe 8 d.toNat)

/-- The syndrome of a stored word. -/
def State.syndrome (s : State) (a : Nat) : BitVec 16 :=
  (lookup s.prot.lat a).getD 0

/-- The syndrome of a stored word set. -/
def State.setSyndrome (s : State) (a : Nat) (e : BitVec 16) : State :=
  s.onProt (fun x => { x with lat := setKey s.prot.lat a e 0 })

/-- The data that a read of a word delivers (R305); those of an uncorrectable word as they are stored. -/
def State.fixed (s : State) (a : Nat) : DWord :=
  match latDecode (s.syndrome a) with
  | .dataBit b => s.word64 a ^^^ BitVec.ofNat 64 (2 ^ b)
  | _ => s.word64 a

/-- The bytes of memory as its readers are given them (R305): the words that hold them, decoded. -/
def State.decoded (s : State) (a n : Nat) : Bytes :=
  if s.prot.lat.isEmpty then s.bytes a n
  else (List.range n).map (fun i => BitVec.ofNat 8 ((s.fixed ((a + i) / 8 * 8)).toNat / 256 ^ ((a + i) % 8)))

/-- The scrubber of a memory. -/
def State.scrubber (s : State) (i : Nat) : Scrubber :=
  (lookup s.prot.scrub i).getD {}

/-- The scrubber of a memory replaced. -/
def State.setScrubber (s : State) (i : Nat) (x : Scrubber) : State :=
  s.onProt (fun z => { z with scrub := setKey s.prot.scrub i x {} })

/-- A memory's last error recorded (R308): the word, the syndrome and the kind. -/
def State.lastError (s : State) (i a : Nat) (kind : Nat) : State :=
  let syn := (s.syndrome a).toNat
  (s.wr (SP_LAST_ADDR i) (BitVec.ofNat 32 ((a - memBase i) / 8 * 8))).wr (SP_LAST_SYND i)
    (BitVec.ofNat 32 (syn + kind * 0x10000))

/-- A correction counted in the current second; the first that exceeds the limit raises LAT_CORR_RATE, once for the second
(R309). -/
def State.countCorrection (s : State) (i : Nat) : State :=
  let x := s.scrubber i
  let n := x.corrected + 1
  let above := decide (i < 32) && decide (s.get (SP_CORR_LIM_N i) < n) && !x.rated
  let s1 := s.setScrubber i { x with corrected := n, rated := x.rated || above }
  if above then s1.raise F_LAT_CORR_RATE i else s1

/-- A tile taken out by an error of its SRAM or its self-check (R145, R308): its jobs of the firing end with TILE_FAULT,
it leaves service at the next boundary, a self-test that runs fails, and a return that waits is off; `VT_STAT.FAULT`,
VE_TILE_FAULT, SRC[217]. -/
def State.tileFault (s : State) (t : Nat) : State :=
  let s0 := s.when (s.ve.testing.contains t) (fun s => s.putFlag (VT_CTRL_ST_FAIL t) true)
  let s1 := ((s0.putFlag (VT_STAT_FAULT t) true).raise F_VE_TILE_FAULT 0).raiseSrc 217
  s1.onVe (fun z => { z with
      out := if s1.ve.out.contains t then s1.ve.out else s1.ve.out ++ [t],
      back := s1.ve.back.filter (fun x => x != t), testing := s1.ve.testing.filter (fun x => x != t),
      slots := s1.ve.slots.map (fun x => if x.tile = some t ∧ x.status.isNone then { x with status := some 5 } else x) })

/-- A write-back queued for a word (R308). (DEDUCED, notes/assumptions/80.md) -/
def State.queueWriteBack (s : State) (i a : Nat) : State :=
  s.onProt (fun x => { x with writeBacks := s.prot.writeBacks ++ [(i, a)] })

/-- What a read of a word with an error records (R308, R145, R162). -/
def State.recordError (s : State) (i a : Nat) (o : LatOutcome) : State :=
  match o with
  | .clean => s
  | .dataBit _ =>
    let s1 := if 32 ≤ i then s.bump (VT_LAT_CORR_CNT (i - 32)) else (s.bump (SP_CORR_CNT_CNT i)).lastError i a 1
    (s1.countCorrection i).queueWriteBack i a
  | .checkBit =>
    let s1 := if 32 ≤ i then s else (s.bump (SP_CHK_CNT_CNT i)).lastError i a 2
    s1.queueWriteBack i a
  | .uncorrectable =>
    let s1 := if 32 ≤ i then (s.bump (VT_LAT_UNC_CNT (i - 32))).tileFault (i - 32)
      else (s.bump (SP_UNC_CNT_CNT i)).lastError i a 3
    match memFault i with
    | some f => s1.raise f i
    | none => s1

/-- What a read of a word of HBM with an error records, and a correctable word rewritten in place (R384, R385). -/
def State.recordDm (s : State) (a : Nat) (o : LatOutcome) : State :=
  let s0 := s.wr64 DM_LAST_ADDR (a / 8 * 8)
  let corrected (s : State) : State :=
    let n := s.prot.hbmScrub.corrected + 1
    let above := decide (s.get DM_CORR_LIM_N < n) && !s.prot.hbmScrub.rated
    let s1 := (s.bump DM_CORR_CNT_CNT).onProt (fun x => { x with
      hbmScrub := { x.hbmScrub with corrected := n, rated := x.hbmScrub.rated || above } })
    if above then s1.raise F_DM_CORR_RATE 0 else s1
  match o with
  | .clean => s
  | .dataBit b => ((corrected s0).setWord64 a (s.word64 a ^^^ BitVec.ofNat 64 (2 ^ b))).setSyndrome a 0
  | .checkBit => (corrected s0).setSyndrome a 0
  | .uncorrectable => s0.bump DM_UNC_CNT_CNT

/-- A word of HBM or of the code flash read through the lattice code (R384, R386). -/
def State.readStacked (s : State) (a : Nat) : State × Option DWord :=
  let o := latDecode (s.syndrome a)
  let d := s.word64 a
  let s1 := if inHbm a 8 then s.recordDm a o else s
  (s1, match o with
    | .clean => some d
    | .checkBit => some d
    | .dataBit b => some (d ^^^ BitVec.ofNat 64 (2 ^ b))
    | .uncorrectable => none)

/-- The fault of an uncorrectable word of HBM or of the code flash, by the master that met it (R384, R386). -/
def State.raiseUnc (s : State) (m a : Nat) : State :=
  if inHbm a 1 then s.raise F_DM_UNC m
  else if a < 0x4000000 then s.raise F_CF_UNC (a / 128 * 128)
  else s

/-- A word read through the lattice code: the state after it, and the data delivered; none with an error status.
(DEDUCED, notes/assumptions/80.md) -/
def State.readWord (s : State) (a : Nat) : State × Option DWord :=
  match memAt a with
  | none => s.readStacked a
  | some i =>
    let o := latDecode (s.syndrome a)
    let d := s.word64 a
    (s.recordError i a o,
      match o with
      | .clean => some d
      | .checkBit => some d
      | .dataBit b => some (d ^^^ BitVec.ofNat 64 (2 ^ b))
      | .uncorrectable => none)

/-- A word written whole, with fresh check bits; a queued write-back to it is cancelled (R308). -/
def State.writeWord (s : State) (a : Nat) (d : DWord) : State :=
  let s1 := (s.setWord64 a d).setSyndrome a 0
  s1.onProt (fun x => { x with writeBacks := s1.prot.writeBacks.filter (fun e => e.2 ≠ a) })

/-- Bytes written inside one word (R308): a whole word, or the word read, merged and written; refused, the word
unchanged, where it is uncorrectable. The Boolean answers whether the write was made. -/
def State.writeInWord (s : State) (a off : Nat) (b : Bytes) : State × Bool :=
  if b.length = 8 then (s.writeWord a (BitVec.ofNat 64 (leNat b)), true)
  else
    match s.readWord a with
    | (s1, none) => (s1, false)
    | (s1, some d) =>
      let old := natLe 8 d.toNat
      let new := old.take off ++ b ++ old.drop (off + b.length)
      (s1.writeWord a (BitVec.ofNat 64 (leNat new)), true)

/-- Bytes written through the lattice code, word by word from an address on. -/
def State.latWrite (s : State) (fuel a : Nat) (b : Bytes) : State × Bool :=
  match fuel, b with
  | 0, _ => (s, true)
  | _, [] => (s, true)
  | fuel + 1, x :: r =>
    let n := 8 - a % 8
    let now := (x :: r).take n
    let (s1, ok) := s.writeInWord (a / 8 * 8) (a % 8) now
    let (s2, ok2) := s1.latWrite fuel (a + n) ((x :: r).drop n)
    (s2, ok && ok2)

/-- Bytes read through the lattice code, word by word; a word with an error status reads as zeros. -/
def State.latRead (s : State) (fuel a n : Nat) : State × Bytes × Bool :=
  match fuel, n with
  | 0, _ => (s, [], true)
  | _, 0 => (s, [], true)
  | fuel + 1, n + 1 =>
    let k := min (n + 1) (8 - a % 8)
    let (s1, w) := s.readWord (a / 8 * 8)
    let d := natLe 8 (w.getD 0).toNat
    let (s2, rest, ok) := s1.latRead fuel (a + k) (n + 1 - k)
    (s2, (d.drop (a % 8)).take k ++ rest, ok && w.isSome)

/-- Bytes written by a block to its memory, through the lattice code. -/
def State.store (s : State) (a : Nat) (b : Bytes) : State × Bool :=
  s.latWrite (b.length + 1) a b

/-- Bytes of RETAINED written from a register offset on, through the lattice code (R14, R308): a word that is
uncorrectable takes no part of a write. -/
def State.retain (s : State) (off : Nat) (b : Bytes) : State :=
  (s.store (off + 0x40000000) b).1

/-- The registers of a range of RETAINED cleared, which are whole words with fresh check bits (R14, R308). -/
def State.wipeRetained (s : State) (lo hi : Nat) : State :=
  let a := lo + 0x40000000
  let b := hi + 0x40000000
  let outside (x : Nat) : Bool := decide (x < a) || decide (b ≤ x)
  (s.resetRange lo hi).onProt (fun x => { x with
    lat := s.prot.lat.filter (fun e => outside e.1), writeBacks := s.prot.writeBacks.filter (fun e => outside e.2) })

/-- Bytes read by a block from its memory, through the lattice code: the Boolean is false with an error status. -/
def State.fetch (s : State) (a n : Nat) : State × Bytes × Bool :=
  s.latRead (n + 1) a n
end Sys2Proof.Machine
end

