-- ==== Sys2Proof/Machine/Alarms.lean ====
section
/-! DEFINITION. The sagger's event log and its alarms (R422 to R424, R433), and the record of the latest entry to SAFE or
LOCKDOWN (R351). -/

namespace Sys2Proof.Machine

/-! ### Fuses and lifecycle -/

/-- A word of the fuse array (R404). -/
def State.fuse (s : State) (w : Nat) : Word :=
  (lookup s.sag.fuses w).getD 0

/-- Bits of a word of the fuse array blown: a blown bit never returns to 0 (R404). -/
def State.blow (s : State) (w : Nat) (bits : Word) : State :=
  s.onSag (fun x => { x with fuses := setKey s.sag.fuses w (s.fuse w ||| bits) 0 })

/-- The lifecycle code, the height of the thermometer in fuse word 0 [2:0] (R402, R404). -/
def State.lifecycle (s : State) : Nat :=
  onesBelow 3 (s.fuse 0).toNat

/-- The lifecycle codes of `SG_LC` (R402). -/
def lcBlank : Nat := 0
def lcProvisioned : Nat := 1
def lcDeployed : Nat := 2
def lcRetired : Nat := 3

/-- Whether KILL is blown (R404). -/
def State.killed (s : State) : Bool :=
  (s.fuse 0).toNat.testBit 3

/-! ### Events and alarms -/

/-- The kinds of R433. -/
def evDebugDenial : Nat := 1
def evAuthFail : Nat := 2
def evSessionOpened : Nat := 3
def evSessionEnded : Nat := 4
def evBlobFail : Nat := 5
def evImageRejected : Nat := 6
def evSvnCommit : Nat := 7
def evLifecycle : Nat := 8
def evAlarmB : Nat := 9
def evAlarmA : Nat := 10

/-- Whether the event log takes no entry: in DEPLOYED it lies in the non-volatile store, whose writes the sagger refuses
in LOCKDOWN with the store key erased, that of the alarm itself apart (R423, R425, R433).
(DEDUCED, notes/assumptions/108.md) -/
def State.storeRefuses (s : State) (kind : Nat) : Bool :=
  s.mode == modeLockdown && s.lifecycle == lcDeployed && !s.sag.storeKey && decide (kind < evAlarmB)

/-- A security event logged: the last 256 are kept; SRC[482] (R431, R433). (DEDUCED, notes/assumptions/108.md) -/
def State.secEvent (s : State) (kind detail : Nat) : State :=
  if s.storeRefuses kind then s
  else
    let l := s.sag.events ++ [⟨s.fn, kind, detail % 2 ^ 24⟩]
    let s1 := s.onSag (fun x => { x with events := l.drop (l.length - 256) })
    (s1.bumpWrap SG_EVT_HEAD_CNT).raiseSrc 482

/-- `RET_SAFE_*` written for an entry to SAFE or LOCKDOWN (R351). (DEDUCED, notes/assumptions/120.md) -/
def State.recordSafe (s : State) (id cls detail : Nat) (request : Bool) : State :=
  let idWord := id % 512 + cls % 8 * 0x1000 + (if request then 0x8000 else 0) + 0x80000000
  s.retain RET_SAFE_ID (natLe 4 idWord ++ natLe 4 detail ++ natLe 8 s.fn ++ natLe 8 s.tt)

/-- Both SSC DEV-SAFE latches set by a reaction, with the outputs safe (R335); an intrusive test that runs no longer
clears them (R337). -/
def State.setDevSafe (s : State) : State :=
  let s1 := s.onOuts (fun x => { x with itest := s.outs.itest.map (fun (t : IntrusiveTest) => IntrusiveTest.mk t.start false false t.abandoned) })
  ((s1.putFlag SSC_STAT_DEV_X true).putFlag SSC_STAT_DEV_Y true).refreshOuts

/-- An open debug session ended (R426): the event is logged and SRC[481] raised. (DEDUCED, notes/assumptions/107.md) -/
def State.endSession (s : State) : State :=
  if s.get SG_DBG_CTRL_LEVEL = 0 ∨ s.lifecycle = lcBlank then s
  else ((s.put SG_DBG_CTRL_LEVEL 0).secEvent evSessionEnded (s.get SG_DBG_CTRL_LEVEL)).raiseSrc 481

/-- The bytes of a flash sector or line after an operation that did not end well (R387, R399): they are free, but that it
reads as not erased. (DESIGN CHOICE, notes/assumptions/103.md) -/
def State.tearFlash (s : State) (a n : Nat) : State :=
  let (k, s1) := s.draw
  let b := (List.range n).map (fun i => Config.flashTorn k i)
  let at_ := leNat (b.take 4) % n
  s1.setBytes a (b.modify at_ (fun x => x &&& ~~~(BitVec.ofNat 8 (2 ^ ((b.getD 4 0).toNat % 8)))))

/-- The size of what an operation of the code flash acts on (R387). -/
def FlashOp.size (o : FlashOp) : Nat :=
  if o.erase then 65536 else 128

/-- The end of an operation of the code flash (R387): BUSY, `CF_RESULT`, `CF_OP_TIME` and SRC[467]. -/
def State.endFlash (s : State) (o : FlashOp) (result : Nat) : State :=
  let s1 := (s.onArch (fun x => { x with flash := none })).putFlag CF_STAT_BUSY false
  let s2 := (s1.put CF_RESULT_RESULT result).put CF_OP_TIME_US (min ((s.tt - o.start) / usKclk) 0xFFFFF)
  s2.raiseSrc 467

/-- An operation of the code flash that runs abandoned (R399, R430). -/
def State.abandonFlash (s : State) : State :=
  match s.arch.flash with
  | none => s
  | some o => (s.tearFlash o.addr o.size).endFlash o 2

/-- RETAINED cleared as a whole at an entry to LOCKDOWN through an alarm, and the record of the entry written after it
(R14, R351, R423): an alarm within LOCKDOWN is no entry and leaves RETAINED as it is.
(DEDUCED, notes/assumptions/108.md) -/
def State.clearRetained (s : State) (id detail : Nat) : State :=
  if s.mode = modeLockdown then s
  else (s.wipeRetained 0x910000 0x911000).recordSafe id 4 detail false

/-- An alarm during bisque or glost, which then does not complete: `SG_BOOT_STAT` holds the stage (R430).
(DEDUCED, notes/assumptions/108.md) -/
def State.stopBoot (s : State) : State :=
  if s.mode = modeBisque then s.put SG_BOOT_STAT_STAGE 1 else if s.mode = modeGlost then s.put SG_BOOT_STAT_STAGE 2 else s

/-- What an alarm does, whatever its class (R423): outputs safe, keys erased, RETAINED cleared and then its SAFE record
written, LOCKDOWN entered, the event logged; class A blows KILL (R424). `bit` is the sensor's bit in `SG_ALARM_STAT`.
(DEDUCED, notes/assumptions/108.md) -/
def State.alarm (s : State) (classA : Bool) (bit : Nat) (id detail : Nat) : State :=
  let s1 := s.abandonFlash.setDevSafe
  let s2 := s1.onSag (fun x => { x with idKey := false, storeKey := false, dbgKeys := false, aonAlarm := s1.sag.aonAlarm || classA })
  let stat := withBits (s2.rd SG_ALARM_STAT).toNat bit 1 1
  let s3 := s2.wr SG_ALARM_STAT (BitVec.ofNat 32 stat)
  let s3 := if classA then (s3.blow 0 8).putFlag SG_LC_ID_VALID false else s3
  let s4 := (s3.put SG_ALARM_STAT_CLASS (max (s3.get SG_ALARM_STAT_CLASS) (if classA then 2 else 1))).putFlag
    SG_ALARM_STAT_ERASED true
  let s5 := (s4.endSession.clearRetained id detail).stopBoot
  (s5.enterMode modeLockdown).secEvent (if classA then evAlarmA else evAlarmB) bit

/-- An alarm from a sensor: the alarm, and the fault that names it (R423, R424, R431).
(DEDUCED, notes/assumptions/108.md) -/
def State.sensorAlarm (s : State) (classA : Bool) (bit : Nat) : State :=
  let id := if classA then F_SG_ALARM_A else F_SG_ALARM_B
  (s.alarm classA bit id bit).raise id bit

end Sys2Proof.Machine
end

