-- ==== Sys2Proof/Machine/MemProt.lean ====
section
/-! DEFINITION. The firewalls, and accesses to registers and memory by the masters (R4, R316 to R324, R482). -/

namespace Sys2Proof.Machine

/-! ### Firewalls (R316 to R321) -/

/-- Whether a page lies between two page numbers. -/
def inPages (lo hi a : Nat) : Bool :=
  decide (lo ≤ a / 0x1000) && decide (a / 0x1000 ≤ hi)

/-- Whether an enabled locked region refuses a master at an address (R316 step 1, R320). -/
def State.lockDenies (s : State) (m a : Nat) : Bool :=
  (List.range 8).any (fun k => s.flag (FW_LOCK_CTRL_EN k) && inPages (s.get (FW_LOCK_BASE_PAGE k)) (s.get (FW_LOCK_LIMIT_PAGE k)) a
    && (m = 14 || !(s.get (FW_LOCK_ALLOW_MASK k)).testBit m))

/-- Whether a group is powered off (R205, R317). -/
def State.poweredOff (s : State) (g : Nat) : Bool :=
  s.flag (LS_PWR_OFF g)

/-- The targets of R317, and the others. -/
inductive Target where
  | flash
  | local_ (g : Nat)
  | ssp
  | track
  | tile
  | hbm
  | regs
  | nowhere
  deriving DecidableEq, Repr

/-- The target at a fabric address (R459, R460). -/
def targetAt (p : Part) (a : Nat) : Target :=
  if a < 0x4000000 then .flash
  else if 0x10000000 ≤ a ∧ a < 0x10000000 + p.groups * 0x100000 then
    if (a - 0x10000000) % 0x100000 < 0x80000 then .local_ ((a - 0x10000000) / 0x100000) else .nowhere
  else if sspBase ≤ a ∧ a < sspBase + sspSize then .ssp
  else if trackBase ≤ a ∧ a < trackBase + p.tracks * 32 then .track
  else if 0x40000000 ≤ a ∧ a < 0x41000000 then .regs
  else if 0x50000000 ≤ a ∧ a < 0x50000000 + p.tiles * 0x40000 then .tile
  else if hbmBase ≤ a ∧ a < hbmEnd then .hbm
  else .nowhere

/-- Whether a fixed rule of R317 grants a master an access. -/
def fixedGrant (t : Target) (m : Nat) (wr : Bool) : Bool :=
  match t with
  | .flash => !wr && (decide (m < 8) || m == 13)
  | .local_ g => m == g || m == 0
  | .track => if wr then m == 8 else decide (m < 8) || m == 9 || m == 11 || m == 12
  | .tile => if wr then m == 9 else m == 9 || m == 0
  | .hbm => !wr && m == 11
  | _ => false

/-- Whether an enabled window grants a master an access (R318). -/
def State.windowGrant (s : State) (m a : Nat) (wr : Bool) : Bool :=
  (List.range 64).any (fun k => s.flag (FW_WIN_CTRL_EN k) && inPages (s.get (FW_WIN_BASE_PAGE k)) (s.get (FW_WIN_LIMIT_PAGE k)) a
    && (s.get (if wr then FW_WIN_MASK_WR k else FW_WIN_MASK_RD k)).testBit m)

/-- The verdict on a beat (R316). -/
inductive Verdict where
  | allow
  | deny (locked : Bool)
  | noTarget
  deriving DecidableEq, Repr

/-- The judgement of one beat (R316, R317). -/
def State.judge (s : State) (m a : Nat) (wr : Bool) : Verdict :=
  if s.lockDenies m a then .deny true
  else match targetAt s.part a with
  | .regs => .allow
  | .nowhere => .noTarget
  | .local_ g =>
    if s.poweredOff g then .deny false
    else if fixedGrant (.local_ g) m wr || s.windowGrant m a wr then .allow else .deny false
  | t => if fixedGrant t m wr || s.windowGrant m a wr then .allow else .deny false

/-- The judgement of a group's own access: its own scratchpads lie on its local path, which meets no firewall (R316).
(DEDUCED, notes/assumptions/71.md) -/
def State.judgeOwn (s : State) (g a : Nat) (wr : Bool) : Verdict :=
  if targetAt s.part a = .local_ g then .allow else s.judge g a wr

/-- A denial of the debug master at a locked region (R321): counted, raised, logged in DEPLOYED; the sixteenth within
1 s of SOSC time is a class B alarm. (DEDUCED, notes/assumptions/82.md) -/
def State.debugDenial (s : State) : State :=
  let l := (s.sosc :: s.prot.dbgDenials).filter (fun t => decide (s.sosc < t + 1000000))
  let s1 := s.onProt (fun x => { x with dbgDenials := l })
  let s2 := (s1.bump FW_DBG_DENY_CNT).raise F_FW_DBG_DENY 0
  let s3 := if s.lifecycle = lcDeployed then s2.secEvent evDebugDenial 0 else s2
  if l.length = 16 then s3.sensorAlarm false 9 else s3

/-- A denied burst recorded (R319, R482). (DEDUCED, notes/assumptions/82.md) -/
def State.recordDenial (s : State) (m a : Nat) (wr locked : Bool) (beats : Nat) : State :=
  let info := m + (if wr then 0x10 else 0) + (if locked then 0x20 else 0) + min beats 255 * 0x100
  let s1 := (((s.bump (FW_DENY_CNT_CNT m)).wr64 FW_LAST_ADDR a).wr FW_LAST_INFO (BitVec.ofNat 32 info)).raise F_FW_DENY m
  if m = 14 ∧ locked then s1.debugDenial else s1

/-- What a burst on the fabric came to: the beats performed, and whether it ended without an error status. -/
structure BusResult where
  beats : Nat
  ok : Bool
  deriving DecidableEq, Repr

/-- A write burst of a master, beat by beat (R319); `done` counts the beats performed. A register
target refuses it: no register accepts a block's burst (R482). -/
def State.busWriteFrom (s : State) (fuel m a done : Nat) (b : Bytes) : State × BusResult :=
  match fuel, b with
  | 0, _ => (s, ⟨done, true⟩)
  | _, [] => (s, ⟨done, true⟩)
  | fuel + 1, x :: r =>
    let n := 32 - a % 32
    if targetAt s.part a = .regs then (s.recordDenial m a true (s.lockDenies m a) done, ⟨done, false⟩)
    else match s.judge m a true with
    | .allow =>
      let (s1, ok) := s.store a ((x :: r).take n)
      if ok then s1.busWriteFrom fuel m (a + n) (done + 1) ((x :: r).drop n) else (s1.raiseUnc m a, ⟨done, false⟩)
    | .deny l => (s.recordDenial m a true l done, ⟨done, false⟩)
    | .noTarget => (s, ⟨done, false⟩)

/-- A write burst of a master (R319). -/
def State.busWrite (s : State) (m a : Nat) (b : Bytes) : State × BusResult :=
  s.busWriteFrom (b.length + 1) m a 0 b

/-- Where a read of an address finds its bytes: in the track-store view, a track with a pre-image reads from the delta
pool (R122). -/
def State.viewAddr (s : State) (a : Nat) : Nat :=
  if trackBase ≤ a ∧ a < trackBase + s.part.tracks * 32 then
    match s.te.pool.findIdx? (fun i => i = (a - trackBase) / 32) with
    | some k => poolBase + 32 * k + (a - trackBase) % 32
    | none => a
  else a

/-- A read burst of a master, beat by beat (R319): suppressed beats read zeros. -/
def State.busReadFrom (s : State) (fuel m a done n : Nat) : State × Bytes × BusResult :=
  match fuel, n with
  | 0, _ => (s, [], ⟨done, true⟩)
  | _, 0 => (s, [], ⟨done, true⟩)
  | fuel + 1, n + 1 =>
    let k := min (n + 1) (32 - a % 32)
    if targetAt s.part a = .regs then (s.recordDenial m a false (s.lockDenies m a) done, List.replicate (n + 1) 0, ⟨done, false⟩)
    else match s.judge m a false with
    | .allow =>
      let (s1, d, ok) := s.fetch (s.viewAddr a) k
      if ok then
        let (s2, rest, res) := s1.busReadFrom fuel m (a + k) (done + 1) (n + 1 - k)
        (s2, d ++ rest, res)
      else (s1.raiseUnc m a, List.replicate (n + 1) 0, ⟨done, false⟩)
    | .deny l => (s.recordDenial m a false l done, List.replicate (n + 1) 0, ⟨done, false⟩)
    | .noTarget => (s, List.replicate (n + 1) 0, ⟨done, false⟩)

/-- A read burst of a master (R319). -/
def State.busRead (s : State) (m a n : Nat) : State × Bytes × BusResult :=
  s.busReadFrom (n + 1) m a 0 n

/-! ### Blocks and absent instances (R4, R461) -/

/-- Whether a register offset lies in a block of R461. (DEDUCED, notes/assumptions/22.md) -/
def inBlocks (off : Nat) : Bool :=
  decide (off < 0x30000) || (decide (0x100000 ≤ off) && decide (off < 0x170000)) || (decide (0x200000 ≤ off) && decide (off < 0x280000))
    || off / 0x10000 == 0x30 || off / 0x10000 == 0x40 || off / 0x10000 == 0x41 || off / 0x10000 == 0x50 || off / 0x10000 == 0x51
    || off / 0x10000 == 0x60 || (decide (0x70 ≤ off / 0x10000) && decide (off / 0x10000 ≤ 0x72)) || off / 0x10000 == 0x80
    || off / 0x10000 == 0x90 || off / 0x1000 == 0x910 || off / 0x10000 == 0xA0 || off / 0x10000 == 0xF0

/-- Whether a register offset lies in an instance that the part does not have (R4, R462).
(DEDUCED, notes/assumptions/22.md) -/
def absentAt (p : Part) (off : Nat) : Bool :=
  if 0x22000 ≤ off ∧ off < 0x22200 then decide (p.groups ≤ (off - 0x22000) / 0x40)
  else if 0x23000 ≤ off ∧ off < 0x23100 then decide (p.groups ≤ (off - 0x23000) / 0x20)
  else if 0x100000 ≤ off ∧ off < 0x130000 then decide (p.lanes ≤ (off - 0x100000) / 0x1000)
  else if 0x151000 ≤ off ∧ off < 0x151800 then decide (p.groups ≤ (off - 0x151000) / 0x100)
  else if 0x160000 ≤ off ∧ off < 0x170000 then decide (p.tiles ≤ (off - 0x160000) / 0x400)
  else if 0x200000 ≤ off ∧ off < 0x280000 then decide (p.groups ≤ (off - 0x200000) / 0x10000)
  else if 0x500100 ≤ off ∧ off < 0x500400 then (memSize p ((off - 0x500100) / 0x20)).isNone
  else false

/-! ### Accesses to registers (R4, R316, R482) -/

/-- A register access refused by master (R482). (DESIGN CHOICE, notes/assumptions/12.md) -/
def State.refuseAccess (s : State) (m off : Nat) (wr : Bool) : State :=
  s.recordDenial m (0x40000000 + off) wr false 0

/-- A register write that ends with an error status: at a group, a store whose status is on its way (R265, R482). -/
def State.storeError (s : State) (m : Master) (off : Nat) : State :=
  if m.val < 8 then s.onCore (toIx 8 m.val) (fun c => { c with storeErrs := c.storeErrs ++ [BitVec.ofNat 32 (0x40000000 + off)] }) else s

/-- A register write that a command of its own stands for: denied by a locked region (R316, R320), discarded at an
instance that the part lacks (R4), refused to a master that may not make it (R482), and otherwise `t`. -/
def State.portal (s : State) (m : Master) (off : Nat) (ok : Bool) (t : State) : State :=
  if s.lockDenies m (0x40000000 + off) then (s.recordDenial m (0x40000000 + off) true true 0).storeError m off
  else if absentAt s.part off then s
  else if !ok then (s.refuseAccess m off true).storeError m off
  else t

/-- `FW_CFG_ERR` (R322, R323): a lattice error in the firewall registers. -/
def execFwCfgErr (s : State) : Host.Outcome State Fault Refusal :=
  .next ((s.putFlag FW_STAT_CFG_ERR true).raise F_FW_CFG_ERR 0)

end Sys2Proof.Machine
end

