-- ==== Sys2Proof/Machine/Stage.lean ====
section
/-! DEFINITION. The stage for the next boundary (R46, R47). -/

namespace Sys2Proof.Machine

/-- The largest number of staged register writes of one boundary (R46). -/
def stageMax : Nat := 1024

/-- The staged value of a register word, if one is pending. -/
def State.stagedVal (s : State) (off : Nat) : Option Word :=
  (s.stage.find? (fun e => e.off = off)).map (fun e => e.val)

/-- The value of a register word that the next boundary would leave, as far as it is written: the staged one, or the one
in effect. -/
def State.latest (s : State) (off : Nat) : Word :=
  (s.stagedVal off).getD (s.rd off)

/-- The bits of a register word that act when written (R12, WO). -/
def woMask (off : Nat) : Word :=
  match regRow off with
  | some r => BitVec.ofNat 32 r.wo
  | none => 0

/-- The entry that a later write to the same word leaves: RW fields replaced, action fields accumulated (R46). -/
def mergeStaged (off : Nat) (old new : Word) : Word :=
  new ||| (old &&& woMask off)

/-- The register writes of the pending chains for one firing (R47). -/
def State.chainWrites (s : State) (fn : Nat) : Nat :=
  (s.chains.filter (fun c => c.fn = fn)).foldl (fun n c => n + c.writes) 0

/-- The number of writes pending for the next boundary, `TB_STG_CNT` (R46). -/
def State.stagedNext (s : State) : Nat :=
  s.stage.length + s.chainWrites (s.fn + 1)

/-- A write staged for the next boundary (R46): refused, with `TB_STAT.CFG_REJ`, when it would be the 1,025th. The
Boolean answers whether it was staged. -/
def State.stageWrite (s : State) (m : Master) (off : Nat) (v : Word) : State × Bool :=
  match s.stage.find? (fun e => e.off = off) with
  | some old =>
    ({ s with stage := s.stage.filter (fun e => e.off ≠ off) ++ [⟨off, mergeStaged off old.val v, m, s.stagings⟩],
              stagings := s.stagings + 1 }, true)
  | none =>
    if stageMax ≤ s.stagedNext then (s.putFlag TB_STAT_CFG_REJ true, false)
    else ({ s with stage := s.stage ++ [⟨off, v, m, s.stagings⟩], stagings := s.stagings + 1 }, true)

/-- A direct write staged for the next boundary; refused, it ends with an error status (R46). -/
def State.stageBy (s : State) (m : Master) (off : Nat) (v : Word) : State :=
  match s.stageWrite m off v with
  | (t, true) => t
  | (t, false) => t.storeError m off

/-- The staged writes to a range of registers discarded (R14, R46). -/
def State.dropStaged (s : State) (lo hi : Nat) : State :=
  { s with stage := s.stage.filter (fun e => decide (e.off < lo) || decide (hi ≤ e.off)) }

/-- A group's block accepts its own master and master 0 (R177, R375). -/
def ownOr0 (g : Group) (m : Master) : Bool :=
  m.val = 0 || m.val = g.val

end Sys2Proof.Machine
end

