-- ==== Sys2Proof/Machine/Wheel.lean ====
section
/-! DEFINITION. The event wheel (R152 to R164). -/

namespace Sys2Proof.Machine

/-- The number of slots of the wheel (R161). -/
def wheelSlots : Nat := 131072
/-- The entries of a domain's near set (R157). -/
def nearMax : Nat := 1024
/-- The reach of the armer in counts (R157). -/
def nearReach : Nat := 4096

/-- The domain of an event: that of its channel (R152). -/
def State.evDom (s : State) (e : Event) : Dom :=
  toIx 4 (s.get (PEO_CFG_DOM e.ch))

/-! ### Counting -/

/-- The events in a domain's near set. -/
def State.nearCount (s : State) (d : Dom) : Nat :=
  (s.wheel.slots.filter (fun e => e.2.near && s.evDom e.2 == d)).length

/-- `EW_NEAR_N` and `EW_STAT.NEAR_FULL` of a domain brought in line with its near set (R158). -/
def State.countNear (s : State) (d : Dom) : State :=
  let n := s.nearCount d
  (s.put (EW_NEAR_N_N d) n).put EW_STAT_NEAR_FULL
    (withBits (s.get EW_STAT_NEAR_FULL) d 1 (if nearMax ≤ n then 1 else 0))

/-- The wheel's counts brought in line with its slots, for the group, channel and domain of an event (R161). -/
def State.recount (s : State) (e : Event) : State :=
  let n := s.wheel.slots.length
  let s1 := (s.put EW_USED_N n).raiseTo EW_PEAK_N n
  let s2 := s1.put (EW_G_USED_N e.group) (s.wheel.slots.filter (fun x => x.2.group == e.group)).length
  let s3 := s2.put (PEO_EVENTS_N e.ch) (s.wheel.slots.filter (fun x => x.2.ch == e.ch)).length
  s3.countNear (s.evDom e)

/-- What becomes of a slot whose event leaves it (R160). -/
def State.setFate (s : State) (slot : Nat) (e : Event) (fired : Bool) : State :=
  s.onWheel (fun w => { w with fates := putKey w.fates slot ⟨e.handle, e.group, fired⟩ })

/-- The words of a slot written afresh, with good check bits (R308). -/
def State.cleanSlot (s : State) (slot : Nat) : State :=
  let lo := wheelBase + slot * 32
  { s with mem := s.mem.filter (fun c => decide (c.1 < lo) || decide (lo + 32 ≤ c.1)),
           prot := { s.prot with lat := s.prot.lat.filter (fun c => decide (c.1 < lo) || decide (lo + 32 ≤ c.1)) },
           wheel := { s.wheel with raws := s.wheel.raws.filter (fun w => w / 4 != slot) } }

/-- The words of a slot read through the lattice code (R305, R308): false with an error status. -/
def State.readSlot (s : State) (slot : Nat) : State × Bool :=
  let (s1, _, ok) := s.fetch (wheelBase + 32 * slot) 32
  (s1, ok)

/-- An event taken out of its slot. -/
def State.removeEvent (s : State) (slot : Nat) (e : Event) : State :=
  ((s.onWheel (fun w => { w with slots := dropKey w.slots slot, raws := w.raws.filter (fun x => x / 4 != slot) })).recount e)

/-- An event put into a slot; the free slots may fall below `EW_LOW_WM`, which raises SRC[104] (R161). -/
def State.putEvent (s : State) (slot : Nat) (e : Event) : State :=
  let free := wheelSlots - s.wheel.slots.length
  let wm := s.get EW_LOW_WM_N
  let s1 := ((s.cleanSlot slot).onWheel (fun w => { w with slots := putKey w.slots slot e })).recount e
  if wm ≤ free ∧ free - 1 < wm then s1.raiseSrc 104 else s1

/-- The event of a slot lost to an uncorrectable lattice error (R162). -/
def State.wheelLost (s : State) (slot : Slot) : State :=
  match lookup s.wheel.slots slot with
  | some e => ((s.removeEvent slot e).setFate slot e false).raise F_EW_STORE_ERR e.ch
  | none => s

/-! ### Acting -/

/-- A fire-log entry (R163): the group's ring in the SSP, or an overflow. (DEDUCED, notes/assumptions/64.md) -/
def State.fireLog (s : State) (e : Event) (late past held : Bool) (tt : Nat) : State :=
  let g := e.group
  let head := s.get (EW_LOG_HEAD_CNT g)
  let size := 2 ^ (s.get (EW_LOG_SIZE_LOG2 g) + 4)
  if size ≤ (head + 2 ^ 32 - s.get (EW_LOG_TAIL_CNT g)) % 2 ^ 32 then
    (s.bump (EW_LOG_OVF_CNT g)).raise F_EW_LOG_OVF g
  else
    let flags := e.ch.val + (if late then 0x20 else 0) + (if past then 0x40 else 0) + (if held then 0x80 else 0)
    let entry := natLe 4 e.tag.toNat ++ natLe 3 e.handle ++ natLe 1 flags ++ natLe 8 tt
    let a := s.rd64 (EW_LOG_BASE g) + head % size * 16
    let s1 := if inSsp a 16 then (s.store a entry).1 else s
    (s1.bumpWrap (EW_LOG_HEAD_CNT g)).raiseSrc (96 + g)

/-- Whether a position pulse has reached its end at a count (R165). -/
def Pulse.over (p : Pulse) (count : Int) : Bool :=
  match p with
  | .pos e true _ => decide (e ≤ count)
  | .pos e false _ => decide (count ≤ e)
  | .time _ => false

/-- The position pulses of a domain's channels that its count ends (R165, R166). -/
def State.endPosPulses (s : State) (d : Dom) (at_ : Nat) : State :=
  s.each (allFin 32) (fun s n =>
    match (s.outs.chan.get n).pulse with
    | some p =>
      if s.get (PEO_CFG_DOM n) = d.val ∧ p.over (s.count d) then (s.endPulse n at_).syncChan n at_ else s
    | none => s)

/-- An event acts (R153, R157, R163, R169): on its channel's state, in the counters and in the fire log. -/
def State.fire (s : State) (slot : Nat) (e : Event) (up late past : Bool) (at_ : Nat) : State :=
  let (s1, held) := s.actOn e up at_
  let s2 := (s1.bump EW_FIRE_CNT_CNT).when held (fun s => s.bump EW_HELD_CNT_CNT)
  let s3 := s2.when late (fun s => ((s.bump EW_LATE_CNT_CNT).putFlag (PEO_ISR_LATE e.ch) true).raise F_EW_LATE_ARM e.ch)
  let s4 := s3.when past (fun s => s.putFlag (PEO_ISR_PAST e.ch) true)
  let s5 := s4.setFate slot e true
  s5.when e.log (fun s => s.fireLog e late past held at_)

/-- Whether an event is reached by a move of the whole count (R153). -/
def Event.reached (e : Event) (old new : Int) : Bool :=
  let fwd := decide (old < e.cmp) && decide (e.cmp ≤ new)
  let rev := decide (new ≤ e.cmp) && decide (e.cmp < old)
  match e.dir with
  | 0 => fwd
  | 1 => rev
  | _ => fwd || rev

/-- Whether an event is armed: loaded, or due to be so under R157 and not kept out by a full near set (R158). -/
def Event.armed (e : Event) (now : Nat) : Bool :=
  e.near || (!e.kept && (e.insFar || decide (e.insTt + 2 * usKclk ≤ now)))

/-- The order in which events reached together act: PRIO, then insertion sequence (R159). -/
def Event.before (a b : Event) : Bool :=
  decide (a.prio < b.prio) || (a.prio == b.prio && decide (a.seq ≤ b.seq))

/-- The events outside the armer's reach leave the near set (R157). -/
def State.dropFar (s : State) (d : Dom) : State :=
  let c := s.count d
  let far (e : Event) : Bool := (e.near || e.kept) && s.evDom e == d && decide (nearReach < (e.cmp - c).natAbs)
  if s.wheel.slots.any (fun x => far x.2) then
    (s.onWheel (fun w => { w with slots := w.slots.map (fun x => if far x.2 then (x.1, { x.2 with near := false, kept := false }) else x) })).countNear d
  else s

/-- The channels on which the events of one KCLK have acted take the result (R159). -/
def State.settleChans (s old : State) (l : List Chan) (at_ : Nat) : State :=
  s.each ((allFin 32).filter (fun n => l.contains n)) (fun s n => s.settleChan old n at_)

/-- The events of a domain that a move of its whole count reaches: armed ones act in the KCLK of the output register,
the others wait on the late path (R153, R157, R159, R164). A joiner's wheel applies only fragments (R453). -/
def State.wheelMove (s : State) (d : Dom) (old new : Int) : State :=
  if s.get TW_STAT_ROLE = 2 then s.endPosPulses d (s.tt + 2)
  else
  let hits := sortBy (fun a b => a.2.before b.2)
    (s.wheel.slots.filter (fun x => s.evDom x.2 == d && x.2.reached old new))
  let up := decide (old < new)
  let reach (s : State) (x : Nat × Event) : State :=
    let (s0, ok) := if x.2.near then (s, true) else s.readSlot x.1
    if !ok then s0.wheelLost (toIx 131072 x.1)
    else
      let s1 := s0.removeEvent x.1 x.2
      if x.2.armed s.tt then s1.fire x.1 x.2 up false false (s.tt + 2)
      else s1.onWheel (fun w => { w with late := w.late ++ [⟨x.1, x.2, up, s.tt⟩] })
  let s1 := (s.each hits reach).settleChans s (hits.map (fun x => x.2.ch)) (s.tt + 2)
  (s1.dropFar d).endPosPulses d (s.tt + 2)

/-- `LATE_EVENT_ACT` (R157 to R159): an event reached outside the near set acts through the late path, with those of its
channel that the same edge reached. -/
def execLateEventAct (d : Dom) (slot : Slot) (s : State) : Host.Outcome State Fault Refusal :=
  .next (match s.wheel.late.find? (fun x => x.slot = slot.val && s.evDom x.ev == d) with
  | none => s
  | some x =>
    let mate (y : LateEvent) : Bool := y.ev.ch == x.ev.ch && y.edge == x.edge
    let l := sortBy (fun a b => a.ev.before b.ev) (s.wheel.late.filter mate)
    let s1 := s.onWheel (fun w => { w with late := w.late.filter (fun y => !mate y) })
    ((s1.each l (fun s y => s.fire y.slot y.ev y.up true false s.tt)).settleChans s [x.ev.ch] s.tt).endPosPulses d s.tt)

/-- The waiting events of a domain nearer to its count than an event (R158). -/
def State.nearerWaiting (s : State) (d : Dom) (e : Event) : Bool :=
  let c := s.count d
  s.wheel.slots.any (fun x => !x.2.near && x.2.kept && s.evDom x.2 == d && decide ((x.2.cmp - c).natAbs < (e.cmp - c).natAbs))

/-- `NEAR_SET_LOAD` (R157, R158): the armer loads an event within reach, or keeps it outside a full near set. -/
def execNearSetLoad (d : Dom) (slot : Slot) (s : State) : Host.Outcome State Fault Refusal :=
  .next (match lookup s.wheel.slots slot with
  | none => s
  | some e =>
    if s.evDom e ≠ d ∨ e.near ∨ nearReach < (e.cmp - s.count d).natAbs then s
    else if nearMax ≤ s.nearCount d then
      if e.kept then s
      else (((s.onWheel (fun w => { w with slots := putKey w.slots slot { e with kept := true } })).countNear d).raiseSrc
        (108 + d)).raise F_EW_NEAR_FULL e.ch
    else if s.nearerWaiting d e then s
    else
      let (s1, ok) := s.readSlot slot
      if ok then (s1.onWheel (fun w => { w with slots := putKey w.slots slot { e with near := true, kept := false } })).countNear d
      else s1.wheelLost slot)

/-! ### Insertion -/

/-- An insertion as R152 describes it. -/
structure Insertion where
  target : Int
  width : Nat
  tag : Word
  ch : Chan
  action : Fin 4
  dir : Fin 4
  past : Bool
  log : Bool
  prio : Fin 16
  reserved : Bool                -- a reserved bit is set
  deriving DecidableEq, Repr

/-- The 20 bytes that describe an insertion (R152). -/
def Insertion.bytes (r : Insertion) : Bytes :=
  natLe 8 (unsignedOf 64 r.target) ++ natLe 4 r.width ++ natLe 4 r.tag.toNat ++ natLe 1 r.ch
    ++ natLe 1 (r.action + 4 * r.dir + (if r.past then 16 else 0) + (if r.log then 32 else 0)) ++ natLe 1 r.prio ++ [0]

/-- The comparison count C (R153). -/
def cmpCount (dir : Fin 4) (target : Int) : Int :=
  match dir with
  | 0 => -((-target) / 256)
  | 1 => target / 256
  | _ => (target + 128) / 256

/-- Whether a channel mode allows an action (R165). -/
def actionAllowed (mode : Nat) (a : Fin 4) : Bool :=
  match mode with
  | 1 => a == 0 || a == 1
  | 2 => a == 2
  | 3 => a == 2
  | 4 => a == 3
  | _ => false

/-- Whether an insertion is BAD (R155, R162). (DEDUCED, notes/assumptions/63.md) -/
def State.insertBad (s : State) (g : Group) (m0 : Bool) (r : Insertion) : Bool :=
  !s.flag EW_CTRL_EN || s.get (PEO_CFG_MODE r.ch) == 0 || (!m0 && s.get (PEO_CFG_OWNER r.ch) != g.val)
    || !actionAllowed (s.get (PEO_CFG_MODE r.ch)) r.action || r.dir == 3 || r.reserved

/-- Whether an event is past due at insertion (R156). -/
def pastDue (dir : Fin 4) (cmp count : Int) : Bool :=
  count == cmp || (dir == 0 && decide (cmp < count)) || (dir == 1 && decide (count < cmp))

/-- Whether a domain at its present velocity reaches C in less than 2 µs: such an insertion is reported LATE
(notes/assumptions/17.md). (DEDUCED, notes/assumptions/17.md) -/
def State.reachedSoon (s : State) (d : Dom) (dir : Fin 4) (cmp : Int) : Bool :=
  let v := (s.velocity d).1
  let gap := cmp * 256 - s.pv d
  decide (0 < gap * v) && !(dir == 0 && decide (v < 0)) && !(dir == 1 && decide (0 < v))
    && decide (gap.natAbs * q24 < v.natAbs * (2 * usKclk))

/-- The result of an insertion (R155), in the order of its checks. (DEDUCED, notes/assumptions/63.md) -/
def State.insertResult (s : State) (g : Group) (m0 : Bool) (r : Insertion) : Nat :=
  let d : Dom := toIx 4 (s.get (PEO_CFG_DOM r.ch))
  let c := cmpCount r.dir r.target
  let cnt := s.count d
  let due := pastDue r.dir c cnt
  let dist := (cnt - c).natAbs
  if s.insertBad g m0 r then 6
  else if due && (!r.past || decide (s.get (PEO_PAST_TOL_COUNTS r.ch) < dist)) then 3
  else if wheelSlots ≤ s.wheel.slots.length then 4
  else if s.get (EW_QUOTA_N g) ≤ s.get (EW_G_USED_N g) then 5
  else if due then 2
  else if decide (dist < nearReach) && s.reachedSoon d r.dir c then 1
  else 0

/-- The lowest number that a rising list of keys from `k` on leaves out. -/
def leastFree {α : Type} (k : Nat) (l : List (Nat × α)) : Nat :=
  match l with
  | [] => k
  | (a, _) :: r => if k < a then k else leastFree (a + 1) r

/-- The slot that an insertion takes: the spec leaves the choice open among the free slots.
(DESIGN CHOICE, notes/assumptions/60.md) -/
def State.pickSlot (s : State) : Nat :=
  let hint := Config.wheelSlot s.wheel.seq % wheelSlots
  if (lookup s.wheel.slots hint).isNone && !s.wheel.late.any (fun x => x.slot == hint) then hint
  else
    let n := leastFree 0 (s.wheel.late.foldl (fun l x => putKey l x.slot x.ev) s.wheel.slots)
    if n < wheelSlots then n else leastFree 0 s.wheel.slots

/-- The generation of the next event of a slot: 7-bit, wrapping (R154). -/
def State.nextGen (s : State) (slot : Nat) : Nat :=
  match lookup s.wheel.fates slot with
  | some f => (f.handle / 131072 + 1) % 128
  | none => 0

/-- What the results 2 to 5 count and raise (R155, R175, R176). (DEDUCED, notes/assumptions/63.md) -/
def State.insertNoted (s : State) (g : Group) (ch : Chan) (res : Nat) : State :=
  match res with
  | 2 => (s.bump EW_PAST_CNT_CNT).raise F_EW_PAST_DUE ch
  | 3 => ((s.bump EW_PAST_CNT_CNT).putFlag (PEO_ISR_PAST ch) true).raise F_EW_PAST_DUE ch
  | 4 => ((s.bump EW_FULL_CNT_CNT).raiseSrc 105).raise F_EW_FULL ch
  | 5 => (s.bump EW_FULL_CNT_CNT).raise F_EW_QUOTA g
  | _ => s

/-- An insertion for a group (R154 to R157): the state after it, the result and the handle.
(DEDUCED, notes/assumptions/63.md) -/
def State.insert (s : State) (g : Group) (m0 : Bool) (r : Insertion) : State × Nat × Nat :=
  let res := s.insertResult g m0 r
  let s1 := s.insertNoted g r.ch res
  if 2 < res then (s1, res, 0)
  else
    let d : Dom := toIx 4 (s.get (PEO_CFG_DOM r.ch))
    let c := cmpCount r.dir r.target
    let slot := s.pickSlot
    let handle := slot + s.nextGen slot * 131072
    let e : Event := { cmp := c, width := r.width, tag := r.tag, ch := r.ch, action := r.action, dir := r.dir,
                       log := r.log, prio := r.prio, group := g, seq := s.wheel.seq, handle := handle, insTt := s.tt,
                       insFar := decide (nearReach ≤ (c - s.count d).natAbs), near := false, kept := false }
    let s2 := (s1.bump EW_INS_CNT_CNT).onWheel (fun w => { w with
      seq := (w.seq + 1) % 2 ^ 32, inserts := w.inserts ++ [(g.val, r.bytes)] })
    if res = 2 then
      let (k, s3) := s2.draw
      let up := if r.dir = 1 then false else if r.dir = 0 then true else Config.openUp k
      ((((s3.cleanSlot slot).fire slot e up false true s.tt).settleChans s [e.ch] s.tt).endPosPulses d s.tt, res, handle)
    else (s2.putEvent slot e, res, handle)

/-- The insertion that a group's port registers describe (R152, R154, R177). -/
def State.portInsertion (s : State) (g : Group) (v : Word) : Insertion :=
  { target := s.rdInt (EW_INS_TGT g), width := s.get (EW_INS_WIDTH_W g), tag := s.rd (EW_INS_TAG g),
    ch := toIx 32 (bitsOf v.toNat 0 5), action := toIx 4 (bitsOf v.toNat 8 2), dir := toIx 4 (bitsOf v.toNat 10 2),
    past := v.toNat.testBit 12, log := v.toNat.testBit 13, prio := toIx 16 (bitsOf v.toNat 16 4),
    reserved := v &&& 0xFFF0C0E0 != 0 }

/-- A write of `EW_INS_CTRL` performed (R154, R155): `EW_INS_STAT` takes RESULT and, for results 0 to 2, HANDLE. -/
def State.portInsert (s : State) (g : Group) (m : Master) (v : Word) : State :=
  let s1 := s.wr (EW_INS_CTRL g) (v &&& 0x000F3F1F)
  let (s2, res, handle) := s1.insert g (m.val == 0) (s1.portInsertion g v)
  let s3 := if res ≤ 2 then s2.put (EW_INS_STAT_HANDLE g) handle else s2
  s3.put (EW_INS_STAT_RESULT g) res

/-- A port write of a group held until its mask cancel completes (R154, R160). (DEDUCED, notes/assumptions/61.md) -/
def State.holdPort (s : State) (g : Group) (m : Master) (off : Nat) (v : Word) : State :=
  (s.onWheel (fun w => { w with held := alter w.held g (fun l => l ++ [⟨off, v, m⟩]) })).when (off == 0x10)
    (fun s => s.putFlag (EW_INS_STAT_BUSY g) true)

/-- A port write of a group made now: the descriptor words are stored, `EW_INS_CTRL` inserts (R154). -/
def State.portWrite (s : State) (g : Group) (m : Master) (off : Nat) (v : Word) : State :=
  if off = 0x10 then s.portInsert g m v else s.wr (EW_INS_TGT g + off) v

/-- `EW_INSERT` (R154): a write of `EW_INS_CTRL`. Held while the group's mask cancel runs (R160).
(DEDUCED, notes/assumptions/63.md) -/
def execEwInsert (g : Group) (m : Master) (v : Word) (s : State) : Host.Outcome State Fault Refusal :=
  .next (s.portal m (EW_INS_CTRL g) (ownOr0 g m) (if s.flag (EW_INS_STAT_BUSY g) || (s.wheel.masked.get g).isSome then s.holdPort g m 0x10 v
  else s.portInsert g m v))

/-! ### Cancellation (R160) -/

/-- A cancel by handle for a group: the state after it and the RESULT. (DEDUCED, notes/assumptions/61.md) -/
def State.cancelHandle (s : State) (g : Group) (m0 : Bool) (h : Nat) : State × Nat :=
  let slot := h % wheelSlots
  match lookup s.wheel.slots slot with
  | some e =>
    if e.handle ≠ h then (s, 2)
    else if e.group ≠ g ∧ !m0 then (s, 3)
    else (((s.removeEvent slot e).setFate slot e false).bump EW_CANCEL_CNT_CNT, 0)
  | none =>
    match s.wheel.late.find? (fun x => x.ev.handle = h) with
    | some x =>
      if x.ev.group ≠ g ∧ !m0 then (s, 3)
      else (((s.onWheel (fun w => { w with late := w.late.filter (fun y => y.ev.handle ≠ h) })).setFate slot x.ev false).bump
        EW_CANCEL_CNT_CNT, 0)
    | none =>
      match lookup s.wheel.fates slot with
      | some f => if f.handle = h ∧ f.fired then (if f.group ≠ g ∧ !m0 then (s, 3) else (s, 1)) else (s, 2)
      | none => (s, 2)

/-- `EW_CANCEL_HANDLE` (R160): a write of `EW_CAN_HANDLE`. (DEDUCED, notes/assumptions/61.md) -/
def execEwCancelHandle (g : Group) (m : Master) (v : Word) (s : State) : Host.Outcome State Fault Refusal :=
  .next (s.portal m (EW_CAN_HANDLE g) (ownOr0 g m) (
    let (s1, res) := s.cancelHandle g (m.val == 0) (v.toNat % 2 ^ 24)
    s1.put (EW_CAN_STAT_RESULT g) res))

/-- A mask cancel of a group (R160): its matching events leave the wheel; the number removed.
(DEDUCED, notes/assumptions/61.md) -/
def State.cancelMask (s : State) (g : Group) (tag mask : Word) : State × Nat :=
  let hits := s.wheel.slots.filter (fun x => x.2.group == g && x.2.tag &&& mask == tag &&& mask)
  ((s.each hits (fun s x => (s.removeEvent x.1 x.2).setFate x.1 x.2 false)).addTo EW_CANCEL_CNT_CNT hits.length, hits.length)

/-- A mask cancel of a group begun: its port is held until it is done (R160). A GO while one runs is ignored. -/
def State.startMask (s : State) (g : Group) : State :=
  if (s.wheel.masked.get g).isSome then s
  else
    let (s1, n) := s.cancelMask g (s.rd (EW_CAN_TAG g)) (s.rd (EW_CAN_MASK g))
    (s1.onWheel (fun w => { w with masked := alter w.masked g (fun _ => some n) })).putFlag (EW_CAN_CTRL_BUSY g) true

/-- `EW_MASK_CANCEL` (R160): a write of `EW_CAN_CTRL` with GO. (DEDUCED, notes/assumptions/61.md) -/
def execEwMaskCancel (g : Group) (m : Master) (s : State) : Host.Outcome State Fault Refusal :=
  .next (s.portal m (EW_CAN_CTRL g) (ownOr0 g m) (s.startMask g))

/-- `EW_RELEASE` (R169): a write of `EW_G_CTRL` with RELEASE, staged for the next boundary. -/
def execEwRelease (g : Group) (m : Master) (s : State) : Host.Outcome State Fault Refusal :=
  .next (s.portal m (EW_G_CTRL g) (ownOr0 g m) (s.stageBy m (EW_G_CTRL g) 1))

/-- The release of a group commits: its LSG-SAFE latch clears and its channels return with L = SAFEVAL (R169, R335). -/
def State.commitRelease (s : State) (g : Nat) : State :=
  (s.put SSC_STAT_GHOLD (withBits (s.get SSC_STAT_GHOLD) g 1 0)).refreshOuts

/-! ### Raw access to the wheel store (R310) -/

/-- The events of a slot whose words raw access has changed: the spec gives no layout of a slot, so what event the words
then describe is left free. (DESIGN CHOICE, notes/assumptions/60.md) -/
def rawEvent (e : Event) (n : Nat) : Event :=
  { e with cmp := (Config.wheelRaw n 0 : Int) - Config.wheelRaw n 1, width := Config.wheelRaw n 2 % 2 ^ 32,
           tag := BitVec.ofNat 32 (Config.wheelRaw n 3), action := toIx 4 (Config.wheelRaw n 4),
           dir := toIx 3 (Config.wheelRaw n 5) |>.castSucc, log := Config.wheelRaw n 6 % 2 = 1,
           prio := toIx 16 (Config.wheelRaw n 7) }

/-- A raw access to a word of the wheel store. A word that raw access wrote or read since its slot last changed reads
back as it did; the data of any other word is left free. (DESIGN CHOICE, notes/assumptions/60.md) -/
def State.rawWheel (s : State) (wr : Bool) (word : Nat) (data : DWord) (chk : BitVec 16) : State :=
  let a := wheelBase + word * 8
  if wr then
    let (n, s1) := s.draw
    let s2 := (((s1.setWord64 a data).setSyndrome a (chk ^^^ latEncode data)).onWheel (fun w => { w with
      raws := word :: w.raws.filter (fun x => x != word) })).raise F_LAT_RAW_WRITE 3
    match lookup s2.wheel.slots (word / 4) with
    | some e => s2.onWheel (fun w => { w with slots := putKey w.slots (word / 4) (rawEvent e n) })
    | none => s2
  else
    let s1 := if s.wheel.raws.contains word then s
      else
        let (n, s0) := s.draw
        (s0.setWord64 a (BitVec.ofNat 64 (Config.wheelRaw n 8))).onWheel (fun w => { w with raws := word :: w.raws })
    let d := s1.word64 a
    let syn := s1.syndrome a
    (s1.wr64 SP_RAW_DATA d.toNat).wr SP_RAW_CHK (BitVec.ofNat 32 ((latEncode d ^^^ syn).toNat + syn.toNat * 0x10000))

end Sys2Proof.Machine
end

