-- ==== Sys2Proof/Machine/Kiln.lean ====
section
/-! DEFINITION. The kiln's inputs: encoder edges, losses, domains, source events and the conversion service (R17 to R43).
The commit window is in Machine/Boundary.lean. -/

namespace Sys2Proof.Machine

/-! ### Encoders -/

/-- Whether an encoder counts (R20). -/
def State.encOn (s : State) (n : Nat) : Bool :=
  s.flag (ENC_CFG_EN n)

/-- Whether an encoder is marked lost (R20, R21). -/
def State.encLost (s : State) (n : Nat) : Bool :=
  s.flag (ENC_STAT_LOSS_A n) || s.flag (ENC_STAT_LOSS_B n)

/-- A bit of `ENC_STAT` set; a newly set one raises SRC[58] (R51). -/
def State.setEncStat (s : State) (f : Fld) : State :=
  if s.flag f then s else (s.putFlag f true).raiseSrc 58

/-- The live fail-safe status `ENC_STAT.SIG_BAD` of an encoder (R20). -/
def State.syncSigBad (s : State) (n : Enc) : State :=
  let e := s.kiln.enc.get n
  if e.badA || e.badB then s.setEncStat (ENC_STAT_SIG_BAD n) else s.putFlag (ENC_STAT_SIG_BAD n) false

/-- The TT that stamps an edge accepted now (R18). (DEDUCED, notes/assumptions/89.md) -/
def State.edgeTt (s : State) (n : Enc) : Nat :=
  s.tt - (2 + s.get (ENC_CFG_FILT n))

/-- `k` edges accepted now counted towards overrate and `ENC_RATE` (R20). (DEDUCED, notes/assumptions/13.md) -/
def State.countEdges (s : State) (n : Enc) (k : Nat) : State :=
  let e := s.kiln.enc.get n
  let before := e.recent.filter (fun t => decide (s.tt ≤ t + usKclk))
  let wasOver := e.overrate && decide (50 < before.length)
  let win := List.replicate k s.tt ++ e.recent.filter (fun t => decide (s.tt < t + usKclk))
  let isOver := decide (50 < win.length)
  let s1 := s.onEnc n (fun e => { e with recent := win, overrate := isOver, edges := e.edges + k })
  if isOver && !wasOver then (s1.setEncStat (ENC_STAT_OVERRATE n)).raise (F_ENC_FAULT n) 0 else s1

/-! ### Domains -/

/-- The encoder that a domain names as its primary, and as its check encoder. -/
def State.priOf (s : State) (d : Dom) : Nat := s.get (DOM_CFG_PRI d)
def State.chkOf (s : State) (d : Dom) : Nat := s.get (DOM_CFG_CHK d)

/-- Bit 2 of the causes of DEGRADED: a check encoder lost, or a domain on its check encoder (R436). -/
def State.syncDegr2 (s : State) : State :=
  s.degradeWhen 2 ((allFin 4).any (fun d => s.flag (DOM_STAT_ON_CHECK d) || s.flag (DOM_STAT_CHK_LOST d)))

/-- A fresh cross-check window (R25, R26). -/
def DomState.freshWindow (c : DomState) : DomState :=
  { c with winPri := 0, winChk := 0, stall := 0 }

/-- The domain's position held as it stands (R24, R27). -/
def State.holdPos (s : State) (d : Dom) : State :=
  let p := s.pv d
  s.onDom d (fun c => { c with pos := p * q24, ett := none })

/-- The check encoder of a domain taken as lost (R26, R27). -/
def State.chkLoss (s : State) (d : Dom) (silent : Bool) : State :=
  let s1 := (s.putFlag (DOM_STAT_CHK_LOST d) true).putFlag (DOM_STAT_CHK_LOST_EV d) true
  let s2 := (s1.onDom d (fun c => { c.freshWindow with chkSilent := silent })).raise (F_DOM_CHK_LOST d) 0
  let s3 :=
    if s.flag (DOM_STAT_ON_CHECK d) then
      ((s2.holdPos d).putFlag (DOM_STAT_PRI_LOST d) true).raise (F_DOM_PRI_LOST d) 0
    else s2
  s3.degrade 2

/-- The primary encoder of a domain lost: failover where it is permitted and the check encoder usable, and otherwise the
PV holds (R27). (DESIGN CHOICE, notes/assumptions/127.md) -/
def State.priLoss (s : State) (d : Dom) : State :=
  let usable := s.flag (DOM_CFG_CHKEN d) && !s.flag (DOM_STAT_CHK_LOST d) && !s.encLost (s.chkOf d)
  if s.flag (DOM_CFG_FAILOVER d) && usable then
    let p := s.pv d
    let s1 := s.onDom d (fun c => { c.freshWindow with pos := p * q24, ett := some s.tt })
    ((s1.putFlag (DOM_STAT_ON_CHECK d) true).raise (F_DOM_FAILOVER d) 0).degrade 2
  else
    (((s.holdPos d).onDom d DomState.freshWindow).putFlag (DOM_STAT_PRI_LOST d) true).raise (F_DOM_PRI_LOST d) 0

/-- What the loss of an encoder does to the domains that use it (R26, R27). -/
def State.domLoss (s : State) (n : Nat) : State :=
  s.each (allFin 4) (fun s d =>
    if !s.domOn d then s
    else if s.priOf d = n ∧ !s.flag (DOM_STAT_ON_CHECK d) then s.priLoss d
    else if s.flag (DOM_CFG_CHKEN d) ∧ s.chkOf d = n ∧ !s.flag (DOM_STAT_CHK_LOST d) then s.chkLoss d false
    else s)

/-- The net change of a domain's position over the last 1 s (R28). -/
def State.netMotion (s : State) (d : Dom) : Int :=
  let c := s.dom d
  let old := match c.moves.find? (fun e => decide (e.1 + sKclk ≤ s.tt)) with
    | some e => e.2
    | none => c.movedBefore
  c.moved - old

/-- `DOM_STAT.STOPPED` brought in line with R28; a change raises SRC[50 + d], and in MAINTENANCE the loss of it by an
enabled domain raises MAINT_MOTION, abandons the intrusive test and leaves for STANDBY at the next boundary (R435). -/
def State.syncStopped (s : State) (d : Dom) : State :=
  let stopped := decide ((s.netMotion d).natAbs < 4 * 256 * q24)
  if stopped = s.flag (DOM_STAT_STOPPED d) then s
  else
    let s1 := (s.putFlag (DOM_STAT_STOPPED d) stopped).raiseSrc (50 + d)
    if !stopped && s1.mode = modeMaintenance && s1.domOn d then
      (s1.raise F_MAINT_MOTION d).abandonTest.onKiln (fun k => { k with maintExit := true })
    else s1

/-- A move recorded for R28; entries older than 1 s become the base. -/
def DomState.addMove (c : DomState) (tt : Nat) (delta : Int) : DomState :=
  let m := c.moved + delta
  let young := c.moves.takeWhile (fun e => decide (tt < e.1 + sKclk))
  let base := match c.moves.drop young.length with
    | e :: _ => e.2
    | [] => c.movedBefore
  { c with moved := m, moves := (tt, m) :: young, movedBefore := base }

/-- The step grid after a move of the firing domain (R37): the index of the grid line crossed last. -/
def gridIndex (t0 k : Int) (step : Nat) (pv : Int) : Int :=
  if step = 0 then k
  else if t0 + (k + 1) * step ≤ pv then (pv - t0) / step
  else if pv ≤ t0 + (k - 1) * step then -((t0 - pv) / step)
  else k

/-- A source event recognised: the first one waits, further ones merge into its boundary, but for one recognised after the
boundary's t0 (R38, R39). -/
def State.recognise (s : State) (e : SourceEvent) : State :=
  s.onKiln (fun k => { k with src := k.src.take 1 ++ [e] })

/-- The step grid follows the firing domain; a line crossed is a step recognised 1 KCLK after acceptance (R37, R38). -/
def State.gridMove (s : State) (d : Dom) : State :=
  if s.kiln.running && s.get TB_CTRL_FSRC = 0 && s.get TB_CTRL_FDOM = d.val then
    let k := gridIndex s.kiln.t0 s.kiln.k (s.get TB_STEP_STEP) (satPv (roundPos (s.dom d).pos))
    if k = s.kiln.k then s else (s.onKiln (fun x => { x with k := k })).recognise ⟨s.tt + 1, false, s.kiln.k⟩
  else s

/-- The record of the captures sent on a domain's lanes starts afresh (R67). (DEDUCED, notes/assumptions/31.md) -/
def State.forgetSent (s : State) (d : Dom) : State :=
  { s with lanes := s.lanes.mapFinIdx (fun i l _ => if s.get (HL_CFG_DOM i) = d.val then { l with sent := [] } else l) }

/-- A reversal of a domain's direction: `DOM_DIR_CNT`, SRC[54 + d], and the record of captures sent starts afresh (R51,
R67). -/
def State.reversed (s : State) (d : Dom) : State :=
  ((s.bump (DOM_DIR_CNT_CNT d)).raiseSrc (54 + d)).forgetSent d

/-- A domain moved by an accepted edge to a new exact position (R24, R27, R30, R37, R51, R153). -/
def State.moveDom (s : State) (d : Dom) (ett : Nat) (delta : Int) : State :=
  let c := s.dom d
  let oldPv := satPv (roundPos c.pos)
  let oldCount := s.count d
  let new := max (-(2 ^ 63) * (q24 : Int)) (min ((2 ^ 63 - 1) * (q24 : Int)) (c.pos + delta))
  let newPv := satPv (roundPos new)
  let s1 := s.onDom d (fun c =>
    { (c.addMove s.tt (new - c.pos)) with pos := new, whole := newPv / 256, ett := some ett, hist := ((ett, newPv) :: c.hist).take 65536 })
  let s2 :=
    if newPv = oldPv then s1
    else
      let up := decide (oldPv < newPv)
      let s2 := if c.up = some (!up) then s1.reversed d else s1
      (s2.putFlag (DOM_STAT_REVERSE d) (!up)).onDom d (fun c => { c with up := some up })
  let s3 := (s2.putFlag (DOM_STAT_HIST_FULL d) (decide ((s2.dom d).hist.length = 65536))).syncStopped d
  let s4 := if oldCount = newPv / 256 then s3 else s3.wheelMove d oldCount (newPv / 256)
  s4.gridMove d

/-- The discrepancy of the open cross-check window, in 1/2^24 PV (R25). -/
def State.windowDiff (s : State) (d : Dom) : Int :=
  let c := s.dom d
  c.winPri * 256 * q24 - c.winChk * 256 * s.get (DOM_CHK_RATIO_RATIO d)

/-- The cross-check after a primary count (R25, R26). (DEDUCED, notes/assumptions/14.md) -/
def State.crossCheck (s : State) (d : Dom) : State :=
  let c := s.dom d
  let s1 :=
    if s.get (DOM_CWIN_COUNTS d) ≤ c.winPri.natAbs then
      let bad := decide (s.get (DOM_CTOL_PV d) * q24 < (s.windowDiff d).natAbs)
      let s1 := s.onDom d (fun c => { c with winPri := 0, winChk := 0 })
      if bad then (s1.putFlag (DOM_STAT_DISAGREE d) true).raise (F_DOM_DISAGREE d) 0 else s1
    else s
  if s.get (DOM_CSTALL_COUNTS d) ≤ c.stall.natAbs then s1.chkLoss d true else s1

/-- What an accepted count of an encoder does to a domain (R24 to R27). (DEDUCED, notes/assumptions/14.md) -/
def State.domCount (s : State) (n : Enc) (up : Bool) (ett : Nat) (d : Dom) : State :=
  let raw : Int := if up then 1 else -1
  let sgn : Int := if up != s.flag (DOM_CFG_INV d) then 1 else -1
  if !s.domOn d then s
  else if s.flag (DOM_STAT_ON_CHECK d) then
    if s.chkOf d = n.val ∧ !s.flag (DOM_STAT_CHK_LOST d) then
      s.moveDom d ett (sgn * 256 * s.get (DOM_CHK_RATIO_RATIO d))
    else s
  else if s.priOf d = n.val then
    let s1 := s.moveDom d ett (sgn * 256 * q24)
    if s1.flag (DOM_CFG_CHKEN d) && !s1.flag (DOM_STAT_CHK_LOST d) then
      (s1.onDom d (fun c => { c with winPri := c.winPri + raw, stall := c.stall + raw })).crossCheck d
    else s1
  else if s.flag (DOM_CFG_CHKEN d) ∧ s.chkOf d = n.val then
    if s.flag (DOM_STAT_CHK_LOST d) then s.onDom d (fun c => { c with chkSilent := false })
    else s.onDom d (fun c => { c with winChk := c.winChk + raw, stall := 0 })
  else s

/-! ### The encoder commands -/

/-- The levels of A and B after an accepted edge, and the count it makes before INV: none for an illegal transition
(R19, R20). (DEDUCED, notes/assumptions/13.md) -/
def quadrature (a b : Bool) (e : EncEdge) : Bool × Bool × Option Bool :=
  match e with
  | .a => (!a, b, some ((!a) != b))
  | .b => (a, !b, some ((!b) == a))
  | .both => (!a, !b, none)

/-- `ENCODER_EDGE` (R19, R20): an accepted transition of A, of B, or of both in one KCLK.
(DEDUCED, notes/assumptions/13.md; DESIGN CHOICE, notes/assumptions/130.md) -/
def execEncoderEdge (n : Enc) (e : EncEdge) (s : State) : Host.Outcome State Fault Refusal :=
  let c := s.kiln.enc.get n
  let (a, b, cnt) := quadrature c.a c.b e
  let s0 := s.onEnc n (fun c => { c with a := a, b := b })
  .next (if !s.encOn n || s.encLost n then s0
  else match cnt with
  | none =>
    (((s0.countEdges n 2).setEncStat (ENC_STAT_ILLEGAL n)).bump (ENC_ILL_CNT_CNT n)).raise (F_ENC_FAULT n) 0
  | some u =>
    let up := u != s.flag (ENC_CFG_INV n)
    let ett := s.edgeTt n
    let s1 := s0.countEdges n 1
    let s2 := s1.onEnc n (fun c => { c with zRev := c.zRev || c.up == some (!up), up := some up })
    let s3 := (s2.wrInt (ENC_CNT n) (s2.rdInt (ENC_CNT n) + (if up then 1 else -1))).wr64 (ENC_ETT n) ett
    s3.each (allFin 4) (fun s d => s.domCount n up ett d))

/-- `ENC_OVERRATE_END` (R20): no 1 µs window ending at the present holds more than 50 edges. -/
def execEncOverrateEnd (n : Enc) (s : State) : Host.Outcome State Fault Refusal :=
  let win := (s.kiln.enc.get n).recent.filter (fun t => decide (s.tt < t + usKclk))
  .next (if win.length ≤ 50 then s.onEnc n (fun c => { c with recent := win, overrate := false }) else s)

/-- `ENC_INDEX_EDGE` (R20): a transition of Z; the active one is checked against `ENC_ZPER` or becomes the reference.
(DESIGN CHOICE, notes/assumptions/130.md) -/
def execEncIndexEdge (n : Enc) (rising : Bool) (s : State) : Host.Outcome State Fault Refusal :=
  .next (if !s.flag (ENC_CFG_ZEN n) || rising == s.flag (ENC_CFG_ZPOL n) then s
  else
    let cnt := s.rdInt (ENC_CNT n)
    let s1 := (s.setEncStat (ENC_STAT_INDEX_SEEN n)).wrInt (ENC_ZCNT n) cnt
    if !s.encOn n || s.encLost n || s.flag (ENC_STAT_LOSS_Z n) then s1
    else
      let c := s.kiln.enc.get n
      let per := s.get (ENC_ZPER_COUNTS n)
      let bad := match c.zRef with
        | some r => per != 0 && !c.zRev
            && decide ((s.get (ENC_ZTOL_COUNTS n) : Int) < (((cnt - r).natAbs : Int) - per).natAbs)
        | none => false
      let s2 := s1.onEnc n (fun c => { c with zRef := some cnt, zRev := false })
      if bad then ((s2.setEncStat (ENC_STAT_INDEX_ERR n)).bump (ENC_ZERR_CNT_CNT n)).raise F_ENC_INDEX 0 else s2)

/-- The fail-safe status of A and B as the detector reports it: what it no longer reports invalid is valid from now on. -/
def EncState.report (c : EncState) (a b : Bool) (tt : Nat) : EncState :=
  { c with badA := a, badB := b, okTtA := if c.badA && !a then tt else c.okTtA, okTtB := if c.badB && !b then tt else c.okTtB }

/-- `ENC_SIGNAL_LOSS` (R20): what the fail-safe detector reports invalid continuously for 1 µs, A, B, both, or neither any
longer. -/
def execEncSignalLoss (n : Enc) (a b : Bool) (s : State) : Host.Outcome State Fault Refusal :=
  let s1 := (s.onEnc n (fun c => c.report a b s.tt)).syncSigBad n
  let newA := a && !s.flag (ENC_STAT_LOSS_A n)
  let newB := b && !s.flag (ENC_STAT_LOSS_B n)
  .next (if !s.encOn n || !(newA || newB) then s1
  else
    let s2 := (s1.when newA (fun s => s.setEncStat (ENC_STAT_LOSS_A n))).when newB (fun s => s.setEncStat (ENC_STAT_LOSS_B n))
    let s3 := s2.raise (F_ENC_FAULT n) 0
    if s.encLost n then s3 else s3.domLoss n)

/-- `ENC_Z_LOSS` (R20): Z invalid for 1 µs while it is used. -/
def execEncZLoss (n : Enc) (s : State) : Host.Outcome State Fault Refusal :=
  let s1 := s.onEnc n (fun c => { c with zBadTt := s.tt })
  .next (if s.encOn n && s.flag (ENC_CFG_ZEN n) && !s.flag (ENC_STAT_LOSS_Z n) then
    (s1.setEncStat (ENC_STAT_LOSS_Z n)).raise (F_ENC_FAULT n) 0
  else s1)

/-- Which signals of an encoder have been valid continuously for 1 ms, as far as the reports tell (R21). -/
def State.encValid (s : State) (n : Enc) : EncValid :=
  let c := s.kiln.enc.get n
  ⟨!c.badA && decide (c.okTtA + msKclk ≤ s.tt), !c.badB && decide (c.okTtB + msKclk ≤ s.tt), decide (c.zBadTt + msKclk ≤ s.tt)⟩

/-- A write of `ENC_STAT` (R12, R21): a loss bit clears only when its signal has been valid for 1 ms.
(DEDUCED, notes/assumptions/13.md) -/
def State.clearEncStat (s : State) (n : Enc) (v : Word) (ok : EncValid) : State :=
  let keep := (if ok.a then 0 else 1) + (if ok.b then 0 else 2) + (if ok.z then 0 else 4)
  let clr := v.toNat &&& (0x7F - keep)
  let s1 := s.wr (ENC_STAT n) (s.rd (ENC_STAT n) &&& ~~~(BitVec.ofNat 32 clr))
  let s2 := (s1.onEnc n (fun c => c.report (c.badA && !ok.a) (c.badB && !ok.b) s.tt)).syncSigBad n
  let restart := (s.encLost n && !s2.encLost n) || (s.flag (ENC_STAT_LOSS_Z n) && !s2.flag (ENC_STAT_LOSS_Z n))
  if restart then s2.onEnc n (fun c => { c with zRef := none, zRev := false }) else s2

/-- `ENC_LOSS_CLEAR` (R21): a write of `ENC_STAT`; `ok` tells which signals have been valid for 1 ms.
(DEDUCED, notes/assumptions/13.md) -/
def execEncLossClear (n : Enc) (m : Master) (v : Word) (ok : EncValid) (s : State) : Host.Outcome State Fault Refusal :=
  .next (s.portal m (ENC_STAT n) (m == 0) (s.clearEncStat n v ok))

/-- `DOM_STOPPED_SET` (R28): the net change over the last 1 s has become smaller than 4 counts. -/
def execDomStoppedSet (d : Dom) (s : State) : Host.Outcome State Fault Refusal :=
  .next (s.syncStopped d)

/-! ### Source events and firing conditions -/

/-- `FIRE_IN_EDGE` (R38, R39, R43): an edge of FIRE_IN recognised. (DEDUCED, notes/assumptions/89.md) -/
def execFireInEdge (rising : Bool) (s : State) : Host.Outcome State Fault Refusal :=
  .next (if s.kiln.running && s.get TB_CTRL_FSRC = 1 && rising != s.flag TB_CTRL_FIRE_POL then
    (s.recognise ⟨s.tt, true, 0⟩).onKiln (fun k => { k with quiet := 0, srcLost := false })
  else s)

/-- `FIRING_OVERSPEED` (R40): the ninth consecutive delayed firing. -/
def execFiringOverspeed (s : State) : Host.Outcome State Fault Refusal :=
  .next (if decide (9 ≤ s.get TB_OVS_RUN_RUN) && !s.kiln.ovsRaised then
    (s.raise F_FIRING_OVERSPEED 0).onKiln (fun k => { k with ovsRaised := true })
  else s)

/-- `TB_SRC_LOST` (R43): no FIRE_IN edge for 16 consecutive FMAX firings. -/
def execTbSrcLost (s : State) : Host.Outcome State Fault Refusal :=
  .next (if s.get TB_CTRL_FSRC = 1 ∧ 16 ≤ s.kiln.quiet ∧ !s.kiln.srcLost then
    (s.raise F_TB_SRC_LOST 0).onKiln (fun k => { k with srcLost := true })
  else s)

/-- The step grid re-based on the firing domain's PV; a crossing of the old grid that still waits is dropped (R37). -/
def State.rebaseGrid (s : State) : State :=
  let d : Dom := toIx 4 (s.get TB_CTRL_FDOM)
  let p := s.pv d
  let kept := s.kiln.src.filter (fun e => e.fireIn)
  s.onKiln (fun k => { k with t0 := p, k := 0, kStep := 0, src := kept })

/-! ### Presets and the conversion service -/

/-- `DOM_PRESET_GO` (R29): a write of `DOM_PRESET_CTRL` with GO, staged. -/
def execDomPresetGo (d : Dom) (m : Master) (s : State) : Host.Outcome State Fault Refusal :=
  .next (s.portal m (DOM_PRESET_CTRL d) (m == 0) (s.stageBy m (DOM_PRESET_CTRL d) 1))

/-- A staged preset at its boundary (R29): refused, or applied. (DEDUCED, notes/assumptions/19.md) -/
def State.commitPreset (s : State) (d : Dom) : State :=
  let busy := s.wheel.slots.any (fun x => s.evDom x.2 == d)
  if s.mode ≠ modeMaintenance ∨ !s.flag (DOM_STAT_STOPPED d) ∨ busy then s.putFlag (DOM_STAT_PRESET_REFUSED d) true
  else
    let p := s.rdInt (DOM_PRESET d)
    let s1 := s.onDom d (fun c => { c with pos := p * q24, whole := p / 256, ett := none, hist := [], origin := s.tt })
    let s2 := ((s1.wrInt (DOM_BPV d) p).putFlag (DOM_STAT_HIST_FULL d) false).forgetSent d
    let s3 := s2.onTe (fun x => { x with
      bounds := x.bounds.modifyHead (fun b => { b with bpv := b.bpv.set d.val p }),
      adminDoms := s2.te.adminDoms ++ [(d.val, some p)], presetFn := x.presetFn.set d s2.fn })
    if s.get TB_CTRL_FDOM = d.val then s3.onKiln (fun k => { k with rebase := true }) else s3

/-- The bank of a domain's conversion service that a master sees (R36). -/
def State.bank (s : State) (d : Dom) (m : Master) : CvtBank :=
  (lookup s.kiln.cvt (d.val * 16 + m.val)).getD {}

/-- A bank of the conversion service replaced. -/
def State.setBank (s : State) (d : Dom) (m : Master) (b : CvtBank) : State :=
  s.onKiln (fun k => { k with cvt := setKey k.cvt (d.val * 16 + m.val) b {} })

/-- A conversion begun: its result as of now is taken when BUSY clears; a GO while BUSY is ignored (R36). -/
def State.startCvt (s : State) (d : Dom) (m : Master) (c : Cvt) : State :=
  let b := s.bank d m
  if b.busy.isSome then s
  else s.setBank d m { b with busy := some (toIx 8 c.code,
    (if c.code < 2 then BitVec.ofNat 64 (unsignedOf 64 c.out) else 0),
    (if c.code < 2 then BitVec.ofNat 32 (min c.err (2 ^ 32 - 1)) else 0)) }

/-- `DOM_CVT_T2P` (R31, R32, R36): GO with DIR = 0. -/
def execDomCvtT2p (d : Dom) (m : Master) (s : State) : Host.Outcome State Fault Refusal :=
  .next (s.startCvt d m (s.t2p d (s.bank d m).inp.toNat))

/-- `DOM_CVT_P2T` (R33, R36): GO with DIR = 1. -/
def execDomCvtP2t (d : Dom) (m : Master) (s : State) : Host.Outcome State Fault Refusal :=
  .next (s.startCvt d m (s.p2t d (s.bank d m).inp.toInt))

/-- `DOM_CVT_COMPLETE` (R36): BUSY clears; OUT, ERR and RESULT take the new result. -/
def execDomCvtComplete (d : Dom) (m : Master) (s : State) : Host.Outcome State Fault Refusal :=
  let b := s.bank d m
  .next (match b.busy with
  | some (r, o, e) => s.setBank d m { b with busy := none, result := r, out := o, err := e }
  | none => s)

/-! ### Commits of the kiln's registers -/

/-- A `DOM_CFG` value judged at its commit (R23): true when it is refused. -/
def State.domCfgRefused (s : State) (v : Word) : Bool :=
  let x := v.toNat
  (x.testBit 4 && bitsOf x 1 3 == bitsOf x 5 3) || (x.testBit 0 && !s.encOn (bitsOf x 1 3))

/-- A staged `DOM_CFG` write commits, or is refused (R23, R24, R27, R436). -/
def State.commitDomCfg (s : State) (d : Dom) (v : Word) : State :=
  if s.domCfgRefused v then s.putFlag TB_STAT_CFG_REJ true
  else
    let old := (s.rd (DOM_CFG d)).toNat
    let new := v.toNat % 1024
    let same := bitsOf old 0 4 == bitsOf new 0 4 && old.testBit 9 == new.testBit 9 && !s.flag (DOM_STAT_ON_CHECK d)
    let s1 := if same then s else s.holdPos d
    let s2 := (s1.onDom d (fun c => { c.freshWindow with chkSilent := false })).wr (DOM_CFG d) (BitVec.ofNat 32 new)
    let s3 := (s2.putFlag (DOM_STAT_ON_CHECK d) false).putFlag (DOM_STAT_CHK_LOST d) false
    let s4 := if new.testBit 0 && !old.testBit 0 then s3.onKiln (fun k => { k with newEn := k.newEn ++ [d.val] }) else s3
    let s5 := if s4.domOn d && s4.encLost (s4.priOf d) then s4.priLoss d else s4
    (s5.when (s5.domOn d && s5.flag (DOM_CFG_CHKEN d) && !s5.flag (DOM_STAT_CHK_LOST d) && s5.encLost (s5.chkOf d))
      (fun s => s.chkLoss d false)).syncDegr2

/-- A staged `TB_STEP`, `TB_CTRL` or `ENC_CFG` write commits (R20, R37, R41). -/
def State.commitTbStep (s : State) (v : Word) : State :=
  let s1 := s.wr TB_STEP v
  if v = s.rd TB_STEP then s1 else s1.onKiln (fun k => { k with rebase := true })

def State.commitTbCtrl (s : State) (v : Word) : State :=
  let new := v.toNat % 32
  let s1 := s.wr TB_CTRL (BitVec.ofNat 32 new)
  if bitsOf new 2 2 ≠ s.get TB_CTRL_FDOM ∨ (bitsOf new 0 2 = 0 ∧ s.get TB_CTRL_FSRC ≠ 0) then
    s1.onKiln (fun k => { k with rebase := true })
  else s1

def State.commitEncCfg (s : State) (n : Enc) (v : Word) : State :=
  let s1 := s.wr (ENC_CFG n) (v &&& 0xFF)
  if v.toNat.testBit 0 && !s.encOn n then s1.onEnc n (fun c => { c with zRef := none, zRev := false }) else s1

/-- What the start of a boundary does to lost check encoders: cross-checking resumes with a fresh window once the check
encoder is usable again (R26). (DESIGN CHOICE, notes/assumptions/127.md) -/
def State.resumeChecks (s : State) : State :=
  (s.each (allFin 4) (fun s d =>
    if s.flag (DOM_STAT_CHK_LOST d) && !s.flag (DOM_STAT_ON_CHECK d) && !(s.dom d).chkSilent && !s.encLost (s.chkOf d) then
      (s.putFlag (DOM_STAT_CHK_LOST d) false).onDom d DomState.freshWindow
    else s)).syncDegr2

end Sys2Proof.Machine
end

