-- ==== Sys2Proof/Machine/Lanes.lean ====
section
/-! DEFINITION. The lanes, the checks of a message, and the codewords of both directions: scrambling, Reed-Solomon parity, FILL and
the order of precedence (R53, R54, R56, R57, R70, R446). -/

namespace Sys2Proof.Machine

/-! ### Lanes -/

/-- What a lane holds beside its registers. -/
def State.lane (s : State) (n : Lane) : LaneState :=
  s.lanes.get n

/-- The lane states of R91. -/
def laneDown : Nat := 0
def laneTrain : Nat := 1
def laneNegotiate : Nat := 2
def laneCalibrate : Nat := 3
def laneIdentify : Nat := 4
def laneReady : Nat := 5
def laneActive : Nat := 6
def laneFailed : Nat := 7

/-- The state of a lane (R91). -/
def State.laneSt (s : State) (n : Lane) : Nat :=
  s.get (HL_STAT_STATE n)

/-- Whether a lane is a peer lane (R94). -/
def State.isPeer (s : State) (n : Nat) : Bool :=
  s.get (HL_CFG_MODE n) == 2

/-- The numbers of the peer lanes, ascending (R94). -/
def State.peers (s : State) : List Nat :=
  numbersWhere 48 s.isPeer

/-- The sagger's SHA3-512 of a message (R420). (DESIGN CHOICE, notes/assumptions/9.md) -/
def sha512 (b : Bytes) : Bytes :=
  natLe 64 (Config.sha3 b)

/-! ### Checks of a message (R56) -/

/-- A function applied n times. -/
def repeatN {α : Type} (n : Nat) (f : α → α) (x : α) : α :=
  match n with
  | 0 => x
  | n + 1 => repeatN n f (f x)

/-- One bit of CRC-16/CCITT-FALSE. -/
def crc16Bit (c : BitVec 16) : BitVec 16 :=
  if c.msb then (c <<< 1) ^^^ 0x1021 else c <<< 1

/-- CRC-16/CCITT-FALSE: polynomial 0x1021, initial value 0xFFFF (R56). (PRESUMED, notes/assumptions/20.md) -/
def crc16 (b : Bytes) : BitVec 16 :=
  b.foldl (fun c x => repeatN 8 crc16Bit (c ^^^ (BitVec.shiftLeft (x.setWidth 16) 8))) 0xFFFF

/-- One bit of CRC-32C. (PRESUMED, notes/assumptions/20.md) -/
def crc32cBit (c : Word) : Word :=
  if c.getLsbD 0 then (c >>> 1) ^^^ 0x82F63B78 else c >>> 1

/-- CRC-32C (Castagnoli), with the reflection and the final inversion usual for it (PRESUMED,
notes/assumptions/20.md; R56). (PRESUMED, notes/assumptions/20.md) -/
def crc32c (b : Bytes) : Word :=
  (b.foldl (fun c x => repeatN 8 crc32cBit (c ^^^ x.setWidth 32)) 0xFFFFFFFF) ^^^ 0xFFFFFFFF

/-- A message of a type: header, content, zero padding and CRC (R56). The content excludes the header. -/
def frame (typ ver flags seq : Nat) (content : Bytes) : Bytes :=
  let len := (8 + content.length + 4 + 7) / 8 * 8
  let head := natLe 1 typ ++ natLe 1 (ver % 16 + flags % 16 * 16) ++ natLe 2 len ++ natLe 2 seq
  let body := head ++ natLe 2 (crc16 head).toNat ++ content ++ List.replicate (len - 12 - content.length) 0
  body ++ natLe 4 (crc32c body).toNat

/-- The little-endian number of `n` bytes of a message from byte `at_` on. -/
def field (b : Bytes) (at_ n : Nat) : Nat :=
  leNat ((b.drop at_).take n)

/-! ### The scrambler (R54) -/

/-- One received bit of the message stream descrambled with x^58 + x^39 + 1 (R54): the bits received before, and the
bit sent. (DEDUCED, notes/assumptions/28.md) -/
def descrambleBit (r : BitVec 58) (y : Bool) : BitVec 58 × Bool :=
  ((r <<< 1) ||| (if y then 1 else 0), (y != r.getLsbD 38) != r.getLsbD 57)

/-- A byte descrambled, its least significant bit first (DEDUCED from R10). (DEDUCED, notes/assumptions/28.md) -/
def descrambleByte (r : BitVec 58) (y : Byte) : BitVec 58 × Byte :=
  (List.range 8).foldl (fun (a : BitVec 58 × Byte) i =>
    let (r1, x) := descrambleBit a.1 (y.getLsbD i)
    (r1, if x then a.2 ||| (1 <<< i) else a.2)) (r, 0)

/-- A run of bytes descrambled. -/
def descramble (r : BitVec 58) (b : Bytes) : BitVec 58 × Bytes :=
  match b with
  | [] => (r, [])
  | y :: t =>
    let (r1, x) := descrambleByte r y
    let (r2, xs) := descramble r1 t
    (r2, x :: xs)

/-- One bit of the message stream scrambled: the bits sent before, and the bit sent. -/
def scrambleBit (r : BitVec 58) (x : Bool) : BitVec 58 × Bool :=
  let y := (x != r.getLsbD 38) != r.getLsbD 57
  ((r <<< 1) ||| (if y then 1 else 0), y)

/-- A run of bits scrambled. -/
def scramble (r : BitVec 58) (l : List Bool) : BitVec 58 × List Bool :=
  match l with
  | [] => (r, [])
  | x :: t =>
    let (r1, y) := scrambleBit r x
    let (r2, ys) := scramble r1 t
    (r2, y :: ys)

/-! ### RS(544,514) over GF(2^10) (R54) -/

/-- A symbol of a codeword. -/
abbrev Sym := BitVec 10

/-- A symbol times α, the root of x^10 + x^3 + 1. -/
def Sym.timesAlpha (x : Sym) : Sym :=
  if x.msb then (x <<< 1) ^^^ 9 else x <<< 1

/-- The product of two symbols. -/
def Sym.mul (x y : Sym) : Sym :=
  ((List.range 10).foldl (fun (a : Sym × Sym) i => (if x.getLsbD i then a.1 ^^^ a.2 else a.1, a.2.timesAlpha)) (0, y)).1

/-- A polynomial, lowest coefficient first, times (x − r). -/
def timesRoot (r : Sym) (p : List Sym) : List Sym :=
  (List.zipWith (fun a b => a ^^^ b) (0 :: p) (p.map (Sym.mul r) ++ [0]))

/-- The generator polynomial, whose roots are α^0 to α^29, lowest coefficient first, without its leading 1. -/
def rsGenerator : List Sym :=
  (((List.range 30).foldl (fun (a : List Sym × Sym) _ => (timesRoot a.2 a.1, a.2.timesAlpha)) ([1], 1)).1).take 30

/-- One data symbol taken into the remainder, lowest coefficient first. -/
def rsStep (g rem : List Sym) (m : Sym) : List Sym :=
  let fb := m ^^^ (rem.getD 29 0)
  List.zipWith (fun a b => a ^^^ b.mul fb) (0 :: rem.take 29) g

/-- A codeword: the data symbols in the order sent, and the 30 parity symbols after them.
(PRESUMED, notes/assumptions/125.md) -/
def rsEncode (data : List Sym) : List Sym :=
  let g := rsGenerator
  data ++ (data.foldl (rsStep g) (List.replicate 30 0)).reverse

/-! ### The transmitter (R54, R57, R70, R446) -/

/-- The precedence of a waiting message by its TYPE: on a head lane R70, on a peer lane R446. -/
def txRank (peer : Bool) (typ : Nat) : Nat :=
  let order := if peer then [0x20, 3, 0x21, 0x24, 0x22, 0x23, 2, 1, 0x25] else [3, 4, 5, 2, 6, 1]
  order.findIdx (fun x => x == typ)

/-- Waiting messages put into a codeword after the bytes it already holds: a SYNC begins at stream offset 0. -/
def packStream (b : Bytes) (l : List TxMsg) : Bytes × List TxMsg :=
  match l with
  | [] => (b, [])
  | m :: r => if 640 ≤ b.length ∨ (field m.bytes 0 1 = 3 ∧ b ≠ []) then (b, m :: r) else packStream (b ++ m.bytes) r

/-- A codeword of data: marker, count, and 640 bytes of message stream scrambled, with its parity, and the scrambler
after it. (PRESUMED, notes/assumptions/125.md) -/
def codewordOf (r : BitVec 58) (count : Byte) (stream : Bytes) : BitVec 58 × List Sym :=
  let (r1, y) := scramble r ((natLe 640 (leNat stream)).flatMap (fun b => (List.range 8).map (fun i => b.getLsbD i)))
  let bits := (List.range 12).map (fun i => (0xA5C).testBit i) ++ (List.range 8).map (fun i => count.getLsbD i) ++ y
  let sym (k : Nat) : Sym := BitVec.ofNat 10 (((bits.drop (10 * k)).take 10).foldr (fun b n => 2 * n + (if b then 1 else 0)) 0)
  (r1, rsEncode ((List.range 514).map sym))

/-- The length of a codeword of a lane in sevenths of a KCLK: 5,440 bits at 56 or 28 Gbit/s (R53, R54). -/
def State.codewordTime (s : State) (n : Lane) : Nat :=
  if s.flag (HL_CFG_NRZ_ONLY n) || s.get (HL_STAT_RATE n) == 1 || decide (3 ≤ (s.lane n).attempt) then 1700 else 850

/-- Whether a lane's transmitter is on: a head lane's is off after a power-fail (R397). -/
def State.txOn (s : State) (n : Lane) : Bool :=
  s.get (HL_CFG_MODE n) != 0 && decide (n.val < s.part.lanes) && (s.isPeer n || !s.arch.refuse)

/-- The next codeword of a lane formed: the rest of a message that has begun, the waiting messages in their order of
precedence, and FILL, eight zero bytes each, in what is left. (DESIGN CHOICE, notes/assumptions/123.md) -/
def State.formCodeword (s : State) (n : Lane) : State :=
  let l := s.lane n
  let rank (m : TxMsg) : Nat := txRank (s.isPeer n) (field m.bytes 0 1)
  let (b, wait) := packStream l.txRest (sortBy (fun a b => decide (rank a ≤ rank b)) l.tx)
  let (r, syms) := codewordOf l.scram l.txCount (b.take 640)
  let start := if l.txWord.isEmpty then 7 * s.tt else l.txEnd
  s.onLane n (fun l => { l with
    tx := wait, txRest := b.drop 640, scram := r, txCount := l.txCount + 1, txWord := syms, txEnd := start + s.codewordTime n })

/-- The transmitters go on by a tick: a codeword follows the one before it without a gap. -/
def State.transmit (s : State) : State :=
  s.each (allFin 48) (fun s n =>
    if !s.txOn n then
      s.when (!(s.lane n).txWord.isEmpty || !(s.lane n).tx.isEmpty) (fun s => s.onLane n (fun l => { l with txWord := [], txRest := [], tx := [] }))
    else if (s.lane n).txWord.isEmpty || decide ((s.lane n).txEnd ≤ 7 * s.tt) then s.formCodeword n
    else s)

/-- TT at which the codeword of a SYNC or SYNC response that is handed over now leaves the lane pins (R57, R61).
(DESIGN CHOICE, notes/assumptions/123.md) -/
def State.syncStart (s : State) (n : Lane) : Nat :=
  let l := s.lane n
  let before := (l.tx.filter (fun m => field m.bytes 0 1 = 0x20)).foldl (fun k m => k + m.bytes.length) l.txRest.length
  let words := (before + 639) / 640 + (l.tx.filter (fun m => field m.bytes 0 1 = 3)).length
  let start := if l.txWord.isEmpty then 7 * s.tt else max l.txEnd (7 * s.tt)
  (start + words * s.codewordTime n) / 7

end Sys2Proof.Machine
end

