-- ==== Sys2Proof/Machine/Packet.lean ====
section
/-! DEFINITION. Command packets: their fields, the table of opcodes, and the status codes (R360, R362, R363). -/

namespace Sys2Proof.Machine

/-! ### Packets (R360) -/

/-- The fields of a packet. -/
def pktOp (p : Bytes) : Nat := field p 0 2
def pktLate (p : Bytes) : Bool := (field p 2 1).testBit 0
def pktPos (p : Bytes) : Nat := field p 3 1 % 64
def pktEnd (p : Bytes) : Bool := (field p 3 1).testBit 7
def pktTag (p : Bytes) : Nat := field p 4 4
def pktEfn (p : Bytes) : Nat := field p 8 8

/-- The opcodes of R363. -/
def opNop : Nat := 0x0001
def opIdentify : Nat := 0x0002
def opGetStatus : Nat := 0x0003
def opReadLog : Nat := 0x0004
def opWriteReg : Nat := 0x0101
def opModeReq : Nat := 0x0102
def opWarmRestart : Nat := 0x0103
def opEpochAdvance : Nat := 0x0104
def opTwinRelinquish : Nat := 0x0105
def opEventInsert : Nat := 0x0201
def opEventCancel : Nat := 0x0202
def opHeadCtrl : Nat := 0x0203
def opAppCtrl : Nat := 0x0204
def opAppLoad : Nat := 0x0205
def opKernelLoad : Nat := 0x0206
def opVeCancel : Nat := 0x0207
def opTrackDecide : Nat := 0x0208
def opCoilMark : Nat := 0x0209
def opArchRead : Nat := 0x0301
def opArchInfo : Nat := 0x0302
def opFlashProgram : Nat := 0x0303
def opAuthRef : Nat := 0x0400
def opAttest : Nat := 0x0401

/-- A row of the table of R363: the opcode, whether PF0 and PF1 may send it, whether it is staged, and the parameter
bytes it uses, as first byte and count. -/
structure OpRow where
  op : Nat
  pf0 : Bool
  pf1 : Bool
  staged : Bool
  used : List (Nat × Nat)
  deriving DecidableEq, Repr

/-- The table of R363. The bytes of WRITE_REG's targets depend on N. -/
def opRows : List OpRow :=
  [⟨opNop, true, true, false, []⟩, ⟨opIdentify, true, true, false, []⟩, ⟨opGetStatus, true, true, false, []⟩,
   ⟨opReadLog, true, false, false, [(16, 10)]⟩, ⟨opWriteReg, true, false, true, [(16, 1)]⟩,
   ⟨opModeReq, true, false, true, [(16, 1)]⟩, ⟨opWarmRestart, true, false, false, [(16, 1)]⟩,
   ⟨opEpochAdvance, true, false, true, [(16, 2)]⟩, ⟨opTwinRelinquish, true, false, true, []⟩,
   ⟨opEventInsert, true, false, true, [(16, 21)]⟩, ⟨opEventCancel, true, false, true, [(16, 2), (20, 8)]⟩,
   ⟨opHeadCtrl, true, false, true, [(16, 2)]⟩, ⟨opAppCtrl, true, false, true, [(16, 2)]⟩,
   ⟨opAppLoad, true, false, true, [(16, 1), (20, 5), (28, 4)]⟩, ⟨opKernelLoad, true, false, false, [(16, 5), (24, 5)]⟩,
   ⟨opVeCancel, true, false, false, [(16, 2), (20, 8)]⟩, ⟨opTrackDecide, true, false, true, [(16, 4)]⟩,
   ⟨opCoilMark, true, false, true, [(16, 1), (20, 8), (32, 16)]⟩, ⟨opArchRead, false, true, false, [(16, 37)]⟩,
   ⟨opArchInfo, false, true, false, [(16, 16)]⟩, ⟨opFlashProgram, true, false, false, [(16, 5), (24, 5)]⟩,
   ⟨opAuthRef, true, false, true, [(16, 5), (24, 2)]⟩, ⟨opAttest, true, true, false, [(16, 42)]⟩]

/-- The row of a packet. -/
def pktRow (p : Bytes) : Option OpRow :=
  opRows.find? (fun r => r.op == pktOp p)

/-- Whether a packet holds a staged command; an unknown opcode is judged when its chain is staged. -/
def pktStaged (p : Bytes) : Bool :=
  match pktRow p with
  | some r => r.staged
  | none => true

/-- Whether a packet holds an immediate command marked Auth (R368). -/
def pktAuthNow (p : Bytes) : Bool :=
  pktOp p == opWarmRestart || pktOp p == opFlashProgram

/-- Whether a function may send an opcode. -/
def OpRow.accepts (r : OpRow) (f : Fin 2) : Bool :=
  if f = 0 then r.pf0 else r.pf1

/-! ### Status codes (R362) -/

def stOk : Nat := 0
def stLate : Nat := 1
def stBadOpcode : Nat := 2
def stBadParam : Nat := 3
def stBadChain : Nat := 4
def stChainAbort : Nat := 5
def stMode : Nat := 6
def stState : Nat := 7
def stAuthRequired : Nat := 8
def stAuthFail : Nat := 9
def stAuthReplay : Nat := 10
def stAuthWindow : Nat := 11
def stTooFar : Nat := 12
def stStageFull : Nat := 13
def stDmaErr : Nat := 14
def stBusy : Nat := 15

end Sys2Proof.Machine
end

