-- ==== Sys2Proof/Machine/Links.lean ====
section
/-! DEFINITION. The head links below the messages: framing, sending, lane states, time synchronisation, versions, heartbeats and
head loss (R53 to R66, R82, R84, R86, R87, R91, R94). -/

namespace Sys2Proof.Machine

/-! ### Sending -/

/-- A message handed to the transmitter, which sends from NEGOTIATE on (R91) and on a head lane not after a power-fail
(R397); SEQ counts by TYPE, and VER is 1 until a version is agreed (R56). (DESIGN CHOICE, notes/assumptions/121.md) -/
def State.send (s : State) (n : Lane) (typ flags : Nat) (content : Bytes) : State :=
  let l := s.lane n
  if laneNegotiate ≤ s.laneSt n ∧ s.laneSt n ≤ laneActive ∧ (s.isPeer n || !s.arch.refuse) then
    let seq := (lookup l.seqs typ).getD 0
    let ver := if typ = 1 then 1 else max 1 (s.get (HL_STAT_VER n))
    s.onLane n (fun l => { l with
      tx := l.tx ++ [⟨s.tt, frame typ ver flags seq content⟩],
      seqs := setKey l.seqs typ ((seq + 1) % 65536) 0 })
  else s

/-- A CTRL request of the device itself, whose response it awaits (R88). -/
def State.sendCtrl (s : State) (n : Lane) (op addr : Nat) (data : Bytes) : State :=
  let id := (s.lane n).ctrlId
  let s1 := s.send n 6 0 (natLe 2 id ++ natLe 1 op ++ [0] ++ natLe 4 addr ++ (data ++ List.replicate 64 0).take 64
    ++ List.replicate 12 0)
  s1.onLane n (fun l => { l with ctrlId := (id + 1) % 65536, own := l.own ++ [(id, s.tt)] })

/-- The heartbeat period written to the head's HB_PER parameter (R89).
(DEDUCED, notes/assumptions/29.md; DESIGN CHOICE, notes/assumptions/131.md) -/
def State.pushHbPer (s : State) (n : Lane) : State :=
  if s.isPeer n then s else s.sendCtrl n 2 0x10 (natLe 4 (s.get (HL_HB_CFG_PER n)))

/-- A CRED message with the limits in effect (R79, R80). -/
def State.sendCred (s : State) (n : Lane) : State :=
  let f := s.get (HL_FEAT_CRED_LIMIT n)
  let c := s.get (HL_CROP_CRED_LIMIT n)
  (s.send n 5 0 (natLe 4 f ++ natLe 4 c)).onLane n (fun l => { l with featSent := f, cropSent := c, credTt := s.tt })

/-! ### Lane states (R91) -/

/-- The map of ACTIVE lanes brought in line with a lane's state. -/
def State.syncActive (s : State) (n : Lane) : State :=
  let v := if s.laneSt n = laneActive then 1 else 0
  if n.val < 32 then s.put ⟨HL_ACTIVE_LO, n.val, 1⟩ v else s.put ⟨HL_ACTIVE_HI, n.val - 32, 1⟩ v

/-- A lane without lock: its receiver starts afresh, and messages that wait are not sent. -/
def LaneState.unlocked (l : LaneState) : LaneState :=
  { l with good := 0, bad := 0, search := true, part := none, syncs := [], verTt := none, headVer := none, syncTt := none,
           hbTt := none, tx := [], txRest := [] }

/-- A lane enters a state (R91). (DEDUCED, notes/assumptions/39.md) -/
def State.setLane (s : State) (n : Lane) (st : Nat) : State :=
  if s.laneSt n = st then s
  else
    let s1 := (s.put (HL_STAT_STATE n) st).putFlag (HL_ISR_STATE_CHG n) true
    let s2 := (s1.onLane n (fun l => { l with since := s.tt, chal := none })).syncActive n
    if st ≤ laneTrain then
      let s3 := (s2.put (HL_STAT_RATE n) 0).put (HL_STAT_VER n) 0
      ((s3.putFlag (HL_STAT_SYNCED n) false).putFlag (HL_STAT_ID_OK n) false).onLane n
        (fun l => { l.unlocked with attempt := 0, released := false })
    else s2

/-- A lane enters CALIBRATE: synchronisation starts afresh and HB_PER is written (R64, R65, R89). -/
def State.calibrate (s : State) (n : Lane) : State :=
  let s1 := ((s.setLane n laneCalibrate).putFlag (HL_STAT_SYNCED n) false).putFlag (HL_STAT_ID_OK n) false
  (s1.onLane n (fun l => { l with steps := 0, exch := 0, goodRun := 0, overRun := 0, syncs := [], syncTt := none })).pushHbPer n

/-- A lane enters READY; AUTO_ADMIT stages its admission (R92). (DEDUCED, notes/assumptions/38.md) -/
def State.readyLane (s : State) (n : Lane) : State :=
  let s1 := s.setLane n laneReady
  if s.flag (HL_CFG_AUTO_ADMIT n) then (s1.stageWrite 0 (HL_CTRL n) 1).1 else s1

/-- A head identified by challenge is sought: CHALLENGE with a nonce of the sagger (R90).
(DEDUCED, notes/assumptions/35.md) -/
def State.challenge (s : State) (n : Lane) : State :=
  let (k, s1) := s.draw
  let digest := (List.range 8).flatMap (fun j => natLe 4 (s.rd (SG_ID_DIGEST j)).toNat)
  let req := natLe 32 (Config.random k) ++ digest
  let id := (s.lane n).ctrlId
  let s2 := s1.send n 6 0 (natLe 2 id ++ [5, 0] ++ natLe 4 0 ++ req ++ List.replicate 12 0)
  s2.onLane n (fun l => { l with ctrlId := (id + 1) % 65536, chal := some ⟨id, req, s.tt, none⟩ })

/-- The challenge failed (R90). -/
def State.idFail (s : State) (n : Lane) : State :=
  (((s.onLane n (fun l => { l with chal := none })).putFlag (HL_ISR_ID_FAIL n) true).raise F_HL_ID_FAIL n).setLane n laneFailed

/-- An ACTIVE lane counts as a lost head (R84, R93, R94); a lane that keeps its lock goes back to CALIBRATE.
(DEDUCED, notes/assumptions/29.md; DEDUCED, notes/assumptions/39.md) -/
def State.headLost (s : State) (n : Lane) : State :=
  let s1 := ((s.putFlag (HL_ISR_HEAD_LOST n) true).bump (HL_LOSS_CNT_CNT n)).raise F_HL_HEAD_LOST n
  let s2 := (s1.wr64 (HL_DETACH_FN n) s.fn).onLane n (fun l =>
    { l with detached := true, lostFn := some s.fn, missRun := 0 })
  let s3 := if s.isPeer n then s2.raise F_HL_PEER_DOWN n else s2
  if s.laneSt n = laneDown then s3 else s3.calibrate n

/-- Whether a lane counts as a head that can be lost: ACTIVE, or detached in the present firing (R84, R93).
(DEDUCED, notes/assumptions/38.md) -/
def State.losable (s : State) (n : Lane) : Bool :=
  s.laneSt n == laneActive || (s.laneSt n == laneReady && (s.lane n).released && s.rd64 (HL_DETACH_FN n) == s.fn)

/-- A lane goes DOWN (R55, R91). (DEDUCED, notes/assumptions/39.md) -/
def State.laneDrop (s : State) (n : Lane) : State :=
  let lost := s.losable n
  let s1 := s.setLane n laneDown
  if lost then s1.headLost n else s1

/-- The synchronisation of a lane reached (R65, R91). CHALLENGE belongs to version 2: a head that must identify itself
on a lane of version 1 cannot (R87, R90). -/
def State.synced (s : State) (n : Lane) : State :=
  let s1 := s.putFlag (HL_STAT_SYNCED n) true
  if s.laneSt n ≠ laneCalibrate then s1
  else if s.flag (HL_CFG_IDREQ n) && !s.isPeer n then
    let s2 := s1.setLane n laneIdentify
    if s.get (HL_STAT_VER n) < 2 then s2.idFail n else s2.challenge n
  else s1.readyLane n

/-- What an exchange does to the lane: `resid` in 1/256 KCLK, none for a missing response (R65). -/
def State.exchange (s : State) (n : Lane) (resid : Option Int) : State :=
  let lim := s.get (HL_SYNC_CFG_LIMIT n)
  let good := match resid with | some r => decide (2 * r.natAbs ≤ lim) | none => false
  let excess := match resid with | some r => decide (lim < r.natAbs) | none => true
  let s1 := s.onLane n (fun l => { l with
    exch := l.exch + 1, goodRun := if good then l.goodRun + 1 else 0, overRun := if excess then l.overRun + 1 else 0 })
  let l := s1.lane n
  if !s.flag (HL_STAT_SYNCED n) && decide (16 ≤ l.goodRun) then s1.synced n
  else if s.losable n ∧ 4 ≤ l.overRun then
    let s2 := ((s1.putFlag (HL_STAT_SYNCED n) false).putFlag (HL_ISR_SYNC_LOSS n) true).raise F_HL_SYNC_LOSS n
    s2.headLost n
  else s1

/-! ### Codewords (R53 to R55) -/

/-- `LANE_SIGNAL_DETECT` (R91): DOWN to TRAIN. -/
def execLaneSignalDetect (n : Lane) (s : State) : Host.Outcome State Fault Refusal :=
  .next (if s.laneSt n = laneDown ∧ s.get (HL_CFG_MODE n) ≠ 0 ∧ n.val < s.part.lanes then s.setLane n laneTrain else s)

/-- `PAM4_TRAIN_TIMEOUT` (R53): an attempt of 20 ms at PAM4 ends; after three, NRZ is trained. -/
def execPam4TrainTimeout (n : Lane) (s : State) : Host.Outcome State Fault Refusal :=
  let l := s.lane n
  .next (if s.laneSt n = laneTrain ∧ !s.flag (HL_CFG_NRZ_ONLY n) ∧ l.attempt < 3 ∧ l.since + 20 * msKclk ≤ s.tt then
    s.onLane n (fun l => { l with attempt := l.attempt + 1, since := s.tt })
  else s)

/-- `CODEWORD_LOCK` (R55, R91): four correct markers with consecutive counts; TRAIN to NEGOTIATE. -/
def execCodewordLock (n : Lane) (s : State) : Host.Outcome State Fault Refusal :=
  let l := s.lane n
  .next (if s.laneSt n = laneTrain ∧ 4 ≤ l.good then
    let rate := if s.flag (HL_CFG_NRZ_ONLY n) || decide (3 ≤ l.attempt) then 1 else 2
    ((s.setLane n laneNegotiate).put (HL_STAT_RATE n) rate).onLane n (fun l => { l with bad := 0 })
  else s)

/-- `CODEWORD_LOCK_LOSS` (R55): eight bad codewords, or loss of the optical signal.
(DESIGN CHOICE, notes/assumptions/128.md) -/
def execCodewordLockLoss (n : Lane) (optical : Bool) (s : State) : Host.Outcome State Fault Refusal :=
  let st := s.laneSt n
  .next (if laneTrain ≤ st ∧ st ≤ laneActive ∧ (optical ∨ (laneNegotiate ≤ st ∧ 8 ≤ (s.lane n).bad)) then s.laneDrop n else s)

/-- The 8-byte slots of a message stream. -/
def slotsOf (k : Nat) (b : Bytes) : List Bytes :=
  match k with
  | 0 => []
  | k + 1 => b.take 8 :: slotsOf k (b.drop 8)

/-- The length that R58 gives messages of a type, where it is fixed; the second for a CHALLENGE response.
(DEDUCED, notes/assumptions/27.md) -/
def lengthOk (typ len : Nat) : Bool :=
  if typ = 1 then len == 48
  else if typ = 2 then len == 16
  else if typ = 3 then len == 32
  else if typ = 6 then len == 96 || len == 7248
  else if typ = 0x12 then len == 48
  else if typ = 0x20 then len == 32
  else if typ = 0x21 then len == 96
  else if typ = 0x24 then len == 64
  else true

/-- The types that a lane accepts (R58, R94, R446). (DEDUCED, notes/assumptions/27.md) -/
def typeKnown (peer : Bool) (typ : Nat) : Bool :=
  if peer then decide (1 ≤ typ ∧ typ ≤ 3) || decide (0x20 ≤ typ ∧ typ ≤ 0x25)
  else decide (1 ≤ typ ∧ typ ≤ 6) || decide (0x10 ≤ typ ∧ typ ≤ 0x12)

/-- The types that some command of the device takes: SYNC and CTRL only as responses (a SYNC of the twin's other device is
answered at once). (DEDUCED, notes/assumptions/27.md) -/
def typeTaken (b : Bytes) : Bool :=
  let typ := field b 0 1
  let resp := (field b 1 1).testBit 4
  if typ = 3 ∨ typ = 6 then resp else typ != 4 && typ != 5

/-- A SYNC of the other device of a twin pair answered as a head answers it (R62, R94): the device's TT at the arrival,
the SYNC_ID, and the time until the response's codeword leaves. (DESIGN CHOICE, notes/assumptions/123.md) -/
def State.answerSync (s : State) (n : Lane) (m : RxMsg) : State :=
  let (k, s1) := s.draw
  let x := Config.syncReply k
  let turn := (s1.syncStart n - m.tt) * 256 - x % 256
  s1.send n 3 1 (natLe 8 m.tt ++ natLe 1 (x % 256) ++ natLe 1 (x / 256 % 2) ++ natLe 2 (field m.bytes 22 2) ++ natLe 4 turn
    ++ List.replicate 4 0)

/-- A whole message judged: CRC, TYPE and version (R59). (DEDUCED, notes/assumptions/27.md) -/
def State.takeMessage (s : State) (n : Lane) (m : RxMsg) : State :=
  let b := m.bytes
  let body := b.take (b.length - 4)
  let typ := field b 0 1
  if field b (b.length - 4) 4 ≠ (crc32c body).toNat ∨ !lengthOk typ b.length ∨ !typeKnown (s.isPeer n) typ then
    s.bump (HL_CRC_ERR_CNT n)
  else if typ ≠ 1 ∧ field b 1 1 % 16 ≠ s.get (HL_STAT_VER n) then s.bump (HL_VER_BAD_CNT n)
  else if typeTaken b then s.onLane n (fun l => { l with rx := l.rx ++ [m] })
  else if typ = 3 ∧ s.isPeer n then s.answerSync n m
  else s

/-- One slot of the message stream framed (R56, R57, R59). (DEDUCED, notes/assumptions/27.md) -/
def State.takeSlot (s : State) (n : Lane) (tt : Nat) (b : Bytes) : State :=
  match (s.lane n).part with
  | some p =>
    let m : RxMsg := { p with bytes := p.bytes ++ b }
    if m.bytes.length < field m.bytes 2 2 then s.onLane n (fun l => { l with part := some m })
    else (s.onLane n (fun l => { l with part := none })).takeMessage n m
  | none =>
    if b.all (fun x => x == 0) then s
    else if field b 6 2 = (crc16 (b.take 6)).toNat then
      let len := field b 2 2
      if len % 8 = 0 ∧ 16 ≤ len ∧ len ≤ 9216 then s.onLane n (fun l => { l with search := false, part := some ⟨tt, b⟩ })
      else (s.bump (HL_CRC_ERR_CNT n)).onLane n (fun l => { l with search := true })
    else
      let s1 := if (s.lane n).search then s else s.bump (HL_CRC_ERR_CNT n)
      s1.onLane n (fun l => { l with search := true })

/-- An uncorrectable codeword (R59, R95): counted; the message it overlaps is discarded and a header is sought. -/
def State.uncorrectable (s : State) (n : Lane) : State :=
  let old := (s.lane n).unc.filter (fun t => decide (s.tt < t + sKclk))
  let high := s.laneSt n == laneActive && decide (1000 ≤ old.length)
  let s1 := (s.bump (HL_FEC_UNC_CNT n)).onLane n (fun l =>
    { l with part := none, search := true, unc := (s.tt :: old).take 1001, fecHigh := high })
  if high && !(s.lane n).fecHigh then s1.raise F_HL_FEC_RATE n else s1

/-- `CODEWORD_RECEIVE` (R54, R55, R59): a codeword on a lane that trains or has lock.
(DESIGN CHOICE, notes/assumptions/128.md) -/
def execCodewordReceive (n : Lane) (fec : Fec) (cw : Codeword) (s : State) : Host.Outcome State Fault Refusal :=
  let st := s.laneSt n
  let l := s.lane n
  let markOk := cw.marker == 0xA5C
  let next := cw.count.toNat == (l.lastCnt + 1) % 256
  let isBad := fec == Fec.uncorrectable || !markOk
  let (r, x) := descramble l.descr cw.stream
  let s1 := s.onLane n (fun l => { l with
    lastCnt := cw.count.toNat,
    good := if isBad then 0 else if next then l.good + 1 else 1,
    bad := if isBad then l.bad + 1 else 0,
    descr := r })
  .next (if st < laneTrain ∨ laneFailed ≤ st then s
  else if st = laneTrain then s1
  else match fec with
  | .uncorrectable => s1.uncorrectable n
  | .corrected => (slotsOf 80 x).foldl (fun s b => s.takeSlot n s.tt b) (s1.bump (HL_FEC_CORR_CNT n))
  | .clean => (slotsOf 80 x).foldl (fun s b => s.takeSlot n s.tt b) s1)

/-! ### Taking received messages -/

/-- The oldest received message of a lane, where it has a type. -/
def State.rxFront (s : State) (n : Lane) (typ : Nat) : Option RxMsg :=
  match (s.lane n).rx with
  | m :: _ => if field m.bytes 0 1 = typ then some m else none
  | [] => none

/-- The oldest received message of a lane taken. (DEDUCED, notes/assumptions/28.md) -/
def State.rxPop (s : State) (n : Lane) : State :=
  s.onLane n (fun l => { l with rx := l.rx.drop 1 })

/-! ### Versions (R86, R87) -/

/-- The version agreed once both devices have sent their VER, or the lane failed (R87, R91). -/
def State.agree (s : State) (n : Lane) : State :=
  match (s.lane n).verTt, (s.lane n).headVer with
  | some _, some (vmin, vmax) =>
    let v := min (s.get (HL_CFG_VMAX n)) vmax
    let s0 := s.onLane n (fun l => { l with headVer := none })
    if max 1 vmin ≤ v then (s0.put (HL_STAT_VER n) v).calibrate n
    else ((s0.putFlag (HL_ISR_VER_FAIL n) true).raise F_HL_VER_FAIL n).setLane n laneFailed
  | _, _ => s

/-- `VER_SEND` (R86, R91): in NEGOTIATE, every 100 µs. -/
def execVerSend (n : Lane) (s : State) : Host.Outcome State Fault Refusal :=
  let due := match (s.lane n).verTt with | some t => decide (t + 100 * usKclk ≤ s.tt) | none => true
  .next (if s.laneSt n = laneNegotiate && due then
    let content := natLe 1 1 ++ natLe 1 (s.get (HL_CFG_VMAX n)) ++ natLe 1 (if s.isPeer n then 2 else 0) ++ [0]
      ++ natLe 26 Config.verFields ++ List.replicate 6 0
    ((s.send n 1 0 content).onLane n (fun l => { l with verTt := some s.tt })).agree n
  else s)

/-- `VER_RECEIVE` (R86, R87, R91): the version is agreed, or the lane fails, once the device has sent its own VER. -/
def execVerReceive (n : Lane) (s : State) : Host.Outcome State Fault Refusal :=
  .next (match s.rxFront n 1 with
  | none => s
  | some m =>
    let s0 := s.rxPop n
    if s.laneSt n ≠ laneNegotiate then s0
    else
      let vmin := field m.bytes 8 1
      let vmax := field m.bytes 9 1
      let s1 := (((s0.put (HL_VERINFO_VMIN n) vmin).put (HL_VERINFO_VMAX n) vmax).put (HL_VERINFO_VENDOR n) (field m.bytes 28 2))
      let s2 := (s1.put (HL_VERMODEL_MODEL n) (field m.bytes 30 2)).put (HL_VERMODEL_CAPS n) (field m.bytes 32 2)
      let s3 := s2.each (List.range 4) (fun s i => s.put (HL_SERIAL_SERIAL n i) (field m.bytes (12 + 4 * i) 4))
      (s3.onLane n (fun l => { l with headVer := some (vmin, vmax) })).agree n)

/-- `NEGOTIATE_TIMEOUT` (R91): no head VER within 10 ms; NEGOTIATE to TRAIN. -/
def execNegotiateTimeout (n : Lane) (s : State) : Host.Outcome State Fault Refusal :=
  .next (if s.laneSt n = laneNegotiate ∧ (s.lane n).headVer.isNone ∧ (s.lane n).since + 10 * msKclk ≤ s.tt then s.setLane n laneTrain else s)

/-! ### Time synchronisation (R61 to R65) -/

/-- `SYNC_SEND` (R57, R61, R65): T1 is the TT, with a fraction, at which the codeword that begins with the SYNC leaves. -/
def execSyncSend (n : Lane) (frac : Byte) (s : State) : Host.Outcome State Fault Refusal :=
  let st := s.laneSt n
  let l := s.lane n
  let per := if st = laneCalibrate then 10 else s.get (HL_SYNC_CFG_PER n)
  let due := match l.syncTt with | some t => decide (t + per * usKclk ≤ s.tt) | none => true
  .next (if decide (laneCalibrate ≤ st) && decide (st ≤ laneActive) && due then
    let delay := s.get (HL_DELAY_DELAY n)
    let step := st == laneCalibrate && decide (l.steps < 8)
    let t1 := s.syncStart n
    let content := natLe 8 t1 ++ natLe 4 delay ++ [frac] ++ [if step then 1 else 0] ++ natLe 2 l.syncId ++ List.replicate 4 0
    (s.send n 3 0 content).onLane n (fun l => { l with
      syncTt := some s.tt, syncId := (l.syncId + 1) % 65536, steps := l.steps + 1,
      syncs := l.syncs ++ [⟨l.syncId, t1 * 256 + frac.toNat, delay⟩] })
  else s)

/-- `SYNC_RESPONSE_RECEIVE` (R62, R64, R65): T4 is the arrival of the response's codeword, with a fraction.
(DEDUCED, notes/assumptions/37.md) -/
def execSyncResponseReceive (n : Lane) (frac : Byte) (s : State) : Host.Outcome State Fault Refusal :=
  .next (match s.rxFront n 3 with
  | none => s
  | some m =>
    let s0 := s.rxPop n
    let id := field m.bytes 18 2
    match (s.lane n).syncs.find? (fun e => e.id = id) with
    | none => s0
    | some e =>
      let t4 : Int := (m.tt * 256 + frac.toNat : Nat)
      let t2 : Int := (field m.bytes 8 8 * 256 + field m.bytes 16 1 : Nat)
      let rtt := t4 - e.t1 - field m.bytes 20 4
      let mid := divNearest (rtt + signedOf 32 (s.get (HL_FIBRE_ASYM_ASYM n))) 2
      let avg := if (s.lane n).exch < 8 then 0 else s.get (HL_SYNC_CFG_AVG n)
      let old : Int := s.get (HL_DELAY_DELAY n)
      let delay := old + divNearest (mid - old) (2 ^ avg)
      let resid := t2 - (e.t1 + e.delay : Nat)
      let s1 := (s0.put (HL_DELAY_DELAY n) (unsignedOf 32 delay)).put (HL_RTT_RTT n) (unsignedOf 32 rtt)
      let s2 := (s1.put (HL_RESID_RESID n) (unsignedOf 32 resid)).onLane n (fun l =>
        { l with syncs := l.syncs.filter (fun x => x.id != id), peerOfs := resid })
      s2.exchange n (some resid))

/-- `SYNC_RESPONSE_MISSING` (R63, R65): no response within 20 µs of a SYNC. -/
def execSyncResponseMissing (n : Lane) (s : State) : Host.Outcome State Fault Refusal :=
  .next (match (s.lane n).syncs with
  | e :: r => if e.t1 + 20 * usKclk * 256 ≤ s.tt * 256 then (s.onLane n (fun l => { l with syncs := r })).exchange n none else s
  | [] => s)

/-- `CALIBRATE_TIMEOUT` (R91): not SYNCED within 10 ms. -/
def execCalibrateTimeout (n : Lane) (s : State) : Host.Outcome State Fault Refusal :=
  .next (if s.laneSt n = laneCalibrate ∧ !s.flag (HL_STAT_SYNCED n) ∧ (s.lane n).since + 10 * msKclk ≤ s.tt then
    s.setLane n laneFailed
  else s)

/-! ### Heartbeats (R82, R84) -/

/-- `HB_SEND` (R82, R91): every `HL_HB_CFG.PER` µs from NEGOTIATE on. (DESIGN CHOICE, notes/assumptions/30.md) -/
def execHbSend (n : Lane) (s : State) : Host.Outcome State Fault Refusal :=
  let l := s.lane n
  let due := match l.hbTt with | some t => decide (t + s.get (HL_HB_CFG_PER n) * usKclk ≤ s.tt) | none => true
  .next (if decide (laneNegotiate ≤ s.laneSt n) && decide (s.laneSt n ≤ laneActive) && due then
    let (k, s1) := s.draw
    let last := (l.capNo + 65535) % 65536
    (s1.send n 2 0 (natLe 1 (Config.hbState k % 4) ++ [0] ++ natLe 2 (if l.capNo = 0 then 0 else last))).onLane n
      (fun l => { l with hbTt := some s.tt })
  else s)

/-- `HB_RECEIVE` (R82, R84). -/
def execHbReceive (n : Lane) (s : State) : Host.Outcome State Fault Refusal :=
  .next (match s.rxFront n 2 with
  | some m => (s.rxPop n).onLane n (fun l => { l with hbRx := s.tt, headCap := field m.bytes 10 2 })
  | none => s)

/-- The heartbeat period that loss is judged with, in µs: the longer of the old and the new after a change (R89).
(DESIGN CHOICE, notes/assumptions/30.md) -/
def State.hbJudged (s : State) (n : Lane) : Nat :=
  let l := s.lane n
  let per := s.get (HL_HB_CFG_PER n)
  if s.tt < l.hbOld.2 then max per l.hbOld.1 else per

/-- `HB_TIMEOUT` (R84): no valid HB for `TO_N` × `PER` µs on an ACTIVE lane.
(DESIGN CHOICE, notes/assumptions/4.md; DESIGN CHOICE, notes/assumptions/30.md) -/
def execHbTimeout (n : Lane) (s : State) : Host.Outcome State Fault Refusal :=
  .next (if s.losable n && decide ((s.lane n).hbRx + s.get (HL_HB_CFG_TO_N n) * s.hbJudged n * usKclk ≤ s.tt) then s.headLost n
  else s)

end Sys2Proof.Machine
end

