-- ==== Sys2Proof/Machine/Heads.lean ====
section
/-! DEFINITION. The messages of the inspection heads, their admission, the scheduled triggers and the coverage of the strip
(R67 to R94). -/

namespace Sys2Proof.Machine

/-! ### Control requests and the mailbox (R88 to R90) -/

/-- A mailbox request: a write of `HL_CMB_CTRL` with GO and an OP, ignored while BUSY (R88); `after` is what else it
does. -/
def State.mailbox (s : State) (n : Lane) (m : Master) (op : Nat) (after : State → State) : State :=
  s.portal m (HL_CMB_CTRL n) (m == 0) <|
  if s.flag (HL_CMB_CTRL_BUSY n) then s.put (HL_CMB_CTRL_OP n) op
  else
    let id := (s.lane n).ctrlId
    let data := (List.range 16).flatMap (fun i => natLe 4 (s.rd (HL_CMB_DATA n i)).toNat)
    let s1 := (s.put (HL_CMB_CTRL_OP n) op).putFlag (HL_CMB_CTRL_BUSY n) true
    let s2 := s1.send n 6 0 (natLe 2 id ++ natLe 1 op ++ [0] ++ natLe 4 (s.get (HL_CMB_ADDR_ADDR n)) ++ data ++ List.replicate 12 0)
    after (s2.onLane n (fun l => { l with ctrlId := (id + 1) % 65536, mailbox := some (id, s.tt) }))

/-- `HL_CMB_READ` (R88, R89). -/
def execHlCmbRead (n : Lane) (m : Master) (s : State) : Host.Outcome State Fault Refusal :=
  .next (s.mailbox n m 1 id)

/-- `HL_CMB_WRITE` (R88, R89). -/
def execHlCmbWrite (n : Lane) (m : Master) (s : State) : Host.Outcome State Fault Refusal :=
  .next (s.mailbox n m 2 id)

/-- `HL_CMB_RESET` (R88): the head restarts and the lane goes DOWN. -/
def execHlCmbReset (n : Lane) (m : Master) (s : State) : Host.Outcome State Fault Refusal :=
  .next (s.mailbox n m 3 (fun t => if laneTrain ≤ s.laneSt n ∧ s.laneSt n ≤ laneActive then t.laneDrop n else t))

/-- `HL_CMB_SET_PORT` (R88, R447). -/
def execHlCmbSetPort (n : Lane) (m : Master) (s : State) : Host.Outcome State Fault Refusal :=
  .next (s.mailbox n m 6 id)

/-- The mailbox request ended, with a STATUS (R88). -/
def State.mailboxDone (s : State) (n : Lane) (status : Nat) : State :=
  let s1 := (s.putFlag (HL_CMB_CTRL_BUSY n) false).put (HL_CMB_CTRL_RSP_STATUS n) status
  (s1.putFlag (HL_ISR_CMB_DONE n) true).onLane n (fun l => { l with mailbox := none })

/-- `CTRL_RESPONSE_RECEIVE` (R88): the response to the mailbox request, or to a request of the device itself. -/
def execCtrlResponseReceive (n : Lane) (s : State) : Host.Outcome State Fault Refusal :=
  .next (match s.rxFront n 6 with
  | none => s
  | some m =>
    if m.bytes.length ≠ 96 then s
    else
      let s0 := s.rxPop n
      let id := field m.bytes 8 2
      match (s.lane n).mailbox with
      | some (i, _) =>
        if i = id then
          let s1 := s0.each (List.range 16) (fun s k => s.put (HL_CMB_DATA_DATA n k) (field m.bytes (16 + 4 * k) 4))
          s1.mailboxDone n (field m.bytes 11 1)
        else s0.onLane n (fun l => { l with own := l.own.filter (fun e => e.1 != id) })
      | none => s0.onLane n (fun l => { l with own := l.own.filter (fun e => e.1 != id) }))

/-- `CTRL_RESPONSE_TIMEOUT` (R88): no response within 100 µs; a CHALLENGE without response fails (R90).
(DEDUCED, notes/assumptions/35.md) -/
def execCtrlResponseTimeout (n : Lane) (s : State) : Host.Outcome State Fault Refusal :=
  let due (t : Nat) : Bool := decide (t + 100 * usKclk ≤ s.tt)
  let l := s.lane n
  let s1 := match l.mailbox with
    | some (_, t) => if due t then s.mailboxDone n 0xFF else s
    | none => s
  let s2 := s1.onLane n (fun l => { l with own := l.own.filter (fun e => !due e.2) })
  .next (match l.chal with
    | some c => if due c.sent && c.resp.isNone then s2.idFail n else s2
    | none => s2)

/-- `CHALLENGE_RESPONSE_RECEIVE` (R90). -/
def execChallengeResponseReceive (n : Lane) (s : State) : Host.Outcome State Fault Refusal :=
  .next (match s.rxFront n 6 with
  | none => s
  | some m =>
    if m.bytes.length ≠ 7248 then s
    else ((s.rxPop n).onLane n (fun l => { l with chal := l.chal.map (fun c =>
      if c.id = field m.bytes 8 2 ∧ c.resp.isNone then { c with resp := some m } else c) })).syncEngine)

/-- The serial number that a head gave in its VER. -/
def State.serial (s : State) (n : Lane) : Bytes :=
  (List.range 4).flatMap (fun i => natLe 4 (s.rd (HL_SERIAL n i)).toNat)

/-- `CHALLENGE_CHECK_DONE` (R90, R420): the key is on the allow list, the signature is valid, and both were found within
2 ms of the response, or of the check before it. (DEDUCED, notes/assumptions/35.md) -/
def execChallengeCheckDone (n : Lane) (s0 : State) : Host.Outcome State Fault Refusal :=
  .next (match s0.served (.head n) with
  | none => s0
  | some s =>
    match (s.lane n).chal.bind (fun c => c.resp.map (fun m => (c, m))) with
    | none => s
    | some (c, m) =>
      let key := (m.bytes.drop 16).take 2592
      let sig := (m.bytes.drop 2608).take 4627
      let k := s.get HL_IDLIST_N_N
      let (s1, list, res) := s.busRead 13 (s.rd64 HL_IDLIST_BASE) (64 * k)
      let listed := (List.range k).any (fun i => (list.drop (64 * i)).take 64 == sha512 key)
      let valid := Config.mldsaVerify key (sha512 (c.req ++ natLe 1 n ++ s.serial n)) sig
      let inTime := decide (s.tt ≤ max m.tt s.sag.headCheck + 2 * msKclk)
      let s2 := s1.onSag (fun x => { x with headCheck := s.tt })
      if s.laneSt n ≠ laneIdentify then s2.onLane n (fun l => { l with chal := none })
      else if listed && res.ok && valid && inTime then
        ((s2.onLane n (fun l => { l with chal := none })).putFlag (HL_STAT_ID_OK n) true).readyLane n
      else s2.idFail n)

/-! ### Admission (R91 to R93) -/

/-- `HL_ADMIT` (R92, R93): admission staged, or refused while the lane is not READY.
(DEDUCED, notes/assumptions/38.md) -/
def execHlAdmit (n : Lane) (m : Master) (s : State) : Host.Outcome State Fault Refusal :=
  .next (s.portal m (HL_CTRL n) (m == 0) (if s.laneSt n ≠ laneReady then s.putFlag (HL_STAT_CFG_REJ n) true
  else s.stageBy m (HL_CTRL n) 1))

/-- `HL_DETACH` (R92): detach staged. -/
def execHlDetach (n : Lane) (m : Master) (s : State) : Host.Outcome State Fault Refusal :=
  .next (s.portal m (HL_CTRL n) (m == 0) (s.stageBy m (HL_CTRL n) 2))

/-- `HL_RETRAIN` (R91): FAILED to DOWN. -/
def execHlRetrain (n : Lane) (m : Master) (s : State) : Host.Outcome State Fault Refusal :=
  .next (s.portal m (HL_CTRL n) (m == 0) (if s.laneSt n = laneFailed then s.setLane n laneDown else s))

/-- A staged `HL_CTRL` write commits (R92, R93): DETACH prevails over ADMIT.
(DEDUCED, notes/assumptions/29.md; DEDUCED, notes/assumptions/38.md) -/
def State.commitHlCtrl (s : State) (n : Lane) (v : Word) : State :=
  if v.toNat.testBit 1 then
    if s.laneSt n = laneActive then
      let s0 := s.wr64 (HL_DETACH_FN n) s.fn
      let s1 := (if s.isPeer n then s0 else s0.sendCtrl n 4 0 []).readyLane n
      s1.onLane n (fun l => { l with detached := true, released := true })
    else if (s.lane n).lostFn = some (s.fn - 1) then s.wr64 (HL_DETACH_FN n) s.fn
    else s
  else if v.toNat.testBit 0 && s.laneSt n == laneReady then
    let s1 := ((s.wr64 (HL_ADMIT_FN n) s.fn).put (HL_FEAT_CRED_LIMIT n) 1024).put (HL_CROP_CRED_LIMIT n) 4096
    let s2 := (s1.setLane n laneActive).onLane n (fun l => { l with
      featUsed := 0, cropUsed := 0, detached := false, released := false, missRun := 0, overRun := 0, hbRx := s.tt })
    if s.isPeer n then s2 else s2.sendCred n
  else s

/-- Whether a write of `HL_CFG` is refused (R93, R94): MODE, DOM, SURF or VMAX changed while ACTIVE, or a third peer
lane. (DESIGN CHOICE, notes/assumptions/132.md) -/
def State.hlCfgRefused (s : State) (n : Lane) (v : Word) : Bool :=
  let old := (s.latest (HL_CFG n)).toNat
  let new := v.toNat
  let others := numbersWhere 48 (fun k => k != n.val && bitsOf (s.latest (HL_CFG k)).toNat 0 2 == 2)
  (s.laneSt n == laneActive && bitsOf old 0 7 != bitsOf new 0 7) || (bitsOf new 0 2 == 2 && decide (2 ≤ others.length))

/-- `HL_PEER` brought in line with the peer lanes (R94). -/
def State.syncPeers (s : State) : State :=
  match s.peers with
  | a :: b :: _ => (((s.put HL_PEER_LANE0 a).putFlag HL_PEER_V0 true).put HL_PEER_LANE1 b).putFlag HL_PEER_V1 true
  | [a] => (((s.put HL_PEER_LANE0 a).putFlag HL_PEER_V0 true).put HL_PEER_LANE1 0).putFlag HL_PEER_V1 false
  | [] => (((s.put HL_PEER_LANE0 0).putFlag HL_PEER_V0 false).put HL_PEER_LANE1 0).putFlag HL_PEER_V1 false

/-- A staged `HL_CFG` write commits: a change of MODE, or a write of it on a FAILED lane, takes the lane DOWN (R91); a
peer lane so lost raises HL_PEER_DOWN (R94).
(DEDUCED, notes/assumptions/29.md; DESIGN CHOICE, notes/assumptions/132.md) -/
def State.commitHlCfg (s : State) (n : Lane) (v : Word) : State :=
  let old := s.get (HL_CFG_MODE n)
  let new := bitsOf v.toNat 0 2
  let moved := bitsOf v.toNat 2 2 != s.get (HL_CFG_DOM n)
  let s1 := (s.wr (HL_CFG n) (v &&& 0x7FF)).when moved (fun s => s.onLane n (fun l => { l with sent := [] }))
  let s2 := if old ≠ new ∧ old = 2 ∧ s.laneSt n = laneReady then s1.raise F_HL_PEER_DOWN n else s1
  (if old ≠ new ∨ s.laneSt n = laneFailed then s2.setLane n laneDown else s2).syncPeers

/-- A staged `HL_HB_CFG` write commits: a new period is written to the head, and the longer of the two judges loss for a
while (R89). -/
def State.commitHlHb (s : State) (n : Lane) (v : Word) : State :=
  let old := s.get (HL_HB_CFG_PER n)
  let s1 := s.wr (HL_HB_CFG n) (v &&& 0xFFFF)
  let new := s1.get (HL_HB_CFG_PER n)
  if old = new then s1
  else
    let s2 := s1.onLane n (fun l => { l with hbOld := (old, s.tt + s1.get (HL_HB_CFG_TO_N n) * max old new * usKclk) })
    if laneCalibrate ≤ s.laneSt n ∧ s.laneSt n ≤ laneActive then s2.pushHbPer n else s2

/-! ### Credits (R79 to R81) -/

/-- Whether a message of a class is within its credit (R80): the difference taken as a signed 32-bit value. -/
def creditOk (used cost limit : Nat) : Bool :=
  decide (signedOf 32 (unsignedOf 32 ((used : Int) + cost - limit)) ≤ 0)

/-- FEAT credits returned (R80). -/
def State.returnFeat (s : State) (n : Nat) (k : Nat) : State :=
  s.put (HL_FEAT_CRED_LIMIT n) (s.get (HL_FEAT_CRED_LIMIT n) + k)

/-- CROP credits returned (R80). -/
def State.returnCrop (s : State) (n : Nat) (k : Nat) : State :=
  s.put (HL_CROP_CRED_LIMIT n) (s.get (HL_CROP_CRED_LIMIT n) + k)

/-- A message beyond its credit (R81). -/
def State.creditViolation (s : State) (n : Lane) : State :=
  ((s.bump (HL_CREDIT_VIOL_CNT n)).putFlag (HL_ISR_CREDIT_VIOL n) true).raise F_HL_CREDIT_VIOL n

/-- `CRED_SEND` (R79, R80): a limit has advanced by 16 credits, or a change has waited 10 µs. -/
def execCredSend (n : Lane) (s : State) : Host.Outcome State Fault Refusal :=
  let l := s.lane n
  let f := (s.get (HL_FEAT_CRED_LIMIT n) + 2 ^ 32 - l.featSent) % 2 ^ 32
  let c := (s.get (HL_CROP_CRED_LIMIT n) + 2 ^ 32 - l.cropSent) % 2 ^ 32
  let due := decide (16 ≤ f) || decide (16 ≤ c) || (decide (0 < f + c) && decide (l.credTt + 10 * usKclk ≤ s.tt))
  .next (if decide (laneNegotiate ≤ s.laneSt n) && decide (s.laneSt n ≤ laneActive) && !s.isPeer n && due then s.sendCred n else s)

/-- The SEQ of a FEAT or CROP message judged (R59): a break is counted and raised. (DEDUCED, notes/assumptions/27.md) -/
def State.checkSeq (s : State) (n : Lane) (typ : Nat) (b : Bytes) : State :=
  let seq := field b 4 2
  let s1 := s.onLane n (fun l => { l with rxSeqs := putKey l.rxSeqs typ ((seq + 1) % 65536) })
  match lookup (s.lane n).rxSeqs typ with
  | some e =>
    if e = seq then s1 else ((s1.bump (HL_SEQ_GAP_CNT_CNT n)).putFlag (HL_ISR_SEQ_GAP n) true).raise F_HL_SEQ_GAP n
  | none => s1

/-! ### Feature records (R72 to R76) -/

/-- A missing or MISSED capture (R72): eight in a row lose the head. -/
def State.captureMissed (s : State) (n : Lane) : State :=
  let s1 := (((s.bump (HL_CAP_MISS_CNT n)).putFlag (HL_ISR_CAP_MISS n) true).raise F_HL_CAP_MISS n).onLane n
    (fun l => { l with missRun := l.missRun + 1 })
  if 8 ≤ (s1.lane n).missRun ∧ s1.losable n then s1.headLost n else s1

/-- `CAPTURE_MISS` (R72): the final FEAT of a capture has not come 1 ms after its TT_EXP. -/
def execCaptureMiss (n : Lane) (s : State) : Host.Outcome State Fault Refusal :=
  .next (match (s.lane n).caps.find? (fun c => decide (c.tt + msKclk ≤ s.tt)) with
  | some c => (s.onLane n (fun l => { l with caps := l.caps.filter (fun x => x.no != c.no) })).captureMissed n
  | none => s)

/-- LAT in strip coordinates (R75): out of range is not available. -/
def latOffset (lat : Nat) (off : Int) : Nat :=
  if lat = 0x8000 then 0x8000
  else
    let x := signedOf 16 lat + off
    if -32767 ≤ x ∧ x ≤ 32767 then unsignedOf 16 x else 0x8000

/-- A record of a FEAT as the device hands it over (R74, R75, R87): LAT offset, FEATV zero in version 1 and between twins
below epoch 2. -/
def State.ingest (s : State) (n : Lane) (r : Bytes) : Bytes :=
  let lat := latOffset (field r 0 2) (signedOf 16 (s.get (HL_LAT_OFF_OFF n)))
  let noFeatv := decide (s.get (HL_STAT_VER n) < 2) || (s.flag TW_CFG_EN && decide (s.get TW_EPOCH_EPOCH < 2))
  natLe 2 lat ++ (r.drop 2).take 18 ++ (if noFeatv then List.replicate 12 0 else (r.drop 20).take 12)

/-- Whether the CAP_ID check of R76 is replaced by the leader's placement (R448), or waived at a takeover (R452). -/
def State.foreignCap (s : State) (fn : Nat) : Bool :=
  s.get TW_STAT_ROLE == 1 || (match s.tw.takeFn with | some f => decide (fn ≤ f) | none => false)

/-- Whether R76 drops the records of a message. -/
def State.dropsRecords (s : State) (n : Lane) (own : Bool) (fn : Nat) : Bool :=
  (!own && !s.foreignCap fn) || decide (fn ≤ s.rd64 (HL_ADMIT_FN n))
    || ((s.lane n).detached && decide (s.rd64 (HL_DETACH_FN n) < fn)) || decide (s.fn + 1 < fn)

/-- Records handed to the Track Engine in order, the credits of their message on the last (R80).
(DEDUCED, notes/assumptions/32.md) -/
def withCredit (l : List RecIn) (cost : Nat) : List RecIn :=
  match l with
  | [] => []
  | [r] => [{ r with credit := cost }]
  | r :: t => r :: withCredit t cost

/-- The records of a capture marked TRUNC (R112). -/
def markTrunc (n : Nat) (no : Nat) (l : List RecIn) : List RecIn :=
  l.map (fun r => if r.lane = n ∧ r.cap = no then { r with trunc := true } else r)

/-- The capture that a FEAT belongs to: an outstanding one of the lane's own TRIGs, or one of the leader's (R76, R448,
R452), which its first FEAT opens. Its number goes on from the one before by the difference of their CAP_IDs. -/
def State.foreignOf (s : State) (n : Lane) (b : Bytes) : Capture :=
  let l := s.lane n
  match l.fcaps.find? (fun c => c.no % 65536 = field b 24 2 && c.fn = field b 16 8) with
  | some c => c
  | none =>
    let step := signedOf 16 (unsignedOf 16 ((field b 24 2 : Int) - l.fNo))
    { no := ((l.fNo : Int) + step + (if (l.fNo : Int) + step < 0 then 65536 else 0)).toNat, tt := field b 8 8, fn := field b 16 8,
      tgt := 0 }

/-- A capture brought up to date with records received, in the list that holds it. -/
def Capture.taken (c : Capture) (room : Nat) (trunc : Bool) : Capture :=
  { c with got := c.got + room, trunc := c.trunc || trunc }

/-- The records of a FEAT handed over, or dropped (R75, R76); the first 1,024 of a capture count (R73). `own` tells
whether the capture is one of the lane's own TRIGs. (DEDUCED, notes/assumptions/32.md) -/
def State.takeRecords (s : State) (n : Lane) (b : Bytes) (cap : Capture) (own : Bool) (cost : Nat) : State :=
  let fn := field b 16 8
  let k := field b 27 1
  let trunc := (field b 26 1).testBit 2
  let no := cap.no
  let got := cap.got
  let room := min k (1024 - got)
  let cut := decide (room < k)
  let all : List RecIn := (List.range room).map (fun i =>
    { lane := n, dom := s.get (HL_CFG_DOM n), surf := s.get (HL_CFG_SURF n), cap := no, capId := field b 24 2, pos := got + i,
      tt := field b 8 8, fn := fn, bytes := s.ingest n ((b.drop (32 + 32 * i)).take 32),
      trunc := trunc || cut || cap.trunc, credit := 0 })
  if s.dropsRecords n own fn then
    let s1 := s.addTo (HL_REC_DROP_CNT n) k
    (if k = 0 then s1 else s1.putFlag (HL_ISR_REC_DROP n) true).returnFeat n cost
  else
    let s1 := s.onTe (fun x => { x with incoming := s.te.incoming ++ withCredit all cost })
    let s2 := (s1.addTo (HL_REC_CNT_CNT n) room).when (room == 0) (fun s => s.returnFeat n cost)
    let s3 := s2.onLane n (fun l =>
      if own then { l with caps := l.caps.map (fun c => if c.no = no then c.taken room (trunc || cut) else c) }
      else { l with fcaps := l.fcaps.filter (fun c => c.no != no) ++ [cap.taken room (trunc || cut)], fNo := no })
    if trunc || cut then s3.onTe (fun x => { x with incoming := markTrunc n no s3.te.incoming, staged := markTrunc n no s3.te.staged }) else s3

/-- `FEAT_RECEIVE` (R59, R71 to R76, R81). (DEDUCED, notes/assumptions/32.md) -/
def execFeatReceive (n : Lane) (s : State) : Host.Outcome State Fault Refusal :=
  .next (match s.rxFront n 0x10 with
  | none => s
  | some m =>
    let b := m.bytes
    let s0 := s.rxPop n
    let cost := divUp b.length 64
    if b.length ≠ 40 + 32 * field b 27 1 then s0.bump (HL_CRC_ERR_CNT n)
    else
      let s1 := s0.checkSeq n 0x10 b
      if !creditOk (s.lane n).featUsed cost (s.get (HL_FEAT_CRED_LIMIT n)) then s1.creditViolation n
      else
        let s2 := s1.onLane n (fun l => { l with featUsed := (l.featUsed + cost) % 2 ^ 32 })
        let own := (s.lane n).caps.find? (fun c => c.no % 65536 = field b 24 2)
        let cap := own.getD (s.foreignOf n b)
        let s3 := s2.takeRecords n b cap own.isSome cost
        let flags := field b 26 1
        if flags.testBit 0 ∨ (own.isNone ∧ !s.foreignCap (field b 16 8)) then s3
        else
          let s4 := s3.onLane n (fun l =>
            if own.isSome then { l with caps := l.caps.filter (fun x => x.no != cap.no) }
            else { l with fcaps := l.fcaps.filter (fun x => x.no != cap.no) })
          if flags.testBit 1 then s4.captureMissed n else s4.onLane n (fun l => { l with missRun := 0 }))

/-! ### Crops (R77, R78) -/

/-- The fabric address of a slot of a lane's crop ring. -/
def State.cropSlot (s : State) (n : Lane) (slot : Nat) : Nat :=
  s.rd64 (HL_CROP_BASE n) + slot * 65536

/-- The state byte of a crop slot written by HL DMA. -/
def State.setCropState (s : State) (n : Lane) (slot st : Nat) : State :=
  (s.busWrite 10 (s.cropSlot n slot + 6) [BitVec.ofNat 8 st]).1

/-- A crop dropped (R78). -/
def State.cropDropped (s : State) (n : Lane) : State :=
  ((s.bump (HL_CROP_DROP_CNT n)).putFlag (HL_ISR_CROP_DROP n) true).raise F_HL_CROP_DROP n

/-- The bytes per pixel of a crop format (R77). -/
def cropBpp (format : Nat) : Nat :=
  if format = 0 then 1 else 2

/-- Whether a CROP message is one that R77 allows on a lane: format, fragments, and pixels within the crop.
(DEDUCED, notes/assumptions/33.md) -/
def State.cropOk (s : State) (n : Lane) (b : Bytes) : Bool :=
  let format := field b 16 1
  let total := field b 12 2 * field b 14 2 * cropBpp format
  let dlen := field b 24 2
  decide (field b 8 4 ≠ 0) && decide (format < 2 ∨ (format = 2 ∧ 2 ≤ s.get (HL_STAT_VER n)))
    && decide (field b 17 1 < field b 18 1) && decide (field b 18 1 ≤ 8) && decide (1 ≤ dlen) && decide (dlen ≤ 8192)
    && decide (total ≤ 65472) && decide (field b 20 4 + dlen ≤ total)

/-- The header of a crop slot (R78): bytes 0 to 19. -/
def cropHeader (n : Nat) (b : Bytes) (got : Nat) : Bytes :=
  natLe 4 (field b 8 4) ++ natLe 1 n ++ natLe 1 (field b 16 1) ++ [1, 0] ++ natLe 4 (field b 12 4) ++ natLe 4 (field b 26 4)
    ++ natLe 4 got

/-- A fragment written into its slot; the last completes the crop (R78). (DEDUCED, notes/assumptions/33.md) -/
def State.takeFragment (s : State) (n : Lane) (b : Bytes) : State :=
  let id := field b 8 4
  let slot := id % s.get (HL_CROP_SLOTS_N n)
  let base := s.cropSlot n slot
  let dlen := field b 24 2
  let old := (s.lane n).fills.find? (fun f => f.slot = slot)
  let s1 := match old with
    | some f => if f.id = id then s else (s.setCropState n slot 3).cropDropped n
    | none => s
  let f0 : CropFill := match old with
    | some f => if f.id = id then f else ⟨slot, id, s.tt, field b 12 2 * field b 14 2 * cropBpp (field b 16 1), 0, []⟩
    | none => ⟨slot, id, s.tt, field b 12 2 * field b 14 2 * cropBpp (field b 16 1), 0, []⟩
  let (s2, r) := s1.busWrite 10 (base + 64 + field b 20 4) ((b.drop 32).take dlen)
  let new := r.ok && !f0.frags.contains (field b 17 1)
  let f1 : CropFill := { f0 with got := f0.got + (if new then dlen else 0), frags := if new then f0.frags ++ [field b 17 1] else f0.frags }
  let s3 := (s2.busWrite 10 base (cropHeader n b f1.got)).1
  let rest := ((s.lane n).fills.filter (fun f => f.slot != slot))
  if f1.total ≤ f1.got then (s3.setCropState n slot 2).onLane n (fun l => { l with fills := rest })
  else s3.onLane n (fun l => { l with fills := rest ++ [f1] })

/-- `CROP_RECEIVE` (R59, R77, R78, R81). (DEDUCED, notes/assumptions/32.md) -/
def execCropReceive (n : Lane) (s : State) : Host.Outcome State Fault Refusal :=
  .next (match s.rxFront n 0x11 with
  | none => s
  | some m =>
    let b := m.bytes
    let s0 := s.rxPop n
    let cost := divUp b.length 64
    if b.length ≠ (40 + field b 24 2 + 7) / 8 * 8 then s0.bump (HL_CRC_ERR_CNT n)
    else
      let s1 := s0.checkSeq n 0x11 b
      if !creditOk (s.lane n).cropUsed cost (s.get (HL_CROP_CRED_LIMIT n)) then s1.creditViolation n
      else
        let s2 := s1.onLane n (fun l => { l with cropUsed := (l.cropUsed + cost) % 2 ^ 32 })
        let s3 := if s.flag (HL_CFG_CROP_EN n) && s.get (HL_CROP_SLOTS_N n) != 0 && s.cropOk n b then s2.takeFragment n b else s2
        s3.returnCrop n cost)

/-- `CROP_TIMEOUT` (R78): a crop still incomplete 1 ms after its first fragment. (DEDUCED, notes/assumptions/33.md) -/
def execCropTimeout (n : Lane) (slot : Nat) (s : State) : Host.Outcome State Fault Refusal :=
  .next (match (s.lane n).fills.find? (fun f => f.slot = slot) with
  | some f =>
    if f.since + msKclk ≤ s.tt then
      ((s.setCropState n slot 3).onLane n (fun l => { l with fills := l.fills.filter (fun f => f.slot != slot) })).cropDropped n
    else s
  | none => s)

/-! ### Status (R83) -/

/-- `STAT_RECEIVE` (R83). -/
def execStatReceive (n : Lane) (s : State) : Host.Outcome State Fault Refusal :=
  .next (match s.rxFront n 0x12 with
  | none => s
  | some m =>
    let b := m.bytes
    let s1 := ((s.rxPop n).put (HL_HSTAT_STATE n) (field b 8 2)).put (HL_HSTAT_TEMP n) (field b 10 2)
    let s2 := (s1.put (HL_HCOV_LO n) (field b 24 2)).put (HL_HCOV_HI n) (field b 26 2)
    if s.get (HL_HSTAT_STATE n) = field b 8 2 then s2 else s2.putFlag (HL_ISR_STAT_CHG n) true)

/-! ### Scheduled triggers (R67 to R70) -/

/-- The first grid point that lies ahead of a position in the direction of motion (R67). -/
def firstPoint (origin : Int) (pitch : Nat) (up : Bool) (bpv : Int) : Int :=
  if up then origin + ((bpv - origin) / pitch + 1) * pitch
  else origin + (-((origin - bpv) / pitch) - 1) * pitch

/-- The direction of motion as R67 takes it: forward where the domain has not moved since its history origin, else as
`DOM_STAT.REVERSE` shows it. (DEDUCED, notes/assumptions/31.md) -/
def State.forward (s : State) (d : Dom) : Bool :=
  (s.dom d).hist.isEmpty || !s.flag (DOM_STAT_REVERSE d)

/-- The second grid line beyond G_k in the firing domain's direction, where the step grid bounds the selection (R67).
(DEDUCED, notes/assumptions/31.md) -/
def State.stepBound (s : State) (d : Dom) : Option Int :=
  if s.get TB_CTRL_FSRC = 0 ∧ s.get TB_CTRL_FDOM = d.val then
    some (s.kiln.t0 + (s.kiln.k + (if s.forward d then 2 else -2)) * s.get TB_STEP_STEP)
  else none

/-- A TRIG sent (R69). (DEDUCED, notes/assumptions/31.md) -/
def State.sendTrig (s : State) (n : Lane) (t : Nat) (c : Int) : State :=
  let no := (s.lane n).capNo
  let content := natLe 8 t ++ natLe 8 (s.fn + 1) ++ natLe 8 (unsignedOf 64 c) ++ natLe 2 (no % 65536)
    ++ natLe 1 (s.get (HL_PROFILE_IDX n)) ++ [0]
  ((s.send n 4 0 content).bump (HL_TRIG_CNT_CNT n)).onLane n (fun l =>
    { l with capNo := no + 1, caps := l.caps ++ [{ no := no, tt := t, fn := s.fn + 1, tgt := c }] })

/-- A capture skipped (R68). -/
def State.skipTrig (s : State) (n : Lane) : State :=
  ((s.bump (HL_TRIG_SKIP_CNT n)).putFlag (HL_ISR_TRIG_SKIP n) true).raise F_HL_TRIG_SKIP n

/-- The grid points of a lane from one on selected, sent and skipped, those sent or skipped before left out (R67, R68);
`sent` counts the TRIGs of this boundary. (DEDUCED, notes/assumptions/31.md) -/
def State.selectFrom (s : State) (fuel : Nat) (n : Lane) (d : Dom) (up : Bool) (bound : Option Int) (c : Int) (sent : Nat)
    (ovf : Bool) : State × Bool :=
  match fuel with
  | 0 => (s, ovf)
  | fuel + 1 =>
    let inside := match bound with
      | some g => if up then decide (c < g) else decide (g < c)
      | none => true
    if !inside then (s, ovf)
    else
      let p := s.p2t d c
      let pitch : Int := s.get (HL_CAP_PITCH_PV n)
      let next := if up then c + pitch else c - pitch
      let done := s.onLane n (fun l => { l with sent := c :: l.sent })
      let b := s.rd64 TB_BTT
      if (s.lane n).sent.contains c then s.selectFrom fuel n d up bound next sent ovf
      else if p.code ≠ 0 then
        if bound.isNone ∧ p.code = 4 then (s, ovf)
        else (done.skipTrig n).selectFrom fuel n d up bound next sent ovf
      else if (b + s.get TB_FMAX_FMAX + 5000 : Nat) ≤ p.out then (s, ovf)
      else if p.out < (b + 3750 : Nat) then (done.skipTrig n).selectFrom fuel n d up bound next sent ovf
      else if 16 ≤ sent then (done.skipTrig n).selectFrom fuel n d up bound next sent true
      else (done.sendTrig n p.out.toNat c).selectFrom fuel n d up bound next (sent + 1) ovf

/-- How many grid points the selection may reach: those before the bound, or those due before its end. -/
def State.selectFuel (s : State) (n : Lane) (d : Dom) (bound : Option Int) (c : Int) : Nat :=
  let pitch := s.get (HL_CAP_PITCH_PV n)
  match bound with
  | some g => (g - c).natAbs / pitch + 1
  | none =>
    let h := match (s.dom d).hist with | e :: _ => s.tt - e.1 | [] => 0
    ((s.velocity d).1.natAbs * (s.get TB_FMAX_FMAX + 5000 + h) / q24 + 512) / pitch + 2

/-- The captures of a boundary for one lane (R67 to R69). (DEDUCED, notes/assumptions/31.md) -/
def State.sendTrigs (s : State) (n : Lane) : State :=
  let pitch := s.get (HL_CAP_PITCH_PV n)
  let role := s.get TW_STAT_ROLE
  if s.laneSt n ≠ laneActive ∨ !s.flag (HL_STAT_SYNCED n) ∨ s.isPeer n ∨ pitch = 0 ∨ role = 1 ∨ role = 2 then s
  else
    let d : Dom := toIx 4 (s.get (HL_CFG_DOM n))
    let up := s.forward d
    let bpv := s.rdInt (DOM_BPV d)
    let bound := s.stepBound d
    let c := firstPoint (s.rdInt (HL_CAP_ORIGIN n)) pitch up bpv
    let s0 := s.onLane n (fun l => { l with sent := l.sent.filter (fun p => if up then decide (bpv < p) else decide (p < bpv)) })
    let (s1, ovf) := s0.selectFrom (s.selectFuel n d bound c) n d up bound c 0 false
    if ovf then s1.raise F_HL_TRIG_OVF n else s1

/-! ### Coverage (R85) -/

/-- The span of strip that a lane covers on a domain and surface, if it contributes (R85). -/
def State.laneSpan (s : State) (d surf : Nat) (n : Lane) : Option (Int × Int) :=
  if s.laneSt n = laneActive ∧ s.flag (HL_STAT_SYNCED n) ∧ (s.get (HL_HSTAT_STATE n)).testBit 0 ∧ !s.isPeer n
      ∧ s.get (HL_CFG_DOM n) = d ∧ s.get (HL_CFG_SURF n) = surf then
    let off := signedOf 16 (s.get (HL_LAT_OFF_OFF n))
    let lo := signedOf 16 (s.get (HL_COV_LO n))
    let hi := signedOf 16 (s.get (HL_COV_HI n))
    if 2 ≤ s.get (HL_STAT_VER n) ∧ (s.get (HL_HSTAT_STATE n)).testBit 4 then
      some (max lo (signedOf 16 (s.get (HL_HCOV_LO n))) + off, min hi (signedOf 16 (s.get (HL_HCOV_HI n))) + off)
    else some (lo + off, hi + off)
  else none

/-- The parts of [cur, hi] that no span covers, in rising order; the spans rise by their lower ends. -/
def uncovered (cur hi : Int) (l : List (Int × Int)) : List (Int × Int) :=
  let part (a b : Int) : List (Int × Int) := if a < b then [(a, b)] else []
  match l with
  | [] => part cur hi
  | (a, b) :: r => part cur (min a hi) ++ uncovered (max cur b) hi r

/-- The widest of several parts, the first on a tie. -/
def widest (l : List (Int × Int)) : Option (Int × Int) :=
  l.foldl (fun best p => match best with
    | some q => if q.2 - q.1 < p.2 - p.1 then some p else best
    | none => some p) none

/-- The gaps of a domain and surface (R85). -/
def State.gapsOf (s : State) (d surf : Nat) : List (Int × Int) :=
  let req := (s.rd (if surf = 0 then HL_REQ_TOP d else HL_REQ_BOT d)).toNat
  let lo := signedOf 16 req
  let hi := signedOf 16 (req / 65536)
  if hi ≤ lo then []
  else
    let spans := ((allFin 48).filterMap (s.laneSpan d surf)).filter (fun p => decide (p.1 < p.2))
    uncovered lo hi (sortBy (fun a b => decide (a.1 ≤ b.1)) spans)

/-- The coverage of one domain and surface evaluated (R85): a gap opens where a part of it overlaps none of the boundary
before. (DEDUCED, notes/assumptions/34.md; DESIGN CHOICE, notes/assumptions/131.md) -/
def State.coverOne (s : State) (d surf : Nat) : State :=
  let bit := 2 * d + surf
  let parts := s.gapsOf d surf
  let old := s.gaps.toList.getD bit []
  let opened := (parts.filter (fun p => !old.any (fun q => decide (q.1 < p.2) && decide (p.1 < q.2)))).length
  let gap := widest parts
  let v := match gap with
    | some (a, b) => unsignedOf 16 a + unsignedOf 16 b * 65536
    | none => 0
  let s0 : State := { s with gaps := alter s.gaps (toIx 8 bit) (fun _ => parts) }
  let s1 := (s0.wr (if surf = 0 then HL_GAP_TOP d else HL_GAP_BOT d) (BitVec.ofNat 32 v)).put HL_GAP_STAT_GAP
    (withBits (s.get HL_GAP_STAT_GAP) bit 1 (if gap.isSome then 1 else 0))
  s1.each (List.range opened) (fun s _ => (s.bump HL_GAP_CNT_CNT).raise F_HEAD_GAP 0)

/-- The coverage of a boundary (R85, R436). (DEDUCED, notes/assumptions/34.md) -/
def State.evalCoverage (s : State) : State :=
  let s1 := s.each (List.range 4) (fun s d => (s.coverOne d 0).coverOne d 1)
  s1.degradeWhen 1 (s1.get HL_GAP_STAT_GAP != 0)

end Sys2Proof.Machine
end

