-- ==== Sys2Proof/Machine/Archive.lean ====
section
/-! DEFINITION. The coil archive: coils, hand-offs, segments, wear and power-fail (R391 to R399). -/

namespace Sys2Proof.Machine

/-! ### Records (R392) -/

/-- A record with its CRC-32C (R392): bytes 0 to 59 and the CRC over them and what follows.
(PRESUMED, notes/assumptions/20.md) -/
def withCrc (b rest : Bytes) : Bytes :=
  b ++ natLe 4 (crc32c (b ++ rest)).toNat

/-- A track record of the archive: the record as sealed, its batch and the offset of its crop.
(DEDUCED, notes/assumptions/104.md) -/
def trackEntry (r : Bytes) (batch : Nat) (cropOfs : Option Nat) : Bytes :=
  withCrc (r ++ natLe 8 batch ++ natLe 8 (cropOfs.getD (2 ^ 64 - 1)) ++ List.replicate 12 0) []

/-- A seal record. (DEDUCED, notes/assumptions/104.md) -/
def sealEntry (fn : Nat) (c : Coil) (pf lost skipped : Bool) : Bytes :=
  let flags := (if pf then 1 else 0) + (if lost then 2 else 0) + (if skipped then 4 else 0)
  let hash := sha512 (c.recs.flatMap (fun r => r.2))
  withCrc (natLe 8 fn ++ natLe 4 c.segTracks ++ natLe 4 c.segCrops ++ natLe 2 c.segGaps ++ [0xFF] ++ natLe 1 flags
    ++ List.replicate 4 0 ++ hash.take 32 ++ List.replicate 4 0) []

/-- A record of the gap log; `kind` is 0 opened, 1 changed, 2 closed. (DEDUCED, notes/assumptions/104.md) -/
def gapEntry (fn : Nat) (bpv : Int) (d surf kind gap : Nat) : Bytes :=
  let b := natLe 8 fn ++ natLe 8 (unsignedOf 64 bpv) ++ natLe 1 d ++ natLe 1 surf ++ natLe 1 kind ++ [0] ++ natLe 4 gap
    ++ List.replicate 4 0
  b ++ natLe 4 (crc32c b).toNat

/-- A crop record: header, pixels and padding. -/
def cropEntry (slot : Bytes) (pixels : Bytes) (track batch : Nat) : Bytes :=
  let head := slot.take 6 ++ [0, 0] ++ (slot.drop 8).take 8 ++ natLe 4 pixels.length ++ natLe 4 track ++ natLe 8 batch
    ++ List.replicate 28 0
  withCrc head pixels ++ pixels ++ List.replicate ((64 - pixels.length % 64) % 64) 0

/-! ### Space -/

/-- The bytes that a coil holds. -/
def Coil.size (c : Coil) : Nat :=
  c.recs.foldl (fun n r => n + r.2.length) 0

/-- The bytes of one part of a coil. -/
def Coil.part (c : Coil) (p : Nat) : Bytes :=
  (c.recs.filter (fun r => r.1 = p)).flatMap (fun r => r.2)

/-- The free space of the archive. -/
def State.archFree (s : State) : Nat :=
  s.part.archiveGb * 1000000000 - s.arch.coils.foldl (fun n c => n + c.size) 0

/-- `AR_FREE`, `AR_COILS` and `AR_PEND_BYTES` brought in line; free space that falls below the watermark raises SRC[465]
(R396). -/
def State.syncArch (s : State) : State :=
  let free := s.archFree
  let wm := s.rd64 AR_LOW_WM
  let s1 := if free < wm ∧ wm ≤ s.rd64 AR_FREE then s.raiseSrc 465 else s
  let pend := s.arch.segBytes + s.arch.segs.foldl (fun n g => n + g.bytes) 0
  let s2 := (s1.wr64 AR_FREE free).wr64 AR_PEND_BYTES pend
  (s2.put AR_COILS_N s.arch.coils.length).put AR_COILS_OPEN (s.arch.coils.filter (fun c => c.isOpen)).length

/-- The oldest closed coils deleted until a number of bytes is free (R396). -/
def State.makeRoom (s : State) (fuel need : Nat) : State :=
  match fuel with
  | 0 => s
  | fuel + 1 =>
    if need ≤ s.archFree ∨ s.flag AR_CTRL_KEEP then s
    else match s.arch.coils.find? (fun c => !c.isOpen) with
    | some c =>
      ((s.onArch (fun a => { a with coils := a.coils.filter (fun x => x.seq != c.seq) })).bump AR_DELETE_CNT_CNT).makeRoom fuel need
    | none => s

/-- Records appended to a coil, which count in its open segment. -/
def Coil.add (c : Coil) (p : Nat) (b : Bytes) : Coil :=
  { c with
    recs := c.recs ++ [(p, b)],
    segTracks := if p = 0 then c.segTracks + 1 else c.segTracks,
    segCrops := if p = 1 then c.segCrops + 1 else c.segCrops,
    segGaps := if p = 2 then c.segGaps + 1 else c.segGaps }

/-- A coil without some of the records of its open segment, `lost` by their place in it (R384). -/
def Coil.lose (c : Coil) (lost : Nat → Bool) : Coil :=
  let n := c.recs.length - (c.segTracks + c.segCrops + c.segGaps)
  let kept := ((c.recs.drop n).zipIdx.filter (fun x => !lost x.2)).map (fun x => x.1)
  let count (p : Nat) : Nat := (kept.filter (fun r => r.1 = p)).length
  { c with recs := c.recs.take n ++ kept, segTracks := count 0, segCrops := count 1, segGaps := count 2 }

/-- The bytes accepted in the last 1 ms. -/
def State.recentWrites (s : State) : Nat :=
  (s.arch.writes.filter (fun w => decide (s.tt < w.1 + msKclk))).foldl (fun n w => n + w.2) 0

/-- Bytes entered into the rate of the last 1 ms (R395). -/
def State.countWrite (s : State) (n : Nat) : State :=
  s.onArch (fun a => { a with writes := (s.tt, n) :: a.writes.filter (fun w => decide (s.tt < w.1 + msKclk)) })

/-- A record appended to the coil with a sequence number, space made for it. -/
def State.addRecord (s : State) (seq p : Nat) (b : Bytes) : State :=
  ((s.makeRoom s.arch.coils.length b.length).countWrite b.length).onArch (fun a => { a with
    coils := a.coils.map (fun c => if c.seq = seq then c.add p b else c), segBytes := a.segBytes + b.length })

/-! ### Hand-offs (R120, R391 to R396) -/

/-- The coil that a position on a domain belongs to: the greatest start at or below it, or else the automatic coil
opened last (R391). -/
def State.coilOf (s : State) (d : Nat) (pv : Int) : Option Coil :=
  let fit := s.arch.coils.filter (fun c => c.dom == some d && decide (c.start ≤ pv))
  match fit.foldl (fun (best : Option Coil) c => match best with
      | some b => if b.start ≤ c.start then some c else best
      | none => some c) none with
  | some c => some c
  | none => (s.arch.coils.filter (fun c => c.dom.isNone)).getLast?

/-- The bytes that the archive may accept in 1 ms (R395). (DEDUCED, notes/assumptions/104.md) -/
def State.archRate (s : State) : Nat :=
  let r := s.get AR_RATE_MBS
  let cap := match s.get AR_STAT_THROTTLE with
    | 0 => r
    | 1 => min r 3000
    | 2 => min r 1000
    | _ => 0
  cap * 1000

/-- The crop of a track as it lies in its slot, if it can be archived (R392): the slot's first 64 bytes and the pixels. -/
def State.cropOf (s : State) (lane id : Nat) : State × Option (Bytes × Bytes) :=
  let slots := s.get (HL_CROP_SLOTS_N lane)
  if !s.flag AR_CTRL_CROPS || id = 0 || slots = 0 then (s, none)
  else
    let a := s.rd64 (HL_CROP_BASE lane) + id % slots * 65536
    let (s1, head, r) := s.busRead 12 a 64
    if r.ok ∧ field head 6 1 = 2 ∧ field head 0 4 = id then
      let (s2, px, r2) := s1.busRead 12 (a + 64) (min (field head 16 4) 65472)
      (s2, if r2.ok then some (head, px) else none)
    else (s1, none)

/-- A track handed to the archive (R120, R393, R394, R396, R397): true where it is accepted.
(DEDUCED, notes/assumptions/104.md) -/
def State.archiveTrack (s : State) (id : Nat) (r : Bytes) (batch : Nat) : State × Bool :=
  if !s.flag AR_CTRL_EN then (s.bump AR_DISC_CNT_CNT, true)
  else if s.arch.refuse then (s, false)
  else
    let (s1, crop) := s.cropOf (field r 23 1) (field r 24 4)
    let entry := match crop with
      | some (h, px) => some (cropEntry h px id batch)
      | none => none
    let cropLen := (entry.map List.length).getD 0
    let skip := decide (0 < cropLen) && decide (s1.archRate < s1.recentWrites + 64 + cropLen)
    let entry := if skip then none else entry
    let size := 64 + (entry.map List.length).getD 0
    let pend := s1.rd64 AR_PEND_BYTES
    if s1.get AR_PF_LIMIT_MIB * 1048576 < pend + size then (s1, false)
    else
      let s2 := s1.makeRoom s1.arch.coils.length size
      if s2.archFree < size then
        ((if s2.flag AR_STAT_FULL then s2 else (s2.putFlag AR_STAT_FULL true).raise F_AR_FULL 0), false)
      else
        match s2.coilOf (bitsOf (field r 18 1) 4 2) (signedOf 64 (field r 0 8)) with
        | none => (s2, false)
        | some c =>
          let ofs := entry.map (fun _ => (c.part 1).length)
          let s3 := s2.putFlag AR_STAT_FULL false
          let s4 := if skip then (s3.bump AR_CROP_SKIP_CNT).onArch (fun a => { a with skipped := true }) else s3
          let s5 := match entry with
            | some e => s4.addRecord c.seq 1 e
            | none => s4
          ((s5.addRecord c.seq 0 (trackEntry r batch ofs)).syncArch, true)

/-! ### Segments (R393) -/

/-- The open segment sealed: a seal record to every coil that is open or has records in it, and the segment is
programmed. `fn` is the sealed firing. (DEDUCED, notes/assumptions/104.md) -/
def State.sealSegment (s : State) (fn : Nat) (pf : Bool) : State :=
  if !s.flag AR_CTRL_EN then s
  else
    let s1 := s.each (s.arch.coils.filter (fun c => c.isOpen || decide (0 < c.segTracks + c.segCrops + c.segGaps))) (fun s c =>
      s.addRecord c.seq 0 (sealEntry fn c pf s.arch.lost s.arch.skipped))
    let counts := s1.arch.coils.map (fun c => (c.seq, c.recs.length))
    (s1.onArch (fun a => { a with
      segs := a.segs ++ [⟨fn, a.segBytes, counts⟩], segBytes := 0, skipped := false, lost := false,
      coils := a.coils.map (fun c => { c with segTracks := 0, segCrops := 0, segGaps := 0 }) })).syncArch

/-- The wear that `AR_NAND_WR` amounts to, in percent of 3.5 PB (R396). -/
def State.syncWear (s : State) : State :=
  let pct := s.rd64 AR_NAND_WR * 100 / 3500000000000000
  let s1 := s.put AR_WEAR_PCT (min pct 255)
  if 90 ≤ pct ∧ !s.arch.wearRaised then (s1.raise F_AR_WEAR pct).onArch (fun a => { a with wearRaised := true }) else s1

/-- The oldest sealed segment in NAND (R393, R396). (DEDUCED, notes/assumptions/104.md) -/
def State.programSegment (s : State) : State :=
  match s.arch.segs with
  | [] => s
  | g :: rest =>
    let s1 := s.onArch (fun a => { a with
      segs := rest, coils := a.coils.map (fun c => { c with durable := (lookup g.counts c.seq).getD c.durable }) })
    let (k, s2) := s1.draw
    let s3 := (s2.wr64 AR_HOST_WR (s2.rd64 AR_HOST_WR + g.bytes)).wr64 AR_NAND_WR (s2.rd64 AR_NAND_WR + g.bytes + Config.writeAmp k)
    (s3.wr64 AR_DURABLE_FN g.fn).syncWear.syncArch

/-- `ARCHIVE_DURABLE` (R393): the oldest sealed segment is in NAND; while writing is suspended it waits (R395). -/
def execArchiveDurable (s : State) : Host.Outcome State Fault Refusal :=
  .next (if s.get AR_STAT_THROTTLE = 3 then s else s.programSegment)

/-! ### Coils (R391, R394) -/

/-- An automatic coil opened, at glost completion or when archiving is enabled (R391, R394).
(DEDUCED, notes/assumptions/47.md) -/
def State.openAutoCoil (s : State) : State :=
  let q := s.arch.nextSeq
  let c : Coil := { seq := q, id := natLe 8 q ++ List.replicate 8 0xFF, dom := none, start := 0 }
  (s.onArch (fun a => { a with coils := a.coils ++ [c], nextSeq := q + 1 })).syncArch

/-- A marked coil opened at its commit (R391). -/
def State.openCoil (s : State) (d : Nat) (start : Int) (id : Bytes) : State :=
  let c : Coil := { seq := s.arch.nextSeq, id := id, dom := some d, start := start }
  (s.onArch (fun a => { a with coils := a.coils ++ [c], nextSeq := a.nextSeq + 1 })).syncArch

/-- A coil closed (R391): SRC[464]. -/
def State.closeCoil (s : State) (seq : Nat) : State :=
  ((s.onArch (fun a => { a with coils := a.coils.map (fun c => if c.seq = seq then { c with isOpen := false } else c) })).raiseSrc
    464).syncArch

/-- The start of the coil after a position on a domain, if one is marked (R391). (DEDUCED, notes/assumptions/47.md) -/
def State.nextStart (s : State) (d : Nat) (pv : Option Int) : Option Int :=
  let starts := (s.arch.coils.filter (fun c => c.dom == some d
    && (match pv with | some p => decide (p < c.start) | none => true))).map (fun c => c.start)
  starts.foldl (fun (best : Option Int) x => match best with | some b => some (min b x) | none => some x) none

/-- The commit of `AR_CTRL` (R394): EN = 1 opens an automatic coil; EN = 0 seals the open segment and closes every
open coil. -/
def State.commitArCtrl (s : State) (v : Word) : State :=
  let new := v.toNat.testBit 0
  if new && !s.flag AR_CTRL_EN then (s.wr AR_CTRL (v &&& 7)).openAutoCoil
  else if !new && s.flag AR_CTRL_EN then
    let s1 := s.sealSegment s.fn false
    (s1.each (s1.arch.coils.filter (fun c => c.isOpen)) (fun s c => s.closeCoil c.seq)).wr AR_CTRL (v &&& 7)
  else s.wr AR_CTRL (v &&& 7)

/-- A gap change logged in the coil of its domain (R85, R392). -/
def State.logGap (s : State) (d surf old new : Nat) : State :=
  if old = new ∨ !s.flag AR_CTRL_EN then s
  else
    let kind := if old = 0 then 0 else if new = 0 then 2 else 1
    let bpv := s.rdInt (DOM_BPV d)
    match s.coilOf d bpv with
    | some c => (s.addRecord c.seq 2 (gapEntry s.fn bpv d surf kind new)).syncArch
    | none => s

/-! ### Temperature (R395) -/

/-- The throttle level that a temperature falls to: by each step 2 °C below its entry threshold (R395). -/
def throttleFall (t : Nat) : Nat → Nat
  | 0 => 0
  | k + 1 => if t + 2 ≤ (if k = 0 then 80 else if k = 1 then 83 else 85) then throttleFall t k else k + 1

/-- The throttle level that a temperature leads to from the present one: up at once, down step by step (R395). -/
def throttleNext (cur t : Nat) : Nat :=
  let up := if 85 ≤ t then 3 else if 83 ≤ t then 2 else if 80 ≤ t then 1 else 0
  if cur < up then up else throttleFall t cur

/-- `AR_THERMAL_CHANGE` (R395): the hottest NAND die reaches a temperature. (DEDUCED, notes/assumptions/104.md) -/
def execArThermalChange (t : Nat) (s : State) : Host.Outcome State Fault Refusal :=
  let cur := s.get AR_STAT_THROTTLE
  let new := throttleNext cur t
  let s1 := (s.put AR_TEMP_C t).put AR_STAT_THROTTLE new
  let s2 := if cur = new then s1 else s1.raiseSrc 466
  .next (if new = 3 ∧ cur ≠ 3 then s2.raise F_AR_THERMAL t else s2)

end Sys2Proof.Machine
end

