-- ==== Sys2Proof/Machine/Tracks.lean ====
section
/-! DEFINITION. The Track Engine: ingest, batches, association, closing, decisions, sealing, snapshots and the repeat
finder (R98 to R125). -/

namespace Sys2Proof.Machine

/-! ### The track record (R114) -/

/-- A track. -/
structure Track where
  start : Int
  span : Nat
  latLo : Int
  latHi : Int
  cls : Nat
  conf : Nat
  st : Nat
  surf : Nat
  dom : Nat
  action : Nat
  flags : Nat
  nrec : Nat
  laneFirst : Nat
  cropLane : Nat
  cropId : Nat
  area : Nat
  rep : Nat
  deriving DecidableEq, Repr

/-- The track states of R115. -/
def trkFree : Nat := 0
def trkOpen : Nat := 1
def trkClosed : Nat := 2
def trkDecided : Nat := 3
def trkSealed : Nat := 4
def trkMerged : Nat := 5

/-- The track that 32 bytes spell (R114). -/
def Track.ofBytes (b : Bytes) : Track :=
  { start := signedOf 64 (field b 0 8), span := field b 8 4, latLo := signedOf 16 (field b 12 2),
    latHi := signedOf 16 (field b 14 2), cls := field b 16 1, conf := field b 17 1, st := bitsOf (field b 18 1) 0 3,
    surf := bitsOf (field b 18 1) 3 1, dom := bitsOf (field b 18 1) 4 2, action := bitsOf (field b 18 1) 6 2,
    flags := field b 19 1, nrec := field b 20 2, laneFirst := field b 22 1, cropLane := field b 23 1,
    cropId := field b 24 4, area := field b 28 2, rep := field b 30 2 }

/-- The 32 bytes of a track (R114). -/
def Track.bytes (t : Track) : Bytes :=
  natLe 8 (unsignedOf 64 t.start) ++ natLe 4 t.span ++ natLe 2 (unsignedOf 16 t.latLo) ++ natLe 2 (unsignedOf 16 t.latHi)
    ++ natLe 1 t.cls ++ natLe 1 t.conf ++ natLe 1 (t.st % 8 + t.surf % 2 * 8 + t.dom % 4 * 16 + t.action % 4 * 64)
    ++ natLe 1 t.flags ++ natLe 2 t.nrec ++ natLe 1 t.laneFirst ++ natLe 1 t.cropLane ++ natLe 4 t.cropId
    ++ natLe 2 t.area ++ natLe 2 t.rep

/-- Where a track ends (R110). -/
def Track.stop (t : Track) : Int :=
  t.start + t.span

/-- The address of a track in the store. -/
def trackAddr (id : Nat) : Nat :=
  trackBase + 32 * id

/-- A track as the Track Engine reads it (R305). (DESIGN CHOICE, notes/assumptions/124.md) -/
def State.track (s : State) (id : Nat) : Track :=
  Track.ofBytes (s.decoded (trackAddr id) 32)

/-- The state of a track. -/
def State.trackSt (s : State) (id : Nat) : Nat :=
  leNat (s.decoded (trackAddr id + 18) 1) % 8

/-- What the read of a track's four words counts, raises and has written back (R308).
(DESIGN CHOICE, notes/assumptions/124.md) -/
def State.readTrack (s : State) (id : Nat) : State :=
  (s.fetch (trackAddr id) 32).1

/-- The pre-image of a track saved before its first change after the snapshot point (R122). -/
def State.preImage (s : State) (id : Nat) : State :=
  if s.te.pool.contains id then s
  else
    let k := s.te.pool.length
    let s1 := (s.store (poolBase + 32 * k) (s.decoded (trackAddr id) 32)).1
    let s2 := s1.onTe (fun t => { t with pool := t.pool ++ [id] })
    (s2.put TE_POOL_USED_N (k + 1)).raiseTo TE_POOL_PEAK_N (k + 1)

/-- Bytes that enter the batch hash of the application in progress (R105). (DESIGN CHOICE, notes/assumptions/43.md) -/
def State.hashIn (s : State) (b : Bytes) : State :=
  s.onTe (fun t => { t with app := t.app.map (fun a => { a with log := a.log ++ b }) })

/-- The bytes of a track written, its change entered into the batch hash (R105, R122).
(DESIGN CHOICE, notes/assumptions/43.md) -/
def State.writeTrackBytes (s : State) (id : Nat) (b : Bytes) : State :=
  (((s.preImage id).store (trackAddr id) b).1).hashIn (natLe 4 id ++ b)

/-- A track written. -/
def State.writeTrack (s : State) (id : Nat) (t : Track) : State :=
  s.writeTrackBytes id t.bytes

/-- The number of OPEN tracks of a domain and surface advanced or set back. -/
def State.countOpen (s : State) (d surf : Nat) (up : Bool) : State :=
  let f := if surf = 0 then TE_OPEN_TOP_N d else TE_OPEN_BOT_N d
  s.put f (if up then s.get f + 1 else s.get f - 1)

/-- FCLK added to the application's duration (R106). -/
def State.cost (s : State) (n : Nat) : State :=
  s.onTe (fun t => { t with app := t.app.map (fun a => { a with cost := a.cost + n }) })

/-! ### Ingest (R98, R99) -/

/-- The firing in which a TT falls, by the recorded boundaries. (DEDUCED, notes/assumptions/41.md) -/
def State.firingAt (s : State) (tt : Nat) : Option Nat :=
  (s.te.bounds.find? (fun b => decide (b.t0 ≤ tt))).map (fun b => b.fn)

/-- The batch firing of a record that is taken now (R99). (DESIGN CHOICE, notes/assumptions/133.md) -/
def State.batchFiring (s : State) (r : RecIn) : Nat :=
  if s.tt < r.tt then r.fn else max r.fn ((s.firingAt r.tt).getD r.fn)

/-- The records in the staging buffer, those of sealed batches included. -/
def State.stagedCount (s : State) : Nat :=
  s.te.staged.length + s.te.batches.foldl (fun n b => n + b.recs.length) 0

/-- The batch in which a leader has placed the capture of a record (R448). (DEDUCED, notes/assumptions/113.md) -/
def State.placedIn (s : State) (r : RecIn) : Option Nat :=
  (s.tw.places.reverse.find? (fun p => p.lane = r.lane ∧ p.capId = r.capId)).map (fun p => p.batch)

/-- Whether a record that is taken is known to be late (R99): its batch has been sealed. On a follower its batch is that
of its capture's placement, which may come after the record (R448). (DEDUCED, notes/assumptions/113.md) -/
def State.lateRecord (s : State) (r : RecIn) (f : Nat) : Bool :=
  if s.get TW_STAT_ROLE = 1 then (match s.placedIn r with | some b => decide (b ≤ s.te.sealedTo) | none => false)
  else decide (f ≤ s.te.sealedTo)

/-- A late record counted (R99). -/
def State.countLate (s : State) : State :=
  (s.bump TE_LATE_CNT_CNT).raise F_TE_LATE_REC 0

/-- `TE_STAGE_RECORD` (R98, R99): the oldest record is taken, which returns its credits; a late one is dropped.
(DEDUCED, notes/assumptions/40.md) -/
def execTeStageRecord (s : State) : Host.Outcome State Fault Refusal :=
  .next (match s.te.incoming with
  | [] => s
  | r :: rest =>
    if 4194304 ≤ s.stagedCount then s
    else
      let s1 := (s.onTe (fun t => { t with incoming := rest })).returnFeat r.lane r.credit
      let f := s.batchFiring r
      if !s.flag TE_CTRL_EN then s1
      else if s.lateRecord r f then s1.countLate
      else s1.onTe (fun t => { t with staged := t.staged ++ [{ r with batch := f }] }))

/-! ### Sealing a batch (R99 to R102) -/

/-- A value held to −32,767 to +32,767 (R101). -/
def sat16 (v : Int) : Int :=
  max (-32767) (min 32767 v)

/-- A product with a Q16.16 scale rounded to PV, ties away from zero (R101). -/
def scaled (v : Int) (scale div : Nat) : Int :=
  divNearest (v * scale) (65536 * div)

/-- A record placed on the strip (R101). -/
def place (r : RecIn) (scale : Nat) (p : Int) : Placed :=
  let b := r.bytes
  let lat := signedOf 16 (field b 0 2)
  let width : Int := field b 2 2
  let centre := p - scaled (signedOf 16 (field b 4 2)) scale 1
  let half := scaled (field b 6 2) scale 2
  let lo := sat16 (lat - width / 2)
  { src := r, start := centre - half, stop := centre + half, latLo := lo, latHi := sat16 (lo + width) }

/-- What a record of a batch comes to at the seal (R100): none where it is dropped; an edge record, or a placed one.
(DEDUCED, notes/assumptions/41.md; DEDUCED, notes/assumptions/45.md) -/
def State.placeRecord (s : State) (acc : State × List Placed × List (Nat × Nat × Int)) (r : RecIn) :
    State × List Placed × List (Nat × Nat × Int) :=
  let (s1, recs, edges) := acc
  let d : Dom := toIx 4 r.dom
  let lat := field r.bytes 0 2
  if !s.flag (TE_DCFG_EN r.dom) then (s1.bump TE_NODOM_CNT_CNT, recs, edges)
  else if (field r.bytes 10 1).testBit 2 then
    (s1, recs, if lat = 0x8000 then edges else edges ++ [(r.dom, r.surf, signedOf 16 lat)])
  else if lat = 0x8000 then (s1.bump TE_NOLAT_CNT_CNT, recs, edges)
  else
    let c := if s.get TW_STAT_ROLE = 1 then
        match s.tw.places.find? (fun p => p.batch = r.batch ∧ p.lane = r.lane ∧ p.capId = r.capId) with
        | some p => ⟨p.result, p.pos, 0⟩
        | none => ⟨2, 0, 0⟩
      else s.t2p d r.tt
    if c.code < 2 then (s1, recs ++ [place r (s.get (TE_SCALE_S r.dom)) c.out], edges)
    else ((s1.bump TE_POSFAIL_CNT_CNT).raise F_TE_POS_FAIL 0, recs, edges)

/-- The canonical order of records (R103). -/
def recKey (r : RecIn) : List Nat :=
  [r.dom, r.surf, r.lane, r.cap, r.pos]

/-- Whether one list of keys comes before another or equals it. -/
def lexLe (a b : List Nat) : Bool :=
  match a, b with
  | x :: s, y :: t => decide (x < y) || (x == y && lexLe s t)
  | _, _ => true

/-- The records that join a batch (R99): on a follower, those of the captures that TW_PLACE lists, in its order
(R448). -/
def State.batchRecords (s : State) (f : Nat) : List RecIn :=
  if s.get TW_STAT_ROLE = 1 then
    s.te.staged.filterMap (fun r =>
      (s.tw.places.findIdx? (fun p => p.batch = f ∧ p.lane = r.lane ∧ p.capId = r.capId)).map (fun k =>
        { r with batch := f, cap := k }))
  else s.te.staged.filter (fun r => r.batch = f)

/-- Whether a follower's leader placed the capture of a record in a batch (R448). -/
def State.isPlaced (s : State) (f : Nat) (r : RecIn) : Bool :=
  s.tw.places.any (fun p => p.batch = f ∧ p.lane = r.lane ∧ p.capId = r.capId)

/-- The records that are staged still after a batch is sealed: those of later batches. -/
def State.stagedAfter (s : State) (f : Nat) : List RecIn :=
  let rest := s.te.staged.filter (fun r => decide (f < r.batch))
  if s.get TW_STAT_ROLE = 1 then rest.filter (fun r => !s.isPlaced f r) else rest

/-- The staged records of batches sealed before they were taken, which no later placement took in (R99, R448). -/
def State.stagedLate (s : State) (f : Nat) : List RecIn :=
  s.te.staged.filter (fun r => decide (r.batch < f) && !(s.get TW_STAT_ROLE == 1 && s.isPlaced f r))

/-- The record batch of a firing sealed and placed (R99 to R102).
(DEDUCED, notes/assumptions/41.md; DESIGN CHOICE, notes/assumptions/133.md) -/
def State.sealBatch (s : State) (f : Nat) : State :=
  let rest := s.stagedAfter f
  let recs := sortBy (fun a b => lexLe (recKey a) (recKey b)) (s.batchRecords f)
  let s0 := s.each (s.stagedLate f) (fun s _ => s.countLate)
  let (s1, placed, edges) := recs.foldl s0.placeRecord (s0, [], [])
  let cap := s.get TE_BATCH_MAX_N
  let cut := placed.length - cap
  let s2 := (s1.addTo TE_TRUNC_CNT_CNT cut).each (List.range cut) (fun s _ => s.raise F_TE_BATCH_TRUNC 0)
  let bpv := ((s.te.bounds.find? (fun b => b.fn = f + 1)).map (fun b => b.bpv)).getD []
  s2.onTe (fun t => { t with
    staged := rest, sealedTo := f, batches := t.batches ++ [{ fn := f, recs := placed.take cap, edges := edges, bpv := bpv }] })

/-! ### Association (R108 to R112) -/

/-- The column of a lateral value (R108). -/
def State.column (s : State) (d : Nat) (lat : Int) : Nat :=
  (max 0 (min 4095 ((lat - signedOf 16 (s.get (TE_COL_ORG_ORG d))) / (s.get (TE_DCFG_COL_W d) : Int)))).toNat

/-- The columns of a footprint (R108). -/
def footprint (lo hi : Nat) : List Nat :=
  (List.range (hi + 1 - lo)).map (fun i => lo + i)

/-- The columns that gathering visits (R109): at most 32. -/
def visited (lo hi : Nat) : List Nat :=
  if hi + 1 - lo ≤ 32 then footprint lo hi else (List.range 32).map (fun i => lo + i * (hi - lo) / 31)

/-- The references of a column (R108). -/
def State.colRefs (s : State) (d surf c : Nat) : List Nat :=
  (lookup s.te.cols ((2 * d + surf) * 4096 + c)).getD []

/-- The references of a column to OPEN tracks. (DEDUCED, notes/assumptions/44.md) -/
def State.openRefs (s : State) (d surf c : Nat) : List Nat :=
  (s.colRefs d surf c).filter (fun id => s.trackSt id == trkOpen)

/-- Whether two classes are compatible (R110). -/
def State.classOk (s : State) (a b : Nat) : Bool :=
  let grp (c : Nat) := bitsOf (s.get (TE_CLASS_GRP_GRP (c / 8))) (4 * (c % 8)) 4
  a == 0 || b == 0 || (s.get (TE_GRP_COMPAT_MASK (grp a))).testBit (grp b) || (s.get (TE_GRP_COMPAT_MASK (grp b))).testBit (grp a)

/-- The lateral overlap O of a record and a track (R110). -/
def State.overlap (s : State) (p : Placed) (t : Track) : Int :=
  let tol : Int := s.get (TE_LAT_TOL_TOL p.src.dom)
  min p.latHi (t.latHi + tol) - max p.latLo (t.latLo - tol)

/-- Whether a candidate qualifies for a record (R110). -/
def State.qualifies (s : State) (p : Placed) (t : Track) : Bool :=
  let gap : Int := s.get (TE_GAP_PV p.src.dom)
  decide (0 ≤ s.overlap p t) && decide (p.start ≤ t.stop + gap) && decide (t.start - gap ≤ p.stop)
    && s.classOk (field p.src.bytes 8 1) t.cls

/-- A track with a record joined (R112). -/
def Track.join (t : Track) (p : Placed) : Track :=
  let b := p.src.bytes
  let conf := field b 9 1
  let start := min t.start p.start
  let best := decide (t.conf < conf)
  { t with
    start := start, span := min (max t.stop p.stop - start).toNat (2 ^ 32 - 1),
    latLo := min t.latLo p.latLo, latHi := max t.latHi p.latHi,
    cls := if best then field b 8 1 else t.cls, conf := if best then conf else t.conf,
    cropLane := if best then p.src.lane else t.cropLane, cropId := if best then field b 16 4 else t.cropId,
    nrec := min (t.nrec + 1) 65535, area := min (t.area + field b 12 2) 65535,
    flags := t.flags ||| (field b 10 1 % 4) ||| (if p.src.trunc then 4 else 0) }

/-- The track that a record opens (R112). -/
def Track.opened (p : Placed) : Track :=
  let b := p.src.bytes
  { start := p.start, span := min (p.stop - p.start).toNat (2 ^ 32 - 1), latLo := p.latLo, latHi := p.latHi,
    cls := field b 8 1, conf := field b 9 1, st := trkOpen, surf := p.src.surf, dom := p.src.dom, action := 0,
    flags := field b 10 1 % 4 + (if p.src.trunc then 4 else 0), nrec := 1, laneFirst := p.src.lane, cropLane := p.src.lane,
    cropId := field b 16 4, area := field b 12 2, rep := 0 }

/-- A track with a merged one folded in (R111). (DEDUCED, notes/assumptions/45.md) -/
def Track.absorb (t m : Track) : Track :=
  let start := min t.start m.start
  let best := decide (t.conf < m.conf)
  { t with
    start := start, span := min (max t.stop m.stop - start).toNat (2 ^ 32 - 1),
    latLo := min t.latLo m.latLo, latHi := max t.latHi m.latHi,
    cls := if best then m.cls else t.cls, conf := if best then m.conf else t.conf,
    cropLane := if best then m.cropLane else t.cropLane, cropId := if best then m.cropId else t.cropId,
    nrec := min (t.nrec + m.nrec) 65535, area := min (t.area + m.area) 65535,
    flags := t.flags ||| (m.flags % 8) ||| 16 }

/-- The reference that a full column gives up: the track with the lowest end, then the lowest ID (R112). -/
def State.evicted (s : State) (l : List Nat) : Nat :=
  (l.foldl (fun (best : Option (Int × Nat)) id =>
    let e := (s.track id).stop
    match best with
    | some (x, i) => if e < x ∨ (e = x ∧ id < i) then some (e, id) else best
    | none => some (e, id)) none).elim 0 (fun b => b.2)

/-- A track's ID written into a column (R112). (DEDUCED, notes/assumptions/44.md) -/
def State.refer (s : State) (d surf id c : Nat) : State :=
  let l := s.openRefs d surf c
  let key := (2 * d + surf) * 4096 + c
  if l.contains id then s.onTe (fun t => { t with cols := putKey t.cols key l })
  else if l.length < 4 then s.onTe (fun t => { t with cols := putKey t.cols key (l ++ [id]) })
  else
    let out := s.evicted l
    (s.bump TE_COL_EVICT_CNT).onTe (fun t => { t with cols := putKey t.cols key (l.map (fun i => if i = out then id else i)) })

/-- A track's ID written into every column of a record's footprint (R112). -/
def State.referAll (s : State) (id : Nat) (p : Placed) : State :=
  let d := p.src.dom
  s.each (footprint (s.column d p.latLo) (s.column d p.latHi)) (fun s c => s.refer d p.src.surf id c)

/-- The lowest number that an ascending list leaves out, from one on. -/
def firstFree (l : List Nat) (n : Nat) : Nat :=
  match l with
  | [] => n
  | a :: r => if a = n then firstFree r (n + 1) else if a < n then firstFree r n else n

/-- A number put into an ascending list. -/
def insertAsc (n : Nat) (l : List Nat) : List Nat :=
  insertBy (fun a b => decide (a ≤ b)) n l

/-- A track allocated and opened with a record (R111, R121). -/
def State.openTrack (s : State) (p : Placed) : State :=
  let free := s.get TE_FREE_CNT_N
  let id := firstFree s.te.live 0
  if free = 0 then (s.bump TE_FULL_DROP_CNT).raise F_TE_STORE_FULL 0
  else
    let s1 := (s.put TE_FREE_CNT_N (free - 1)).onTe (fun t => { t with live := insertAsc id t.live })
    let wm := s.get TE_LOW_WM_N
    let s2 := if free - 1 < wm ∧ wm ≤ free then (s1.raiseSrc 133).raise F_TE_STORE_LOW 0 else s1
    (((s2.writeTrack id (Track.opened p)).countOpen p.src.dom p.src.surf true).referAll id p).bump TE_REC_CNT_CNT

/-- The better of two survivors: lowest START_PV, then lowest ID (R111). -/
def lowerStart (a b : Nat × Track) : Bool :=
  decide (a.2.start < b.2.start) || (a.2.start == b.2.start && decide (a.1 < b.1))

/-- The element of a list that a strict order puts first. -/
def firstBy {α : Type} (lt : α → α → Bool) (l : List α) : Option α :=
  l.foldl (fun (best : Option α) x => match best with
    | some b => if lt x b then some x else some b
    | none => some x) none

/-- Column references to a track that is no longer OPEN reclaimed (R108). (DEDUCED, notes/assumptions/44.md) -/
def Tracks.forget (t : Tracks) (id : Nat) : Tracks :=
  { t with cols := t.cols.map (fun e => (e.1, e.2.filter (fun i => i != id))) }

/-- Column references to a merged track given to its survivor (R111). -/
def Tracks.redirect (t : Tracks) (old new : Nat) : Tracks :=
  ({ t with cols := t.cols.map (fun e =>
      (e.1, if e.2.contains new then e.2 else e.2.map (fun i => if i = old then new else i))) } : Tracks).forget old

/-- A track merged into a survivor (R111, R114). (DEDUCED, notes/assumptions/45.md) -/
def State.mergeTrack (s : State) (sid mid : Nat) : State :=
  let m := s.track mid
  let s1 := s.writeTrack sid ((s.track sid).absorb m)
  let s2 := s1.writeTrack mid { m with st := trkMerged, cropId := sid }
  (((s2.countOpen m.dom m.surf false).bump TE_MERGE_CNT_CNT).onTe (fun t => t.redirect mid sid)).cost 4

/-- The columns that a record touches: domain and surface, first and last column (R108). -/
def State.reach (s : State) (p : Placed) : Nat × Nat × Nat :=
  (2 * p.src.dom + p.src.surf, s.column p.src.dom p.latLo, s.column p.src.dom p.latHi)

/-- Whether two records share a column. -/
def sharesColumn (a b : Nat × Nat × Nat) : Bool :=
  a.1 == b.1 && decide (a.2.1 ≤ b.2.2) && decide (b.2.1 ≤ a.2.2)

/-- The time of the records of a batch in canonical order, by the columns of those before (R106), in FCLK.
(DESIGN CHOICE, notes/assumptions/42.md) -/
def recordCosts (before l : List (Nat × Nat × Nat)) : Nat :=
  match l with
  | [] => 0
  | x :: r => (if (before.take 3).any (sharesColumn x) then 4 else 1) + (x.2.2 - x.2.1) / 16 + recordCosts (x :: before) r

/-- A record associated (R109 to R112). (DEDUCED, notes/assumptions/45.md) -/
def State.associate (s : State) (p : Placed) : State :=
  let d := p.src.dom
  let lo := s.column d p.latLo
  let hi := s.column d p.latHi
  let refs := ((visited lo hi).flatMap (s.openRefs d p.src.surf)).foldl (fun (l : List Nat) i => if l.contains i then l else l ++ [i]) []
  let s1 := (s.each (refs.take 16) State.readTrack).addTo TE_CAND_OVF_CNT (refs.length - 16)
  let behind := match s.te.hzn.get (toIx 4 d) with | some h => decide (p.start < h) | none => false
  let s2 := s1.when behind (fun s => s.bump TE_BEHIND_CNT_CNT)
  let qual := ((refs.take 16).map (fun i => (i, s.track i))).filter (fun e => s.qualifies p e.2)
  match qual with
  | [] => s2.openTrack p
  | _ =>
    if s.flag (TE_DCFG_MERGE d) then
      match firstBy lowerStart qual with
      | some (sid, t) =>
        let s3 := ((s2.writeTrack sid (t.join p)).referAll sid p).bump TE_REC_CNT_CNT
        s3.each (qual.filter (fun e => e.1 != sid)) (fun s e => s.mergeTrack sid e.1)
      | none => s2
    else
      let better (a b : Nat × Track) : Bool :=
        decide (s.overlap p b.2 < s.overlap p a.2) || (s.overlap p a.2 == s.overlap p b.2 && lowerStart a b)
      match firstBy better qual with
      | some (sid, t) => ((s2.writeTrack sid (t.join p)).referAll sid p).bump TE_REC_CNT_CNT
      | none => s2

/-- The edge records of a batch update the edge tracker (R113). -/
def State.trackEdges (s : State) (e : List (Nat × Nat × Int)) : State :=
  s.each ((List.range 4).flatMap (fun d => [(d, 0), (d, 1)])) (fun s k =>
    match (e.filter (fun x => x.1 = k.1 ∧ x.2.1 = k.2)).map (fun x => x.2.2) with
    | [] => s
    | a :: r =>
      let v := unsignedOf 16 (r.foldl min a) + unsignedOf 16 (r.foldl max a) * 65536
      s.wr (if k.2 = 0 then TE_EDGE_TOP k.1 else TE_EDGE_BOT k.1) (BitVec.ofNat 32 v))

/-! ### The repeat finder (R124, R125) -/

/-- The best match of a track with the history for one roll (R125). -/
def repeatMatch (h : List RepeatEntry) (start lat : Int) (surf circ tol ltol kmax : Nat) : Option RepeatEntry :=
  let dist (e : RepeatEntry) (k : Nat) : Nat := (start - (k * circ : Nat) - e.start).natAbs
  let ok (k : Nat) := h.filter (fun e => e.surf == surf && decide (dist e k ≤ tol) && decide ((lat - e.lat).natAbs ≤ ltol))
  let near (k : Nat) (a b : RepeatEntry) : Bool := decide (dist a k < dist b k) || (dist a k == dist b k && decide (a.id < b.id))
  ((List.range kmax).map (· + 1)).findSome? (fun k => firstBy (near k) (ok k))

/-- A closed track taken by the repeat finder (R125). (DEDUCED, notes/assumptions/46.md) -/
def State.findRepeat (s : State) (id : Nat) : State :=
  let t := s.track id
  let d := t.dom
  let lat := (t.latLo + t.latHi) / 2
  let hist := s.te.history.get (toIx 4 d)
  let rolls := numbersWhere 64 (fun r => s.get (TE_ROLL_CIRC_PV d r) != 0
    && (if t.surf = 0 then s.flag (TE_ROLL_CFG_TOP d r) else s.flag (TE_ROLL_CFG_BOT d r)))
  let chains := rolls.map (fun r =>
    (r, match repeatMatch hist t.start lat t.surf (s.get (TE_ROLL_CIRC_PV d r)) (s.get (TE_ROLL_CFG_TOL d r))
        (s.get (TE_RPT_CFG_LTOL d)) (s.get (TE_RPT_CFG_KMAX d)) with
      | some h => min ((lookup h.chains r).getD 0 + 1) 15
      | none => 1))
  let best := firstBy (fun (a b : Nat × Nat) => decide (b.2 < a.2)) chains
  let s1 := match best with
    | some (r, c) =>
      if s.get (TE_RPT_CFG_MIN d) ≤ c then
        let s1 := s.writeTrack id { t with flags := t.flags ||| 8, rep := r % 64 + c * 64 }
        (((s1.bump (TE_ROLL_HITS_CNT d r)).put (TE_ROLL_LAST_ID d r) id).put (TE_ROLL_LAST_CHAIN d r) c).raiseSrc 134
      else s
    | none => s
  let hist1 := (⟨id, t.surf, t.start, lat, chains⟩ :: hist).take 16384
  (s1.onTe (fun te => { te with history := te.history.set (toIx 4 d) hist1 })).put (TE_RPT_HIST_N d) hist1.length

/-! ### Closing (R116, R117) -/

/-- A close-queue entry written, unless the ring is full (R117). (DESIGN CHOICE, notes/assumptions/43.md) -/
def State.queueClose (s : State) (id reason batch : Nat) : State :=
  let t := s.track id
  let d := t.dom
  let i : Fin 4 := toIx 4 d
  let size := 2 ^ (s.get (TE_CQ_SIZE_LOG2 d) + 6)
  let next := s.te.cqNext.get i
  let used := (next + 2 ^ 32 - s.get (TE_CQ_TAIL_CNT d)) % 2 ^ 32
  if size ≤ used then (s.bump TE_CQ_OVF_CNT_CNT).raise F_TE_CQ_OVF 0
  else
    let w := id + reason * 0x100000 + t.surf * 0x400000 + (if t.flags.testBit 3 then 0x800000 else 0)
    let e := natLe 4 w ++ natLe 4 batch ++ natLe 8 (unsignedOf 64 t.start)
    let s1 := (s.busWrite 8 (s.rd64 (TE_CQ_BASE d) + next % size * 16) e).1
    (s1.onTe (fun te => { te with cqNext := te.cqNext.set i ((next + 1) % 2 ^ 32) })).hashIn e

/-- A track closed (R116, R117, R125): 0 GAP, 1 MAXLEN, 2 ADMIN. -/
def State.closeTrack (s : State) (id reason batch : Nat) : State :=
  let t := s.track id
  let flags := t.flags ||| (if reason = 1 then 32 else if reason = 2 then 128 else 0)
  let s1 := ((s.readTrack id).writeTrack id { t with st := trkClosed, flags := flags }).countOpen t.dom t.surf false
  let s2 := if reason = 2 then s1 else s1.findRepeat id
  let s3 := (s2.queueClose id reason batch).onTe (fun te =>
    { te.forget id with aux := putKey te.aux id {}, unpub := te.unpub ++ [id] })
  let rolls := (List.range 64).any (fun r => s.get (TE_ROLL_CIRC_PV t.dom r) != 0)
  s3.cost (if rolls then 10 else 2)

/-- The horizon of a batch on a domain (R116): a preset since the application before resets it, and `DOM_BPV` of a
boundary before the last preset belongs to the old positions. (DEDUCED, notes/assumptions/46.md) -/
def State.horizon (s : State) (a : Application) (d : Nat) : Int :=
  let margin : Int := s.get (TE_CLOSE_MARGIN_PV d)
  let x := ((a.batch.bpv[d]?).getD 0) / 256 * 256 - margin
  let old := match a.admins.reverse.findSome? (fun e => if e.1 = d then e.2 else none) with
    | some p => some (p - margin)
    | none => s.te.hzn.get (toIx 4 d)
  match old with
  | some h => if s.te.presetFn.get (toIx 4 d) ≤ a.batch.fn + 1 then max h x else h
  | none => x

/-- Why an OPEN track closes, if it does (R116). (DEDUCED, notes/assumptions/46.md) -/
def State.closeReason (s : State) (t : Track) (h : Int) (admin : Bool) : Option Nat :=
  let maxlen := s.get (TE_MAXLEN_PV t.dom)
  if admin then some 2
  else if t.stop + s.get (TE_GAP_PV t.dom) < h then some 0
  else if maxlen ≠ 0 ∧ maxlen ≤ t.span then some 1
  else none

/-- The horizon of a domain moved, and the tracks of a domain and surface that close (R116). -/
def State.findCloses (s : State) (a : Application) (d surf : Nat) : State × List Item :=
  let h := if surf = 0 then s.horizon a d else (s.te.hzn.get (toIx 4 d)).getD 0
  let s1 := (s.onTe (fun t => { t with hzn := t.hzn.set (toIx 4 d) (some h) })).wrInt (TE_HZN d) h
  let admin := a.admins.any (fun e => e.1 == d)
  let ids := s.te.live.filterMap (fun id =>
    let t := s.track id
    if t.st = trkOpen ∧ t.dom = d ∧ t.surf = surf then (s.closeReason t h admin).map (fun r => Item.close id r) else none)
  (s1.cost 64, ids)

/-! ### Decisions and sealing (R118 to R120) -/

/-- `TE_DEC_WRITE` (R118): a decision enters the buffer. -/
def State.bufferDecision (s : State) (m : Nat) (v : Nat) : State :=
  if 4096 ≤ s.te.decs.length then ((s.bump TE_DEC_OVF_CNT).raiseSrc 136).raise F_TE_DEC_OVF 0
  else
    let d : Decision := ⟨bitsOf v 0 20, m, bitsOf v 20 2, bitsOf v 24 8⟩
    (s.onTe (fun t => { t with decs := t.decs ++ [d] })).put TE_DEC_PEND_N (s.te.decs.length + 1)

def execTeDecWrite (m : Master) (v : Word) (s : State) : Host.Outcome State Fault Refusal :=
  .next (s.portal m TE_DEC (decide (m.val < 8)) (s.bufferDecision m v.toNat))

/-- A decision ignored (R118). -/
def State.badDecision (s : State) : State :=
  (s.bump TE_DEC_BAD_CNT).raiseSrc 136

/-- What the engine knows of a track beside its record. -/
def State.aux (s : State) (id : Nat) : TrackAux :=
  (lookup s.te.aux id).getD {}

/-- The boundary whose application is in progress (R105), or else the present one. (DEDUCED, notes/assumptions/48.md) -/
def State.appBoundary (s : State) : Nat :=
  match s.te.app with
  | some a => a.batch.fn + 2
  | none => s.fn

/-- A decision applied (R118); a HOLD counts from the boundary of its application (R119). -/
def State.applyDecision (s : State) (x : Decision) : State :=
  if s.part.tracks ≤ x.id ∨ x.action = 3 ∨ s.trackSt x.id ≠ trkClosed then s.badDecision
  else
    let t := s.track x.id
    if x.action = 2 then
      let a := s.aux x.id
      if 3 ≤ a.holds then s.badDecision
      else ((s.readTrack x.id).writeTrack x.id { t with flags := t.flags ||| 64 }).onTe (fun te =>
        { te with aux := putKey te.aux x.id { pub := some s.appBoundary, holds := a.holds + 1 } })
    else
      ((s.readTrack x.id).writeTrack x.id { t with st := trkDecided, action := x.action, cls := if x.cls = 0 then t.cls else x.cls }).onTe (fun te =>
        { te with aux := dropKey te.aux x.id })

/-- Of the decisions for one track the one that prevails: lowest master, then the last written (R118). -/
def prevailing (l : List Decision) : List Decision :=
  let ids := l.foldl (fun (k : List Nat) x => if k.contains x.id then k else insertAsc x.id k) []
  ids.filterMap (fun i => firstBy (fun a b => decide (a.m ≤ b.m)) (l.filter (fun x => x.id = i)))

/-- Whether a CLOSED track times out at the application of a boundary (R119). (DEDUCED, notes/assumptions/48.md) -/
def State.timedOut (s : State) (b id : Nat) : Bool :=
  s.trackSt id == trkClosed && (match (s.aux id).pub with | some p => decide (p + s.get TE_DEC_TO_FIRINGS ≤ b) | none => false)

/-- A decision timeout (R119). -/
def State.timeoutTrack (s : State) (id : Nat) : State :=
  let t := s.track id
  (((s.readTrack id).writeTrack id { t with st := trkDecided, action := 2 }).onTe (fun te =>
    { te with aux := dropKey te.aux id })).bump TE_DEC_TO_CNT_CNT

/-- A track sealed and handed to the archive (R120). -/
def State.sealTrack (s : State) (id batch : Nat) : State :=
  let t := s.track id
  let s0 := s.readTrack id
  let s1 := if t.st = trkSealed then s0 else s0.writeTrack id { t with st := trkSealed }
  let (s2, ok) := s1.archiveTrack id (s1.decoded (trackAddr id) 32) batch
  if ok then s2.onTe (fun te => { te with sealedIds := te.sealedIds ++ [id] }) else s2.raise F_TE_ARCH_STALL 0

/-- A track freed (R105 step 1). -/
def State.freeTrack (s : State) (id : Nat) : State :=
  ((s.writeTrackBytes id (List.replicate 32 0)).put TE_FREE_CNT_N (s.get TE_FREE_CNT_N + 1)).onTe (fun te =>
    { te with live := te.live.filter (fun i => i != id), aux := dropKey te.aux id })

/-! ### Applying a batch (R105, R106, R122) -/

/-- The free entries of the delta pool (R122). -/
def State.poolFree (s : State) : Nat :=
  131072 - s.te.pool.length

/-- Whether an item modifies tracks, so that the pool is checked before it (R122). -/
def Item.modifies (i : Item) : Bool :=
  match i with
  | .timeouts | .seals | .edges | .closing _ _ | .finish => false
  | _ => true

/-- The batch finished (R105 step 7, R106). (DESIGN CHOICE, notes/assumptions/42.md) -/
def State.finishBatch (s : State) (a : Application) : State :=
  let (k, s1) := s.draw
  let cost := (s.te.app.elim 0 (fun x => x.cost)) + 256
  let time := Config.applyTime k % (cost + 1)
  let log := s.te.app.elim [] (fun x => x.log)
  let s2 := s1.onTe (fun t => { t with app := none, hashes := ((a.batch.fn, sha512 log) :: t.hashes).take 16 })
  let s3 := ((s2.wr64 TE_BATCH_FN a.batch.fn).put TE_BATCH_RECS_N a.batch.recs.length).putFlag TE_STAT_APPLYING false
  ((s3.put TE_APPLY_LAST_FCLK (min time (2 ^ 24 - 1))).raiseTo TE_APPLY_MAX_FCLK time).raiseSrc 128

/-- One item of an application: the state after it, and the items that it expands to. -/
def State.applyItem (s : State) (a : Application) (i : Item) : State × List Item :=
  match i with
  | .free id => ((s.freeTrack id).cost 2, [])
  | .decide d => ((s.applyDecision d).cost 2, [])
  | .timeouts => (s, (s.te.aux.filter (fun e => s.timedOut (a.batch.fn + 2) e.1)).map (fun e => Item.timeout e.1))
  | .timeout id => ((s.timeoutTrack id).cost 2, [])
  | .seals => (s, (s.te.live.filter (fun id =>
      let st := s.trackSt id
      st == trkDecided || st == trkMerged || (st == trkSealed && !s.te.sealedIds.contains id))).map Item.seal)
  | .seal id => ((s.sealTrack id a.batch.fn).cost 2, [])
  | .record p => (s.associate p, [])
  | .edges => (s.trackEdges a.batch.edges, [])
  | .closing d surf => s.findCloses a d surf
  | .close id r => (s.closeTrack id r a.batch.fn, [])
  | .finish => (s.finishBatch a, [])

/-- The items that an application is to go on with. -/
def State.setItems (s : State) (l : List Item) : State :=
  s.onTe (fun t => { t with app := t.app.map (fun a => { a with items := l }) })

/-- Items of an application run to their end, or to a pause before one for which the pool has too few entries (R122);
`back` are the items that follow them. -/
def State.runItems (s : State) (fuel : Nat) (a : Application) (l back : List Item) : State :=
  match fuel, l with
  | 0, _ => s.setItems (l ++ back)
  | _, [] => if back.isEmpty then s else s.setItems back
  | fuel + 1, i :: r =>
    if i.modifies && decide (s.poolFree < 16) then
      ((s.setItems (i :: r ++ back)).putFlag TE_STAT_POOL_PAUSE true).raise F_TE_POOL_FULL 0
    else
      let (s1, more) := s.applyItem a i
      s1.runItems fuel a (more ++ r) back

/-- The application of a sealed batch begun (R105): its items in order. -/
def State.beginBatch (s : State) (b : Batch) : State :=
  let due := prevailing ((s.te.decsClosed.filter (fun e => decide (e.1 ≤ b.fn + 2))).map (fun e => e.2))
  let items := s.te.sealedIds.map Item.free ++ due.map Item.decide ++ [Item.timeouts, Item.seals] ++ b.recs.map Item.record
    ++ [Item.edges] ++ (List.range 8).map (fun k => Item.closing (k / 2) (k % 2)) ++ [Item.finish]
  (s.onTe (fun t => { t with
    batches := t.batches.drop 1, sealedIds := [], adminDoms := [],
    decsClosed := t.decsClosed.filter (fun e => decide (b.fn + 2 < e.1)),
    app := some { batch := b, admins := t.adminDoms, items := items, log := [], cost := recordCosts [] (b.recs.map s.reach) } })).putFlag TE_STAT_APPLYING true

/-- The oldest sealed batch begun where no application is in progress (R105). -/
def State.beginDue (s : State) : State :=
  match s.te.app, s.te.batches with
  | none, b :: _ => s.beginBatch b
  | _, _ => s

/-- Enough fuel for the items of an application and those that they expand to. -/
def State.itemFuel (s : State) (a : Application) : Nat :=
  a.items.length + 8 * (s.te.live.length + a.batch.recs.length) + 64

/-- `TE_APPLY_BATCH` (R105): the application in progress goes on, or the oldest sealed batch is applied; on a
joiner only fragments are (R453). (DESIGN CHOICE, notes/assumptions/42.md) -/
def execTeApplyBatch (s : State) : Host.Outcome State Fault Refusal :=
  let s1 := s.beginDue
  .next (if s.get TW_STAT_ROLE = 2 then s else match s1.te.app with
  | some a => if s.flag TE_STAT_POOL_PAUSE then s else s1.runItems (s1.itemFuel a) a a.items []
  | none => s)

/-- The items of an application through step 2, its decisions and timeouts, and those that follow (R105). -/
def Application.stepTwo (a : Application) : List Item × List Item :=
  (a.items.takeWhile (fun i => i != .seals), a.items.dropWhile (fun i => i != .seals))

/-- Whether a track times out in step 2 of an application, which no decision of it names (R119).
(DEDUCED, notes/assumptions/48.md) -/
def State.timesOutIn (s : State) (a : Application) (id : Nat) : Bool :=
  s.timedOut (a.batch.fn + 2) id && a.stepTwo.1.any (fun i => i == .timeouts || i == .timeout id)
    && !a.stepTwo.1.any (fun i => match i with | .decide d => d.id == id | _ => false)

/-- `TE_DECISION_TIMEOUT` (R119): a track without ACCEPT or DISCARD at the application of the boundary `TE_DEC_TO` after
its publication or its last HOLD; the application runs through its step 2. (DEDUCED, notes/assumptions/48.md) -/
def execTeDecisionTimeout (id : TrackId) (s : State) : Host.Outcome State Fault Refusal :=
  let s1 := s.beginDue
  .next (if s.get TW_STAT_ROLE = 2 then s else match s1.te.app with
  | some a =>
    if !s.flag TE_STAT_POOL_PAUSE && s1.timesOutIn a id then s1.runItems (s1.itemFuel a) a a.stepTwo.1 a.stepTwo.2 else s
  | none => s)

/-! ### At a boundary (R99, R107, R117, R118, R123) -/

/-- t0 of a boundary as the Track Engine sees it: the decision buffer closes, the boundary is recorded, and lag is judged
(R99, R107, R118). -/
def State.teBoundary (s : State) : State :=
  let bpv := (List.range 4).map (fun d => s.rdInt (DOM_BPV d))
  let s1 := (s.onTe (fun t => { t with
    bounds := (⟨s.fn, s.rd64 TB_BTT, bpv⟩ :: t.bounds).take 4096,
    decsClosed := t.decsClosed ++ t.decs.map (fun d => (s.fn, d)), decs := [] })).put TE_DEC_PEND_N 0
  let unfinished (f : Nat) : Bool := s.te.batches.any (fun b => b.fn == f) || (match s.te.app with | some a => a.batch.fn == f | none => false)
  let s2 := if 3 ≤ s.fn ∧ unfinished (s.fn - 3) then ((s1.putFlag TE_STAT_LAGGING true).raise F_TE_LAG 0).raiseSrc 135 else s1
  let s3 := if 4 ≤ s.fn ∧ unfinished (s.fn - 4) then s2.raise F_TE_BACKLOG 0 else s2
  if s.te.app.isNone ∧ s.te.batches.isEmpty then s3.putFlag TE_STAT_LAGGING false else s3

/-- A staged `TE_CQ_TAIL` judged against head and tail (R117): refused, with CFG_REJ, or in effect. -/
def State.commitCqTail (s : State) (d : Nat) (v : Word) : State :=
  let ahead := signedOf 32 ((v.toNat + 2 ^ 32 - s.get (TE_CQ_HEAD_CNT d)) % 2 ^ 32)
  let behind := signedOf 32 ((v.toNat + 2 ^ 32 - s.get (TE_CQ_TAIL_CNT d)) % 2 ^ 32)
  if 0 < ahead ∨ behind < 0 then s.putFlag TE_STAT_CFG_REJ true else s.wr (TE_CQ_TAIL d) v

/-- A staged `TE_DCFG` commits; EN = 0 closes the domain's tracks for ADMIN (R116). -/
def State.commitTeDcfg (s : State) (d : Nat) (v : Word) : State :=
  let s1 := s.wr (TE_DCFG d) (v &&& 0xFF0003)
  if !v.toNat.testBit 0 then s1.onTe (fun t => { t with adminDoms := t.adminDoms ++ [(d, none)] }) else s1

/-- The close-queue heads advance past the entries written (R117, R119). (DEDUCED, notes/assumptions/46.md) -/
def State.publishCq (s : State) : State :=
  let s1 := s.each (allFin 4) (fun s d =>
    let next := s.te.cqNext.get d
    if next = s.get (TE_CQ_HEAD_CNT d) then s else (s.put (TE_CQ_HEAD_CNT d) next).raiseSrc (129 + d))
  s1.onTe (fun t => { t with
    unpub := [],
    aux := t.aux.map (fun e => if t.unpub.contains e.1 && e.2.pub.isNone then (e.1, { e.2 with pub := some s.fn }) else e) })

/-- The delta pool at t0 + 256 KCLK of a boundary (R123). -/
def State.clearPool (s : State) : State :=
  let paused := s.flag TE_STAT_POOL_PAUSE
  if !paused && (s.te.app.isSome || !s.te.batches.isEmpty) then s
  else
    let s1 := (s.onTe (fun t => { t with pool := [] })).put TE_POOL_USED_N 0
    let s2 := ((s1.wr64 TE_SNAP_FN s.fn).wr64 TE_SNAP_BATCH (s.rd64 TE_BATCH_FN)).putFlag TE_STAT_PARTIAL paused
    (s2.putFlag TE_STAT_POOL_PAUSE false).publishCq

/-- The batch seal of a boundary (R99): batch FN − 2; on a follower once the leader's placement is whole (R448).
(DEDUCED, notes/assumptions/40.md) -/
def State.sealDue (s : State) : State :=
  if s.flag TE_CTRL_EN ∧ 3 ≤ s.fn ∧ s.get TW_STAT_ROLE ≠ 1 ∧ s.get TW_STAT_ROLE ≠ 2 then s.sealBatch (s.fn - 2) else s

end Sys2Proof.Machine
end

