-- ==== Sys2Proof/Machine/Images.lean ====
section
/-! DEFINITION. Keys, floors and measurements of the sagger, and the checks of images (R404, R406 to R408, R413, R414, R147,
R148). -/

namespace Sys2Proof.Machine

/-! ### Keys and floors -/

/-- The base of the active half of the code flash (R386). -/
def State.activeBase (s : State) : Nat :=
  if s.flag CF_STAT_ACTIVE then 0x2000000 else 0

/-- The bytes that a run of fuse words spells. -/
def State.fuseBytes (s : State) (w n : Nat) : Bytes :=
  (List.range n).flatMap (fun i => natLe 4 (s.fuse (w + i)).toNat)

/-- The keys of the directory (R406). -/
inductive KeySlot where
  | vendor | customer | safety | maint | debug
  deriving DecidableEq, Repr

/-- The number of a key slot in its order in the directory and in the fuses. -/
def KeySlot.num (k : KeySlot) : Nat :=
  match k with | .vendor => 0 | .customer => 1 | .safety => 2 | .maint => 3 | .debug => 4

/-- The fused hash of a key (R404). -/
def State.keyHash (s : State) (k : KeySlot) : Bytes :=
  s.fuseBytes (8 + 16 * k.num) 16

/-- The public key in a half's directory (R406). (DEDUCED, notes/assumptions/59.md) -/
def State.dirKey (s : State) (base : Nat) (k : KeySlot) : Bytes :=
  s.bytes (base + 0x400 + 0xB20 * k.num) 2592

/-- Whether a signature over a message verifies under a key of a half, the key itself against its fused hash (R406). -/
def State.verifies (s : State) (base : Nat) (k : KeySlot) (msg sig : Bytes) : Bool :=
  let key := s.dirKey base k
  sha512 key == s.keyHash k && Config.mldsaVerify key msg sig

/-- The floor of a 64-bit thermometer: glost, Kilnware, applications (R404, R413). -/
def State.svnFloor (s : State) (kind : Nat) : Nat :=
  onesBelow 64 ((s.fuse (2 + 2 * kind)).toNat + (s.fuse (3 + 2 * kind)).toNat * 2 ^ 32)

/-! ### Measurements (R414) -/

/-- A measurement. -/
def State.meas (s : State) (i : Nat) : Bytes :=
  (List.range 16).flatMap (fun j => natLe 4 (s.rd (SG_MEAS i j)).toNat)

/-- A measurement extended with 64 bytes. -/
def State.extendMeas (s : State) (i : Nat) (d : Bytes) : State :=
  let m := sha512 (s.meas i ++ d)
  s.each (List.range 16) (fun s j => s.wr (SG_MEAS i j) (BitVec.ofNat 32 (field m (4 * j) 4)))

/-! ### Images (R407, R408, R147, R148) -/

/-- Whether bytes are all 0. -/
def allZero (b : Bytes) : Bool :=
  b.all (fun x => x == 0)

/-- The check of an image of TYPE 0 to 2 (R407, R408): 0, or the code of the first failure. `base` is the half whose
directory holds the keys. -/
def State.checkImage (s : State) (base : Nat) (b : Bytes) (typ group : Nat) : Nat :=
  let body := field b 20 4
  let isp := field b 24 4
  let dsp := field b 28 4
  let key := if typ = 2 then 1 else 0
  let formatOk := field b 0 4 == 0x534B4931 && field b 4 1 == typ && field b 5 1 == 1 && field b 6 1 == group
    && (if typ = 2 then decide (1 ≤ group) && decide (group ≤ 7) else decide (typ < 2) && group == 0)
    && field b 7 1 == key && field b 18 2 == 0 && allZero ((b.drop 36).take 28) && allZero ((b.drop 4755).take 109)
    && decide (4864 + body ≤ b.length) && decide (isp ≤ 0x40000) && decide (dsp ≤ 0x40000) && decide (isp + dsp ≤ body)
  if !formatOk then 1
  else if (b.drop 64).take 64 ≠ sha512 ((b.drop 4864).take body) then 2
  else if !s.verifies base (if typ = 2 then .customer else .vendor) (b.take 128) ((b.drop 128).take 4627) then 3
  else if field b 12 4 < s.svnFloor typ then 4
  else 0

/-- The check of a kernel or model image (R147, R148): 0, or 1 format, 2 digest, 3 signature, 4 SVN, 5 limits.
(DEDUCED, notes/assumptions/59.md) -/
def State.checkKernel (s : State) (base : Nat) (b : Bytes) : Nat :=
  let slot := field b 4 2
  let typ := field b 6 1
  let code := field b 16 4
  let const := field b 20 4
  let model := decide (0 < typ)
  let formatOk := field b 0 4 == 0x56454B31 && decide (0x80 ≤ slot) && decide (slot ≤ 0x9F) && decide (typ ≤ 2)
    && field b 7 1 == 1 && decide (field b 40 1 ≤ 2) && field b 41 3 == 0 && allZero ((b.drop 52).take 12)
    && allZero ((b.drop 4755).take 109) && decide (4864 + code + const ≤ b.length)
    && (!model || (code == 0 && allZero ((b.drop 24).take 17)))
  if !formatOk then 1
  else if 16384 < code ∨ 65536 < const then 5
  else if (b.drop 64).take 64 ≠ sha512 ((b.drop 4864).take (code + const)) then 2
  else if !s.verifies base .customer (b.take 128) ((b.drop 128).take 4627) then 3
  else if field b 12 4 < max (s.get VE_KSVN_MIN_SVN) (s.svnFloor 2) then 4
  else 0

end Sys2Proof.Machine
end

