-- ==== Sys2Proof/Machine/Kernels.lean ====
section
/-! DEFINITION. The jobs of the Verify Engine: descriptors, costs, checks and kernels (R129 to R134, R140, R147). -/

namespace Sys2Proof.Machine

/-! ### The descriptor (R132) -/

def Job.kernel (j : Job) : Nat := field j.desc 0 2
def Job.flags (j : Job) : Nat := field j.desc 2 1
def Job.onFull (j : Job) : Bool := j.flags.testBit 0
def Job.outEn (j : Job) : Bool := j.flags.testBit 1
def Job.cropChk (j : Job) : Bool := j.flags.testBit 3
def Job.maxDefer (j : Job) : Nat := field j.desc 3 1
def Job.tag (j : Job) : Nat := field j.desc 4 4
def Job.notBefore (j : Job) : Nat := field j.desc 8 8
def Job.inAddr (j : Job) : Nat := field j.desc 16 5
def Job.inLen (j : Job) : Nat := field j.desc 21 3
def Job.auxAddr (j : Job) : Nat := field j.desc 24 5
def Job.auxLen (j : Job) : Nat := field j.desc 29 3
def Job.outAddr (j : Job) : Nat := field j.desc 32 5
def Job.outLen (j : Job) : Nat := field j.desc 37 3
def Job.track (j : Job) : Nat := field j.desc 40 4
def Job.w (j : Job) : Nat := field j.desc 44 2
def Job.h (j : Job) : Nat := field j.desc 46 2
def Job.cropId (j : Job) : Nat := field j.desc 48 4
def Job.p8 (j : Job) (i : Nat) : Nat := field j.desc (52 + i) 1
def Job.p16 (j : Job) (i : Nat) : Nat := field j.desc (52 + i) 2
def Job.fmt (j : Job) : Nat := j.p8 11 % 4
def Job.pixels (j : Job) : Nat := j.w * j.h
def Job.imageBytes (j : Job) : Nat := j.pixels * cropBpp j.fmt

/-! ### Slots (R147) -/

/-- The image of a kernel slot in effect. (DESIGN CHOICE, notes/assumptions/53.md) -/
def State.kimage (s : State) (slot : Nat) : Option Bytes :=
  (lookup s.ve.kslots (slot - 0x80)).map (fun k => k.image)

/-- The slot that a job uses: its own for a custom kernel, P0's for NNET and FOREST. -/
def Job.slotOf (j : Job) : Option Nat :=
  if 0x80 ≤ j.kernel then some j.kernel
  else if j.kernel = 8 ∨ j.kernel = 9 then some (j.p8 0)
  else none

/-- The image of the slot that a job uses; none where it uses none. -/
def State.jobImage (s : State) (j : Job) : Bytes :=
  ((j.slotOf.bind s.kimage)).getD []

/-- The constants length of the slot that a job uses (R132). -/
def State.constLen (s : State) (j : Job) : Nat :=
  field (s.jobImage j) 20 4

/-! ### Cost (R133, R134, R147) -/

/-- P of a custom kernel's bound (R147). -/
def Job.unitP (j : Job) (sel : Nat) : Nat :=
  if sel = 1 then j.p16 0 else if sel = 2 then j.pixels else 0

/-- The layers of the NNET model that a job uses: the multiplications, inputs and outputs of each (R134, R147). -/
def State.netLayers (s : State) (j : Job) : List (Nat × Nat × Nat) :=
  Config.netLayers (s.jobImage j) (j.desc.drop 44)

/-- The compute term of a job, FCLK (R134, R147). (DESIGN CHOICE, notes/assumptions/53.md) -/
def State.compute (s : State) (j : Job) : Nat :=
  let n := j.pixels
  let v := divUp n 64
  let k := j.p8 0
  match j.kernel with
  | 1 =>
    let o := (j.w + 1 - k) * (j.h + 1 - k)
    32 + divUp (o * k * k * j.p8 1) 256 + divUp (o * j.p8 1) 64
  | 2 => 32 + (if j.p8 0 < 2 then 1 else 2) * (2 * (j.p8 1 - 1) * v)
  | 3 => 40 + divUp n 16
  | 4 => 32 + 2 * v + (if j.auxLen = 0 then 0 else v)
  | 5 => 32 + v
  | 6 => 64 + divUp n 8 + 16 * j.p8 1
  | 7 =>
    let p := (j.w + 1 - j.p16 0) * (j.h + 1 - j.p16 2)
    32 + divUp (p * j.p16 0 * j.p16 2) 256 + 8 * divUp p 64
  | 8 => 32 + (s.netLayers j).foldl (fun a l => a + 16 + divUp l.1 256 + divUp (max l.2.1 l.2.2) 64) 0
  | 9 => 40 + 2 * Config.forestDepth (s.jobImage j) * divUp (Config.forestTrees (s.jobImage j)) 64
  | 10 => 32 + divUp (j.p16 0 * j.p16 2) 16
  | _ =>
    let b := s.jobImage j
    field b 24 4 + field b 28 4 * divUp (j.inLen + j.auxLen) 64 + field b 32 4 * divUp j.outLen 64
      + field b 36 4 * j.unitP (field b 40 1)

/-- The cost of a job, FCLK (R133). -/
def State.jobCost (s : State) (j : Job) : Nat :=
  96 + divUp (j.inLen + j.auxLen + s.constLen j) 4 + s.compute j + (if j.outEn then divUp j.outLen 4 else 0)

/-! ### Prechecks (R140) -/

/-- Whether KERNEL and the slot it uses are as R140 asks. -/
def State.kernelOk (s : State) (j : Job) : Bool :=
  let slotOk (k typ : Nat) : Bool := decide (0x80 ≤ k) && decide (k ≤ 0x9F) && (s.kimage k).isSome
    && field ((s.kimage k).getD []) 6 1 == typ && !(s.get VE_KSLOT_QUAR_MAP).testBit (k - 0x80)
  if j.kernel = 8 then slotOk (j.p8 0) 1
  else if j.kernel = 9 then slotOk (j.p8 0) 2
  else if 1 ≤ j.kernel ∧ j.kernel ≤ 10 then true
  else slotOk j.kernel 0

/-- The output bytes that a kernel requires (R134). (DESIGN CHOICE, notes/assumptions/53.md) -/
def State.needOut (s : State) (j : Job) : Nat :=
  match j.kernel with
  | 1 => (j.w + 1 - j.p8 0) * (j.h + 1 - j.p8 0) * j.p8 1
  | 2 => j.imageBytes
  | 3 => 1024
  | 4 => 8
  | 5 => j.pixels
  | 6 => 16 * j.p8 1
  | 7 => 2 * ((j.w + 1 - j.p16 0) * (j.h + 1 - j.p16 2))
  | 8 => ((s.netLayers j).getLast?.map (fun l => l.2.2)).getD 0
  | 9 => 2 * Config.forestClasses (s.jobImage j)
  | 10 => j.p16 0 * j.p16 2 * cropBpp j.fmt
  | _ => j.outLen

/-- Whether a job keeps the MAX_IN and MAX_OUT of the slot that it uses (R147). -/
def State.slotLimits (s : State) (j : Job) : Bool :=
  decide (j.inLen + j.auxLen ≤ field (s.jobImage j) 44 4) && decide (j.outLen ≤ field (s.jobImage j) 48 4)

/-- Whether the parameters of a kernel are in range (R134, R147). (DEDUCED, notes/assumptions/54.md) -/
def State.paramsOk (s : State) (j : Job) : Bool :=
  match j.kernel with
  | 1 => decide (j.p8 0 % 2 = 1) && decide (j.p8 0 ≤ 15) && decide (1 ≤ j.p8 1) && decide (j.p8 1 ≤ 16) && decide (j.p8 2 ≤ 31)
      && decide (j.p8 0 ≤ j.w) && decide (j.p8 0 ≤ j.h)
  | 2 => decide (j.p8 0 ≤ 3) && decide (j.p8 1 % 2 = 1) && decide (3 ≤ j.p8 1) && decide (j.p8 1 ≤ 15) && decide (j.p8 2 ≤ 1)
  | 3 => decide (j.p8 0 ≤ 8) && (j.fmt != 1 || decide (4 ≤ j.p8 0))
  | 4 => decide (j.auxLen = 0 ∨ j.auxLen = j.pixels)
  | 6 => (j.p8 0 == 4 || j.p8 0 == 8) && decide (1 ≤ j.p8 1)
  | 7 => decide (1 ≤ j.p16 0) && decide (j.p16 0 ≤ j.w) && decide (1 ≤ j.p16 2) && decide (j.p16 2 ≤ j.h)
      && decide (j.auxLen = j.p16 0 * j.p16 2)
  | 8 => s.slotLimits j && (s.netLayers j).all (fun l => decide (l.2.1 + l.2.2 ≤ 65536))
  | 9 => s.slotLimits j && decide (j.inLen ≤ 128) && decide (Config.forestTrees (s.jobImage j) ≤ 512)
      && decide (Config.forestDepth (s.jobImage j) ≤ 12)
  | 10 => decide (j.p8 4 ≤ 1) && decide (j.p8 5 ≤ 3)
  | k => decide (k < 0x80) || s.slotLimits j

/-- Whether NOT_BEFORE_FN is too far ahead of the boundary at which a job was first a candidate, or else `fn` (R136). -/
def Job.tooFar (j : Job) (fn : Nat) : Bool :=
  decide (j.first.getD fn + 1024 < j.notBefore)

/-- Whether the parameters, lengths and limits of a job hold (R132, R134, R136). (DEDUCED, notes/assumptions/54.md) -/
def State.limitsOk (s : State) (j : Job) (fn : Nat) : Bool :=
  let image := decide (j.kernel ≤ 8) || j.kernel == 10
  decide (j.inLen + j.auxLen + s.constLen j ≤ 131072) && decide (j.outLen ≤ 65536)
    && (!image || (j.inLen == j.imageBytes && decide (j.fmt ≤ 2))) && s.paramsOk j
    && (!j.outEn || j.outLen == s.needOut j) && decide (Config.workingSet (s.jobImage j) j.desc ≤ 65536)
    && !j.tooFar fn

/-- Whether a range lies in an enabled window of a group with an access (R140). -/
def State.inWindow (s : State) (g a n : Nat) (wr : Bool) : Bool :=
  (List.range 4).any (fun w => s.flag (VE_WIN_CTRL_EN g w) && s.flag (if wr then VE_WIN_CTRL_WR g w else VE_WIN_CTRL_RD g w)
    && decide (s.rd64 (VE_WIN_BASE g w) ≤ a)
    && decide (a + n ≤ s.rd64 (VE_WIN_BASE g w) + s.get (VE_WIN_SIZE_KIB4 g w) * 4096))

/-- The precheck of a candidate (R140): none, or the status of the first check that fails.
(DEDUCED, notes/assumptions/54.md) -/
def State.precheck (s : State) (j : Job) (fn : Nat) : Option Nat :=
  if !s.kernelOk j then some 0x13
  else if !s.limitsOk j fn then some 0x14
  else if !s.inWindow j.g j.inAddr j.inLen false || (j.auxLen != 0 && !s.inWindow j.g j.auxAddr j.auxLen false)
      || (j.outEn && !s.inWindow j.g j.outAddr j.outLen true) then some 0x15
  else if s.get VE_CTILE_FCLK < s.jobCost j then some 0x12
  else none

/-! ### Kernels (R129, R134) -/

/-- The pixel values of an image input. -/
def Job.values (j : Job) (b : Bytes) : List Nat :=
  (List.range j.pixels).map (fun i =>
    if j.fmt = 0 then field b i 1
    else if j.fmt = 1 then field b (2 * i) 2
    else field b (2 * i + (if (j.p8 11).testBit 2 then 1 else 0)) 1)

/-- HIST: counts by bin. -/
def histogram (l : List Nat) (shift : Nat) : List Nat :=
  (List.range 256).map (fun k => (l.filter (fun x =>
    (if x / 2 ^ shift ≤ 255 then x / 2 ^ shift else Config.histBin (x / 2 ^ shift)) = k)).length)

/-- HIST: result and output (R134). (DEDUCED, notes/assumptions/54.md) -/
def runHist (j : Job) (b : Bytes) : Bytes × Bytes :=
  let h := histogram (j.values b) (j.p8 0)
  let top := h.foldl max 0
  let mode := (h.findIdx? (fun c => c = top)).getD 0
  (natLe 1 mode ++ natLe 4 top ++ natLe 2 (h.filter (fun c => c ≠ 0)).length ++ List.replicate 5 0, h.flatMap (natLe 4))

/-- STATS: result and output (R134). -/
def runStats (j : Job) (b aux : Bytes) : Bytes × Bytes :=
  let all := j.values b
  let l := if j.auxLen = 0 then all else ((all.zip aux).filter (fun e => e.2 != 0)).map (fun e => e.1)
  let sum := l.foldl (· + ·) 0
  let squares := l.foldl (fun n x => n + x * x) 0
  let ends := match l with
    | [] => natLe 4 Config.statsEmpty
    | x :: r => natLe 2 (r.foldl min x) ++ natLe 2 (r.foldl max x)
  (ends ++ natLe 4 l.length ++ natLe 4 (min sum (2 ^ 32 - 1)), natLe 8 squares)

/-- The bounding box of the raster indices of an image w wide; all ones if there are none. -/
def box (w : Nat) (l : List Nat) : Bytes :=
  match l with
  | [] => List.replicate 8 0xFF
  | i :: r =>
    let xs := r.map (fun k => k % w)
    natLe 2 (xs.foldl min (i % w)) ++ natLe 2 (r.foldl (fun y k => min y (k / w)) (i / w)) ++ natLe 2 (xs.foldl max (i % w))
      ++ natLe 2 (r.foldl (fun y k => max y (k / w)) (i / w))

/-- THRESH: result and output (R134). -/
def runThresh (j : Job) (b : Bytes) : Bytes × Bytes :=
  let l := j.values b
  let inside (x : Nat) : Bool := decide (j.p16 0 ≤ x) && decide (x ≤ j.p16 2)
  let ix := (List.range j.pixels).filter (fun i => inside (l.getD i 0))
  (natLe 4 ix.length ++ box j.w ix, l.map (fun x => if inside x then 0xFF else 0))

/-- The lowest label among a pixel and its neighbours of a mask (R134 LABEL); 0 is outside. -/
def lowestLabel (w h conn : Nat) (l : List Nat) (i : Nat) : Nat :=
  let x := i % w
  let y := i / w
  let here := l.getD i 0
  let near := (List.range 9).filterMap (fun k =>
    let dx := k % 3
    let dy := k / 3
    if (conn = 4 ∧ dx ≠ 1 ∧ dy ≠ 1) ∨ x + dx = 0 ∨ y + dy = 0 ∨ w < x + dx ∨ h < y + dy then none
    else some (l.getD ((y + dy - 1) * w + (x + dx - 1)) 0))
  if here = 0 then 0 else (near.filter (fun v => v ≠ 0)).foldl min here

/-- The labels of a mask's components: raster index of the first pixel plus 1. -/
def labels (w h conn : Nat) (mask : List Bool) : List Nat :=
  let start := (mask.zip (List.range (w * h))).map (fun e => if e.1 then e.2 + 1 else 0)
  repeatN (w * h) (fun l => (List.range (w * h)).map (lowestLabel w h conn l)) start

/-- A mean in Q12.4, rounded to nearest (R129). -/
def meanQ4 (l : List Nat) : Nat :=
  (divNearest ((l.foldl (· + ·) 0 : Nat) * 16 : Int) l.length).toNat

/-- The indices at which a list has its largest value. -/
def topIx (l : List Int) : List Nat :=
  let m := l.tail.foldl max (l.headD 0)
  (List.range l.length).filter (fun i => l.getD i 0 = m)

/-- The entry of a list that an open value picks. -/
def pick (l : List Nat) (k : Nat) : Nat :=
  l.getD (k % l.length) 0

/-- A list without its entry at an index, each with its index. -/
def others (l : List Int) (i : Nat) : List (Int × Nat) :=
  (l.zipIdx).filter (fun e => e.2 != i)

/-- The lowest bits of an integer as bytes. -/
def intLe (n : Nat) (x : Int) : Bytes :=
  natLe n (unsignedOf (8 * n) x)

/-- LABEL: result and output (R134); `o` and `free` are what the spec leaves open of the two.
(DEDUCED, notes/assumptions/54.md) -/
def runLabel (j : Job) (b o free : Bytes) : Bytes × Bytes :=
  let lab := labels j.w j.h (j.p8 0) ((j.values b).map (fun x => x != 0))
  let ids := ((List.range j.pixels).filter (fun i => lab.getD i 0 = i + 1)).map (· + 1)
  let blobs := (ids.map (fun k => (List.range j.pixels).filter (fun i => lab.getD i 0 = k))).filter (fun l => decide (j.p16 2 ≤ l.length))
  let kept := blobs.take (j.p8 1)
  let entry (l : List Nat) : Bytes :=
    natLe 4 l.length ++ box j.w l ++ natLe 2 (meanQ4 (l.map (fun i => i % j.w))) ++ natLe 2 (meanQ4 (l.map (fun i => i / j.w)))
  let sizes := kept.map (fun l => (l.length : Int))
  let ix := pick (topIx sizes) (field o 0 4)
  let out := kept.flatMap entry
  (natLe 2 blobs.length ++ natLe 1 (if j.p8 1 < blobs.length then 1 else 0) ++ (if kept.isEmpty then o.take 1 else natLe 1 ix)
    ++ natLe 4 (sizes.foldl max 0).toNat ++ List.replicate 4 0, out ++ free.drop out.length)

/-- A value held in int8, saturated (R129). -/
def sat8 (x : Int) : Int :=
  max (-128) (min 127 x)

/-- One output of CONV (R129, R134): filter, x and y. -/
def Job.conv (j : Job) (px : List Nat) (aux : Bytes) (f x y : Nat) : Int :=
  let k := j.p8 0
  let sum := (List.range (k * k)).foldl (fun a i =>
    a + Config.convPixel j.fmt (px.getD ((y + i / k) * j.w + x + i % k) 0) * Config.convWeight aux k (j.p8 1) f i)
    (Config.convBias aux k (j.p8 1) f)
  let acc := if -(2 ^ 31) ≤ sum ∧ sum < 2 ^ 31 then sum else Config.accOverflow sum
  sat8 (divNearest acc (2 ^ j.p8 2))

/-- CONV: result and output (R134). -/
def runConv (j : Job) (b aux o : Bytes) : Bytes × Bytes :=
  let w := j.w + 1 - j.p8 0
  let h := j.h + 1 - j.p8 0
  let px := j.values b
  let out := (List.range (w * h * j.p8 1)).map (fun i => j.conv px aux (i / (w * h)) (i % w) (i % (w * h) / w))
  let first := out.take (w * h)
  let ix := pick (topIx first) (field o 0 4)
  let above := out.filter (fun v => decide (signedOf 8 (j.p8 3) < v))
  (intLe 1 (first.getD ix 0) ++ natLe 2 (ix % w) ++ natLe 2 (ix / w) ++ natLe 4 above.length ++ List.replicate 3 0,
    out.flatMap (intLe 1))

/-- One pass of MORPH (R134): an erosion or a dilation; `edge` is a pixel whose window leaves the image. -/
def Job.morphPass (j : Job) (erode : Bool) (edge : Nat → Nat) (l : List Nat) : List Nat :=
  let k := j.p8 1
  let r := k / 2
  (List.range j.pixels).map (fun i =>
    let x := i % j.w
    let y := i / j.w
    if x < r ∨ y < r ∨ j.w ≤ x + r ∨ j.h ≤ y + r then edge i
    else (List.range (k * k)).foldl (fun v e =>
      if j.p8 2 = 1 ∧ e % k ≠ r ∧ e / k ≠ r then v
      else
        let p := l.getD ((y + e / k - r) * j.w + x + e % k - r) 0
        if erode then min v p else max v p) (l.getD i 0))

/-- MORPH: result and output (R134). -/
def runMorph (j : Job) (b : Bytes) : Bytes × Bytes :=
  let edge (pass i : Nat) : Nat := Config.edgePixel (j.desc.drop 44) b pass i % 2 ^ (if j.fmt = 1 then 16 else 8)
  let one := j.morphPass (j.p8 0 % 2 == 0) (edge 0) (j.values b)
  let l := if j.p8 0 < 2 then one else j.morphPass (j.p8 0 % 2 == 1) (edge 1) one
  let pixel (e : Nat × Nat) : Bytes :=
    if j.fmt = 0 then natLe 1 e.1
    else if j.fmt = 1 then natLe 2 e.1
    else if (j.p8 11).testBit 2 then natLe 1 (edge 2 e.2) ++ natLe 1 e.1
    else natLe 1 e.1 ++ natLe 1 (edge 2 e.2)
  (natLe 4 (l.filter (fun v => v != 0)).length ++ List.replicate 8 0, l.zipIdx.flatMap pixel)

/-- The source pixel of an output pixel of RESAMPLE (R134): where output and input have one size and the image is not
turned, or is turned by 180 degrees, every sample point is a pixel. -/
def Job.samplePoint (j : Job) (i : Nat) : Option Nat :=
  if j.p16 0 ≠ j.w ∨ j.p16 2 ≠ j.h then none
  else if j.p8 5 = 0 then some i
  else if j.p8 5 = 2 then some (j.pixels - 1 - i)
  else none

/-- RESAMPLE: its output (R134). -/
def runResample (j : Job) (b : Bytes) : Bytes :=
  let bpp := cropBpp j.fmt
  let d := j.desc.drop 44
  let copy (k : Nat) : Bytes := (b.drop (bpp * k)).take bpp
  (List.range (j.p16 0 * j.p16 2)).flatMap (fun i => match j.samplePoint i with
    | some k => copy k
    | none => if j.p8 4 = 0 then copy (Config.nearestIx d i % j.pixels) else natLe bpp (Config.bilinear d b i))

/-- TMATCH: the RESULT of a score map (R134). -/
def matchResult (j : Job) (o out : Bytes) : Bytes :=
  let w := j.w + 1 - j.p16 0
  let l := (List.range (out.length / 2)).map (fun i => signedOf 16 (field out (2 * i) 2))
  let ix := (topIx l).headD 0
  natLe 2 (ix % w) ++ natLe 2 (ix / w) ++ intLe 2 (l.getD ix 0)
    ++ (match others l ix with
      | [] => o.take 2
      | e :: r => intLe 2 (r.foldl (fun m x => max m x.1) e.1)) ++ List.replicate 4 0

/-- NNET: the RESULT of the final layer's outputs (R134). (DESIGN CHOICE, notes/assumptions/53.md) -/
def netResult (o out : Bytes) : Bytes :=
  let l := (List.range out.length).map (fun i => signedOf 8 (field out i 1))
  let ix := pick (topIx l) (field o 0 4)
  let rest := others l ix
  let second := pick (topIx (rest.map (fun e => e.1))) (field o 4 4)
  (if l.isEmpty then o.take 2 else natLe 1 ix ++ intLe 1 (l.getD ix 0))
    ++ (match rest[second]? with
      | none => (o.drop 2).take 2
      | some e => natLe 1 e.2 ++ intLe 1 e.1) ++ List.replicate 8 0

/-- FOREST: the RESULT of the votes (R134); the mean leaf score is the model's. -/
def forestResult (o out : Bytes) : Bytes :=
  let l := (List.range (out.length / 2)).map (fun i => (field out (2 * i) 2 : Int))
  let ix := (topIx l).headD 0
  natLe 1 ix ++ intLe 2 (l.getD ix 0) ++ o.take 2 ++ List.replicate 7 0

/-- What a job computes from its inputs (R134): its RESULT and its output. (DESIGN CHOICE, notes/assumptions/51.md) -/
def State.runKernel (s : State) (j : Job) (b aux : Bytes) : Bytes × Bytes :=
  let d := j.desc.take 2 ++ j.desc.drop 44
  let img := s.jobImage j
  let o := natLe 12 (Config.kernelResult img d b aux)
  let out := natLe (s.needOut j) (Config.kernelOut img d b aux)
  match j.kernel with
  | 1 => runConv j b aux o
  | 2 => runMorph j b
  | 3 => runHist j b
  | 4 => runStats j b aux
  | 5 => runThresh j b
  | 6 => runLabel j b o out
  | 7 => (matchResult j o out, out)
  | 8 => (netResult o out, out)
  | 9 => (forestResult o out, out)
  | 10 => (List.replicate 12 0, runResample j b)
  | _ => (o, out)

end Sys2Proof.Machine
end

