-- ==== Sys2Proof/Machine/Verify.lean ====
section
/-! DEFINITION. The Verify Engine: staging, admission, execution, publication, cancellation, kernel slots and tiles (R129 to
R151). -/

namespace Sys2Proof.Machine

/-! ### Tiles and the budget (R131, R137, R145) -/

/-- The tiles enabled. -/
def State.tilesEnabled (s : State) : List Nat :=
  numbersWhere s.part.tiles (fun t => if t < 32 then (s.get VE_TILE_EN_LO_EN).testBit t else (s.get VE_TILE_EN_HI_EN).testBit (t - 32))

/-- The tiles in service. -/
def State.tilesOk (s : State) : List Nat :=
  s.tilesEnabled.filter (fun t => !s.ve.out.contains t)

/-- The number whose bits a list names. -/
def bitMap (l : List Nat) : Nat :=
  l.foldl (fun a i => a + 2 ^ i) 0

/-- The tiles of a firing, its capacity and its budget fixed at t0 (R131, R137). -/
def State.latchTiles (s : State) : State :=
  let s1 := s.onVe (fun v => { v with out := v.out.filter (fun t => !v.back.contains t), back := [] })
  let ok := s1.tilesOk
  let fmin := s1.get TB_FMIN_FMIN
  let ctile := min (fmin * 24 / 25 * s1.get VE_CAP_PCT / 100) ((fmin - s1.get TB_SEAL_MARGIN_MARGIN - 400) * 24 / 25)
  let m := bitMap ok
  ((((s1.put VE_TILE_OK_LO_MAP (m % 2 ^ 32)).put VE_TILE_OK_HI_MAP (m / 2 ^ 32)).put VE_NTILES_T ok.length).put VE_CTILE_FCLK
    ctile).put VE_BUDGET_FCLK (ok.length * ctile)

/-! ### Kernel slots at a boundary (R145, R148) -/

/-- A load or an unload takes effect; glost has measured what it loads for FN 1 itself (R411, R414). -/
def State.applySlot (s : State) (e : Nat × Option Bytes) : State :=
  let m := s.get VE_KSLOT_VALID_MAP
  match e.2 with
  | none =>
    (s.onVe (fun v => { v with kslots := dropKey v.kslots e.1 })).put VE_KSLOT_VALID_MAP (withBits m e.1 1 0)
  | some b =>
    let s1 := ((s.onVe (fun v => { v with kslots := putKey v.kslots e.1 ⟨b, 0⟩ })).put VE_KSLOT_VALID_MAP (withBits m e.1 1 1)).put
      VE_KSLOT_QUAR_MAP (withBits (s.get VE_KSLOT_QUAR_MAP) e.1 1 0)
    if s.fn ≤ 1 then s1 else s1.extendMeas 6 ((b.drop 64).take 64)

/-- A slot is quarantined. -/
def State.quarantine (s : State) (k : Nat) : State :=
  (s.put VE_KSLOT_QUAR_MAP (withBits (s.get VE_KSLOT_QUAR_MAP) k 1 1)).raise F_VE_QUARANTINE 0

/-- Loads, unloads and quarantines take effect at a boundary. -/
def State.slotsAtBoundary (s : State) : State :=
  let s1 := (s.onVe (fun v => { v with quarNext := [], kpend := [] })).each s.ve.quarNext State.quarantine
  s1.each s.ve.kpend State.applySlot

/-! ### Admission (R136 to R141) -/

/-- A candidate: its place, its job, and whether it was newly copied. -/
structure Cand where
  ix : Nat
  job : Job
  fresh : Bool
  cost : Nat
  deriving DecidableEq, Repr

/-- What admission carries from candidate to candidate: the loads by tile, the shares left, the free result slots, and
the jobs of the pool that are no candidates or still wait, by place. -/
structure Admission where
  fn : Nat
  tiles : List Nat
  ctile : Nat
  load : List (Nat × Nat) := []
  share : List (Nat × Nat) := []
  rq : List (Nat × Nat) := []
  pool : List (Nat × Job) := []
  common : Nat := 0
  placed : List Slot_ := []
  left : List Cand := []
  full : List Nat := []          -- groups for which VE_RQ_FULL has been raised

/-- A number listed under a key; 0 if none is. -/
def at0 (l : List (Nat × Nat)) (k : Nat) : Nat :=
  (lookup l k).getD 0

/-- `first_fit`. -/
def Admission.firstFit (a : Admission) (cost : Nat) : Option Nat :=
  a.tiles.find? (fun t => decide (at0 a.load t + cost ≤ a.ctile))

/-- A job takes a slot of its group's result ring, and leaves the pool. -/
def Admission.take (a : Admission) (c : Cand) (x : Slot_) : Admission :=
  { a with
    placed := a.placed ++ [x],
    rq := putKey a.rq c.job.g (at0 a.rq c.job.g - 1),
    pool := a.pool.filter (fun e => e.1 != c.ix) }

/-- A job is placed on a tile. -/
def Admission.place (a : Admission) (c : Cand) (t : Nat) : Admission :=
  { a.take c { ix := c.ix, job := c.job, tile := some t, cost := c.cost, fn := a.fn } with
    load := putKey a.load t (at0 a.load t + c.cost) }

/-- What a rejection record raises and counts. -/
def State.countReject (s : State) (st : Nat) : State :=
  let s1 := s.bump VE_REJ_CNT_CNT
  if st = 0x10 ∨ st = 0x11 then s1.raise F_VE_REJECT 0
  else if st = 0x15 then s1.raise F_VE_WINDOW 0
  else if st = 0x16 then s1.raise F_VE_POOL_FULL 0
  else s1

/-- A job that finds no free result slot is kept (R141): it stays in the pool, or enters it, or is lost.
(DEDUCED, notes/assumptions/56.md) -/
def State.keepJob (s : State) (a : Admission) (c : Cand) : State × Admission :=
  let g := c.job.g
  let s1 := if a.full.contains g then s
    else ((s.raise F_VE_RQ_FULL 0).raiseSrc (208 + g)).putFlag (VE_G_STAT_RQ_FULL g) true
  let a1 := { a with full := g :: a.full }
  if !c.fresh then (s1, a1)
  else if a.pool.length < 1024 then (s1, { a1 with pool := a1.pool ++ [(c.ix, c.job)] })
  else ((s1.bump VE_POOL_OVF_CNT).raise F_VE_POOL_FULL 0, a1)

/-- A job is settled with a status; one that finds no free result slot is kept. -/
def State.settleJob (s : State) (a : Admission) (c : Cand) (st : Nat) : State × Admission :=
  if at0 a.rq c.job.g = 0 then s.keepJob a c
  else (s.countReject st, a.take c { ix := c.ix, job := c.job, tile := none, cost := 0, fn := a.fn, status := some st })

/-- The first pass over a candidate (R139): precheck, free slot, share. -/
def State.pass1 (x : State × Admission) (c : Cand) : State × Admission :=
  let (s, a) := x
  match s.precheck c.job a.fn with
  | some st => s.settleJob a c st
  | none =>
    if at0 a.rq c.job.g = 0 then s.keepJob a c
    else match (if c.cost ≤ at0 a.share c.job.g then a.firstFit c.cost else none) with
    | some t =>
      let a1 := a.place c t
      (s, { a1 with share := putKey a1.share c.job.g (at0 a1.share c.job.g - c.cost), common := a1.common - c.cost })
    | none => (s, { a with left := a.left ++ [c] })

/-- The second pass (R139): the common pool of budget. -/
def State.pass2 (x : State × Admission) (c : Cand) : State × Admission :=
  let (s, a) := x
  if at0 a.rq c.job.g = 0 then s.keepJob a c
  else match (if c.cost ≤ a.common then a.firstFit c.cost else none) with
  | some t => let a1 := a.place c t; (s, { a1 with common := a1.common - c.cost })
  | none => (s, { a with left := a.left ++ [c] })

/-- The third pass (R139): rejected, expired or deferred. -/
def State.pass3 (x : State × Admission) (c : Cand) : State × Admission :=
  let (s, a) := x
  let j := { c.job with defers := c.job.defers + 1 }
  if c.job.onFull then s.settleJob a c 0x10
  else if c.job.maxDefer ≤ c.job.defers then s.settleJob a c 0x11
  else if !c.fresh then
    (s.bump VE_DEFER_CNT_CNT, { a with pool := a.pool.map (fun e => if e.1 = c.ix then (e.1, j) else e) })
  else if a.pool.length < 1024 then (s.bump VE_DEFER_CNT_CNT, { a with pool := a.pool ++ [(c.ix, j)] })
  else s.settleJob a c 0x16

/-- The free result slots of a group (R141): at this point every earlier job has been published. -/
def State.rqFree (s : State) (g : Nat) : Nat :=
  let used := (s.get (VE_RQ_HEAD_CNT g) + 2 ^ 32 - s.get (VE_RQ_TAIL_CNT g)) % 2 ^ 32
  2 ^ (s.get (VE_RQ_SIZE_LOG2 g) + 4) - used - (s.ve.slots.filter (fun x => x.job.g = g)).length

/-- A newly copied job whose NOT_BEFORE_FN is to come enters the pool (R138); without room, it is settled.
(DEDUCED, notes/assumptions/56.md) -/
def State.parkJob (x : State × Admission) (c : Cand) : State × Admission :=
  let (s, a) := x
  if a.pool.length < 1024 then (s, { a with pool := a.pool ++ [(c.ix, c.job)] }) else s.settleJob a c 0x16

/-- Candidates with their costs and places. (DEDUCED, notes/assumptions/56.md) -/
def State.candidates (s : State) (l : List (Bool × Job)) : List Cand :=
  l.zipIdx.map (fun e => ⟨e.2, e.1.2, e.1.1, s.jobCost e.1.2⟩)

/-- The registers that show an admission. -/
def State.showAdmission (s : State) (a : Admission) (n : Nat) : State :=
  let run := a.placed.filter (fun x => x.tile.isSome)
  let cost (l : List Slot_) : Nat := l.foldl (fun k x => k + x.cost) 0
  let s1 := ((((s.put VE_ADMITTED_FCLK (cost run)).put VE_ADMIT_N_N run.length).put VE_POOL_N_N a.pool.length).put VE_CAND_N_N n).addTo
    VE_ADMIT_CNT_CNT run.length
  let s2 := s1.put VE_TILE_PEAK_FCLK (a.load.foldl (fun k e => max k e.2) 0)
  let s3 := s2.each (List.range s.part.groups) (fun s g => s.put (VE_GUSED_FCLK g) (cost (run.filter (fun x => x.job.g = g))))
  s3.each (List.range s.part.tiles) (fun s t =>
    (s.put (VT_LOAD_FCLK t) (at0 a.load t)).put (VT_JOBS_N t) (run.filter (fun x => x.tile = some t)).length)

/-- `VT_BUSY_LAST` of every tile: the cycles it ran in the firing that ends, at most the cost placed on it.
(DEDUCED, notes/assumptions/58.md) -/
def State.latchBusy (s : State) : State :=
  s.each (List.range s.part.tiles) (fun s t =>
    let (k, s1) := s.draw
    s1.put (VT_BUSY_LAST_FCLK t) (Config.tileBusy k % (s.get (VT_LOAD_FCLK t) + 1)))

/-- The jobs copied at the last seal point are candidates for the first time (R136). -/
def State.markFirst (s : State) : State :=
  s.onVe (fun v => { v with copied := v.copied.map (fun j => { j with first := some (j.first.getD s.fn) }) })

/-- Admission at a boundary (R137 to R141), with what the boundary fixes for the tiles and the slots.
(DEDUCED, notes/assumptions/56.md) -/
def State.veBoundary (s : State) : State :=
  let s1 := ((s.latchBusy.slotsAtBoundary).latchTiles).markFirst
  let f := s1.fn
  let base : Admission := { fn := f, tiles := s1.tilesOk, ctile := s1.get VE_CTILE_FCLK }
  if !s1.flag VE_CTRL_EN || s1.arch.refuse || s1.get TW_STAT_ROLE == 2 then
    s1.showAdmission { base with pool := s1.ve.pool.map (fun j => (0, j)) } 0
  else
    let budget := s1.get VE_BUDGET_FCLK
    let due (j : Job) : Bool := decide (j.notBefore ≤ f) || j.tooFar f
    let idle := s1.ve.pool.filter (fun j => !due j)
    let ready := (s1.ve.pool.filter due).map (fun j => (false, j))
    let fresh := (s1.ve.copied.filter due).map (fun j => (true, j))
    let all := s1.candidates (ready ++ fresh)
    let cands := all.take 1536
    let later := s1.candidates ((s1.ve.copied.filter (fun j => !due j)).map (fun j => (true, j)))
    -- the pool in its order, each candidate of it under its place, the others under places that no candidate has
    let pool := (s1.ve.pool.foldl (fun (acc : Nat × Nat × List (Nat × Job)) j =>
      if !due j then (acc.1, acc.2.1 + 1, acc.2.2 ++ [(4096 + acc.2.1, j)])
      else (acc.1 + 1, acc.2.1, acc.2.2 ++ [(acc.1, j)])) (0, 0, [])).2.2
    let a0 := { base with
      share := (List.range 8).map (fun g => (g, budget * s1.get (VE_SHARE_N g) / 1024)),
      rq := (List.range 8).map (fun g => (g, s1.rqFree g)), pool := pool, common := budget }
    let parked := (later.map (fun c => { c with ix := c.ix + 8192 + idle.length })).foldl State.parkJob (s1, a0)
    let (s2, a2) := cands.foldl State.pass1 parked
    let (s3, a3) := a2.left.foldl State.pass2 (s2, { a2 with left := [] })
    let (s4, a4) := a3.left.foldl State.pass3 (s3, { a3 with left := [] })
    let s5 := s4.onVe (fun v => { v with
      pool := a4.pool.map (fun e => e.2),
      copied := ((all.drop 1536).filter (fun c => c.fresh)).map (fun c => c.job),
      slots := a4.placed })
    s5.showAdmission a4 cands.length

/-! ### The seal point (R135, R142, R143, R146) -/

/-- Whether a job matches a cancel (R146). -/
def Job.matches (j : Job) (g tag mask : Nat) : Bool :=
  decide (j.g = g) && (j.tag &&& mask) == (tag &&& mask)

/-- Up to 64 descriptors of a group's ring copied (R135). (DEDUCED, notes/assumptions/56.md) -/
def State.copyRing (s : State) (g : Nat) : State :=
  let head := s.get (VE_SQ_HEAD_CNT g)
  let n := min 64 ((s.get (VE_SQ_TAIL_CNT g) + 2 ^ 32 - head) % 2 ^ 32)
  let size := 2 ^ (s.get (VE_SQ_SIZE_LOG2 g) + 4)
  let s1 := s.each (List.range n) (fun s i =>
    let (s1, d, _) := s.busRead 9 (s.rd64 (VE_SQ_BASE g) + 64 * ((head + i) % size)) 64
    s1.onVe (fun v => { v with copied := v.copied ++ [{ g := g, desc := d }] }))
  s1.put (VE_SQ_HEAD_CNT g) (head + n)

/-- A held cancel acts (R146): `old` is the number of jobs copied before this seal point.
(DEDUCED, notes/assumptions/57.md) -/
def State.actCancel (s : State) (old : Nat) (g : Nat) : State :=
  match s.ve.cancel.get (toIx 8 g) with
  | none => s
  | some (tag, mask, discard) =>
    let hit (j : Job) : Bool := j.matches g tag mask
    let pool := s.ve.pool.filter (fun j => !hit j)
    let copied := s.ve.copied.take old ++ (s.ve.copied.drop old).filter (fun j => !hit j)
    let gone := s.ve.pool.length - pool.length + (s.ve.copied.length - copied.length)
    let s1 := s.onVe (fun v => { v with
      pool := pool, copied := copied, cancel := v.cancel.set (toIx 8 g) none,
      slots := v.slots.map (fun x => if discard && hit x.job && x.tile.isSome then { x with cancelled := true } else x) })
    let s1 := s1.onVe (fun v => { v with removed := v.removed ++ [(g, gone)] })
    ((s1.addTo VE_CANCEL_CNT_CNT gone).putFlag (VE_CANCEL_CTRL_PENDING g) false).put VE_POOL_N_N pool.length

/-- The result record of a job (R143). -/
def Slot_.record (x : Slot_) : Bytes :=
  let st := if x.cancelled then 2 else x.status.getD 4
  let out := x.out && !x.cancelled
  let flags := (if out then 1 else 0) + (if x.job.flags.testBit 2 then 2 else 0) + (if 0 < x.job.defers then 4 else 0)
  natLe 4 x.job.tag ++ natLe 2 x.job.kernel ++ natLe 1 st ++ natLe 1 flags ++ natLe 4 x.job.track ++ natLe 4 x.fn
    ++ natLe 4 x.cost ++ (if st = 0 then x.result else List.replicate 12 0)

/-- Whether a record is a rejection (R144). -/
def Slot_.rejected (x : Slot_) : Bool :=
  decide (0x10 ≤ x.status.getD 0)

/-- A record written to its group's result ring. -/
def State.publishOne (s : State) (x : Slot_) : State :=
  let g := x.job.g
  let head := s.get (VE_RQ_HEAD_CNT g)
  let size := 2 ^ (s.get (VE_RQ_SIZE_LOG2 g) + 4)
  let s1 := (s.busWrite 9 (s.rd64 (VE_RQ_BASE g) + 32 * (head % size)) x.record).1
  s1.put (VE_RQ_HEAD_CNT g) (head + 1)

/-- A tile still running is killed (R145). (DEDUCED, notes/assumptions/55.md; DEDUCED, notes/assumptions/58.md) -/
def State.deadline (s : State) (t : Nat) : State :=
  if s.ve.slots.any (fun x => x.tile = some t ∧ x.status.isNone) then
    let s1 := s.onVe (fun v => { v with
      slots := v.slots.map (fun x => if x.tile = some t ∧ x.status.isNone then { x with status := some 4 } else x) })
    ((s1.bump VE_DEADLINE_CNT_CNT).bump (VT_JOB_CNT_CNT t)).raise F_VE_DEADLINE 0
  else s

/-- What the Verify Engine does at a seal point (R135, R142, R146). -/
def State.veSeal (s : State) : State :=
  let old := s.ve.copied.length
  let s1 := (s.onVe (fun v => { v with removed := [] })).each (if s.get TW_STAT_ROLE = 2 then [] else List.range s.part.groups) State.copyRing
  let s2 := s1.each (List.range s.part.groups) (fun s g => s.actCancel old g)
  let s3 := s2.each (List.range s.part.tiles) State.deadline
  let recs := sortBy (fun a b => decide (a.ix ≤ b.ix)) s3.ve.slots
  let s4 := s3.each recs State.publishOne
  let s5 := s4.each (List.range s.part.groups) (fun s g =>
    let mine := recs.filter (fun x => x.job.g = g)
    (s.when (!mine.isEmpty) (fun s => s.raiseSrc (192 + g))).when (mine.any Slot_.rejected) (fun s => s.raiseSrc (200 + g)))
  s5.onVe (fun v => { v with slots := [], digest := recs.flatMap Slot_.record })

/-! ### Execution (R132, R142, R145) -/

/-- The job that runs on a tile: the first placed there that has not ended. -/
def State.running (s : State) (t : Nat) : Option Slot_ :=
  if s.rd64 TB_BTT + 400 ≤ s.tt then s.ve.slots.find? (fun x => x.tile = some t ∧ x.status.isNone) else none

/-- The running job of a tile ends. -/
def State.endJob (s : State) (t st : Nat) (result : Bytes) (out : Bool) : State :=
  match s.running t with
  | none => s
  | some x =>
    s.onVe (fun v => { v with
      slots := v.slots.map (fun y => if y.ix = x.ix then { y with status := some st, result := result, out := out } else y) })

/-- The crop check of a job (R132): whether the slot still holds the expected crop;
first, whether its header could be read. -/
def State.cropThere (s : State) (j : Job) : State × Bool × Bool :=
  if j.cropChk then
    let (s1, h, res) := s.busRead 9 (j.inAddr - 64) 64
    (s1, res.ok, field h 6 1 == 2 && field h 0 4 == j.cropId)
  else (s, true, true)

/-- A job ends with an error status of memory (R145). -/
def State.memErr (s : State) (t : Nat) : State :=
  ((s.bump VE_MEMERR_CNT_CNT).raise F_VE_MEM_ERR 0).endJob t 3 (List.replicate 12 0) false

/-- A check of the crop, before the fetch or after it (R132): the Boolean tells whether the job goes on. -/
def State.cropStep (s : State) (t : Nat) (j : Job) : State × Bool :=
  let (s1, ok, there) := s.cropThere j
  if !ok then (s1.memErr t, false) else if there then (s1, true) else (s1.endJob t 6 (List.replicate 12 0) false, false)

/-- A fetch of a job's input (R130, R145): no bytes where the job has ended with MEM_ERR. -/
def State.fetchStep (s : State) (t a n : Nat) : State × Option Bytes :=
  let (s1, b, r) := s.busRead 9 a n
  if r.ok then (s1, some b) else (s1.memErr t, none)

/-- The inputs of a job fetched (R130, R132): a failure ends it at once, and nothing more is read (R145). -/
def State.fetchJob (s : State) (t : Nat) (j : Job) : State × Option (Bytes × Bytes) :=
  match s.cropStep t j with
  | (s1, false) => (s1, none)
  | (s1, true) =>
    match s1.fetchStep t j.inAddr j.inLen with
    | (s2, none) => (s2, none)
    | (s2, some b) =>
      match s2.fetchStep t j.auxAddr j.auxLen with
      | (s3, none) => (s3, none)
      | (s3, some aux) =>
        match s3.cropStep t j with
        | (s4, false) => (s4, none)
        | (s4, true) => (s4, some (b, aux))

/-- The running job of a tile runs to its end (R129, R130, R142). (DEDUCED, notes/assumptions/55.md) -/
def State.runJob (s : State) (t : Nat) (j : Job) : State :=
  match s.fetchJob t j with
  | (s4, none) => s4
  | (s4, some (b, aux)) =>
    let (res, out) := s4.runKernel j b aux
    if j.outEn then
      let (s5, w) := s4.busWrite 9 j.outAddr out
      if w.ok then s5.endJob t 0 res true else s5.memErr t
    else s4.endJob t 0 res false

/-- `VE_JOB_END` (R142): the job that runs on a tile ends. (DEDUCED, notes/assumptions/55.md) -/
def execVeJobEnd (t : Tile) (s : State) : Host.Outcome State Fault Refusal :=
  .next (match s.running t with
  | none => s
  | some x => (s.bump (VT_JOB_CNT_CNT t)).runJob t x.job)

/-- `VE_OVERRUN` (R145): a custom kernel reaches its declared bound. (DEDUCED, notes/assumptions/55.md) -/
def execVeOverrun (t : Tile) (s : State) : Host.Outcome State Fault Refusal :=
  .next (match s.running t with
  | none => s
  | some x =>
    if x.job.kernel < 0x80 then s
    else
      let k := x.job.kernel - 0x80
      let s1 := (((s.bump (VT_JOB_CNT_CNT t)).bump VE_OVERRUN_CNT_CNT).bump (VT_OVERRUN_CNT_CNT t)).raise F_VE_OVERRUN 0
      let s2 := s1.endJob t 1 (List.replicate 12 0) false
      match lookup s2.ve.kslots k with
      | none => s2
      | some ks =>
        let n := ks.overruns + 1
        let q := decide (s2.get VE_QUAR_N_N ≤ n) && !(s2.get VE_KSLOT_QUAR_MAP).testBit k && !s2.ve.quarNext.contains k
        s2.onVe (fun v => { v with
          kslots := putKey v.kslots k { ks with overruns := n }, quarNext := if q then v.quarNext ++ [k] else v.quarNext }))

/-- `VE_TILE_FAULT` (R145): a tile's self-check fails.
(DEDUCED, notes/assumptions/55.md; DEDUCED, notes/assumptions/58.md) -/
def execVeTileFault (t : Tile) (s : State) : Host.Outcome State Fault Refusal :=
  .next (if s.part.tiles ≤ t.val then s else s.tileFault t)

/-- `VT_RETURN` (R145): the self-test of a tile that is out of service starts. (DEDUCED, notes/assumptions/58.md) -/
def execVtReturn (t : Tile) (m : Master) (s : State) : Host.Outcome State Fault Refusal :=
  .next (s.portal m (VT_CTRL t) (m == 0)
    (if s.ve.out.contains t ∧ !s.ve.testing.contains t then s.onVe (fun v => { v with testing := v.testing ++ [t.val] }) else s))

/-- `VT_SELF_TEST_DONE` (R145): a tile's self-test ends. -/
def execVtSelfTestDone (t : Tile) (pass : Bool) (s : State) : Host.Outcome State Fault Refusal :=
  .next (if s.ve.testing.contains t.val then
    let s1 := (s.onVe (fun v => { v with
      testing := v.testing.filter (fun x => x != t.val), back := if pass then v.back ++ [t.val] else v.back })).putFlag
      (VT_CTRL_ST_FAIL t) (!pass)
    s1
  else s)

/-! ### Registers of the group blocks (R135, R146) -/

/-- `VE_SQ_TAIL_WRITE` (R135). -/
def execVeSqTailWrite (g : Group) (m : Master) (v : Word) (s : State) : Host.Outcome State Fault Refusal :=
  .next (s.portal m (VE_SQ_TAIL g) (ownOr0 g m) (
    let ahead := (v.toNat + 2 ^ 32 - s.get (VE_SQ_HEAD_CNT g)) % 2 ^ 32
    if 2 ^ (s.get (VE_SQ_SIZE_LOG2 g) + 4) < ahead then s.putFlag (VE_G_STAT_CFG_REJ g) true
    else s.wr (VE_SQ_TAIL g) v))

/-- A cancel held for a group (R146): it replaces one that has not acted. (DEDUCED, notes/assumptions/57.md) -/
def State.holdCancel (s : State) (g : Group) (tag mask : Nat) (discard : Bool) : State :=
  (s.onVe (fun v => { v with cancel := v.cancel.set g (some (tag, mask, discard)) })).putFlag (VE_CANCEL_CTRL_PENDING g) true

/-- `VE_CANCEL_GO` (R146): a write to `VE_CANCEL_CTRL`. (DEDUCED, notes/assumptions/57.md) -/
def execVeCancelGo (g : Group) (m : Master) (v : Word) (s : State) : Host.Outcome State Fault Refusal :=
  .next (s.portal m (VE_CANCEL_CTRL g) (ownOr0 g m) (
    let d := v.toNat.testBit 1
    let s1 := s.putFlag (VE_CANCEL_CTRL_DISCARD g) d
    if v.toNat.testBit 0 then s1.holdCancel g (s.get (VE_CANCEL_TAG_TAG g)) (s.get (VE_CANCEL_MASK_MASK g)) d else s1))

/-- What a restart of a group does to its jobs (R146). (DEDUCED, notes/assumptions/58.md) -/
def State.veRestart (s : State) (g : Group) : State :=
  (s.holdCancel g 0 0 false).wr (VE_SQ_HEAD g) (s.rd (VE_SQ_TAIL g))

/-! ### Loading slots (R148) -/

/-- `VE_KLOAD_GO` (R148): the check of an image starts. (DEDUCED, notes/assumptions/59.md) -/
def execVeKloadGo (m : Master) (s : State) : Host.Outcome State Fault Refusal :=
  .next (s.portal m VE_KLOAD_CTRL (m == 0) (if s.flag VE_KLOAD_CTRL_BUSY then s
  else ((s.onVe (fun v => { v with kload := some (s.rd64 VE_KLOAD_ADDR / 64 * 64 % 2 ^ 40, s.get VE_KLOAD_LEN_BYTES) })).putFlag
    VE_KLOAD_CTRL_BUSY true).syncEngine))

/-- `VE_KLOAD_UNLOAD` (R148): the slot named is emptied at the next boundary. -/
def execVeKloadUnload (m : Master) (v : Word) (s : State) : Host.Outcome State Fault Refusal :=
  .next (s.portal m VE_KLOAD_CTRL (m == 0) (
    let slot := bitsOf v.toNat 8 5
    ((s.put VE_KLOAD_CTRL_SLOT slot).stageBy m VE_KLOAD_CTRL (BitVec.ofNat 32 (2 + slot * 0x100)))))

/-- The staged UNLOAD takes effect. (DEDUCED, notes/assumptions/58.md) -/
def State.commitUnload (s : State) (v : Word) : State :=
  if v.toNat.testBit 1 then s.onVe (fun x => { x with kpend := x.kpend ++ [(bitsOf v.toNat 8 5, none)] }) else s

/-- The check of a slot image ends (R148): the code of its RESULT, and the image where the slot takes it. -/
def State.endKload (s : State) : State × Option (Nat × Bytes) :=
  match s.ve.kload with
  | none => (s, none)
  | some (a, n) =>
    let (s1, b, res) := s.busRead 13 a n
    let code := if res.ok then s1.checkKernel s1.activeBase b else 1
    let s2 := ((s1.onVe (fun v => { v with kload := none })).putFlag VE_KLOAD_CTRL_BUSY false).put VE_KLOAD_CTRL_RESULT code
    let s3 := s2.raiseSrc 216
    (if code = 0 then s3.onVe (fun v => { v with kpend := v.kpend ++ [(field b 4 2 - 0x80, some b)] })
     else s3.raise F_VE_KLOAD_FAIL 0, some (code, b))

end Sys2Proof.Machine
end

