-- ==== Sys2Proof/Machine/Groups.lean ====
section
/-! DEFINITION. The lockstep groups as whole units: their running state, eligibility and pending interrupts as the distributor
sees them, stop and restart, craze records (R191, R192, R196, R198, R205, R283 to R296, R438). -/

namespace Sys2Proof.Machine

/-! ### A group -/

/-- A group's state. -/
def State.core (s : State) (g : Group) : Core :=
  s.cores.get g

/-- The register block of a group (R461). -/
def lsgBase (g : Nat) : Nat := 0x200000 + g * 0x10000

/-- Whether a group is present on the part. -/
def State.hasGroup (s : State) (g : Group) : Bool :=
  decide (g.val < s.part.groups)

/-- The codes of `LS_STAT.STATE`. -/
def lsRunning : Nat := 0
def lsStopped : Nat := 1
def lsPaused : Nat := 2
def lsHalted : Nat := 3

/-- Whether a group commits instructions: running, and not in WAIT. -/
def State.groupRuns (s : State) (g : Group) : Bool :=
  s.hasGroup g && s.get (LS_STAT_STATE g) == lsRunning && !s.flag (LS_STAT_WAIT g) && !s.poweredOff g

/-- The CCLK since the group's restart (R187, R211). -/
def State.cclk (s : State) (g : Group) : Nat :=
  (s.tt - (s.core g).startTt) * 32 / 25

/-- A run of register words reset with its block: values, staged writes and RWL locks (R14). -/
def State.resetBlock (s : State) (lo hi : Nat) : State :=
  let s1 := (s.resetRange lo hi).dropStaged lo hi
  { s1 with locked := s1.locked.filter (fun o => decide (o < lo) || decide (hi ≤ o)) }

/-! ### Copies (R180, R189, R192, R196) -/

/-- The copies that the part has, as a mask. -/
def State.fitted (s : State) : Nat :=
  if s.part.copyC then 7 else 3

/-- The copies that take part after a restart: fitted and not retired; without TMR, A and B alone where both can (R184,
R189). (DEDUCED, notes/assumptions/65.md) -/
def State.startCopies (s : State) (g : Group) : Nat :=
  let m := s.fitted &&& (7 ^^^ s.get (LS_RETIRED_MAP g))
  if !s.flag (LS_CFG_TMR g) && m &&& 3 == 3 then 3 else m

/-- `LS_STAT.DEGR` and the cause of DEGRADED (R192). -/
def State.syncDegr (s : State) (g : Group) : State :=
  let lost := s.get (LS_STAT_EJECTED g) != 0 || s.get (LS_RETIRED_MAP g) != 0
  let s1 := s.putFlag (LS_STAT_DEGR g) lost
  s1.degradeWhen 0 ((List.range s.part.groups).any (fun k => s1.flag (LS_STAT_DEGR k)))

/-- A copy's clock is held (R190): its state stays as it is, with the value by which it differed; a retired copy has none
(R196). (DEDUCED, notes/assumptions/65.md) -/
def State.holdCopy (s : State) (g : Group) (c : Fin 3) (own : Copy → Copy) : State :=
  let lo := lsgBase g + 0x1000
  let mpu := s.regs.filter (fun e => decide (lo ≤ e.1) && decide (e.1 < lo + 0x1000))
  s.onCore g (fun x => { x with held := x.held.set c.val (some ⟨own x.toCopy, mpu⟩) })

/-- A copy has no state of its own any more: it is in reset, or it takes part. -/
def State.dropCopies (s : State) (g : Group) (m : Nat) : State :=
  s.onCore g (fun x => { x with held := Vector.ofFn (fun (k : Fin 3) => if m.testBit k.val then none else x.held.get k) })

/-- The state of a copy (R179): the group's for one that takes part, its own for one that an ejection has stopped. -/
def State.copyState (s : State) (g : Group) (c : Fin 3) : Option Copy :=
  if (s.get (LS_STAT_ACTIVE g)).testBit c.val then some (s.core g).toCopy else ((s.core g).held.get c).map HeldCopy.copy

/-! ### The distributor's view (R283 to R287, R294, R295) -/

/-- Whether a group is eligible (R287). -/
def State.eligible (s : State) (g : Group) : Bool :=
  s.hasGroup g && (s.get (LS_STAT_STATE g) == lsRunning || s.get (LS_STAT_STATE g) == lsPaused) && !s.poweredOff g

/-- Whether a source is enabled (R283). -/
def State.srcOn (s : State) (i : Nat) : Bool :=
  s.flag (SRC_CFG_EN i) && s.get (SRC_CFG_TARGET i) != 0

/-- Whether a source is broadcast (R289). (DEDUCED, notes/assumptions/79.md) -/
def State.bcast (s : State) (i : Nat) : Bool :=
  s.flag (SRC_CFG_BCAST i)

/-- Whether a routed source is pending (R284). (DEDUCED, notes/assumptions/79.md) -/
def State.routedPending (s : State) (i : Nat) : Bool :=
  s.flag (SRC_STAT_EDGE i) || s.flag (SRC_STAT_SWPEND i) || (s.flag (SRC_STAT_LINE i) && s.get (SRC_STAT_GACT i) == 0)

/-- Whether a source is pending for any group (`SRC_STAT.PEND`). -/
def State.srcPending (s : State) (i : Nat) : Bool :=
  if s.bcast i then s.get (SRC_STAT_GPEND i) != 0 else s.routedPending i

/-- Whether a source is pending for a group that is one of its targets. -/
def State.pendingFor (s : State) (i : Nat) (g : Group) : Bool :=
  s.srcOn i && (s.get (SRC_CFG_TARGET i)).testBit g &&
    (if s.bcast i then (s.get (SRC_STAT_GPEND i)).testBit g else s.routedPending i)

/-- Whether a group can take a source with a running priority and an enable (R286, R281). -/
def State.takes (s : State) (g : Group) (ie : Bool) (prio : Nat) (i : Nat) : Bool :=
  let p := s.get (SRC_CFG_PRIO i)
  (ie && decide (s.get (IC_THRESH_THRESH g) < p) && decide (prio < p)) || (p == 63 && decide (prio < 63))

/-- Whether a group can take a source now. (DEDUCED, notes/assumptions/78.md) -/
def State.canTake (s : State) (g : Group) (i : Nat) : Bool :=
  s.takes g (s.core g).ie (s.core g).prio i

/-- The sources that can ever be pending (R51, R127, R150, R176, R282, R400, R431, R457): no reserved one. -/
def srcReal (i : Nat) : Bool :=
  decide (i < 62) || (decide (64 ≤ i) && decide (i < 112)) || (decide (128 ≤ i) && decide (i < 137))
    || (decide (192 ≤ i) && decide (i < 218)) || (decide (256 ≤ i) && decide (i < 455)) || (decide (464 ≤ i) && decide (i < 470))
    || (decide (480 ≤ i) && decide (i < 483))

/-- Whether a source is pending, enabled and unpresented, and every target is ineligible (R295). -/
def State.orphaned (s : State) (i : Nat) : Bool :=
  s.srcOn i && s.srcPending i && s.get (SRC_STAT_GPRES i) == 0
    && !(allFin 8).any (fun g => (s.get (SRC_CFG_TARGET i)).testBit g && s.eligible g)

/-- An orphan counted (R295). -/
def State.countOrphan (s : State) (i : Nat) : State :=
  (s.bump (SRC_CTRL_ORPHAN i)).bump IC_ORPH_CNT_CNT

/-- The orphans brought up to date: each source that becomes one is counted. -/
def State.syncOrphans (s : State) : State :=
  let now := (List.range 512).filter (fun i => s.orphaned i)
  let s1 := s.each (now.filter (fun i => !s.orphans.contains i)) State.countOrphan
  { s1 with orphans := now }

/-- A presentation to a group ended without an entry (R291). -/
def State.unpresent (s : State) (g : Group) : State :=
  if s.flag (IC_PRES_VALID g) then
    let i := s.get (IC_PRES_SRC g)
    (s.put (SRC_STAT_GPRES i) (withBits (s.get (SRC_STAT_GPRES i)) g 1 0)).wr (IC_PRES g) 0
  else s

/-- A presentation withdrawn and counted (R291). -/
def State.withdraw (s : State) (g : Group) : State :=
  if s.flag (IC_PRES_VALID g) then (s.unpresent g).bump (IC_WDRAW_CNT_CNT g) else s

/-- Whether a group's presented source may stay presented (R291). -/
def State.stillPresented (s : State) (g : Group) : Bool :=
  let i := s.get (IC_PRES_SRC g)
  s.eligible g && s.pendingFor i g && s.canTake g i

/-- Every presentation that may not stay withdrawn, and the orphans brought up to date (R291, R295). -/
def State.syncIc (s : State) : State :=
  (s.each (allFin 8) (fun s g => if s.flag (IC_PRES_VALID g) && !s.stillPresented g then s.withdraw g else s)).syncOrphans

/-! ### Stop (R198, R200, R329) -/

/-- A group stopped at once: nothing it has not committed takes effect, and the distributor treats it as powered off. -/
def State.stopNow (s : State) (g : Group) : State :=
  let s1 := s.onCore g (fun c => { c with broken := true, inject := none, pause := none, stopDue := false, stepping := false, storeErrs := [], due := [] })
  let s2 := (((s1.put (LS_STAT_STATE g) lsStopped).putFlag (LS_STAT_WAIT g) false).putFlag (LS_DBG_HALTED g) false).putFlag
    (LS_DBG_HALT_PEND g) false
  (s2.withdraw g).syncOrphans

/-- A group stopped; during a re-admission pause, at its end (R200). -/
def State.stopGroup (s : State) (g : Group) : State :=
  if (s.core g).pause.isSome then s.onCore g (fun c => { c with stopDue := true, broken := true }) else s.stopNow g

/-! ### Restart (R146, R296, R338, R438) -/

/-- The registers of a group's watchdog at reset (R338). -/
def State.resetWd (s : State) (g : Group) : State :=
  (s.resetBlock (lsgBase g + 0x2000) (lsgBase g + 0x3000)).onCore g (fun c => { c with key1 := none, expired := none, key1Then := false, frzCapped := false })

/-- The Cone Monitor of a group at its restart: `CM_CTRL.GATE` and `CM_CONE_CFG` are kept (R351). -/
def State.resetCm (s : State) (g : Group) : State :=
  let gate := s.flag (CM_CTRL_GATE g)
  let s1 := (s.resetRange (lsgBase g + 0x3000) (lsgBase g + 0x3100)).resetRange (lsgBase g + 0x3200) (lsgBase g + 0x4000)
  s1.putFlag (CM_CTRL_GATE g) gate

/-- A group's interface at reset (R296): sources active on it become inactive, a presentation is withdrawn. -/
def State.resetIc (s : State) (g : Group) : State :=
  let s1 := s.each (List.range 512) (fun s i =>
    if (s.get (SRC_STAT_GACT i)).testBit g then s.put (SRC_STAT_GACT i) (withBits (s.get (SRC_STAT_GACT i)) g 1 0) else s)
  (s1.unpresent g).resetBlock (lsgBase g + 0x4000) (lsgBase g + 0x5000)

/-- The state of a group's copies at a restart; what belongs to its LS block is kept. -/
def Core.restart (c : Core) (entry : Word) (tt : Nat) : Core :=
  { pc := entry, startTt := tt, ejections := c.ejections, stestFn := c.stestFn, powering := c.powering, waited := c.waited }

/-- The regions of a group's MPU that a lattice error has disabled act again (R315). -/
def State.freshMpu (s : State) (g : Group) : State :=
  s.onProt (fun z => { z with mpuOff := s.prot.mpuOff.filter (fun x => x / 32 != g.val) })

/-- Everything of a group that a restart resets (R437). -/
def State.resetGroup (s : State) (g : Group) : State :=
  let s1 := (s.freshMpu g).onCore g (fun c => c.restart (s.rd (PM_GENTRY g) &&& 0xFFFFFFFC) s.tt)
  let s2 := ((s1.resetBlock (lsgBase g + 0x1000) (lsgBase g + 0x2000)).resetWd g).resetCm g
  (s2.resetIc g).veRestart g

/-- A group started: every copy that may take part does (R438). -/
def State.startGroup (s : State) (g : Group) : State :=
  let s1 := ((s.put (LS_STAT_ACTIVE g) (s.startCopies g)).put (LS_STAT_EJECTED g) 0).put (LS_STAT_STATE g) lsRunning
  (((s1.putFlag (LS_STAT_WAIT g) false).wr (LS_DBG g) 0).syncDegr g).syncOrphans

/-- A group restart (R438). -/
def State.restartGroup (s : State) (g : Group) : State :=
  (s.resetGroup g).startGroup g

/-! ### Craze records (R191) -/

/-- A craze record as R191 lays it out. -/
structure Craze where
  kind : Nat
  taking : Nat
  differ : Nat
  action : Nat
  pc : Nat := 0
  field : Nat := 0
  slot : Nat := 0
  syndrome : Nat := 0
  deriving DecidableEq, Repr

/-- The COPIES byte. -/
def Craze.copies (c : Craze) : Nat :=
  c.taking % 8 + c.differ % 8 * 8

/-- A craze record written. -/
def State.craze (s : State) (g : Group) (c : Craze) : State :=
  let b := natLe 8 s.fn ++ natLe 8 s.tt ++ natLe 1 g ++ natLe 1 c.kind ++ natLe 1 c.copies ++ natLe 1 c.action
    ++ natLe 4 c.pc ++ natLe 2 c.field ++ natLe 1 c.slot ++ [0] ++ natLe 4 c.syndrome
  let k := s.get (LS_CRAZE_HEAD_CNT g) % 16
  let s1 := s.each (List.range 8) (fun s j => s.wr (LS_CRAZE g k j) (BitVec.ofNat 32 (field b (4 * j) 4)))
  s1.bumpWrap (LS_CRAZE_HEAD_CNT g)

/-- The detail of the lockstep faults (R191). -/
def crazeDetail (g : Group) (differ : Nat) : Nat :=
  g.val + differ % 8 * 16

/-- A copy's counter of ejections. -/
def ejCnt (g : Group) (c : Fin 3) : Fld :=
  if c = 0 then LS_EJ_CNT_A_CNT g else if c = 1 then LS_EJ_CNT_B_CNT g else LS_EJ_CNT_C_CNT g

/-- Whether an ejection now retires a copy: its second-last counted ejection lies within 1,000 firings (R196). -/
def State.retires (s : State) (g : Group) (c : Fin 3) : Bool :=
  (s.core g).ejections.get c == 2 && decide (s.fn < s.rd64 (LS_EJ_FN_B g c) + 1000)

/-- An ejection counted and recorded (R196). -/
def State.countEject (s : State) (g : Group) (c : Fin 3) : State :=
  let s1 := (s.bump (ejCnt g c)).wr64 (LS_EJ_FN_B g c) (s.rd64 (LS_EJ_FN g c))
  (s1.wr64 (LS_EJ_FN g c) s.fn).onCore g (fun x => { x with ejections := alter x.ejections c (fun n => min (n + 1) 2) })

/-- A copy ejected, or retired (R190, R196): out of the group, with its craze record and its fault; an injected ejection
is not counted. `own` makes of the copies' state that of the ejected one. (DEDUCED, notes/assumptions/65.md) -/
def State.eject (s : State) (g : Group) (c : Fin 3) (z : Craze) (counted : Bool) (own : Copy → Copy) : State :=
  let bit := 2 ^ c.val
  let retire := counted && s.retires g c
  let s1 := s.put (LS_STAT_ACTIVE g) (s.get (LS_STAT_ACTIVE g) &&& (7 - bit))
  let s2 := if retire then (s1.put (LS_RETIRED_MAP g) (s.get (LS_RETIRED_MAP g) ||| bit)).put (LS_STAT_EJECTED g) (s.get (LS_STAT_EJECTED g) &&& (7 - bit))
    else s1.put (LS_STAT_EJECTED g) (s.get (LS_STAT_EJECTED g) ||| bit)
  let s3 := if counted then s2.countEject g c else s2
  let s3b := if retire then s3.dropCopies g bit else s3.holdCopy g c own
  let s4 := s3b.craze g { z with action := if retire then 1 else 0 }
  ((s4.syncDegr g).raise (if retire then F_LS_RETIRE else F_LS_EJECT) (crazeDetail g z.differ))

/-- The groups whose broadcast pending bit of a source a SETP has set. -/
def State.swOf (s : State) (i : Nat) : Nat :=
  (lookup s.swGroups i).getD 0

/-- The groups whose broadcast pending bit of a source a SETP has set, as a mask that replaces the old one.
(DEDUCED, notes/assumptions/79.md) -/
def State.setSw (s : State) (i m : Nat) : State :=
  { s with swGroups := setKey s.swGroups i m 0 }

/-- The source of an entry displaced by late arrival or not completed (R291, R297): pending again, as it was before its
delivery to this group; what the delivery did to `IC_RR`, and the bits of the other groups, stay (R288, R289).
(DEDUCED, notes/assumptions/78.md) -/
def State.undeliver (s : State) (g : Group) (e : EntryWindow) : State :=
  let old := e.stat.toNat
  let now := (s.rd (SRC_STAT e.src)).toNat
  let pend := now ||| (old &&& (0xC + 2 ^ (8 + g.val)))
  let s1 := s.wr (SRC_STAT e.src) (BitVec.ofNat 32 (withBits pend (16 + g.val) 1 (bitsOf old (16 + g.val) 1)))
  if old.testBit 3 && old.testBit (8 + g.val) then s1.setSw e.src (withBits (s1.swOf e.src) g.val 1 1) else s1

/-- An entry in progress, d to d + 10, is not completed where its group mismatches: its source stays pending (R278, R297).
(DEDUCED, notes/assumptions/78.md) -/
def State.breakEntry (s : State) (g : Group) : State :=
  match (s.core g).entry with
  | none => s
  | some e =>
    if (s.tt - e.tt) * 32 ≤ 10 * 25 then
      ((s.undeliver g e).put (IC_TAKEN_CNT_CNT g) (s.get (IC_TAKEN_CNT_CNT g) - 1)).onCore g (fun c => { c with entry := none })
    else s

/-- A mismatch without a majority (R198, R199): the group stops, and restarts at the next boundary. -/
def State.mismatchStop (s : State) (g : Group) (z : Craze) : State :=
  let s1 := ((s.breakEntry g).bump (LS_MISMATCH_CNT_CNT g)).craze g { z with action := if g.val = 0 then 3 else 2 }
  let s2 := s1.stopNow g
  (s2.onCore g (fun c => { c with restartDue := true })).raise
    (if g.val = 0 then F_LS_MISMATCH_KW else F_LS_MISMATCH_APP) (crazeDetail g z.differ)

end Sys2Proof.Machine
end

