-- ==== Sys2Proof/Machine/Interrupt.lean ====
section
/-! DEFINITION. The interrupt distributor: source events, routing, presentation, delivery, end of interrupt and wake (R282 to
R298). -/

namespace Sys2Proof.Machine

/-! ### The lines and the events of sources (R282, R284) -/

/-- A queue pair's state. -/
def State.hq (s : State) (q : Nat) : HostQueue :=
  (lookup s.host.queues q).getD {}

/-- A queue pair's state replaced by its image. -/
def State.onHq (s : State) (q : Nat) (f : HostQueue → HostQueue) : State :=
  { s with host := { s.host with queues := setKey s.host.queues q (f (s.hq q)) {} } }

/-- The line of a level source as its owner drives it (R96, R176, R330, R358). -/
def State.ownerLine (s : State) (i : Nat) : Bool :=
  if i < 48 then decide (i < s.part.lanes) && (s.rd (HL_ISR i) &&& s.rd (HL_IER i)) != 0
  else if 64 ≤ i ∧ i < 96 then (s.rd (PEO_ISR (i - 64)) &&& s.rd (PEO_IER (i - 64))) != 0
  else if 256 ≤ i ∧ i < 320 then
    (List.range 512).any (fun f => s.flag (FLT_CFG_IMPL f) && s.flag (FLT_STAT_NOTE f) && s.get (FLT_CFG_NSRC f) == i - 256)
  else if 320 ≤ i ∧ i < 384 then !(s.hq (i - 320)).inbox.isEmpty
  else false

/-- Whether a source's instance is present on the part (R4, R282). -/
def State.srcPresent (s : State) (i : Nat) : Bool :=
  srcReal i && (decide (48 ≤ i) || decide (i < s.part.lanes))
    && !(decide (192 ≤ i) && decide (i < 216) && decide (s.part.groups ≤ i % 8))
    && !(decide (384 ≤ i) && decide (i < 400) && decide (s.part.groups ≤ i % 8))
    && !(decide (96 ≤ i) && decide (i < 104) && decide (s.part.groups ≤ i % 8))

/-- An event or a SETP of a broadcast source (R289, R295): pending for every eligible target, and for one on which the
line of a level source is active only by a SETP (R284); an orphan where no target is eligible. -/
def State.bcastEvent (s : State) (i : Nat) (setp : Bool) : State :=
  let hit := (allFin 8).filter (fun (g : Group) => (s.get (SRC_CFG_TARGET i)).testBit g && s.eligible g)
  let takes := hit.filter (fun (g : Group) => setp || !srcLevel i || !(s.get (SRC_STAT_GACT i)).testBit g)
  let mark (n : Nat) : Nat := takes.foldl (fun a (g : Group) => withBits a g.val 1 1) n
  let s1 := s.put (SRC_STAT_GPEND i) (mark (s.get (SRC_STAT_GPEND i)))
  let s2 := if setp then s1.setSw i (mark (s.swOf i)) else s1
  (if hit.isEmpty && s.srcOn i then s2.countOrphan i else s2).syncOrphans

/-- `SRC_EDGE_EVENT` (R284, R289): the first event on its way reaches the distributor. -/
def execSrcEdgeEvent (s : State) : Host.Outcome State Fault Refusal :=
  .next (match s.srcIn with
  | [] => s
  | i :: rest =>
    let s1 := { s with srcIn := rest }
    if !s1.srcPresent i then s1
    else
      let s2 := s1.putFlag (SRC_STAT_EDGE i) true
      if s2.bcast i then s2.bcastEvent i false else s2.syncOrphans)

/-- `SRC_LEVEL_CHANGE` (R284, R289): a level source's line as its owner drives it now; broadcast, it is pending for a
group while its line is asserted, or a SETP made it so. -/
def execSrcLevelChange (i : Src) (s : State) : Host.Outcome State Fault Refusal :=
  .next (if !srcLevel i || !s.srcPresent i then s
  else
    let l := s.ownerLine i
    let rise := l && !s.flag (SRC_STAT_LINE i)
    let fall := !l && s.flag (SRC_STAT_LINE i)
    let s1 := s.putFlag (SRC_STAT_LINE i) l
    (if !s.bcast i then s1
    else if rise then s1.bcastEvent i false
    else if fall then s1.put (SRC_STAT_GPEND i) (s.get (SRC_STAT_GPEND i) &&& s.swOf i)
    else s1).syncIc)

/-- Whether a master may set a source pending (R298). -/
def maySetp (i : Nat) (m : Master) : Bool :=
  m.val = 0 || (decide (400 ≤ i) && decide (i < 448) && decide (m.val < 8))

/-- `SRC_SETP` (R284, R289). -/
def execSrcSetp (i : Src) (m : Master) (s : State) : Host.Outcome State Fault Refusal :=
  .next (s.portal m (SRC_CTRL i) (maySetp i m) (if !s.srcPresent i then s
  else
    let s1 := s.putFlag (SRC_STAT_SWPEND i) true
    if s1.bcast i then s1.bcastEvent i true else s1.syncOrphans))

/-- `SRC_CLRP` (R284, R289, R291). -/
def execSrcClrp (i : Src) (m : Master) (s : State) : Host.Outcome State Fault Refusal :=
  .next (s.portal m (SRC_CTRL i) (m == 0) (((((s.putFlag (SRC_STAT_EDGE i) false).putFlag (SRC_STAT_SWPEND i) false).put (SRC_STAT_GPEND i) 0).setSw i.val 0).syncIc))

/-! ### Routing and presentation (R286 to R291) -/

/-- A group's level L (R286). -/
def State.groupLevel (s : State) (g : Group) : Nat :=
  max (s.core g).prio.val (s.get (IC_THRESH_THRESH g))

/-- Of two groups the one that routing prefers: the lower level, then the first at or after `IC_RR` (R288). -/
def State.routesBefore (s : State) (a b : Group) : Bool :=
  let d (g : Group) := (g.val + 8 - s.get IC_RR_GROUP) % 8
  decide (s.groupLevel a < s.groupLevel b) || (s.groupLevel a == s.groupLevel b && decide (d a < d b))

/-- The group that a routed source goes to (R288). -/
def State.routeOf (s : State) (i : Nat) : Option Group :=
  let l := (allFin 8).filter (fun (g : Group) => (s.get (SRC_CFG_TARGET i)).testBit g && s.eligible g && s.canTake g i)
  l.foldl (fun best g => match best with
    | none => some g
    | some b => if s.routesBefore g b then some g else some b) none

/-- Whether a source is a candidate of a group (R290). -/
def State.candidate (s : State) (g : Group) (i : Nat) : Bool :=
  s.pendingFor i g && s.eligible g && s.canTake g i &&
    (if s.bcast i then !(s.get (SRC_STAT_GACT i)).testBit g
    else s.get (SRC_STAT_GACT i) == 0 &&
      ((s.get (SRC_STAT_GPRES i)).testBit g || (s.get (SRC_STAT_GPRES i) == 0 && s.routeOf i == some g)))

/-- The best of the sources that a test accepts: the highest priority, then the lowest number (R290). -/
def State.bestSource (s : State) (p : Nat → Bool) : Option Nat :=
  ((List.range 512).filter p).foldl (fun best i => match best with
    | none => some i
    | some b => if s.get (SRC_CFG_PRIO b) < s.get (SRC_CFG_PRIO i) then some i else some b) none

/-- A source presented to a group. -/
def State.present (s : State) (g : Group) (i : Nat) : State :=
  let s1 := s.unpresent g
  let s2 := s1.put (SRC_STAT_GPRES i) (withBits (s1.get (SRC_STAT_GPRES i)) g 1 1)
  ((s2.put (IC_PRES_SRC g) i).putFlag (IC_PRES_VALID g) true).put (IC_PRES_PRIO g) (s.get (SRC_CFG_PRIO i))

/-- `INTERRUPT_PRESENT` (R290, R291): the distributor presents its best candidate to a group. -/
def execInterruptPresent (g : Group) (s : State) : Host.Outcome State Fault Refusal :=
  let s1 := s.syncIc
  .next (match s1.bestSource (s1.candidate g) with
  | some i => s1.present g i
  | none => s1)

/-- A source delivered to a group (R284, R285, R288): `SRC_STAT` and `IC_RR`. (DEDUCED, notes/assumptions/78.md) -/
def State.deliver (s : State) (g : Group) (i : Nat) : State :=
  let s0 := (s.putFlag (SRC_STAT_EDGE i) false).putFlag (SRC_STAT_SWPEND i) false
  let s1 := if s.bcast i then
      (s0.put (SRC_STAT_GPEND i) (withBits (s.get (SRC_STAT_GPEND i)) g 1 0)).setSw i (withBits (s.swOf i) g.val 1 0)
    else s0.put IC_RR_GROUP ((g.val + 1) % 8)
  if s.flag (SRC_CFG_AEOI i) then s1 else s1.put (SRC_STAT_GACT i) (withBits (s1.get (SRC_STAT_GACT i)) g 1 1)

/-! ### End of interrupt and wake (R293, R294) -/

/-- `IC_EOI` (R293): a level source whose line is still asserted is pending again, broadcast too. -/
def execIcEoi (g : Group) (m : Master) (v : Word) (s : State) : Host.Outcome State Fault Refusal :=
  .next (s.portal m (IC_EOI g) (ownOr0 g m) (
    let i := v.toNat
    if i < 512 ∧ (s.get (SRC_STAT_GACT i)).testBit g then
      let s1 := s.put (SRC_STAT_GACT i) (withBits (s.get (SRC_STAT_GACT i)) g 1 0)
      let again := s.bcast i && srcLevel i && s.flag (SRC_STAT_LINE i) && (s.get (SRC_CFG_TARGET i)).testBit g
      (if again then s1.put (SRC_STAT_GPEND i) (withBits (s.get (SRC_STAT_GPEND i)) g 1 1) else s1).syncIc
    else s.bump (IC_EOI_BAD_CNT g)))

/-- Whether a wake condition holds for a group (R294). -/
def State.wakes (s : State) (g : Group) : Bool :=
  (List.range 512).any (fun i => s.pendingFor i g)

/-- `WAIT_WAKE` (R257, R294). (DEDUCED, notes/assumptions/78.md) -/
def execWaitWake (g : Group) (s : State) : Host.Outcome State Fault Refusal :=
  .next (if s.hasGroup g && s.flag (LS_STAT_WAIT g) && s.get (LS_STAT_STATE g) == lsRunning && s.wakes g then
    (s.putFlag (LS_STAT_WAIT g) false).bump (IC_WAKE_CNT_CNT g)
  else s)

end Sys2Proof.Machine
end

