-- ==== Sys2Proof/Machine/Vote.lean ====
section
/-! DEFINITION. The vote of a lockstep group: the records of its copies, their comparison, and what the outcome makes the
device do (R181 to R184, R190, R191, R198, R202). -/

namespace Sys2Proof.Machine

/-! ### The vote (R181 to R184, R190, R198, R202) -/

/-- The fields of a copy's records in the order of R182 and R183, each with its number and its commit slot. -/
def copyFields (r : CopyRecord) : List (Nat × Nat × BitVec 128) :=
  let row (base slot : Nat) (v : Vector (BitVec 128) 8) : List (Nat × Nat × BitVec 128) :=
    (List.range 8).map (fun i => (base + i, slot, v.get (toIx 8 i)))
  row 1 0 r.slot0 ++ row 1 1 r.slot1 ++ row 9 0 r.bus

/-- The first field in which two copies differ: its number, its slot and the low 32 bits of the difference.
(DEDUCED, notes/assumptions/65.md) -/
def firstDiff (a b : CopyRecord) : Nat × Nat × Nat :=
  match ((copyFields a).zip (copyFields b)).find? (fun e => e.1.2.2 ≠ e.2.2.2) with
  | some e => (e.1.1, e.1.2.1, (e.1.2.2 ^^^ e.2.2.2).toNat % 2 ^ 32)
  | none => (0, 0, 0)

/-- The PC of the first instruction that a copy commits in the slot. -/
def copyPc (r : CopyRecord) : Nat :=
  (if r.slot0.get 0 = 0 then r.slot1.get 1 else r.slot0.get 1).toNat % 2 ^ 32

/-- Whether a copy commits an instruction in the slot. -/
def copyCommits (r : CopyRecord) : Bool :=
  r.slot0.get 0 != 0 || r.slot1.get 0 != 0

/-- The records of a copy that an injection corrupts (R202): bit 0 of the GPR value of commit slot 0, or of its PC where
the slot writes no register. -/
def corruptCopy (r : CopyRecord) : CopyRecord :=
  let k : Fin 8 := if r.slot0.get 2 = 0 then 1 else 2
  { r with slot0 := alter r.slot0 k (fun x => x ^^^ 1) }

/-- The craze record of a difference between the value taken as right and another copy's.
(DEDUCED, notes/assumptions/65.md) -/
def crazeOf (good bad : CopyRecord) (taking differ : Nat) (injected : Bool) : Craze :=
  let d := firstDiff good bad
  { kind := if injected then 5 else if good.bus ≠ bad.bus then 1 else 0, taking := taking, differ := differ, action := 0,
    pc := copyPc good, field := d.1, slot := d.2.1, syndrome := d.2.2 }

/-- The outcome of a vote (R184): the copies agree; a majority, its craze record, and the minority copy with its
records; no majority. -/
inductive VoteOutcome where
  | agree
  | minority (z : Craze) (copy : Fin 3) (records : CopyRecord)
  | none (z : Craze)
  deriving DecidableEq, Repr

/-- The vote on the records of the copies that take part (R184). Without a majority, every copy differs and the kind is 2
(R191). (DEDUCED, notes/assumptions/65.md) -/
def vote (l : List (Fin 3 × CopyRecord)) (taking : Nat) (inj : Bool) : VoteOutcome :=
  let odd (good : CopyRecord) (e : Fin 3 × CopyRecord) : VoteOutcome := .minority (crazeOf good e.2 taking (2 ^ e.1.val) inj) e.1 e.2
  let split (x y : CopyRecord) : VoteOutcome := .none { crazeOf x y taking taking inj with kind := if inj then 5 else 2 }
  match l with
  | [(_, x), (_, y)] => if x = y then .agree else split x y
  | [(i, x), (j, y), (k, z)] =>
    if x = y ∧ y = z then .agree
    else if x = y then odd x (k, z)
    else if x = z then odd x (j, y)
    else if y = z then odd y (i, x)
    else split x y
  | _ => .agree

/-- The GPR field of a commit record (R182): the register's number above the 32-bit value; 0 where the slot writes none.
(DEDUCED, notes/assumptions/65.md) -/
def gprField (r : GReg) (v : Word) : BitVec 128 :=
  BitVec.ofNat 128 (r.toNat * 2 ^ 32 + v.toNat)

/-- A copy with what the GPR fields of its commit record say it wrote (R190). -/
def Copy.wrote (x : Copy) (r : CopyRecord) : Copy :=
  let put (x : Copy) (f : BitVec 128) : Copy :=
    let k := f.toNat / 2 ^ 32 % 32
    if k = 0 then x else { x with gpr := alter x.gpr (toIx 32 k) (fun _ => BitVec.ofNat 32 f.toNat) }
  put (put x (r.slot0.get 2)) (r.slot1.get 2)

/-- What a vote makes the device do (R184, R190, R198). (DEDUCED, notes/assumptions/65.md) -/
def State.applyVote (s : State) (g : Group) (v : VoteOutcome) (counted : Bool) : State :=
  match v with
  | .agree => s
  | .minority z c r => s.eject g c z counted (fun x => x.wrote r)
  | .none z => s.mismatchStop g z

/-- What the vote on an injected slot makes the device do (R202). (DEDUCED, notes/assumptions/67.md) -/
def State.applyInjected (s : State) (g : Group) (v : VoteOutcome) : State :=
  let s0 := s.onCore g (fun c => { c with inject := none })
  let differ := match v with | .agree => 0 | .minority z _ _ => z.differ | .none z => z.differ
  if s.mode = modeGlost then
    match v with
    | .agree => s0.raise F_LS_CMP_STEST g
    | .minority z _ _ => (s0.craze g { z with action := 4 }).raise F_LS_INJECT (crazeDetail g differ)
    | .none z => (s0.craze g { z with action := 4 }).raise F_LS_INJECT (crazeDetail g differ)
  else (s0.applyVote g v false).raise F_LS_INJECT (crazeDetail g differ)

/-- The records of a slot voted (R184, R202): an injection that is pending corrupts a copy that commits. The Boolean
answers whether the slot goes on: its bus record issues, and its commits stand. (DEDUCED, notes/assumptions/65.md) -/
def State.voteSlot (s : State) (g : Group) (part : List (Fin 3 × CopyRecord)) : State × Bool :=
  let hit : Fin 3 × CopyRecord → Bool := fun e => (s.core g).inject == some e.1 && copyCommits e.2
  let inj := part.any hit
  let v := vote (part.map (fun e => if hit e then (e.1, corruptCopy e.2) else e)) (s.get (LS_STAT_ACTIVE g)) inj
  let go := (inj && s.mode == modeGlost) || (match v with | .none _ => false | _ => true)
  (if inj then s.applyInjected g v else s.applyVote g v true, go)

/-- The copies that take part, each with its records. -/
def State.taking (s : State) (g : Group) (r : Fin 3 → CopyRecord) : List (Fin 3 × CopyRecord) :=
  ((allFin 3).filter (fun k => (s.get (LS_STAT_ACTIVE g)).testBit k.val)).map (fun k => (k, r k))

/-- The records that every copy makes of an instruction that commits alone in its slot (R181, R182): its PC, and the
register that it writes; the fields that no injection changes are left empty. -/
def commitRecord (pc : Word) (wrote : Option (GReg × Word)) : CopyRecord :=
  let slot : Vector (BitVec 128) 8 := Vector.ofFn (fun (k : Fin 8) =>
    if k = 0 then 1 else if k = 1 then BitVec.ofNat 128 pc.toNat
    else if k = 2 then (match wrote with | some (r, v) => gprField r v | none => 0) else 0)
  { slot0 := slot, slot1 := Vector.replicate 8 0, bus := Vector.replicate 8 0 }

/-- The vote on the slot in which an instruction commits (R202): `t` holds its effects and `s` the state before it. The
copies agree but for a pending injection; where that leaves no majority, the effects are not made. -/
def State.votedSlot (t s : State) (g : Group) (wrote : Option (GReg × Word)) : State :=
  if (s.core g).inject.isNone || (t.core g).inject.isNone then t
  else
    let r := commitRecord (s.core g).pc wrote
    let (t1, go) := t.voteSlot g (t.taking g (fun _ => r))
    if go then t1 else (s.voteSlot g (s.taking g (fun _ => r))).1

end Sys2Proof.Machine
end

