-- ==== Sys2Proof/Machine/Lockstep.lean ====
section
/-! DEFINITION. Lockstep: the comparison of a slot, re-admission, the comparator self-test, the controls of a group, power-gating
and debug halt (R178 to R207). -/

namespace Sys2Proof.Machine

/-! ### The comparison of a slot (R181 to R184) -/

/-- The bus record of a slot leaves the group (R181): it is that of the copies that agree. -/
def State.issueBus (s : State) (g : Group) (bus : Vector (BitVec 128) 8) : State :=
  if bus = Vector.replicate 8 0 then s else s.onCore g (fun c => { c with issued := some (s.tt, bus) })

/-- `LOCKSTEP_COMPARE` (R181 to R184): the records of a slot are voted, and the bus record that wins issues.
(DEDUCED, notes/assumptions/65.md) -/
def execLockstepCompare (g : Group) (a b c : CopyRecord) (s : State) : Host.Outcome State Fault Refusal :=
  let part := s.taking g (fun k => if k = 0 then a else if k = 1 then b else c)
  .next (if !s.hasGroup g || s.get (LS_STAT_STATE g) == lsStopped then s
  else
    let (t, go) := s.voteSlot g part
    let won := part.find? (fun e => (t.get (LS_STAT_ACTIVE g)).testBit e.1.val)
    if go then (match won with | some (_, r) => t.issueBus g r.bus | none => t) else t)

/-! ### Re-admission (R193 to R195) -/

/-- The copies of a group that are due to be re-admitted at a boundary (R193, R189, R197). -/
def State.readmitDue (s : State) (g : Group) : Nat :=
  let out := (if s.flag (LS_CFG_READMIT g) then s.get (LS_STAT_EJECTED g) else 0) ||| (s.core g).readmit
  if s.hasGroup g && s.get (LS_STAT_STATE g) == lsRunning && !s.poweredOff g then
    out &&& s.startCopies g &&& (7 ^^^ s.get (LS_STAT_ACTIVE g))
  else 0

/-- The pause for re-admission begins (R194). -/
def State.startReadmit (s : State) (g : Group) : State :=
  let m := s.readmitDue g
  if m = 0 then s
  else (s.onCore g (fun c => { c with pause := some ⟨m, s.tt⟩ })).put (LS_STAT_STATE g) lsPaused

/-- The copies that take part of those that could: without TMR, copy C stops once A and B are there (R189). -/
def State.dropC (s : State) (g : Group) (m : Nat) : Nat :=
  if !s.flag (LS_CFG_TMR g) && m &&& 3 == 3 then 3 else m

/-- The pause ends after a number of CCLK: the group issues again, or stops where a stop was requested (R200).
(DEDUCED, notes/assumptions/66.md) -/
def State.endPause (s : State) (g : Group) (cclk : Nat) : State :=
  let c := s.core g
  let s1 := (s.put (LS_PAUSE_LAST_CCLK g) cclk).raiseTo (LS_PAUSE_MAX_CCLK g) cclk
  let s2 := (s1.onCore g (fun c => { c with pause := none, stopDue := false })).put (LS_STAT_STATE g) lsRunning
  if c.stopDue then s2.stopNow g else s2

/-- The lowest copy of a mask. -/
def lowestCopy (m : Nat) : Fin 3 :=
  if m.testBit 0 then 0 else if m.testBit 1 then 1 else 2

/-- The copy's state differs from the majority's: it stays out, and this counts as an ejection (R195).
(DEDUCED, notes/assumptions/66.md) -/
def State.readmitFail (s : State) (g : Group) (m : Nat) : State :=
  let c := lowestCopy m
  let bit := 2 ^ c.val
  let retire := s.retires g c
  let s1 := s.put (LS_STAT_EJECTED g) (s.get (LS_STAT_EJECTED g) ||| bit)
  let s2 := if retire then (s1.put (LS_RETIRED_MAP g) (s.get (LS_RETIRED_MAP g) ||| bit)).put (LS_STAT_EJECTED g) (s1.get (LS_STAT_EJECTED g) &&& (7 - bit))
    else s1
  let z : Craze := { kind := 3, taking := s.get (LS_STAT_ACTIVE g) ||| bit, differ := bit, action := if retire then 1 else 0 }
  let s3 := (((s2.countEject g c).craze g z).syncDegr g).raise F_LS_READMIT_FAIL (crazeDetail g bit)
  if retire then s3.raise F_LS_RETIRE (crazeDetail g bit) else s3

/-- `READMISSION_COMPLETE` (R194, R195): the pause ends. -/
def execReadmissionComplete (g : Group) (r : ReadmitRun) (s : State) : Host.Outcome State Fault Refusal :=
  .next (match (s.core g).pause with
  | none => s
  | some p =>
    let len := if 320 < r.drain then 320 else r.drain + 1072
    if (s.tt - p.start) * 32 < len * 25 then s
    else if 320 < r.drain then (s.bump (LS_READMIT_DEFER_CNT g)).endPause g len
    else if !r.majorityEqual then
      let taking := s.get (LS_STAT_ACTIVE g)
      (s.endPause g len).mismatchStop g { kind := 3, taking := taking, differ := taking, action := 0 }
    else
      let s1 := (s.onCore g (fun c => { c with pred := {}, readmit := c.readmit &&& (7 ^^^ p.copies) })).dropCopies g p.copies
      if !r.copyEqual then (s1.readmitFail g p.copies).endPause g len
      else
        let s2 := s1.put (LS_STAT_ACTIVE g) (s.dropC g (s.get (LS_STAT_ACTIVE g) ||| p.copies))
        let s3 := s2.put (LS_STAT_EJECTED g) (s.get (LS_STAT_EJECTED g) &&& (7 ^^^ p.copies))
        ((s3.bump (LS_READMIT_CNT_CNT g)).syncDegr g).endPause g len)

/-! ### The comparator self-test (R201) -/

/-- `COMPARATOR_SELF_TEST` (R201): a test that falls due ends; a unit and a half that fail are named. -/
def execComparatorSelfTest (g : Group) (fail : Option (Fin 3 × Fin 2)) (s : State) : Host.Outcome State Fault Refusal :=
  .next (if !s.hasGroup g || s.fn == 0 || s.fn % s.get (LS_STEST_PER_FIRINGS g) != 0 || (s.core g).stestFn == s.fn then s
  else
    let s1 := s.onCore g (fun c => { c with stestFn := s.fn })
    match fail with
    | none => s1.bump (LS_STEST_CNT_CNT g)
    | some (u, h) =>
      let s2 := ((s1.putFlag (LS_STEST_STAT_FAIL g) true).put (LS_STEST_STAT_UNIT g) u).put (LS_STEST_STAT_HALF g) h
      (s2.craze g { kind := 4, taking := s.get (LS_STAT_ACTIVE g), differ := 0, action := 4 }).raise F_LS_CMP_STEST g)

/-! ### Controls (R189, R197, R200, R202) -/

/-- A write to the LS block by the master that may make it. -/
def State.lsWrite (s : State) (m : Master) (off : Nat) (f : State → State) : State :=
  s.portal m off (m == 0) (f s)

/-- A write refused with `LS_STAT.CFG_REJ`. -/
def State.lsReject (s : State) (g : Group) : State :=
  s.putFlag (LS_STAT_CFG_REJ g) true

/-- Whether the device is in STANDBY or MAINTENANCE. -/
def State.quietMode (s : State) : Bool :=
  s.mode == modeStandby || s.mode == modeMaintenance

/-- `LS_CFG_WRITE` (R189). -/
def execLsCfgWrite (g : Group) (m : Master) (v : Word) (s : State) : Host.Outcome State Fault Refusal :=
  .next (s.lsWrite m (LS_CFG g) (fun s =>
    let tmr := v.toNat.testBit 0
    let change := tmr != (s.latest (LS_CFG g)).toNat.testBit 0
    if (tmr && !s.part.copyC) || (change && !s.quietMode) then s.lsReject g
    else s.stageBy m (LS_CFG g) (v &&& 3)))

/-- `LS_CFG` commits (R189): copy C comes in through re-admission, or stops. (DEDUCED, notes/assumptions/66.md) -/
def State.commitLsCfg (s : State) (g : Group) (v : Word) : State :=
  let old := s.flag (LS_CFG_TMR g)
  let s1 := s.wr (LS_CFG g) (v &&& 3)
  let new := s1.flag (LS_CFG_TMR g)
  if !old && new then s1.onCore g (fun c => { c with readmit := c.readmit ||| 4 })
  else if old && !new && s1.get (LS_STAT_ACTIVE g) &&& 3 == 3 then
    let s2 := ((s1.dropCopies g 4).put (LS_STAT_ACTIVE g) 3).put (LS_STAT_EJECTED g) (s1.get (LS_STAT_EJECTED g) &&& 3)
    (s2.onCore g (fun c => { c with readmit := c.readmit &&& 3 })).syncDegr g
  else s1

/-- `LS_RESTART` (R200): staged. -/
def execLsRestart (g : Group) (m : Master) (s : State) : Host.Outcome State Fault Refusal :=
  .next (s.lsWrite m (LS_CTRL g) (fun s => s.stageBy m (LS_CTRL g) 1))

/-- `LS_STOP` (R200): staged. -/
def execLsStop (g : Group) (m : Master) (s : State) : Host.Outcome State Fault Refusal :=
  .next (s.lsWrite m (LS_CTRL g) (fun s => s.stageBy m (LS_CTRL g) 2))

/-- `LS_CTRL` commits (R200, R205): STOP prevails; a RESTART of a group without power is refused.
(DEDUCED, notes/assumptions/66.md) -/
def State.commitLsCtrl (s : State) (g : Group) (v : Word) : State :=
  if v.toNat.testBit 1 then s.stopGroup g
  else if v.toNat.testBit 0 then
    if s.poweredOff g || !s.flag (LS_PWR_ON_ACK g) then s.lsReject g else s.restartGroup g
  else s

/-- `LS_INJECT` (R202): a write of `LS_CTRL` with INJECT. (DEDUCED, notes/assumptions/67.md) -/
def execLsInject (g : Group) (m : Master) (v : Word) (s : State) : Host.Outcome State Fault Refusal :=
  .next (s.lsWrite m (LS_CTRL g) (fun s =>
    let k := bitsOf v.toNat 4 2
    let st := s.get (LS_STAT_STATE g)
    if (s.mode != modeGlost && s.mode != modeMaintenance) || k == 3 || !(s.get (LS_STAT_ACTIVE g)).testBit k
        || st == lsStopped || st == lsHalted || s.poweredOff g || (s.core g).inject.isSome then s.lsReject g
    else (s.put (LS_CTRL_COPY g) k).onCore g (fun c => { c with inject := some (toIx 3 k) })))

/-- `LS_UNRETIRE` (R197): a write of `LS_CTRL` with UNRETIRE. -/
def execLsUnretire (g : Group) (m : Master) (v : Word) (s : State) : Host.Outcome State Fault Refusal :=
  .next (s.lsWrite m (LS_CTRL g) (fun s =>
    let k := bitsOf v.toNat 4 2
    if s.mode != modeMaintenance || k == 3 || !s.fitted.testBit k || !(s.get (LS_RETIRED_MAP g)).testBit k then s.lsReject g
    else
      let s1 := s.put (LS_CTRL_COPY g) k
      let bit := 2 ^ k
      let s2 := ((s1.put (LS_RETIRED_MAP g) (s.get (LS_RETIRED_MAP g) &&& (7 - bit))).wr64 (LS_EJ_FN g k) 0).wr64 (LS_EJ_FN_B g k) 0
      let due := bit &&& s2.startCopies g
      let s3 := s2.onCore g (fun c => { c with ejections := c.ejections.set (toIx 3 k) 0, readmit := c.readmit ||| due })
      (s3.put (LS_STAT_EJECTED g) (s.get (LS_STAT_EJECTED g) ||| due)).syncDegr g))

/-! ### Power-gating (R205) -/

/-- Whether a group may be powered off. -/
def State.mayPowerOff (s : State) (g : Group) : Bool :=
  s.quietMode && s.get (LS_STAT_STATE g) == lsStopped && s.get (EW_G_USED_N g) == 0
    && !(List.range 32).any (fun n => s.get (PEO_CFG_MODE n) != 0 && s.get (PEO_CFG_OWNER n) == g.val)

/-- `LS_POWER_OFF` (R205): staged. (DEDUCED, notes/assumptions/66.md) -/
def execLsPowerOff (g : Group) (m : Master) (s : State) : Host.Outcome State Fault Refusal :=
  .next (s.lsWrite m (LS_PWR g) (fun s =>
    if g.val = 0 ∨ !s.mayPowerOff g then s.lsReject g else s.stageBy m (LS_PWR g) 1))

/-- `LS_POWER_ON` (R205): staged. -/
def execLsPowerOn (g : Group) (m : Master) (s : State) : Host.Outcome State Fault Refusal :=
  .next (s.lsWrite m (LS_PWR g) (fun s => if g.val = 0 then s.lsReject g else s.stageBy m (LS_PWR g) 0))

/-- A group's scratchpads and copies lose their contents (R205). (DEDUCED, notes/assumptions/66.md) -/
def State.loseGroup (s : State) (g : Group) : State :=
  let s0 := ((s.dropBytes (ispBase g) (ispBase g + 2 * spSize)).freshMpu g).onCore g (fun c => c.restart c.pc s.tt)
  let s1 := (s0.resetBlock (lsgBase g + 0x1000) (lsgBase g + 0x2000)).resetWd g
  s1.onProt (fun x => { x with lat := s1.prot.lat.filter (fun e => decide (e.1 < ispBase g) || decide (ispBase g + 2 * spSize ≤ e.1)) })

/-- `LS_PWR` commits (R205). -/
def State.commitLsPwr (s : State) (g : Group) (v : Word) : State :=
  let off := v.toNat.testBit 0
  let s1 := s.putFlag (LS_PWR_OFF g) off
  if off && !s.flag (LS_PWR_OFF g) then
    let s2 := (s1.putFlag (LS_PWR_ON_ACK g) false).loseGroup g
    ((s2.put (LS_STAT_ACTIVE g) 0).onCore g (fun c => { c with powering := none })).syncIc
  else if !off && s.flag (LS_PWR_OFF g) then s1.onCore g (fun c => { c with powering := some s.tt })
  else s1

/-- `LS_POWER_GOOD` (R205). -/
def execLsPowerGood (g : Group) (s : State) : Host.Outcome State Fault Refusal :=
  .next (match (s.core g).powering with
  | none => s
  | some _ => (s.onCore g (fun c => { c with powering := none })).putFlag (LS_PWR_ON_ACK g) true)

/-- `LS_PWR_FAIL` (R205): power has not become good within 100 µs. -/
def execLsPwrFail (g : Group) (s : State) : Host.Outcome State Fault Refusal :=
  .next (match (s.core g).powering with
  | none => s
  | some t => if t + 100 * usKclk ≤ s.tt then (s.onCore g (fun c => { c with powering := none })).raise F_LS_PWR_FAIL g else s)

/-! ### Debug halt (R203) -/

/-- `DEBUG_HALT_TAKEN` (R203): a requested halt takes effect where an interrupt could be taken. -/
def execDebugHaltTaken (g : Group) (s : State) : Host.Outcome State Fault Refusal :=
  .next (if s.hasGroup g && s.flag (LS_DBG_HALT_PEND g) && s.get (LS_STAT_STATE g) == lsRunning && (s.core g).delay.isNone then
    (((s.putFlag (LS_DBG_HALT_PEND g) false).putFlag (LS_DBG_HALTED g) true).put (LS_STAT_STATE g) lsHalted).syncIc
  else s)

end Sys2Proof.Machine
end

