-- ==== Sys2Proof/Machine/Flash.lean ====
section
/-! DEFINITION. The code flash, the HBM's scrubber and temperature, power-fail sealing, and the closing of coils
(R384 to R391, R397 to R400). -/

namespace Sys2Proof.Machine

/-! ### Code flash (R386 to R388) -/

/-- Whether an offset of the flash lies in the active half (R386). -/
def State.inActiveHalf (s : State) (off : Nat) : Bool :=
  decide (s.activeBase ≤ off) && decide (off < s.activeBase + 0x2000000)

/-- Whether every bit that a line must take lies at 1 or is 0 already (R387). -/
def programmable (old new : Bytes) : Bool :=
  (old.zip new).all (fun p => p.1 &&& p.2 == p.2)

/-- Lattice errors of a range of words gone, its check bits written afresh. -/
def State.freshChecks (s : State) (lo hi : Nat) : State :=
  s.onProt (fun x => { x with lat := s.prot.lat.filter (fun e => decide (e.1 < lo) || decide (hi ≤ e.1)) })

/-- An operation begun (R387). Its effect on the array stands from here: a read of the plane waits for its end
(R388). (DESIGN CHOICE, notes/assumptions/103.md) -/
def State.beginFlash (s : State) (o : FlashOp) : State :=
  (((s.onArch (fun x => { x with flash := some o })).putFlag CF_STAT_BUSY true).put CF_RESULT_RESULT 0).freshChecks
    o.addr (o.addr + o.size)

/-- An erase of the sector that holds `CF_ADDR` (R387); the freeze of R343 starts afresh. -/
def State.flashErase (s : State) : State :=
  let off := s.get CF_ADDR_ADDR * 128
  if s.arch.flash.isSome then s.put CF_RESULT_RESULT 4
  else if s.inActiveHalf off then s.put CF_RESULT_RESULT 1
  else
    let a := off / 65536 * 65536
    let s1 := (s.put (WD_FRZ_US 0) 0).onCore 0 (fun c => { c with frzCapped := false })
    (s1.beginFlash ⟨true, a, s.tt⟩).dropBytes a (a + 65536)

/-- A program of the line at `CF_ADDR` with 128 bytes at an address (R387). -/
def State.flashProgram (s : State) (src : Nat) : State :=
  let off := s.get CF_ADDR_ADDR * 128
  if s.arch.flash.isSome then s.put CF_RESULT_RESULT 4
  else if s.inActiveHalf off then s.put CF_RESULT_RESULT 1
  else
    let (s1, d, _) := s.busRead 0 src 128
    if !programmable (s1.bytes off 128) d then s1.put CF_RESULT_RESULT 3
    else (s1.beginFlash ⟨false, off, s.tt⟩).setBytes off d

/-- `CF_ERASE` (R387): `CF_CMD` written with OP 1. -/
def execCfErase (m : Master) (s : State) : Host.Outcome State Fault Refusal :=
  .next (s.portal m CF_CMD (m == 0) (s.flashErase))

/-- `CF_PROGRAM` (R387): `CF_CMD` written with OP 2. -/
def execCfProgram (m : Master) (s : State) : Host.Outcome State Fault Refusal :=
  .next (s.portal m CF_CMD (m == 0) (s.flashProgram (s.rd64 CF_SRC % 2 ^ 40 / 128 * 128)))

/-- The operation that runs ends (R387): an erase is counted; a program whose read-back differs leaves its line torn. -/
def State.finishFlash (s : State) (ok : Bool) : State :=
  match s.arch.flash with
  | none => s
  | some o =>
    if o.erase then (s.bump CF_ERASE_CNT_CNT).endFlash o 0
    else if ok then s.endFlash o 0
    else ((s.tearFlash o.addr o.size).endFlash o 2).raise F_CF_PROG_FAIL o.addr

/-! ### HBM (R384, R385, R400) -/

/-- The blocks that the HBM scrubber reads, and those of usable HBM (R385). -/
def dmBlocks : Nat := 482344960
def dmUsable : Nat := 469762048

/-- A device-reserved structure loses content (R384): which records of the open segment an archive block held is free.
(DEDUCED, notes/assumptions/80.md) -/
def State.loseReserved (s : State) (l : ReservedLoss) : State :=
  let s0 := s.bump DM_UNC_CNT_CNT
  match l with
  | .staging n =>
    (s0.when (decide (n < s.te.staged.length)) (fun s =>
      (s.onTe (fun t => { t with staged := t.staged.eraseIdx n })).bump TE_LATE_CNT_CNT)).raise F_DM_UNC_RSV 0
  | .slot k => (s0.onVe (fun v => { v with kpend := v.kpend ++ [(k.val, none)] })).raise F_DM_UNC_RSV 1
  | .archive =>
    let (k, s1) := s0.draw
    ((s1.onArch (fun a => { a with lost := true, coils := a.coils.map (fun c => c.lose (Config.bufferLoss k c.seq)) })).raise
      F_DM_UNC_RSV 2).syncArch

/-- `DM_SCRUB_READ` (R385): the scrubber reads the next 64-byte block; in the reserved range the command says what it
finds. (DEDUCED, notes/assumptions/36.md; DEDUCED, notes/assumptions/80.md) -/
def execDmScrubRead (loss : Option ReservedLoss) (s : State) : Host.Outcome State Fault Refusal :=
  .next (if !s.flag DM_SCRUB_PER_EN then s
  else
    let b := s.prot.hbmScrub.next
    let s1 :=
      if b < dmUsable then
        s.each (List.range 8) (fun s i =>
          let a := hbmBase + 64 * b + 8 * i
          let (s', w) := s.readStacked a
          if w.isNone then s'.raise F_DM_UNC 0 else s')
      else match loss with
        | some l => s.loseReserved l
        | none => s
    let last := decide (dmBlocks ≤ b + 1)
    let s2 := s1.onProt (fun x => { x with hbmScrub := { s1.prot.hbmScrub with next := if last then 0 else b + 1 } })
    if last then s2.bump DM_SCRUB_PASS_CNT else s2)

/-- `DM_TEMP` (R400): the stack reaches a temperature. -/
def execDmTemp (t : Nat) (s : State) : Host.Outcome State Fault Refusal :=
  let was := s.get DM_STAT_TEMP
  let s1 := s.put DM_STAT_TEMP (min t 255)
  .next (if 95 < t ∧ was ≤ 95 then s1.raise F_DM_TEMP t else s1)

/-! ### Power-fail sealing (R397, R399) -/

/-- `PWRFAIL_FALL` (R397): the filtered PWRFAIL_N has fallen: AR_PWRFAIL, hand-offs refused, running jobs end with
DEADLINE, an operation of the flash abandoned, sealing begun; the ball fell 1 µs before. Under RST_N low there is no
sealing (R481). (DESIGN CHOICE, notes/assumptions/88.md; DEDUCED, notes/assumptions/105.md) -/
def execPwrfailFall (s : State) : Host.Outcome State Fault Refusal :=
  .next (if s.arch.low || s.sag.rstNLow then s
  else
    let s1 := (s.onArch (fun a => { a with low := true, refuse := true, highSince := none, pfStart := s.tt - usKclk, pfDone := none })).raise
      F_AR_PWRFAIL 0
    let s2 := s1.each (List.range 64) (fun s t => if (s.running t).isSome then s.deadline t else s)
    s2.abandonFlash.putFlag AR_STAT_PF_ACTIVE true)

/-- Every segment that waits in NAND. -/
def State.programAll (s : State) (fuel : Nat) : State :=
  match fuel with
  | 0 => s
  | fuel + 1 => s.programSegment.programAll fuel

/-- `PF_SEAL_DONE` (R397): the buffered data and the seal record of the open segment are in NAND.
(DEDUCED, notes/assumptions/105.md) -/
def execPfSealDone (s : State) : Host.Outcome State Fault Refusal :=
  .next (if !s.flag AR_STAT_PF_ACTIVE then s
  else
    let s1 := s.sealSegment s.fn true
    let s2 := s1.programAll s1.arch.segs.length
    let s3 := (s2.putFlag AR_STAT_PF_ACTIVE false).putFlag AR_STAT_PF_DONE true
    let s4 := s3.put AR_PF_LAST_US (min ((s.tt - s.arch.pfStart) / usKclk) 65535)
    (s4.onArch (fun a => { a with pfDone := some s.tt })).raiseSrc 468)

/-- `PWRFAIL_RETURN_HIGH` (R397): the filtered PWRFAIL_N is high again. -/
def execPwrfailReturnHigh (s : State) : Host.Outcome State Fault Refusal :=
  .next (if s.arch.low then s.onArch (fun a => { a with low := false, highSince := some s.tt }) else s)

/-- `PWRFAIL_REARM` (R397): the input has been high for 10 ms since PF_DONE and its return: hand-offs are accepted
again. -/
def execPwrfailRearm (s : State) : Host.Outcome State Fault Refusal :=
  .next (match s.arch.pfDone, s.arch.highSince with
    | some d, some h =>
      if s.arch.refuse && decide (max d h + 10 * msKclk ≤ s.tt) then s.onArch (fun a => { a with refuse := false }) else s
    | _, _ => s)

/-! ### Closing of coils (R391) -/

/-- Whether a track of a domain with its start in a span is OPEN, CLOSED or DECIDED. -/
def State.spanBusy (s : State) (d : Nat) (lo : Option Int) (hi : Int) : Bool :=
  s.te.live.any (fun id =>
    let t := s.track id
    let st := s.trackSt id
    decide (trkOpen ≤ st) && decide (st ≤ trkDecided) && t.dom == d && decide (t.start < hi)
      && (match lo with | some l => decide (l ≤ t.start) | none => true))

/-- Whether the horizon of a domain exceeds the start of the coil after a position, and no track of the span is
pending. (DEDUCED, notes/assumptions/47.md) -/
def State.spanDone (s : State) (d : Nat) (lo : Option Int) : Bool :=
  match s.nextStart d lo, s.te.hzn.toList.getD d none with
  | some n, some h => decide (n < h) && !s.spanBusy d lo n
  | _, _ => false

/-- Whether a coil closes at this boundary. An automatic coil has the span below the first mark of every enabled domain,
or is replaced by a later one (notes/assumptions/47.md). (DEDUCED, notes/assumptions/47.md) -/
def State.coilDone (s : State) (c : Coil) : Bool :=
  match c.dom with
  | some d => s.spanDone d (some c.start)
  | none =>
    let doms := (allFin 4).filter (fun (d : Dom) => s.domOn d)
    s.arch.coils.any (fun x => x.isOpen && x.dom.isNone && decide (c.seq < x.seq))
      || (!doms.isEmpty && doms.all (fun d => s.spanDone d.val none))

/-- The coils that close at a boundary (R391). -/
def State.closeCoils (s : State) : State :=
  s.each (s.arch.coils.filter (fun c => c.isOpen && s.coilDone c)) (fun s c => s.closeCoil c.seq)

end Sys2Proof.Machine
end

