-- ==== Sys2Proof/Machine/Objects.lean ====
section
/-! DEFINITION. Free values over the state's own types: how the objects of a twin's transfer are laid out as bytes, which
the spec does not give (R453). -/

namespace Sys2Proof.Config

open Sys2Proof.Machine

/-- The Track Engine's close-queue and decision state as bytes, and read from bytes.
(DESIGN CHOICE, notes/assumptions/112.md) -/
opaque encodeTracks : Tracks → Bytes
opaque decodeTracks : Bytes → List Tracks

/-- The repeat histories as bytes, and read from bytes. (DESIGN CHOICE, notes/assumptions/112.md) -/
opaque encodeHistory : Vector (List RepeatEntry) 4 → Bytes
opaque decodeHistory : Bytes → List (List RepeatEntry)

/-- The wheel's contents as bytes, and read from bytes. (DESIGN CHOICE, notes/assumptions/112.md) -/
opaque encodeWheel : Wheel → Bytes
opaque decodeWheel : Bytes → List Wheel

/-- The Verify Engine's deferred pool and slot contents as bytes, and read from bytes.
(DESIGN CHOICE, notes/assumptions/112.md) -/
opaque encodeVerify : List Job → List (Nat × KSlot) → Bytes
opaque decodeVerify : Bytes → List Job × List (Nat × KSlot)

end Sys2Proof.Config
end

