-- ==== Sys2Proof/Machine/Twin.lean ====
section
/-! DEFINITION. The twin link (R443 to R454): roles, boundaries taken from the leader, placement, digests, takeover and
joining. What is forwarded is staged in Machine/HostStage.lean. -/

namespace Sys2Proof.Machine

/-- The roles of R444. -/
def roleLeader : Nat := 0
def roleFollower : Nat := 1
def roleJoining : Nat := 2
def roleAlone : Nat := 3

/-- The device's role. -/
def State.role (s : State) : Nat :=
  s.get TW_STAT_ROLE

/-- Whether the levels of TWIN_ACT are high (R445). -/
def State.twinAct (s : State) : Bool :=
  s.role == roleLeader && decide (modeStandby ≤ s.mode) && decide (s.mode ≤ modeMaintenance) && !s.flag SSC_STAT_DEV_X
    && !s.flag SSC_STAT_DEV_Y && !s.outs.ioLost

/-- The role changed: SRC[450]. -/
def State.setRole (s : State) (r : Nat) : State :=
  if s.role = r then s else (s.put TW_STAT_ROLE r).raiseSrc 450

/-- Cause 3 of DEGRADED brought in line (R436). -/
def State.syncTwin (s : State) : State :=
  s.degradeWhen 3 (s.flag TW_CFG_EN && !s.flag TW_STAT_INSTEP)

/-- INSTEP changed: SRC[451]. -/
def State.setInstep (s : State) (b : Bool) : State :=
  (if s.flag TW_STAT_INSTEP = b then s else (s.putFlag TW_STAT_INSTEP b).raiseSrc 451).syncTwin

/-- The device leaves step (R451, R448): a follower or joiner becomes ALONE, a leader stays LEADER. -/
def State.leaveStep (s : State) : State :=
  let s1 := (s.setInstep false).onTw (fun t => { t with
    from_ := none, due := [], own := [], peer := [], parts := [], equal := 0, fire := none, fireLost := false, join := none })
  if s1.role = roleLeader then s1 else s1.setRole roleAlone

/-- A commit of `TW_CFG` (R444): with EN = 0 the device is ALONE. -/
def State.commitTwCfg (s : State) (v : Word) : State :=
  let s1 := s.wr TW_CFG (v &&& 0xFF03)
  if s1.flag TW_CFG_EN then s1.syncTwin
  else ((s1.leaveStep.setRole roleAlone).onTw (fun t => { t with leadDue := false, takeover := false, ceding := none, xfer := none, hello := false })).syncTwin

/-! ### Messages (R446) -/

/-- The peer lane that carries messages: the first that is ACTIVE and SYNCED. -/
def State.peerLane (s : State) : Option Lane :=
  (allFin 48).find? (fun (n : Lane) => s.isPeer n && s.laneSt n == laneActive && s.flag (HL_STAT_SYNCED n))

/-- A message to the peer. -/
def State.sendPeer (s : State) (typ : Nat) (content : Bytes) : State :=
  match s.peerLane with
  | some n => s.send n typ 0 content
  | none => s

/-- Bytes 0 to 31 of the identity digest. -/
def State.idDigest (s : State) : Bytes :=
  (List.range 8).flatMap (fun j => natLe 4 (s.rd (SG_ID_DIGEST j)).toNat)

/-- A TW_CTRL message (R446). -/
def State.sendTwCtrl (s : State) (op fn : Nat) : State :=
  s.sendPeer 0x24 (natLe 1 op ++ [0, 0, 0] ++ natLe 8 fn ++ natLe 2 (s.get TW_EPOCH_EPOCH) ++ natLe 2 (s.get SG_EPOCH_MAX_EPOCH)
    ++ s.idDigest ++ List.replicate 4 0)

/-- A TW_CTRL message with an OP that a peer lane has received, if it is the lane's oldest (R446). -/
def State.twCtrl (s : State) (n : Lane) (op : Nat) : Option Bytes :=
  if !s.flag TW_CFG_EN || !s.isPeer n then none
  else match s.rxFront n 0x24 with
    | some m => if field m.bytes 8 1 = op then some m.bytes else none
    | none => none

/-- A TW_CTRL message taken: SRC[453], and the peer's `SG_EPOCH_MAX`. -/
def State.takeTwCtrl (s : State) (n : Lane) (b : Bytes) : State :=
  ((s.rxPop n).put TW_EPOCH_PEER_MAX (field b 22 2)).raiseSrc 453

/-! ### Leadership (R444, R445, R452) -/

/-- The device becomes LEADER (R447, R452): SET_PORT on every ACTIVE head lane; at a takeover the capture numbers go on
past those the heads reported. Port 0 of a head goes to the device with PRIMARY = 1 (R443). -/
def State.becomeLeader (s : State) (takeover : Bool) : State :=
  let s1 := (s.setRole roleLeader).onTw (fun t => { t with leadDue := false, takeover := false, fire := none, fireLost := false })
  let heads := (allFin 48).filter (fun (n : Lane) => !s.isPeer n && s.laneSt n == laneActive)
  let s2 := s1.each heads (fun s n => s.sendCtrl n 6 0 (natLe 1 (if s.flag TW_CFG_PRIMARY then 0 else 1)))
  if !takeover then s2
  else
    let s3 := s2.each (allFin 48) (fun s (n : Lane) => if s.isPeer n then s else s.onLane n (fun l => { l with capNo := l.headCap + 32 }))
    let s4 := ((s3.onTw (fun t => { t with takeFn := some s.fn })).raise F_TW_TAKEOVER 0).bump TW_TAKE_CNT_CNT
    (s4.setInstep false).onTw (fun t => { t with from_ := none, due := [], own := [], peer := [], parts := [], equal := 0 })

/-- t0 of a boundary: a device about to lead samples TWIN_PEER (R445), and a leader that has relinquished becomes ALONE
(R452). (DEDUCED, notes/assumptions/113.md) -/
def State.leadAtBoundary (s : State) (peer : Bool) : State :=
  let s0 := s.onTw (fun t => { t with peerAct := peer })
  let s1 := match s0.tw.ceding with
    | some f => if f ≤ s0.fn then ((s0.leaveStep.setRole roleAlone).onTw (fun t => { t with ceding := none, xfer := none })) else s0
    | none => s0
  if !s1.tw.leadDue || !s1.flag TW_CFG_EN then s1
  else if peer then s1.raise F_TW_ROLE_CONFLICT 0
  else s1.becomeLeader s1.tw.takeover

/-- A RELINQUISH sent, naming the next boundary (R452); with no follower in step the leader keeps its role (R454). -/
def State.relinquish (s : State) : State :=
  if s.role ≠ roleLeader then s
  else
    let s1 := s.sendTwCtrl 4 (s.fn + 1)
    if s.flag TW_STAT_INSTEP then s1.onTw (fun t => { t with ceding := some (s.fn + 1) }) else s1

/-- What an entry to SAFE or LOCKDOWN owes the peer (R452, R454). (DEDUCED, notes/assumptions/113.md) -/
def State.twinFlush (s : State) : State :=
  if !s.tw.owed then s
  else
    let s1 := s.onTw (fun t => { t with owed := false })
    if !s1.flag TW_CFG_EN then s1
    else if s1.role = roleLeader then s1.relinquish
    else if s1.role = roleFollower then (s1.sendTwCtrl 6 s1.fn).leaveStep
    else s1

/-- `TW_RELINQUISH` (R452, R454): a follower in step takes over at its next boundary. -/
def execTwRelinquish (n : Lane) (s : State) : Host.Outcome State Fault Refusal :=
  .next (match s.twCtrl n 4 with
  | none => s
  | some b =>
    let s1 := s.takeTwCtrl n b
    if s1.role = roleFollower ∧ s1.flag TW_STAT_INSTEP then s1.onTw (fun t => { t with leadDue := true, takeover := true }) else s1)

/-- `TW_LEAVE` (R454): the follower has entered SAFE; the leader leaves step. -/
def execTwLeave (n : Lane) (s : State) : Host.Outcome State Fault Refusal :=
  .next (match s.twCtrl n 6 with
  | none => s
  | some b =>
    let s1 := s.takeTwCtrl n b
    if s1.role = roleLeader then (s1.leaveStep.onTw (fun t => { t with xfer := none })).raise F_TW_PEER_LOST 0 else s1)

/-- `TW_CMD_ACK` (R449): the follower has staged a forwarded chain. -/
def execTwCmdAck (n : Lane) (s : State) : Host.Outcome State Fault Refusal :=
  .next (match s.twCtrl n 5 with
  | none => s
  | some b => s.takeTwCtrl n b)

/-! ### Roles by HELLO (R444) -/

/-- The device becomes JOINING (R444, R453), in STANDBY: its line applications are stopped.
(DEDUCED, notes/assumptions/111.md) -/
def State.startJoin (s : State) (n : Lane) : State :=
  if s.mode ≠ modeStandby then s
  else
    let apps := (allFin 8).filter (fun (g : Group) => decide (0 < g.val) && s.groupRuns g)
    let s1 := s.each apps (fun s g => s.stopGroup g)
    (s1.setRole roleJoining).onTw (fun t => { t with
      join := some { start := s.tt, lane := n, apps := apps.map (fun g => g.val) }, failTt := none, leadDue := false, takeover := false })

/-- The leader's answer to a peer that joins: JOIN_ACK naming its next boundary, and the transfer from there (R453).
(DEDUCED, notes/assumptions/111.md) -/
def State.ackJoin (s : State) (n : Lane) : State :=
  (s.sendTwCtrl 2 (s.fn + 1)).onTw (fun t => { t with xfer := some { lane := n, at_ := s.fn + 1, last := s.tt }, from_ := none, equal := 0 })

/-- The big-endian number of bytes. -/
def beNat (b : Bytes) : Nat :=
  leNat b.reverse

/-- `TW_HELLO` (R444): a HELLO is sent on a peer lane that is ACTIVE and SYNCED, or the peer's HELLO decides the roles.
(DEDUCED, notes/assumptions/111.md) -/
def execTwHello (n : Lane) (leader primary : Bool) (s : State) : Host.Outcome State Fault Refusal :=
  .next (if !s.flag TW_CFG_EN || !s.isPeer n || s.laneSt n != laneActive || !s.flag (HL_STAT_SYNCED n) then s
  else match s.twCtrl n 1 with
  | none => if s.tw.hello then s else (s.sendTwCtrl 1 s.fn).onTw (fun t => { t with hello := true })
  | some b =>
    let s0 := s.takeTwCtrl n b
    let s1 := if s.tw.hello then s0 else s0.sendTwCtrl 1 s0.fn
    let s2 := s1.onTw (fun t => { t with hello := false })
    if s2.role = roleLeader then
      if leader then s2.raise F_TW_ROLE_CONFLICT 0 else s2.ackJoin n
    else if s2.role ≠ roleAlone then s2
    else if leader then s2.startJoin n
    else
      let mine := s2.flag TW_CFG_PRIMARY
      let lead (s : State) : State := s.onTw (fun t => { t with leadDue := true, takeover := false })
      if mine && !primary then lead s2
      else if !mine && primary then s2.startJoin n
      else
        let s3 := s2.raise F_TW_ROLE_CONFLICT 0
        if beNat s.idDigest < beNat ((b.drop 24).take 32) then lead s3 else s3.startJoin n)

/-! ### Boundaries of the follower (R448) -/

/-- Whether the device takes its boundaries from the leader: a follower, or a joiner from J (R448, R453). -/
def State.follows (s : State) : Bool :=
  s.role == roleFollower || (s.role == roleJoining && s.tw.join.any (fun j => j.reached))

/-- Whether a TW_FIRE's firing is the one at which a joiner begins to follow, or one after it (R453). -/
def State.joinsAt (s : State) (fn : Nat) : Bool :=
  s.role == roleJoining && s.tw.join.any (fun j => j.at_.any (fun a => decide (a ≤ fn)))

/-- `TW_FIRE_RECEIVE` (R448, R453): the boundary falls due with the leader's FN; one less than FMIN − 2 µs after the
previous boundary is ignored. -/
def execTwFireReceive (n : Lane) (s : State) : Host.Outcome State Fault Refusal :=
  .next (if !s.isPeer n then s
  else match s.rxFront n 0x20 with
  | none => s
  | some m =>
    let s1 := s.rxPop n
    let fn := field m.bytes 8 8
    let early := decide (s.tt + 2 * usKclk < s.rd64 TB_BTT + s.get TB_FMIN_FMIN)
    if early || !(s.follows || s.joinsAt fn) then s1
    else s1.onTw (fun t => { t with fire := some ⟨fn, field m.bytes 24 1, field m.bytes 25 1⟩ }))

/-- `TW_FIRE_LOST` (R448): a candidate has had no TW_FIRE for `TW_FIRE_TO` µs.
(DEDUCED, notes/assumptions/113.md; DESIGN CHOICE, notes/assumptions/122.md) -/
def execTwFireLost (s : State) : Host.Outcome State Fault Refusal :=
  let wait := s.get TW_FIRE_TO_US * usKclk
  let cand : Bool := match s.kiln.src.head? with
    | some c => decide (c.tt + wait ≤ s.tt)
    | none => decide (s.rd64 TB_BTT + s.get TB_FMAX_FMAX + wait ≤ s.tt)
  .next (if s.follows ∧ s.tw.fire.isNone ∧ !s.tw.fireLost ∧ s.kiln.running ∧ cand then
      ((s.onTw (fun t => { t with fireLost := true })).raise F_TW_FIRE_LOST 0).bump TW_FIRE_LOST_CNT_CNT
    else s)

/-! ### Placement (R446, R448) -/

/-- The entries of a TW_PLACE message. -/
def placesOf (b : Bytes) : List Place :=
  (List.range (field b 16 2)).map (fun i =>
    ⟨field b 8 8, field b (24 + 16 * i) 1, field b (25 + 16 * i) 1, field b (26 + 16 * i) 2, signedOf 64 (field b (32 + 16 * i) 8)⟩)

/-- The seal of a batch on a follower, once its placement is whole (R448). -/
def State.sealPlaced (s : State) (f : Nat) : State :=
  if s.flag TE_CTRL_EN ∧ s.tw.placed.contains f ∧ f + 2 ≤ s.fn ∧ s.te.sealedTo < f then
    (s.sealBatch f).onTw (fun t => { t with
      places := t.places.filter (fun p => decide (f < p.batch + 64)), placed := t.placed.filter (fun x => decide (f < x)) })
  else s

/-- `TW_PLACE_RECEIVE` (R448). -/
def execTwPlaceReceive (n : Lane) (s : State) : Host.Outcome State Fault Refusal :=
  .next (if !s.isPeer n then s
  else match s.rxFront n 0x22 with
  | none => s
  | some m =>
    let f := field m.bytes 8 8
    let s1 := s.rxPop n
    if s.role ≠ roleFollower then s1
    else
      let s2 := s1.onTw (fun t => { t with places := t.places ++ placesOf m.bytes })
      if (field m.bytes 18 1).testBit 0 then (s2.onTw (fun t => { t with placed := t.placed ++ [f] })).sealPlaced f else s2)

/-- `TW_PLACE_LATE` (R448): 20 µs after t0 + 260 KCLK without the last TW_PLACE of batch FN − 2; the device leaves step
and places the batch itself. (DEDUCED, notes/assumptions/113.md) -/
def execTwPlaceLate (s : State) : Host.Outcome State Fault Refusal :=
  let f := s.fn - 2
  .next (if s.role = roleFollower ∧ s.flag TE_CTRL_EN ∧ 3 ≤ s.fn ∧ s.te.sealedTo < f ∧ !s.tw.placed.contains f
      ∧ s.rd64 TB_BTT + 260 + 20 * usKclk ≤ s.tt then
      ((s.raise F_TW_PLACE_LATE f).leaveStep).sealBatch f
    else s)

/-- The captures of a batch as a leader places them (R448): lane, RESULT of R32, CAP_ID and position. -/
def State.capturesOf (s : State) (f : Nat) : List Place :=
  (sortBy (fun a b => lexLe (recKey a) (recKey b)) (s.batchRecords f)).foldl (fun l r =>
    if l.any (fun p => p.lane == r.lane && p.capId == r.capId) then l
    else
      let c := s.t2p (toIx 4 r.dom) r.tt
      l ++ [⟨f, r.lane, c.code, r.capId, c.out⟩]) []

/-- One TW_PLACE message. -/
def State.sendPlace (s : State) (f : Nat) (l : List Place) (last : Bool) : State :=
  s.sendPeer 0x22 (natLe 8 f ++ natLe 2 l.length ++ [if last then 1 else 0] ++ List.replicate 5 0
    ++ l.flatMap (fun p => natLe 1 p.lane ++ natLe 1 p.result ++ natLe 2 p.capId ++ List.replicate 4 0 ++ natLe 8 (unsignedOf 64 p.pos))
    ++ List.replicate 4 0)

/-- The TW_PLACE messages of a batch, at most 574 captures in each. -/
def State.sendPlaces (s : State) (fuel f : Nat) (l : List Place) : State :=
  match fuel with
  | 0 => s
  | fuel + 1 =>
    if l.length ≤ 574 then s.sendPlace f l true
    else (s.sendPlace f (l.take 574) false).sendPlaces fuel f (l.drop 574)

/-- The batch seal of a boundary by role (R99, R448). -/
def State.sealByRole (s : State) : State :=
  if s.role = roleFollower then s.sealPlaced (s.fn - 2)
  else if s.role = roleLeader ∧ s.flag TE_CTRL_EN ∧ 3 ≤ s.fn then
    let l := s.capturesOf (s.fn - 2)
    (s.sealDue).sendPlaces (l.length / 574 + 1) (s.fn - 2) l
  else s.sealDue

/-! ### Digests (R450, R451) -/

/-- The digest of the firing before, closed at t0 of a boundary, where it is compared; and what the next one gathers.
(DEDUCED, notes/assumptions/114.md) -/
def State.closePart (s : State) : State :=
  let x := s.fn - 1
  let wanted := match s.tw.from_ with | some y => decide (y ≤ x) | none => false
  let part : DigestPart := ⟨x, s.tw.epoch, s.tw.results, s.wheel.inserts, s.tw.tags, s.tt + 480⟩
  let s1 := s.onTw (fun t => { t with
    parts := if wanted then t.parts ++ [part] else t.parts, due := if wanted then t.due ++ [(x, s.tt)] else t.due,
    tags := [], results := [], epoch := s.get TW_EPOCH_EPOCH })
  s1.onWheel (fun w => { w with inserts := [] })

/-- Whether a batch is still to be completed. -/
def State.batchOpen (s : State) (f : Nat) : Bool :=
  s.flag TE_CTRL_EN && decide (1 ≤ f) && (s.te.batches.any (fun b => b.fn == f) || decide (s.te.sealedTo < f)
    || (match s.te.app with | some a => a.batch.fn == f | none => false))

/-- The digest of a firing in format 1 (R450). (DEDUCED, notes/assumptions/114.md) -/
def State.digestOf (s : State) (p : DigestPart) : Bytes :=
  let batch := match (if 3 ≤ p.fn then lookup (s.te.hashes.reverse) (p.fn - 2) else none) with
    | some h => natLe 8 (p.fn - 2) ++ h
    | none => List.replicate 72 0
  sha512 (natLe 8 p.fn ++ natLe 2 p.epoch ++ batch ++ p.results
    ++ (List.range 8).flatMap (fun g => (p.inserts.filter (fun i => i.1 == g)).flatMap (fun i => i.2))
    ++ p.tags.flatMap (fun t => natLe 4 t))

/-- The registers of a digest written. -/
def State.wrDigest (s : State) (reg : Nat → Nat) (b : Bytes) : State :=
  s.each (List.range 16) (fun s j => s.wr (reg j) (BitVec.ofNat 32 (field b (4 * j) 4)))

/-- INSTEP once enough consecutive digests are equal (R453). -/
def State.converge (s : State) : State :=
  let s1 := s.onTw (fun t => { t with equal := t.equal + 1 })
  if !s.flag TW_STAT_INSTEP && decide (s.get TW_CFG_CONVERGE ≤ s1.tw.equal) then s1.setInstep true else s1

/-- Divergence (R451, R454): while a join converges it restarts from its first step. -/
def State.diverge (s : State) (fn : Nat) : State :=
  let s1 := ((s.raise F_TW_DIVERGE fn).bump TW_DIV_CNT_CNT).raiseSrc 449
  if s.flag TW_STAT_INSTEP then s1.leaveStep
  else if s1.role = roleLeader then
    let s2 := s1.leaveStep
    match s2.peerLane with
    | some n => s2.ackJoin n
    | none => s2
  else
    let apps := (allFin 8).filter (fun (g : Group) => decide (0 < g.val) && s1.groupRuns g)
    let lane := ((s1.peerLane).map (fun (n : Lane) => n.val)).getD 0
    ((s1.leaveStep.each apps (fun s g => s.stopGroup g)).setRole roleJoining).onTw (fun t => { t with
      join := some { start := s.tt, lane := lane, apps := apps.map (fun g => g.val) } })

/-- The two digests of a firing compared when both are held (R451). -/
def State.compareDigests (s : State) (fn : Nat) : State :=
  match lookup s.tw.own fn, lookup s.tw.peer fn with
  | some a, some b =>
    let s1 := ((s.wr64 TW_CMP_FN fn).wrDigest TW_DIG_OWN a).wrDigest TW_DIG_PEER b
    let s2 := s1.onTw (fun t => { t with
      own := t.own.filter (fun e => decide (fn < e.1)), peer := t.peer.filter (fun e => decide (fn < e.1)),
      due := t.due.filter (fun e => e.1 != fn) })
    if a = b then ((s2.put TW_MISS_RUN_N 0).raiseSrc 448).converge else s2.diverge fn
  | _, _ => s

/-- `TW_DIGEST_FINALISE` (R450): at the later of t0 + 480 KCLK and the completion of batch X − 2.
(DEDUCED, notes/assumptions/114.md) -/
def execTwDigestFinalise (s : State) : Host.Outcome State Fault Refusal :=
  .next (match s.tw.parts with
  | [] => s
  | p :: rest =>
    if s.tt < p.due ∨ s.batchOpen (p.fn - 2) then s
    else
      let d := s.digestOf p
      let flags := (if s.flag TW_STAT_INSTEP then 1 else 0) + (if s.mode = modeSafe then 2 else 0)
      let s1 := s.sendPeer 0x21 (natLe 8 p.fn ++ natLe 2 p.epoch ++ natLe 1 s.role ++ natLe 1 flags ++ natLe 2 1 ++ [0, 0] ++ d
        ++ List.replicate 4 0)
      (s1.onTw (fun t => { t with parts := rest, own := putKey t.own p.fn d })).compareDigests p.fn)

/-- `TW_DIGEST_RECEIVE` (R451). -/
def execTwDigestReceive (n : Lane) (s : State) : Host.Outcome State Fault Refusal :=
  .next (if !s.isPeer n then s
  else match s.rxFront n 0x21 with
  | none => s
  | some m =>
    let fn := field m.bytes 8 8
    ((s.rxPop n).onTw (fun t => { t with
      peer := if t.from_.isSome then putKey t.peer fn ((m.bytes.drop 24).take 64) else t.peer })).compareDigests fn)

/-- `TW_DIGEST_MISSING` (R451): the peer's digest of the oldest firing awaited has not arrived in time; the third in a
row makes a leader leave step and a follower take over. -/
def execTwDigestMissing (s : State) : Host.Outcome State Fault Refusal :=
  .next (match s.tw.due with
  | [] => s
  | (x, t0) :: rest =>
    if s.tt ≤ t0 + 480 + s.get TW_DIG_TO_US * usKclk ∨ (lookup s.tw.peer x).isSome then s
    else
      let s1 := (s.bump TW_MISS_RUN_N).onTw (fun t => { t with due := rest, equal := 0 })
      if s1.get TW_MISS_RUN_N ≠ 3 then s1
      else
        let s2 := s1.raise F_TW_PEER_LOST 0
        if s2.role = roleLeader then s2.leaveStep
        else (s2.setInstep false).onTw (fun t => { t with leadDue := true, takeover := true }))

/-! ### Joining (R453) -/

/-- `TW_JOIN_ACK` (R453): J and the leader's epoch. -/
def execTwJoinAck (n : Lane) (s : State) : Host.Outcome State Fault Refusal :=
  .next (match s.twCtrl n 2, s.tw.join with
  | some b, some j =>
    let s1 := s.takeTwCtrl n b
    if s.role ≠ roleJoining then s1
    else
      let e := field b 20 2
      s1.onTw (fun t => { t with join := some { j with
        lane := n, epoch := e, at_ := if e ≤ s.get SG_EPOCH_MAX_EPOCH then some (field b 12 8) else none } })
  | some b, none => s.takeTwCtrl n b
  | none, _ => s)

/-- A join ended in failure (R453): the device stays ALONE. -/
def State.joinFail (s : State) (reason : Nat) : State :=
  (((s.raise F_TW_JOIN_FAIL reason).raiseSrc 454).leaveStep).onTw (fun t => { t with failTt := some s.tt })

/-- `TW_JOIN_FAIL` (R453): the leader's epoch is above this device's, the transfer has taken 60 s, or 1,024 firings have
passed after Y without INSTEP. -/
def execTwJoinFail (why : JoinFail) (s : State) : Host.Outcome State Fault Refusal :=
  .next (match why, s.tw.join with
  | .epoch, some j => if s.role = roleJoining ∧ s.get SG_EPOCH_MAX_EPOCH < j.epoch then s.joinFail 1 else s
  | .timeout, some j => if s.role = roleJoining ∧ j.start + 60 * sKclk ≤ s.tt then s.joinFail 3 else s
  | .noStep, _ => if s.role = roleFollower ∧ !s.flag TW_STAT_INSTEP ∧ s.tw.joinY + 1024 ≤ s.fn then s.joinFail 4 else s
  | _, none => s)

/-- `TW_JOIN_RETRY` (R453): 1 s after a failed join, from its first step. -/
def execTwJoinRetry (s : State) : Host.Outcome State Fault Refusal :=
  .next (match s.tw.failTt, s.peerLane with
  | some t, some n =>
    if s.role = roleAlone ∧ s.flag TW_CFG_EN ∧ t + sKclk ≤ s.tt then ((s.startJoin n).sendTwCtrl 1 s.fn) else s
  | _, _ => s)

/-! ### Transfer (R453) -/

/-- The contents of an object as it is sent. (DESIGN CHOICE, notes/assumptions/112.md) -/
def State.objectBytes (s : State) (k : Nat) : Bytes :=
  match k with
  | 0 => s.decoded trackBase (s.part.tracks * 32)
  | 1 => Config.encodeHistory s.te.history
  | 2 => Config.encodeTracks s.te
  | 3 => Config.encodeWheel s.wheel
  | 4 => Config.encodeVerify s.ve.pool s.ve.kslots
  | _ =>
    let w := k - 5
    if s.flag (TW_WIN_CTRL_EN w) then s.decoded (s.rd64 (TW_WIN_BASE w) % 2 ^ 40) (s.get (TW_WIN_SIZE_KIB4 w) * 4096) else []

/-- The next fragment that a transfer owes: object, LOG, offset and bytes. First every object, then what has changed
since. (DESIGN CHOICE, notes/assumptions/112.md) -/
def State.nextFragment (s : State) (x : Transfer) : Option (Nat × Bool × Nat × Bytes) :=
  let got (k : Nat) : Bytes := (lookup x.sent k).getD []
  match (List.range 9).find? (fun k => decide ((got k).length < (s.objectBytes k).length)) with
  | some k => some (k, false, (got k).length, ((s.objectBytes k).drop (got k).length).take 8192)
  | none =>
    (List.range 9).findSome? (fun k =>
      let now := s.objectBytes k
      ((List.range (divUp now.length 8192)).find? (fun i => decide ((now.drop (8192 * i)).take 8192 ≠ ((got k).drop (8192 * i)).take 8192))).map
        (fun i => (k, true, 8192 * i, (now.drop (8192 * i)).take 8192)))

/-- Bytes put into an image at an offset. -/
def patch (img : Bytes) (ofs : Nat) (b : Bytes) : Bytes :=
  (img ++ List.replicate (ofs - img.length) 0).take ofs ++ b ++ img.drop (ofs + b.length)

/-- `TW_XFER_SEND` (R453): the next fragment at no more than `TW_XFER_RATE`, and in the end XFER_DONE, which names the
boundary after the next. (DEDUCED, notes/assumptions/111.md) -/
def execTwXferSend (s : State) : Host.Outcome State Fault Refusal :=
  .next (match s.tw.xfer with
  | none => s
  | some x =>
    if s.role ≠ roleLeader ∨ s.fn < x.at_ ∨ s.tt * s.get TW_XFER_RATE_MBS < x.last * s.get TW_XFER_RATE_MBS + x.size * 1250 then s
    else match s.nextFragment x with
    | some (k, log, ofs, d) =>
      let s1 := s.sendPeer 0x25 (natLe 1 k ++ [if log then 1 else 0] ++ [0, 0] ++ natLe 4 ofs ++ natLe 8 s.fn ++ d
        ++ List.replicate ((8 - d.length % 8) % 8 + 4) 0)
      s1.onTw (fun t => { t with
        xfer := some { x with sent := putKey x.sent k (patch ((lookup x.sent k).getD []) ofs d), last := s.tt, size := d.length } })
    | none =>
      let y := s.fn + 2
      (s.sendTwCtrl 3 y).onTw (fun t => { t with xfer := none, from_ := some y, equal := 0 }))

/-- `TW_XFER_RECEIVE` (R453): a fragment applied. The objects whose layout the spec does not give are kept as images until
Y. -/
def execTwXferReceive (n : Lane) (s : State) : Host.Outcome State Fault Refusal :=
  .next (if !s.isPeer n then s
  else match s.rxFront n 0x25, s.tw.join with
  | some m, some j =>
    let s1 := s.rxPop n
    let k := field m.bytes 8 1
    let ofs := field m.bytes 12 4
    let d := (m.bytes.drop 24).take (m.bytes.length - 32)
    if s.role ≠ roleJoining ∨ j.at_.isNone then s1
    else if k = 0 then (s1.store (trackBase + ofs) d).1
    else if 5 ≤ k ∧ k ≤ 8 then (s1.store (s.rd64 (TW_WIN_BASE (k - 5)) % 2 ^ 40 + ofs) d).1
    else if k ≤ 4 then s1.onTw (fun t => { t with
      join := some { j with images := putKey j.images k (patch ((lookup j.images k).getD []) ofs d) } })
    else s1
  | some _, none => s.rxPop n
  | none, _ => s)

/-- `TW_XFER_DONE` (R453): Y, and the leader's mode. -/
def execTwXferDone (n : Lane) (mode : Fin 8) (s : State) : Host.Outcome State Fault Refusal :=
  .next (match s.twCtrl n 3, s.tw.join with
  | some b, some j => (s.takeTwCtrl n b).onTw (fun t => { t with join := some { j with done := some (field b 12 8, mode.val) } })
  | some b, none => s.takeTwCtrl n b
  | none, _ => s)

/-- The objects that a joiner takes over at Y. (DEDUCED, notes/assumptions/111.md) -/
def State.installObjects (s : State) (images : List (Nat × Bytes)) : State :=
  let img (k : Nat) : Bytes := (lookup images k).getD []
  let s1 := match Config.decodeTracks (img 2) with
    | t :: _ => s.onTe (fun x => { x with
        decs := t.decs, decsClosed := t.decsClosed, adminDoms := t.adminDoms, unpub := t.unpub, aux := t.aux, sealedIds := t.sealedIds,
        cols := t.cols, cqNext := t.cqNext, hzn := t.hzn, presetFn := t.presetFn, sealedTo := t.sealedTo,
        batches := [], app := none })
    | [] => s
  let h := Config.decodeHistory (img 1)
  let s2 := s1.onTe (fun x => { x with history := Vector.ofFn (fun i => h.getD i.val []) })
  let s3 := match Config.decodeWheel (img 3) with
    | w :: _ => s2.onWheel (fun x => { x with slots := w.slots, fates := w.fates, seq := w.seq, late := w.late })
    | [] => s2
  let v := Config.decodeVerify (img 4)
  let s4 := s3.onVe (fun x => { x with pool := v.1, kslots := v.2 })
  s4.onTe (fun x => { x with live := numbersWhere s.part.tracks (fun id => s4.trackSt id != trkFree) })

/-- RUN entered, which shows as DEGRADED while a cause of R436 holds (R435). -/
def State.enterRun (s : State) : State :=
  s.enterMode (if s.get PM_MODE_DEGR = 0 then modeRun else modeDegraded)

/-- Whether the lifecycle permits RUN (R402, R435). -/
def State.runAllowed (s : State) : Bool :=
  s.lifecycle = lcProvisioned || s.lifecycle = lcDeployed

/-- Boundary Y of a joiner (R453): it becomes FOLLOWER, restarts its line applications and takes the leader's mode; the
join is complete (R435), SRC[454]. (DEDUCED, notes/assumptions/111.md) -/
def State.completeJoin (s : State) : State :=
  match s.tw.join with
  | none => s
  | some j =>
    match j.done with
    | none => s
    | some (y, m) =>
      if s.fn < y ∨ s.role ≠ roleJoining then s
      else
        let s1 := ((s.installObjects j.images).setRole roleFollower).raiseSrc 454
        let s2 := s1.onTw (fun t => { t with join := none, joinY := y, from_ := some y, equal := 0 })
        let s3 := s2.each ((allFin 8).filter (fun (g : Group) => j.apps.contains g.val)) (fun s g => s.restartGroup g)
        if s3.mode ≠ modeStandby then s3
        else if (m = modeRun ∨ m = modeDegraded) ∧ s3.runAllowed then s3.syncTwin.enterRun
        else if m = modeMaintenance then s3.enterMode modeMaintenance
        else s3

/-! ### TT at J (R453) -/

/-- A TT moved by the offset. -/
def shiftTt (k : Int) (t : Nat) : Nat :=
  (Int.ofNat t + k).toNat

/-- The TTs that a lane holds, moved by the offset. -/
def LaneState.shift (k : Int) (l : LaneState) : LaneState :=
  let f := shiftTt k
  let fr (m : RxMsg) : RxMsg := { m with tt := f m.tt }
  { l with
    since := f l.since, part := l.part.map fr, rx := l.rx.map fr, unc := l.unc.map f, verTt := l.verTt.map f, hbTt := l.hbTt.map f,
    txEnd := shiftTt (7 * k) l.txEnd,
    hbRx := f l.hbRx, hbOld := (l.hbOld.1, f l.hbOld.2), syncTt := l.syncTt.map f,
    syncs := l.syncs.map (fun (x : SyncSent) => { x with t1 := shiftTt (k * 256) x.t1 }),
    caps := l.caps.map (fun (x : Capture) => { x with tt := f x.tt }),
    fcaps := l.fcaps.map (fun (x : Capture) => { x with tt := f x.tt }),
    fills := l.fills.map (fun (x : CropFill) => { x with since := f x.since }), credTt := f l.credTt,
    mailbox := l.mailbox.map (fun x => (x.1, f x.2)), own := l.own.map (fun x => (x.1, f x.2)),
    chal := l.chal.map (fun (c : Challenge) => { c with sent := f c.sent, resp := c.resp.map fr }) }

/-- The TTs that a domain holds, its histories among them, moved by the offset. -/
def DomState.shift (k : Int) (d : DomState) : DomState :=
  let f := shiftTt k
  { d with ett := d.ett.map f, hist := d.hist.map (fun e => (f e.1, e.2)), origin := f d.origin, moves := d.moves.map (fun e => (f e.1, e.2)) }

/-- The TTs that a pulse holds, moved by the offset. -/
def Pulse.shift (k : Int) (p : Pulse) : Pulse :=
  match p with
  | .time e => .time (shiftTt k e)
  | .pos c u cap => .pos c u (cap.map (shiftTt k))

/-- TT and every stamp that a running time is measured from moved by the offset: the times that run do not jump.
(DEDUCED, notes/assumptions/111.md) -/
def State.shiftTimes (s : State) (k : Int) : State :=
  let f := shiftTt k
  { s with
    tt := f s.tt,
    fcuIn := s.fcuIn.map (fun (x : FaultIn) => { x with tt := f x.tt }),
    kiln := { s.kiln with
      enc := s.kiln.enc.map (fun (e : EncState) => { e with
        recent := e.recent.map f, okTtA := f e.okTtA, okTtB := f e.okTtB, zBadTt := f e.zBadTt }), dom := s.kiln.dom.map (fun d => d.shift k),
      src := s.kiln.src.map (fun (e : SourceEvent) => { e with tt := f e.tt }) },
    lanes := s.lanes.map (fun l => l.shift k),
    te := { s.te with
      incoming := s.te.incoming.map (fun (r : RecIn) => { r with tt := f r.tt }),
      staged := s.te.staged.map (fun (r : RecIn) => { r with tt := f r.tt }),
      bounds := s.te.bounds.map (fun (b : Boundary) => { b with t0 := f b.t0 }) },
    wheel := { s.wheel with
      slots := s.wheel.slots.map (fun x => (x.1, ({ x.2 with insTt := f x.2.insTt } : Event))),
      late := s.wheel.late.map (fun (x : LateEvent) => { x with edge := f x.edge, ev := { x.ev with insTt := f x.ev.insTt } }) },
    outs := { s.outs with
      chan := s.outs.chan.map (fun (c : ChanState) => { c with pulse := c.pulse.map (fun p => p.shift k), since := f c.since, test := c.test.map f }),
      itest := s.outs.itest.map (fun (t : IntrusiveTest) => { t with start := f t.start }),
      stopTt := f s.outs.stopTt },
    cores := s.cores.map (fun (c : Core) => { c with
      startTt := f c.startTt, issued := c.issued.map (fun e => (f e.1, e.2)), entry := c.entry.map (fun (e : EntryWindow) => { e with tt := f e.tt }),
      pause := c.pause.map (fun (p : Pause) => { p with start := f p.start }), powering := c.powering.map f }),
    prot := { s.prot with
      scrub := s.prot.scrub.map (fun x => (x.1, ({ x.2 with passStart := f x.2.passStart } : Scrubber))) },
    arch := { s.arch with
      writes := s.arch.writes.map (fun w => (f w.1, w.2)), highSince := s.arch.highSince.map f, pfStart := f s.arch.pfStart,
      pfDone := s.arch.pfDone.map f, flash := s.arch.flash.map (fun (o : FlashOp) => { o with start := f o.start }) },
    host := { s.host with
      queues := s.host.queues.map (fun x => (x.1, ({ x.2 with chainTt := f x.2.chainTt, oldest := f x.2.oldest } : HostQueue))),
      restart := s.host.restart.map (fun x => (f x.1, x.2)), hbTt := f s.host.hbTt },
    sag := { s.sag with headCheck := f s.sag.headCheck },
    tw := { s.tw with join := s.tw.join.map (fun (j : Join) => { j with start := f j.start }), failTt := s.tw.failTt.map f } }

/-- Boundary J of a joiner (R453), before FN is stepped: TT takes the leader's, as the peer SYNC measured it, and the
epoch is adopted. (DEDUCED, notes/assumptions/111.md) -/
def State.alignJoin (s : State) : State :=
  match s.tw.join with
  | none => s
  | some j =>
    match j.at_, s.tw.fire with
    | some a, some x =>
      if s.role = roleJoining ∧ a ≤ x.fn ∧ !j.reached then
        let ofs := divNearest (s.lane (toIx 48 j.lane)).peerOfs 256
        let s0 := s.onTw (fun t => { t with join := some { j with reached := true } })
        let s1 := ((s0.shiftTimes ofs).wr64 TB_BTT (shiftTt ofs (s.rd64 TB_BTT))).wrInt TW_TT_OFS ofs
        if s1.get TW_EPOCH_EPOCH = j.epoch then s1 else (s1.put TW_EPOCH_EPOCH j.epoch).raiseSrc 452
      else s
    | _, _ => s

end Sys2Proof.Machine
end

