-- ==== Sys2Proof/Machine/Sagger.lean ====
section
/-! DEFINITION. The sagger's services: lifecycle, floors, fuses, PUF enrolment, image checks, debug authentication and the
tamper sensors (R402 to R405, R408, R413, R418, R422, R426 to R428). -/

namespace Sys2Proof.Machine

/-- The level of debug access granted (R426, R427): 3 in BLANK. -/
def State.debugLevel (s : State) : Nat :=
  if s.lifecycle = lcBlank then 3 else s.get SG_DBG_CTRL_LEVEL

/-- The highest level that the lifecycle permits (R427). (DEDUCED, notes/assumptions/107.md) -/
def State.debugMax (s : State) : Nat :=
  if s.lifecycle = lcDeployed then min 2 (bitsOf (s.fuse 0).toNat 9 2) else 3

/-- Whether bytes of the fuse array are blown at all. -/
def State.fused (s : State) (w n : Nat) : Bool :=
  !allZero (s.fuseBytes w n)

/-- Whether the PUF is enrolled: its helper data are fused (R418). -/
def State.enrolled (s : State) : Bool :=
  s.fused 88 128

/-! ### Lifecycle and floors (R402, R403, R413) -/

/-- Whether an advance to a state is accepted (R402, R403, R405): only the next one, under its conditions. -/
def State.advanceOk (s : State) (target : Nat) : Bool :=
  target == s.lifecycle + 1 && (match target with
    | 1 => s.fused 24 16 && s.fused 40 16 && s.enrolled && bitsOf (s.fuse 0).toNat 16 6 == 63
    | _ => s.mode == modeMaintenance)

/-- The sagger's non-volatile store erased (R403): the boot record, the counter and the event log.
(DEDUCED, notes/assumptions/106.md) -/
def State.eraseStore (s : State) : State :=
  (s.onSag (fun x => { x with active := false, trial := false, tries := 0, events := [] })).wr64 HI_AUTH_CTR 0

/-- `SG_LC_ADVANCE` (R403). (DEDUCED, notes/assumptions/106.md) -/
def execSgLcAdvance (m : Master) (v : Word) (s : State) : Host.Outcome State Fault Refusal :=
  let target := bitsOf v.toNat 0 2
  .next (s.portal m SG_LC_ADVANCE (m == 0) (if !s.advanceOk target then s.putFlag SG_STAT_CFG_REJ true
  else
    let s1 := (s.blow 0 (BitVec.ofNat 32 (2 ^ s.lifecycle))).secEvent evLifecycle target
    let s2 := if s.lifecycle = lcBlank then s1.put SG_DBG_CTRL_LEVEL 0
      else if s1.debugMax < s1.get SG_DBG_CTRL_LEVEL ∨ (target = lcRetired ∧ !s1.sag.sessVendor) then s1.endSession else s1
    if target = lcRetired then
      ((s2.blow 0 8).eraseStore.putFlag SG_LC_ID_VALID false).onSag (fun x => { x with idKey := false, storeKey := false })
    else s2))

/-- One floor raised to an SVN: a thermometer of at most 64 (R404, R413). (DEDUCED, notes/assumptions/106.md) -/
def State.raiseFloor (s : State) (kind svn : Nat) : State :=
  let n := 2 ^ min svn 64 - 1
  (s.blow (2 + 2 * kind) (BitVec.ofNat 32 n)).blow (3 + 2 * kind) (BitVec.ofNat 32 (n / 2 ^ 32))

/-- `SG_SVN_COMMIT` (R413). (DEDUCED, notes/assumptions/106.md) -/
def execSgSvnCommit (m : Master) (v : Word) (s : State) : Host.Outcome State Fault Refusal :=
  .next (s.portal m SG_SVN_COMMIT (m == 0) (if s.mode ≠ modeMaintenance ∨ s.flag CF_STAT_TRIAL then s.putFlag SG_STAT_CFG_REJ true
  else
    let s1 := s.when (v.toNat.testBit 0) (fun s => s.raiseFloor 0 s.sag.glostSvn)
    let s2 := s1.when (v.toNat.testBit 1) (fun s => s.raiseFloor 1 s.sag.kwSvn)
    let s3 := s2.when (v.toNat.testBit 2) (fun s => match s.sag.appSvn with | some n => s.raiseFloor 2 n | none => s)
    s3.secEvent evSvnCommit (bitsOf v.toNat 0 3)))

/-! ### Fuses (R405) -/

/-- The lock bit of the field that a fuse word belongs to, where it has one (R404): the five hashes in their order, the
helper data, and [10:4] of word 0. (DEDUCED, notes/assumptions/106.md) -/
def lockBit (w : Nat) : Option Nat :=
  if 8 ≤ w ∧ w < 88 then some (16 + (w - 8) / 16)
  else if 88 ≤ w ∧ w < 216 then some 21
  else none

/-- Whether a program of fuses is refused (R405). (DEDUCED, notes/assumptions/106.md) -/
def State.fuseRefused (s : State) (w : Nat) (d : Word) : Bool :=
  let lock (b : Nat) : Bool := (s.fuse 0).toNat.testBit b
  decide (lcDeployed ≤ s.lifecycle) || (w == 0 && d &&& 0xF != 0) || (decide (1 ≤ w) && decide (w ≤ 7))
    || (w == 0 && d &&& 0x7F0 != 0 && lock 22) || (match lockBit w with | some b => lock b | none => false)

/-- `SG_FUSE_PROGRAM` (R405): `SG_FUSE_CMD` written with GO. (DEDUCED, notes/assumptions/106.md) -/
def execSgFuseProgram (m : Master) (s : State) : Host.Outcome State Fault Refusal :=
  let w := s.get SG_FUSE_ADDR_WORD
  let d := s.rd SG_FUSE_DATA
  .next (s.portal m SG_FUSE_CMD (m == 0 || (m == 14 && s.debugLevel == 3)) (if s.sag.fuseOp.isSome then s
  else if s.fuseRefused w d then s.put SG_FUSE_CMD_RESULT 1
  else (s.onSag (fun x => { x with fuseOp := some (w, d) })).putFlag SG_FUSE_CMD_BUSY true))

/-- `FUSE_PROGRAM_DONE` (R405): the bits are blown; where they do not verify, which ones are is free.
(DESIGN CHOICE, notes/assumptions/103.md) -/
def execFuseProgramDone (ok : Bool) (s : State) : Host.Outcome State Fault Refusal :=
  .next (match s.sag.fuseOp with
  | none => s
  | some (w, d) =>
    let s1 := (s.onSag (fun x => { x with fuseOp := none })).putFlag SG_FUSE_CMD_BUSY false
    if ok then (s1.blow w d).put SG_FUSE_CMD_RESULT 0
    else
      let (k, s2) := s1.draw
      (s2.blow w (d &&& Config.fuseTorn k)).put SG_FUSE_CMD_RESULT 2)

/-! ### PUF enrolment (R418) -/

/-- `SG_PUF_ENROLL` (R418): in BLANK with PUF_HELPER unlocked. -/
def execSgPufEnroll (m : Master) (s : State) : Host.Outcome State Fault Refusal :=
  .next (s.portal m SG_PUF_CTRL (m == 0) (if s.flag SG_PUF_CTRL_BUSY then s
  else if s.lifecycle ≠ lcBlank ∨ (s.fuse 0).toNat.testBit 21 then s.putFlag SG_STAT_CFG_REJ true
  else s.putFlag SG_PUF_CTRL_BUSY true))

/-- `PUF_ENROLL_DONE` (R418): the helper data are free. -/
def execPufEnrollDone (s : State) : Host.Outcome State Fault Refusal :=
  .next (if !s.flag SG_PUF_CTRL_BUSY then s
  else
    let (k, s1) := s.draw
    let h := Config.pufHelper k
    (s1.each (List.range 128) (fun s j => s.wr (SG_PUF_HELPER_OUT j) (BitVec.ofNat 32 (h / 2 ^ (32 * j))))).putFlag SG_PUF_CTRL_BUSY false)

/-! ### Image checks of `SG_VER_CTRL` (R408) -/

/-- `SG_VER_CHECK` (R408): `SG_VER_CTRL` written with GO; ignored while BUSY. -/
def execSgVerCheck (m : Master) (s : State) : Host.Outcome State Fault Refusal :=
  .next (s.portal m SG_VER_CTRL (m == 0) (if s.sag.ver.isSome then s
  else ((s.onSag (fun x => { x with ver := some (s.rd64 SG_VER_ADDR % 2 ^ 40 / 64 * 64, s.get SG_VER_LEN_BYTES) })).putFlag
    SG_VER_CTRL_BUSY true).syncEngine))

/-- An image in HBM checked as its own header describes it, with the keys of the active half (R408). -/
def State.checkAt (s : State) (a len : Nat) : State × Bytes × Nat :=
  let (s1, b, r) := s.busRead 13 a len
  (s1, b, if r.ok then s1.checkImage s1.activeBase b (field b 4 1) (field b 6 1) else 1)

/-- `SG_VER_DONE` (R408, R420): RESULT and SRC[480]. -/
def execSgVerDone (s : State) : Host.Outcome State Fault Refusal :=
  .next (match s.sag.ver, s.served .ver with
  | some (a, len), some s0 =>
    let (s1, _, code) := s0.checkAt a len
    (((s1.onSag (fun x => { x with ver := none })).putFlag SG_VER_CTRL_BUSY false).put SG_VER_CTRL_RESULT code).raiseSrc 480
  | _, _ => s)

/-! ### Debug authentication (R426, R427) -/

/-- A new nonce (R426). (DEDUCED, notes/assumptions/107.md) -/
def State.newNonce (s : State) : State :=
  let (k, s1) := s.draw
  s1.each (List.range 8) (fun s j => s.wr (SG_DBG_NONCE j) (BitVec.ofNat 32 (Config.random k / 2 ^ (32 * j))))

/-- `SG_DBG_GO` (R426): `SG_DBG_CTRL` written with GO; ignored while BUSY (R430). (DEDUCED, notes/assumptions/107.md) -/
def execSgDbgGo (m : Master) (v : Word) (s : State) : Host.Outcome State Fault Refusal :=
  .next (s.portal m SG_DBG_CTRL (m == 14) (if s.sag.dbg.isSome then s
  else
    let nonce := (List.range 8).flatMap (fun j => natLe 4 (s.rd (SG_DBG_NONCE j)).toNat)
    let sig := ((List.range 1157).flatMap (fun j => natLe 4 (s.rd (SG_DBG_SIG j)).toNat)).take 4627
    let s1 := (s.put SG_DBG_CTRL_REQ_LEVEL (bitsOf v.toNat 0 2)).putFlag SG_DBG_CTRL_KEY (v.toNat.testBit 2)
    ((s1.onSag (fun x => { x with dbg := some (bitsOf v.toNat 0 2, v.toNat.testBit 2, nonce, sig) })).putFlag SG_DBG_CTRL_BUSY true).syncEngine))

/-- The outcome of an authentication (R425 to R427): 0 granted, 1 signature, 2 policy, 3 key unusable. The customer
debug key is effective from the completion of glost, where its hash matches (R411).
(DEDUCED, notes/assumptions/107.md) -/
def State.debugOutcome (s : State) (level : Nat) (vendor : Bool) (nonce sig : Bytes) : Nat :=
  let key : KeySlot := if vendor then .vendor else .debug
  let msg := sha512 (nonce ++ s.idDigest ++ natLe 1 level ++ natLe 1 s.lifecycle)
  if s.lifecycle = lcBlank then 0
  else if s.debugMax < level ∨ !s.sag.dbgKeys ∨ (s.lifecycle = lcRetired ∧ !vendor) then 2
  else if sha512 (s.dirKey s.activeBase key) ≠ s.keyHash key ∨ (!vendor ∧ (s.mode ≤ modeGlost ∨ !s.sag.usable.contains 4)) then 3
  else if Config.mldsaVerify (s.dirKey s.activeBase key) msg sig then 0 else 1

/-- `DBG_AUTH_DONE` (R414, R420, R426, R427): the session opens at its level, or the denial counts under R321.
(DEDUCED, notes/assumptions/107.md) -/
def execDbgAuthDone (s : State) : Host.Outcome State Fault Refusal :=
  .next (match s.sag.dbg, s.served .debug with
  | some (level, vendor, nonce, sig), some s0 =>
    let res := s.debugOutcome level vendor nonce sig
    let s1 := (((s0.onSag (fun x => { x with dbg := none })).putFlag SG_DBG_CTRL_BUSY false).put SG_DBG_CTRL_RESULT res).newNonce
    if res = 0 then
      let s2 := ((s1.put SG_DBG_CTRL_LEVEL level).onSag (fun x => { x with sessVendor := vendor })).extendMeas 7 (sha512 (natLe 1 level ++ natLe 1 (if vendor then 1 else 0) ++ natLe 8 s.fn))
      ((s2.secEvent evSessionOpened level).raise F_SG_DBG_SESSION level).raiseSrc 481
    else (((s1.bump SG_DBG_FAIL_CNT_CNT).raise F_SG_DBG_AUTH_FAIL level).secEvent evAuthFail level).debugDenial
  | _, _ => s)

/-- `SG_DBG_END` (R426). -/
def execSgDbgEnd (m : Master) (s : State) : Host.Outcome State Fault Refusal :=
  .next (s.portal m SG_DBG_CTRL (m == 14) (s.endSession))

/-! ### Tamper sensors (R422) -/

/-- The MODE of a TAMP input and whether its class is A. -/
def State.tampMode (s : State) (n : Nat) : Nat × Bool :=
  let v := (s.rd SG_TAMP_CFG).toNat
  (bitsOf v (2 * n) 2, v.testBit (8 + n))

/-- `TAMPER_SWITCH` (R422). -/
def execTamperSwitch (n : Fin 4) (s : State) : Host.Outcome State Fault Refusal :=
  let c := s.tampMode n
  .next (if c.1 = 1 then s.sensorAlarm c.2 n else s)

/-- `TAMPER_MESH_FAIL` (R422). -/
def execTamperMeshFail (p : Fin 2) (s : State) : Host.Outcome State Fault Refusal :=
  let c := s.tampMode (2 * p)
  .next (if c.1 = 2 then s.sensorAlarm c.2 (2 * p) else s)

/-- `PACKAGE_MESH_TRIP` (R422). -/
def execPackageMeshTrip (s : State) : Host.Outcome State Fault Refusal :=
  .next (s.sensorAlarm true 4)

/-- `LIGHT_SENSOR_TRIP` (R422). -/
def execLightSensorTrip (s : State) : Host.Outcome State Fault Refusal :=
  .next (s.sensorAlarm true 5)

/-- `SUPPLY_MONITOR_TRIP` (R422). -/
def execSupplyMonitorTrip (s : State) : Host.Outcome State Fault Refusal :=
  .next (s.sensorAlarm false 6)

/-- `CLOCK_MONITOR_TRIP` (R422). -/
def execClockMonitorTrip (s : State) : Host.Outcome State Fault Refusal :=
  .next (s.sensorAlarm false 7)

/-- `TEMPERATURE_TRIP` (R422, R458): the junction at a temperature, below −45 °C or above 115 °C. -/
def execTemperatureTrip (t : Int) (s : State) : Host.Outcome State Fault Refusal :=
  let s1 := s.put PM_TJ_C (unsignedOf 8 t)
  .next (if t < -45 ∨ 115 < t then s1.sensorAlarm false 8 else s1)

/-! ### Boundary scan (R428) -/

/-- Boundary scan drives the pins: only under RST_N low in BLANK or PROVISIONED; the cells of the safety pins are held at
their safe levels. (DEDUCED, notes/assumptions/116.md) -/
def State.boundaryScan (s : State) : State :=
  if s.sag.rstNLow && decide (s.lifecycle ≤ lcProvisioned) then
    let s1 := s.each (allFin 32) (fun s (n : Chan) =>
      let safe := s.safeVal n
      (s.putFlag (PEO_STAT_DRV_A n) safe).putFlag (PEO_STAT_DRV_B n) (safe != s.flag (PEO_CFG_B_ANTI n)))
    ((s1.putFlag EW_SSTOP_STAT_DRV0 false).putFlag EW_SSTOP_STAT_DRV1 false).onSag (fun x => { x with scan := true })
  else s

/-- `JTAG_EXTEST` (R428). (DEDUCED, notes/assumptions/116.md) -/
def execJtagExtest (s : State) : Host.Outcome State Fault Refusal :=
  .next s.boundaryScan

/-- `JTAG_CLAMP` (R428). (DEDUCED, notes/assumptions/116.md) -/
def execJtagClamp (s : State) : Host.Outcome State Fault Refusal :=
  .next s.boundaryScan

end Sys2Proof.Machine
end

