-- ==== Sys2Proof/Machine/Fcu.lean ====
section
/-! DEFINITION. The Fault Collection Unit and the Safe State Controller: occurrences, reactions, the log, injection and the
self-checks (R325 to R337). -/

namespace Sys2Proof.Machine

/-! ### The applied class (R327 to R329, R347) -/

/-- The reaction classes of R329. -/
def clsLog : Nat := 0
def clsNotify : Nat := 1
def clsGroup : Nat := 2
def clsDevice : Nat := 3
def clsLockdown : Nat := 4

/-- The faults whose detail names the group that an LSG-SAFE reaction acts on (R328). -/
def groupFaults : List Nat :=
  [F_LS_MISMATCH_APP, F_TSB_FAULT_APP, F_TSB_OVF_APP, F_MPU_CFG_ERR_APP, F_WD_EXPIRE_APP, F_CONE_OVER, F_CONE_UNDER,
    F_EW_QUOTA, F_EW_LOG_OVF]

/-- The group that an LSG-SAFE reaction to an occurrence acts on (R328). -/
def State.reactGroup (s : State) (f : FaultIn) : Group :=
  toIx 8 (if groupFaults.contains f.id then f.detail else s.get (FLT_CFG_LGRP f.id))

/-- A reaction as R328 applies it: its class, and whether it was escalated or demoted. -/
structure Reaction where
  cls : Nat
  escalated : Bool := false
  demoted : Bool := false
  deriving DecidableEq, Repr

/-- The reaction to an occurrence (R327, R328, R347). -/
def State.reaction (s : State) (f : FaultIn) : Reaction :=
  let c := max (max (s.get (FLT_CFG_REACT f.id)) (s.get (FLT_CFG_MIN f.id))) f.cls
  let g := s.reactGroup f
  if c ≠ clsGroup then { cls := c }
  else if g.val = 0 then { cls := clsDevice, escalated := true }
  else if !s.hasGroup g || s.poweredOff g then { cls := clsNotify, demoted := true }
  else { cls := c }

/-! ### Records (R326, R331) -/

/-- The log entry of an occurrence (R331). (DEDUCED, notes/assumptions/84.md) -/
def State.logEntry (s : State) (f : FaultIn) (r : Reaction) (first : Bool) : Bytes :=
  let flags := (if f.injected then 1 else 0) + (if first then 2 else 0) + (if r.escalated then 4 else 0) + (if r.demoted then 8 else 0)
  natLe 8 (if s.mode ≤ modeGlost then 0 else s.fn) ++ natLe 8 s.tt ++ natLe 2 f.id ++ natLe 1 r.cls ++ natLe 1 flags ++ natLe 4 f.detail
    ++ natLe 4 (s.get (FLT_CNT_CNT f.id)) ++ [0, 0, 0, 0]

/-- An entry put into the log queue, which holds 256 (R326). -/
def State.queueLog (s : State) (e : Bytes) : State :=
  if 256 ≤ s.sup.logQ.length then s.bump FCU_LOST_CNT
  else s.onSup (fun x => { x with logQ := s.sup.logQ ++ [e] })

/-- The counts and records of an occurrence (R326). (DEDUCED, notes/assumptions/83.md) -/
def State.recordFault (s : State) (f : FaultIn) (r : Reaction) : State :=
  let first := !s.flag FCU_FIRST_VALID && decide (clsNotify ≤ r.cls)
  let s1 := ((s.bump FCU_OCC_CNT_CNT).put FCU_WORST_CLASS (max (s.get FCU_WORST_CLASS) r.cls)).putFlag FCU_WORST_VALID true
  let s2 := ((s1.bump (FLT_CNT_CNT f.id)).wr (FLT_DETAIL f.id) (BitVec.ofNat 32 f.detail)).put (FLT_STAT_LAST f.id) r.cls
  let s3 := s2.putFlag (FLT_STAT_INJ f.id) f.injected
  let s4 := s3.when first (fun s => (((s.put FCU_FIRST_ID f.id).put FCU_FIRST_CLASS r.cls).putFlag FCU_FIRST_VALID true).wr64
    FCU_FIRST_FN s.fn)
  let s5 := if s.flag (FLT_STAT_PEND f.id) then s4 else s4.queueLog (s4.logEntry f r first)
  (s5.putFlag (FLT_STAT_PEND f.id) true).when (decide (clsNotify ≤ r.cls)) (fun s => s.putFlag (FLT_STAT_NOTE f.id) true)

/-! ### Reactions (R329, R335, R336) -/

/-- The time of the last reaction's latches, within the 54 FCLK of R336. (DEDUCED, notes/assumptions/84.md) -/
def State.latchTime (s : State) : State :=
  let (k, s1) := s.draw
  let t := Config.sscLatency k % 55
  (s1.put SSC_LAT_LAST_FCLK t).raiseTo SSC_LAT_MAX_FCLK t

/-- An LSG-SAFE reaction (R329): the group's channels held, the group stopped, its Verify work cancelled, and a restart at
the next boundary. -/
def State.groupSafe (s : State) (g : Group) : State :=
  let s1 := (s.put SSC_STAT_GHOLD (withBits (s.get SSC_STAT_GHOLD) g 1 1)).refreshOuts
  ((s1.stopNow g).onCore g (fun c => { c with restartDue := true })).veRestart g

/-- The DEV-SAFE reaction that SAFE at glost's completion is recorded for (R351): of those received so far and this one,
the one of the lowest ID; `DEV-SAFE` is the class of each. (DEDUCED, notes/assumptions/120.md) -/
def State.bootCause (s : State) (f : FaultIn) (cls : Nat) : Nat × Nat × Nat :=
  match s.sup.bootSafe with
  | none => (f.id, cls, f.detail)
  | some old => if f.id < old.1 then (f.id, cls, f.detail) else old

/-- A DEV-SAFE reaction (R329, R435): the latches, and SAFE; during BISQUE and GLOST the latches alone, and SAFE at
glost's completion. (DEDUCED, notes/assumptions/120.md) -/
def State.deviceSafe (s : State) (f : FaultIn) (cls : Nat) : State :=
  let s1 := s.setDevSafe
  if modeSafe ≤ s1.mode then s1
  else if s1.mode ≤ modeGlost then s1.onSup (fun x => { x with bootSafe := some (s1.bootCause f cls) })
  else (s1.recordSafe f.id cls f.detail false).enterMode modeSafe

/-- A class above LSG-SAFE includes its effects on the group that a fault's detail names (R328, R329): not on LSG[0],
nor on a group that is off or absent. -/
def State.alsoGroup (s : State) (f : FaultIn) : State :=
  let g := s.reactGroup f
  if groupFaults.contains f.id ∧ g.val ≠ 0 ∧ s.hasGroup g ∧ !s.poweredOff g then s.groupSafe g else s

/-- Whether the periodic test that the boundary's FN calls for has not ended (R337). -/
def State.periodicDue (s : State) : Bool :=
  s.fn != 0 && s.fn % s.get SSC_TEST_PER_FIRINGS == 0 && s.sup.testFn != s.fn

/-- A real reaction abandons the periodic test that runs, which is repeated at the next due boundary (R350).
(DEDUCED, notes/assumptions/85.md) -/
def State.abandonPeriodic (s : State) : State :=
  if s.periodicDue then s.onSup (fun x => { x with testFn := s.fn }) else s

/-- What a reaction makes the device do (R329). -/
def State.react (s : State) (f : FaultIn) (r : Reaction) : State :=
  if r.cls ≤ clsNotify then s
  else
    let s0 := s.abandonPeriodic.latchTime
    if r.cls = clsGroup then s0.groupSafe (s.reactGroup f)
    else if r.cls = clsDevice then ((s0.alsoGroup f).deviceSafe f r.cls).twinFlush
    else
      let s1 := (s0.alsoGroup f).setDevSafe
      (if s1.mode = modeLockdown then s1 else s1.alarm false 10 f.id f.detail).twinFlush

/-- An occurrence received and decided (R326). An ID that no fault table lists never occurs (R333). -/
def State.occur (s : State) (f : FaultIn) : State :=
  if !s.flag (FLT_CFG_IMPL f.id) then s
  else
    let r := s.reaction f
    (s.recordFault f r).react f r

/-- The occurrence on its way that the FCU takes first (R326, R350): the oldest, and of one instant the lowest ID.
(DEDUCED, notes/assumptions/83.md) -/
def State.nextFault (s : State) : Option FaultIn :=
  s.fcuIn.foldl (fun best f => match best with
    | none => some f
    | some b => if f.tt < b.tt ∨ (f.tt = b.tt ∧ f.id < b.id) then some f else some b) none

/-- An occurrence on its way reaches the FCU, which decides it (R326). -/
def State.takeFault (s : State) (f : FaultIn) : State :=
  ({ s with fcuIn := s.fcuIn.erase f } : State).occur f

/-- `FAULT_OCCURRENCE` (R326): the first occurrence on its way reaches the FCU. (DEDUCED, notes/assumptions/83.md) -/
def execFaultOccurrence (s : State) : Host.Outcome State Fault Refusal :=
  .next (match s.nextFault with
  | none => s
  | some f => s.takeFault f)

/-- The first entry of the log queue written (R326, R331). -/
def State.drainLog (s : State) : State :=
  match s.sup.logQ with
  | [] => s
  | e :: rest =>
    let k := s.get FCU_LOG_HEAD_CNT % 64
    let s1 := s.each (List.range 8) (fun s j => s.wr (FCU_LOG k j) (BitVec.ofNat 32 (field e (4 * j) 4)))
    let s2 := s1.onSup (fun x => { x with logQ := rest, logged := s1.sup.logged + 1 })
    (s2.bumpWrap FCU_LOG_HEAD_CNT).when (decide (64 < s2.sup.logged)) (fun s => s.putFlag FCU_STAT_LOG_WRAP true)

/-- `FCU_LOG_DRAIN` (R326). (DEDUCED, notes/assumptions/83.md) -/
def execFcuLogDrain (s : State) : Host.Outcome State Fault Refusal :=
  .next s.drainLog

/-! ### Injection and configuration (R327, R330, R332) -/

/-- A write refused with `FCU_STAT.CFG_REJ`. -/
def State.fcuReject (s : State) : State :=
  s.putFlag FCU_STAT_CFG_REJ true

/-- `FCU_INJECT` (R332): `FCU_INJ_CTRL` written with GO; FCU_INJECT follows one instant later.
(DEDUCED, notes/assumptions/67.md) -/
def execFcuInject (m : Master) (v : Word) (s : State) : Host.Outcome State Fault Refusal :=
  let i := bitsOf v.toNat 0 9
  let f : FaultIn := ⟨i, (s.rd FCU_INJ_DETAIL).toNat, true, 0, s.tt⟩
  .next (s.portal m FCU_INJ_CTRL (m == 0) (if (s.mode ≠ modeGlost ∧ s.mode ≠ modeMaintenance) ∨ !s.flag (FLT_CFG_IMPL i)
      ∨ ((s.reaction f).cls = clsLockdown ∧ s.lifecycle = lcDeployed) then s.fcuReject
  else
    let s1 := s.put FCU_INJ_CTRL_ID i
    { s1 with fcuIn := s1.fcuIn ++ [f, ⟨F_FCU_INJECT, i, false, 0, s.tt + 1⟩] }))

/-- The REACT that a write of `FLT_CFG` stores: at least MIN (R327). -/
def State.reactOf (s : State) (i : Nat) (v : Word) : Nat :=
  max (bitsOf v.toNat 0 3) (s.get (FLT_CFG_MIN i))

/-- `FLT_CFG_WRITE` (R327, R330, R333): REACT and LGRP for the next boundary, NSRC at once.
(DEDUCED, notes/assumptions/84.md) -/
def execFltCfgWrite (i : FaultId) (m : Master) (v : Word) (s : State) : Host.Outcome State Fault Refusal :=
  let asked := bitsOf v.toNat 0 3
  let before := max (s.get (FLT_CFG_REACT i)) (bitsOf (s.latest (FLT_CFG i)).toNat 0 3)
  .next (s.portal m (FLT_CFG i) (m == 0) (if !s.flag (FLT_CFG_IMPL i) then s
  else if 4 < asked ∨ (asked < before ∧ s.mode ≠ modeMaintenance) then s.fcuReject
  else
    let w := withBits (v &&& 0x7FF07).toNat 0 3 (s.reactOf i v)
    let (s1, ok) := s.stageWrite m (FLT_CFG i) (BitVec.ofNat 32 (w &&& 0x70007))
    if !ok then s1.storeError m (FLT_CFG i)
    else (s1.put (FLT_CFG_NSRC i) (bitsOf v.toNat 8 6)).when (decide (asked < s.reactOf i v)) State.fcuReject))

/-- A commit of `FLT_CFG`. (DEDUCED, notes/assumptions/84.md) -/
def State.commitFltCfg (s : State) (i : Nat) (v : Word) : State :=
  (s.put (FLT_CFG_REACT i) (bitsOf v.toNat 0 3)).put (FLT_CFG_LGRP i) (bitsOf v.toNat 16 3)

/-- `FLT_PEND_CLEAR` (R330): a write of `FLT_STAT` with PEND = 1. -/
def execFltPendClear (i : FaultId) (m : Master) (s : State) : Host.Outcome State Fault Refusal :=
  .next (s.portal m (FLT_STAT i) (m == 0) ((s.putFlag (FLT_STAT_PEND i) false).putFlag (FLT_STAT_NOTE i) false))

/-! ### Self-checks (R337) -/

/-- A lost heartbeat at a channel, Y or X: its DEV-SAFE latch is set, and no intrusive test that runs clears it (R335).
(DEDUCED, notes/assumptions/119.md) -/
def State.loseHeartbeat (s : State) (y : Bool) : State :=
  let keep (t : IntrusiveTest) : IntrusiveTest := if y then { t with setY := false } else { t with setX := false }
  let s1 := s.onOuts (fun x => { x with itest := x.itest.map keep })
  ((((s1.putFlag (if y then SSC_STAT_DEV_Y else SSC_STAT_DEV_X) true).putFlag SSC_STAT_HB_LOST true).putFlag FCU_STAT_HB_OK false).refreshOuts).raise F_FCU_SELF 0

/-- The FCU's channels disagree on the next occurrence (R337): the higher of their two decisions is taken. -/
def State.disagree (s : State) (cls : Nat) : State :=
  match s.nextFault with
  | none => s
  | some f => ({ s with fcuIn := s.fcuIn.erase f } : State).occur { f with cls := max f.cls cls }

/-- `FCU_SELF` (R337). -/
def execFcuSelf (why : FcuSelfCause) (s : State) : Host.Outcome State Fault Refusal :=
  .next (match why with
  | .heartbeatX => s.loseHeartbeat false
  | .heartbeatY => s.loseHeartbeat true
  | .disagree cls => (s.disagree cls).raise F_FCU_SELF 0
  | .lattice => s.raise F_FCU_SELF 0)

/-- `SSC_DISAGREE` (R337). -/
def execSscDisagree (s : State) : Host.Outcome State Fault Refusal :=
  .next ((s.setDevSafe.putFlag SSC_STAT_DISAGREE true).raise F_SSC_DISAGREE 0)

/-- A failed test of a channel (R337): the SSC sets the latches itself (R336). -/
def State.sscTestFail (s : State) (detail : Nat) : State :=
  (s.setDevSafe.putFlag SSC_STAT_TEST_FAIL true).raise F_SSC_TEST_FAIL detail

/-- `SSC_PERIODIC_TEST` (R337): the test that the boundary's FN calls for, with the outcome of channel X and of channel Y.
(DEDUCED, notes/assumptions/85.md) -/
def execSscPeriodicTest (x y : Bool) (s : State) : Host.Outcome State Fault Refusal :=
  .next (if !s.periodicDue then s
  else
    let s1 := s.onSup (fun x => { x with testFn := s.fn })
    if x && y then s1.bump SSC_TEST_CNT_CNT
    else (s1.when (!x) (fun s => s.sscTestFail 0)).when (!y) (fun s => s.sscTestFail 1))

/-- The intrusive test begins: both DEV-SAFE latches set (R337). -/
def State.beginItest (s : State) : State :=
  let t : IntrusiveTest := ⟨s.tt, !s.flag SSC_STAT_DEV_X, !s.flag SSC_STAT_DEV_Y, false⟩
  let s1 := s.onOuts (fun x => { x with itest := some t })
  (((s1.putFlag SSC_CTRL_TEST_BUSY true).putFlag SSC_STAT_DEV_X true).putFlag SSC_STAT_DEV_Y true).refreshOuts

/-- `SSC_INTRUSIVE_TEST` (R337): `SSC_CTRL` written with TEST. (DEDUCED, notes/assumptions/85.md) -/
def execSscIntrusiveTest (m : Master) (s : State) : Host.Outcome State Fault Refusal :=
  .next (s.portal m SSC_CTRL (m == 0) (if s.outs.itest.isSome then s
  else if s.mode ≠ modeMaintenance ∧ s.mode ≠ modeGlost then s.putFlag SSC_STAT_CFG_REJ true
  else s.beginItest))

/-- Whether the intrusive test reads back anything: some channel with RB_EN, or the SAFE_STOP feedback (R337). -/
def State.hasReadback (s : State) : Bool :=
  s.flag EW_SSTOP_CFG_FB_EN || (List.range 32).any (fun n => s.flag (PEO_CFG_RB_EN n))

/-- The intrusive test ends: the latches that it set are cleared, and the readbacks of a channel that are wrong fail it
(R337). -/
def State.endItest (s : State) (t : IntrusiveTest) (badX badY : Bool) : State :=
  let s1 := s.onOuts (fun x => { x with itest := none })
  let s2 := (s1.when t.setX (fun s => s.putFlag SSC_STAT_DEV_X false)).when t.setY (fun s => s.putFlag SSC_STAT_DEV_Y false)
  let s3 := (s2.putFlag SSC_CTRL_TEST_BUSY false).refreshOuts
  let bad := (badX || badY) && s.hasReadback
  if t.abandoned then s3.putFlag SSC_STAT_ITEST_PASS false
  else if !bad then s3.putFlag SSC_STAT_ITEST_PASS true
  else
    let (k, s4) := s3.draw
    let y := if badX && badY then Config.firstWrong k else badY
    (s4.putFlag SSC_STAT_ITEST_PASS false).sscTestFail (if y then 3 else 2)

/-- `SSC_INTRUSIVE_TEST_END` (R337): the end of the test after its 10 µs. (DEDUCED, notes/assumptions/85.md) -/
def execSscIntrusiveTestEnd (badX badY : Bool) (s : State) : Host.Outcome State Fault Refusal :=
  .next (match s.outs.itest with
  | none => s
  | some t => if s.tt < t.start + 10 * usKclk then s else s.endItest t badX badY)

/-! ### The MPU's checker (R315) -/

/-- `MPU_CFG_ERR` (R315): the checker finds a lattice error in a region, which is disabled.
(DEDUCED, notes/assumptions/81.md) -/
def execMpuCfgErr (g : Group) (r : Option (Fin 32)) (s : State) : Host.Outcome State Fault Refusal :=
  .next (if !s.hasGroup g then s
  else
    let s1 := s.putFlag (MPU_STAT_CFG_ERR g) true
    let s2 := match r with
      | some r => (s1.put (MPU_STAT_ERR_REGION g) r).onProt (fun z => { z with
          mpuOff := (s1.prot.mpuOff.filter (fun x => x != 32 * g.val + r.val)) ++ [32 * g.val + r.val] })
      | none =>
        let (d, s0) := s1.draw
        s0.put (MPU_STAT_ERR_REGION g) (Config.ctrlRegion d % 32)
    s2.raise (if g.val = 0 then F_MPU_CFG_ERR_KW else F_MPU_CFG_ERR_APP) g)

end Sys2Proof.Machine
end

