-- ==== Sys2Proof/Machine/Restart.lean ====
section
/-! DEFINITION. Resets of the whole device: power-on reset, RST_N, warm restart, and what a failed boot makes of a trial half;
supplies, clocks and junction temperature (R14, R375, R376, R390, R410, R412, R437 to R441, R457, R473, R481). -/

namespace Sys2Proof.Machine

/-- A bit of `HI_ISR` set: it falls to vector 0 of each function whose `HI_IER` enables it (R372). -/
def State.setIsr (s : State) (f : Fld) : State :=
  if s.flag f then s
  else (s.putFlag f true).onHost (fun h => { h with
    isrDue := Vector.ofFn (fun (i : Fin 2) => h.isrDue.get i || (s.rd (HI_IER i)).toNat.testBit f.lo) })

/-! ### Host work that stops (R375, R376) -/

/-- The commands of a queue that have been fetched or staged and have not taken effect (R375). -/
def State.queueWork (s : State) (q : Nat) : Nat :=
  let h := s.hq q
  let sum (l : List Nat) : Nat := l.foldl (fun a b => a + b) 0
  h.inbox.length + h.chain.length + sum ((s.host.staging.filter (fun a => a.q == q)).map (fun a => a.cmds.length))
    + (if s.host.flash.any (fun (j : FlashJob) => j.q == q) then 1 else 0)
    + (if s.host.attest.any (fun (x : Nat × Bytes) => x.1 == q) then 1 else 0)
    + (if s.host.kload.any (fun (x : Nat × Bytes) => x.1 == q) then 1 else 0)
    + (s.host.cancels.filter (fun c => c.1 == q)).length
    + sum ((s.chains.filter (fun c => c.q == some q)).map (fun c => c.cmds.length))

/-- The FLASH_PROGRAM of a queue stopped (R375): at once while its image is checked, otherwise after its current sector.
(DEDUCED, notes/assumptions/102.md) -/
def FlashJob.stop (j : FlashJob) (q : Nat) : Option FlashJob :=
  if j.q ≠ q then some j else if j.checked then some { j with halt := true } else none

/-- A queue pair disabled and its uncommitted work discarded (R375): what has committed stays in effect, its completions
are not written. -/
def State.stopQueue (s : State) (q : Nat) : State :=
  let s1 := s.addTo HI_DISCARD_CNT_CNT (s.queueWork q)
  let head := match s.host.staging with | c :: _ => c.q == q | [] => false
  let s2 := ({ s1 with chains := s1.chains.filter (fun c => c.q != some q) }).onHost (fun (h : HostIf) =>
    let flash := h.flash.bind (fun (j : FlashJob) => j.stop q)
    { h with
      queues := dropKey h.queues q,
      staging := h.staging.filter (fun a => a.q != q),
      checks := h.checks.filter (fun u => match u with | .chain => !head | .flash => flash.isSome),
      attest := if h.attest.any (fun (x : Nat × Bytes) => x.1 == q) then none else h.attest,
      kload := if h.kload.any (fun (x : Nat × Bytes) => x.1 == q) then none else h.kload,
      cancels := h.cancels.filter (fun c => c.1 != q),
      order := h.order.filter (fun x => x != q),
      parked := h.parked.map (fun (p : ParkedChain) => if p.chain.q = some q then { p with chain := { p.chain with q := none } } else p),
      flash := flash })
  ((s2.putFlag (HQ_CTRL_EN q) false).wr (HQ_STAT q) (s.rd (HQ_STAT q) &&& 4)).put (HQ_UNSIG_N q) 0

/-- Every queue pair stopped. -/
def State.stopQueues (s : State) : State :=
  s.each (List.range 64) State.stopQueue

/-! ### Faults on their way -/

/-- Every occurrence on its way received. -/
def State.drainFaults (fuel : Nat) (s : State) : State :=
  match fuel, s.nextFault with
  | fuel + 1, some f => (s.takeFault f).drainFaults fuel
  | _, _ => s

/-- Every entry of the log queue written. -/
def State.drainLogs (s : State) : State :=
  s.each s.sup.logQ (fun s _ => s.drainLog)

/-- What is on its way to the FCU and its log arrives: 3 ms leave it time before a restart reaches bisque (R326, R439).
(DEDUCED, notes/assumptions/70.md) -/
def State.settleFaults (s : State) : State :=
  (s.drainFaults s.fcuIn.length).drainLogs

/-! ### The boot record (R390) -/

/-- `CF_STAT` as the boot record has it. -/
def State.syncBoot (s : State) : State :=
  (s.putFlag CF_STAT_TRIAL s.sag.trial).put CF_STAT_TRIES s.sag.tries

/-- The half that a boot takes (R409): the trial half while TRIAL = 1, otherwise the active one. -/
def State.bootHalf (s : State) : Bool :=
  s.sag.active != s.sag.trial

/-! ### Power-on reset (R437) -/

/-- The register words that a power-on reset keeps: RETAINED and `LS_RETIRED` while VDD_AON is held, what the archive's
medium and the sagger's store hold, and the state of the PCI Express link. (DEDUCED, notes/assumptions/100.md) -/
def keptAtPor (aonLost : Bool) (off : Nat) : Bool :=
  (!aonLost && ((decide (0x910000 ≤ off) && decide (off < 0x911000)) || (instanceAt (LS_RETIRED 0) 0x10000 8 off).isSome))
    || [AR_HOST_WR, AR_HOST_WR + 4, AR_NAND_WR, AR_NAND_WR + 4, AR_WEAR, AR_PF_LAST, HI_AUTH_CTR, HI_AUTH_CTR + 4].contains off

/-- A coil as the medium holds it: what was not durable is lost (R397). (DEDUCED, notes/assumptions/105.md) -/
def Coil.cut (c : Coil) : Coil :=
  { c with recs := c.recs.take c.durable, segTracks := 0, segCrops := 0, segGaps := 0 }

/-- The archive after a loss of its controller's state: whether a segment without its seal is found is kept for glost
(R397). (DEDUCED, notes/assumptions/100.md) -/
def Archive.cut (a : Archive) : Archive :=
  { coils := a.coils.map Coil.cut, nextSeq := a.nextSeq, wearRaised := a.wearRaised,
    incomplete := a.incomplete || !a.segs.isEmpty || a.coils.any (fun c => decide (c.durable < c.recs.length)) }

/-- What the sagger keeps: the fuses, the non-volatile store, which holds the event log in DEPLOYED, and the alarm latch
on VDD_AON (R404, R421, R433, R437). (DEDUCED, notes/assumptions/100.md) -/
def Sagger.kept (x : Sagger) (deployed aonLost : Bool) : Sagger :=
  { fuses := x.fuses, events := if deployed then x.events else [], active := x.active, trial := x.trial, tries := x.tries, rolledBack := x.rolledBack,
    aonAlarm := x.aonAlarm && !aonLost }

/-- A power-on reset (R437); `cause` is that of `PM_RST_CAUSE`. The commands that wait, the part, and the model's own
counter of free values are no state of the device. (DEDUCED, notes/assumptions/100.md) -/
def State.powerOnReset (s : State) (cause : Nat) (aonLost : Bool) : State :=
  let s0 := s.abandonFlash
  let r := State.reset
  let s1 : State := { r with
    pending := s0.pending, part := s0.part, draws := s0.draws,
    regs := s0.regs.filter (fun e => keptAtPor aonLost e.1),
    mem := s0.mem.filter (fun c => decide (c.1 < 0x4000000)),
    prot := { r.prot with lat := s0.prot.lat.filter (fun e => decide (e.1 < 0x4000000) || (!aonLost && memAt e.1 == some 4)) },
    arch := s0.arch.cut, sag := s0.sag.kept (s0.lifecycle == lcDeployed) aonLost,
    host := { r.host with out := s0.host.out, msgs := s0.host.msgs, advisory := s0.host.advisory, table := s0.host.table, msixOn := s0.host.msixOn } }
  let s2 := (s1.wr HI_STAT (s0.rd HI_STAT)).putFlag HI_STAT_READY false
  let s3 := (s2.putFlag CF_STAT_ROLLBACK (s0.flag CF_STAT_ROLLBACK)).syncBoot
  let s4 := (s3.putFlag CF_STAT_ACTIVE s3.sag.active).newNonce
  let s5 := ((s4.put PM_RST_CAUSE_CAUSE cause).putFlag PM_RST_CAUSE_AON_KEPT (!aonLost)).put PM_RAIL_STAT_GOOD 127
  let s6 := (s5.put PM_CLK_STAT_LOCK 7).syncArch.refreshOuts.wr64 AR_FREE 0
  s6.each ((allFin 8).filter (fun (g : Group) => s6.get (LS_RETIRED_MAP g) != 0)) State.syncDegr

/-- `POWER_ON_RESET` (R437): the core rails have been lost; VDD_AON may have been held. -/
def execPowerOnReset (aonLost : Bool) (s : State) : Host.Outcome State Fault Refusal :=
  .next (s.powerOnReset 0 aonLost)

/-- A reset by RST_N, which stays low until bisque (R473). (DEDUCED, notes/assumptions/100.md) -/
def State.resetByPin (s : State) : State :=
  (s.powerOnReset 1 false).onSag (fun x => { x with rstNLow := true })

/-- Whether power-fail sealing holds a reset by RST_N (R481): until PF_DONE, or 3 ms after the fall.
(DEDUCED, notes/assumptions/105.md) -/
def State.sealHoldsReset (s : State) : Bool :=
  s.flag AR_STAT_PF_ACTIVE && decide (s.tt < s.arch.pfStart + 3 * msKclk)

/-- `RST_N_ASSERT` (R473, R481). -/
def execRstNAssert (s : State) : Host.Outcome State Fault Refusal :=
  .next (if s.sealHoldsReset then s.onSag (fun x => { x with rstHeld := true }) else s.resetByPin)

/-- A held reset by RST_N takes place once sealing no longer holds it (R481). (DEDUCED, notes/assumptions/100.md) -/
def State.heldReset (s : State) : State :=
  if s.sag.rstHeld && !s.sealHoldsReset then s.resetByPin else s

/-! ### Warm restart (R376, R437, R439) -/

/-- The register blocks that a warm restart resets: EW and PEO, HL, TE, VE and VT, LSG, IC, FCU, SSC, SP and FW, HQ, TW,
DEV and DBG (notes/assumptions/70.md). (DEDUCED, notes/assumptions/70.md) -/
def warmBlocks : List (Nat × Nat) :=
  [(0x0, 0x10000), (0x20000, 0x30000), (0x100000, 0x140000), (0x140000, 0x150000), (0x150000, 0x170000), (0x200000, 0x280000),
    (0x300000, 0x310000), (0x400000, 0x410000), (0x410000, 0x420000), (0x500000, 0x520000), (0x601000, 0x602000), (0xA00000, 0xA10000), (0xF00000, 0xF10000)]

/-- Whether a word of these blocks is kept all the same: `LS_RETIRED` (R196), the FCU log and first record (R351), the
epoch (R437), and the locked regions, fixed until power-on reset (R320). (DEDUCED, notes/assumptions/70.md) -/
def keptAtWarm (off : Nat) : Bool :=
  (instanceAt (LS_RETIRED 0) 0x10000 8 off).isSome || decide (off = FCU_LOG_HEAD) || decide (off = FCU_FIRST)
    || decide (off = FCU_FIRST_FN) || decide (off = FCU_FIRST_FN + 4) || (decide (0x400800 ≤ off) && decide (off < 0x401000))
    || decide (off = TW_EPOCH) || (decide (FW_LOCK_BASE 0 ≤ off) && decide (off < FW_LOCK_BASE 0 + 0x80))

/-- Whether a warm restart resets a register word. -/
def resetAtWarm (off : Nat) : Bool :=
  warmBlocks.any (fun b => decide (b.1 ≤ off) && decide (off < b.2)) && !keptAtWarm off

/-- Whether a fabric address belongs to the track store, the delta pool or the wheel store. -/
def inTrackMem (a : Nat) : Bool :=
  memAt a == some 1 || memAt a == some 2 || memAt a == some 3

/-- The memories' guards after a warm restart: SP and FW are reset (R324), and the cleared memories hold no errors. -/
def State.warmProt (s : State) : State :=
  { s with
    mem := s.mem.filter (fun c => !inTrackMem c.1)
    prot := { s.prot with
      lat := s.prot.lat.filter (fun e => !inTrackMem e.1), raw := none, mpuOff := [], writeBacks := [],
      scrub := s.prot.scrub.map (fun x => (x.1, ({ passStart := s.tt, corrected := x.2.corrected } : Scrubber))) } }

/-- The causes of DEGRADED after a restart: retired copies, and a check encoder that is still lost (R192, R436). -/
def State.warmDegr (s : State) : State :=
  let s1 := s.put PM_MODE_DEGR (s.get PM_MODE_DEGR &&& 4)
  s1.each ((allFin 8).filter (fun (g : Group) => s1.hasGroup g)) State.syncDegr

/-- What a warm restart resets and keeps (R437). (DEDUCED, notes/assumptions/70.md) -/
def State.warmReset (s : State) : State :=
  let s1 : State := { s.warmProt with
    regs := s.regs.filter (fun e => !resetAtWarm e.1), locked := s.locked.filter (fun o => !resetAtWarm o && !s.stage.any (fun e => e.off = o)),
    fn := 0, stage := [], stagings := 0, chains := [], fcuIn := [], srcIn := [],
    kiln := { s.kiln with running := false, src := [], quiet := 0, srcLost := false, ovsRaised := false, maintExit := false },
    lanes := Vector.replicate 48 {}, gaps := Vector.replicate 8 [], te := {}, ve := {}, wheel := {}, outs := { ioLost := s.outs.ioLost }, cores := Vector.replicate 8 {}, sup := {}, orphans := [], swGroups := [],
    tw := {} }
  let s2 := ((s1.put TW_EPOCH_PEER_MAX 0).wr SG_ALARM_STAT 0).onSag (fun x => { x with engine := [], dbg := none, idKey := false, storeKey := false, halted := false })
  ((s2.putFlag SG_DBG_CTRL_BUSY false).putFlag SG_LC_ID_VALID false).newNonce.warmDegr

/-- A warm restart, from its request to the start of bisque (R439): ignored in LOCKDOWN, which faults still on their way
may yet enter. (DEDUCED, notes/assumptions/70.md) -/
def State.warmRestart (s : State) (cause : Nat) : State :=
  if s.mode = modeLockdown then s
  else
    let s1 := s.setDevSafe.relinquish.settleFaults
    if s1.mode = modeLockdown then s1
    else
      let s2 := (s1.sealSegment s1.fn false).endSession.stopQueues.onHost (fun (h : HostIf) => { h with flash := none, checks := [], restart := none, parked := [] })
      let s3 := (s2.warmReset.setIsr HI_ISR_RESTART).putFlag HI_STAT_READY false
      let s4 := (s3.retain RET_WARM_CNT (natLe 4 (min ((s3.fixed (retBase + 0x98)).toNat % 2 ^ 32 + 1) (2 ^ RET_WARM_CNT_CNT.width - 1)))).put PM_RST_CAUSE_CAUSE cause
      ((s4.putFlag PM_RST_CAUSE_AON_KEPT true).enterMode modeBisque).refreshOuts

/-- The causes of `PM_RST_CAUSE`. -/
def causeWarm : Nat := 2
def causeWdKw : Nat := 3
def causeTrial : Nat := 4

/-- `PM_CTRL_WARM` (R439): `PM_CTRL` written with WARM. -/
def execPmCtrlWarm (m : Master) (s : State) : Host.Outcome State Fault Refusal :=
  .next (s.portal m PM_CTRL (m == 0) (s.warmRestart causeWarm))

/-- A trial of the other half set up in the boot record (R390). -/
def State.startTrial (s : State) : State :=
  (s.onSag (fun x => { x with trial := true, tries := 0 })).syncBoot

/-- A warm restart with or without ACTIVATE; in LOCKDOWN it has no effect (R390, R439). -/
def State.warmRequest (s : State) (activate : Bool) : State :=
  if s.mode = modeLockdown then s else (s.when activate State.startTrial).warmRestart causeWarm

/-- The warm restart of WARM_RESTART begins when its time has come, 100 µs after the completion (R376).
(DESIGN CHOICE, notes/assumptions/122.md) -/
def State.dueRestart (s : State) : State :=
  match s.host.restart with
  | some (t, activate) => if t ≤ s.tt then (s.onHost (fun h => { h with restart := none })).warmRequest activate else s
  | none => s

/-- `PM_CTRL_WARM_ACTIVATE` (R390): `PM_CTRL` written with WARM and ACTIVATE. -/
def execPmCtrlWarmActivate (m : Master) (s : State) : Host.Outcome State Fault Refusal :=
  .next (s.portal m PM_CTRL (m == 0) (s.warmRequest true))

/-! ### Boot failures (R390, R410, R412) -/

/-- A failed attempt on the trial half (R390): the third rolls back to the other half.
(DEDUCED, notes/assumptions/110.md) -/
def State.trialFail (s : State) : State :=
  let n := s.sag.tries + 1
  let s1 := if n < 3 then s.onSag (fun x => { x with tries := n })
    else (s.onSag (fun x => { x with trial := false, tries := 3, rolledBack := some (!x.active) })).putFlag CF_STAT_ROLLBACK true
  s1.syncBoot.warmRestart causeTrial

/-- The device halted in BISQUE or GLOST, with `SG_BOOT_STAT` (R410). -/
def State.haltBoot (s : State) (stage code : Nat) : State :=
  (((s.put SG_BOOT_STAT_STAGE stage).put SG_BOOT_STAT_CODE code).putFlag SG_BOOT_STAT_HALF (s.flag CF_STAT_ACTIVE)).onSag
    (fun x => { x with halted := true })

/-- A failure that counts as an attempt on a trial half and halts otherwise (R410, R412). -/
def State.bootFail (s : State) (stage code : Nat) : State :=
  let s1 := ((s.put SG_BOOT_STAT_STAGE stage).put SG_BOOT_STAT_CODE code).putFlag SG_BOOT_STAT_HALF (s.flag CF_STAT_ACTIVE)
  if s.sag.trial then s1.trialFail else s1.haltBoot stage code

/-- `GLOST_TIMEOUT` (R412): glost has not completed within 1.5 s. (DESIGN CHOICE, notes/assumptions/122.md) -/
def execGlostTimeout (s : State) : Host.Outcome State Fault Refusal :=
  .next (if s.mode = modeGlost ∧ !s.sag.halted ∧ s.sag.glostTt + sKclk + sKclk / 2 ≤ s.tt then s.bootFail 2 0 else s)

/-! ### Supplies, clocks and temperature (R422, R457, R469) -/

/-- The bit of `PM_RAIL_STAT` that a rail counts towards (R469). (DEDUCED, notes/assumptions/119.md) -/
def railBit (r : Nat) : Nat :=
  if r < 3 then r else if r < 5 then 3 else if r = 5 then 4 else if r < 9 then 5 else 6

/-- `PWR_WARN` (R457): a rail outside ±5 % for 1 µs. -/
def execPwrWarn (r : Rail) (s : State) : Host.Outcome State Fault Refusal :=
  .next ((s.bump PM_WARN_CNT_CNT).raise F_PWR_WARN r)

/-- The rail VDD_IO (R469). -/
def railIo : Nat := 5

/-- `PWR_RAIL` (R457): rails 3 to 9 outside ±10 % for 1 µs; rails 0 to 2 have no such fault. Without VDD_IO the outputs
are at the levels to which the board pulls them (R174, R442). (DEDUCED, notes/assumptions/119.md) -/
def execPwrRail (r : Rail) (s : State) : Host.Outcome State Fault Refusal :=
  .next (if r.val < 3 then s
  else
    let s1 := (s.put PM_RAIL_STAT_GOOD (withBits (s.get PM_RAIL_STAT_GOOD) (railBit r.val) 1 0)).raise F_PWR_RAIL r
    if r.val = railIo then (s1.onOuts (fun x => { x with ioLost := true })).refreshOuts else s1)

/-- A reference clock's PLL out of lock. (DEDUCED, notes/assumptions/119.md) -/
def State.loseLock (s : State) (bit : Nat) (id : Nat) : State :=
  (s.put PM_CLK_STAT_LOCK (withBits (s.get PM_CLK_STAT_LOCK) bit 1 0)).raise id 0

/-- `CLK_LINK_LOSS` (R457, R481): the SSC acts from SOSC. -/
def execClkLinkLoss (s : State) : Host.Outcome State Fault Refusal :=
  .next (s.setDevSafe.loseLock 0 F_CLK_LINK_LOSS)

/-- `CLK_PCIE_LOSS` (R457). -/
def execClkPcieLoss (s : State) : Host.Outcome State Fault Refusal :=
  .next (s.loseLock 1 F_CLK_PCIE_LOSS)

/-- `CLK_SYS_LOSS` (R457). -/
def execClkSysLoss (s : State) : Host.Outcome State Fault Refusal :=
  .next (s.loseLock 2 F_CLK_SYS_LOSS)

/-- `TJ_HIGH` (R457): the junction at a temperature; 105 °C and above raise the fault. -/
def execTjHigh (t : Nat) (s : State) : Host.Outcome State Fault Refusal :=
  .next (let s1 := s.put PM_TJ_C t; if 105 ≤ t then s1.raise F_TJ_HIGH t else s1)

end Sys2Proof.Machine
end

