-- ==== Sys2Proof/Machine/Watchdog.lean ====
section
/-! DEFINITION. The watchdogs, the Cone Monitor and RETAINED (R14, R334, R338 to R348). -/

namespace Sys2Proof.Machine

/-! ### The watchdog (R338 to R344) -/

/-- The opening count O (R338): k is fuse WDWIN. -/
def State.wdOpen (s : State) (g : Group) : Nat :=
  s.get (WD_PERIOD_US g) * bitsOf (s.fuse 0).toNat 4 3 / 8

/-- Whether an erase of the code flash that master g requested runs; only master 0 requests any (R343, R388). -/
def State.eraseRuns (s : State) (g : Group) : Bool :=
  decide (g.val = 0) && (match s.arch.flash with | some o => o.erase | none => false)

/-- Whether a group's watchdog stands still (R338, R343). -/
def State.wdFrozen (s : State) (g : Group) : Bool :=
  let st := s.get (LS_STAT_STATE g)
  decide (s.mode ≤ modeGlost) || s.poweredOff g || st == lsStopped || (st == lsHalted && s.lifecycle != lcDeployed)
    || (s.eraseRuns g && decide (s.get (WD_FRZ_US g) < 500000))

/-- Whether a KEY1 is pending (R339). -/
def State.key1Pending (s : State) (g : Group) : Bool :=
  match (s.core g).key1 with
  | some t => decide (s.sosc < t + 16)
  | none => false

/-- The pending KEY1 gone. (DEDUCED, notes/assumptions/86.md) -/
def State.dropKey1 (s : State) (g : Group) : State :=
  (s.onCore g (fun c => { c with key1 := none })).putFlag (WD_STAT_KEY1 g) false

/-- First-stage expiry (R342). (DEDUCED, notes/assumptions/86.md) -/
def State.wdFirst (s : State) (g : Group) : State :=
  let s1 := (((s.dropKey1 g).bump (WD_WARN_CNT_CNT g)).putFlag (WD_STAT_STAGE g) true).put (WD_COUNT_US g) 0
  (s1.raiseSrc (384 + g.val)).raise F_WD_WARN g

/-- Second-stage expiry (R342, R344): the SSC latches are set at once (R336). (DEDUCED, notes/assumptions/86.md) -/
def State.wdSecond (s : State) (g : Group) : State :=
  let s1 := (((s.dropKey1 g).put (WD_COUNT_US g) 0).retain (RET_WD_RST g)
    (natLe 4 (min ((s.fixed (retBase + g * 16)).toNat % 2 ^ (RET_WD_RST_COUNT g).width + 1) (2 ^ (RET_WD_RST_COUNT g).width - 1)))).retain (RET_WD_RST_FN g) (natLe 8 s.fn)
  if g.val = 0 then (s1.setDevSafe.raise F_WD_EXPIRE_KW 0).warmRestart causeWdKw
  else ((s1.put SSC_STAT_GHOLD (withBits (s1.get SSC_STAT_GHOLD) g 1 1)).refreshOuts).raise F_WD_EXPIRE_APP g

/-- An expiry in the stage that the watchdog is in. (DEDUCED, notes/assumptions/86.md) -/
def State.wdExpiry (s : State) (g : Group) : State :=
  if s.flag (WD_STAT_STAGE g) then s.wdSecond g else s.wdFirst g

/-- An invalid service with its cause (R340, R341): an expiry, but for one at the period's end. -/
def State.wdInvalid (s : State) (g : Group) (cause : Nat) : State :=
  let s1 := (s.putFlag (WD_STAT_INVALID g) true).put (WD_STAT_INV_CAUSE g) cause
  let s2 := s1.raise F_WD_INVALID (g.val + cause * 256)
  if cause = 5 then s2 else s2.wdExpiry g

/-- A valid service (R339, R342). -/
def State.wdService (s : State) (g : Group) : State :=
  let s1 := ((s.dropKey1 g).put (WD_COUNT_US g) 0).bump (WD_SVC_CNT_CNT g)
  if s.flag (WD_STAT_STAGE g) then
    (((s1.putFlag (WD_STAT_STAGE g) false).putFlag (WD_STAT_LATE g) true).bump (WD_LATE_CNT_CNT g)).raise F_WD_LATE g
  else s1

/-- Whether `CM_CTRL.GATE` is 1: fuse CMGATE_LOCK makes it so (R348). -/
def State.coneGate (s : State) (g : Group) : Bool :=
  s.flag (CM_CTRL_GATE g) || (s.fuse 0).toNat.testBit 7

/-- Whether the count has reached its period in this count of SOSC time, its expiry taken or not (R340).
(DEDUCED, notes/assumptions/86.md) -/
def State.wdAtEnd (s : State) (g : Group) : Bool :=
  decide (s.get (WD_PERIOD_US g) ≤ s.get (WD_COUNT_US g)) || decide ((s.core g).expired = some s.sosc)

/-- A key write judged in the order of R341; a KEY2 in the count of an expiry, after a KEY1 pending at that count,
belongs to it (R340), even though the expiry discards the KEY1. (DEDUCED, notes/assumptions/86.md) -/
def State.wdKey (s : State) (g : Group) (v : Word) : State :=
  let key := v.toNat % 65536
  let c := s.get (WD_COUNT_US g)
  let k := s.core g
  let ready := s.key1Pending g || (k.key1Then && k.expired == some s.sosc)
  if key ≠ 0xB15C ∧ key ≠ 0x4EA3 then s.wdInvalid g 2
  else if key = 0xB15C then
    if s.key1Pending g then s.wdInvalid g 3
    else (s.onCore g (fun x => { x with key1 := some s.sosc })).putFlag (WD_STAT_KEY1 g) true
  else if !ready then s.wdInvalid g 3
  else if s.coneGate g && !s.flag (CM_VERDICT_CLEAN g) then s.wdInvalid g 4
  else if s.wdAtEnd g then s.wdInvalid g 5
  else if c < s.wdOpen g ∧ !s.flag (WD_STAT_STAGE g) then s.wdInvalid g 1
  else s.wdService g

/-- `WD_KEY_WRITE` (R339, R341): by the group's own master. -/
def execWdKeyWrite (g : Group) (m : Master) (v : Word) (s : State) : Host.Outcome State Fault Refusal :=
  .next (s.portal m (WD_KEY g) (m.val == g.val) (s.wdKey g v))

/-- `WD_KEY1_LAPSE` (R339): 16 µs after its write. (DEDUCED, notes/assumptions/86.md) -/
def execWdKey1Lapse (g : Group) (s : State) : Host.Outcome State Fault Refusal :=
  .next (if (s.core g).key1.isSome && !s.key1Pending g then s.dropKey1 g else s)

/-- Whether a group's count has reached its period. -/
def State.wdDue (s : State) (g : Group) : Bool :=
  s.hasGroup g && decide (s.get (WD_PERIOD_US g) ≤ s.get (WD_COUNT_US g))

/-- The count that an expiry has met is kept, and whether a KEY1 was pending at it (R340).
(DEDUCED, notes/assumptions/86.md) -/
def State.markExpiry (s : State) (g : Group) : State :=
  s.onCore g (fun c => { c with expired := some s.sosc, key1Then := s.key1Pending g })

/-- `WD_WARN` (R342): the count reaches the period in the first stage. -/
def execWdWarn (g : Group) (s : State) : Host.Outcome State Fault Refusal :=
  .next (if s.wdDue g && !s.flag (WD_STAT_STAGE g) then (s.markExpiry g).wdFirst g else s)

/-- `WD_EXPIRE` (R342): the count reaches the period in the second stage. -/
def execWdExpire (g : Group) (s : State) : Host.Outcome State Fault Refusal :=
  .next (if s.wdDue g && s.flag (WD_STAT_STAGE g) then (s.markExpiry g).wdSecond g else s)

/-- `WD_FREEZE_CAP` (R343): the erase freeze has reached 500 ms. -/
def execWdFreezeCap (g : Group) (s : State) : Host.Outcome State Fault Refusal :=
  .next (if s.hasGroup g && decide (500000 ≤ s.get (WD_FRZ_US g)) && !(s.core g).frzCapped then
    (s.onCore g (fun c => { c with frzCapped := true })).raise F_WD_FREEZE_CAP g
  else s)

/-- `WD_TIMEBASE` (R334): the ticks of 1 µs that SOSC gave in 1 ms of KCLK time differ by more than 10 %. -/
def execWdTimebase (ticks : Nat) (s : State) : Host.Outcome State Fault Refusal :=
  .next (if ticks < 900 ∨ 1100 < ticks then s.raise F_WD_TIMEBASE 0 else s)

/-! ### The Cone Monitor (R345 to R347) -/

/-- `CM_BEND` (R345). (DEDUCED, notes/assumptions/87.md) -/
def execCmBend (g : Group) (m : Master) (v : Word) (s : State) : Host.Outcome State Fault Refusal :=
  let c := bitsOf v.toNat 0 5
  .next (s.portal m (CM_BEND g) (m.val == g.val) (if s.flag (CM_CONE_CFG_EN g c) then s.bump (CM_CNT_NOW g c) else s.bump (CM_BAD_CNT_CNT g)))

/-- `CM_START` (R346): `CM_CTRL` written with START. (DEDUCED, notes/assumptions/87.md) -/
def execCmStart (g : Group) (m : Master) (s : State) : Host.Outcome State Fault Refusal :=
  .next (s.portal m (CM_CTRL g) (m.val == g.val) (s.putFlag (CM_CTRL_STARTED g) true))

/-- The counts of the firing that ends latched, and those of the new one begun (R346). -/
def State.latchCones (s : State) (g : Group) : State :=
  s.each (List.range 32) (fun s c => (s.put (CM_CNT_LAST g c) (s.get (CM_CNT_NOW g c))).put (CM_CNT_NOW g c) 0)

/-- What an evaluation finds: the cones set, and the highest class that they ask for (R346, R347). -/
structure ConeMap where
  map : Nat := 0
  cls : Nat := 0
  deriving DecidableEq, Repr

/-- The cones whose latched count compares with EXP by a test, with the classes of a field. -/
def State.coneMap (s : State) (g : Group) (test : Nat → Nat → Bool) (cls : Nat → Fld) : ConeMap :=
  let hit := (List.range 32).filter (fun c => s.flag (CM_CONE_CFG_EN g c) && test (s.get (CM_CNT_LAST g c)) (s.get (CM_CONE_CFG_EXP g c)))
  { map := hit.foldl (fun a c => a + 2 ^ c) 0, cls := hit.foldl (fun a c => max a (s.get (cls c))) 0 }

/-- The verdict on a group's firing, with the configuration in effect throughout it: over-counts, under-counts, and
whether the firing is skipped (R346). -/
structure ConeVerdict where
  g : Group
  above : ConeMap
  below : ConeMap
  skip : Bool
  deriving DecidableEq, Repr

/-- The verdict on the firing that ends. (DEDUCED, notes/assumptions/87.md) -/
def State.verdict (s : State) (g : Group) : ConeVerdict :=
  { g := g, above := s.coneMap g (fun n e => decide (e < n)) (fun c => CM_CONE_CFG_R_OVER g c),
    below := s.coneMap g (fun n e => decide (n < e)) (fun c => CM_CONE_CFG_R_UNDER g c),
    skip := (s.core g).broken || !(s.core g).startedT0 }

/-- The detail of a cone fault (R334): the group, the lowest cone set, the number of cones set. -/
def coneDetail (g : Group) (map : Nat) : Nat :=
  g.val + ((List.range 32).find? (fun c => map.testBit c)).getD 0 * 256 + onesBelow 32 map * 65536

/-- A cone fault raised with the class that its cones ask for (R347). -/
def State.raiseCone (s : State) (id : Nat) (g : Group) (m : ConeMap) : State :=
  if m.map = 0 then s else { s with fcuIn := s.fcuIn ++ [⟨id, coneDetail g m.map, false, m.cls, s.tt⟩] }

/-- A verdict recorded (R346, R348). (DEDUCED, notes/assumptions/87.md) -/
def State.applyVerdict (s : State) (f : Nat) (v : ConeVerdict) : State :=
  let g := v.g
  let s1 := (s.wr64 (CM_VFN g) f).putFlag (CM_VERDICT_SKIPPED g) v.skip
  if v.skip then ((s1.put (CM_OVER_MAP g) 0).put (CM_UNDER_MAP g) 0).bump (CM_SKIP_CNT_CNT g)
  else
    let s2 := ((s1.put (CM_OVER_MAP g) v.above.map).put (CM_UNDER_MAP g) v.below.map).putFlag (CM_VERDICT_CLEAN g)
      (v.above.map == 0 && v.below.map == 0)
    let s3 := (s2.when (v.above.map != 0) (fun s => s.bump (CM_OVER_CNT_CNT g))).when (v.below.map != 0) (fun s => s.bump (CM_UNDER_CNT_CNT g))
    let s4 := (s3.raiseCone F_CONE_OVER g v.above).raiseCone F_CONE_UNDER g v.below
    s4.when (v.above.map != 0 || v.below.map != 0) (fun s => s.raiseSrc (392 + g.val))

/-- A commit of `CM_CTRL` (R348): GATE; fuse CMGATE_LOCK ignores the write. (DEDUCED, notes/assumptions/87.md) -/
def State.commitCmCtrl (s : State) (g : Group) (v : Word) : State :=
  if (s.fuse 0).toNat.testBit 7 then s else s.putFlag (CM_CTRL_GATE g) (v.toNat.testBit 0)

/-! ### RETAINED (R14) -/

/-- `RET_CLEAR` (R14): `RET_CTRL` written with CLR; refused outside MAINTENANCE. -/
def execRetClear (m : Master) (s : State) : Host.Outcome State Fault Refusal :=
  .next (s.portal m RET_CTRL (m == 0) (if s.mode ≠ modeMaintenance then s
  else s.wipeRetained 0x910000 0x91009C))

end Sys2Proof.Machine
end

