-- ==== Sys2Proof/Machine/HostQueue.lean ====
section
/-! DEFINITION. The endpoint and its queues: doorbells, fetch, completions, MSI-X, power and link states, the register mirror
and BAR2 (R352 to R361, R372 to R380). -/

namespace Sys2Proof.Machine

/-! ### Functions (R353, R374) -/

/-- The function that owns a queue pair (R353). -/
def qFunc (q : Nat) : Fin 2 :=
  if q < 16 then 0 else 1

/-- The queue pairs of a function. -/
def queuesOf (f : Fin 2) : List Nat :=
  (List.range 64).filter (fun q => qFunc q == f)

/-- A function's device ID, class code and subsystem IDs (R353); the subsystem IDs are fused. -/
def State.deviceId (s : State) (f : Fin 2) : Nat :=
  0x7300 + s.part.code + 0x80 * f.val
def classCode : Nat := 0x118000
def subsystemIds : Word := Config.subsystem

/-- A function's power state and its Bus Master Enable in `HI_STAT`. -/
def pfState (f : Fin 2) : Fld :=
  if f = 0 then HI_STAT_PF0_D else HI_STAT_PF1_D
def pfBme (f : Fin 2) : Fld :=
  if f = 0 then HI_STAT_PF0_BME else HI_STAT_PF1_BME

/-- Whether a function is in D3hot. -/
def State.inD3 (s : State) (f : Fin 2) : Bool :=
  s.get (pfState f) == 3

/-- Whether a function's completions are held: D3hot, Bus Master Enable 0, or MSI-X disabled (R374).
(DEDUCED, notes/assumptions/98.md) -/
def State.holdsCpl (s : State) (f : Fin 2) : Bool :=
  s.inD3 f || !s.flag (pfBme f) || !s.host.msixOn.get f

/-- Whether a queue pair is enabled and not stopped. -/
def State.queueRuns (s : State) (q : Nat) : Bool :=
  s.flag (HQ_CTRL_EN q) && s.flag (HQ_STAT_RUN q)

/-- The ring sizes of a queue pair (R356). -/
def State.sqSize (s : State) (q : Nat) : Nat :=
  2 ^ s.get (HQ_SIZE_SQ_LOG2 q)
def State.cqSize (s : State) (q : Nat) : Nat :=
  2 ^ s.get (HQ_SIZE_CQ_LOG2 q)

/-- The distance from one ring index to another. -/
def ringDist (n a b : Nat) : Nat :=
  (b + n - a % n) % n

/-! ### MSI-X (R353, R372) -/

/-- A word of a function's MSI-X table; a vector is masked at reset. (PRESUMED, notes/assumptions/101.md) -/
def State.msixWord (s : State) (f : Fin 2) (w : Nat) : Word :=
  (lookup s.host.table (2048 * f.val + w)).getD (if w % 4 = 3 then 1 else 0)

/-- Whether a vector is masked. -/
def State.vecMasked (s : State) (f : Fin 2) (v : Nat) : Bool :=
  (s.msixWord f (4 * v + 3)).toNat.testBit 0

/-- A vector's pending bit set. -/
def State.setPba (s : State) (f : Fin 2) (v : Nat) : State :=
  let k := 256 * f.val + v
  s.onHost (fun h => { h with pba := if h.pba.contains k then h.pba else h.pba ++ [k] })

/-- The link brought to L0 for a request of the device (R373). (DEDUCED, notes/assumptions/98.md) -/
def State.wakeLink (s : State) : State :=
  s.when (decide (2 ≤ s.get HI_STAT_LPM)) (fun s => s.put HI_STAT_LPM 0)

/-- A message of a vector: sent, or left pending while the vector is masked or the function may not send it.
(DESIGN CHOICE, notes/assumptions/121.md) -/
def State.sendMsix (s : State) (f : Fin 2) (v : Nat) : State :=
  if s.vecMasked f v || s.holdsCpl f then s.setPba f v
  else (s.onHost (fun h => { h with msgs := h.msgs ++ [(f.val, v)] })).wakeLink

/-- A pending vector delivered where nothing holds it any more. -/
def State.deliverPba (s : State) (f : Fin 2) (v : Nat) : State :=
  let k := 256 * f.val + v
  if s.host.pba.contains k && !s.vecMasked f v && !s.holdsCpl f then
    (s.onHost (fun h => { h with pba := h.pba.filter (fun x => x != k), msgs := h.msgs ++ [(f.val, v)] })).wakeLink
  else s

/-- Whether a message is due for a queue pair (R372). -/
def State.cqDue (s : State) (q : Nat) : Bool :=
  let n := s.get (HQ_UNSIG_N q)
  s.flag (HQ_CTRL_EN q) && decide (0 < n)
    && (decide (s.get (HQ_MOD_CNT q) ≤ n) || decide ((s.hq q).oldest + s.get (HQ_MOD_TIME q) * usKclk ≤ s.tt))

/-- `MSIX_MESSAGE` (R372): one message serves every due CQ of the vector; vector 0 carries the function's share of
`HI_ISR` too. -/
def execMsixMessage (f : Fin 2) (v : Byte) (s : State) : Host.Outcome State Fault Refusal :=
  let due := (queuesOf f).filter (fun q => s.get (HQ_VEC_VEC q) == v.toNat && s.cqDue q)
  let isr := decide (v = 0) && s.host.isrDue.get f
  .next (if due.isEmpty && !isr then s
  else
    let s1 := s.each due (fun s q => s.put (HQ_UNSIG_N q) 0)
    let s2 := if isr then s1.onHost (fun h => { h with isrDue := h.isrDue.set f false }) else s1
    s2.sendMsix f v.toNat)

/-- `MSIX_VECTOR_UNMASK` (R372): a pending message follows. -/
def execMsixVectorUnmask (f : Fin 2) (v : Byte) (s : State) : Host.Outcome State Fault Refusal :=
  let k := 2048 * f.val + 4 * v.toNat + 3
  .next ((s.onHost (fun h => { h with table := setKey h.table k (s.msixWord f (4 * v.toNat + 3) &&& 0xFFFFFFFE) 1 })).deliverPba f v.toNat)

/-! ### Completions (R359, R361, R374) -/

/-- A PME of a function, if none is outstanding (R374). -/
def State.sendPme (s : State) (f : Fin 2) : State :=
  s.onHost (fun h => { h with pme := h.pme.set f true })

/-- A completion falls due (R361): held, with its vector pending, where R374 says so. -/
def State.pushCpl (s : State) (q : Nat) (c : Cpl) : State :=
  if !s.flag (HQ_CTRL_EN q) then s
  else
    let f := qFunc q
    let held := s.holdsCpl f
    let s1 := s.onHq q (fun h => { h with ready := h.ready ++ [{ c with held := held }] })
    if !held then s1
    else ((s1.putFlag (HQ_STAT_HELD q) true).setPba f (s.get (HQ_VEC_VEC q))).when (s.inD3 f) (fun s => s.sendPme f)

/-- The completions that are due and not written held from here on, with their vectors pending (R374).
(DEDUCED, notes/assumptions/98.md) -/
def State.holdReady (s : State) (f : Fin 2) : State :=
  let l := (queuesOf f).filter (fun q => !(s.hq q).ready.isEmpty)
  (s.each l (fun s q => ((s.onHq q (fun h => { h with ready := h.ready.map (fun c => { c with held := true }) })).putFlag
    (HQ_STAT_HELD q) true).setPba f (s.get (HQ_VEC_VEC q)))).when (!l.isEmpty && s.inD3 f) (fun s => s.sendPme f)

/-- The bytes of a completion (R361). -/
def Cpl.bytes (c : Cpl) (q : Nat) (phase : Bool) : Bytes :=
  natLe 4 c.tag ++ natLe 2 c.status ++ natLe 1 ((if phase then 1 else 0) + (if c.chain then 2 else 0) + (if c.held then 4 else 0))
    ++ natLe 1 q ++ natLe 8 c.cfn ++ (c.result ++ List.replicate 16 0).take 16

/-- The oldest completion due of a queue pair written into its CQ (R359), the link brought to L0 first (R373).
(DEDUCED, notes/assumptions/98.md) -/
def State.writeCpl (s : State) (q : Nat) : State :=
  match (s.hq q).ready with
  | [] => s
  | c :: rest =>
    let t := s.get (HQ_CQ_TAIL_IDX q)
    let n := s.cqSize q
    let phase := s.flag (HQ_CQ_TAIL_PHASE q)
    let a := s.rd64 (HQ_CQ_BASE q) / 4096 * 4096 + 32 * t
    let s1 := s.onHost (fun h => { h with out := h.out ++ [(a, c.bytes q phase)] })
    let first := s.get (HQ_UNSIG_N q) = 0
    let s2 := s1.onHq q (fun h => { h with ready := rest, resv := h.resv - 1, oldest := if first then s.tt else h.oldest })
    let s3 := (s2.put (HQ_CQ_TAIL_IDX q) ((t + 1) % n)).putFlag (HQ_CQ_TAIL_PHASE q) (phase != decide (t + 1 = n))
    let s4 := (((s3.put (HQ_UNSIG_N q) (s3.get (HQ_UNSIG_N q) + 1)).bump HI_CMD_CNT_CNT).bump (HQ_CMD_CNT_CNT q)).when (c.status != 0)
      (fun s => s.bump (HQ_ERR_CNT_CNT q))
    (s4.putFlag (HQ_STAT_HELD q) (rest.any (fun x => x.held))).wakeLink

/-- Whether a queue pair's completions can be written. (DEDUCED, notes/assumptions/97.md) -/
def State.canWrite (s : State) (q : Nat) : Bool :=
  s.queueRuns q && s.flag HI_STAT_LINK_UP && !s.holdsCpl (qFunc q)

/-- `HOST_COMPLETION_WRITE` (R359). (DEDUCED, notes/assumptions/98.md) -/
def execHostCompletionWrite (q : Queue) (s : State) : Host.Outcome State Fault Refusal :=
  .next (if s.canWrite q then s.writeCpl q else s)

/-- What was held of a function is written and delivered, where nothing holds it any more: the messages of the pending
vectors signal the entries of their queue pairs (R372, R374). (DEDUCED, notes/assumptions/98.md) -/
def State.releaseHeld (s : State) (f : Fin 2) : State :=
  if s.holdsCpl f then s
  else
    let s1 := s.each ((queuesOf f).filter (fun q => s.canWrite q)) (fun s q =>
      s.each ((s.hq q).ready.filter (fun c => c.held)) (fun s _ => s.writeCpl q))
    let s2 := s1.each ((queuesOf f).filter (fun q => s1.host.pba.contains (256 * f.val + s1.get (HQ_VEC_VEC q)))) (fun s q =>
      s.put (HQ_UNSIG_N q) 0)
    s2.each (List.range 256) (fun s v => s.deliverPba f v)

/-! ### Doorbells (R357, R379) -/

/-- A heartbeat of the host (R379). -/
def State.heartbeat (s : State) : State :=
  s.onHost (fun h => { h with hbTt := s.tt, lost := false })

/-- A write of a function discarded (R354, R357). -/
def State.mirrorReject (s : State) (f : Fin 2) : State :=
  ((s.bump HI_MIRROR_WREJ_CNT).raise F_HI_MIRROR_WREJ f).setIsr HI_ISR_MIRROR_WREJ

/-- A queue pair stopped by an error (R357, R358). -/
def State.queueError (s : State) (q : Nat) (id : Nat) : State :=
  ((s.putFlag (HQ_STAT_ERR q) true).putFlag (HQ_STAT_RUN q) false).raise id q

/-- A doorbell that a function writes, judged (R357, R364): discarded for a queue pair that is disabled, as every one is
while READY = 0, or not the function's; a stopped queue pair takes no more. -/
def State.doorbell (s : State) (q : Nat) (f : Fin 2) (act : State → State) : State :=
  let s1 := s.heartbeat
  if qFunc q ≠ f ∨ !s1.flag (HQ_CTRL_EN q) then s1.mirrorReject f
  else if s1.queueRuns q && s1.flag HI_STAT_READY then act s1 else s1

/-- A function's write of an SQ tail doorbell (R357). (DEDUCED, notes/assumptions/99.md) -/
def State.sqDoorbell (s : State) (q : Nat) (f : Fin 2) (v : Word) : State :=
  let n := s.sqSize q
  let used := ringDist n (s.get (HQ_SQ_HEAD_IDX q)) (s.get (HQ_SQ_TAIL_IDX q))
  s.doorbell q f (fun s =>
    if n ≤ v.toNat ∨ n - 1 < used + ringDist n (s.get (HQ_SQ_TAIL_IDX q)) v.toNat then s.queueError q F_HI_DOORBELL
    else s.put (HQ_SQ_TAIL_IDX q) v.toNat)

/-- A function's write of a CQ head doorbell (R357). (DEDUCED, notes/assumptions/99.md) -/
def State.cqDoorbell (s : State) (q : Nat) (f : Fin 2) (v : Word) : State :=
  let n := s.cqSize q
  let left := ringDist n (s.get (HQ_CQ_HEAD_IDX q)) (s.get (HQ_CQ_TAIL_IDX q))
  s.doorbell q f (fun s =>
    if n ≤ v.toNat ∨ left < ringDist n (s.get (HQ_CQ_HEAD_IDX q)) v.toNat then s.queueError q F_HI_DOORBELL
    else s.put (HQ_CQ_HEAD_IDX q) v.toNat)

/-- `HOST_SQ_DOORBELL` (R357). (DEDUCED, notes/assumptions/99.md) -/
def execHostSqDoorbell (q : Queue) (f : Fin 2) (v : Word) (s : State) : Host.Outcome State Fault Refusal :=
  .next (s.sqDoorbell q f v)

/-- `HOST_CQ_DOORBELL` (R357). -/
def execHostCqDoorbell (q : Queue) (f : Fin 2) (v : Word) (s : State) : Host.Outcome State Fault Refusal :=
  .next (s.cqDoorbell q f v)

/-! ### Fetch (R358) -/

/-- Whether a packet of a queue pair can be fetched: one is there, and a CQ slot can be reserved. -/
def State.fetchable (s : State) (q : Nat) : Bool :=
  let f := qFunc q
  let busy := ringDist (s.cqSize q) (s.get (HQ_CQ_HEAD_IDX q)) (s.get (HQ_CQ_TAIL_IDX q)) + (s.hq q).resv
  s.queueRuns q && s.flag HI_STAT_READY && s.flag HI_STAT_LINK_UP && !s.inD3 f && s.flag (pfBme f)
    && s.get (HQ_SQ_HEAD_IDX q) != s.get (HQ_SQ_TAIL_IDX q) && decide (busy + 1 < s.cqSize q)

/-- The queue pair whose turn it is: one whose chain is under way keeps it (R358). (DEDUCED, notes/assumptions/93.md) -/
def State.fetchTurn (s : State) : Option Nat :=
  let t := s.host.turn
  if (s.hq t).mid && s.fetchable t then some t
  else ((List.range 64).map (fun i => (t + 1 + i) % 64)).find? (fun q => s.fetchable q)

/-- `HOST_PACKET_FETCH` (R358): the next packet of the queue pair whose turn it is, or none where the fetch returns an
error. -/
def execHostPacketFetch (q : Queue) (p : Option Bytes) (s : State) : Host.Outcome State Fault Refusal :=
  .next (if s.fetchTurn ≠ some q.val then s
  else match p with
  | none => (s.queueError q F_HI_DMA_ERR).setIsr HI_ISR_DMA_ERR
  | some b =>
    let last := (b.getD 3 0).toNat.testBit 7
    let s1 := (s.put (HQ_SQ_HEAD_IDX q) ((s.get (HQ_SQ_HEAD_IDX q) + 1) % s.sqSize q)).wakeLink
    (s1.onHq q (fun h => { h with
      inbox := h.inbox ++ [(b ++ List.replicate 64 0).take 64], resv := h.resv + 1, mid := !last,
      chainTt := if h.mid then h.chainTt else s.tt })).onHost (fun h => { h with
        turn := q, order := if last && ((s.hq q).mid || pktStaged b) then h.order ++ [q.val] else h.order }))

/-! ### Queue configuration (R356) -/

/-- A write of a queue pair refused. -/
def State.hqReject (s : State) (q : Nat) : State :=
  s.putFlag (HQ_STAT_CFG_REJ q) true

/-- A queue pair enabled (R356). (DEDUCED, notes/assumptions/99.md) -/
def State.enableQueue (s : State) (q : Nat) : State :=
  let okLog (n : Nat) : Bool := decide (4 ≤ n) && decide (n ≤ 12)
  if s.flag (HQ_CTRL_EN q) then s
  else if !s.flag HI_STAT_READY || !okLog (s.get (HQ_SIZE_SQ_LOG2 q)) || !okLog (s.get (HQ_SIZE_CQ_LOG2 q)) then s.hqReject q
  else
    let s1 := (((s.wr (HQ_SQ_HEAD q) 0).wr (HQ_SQ_TAIL q) 0).wr (HQ_CQ_HEAD q) 0).wr (HQ_CQ_TAIL q) 0x10000
    ((s1.putFlag (HQ_CTRL_EN q) true).putFlag (HQ_STAT_RUN q) true).onHq q (fun _ => {})

/-- Whether a writer may write a queue pair's registers (R354, R381). -/
def hqOwner (q : Nat) (w : HqWriter) : Bool :=
  match w with
  | .master0 => true
  | .func f => qFunc q == f

/-- A write of a queue pair's register by a writer: a function that does not own it is discarded. -/
def State.hqWrites (s : State) (q : Nat) (w : HqWriter) (act : State → State) : State :=
  if hqOwner q w then act s
  else match w with
    | .func f => s.mirrorReject f
    | .master0 => s

/-- `HQ_ENABLE` (R356): `HQ_CTRL` written with EN = 1. -/
def execHqEnable (q : Queue) (w : HqWriter) (s : State) : Host.Outcome State Fault Refusal :=
  .next (s.hqWrites q w (fun s => s.enableQueue q))

/-- `HQ_DELETE` (R356): `HQ_CTRL` written with EN = 0. (DEDUCED, notes/assumptions/99.md) -/
def execHqDelete (q : Queue) (w : HqWriter) (s : State) : Host.Outcome State Fault Refusal :=
  .next (s.hqWrites q w (fun s => s.stopQueue q))

/-- A write of a word of a queue pair's block, by a writer that may make it (R356, R381). -/
def State.hqReg (s : State) (q rel : Nat) (v : Word) : State :=
  let off := HQ_SQ_BASE q + rel
  let idle (s' : State) : State := if s.flag (HQ_CTRL_EN q) then s.hqReject q else s'
  if rel = 0x00 ∨ rel = 0x08 then idle (s.wr off (v &&& 0xFFFFF000))
  else if rel = 0x04 ∨ rel = 0x0C then idle (s.wr off v)
  else if rel = 0x10 then idle (s.wr off (v &&& 0xF0F))
  else if rel = 0x14 then s.wr off (v &&& 0xFF)
  else if rel = 0x18 then s.wr off ((if v &&& 0xFF = 0 then v ||| 1 else v) &&& 0x3FF00FF)
  else if rel = 0x1C then if v.toNat.testBit 0 then s.enableQueue q else s.stopQueue q
  else if rel = 0x20 then if v.toNat.testBit 2 then s.putFlag (HQ_STAT_CFG_REJ q) false else s
  else s

/-! ### The host watchdog (R379) -/

/-- `HOST_HEARTBEAT` (R379): a write of `HI_HOST_HB`. -/
def execHostHeartbeat (m : Master) (s : State) : Host.Outcome State Fault Refusal :=
  .next (s.portal m HI_HOST_HB (m == 0 || m == 11) s.heartbeat)

/-- `HI_HOST_LOST` (R379). -/
def execHiHostLost (s : State) : Host.Outcome State Fault Refusal :=
  let per := s.get HI_HOST_WD_PER
  .next (if per ≠ 0 ∧ !s.host.lost ∧ s.host.hbTt + per * msKclk ≤ s.tt then
      ((s.onHost (fun h => { h with lost := true })).raise F_HI_HOST_LOST 0).setIsr HI_ISR_HOST_LOST
    else s)

/-- A write of `HI_HOST_WD` (R379): turned on, its period begins; otherwise a write is no heartbeat. -/
def State.hostWd (s : State) (v : Word) : State :=
  (s.put HI_HOST_WD_PER (bitsOf v.toNat 0 16)).when (s.get HI_HOST_WD_PER == 0) (fun s => s.onHost (fun h => { h with hbTt := s.tt }))

/-- A write of a word of the HI block by master 0 or through the mirror (R354, R381). A `HI_CFG.CHAIN_TO` of 0 is refused
(R483). -/
def State.hiReg (s : State) (off : Nat) (v : Word) : State :=
  if off = HI_ISR then s.wr HI_ISR (s.rd HI_ISR &&& ~~~v)
  else if off = HI_IER 0 ∨ off = HI_IER 1 then s.wr off (v &&& 0x1FF)
  else if off = HI_HOST_WD then s.hostWd v
  else if off = HI_HOST_HB then s.heartbeat
  else if off = HI_CFG ∧ bitsOf v.toNat 8 8 ≠ 0 then s.put HI_CFG_CHAIN_TO (bitsOf v.toNat 8 8)
  else s

/-! ### The register mirror and BAR2 (R353 to R355) -/

/-- A word of the MSI-X table written by its function; an unmasked vector's message follows. -/
def State.msixTable (s : State) (f : Fin 2) (w : Nat) (v : Word) : State :=
  let x := if w % 4 = 3 then v &&& 1 else if w % 4 = 0 then v &&& 0xFFFFFFFC else v
  (s.onHost (fun h => { h with table := setKey h.table (2048 * f.val + w) x (if w % 4 = 3 then 1 else 0) })).deliverPba f (w / 4)

/-- `MIRROR_WRITE` (R354): a write of a function at an offset of its BAR0. (DEDUCED, notes/assumptions/99.md) -/
def execMirrorWrite (f : Fin 2) (off : Nat) (v : Word) (s : State) : Host.Outcome State Fault Refusal :=
  .next (if off < 0x1000000 then
      if off = HI_ISR ∨ off = HI_IER f ∨ off = HI_HOST_WD ∨ off = HI_HOST_HB then s.hiReg off v
      else if 0x601000 ≤ off ∧ off < 0x602000 ∧ qFunc ((off - 0x601000) / 0x40) = f then
        s.hqReg ((off - 0x601000) / 0x40) ((off - 0x601000) % 0x40) v
      else s.mirrorReject f
    else if 0x1000000 ≤ off ∧ off < 0x1000400 ∧ off % 16 = 0 then s.sqDoorbell ((off - 0x1000000) / 16) f v
    else if 0x1000000 ≤ off ∧ off < 0x1000400 ∧ off % 16 = 8 then s.cqDoorbell ((off - 0x1000000) / 16) f v
    else if 0x2000000 ≤ off ∧ off < 0x2001000 then s.msixTable f ((off - 0x2000000) / 4) v
    else s)

/-- Whether the firewall denies some beat of a burst (R316, R319). -/
def State.deniesSome (s : State) (m a n : Nat) : Bool :=
  (List.range (n / 32 + 2)).any (fun i =>
    let b := if i = 0 then a else a / 32 * 32 + 32 * i
    decide (b < a + n) && s.judge m b true != .allow)

/-- `BAR2_WRITE` (R355): a burst of PF1; beyond usable HBM it is an Unsupported Request.
(DEDUCED, notes/assumptions/99.md) -/
def execBar2Write (off : Nat) (data : Bytes) (s : State) : Host.Outcome State Fault Refusal :=
  .next (if 0x700000000 ≤ off ∨ !s.flag HI_STAT_LINK_UP then s
  else
    let s1 := (s.busWrite 11 (hbmBase + off) data).1
    if s.deniesSome 11 (hbmBase + off) data.length then
      (((s1.bump HI_BAR2_WREJ_CNT).raise F_HI_BAR2_DENY 0).setIsr HI_ISR_BAR2_WREJ).onHost (fun h => { h with advisory := h.advisory + 1 })
    else s1)

/-- `HI_PCIE_UNCORR` (R380): an uncorrectable error by its AER status bit. -/
def execHiPcieUncorr (bit : Fin 32) (s : State) : Host.Outcome State Fault Refusal :=
  .next (s.raise F_HI_PCIE_UNCORR bit)

/-! ### Link, resets and power states (R373 to R377) -/

/-- A function's configuration space as a function-level reset leaves it: D0, Bus Master Enable 0, MSI-X disabled and its
table as at reset. (PRESUMED, notes/assumptions/101.md) -/
def State.resetFunction (s : State) (f : Fin 2) : State :=
  let s1 := (s.put (pfState f) 0).putFlag (pfBme f) false
  s1.onHost (fun (h : HostIf) => { h with
    msixOn := h.msixOn.set f false, pme := h.pme.set f false, isrDue := h.isrDue.set f false,
    pba := h.pba.filter (fun k => k / 256 != f.val), table := h.table.filter (fun e => e.1 / 2048 != f.val) })

/-- `HI_FLR` (R375). (PRESUMED, notes/assumptions/101.md) -/
def execHiFlr (f : Fin 2) (s : State) : Host.Outcome State Fault Refusal :=
  let s1 := (s.each (queuesOf f) State.stopQueue).resetFunction f
  .next (((s1.bump (if f = 0 then HI_FLR_CNT_PF0 else HI_FLR_CNT_PF1)).raise F_HI_FLR f).setIsr
    (if f = 0 then HI_ISR_FLR0 else HI_ISR_FLR1))

/-- The completions due that have not been written. -/
def State.unwritten (s : State) : Nat :=
  s.host.queues.foldl (fun n e => n + e.2.ready.length) 0

/-- Loss of the link (R377): both functions as under an FLR, the completions held discarded and counted.
(PRESUMED, notes/assumptions/101.md) -/
def State.linkLost (s : State) : State :=
  if !s.flag HI_STAT_LINK_UP then s
  else
    let s1 := (s.addTo HI_CPL_DROP_CNT s.unwritten).stopQueues
    let s2 := ((s1.resetFunction 0).resetFunction 1).put HI_STAT_LPM 0
    let s3 := (((s2.putFlag HI_STAT_LINK_UP false).put HI_STAT_GEN 0).put HI_STAT_WIDTH 0).putFlag HI_STAT_FLIT false
    ((s3.bump HI_LINKDOWN_CNT_CNT).raise F_HI_LINK_DOWN 0).setIsr HI_ISR_LINK_DOWN

/-- `HI_LINK_DOWN` (R377). -/
def execHiLinkDown (s : State) : Host.Outcome State Fault Refusal :=
  .next s.linkLost

/-- `PERST_N_ASSERT` (R377, R437): the host path as under link loss, and configuration space reset. -/
def execPerstNAssert (s : State) : Host.Outcome State Fault Refusal :=
  .next ((s.linkLost.resetFunction 0).resetFunction 1)

/-- `LINK_UP` (R352, R377): the link trains to a rate and a width that no rule fixes.
(PRESUMED, notes/assumptions/101.md) -/
def execLinkUp (s : State) : Host.Outcome State Fault Refusal :=
  .next (if s.flag HI_STAT_LINK_UP then s
  else
    let (k, s1) := s.draw
    let gen := 1 + Config.linkTrain k % 6
    let s2 := ((s1.putFlag HI_STAT_LINK_UP true).put HI_STAT_GEN gen).put HI_STAT_WIDTH (2 ^ (Config.linkTrain k / 6 % 4))
    (s2.putFlag HI_STAT_FLIT (gen == 6)).put HI_STAT_LPM 0)

/-- `LINK_POWER_STATE_CHANGE` (R373). -/
def execLinkPowerStateChange (lpm : Fin 8) (s : State) : Host.Outcome State Fault Refusal :=
  .next (if s.flag HI_STAT_LINK_UP ∧ lpm.val < 4 then s.put HI_STAT_LPM lpm else s)

/-- `D3HOT_ENTRY` (R374). -/
def execD3hotEntry (f : Fin 2) (s : State) : Host.Outcome State Fault Refusal :=
  let l := (queuesOf f).filter (fun q => decide (0 < s.get (HQ_UNSIG_N q)))
  let s1 := (s.put (pfState f) 3).each l (fun s q => s.setPba f (s.get (HQ_VEC_VEC q)))
  .next ((if l.isEmpty then s1 else s1.sendPme f).holdReady f)

/-- `D0_RETURN` (R374). -/
def execD0Return (f : Fin 2) (s : State) : Host.Outcome State Fault Refusal :=
  .next (((s.put (pfState f) 0).onHost (fun h => { h with pme := h.pme.set f false })).releaseHeld f)

/-- `BUS_MASTER_DISABLE` (R374, R380): Bus Master Enable or MSI-X enable cleared.
(PRESUMED, notes/assumptions/101.md) -/
def execBusMasterDisable (f : Fin 2) (b : BmeBit) (s : State) : Host.Outcome State Fault Refusal :=
  .next (match b with
  | .busMaster => if s.flag (pfBme f) then ((s.putFlag (pfBme f) false).raise F_HI_FLR f).holdReady f else s
  | .msix => (s.onHost (fun h => { h with msixOn := h.msixOn.set f false })).holdReady f)

/-- `BUS_MASTER_ENABLE` (R374). -/
def execBusMasterEnable (f : Fin 2) (b : BmeBit) (s : State) : Host.Outcome State Fault Refusal :=
  .next (match b with
  | .busMaster => (s.putFlag (pfBme f) true).releaseHeld f
  | .msix => (s.onHost (fun h => { h with msixOn := h.msixOn.set f true })).releaseHeld f)

end Sys2Proof.Machine
end

