-- ==== Sys2Proof/Machine/Scrub.lean ====
section
/-! DEFINITION. Scrubbing and raw access (R308 to R310). -/

namespace Sys2Proof.Machine

/-! ### Scrubbing (R308, R309, R385) -/

/-- Whether scrubbing of a memory is enabled. -/
def State.scrubOn (s : State) (i : Nat) : Bool :=
  if 32 ≤ i then s.flag SP_TILE_SCRUB_EN else s.flag (SP_SCRUB_CFG_EN i)

/-- `SCRUB_READ` (R309): the scrubber reads the next word of a memory and decodes it.
(DEDUCED, notes/assumptions/80.md) -/
def execScrubRead (i : MemIx) (s : State) : Host.Outcome State Fault Refusal :=
  .next (match memSize s.part i with
  | none => s
  | some size =>
    if s.scrubOn i then
      let x := s.scrubber i
      let a := memBase i + x.next
      let o := latDecode (s.syndrome a)
      let s1 := s.recordError i a o
      let s2 := if i.val = 3 ∧ o = .uncorrectable then s1.wheelLost (toIx 131072 (x.next / 32)) else s1
      let x2 := s2.scrubber i
      if x.next + 8 < size then s2.setScrubber i { x2 with next := x.next + 8 }
      else
        let s3 := s2.setScrubber i { x2 with next := 0, passStart := s.tt, stalled := false }
        if i.val < 32 then s3.bump (SP_PASS_CNT_CNT i) else s3
    else s)

/-- `SCRUB_WRITE_BACK` (R308): the first write-back queued for a memory is made. (DEDUCED, notes/assumptions/80.md) -/
def execScrubWriteBack (i : MemIx) (s : State) : Host.Outcome State Fault Refusal :=
  .next (match s.prot.writeBacks.find? (fun e => e.1 = i.val) with
  | none => s
  | some (_, a) =>
    let d := s.word64 a
    match latDecode (s.syndrome a) with
    | .dataBit b => s.writeWord a (d ^^^ BitVec.ofNat 64 (2 ^ b))
    | .checkBit => s.writeWord a d
    | .clean | .uncorrectable =>
      s.onProt (fun x => { x with writeBacks := s.prot.writeBacks.filter (fun e => e.2 ≠ a) }))

/-- `SCRUB_STALL` (R309): a pass not completed within 4 × words × PER FCLK. -/
def execScrubStall (i : MemIx) (s : State) : Host.Outcome State Fault Refusal :=
  .next (match memSize s.part i with
  | none => s
  | some size =>
    let x := s.scrubber i
    let per := if 32 ≤ i.val then s.get SP_TILE_SCRUB_PER else s.get (SP_SCRUB_CFG_PER i)
    if s.scrubOn i && !x.stalled && decide (4 * (size / 8) * per * 25 < (s.tt - x.passStart) * 24) then
      (s.setScrubber i { x with stalled := true }).raise F_SCRUB_STALL i
    else s)

/-! ### Raw access (R310) -/

/-- Whether raw access is permitted in the present mode (R310). -/
def State.rawOk (s : State) : Bool :=
  s.mode = modeGlost || s.mode = modeMaintenance

/-- Whether a tile is in service (R131). -/
def State.tileInService (s : State) (t : Nat) : Bool :=
  (s.get (if t < 32 then VE_TILE_OK_LO_MAP else VE_TILE_OK_HI_MAP)).testBit (t % 32)

/-- Whether a GO of raw access is accepted (R310). -/
def State.rawAccepts (s : State) (i off : Nat) : Bool :=
  s.rawOk && (match memSize s.part i with
    | none => false
    | some size => decide (off < size) && !(decide (8 ≤ i) && decide (i < 32) && s.poweredOff (i % 8))
      && !(decide (32 ≤ i) && s.tileInService (i - 32)))

/-- A GO of raw access (R310). (DEDUCED, notes/assumptions/80.md) -/
def State.rawGo (s : State) (m : Master) (wr : Bool) : State :=
  s.portal m SP_RAW_CTRL (m == 0) <|
  if s.prot.raw.isSome then s
  else
    let s0 := s.putFlag SP_RAW_CTRL_WR wr
    let i := s.get SP_RAW_CTRL_MEM
    let off := (s.rd SP_RAW_ADDR).toNat
    if s.rawAccepts i off then
      { s0.putFlag SP_RAW_CTRL_BUSY true with
        prot := { s0.prot with raw := some ⟨i, off, wr, BitVec.ofNat 64 (s.rd64 SP_RAW_DATA), BitVec.ofNat 16 (s.get SP_RAW_CHK_CHK)⟩ } }
    else s0.putFlag SP_STAT_CFG_REJ true

/-- `SP_RAW_READ` (R310): `SP_RAW_CTRL` written with GO and WR = 0. -/
def execSpRawRead (m : Master) (s : State) : Host.Outcome State Fault Refusal :=
  .next (s.rawGo m false)

/-- `SP_RAW_WRITE` (R310): `SP_RAW_CTRL` written with GO and WR = 1. -/
def execSpRawWrite (m : Master) (s : State) : Host.Outcome State Fault Refusal :=
  .next (s.rawGo m true)

/-- `SP_RAW_DONE` (R310): the access that runs is made with the values latched at its GO, and BUSY clears. -/
def execSpRawDone (s : State) : Host.Outcome State Fault Refusal :=
  .next (match s.prot.raw with
  | none => s
  | some r =>
    let s1 := (s.onProt (fun x => { x with raw := none })).putFlag SP_RAW_CTRL_BUSY false
    let a := memBase r.mem + r.off / 8 * 8
    if r.mem = 3 then s1.rawWheel r.wr (r.off / 8) r.data r.chk
    else if r.wr then (((s1.writeWord a r.data).setSyndrome a (r.chk ^^^ latEncode r.data))).raise F_LAT_RAW_WRITE r.mem
    else
      let d := s1.word64 a
      let syn := s1.syndrome a
      let chk := (latEncode d ^^^ syn).toNat
      (s1.wr64 SP_RAW_DATA d.toNat).wr SP_RAW_CHK (BitVec.ofNat 32 (chk + syn.toNat * 0x10000)))

end Sys2Proof.Machine
end

