-- ==== Sys2Proof/Machine/RegRead.lean ====
section
/-! DEFINITION. Reading registers: the words whose value is live, the masters that may read, read-clear fields and the latch of
high words (R4, R11, R12, R460, R461, R464, R482). -/

namespace Sys2Proof.Machine

/-! ### Readers (R207, R314, R432) -/

/-- The group whose LSG block an offset lies in, and the offset within it. -/
def lsgOf (off : Nat) : Nat × Nat :=
  ((off - 0x200000) / 0x10000, off % 0x10000)

/-- Whether a register accepts a read of a master (R207, R314, R432). (DEDUCED, notes/assumptions/26.md) -/
def mayRead (m off : Nat) : Bool :=
  if 0x200000 ≤ off ∧ off < 0x280000 then
    let (g, rel) := lsgOf off
    if rel < 0x1000 then m == g || m == 0 || m == 11 || m == 14
    else if rel < 0x2000 then m == g || m == 0 || m == 14
    else true
  else if (0x800080 ≤ off ∧ off < 0x8000C0) ∨ (0x801000 ≤ off ∧ off < 0x803000) then m == 14
  else true

/-! ### Live words -/

/-- The word of a 64-bit value that an offset names. -/
def halfOf (off v : Nat) : Nat :=
  if off % 8 = 0 then v else v / 2 ^ 32

/-- The bits of 32 numbers from `32 i` on that a test accepts. -/
def mapWord (i : Nat) (p : Nat → Bool) : Nat :=
  (List.range 32).foldl (fun a j => if p (32 * i + j) then a + 2 ^ j else a) 0

/-- The live words of TB (R52). -/
def State.liveTb (s : State) (off : Nat) : Option Nat :=
  if off = TB_FN ∨ off = TB_FN + 4 then some (halfOf off s.fn)
  else if off = TB_TT ∨ off = TB_TT + 4 then some (halfOf off s.tt)
  else if off = TB_STG_CNT then some s.stagedNext
  else if off = TB_NEXT_TGT ∨ off = TB_NEXT_TGT + 4 then
    some (halfOf off (unsignedOf 64 (satPv (s.kiln.t0 + (s.kiln.k + 1) * s.get TB_STEP_STEP))))
  else none

/-- The live words of a domain, as a master sees them (R22, R25, R30, R32, R36). -/
def State.liveDom (s : State) (d : Dom) (m : Master) (rel : Nat) : Option Nat :=
  let b := s.bank d m
  if rel = 0x20 ∨ rel = 0x24 then some (halfOf rel (unsignedOf 64 (s.pv d)))
  else if rel = 0x30 then some (unsignedOf 32 (s.velocity d).1)
  else if rel = 0x3C then some (unsignedOf 32 (roundPos (s.windowDiff d)))
  else if rel = 0x40 ∨ rel = 0x44 then
    some (halfOf rel (match (s.dom d).hist.getLast? with | some e => e.1 | none => (s.dom d).origin))
  else if rel = 0x48 then some (s.dom d).hist.length
  else if rel = 0x64 then some ((if b.busy.isSome then 1 else 0) + b.result.val * 2)
  else if rel = 0x68 ∨ rel = 0x6C then some (halfOf rel b.inp.toNat)
  else if rel = 0x70 ∨ rel = 0x74 then some (halfOf rel b.out.toNat)
  else if rel = 0x78 then some b.err.toNat
  else none

/-- Whether an entry of a group is in progress, d to d + 10 CCLK (R290). (DEDUCED, notes/assumptions/78.md) -/
def State.inEntry (s : State) (g : Group) : Bool :=
  match (s.core g).entry with
  | some e => decide ((s.tt - e.tt) * 32 ≤ 10 * 25)
  | none => false

/-- Whether an offset within a group's block is an MPU-control register. -/
def isMpuCtl (rel : Nat) : Bool :=
  rel == 0x1000 || (decide (0x1100 ≤ rel) && decide (rel < 0x1300) && decide (rel % 16 < 12))

/-- The value that the latest write in program order gave an MPU-control register, its shadow ended or not.
(DEDUCED, notes/assumptions/81.md) -/
def State.mpuWritten (s : State) (g : Group) (rel : Nat) : Word :=
  (s.core g).shadow.foldl (fun w x => if x.reg = .mpu rel then x.val else w) (s.rd (lsgBase g + rel))

/-- The live words of a group's block (R290, R314, R338, R348). -/
def State.liveGroup (s : State) (g : Group) (rel : Nat) : Option Nat :=
  let c := s.core g
  let bit (b : Bool) (k : Nat) : Nat := if b then 2 ^ k else 0
  if rel = 0x8 then some (withBits (s.rd (LS_STAT g)).toNat (LS_STAT_RETIRED g).lo 3 (s.get (LS_RETIRED_MAP g)))
  else if rel = 0x200C then some (s.wdOpen g + bitsOf (s.fuse 0).toNat 4 3 * 2 ^ (WD_OPEN_K g).lo)
  else if rel = 0x2010 then
    let now := (s.flag (WD_STAT_STAGE g) || decide (s.wdOpen g ≤ s.get (WD_COUNT_US g)))
      && decide (s.get (WD_COUNT_US g) < s.get (WD_PERIOD_US g))
    some ((s.rd (WD_STAT g)).toNat + bit now 1 + bit (s.wdFrozen g) 3)
  else if rel = 0x3000 then some ((s.rd (CM_CTRL g)).toNat ||| bit (s.coneGate g) 0)
  else if rel = 0x4004 then
    some (c.prio.val + bit c.ie 6 + bit (s.eligible g) 7 + bit (s.flag (LS_STAT_WAIT g)) 8 + bit (s.inEntry g) 9)
  else if isMpuCtl rel then some (s.mpuWritten g rel).toNat
  else if rel = 0x4028 then some ((List.range 512).filter (fun i => (s.get (SRC_STAT_GACT i)).testBit g)).length
  else none

/-- The live words of the distributor (R298). -/
def State.liveIc (s : State) (off : Nat) : Option Nat :=
  let i := (off - 0x304000) % 0x40 / 4
  if 0x304100 ≤ off ∧ off < 0x304140 then some (mapWord i (fun k => s.srcPending k))
  else if 0x304140 ≤ off ∧ off < 0x304180 then some (mapWord i (fun k => s.get (SRC_STAT_GACT k) != 0))
  else if 0x304180 ≤ off ∧ off < 0x3041C0 then some (mapWord i (fun k => s.orphans.contains k))
  else none

/-- The live bit of VE: admission in progress (R139, R151). -/
def State.admitting (s : State) : Bool :=
  s.kiln.running && s.flag VE_CTRL_EN && decide (s.rd64 TB_BTT + 264 ≤ s.tt) && decide (s.tt < s.rd64 TB_BTT + 400)

/-- The state of a tile (R151): a tile with a fault is out of service from the boundary after it. -/
def State.tileState (s : State) (t : Nat) : Nat :=
  if !s.tilesEnabled.contains t then 3
  else if s.ve.out.contains t && !s.tileInService t then 2
  else if (s.running t).isSome then 1
  else 0

/-- Whether the sagger's engines work (R420). -/
def State.sagBusy (s : State) : Bool :=
  s.sag.fuseOp.isSome || s.flag SG_PUF_CTRL_BUSY || !s.sagWants.isEmpty

/-- The bytes of an entry of the security log (R433); an entry that the log does not hold reads as zeros. -/
def State.eventBytes (s : State) (i : Nat) : Bytes :=
  match s.sag.events[i]? with
  | none => List.replicate 16 0
  | some e =>
    let b := natLe 8 e.fn ++ natLe 1 e.kind ++ natLe 3 e.detail
    b ++ natLe 4 (crc32c b).toNat

/-- The live words of SG (R405, R416, R426, R432, R433). (DESIGN CHOICE, notes/assumptions/88.md) -/
def State.liveSg (s : State) (off : Nat) : Option Nat :=
  let w := s.get SG_FUSE_ADDR_WORD
  if off = SG_LC then some (((s.rd SG_LC).toNat &&& 0x200) + s.lifecycle + (if s.killed then 0x100 else 0))
  else if off = SG_STAT then some ((s.rd SG_STAT).toNat ||| (if s.sagBusy then 2 else 0))
  else if off = SG_SVN_FLOOR then some (s.svnFloor 0 + s.svnFloor 1 * 0x100 + s.svnFloor 2 * 0x10000)
  else if off = SG_TAMP_STAT then some (Config.tampLevels s.tt % 16)
  else if off = SG_FUSE_READ then some (if 88 ≤ w ∧ w < 216 then 0 else (s.fuse w).toNat)
  else if 0x800060 ≤ off ∧ off < 0x800070 then some (leNat (((s.eventBytes (s.get SG_EVT_IDX_IDX)).drop (off - 0x800060)).take 4))
  else if off = SG_DBG_CTRL then some (withBits (s.rd SG_DBG_CTRL).toNat 5 2 s.debugLevel)
  else if 0x800300 ≤ off ∧ off < 0x800340 ∧ !s.flag SG_LC_ID_VALID then some 0
  else if 0x803000 ≤ off ∧ off < 0x803A20 then
    some (if s.flag SG_LC_ID_VALID then Config.identityKey (s.fuseBytes 88 128) / 2 ^ (8 * (off - 0x803000)) else 0)
  else none

/-- A word as a master reads it, without what the read does. (DEDUCED, notes/assumptions/118.md) -/
def State.view (s : State) (m : Master) (off : Nat) : Word :=
  let word := if off / 0x1000 = 0x910 then BitVec.ofNat 32 (halfOf off (s.fixed (off / 8 * 8 + 0x40000000)).toNat) else s.rd off
  let stored := (word &&& ~~~(woMask off)).toNat
  let live : Option Nat :=
    if off / 0x1000 = 0x10 then s.liveTb off
    else if 0x12000 ≤ off ∧ off < 0x12400 then s.liveDom (toIx 4 ((off - 0x12000) / 0x100)) m (off % 0x100)
    else if 0x200000 ≤ off ∧ off < 0x280000 then s.liveGroup (toIx 8 (lsgOf off).1) (lsgOf off).2
    else if off = VE_STAT then some (stored + (if s.admitting then 2 else 0))
    else if 0x160000 ≤ off ∧ off < 0x170000 ∧ off % 0x400 = 0 then some (stored + s.tileState ((off - 0x160000) / 0x400))
    else if 0x22000 ≤ off ∧ off < 0x22200 ∧ off % 0x40 = 0x30 then some (if s.groupHeld ((off - 0x22000) / 0x40) then 0x100 else 0)
    else if off / 0x1000 = 0x304 then s.liveIc off
    else if 0x300000 ≤ off ∧ off < 0x302000 ∧ off % 16 = 8 then some (stored ||| (if s.srcPending ((off - 0x300000) / 16) then 1 else 0))
    else if 0x400100 ≤ off ∧ off < 0x400140 then some (mapWord ((off - 0x400100) / 4) (fun i => s.flag (FLT_STAT_PEND i)))
    else if off / 0x10000 = 0x80 then s.liveSg off
    else if off = SP_STAT then some (stored + (if s.rawOk then 2 ^ SP_STAT_RAW_OK.lo else 0))
    else if off = HI_CFG then some (stored ||| (if (s.fuse 0).toNat.testBit 8 then 1 else 0))
    else if off = HI_PEND_CHAINS then some s.chains.length
    else if off = HI_ID then some (Config.vendorId.toNat % 0x10000 + s.deviceId 0 * 0x10000)
    else if off = TW_STAT then
      some (stored + (if s.tw.peerAct then 2 ^ TW_STAT_PEER_ACT.lo else 0) + (if s.twinAct then 2 ^ TW_STAT_ACT.lo else 0))
    else if off = DBG_STAT then
      some (stored + (if s.flag (LS_DBG_HALTED (s.get DBG_SEL_GROUP)) then 1 else 0) + s.debugLevel * 4)
    else none
  BitVec.ofNat 32 (live.getD stored)

/-! ### The access (R11, R12, R460, R482) -/

/-- The key of a latched high word. (DEDUCED, notes/assumptions/25.md) -/
def latchKey (m : Master) (off : Nat) : Nat :=
  m.val * 0x1000000 + off

/-- Whether a read by a master clears read-clear fields: not one through the mirror (R354), in HI by master 0 alone
(R381). (DEDUCED, notes/assumptions/25.md) -/
def clearsOnRead (m : Master) (off : Nat) : Bool :=
  m.val != 11 && (off / 0x10000 != 0x60 || m.val == 0)

/-- Whether a word counts events that the timing of instructions and accesses decides, wholly or in part: the speculative
counters of a group, the longest divide wait, `SP_WW_CNT` and `SP_CONF` (R227, R230, R301, R303). -/
def isTimed (off : Nat) : Bool :=
  let rel := off % 0x10000
  (decide (0x200000 ≤ off) && decide (off < 0x280000) && (rel == 0x100 || (decide (0x108 ≤ rel) && decide (rel ≤ 0x11C) && rel % 4 == 0)))
    || off == SP_WW_CNT || (decide (SP_CONF 0 ≤ off) && decide (off ≤ SP_CONF 15))

/-- `LS_P_ENTRY_WAIT` brought up to the present (R227): the longest divide wait of the entries since it was last brought
up, a free number of at most 20 CCLK; 0 where no entry waited. -/
def State.settleWait (s : State) (g : Group) : State :=
  if !(s.core g).waited then s
  else
    let (d, s1) := s.draw
    let n := Config.timingCount d (LS_P_ENTRY_WAIT_CCLK g).off % 21
    (s1.onCore g (fun c => { c with waited := false })).raiseTo (LS_P_ENTRY_WAIT_CCLK g) n

/-- A counter of `isTimed` brought up to the present: the events since it was last brought up, a free number, are added to
its word, which holds its maximum (R16). -/
def State.settle (s : State) (off : Nat) : State :=
  if !isTimed off || (lookup s.timing off).getD 0 == s.tt then s
  else if decide (0x200000 ≤ off) && decide (off < 0x280000) && off % 0x10000 == 0x11C then s.settleWait (toIx 8 (lsgOf off).1)
  else
    let n := Config.timingCount s.draws off
    let s1 : State := { s with timing := setKey s.timing off s.tt 0, draws := s.draws + 1 }
    s1.wr off (BitVec.ofNat 32 (min ((s.rd off).toNat + n) (2 ^ 32 - 1)))

/-- A read of a word that a register table lists, by a master that may read it. -/
def State.readListed (s0 : State) (m : Master) (off : Nat) (r : RegRow) : State × Word :=
  let s := s0.settle off
  match lookup s.latched (latchKey m off) with
  | some w => ({ s with latched := dropKey s.latched (latchKey m off) }, w)
  | none =>
    let w := s.view m off
    let rc := BitVec.ofNat 32 r.rc
    let s1 := if r.rc ≠ 0 ∧ clearsOnRead m off then s.wr off ((s.rd off &&& ~~~rc) ||| (regReset s.part off &&& rc)) else s
    (if r.wide then { s1 with latched := putKey s1.latched (latchKey m (off + 4)) (s.view m (off + 4)) } else s1, w)

/-- A read of a register of RETAINED goes through the lattice code (R299, R305, R308). -/
def State.readRetained (s : State) (off : Nat) : State × Bool :=
  let (t, d) := s.readWord (off / 8 * 8 + 0x40000000)
  (t, d.isSome)

/-- What a register read came to: the word, and whether it ended without an error status. -/
structure ReadResult where
  val : Word
  ok : Bool
  deriving DecidableEq, Repr

/-- A read of an aligned register word by a master (R460, R464, R482).
(DEDUCED, notes/assumptions/25.md; DEDUCED, notes/assumptions/118.md) -/
def State.regRead (s : State) (m : Master) (off : Nat) : State × ReadResult :=
  if off / 0x10000 = 0xF0 ∧ m.val ≠ 14 then (s, ⟨0, true⟩)
  else if s.lockDenies m (0x40000000 + off) then (s.recordDenial m (0x40000000 + off) false true 0, ⟨0, false⟩)
  else if !inBlocks off then (s, ⟨0, false⟩)
  else if absentAt s.part off then (s, ⟨0, true⟩)
  else if !mayRead m off then (s.refuseAccess m off false, ⟨0, false⟩)
  else match regRow off with
  | none => (s, ⟨0, true⟩)
  | some r =>
    let (s0, ok) := if off / 0x1000 = 0x910 && (lookup s.latched (latchKey m off)).isNone then s.readRetained off else (s, true)
    let (s1, w) := s0.readListed m off r
    if ok then (s1, ⟨w, true⟩) else (s0, ⟨0, false⟩)

end Sys2Proof.Machine
end

