-- ==== Sys2Proof/Machine/Mpu.lean ====
section
/-! DEFINITION. The MPU of a group: region matching, types and permissions, and MPU-control writes (R311 to R315). -/

namespace Sys2Proof.Machine

/-- The kinds of access that the MPU tells apart (R313). -/
inductive Access where
  | read
  | write
  | fetch
  deriving DecidableEq, Repr

/-- The memory types (R312). -/
inductive MemType where
  | normal
  | device
  | guarded
  | noSpeculate
  deriving DecidableEq, Repr

/-- A region as its registers describe it (R311). -/
structure Region where
  lo : Nat
  hi : Nat
  attr : Nat
  deriving DecidableEq, Repr

/-- The memory type of a region. -/
def Region.memType (r : Region) : MemType :=
  match bitsOf r.attr 1 2 with | 0 => .normal | 1 => .device | 2 => .guarded | _ => .noSpeculate

/-- Whether a region grants an access at a privilege level; a Device or Guarded region is never executed (R312, R313). -/
def Region.grants (r : Region) (pl : Nat) (k : Access) : Bool :=
  match k with
  | .read => r.attr.testBit (3 + 3 * pl)
  | .write => r.attr.testBit (4 + 3 * pl)
  | .fetch => r.attr.testBit (5 + 3 * pl) && (r.memType == .normal || r.memType == .noSpeculate)

/-- A region whose registers hold given words. -/
def regionOf (base limit attr : Word) : Region :=
  ⟨base.toNat / 32 * 32, limit.toNat / 32 * 32 + 31, attr.toNat⟩

/-- A region in effect; one whose check bits fail is disabled (R315). -/
def State.region (s : State) (g : Group) (r : Nat) : Option Region :=
  let x := regionOf (s.rd (MPU_BASE g r)) (s.rd (MPU_LIMIT g r)) (s.rd (MPU_ATTR g r))
  if x.attr.testBit 0 && !s.prot.mpuOff.contains (32 * g.val + r) then some x else none

/-- The region that an address matches (R311). -/
def State.matchRegion (s : State) (g : Group) (a : Nat) : Option Region :=
  (List.range 32).findSome? (fun r => (s.region g r).bind (fun x => if x.lo ≤ a ∧ a ≤ x.hi then some x else none))

/-- The default map (R313): the type of a core address, and whether it may be executed. -/
def defaultMap (a : Nat) : MemType × Bool :=
  if a < 0x4000000 then (.normal, true)
  else if 0x0F000000 ≤ a ∧ a < 0x0F010000 then (.normal, true)
  else if 0x10000000 ≤ a ∧ a < 0x10040000 then (.normal, true)
  else if 0x40000000 ≤ a ∧ a < 0x41000000 then (.device, false)
  else (.normal, false)

/-- The type of an address and whether the MPU permits an access to it (R313). -/
def State.mpuJudge (s : State) (g : Group) (pl a : Nat) (k : Access) : MemType × Bool :=
  let (t, x) := defaultMap a
  let dflt := k != .fetch || x
  if !s.flag (MPU_CTRL_EN g) then (t, dflt)
  else match s.matchRegion g a with
  | some r => (r.memType, r.grants pl k)
  | none => (t, dflt && pl == 0 && s.flag (MPU_CTRL_MBG g))

/-! ### MPU-control writes (R314) -/

/-- A region as the writes so far, and one more, leave it. -/
def State.regionAfter (s : State) (g : Group) (rel : Nat) (v : Word) (r : Nat) : Region :=
  let w (x : Nat) : Word := if x = rel then v else s.mpuWritten g x
  regionOf (w (0x1100 + 16 * r)) (w (0x1104 + 16 * r)) (w (0x1108 + 16 * r))

/-- Whether a write leaves some enabled region with LIMIT < BASE or two enabled regions that overlap (R314).
(DEDUCED, notes/assumptions/81.md) -/
def State.mpuBad (s : State) (g : Group) (rel : Nat) (v : Word) : Bool :=
  let on := ((List.range 32).map (fun r => s.regionAfter g rel v r)).filter (fun x => x.attr.testBit 0)
  on.any (fun x => decide (x.hi < x.lo)) ||
    (List.range on.length).any (fun i => (List.range i).any (fun j =>
      match on[i]?, on[j]? with
      | some x, some y => decide (x.lo ≤ y.hi) && decide (y.lo ≤ x.hi)
      | _, _ => false))

/-- An MPU-control write (R314): refused, or in its mode shadow. The Boolean answers whether it was accepted.
(DEDUCED, notes/assumptions/81.md) -/
def State.mpuStore (s : State) (g : Group) (rel : Nat) (v : Word) : State × Bool :=
  let mask := match regRow (lsgBase g + rel) with | some r => BitVec.ofNat 32 r.rw | none => 0
  let w := v &&& mask
  if s.mpuBad g rel w then ((s.bump (MPU_REFUSE_CNT_CNT g)).putFlag (MPU_STAT_REFUSED g) true, false)
  else (s.onCore g (fun c => { c with shadow := c.shadow ++ [⟨.mpu rel, w, 3⟩] }), true)

/-- An MPU-control write takes effect; fresh check bits end a region's disablement (R315).
(DEDUCED, notes/assumptions/81.md) -/
def State.mpuTake (s : State) (g : Group) (rel : Nat) (v : Word) : State :=
  let s1 := s.wr (lsgBase g + rel) v
  if rel < 0x1100 then s1
  else s1.onProt (fun z => { z with mpuOff := s1.prot.mpuOff.filter (fun x => x != 32 * g.val + (rel - 0x1100) / 16) })

end Sys2Proof.Machine
end

