-- ==== Sys2Proof/Machine/RegRange.lean ====
section
/-! DEFINITION. Which master may write a register, and which values a register refuses (R41, R94, R128, R148, R151, R164 to R177,
R207, R309, R318, R338, R401, R422, R458, R482, R483). -/

namespace Sys2Proof.Machine

/-! ### Writers (R482) -/

/-- Whether a write is one that the group's own registers accept (R207, R298, R314, R345, R351).
(DEDUCED, notes/assumptions/87.md) -/
def groupWriter (m off : Nat) (v : Word) : Bool :=
  let (g, rel) := lsgOf off
  if rel < 0x1000 then m == 0
  else if rel < 0x2000 then m == g
  else if rel = 0x2004 ∨ rel = 0x3004 then m == g
  else if rel = 0x3000 then if v.toNat.testBit 1 then m == g else m == 0
  else if 0x4000 ≤ rel then m == g || m == 0
  else m == 0

/-- Whether a register accepts a write of a master. (DESIGN CHOICE, notes/assumptions/12.md) -/
def State.mayWrite (s : State) (m off : Nat) (v : Word) : Bool :=
  if off < 0x10000 then true
  else if 0x12000 ≤ off ∧ off < 0x12400 then m == 0 || off % 0x100 == 0x60 || off % 0x100 == 0x68 || off % 0x100 == 0x6C
  else if 0x22000 ≤ off ∧ off < 0x22200 then m == 0 || m == (off - 0x22000) / 0x40
  else if 0x23000 ≤ off ∧ off < 0x23100 then m == 0 || m == (off - 0x23000) / 0x20
  else if off = TE_DEC then decide (m < 8)
  else if 0x140400 ≤ off ∧ off < 0x140600 ∧ (off - 0x140400) % 0x80 = 0x48 then decide (m < 8)
  else if 0x151000 ≤ off ∧ off < 0x151800 then
    let rel := off % 0x100
    m == 0 || (m == (off - 0x151000) / 0x100 && (rel == 0xC || rel == 0x28 || (decide (0x80 ≤ rel) && decide (rel < 0x8C))))
  else if 0x200000 ≤ off ∧ off < 0x280000 then groupWriter m off v
  else if 0x300000 ≤ off ∧ off < 0x302000 ∧ off % 16 = 12 then
    m == 0 || (decide (m < 8) && decide (400 ≤ (off - 0x300000) / 16) && decide ((off - 0x300000) / 16 < 448) && !v.toNat.testBit 1)
  else if 0x510800 ≤ off ∧ off < 0x510880 then m == 0 || m == 13
  else if off = SG_TAMP_CFG then m == 0 || m == 13
  else if off = SG_FUSE_ADDR ∨ off = SG_FUSE_DATA ∨ off = SG_FUSE_CMD then m == 0 || (m == 14 && s.debugLevel == 3)
  else if (0x800080 ≤ off ∧ off < 0x8000C0) ∨ (0x801000 ≤ off ∧ off < 0x803000) then m == 14
  else m == 0

/-! ### Where a refusal is recorded (R483) -/

/-- The CFG_REJ bit of the block that an offset lies in, where the block has one. -/
def rejFlag (off : Nat) : Option Fld :=
  let g := (lsgOf off).1
  if 0x10000 ≤ off ∧ off < 0x20000 then some TB_STAT_CFG_REJ
  else if 0x21000 ≤ off ∧ off < 0x21800 then some (PEO_STAT_CFG_REJ ((off - 0x21000) / 0x40))
  else if 0x20000 ≤ off ∧ off < 0x30000 then some EW_STAT_CFG_REJ
  else if 0x100000 ≤ off ∧ off < 0x130000 then some (HL_STAT_CFG_REJ ((off - 0x100000) / 0x1000))
  else if 0x140000 ≤ off ∧ off < 0x150000 then some TE_STAT_CFG_REJ
  else if 0x151000 ≤ off ∧ off < 0x151800 then
    some (if off % 0x100 = 0x2C then VE_STAT_CFG_REJ else VE_G_STAT_CFG_REJ ((off - 0x151000) / 0x100))
  else if 0x150000 ≤ off ∧ off < 0x151000 then some VE_STAT_CFG_REJ
  else if 0x200000 ≤ off ∧ off < 0x280000 then
    let rel := (lsgOf off).2
    if rel < 0x1000 then some (LS_STAT_CFG_REJ g)
    else if 0x2000 ≤ rel ∧ rel < 0x3000 then some (WD_STAT_CFG_REJ g)
    else if 0x3000 ≤ rel ∧ rel < 0x4000 then some (CM_VERDICT_CFG_REJ g)
    else none
  else if off / 0x10000 = 0x30 then some IC_STAT_CFG_REJ
  else if off / 0x10000 = 0x40 then some FCU_STAT_CFG_REJ
  else if off / 0x10000 = 0x41 then some SSC_STAT_CFG_REJ
  else if off / 0x10000 = 0x50 then some SP_STAT_CFG_REJ
  else if off / 0x10000 = 0x51 then some FW_STAT_CFG_REJ
  else if off / 0x10000 = 0x70 then some DM_STAT_CFG_REJ
  else if off / 0x10000 = 0x71 then some AR_STAT_CFG_REJ
  else if off / 0x10000 = 0x80 then some SG_STAT_CFG_REJ
  else if off / 0x10000 = 0xA0 then some TW_STAT_CFG_REJ
  else none

/-- A write refused, with the block's CFG_REJ (R483). -/
def State.rejectAt (s : State) (off : Nat) : State :=
  match rejFlag off with
  | some f => s.putFlag f true
  | none => s

/-! ### Ranges (R483) -/

/-- A number between two bounds. -/
def within (lo v hi : Nat) : Bool :=
  decide (lo ≤ v) && decide (v ≤ hi)

/-- The value that the next boundary would leave in a register word, with a write applied. -/
def State.after (s : State) (off : Nat) (v : Word) (at_ : Nat) : Nat :=
  (if at_ = off then v else s.latest at_).toNat

/-- A 40-bit address register as a write of one of its words would leave it. -/
def State.addrAfter (s : State) (off : Nat) (v : Word) : Nat :=
  let lo := off / 8 * 8
  s.after off v lo + s.after off v (lo + 4) % 256 * 2 ^ 32

/-- Whether an address lies in the SSP or in a group's DSP. -/
def inSspOrDsp (a g : Nat) : Bool :=
  inSsp a 1 || (decide (dspBase g ≤ a) && decide (a < dspBase g + spSize))

/-- The limits on FMIN, FMAX and the seal margin, over the words of TB (R41). -/
def firingLimits (w : Nat → Nat) : Bool :=
  within 12500 (w TB_FMIN % 2 ^ 24) (w TB_FMAX % 2 ^ 24) && decide (w TB_FMAX % 2 ^ 24 ≤ 12500000)
    && within 1250 (w TB_SEAL_MARGIN % 2 ^ 24) (w TB_FMIN % 2 ^ 24 / 2)

/-- The limits of TB (R38, R41). (DEDUCED, notes/assumptions/23.md) -/
def State.okTb (s : State) (off : Nat) (v : Word) : Bool :=
  let limits := firingLimits (s.after off v)
  if off = TB_CTRL then decide (v.toNat % 4 ≤ 2)
  else if off = TB_FMIN ∨ off = TB_SEAL_MARGIN then s.quietMode && limits
  else if off = TB_FMAX then limits
  else true

/-- The limits of a lane's registers (R78, R86, R93, R94, R97). (DEDUCED, notes/assumptions/23.md) -/
def State.okHl (s : State) (n : Lane) (off : Nat) (v : Word) : Bool :=
  let rel := off % 0x1000
  if rel = 0 then decide (v.toNat % 4 ≤ 2) && within 1 (bitsOf v.toNat 5 2) 2 && !s.hlCfgRefused n v
  else if rel = 0xC8 then decide (v.toNat % 0x10000 = 0)
  else if rel = 0xCC then inHbm (s.addrAfter off v) 0x10000
  else true

/-- The limits of TE (R117, R128). (DEDUCED, notes/assumptions/23.md) -/
def State.okTe (s : State) (off : Nat) (v : Word) : Bool :=
  let x := v.toNat
  if off = TE_BATCH_MAX then within 1 (x % 2 ^ 21) 0x100000
  else if off = TE_DEC_TO then decide (0 < x % 65536)
  else if 0x140400 ≤ off ∧ off < 0x140600 then
    let d := (off - 0x140400) / 0x80
    let rel := (off - 0x140400) % 0x80
    let enOk : Bool := !(s.after off v (TE_DCFG d)).testBit 0 || s.after off v (TE_SCALE d) != 0
    if rel = 0 then decide (0 < bitsOf x 16 8) && enOk
    else if rel = 8 then enOk
    else if rel = 0x38 ∨ rel = 0x3C then (s.addrAfter off v) % 16 == 0 && inSsp (s.addrAfter off v) 16
    else if rel = 0x40 then decide (x % 16 ≤ 10)
    else if rel = 0x4C then within 2 (x % 16) 15 && within 1 (bitsOf x 4 4) 4
    else true
  else true

/-- The limits of VE (R138, R148, R151). (DEDUCED, notes/assumptions/23.md) -/
def State.okVe (s : State) (off : Nat) (v : Word) : Bool :=
  let x := v.toNat
  if off = VE_CAP then within 10 (x % 128) 100
  else if off = VE_QUAR_N then decide (0 < x % 16)
  else if off = VE_KLOAD_ADDR then decide (x % 64 = 0)
  else if 0x151000 ≤ off ∧ off < 0x151800 then
    let g := (off - 0x151000) / 0x100
    let rel := off % 0x100
    let a := s.addrAfter off v
    if rel = 0x0 ∨ rel = 0x4 then a % 64 == 0 && inSspOrDsp a g
    else if rel = 0x18 ∨ rel = 0x1C then a % 32 == 0 && inSspOrDsp a g
    else if rel = 0x8 ∨ rel = 0x20 then decide (x % 16 ≤ 8)
    else if rel = 0x2C then
      decide ((List.range 8).foldl (fun n k => n + s.after off v (VE_SHARE k) % 2048) 0 ≤ 1024)
    else if 0x40 ≤ rel ∧ rel < 0x80 ∧ rel % 16 = 0 then decide (x % 4096 = 0)
    else true
  else true

/-- The limits of the wheel and the channels (R165, R168, R171, R177). (DEDUCED, notes/assumptions/23.md) -/
def State.okEw (s : State) (off : Nat) (v : Word) : Bool :=
  let x := v.toNat
  if 0x23000 ≤ off ∧ off < 0x23100 then
    let rel := off % 0x20
    let a := s.addrAfter off v
    if rel = 0 ∨ rel = 4 then a % 16 == 0 && inSsp a 16
    else if rel = 8 then decide (x % 16 ≤ 12)
    else true
  else if 0x21000 ≤ off ∧ off < 0x21800 then
    let n := (off - 0x21000) / 0x40
    let rel := off % 0x40
    let old := (s.latest (PEO_CFG n)).toNat
    let test : Bool := decide (s.after off v (PEO_RB_DLY n) % 65536 + s.after off v (PEO_RB_FILT n) % 65536 + 2
      ≤ s.after off v (PEO_TEST_CFG n) / 65536)
    if rel = 0 then decide (x % 8 ≤ 4) && (x % 256 == old % 256 || s.rd (PEO_EVENTS n) == 0)
    else if rel = 0x10 ∨ rel = 0x14 ∨ rel = 0x18 then test
    else true
  else true

/-- Whether a window would be refused (R318): enabled over memory that no window may cover, or empty.
(DEDUCED, notes/assumptions/23.md; DEDUCED, notes/assumptions/82.md) -/
def State.windowOk (s : State) (off : Nat) (v : Word) : Bool :=
  let k := (off - 0x510100) / 0x10
  let lo := s.after off v (FW_WIN_BASE k) % 2 ^ 28
  let hi := s.after off v (FW_WIN_LIMIT k) % 2 ^ 28
  let meets (a n : Nat) : Bool := decide (lo < (a + n) / 0x1000) && decide (a / 0x1000 ≤ hi)
  !(s.after off v (FW_WIN_CTRL k)).testBit 0 ||
    (decide (lo ≤ hi) && !meets 0 0x4000000 && !meets trackBase 0x2000000 && !meets 0x50000000 0x1000000 && !meets 0x40000000 0x1000000)

/-- The scrub settings of R309 and R385: PER at least `lo`, EN = 0 only in GLOST and MAINTENANCE. -/
def State.scrubOk (s : State) (lo : Nat) (v : Word) : Bool :=
  decide (lo ≤ bitsOf v.toNat 8 16) && (v.toNat.testBit 0 || s.mode == modeGlost || s.mode == modeMaintenance)

/-- The modes of the tamper inputs (R422): none is 3, and an odd input is no mesh pair. -/
def tampOk (v : Nat) : Bool :=
  (List.range 4).all (fun n => bitsOf v (2 * n) 2 != 3 && (n % 2 == 0 || bitsOf v (2 * n) 2 != 2))

/-- The limits of TW (R458). -/
def State.okTw (s : State) (off : Nat) (v : Word) : Bool :=
  let x := v.toNat
  if off = TW_CFG then decide (0 < bitsOf x 8 8)
  else if off = TW_DIG_TO then within 5 (x % 65536) 1000
  else if off = TW_FIRE_TO then within 2 (x % 256) 50
  else if off = TW_XFER_RATE then within 100 (x % 8192) 5000
  else if 0xA00040 ≤ off ∧ off < 0xA00080 then
    let rel := off % 16
    let a := s.addrAfter off v
    if rel = 0 then decide (x % 4096 = 0)
    else if rel = 4 then inSsp a 4096 || inHbm a 4096
    else if rel = 8 then
      decide ((List.range 4).foldl (fun n w => n + s.after off v (TW_WIN_SIZE w) % 65536) 0 ≤ 16384)
    else true
  else true

/-- The limits of a group's block (R201, R338, R345, R347). -/
def okGroup (rel : Nat) (x : Nat) : Bool :=
  if rel = 0x70 then decide (0 < x % 65536)
  else if rel = 0x2000 then within 1000 (x % 2 ^ 24) 10000000
  else if 0x3100 ≤ rel ∧ rel < 0x3180 then
    decide (0 < x % 16) && decide (bitsOf x 8 3 ≤ 4) && decide (bitsOf x 12 3 ≤ 4)
  else true

/-- Whether a register accepts a value. (DEDUCED, notes/assumptions/23.md) -/
def State.rangeOk (s : State) (off : Nat) (v : Word) : Bool :=
  let x := v.toNat
  if 0x10000 ≤ off ∧ off < 0x11000 then s.okTb off v
  else if 0x100000 ≤ off ∧ off < 0x130000 then s.okHl (toIx 48 ((off - 0x100000) / 0x1000)) off v
  else if off = HL_IDLIST_BASE then decide (x % 64 = 0)
  else if 0x140000 ≤ off ∧ off < 0x150000 then s.okTe off v
  else if 0x150000 ≤ off ∧ off < 0x160000 then s.okVe off v
  else if 0x20000 ≤ off ∧ off < 0x30000 then s.okEw off v
  else if 0x200000 ≤ off ∧ off < 0x280000 then okGroup (lsgOf off).2 x
  else if off = SSC_TEST_PER then decide (0 < x % 65536)
  else if off = SP_TILE_SCRUB ∨ (0x500100 ≤ off ∧ off < 0x500400 ∧ off % 0x20 = 0) then s.scrubOk 16 v
  else if 0x510100 ≤ off ∧ off < 0x510500 then s.windowOk off v
  else if off = DM_SCRUB_PER then s.scrubOk 256 v
  else if off = AR_RATE then within 500 (x % 8192) 6000
  else if off = AR_PF_LIMIT then within 1 (x % 16) 12
  else if off = CF_SRC then decide (x % 128 = 0)
  else if off = SG_TAMP_CFG then tampOk x
  else if off = SG_VER_ADDR then decide (x % 64 = 0)
  else if off = SG_VER_ADDR + 4 then inHbm (s.addrAfter off v) 64
  else if 0xA00000 ≤ off ∧ off < 0xA10000 then s.okTw off v
  else if off = PM_MODE_REQ then within modeStandby (x % 8) modeSafe && decide (x % 8 ≠ modeDegraded)
  else true

end Sys2Proof.Machine
end

