-- ==== Sys2Proof/Machine/RegWrite.lean ====
section
/-! DEFINITION. Writing registers: every word by its field types, or by the step that its rule gives it; and the commit of what a
boundary holds (R11, R12, R46, R460, R464, R482, R483). -/

namespace Sys2Proof.Machine

/-- What a command that always goes on leaves. -/
def ran (o : Host.Outcome State Fault Refusal) (s : State) : State :=
  match o with
  | .next t => t
  | _ => s

/-! ### Words with a step of their own -/

/-- The words of a group's block (R200 to R205, R298, R314, R339, R345, R348). -/
def State.groupAct (s : State) (g : Group) (m : Master) (rel : Nat) (v : Word) : Option State :=
  let x := v.toNat
  if rel = 0x0 then some (ran (execLsCfgWrite g m v s) s)
  else if rel = 0x4 then
    let s0 := if x.testBit 2 || x.testBit 3 then s else s.put (LS_CTRL_COPY g) (bitsOf x 4 2)
    let s1 := if x.testBit 2 then ran (execLsInject g m v s0) s0 else s0
    let s2 := if x.testBit 3 then ran (execLsUnretire g m v s1) s1 else s1
    let s3 := if x.testBit 0 then ran (execLsRestart g m s2) s2 else s2
    some (if x.testBit 1 then ran (execLsStop g m s3) s3 else s3)
  else if rel = 0xC then some (if x.testBit 0 then ran (execLsPowerOff g m s) s else ran (execLsPowerOn g m s) s)
  else if isMpuCtl rel then some (s.mpuStore g rel v).1
  else if rel = 0x2004 then some (ran (execWdKeyWrite g m v s) s)
  else if rel = 0x3000 then
    let s1 := if x.testBit 1 then ran (execCmStart g m s) s else s
    some (if m.val = 0 then (s1.stageWrite m (CM_CTRL g) (v &&& 1)).1 else s1)
  else if rel = 0x3004 then some (ran (execCmBend g m v s) s)
  else if rel = 0x4000 then some ((s.put (IC_THRESH_THRESH g) (min (x % 64) 62)).syncIc)
  else if rel = 0x400C then some (ran (execIcEoi g m v s) s)
  else none

/-- The words of a lane (R88, R91, R92). -/
def State.laneAct (s : State) (n : Lane) (m : Master) (rel : Nat) (v : Word) : Option State :=
  let x := v.toNat
  if rel = 0x4 then
    let s1 := if x.testBit 0 then ran (execHlAdmit n m s) s else s
    let s2 := if x.testBit 1 then ran (execHlDetach n m s1) s1 else s1
    some (if x.testBit 2 then ran (execHlRetrain n m s2) s2 else s2)
  else if rel = 0x100 then
    let op := bitsOf x 8 8
    some (if !x.testBit 0 then s.put (HL_CMB_CTRL_OP n) op
      else if op = 3 then ran (execHlCmbReset n m s) s
      else s.mailbox n m op id)
  else none

/-- The words of TB's instances (R21, R29, R36). -/
def State.kilnAct (s : State) (m : Master) (off : Nat) (v : Word) : Option State :=
  if 0x11000 ≤ off ∧ off < 0x11800 ∧ off % 0x100 = 0x18 then
    let n : Enc := toIx 8 ((off - 0x11000) / 0x100)
    some (s.clearEncStat n v (s.encValid n))
  else if 0x12000 ≤ off ∧ off < 0x12400 then
    let d : Dom := toIx 4 ((off - 0x12000) / 0x100)
    let rel := off % 0x100
    let b := s.bank d m
    if rel = 0x60 then
      some (if !v.toNat.testBit 0 then s else if v.toNat.testBit 1 then ran (execDomCvtP2t d m s) s else ran (execDomCvtT2p d m s) s)
    else if rel = 0x68 then some (s.setBank d m { b with inp := BitVec.ofNat 64 (b.inp.toNat / 2 ^ 32 * 2 ^ 32 + v.toNat) })
    else if rel = 0x6C then some (s.setBank d m { b with inp := BitVec.ofNat 64 (b.inp.toNat % 2 ^ 32 + v.toNat * 2 ^ 32) })
    else none
  else none

/-- The words of VE (R135, R145, R146, R148). -/
def State.verifyAct (s : State) (m : Master) (off : Nat) (v : Word) : Option State :=
  let x := v.toNat
  if off = VE_KLOAD_CTRL then
    let s1 := if x.testBit 1 then ran (execVeKloadUnload m v s) s else s.put VE_KLOAD_CTRL_SLOT (bitsOf x 8 5)
    some (if x.testBit 0 then ran (execVeKloadGo m s1) s1 else s1)
  else if 0x151000 ≤ off ∧ off < 0x151800 then
    let g : Group := toIx 8 ((off - 0x151000) / 0x100)
    if off % 0x100 = 0xC then some (ran (execVeSqTailWrite g m v s) s)
    else if off % 0x100 = 0x88 then some (ran (execVeCancelGo g m v s) s)
    else none
  else if 0x160000 ≤ off ∧ off < 0x170000 ∧ off % 0x400 = 0x20 then
    some (if x.testBit 0 then ran (execVtReturn (toIx 64 ((off - 0x160000) / 0x400)) m s) s else s)
  else none

/-- The words of a group's port to the wheel (R154, R160, R169). -/
def State.wheelAct (s : State) (g : Group) (m : Master) (rel : Nat) (v : Word) : Option State :=
  if rel < 0x10 then
    some (if (s.wheel.masked.get g).isSome || s.flag (EW_INS_STAT_BUSY g) then s.holdPort g m rel v else s.portWrite g m rel v)
  else if rel = 0x10 then some (ran (execEwInsert g m v s) s)
  else if rel = 0x18 then some (ran (execEwCancelHandle g m v s) s)
  else if rel = 0x28 then some (if v.toNat.testBit 0 then ran (execEwMaskCancel g m s) s else s)
  else if rel = 0x30 then some (if v.toNat.testBit 0 then ran (execEwRelease g m s) s else s)
  else none

/-- A write of `SRC_CFG` (R282, R283, R285): what is fixed keeps its value, PRIO 0 is stored as 1, AEOI of a level source
as 0, TARGET bits of absent groups as 0; `IC_PRES` shows the priority. (DEDUCED, notes/assumptions/79.md) -/
def State.writeSrcCfg (s : State) (i : Nat) (v : Word) : State :=
  if 384 ≤ i ∧ i < 392 then s.putFlag (SRC_CFG_BCAST i) (v.toNat.testBit 9)
  else
    let aeoi := v.toNat.testBit 8
    let s1 := (s.put (SRC_CFG_PRIO i) (max 1 (v.toNat % 64))).putFlag (SRC_CFG_EN i) (v.toNat.testBit 6)
    let s2 := (s1.putFlag (SRC_CFG_BCAST i) (v.toNat.testBit 9)).put (SRC_CFG_TARGET i) (bitsOf v.toNat 16 s.part.groups)
    let s3 := (s2.putFlag (SRC_CFG_AEOI i) (aeoi && !srcLevel i)).when (aeoi && srcLevel i) (fun s => s.putFlag IC_STAT_CFG_REJ true)
    s3.each ((allFin 8).filter (fun (g : Group) => s.flag (IC_PRES_VALID g) && s.get (IC_PRES_SRC g) == i)) (fun t g =>
      t.put (IC_PRES_PRIO g) (t.get (SRC_CFG_PRIO i)))

/-- The words of the distributor (R282 to R285). -/
def State.sourceAct (s : State) (m : Master) (off : Nat) (v : Word) : Option State :=
  let i := (off - 0x300000) / 16
  if off % 16 = 0 then some (s.writeSrcCfg i v).syncIc
  else if off % 16 = 12 then
    let s1 := if v.toNat.testBit 1 then ran (execSrcClrp (toIx 512 i) m s) s else s
    some (if v.toNat.testBit 0 then ran (execSrcSetp (toIx 512 i) m s1) s1 else s1)
  else none

/-- The words of FCU, SSC and RETAINED (R14, R327, R330, R332, R337). -/
def State.superviseAct (s : State) (m : Master) (off : Nat) (v : Word) : Option State :=
  let x := v.toNat
  if off = FCU_STAT then
    let s1 := s.wr FCU_STAT (s.rd FCU_STAT &&& ~~~(v &&& 3))
    some (if x.testBit 1 then s1.onSup (fun x => { x with logged := 0 }) else s1)
  else if off = FCU_INJ_CTRL then some (if x.testBit 31 then ran (execFcuInject m v s) s else s.put FCU_INJ_CTRL_ID (x % 512))
  else if 0x401000 ≤ off ∧ off < 0x403000 ∧ off % 16 = 0 then some (ran (execFltCfgWrite (toIx 512 ((off - 0x401000) / 16)) m v s) s)
  else if 0x401000 ≤ off ∧ off < 0x403000 ∧ off % 16 = 4 then
    some (if x.testBit 0 then ran (execFltPendClear (toIx 512 ((off - 0x401000) / 16)) m s) s else s)
  else if off = SSC_CTRL then some (if x.testBit 0 then ran (execSscIntrusiveTest m s) s else s)
  else if off = RET_CTRL then some (if x.testBit 0 then ran (execRetClear m s) s else s)
  else none

/-- The words of CF, SG and PM (R387, R403 to R426, R439). -/
def State.securityAct (s : State) (m : Master) (off : Nat) (v : Word) : Option State :=
  let x := v.toNat
  if off = CF_CMD then
    some (if x % 4 = 1 then ran (execCfErase m s) s else if x % 4 = 2 then ran (execCfProgram m s) s else s)
  else if off = SG_SVN_COMMIT then some (ran (execSgSvnCommit m v s) s)
  else if off = SG_LC_ADVANCE then some (ran (execSgLcAdvance m v s) s)
  else if off = SG_FUSE_CMD then some (if x.testBit 0 then ran (execSgFuseProgram m s) s else s)
  else if off = SG_PUF_CTRL then some (if x.testBit 0 then ran (execSgPufEnroll m s) s else s)
  else if off = SG_VER_CTRL then some (if x.testBit 0 then ran (execSgVerCheck m s) s else s)
  else if off = SG_DBG_CTRL then
    let s1 := if x.testBit 4 then ran (execSgDbgEnd m s) s else s
    some (if x.testBit 3 then ran (execSgDbgGo m v s1) s1
      else (s1.put SG_DBG_CTRL_REQ_LEVEL (x % 4)).putFlag SG_DBG_CTRL_KEY (x.testBit 2))
  else if 0x801000 ≤ off ∧ off < 0x803000 then some (s.wr off v)
  else if off = PM_CTRL then
    some (if !x.testBit 0 then s else if x.testBit 1 then ran (execPmCtrlWarmActivate m s) s else ran (execPmCtrlWarm m s) s)
  else if off = SP_RAW_CTRL then
    let s1 := if x.testBit 0 && s.prot.raw.isSome then s else s.put SP_RAW_CTRL_MEM (bitsOf x 8 7)
    some (if !x.testBit 0 then s1.putFlag SP_RAW_CTRL_WR (x.testBit 1)
      else if x.testBit 1 then ran (execSpRawWrite m s1) s1 else ran (execSpRawRead m s1) s1)
  else none

/-- A word whose write has a step of its own; none: its field types say what a write does. -/
def State.regAct (s : State) (m : Master) (off : Nat) (v : Word) : Option State :=
  if 0x10000 ≤ off ∧ off < 0x20000 then s.kilnAct m off v
  else if 0x22000 ≤ off ∧ off < 0x22200 then s.wheelAct (toIx 8 ((off - 0x22000) / 0x40)) m (off % 0x40) v
  else if 0x100000 ≤ off ∧ off < 0x130000 then s.laneAct (toIx 48 ((off - 0x100000) / 0x1000)) m (off % 0x1000) v
  else if off = TE_DEC then some (ran (execTeDecWrite m v s) s)
  else if 0x150000 ≤ off ∧ off < 0x170000 then s.verifyAct m off v
  else if 0x200000 ≤ off ∧ off < 0x280000 then s.groupAct (toIx 8 (lsgOf off).1) m (lsgOf off).2 v
  else if 0x300000 ≤ off ∧ off < 0x302000 then s.sourceAct m off v
  else if 0x400000 ≤ off ∧ off < 0x420000 ∨ off = RET_CTRL then s.superviseAct m off v
  else if 0x601000 ≤ off ∧ off < 0x602000 then some (s.hqReg ((off - 0x601000) / 0x40) (off % 0x40) v)
  else if off / 0x10000 = 0x60 then some (s.hiReg off v)
  else s.securityAct m off v

/-! ### A write by field types (R12, R46) -/

/-- Whether a word is a firewall register, whose writes take effect at once while no firings run (R318, R320).
(DEDUCED, notes/assumptions/82.md) -/
def isFirewall (off : Nat) : Bool :=
  decide (0x510100 ≤ off) && decide (off < 0x510900)

/-- Whether a write puts an entry into the stage. -/
def State.stages (s : State) (m : Master) (off : Nat) (v : Word) (r : RegRow) : Bool :=
  let x := v.toNat
  if 0x100000 ≤ off ∧ off < 0x130000 ∧ off % 0x1000 = 4 then x % 4 != 0
  else if off = VE_KLOAD_CTRL then x.testBit 1
  else if 0x200000 ≤ off ∧ off < 0x280000 ∧ (lsgOf off).2 = 4 then x % 4 != 0
  else if 0x200000 ≤ off ∧ off < 0x280000 ∧ (lsgOf off).2 = 0x3000 then m.val == 0
  else if isFirewall off then s.kiln.running && !s.locked.contains off && s.rangeOk off v
  else r.staged != 0

/-- A write that R12 ignores because its RWL field is locked: counted, with its offset and master (R463).
(DEDUCED, notes/assumptions/24.md) -/
def State.rwlViolation (s : State) (m : Master) (off : Nat) : State :=
  (s.bump DEV_RWL_VIOL_CNT).wr DEV_RWL_LAST (BitVec.ofNat 32 (off + m.val * 2 ^ 28))

/-- A write of a word without a step of its own: RW bits set, W1C bits cleared, staged bits staged, RWL bits set once.
(DEDUCED, notes/assumptions/24.md; DEDUCED, notes/assumptions/82.md) -/
def State.plainWrite (s : State) (m : Master) (off : Nat) (v : Word) (r : RegRow) : State :=
  let rwl := BitVec.ofNat 32 r.rwl
  let late := isFirewall off && s.kiln.running
  if r.rwl ≠ 0 ∧ s.locked.contains off then s.rwlViolation m off
  else if !s.rangeOk off v then s.rejectAt off
  else if r.rwl ≠ 0 then
    let w := if 0x510808 ≤ off ∧ off < 0x510880 ∧ off % 16 = 8 then v &&& rwl &&& 0xBFFF else v &&& rwl
    let s1 := { s with locked := sortBy (fun a b => decide (a ≤ b)) (off :: s.locked) }
    if late then (s1.stageWrite m off w).1 else s1.wr off w
  else
    let staged := if isFirewall off && !late then 0 else BitVec.ofNat 32 r.staged
    let now := BitVec.ofNat 32 r.rw &&& ~~~staged
    let s1 := s.wr off ((s.rd off &&& ~~~now &&& ~~~(v &&& BitVec.ofNat 32 r.w1c)) ||| (v &&& now))
    if staged = 0 then s1 else (s1.stageWrite m off (v &&& staged)).1

/-- A write of a listed word by a master that may make it: refused where the stage is full (R46). The Boolean is false
with an error status. -/
def State.writeListed (s : State) (m : Master) (off : Nat) (v : Word) (r : RegRow) : State × Bool :=
  if s.stages m off v r && (s.stagedVal off).isNone && decide (stageMax ≤ s.stagedNext) then (s.putFlag TB_STAT_CFG_REJ true, false)
  else if 0x910800 ≤ off ∧ off < 0x911000 then s.store (off + 0x40000000) (natLe 4 v.toNat)
  else match s.regAct m off v with
  | some t => (t, true)
  | none => (s.plainWrite m off v r, true)

/-- A write of an aligned register word by a master, but for the DBG block (R460, R482). The Boolean is false with an
error status. (DEDUCED, notes/assumptions/118.md) -/
def State.regWrite (s : State) (m : Master) (off : Nat) (v : Word) : State × Bool :=
  if s.lockDenies m (0x40000000 + off) then (s.recordDenial m (0x40000000 + off) true true 0, false)
  else if !inBlocks off then (s, false)
  else if off / 0x10000 = 0xF0 ∨ absentAt s.part off then (s, true)
  else match regRow off with
  | none => (s, true)
  | some r => if !s.mayWrite m off v then (s.refuseAccess m off true, false) else s.writeListed m off v r

/-! ### Commits (R44, R46) -/

/-- A staged `PEO_CFG` commits (R165, R167 to R169): L, the pins and HELD follow. -/
def State.commitPeoCfg (s : State) (n : Chan) (v : Word) : State :=
  let mask := match regRow (PEO_CFG n) with | some r => BitVec.ofNat 32 r.staged | none => 0
  (s.wr (PEO_CFG n) ((s.rd (PEO_CFG n) &&& ~~~mask) ||| (v &&& mask))).refreshChan n

/-- A commit of the kiln's, a lane's or the Track Engine's registers. -/
def State.commitLine (s : State) (off : Nat) (v : Word) : Option State :=
  if off = TB_STEP then some (s.commitTbStep v)
  else if off = TB_CTRL then some (s.commitTbCtrl v)
  else if 0x11000 ≤ off ∧ off < 0x11800 ∧ off % 0x100 = 0 then some (s.commitEncCfg (toIx 8 ((off - 0x11000) / 0x100)) v)
  else if 0x12000 ≤ off ∧ off < 0x12400 ∧ off % 0x100 = 0 then some (s.commitDomCfg (toIx 4 ((off - 0x12000) / 0x100)) v)
  else if 0x12000 ≤ off ∧ off < 0x12400 ∧ off % 0x100 = 0x58 then
    some (if v.toNat.testBit 0 then s.commitPreset (toIx 4 ((off - 0x12000) / 0x100)) else s)
  else if 0x21000 ≤ off ∧ off < 0x21800 ∧ off % 0x40 = 0 then some (s.commitPeoCfg (toIx 32 ((off - 0x21000) / 0x40)) v)
  else if 0x100000 ≤ off ∧ off < 0x130000 ∧ off % 0x1000 = 0 then some (s.commitHlCfg (toIx 48 ((off - 0x100000) / 0x1000)) v)
  else if 0x100000 ≤ off ∧ off < 0x130000 ∧ off % 0x1000 = 4 then some (s.commitHlCtrl (toIx 48 ((off - 0x100000) / 0x1000)) v)
  else if 0x100000 ≤ off ∧ off < 0x130000 ∧ off % 0x1000 = 0x30 then some (s.commitHlHb (toIx 48 ((off - 0x100000) / 0x1000)) v)
  else if 0x140400 ≤ off ∧ off < 0x140600 ∧ (off - 0x140400) % 0x80 = 0 then some (s.commitTeDcfg ((off - 0x140400) / 0x80) v)
  else if 0x140400 ≤ off ∧ off < 0x140600 ∧ (off - 0x140400) % 0x80 = 0x48 then some (s.commitCqTail ((off - 0x140400) / 0x80) v)
  else none

/-- A commit of the other registers with a step of their own; `m` is the master that staged it. -/
def State.commitOther (s : State) (off : Nat) (v : Word) : Option State :=
  if off = VE_KLOAD_CTRL then some (s.commitUnload v)
  else if 0x22000 ≤ off ∧ off < 0x22200 ∧ off % 0x40 = 0x30 then
    some (if v.toNat.testBit 0 then s.commitRelease ((off - 0x22000) / 0x40) else s)
  else if 0x200000 ≤ off ∧ off < 0x280000 then
    let g : Group := toIx 8 (lsgOf off).1
    let rel := (lsgOf off).2
    if rel = 0 then some (s.commitLsCfg g v)
    else if rel = 4 then some (s.commitLsCtrl g v)
    else if rel = 0xC then some (s.commitLsPwr g v)
    else if rel = 0x3000 then some (s.commitCmCtrl g v)
    else none
  else if 0x401000 ≤ off ∧ off < 0x403000 ∧ off % 16 = 0 then some (s.commitFltCfg ((off - 0x401000) / 16) v)
  else if off = AR_CTRL then some (s.commitArCtrl v)
  else if off = TW_CFG then some (s.commitTwCfg v)
  else none

/-- A staged write commits. -/
def State.commitReg (s : State) (off : Nat) (v : Word) : State :=
  match s.commitLine off v with
  | some t => t
  | none =>
    match s.commitOther off v with
    | some t => t
    | none =>
      let mask := match regRow off with | some r => BitVec.ofNat 32 (r.staged ||| r.rwl) | none => 0
      s.wr off ((s.rd off &&& ~~~mask) ||| (v &&& mask))

end Sys2Proof.Machine
end

