-- ==== Sys2Proof/Machine/Operands.lean ====
section
/-! DEFINITION. The operand forms of the instruction set: general registers, immediates, addresses and targets, and the word of
each format (R232, R238 to R241, R246). -/

namespace Sys2Proof.Machine

/-! ### General registers (R232) -/

/-- A general register; g0 reads as 0. -/
def Core.rg (c : Core) (r : GReg) : Word :=
  if r = 0 then 0 else c.gpr.get r.toFin

/-- A general register written; a write to g0 is discarded. -/
def Core.setRg (c : Core) (r : GReg) (v : Word) : Core :=
  if r = 0 then c else { c with gpr := c.gpr.set r.toFin v }

/-- A general register of a group. -/
def State.rg (s : State) (g : Group) (r : GReg) : Word :=
  (s.core g).rg r

/-- A general register of a group written. -/
def State.setRg (s : State) (g : Group) (r : GReg) (v : Word) : State :=
  s.onCore g (fun c => c.setRg r v)

/-! ### Immediates, addresses and targets (R240, R246) -/

/-- IMM16 sign-extended. -/
def sext16 (i : BitVec 16) : Word := i.signExtend 32

/-- IMM16 zero-extended. -/
def zext16 (i : BitVec 16) : Word := i.zeroExtend 32

/-- The address of a load or store. -/
def State.addrOf (s : State) (g : Group) (ra : GReg) (imm : BitVec 16) : Word :=
  s.rg g ra + sext16 imm

/-- The offset of a branch or of JALR, in bytes. -/
def off15 (o : BitVec 15) : Word := o.signExtend 32 <<< 2

/-- The offset of J and JAL, in bytes. -/
def off25 (o : BitVec 25) : Word := o.signExtend 32 <<< 2

/-! ### The formats (R238) -/

/-- A field at a bit position of a word. -/
def fieldAt (n lo : Nat) : Word := BitVec.ofNat 32 (n * 2 ^ lo)

/-- Format A. -/
def wordA (op : Nat) (rd ra rb sh : BitVec 5) (fn : Nat) : Word :=
  fieldAt op 26 ||| fieldAt rd.toNat 21 ||| fieldAt ra.toNat 16 ||| fieldAt rb.toNat 11 ||| fieldAt sh.toNat 6 ||| fieldAt fn 0

/-- Format I. -/
def wordI (op : Nat) (rd ra : BitVec 5) (imm : BitVec 16) : Word :=
  fieldAt op 26 ||| fieldAt rd.toNat 21 ||| fieldAt ra.toNat 16 ||| fieldAt imm.toNat 0

/-- Format B: for JALR, rd stands at rb. -/
def wordB (op : Nat) (a : Bool) (ra rb : BitVec 5) (off : BitVec 15) : Word :=
  fieldAt op 26 ||| fieldAt (if a then 1 else 0) 25 ||| fieldAt ra.toNat 20 ||| fieldAt rb.toNat 15 ||| fieldAt off.toNat 0

/-- Format J, with A = 0. -/
def wordJ (op : Nat) (off : BitVec 25) : Word :=
  fieldAt op 26 ||| fieldAt off.toNat 0

/-- Format L. -/
def wordL (op : Nat) (c : LoopCount) (end_ : BitVec 13) : Word :=
  fieldAt op 26 ||| fieldAt end_.toNat 0 |||
    (match c with | .imm n => fieldAt 1 25 ||| fieldAt n.toNat 13 | .reg ra => fieldAt ra.toNat 20)

/-- Format S. -/
def wordS (rd ra : BitVec 5) (sel : Nat) (fn : Nat) : Word :=
  fieldAt 0x3F 26 ||| fieldAt rd.toNat 21 ||| fieldAt ra.toNat 16 ||| fieldAt sel 6 ||| fieldAt fn 0

/-! ### The core view (R459) -/

/-- What a core address names (R233, R459): a fabric address, a byte of the boot ROM, a register offset, or nothing. -/
inductive CoreView where
  | mem (a : Nat)
  | rom (off : Nat)
  | reg (off : Nat)
  | nothing
  deriving DecidableEq, Repr

/-- Whether a fabric address lies in the half of the code flash that an operation programs or erases: its reads wait for the end
of that operation (R388). -/
def State.planeBusy (s : State) (f : Nat) : Bool :=
  match s.arch.flash with
  | some o => decide (f < 0x4000000) && decide (f / 0x2000000 = o.addr / 0x2000000)
  | none => false

/-- The core view of a group. -/
def State.coreView (s : State) (g : Group) (a : Nat) : CoreView :=
  if a < 0x4000000 then .mem (a ^^^ s.get CF_STAT_ACTIVE * 0x2000000)
  else if 0x0F000000 ≤ a ∧ a < 0x0F010000 then .rom (a - 0x0F000000)
  else if 0x10000000 ≤ a ∧ a < 0x10080000 then .mem (a + g.val * 0x100000)
  else if sspBase ≤ a ∧ a < sspBase + sspSize then .mem a
  else if trackBase ≤ a ∧ a < trackBase + 0x2000000 then .mem a
  else if 0x40000000 ≤ a ∧ a < 0x41000000 then .reg (a - 0x40000000)
  else if 0x80000000 ≤ a then
    let w := (s.core g).dwb.toNat
    if w < 14 then .mem (hbmBase + w * 0x80000000 + (a - 0x80000000)) else .nothing
  else .nothing

/-- Whether a core address is in a half of the code flash that is busy (R388). -/
def State.viewBusy (s : State) (g : Group) (a : Nat) : Bool :=
  match s.coreView g a with | .mem f => s.planeBusy f | _ => false

/-- Whether a load of n bytes waits for a busy plane (R388). -/
def State.loadWaits (s : State) (g : Group) (a n : Nat) : Bool :=
  s.viewBusy g a || s.viewBusy g (a + n - 1)

end Sys2Proof.Machine
end

