-- ==== Sys2Proof/Machine/Flags.lean ====
section
/-! DEFINITION. STATUS and what a mode shadow holds back. The instruction set has no condition flags: no arithmetic instruction
writes STATUS (R224, R233, R234, R237, R277). -/

namespace Sys2Proof.Machine

/-! ### STATUS (R234) -/

/-- A bit of a word at a position. -/
def bitAt (b : Bool) (k : Nat) : Nat :=
  if b then 2 ^ k else 0

/-- STATUS in effect. -/
def Core.status (c : Core) : Word :=
  BitVec.ofNat 32 (c.pl.val + bitAt c.ie 2 + bitAt c.dze 3 + c.nest.val * 0x10 + c.prio.val * 0x100)

/-- The level that a PL field stores: 3 is stored as 2. -/
def plOf (w : Word) : Fin 3 :=
  if w.toNat % 4 = 0 then 0 else if w.toNat % 4 = 1 then 1 else 2

/-- PL, IE and DZE as a word gives them; NEST and PRIO stay. -/
def Core.setStatus (c : Core) (w : Word) : Core :=
  { c with pl := plOf w, ie := w.toNat.testBit 2, dze := w.toNat.testBit 3 }

/-! ### Writes in their mode shadow (R224) -/

/-- The value in effect of what a shadowed write will replace. (DEDUCED, notes/assumptions/69.md) -/
def State.inEffect (s : State) (g : Group) (r : ShadowReg) : Word :=
  match r with
  | .status => (s.core g).status
  | .predctl => (s.core g).predctl
  | .mpu off => s.rd (lsgBase g + off)

/-- A value put into effect. -/
def State.setEffect (s : State) (g : Group) (r : ShadowReg) (v : Word) : State :=
  match r with
  | .status => (s.onCore g (fun c => c.setStatus v)).syncIc
  | .predctl => s.onCore g (fun c => { c with predctl := v })
  | .mpu off => s.mpuTake g off v

/-- The value last written, its shadow ended or not (R237). (DEDUCED, notes/assumptions/69.md) -/
def Core.written (c : Core) (r : ShadowReg) (now : Word) : Word :=
  c.shadow.foldl (fun w x => if x.reg = r then x.val else w) now

/-- A write that starts its mode shadow. (DEDUCED, notes/assumptions/69.md) -/
def State.shadowWrite (s : State) (g : Group) (r : ShadowReg) (v : Word) : State :=
  s.onCore g (fun c => { c with shadow := c.shadow ++ [⟨r, v, 3⟩] })

/-- An instruction commits: the first `n` writes in their shadow, which are older than it, count it, and those that have
counted three take effect in order. (DEDUCED, notes/assumptions/69.md) -/
def State.age (s : State) (g : Group) (n : Nat) : State :=
  let l := (s.core g).shadow
  let aged := (l.take n).map (fun w => { w with left := w.left - 1 })
  let s1 := s.onCore g (fun c => { c with shadow := aged.filter (fun w => w.left != 0) ++ l.drop n })
  s1.each (aged.filter (fun w => w.left == 0)) (fun s w => s.setEffect g w.reg w.val)

/-- The largest count left: FLAGS.SHADOW (R277). -/
def Core.shadowLeft (c : Core) : Nat :=
  c.shadow.foldl (fun n w => max n w.left) 0

/-- The writes of a pending-write entry with a count given back by RFE (R277). -/
def relay (l : List ShadowWrite) (k : Nat) : List ShadowWrite :=
  let m := l.foldl (fun n w => max n w.left) 0
  l.map (fun w => { w with left := if w.left = m then k else min w.left k })

end Sys2Proof.Machine
end

