-- ==== Sys2Proof/Machine/Entry.lean ====
section
/-! DEFINITION. Entry into handlers and return from them: the task-state block, exceptions, interrupts and RFE (R263 to R281,
R228). -/

namespace Sys2Proof.Machine

/-! ### The task-state block (R268 to R270) -/

/-- The codes of the exceptions (R265). -/
def excCode (c : Exc) : Nat :=
  match c with
  | .illegal => 0x01 | .priv => 0x02 | .fetchNx => 0x03 | .fetchErr => 0x04 | .fetchLat => 0x05 | .align => 0x06
  | .mpuRd => 0x07 | .mpuWr => 0x08 | .busRd => 0x09 | .latRd => 0x0A | .storeErr => 0x0B | .div0 => 0x0C | .trap => 0x0D
  | .loopSetup => 0x0E | .mpuCfg => 0x0F

/-- Whether an exception is a fault, not a completion (R265, R266). -/
def isFault (c : Exc) : Bool :=
  match c with
  | .storeErr => false | .div0 => false | .trap => false | .mpuCfg => false | _ => true

/-- CAUSE at an exception entry (R264): STORE_ERR is imprecise. -/
def excCause (c : Exc) : Word :=
  BitVec.ofNat 32 (excCode c + (if c = .storeErr then 0x40000000 else 0))

/-- Whether TSBP is valid (R268). -/
def Core.tsbOk (c : Core) : Bool :=
  c.tsbp.toNat % 0x1000 == 0 && decide (0x10040000 ≤ c.tsbp.toNat) && decide (c.tsbp.toNat + 0x1000 ≤ 0x10080000)

/-- The fabric address of slot n of a group's TSB. -/
def State.slotAddr (s : State) (g : Group) (n : Nat) : Nat :=
  (s.core g).tsbp.toNat + g.val * 0x100000 + n * 0x100

/-- The image that entry writes into a slot (R269): 160 bytes. (DEDUCED, notes/assumptions/76.md) -/
def Core.slotImage (c : Core) (pc : Word) (ds : Bool) (cause : Word) : Bytes :=
  let flags := BitVec.ofNat 32 (bitAt ds 0 + c.shadowLeft % 4 * 2)
  let words := [pc, c.status, cause, c.faddr, c.lc, c.ls, c.le, flags] ++ (c.gpr.toList.drop 1) ++ [0]
  words.flatMap (fun w => natLe 4 w.toNat)

/-- A TSB fault or overflow (R279, R280): the group stops, and restarts at the next boundary, as R198 has it.
(DEDUCED, notes/assumptions/76.md) -/
def State.tsbFail (s : State) (g : Group) (overflow : Bool) : State :=
  let f := if overflow then (if g.val = 0 then F_TSB_OVF_KW else F_TSB_OVF_APP)
    else (if g.val = 0 then F_TSB_FAULT_KW else F_TSB_FAULT_APP)
  ((s.raise f g).stopNow g).onCore g (fun c => { c with restartDue := true })

/-! ### Entry (R271, R272) -/

/-- What an entry sets: the resume address, whether its delay slot faulted, CAUSE, FADDR, the vector, IE and PRIO. -/
structure Entering where
  pc : Word
  ds : Bool := false
  cause : Word
  faddr : Word
  vec : Word
  ie : Bool
  prio : Fin 64
  deriving DecidableEq, Repr

/-- The fetch queue and the loop buffer emptied, at an entry, a return, or a redirect out of a loop's body (R216, R227).
-/
def Predictor.leave (p : Predictor) : Predictor :=
  { p with queue := [], loopBuf := [], capturing := false }

/-- The state of a group's copies after entry (R271, R277): shadowed writes wait in the entry of the depth.
(DEDUCED, notes/assumptions/76.md) -/
def Core.entered (c : Core) (e : Entering) : Core :=
  { c with
    pc := e.vec &&& 0xFFFFFFFC, delay := none, pl := 0, ie := e.ie, prio := e.prio, nest := toIx 16 (c.nest.val + 1)
    cause := e.cause, faddr := e.faddr, lc := 0, shadow := [], armed := false, entry := none
    kept := setKey c.kept c.nest.val c.shadow [], pred := c.pred.leave }

/-- Entry into a handler (R271, R272, R279), the one operation of every exception and interrupt.
(DEDUCED, notes/assumptions/76.md) -/
def State.enter (s : State) (g : Group) (e : Entering) : State :=
  let c := s.core g
  if !c.tsbOk then s.tsbFail g false
  else if c.nest.val = 15 then ((s.store (s.slotAddr g 15) (c.slotImage e.pc e.ds e.cause)).1).tsbFail g true
  else
    let s1 := (s.store (s.slotAddr g c.nest.val) (c.slotImage e.pc e.ds c.cause)).1
    (s1.onCore g (fun c => c.entered e)).syncIc

/-- Whether entry would reach its handler (R279). -/
def Core.mayEnter (c : Core) : Bool :=
  c.tsbOk && c.nest.val != 15

/-- Entry into the handler of an exception, with the resume address given. -/
def State.enterExc (s : State) (g : Group) (c : Exc) (faddr pc : Word) (ds : Bool) : State :=
  let k := s.core g
  s.enter g { pc, ds, cause := excCause c, faddr, vec := k.evb + BitVec.ofNat 32 (excCode c * 0x40), ie := false, prio := k.prio }

/-- A fault of the next instruction (R266, R271): of a delay slot, the branch is resumed, under the writes and counts in
effect before it (R277). -/
def State.faultAt (s : State) (g : Group) (c : Exc) (faddr : Word) : State :=
  match (s.core g).delay with
  | none => s.enterExc g c faddr (s.core g).pc false
  | some d =>
    let s1 := s.each d.before (fun s e => s.setEffect g e.1.reg e.2)
    let s2 := s1.onCore g (fun c => { c with shadow := d.before.map Prod.fst })
    s2.enterExc g c faddr d.branch true

/-- A completion exception at a commit boundary (R266): the next instruction is resumed. -/
def State.completeExc (s : State) (g : Group) (c : Exc) (faddr : Word) : State :=
  s.enterExc g c faddr (s.core g).pc false

/-- A completion exception enters; in WAIT, it ends it (R278). -/
def State.enterAtBoundary (s : State) (g : Group) (c : Exc) (faddr : Word) : State :=
  (s.putFlag (LS_STAT_WAIT g) false).completeExc g c faddr

/-- The exception that waits for a commit boundary (R266, R267), a store error that has returned, prevails over every
other. None where there is none, or a delay slot comes next. (DEDUCED, notes/assumptions/76.md) -/
def State.takeDue (s : State) (g : Group) : Option State :=
  match (s.core g).due with
  | [] => none
  | e :: r =>
    if (s.core g).delay.isSome then none
    else some ((s.onCore g (fun c => { c with due := r })).enterAtBoundary g e.1 e.2)

/-- The vector of a source. -/
def State.vecOf (s : State) (i : Nat) : Word :=
  s.rd (SRC_VEC i) &&& 0xFFFFFFFC

/-- CAUSE at an interrupt entry (R264). -/
def intCause (i : Nat) : Word :=
  BitVec.ofNat 32 (0x80000000 + i % 512)

/-- Entry into the handler of a source (R271, R272, R285): it is delivered where the entry completes. -/
def State.enterInt (s : State) (g : Group) (i : Nat) : State :=
  let c := s.core g
  let e : Entering := ⟨c.pc, false, intCause i, c.faddr, s.vecOf i, c.ie, toIx 64 (s.get (SRC_CFG_PRIO i))⟩
  if !c.mayEnter then s.enter g e
  else
    let w : EntryWindow := ⟨i, s.tt, s.rd (SRC_STAT i)⟩
    let s1 := ((s.unpresent g).deliver g i).enter g e
    (s1.bump (IC_TAKEN_CNT_CNT g)).onCore g (fun c => { c with entry := some w, waited := true })

/-! ### Return (R274 to R277) -/

/-- The writes that a return to depth n reinstates (R277): they prevail over the handler's own to the same registers.
(DEDUCED, notes/assumptions/77.md) -/
def Core.reinstate (c : Core) (n k : Nat) : Core :=
  let l := if k = 0 then [] else relay ((lookup c.kept n).getD []) k
  { c with shadow := c.shadow.filter (fun w => !l.any (fun x => x.reg == w.reg)) ++ l, kept := dropKey c.kept n }

/-- The group's registers as a slot holds them (R269, R274, R276): `pl` is the level at which the RFE ran.
(DEDUCED, notes/assumptions/77.md) -/
def Core.restored (c : Core) (b : Bytes) (pl : Fin 3) : Core :=
  let w (o : Nat) : Word := BitVec.ofNat 32 (leNat ((b.drop o).take 4))
  let st := w 4
  let up : Core := c.setStatus st
  { up with
    pl := if pl = 1 ∧ up.pl = 0 then 1 else up.pl, prio := toIx 64 (bitsOf st.toNat 8 6), nest := toIx 16 (c.nest.val - 1)
    pc := w 0 &&& 0xFFFFFFFC, cause := w 8 &&& 0xC00001FF, faddr := w 12, lc := w 16, ls := w 20 &&& 0xFFFFFFFC
    le := w 24 &&& 0xFFFFFFFC, gpr := Vector.ofFn (fun (i : Fin 32) => if i.val = 0 then 0 else w (0x1C + 4 * i.val))
    delay := none, armed := true, entry := none, pred := c.pred.leave }

/-- The source that a return chains to (R275): what the group could take under IE and PRIO as the slot holds them.
(DEDUCED, notes/assumptions/77.md) -/
def State.chained (s : State) (g : Group) (slot : Nat) : Option Nat :=
  let st := leNat (s.decoded (slot + 4) 4)
  let s1 := s.onCore g (fun c => { c with ie := st.testBit 2, prio := toIx 64 (bitsOf st 8 6) })
  s1.bestSource (s1.candidate g)

/-- Tail chaining (R275): PRIO, CAUSE and the PC take the new source's values, and it is delivered.
(DEDUCED, notes/assumptions/77.md) -/
def State.tailChain (s : State) (g : Group) (i : Nat) : State :=
  let s1 := ((s.unpresent g).deliver g i).bump (IC_TAIL_CNT_CNT g)
  (s1.onCore g (fun c => { c with
    prio := toIx 64 (s.get (SRC_CFG_PRIO i)), cause := intCause i, pc := s.vecOf i, entry := none
    pred := c.pred.leave })).syncIc

/-- The return from a handler (R274 to R279), at NEST ≥ 1, by an RFE that ran at level `pl`.
(DEDUCED, notes/assumptions/77.md) -/
def State.rfe (s : State) (g : Group) (pl : Fin 3) : State :=
  let c := s.core g
  let n := c.nest.val - 1
  let slot := s.slotAddr g n
  if !c.tsbOk then s.tsbFail g false
  else match s.chained g slot with
  | some i => s.tailChain g i
  | none =>
    let (s1, b, ok) := s.fetch slot 0xA0
    if !ok then s1.tsbFail g false
    else
      let k := bitsOf (leNat ((b.drop 0x1C).take 4)) 1 2
      let now := if k = 0 then (lookup c.kept n).getD [] else []
      let s2 := s1.onCore g (fun c => (c.restored b pl).reinstate n k)
      let s3 := s2.onCore g (fun c => { c with shadow := c.shadow.filter (fun w => !now.any (fun x => x.reg == w.reg)) })
      (s3.each now (fun s w => s.setEffect g w.reg w.val)).syncIc

end Sys2Proof.Machine
end

