-- ==== Sys2Proof/Machine/CoreAccess.lean ====
section
/-! DEFINITION. The memory accesses of a core: MPU checks, splits, loads, stores, atomics, and replay entries (R228, R246 to
R249, R265, R305, R460). -/

namespace Sys2Proof.Machine

/-! ### Halves and checks (R247, R311) -/

/-- A part of an access that lies in one aligned 8-byte block: its first byte and its size. -/
structure Half where
  addr : Nat
  size : Nat
  deriving DecidableEq, Repr

/-- The parts of an access: one, or two where it crosses an aligned 8-byte boundary. -/
def halves (a n : Nat) : List Half :=
  if 8 < a % 8 + n then [⟨a, 8 - a % 8⟩, ⟨(a + (8 - a % 8)) % 2 ^ 32, a % 8 + n - 8⟩] else [⟨a, n⟩]

/-- Whether an address lies in the register blocks of the core view. -/
def inRegs (a : Nat) : Bool :=
  decide (0x40000000 ≤ a) && decide (a < 0x41000000)

/-- What the checks that precede an access find: a fault with its address, or whether it is restricted to the oldest
instruction (R223, R312). -/
inductive Checked where
  | fault (c : Exc) (faddr : Word)
  | go (restricted : Bool)
  deriving DecidableEq, Repr

/-- The checks of an access of n bytes (R247, R311 to R313): alignment, then each part's first byte in ascending order.
A register block takes no unaligned access whatever its region's type (R460). (DEDUCED, notes/assumptions/74.md) -/
def State.checkAccess (s : State) (g : Group) (a n : Nat) (k : Access) : Checked :=
  let pl := (s.core g).pl.val
  let hs := halves a n
  let dev (h : Half) : Bool := (s.mpuJudge g pl h.addr k).1 == .device || inRegs h.addr
  if a % n ≠ 0 ∧ hs.any dev then .fault .align (BitVec.ofNat 32 a)
  else match hs.find? (fun h => !(s.mpuJudge g pl h.addr k).2) with
  | some h => .fault (if k = .write then .mpuWr else .mpuRd) (BitVec.ofNat 32 h.addr)
  | none => .go (hs.any (fun h => (s.mpuJudge g pl h.addr k).1 != .normal))

/-- An access refused by the MPU is counted (R324). -/
def State.countDeny (s : State) (g : Group) (c : Exc) : State :=
  if c = .mpuRd ∨ c = .mpuWr ∨ c = .fetchNx then s.bump (MPU_DENY_CNT_CNT g) else s

/-! ### Reading (R246, R460) -/

/-- What a read returned: the data, and the code of its error status. -/
structure Got where
  data : Nat
  err : Option Exc
  deriving DecidableEq, Repr

/-- A read of n bytes of registers at an offset aligned to n (R460). -/
def State.readRegs (s : State) (g : Group) (off n : Nat) : State × Got :=
  let (s1, x) := s.regRead (toIx 16 g) (off / 4 * 4)
  let lo := x.val.toNat / 2 ^ (8 * (off % 4))
  if n ≤ 4 then (s1, ⟨lo % 2 ^ (8 * n), if x.ok then none else some .busRd⟩)
  else
    let (s2, y) := s1.regRead (toIx 16 g) (off + 4)
    (s2, ⟨x.val.toNat + y.val.toNat * 2 ^ 32, if x.ok && y.ok then none else some .busRd⟩)

/-- A read of one part: what its target returns (R265, R316, R384). -/
def State.readHalf (s : State) (g : Group) (h : Half) : State × Got :=
  match s.coreView g h.addr with
  | .nothing => (s, ⟨0, some .busRd⟩)
  | .rom off => (s, ⟨leNat ((List.range h.size).map (fun i => Config.bootRom (off + i))), none⟩)
  | .reg off => s.readRegs g off h.size
  | .mem f =>
    match s.judgeOwn g f false with
    | .noTarget => (s, ⟨0, some .busRd⟩)
    | .deny l => (s.recordDenial g f false l 0, ⟨0, some .busRd⟩)
    | .allow =>
      let (s1, b, ok) := s.fetch (s.viewAddr f) h.size
      let (d, s2) := s1.draw
      let s3 := if inHbm f 1 then s2.raiseTo DM_LAT_MAX_CCLK (150 + Config.hbmLatency d % 331) else s1
      if ok then (s3, ⟨leNat b, none⟩) else (s3.raiseUnc g f, ⟨0, some .latRd⟩)

/-- A read of n bytes at a core address: the data, or the exception with its address (R265).
(DEDUCED, notes/assumptions/74.md) -/
def State.readCore (s : State) (g : Group) (a n : Nat) : State × Nat × Option (Exc × Word) :=
  let addr (x : Nat) : Word := BitVec.ofNat 32 x
  match halves a n with
  | [h, k] =>
    let (s1, x) := s.readHalf g h
    let (s2, y) := s1.readHalf g k
    (s2, x.data + y.data * 2 ^ (8 * h.size),
      if x.err = some .busRd ∨ y.err = some .busRd then some (.busRd, addr a)
      else if x.err.isSome then some (.latRd, addr h.addr)
      else if y.err.isSome then some (.latRd, addr k.addr)
      else none)
  | _ =>
    let (s1, x) := s.readHalf g ⟨a, n⟩
    (s1, x.data, x.err.map (fun c => (c, addr a)))

/-! ### Writing (R246, R314, R460) -/

/-- What a write came to: whether its target took it, and the MPU register whose write was refused for overlap. -/
structure Put where
  ok : Bool
  refused : Option Word := none
  deriving DecidableEq, Repr

/-- A write of a register word by a core: to its own MPU control, the test of R314. -/
def State.writeReg (s : State) (g : Group) (off : Nat) (v : Word) : State × Put :=
  let rel := off - lsgBase g
  if lsgBase g ≤ off ∧ isMpuCtl rel ∧ !s.lockDenies g (0x40000000 + off) then
    let (s1, ok) := s.mpuStore g rel v
    (s1, ⟨true, if ok then none else some (BitVec.ofNat 32 (0x40000000 + off))⟩)
  else
    let (s1, ok) := s.regWrite (toIx 16 g) off v
    (s1, ⟨ok, none⟩)

/-- A write of n bytes to registers at an offset aligned to n (R460): 1 and 2 bytes are refused. -/
def State.writeRegs (s : State) (g : Group) (off : Nat) (b : Bytes) : State × Put :=
  if b.length < 4 then (s, ⟨false, none⟩)
  else
    let (s1, p) := s.writeReg g off (BitVec.ofNat 32 (leNat (b.take 4)))
    if b.length = 4 then (s1, p)
    else
      let (s2, q) := s1.writeReg g (off + 4) (BitVec.ofNat 32 (leNat (b.drop 4)))
      (s2, ⟨p.ok && q.ok, if p.refused.isSome then p.refused else q.refused⟩)

/-- A write of one part. -/
def State.writeHalf (s : State) (g : Group) (h : Half) (b : Bytes) : State × Put :=
  match s.coreView g h.addr with
  | .nothing => (s, ⟨false, none⟩)
  | .rom _ => (s, ⟨false, none⟩)
  | .reg off => s.writeRegs g off b
  | .mem f =>
    match s.judgeOwn g f true with
    | .noTarget => (s, ⟨false, none⟩)
    | .deny l => (s.recordDenial g f true l 0, ⟨false, none⟩)
    | .allow =>
      let (s1, ok) := s.store f b
      (if ok then s1 else s1.raiseUnc g f, ⟨ok, none⟩)

/-- A store of n bytes at a core address: an error status comes back after its commit (R212, R265).
(DEDUCED, notes/assumptions/74.md) -/
def State.writeCore (s : State) (g : Group) (a : Nat) (b : Bytes) : State × Option Word :=
  let (s1, ok, r) := match halves a b.length with
    | [h, k] =>
      let (s1, p) := s.writeHalf g h (b.take h.size)
      let (s2, q) := s1.writeHalf g k (b.drop h.size)
      (s2, p.ok && q.ok, p.refused)
    | _ =>
      let (s1, p) := s.writeHalf g ⟨a, b.length⟩ b
      (s1, p.ok, p.refused)
  (if ok then s1 else s1.onCore g (fun c => { c with storeErrs := c.storeErrs ++ [BitVec.ofNat 32 a] }), r)

/-! ### Atomics (R249) -/

/-- What memory becomes: the old value, rb, and rd for ACAS. -/
def atomResult (op : AtomOp) (old b d : Word) : Word :=
  match op with
  | .swap => b
  | .add => old + b
  | .and => old &&& b
  | .or => old ||| b
  | .xor => old ^^^ b
  | .min => if old.slt b then old else b
  | .max => if old.slt b then b else old
  | .minu => if old.ult b then old else b
  | .maxu => if old.ult b then b else old
  | .cas => if old = d then b else old

/-- The checks of an atomic (R249, R265, R313): it needs R and W, and either refusal raises MPU_RD.
(DEDUCED, notes/assumptions/74.md) -/
def State.checkAtom (s : State) (g : Group) (a : Nat) : Checked :=
  let pl := (s.core g).pl.val
  let at_ : Word := BitVec.ofNat 32 a
  if a % 4 ≠ 0 then .fault .align at_
  else if !(s.mpuJudge g pl a .read).2 || !(s.mpuJudge g pl a .write).2 then .fault .mpuRd at_
  else .go true

/-- An atomic at an aligned address: the old value, or the exception. Only the SSP performs it. -/
def State.atomic (s : State) (g : Group) (a : Nat) (op : AtomOp) (b d : Word) : State × Got :=
  if !inSsp a 4 then (s, ⟨0, some .busRd⟩)
  else match s.judge g a false, s.judge g a true with
  | .deny l, _ => (s.recordDenial g a false l 0, ⟨0, some .busRd⟩)
  | _, .deny l => (s.recordDenial g a true l 0, ⟨0, some .busRd⟩)
  | _, _ =>
    let (s1, w, ok) := s.fetch a 4
    if !ok then (s1, ⟨0, some .latRd⟩)
    else
      let old : Word := BitVec.ofNat 32 (leNat w)
      ((s1.store a (natLe 4 (atomResult op old b d).toNat)).1, ⟨old.toNat, none⟩)

/-! ### Replay entries (R227, R228) -/

/-- What a replay entry does for a restricted access. -/
inductive Replayed where
  | bus
  | waits
  | served (data : Nat) (err : Option (Exc × Word))
  deriving DecidableEq, Repr

/-- The first restricted access after a return (R228): served from the entry of its depth, waiting for the entry's data
(R185), or going to the bus, the entry dropped. (DEDUCED, notes/assumptions/75.md) -/
def State.replay (s : State) (g : Group) (atom : Option AtomOp) (a n : Nat) : State × Replayed :=
  let c := s.core g
  if !c.armed then (s, .bus)
  else
    let s1 := s.onCore g (fun c => { c with armed := false, replays := dropKey c.replays c.nest.val })
    match lookup c.replays c.nest.val with
    | none => (s1, .bus)
    | some r =>
      if r.pc = c.pc ∧ r.atom = atom ∧ r.addr.toNat = a ∧ r.size = n then
        if r.back then (s1.bump (LS_P_REPLAY_HIT_CNT g), .served r.data.toNat (r.err.map (fun e => (e, r.addr))))
        else (s, .waits)
      else (s1.bump (LS_P_REPLAY_DROP_CNT g), .bus)

/-- The access that had left the group at an interrupt entry (R227): performed, and its result kept for the depth. An
access that could not have left, a load from a Normal region and a split one are not kept.
(DEDUCED, notes/assumptions/74.md; DEDUCED, notes/assumptions/75.md) -/
def State.keepAccess (s : State) (g : Group) (k : KeptAccess) : State :=
  let c := s.core g
  let a := k.addr.toNat
  let keep (s : State) (op : Option AtomOp) (n : Nat) (x : Got) : State :=
    s.onCore g (fun c => { c with replays := putKey c.replays c.nest.val ⟨c.pc, op, k.addr, n, BitVec.ofNat 64 x.data, x.err, false⟩ })
  match k.atom with
  | some (op, rd, rb) =>
    match s.checkAtom g a with
    | .fault _ _ => s
    | .go _ =>
      let (s1, x) := s.atomic g a op (c.rg rb) (c.rg rd)
      keep s1 (some op) 4 x
  | none =>
    if !([1, 2, 4, 8].contains k.size) || (halves a k.size).length != 1 then s
    else match s.checkAccess g a k.size .read with
    | .go true =>
      let (s1, x) := s.readHalf g ⟨a, k.size⟩
      keep s1 none k.size x
    | _ => s

end Sys2Proof.Machine
end

