-- ==== Sys2Proof/Machine/Fetch.lean ====
section
/-! DEFINITION. Fetch: the regions code is fetched from, the line buffers and their prefetch, the fetch queue, the loop buffer
and the faults that a fetch group carries (R213 to R216, R226, R265). -/

namespace Sys2Proof.Machine

/-! ### Regions (R213) -/

/-- Whether an address lies in code flash or the boot ROM, whose code goes through the line buffers (R213). -/
def lineRegion (a : Nat) : Bool :=
  decide (a < 0x4000000) || (decide (0x0F000000 ≤ a) && decide (a < 0x0F010000))

/-- The regions that instructions are fetched from (R213). (DEDUCED, notes/assumptions/71.md) -/
def fetchRegion (a : Nat) : Bool :=
  lineRegion a || (decide (0x10000000 ≤ a) && decide (a < 0x10040000))

/-! ### Line buffers (R215) -/

/-- The line or fetch group that holds an address, among buffered ones of a size. -/
def buffered (l : List (Nat × Bytes)) (size a : Nat) : Bool :=
  l.any (fun e => e.1 == a / size * size)

/-- What a core address is buffered under: its fabric address, or in the boot ROM the address itself. -/
def State.fetchKey (s : State) (g : Group) (a : Nat) : Nat :=
  match s.coreView g a with | .mem f => f | _ => a

/-- A line in the line buffers, the oldest replaced (R215). -/
def Predictor.fill (p : Predictor) (a : Nat) (b : Bytes) : Predictor :=
  { p with lines := (if p.lines.length < 8 then p.lines else p.lines.drop 1) ++ [(a, b)] }

/-- The prefetch that follows the fill of a line (R215): the next line, where it is absent and no other prefetch is
outstanding. -/
def State.askNext (s : State) (g : Group) (line : Nat) : State :=
  let c := s.core g
  let n := line + 128
  if c.predctl.toNat.testBit 5 && c.pred.prefetch.isNone && lineRegion n && !buffered c.pred.lines 128 (s.fetchKey g n) then
    s.onCore g (fun c => { c with pred := { c.pred with prefetch := some n } })
  else s

/-- A fill of a line that is absent: counted, and buffered where its target returns it without an error; the error of its
status otherwise. (DEDUCED, notes/assumptions/71.md) -/
def State.fillLine (s : State) (g : Group) (line : Nat) : State × Option Exc :=
  let s1 := s.bump (LS_P_LB_MISS_CNT g)
  let put (s : State) (f : Nat) (b : Bytes) : State := (s.onCore g (fun c => { c with pred := c.pred.fill f b })).askNext g line
  match s.coreView g line with
  | .rom off => (put s1 line ((List.range 128).map (fun i => Config.bootRom (off + i))), none)
  | .mem f =>
    match s1.judge g f false with
    | .allow =>
      let (s2, b, ok) := s1.fetch f 128
      if ok then (put s2 f b, none) else (s2.raiseUnc g f, some .fetchLat)
    | .deny l => (s1.recordDenial g f false l 0, some .fetchErr)
    | .noTarget => (s1, some .fetchErr)
  | _ => (s1, some .fetchErr)

/-! ### The ISP and the fetch queue (R213, R226) -/

/-- A fetch group of the ISP as the fetch queue takes it: as it holds it already, or as the ISP returns it. -/
def State.takeGroup (s : State) (g : Group) (f : Nat) : State × List (Nat × Bytes) :=
  match (s.core g).pred.queue.find? (fun e => e.1 == f) with
  | some e => (s, [e])
  | none =>
    if ispBase g + 0x40000 ≤ f then (s, [])
    else
      let (s1, b, ok) := s.fetch f 32
      (s1, if ok then [(f, b)] else [])

/-- Fetch from the ISP: the group of an address and the next are in the fetch queue (R226). The Boolean answers whether
the word of the address came without an error. -/
def State.fetchIsp (s : State) (g : Group) (f : Nat) : State × Bool :=
  let (s1, q1) := s.takeGroup g (f / 32 * 32)
  let (s2, q2) := s1.takeGroup g (f / 32 * 32 + 32)
  (s2.onCore g (fun c => { c with pred := { c.pred with queue := q1 ++ q2 } }), !q1.isEmpty || (s2.readWord (f / 8 * 8)).2.isSome)

/-! ### The loop buffer (R216) -/

/-- Whether an address lies in the body of the hardware loop. -/
def Copy.inBody (c : Copy) (a : Word) : Bool :=
  decide (c.ls ≤ a) && decide (a ≤ c.le)

/-- Whether the loop buffer takes the body of the loop (R216). -/
def Copy.loopFits (c : Copy) : Bool :=
  c.predctl.toNat.testBit 6 && decide (c.le.toNat - c.ls.toNat < 256)

/-- The bytes of a fetch group as fetch has them: of the fetch queue, of a line buffer, or of their target.
(DEDUCED, notes/assumptions/71.md) -/
def State.groupBytes (s : State) (g : Group) (a : Nat) : Bytes :=
  let p := (s.core g).pred
  let k := s.fetchKey g a
  match p.queue.find? (fun e => e.1 == k), p.lines.find? (fun e => e.1 == k / 128 * 128) with
  | some e, _ => e.2
  | none, some e => (e.2.drop (k % 128)).take 32
  | none, none => s.decoded k 32

/-- In the first iteration of a loop, the fetch group of the PC enters the loop buffer (R216).
(DEDUCED, notes/assumptions/73.md) -/
def State.captureLoop (s : State) (g : Group) : State :=
  let c := s.core g
  let a := c.pc.toNat / 32 * 32
  let k := s.fetchKey g a
  if c.pred.capturing && c.inBody c.pc && c.loopFits && !buffered c.pred.loopBuf 32 k then
    s.onCore g (fun x => { x with pred := { x.pred with loopBuf := x.pred.loopBuf ++ [(k, s.groupBytes g a)] } })
  else s

/-! ### Faults (R213, R265, R267) -/

/-- Whether the fetch of the instruction at the PC waits: its line is to be read from a busy plane of the code flash (R388). -/
def State.fetchWaits (s : State) (g : Group) : Bool :=
  let c := s.core g
  let pc := c.pc.toNat
  let k := s.fetchKey g pc
  s.viewBusy g pc && (s.mpuJudge g c.pl.val (pc / 32 * 32) .fetch).2 && !buffered c.pred.lines 128 k
    && !(c.predctl.toNat.testBit 6 && buffered c.pred.loopBuf 32 k)

/-- The fetch of the instruction at the PC, and the fault that its group carries, in the order of R267. A group that the
line buffers, the loop buffer or the fetch queue hold is not read again; a miss fills a line.
(DESIGN CHOICE, notes/assumptions/5.md; DEDUCED, notes/assumptions/71.md) -/
def State.fetchFault (s : State) (g : Group) : State × Option Exc :=
  let c := s.core g
  let pc := c.pc.toNat
  let k := s.fetchKey g pc
  if !(s.mpuJudge g c.pl.val (pc / 32 * 32) .fetch).2 then (s.countDeny g .fetchNx, some .fetchNx)
  else if !fetchRegion pc then (s, some .fetchErr)
  else if c.predctl.toNat.testBit 6 && buffered c.pred.loopBuf 32 k then (s, none)
  else if !lineRegion pc then
    let (s1, ok) := s.fetchIsp g k
    (s1.captureLoop g, if ok then none else some .fetchLat)
  else if buffered c.pred.lines 128 k then (s.captureLoop g, none)
  else match s.fillLine g (pc / 128 * 128) with
  | (s1, some .fetchLat) => (s1, if (s1.readWord (k / 8 * 8)).2.isSome then none else some .fetchLat)
  | (s1, some e) => (s1, some e)
  | (s1, none) => (s1.captureLoop g, none)

end Sys2Proof.Machine
end

