-- ==== Sys2Proof/Machine/CoreRun.lean ====
section
/-! DEFINITION. One instruction of a group: the order of exceptions, commit, delay slots, hardware loops and
prediction (R213 to R221, R224, R230, R239, R250 to R255, R266, R267, R278). -/

namespace Sys2Proof.Machine

/-! ### What an instruction is and does -/

/-- A branch or jump that has resolved (R250, R251, R253). -/
structure Branch where
  taken : Bool
  target : Word
  annul : Bool
  kind : BranchKind
  direct : Bool
  deriving DecidableEq, Repr

/-- Where execution goes on: in sequence; in sequence, with LC as the instruction wrote it; through a delay slot; at an
address. -/
inductive Flow where
  | next
  | keepLc
  | branch (b : Branch)
  | goto (pc : Word)
  deriving DecidableEq, Repr

/-- What an instruction that is not annulled comes to. -/
inductive Effect where
  /-- A fault (R266), with what finding it left. -/
  | fault (c : Exc) (faddr : Word) (s : State)
  /-- It commits, with its effects; a completion exception follows it, where there is one. -/
  | done (s : State) (flow : Flow) (after : Option (Exc × Word))
  /-- RFE commits. -/
  | returns
  /-- It waits for data that have not returned (R185, R228). -/
  | waits
  deriving DecidableEq, Repr

/-- An instruction as issue sees it: its word, whether it is well formed, its class, and whether the level in effect
permits it (R239, R252, R258). -/
structure Ins where
  word : Word
  legal : Bool := true
  sys : Bool := false
  branch : Bool := false
  permitted : Bool := true
  deriving DecidableEq, Repr

/-- An instruction that every level may run and that is no branch and not of class SYS. -/
def plainIns (w : Word) (legal : Bool := true) : Ins :=
  { word := w, legal := legal }

/-- What an effect comes to that goes on once every older store is acknowledged (R226, R248): none whose error status is
on its way. (DEDUCED, notes/assumptions/68.md) -/
def State.acknowledged (s : State) (g : Group) (e : Effect) : Effect :=
  if (s.core g).storeErrs.isEmpty then e else .waits

/-! ### Prediction (R217 to R219, R230) -/

/-- An instance of the direction table's index (R217). -/
def dirIx (pc : Word) (h : BitVec 10) : Nat :=
  (pc.toNat / 4 % 1024) ^^^ h.toNat

/-- A direction counter moved by an outcome. -/
def dirStep (n : Fin 4) (taken : Bool) : Fin 4 :=
  if taken then toIx 4 (min (n.val + 1) 3) else toIx 4 (n.val - 1)

/-- The entry of the BTB that a branch hits. -/
def Predictor.hit (p : Predictor) (pc : Word) : Option BtbEntry :=
  ((lookup p.btb (pc.toNat / 4 % 32)).getD []).find? (fun e => e.pc == pc)

/-- An entry allocated in the BTB, the oldest of its set replaced. -/
def Predictor.allocate (p : Predictor) (e : BtbEntry) : Predictor :=
  let k := e.pc.toNat / 4 % 32
  let l := (lookup p.btb k).getD []
  { p with btb := setKey p.btb k ((if l.length < 4 then l else l.drop 1) ++ [e]) [] }

/-- The address that a branch is predicted to go to after its delay slot; none in sequence (R217, R219, R220).
(DEDUCED, notes/assumptions/73.md) -/
def Predictor.guess (p : Predictor) (ctl : Word) (pc : Word) (kind : BranchKind) : Option Word :=
  let on (k : Nat) : Bool := ctl.toNat.testBit k
  if on 3 || !on 1 then none
  else match p.hit pc with
  | none => none
  | some e =>
    match kind with
    | .conditional =>
      if on 0 && decide (2 ≤ ((lookup p.dir (dirIx pc p.hist)).getD 1).val) then some e.target else none
    | .ret => if on 2 then p.ras.head? else some e.target
    | _ => some e.target

/-- Whether a branch is redirected at EX1 (R217 to R219): a wrong prediction, but for a direct jump or call, which DP
redirects where the BTB did not. -/
def Predictor.mispredicts (p : Predictor) (ctl : Word) (pc : Word) (b : Branch) : Bool :=
  let actual := if b.taken then some b.target else none
  let guess := p.guess ctl pc b.kind
  if b.direct && guess.isNone then false else guess != actual

/-- What a committed branch leaves in the prediction structures (R217): nothing in Deterministic Fetch Mode.
(DEDUCED, notes/assumptions/73.md) -/
def Predictor.learn (p : Predictor) (ctl : Word) (pc : Word) (b : Branch) : Predictor :=
  let on (k : Nat) : Bool := ctl.toNat.testBit k
  if on 3 then p
  else
    let p1 := if on 1 && b.taken && (p.hit pc).isNone then p.allocate ⟨pc, b.target, b.kind⟩ else p
    match b.kind with
    | .conditional =>
      let k := dirIx pc p.hist
      { p1 with dir := setKey p1.dir k (dirStep ((lookup p1.dir k).getD 1) b.taken) 1, hist := p1.hist <<< 1 ||| (if b.taken then 1 else 0) }
    | .call => { p1 with ras := ((pc + 8) :: p1.ras).take 8 }
    | .ret => { p1 with ras := p1.ras.drop 1 }
    | _ => p1

/-- The kinds of branch by number. -/
def kindOf (n : Nat) : BranchKind :=
  match n % 5 with | 0 => .conditional | 1 => .jump | 2 => .call | 3 => .ret | _ => .indirect

/-- What the wrong path of a misprediction allocates in the BTB (R217, R223): a free list of entries.
(DEDUCED, notes/assumptions/73.md) -/
def State.wander (s : State) (g : Group) (ctl : Word) : State :=
  if ctl.toNat.testBit 3 || !ctl.toNat.testBit 1 then s
  else
    let (d, s1) := s.draw
    let add (p : Predictor) (e : Word × Word × Nat) : Predictor :=
      if (p.hit e.1).isSome then p else p.allocate ⟨e.1, e.2.1, kindOf e.2.2⟩
    s1.onCore g (fun c => { c with pred := (Config.wrongPath d).foldl add c.pred })

/-- A committed branch in a group's predictor and counters. (DEDUCED, notes/assumptions/73.md) -/
def State.predict (s : State) (g : Group) (pc : Word) (b : Branch) : State :=
  let c := s.core g
  let ctl := c.predctl
  let s1 := if c.pred.mispredicts ctl pc b then (s.bump (LS_P_MISPRED_CNT g)).wander g ctl else s
  let alloc := !ctl.toNat.testBit 3 && ctl.toNat.testBit 1 && b.taken && (c.pred.hit pc).isNone
  let s2 := if alloc then s1.bump (LS_P_BTB_ALLOC_CNT g) else s1
  s2.onCore g (fun c => { c with pred := c.pred.learn ctl pc b })

/-! ### Commit (R224, R250, R254) -/

/-- What follows a committed instruction (R250, R254): `c0` is the group's state before it, `before` the writes then in
their shadow. The first iteration of a loop ends at its back-edge; a redirect out of the body empties the loop buffer
(R216). (DEDUCED, notes/assumptions/72.md) -/
def Core.follow (c : Core) (c0 : Core) (flow : Flow) (before : List (ShadowWrite × Word)) : Core :=
  let seq (keep : Bool) : Core :=
    match c0.delay with
    | some d => { c with pc := d.next, delay := none, pred := if c.inBody c0.pc && !c.inBody d.next then c.pred.leave else c.pred }
    | none =>
      if c0.pc = c0.le ∧ c0.lc ≠ 0 then
        { c with
          lc := if keep then c.lc else c0.lc - 1, pc := if c0.lc - 1 ≠ 0 then c0.ls else c0.le + 4
          pred := { c.pred with capturing := false } }
      else { c with pc := c0.pc + 4 }
  match flow with
  | .next => seq false
  | .keepLc => seq true
  | .goto pc => { c with pc := pc, delay := none }
  | .branch b =>
    { c with
      pc := c0.pc + 4
      delay := some ⟨c0.pc, if b.taken then b.target else c0.pc + 8, !b.taken && b.annul, before⟩ }

/-- A debugger's single step ends at a commit boundary where an interrupt could be taken (R203).
(DEDUCED, notes/assumptions/68.md) -/
def State.endStep (s : State) (g : Group) : State :=
  let c := s.core g
  if c.stepping && c.delay.isNone && s.get (LS_STAT_STATE g) == lsRunning then
    (((s.onCore g (fun c => { c with stepping := false })).putFlag (LS_DBG_HALTED g) true).put (LS_STAT_STATE g) lsHalted).syncIc
  else s

/-- The commit of an instruction whose effects `s` holds; `s0` is the state before it. A group that its own effects have
stopped or restarted goes no further; a store error that has returned prevails over its completion exception (R267).
(DEDUCED, notes/assumptions/68.md) -/
def State.commit (s s0 : State) (g : Group) (flow : Flow) (after : Option (Exc × Word)) : State :=
  if s.get (LS_STAT_STATE g) != lsRunning then s
  else
    let c0 := s0.core g
    let before := c0.shadow.map (fun w => (w, s0.inEffect g w.reg))
    let s1 := (s.bump (LS_P_ISSUE_CNT g)).bump (LS_P_COMMIT_CNT g)
    let s2 := match flow with | .branch b => s1.predict g c0.pc b | _ => s1
    let s3 := (s2.age g c0.shadow.length).onCore g (fun c => { c.follow c0 flow before with entry := none })
    match s3.takeDue g, after with
    | some t, _ => t
    | none, some (e, a) => s3.completeExc g e a
    | none, none => s3

/-- A fault of the instruction, with its counters. -/
def State.refuseIns (s : State) (g : Group) (c : Exc) (faddr : Word) : State :=
  (((s.bump (LS_P_ISSUE_CNT g)).countDeny g c).faultAt g c faddr).endStep g

/-- Whether an instruction may not stand where the loop ends (R255). (DEDUCED, notes/assumptions/72.md) -/
def Core.badLoopEnd (c : Core) (i : Ins) : Bool :=
  c.pc == c.le && c.lc != 0 && (i.branch || c.delay.isSome)

/-- The register that an instruction writes (R182, R242 to R251, R256), by its word: none for one that writes no
register. -/
def destOf (w : Word) : Option GReg :=
  let op := bitsOf w.toNat 26 6
  let rd : GReg := BitVec.ofNat 5 (bitsOf w.toNat 21 5)
  let r : GReg :=
    if op ≤ 3 ∨ (8 ≤ op ∧ op < 0x16 ∧ op ≠ 0x13) ∨ (op = 0x3F ∧ bitsOf w.toNat 0 6 = 0) then rd
    else if op = 0x13 then (if rd = 0 then 1 else rd)
    else if op = 0x29 then 31
    else if op = 0x2A then BitVec.ofNat 5 (bitsOf w.toNat 15 5)
    else 0
  if r = 0 then none else some r

/-- The register that a committed instruction wrote, with its value; a divide that raises DIV0 writes none (R245). -/
def State.wrote (t : State) (g : Group) (w : Word) (after : Option (Exc × Word)) : Option (GReg × Word) :=
  if after.any (fun (e : Exc × Word) => e.1 == .div0) then none else (destOf w).map (fun r => (r, t.rg g r))

/-- One instruction of a group that runs (R213, R250, R266, R267, R278): a store error that has returned, the fetch
faults, then ILLEGAL, PRIV and LOOP_SETUP, then what its effect finds. An annulled slot performs nothing, and of its
other faults raises ILLEGAL alone. The slot in which it commits is voted (R202).
(DESIGN CHOICE, notes/assumptions/5.md; DEDUCED, notes/assumptions/68.md; DEDUCED, notes/assumptions/72.md) -/
def State.run (s : State) (g : Group) (i : Ins) (effect : State → Effect) : State :=
  if !s.groupRuns g then s
  else match s.takeDue g with
  | some t => t.endStep g
  | none =>
    if s.fetchWaits g then s
    else
    let (s1, f) := s.fetchFault g
    let c := s1.core g
    match f with
    | some e => ((s1.bump (LS_P_ISSUE_CNT g)).faultAt g e c.pc).endStep g
    | none =>
      if !i.legal || (c.delay.isSome && (i.sys || i.branch)) then s1.refuseIns g .illegal i.word
      else if c.delay.any (fun (d : DelaySlot) => d.annul) then ((s1.commit s1 g .next none).votedSlot s1 g none).endStep g
      else if !i.permitted then s1.refuseIns g .priv i.word
      else if c.badLoopEnd i then s1.refuseIns g .loopSetup c.le
      else match effect s1 with
      | .fault e a t => t.refuseIns g e a
      | .done t flow after => ((t.commit s1 g flow after).votedSlot s1 g (t.wrote g i.word after)).endStep g
      | .returns =>
        let s2 := (s1.bump (LS_P_ISSUE_CNT g)).bump (LS_P_COMMIT_CNT g)
        (((s2.age g c.shadow.length).rfe g c.pl).votedSlot s1 g none).endStep g
      | .waits => s

end Sys2Proof.Machine
end

