-- ==== Sys2Proof/Machine/Alu.lean ====
section
/-! DEFINITION. The ALU group and the immediate instructions (R242, R243). -/

namespace Sys2Proof.Machine

/-! ### The arithmetic (R242) -/

/-- An instruction that computes a general register and goes on in sequence. -/
def State.computeReg (s : State) (g : Group) (i : Ins) (rd : GReg) (v : Core → Word) : State :=
  s.run g i (fun s => .done (s.setRg g rd (v (s.core g))) .next none)

/-- A signed number clamped to 32 bits. -/
def sat32 (x : Int) : Word :=
  BitVec.ofInt 32 (max (-2147483648) (min x 2147483647))

/-- The number 1 where a condition holds, 0 otherwise. -/
def ofBool32 (b : Bool) : Word :=
  if b then 1 else 0

/-- The shift count of a register: its low 5 bits. -/
def shiftOf (b : Word) : Nat :=
  b.toNat % 32

/-- The mask of the low w bits. -/
def maskOf (w : Nat) : Word :=
  BitVec.ofNat 32 (2 ^ w - 1)

/-- The width that the rb field of a bit-field instruction names. -/
def widthOf (w : BitVec 5) : Nat :=
  w.toNat + 1

/-- The bit field of EXTU. -/
def extractBits (a : Word) (w sh : BitVec 5) : Word :=
  (a >>> sh.toNat) &&& maskOf (widthOf w)

/-- The bit field of EXTS: bit w − 1 sign-extended. -/
def extractSigned (a : Word) (w sh : BitVec 5) : Word :=
  BitVec.ofInt 32 (signedOf (widthOf w) (extractBits a w sh).toNat)

/-- The result of INS. -/
def insertBits (d a : Word) (w sh : BitVec 5) : Word :=
  (d &&& ~~~(maskOf (widthOf w) <<< sh.toNat)) ||| ((a &&& maskOf (widthOf w)) <<< sh.toNat)

/-- Whether a bit field fits in the word: SH + w ≤ 32. -/
def fieldFits (w sh : BitVec 5) : Bool :=
  decide (sh.toNat + widthOf w ≤ 32)

/-- The number of leading zeros; 32 for 0. -/
def leadingZeros (a : Word) : Word :=
  BitVec.ofNat 32 (((List.range 32).find? (fun i => a.toNat.testBit (31 - i))).getD 32)

/-- The number of trailing zeros; 32 for 0. -/
def trailingZeros (a : Word) : Word :=
  BitVec.ofNat 32 (((List.range 32).find? (fun i => a.toNat.testBit i)).getD 32)

/-- The number of 1 bits. -/
def popCount (a : Word) : Word :=
  BitVec.ofNat 32 (onesBelow 32 a.toNat)

/-- The bytes of a word in the other order. -/
def byteSwap (a : Word) : Word :=
  BitVec.ofNat 32 (leNat (natLe 4 a.toNat).reverse)

/-! ### The instructions of the ALU group -/

/-- `ADD` (R242): rd = ra + rb. -/
def execAdd (g : Group) (rd ra rb : GReg) (s : State) : Host.Outcome State Fault Refusal :=
  .next (s.computeReg g (plainIns (wordA 0x00 rd ra rb 0 0x00)) rd (fun (c : Core) => c.rg ra + c.rg rb))

/-- `SUB` (R242): rd = ra − rb. -/
def execSub (g : Group) (rd ra rb : GReg) (s : State) : Host.Outcome State Fault Refusal :=
  .next (s.computeReg g (plainIns (wordA 0x00 rd ra rb 0 0x01)) rd (fun (c : Core) => c.rg ra - c.rg rb))

/-- `AND` (R242): bitwise and. -/
def execAnd (g : Group) (rd ra rb : GReg) (s : State) : Host.Outcome State Fault Refusal :=
  .next (s.computeReg g (plainIns (wordA 0x00 rd ra rb 0 0x02)) rd (fun (c : Core) => c.rg ra &&& c.rg rb))

/-- `OR` (R242): bitwise or. -/
def execOr (g : Group) (rd ra rb : GReg) (s : State) : Host.Outcome State Fault Refusal :=
  .next (s.computeReg g (plainIns (wordA 0x00 rd ra rb 0 0x03)) rd (fun (c : Core) => c.rg ra ||| c.rg rb))

/-- `XOR` (R242): bitwise exclusive or. -/
def execXor (g : Group) (rd ra rb : GReg) (s : State) : Host.Outcome State Fault Refusal :=
  .next (s.computeReg g (plainIns (wordA 0x00 rd ra rb 0 0x04)) rd (fun (c : Core) => c.rg ra ^^^ c.rg rb))

/-- `NOR` (R242): the complement of the bitwise or. -/
def execNor (g : Group) (rd ra rb : GReg) (s : State) : Host.Outcome State Fault Refusal :=
  .next (s.computeReg g (plainIns (wordA 0x00 rd ra rb 0 0x05)) rd (fun (c : Core) => ~~~(c.rg ra ||| c.rg rb)))

/-- `SLT` (R242): 1 where ra < rb, signed. -/
def execSlt (g : Group) (rd ra rb : GReg) (s : State) : Host.Outcome State Fault Refusal :=
  .next (s.computeReg g (plainIns (wordA 0x00 rd ra rb 0 0x06)) rd (fun (c : Core) => ofBool32 ((c.rg ra).slt (c.rg rb))))

/-- `SLTU` (R242): 1 where ra < rb, unsigned. -/
def execSltu (g : Group) (rd ra rb : GReg) (s : State) : Host.Outcome State Fault Refusal :=
  .next (s.computeReg g (plainIns (wordA 0x00 rd ra rb 0 0x07)) rd (fun (c : Core) => ofBool32 ((c.rg ra).ult (c.rg rb))))

/-- `SLL` (R242): a left shift by rb[4:0]. -/
def execSll (g : Group) (rd ra rb : GReg) (s : State) : Host.Outcome State Fault Refusal :=
  .next (s.computeReg g (plainIns (wordA 0x00 rd ra rb 0 0x08)) rd (fun (c : Core) => c.rg ra <<< shiftOf (c.rg rb)))

/-- `SRL` (R242): a right shift by rb[4:0], zero fill. -/
def execSrl (g : Group) (rd ra rb : GReg) (s : State) : Host.Outcome State Fault Refusal :=
  .next (s.computeReg g (plainIns (wordA 0x00 rd ra rb 0 0x09)) rd (fun (c : Core) => c.rg ra >>> shiftOf (c.rg rb)))

/-- `SRA` (R242): a right shift by rb[4:0], sign fill. -/
def execSra (g : Group) (rd ra rb : GReg) (s : State) : Host.Outcome State Fault Refusal :=
  .next (s.computeReg g (plainIns (wordA 0x00 rd ra rb 0 0x0A)) rd (fun (c : Core) => (c.rg ra).sshiftRight (shiftOf (c.rg rb))))

/-- `SLLI` (R242): a left shift by SH. -/
def execSlli (g : Group) (rd ra : GReg) (sh : BitVec 5) (s : State) : Host.Outcome State Fault Refusal :=
  .next (s.computeReg g (plainIns (wordA 0x00 rd ra 0 sh 0x0C)) rd (fun (c : Core) => c.rg ra <<< sh.toNat))

/-- `SRLI` (R242): a right shift by SH, zero fill. -/
def execSrli (g : Group) (rd ra : GReg) (sh : BitVec 5) (s : State) : Host.Outcome State Fault Refusal :=
  .next (s.computeReg g (plainIns (wordA 0x00 rd ra 0 sh 0x0D)) rd (fun (c : Core) => c.rg ra >>> sh.toNat))

/-- `SRAI` (R242): a right shift by SH, sign fill. -/
def execSrai (g : Group) (rd ra : GReg) (sh : BitVec 5) (s : State) : Host.Outcome State Fault Refusal :=
  .next (s.computeReg g (plainIns (wordA 0x00 rd ra 0 sh 0x0E)) rd (fun (c : Core) => (c.rg ra).sshiftRight sh.toNat))

/-- `MIN` (R242): the signed minimum. -/
def execMin (g : Group) (rd ra rb : GReg) (s : State) : Host.Outcome State Fault Refusal :=
  .next (s.computeReg g (plainIns (wordA 0x00 rd ra rb 0 0x10)) rd (fun (c : Core) => if (c.rg ra).slt (c.rg rb) then c.rg ra else c.rg rb))

/-- `MAX` (R242): the signed maximum. -/
def execMax (g : Group) (rd ra rb : GReg) (s : State) : Host.Outcome State Fault Refusal :=
  .next (s.computeReg g (plainIns (wordA 0x00 rd ra rb 0 0x11)) rd (fun (c : Core) => if (c.rg ra).slt (c.rg rb) then c.rg rb else c.rg ra))

/-- `MINU` (R242): the unsigned minimum. -/
def execMinu (g : Group) (rd ra rb : GReg) (s : State) : Host.Outcome State Fault Refusal :=
  .next (s.computeReg g (plainIns (wordA 0x00 rd ra rb 0 0x12)) rd (fun (c : Core) => if (c.rg ra).ult (c.rg rb) then c.rg ra else c.rg rb))

/-- `MAXU` (R242): the unsigned maximum. -/
def execMaxu (g : Group) (rd ra rb : GReg) (s : State) : Host.Outcome State Fault Refusal :=
  .next (s.computeReg g (plainIns (wordA 0x00 rd ra rb 0 0x13)) rd (fun (c : Core) => if (c.rg ra).ult (c.rg rb) then c.rg rb else c.rg ra))

/-- `ADDS` (R242): the signed sum, saturated. -/
def execAdds (g : Group) (rd ra rb : GReg) (s : State) : Host.Outcome State Fault Refusal :=
  .next (s.computeReg g (plainIns (wordA 0x00 rd ra rb 0 0x14)) rd (fun (c : Core) => sat32 ((c.rg ra).toInt + (c.rg rb).toInt)))

/-- `SUBS` (R242): the signed difference, saturated. -/
def execSubs (g : Group) (rd ra rb : GReg) (s : State) : Host.Outcome State Fault Refusal :=
  .next (s.computeReg g (plainIns (wordA 0x00 rd ra rb 0 0x15)) rd (fun (c : Core) => sat32 ((c.rg ra).toInt - (c.rg rb).toInt)))

/-- `EXTU` (R242): a bit field, zero-extended. -/
def execExtu (g : Group) (rd ra : GReg) (w sh : BitVec 5) (s : State) : Host.Outcome State Fault Refusal :=
  .next (s.computeReg g (plainIns (wordA 0x00 rd ra w sh 0x18) (fieldFits w sh)) rd (fun (c : Core) => extractBits (c.rg ra) w sh))

/-- `EXTS` (R242): a bit field, sign-extended. -/
def execExts (g : Group) (rd ra : GReg) (w sh : BitVec 5) (s : State) : Host.Outcome State Fault Refusal :=
  .next (s.computeReg g (plainIns (wordA 0x00 rd ra w sh 0x19) (fieldFits w sh)) rd (fun (c : Core) => extractSigned (c.rg ra) w sh))

/-- `INS` (R242): a bit field inserted into rd. -/
def execIns (g : Group) (rd ra : GReg) (w sh : BitVec 5) (s : State) : Host.Outcome State Fault Refusal :=
  .next (s.computeReg g (plainIns (wordA 0x00 rd ra w sh 0x1A) (fieldFits w sh)) rd (fun (c : Core) => insertBits (c.rg rd) (c.rg ra) w sh))

/-- `CLZ` (R242): leading zeros. -/
def execClz (g : Group) (rd ra : GReg) (s : State) : Host.Outcome State Fault Refusal :=
  .next (s.computeReg g (plainIns (wordA 0x00 rd ra 0 0 0x1C)) rd (fun (c : Core) => leadingZeros (c.rg ra)))

/-- `CTZ` (R242): trailing zeros. -/
def execCtz (g : Group) (rd ra : GReg) (s : State) : Host.Outcome State Fault Refusal :=
  .next (s.computeReg g (plainIns (wordA 0x00 rd ra 0 0 0x1D)) rd (fun (c : Core) => trailingZeros (c.rg ra)))

/-- `POPC` (R242): the number of 1 bits. -/
def execPopc (g : Group) (rd ra : GReg) (s : State) : Host.Outcome State Fault Refusal :=
  .next (s.computeReg g (plainIns (wordA 0x00 rd ra 0 0 0x1E)) rd (fun (c : Core) => popCount (c.rg ra)))

/-- `BSWAP` (R242): the byte order reversed. -/
def execBswap (g : Group) (rd ra : GReg) (s : State) : Host.Outcome State Fault Refusal :=
  .next (s.computeReg g (plainIns (wordA 0x00 rd ra 0 0 0x1F)) rd (fun (c : Core) => byteSwap (c.rg ra)))

/-! ### The immediate instructions (R243) -/

/-- `ADDI` (R243): rd = ra + sext(IMM16). -/
def execAddi (g : Group) (rd ra : GReg) (imm : BitVec 16) (s : State) : Host.Outcome State Fault Refusal :=
  .next (s.computeReg g (plainIns (wordI 0x08 rd ra imm)) rd (fun (c : Core) => c.rg ra + sext16 imm))

/-- `SLTI` (R243): 1 where ra < sext(IMM16), signed. -/
def execSlti (g : Group) (rd ra : GReg) (imm : BitVec 16) (s : State) : Host.Outcome State Fault Refusal :=
  .next (s.computeReg g (plainIns (wordI 0x09 rd ra imm)) rd (fun (c : Core) => ofBool32 ((c.rg ra).slt (sext16 imm))))

/-- `SLTIU` (R243): 1 where ra < sext(IMM16), unsigned. -/
def execSltiu (g : Group) (rd ra : GReg) (imm : BitVec 16) (s : State) : Host.Outcome State Fault Refusal :=
  .next (s.computeReg g (plainIns (wordI 0x0A rd ra imm)) rd (fun (c : Core) => ofBool32 ((c.rg ra).ult (sext16 imm))))

/-- `ANDI` (R243): rd = ra and zext(IMM16). -/
def execAndi (g : Group) (rd ra : GReg) (imm : BitVec 16) (s : State) : Host.Outcome State Fault Refusal :=
  .next (s.computeReg g (plainIns (wordI 0x0C rd ra imm)) rd (fun (c : Core) => c.rg ra &&& zext16 imm))

/-- `ORI` (R243): rd = ra or zext(IMM16). -/
def execOri (g : Group) (rd ra : GReg) (imm : BitVec 16) (s : State) : Host.Outcome State Fault Refusal :=
  .next (s.computeReg g (plainIns (wordI 0x0D rd ra imm)) rd (fun (c : Core) => c.rg ra ||| zext16 imm))

/-- `XORI` (R243): rd = ra exclusive-or zext(IMM16). -/
def execXori (g : Group) (rd ra : GReg) (imm : BitVec 16) (s : State) : Host.Outcome State Fault Refusal :=
  .next (s.computeReg g (plainIns (wordI 0x0E rd ra imm)) rd (fun (c : Core) => c.rg ra ^^^ zext16 imm))

/-- `LUI` (R243): rd = IMM16 << 16. -/
def execLui (g : Group) (rd : GReg) (imm : BitVec 16) (s : State) : Host.Outcome State Fault Refusal :=
  .next (s.computeReg g (plainIns (wordI 0x0F rd 0 imm)) rd (fun (_ : Core) => zext16 imm <<< 16))

end Sys2Proof.Machine
end

