-- ==== Sys2Proof/Machine/MulDiv.lean ====
section
/-! DEFINITION. The multiplies and the divides (R244, R245). -/

namespace Sys2Proof.Machine

/-! ### The arithmetic -/

/-- The high word of a product. -/
def highWord (p : Int) : Word :=
  BitVec.ofInt 32 (p / 4294967296)

/-- The Q1.31 product of two words, rounded to nearest, ties away from zero, exactly. -/
def mulQ (a b : Word) : Int :=
  divNearest (a.toInt * b.toInt) 2147483648

/-- The quotient or the remainder of a divide (R245), of its operands. -/
def quotSigned (a b : Word) : Word :=
  if b = 0 then (if 0 ≤ a.toInt then 0x7FFFFFFF else 0x80000000)
  else if a = 0x80000000 ∧ b = 0xFFFFFFFF then 0x7FFFFFFF
  else BitVec.ofInt 32 (a.toInt.tdiv b.toInt)

/-- The unsigned quotient. -/
def quotUnsigned (a b : Word) : Word :=
  if b = 0 then 0xFFFFFFFF else BitVec.ofNat 32 (a.toNat / b.toNat)

/-- The signed remainder. -/
def remSigned (a b : Word) : Word :=
  if b = 0 then a
  else if a = 0x80000000 ∧ b = 0xFFFFFFFF then 0
  else BitVec.ofInt 32 (a.toInt.tmod b.toInt)

/-- The unsigned remainder. -/
def remUnsigned (a b : Word) : Word :=
  if b = 0 then a else BitVec.ofNat 32 (a.toNat % b.toNat)

/-- A divide (R245): with DZE in effect and rb = 0 it writes no register and raises DIV0 at its commit. -/
def State.divide (s : State) (g : Group) (i : Ins) (rd ra rb : GReg) (f : Word → Word → Word) : State :=
  s.run g i (fun s =>
    let c := s.core g
    if c.dze && c.rg rb == 0 then .done s .next (some (.div0, c.pc))
    else .done (s.setRg g rd (f (c.rg ra) (c.rg rb))) .next none)

/-! ### The MUL group (R244) -/

/-- `MUL` (R244): the low word of the product. -/
def execMul (g : Group) (rd ra rb : GReg) (s : State) : Host.Outcome State Fault Refusal :=
  .next (s.computeReg g (plainIns (wordA 0x01 rd ra rb 0 0x00)) rd (fun (c : Core) => c.rg ra * c.rg rb))

/-- `MULH` (R244): the high word, both signed. -/
def execMulh (g : Group) (rd ra rb : GReg) (s : State) : Host.Outcome State Fault Refusal :=
  .next (s.computeReg g (plainIns (wordA 0x01 rd ra rb 0 0x01)) rd (fun (c : Core) => highWord ((c.rg ra).toInt * (c.rg rb).toInt)))

/-- `MULHU` (R244): the high word, both unsigned. -/
def execMulhu (g : Group) (rd ra rb : GReg) (s : State) : Host.Outcome State Fault Refusal :=
  .next (s.computeReg g (plainIns (wordA 0x01 rd ra rb 0 0x02)) rd (fun (c : Core) => highWord ((c.rg ra).toNat * (c.rg rb).toNat)))

/-- `MULHSU` (R244): the high word, ra signed, rb unsigned. -/
def execMulhsu (g : Group) (rd ra rb : GReg) (s : State) : Host.Outcome State Fault Refusal :=
  .next (s.computeReg g (plainIns (wordA 0x01 rd ra rb 0 0x03)) rd (fun (c : Core) => highWord ((c.rg ra).toInt * (c.rg rb).toNat)))

/-- `MULQ` (R244): the Q1.31 product, rounded and saturated. -/
def execMulq (g : Group) (rd ra rb : GReg) (s : State) : Host.Outcome State Fault Refusal :=
  .next (s.computeReg g (plainIns (wordA 0x01 rd ra rb 0 0x08)) rd (fun (c : Core) => sat32 (mulQ (c.rg ra) (c.rg rb))))

/-- `MACQ` (R244): the Q1.31 product added to rd, saturated once. -/
def execMacq (g : Group) (rd ra rb : GReg) (s : State) : Host.Outcome State Fault Refusal :=
  .next (s.computeReg g (plainIns (wordA 0x01 rd ra rb 0 0x09)) rd (fun (c : Core) => sat32 ((c.rg rd).toInt + mulQ (c.rg ra) (c.rg rb))))

/-! ### The DIV group (R245) -/

/-- `DIV` (R245): the signed quotient. -/
def execDiv (g : Group) (rd ra rb : GReg) (s : State) : Host.Outcome State Fault Refusal :=
  .next (s.divide g (plainIns (wordA 0x02 rd ra rb 0 0x00)) rd ra rb quotSigned)

/-- `DIVU` (R245): the unsigned quotient. -/
def execDivu (g : Group) (rd ra rb : GReg) (s : State) : Host.Outcome State Fault Refusal :=
  .next (s.divide g (plainIns (wordA 0x02 rd ra rb 0 0x01)) rd ra rb quotUnsigned)

/-- `REM` (R245): the signed remainder. -/
def execRem (g : Group) (rd ra rb : GReg) (s : State) : Host.Outcome State Fault Refusal :=
  .next (s.divide g (plainIns (wordA 0x02 rd ra rb 0 0x02)) rd ra rb remSigned)

/-- `REMU` (R245): the unsigned remainder. -/
def execRemu (g : Group) (rd ra rb : GReg) (s : State) : Host.Outcome State Fault Refusal :=
  .next (s.divide g (plainIns (wordA 0x02 rd ra rb 0 0x03)) rd ra rb remUnsigned)

end Sys2Proof.Machine
end

