-- ==== Sys2Proof/Machine/LoadStore.lean ====
section
/-! DEFINITION. Loads, stores and atomics (R246 to R249). -/

namespace Sys2Proof.Machine

/-! ### The forms -/

/-- The word of a loaded value of n bytes, sign- or zero-extended. -/
def loadExt (n : Nat) (signed : Bool) (v : Nat) : Word :=
  if signed then BitVec.ofInt 32 (signedOf (8 * n) v) else BitVec.ofNat 32 v

/-- A load of n bytes (R228, R246 to R248): the checks, then the replay entry or the bus, from a restricted region once
every older store is acknowledged; a busy plane of the code flash waits (R388). `put` writes what it returned. -/
def State.load (s : State) (g : Group) (i : Ins) (ra : GReg) (imm : BitVec 16) (n : Nat) (put : Core → Nat → Core) : State :=
  s.run g i (fun s =>
    let a := (s.addrOf g ra imm).toNat
    let finish (s : State) (v : Nat) (e : Option (Exc × Word)) : Effect :=
      match e with
      | some (c, at_) => .fault c at_ s
      | none => .done (s.onCore g (fun c => put c v)) .next none
    let bus (s : State) : Effect :=
      if s.loadWaits g a n then .waits
      else
        let (s1, v, e) := s.readCore g a n
        finish s1 v e
    match s.checkAccess g a n .read with
    | .fault c at_ => .fault c at_ s
    | .go false => bus s
    | .go true =>
      s.acknowledged g (match s.replay g none a n with
      | (_, .waits) => .waits
      | (s1, .served v e) => finish s1 v e
      | (s1, .bus) => bus s1))

/-- A load of one register. -/
def State.loadReg (s : State) (g : Group) (i : Ins) (rd ra : GReg) (imm : BitVec 16) (n : Nat) (signed : Bool) : State :=
  s.load g i ra imm n (fun c v => c.setRg rd (loadExt n signed v))

/-- A store of bytes (R246, R247, R314): refused for overlap, an MPU-control store raises MPU_CFG at its commit. -/
def State.storeReg (s : State) (g : Group) (i : Ins) (ra : GReg) (imm : BitVec 16) (bytes : Core → Bytes) : State :=
  s.run g i (fun s =>
    let a := (s.addrOf g ra imm).toNat
    let b := bytes (s.core g)
    match s.checkAccess g a b.length .write with
    | .fault c at_ => .fault c at_ s
    | .go _ =>
      let (s1, r) := s.writeCore g a b
      .done s1 .next (r.map (fun at_ => (Exc.mpuCfg, at_))))

/-- An atomic (R228, R249), once every older store is acknowledged. -/
def State.atomicReg (s : State) (g : Group) (i : Ins) (rd ra rb : GReg) (op : AtomOp) : State :=
  s.run g i (fun s =>
    let c := s.core g
    let a := (c.rg ra).toNat
    let finish (s : State) (v : Nat) (e : Option (Exc × Word)) : Effect :=
      match e with
      | some (c, at_) => .fault c at_ s
      | none => .done (s.setRg g rd (BitVec.ofNat 32 v)) .next none
    match s.checkAtom g a with
    | .fault c at_ => .fault c at_ s
    | .go _ =>
      s.acknowledged g (match s.replay g (some op) a 4 with
      | (_, .waits) => .waits
      | (s1, .served v e) => finish s1 v e
      | (s1, .bus) =>
        let (s2, x) := s1.atomic g a op (c.rg rb) (c.rg rd)
        finish s2 x.data (x.err.map (fun e => (e, c.rg ra)))))

/-- The register after an even one. -/
def oddOf (r : GReg) : GReg := r ||| 1

/-- Whether a register may hold the low word of a double word. -/
def evenReg (r : GReg) : Bool := r.toNat % 2 == 0

/-! ### Loads (R246) -/

/-- `LDB` (R246): a byte, sign-extended. -/
def execLdb (g : Group) (rd ra : GReg) (imm : BitVec 16) (s : State) : Host.Outcome State Fault Refusal :=
  .next (s.loadReg g (plainIns (wordI 0x10 rd ra imm)) rd ra imm 1 true)

/-- `LDH` (R246): a halfword, sign-extended. -/
def execLdh (g : Group) (rd ra : GReg) (imm : BitVec 16) (s : State) : Host.Outcome State Fault Refusal :=
  .next (s.loadReg g (plainIns (wordI 0x11 rd ra imm)) rd ra imm 2 true)

/-- `LDW` (R246): a word. -/
def execLdw (g : Group) (rd ra : GReg) (imm : BitVec 16) (s : State) : Host.Outcome State Fault Refusal :=
  .next (s.loadReg g (plainIns (wordI 0x12 rd ra imm)) rd ra imm 4 false)

/-- `LDD` (R246): the word at the address to rd, the next one to rd + 1; rd shall be even. -/
def execLdd (g : Group) (rd ra : GReg) (imm : BitVec 16) (s : State) : Host.Outcome State Fault Refusal :=
  .next (s.load g (plainIns (wordI 0x13 rd ra imm) (evenReg rd)) ra imm 8
    (fun c v => (c.setRg rd (BitVec.ofNat 32 v)).setRg (oddOf rd) (BitVec.ofNat 32 (v / 2 ^ 32))))

/-- `LDBU` (R246): a byte, zero-extended. -/
def execLdbu (g : Group) (rd ra : GReg) (imm : BitVec 16) (s : State) : Host.Outcome State Fault Refusal :=
  .next (s.loadReg g (plainIns (wordI 0x14 rd ra imm)) rd ra imm 1 false)

/-- `LDHU` (R246): a halfword, zero-extended. -/
def execLdhu (g : Group) (rd ra : GReg) (imm : BitVec 16) (s : State) : Host.Outcome State Fault Refusal :=
  .next (s.loadReg g (plainIns (wordI 0x15 rd ra imm)) rd ra imm 2 false)

/-! ### Stores (R246) -/

/-- `STB` (R246): the low byte of rs stored. -/
def execStb (g : Group) (rs ra : GReg) (imm : BitVec 16) (s : State) : Host.Outcome State Fault Refusal :=
  .next (s.storeReg g (plainIns (wordI 0x18 rs ra imm)) ra imm (fun c => natLe 1 (c.rg rs).toNat))

/-- `STH` (R246): the low halfword of rs stored. -/
def execSth (g : Group) (rs ra : GReg) (imm : BitVec 16) (s : State) : Host.Outcome State Fault Refusal :=
  .next (s.storeReg g (plainIns (wordI 0x19 rs ra imm)) ra imm (fun c => natLe 2 (c.rg rs).toNat))

/-- `STW` (R246): rs stored. -/
def execStw (g : Group) (rs ra : GReg) (imm : BitVec 16) (s : State) : Host.Outcome State Fault Refusal :=
  .next (s.storeReg g (plainIns (wordI 0x1A rs ra imm)) ra imm (fun c => natLe 4 (c.rg rs).toNat))

/-- `STD` (R246): rs to the address, rs + 1 to the address + 4; rs shall be even. -/
def execStd (g : Group) (rs ra : GReg) (imm : BitVec 16) (s : State) : Host.Outcome State Fault Refusal :=
  .next (s.storeReg g (plainIns (wordI 0x1B rs ra imm) (evenReg rs)) ra imm
    (fun c => natLe 4 (c.rg rs).toNat ++ natLe 4 (c.rg (oddOf rs)).toNat))

/-! ### Atomics (R249) -/

/-- `ASWAP` (R249): memory becomes rb; rd receives the old value. -/
def execAswap (g : Group) (rd ra rb : GReg) (s : State) : Host.Outcome State Fault Refusal :=
  .next (s.atomicReg g (plainIns (wordA 0x03 rd ra rb 0 0x00)) rd ra rb .swap)

/-- `AADD` (R249): memory becomes old + rb; rd receives the old value. -/
def execAadd (g : Group) (rd ra rb : GReg) (s : State) : Host.Outcome State Fault Refusal :=
  .next (s.atomicReg g (plainIns (wordA 0x03 rd ra rb 0 0x01)) rd ra rb .add)

/-- `AAND` (R249): memory becomes old and rb; rd receives the old value. -/
def execAand (g : Group) (rd ra rb : GReg) (s : State) : Host.Outcome State Fault Refusal :=
  .next (s.atomicReg g (plainIns (wordA 0x03 rd ra rb 0 0x02)) rd ra rb .and)

/-- `AOR` (R249): memory becomes old or rb; rd receives the old value. -/
def execAor (g : Group) (rd ra rb : GReg) (s : State) : Host.Outcome State Fault Refusal :=
  .next (s.atomicReg g (plainIns (wordA 0x03 rd ra rb 0 0x03)) rd ra rb .or)

/-- `AXOR` (R249): memory becomes old exclusive-or rb; rd receives the old value. -/
def execAxor (g : Group) (rd ra rb : GReg) (s : State) : Host.Outcome State Fault Refusal :=
  .next (s.atomicReg g (plainIns (wordA 0x03 rd ra rb 0 0x04)) rd ra rb .xor)

/-- `AMIN` (R249): the signed minimum; rd receives the old value. -/
def execAmin (g : Group) (rd ra rb : GReg) (s : State) : Host.Outcome State Fault Refusal :=
  .next (s.atomicReg g (plainIns (wordA 0x03 rd ra rb 0 0x05)) rd ra rb .min)

/-- `AMAX` (R249): the signed maximum; rd receives the old value. -/
def execAmax (g : Group) (rd ra rb : GReg) (s : State) : Host.Outcome State Fault Refusal :=
  .next (s.atomicReg g (plainIns (wordA 0x03 rd ra rb 0 0x06)) rd ra rb .max)

/-- `AMINU` (R249): the unsigned minimum; rd receives the old value. -/
def execAminu (g : Group) (rd ra rb : GReg) (s : State) : Host.Outcome State Fault Refusal :=
  .next (s.atomicReg g (plainIns (wordA 0x03 rd ra rb 0 0x07)) rd ra rb .minu)

/-- `AMAXU` (R249): the unsigned maximum; rd receives the old value. -/
def execAmaxu (g : Group) (rd ra rb : GReg) (s : State) : Host.Outcome State Fault Refusal :=
  .next (s.atomicReg g (plainIns (wordA 0x03 rd ra rb 0 0x08)) rd ra rb .maxu)

/-- `ACAS` (R249): memory becomes rb where old = rd; rd receives the old value. -/
def execAcas (g : Group) (rd ra rb : GReg) (s : State) : Host.Outcome State Fault Refusal :=
  .next (s.atomicReg g (plainIns (wordA 0x03 rd ra rb 0 0x0C)) rd ra rb .cas)

end Sys2Proof.Machine
end

