-- ==== Sys2Proof/Machine/Branch.lean ====
section
/-! DEFINITION. Branches, jumps and the hardware loop (R250 to R255). -/

namespace Sys2Proof.Machine

/-- A conditional branch (R250, R251). -/
def State.condBranch (s : State) (g : Group) (w : Word) (an : Bool) (off : BitVec 15) (test : Core → Bool) : State :=
  s.run g { word := w, branch := true } (fun s =>
    let c := s.core g
    .done s (.branch ⟨test c, c.pc + off15 off, an, .conditional, false⟩) none)

/-- The link value of a jump, PC + 8. -/
def Core.link (c : Core) : Word := c.pc + 8

/-- The kind of a JALR (R253). -/
def jalrKind (rd ra : GReg) : BranchKind :=
  if rd = 31 then .call else if rd = 0 ∧ ra = 31 then .ret else .indirect

/-- `BEQ` (R251): taken where ra = rb. -/
def execBeq (g : Group) (an : Bool) (ra rb : GReg) (off : BitVec 15) (s : State) : Host.Outcome State Fault Refusal :=
  .next (s.condBranch g (wordB 0x20 an ra rb off) an off (fun c => c.rg ra == c.rg rb))

/-- `BNE` (R251): taken where ra ≠ rb. -/
def execBne (g : Group) (an : Bool) (ra rb : GReg) (off : BitVec 15) (s : State) : Host.Outcome State Fault Refusal :=
  .next (s.condBranch g (wordB 0x21 an ra rb off) an off (fun c => c.rg ra != c.rg rb))

/-- `BLT` (R251): taken where ra < rb, signed. -/
def execBlt (g : Group) (an : Bool) (ra rb : GReg) (off : BitVec 15) (s : State) : Host.Outcome State Fault Refusal :=
  .next (s.condBranch g (wordB 0x22 an ra rb off) an off (fun c => (c.rg ra).slt (c.rg rb)))

/-- `BGE` (R251): taken where ra ≥ rb, signed. -/
def execBge (g : Group) (an : Bool) (ra rb : GReg) (off : BitVec 15) (s : State) : Host.Outcome State Fault Refusal :=
  .next (s.condBranch g (wordB 0x23 an ra rb off) an off (fun c => !(c.rg ra).slt (c.rg rb)))

/-- `BLTU` (R251): taken where ra < rb, unsigned. -/
def execBltu (g : Group) (an : Bool) (ra rb : GReg) (off : BitVec 15) (s : State) : Host.Outcome State Fault Refusal :=
  .next (s.condBranch g (wordB 0x24 an ra rb off) an off (fun c => (c.rg ra).ult (c.rg rb)))

/-- `BGEU` (R251): taken where ra ≥ rb, unsigned. -/
def execBgeu (g : Group) (an : Bool) (ra rb : GReg) (off : BitVec 15) (s : State) : Host.Outcome State Fault Refusal :=
  .next (s.condBranch g (wordB 0x25 an ra rb off) an off (fun c => !(c.rg ra).ult (c.rg rb)))

/-- `J` (R251): a direct jump. -/
def execJ (g : Group) (off : BitVec 25) (s : State) : Host.Outcome State Fault Refusal :=
  .next (s.run g { word := wordJ 0x28 off, branch := true } (fun s =>
    .done s (.branch ⟨true, (s.core g).pc + off25 off, false, .jump, true⟩) none))

/-- `JAL` (R251): as J, with the link in g31. -/
def execJal (g : Group) (off : BitVec 25) (s : State) : Host.Outcome State Fault Refusal :=
  .next (s.run g { word := wordJ 0x29 off, branch := true } (fun s =>
    let c := s.core g
    .done (s.setRg g 31 c.link) (.branch ⟨true, c.pc + off25 off, false, .call, true⟩) none))

/-- `JALR` (R251): a jump to ra + sext(OFF15) × 4, with the link in rd. -/
def execJalr (g : Group) (rd ra : GReg) (off : BitVec 15) (s : State) : Host.Outcome State Fault Refusal :=
  .next (s.run g { word := wordB 0x2A false ra rd off, legal := rd != ra || rd == 0, branch := true } (fun s =>
    let c := s.core g
    let t := c.rg ra + off15 off
    if t.toNat % 4 ≠ 0 then .fault .align t s
    else .done (s.setRg g rd c.link) (.branch ⟨true, t, false, jalrKind rd ra, false⟩) none))

/-- The count of a LOOP. -/
def Core.loopCount (c : Core) (n : LoopCount) : Word :=
  match n with
  | .imm k => k.zeroExtend 32
  | .reg ra => c.rg ra

/-- The loop registers set up by LOOP: the loop buffer is emptied, and takes the body in its first iteration where it fits
(R216). -/
def Core.setLoop (c : Core) (ls le k : Word) : Core :=
  let c1 : Core := { c with ls := ls, le := le, lc := k, pred := { c.pred with loopBuf := [] } }
  { c1 with pred := { c1.pred with capturing := k != 0 && c1.loopFits } }

/-- `LOOP` (R254, R255): LS, LE and LC set up. (DEDUCED, notes/assumptions/72.md) -/
def execLoop (g : Group) (n : LoopCount) (end_ : BitVec 13) (s : State) : Host.Outcome State Fault Refusal :=
  .next (s.run g { word := wordL 0x30 n end_, sys := true, branch := true } (fun s =>
    let c := s.core g
    let le := c.pc + (end_.zeroExtend 32 <<< 2)
    let k := c.loopCount n
    if end_ = 0 then .fault .loopSetup c.pc s
    else .done (s.onCore g (fun c => Core.setLoop c (c.pc + 4) le k))
      (.goto (if k = 0 then le + 4 else c.pc + 4)) none))

end Sys2Proof.Machine
end

