-- ==== Sys2Proof/Machine/System.lean ====
section
/-! DEFINITION. Special registers and the other system instructions (R233 to R237, R256 to R258). -/

namespace Sys2Proof.Machine

/-! ### Special registers (R233) -/

/-- Whether MTS to a register is an instruction: the counters and CORE_ID cannot be written (R256). -/
def mtsLegal (sr : BitVec 5) : Bool :=
  decide (sr.toNat < 10)

/-- Whether a level may read a special register (R233, R258). -/
def mayMfs (pl : Nat) (sr : BitVec 5) : Bool :=
  if sr = 1 then pl == 0 else if sr = 2 ∨ sr = 3 ∨ sr = 4 then decide (pl < 2) else true

/-- Whether a level may write a special register (R233, R258). -/
def mayMts (pl : Nat) (sr : BitVec 5) : Bool :=
  if sr = 0 ∨ sr = 8 then decide (pl < 2) else if sr = 5 ∨ sr = 6 ∨ sr = 7 then true else pl == 0

/-- CORE_ID (R235). -/
def coreId (p : Part) (g : Group) : Word :=
  BitVec.ofNat 32 (g.val + bitAt p.copyC 3 + 0x10 + p.code * 0x100)

/-- STATUS as MFS returns it (R234, R237): PL, IE and DZE as last written, NEST and PRIO as they are. -/
def Core.statusRead (c : Core) : Word :=
  (c.written .status c.status &&& 0xF) ||| (c.status &&& 0xFFFFFFF0)

/-- A special register as MFS reads it (R233, R236, R237). -/
def State.specialReg (s : State) (g : Group) (sr : BitVec 5) : Word :=
  let c := s.core g
  match sr.toNat with
  | 0 => c.statusRead
  | 1 => c.tsbp
  | 2 => c.evb
  | 3 => c.cause
  | 4 => c.faddr
  | 5 => c.lc
  | 6 => c.ls
  | 7 => c.le
  | 8 => c.written .predctl c.predctl
  | 9 => c.dwb
  | 10 => BitVec.ofNat 32 (s.cclk g)
  | 11 => c.cycHi
  | 12 => BitVec.ofNat 32 s.fn
  | 13 => c.fnHi
  | 14 => coreId s.part g
  | _ => 0

/-- A read of the low word of a counter latches its high word (R236). -/
def State.latchSpecial (s : State) (g : Group) (sr : BitVec 5) : State :=
  if sr = 10 then s.onCore g (fun c => { c with cycHi := BitVec.ofNat 32 (s.cclk g / 2 ^ 32) })
  else if sr = 12 then s.onCore g (fun c => { c with fnHi := BitVec.ofNat 32 (s.fn / 2 ^ 32) })
  else s

/-- The value that a write of STATUS stores (R234): PL 3 as 2; by S, PL as it was last written. -/
def Core.statusWrite (c : Core) (v : Word) : Word :=
  let pl : Word := if c.pl = 0 then BitVec.ofNat 32 (plOf v).val else c.statusRead &&& 3
  pl ||| (v &&& 0xC)

/-- A special register written by MTS (R224, R225, R233): the state after it, and whether LC was written. -/
def State.writeSpecial (s : State) (g : Group) (sr : BitVec 5) (v : Word) : State × Flow :=
  let set (f : Core → Core) : State × Flow := (s.onCore g f, .next)
  let loop (f : Core → Core) (flow : Flow) : State × Flow :=
    (s.onCore g (fun c => { f c with pred := { c.pred with loopBuf := [], capturing := false } }), flow)
  match sr.toNat with
  | 0 => (s.shadowWrite g .status ((s.core g).statusWrite v), .next)
  | 1 => set (fun c => { c with tsbp := v })
  | 2 => set (fun c => { c with evb := v &&& 0xFFFFF800 })
  | 3 => set (fun c => { c with cause := v &&& 0xC00001FF })
  | 4 => set (fun c => { c with faddr := v })
  | 5 => loop (fun c => { c with lc := v }) .keepLc
  | 6 => loop (fun c => { c with ls := v &&& 0xFFFFFFFC }) .next
  | 7 => loop (fun c => { c with le := v &&& 0xFFFFFFFC }) .next
  | 8 => (s.shadowWrite g .predctl (v &&& 0x7F), .next)
  | 9 => set (fun c => { c with dwb := v &&& 0xF })
  | _ => (s, .next)

/-! ### The instructions -/

/-- A SYS instruction, and whether the level in effect permits it (R256, R258). -/
def sysIns (w : Word) (permitted : Bool) : Ins :=
  { word := w, sys := true, permitted := permitted }

/-- `MFS` (R256): rd = a special register. -/
def execMfs (g : Group) (rd : GReg) (sr : BitVec 5) (s : State) : Host.Outcome State Fault Refusal :=
  .next (s.run g { sysIns (wordS rd 0 (sr.toNat * 32) 0x00) (mayMfs (s.core g).pl sr) with legal := decide (sr.toNat ≤ 14) } (fun s =>
    .done ((s.latchSpecial g sr).setRg g rd (s.specialReg g sr)) .next none))

/-- `MTS` (R256): a special register = ra. (DEDUCED, notes/assumptions/72.md) -/
def execMts (g : Group) (sr : BitVec 5) (ra : GReg) (s : State) : Host.Outcome State Fault Refusal :=
  .next (s.run g { sysIns (wordS 0 ra (sr.toNat * 32) 0x01) (mayMts (s.core g).pl sr) with legal := mtsLegal sr } (fun s =>
    let (s1, flow) := s.writeSpecial g sr (s.rg g ra)
    .done s1 flow none))

/-- Whether the level in effect is M or S. -/
def State.supervisor (s : State) (g : Group) : Bool :=
  decide ((s.core g).pl.val < 2)

/-- `WAIT` (R257): commits, and puts the group into WAIT. -/
def execWait (g : Group) (s : State) : Host.Outcome State Fault Refusal :=
  .next (s.run g (sysIns (wordS 0 0 0 0x04) (s.supervisor g)) (fun s => .done (s.putFlag (LS_STAT_WAIT g) true) .next none))

/-- `TRAP` (R256, R265): the trap exception follows its commit, with n in FADDR. -/
def execTrap (g : Group) (n : BitVec 10) (s : State) : Host.Outcome State Fault Refusal :=
  .next (s.run g (sysIns (wordS 0 0 n.toNat 0x05) true) (fun s => .done s .next (some (.trap, n.zeroExtend 32))))

/-- `RFE` (R274, R256): return from a handler; illegal at NEST = 0. (DEDUCED, notes/assumptions/77.md) -/
def execRfe (g : Group) (s : State) : Host.Outcome State Fault Refusal :=
  .next (s.run g { sysIns (wordS 0 0 0 0x06) (s.supervisor g) with legal := (s.core g).nest != 0 } (fun _ => .returns))

/-- The line buffers, the fetch queue and the loop buffer emptied (R226). -/
def Predictor.flushFetch (p : Predictor) : Predictor :=
  { p.leave with lines := [] }

/-- The BTB and the return stack invalid, the history clear, every counter weakly not taken (R221). -/
def Predictor.flushPredict (p : Predictor) : Predictor :=
  { p with btb := [], ras := [], hist := 0, dir := [] }

/-- `IFLUSH` (R226). (DEDUCED, notes/assumptions/68.md) -/
def execIflush (g : Group) (s : State) : Host.Outcome State Fault Refusal :=
  .next (s.run g (sysIns (wordS 0 0 0 0x08) (s.supervisor g)) (fun s =>
    s.acknowledged g (.done (s.onCore g (fun c => { c with pred := c.pred.flushFetch })) .next none)))

/-- `PFLUSH` (R221). -/
def execPflush (g : Group) (s : State) : Host.Outcome State Fault Refusal :=
  .next (s.run g (sysIns (wordS 0 0 0 0x09) (s.supervisor g)) (fun s =>
    .done (s.onCore g (fun c => { c with pred := c.pred.flushPredict })) .next none))

/-- `PBAR` (R222): instructions commit in order, so it only goes on. (DEDUCED, notes/assumptions/68.md) -/
def execPbar (g : Group) (s : State) : Host.Outcome State Fault Refusal :=
  .next (s.run g (sysIns (wordS 0 0 0 0x0A) true) (fun s => .done s .next none))

/-- `FENCE` (R248): it goes on once every older store is acknowledged. (DEDUCED, notes/assumptions/68.md) -/
def execFence (g : Group) (s : State) : Host.Outcome State Fault Refusal :=
  .next (s.run g (sysIns (wordS 0 0 0 0x0B) true) (fun s => s.acknowledged g (.done s .next none)))

end Sys2Proof.Machine
end

