-- ==== Sys2Proof/Machine/CoreEvents.lean ====
section
/-! DEFINITION. The events of a core that no instruction of its own makes: returning data and fills, store errors, entries and
late arrival (R185, R215, R227, R228, R266, R271 to R273, R291). -/

namespace Sys2Proof.Machine

/-! ### Returning data (R185, R215, R228) -/

/-- The oldest entry whose data are on their way receives them. (DEDUCED, notes/assumptions/75.md) -/
def returnData (l : List (Nat × Replay)) : List (Nat × Replay) :=
  match l with
  | [] => []
  | e :: r => if e.2.back then e :: returnData r else (e.1, { e.2 with back := true }) :: r

/-- `LOAD_DATA_RETURN` (R185, R228): the data of an access that had left the group at an entry return.
(DEDUCED, notes/assumptions/75.md) -/
def execLoadDataReturn (g : Group) (s : State) : Host.Outcome State Fault Refusal :=
  .next (s.onCore g (fun c => { c with replays := returnData c.replays }))

/-- `FETCH_FILL_RETURN` (R215): a fill or prefetch completes into the line buffers, whether or not fetch has been
redirected; the ISP has none, and a line of a busy plane of the flash waits (R388). -/
def execFetchFillReturn (g : Group) (addr : Word) (s : State) : Host.Outcome State Fault Refusal :=
  let line := addr.toNat / 128 * 128
  let c := s.core g
  let passes := [line, addr.toNat / 32 * 32].any (fun a => (s.mpuJudge g c.pl.val a .fetch).2)
  let s1 := if c.pred.prefetch = some line then s.onCore g (fun c => { c with pred := { c.pred with prefetch := none } }) else s
  .next (if !s.hasGroup g || s.poweredOff g || s.get (LS_STAT_STATE g) == lsStopped || s.viewBusy g line then s
  else if lineRegion line && passes && !buffered c.pred.lines 128 (s.fetchKey g line) then (s1.fillLine g line).1
  else s1)

/-! ### Exceptions (R266, R267, R271) -/

/-- Whether a group stands at a commit boundary where a completion exception may enter: it runs or waits, and no delay
slot comes next. (DEDUCED, notes/assumptions/76.md) -/
def State.atBoundary (s : State) (g : Group) : Bool :=
  s.hasGroup g && s.get (LS_STAT_STATE g) == lsRunning && !s.poweredOff g && (s.core g).delay.isNone

/-- `STORE_ERROR_RETURN` (R266): the error status of the oldest such store returns; its exception is taken at the first
commit boundary after that. (DEDUCED, notes/assumptions/76.md) -/
def execStoreErrorReturn (g : Group) (s : State) : Host.Outcome State Fault Refusal :=
  .next (match (s.core g).storeErrs with
  | [] => s
  | a :: r =>
    let s1 := s.onCore g (fun c => { c with storeErrs := r, due := c.due ++ [(.storeErr, a)] })
    if s1.atBoundary g then (s1.takeDue g).getD s1 else s1)

/-- Whether a fault can be one of the next instruction: of an annulled slot, a fetch fault or ILLEGAL (R278). -/
def Core.mayFault (c : Core) (e : Exc) : Bool :=
  !c.delay.any (fun (d : DelaySlot) => d.annul) || [Exc.fetchNx, .fetchErr, .fetchLat, .illegal].contains e

/-- `EXCEPTION_ENTRY` (R271): an exception met at the next instruction, or that follows the last; a store error that has
returned prevails (R267). (DEDUCED, notes/assumptions/76.md) -/
def execExceptionEntry (g : Group) (c : Exc) (faddr : Word) (s : State) : Host.Outcome State Fault Refusal :=
  .next (if isFault c then
    (if !s.groupRuns g || !(s.core g).mayFault c then s else (s.takeDue g).getD ((s.countDeny g c).faultAt g c faddr))
  else if s.atBoundary g then (s.takeDue g).getD (s.enterAtBoundary g c faddr) else s)

/-! ### Interrupts (R227, R272, R273, R291) -/

/-- `INTERRUPT_ENTRY` (R272): the presented source is taken before the next instruction, never before a delay slot; a
store error that has returned prevails (R267). (DEDUCED, notes/assumptions/78.md) -/
def execInterruptEntry (g : Group) (kept : Option KeptAccess) (s : State) : Host.Outcome State Fault Refusal :=
  let i := s.get (IC_PRES_SRC g)
  .next (if s.groupRuns g && (s.core g).delay.isNone && s.flag (IC_PRES_VALID g) && s.canTake g i then
    match s.takeDue g with
    | some t => t
    | none =>
      let s1 := match kept with
        | some k => if (s.core g).mayEnter then s.keepAccess g k else s
        | none => s
      s1.enterInt g i
  else s)

/-- `LATE_ARRIVAL` (R273): a source of higher priority presented in d + 1 to d + 9 takes over the entry.
(DEDUCED, notes/assumptions/78.md) -/
def execLateArrival (g : Group) (s : State) : Host.Outcome State Fault Refusal :=
  let i := s.get (IC_PRES_SRC g)
  .next (match (s.core g).entry with
  | none => s
  | some e =>
    if s.groupRuns g && decide ((s.tt - e.tt) * 32 ≤ 9 * 25) && s.flag (IC_PRES_VALID g)
        && decide ((s.core g).prio.val < s.get (SRC_CFG_PRIO i)) then
      let s1 := (s.undeliver g e).unpresent g
      let w : EntryWindow := ⟨i, e.tt, s1.rd (SRC_STAT i)⟩
      let s2 := (s1.deliver g i).bump (IC_LATE_CNT_CNT g)
      (s2.onCore g (fun c => { c with
        prio := toIx 64 (s.get (SRC_CFG_PRIO i)), cause := intCause i, pc := s.vecOf i, entry := some w })).syncIc
    else s)

end Sys2Proof.Machine
end

