-- ==== Sys2Proof/Machine/Debug.lean ====
section
/-! DEFINITION. The debug master's port into the groups, and register writes of every master (R12, R203, R204, R426, R427, R464). -/

namespace Sys2Proof.Machine

/-! ### Controls (R203, R464) -/

/-- A write refused by the debug port. -/
def State.dbgRefuse (s : State) : State :=
  s.putFlag DBG_STAT_REFUSED true

/-- A write of the debug port, by master 14 alone: the others' writes are discarded. -/
def State.dbgWrite (s : State) (m : Master) (level : Nat) (f : State → State) : State :=
  if m.val ≠ 14 then s
  else if s.lockDenies 14 0x40F00000 then s.recordDenial 14 0x40F00000 true true 0
  else if s.debugLevel < level then s.dbgRefuse
  else f s

/-- The group that `DBG_SEL` names. -/
def State.dbgGroup (s : State) : Group :=
  toIx 8 (s.get DBG_SEL_GROUP)

/-- Whether a group is halted by a debugger. -/
def State.dbgHalted (s : State) (g : Group) : Bool :=
  s.hasGroup g && s.get (LS_STAT_STATE g) == lsHalted && s.flag (LS_DBG_HALTED g)

/-- `DBG_HALT` (R203, R427): a halt requested of the selected group; in DEPLOYED in MAINTENANCE alone.
(DEDUCED, notes/assumptions/115.md) -/
def execDbgHalt (m : Master) (s : State) : Host.Outcome State Fault Refusal :=
  .next (s.dbgWrite m 2 (fun s =>
    let g := s.dbgGroup
    if s.lifecycle = lcDeployed ∧ s.mode ≠ modeMaintenance then s.dbgRefuse
    else if s.eligible g then s.putFlag (LS_DBG_HALT_PEND g) true
    else s))

/-- A halted group goes on. -/
def State.dbgGo (s : State) (g : Group) (step : Bool) : State :=
  if s.dbgHalted g then
    (((s.putFlag (LS_DBG_HALTED g) false).put (LS_STAT_STATE g) lsRunning).onCore g (fun c => { c with stepping := step })).syncIc
  else s

/-- `DBG_RESUME` (R203). -/
def execDbgResume (m : Master) (s : State) : Host.Outcome State Fault Refusal :=
  .next (s.dbgWrite m 2 (fun s => s.dbgGo s.dbgGroup false))

/-- `DBG_STEP` (R203): the group halts again after its next instruction. -/
def execDbgStep (m : Master) (s : State) : Host.Outcome State Fault Refusal :=
  .next (s.dbgWrite m 2 (fun s => s.dbgGo s.dbgGroup true))

/-! ### Registers (R204, R464) -/

/-- A register of a group as `DBG_REG_SEL.REG` numbers it. -/
def State.dbgReg (s : State) (g : Group) (r : Nat) : Word :=
  if r < 32 then s.rg g (BitVec.ofNat 5 r)
  else if r < 47 then s.specialReg g (BitVec.ofNat 5 (r - 32))
  else if r = 47 then (s.core g).pc
  else 0

/-- A register written by a debugger: at the write, without a mode shadow; read-only registers keep their values.
(DEDUCED, notes/assumptions/69.md) -/
def State.setDbgReg (s : State) (g : Group) (r : Nat) (v : Word) : State :=
  if r < 32 then s.setRg g (BitVec.ofNat 5 r) v
  else if r = 32 then s.setEffect g .status v
  else if r = 40 then s.setEffect g .predctl (v &&& 0x7F)
  else if r < 47 then (s.writeSpecial g (BitVec.ofNat 5 (r - 32)) v).1
  else if r = 47 then s.onCore g (fun c => { c with pc := v &&& 0xFFFFFFFC })
  else s

/-- A copy's register as a debugger's read has found it. -/
def Copy.readAs (x : Copy) (r : Nat) (v : Word) : Copy :=
  if 0 < r ∧ r < 32 then { x with gpr := alter x.gpr (toIx 32 r) (fun _ => v) } else x

/-- A debugger's read of register `r` compares the copies that take part (R204): `db` and `dc` are the differences of
copies B and C from copy A. The group's state is the majority's, or the lowest-lettered copy's where there is none. The
value of copy A, or of the lowest-lettered copy that takes part, and the state after the vote. -/
def State.compareRead (s : State) (g : Group) (r : Nat) (own db dc : Word) : State × Word :=
  let act := s.get (LS_STAT_ACTIVE g)
  let diff (k : Fin 3) : Word := if k = 0 then 0 else if k = 1 then db else dc
  let part : List (Fin 3 × Word) := ((allFin 3).filter (fun (k : Fin 3) => act.testBit k.val)).map (fun k => (k, diff k))
  let base : Word := (part.head?.map Prod.snd).getD 0
  let differs (x : Fin 3 × Word) : Bool := part.all (fun y => y.1 == x.1 || y.2 != x.2)
  let z (k : Nat) (syn : Word) : Craze := { kind := 6, taking := act, differ := k, action := 0, pc := (s.core g).pc.toNat, syndrome := syn.toNat }
  if part.all (fun x => x.2 == base) then (s, own)
  else match part.filter differs with
  | [x] =>
    let most : Word := ((part.find? (fun y => y.1 != x.1)).map Prod.snd).getD 0
    (s.eject g x.1 (z (2 ^ x.1.val) (most ^^^ x.2)) true (fun c => c.readAs r (own ^^^ most ^^^ x.2)), own ^^^ most ^^^ base)
  | _ =>
    let next : Word := ((part[1]?).map Prod.snd).getD 0
    (s.mismatchStop g (z act (base ^^^ next)), own)

/-- `DBG_REG_ACCESS` (R204, R464): a write of `DBG_REG_SEL`, which reads or writes a register of a halted group.
(DEDUCED, notes/assumptions/115.md) -/
def execDbgRegAccess (m : Master) (v db dc : Word) (s : State) : Host.Outcome State Fault Refusal :=
  .next (s.dbgWrite m 2 (fun s =>
    let g := s.dbgGroup
    let r := v.toNat % 64
    if !s.dbgHalted g then s.dbgRefuse
    else
      let s1 := s.wr DBG_REG_SEL (v &&& 0x13F)
      if v.toNat.testBit 8 then s1.setDbgReg g r (s1.rd DBG_REG_DATA)
      else
        let (s2, x) := s1.compareRead g r (s1.dbgReg g r) db dc
        s2.wr DBG_REG_DATA x))

/-! ### Memory (R464) -/

/-- A debugger's read or write of registers at their fabric address. -/
def State.dbgRegs (s : State) (off n : Nat) (w : Bool) (d : Nat) : State × Nat × Bool :=
  if w then
    if n < 4 then (s, 0, false)
    else if off / 0x10000 = 0xF0 then (s, 0, false)
    else
      let (s1, ok) := s.regWrite 14 off (BitVec.ofNat 32 d)
      if n = 4 then (s1, 0, ok)
      else
        let (s2, ok2) := s1.regWrite 14 (off + 4) (BitVec.ofNat 32 (d / 2 ^ 32))
        (s2, 0, ok && ok2)
  else
    let (s1, x) := s.regRead 14 (off / 4 * 4)
    let lo := x.val.toNat / 2 ^ (8 * (off % 4))
    if n ≤ 4 then (s1, lo % 2 ^ (8 * n), x.ok)
    else
      let (s2, y) := s1.regRead 14 (off + 4)
      (s2, x.val.toNat + y.val.toNat * 2 ^ 32, x.ok && y.ok)

/-- A debugger's memory access as master 14 (R316, R321): the data read, and whether no error came back.
(DEDUCED, notes/assumptions/115.md) -/
def State.dbgAccess (s : State) (a n : Nat) (w : Bool) (d : Nat) : State × Nat × Bool :=
  if a % n ≠ 0 then (s, 0, false)
  else if targetAt s.part a = .regs then s.dbgRegs (a - 0x40000000) n w d
  else if w then
    let (s1, r) := s.busWrite 14 a (natLe n d)
    (s1, 0, r.ok)
  else
    let (s1, b, r) := s.busRead 14 a n
    (s1, leNat b, r.ok)

/-- `DBG_MEM_GO` (R464): a write of `DBG_MEM_CTRL`; reads need level 1, those of the SG registers none (R426),
writes level 2. (DEDUCED, notes/assumptions/115.md) -/
def execDbgMemGo (m : Master) (v : Word) (s : State) : Host.Outcome State Fault Refusal :=
  let go := v.toNat.testBit 0
  let w := v.toNat.testBit 1
  let sg := s.rd64 DBG_MEM_ADDR / 0x10000 == 0x4080
  .next (s.dbgWrite m (if !go || (sg && !w) then 0 else if w then 2 else 1) (fun s =>
    let s1 := s.wr DBG_MEM_CTRL (v &&& 0xE)
    if !go then s1
    else
      let n := 2 ^ bitsOf v.toNat 2 2
      let (s2, d, ok) := s1.dbgAccess (s1.rd64 DBG_MEM_ADDR) n w (s1.rd64 DBG_MEM_DATA)
      if !ok then s2.putFlag DBG_STAT_MEM_ERR true
      else if w then s2
      else s2.wr64 DBG_MEM_DATA d))

/-! ### Register writes (R12, R464) -/

/-- A write of `DBG_CTRL`: its controls in the order of their bits. -/
def State.dbgCtrl (s : State) (m : Master) (v : Word) : State :=
  let s1 := if v.toNat.testBit 0 then ran (execDbgHalt m s) s else s
  let s2 := if v.toNat.testBit 1 then ran (execDbgResume m s1) s1 else s1
  if v.toNat.testBit 2 then ran (execDbgStep m s2) s2 else s2

/-- A write of a word of the debug port. (DEDUCED, notes/assumptions/115.md) -/
def State.dbgRegister (s : State) (m : Master) (off : Nat) (v : Word) : State :=
  if off = DBG_CTRL then s.dbgCtrl m v
  else if off = DBG_REG_SEL then ran (execDbgRegAccess m v 0 0 s) s
  else if off = DBG_MEM_CTRL then ran (execDbgMemGo m v s) s
  else match regRow off with
  | none => s
  | some r => s.dbgWrite m 0 (fun s => s.plainWrite m off v r)

/-- A write of its own MPU control by a group's code (R314): refused for overlap, MPU_CFG waits for the next commit
boundary, and enters at once where the group stands at one. -/
def State.mpuPort (s : State) (g : Group) (off : Nat) (v : Word) : State :=
  match s.writeReg g off v with
  | (t, ⟨false, _⟩) => t.storeError (toIx 16 g.val) off
  | (t, ⟨true, none⟩) => t
  | (t, ⟨true, some a⟩) =>
    let s1 := t.onCore g (fun c => { c with due := c.due ++ [(.mpuCfg, a)] })
    if s1.atBoundary g then (s1.takeDue g).getD s1 else s1

/-- `REGISTER_WRITE` (R12, R460): a write of an aligned word of the register blocks by a master. -/
def execRegisterWrite (off : Nat) (m : Master) (v : Word) (s : State) : Host.Outcome State Fault Refusal :=
  .next (if off % 4 ≠ 0 ∨ 0x1000000 ≤ off then s
  else if off / 0x10000 = 0xF0 then s.dbgRegister m off v
  else if isMpuCtl (off - lsgBase m) ∧ m.val < 8 ∧ lsgBase m ≤ off ∧ !absentAt s.part off then s.mpuPort (toIx 8 m.val) off v
  else match s.regWrite m off v with
  | (t, true) => t
  | (t, false) => t.storeError m off)

end Sys2Proof.Machine
end

