-- ==== Sys2Proof/Machine/HostParse.lean ====
section
/-! DEFINITION. The form of command packets, what needs an authorisation, and the completions of a chain (R360 to R368). -/

namespace Sys2Proof.Machine

/-! ### Form (R360, R363) -/

/-- The targets of a WRITE_REG: offset and value. -/
def regTargets (p : Bytes) : List (Nat × Word) :=
  (List.range (field p 16 1)).map (fun i => (field p (20 + 8 * i) 4, BitVec.ofNat 32 (field p (24 + 8 * i) 4)))

/-- The parameter bytes that a packet uses. -/
def usedBytes (p : Bytes) (r : OpRow) : List (Nat × Nat) :=
  if r.op = opWriteReg then (20, 8 * field p 16 1) :: r.used else r.used

/-- Whether the reserved bits of a packet and its unused bytes are 0. -/
def pktClean (p : Bytes) (r : OpRow) : Bool :=
  decide (field p 2 1 < 2) && !(field p 3 1).testBit 6
    && (List.range 48).all (fun i => p.getD (16 + i) 0 == 0 || (usedBytes p r).any (fun u => decide (u.1 ≤ 16 + i) && decide (16 + i < u.1 + u.2)))

/-- Whether an address of a command lies in usable HBM, 64-byte aligned (R363). -/
def okFabric (a n : Nat) : Bool :=
  a % 64 == 0 && inHbm a n

/-- Whether the parameters of a packet lie in their ranges, as far as R363 gives them without regard to the state. -/
def pktRanges (p : Bytes) : Bool :=
  let op := pktOp p
  let b := field p 16 1
  let c := field p 17 1
  if op = opReadLog then decide (field p 24 1 ≤ 8) && within 1 (field p 25 1) 64
  else if op = opWriteReg then within 1 b 5
  else if op = opModeReq then b == 2 || b == 3 || b == 5 || b == 6
  else if op = opWarmRestart then decide (b ≤ 1)
  else if op = opEventInsert then decide (field p 36 1 < 8)
  else if op = opEventCancel then decide (b < 8) && decide (c ≤ 1)
  else if op = opHeadCtrl then decide (b < 48) && decide (c ≤ 2)
  else if op = opAppCtrl then within 1 b 7 && decide (c ≤ 2)
  else if op = opAppLoad then within 1 b 7 && okFabric (field p 20 5) (field p 28 4)
  else if op = opKernelLoad then
    decide (field p 27 1 ≤ 1) && (if field p 27 1 = 1 then within 0x80 (field p 28 1) 0x9F
      else field p 28 1 == 0 && okFabric (field p 16 5) (field p 24 3))
  else if op = opVeCancel then decide (b < 8) && decide (c ≤ 1)
  else if op = opCoilMark then decide (b < 4) && (p.drop 40).take 8 != List.replicate 8 0xFF
  else if op = opArchRead then decide (field p 52 1 ≤ 2) && field p 48 4 % 64 == 0 && decide (field p 48 4 ≤ 16777216)
  else if op = opFlashProgram then okFabric (field p 16 5) (field p 24 4) && decide (field p 28 1 ≤ 1) && within 1 (field p 24 4) 0x2000000
  else if op = opAuthRef then okFabric (field p 16 5) 4755
  else true

/-! ### What a function reads (R353 to R355) -/

/-- A read of a word of a function's BAR0: the register mirror, as master 11 reads it, the MSI-X table and its pending
bits; `HI_DISCARD_CNT` reads 0 through PF1. -/
def State.bar0Read (s : State) (f : Fin 2) (off : Nat) : State × Word :=
  if off < 0x1000000 then
    let (t, r) := s.regRead 11 off
    (t, if off = HI_DISCARD_CNT ∧ f = 1 then 0 else r.val)
  else if 0x2000000 ≤ off ∧ off < 0x2001000 then (s, s.msixWord f ((off - 0x2000000) / 4))
  else if 0x2001000 ≤ off ∧ off < 0x2001020 then
    (s, BitVec.ofNat 32 (mapWord ((off - 0x2001000) / 4) (fun v => s.host.pba.contains (256 * f.val + v))))
  else (s, 0)

/-- A read of PF1's BAR2 as master 11; beyond usable HBM it is an Unsupported Request, and an uncorrectable
word makes it a Completer Abort (R384). -/
def State.bar2Read (s : State) (off n : Nat) : State × Option Bytes :=
  if 0x700000000 ≤ off then (s, none)
  else
    let (t, b, r) := s.busRead 11 (hbmBase + off) n
    (t, if r.ok then some b else none)

/-! ### What needs an authorisation (R363, R364, R368) -/

/-- Whether a register offset is a safety target (R364). (DEDUCED, notes/assumptions/94.md) -/
def safetyTarget (off : Nat) : Bool :=
  !((decide (0x140000 ≤ off) && decide (off < 0x170000)) || (decide (0x100000 ≤ off) && decide (off < 0x130000))
    || off / 0x10000 == 0x70 || off / 0x10000 == 0x71)

/-- Whether a group owns a channel with SAFETY = 1. -/
def State.ownsSafety (s : State) (g : Nat) : Bool :=
  (allFin 32).any (fun (n : Chan) => s.flag (PEO_CFG_SAFETY n) && s.get (PEO_CFG_OWNER n) == g)

/-- Whether a command needs a safety authorisation. (DEDUCED, notes/assumptions/92.md) -/
def State.needsAuth (s : State) (p : Bytes) : Bool :=
  let op := pktOp p
  if op = opWriteReg then (regTargets p).any (fun t => safetyTarget t.1)
  else if op = opModeReq then field p 16 1 == 3 || field p 16 1 == 5
  else if op = opEventInsert then s.flag (PEO_CFG_SAFETY (field p 32 1 % 32))
  else if op = opEventCancel then s.ownsSafety (field p 16 1)
  else op == opWarmRestart || op == opEpochAdvance || op == opTwinRelinquish || op == opAppCtrl || op == opAppLoad || op == opFlashProgram

/-! ### Kilnware -/

/-- Whether Kilnware runs on LSG[0] and takes packets (R364). (DEDUCED, notes/assumptions/6.md) -/
def State.kilnware (s : State) : Bool :=
  s.eligible 0 && s.flag HI_STAT_READY

/-- The completion of a command of a queue. -/
def State.reply (s : State) (q : Nat) (p : Bytes) (chain : Bool) (status cfn : Nat) (result : Bytes) : State :=
  s.pushCpl q { tag := pktTag p, status := status, chain := chain, held := false, cfn := cfn, result := result }

/-- The completion of an immediate command (R361). -/
def State.replyNow (s : State) (q : Nat) (p : Bytes) (status : Nat) (result : Bytes) : State :=
  s.reply q p (pktPos p != 0) status s.fn (if status = stOk then result else [])

/-- CFN of a command that has no effect (R361): 0 where it is staged, the current FN where it is immediate.
(DEDUCED, notes/assumptions/91.md) -/
def State.cfnOf (s : State) (p : Bytes) : Nat :=
  if pktStaged p then 0 else s.fn

/-- The completions of a chain that has no effect, in order of position (R359), with a status for each.
(DEDUCED, notes/assumptions/91.md) -/
def State.replyChain (s : State) (q : Nat) (cmds : List Bytes) (st : Nat → Nat) : State :=
  s.each cmds.zipIdx (fun s x => s.reply q x.1 (decide (1 < cmds.length)) (st x.2) (s.cfnOf x.1) [])

/-- The completions of a chain refused for one of its commands (R367). (DEDUCED, notes/assumptions/91.md) -/
def State.refuseChain (s : State) (q : Nat) (cmds : List Bytes) (at_ status : Nat) : State :=
  s.replyChain q cmds (fun i => if i = at_ then status else stChainAbort)

/-- A write to host memory for a queue's command; it fails while the function may not make one (R374, R380).
(DEDUCED, notes/assumptions/97.md; DESIGN CHOICE, notes/assumptions/121.md) -/
def State.hostWrite (s : State) (q : Nat) (a : Nat) (b : Bytes) : State × Bool :=
  let f := qFunc q
  if s.flag HI_STAT_LINK_UP && !s.inD3 f && s.flag (pfBme f) then
    ((s.onHost (fun h => { h with out := h.out ++ [(a, b)] })).wakeLink, true)
  else ((s.raise F_HI_DMA_ERR q).setIsr HI_ISR_DMA_ERR, false)

end Sys2Proof.Machine
end

