-- ==== Sys2Proof/Machine/HostCheck.lean ====
section
/-! DEFINITION. What a staged command needs, judged at staging and again at t0 of its boundary (R364, R367, R391, R415, R435,
R455). -/

namespace Sys2Proof.Machine

/-! ### WRITE_REG (R364) -/

/-- The staged writes taken as in effect: what the next boundary leaves, as far as it is written.
(DEDUCED, notes/assumptions/94.md) -/
def State.projected (s : State) : State :=
  let s1 := s.each s.stage (fun s e =>
    let mask := (match regRow e.off with | some r => BitVec.ofNat 32 (r.staged ||| r.rwl) | none => 0) &&& ~~~woMask e.off
    s.wr e.off ((s.rd e.off &&& ~~~mask) ||| (e.val &&& mask)))
  { s1 with stage := [], chains := [] }

/-- Whether a write is one that only groups may make (R364): a group's ports, `WD_KEY`, `CM_BEND`, `CM_CTRL.START`, the
MPU, `TE_DEC` and `TE_CQ_TAIL`, also where LSG[0] is the group. (DEDUCED, notes/assumptions/94.md) -/
def groupsOnly (off : Nat) (v : Word) : Bool :=
  let rel := (lsgOf off).2
  (decide (0x22000 ≤ off) && decide (off < 0x22200) && decide (off % 0x40 < 0x30)) || off == TE_DEC
    || (decide (0x140400 ≤ off) && decide (off < 0x140600) && (off - 0x140400) % 0x80 == 0x48)
    || (decide (0x200000 ≤ off) && decide (off < 0x280000)
      && (rel == 0x2004 || rel == 0x3004 || (rel == 0x3000 && v.toNat.testBit 1) || (decide (0x1000 ≤ rel) && decide (rel < 0x2000))))

/-- Whether WRITE_REG may name a register at all (R364). (DEDUCED, notes/assumptions/94.md) -/
def State.hostTarget (s : State) (off : Nat) (v : Word) : Bool :=
  off % 4 == 0 && inBlocks off && off / 0x10000 != 0x60 && off / 0x10000 != 0xF0 && !groupsOnly off v && s.mayWrite 0 off v

/-- Whether a register refuses a write of master 0, and the state that the write leaves. -/
def State.refusesWrite (s : State) (off : Nat) (v : Word) : State × Bool :=
  let clear (s : State) : State := match rejFlag off with | some f => s.putFlag f false | none => s
  let s0 := clear s
  let (t, ok) := s0.regWrite 0 off v
  let flagged := match rejFlag off with | some f => t.flag f | none => false
  (t, !ok || !s.rangeOk off v || (flagged && (clear t).regs == s0.regs && t.stage == s0.stage))

/-- A write of a WRITE_REG judged: MODE where only the mode stands against it, STATE where R12 has locked the register,
BAD_PARAM otherwise. (DEDUCED, notes/assumptions/24.md; DEDUCED, notes/assumptions/94.md) -/
def State.checkWrite (s : State) (off : Nat) (v : Word) : State × Nat :=
  if !s.hostTarget off v then (s, stBadParam)
  else if s.locked.contains off then (s, stState)
  else
    let (t, refused) := s.refusesWrite off v
    if !refused then (t, stOk)
    else if [modeGlost, modeStandby, modeRun, modeMaintenance].any (fun m => !((s.put PM_MODE_MODE m).refusesWrite off v).2) then (s, stMode)
    else (s, stBadParam)

/-- The writes of a WRITE_REG judged in order, each after those before it. -/
def State.checkWrites (s : State) (l : List (Nat × Word)) : State × Nat :=
  match l with
  | [] => (s, stOk)
  | (off, v) :: r =>
    match s.checkWrite off v with
    | (t, 0) => t.checkWrites r
    | (t, st) => (t, st)

/-! ### MODE_REQ (R435) -/

/-- Whether a row of R435 leads from a mode to another by MODE_REQ. (DEDUCED, notes/assumptions/95.md) -/
def modeRow (cur target : Nat) : Bool :=
  if target = modeRun then cur == modeStandby || cur == modeMaintenance
  else if target = modeMaintenance then cur == modeStandby || cur == modeRun || cur == modeDegraded
  else if target = modeStandby then cur == modeRun || cur == modeDegraded || cur == modeMaintenance
  else within modeStandby cur modeMaintenance

/-- Whether a MODE_REQ leaves the mode as it is. (DEDUCED, notes/assumptions/120.md) -/
def modeSame (cur target : Nat) : Bool :=
  cur == target || (target == modeRun && cur == modeDegraded)

/-- Whether every enabled domain stands still (R435). -/
def State.allStopped (s : State) : Bool :=
  (allFin 4).all (fun (d : Dom) => !s.domOn d || s.flag (DOM_STAT_STOPPED d))

/-- A MODE_REQ judged; `atT0` adds the conditions of the boundary. -/
def State.checkMode (s : State) (target : Nat) (atT0 : Bool) : Nat :=
  if modeSame s.mode target then stOk
  else if s.mode = modeSafe ∧ target = modeRun then stMode
  else if !modeRow s.mode target then stState
  else if target = modeRun ∧ !s.runAllowed then stState
  else if atT0 ∧ target = modeMaintenance ∧ !s.allStopped then stState
  else stOk

/-! ### The other staged commands -/

/-- COIL_MARK judged (R391, R394). -/
def State.checkCoil (s : State) (p : Bytes) : Nat :=
  let d := field p 16 1
  let start := signedOf 64 (field p 20 8)
  let id := (p.drop 32).take 16
  let mine := s.arch.coils.filter (fun c => c.dom == some d)
  let low : Bool := match s.te.hzn.toList.getD d none with | some h => decide (start ≤ h) | none => false
  if !s.flag AR_CTRL_EN ∨ s.arch.coils.any (fun c => c.id == id) ∨ low ∨ mine.any (fun c => decide (start ≤ c.start)) then stState
  else if 16 ≤ (mine.filter (fun c => c.isOpen)).length then stBusy
  else stOk

/-- EPOCH_ADVANCE judged (R455). -/
def State.checkEpoch (s : State) (e : Nat) : Nat :=
  if within 1 e (s.get SG_EPOCH_MAX_EPOCH) && (!s.flag TW_STAT_INSTEP || decide (e ≤ s.get TW_EPOCH_PEER_MAX)) then stOk else stBadParam

/-- APP_CTRL judged (R205, R364). (DEDUCED, notes/assumptions/96.md) -/
def State.checkApp (s : State) (g : Group) (action : Nat) : Nat :=
  if s.part.groups ≤ g.val then stBadParam
  else if action ≠ 0 then stOk
  else if s.mode = modeSafe then stMode
  else if s.poweredOff g ∨ !s.flag (LS_PWR_ON_ACK g) then stState
  else stOk

/-- A staged command other than WRITE_REG judged. -/
def State.checkCmd (s : State) (p : Bytes) (atT0 : Bool) : Nat :=
  let op := pktOp p
  let b := field p 16 1
  let g : Group := toIx 8 b
  if op = opModeReq then s.checkMode b atT0
  else if op = opEpochAdvance then s.checkEpoch (field p 16 2)
  else if op = opTwinRelinquish then (if s.role = roleLeader then stOk else stState)
  else if op = opEventInsert then (if field p 36 1 < s.part.groups then stOk else stBadParam)
  else if op = opEventCancel then (if b < s.part.groups then stOk else stBadParam)
  else if op = opHeadCtrl then
    if s.part.lanes ≤ b then stBadParam
    else if field p 17 1 = 0 ∧ s.laneSt (toIx 48 b) ≠ laneReady then stState
    else stOk
  else if op = opAppCtrl then s.checkApp g (field p 17 1)
  else if op = opAppLoad then
    if s.part.groups ≤ b then stBadParam
    else if s.get (LS_STAT_STATE g) = lsStopped ∨ s.get (LS_STAT_STATE g) = lsHalted then stOk else stState
  else if op = opCoilMark then s.checkCoil p
  else stOk

/-- The first command of a chain that fails, and its status (R364, R367); `dry` is the state that the WRITE_REGs before it
would leave. -/
def State.checkFrom (s dry : State) (f : Fin 2) (atT0 : Bool) (i : Nat) (cmds : List Bytes) : Option (Nat × Nat) :=
  match cmds with
  | [] => none
  | p :: r =>
    match pktRow p with
    | none => some (i, stBadOpcode)
    | some row =>
      if !row.accepts f then some (i, stBadOpcode)
      else if !pktClean p row || !pktRanges p then some (i, stBadParam)
      else if row.op = opWriteReg then
        match dry.checkWrites (regTargets p) with
        | (dry', 0) => s.checkFrom dry' f atT0 (i + 1) r
        | (_, st) => some (i, st)
      else match s.checkCmd p atT0 with
        | 0 => s.checkFrom dry f atT0 (i + 1) r
        | st => some (i, st)

/-- What the WRITE_REGs of a chain leave of a state in which the staged writes before them are in effect. -/
def State.dryRun (dry : State) (cmds : List Bytes) : State :=
  dry.each (cmds.filter (fun p => pktOp p == opWriteReg)) (fun s p => (s.checkWrites (regTargets p)).1)

/-- The first command of a chain that fails, and its status. (DEDUCED, notes/assumptions/93.md) -/
def State.checkChain (s : State) (f : Fin 2) (atT0 : Bool) (cmds : List Bytes) : Option (Nat × Nat) :=
  s.checkFrom s.projected f atT0 0 cmds

/-- The register writes that a chain makes (R47). -/
def chainCost (cmds : List Bytes) : Nat :=
  cmds.foldl (fun n p =>
    let op := pktOp p
    n + (if op = opWriteReg then field p 16 1 else if op = opModeReq ∨ op = opHeadCtrl ∨ op = opAppCtrl then 1 else 0)) 0

end Sys2Proof.Machine
end

