-- ==== Sys2Proof/Machine/HostStage.lean ====
section
/-! DEFINITION. Staging of chains: the authorisation blob, the checks of commands and images, the place in the stage, and what a
twin's leader forwards (R47, R366 to R371, R415, R420, R449). -/

namespace Sys2Proof.Machine

/-! ### The authorisation blob (R369 to R371) -/

/-- A failure of a blob check recorded (R370). -/
def State.authFailed (s : State) (status : Nat) : State :=
  (((s.bump HI_AUTH_FAIL_CNT_CNT).raise F_HI_AUTH_FAIL status).setIsr HI_ISR_AUTH_FAIL).secEvent evBlobFail status

/-- What an authorisation blob says. -/
def authOf (b : Bytes) : Auth :=
  { kind := field b 5 1, first := field b 40 8, last := field b 48 8, counter := field b 56 8, digest := (b.drop 64).take 64 }

/-- The first 32 bytes of the device identity digest, and whether the identity is available (R416, R417). -/
def State.namesDevice (s : State) (id : Bytes) : Bool :=
  s.flag SG_LC_ID_VALID && id == s.idDigest

/-- Whether KIND 1 is accepted: in STANDBY and MAINTENANCE, under LOCAL_AUTH (R371).
(DEDUCED, notes/assumptions/91.md) -/
def State.localOk (s : State) : Bool :=
  (s.mode == modeStandby || s.mode == modeMaintenance) && (s.fuse 0).toNat.testBit 8

/-- The key that a KIND names (R370). (DEDUCED, notes/assumptions/92.md) -/
def authKey (kind : Nat) : KeySlot :=
  if kind = 0 then .safety else .maint

/-- The checks of R370 on a blob, in their order; `efn` is the effective firing. (DEDUCED, notes/assumptions/92.md) -/
def State.blobStatus (s : State) (b : Bytes) (len efn : Nat) (cmds : List Bytes) : Nat :=
  let a := authOf b
  let form : Bool := len == 4755 && field b 0 4 == 0x41555448 && field b 4 1 == 1 && decide (a.kind ≤ 1) && field b 6 2 == cmds.length
    && within 1 cmds.length 63 && decide (a.last ≤ a.first + 2 ^ 20) && s.namesDevice ((b.drop 8).take 32) && (a.kind == 0 || s.localOk)
  let key := authKey a.kind
  if !form then stAuthFail
  else if a.digest ≠ sha512 cmds.flatten then stAuthFail
  else if !s.sag.usable.contains key.num || !s.verifies s.activeBase key (sha512 (b.take 128)) ((b.drop 128).take 4627) then stAuthFail
  else if s.sag.ctrUnknown ∨ a.counter ≤ s.rd64 HI_AUTH_CTR then stAuthReplay
  else if !within a.first efn a.last then stAuthWindow
  else stOk

/-- The effective firing of a chain (R9, R360); for an authorised immediate command, the current one (R368).
(DEDUCED, notes/assumptions/93.md) -/
def State.efnOf (s : State) (cmds : List Bytes) : Nat :=
  match cmds with
  | [] => s.fn + 1
  | p :: r =>
    if r.any pktAuthNow then s.fn
    else if pktEfn p = 0 then s.fn + 1 else pktEfn p

/-- The blob of a chain's AUTH_REF checked (R370): its status, and the counter stored on success.
(DEDUCED, notes/assumptions/92.md) -/
def State.checkBlob (s : State) (cmds : List Bytes) : State × Nat × Auth :=
  let p := cmds.headD []
  let len := field p 24 2
  let (s1, b, r) := s.busRead 13 (field p 16 5) len
  let st := if r.ok then s1.blobStatus b len (s1.efnOf cmds) cmds.tail else stAuthFail
  let a := authOf b
  if st = stOk then (s1.wr64 HI_AUTH_CTR a.counter, st, a) else (s1.authFailed st, st, a)

/-! ### The place in the stage (R47, R366) -/

/-- A chain placed into the stage of a firing. -/
def State.addChain (s : State) (c : Chain) : State :=
  { s with chains := s.chains ++ [{ c with seq := s.stagings }], stagings := s.stagings + 1 }

/-- A TW_CMD message for packets (R446, R449). -/
def State.sendTwCmd (s : State) (efn : Nat) (cmds : List Bytes) (next : Bool) : State :=
  s.sendPeer 0x23 (natLe 8 efn ++ natLe 1 cmds.length ++ [if next then 1 else 0] ++ List.replicate 6 0 ++ cmds.flatten ++ List.replicate 4 0)

/-- Whether the device is the leader of a pair. -/
def State.leads (s : State) : Bool :=
  s.flag TW_CFG_EN && s.role == roleLeader

/-- A chain that has passed its checks placed (R47, R366): too far, LATE, stage full, or held for its firing and
forwarded. (DEDUCED, notes/assumptions/92.md) -/
def State.place (s : State) (c : Staging) : State :=
  let efn := s.efnOf c.cmds
  let cost := chainCost c.cmds
  let late := decide (efn ≤ s.fn)
  let fn := if late then s.fn + 1 else efn
  let inWindow : Bool := match c.auth with | some a => within a.first fn a.last | none => true
  let s0 := if late then (s.bump TB_LATE_CNT_CNT).raiseSrc 59 else s
  if s.fn + 2 ^ 20 < efn then s.refuseChain c.q c.cmds 0 stTooFar
  else if late && !(c.cmds.all pktLate && inWindow) then s0.replyChain c.q c.cmds (fun _ => stLate)
  else if !inWindow then s.refuseChain c.q c.cmds 0 stAuthWindow
  else if 256 ≤ s0.chains.length ∨ stageMax < s0.chainWrites fn + cost + (if fn = s.fn + 1 then s.stage.length else 0) then
    s0.refuseChain c.q c.cmds 0 stStageFull
  else
    let s1 := s0.addChain { fn := fn, writes := cost, q := some c.q, cmds := c.cmds, auth := c.auth, late := late, codes := c.codes }
    if s1.leads then s1.sendTwCmd fn c.cmds false else s1

/-! ### Staging in order (R366) -/

/-- The chain at the head of staging done with. -/
def State.popStaging (s : State) : State :=
  s.onHost (fun h => { h with staging := h.staging.tail })

/-- The chain at the head of staging replaced. -/
def State.putStaging (s : State) (c : Staging) : State :=
  s.onHost (fun h => { h with staging := c :: h.staging.tail })

/-- The positions of a chain's APP_LOADs. -/
def loadsOf (cmds : List Bytes) : List Nat :=
  (cmds.zipIdx.filter (fun x => pktOp x.1 == opAppLoad)).map (fun x => x.2)

/-- The chain at the head of staging taken as far as it goes: its commands judged, its image checks asked for, its place
taken. -/
def State.stageHead (s : State) (c : Staging) : State :=
  if c.blob then s
  else if s.mode = modeLockdown then s.popStaging.replyChain c.q c.cmds (fun _ => stMode)
  else if !c.checked then
    match s.checkChain (qFunc c.q) false c.cmds with
    | some (i, st) => s.popStaging.refuseChain c.q c.cmds i st
    | none =>
      let imgs := loadsOf c.cmds
      let c1 := { c with checked := true, images := imgs }
      if imgs.isEmpty then s.popStaging.place c1
      else (s.putStaging c1).onHost (fun h => { h with checks := h.checks ++ imgs.map (fun _ => ImageUse.chain) })
  else if c.images.isEmpty then s.popStaging.place c
  else s

/-- Every chain whose turn it is taken as far as it goes. -/
def State.drainStaging (fuel : Nat) (s : State) : State :=
  match fuel, s.host.staging with
  | fuel + 1, c :: _ =>
    let t := s.stageHead c
    if t.host.staging.length < s.host.staging.length then t.drainStaging fuel else t
  | _, _ => s

/-- Staging goes on. (DEDUCED, notes/assumptions/93.md) -/
def State.stageOn (s : State) : State :=
  (s.drainStaging s.host.staging.length).syncEngine

/-- Whether a chain holds the immediate command of R368. -/
def isAuthNow (cmds : List Bytes) : Bool :=
  match cmds with
  | [_, p] => pktAuthNow p
  | _ => false

/-- A chain whose END has been taken (R366, R368): refused in LOCKDOWN and by a follower, refused for want of an
AUTH_REF, or put into staging. (DEDUCED, notes/assumptions/90.md) -/
def State.stageChain (s : State) (q : Nat) (cmds : List Bytes) : State :=
  let headAuth := pktOp (cmds.headD []) == opAuthRef
  if s.mode = modeLockdown then s.replyChain q cmds (fun _ => stMode)
  else if s.follows && !isAuthNow cmds then s.replyChain q cmds (fun _ => stState)
  else if !headAuth && cmds.any (fun p => s.needsAuth p) then
    s.replyChain q cmds (fun i => if s.needsAuth (cmds.getD i []) then stAuthRequired else stChainAbort)
  else
    (s.onHost (fun h => { h with staging := h.staging ++ [{ q := q, cmds := cmds, blob := headAuth }] })).stageOn

end Sys2Proof.Machine
end

