-- ==== Sys2Proof/Machine/HostImm.lean ====
section
/-! DEFINITION. Immediate commands of the host (R363, R366, R368, R389, R398, R419). -/

namespace Sys2Proof.Machine

/-! ### Identity and status -/

/-- CORE_ID of a group (R235). -/
def State.coreId (s : State) (g : Nat) : Word :=
  BitVec.ofNat 32 (g % 8 + (if s.part.copyC then 8 else 0) + 0x10 + s.part.code * 0x100)

/-- The RESULT of IDENTIFY. -/
def State.identifyResult (s : State) : Bytes :=
  natLe 4 (s.coreId 0).toNat ++ natLe 4 s.sag.kwVersion ++ natLe 4 s.sag.kwSvn ++ natLe 2 (s.get SG_EPOCH_MAX_EPOCH)
    ++ natLe 2 (s.get TW_EPOCH_EPOCH)

/-- The highest class among the pending faults. -/
def State.worstPending (s : State) : Nat :=
  (List.range 512).foldl (fun n i => if s.flag (FLT_STAT_PEND i) then max n (s.get (FLT_STAT_LAST i)) else n) 0

/-- The groups that run. -/
def State.runMap (s : State) : Nat :=
  (mapWord 0 (fun g => decide (g < s.part.groups) && s.get (LS_STAT_STATE g) == lsRunning && !s.poweredOff g)) % 256

/-- The RESULT of GET_STATUS. -/
def State.statusResult (s : State) : Bytes :=
  natLe 1 s.mode ++ natLe 1 s.lifecycle ++ natLe 1 s.worstPending ++ [0] ++ natLe 4 (s.get PM_MODE_DEGR) ++ natLe 4 (s.get TB_PERIOD_PERIOD)
    ++ natLe 1 s.runMap ++ [0, 0, 0]

/-- A log of READ_LOG, newest last: the FCU log, or the craze records of a group. -/
def State.logEntries (s : State) (source : Nat) : List Bytes :=
  let words (f : Nat → Nat) : Bytes := (List.range 8).flatMap (fun j => natLe 4 (s.rd (f j)).toNat)
  let ring (head size : Nat) : List Nat := (List.range (min head size)).map (fun i => (head - min head size + i) % size)
  if source = 0 then (ring (s.get FCU_LOG_HEAD_CNT) 64).map (fun k => words (fun j => FCU_LOG k j))
  else if source ≤ s.part.groups then
    (ring (s.get (LS_CRAZE_HEAD_CNT (source - 1))) 16).map (fun k => words (fun j => LS_CRAZE (source - 1) k j))
  else []

/-- READ_LOG: the last entries, at most as many as asked for, written to host memory. -/
def State.readLogNow (s : State) (q : Nat) (p : Bytes) : State :=
  let all := s.logEntries (field p 24 1)
  let l := all.drop (all.length - field p 25 1)
  if l.isEmpty then s.replyNow q p stOk [0]
  else match s.hostWrite q (field p 16 8) l.flatten with
    | (t, true) => t.replyNow q p stOk (natLe 1 l.length)
    | (t, false) => t.replyNow q p stDmaErr []

/-! ### The archive (R363, R398) -/

/-- The coil that an ID names. -/
def State.coilById (s : State) (id : Bytes) : Option Coil :=
  s.arch.coils.find? (fun c => c.id == id)

/-- A part of a coil as far as it is in NAND. -/
def Coil.durablePart (c : Coil) (p : Nat) : Bytes :=
  ((c.recs.take c.durable).filter (fun r => r.1 = p)).flatMap (fun r => r.2)

/-- The firings of a coil's first and last seal records. -/
def Coil.span (c : Coil) : Nat × Nat :=
  let seals := (c.recs.filter (fun r => r.1 == 0 && field r.2 18 1 == 0xFF)).map (fun r => field r.2 0 8)
  (seals.headD 0, seals.getLastD 0)

/-- ARCH_READ (R398): `bad` is where an unreadable NAND block starts in the part, and its number.
(DEDUCED, notes/assumptions/97.md) -/
def State.archReadNow (s : State) (q : Nat) (p : Bytes) (bad : Option (Nat × Nat)) : State :=
  match s.coilById ((p.drop 16).take 16) with
  | none => s.replyNow q p stState []
  | some c =>
    let ofs := field p 32 8
    let all := c.durablePart (field p 52 1)
    let want := (all.drop ofs).take (field p 48 4)
    let hit : Option (Nat × Nat) := match bad with
      | some (o, blk) => if ofs ≤ o ∧ o < ofs + want.length then some (o, blk) else none
      | none => none
    let b := match hit with | some (o, _) => want.take (o - ofs) | none => want
    let s1 := match hit with | some (_, blk) => (s.bump AR_MEDIA_CNT_CNT).raise F_AR_MEDIA blk | none => s
    let done := !c.isOpen && decide (c.recs.length ≤ c.durable) && decide (all.length ≤ ofs + b.length)
    let res := natLe 4 b.length ++ [if done then 1 else 0]
    if b.isEmpty then s1.replyNow q p stOk res
    else match s1.hostWrite q (field p 40 8) b with
      | (t, true) => t.replyNow q p stOk res
      | (t, false) => t.replyNow q p stDmaErr []

/-- ARCH_INFO. (DEDUCED, notes/assumptions/97.md) -/
def State.archInfoNow (s : State) (q : Nat) (p : Bytes) : State :=
  match s.coilById ((p.drop 16).take 16) with
  | none => s.replyNow q p stState []
  | some c => s.replyNow q p stOk (natLe 8 c.size ++ natLe 4 c.span.1 ++ natLe 4 c.span.2)

/-! ### Attestation (R417, R419) -/

/-- ATTEST: the report is to be signed. -/
def State.attestNow (s : State) (q : Nat) (p : Bytes) : State :=
  if field p 56 2 < 7875 then s.reply q p false stBadParam s.fn (natLe 2 7875)
  else if !s.flag SG_LC_ID_VALID || !s.sag.idKey then s.replyNow q p stState []
  else if s.host.attest.isSome then s.replyNow q p stBusy []
  else (s.onHost (fun h => { h with attest := some (q, p) })).syncEngine

/-- The identity public key (R416). -/
def State.identityPub (s : State) : Bytes :=
  natLe 2592 (Config.identityKey (s.fuseBytes 88 128))

/-- The bytes of a report before its signature (R419). -/
def State.report (s : State) (nonce : Bytes) : Bytes :=
  let bit (b : Bool) (k : Nat) : Nat := if b then 2 ^ k else 0
  natLe 4 0x41545331 ++ [1] ++ natLe 1 s.lifecycle ++ natLe 1 s.mode
    ++ natLe 1 (bit (s.flag CF_STAT_TRIAL) 0 + bit (s.flag CF_STAT_ROLLBACK) 1
      + bit (decide (0 < s.get SG_DBG_CTRL_LEVEL)) 2 + bit ((s.fuse 0).toNat.testBit 8) 3)
    ++ nonce ++ natLe 8 s.fn ++ natLe 8 s.tt ++ natLe 4 s.sag.kwVersion ++ natLe 4 s.sag.kwSvn
    ++ natLe 1 (s.svnFloor 0) ++ natLe 1 (s.svnFloor 1) ++ natLe 1 (s.svnFloor 2) ++ [0]
    ++ natLe 2 (s.get TW_EPOCH_EPOCH) ++ natLe 2 (s.get SG_EPOCH_MAX_EPOCH) ++ natLe 8 (s.rd64 HI_AUTH_CTR)
    ++ (List.range 8).flatMap s.meas ++ (List.range 16).flatMap (fun j => natLe 4 (s.rd (SG_ID_DIGEST j)).toNat) ++ s.identityPub

/-- The signing of the report ends: `done` is false where the bound of 4 ms stops it. -/
def State.endAttest (s : State) (done : Bool) : State :=
  match s.host.attest with
  | none => s
  | some (q, p) =>
    let s1 := s.onHost (fun h => { h with attest := none })
    if !done then s1.replyNow q p stBusy []
    else if !s1.flag SG_LC_ID_VALID || !s1.sag.idKey then s1.replyNow q p stState []
    else
      let (k, s2) := s1.draw
      let b := s2.report ((p.drop 16).take 32)
      match s2.hostWrite q (field p 48 8) (b ++ natLe 4627 (Config.sign k (sha512 b))) with
      | (t, true) => t.replyNow q p stOk (natLe 2 7875)
      | (t, false) => t.replyNow q p stDmaErr []

/-! ### The Verify Engine (R146, R148, R363, R449) -/

/-- Whether a KERNEL_LOAD asks for an UNLOAD. -/
def isUnload (p : Bytes) : Bool :=
  field p 27 1 == 1

/-- The register writes of a KERNEL_LOAD made; the slot of an UNLOAD is emptied at the next boundary. -/
def State.kernelWrites (s : State) (p : Bytes) : State :=
  if isUnload p then ran (execVeKloadUnload 0 (BitVec.ofNat 32 (2 + (field p 28 1 - 0x80) * 0x100)) s) s
  else ran (execVeKloadGo 0 ((s.wr64 VE_KLOAD_ADDR (field p 16 5)).put VE_KLOAD_LEN_BYTES (field p 24 3))) s

/-- A KERNEL_LOAD performed: it completes when the check ends, an UNLOAD at once. (DEDUCED, notes/assumptions/96.md) -/
def State.performKload (s : State) (q : Option Nat) (p : Bytes) : State :=
  let answer (s : State) (st : Nat) : State := match q with | some q => s.replyNow q p st (natLe 1 (s.get VE_KLOAD_CTRL_RESULT)) | none => s
  if isUnload p then
    if stageMax ≤ s.stagedNext then answer s stStageFull else answer (s.kernelWrites p) stOk
  else if s.flag VE_KLOAD_CTRL_BUSY then answer s stBusy
  else
    let s1 := s.kernelWrites p
    match q with
    | some q => s1.onHost (fun h => { h with kload := some (q, p) })
    | none => s1

/-- A VE_CANCEL performed: it completes after the seal point at which it acts. -/
def State.performCancel (s : State) (q : Option Nat) (p : Bytes) : State :=
  let g : Group := toIx 8 (field p 16 1)
  let d := (field p 17 1).testBit 0
  let s1 := ((s.put (VE_CANCEL_TAG_TAG g) (field p 20 4)).put (VE_CANCEL_MASK_MASK g) (field p 24 4)).putFlag (VE_CANCEL_CTRL_DISCARD g) d
  let s2 := s1.holdCancel g (field p 20 4) (field p 24 4) d
  match q with
  | some q => s2.onHost (fun h => { h with cancels := h.cancels ++ [(q, p)] })
  | none => s2

/-- A KERNEL_LOAD or VE_CANCEL performed. -/
def State.performVe (s : State) (q : Option Nat) (p : Bytes) : State :=
  if pktOp p = opKernelLoad then s.performKload q p else s.performCancel q p

/-- A KERNEL_LOAD or VE_CANCEL taken: refused by a follower, performed at the next boundary by a leader that forwards it,
performed now otherwise. -/
def State.veNow (s : State) (q : Nat) (p : Bytes) : State :=
  if s.follows then s.replyNow q p stState []
  else if pktOp p = opVeCancel ∧ s.part.groups ≤ field p 16 1 then s.replyNow q p stBadParam []
  else if s.leads then
    (s.addChain { fn := s.fn + 1, writes := 0, q := some q, cmds := [p], imm := true }).sendTwCmd (s.fn + 1) [p] true
  else s.performVe (some q) p

/-- The check of a slot image ends: a KERNEL_LOAD that waited for it completes, and MEAS[6] is extended (R414).
(DEDUCED, notes/assumptions/59.md) -/
def State.kloadDone (s : State) : State :=
  match s.endKload with
  | (s1, none) => s1
  | (s1, some (code, b)) =>
    let s2 := if code = 0 then s1.extendMeas 6 ((b.drop 64).take 64) else s1
    match s2.host.kload with
    | some (q, p) => (s2.onHost (fun h => { h with kload := none })).replyNow q p stOk (natLe 1 code)
    | none => s2

/-- The VE_CANCELs that waited for a seal point complete: the last of each group with the jobs that it removed.
(DEDUCED, notes/assumptions/57.md) -/
def State.cancelsDone (s : State) : State :=
  let l := s.host.cancels
  let s1 := s.onHost (fun h => { h with cancels := [] })
  s1.each l.zipIdx (fun s x =>
    let g := field x.1.2 16 1
    let later := (l.drop (x.2 + 1)).any (fun y => field y.2 16 1 == g)
    s.replyNow x.1.1 x.1.2 stOk (natLe 4 (if later then 0 else (lookup s.ve.removed g).getD 0)))

/-! ### Flash programming (R389) -/

/-- Whether every entry of a half image's directory passes its check, under the keys of that directory (R406 to R408,
R148). (DEDUCED, notes/assumptions/102.md) -/
def State.checkHalf (s : State) (a len : Nat) : Bool :=
  let n := field (s.bytes a 64) 6 2
  let ok (e : Nat) : Bool :=
    let d := s.bytes (a + 0x40 + 16 * e) 16
    let ofs := field d 0 4
    let b := s.bytes (a + ofs) (field d 4 4)
    decide (ofs + field d 4 4 ≤ len)
      && (if field d 8 1 = 3 then s.checkKernel a b == 0 && field b 4 2 == field d 9 1 else decide (field d 8 1 ≤ 2)
        && s.checkImage a b (field d 8 1) (field d 9 1) == 0)
  decide (0x4000 ≤ len) && field (s.bytes a 64) 0 4 == 0x534B4449 && field (s.bytes a 64) 4 1 == 1 && within 1 n 48
    && (List.range n).all ok

/-- FLASH_PROGRAM taken: the active half is refused; otherwise the image check is asked for.
(DEDUCED, notes/assumptions/102.md) -/
def State.flashNow (s : State) (q : Nat) (p : Bytes) : State :=
  let half := field p 28 1 == 1
  if half = s.flag CF_STAT_ACTIVE then s.replyNow q p stOk [1]
  else if s.host.flash.isSome then s.replyNow q p stBusy []
  else
    let j : FlashJob := { q := q, cmd := p, src := field p 16 5, len := field p 24 4, base := if half then 0x2000000 else 0 }
    (s.onHost (fun h => { h with flash := some j, checks := h.checks ++ [.flash] })).syncEngine

/-- The FLASH_PROGRAM ends with a result. (DEDUCED, notes/assumptions/102.md) -/
def State.endFlashJob (s : State) (j : FlashJob) (result : Nat) : State :=
  (s.onHost (fun h => { h with flash := none })).replyNow j.q j.cmd stOk (natLe 1 result)

/-- The sectors that an image covers, and its lines. -/
def FlashJob.sectors (j : FlashJob) : Nat :=
  (j.len + 65535) / 65536
def FlashJob.lines (j : FlashJob) : Nat :=
  (j.len + 127) / 128

/-- The next operation of a FLASH_PROGRAM: erase, program, verify (R389). (DEDUCED, notes/assumptions/102.md) -/
def State.flashStep (s : State) : State :=
  match s.host.flash with
  | none => s
  | some j =>
    if !j.checked || s.arch.flash.isSome then s
    else if j.halt && (decide (j.sector < j.sectors) || j.line % 512 == 0 || decide (j.lines ≤ j.line)) then
      s.onHost (fun h => { h with flash := none })
    else if j.sector < j.sectors then
      ((s.put CF_ADDR_ADDR ((j.base + 65536 * j.sector) / 128)).onHost (fun h => { h with flash := some { j with sector := j.sector + 1 } })).flashErase
    else if j.line < j.lines then
      let src := j.src + 128 * j.line
      let s1 := ((s.put CF_ADDR_ADDR ((j.base + 128 * j.line) / 128)).wr64 CF_SRC src).onHost (fun h =>
        { h with flash := some { j with line := j.line + 1 } })
      let s2 := s1.flashProgram src
      if s2.get CF_RESULT_RESULT = 0 then s2 else s2.endFlashJob j 2
    else
      let (s1, b, r) := s.busRead 0 j.src j.len
      s1.endFlashJob j (if r.ok && s1.bytes j.base j.len == b then 0 else 2)

/-- An operation of the code flash has ended: a FLASH_PROGRAM goes on, or has failed its read-back. -/
def State.flashOpDone (s : State) (ok : Bool) : State :=
  let was := s.arch.flash
  let s1 := s.finishFlash ok
  match was, s1.host.flash with
  | some o, some j => if !o.erase && !ok && j.checked then s1.endFlashJob j 2 else s1.flashStep
  | _, _ => s1

/-! ### Immediate commands -/

/-- Whether an opcode is accepted in LOCKDOWN (R364). -/
def lockdownOp (op : Nat) : Bool :=
  op == opNop || op == opIdentify || op == opGetStatus || op == opReadLog

/-- Why an immediate command is refused, whatever it does (R363, R364). (DEDUCED, notes/assumptions/90.md) -/
def State.nowRefused (s : State) (q : Nat) (p : Bytes) : Nat :=
  match pktRow p with
  | none => stBadOpcode
  | some r =>
    if s.mode = modeLockdown ∧ !lockdownOp r.op then stMode
    else if !r.accepts (qFunc q) then stBadOpcode
    else if !pktClean p r || !pktRanges p || pktEfn p != 0 then stBadParam
    else stOk

/-- An immediate command marked Auth performed, its authorisation checked (R368): a WARM_RESTART writes its completion
and begins 100 µs later (R376). (DEDUCED, notes/assumptions/92.md; DESIGN CHOICE, notes/assumptions/122.md) -/
def State.authNow (s : State) (q : Nat) (p : Bytes) : State :=
  if pktOp p = opWarmRestart then
    if s.host.restart.isSome then s.replyNow q p stBusy []
    else
      let s1 := s.replyNow q p stOk []
      (s1.each (s1.hq q).ready (fun s _ => if s.canWrite q then s.writeCpl q else s)).onHost (fun h => { h with
        restart := some (s.tt + 100 * usKclk, field p 16 1 == 1) })
  else s.flashNow q p

/-- An immediate command without authorisation performed. -/
def State.performNow (s : State) (q : Nat) (p : Bytes) (bad : Option (Nat × Nat)) : State :=
  let op := pktOp p
  if op = opNop then s.replyNow q p stOk []
  else if op = opIdentify then s.replyNow q p stOk s.identifyResult
  else if op = opGetStatus then s.replyNow q p stOk s.statusResult
  else if op = opReadLog then s.readLogNow q p
  else if op = opArchRead then s.archReadNow q p bad
  else if op = opArchInfo then s.archInfoNow q p
  else if op = opAttest then s.attestNow q p
  else s.veNow q p

/-- A lone immediate command taken (R363, R368). -/
def State.takeNow (s : State) (q : Nat) (p : Bytes) (bad : Option (Nat × Nat)) : State :=
  let st := s.nowRefused q p
  if st = stMode then s.replyNow q p st []
  else if pktAuthNow p then s.replyNow q p stAuthRequired []
  else if st ≠ stOk then s.replyNow q p st []
  else s.performNow q p bad

end Sys2Proof.Machine
end

