-- ==== Sys2Proof/Machine/HostCommit.lean ====
section
/-! DEFINITION. How the chains of a boundary commit: the recheck at t0, the writes that join the stage, and what each command
does (R44, R46 to R48, R363 to R367, R391, R414, R415, R435, R449, R452, R455). -/

namespace Sys2Proof.Machine

/-! ### The recheck (R364, R371) -/

/-- Whether a chain fails its recheck at t0: the command at fault, and its status; `dry` is what the writes staged
before it leave. (DEDUCED, notes/assumptions/95.md) -/
def State.recheck (s dry : State) (c : Chain) : Option (Nat × Nat) :=
  let localKind : Bool := match c.auth with | some a => a.kind == 1 | none => false
  if c.imm then none
  else if localKind && s.mode != modeStandby && s.mode != modeMaintenance then some (0, stMode)
  else s.checkFrom dry (qFunc (c.q.getD 0)) true 0 c.cmds

/-! ### What a chain adds to the stage (R46, R47) -/

/-- The part of a write that waits for the boundary, and the part that acts at t0 + 256 KCLK (R46, R48).
(DEDUCED, notes/assumptions/95.md) -/
def stagedPart (off : Nat) : Word :=
  match regRow off with
  | some r => BitVec.ofNat 32 r.staged
  | none => 0
def heldPart (off : Nat) (v : Word) : Option Word :=
  match regRow off with
  | none => none
  | some r =>
    let rest := BitVec.ofNat 32 (r.rw ||| r.wo ||| r.w1c ||| r.rwl) &&& ~~~stagedPart off
    if rest = 0 then none else some (v &&& ~~~stagedPart off)

/-- A write of master 0 joins the stage at the place of its chain, judged against the stage before it; an RWL field that
it sets is locked. (DEDUCED, notes/assumptions/95.md) -/
def State.gather (s : State) (off : Nat) (v : Word) (seq : Nat) : State :=
  let t := (({ s with chains := [], stagings := seq } : State).regWrite 0 off v).1
  { s with locked := t.locked, stage := t.stage }

/-- The staged register writes that a command stands for. -/
def cmdWrites (p : Bytes) : List (Nat × Word) :=
  let op := pktOp p
  let b := field p 16 1
  let c := field p 17 1
  if op = opWriteReg then regTargets p
  else if op = opHeadCtrl ∧ c ≤ 1 then [(HL_CTRL b, BitVec.ofNat 32 (1 + c))]
  else if op = opAppCtrl then [(LS_CTRL b, if c = 0 then 1 else 2)]
  else []

/-- A stage joined by the entries of a chain: a later write replaces the RW fields of an earlier one, actions accumulate
(R46, R367). (DEDUCED, notes/assumptions/95.md) -/
def joinStage (l : List Staged) (e : Staged) : List Staged :=
  match l.find? (fun x => x.off = e.off) with
  | some old => l.filter (fun x => x.off ≠ e.off) ++ [{ e with val := mergeStaged e.off old.val e.val }]
  | none => l ++ [e]

/-- The stage of a boundary with the writes of its chains, in order of staging: each chain follows the direct writes
staged before it. -/
def State.joinChains (s : State) (l : List Chain) : State :=
  let direct := sortBy (fun (a b : Staged) => decide (a.seq ≤ b.seq)) s.stage
  let chains := sortBy (fun (a b : Chain) => decide (a.seq ≤ b.seq)) l
  let (t, rest) := chains.foldl (fun (a : State × List Staged) c =>
    let before := a.2.takeWhile (fun e => decide (e.seq < c.seq))
    let s1 : State := { a.1 with stage := before.foldl joinStage a.1.stage }
    (s1.each (c.cmds.flatMap cmdWrites) (fun s x => s.gather x.1 x.2 c.seq), a.2.drop before.length)) ({ s with stage := [] }, direct)
  { t with stage := rest.foldl joinStage t.stage }

/-! ### Modes (R435) -/

/-- A MODE_REQ takes effect; `tag` is the TAG of its chain's first packet (R351). (DEDUCED, notes/assumptions/117.md) -/
def State.changeMode (s : State) (target tag : Nat) : State :=
  if modeSame s.mode target then s
  else if target = modeSafe then (s.setDevSafe.recordSafe 0 3 tag true).enterMode modeSafe
  else if target = modeRun ∧ s.get PM_MODE_DEGR ≠ 0 then s.enterMode modeDegraded
  else s.enterMode target

/-- A staged write of `PM_MODE_REQ` commits where a row of R435 and its conditions hold.
(DEDUCED, notes/assumptions/95.md) -/
def State.commitModeReg (s : State) (v : Word) : State :=
  let target := v.toNat % 8
  if s.checkMode target true = stOk then s.changeMode target 0 else s

/-- The staged writes of a boundary without those of FMIN, FMAX and the seal margin where the three together break the
limits: they are refused (R41). -/
def State.withinLimits (s : State) (l : List Staged) : State × List Staged :=
  let word (off : Nat) : Nat := (match l.find? (fun (e : Staged) => e.off = off) with | some e => e.val | none => s.rd off).toNat
  if firingLimits word then (s, l)
  else (s.putFlag TB_STAT_CFG_REJ true, l.filter (fun (e : Staged) => e.off ≠ TB_FMIN && e.off ≠ TB_FMAX && e.off ≠ TB_SEAL_MARGIN))

/-- Every staged write of a boundary commits: domain settings are judged after the others, presets last (R29, R44). -/
def State.commitStage (s0 : State) (l0 : List Staged) : State :=
  let (s, l) := s0.withinLimits l0
  let dom (e : Staged) : Bool := decide (0x12000 ≤ e.off) && decide (e.off < 0x12400) && e.off % 0x100 == 0
  let pre (e : Staged) : Bool := decide (0x12000 ≤ e.off) && decide (e.off < 0x12400) && e.off % 0x100 == 0x58
  s.each (l.filter (fun e => !dom e && !pre e) ++ l.filter dom ++ l.filter pre) (fun s e =>
    if e.off = PM_MODE_REQ then s.commitModeReg e.val else s.commitReg e.off e.val)

/-! ### Images (R415) -/

/-- The check of an APP_LOAD's image: its result, and the image. (DEDUCED, notes/assumptions/96.md) -/
def State.appCode (s : State) (p : Bytes) : State × Nat × Bytes :=
  let (s1, b, r) := s.busRead 13 (field p 20 5) (field p 28 4)
  let body := field b 20 4
  (s1, if !r.ok || body != field b 24 4 + field b 28 4 then 1 else s1.checkImage s1.activeBase b 2 (field p 16 1), b)

/-- An image's ISP and DSP portions copied into a group, and its ENTRY into `PM_GENTRY` (R407, R415, R438).
(DEDUCED, notes/assumptions/96.md) -/
def State.copyImage (s : State) (g : Nat) (b : Bytes) : State :=
  let isp := (b.drop 4864).take (field b 24 4)
  let dsp := (b.drop (4864 + field b 24 4)).take (field b 28 4)
  let s1 := (s.setBytes (ispBase g) isp).setBytes (dspBase g) dsp
  let s2 := (s1.freshChecks (ispBase g) (ispBase g + isp.length)).freshChecks (dspBase g) (dspBase g + dsp.length)
  s2.wr (PM_GENTRY g) (BitVec.ofNat 32 (field b 32 4))

/-- APP_LOAD commits: an image that has passed is copied, and MEAS[6] extended (R414, R415). A follower checks the image
of a forwarded chain here. (DEDUCED, notes/assumptions/96.md) -/
def State.commitLoad (s : State) (c : Chain) (i : Nat) (p : Bytes) : State × Nat :=
  let (s1, code, b) := match lookup c.codes i with
    | some k => let (s1, b, _) := s.busRead 0 (field p 20 5) (field p 28 4); (s1, k, b)
    | none => s.appCode p
  if code ≠ 0 then (s1.secEvent evImageRejected code, code)
  else ((s1.copyImage (field p 16 1) b).extendMeas 6 ((b.drop 64).take 64), 0)

/-! ### Commands at the commit -/

/-- What a command of a chain does at the commit, beside the stage (R363): the state and the code of an APP_LOAD. -/
def State.commitCmd (s : State) (c : Chain) (i : Nat) (p : Bytes) : State × Nat :=
  let op := pktOp p
  if op = opModeReq then (s.changeMode (field p 16 1) (pktTag (c.cmds.headD [])), 0)
  else if op = opEpochAdvance then ((s.put TW_EPOCH_EPOCH (field p 16 2)).raiseSrc 452, 0)
  else if op = opTwinRelinquish then (s.relinquish, 0)
  else if op = opAppLoad then s.commitLoad c i p
  else if op = opCoilMark then (s.openCoil (field p 16 1) (signedOf 64 (field p 20 8)) ((p.drop 32).take 16), 0)
  else (s, 0)

/-- A chain's commands at the commit, and the codes of its APP_LOADs by position (R414). -/
def State.commitChain (s : State) (c : Chain) : State × List (Nat × Nat) :=
  let tags := pktTag (c.cmds.headD [])
  let s0 := s.onTw (fun t => { t with tags := t.tags ++ [tags] })
  if c.imm then (s0.performVe c.q (c.cmds.headD []), [])
  else
    let s1 := if pktOp (c.cmds.headD []) = opAuthRef then s0.extendMeas 5 (sha512 c.cmds.tail.flatten) else s0
    c.cmds.zipIdx.foldl (fun (a : State × List (Nat × Nat)) x =>
      let (t, code) := a.1.commitCmd c x.2 x.1
      (t, if code = 0 then a.2 else a.2 ++ [(x.2, code)])) (s1, [])

/-! ### Commands at t0 + 256 KCLK (R48, R363) -/

/-- An EVENT_INSERT performed through the port of its group: the bytes of its RESULT. -/
def State.hostInsert (s : State) (p : Bytes) : State × Bytes :=
  let g : Group := toIx 8 (field p 36 1)
  let s1 := ((s.wr64 (EW_INS_TGT g) (field p 16 8)).put (EW_INS_WIDTH_W g) (field p 24 4)).wr (EW_INS_TAG g) (BitVec.ofNat 32 (field p 28 4))
  let s2 := s1.portInsert g 0 (BitVec.ofNat 32 (field p 32 4))
  let res := s2.get (EW_INS_STAT_RESULT g)
  (s2, natLe 3 (if res ≤ 2 then s2.get (EW_INS_STAT_HANDLE g) else 0) ++ natLe 1 res)

/-- An EVENT_CANCEL performed: the bytes of its RESULT. -/
def State.hostCancel (s : State) (p : Bytes) : State × Bytes :=
  let g : Group := toIx 8 (field p 16 1)
  if field p 17 1 = 0 then
    let (s1, res) := s.cancelHandle g true (field p 20 4 % 2 ^ 24)
    (s1.put (EW_CAN_STAT_RESULT g) res, natLe 1 res)
  else
    let (s1, n) := s.cancelMask g (BitVec.ofNat 32 (field p 20 4)) (BitVec.ofNat 32 (field p 24 4))
    (s1.put (EW_CAN_N_N g) n, natLe 4 n)

/-- A write held until t0 + 256 KCLK (R48): what of it waits for a boundary has committed. -/
def State.heldWrite (s : State) (off : Nat) (v : Word) : State :=
  match heldPart off v with
  | none => s
  | some w =>
    if 0x401000 ≤ off ∧ off < 0x403000 ∧ off % 16 = 0 then s.put (FLT_CFG_NSRC ((off - 0x401000) / 16)) (bitsOf w.toNat 8 6)
    else { (s.regWrite 0 off w).1 with stage := s.stage }

/-- What a command does at t0 + 256 KCLK, and the bytes of its RESULT; `code` is that of an APP_LOAD. -/
def State.finishCmd (s : State) (c : Chain) (code : Nat) (p : Bytes) : State × Bytes :=
  let op := pktOp p
  let b := field p 16 1
  if op = opAuthRef then (s, natLe 8 (match c.auth with | some a => a.counter | none => 0))
  else if op = opWriteReg then (s.each (regTargets p) (fun s t => s.heldWrite t.1 t.2), natLe 1 b)
  else if op = opModeReq then (s, natLe 1 s.mode)
  else if op = opEpochAdvance then (s, natLe 2 (s.get TW_EPOCH_EPOCH))
  else if op = opEventInsert then s.hostInsert p
  else if op = opEventCancel then s.hostCancel p
  else if op = opHeadCtrl then
    let s1 := if field p 17 1 = 2 then ran (execHlRetrain (toIx 48 b) 0 s) s else s
    (s1, natLe 1 (s1.laneSt (toIx 48 b)))
  else if op = opAppCtrl then
    (if field p 17 1 = 2 then let (s1, n) := s.cancelMask (toIx 8 b) 0 0; s1.put (EW_CAN_N_N b) n else s, [])
  else if op = opAppLoad then (s, natLe 1 code)
  else if op = opTrackDecide then (s.bufferDecision 0 (field p 16 4), [])
  else (s, [])

/-- Whether a command is an EVENT_INSERT that a mask cancel of its group holds (R160). -/
def State.holdsInsert (s : State) (p : Bytes) : Option Group :=
  let g : Group := toIx 8 (field p 36 1)
  if pktOp p = opEventInsert ∧ ((s.wheel.masked.get g).isSome ∨ s.flag (EW_INS_STAT_BUSY g)) then some g else none

/-- The commands of a chain from a position on at t0 + 256 KCLK, and their completions in order (R366, R367): an
EVENT_INSERT that is held parks the chain. -/
def State.finishFrom (s : State) (c : Chain) (codes : List (Nat × Nat)) (l : List (Bytes × Nat)) : State :=
  match l with
  | [] => s
  | x :: r =>
    match s.holdsInsert x.1 with
    | some g => (s.onHost (fun h => { h with parked := h.parked ++ [⟨g, c, x :: r, codes⟩] })).putFlag (EW_INS_STAT_BUSY g) true
    | none =>
      let (t, res) := s.finishCmd c ((lookup codes x.2).getD 0) x.1
      (match c.q with
        | some q => t.reply q x.1 (decide (1 < c.cmds.length)) (if c.late then stLate else stOk) c.fn (if c.late then [] else res)
        | none => t).finishFrom c codes r

/-- A chain's commands at t0 + 256 KCLK (R366, R367). -/
def State.finishChain (s : State) (c : Chain) (codes : List (Nat × Nat)) : State :=
  if c.imm then s else s.finishFrom c codes c.cmds.zipIdx

/-- `EW_MASK_CANCEL_DONE` (R160): BUSY clears, `EW_CAN_N` gives the number removed, and what its port held goes
on, the host's insertions last. (DEDUCED, notes/assumptions/61.md) -/
def execEwMaskCancelDone (g : Group) (s : State) : Host.Outcome State Fault Refusal :=
  .next (match s.wheel.masked.get g with
  | none => s
  | some n =>
    let l := s.wheel.held.get g
    let s1 := (s.onWheel (fun w => { w with masked := alter w.masked g (fun _ => none), held := alter w.held g (fun _ => []) }))
    let s2 := ((s1.putFlag (EW_CAN_CTRL_BUSY g) false).put (EW_CAN_N_N g) n).putFlag (EW_INS_STAT_BUSY g) false
    let s3 := s2.each l (fun s h => s.portWrite g h.m h.off h.val)
    let mine := s3.host.parked.filter (fun p => p.group == g)
    (s3.onHost (fun h => { h with parked := h.parked.filter (fun p => p.group != g) })).each mine (fun s p => s.finishFrom p.chain p.codes p.rest))

/-! ### The chains of a boundary -/

/-- The chains that fall to the boundary of a firing (R47, R449): a leader's, or the first `commits` of those that a
follower holds for it. -/
def State.dueChains (s : State) (fn : Nat) (commits : Option Nat) : List Chain :=
  let due := s.chains.filter (fun c => decide (c.fn ≤ fn))
  match commits with
  | some n => (due.filter (fun c => c.q.isNone)).take n
  | none => due.filter (fun c => c.q.isSome)

/-- The chains that have passed their recheck, in order, and those that have failed it, each with its failure: each is
judged after the writes of those before it (R41, R364). -/
def State.sortChains (s : State) (l : List Chain) : List Chain × List (Chain × Nat × Nat) :=
  let step (a : State × List Chain × List (Chain × Nat × Nat)) (c : Chain) : State × List Chain × List (Chain × Nat × Nat) :=
    match s.recheck a.1 c with
    | some r => (a.1, a.2.1, a.2.2 ++ [(c, r.1, r.2)])
    | none => (a.1.dryRun c.cmds, a.2.1 ++ [c], a.2.2)
  (l.foldl step (s.projected, [], [])).2

/-- A chain that has failed its recheck completes (R366, R367). -/
def State.failChain (s : State) (c : Chain) (at_ st : Nat) : State :=
  match c.q with
  | some q => s.refuseChain q c.cmds at_ st
  | none => s

end Sys2Proof.Machine
end

