-- ==== Sys2Proof/Machine/HostRows.lean ====
section
/-! DEFINITION. The rows of the host's commands: Kilnware takes the packet at the front of a queue's inbox (R358, R360 to R371,
R389, R415, R419, R420). -/

namespace Sys2Proof.Machine

/-! ### Taking a packet (R360, R365) -/

/-- A queue pair waits for a chain's END, or not. -/
def State.waitEnd (s : State) (q : Nat) (refused : Bool) (chain : List Bytes) : State :=
  (s.onHq q (fun h => { h with chain := chain, waitEnd := refused })).putFlag (HQ_STAT_WAIT_CHAIN q) (refused || !chain.isEmpty)

/-- Whether a packet breaks its chain (R365, R368): `before` are the packets of the chain that have been taken. -/
def breaksChain (before : List Bytes) (p : Bytes) : Bool :=
  let k := before.length
  let head := before.headD p
  let alone := k == 0 && pktEnd p
  let nowOk := pktStaged p || alone || (k == 1 && pktAuthNow p && pktOp head == opAuthRef && pktEnd p)
  pktPos p != k || pktEfn p != pktEfn head || !nowOk || (pktOp p == opAuthRef && k != 0)

/-- Whether a packet ends a chain, and not a lone immediate command. -/
def HostQueue.closes (h : HostQueue) (p : Bytes) : Bool :=
  pktEnd p && (!h.chain.isEmpty || h.waitEnd || pktStaged p)

/-- The packet at the front of a queue's inbox taken: a lone immediate command is performed, a chain that its END
completes is staged, a chain that it breaks is refused. `bad` is the unreadable block of an ARCH_READ.
(DEDUCED, notes/assumptions/6.md; DEDUCED, notes/assumptions/90.md) -/
def State.packet (s : State) (q : Nat) (bad : Option (Nat × Nat)) : State :=
  let h := s.hq q
  match h.inbox with
  | [] => s
  | p :: rest =>
    let s1 := (s.onHq q (fun h => { h with inbox := rest })).when (h.closes p) (fun s => s.onHost (fun h => { h with order := h.order.erase q }))
    if h.waitEnd then (s1.reply q p true stChainAbort (s1.cfnOf p) []).waitEnd q (!pktEnd p) []
    else if breaksChain h.chain p then
      let cmds := h.chain ++ [p]
      (s1.each cmds.zipIdx (fun s x =>
        s.reply q x.1 (decide (1 < cmds.length) || !pktEnd p) (if x.2 = h.chain.length then stBadChain else stChainAbort) (s.cfnOf x.1) [])).waitEnd q (!pktEnd p) []
    else if !pktEnd p then s1.waitEnd q false (h.chain ++ [p])
    else
      let s2 := s1.waitEnd q false []
      if h.chain.isEmpty && !pktStaged p then s2.takeNow q p bad else s2.stageChain q (h.chain ++ [p])

/-- Whether Kilnware takes packets of a queue. (DEDUCED, notes/assumptions/6.md) -/
def State.takesPackets (s : State) (q : Nat) : Bool :=
  s.kilnware && s.queueRuns q

/-- Whether the packet at the front of a queue's inbox may be taken: chains are staged in the order of fetch (R366). -/
def State.inTurn (s : State) (q : Nat) (p : Bytes) : Bool :=
  !(s.hq q).closes p || s.host.order.find? s.takesPackets == some q

/-- Packets with opcodes that no row of R363 lists, at the front of an inbox, taken (R362).
(DEDUCED, notes/assumptions/6.md; DEDUCED, notes/assumptions/90.md) -/
def State.skipUnknown (fuel : Nat) (s : State) (q : Nat) : State :=
  match fuel, (s.hq q).inbox with
  | fuel + 1, p :: _ => if (pktRow p).isNone && s.inTurn q p then (s.packet q none).skipUnknown fuel q else s
  | _, _ => s

/-- Kilnware takes the packet at the front of a queue's inbox, if it holds an opcode and it is its turn.
(DEDUCED, notes/assumptions/6.md; DEDUCED, notes/assumptions/90.md) -/
def State.takeRow (s : State) (q : Nat) (op : Nat) (bad : Option (Nat × Nat)) : State :=
  if !s.takesPackets q then s
  else
    let s1 := s.stageOn.skipUnknown (s.hq q).inbox.length q
    match (s1.hq q).inbox with
    | p :: _ => if pktOp p = op ∧ s1.inTurn q p then s1.packet q bad else s1
    | [] => s1

/-! ### The rows -/

/-- `NOP` (R363). -/
def execNop (q : Queue) (s : State) : Host.Outcome State Fault Refusal :=
  .next (s.takeRow q opNop none)

/-- `IDENTIFY` (R363). -/
def execIdentify (q : Queue) (s : State) : Host.Outcome State Fault Refusal :=
  .next (s.takeRow q opIdentify none)

/-- `GET_STATUS` (R363). -/
def execGetStatus (q : Queue) (s : State) : Host.Outcome State Fault Refusal :=
  .next (s.takeRow q opGetStatus none)

/-- `READ_LOG` (R363). -/
def execReadLog (q : Queue) (s : State) : Host.Outcome State Fault Refusal :=
  .next (s.takeRow q opReadLog none)

/-- `WRITE_REG` (R363, R364). -/
def execWriteReg (q : Queue) (s : State) : Host.Outcome State Fault Refusal :=
  .next (s.takeRow q opWriteReg none)

/-- `MODE_REQ` (R363, R435). -/
def execModeReq (q : Queue) (s : State) : Host.Outcome State Fault Refusal :=
  .next (s.takeRow q opModeReq none)

/-- `WARM_RESTART` (R368, R376). -/
def execWarmRestart (q : Queue) (s : State) : Host.Outcome State Fault Refusal :=
  .next (s.takeRow q opWarmRestart none)

/-- `EPOCH_ADVANCE` (R455). -/
def execEpochAdvance (q : Queue) (s : State) : Host.Outcome State Fault Refusal :=
  .next (s.takeRow q opEpochAdvance none)

/-- `TWIN_RELINQUISH` (R452). -/
def execTwinRelinquish (q : Queue) (s : State) : Host.Outcome State Fault Refusal :=
  .next (s.takeRow q opTwinRelinquish none)

/-- `EVENT_INSERT` (R152, R363). -/
def execEventInsert (q : Queue) (s : State) : Host.Outcome State Fault Refusal :=
  .next (s.takeRow q opEventInsert none)

/-- `EVENT_CANCEL` (R160, R363). -/
def execEventCancel (q : Queue) (s : State) : Host.Outcome State Fault Refusal :=
  .next (s.takeRow q opEventCancel none)

/-- `HEAD_CTRL` (R92, R363). -/
def execHeadCtrl (q : Queue) (s : State) : Host.Outcome State Fault Refusal :=
  .next (s.takeRow q opHeadCtrl none)

/-- `APP_CTRL` (R162, R363). -/
def execAppCtrl (q : Queue) (s : State) : Host.Outcome State Fault Refusal :=
  .next (s.takeRow q opAppCtrl none)

/-- `APP_LOAD` (R415). -/
def execAppLoad (q : Queue) (s : State) : Host.Outcome State Fault Refusal :=
  .next (s.takeRow q opAppLoad none)

/-- `KERNEL_LOAD` (R148, R363). -/
def execKernelLoad (q : Queue) (s : State) : Host.Outcome State Fault Refusal :=
  .next (s.takeRow q opKernelLoad none)

/-- `VE_CANCEL` (R146, R363). -/
def execVeCancel (q : Queue) (s : State) : Host.Outcome State Fault Refusal :=
  .next (s.takeRow q opVeCancel none)

/-- `TRACK_DECIDE` (R118, R363). -/
def execTrackDecide (q : Queue) (s : State) : Host.Outcome State Fault Refusal :=
  .next (s.takeRow q opTrackDecide none)

/-- `COIL_MARK` (R391). -/
def execCoilMark (q : Queue) (s : State) : Host.Outcome State Fault Refusal :=
  .next (s.takeRow q opCoilMark none)

/-- `ARCH_READ` (R398). (DEDUCED, notes/assumptions/97.md) -/
def execArchRead (q : Queue) (bad : Option (Nat × Nat)) (s : State) : Host.Outcome State Fault Refusal :=
  .next (s.takeRow q opArchRead bad)

/-- `ARCH_INFO` (R363, R398). -/
def execArchInfo (q : Queue) (s : State) : Host.Outcome State Fault Refusal :=
  .next (s.takeRow q opArchInfo none)

/-- `FLASH_PROGRAM` (R389). -/
def execFlashProgram (q : Queue) (s : State) : Host.Outcome State Fault Refusal :=
  .next (s.takeRow q opFlashProgram none)

/-- `AUTH_REF` (R368, R370). -/
def execAuthRef (q : Queue) (s : State) : Host.Outcome State Fault Refusal :=
  .next (s.takeRow q opAuthRef none)

/-- `ATTEST` (R419). -/
def execAttest (q : Queue) (s : State) : Host.Outcome State Fault Refusal :=
  .next (s.takeRow q opAttest none)

/-! ### Checks that end -/

/-- `CHAIN_TIMEOUT` (R365): END has not been fetched in time; the last packet taken is the one at fault.
(DEDUCED, notes/assumptions/93.md; DESIGN CHOICE, notes/assumptions/122.md) -/
def execChainTimeout (q : Queue) (s : State) : Host.Outcome State Fault Refusal :=
  let h := s.hq q
  .next (if s.takesPackets q && !h.chain.isEmpty && !h.inbox.any pktEnd && decide (h.chainTt + s.get HI_CFG_CHAIN_TO * 100 * usKclk ≤ s.tt) then
      (s.each h.chain.zipIdx (fun s x =>
        s.reply q x.1 true (if x.2 + 1 = h.chain.length then stBadChain else stChainAbort) (s.cfnOf x.1) [])).waitEnd q true []
    else s)

/-- Why the chain of an immediate command marked Auth is refused once its blob has passed: position and status. -/
def State.authNowRefused (s : State) (q : Nat) (p : Bytes) : Option (Nat × Nat) :=
  match s.nowRefused q p with
  | 0 => none
  | st => some (1, st)

/-- The chain at the head of staging, its blob checked (R368, R370). (DEDUCED, notes/assumptions/92.md) -/
def State.blobDone (s : State) (c : Staging) : State :=
  let head := c.cmds.headD []
  let clean : Bool := match pktRow head with | some r => pktClean head r && pktRanges head | none => false
  if s.mode = modeLockdown then s.popStaging.replyChain c.q c.cmds (fun _ => stMode)
  else if qFunc c.q ≠ 0 then s.popStaging.refuseChain c.q c.cmds 0 stBadOpcode
  else if !clean then s.popStaging.refuseChain c.q c.cmds 0 stBadParam
  else match s.checkBlob c.cmds with
  | (s1, 0, a) =>
    if isAuthNow c.cmds then
      let p := c.cmds.getD 1 []
      let s2 := s1.popStaging
      match s2.authNowRefused c.q p with
      | some (i, st) => s2.refuseChain c.q c.cmds i st
      | none => (s2.reply c.q head true stOk s2.fn (natLe 8 a.counter)).authNow c.q p
    else s1.putStaging { c with blob := false, auth := some a }
  | (s1, st, _) => s1.popStaging.refuseChain c.q c.cmds 0 st

/-- `AUTH_CHECK_DONE` (R370, R420): the sagger ends the check of the blob whose turn it is. -/
def execAuthCheckDone (s : State) : Host.Outcome State Fault Refusal :=
  .next (match s.host.staging, s.served .blob with
  | c :: _, some s1 => (s1.blobDone c).stageOn
  | _, _ => s)

/-- `IMAGE_CHECK_DONE` (R389, R415, R420): the sagger ends the image check whose turn it is. -/
def execImageCheckDone (s : State) : Host.Outcome State Fault Refusal :=
  .next (match s.host.checks, s.served .image with
  | .chain :: r, some s0 =>
    let s1 := s0.onHost (fun h => { h with checks := r })
    (match s1.host.staging with
    | c :: _ =>
      (match c.images with
      | i :: is =>
        let (s2, code, _) := s1.appCode (c.cmds.getD i [])
        (s2.putStaging { c with images := is, codes := c.codes ++ [(i, code)] }).stageOn
      | [] => s1)
    | [] => s1)
  | .flash :: r, some s0 =>
    let s1 := s0.onHost (fun h => { h with checks := r })
    (match s1.host.flash with
    | some j =>
      if s1.checkHalf j.src j.len then (s1.onHost (fun h => { h with flash := some { j with checked := true } })).flashStep
      else s1.endFlashJob j 3
    | none => s1)
  | _, _ => s)

/-- `ATTEST_SIGN_DONE` (R419, R420). -/
def execAttestSignDone (done : Bool) (s : State) : Host.Outcome State Fault Refusal :=
  .next (match s.served .attest with
  | some s1 => s1.endAttest done
  | none => s)

/-- `CF_OP_COMPLETE` (R387, R389): an operation of the code flash ends; `ok` is the verdict of a program's read-back.
(DEDUCED, notes/assumptions/102.md) -/
def execCfOpComplete (ok : Bool) (s : State) : Host.Outcome State Fault Refusal :=
  .next (s.flashOpDone ok)

/-- `VE_KLOAD_DONE` (R148, R420): the check of an image ends. (DEDUCED, notes/assumptions/59.md) -/
def execVeKloadDone (s : State) : Host.Outcome State Fault Refusal :=
  .next (match s.served .kload with
  | some s1 => s1.kloadDone
  | none => s)

/-! ### Forwarded commands (R449) -/

/-- The packets of a TW_CMD message. -/
def forwardedOf (b : Bytes) : List Bytes :=
  (List.range (field b 16 1)).map (fun i => (b.drop (24 + 64 * i)).take 64)

/-- `TW_CMD_RECEIVE` (R449): the follower stages a forwarded chain and answers CMD_ACK. -/
def execTwCmdReceive (n : Lane) (s : State) : Host.Outcome State Fault Refusal :=
  .next (if !s.isPeer n then s
  else match s.rxFront n 0x23 with
  | none => s
  | some m =>
    let s1 := s.rxPop n
    if s.role ≠ roleFollower then s1
    else
      let cmds := forwardedOf m.bytes
      let s2 := s1.addChain { fn := field m.bytes 8 8, writes := chainCost cmds, q := none, cmds := cmds, imm := (field m.bytes 17 1).testBit 0 }
      s2.sendTwCtrl 5 (field m.bytes 8 8))

end Sys2Proof.Machine
end

