-- ==== Sys2Proof/Machine/Boundary.lean ====
section
/-! DEFINITION. The boundary with its commit window, and the seal point (R37 to R46, R67, R74, R198, R346, R435, R448, R449,
R453). -/

namespace Sys2Proof.Machine

/-! ### When a boundary is due (R39, R40, R448) -/

/-- A boundary that is due: its FN, the cause that `TB_STAT` shows, and on a follower the number of forwarded chains that
commit. -/
structure Due where
  fn : Nat
  cause : Nat
  commits : Option Nat
  deriving DecidableEq, Repr

/-- The cause of a boundary as the device's own events give it: step, FIRE_IN, FMAX, or delayed (R39, R40).
(DEDUCED, notes/assumptions/16.md) -/
def State.ownCause (s : State) : Nat :=
  match s.kiln.src.head? with
  | some e =>
    if s.tt < e.tt then 2
    else if e.tt < s.rd64 TB_BTT + s.get TB_FMIN_FMIN then 3
    else if e.fireIn then 1 else 0
  | none => 2

/-- The boundary that is due now, if any (R39, R448).
(DEDUCED, notes/assumptions/16.md; DEDUCED, notes/assumptions/113.md) -/
def State.boundaryDue (s : State) : Option Due :=
  let since := s.tt - s.rd64 TB_BTT
  if !s.kiln.running then none
  else if let some x := s.tw.fire then some ⟨x.fn, x.cause, some x.commits⟩
  else if s.follows then (if s.tw.fireLost then some ⟨s.fn + 1, s.ownCause, some 0⟩ else none)
  else if since < s.get TB_FMIN_FMIN then none
  else if s.ownCause ≠ 2 ∨ s.get TB_FMAX_FMAX ≤ since then some ⟨s.fn + 1, s.ownCause, none⟩
  else none

/-! ### t0 (R37, R40, R44) -/

/-- Overspeed and the counts of a boundary's cause (R40, R43). -/
def State.countCause (s : State) (cause : Nat) : State :=
  let s1 :=
    if cause = 3 then
      let first := s.get TB_OVS_RUN_RUN == 0
      let s1 := (s.bump TB_OVS_CNT_CNT).bump TB_OVS_RUN_RUN
      if first then s1.raiseSrc 49 else s1
    else (s.put TB_OVS_RUN_RUN 0).onKiln (fun k => { k with ovsRaised := false })
  let s2 := if s1.get TB_CTRL_FSRC = 1 then s1 else s1.onKiln (fun k => { k with quiet := 0, srcLost := false })
  if cause ≠ 2 then s2
  else
    let s3 := (s2.bump TB_FMAX_CNT_CNT).raiseSrc 61
    if s3.get TB_CTRL_FSRC = 1 then s3.onKiln (fun k => { k with quiet := k.quiet + 1 }) else s3

/-- The index of the grid line crossed last at a boundary: a crossing that is recognised after it does not count (R37,
R39). -/
def State.lineAt (s : State) : Int :=
  match s.kiln.src.find? (fun e => decide (s.tt < e.tt) && !e.fireIn) with
  | some e => e.before
  | none => s.kiln.k

/-- The grid lines that a step boundary skips (R37). -/
def State.countSkips (s : State) (cause : Nat) : State :=
  if s.get TB_CTRL_FSRC = 0 ∧ cause ≠ 2 then
    let n := (s.lineAt - s.kiln.kStep).natAbs - 1
    (s.addTo TB_SKIP_CNT_CNT n).onKiln (fun k => { k with kStep := s.lineAt })
  else s

/-- The latches of t0 (R44, R49): FN, `TB_BTT`, `TB_PERIOD`, `DOM_BPV` and `DOM_BVEL`.
(DEDUCED, notes/assumptions/16.md; DEDUCED, notes/assumptions/18.md) -/
def State.latchBoundary (s : State) (fn cause : Nat) : State :=
  let period := min (s.tt - s.rd64 TB_BTT) (2 ^ 24 - 1)
  let s1 := if fn ≤ 1 then s.put TB_PERIOD_PERIOD 0 else s.put TB_PERIOD_PERIOD period
  let s2 := (({ s1 with fn := fn } : State).wr64 TB_BTT s.tt).put TB_STAT_CAUSE cause
  let s3 := s2.putFlag TB_STAT_SEALED false
  s3.each (allFin 4) (fun s d => (s.wrInt (DOM_BPV d) (s.pv d)).wr (DOM_BVEL d) (BitVec.ofInt 32 (s.velocity d).1))

/-- The segment of the firing that ends is sealed in the archive at t0 (R393). (DEDUCED, notes/assumptions/34.md) -/
def State.sealArchive (s : State) : State :=
  if s.fn = 0 then s else s.sealSegment s.fn false

/-- Coverage with the lane states at t0 (R85); every change of a widest gap is logged in the archive (R392).
(DEDUCED, notes/assumptions/34.md) -/
def State.coverage (s : State) : State :=
  let gap (s : State) (d surf : Nat) : Nat := (s.rd (if surf = 0 then HL_GAP_TOP d else HL_GAP_BOT d)).toNat
  s.evalCoverage.each (List.range 4) (fun t d =>
    (t.logGap d 0 (gap s d 0) (gap t d 0)).logGap d 1 (gap s d 1) (gap t d 1))

/-- The groups that restart at a boundary (R198, R329, R438). (DEDUCED, notes/assumptions/66.md) -/
def State.dueRestarts (s : State) : State :=
  s.each ((allFin 8).filter (fun (g : Group) => s.hasGroup g && (s.core g).restartDue)) (fun s g =>
    if s.poweredOff g then s.onCore g (fun c => { c with restartDue := false }) else s.restartGroup g)

/-- MAINTENANCE left for motion at the boundary after it (R435). (DEDUCED, notes/assumptions/117.md) -/
def State.leaveMaintenance (s : State) : State :=
  let s1 := s.onKiln (fun k => { k with maintExit := false })
  if s.kiln.maintExit && s.mode == modeMaintenance then s1.enterMode modeStandby else s1

/-! ### Chains (R47, R364, R448, R449) -/

/-- The chains that the boundary does not commit leave the stage: a follower's own return STATE, and it discards the
forwarded ones that the leader did not name; naming more than there are is a divergence.
(DEDUCED, notes/assumptions/113.md) -/
def State.dropChains (s : State) (due : List Chain) (commits : Option Nat) : State :=
  let mine := s.chains.filter (fun c => decide (c.fn ≤ s.fn))
  let s1 : State := { s with chains := s.chains.filter (fun c => decide (s.fn < c.fn)) }
  match commits with
  | none => s1
  | some n =>
    let s2 := s1.each mine (fun s c => match c.q with
      | some q => s.replyChain q c.cmds (fun _ => stState)
      | none => s)
    if due.length < n then (((s2.raise F_TW_DIVERGE s.fn).bump TW_DIV_CNT_CNT).raiseSrc 449).leaveStep else s2

/-- The TW_FIRE of a leader (R446). (DEDUCED, notes/assumptions/114.md) -/
def State.sendFire (s : State) (commits : Nat) : State :=
  if s.leads then
    s.sendPeer 0x20 (natLe 8 s.fn ++ natLe 8 (s.rd64 TB_BTT) ++ natLe 1 (s.get TB_STAT_CAUSE) ++ natLe 1 commits ++ [0, 0])
  else s

/-! ### The commit (R29, R37, R44) -/

/-- The grid re-based where a commit asks for it (R37). -/
def State.settleGrid (s : State) : State :=
  let due := s.kiln.rebase || s.kiln.newEn.contains (s.get TB_CTRL_FDOM)
  let s1 := s.onKiln (fun k => { k with rebase := false, newEn := [] })
  if due then s1.rebaseGrid else s1

/-- Staged writes and chains commit, t0 + 4 to t0 + 256 KCLK, and what is held until then follows.
(DEDUCED, notes/assumptions/19.md) -/
def State.commitAll (s : State) (ok : List Chain) : State :=
  let s1 := s.joinChains ok
  let s2 := (({ s1 with stage := [] } : State).commitStage s1.stage).settleGrid
  let (s3, done) := ok.foldl (fun (a : State × List (Chain × List (Nat × Nat))) c =>
    let (t, codes) := a.1.commitChain c
    (t, a.2 ++ [(c, codes)])) (s2, [])
  let s4 := (s3.onTw (fun t => { t with epoch := s3.get TW_EPOCH_EPOCH })).clearPool
  s4.each done (fun s x => s.finishChain x.1 x.2)

/-! ### The end of the window (R44, R193, R346) -/

/-- What the Cone Monitor keeps of the firing that begins (R346): a group stopped, powered off or restarted in it is
broken. -/
def State.openCones (s : State) (started : Group → Bool) : State :=
  s.each (allFin 8) (fun s g => s.onCore g (fun c => { c with
    broken := decide (c.startTt = s.tt) || s.get (LS_STAT_STATE g) == lsStopped || s.poweredOff g, startedT0 := started g }))

/-- The length of the commit window, and whether a step of R44 missed its deadline (R45).
(DESIGN CHOICE, notes/assumptions/21.md) -/
def State.window (s : State) (cw : Nat) (missed : Bool) : State :=
  let s1 := s.raiseTo TB_CW_MAX_KCLK cw
  if missed || decide (500 < cw) then (s1.putFlag TB_STAT_CW_OVERRUN true).raise F_COMMIT_OVERRUN 0 else s1

/-- The groups whose cones are evaluated. -/
def State.coneGroups (s : State) : List Group :=
  (allFin 8).filter (fun (g : Group) => s.hasGroup g)

/-- A boundary with its commit window (R44), from t0 on.
(DEDUCED, notes/assumptions/18.md; DEDUCED, notes/assumptions/19.md) -/
def State.boundary (s : State) (b : Due) (cw : Nat) (missed peer : Bool) : State :=
  let s1 := ((s.sealArchive).alignJoin).countSkips b.cause
  let s2 := ((s1.latchBoundary b.fn b.cause).countCause b.cause).onKiln (fun k =>
    { k with src := k.src.filter (fun (e : SourceEvent) => decide (s.tt < e.tt)) })
  let groups := s2.coneGroups
  let s3 := s2.each groups State.latchCones
  let verdicts := if b.fn ≤ 1 then [] else groups.map s3.verdict
  let s4 := ((s3.closePart).leadAtBoundary peer).completeJoin
  let s5 := ((s4.dueRestarts.resumeChecks.leaveMaintenance).coverage).teBoundary
  let started := (List.range 8).map (fun g => s5.flag (CM_CTRL_STARTED g))
  let due := s5.dueChains s5.fn (if s5.follows then b.commits else none)
  let (ok, failed) := s5.sortChains due
  let s6 := (s5.dropChains due (if s5.follows then b.commits else none)).each failed (fun s x => s.failChain x.1 x.2.1 x.2.2)
  let s7 := (s6.sendFire ok.length).onTw (fun t => { t with fire := none, fireLost := false })
  let s8 := ((s7.commitAll ok).each (allFin 48) State.sendTrigs).sealByRole
  let s9 := s8.veBoundary.each verdicts (fun s v => s.applyVerdict (b.fn - 1) v)
  let s10 := ((s9.closeCoils.degradedExit).raiseSrc 48).each (allFin 8) State.startReadmit
  (s10.openCones (fun g => started.getD g.val false)).window cw missed

/-- `FIRING_BOUNDARY` (R44): a boundary that is due, with its commit window; `peer` is the level of TWIN_PEER at t0.
(DESIGN CHOICE, notes/assumptions/4.md; DESIGN CHOICE, notes/assumptions/21.md) -/
def execFiringBoundary (cw : CommitWindow) (peer : Bool) (s : State) : Host.Outcome State Fault Refusal :=
  .next (match s.boundaryDue with
  | some b => s.boundary b cw.kclk cw.missed peer
  | none => s)

/-! ### The seal point (R42, R135, R142) -/

/-- Whether the seal point of the firing has come. -/
def State.sealDuePoint (s : State) : Bool :=
  s.kiln.running && !s.flag TB_STAT_SEALED && decide (1 ≤ s.fn)
    && decide (s.rd64 TB_BTT + s.get TB_FMIN_FMIN ≤ s.tt + s.get TB_SEAL_MARGIN_MARGIN)

/-- `SEAL_POINT` (R42). (DESIGN CHOICE, notes/assumptions/4.md) -/
def execSealPoint (s : State) : Host.Outcome State Fault Refusal :=
  .next (if s.sealDuePoint then
    let s1 := ((s.putFlag TB_STAT_SEALED true).raiseSrc 60).veSeal
    (s1.onTw (fun t => { t with results := s1.ve.digest })).cancelsDone
  else s)

end Sys2Proof.Machine
end

