-- ==== Sys2Proof/Machine/Boot.lean ====
section
/-! DEFINITION. The two boot stages, bisque and glost (R390, R406 to R417, R421, R437). -/

namespace Sys2Proof.Machine

/-! ### The directory of a half (R406) -/

/-- An entry of a directory. -/
structure DirEntry where
  off : Nat
  len : Nat
  typ : Nat
  slot : Nat
  deriving DecidableEq, Repr

/-- The entries of the directory of a half; a directory whose first bytes are wrong has none.
(DEDUCED, notes/assumptions/109.md) -/
def State.directory (s : State) (base : Nat) : List DirEntry :=
  let h := s.bytes base 8
  if field h 0 4 ≠ 0x534B4449 ∨ field h 4 1 ≠ 1 then []
  else (List.range (min (field h 6 2) 48)).map (fun e =>
    let b := s.bytes (base + 0x40 + 16 * e) 10
    ⟨field b 0 4, field b 4 4, field b 8 1, field b 9 1⟩)

/-- The entries of a type, in ascending order of their group or slot. -/
def State.entriesOf (s : State) (base typ : Nat) : List DirEntry :=
  let l := (s.directory base).filter (fun e => e.typ == typ)
  (List.range 256).flatMap (fun k => l.filter (fun e => e.slot == k))

/-- The bytes that an entry locates, as the sagger reads them; none where the entry leaves its half or a word of it is
uncorrectable. (DEDUCED, notes/assumptions/109.md) -/
def State.readEntry (s : State) (base : Nat) (e : DirEntry) : State × Option Bytes :=
  if 0x2000000 < e.off + e.len then (s, none)
  else
    let (s1, b, r) := s.busRead 13 (base + e.off) e.len
    (s1, if r.ok then some b else none)

/-- The check of the first image of a type that the directory of a half names (R408): the code, and the image.
(DEDUCED, notes/assumptions/109.md) -/
def State.checkEntry (s : State) (base typ group : Nat) : State × Nat × Bytes :=
  match (s.entriesOf base typ).head? with
  | none => (s, 1, [])
  | some e =>
    match s.readEntry base e with
    | (s1, none) => (s1, 1, [])
    | (s1, some b) => (s1, s1.checkImage base b typ group, b)

/-- The DIGEST of an image (R407, R147). -/
def imageDigest (b : Bytes) : Bytes :=
  (b.drop 64).take 64

/-! ### Bisque (R409) -/

/-- Step 2: LOCKDOWN with KILL blown (R424). -/
def State.bootLockdown (s : State) : State :=
  (s.blow 0 8).enterMode modeLockdown

/-- Step 3: the identity, where it is available (R416, R417). -/
def State.deriveIdentity (s : State) (pufOk : Bool) : State :=
  let try_ := s.enrolled && !s.killed && s.lifecycle != lcRetired
  let ok := try_ && pufOk
  let s1 := s.when (try_ && !pufOk) (fun s => s.raise F_SG_PUF_FAIL 0)
  let d := if ok then sha512 s1.identityPub else []
  let s2 := s1.each (List.range 16) (fun s j => s.wr (SG_ID_DIGEST j) (BitVec.ofNat 32 (field d (4 * j) 4)))
  (s2.putFlag SG_LC_ID_VALID ok).onSag (fun x => { x with idKey := ok, storeKey := ok, dbgKeys := true })

/-- The non-volatile store read (R421). -/
def State.readStore (s : State) (ok : Bool) : State :=
  let s1 := (s.onSag (fun x => { x with ctrUnknown := !ok })).putFlag SG_STAT_NV_OK ok
  if ok then s1
  else ((s1.onSag (fun x => { x with active := false, trial := false })).syncBoot).raise F_SG_NV_ERR 0

/-- Step 4: the measurements cleared, and the fuses measured. -/
def State.startMeas (s : State) : State :=
  (s.each (List.range 8) (fun s i => s.each (List.range 16) (fun s j => s.wr (SG_MEAS i j) 0))).extendMeas 4
    (sha512 (s.fuseBytes 0 88))

/-- Step 5: the half to boot. -/
def State.selectHalf (s : State) : State :=
  (s.putFlag CF_STAT_ACTIVE s.bootHalf).putFlag SG_BOOT_STAT_HALF s.bootHalf

/-- Steps 6 to 8: the vendor key, the glost image, and the jump to it. (DEDUCED, notes/assumptions/52.md) -/
def State.checkGlost (s : State) : State :=
  let base := s.activeBase
  if sha512 (s.dirKey base .vendor) ≠ s.keyHash .vendor then s.bootFail 1 5
  else
    let (s1, code, b) := s.checkEntry base 0 0
    if code ≠ 0 then s1.bootFail 1 code
    else
      let s2 := (s1.extendMeas 0 (imageDigest b)).onSag (fun x => { x with glostSvn := field b 12 4, glostTt := s1.tt })
      s2.enterMode modeGlost

/-- `BISQUE` (R409), once the device has been reset and RST_N is high.
(DEDUCED, notes/assumptions/52.md; DEDUCED, notes/assumptions/116.md) -/
def execBisque (r : BisqueRun) (s : State) : Host.Outcome State Fault Refusal :=
  .next (if s.mode ≠ modeBisque ∨ s.sag.halted then s
  else
    let s0 := s.onSag (fun x => { x with rstNLow := false, scan := false })
    if !r.shaOk || !r.mldsaOk then
      let s1 := s0.when (!r.shaOk) (fun s => s.raise F_SG_ENGINE 0)
      (s1.when (!r.mldsaOk) (fun s => s.raise F_SG_ENGINE 1)).haltBoot 1 0
    else if (s0.killed && s0.lifecycle != lcRetired) || s0.sag.aonAlarm then s0.bootLockdown
    else (((s0.deriveIdentity r.pufOk).readStore r.nvOk).startMeas.selectHalf).checkGlost)

/-! ### Glost (R411) -/

/-- Step 1: a key of the directory checked against its fused hash. -/
def State.checkKey (s : State) (base : Nat) (k : KeySlot) : State :=
  if s.fused (8 + 16 * k.num) 16 && sha512 (s.dirKey base k) == s.keyHash k then
    s.onSag (fun x => { x with usable := x.usable ++ [k.num] })
  else s.raise F_SG_KEY_MISMATCH k.num

/-- Step 1: the four keys; a customer key that is unusable is a failure outside BLANK (R412). -/
def State.checkKeys (s : State) (base : Nat) : State :=
  let s0 := s.onSag (fun x => { x with usable := [], appSvn := none })
  s0.each [KeySlot.customer, .safety, .maint, .debug] (fun s k => s.checkKey base k)

/-- The SVN of an accepted image counted among those of R413. -/
def State.noteSvn (s : State) (b : Bytes) : State :=
  s.onSag (fun x => { x with appSvn := some (match x.appSvn with | some n => min n (field b 12 4) | none => field b 12 4) })

/-- An image of a group or a slot rejected (R411, R431, R433). (DEDUCED, notes/assumptions/109.md) -/
def State.rejectImage (s : State) (slot code : Nat) : State :=
  (s.raise F_SG_IMAGE_REJ (slot + code * 256)).secEvent evImageRejected (slot + code * 256)

/-- Step 3: an entry of a line application. (DEDUCED, notes/assumptions/109.md) -/
def State.loadApp (s : State) (base : Nat) (e : DirEntry) : State :=
  match s.readEntry base e with
  | (s1, none) => s1.rejectImage e.slot 1
  | (s1, some b) =>
    let g : Group := toIx 8 e.slot
    let code := s1.checkImage base b 2 e.slot
    if e.slot = 0 ∨ 8 ≤ e.slot ∨ !s1.hasGroup g then s1.rejectImage e.slot 1
    else if code ≠ 0 then s1.rejectImage e.slot code
    else ((s1.extendMeas 2 (imageDigest b)).copyImage g b).noteSvn b

/-- Step 4: an entry of a kernel slot. (DEDUCED, notes/assumptions/109.md) -/
def State.loadKernel (s : State) (base : Nat) (e : DirEntry) : State :=
  match s.readEntry base e with
  | (s1, none) => s1.rejectImage e.slot 1
  | (s1, some b) =>
    let code := if field b 4 2 ≠ e.slot then 1 else s1.checkKernel base b
    if code ≠ 0 then s1.rejectImage e.slot code
    else ((s1.extendMeas 3 (imageDigest b)).noteSvn b).onVe (fun v => { v with kpend := v.kpend ++ [(e.slot - 0x80, some b)] })

/-- Steps 3 and 4: the applications and the kernels, which do not run in BLANK and RETIRED (R402).
(DEDUCED, notes/assumptions/109.md) -/
def State.loadImages (s : State) (base : Nat) : State :=
  if s.lifecycle = lcBlank ∨ s.lifecycle = lcRetired then s
  else (s.each (s.entriesOf base 2) (fun s e => s.loadApp base e)).each (s.entriesOf base 3) (fun s e => s.loadKernel base e)

/-- Step 5: the check-only injection into a copy of a group (R202). (DEDUCED, notes/assumptions/67.md) -/
def State.selfInject (s : State) (g : Group) (k : Nat) : State :=
  let taking := s.startCopies g
  let (n, s1) := s.draw
  let t := Config.testSlot n
  let differ := if taking = 7 then 2 ^ k else taking
  let z : Craze := { kind := 5, taking := taking, differ := differ, action := 4, pc := t / 2 % 2 ^ 32, field := 2 + t % 2, slot := 0, syndrome := 1 }
  (s1.craze g z).raise F_LS_INJECT (crazeDetail g differ)

/-- Step 5: the injections into the copies of a group that has copies to compare. (DEDUCED, notes/assumptions/67.md) -/
def State.selfInjects (s : State) (g : Group) : State :=
  let taking := s.startCopies g
  let copies := (List.range 3).filter (fun k => taking.testBit k)
  if copies.length < 2 then s else s.each copies (fun s k => s.selfInject g k)

/-- Step 5: the intrusive test of the SSC, which passes (R337). -/
def State.selfItest (s : State) : State :=
  let s1 := s.beginItest
  match s1.outs.itest with
  | some t => s1.endItest t false false
  | none => s1

/-- Step 5: self-tests that pass (R411), and the archive's check for segments without their seal (R397). -/
def State.selfTests (s : State) : State :=
  let s1 := (s.each s.coneGroups State.selfInjects).selfItest
  let s2 := s1.when s1.arch.incomplete (fun s => s.raise F_AR_PF_INCOMPLETE 0)
  s2.onArch (fun a => { a with incomplete := false })

/-- The boot record at the completion of glost (R390): a trial half becomes the active one; a rollback is raised.
(DEDUCED, notes/assumptions/110.md) -/
def State.settleRecord (s : State) : State :=
  let s1 := if s.sag.trial then (s.onSag (fun x => { x with active := !x.active, trial := false })).syncBoot else s
  match s1.sag.rolledBack with
  | none => s1
  | some half => ((s1.onSag (fun x => { x with rolledBack := none })).raise F_CF_ROLLBACK (if half then 1 else 0)).raiseSrc 469

/-- The mode at the completion of glost (R435): STANDBY, or SAFE with its record where a DEV-SAFE latch is set (R351).
(DEDUCED, notes/assumptions/110.md) -/
def State.modeAfterGlost (s : State) : State :=
  if !s.flag SSC_STAT_DEV_X && !s.flag SSC_STAT_DEV_Y then s.enterMode modeStandby
  else
    let s1 := match s.sup.bootSafe with
      | some (id, cls, detail) => s.recordSafe id cls detail false
      | none => s
    s1.enterMode modeSafe

/-- Step 6: Kilnware copied, firings started at FN 1, and Kilnware started at its ENTRY; glost is complete.
(DEDUCED, notes/assumptions/18.md; DEDUCED, notes/assumptions/110.md) -/
def State.startFirings (s : State) (kw : Bytes) : State :=
  let s1 := s.copyImage 0 kw
  let s2 := (s1.put TW_EPOCH_EPOCH (min (s1.get TW_EPOCH_EPOCH) (s1.get SG_EPOCH_MAX_EPOCH))).settleRecord
  let s3 := ((s2.putFlag HI_STAT_READY true).putFlag AR_STAT_READY true).syncArch
  let s4 := (s3.when (s3.flag AR_CTRL_EN) State.openAutoCoil).modeAfterGlost
  let s5 := s4.onKiln (fun k => { k with running := true, rebase := true, k := 0, kStep := 0 })
  let s6 := s5.boundary ⟨1, 0, none⟩ 0 false s5.tw.peerAct
  (s6.onSup (fun x => { x with bootSafe := none })).restartGroup 0

/-- Steps 2 to 6 of glost. (DEDUCED, notes/assumptions/52.md) -/
def State.glostImages (s : State) (base : Nat) (selfTest : Option Byte) : State :=
  let (s1, code, kw) := s.checkEntry base 1 0
  if code ≠ 0 then s1.bootFail 2 code
  else
    let s2 := ((s1.extendMeas 1 (imageDigest kw)).put SG_EPOCH_MAX_EPOCH (field kw 16 2)).onSag
      (fun x => { x with kwVersion := field kw 8 4, kwSvn := field kw 12 4 })
    let s3 := s2.loadImages base
    match selfTest with
    | some n => (s3.raise F_SG_SELFTEST n.toNat).bootFail 2 0
    | none =>
      let s4 := s3.selfTests
      let s5 := s4.drainFaults s4.fcuIn.length
      if s5.mode ≠ modeGlost then s5 else s5.startFirings kw

/-- `GLOST` (R411), after bisque has jumped to it.
(DEDUCED, notes/assumptions/52.md; DEDUCED, notes/assumptions/110.md) -/
def execGlost (r : GlostRun) (s : State) : Host.Outcome State Fault Refusal :=
  .next (if s.mode ≠ modeGlost ∨ s.sag.halted then s
  else if !r.hbmOk then (s.raise F_DM_INIT 0).bootFail 2 0
  else
    let base := s.activeBase
    let s1 := (s.putFlag DM_STAT_READY true).checkKeys base
    if !s1.sag.usable.contains 1 ∧ s1.lifecycle ≠ lcBlank then s1.bootFail 2 0
    else s1.glostImages base r.selfTest)

end Sys2Proof.Machine
end

