-- ==== Sys2Proof/Machine/Dispatch.lean ====
section
/-! DEFINITION. What each command does: one arm per constructor, one direct call of its meaning. -/

namespace Sys2Proof.Machine

/-- The effect of a command on everything but the queue. -/
def exec (i : Instr) (s : State) : Host.Outcome State Fault Refusal :=
  match i with
  | .powerOnReset aonLost => Sys2Proof.Machine.execPowerOnReset aonLost s
  | .rstNAssert => Sys2Proof.Machine.execRstNAssert s
  | .perstNAssert => Sys2Proof.Machine.execPerstNAssert s
  | .bisque r => Sys2Proof.Machine.execBisque r s
  | .glost r => Sys2Proof.Machine.execGlost r s
  | .glostTimeout => Sys2Proof.Machine.execGlostTimeout s
  | .pwrWarn rail => Sys2Proof.Machine.execPwrWarn rail s
  | .pwrRail rail => Sys2Proof.Machine.execPwrRail rail s
  | .clkLinkLoss => Sys2Proof.Machine.execClkLinkLoss s
  | .clkPcieLoss => Sys2Proof.Machine.execClkPcieLoss s
  | .clkSysLoss => Sys2Proof.Machine.execClkSysLoss s
  | .tjHigh t => Sys2Proof.Machine.execTjHigh t s
  | .encoderEdge n e => Sys2Proof.Machine.execEncoderEdge n e s
  | .encOverrateEnd n => Sys2Proof.Machine.execEncOverrateEnd n s
  | .encIndexEdge n rising => Sys2Proof.Machine.execEncIndexEdge n rising s
  | .encSignalLoss n a b => Sys2Proof.Machine.execEncSignalLoss n a b s
  | .encZLoss n => Sys2Proof.Machine.execEncZLoss n s
  | .encLossClear n m v ok => Sys2Proof.Machine.execEncLossClear n m v ok s
  | .domStoppedSet d => Sys2Proof.Machine.execDomStoppedSet d s
  | .fireInEdge rising => Sys2Proof.Machine.execFireInEdge rising s
  | .firingBoundary cw peer => Sys2Proof.Machine.execFiringBoundary cw peer s
  | .firingOverspeed => Sys2Proof.Machine.execFiringOverspeed s
  | .tbSrcLost => Sys2Proof.Machine.execTbSrcLost s
  | .sealPoint => Sys2Proof.Machine.execSealPoint s
  | .domPresetGo d m => Sys2Proof.Machine.execDomPresetGo d m s
  | .domCvtT2p d m => Sys2Proof.Machine.execDomCvtT2p d m s
  | .domCvtP2t d m => Sys2Proof.Machine.execDomCvtP2t d m s
  | .domCvtComplete d m => Sys2Proof.Machine.execDomCvtComplete d m s
  | .laneSignalDetect n => Sys2Proof.Machine.execLaneSignalDetect n s
  | .pam4TrainTimeout n => Sys2Proof.Machine.execPam4TrainTimeout n s
  | .codewordLock n => Sys2Proof.Machine.execCodewordLock n s
  | .codewordLockLoss n optical => Sys2Proof.Machine.execCodewordLockLoss n optical s
  | .codewordReceive n fec cw => Sys2Proof.Machine.execCodewordReceive n fec cw s
  | .verSend n => Sys2Proof.Machine.execVerSend n s
  | .verReceive n => Sys2Proof.Machine.execVerReceive n s
  | .negotiateTimeout n => Sys2Proof.Machine.execNegotiateTimeout n s
  | .syncSend n frac => Sys2Proof.Machine.execSyncSend n frac s
  | .syncResponseReceive n frac => Sys2Proof.Machine.execSyncResponseReceive n frac s
  | .syncResponseMissing n => Sys2Proof.Machine.execSyncResponseMissing n s
  | .calibrateTimeout n => Sys2Proof.Machine.execCalibrateTimeout n s
  | .challengeResponseReceive n => Sys2Proof.Machine.execChallengeResponseReceive n s
  | .challengeCheckDone n => Sys2Proof.Machine.execChallengeCheckDone n s
  | .hlAdmit n m => Sys2Proof.Machine.execHlAdmit n m s
  | .hlDetach n m => Sys2Proof.Machine.execHlDetach n m s
  | .hlRetrain n m => Sys2Proof.Machine.execHlRetrain n m s
  | .hlCmbRead n m => Sys2Proof.Machine.execHlCmbRead n m s
  | .hlCmbWrite n m => Sys2Proof.Machine.execHlCmbWrite n m s
  | .hlCmbReset n m => Sys2Proof.Machine.execHlCmbReset n m s
  | .hlCmbSetPort n m => Sys2Proof.Machine.execHlCmbSetPort n m s
  | .ctrlResponseReceive n => Sys2Proof.Machine.execCtrlResponseReceive n s
  | .ctrlResponseTimeout n => Sys2Proof.Machine.execCtrlResponseTimeout n s
  | .featReceive n => Sys2Proof.Machine.execFeatReceive n s
  | .cropReceive n => Sys2Proof.Machine.execCropReceive n s
  | .cropTimeout n slot => Sys2Proof.Machine.execCropTimeout n slot s
  | .statReceive n => Sys2Proof.Machine.execStatReceive n s
  | .hbReceive n => Sys2Proof.Machine.execHbReceive n s
  | .hbSend n => Sys2Proof.Machine.execHbSend n s
  | .hbTimeout n => Sys2Proof.Machine.execHbTimeout n s
  | .captureMiss n => Sys2Proof.Machine.execCaptureMiss n s
  | .credSend n => Sys2Proof.Machine.execCredSend n s
  | .teStageRecord => Sys2Proof.Machine.execTeStageRecord s
  | .teApplyBatch => Sys2Proof.Machine.execTeApplyBatch s
  | .teDecWrite m v => Sys2Proof.Machine.execTeDecWrite m v s
  | .teDecisionTimeout id => Sys2Proof.Machine.execTeDecisionTimeout id s
  | .veJobEnd t => Sys2Proof.Machine.execVeJobEnd t s
  | .veOverrun t => Sys2Proof.Machine.execVeOverrun t s
  | .veTileFault t => Sys2Proof.Machine.execVeTileFault t s
  | .veSqTailWrite g m v => Sys2Proof.Machine.execVeSqTailWrite g m v s
  | .veCancelGo g m v => Sys2Proof.Machine.execVeCancelGo g m v s
  | .veKloadGo m => Sys2Proof.Machine.execVeKloadGo m s
  | .veKloadUnload m v => Sys2Proof.Machine.execVeKloadUnload m v s
  | .veKloadDone => Sys2Proof.Machine.execVeKloadDone s
  | .vtReturn t m => Sys2Proof.Machine.execVtReturn t m s
  | .vtSelfTestDone t pass => Sys2Proof.Machine.execVtSelfTestDone t pass s
  | .ewInsert g m v => Sys2Proof.Machine.execEwInsert g m v s
  | .ewCancelHandle g m v => Sys2Proof.Machine.execEwCancelHandle g m v s
  | .ewMaskCancel g m => Sys2Proof.Machine.execEwMaskCancel g m s
  | .ewMaskCancelDone g => Sys2Proof.Machine.execEwMaskCancelDone g s
  | .nearSetLoad d slot => Sys2Proof.Machine.execNearSetLoad d slot s
  | .lateEventAct d slot => Sys2Proof.Machine.execLateEventAct d slot s
  | .timePulseEnd n => Sys2Proof.Machine.execTimePulseEnd n s
  | .peoPulseMax n => Sys2Proof.Machine.execPeoPulseMax n s
  | .offPulseTest n => Sys2Proof.Machine.execOffPulseTest n s
  | .offPulseTestEnd n a b => Sys2Proof.Machine.execOffPulseTestEnd n a b s
  | .readbackMismatch n a b => Sys2Proof.Machine.execReadbackMismatch n a b s
  | .safeStopFb k level => Sys2Proof.Machine.execSafeStopFb k level s
  | .ewRelease g m => Sys2Proof.Machine.execEwRelease g m s
  | .lockstepCompare g a b c => Sys2Proof.Machine.execLockstepCompare g a b c s
  | .readmissionComplete g r => Sys2Proof.Machine.execReadmissionComplete g r s
  | .comparatorSelfTest g fail => Sys2Proof.Machine.execComparatorSelfTest g fail s
  | .lsCfgWrite g m v => Sys2Proof.Machine.execLsCfgWrite g m v s
  | .lsRestart g m => Sys2Proof.Machine.execLsRestart g m s
  | .lsStop g m => Sys2Proof.Machine.execLsStop g m s
  | .lsInject g m v => Sys2Proof.Machine.execLsInject g m v s
  | .lsUnretire g m v => Sys2Proof.Machine.execLsUnretire g m v s
  | .lsPowerOff g m => Sys2Proof.Machine.execLsPowerOff g m s
  | .lsPowerOn g m => Sys2Proof.Machine.execLsPowerOn g m s
  | .lsPowerGood g => Sys2Proof.Machine.execLsPowerGood g s
  | .lsPwrFail g => Sys2Proof.Machine.execLsPwrFail g s
  | .debugHaltTaken g => Sys2Proof.Machine.execDebugHaltTaken g s
  | .loadDataReturn g => Sys2Proof.Machine.execLoadDataReturn g s
  | .fetchFillReturn g addr => Sys2Proof.Machine.execFetchFillReturn g addr s
  | .storeErrorReturn g => Sys2Proof.Machine.execStoreErrorReturn g s
  | .exceptionEntry g c faddr => Sys2Proof.Machine.execExceptionEntry g c faddr s
  | .interruptEntry g kept => Sys2Proof.Machine.execInterruptEntry g kept s
  | .lateArrival g => Sys2Proof.Machine.execLateArrival g s
  | .srcEdgeEvent => Sys2Proof.Machine.execSrcEdgeEvent s
  | .srcLevelChange src => Sys2Proof.Machine.execSrcLevelChange src s
  | .interruptPresent g => Sys2Proof.Machine.execInterruptPresent g s
  | .waitWake g => Sys2Proof.Machine.execWaitWake g s
  | .srcSetp src m => Sys2Proof.Machine.execSrcSetp src m s
  | .srcClrp src m => Sys2Proof.Machine.execSrcClrp src m s
  | .icEoi g m v => Sys2Proof.Machine.execIcEoi g m v s
  | .scrubRead ix => Sys2Proof.Machine.execScrubRead ix s
  | .scrubWriteBack ix => Sys2Proof.Machine.execScrubWriteBack ix s
  | .scrubStall ix => Sys2Proof.Machine.execScrubStall ix s
  | .spRawRead m => Sys2Proof.Machine.execSpRawRead m s
  | .spRawWrite m => Sys2Proof.Machine.execSpRawWrite m s
  | .spRawDone => Sys2Proof.Machine.execSpRawDone s
  | .mpuCfgErr g r => Sys2Proof.Machine.execMpuCfgErr g r s
  | .fwCfgErr => Sys2Proof.Machine.execFwCfgErr s
  | .faultOccurrence => Sys2Proof.Machine.execFaultOccurrence s
  | .fcuLogDrain => Sys2Proof.Machine.execFcuLogDrain s
  | .fcuInject m v => Sys2Proof.Machine.execFcuInject m v s
  | .fltCfgWrite ix m v => Sys2Proof.Machine.execFltCfgWrite ix m v s
  | .fltPendClear ix m => Sys2Proof.Machine.execFltPendClear ix m s
  | .fcuSelf why => Sys2Proof.Machine.execFcuSelf why s
  | .sscDisagree => Sys2Proof.Machine.execSscDisagree s
  | .sscPeriodicTest x y => Sys2Proof.Machine.execSscPeriodicTest x y s
  | .sscIntrusiveTest m => Sys2Proof.Machine.execSscIntrusiveTest m s
  | .sscIntrusiveTestEnd badX badY => Sys2Proof.Machine.execSscIntrusiveTestEnd badX badY s
  | .wdKeyWrite g m v => Sys2Proof.Machine.execWdKeyWrite g m v s
  | .wdKey1Lapse g => Sys2Proof.Machine.execWdKey1Lapse g s
  | .wdWarn g => Sys2Proof.Machine.execWdWarn g s
  | .wdExpire g => Sys2Proof.Machine.execWdExpire g s
  | .wdFreezeCap g => Sys2Proof.Machine.execWdFreezeCap g s
  | .wdTimebase ticks => Sys2Proof.Machine.execWdTimebase ticks s
  | .cmBend g m v => Sys2Proof.Machine.execCmBend g m v s
  | .cmStart g m => Sys2Proof.Machine.execCmStart g m s
  | .retClear m => Sys2Proof.Machine.execRetClear m s
  | .hostSqDoorbell q f v => Sys2Proof.Machine.execHostSqDoorbell q f v s
  | .hostCqDoorbell q f v => Sys2Proof.Machine.execHostCqDoorbell q f v s
  | .hostPacketFetch q p => Sys2Proof.Machine.execHostPacketFetch q p s
  | .hostCompletionWrite q => Sys2Proof.Machine.execHostCompletionWrite q s
  | .msixMessage f vec => Sys2Proof.Machine.execMsixMessage f vec s
  | .chainTimeout q => Sys2Proof.Machine.execChainTimeout q s
  | .authCheckDone => Sys2Proof.Machine.execAuthCheckDone s
  | .hqEnable q w => Sys2Proof.Machine.execHqEnable q w s
  | .hqDelete q w => Sys2Proof.Machine.execHqDelete q w s
  | .hostHeartbeat m => Sys2Proof.Machine.execHostHeartbeat m s
  | .hiHostLost => Sys2Proof.Machine.execHiHostLost s
  | .mirrorWrite f off v => Sys2Proof.Machine.execMirrorWrite f off v s
  | .bar2Write off data => Sys2Proof.Machine.execBar2Write off data s
  | .hiLinkDown => Sys2Proof.Machine.execHiLinkDown s
  | .hiFlr f => Sys2Proof.Machine.execHiFlr f s
  | .busMasterDisable f b => Sys2Proof.Machine.execBusMasterDisable f b s
  | .d3hotEntry f => Sys2Proof.Machine.execD3hotEntry f s
  | .d0Return f => Sys2Proof.Machine.execD0Return f s
  | .hiPcieUncorr bit => Sys2Proof.Machine.execHiPcieUncorr bit s
  | .nop q => Sys2Proof.Machine.execNop q s
  | .identify q => Sys2Proof.Machine.execIdentify q s
  | .getStatus q => Sys2Proof.Machine.execGetStatus q s
  | .readLog q => Sys2Proof.Machine.execReadLog q s
  | .writeReg q => Sys2Proof.Machine.execWriteReg q s
  | .modeReq q => Sys2Proof.Machine.execModeReq q s
  | .warmRestart q => Sys2Proof.Machine.execWarmRestart q s
  | .epochAdvance q => Sys2Proof.Machine.execEpochAdvance q s
  | .twinRelinquish q => Sys2Proof.Machine.execTwinRelinquish q s
  | .eventInsert q => Sys2Proof.Machine.execEventInsert q s
  | .eventCancel q => Sys2Proof.Machine.execEventCancel q s
  | .headCtrl q => Sys2Proof.Machine.execHeadCtrl q s
  | .appCtrl q => Sys2Proof.Machine.execAppCtrl q s
  | .appLoad q => Sys2Proof.Machine.execAppLoad q s
  | .kernelLoad q => Sys2Proof.Machine.execKernelLoad q s
  | .veCancel q => Sys2Proof.Machine.execVeCancel q s
  | .trackDecide q => Sys2Proof.Machine.execTrackDecide q s
  | .coilMark q => Sys2Proof.Machine.execCoilMark q s
  | .archRead q bad => Sys2Proof.Machine.execArchRead q bad s
  | .archInfo q => Sys2Proof.Machine.execArchInfo q s
  | .flashProgram q => Sys2Proof.Machine.execFlashProgram q s
  | .authRef q => Sys2Proof.Machine.execAuthRef q s
  | .attest q => Sys2Proof.Machine.execAttest q s
  | .attestSignDone done => Sys2Proof.Machine.execAttestSignDone done s
  | .archiveDurable => Sys2Proof.Machine.execArchiveDurable s
  | .arThermalChange t => Sys2Proof.Machine.execArThermalChange t s
  | .pwrfailFall => Sys2Proof.Machine.execPwrfailFall s
  | .pfSealDone => Sys2Proof.Machine.execPfSealDone s
  | .pwrfailRearm => Sys2Proof.Machine.execPwrfailRearm s
  | .dmScrubRead loss => Sys2Proof.Machine.execDmScrubRead loss s
  | .dmTemp t => Sys2Proof.Machine.execDmTemp t s
  | .cfErase m => Sys2Proof.Machine.execCfErase m s
  | .cfProgram m => Sys2Proof.Machine.execCfProgram m s
  | .cfOpComplete ok => Sys2Proof.Machine.execCfOpComplete ok s
  | .sgLcAdvance m v => Sys2Proof.Machine.execSgLcAdvance m v s
  | .sgSvnCommit m v => Sys2Proof.Machine.execSgSvnCommit m v s
  | .sgFuseProgram m => Sys2Proof.Machine.execSgFuseProgram m s
  | .fuseProgramDone ok => Sys2Proof.Machine.execFuseProgramDone ok s
  | .sgPufEnroll m => Sys2Proof.Machine.execSgPufEnroll m s
  | .pufEnrollDone => Sys2Proof.Machine.execPufEnrollDone s
  | .sgVerCheck m => Sys2Proof.Machine.execSgVerCheck m s
  | .sgVerDone => Sys2Proof.Machine.execSgVerDone s
  | .sgDbgGo m v => Sys2Proof.Machine.execSgDbgGo m v s
  | .dbgAuthDone => Sys2Proof.Machine.execDbgAuthDone s
  | .sgDbgEnd m => Sys2Proof.Machine.execSgDbgEnd m s
  | .tamperSwitch n => Sys2Proof.Machine.execTamperSwitch n s
  | .tamperMeshFail p => Sys2Proof.Machine.execTamperMeshFail p s
  | .packageMeshTrip => Sys2Proof.Machine.execPackageMeshTrip s
  | .lightSensorTrip => Sys2Proof.Machine.execLightSensorTrip s
  | .supplyMonitorTrip => Sys2Proof.Machine.execSupplyMonitorTrip s
  | .clockMonitorTrip => Sys2Proof.Machine.execClockMonitorTrip s
  | .temperatureTrip t => Sys2Proof.Machine.execTemperatureTrip t s
  | .jtagExtest => Sys2Proof.Machine.execJtagExtest s
  | .jtagClamp => Sys2Proof.Machine.execJtagClamp s
  | .dbgHalt m => Sys2Proof.Machine.execDbgHalt m s
  | .dbgResume m => Sys2Proof.Machine.execDbgResume m s
  | .dbgStep m => Sys2Proof.Machine.execDbgStep m s
  | .dbgRegAccess m v db dc => Sys2Proof.Machine.execDbgRegAccess m v db dc s
  | .dbgMemGo m v => Sys2Proof.Machine.execDbgMemGo m v s
  | .pmCtrlWarm m => Sys2Proof.Machine.execPmCtrlWarm m s
  | .pmCtrlWarmActivate m => Sys2Proof.Machine.execPmCtrlWarmActivate m s
  | .twFireReceive n => Sys2Proof.Machine.execTwFireReceive n s
  | .twFireLost => Sys2Proof.Machine.execTwFireLost s
  | .twPlaceReceive n => Sys2Proof.Machine.execTwPlaceReceive n s
  | .twPlaceLate => Sys2Proof.Machine.execTwPlaceLate s
  | .twCmdReceive n => Sys2Proof.Machine.execTwCmdReceive n s
  | .twDigestFinalise => Sys2Proof.Machine.execTwDigestFinalise s
  | .twDigestReceive n => Sys2Proof.Machine.execTwDigestReceive n s
  | .twDigestMissing => Sys2Proof.Machine.execTwDigestMissing s
  | .twHello n leader primary => Sys2Proof.Machine.execTwHello n leader primary s
  | .twJoinAck n => Sys2Proof.Machine.execTwJoinAck n s
  | .twXferReceive n => Sys2Proof.Machine.execTwXferReceive n s
  | .twXferDone n mode => Sys2Proof.Machine.execTwXferDone n mode s
  | .twRelinquish n => Sys2Proof.Machine.execTwRelinquish n s
  | .twCmdAck n => Sys2Proof.Machine.execTwCmdAck n s
  | .twLeave n => Sys2Proof.Machine.execTwLeave n s
  | .twJoinFail why => Sys2Proof.Machine.execTwJoinFail why s
  | .twJoinRetry => Sys2Proof.Machine.execTwJoinRetry s
  | .registerWrite off m v => Sys2Proof.Machine.execRegisterWrite off m v s
  | .add g rd ra rb => Sys2Proof.Machine.execAdd g rd ra rb s
  | .sub g rd ra rb => Sys2Proof.Machine.execSub g rd ra rb s
  | .and g rd ra rb => Sys2Proof.Machine.execAnd g rd ra rb s
  | .or g rd ra rb => Sys2Proof.Machine.execOr g rd ra rb s
  | .xor g rd ra rb => Sys2Proof.Machine.execXor g rd ra rb s
  | .nor g rd ra rb => Sys2Proof.Machine.execNor g rd ra rb s
  | .slt g rd ra rb => Sys2Proof.Machine.execSlt g rd ra rb s
  | .sltu g rd ra rb => Sys2Proof.Machine.execSltu g rd ra rb s
  | .sll g rd ra rb => Sys2Proof.Machine.execSll g rd ra rb s
  | .srl g rd ra rb => Sys2Proof.Machine.execSrl g rd ra rb s
  | .sra g rd ra rb => Sys2Proof.Machine.execSra g rd ra rb s
  | .slli g rd ra sh => Sys2Proof.Machine.execSlli g rd ra sh s
  | .srli g rd ra sh => Sys2Proof.Machine.execSrli g rd ra sh s
  | .srai g rd ra sh => Sys2Proof.Machine.execSrai g rd ra sh s
  | .min g rd ra rb => Sys2Proof.Machine.execMin g rd ra rb s
  | .max g rd ra rb => Sys2Proof.Machine.execMax g rd ra rb s
  | .minu g rd ra rb => Sys2Proof.Machine.execMinu g rd ra rb s
  | .maxu g rd ra rb => Sys2Proof.Machine.execMaxu g rd ra rb s
  | .adds g rd ra rb => Sys2Proof.Machine.execAdds g rd ra rb s
  | .subs g rd ra rb => Sys2Proof.Machine.execSubs g rd ra rb s
  | .extu g rd ra w sh => Sys2Proof.Machine.execExtu g rd ra w sh s
  | .exts g rd ra w sh => Sys2Proof.Machine.execExts g rd ra w sh s
  | .ins g rd ra w sh => Sys2Proof.Machine.execIns g rd ra w sh s
  | .clz g rd ra => Sys2Proof.Machine.execClz g rd ra s
  | .ctz g rd ra => Sys2Proof.Machine.execCtz g rd ra s
  | .popc g rd ra => Sys2Proof.Machine.execPopc g rd ra s
  | .bswap g rd ra => Sys2Proof.Machine.execBswap g rd ra s
  | .addi g rd ra imm => Sys2Proof.Machine.execAddi g rd ra imm s
  | .slti g rd ra imm => Sys2Proof.Machine.execSlti g rd ra imm s
  | .sltiu g rd ra imm => Sys2Proof.Machine.execSltiu g rd ra imm s
  | .andi g rd ra imm => Sys2Proof.Machine.execAndi g rd ra imm s
  | .ori g rd ra imm => Sys2Proof.Machine.execOri g rd ra imm s
  | .xori g rd ra imm => Sys2Proof.Machine.execXori g rd ra imm s
  | .lui g rd imm => Sys2Proof.Machine.execLui g rd imm s
  | .mul g rd ra rb => Sys2Proof.Machine.execMul g rd ra rb s
  | .mulh g rd ra rb => Sys2Proof.Machine.execMulh g rd ra rb s
  | .mulhu g rd ra rb => Sys2Proof.Machine.execMulhu g rd ra rb s
  | .mulhsu g rd ra rb => Sys2Proof.Machine.execMulhsu g rd ra rb s
  | .mulq g rd ra rb => Sys2Proof.Machine.execMulq g rd ra rb s
  | .macq g rd ra rb => Sys2Proof.Machine.execMacq g rd ra rb s
  | .div g rd ra rb => Sys2Proof.Machine.execDiv g rd ra rb s
  | .divu g rd ra rb => Sys2Proof.Machine.execDivu g rd ra rb s
  | .rem g rd ra rb => Sys2Proof.Machine.execRem g rd ra rb s
  | .remu g rd ra rb => Sys2Proof.Machine.execRemu g rd ra rb s
  | .aswap g rd ra rb => Sys2Proof.Machine.execAswap g rd ra rb s
  | .aadd g rd ra rb => Sys2Proof.Machine.execAadd g rd ra rb s
  | .aand g rd ra rb => Sys2Proof.Machine.execAand g rd ra rb s
  | .aor g rd ra rb => Sys2Proof.Machine.execAor g rd ra rb s
  | .axor g rd ra rb => Sys2Proof.Machine.execAxor g rd ra rb s
  | .amin g rd ra rb => Sys2Proof.Machine.execAmin g rd ra rb s
  | .amax g rd ra rb => Sys2Proof.Machine.execAmax g rd ra rb s
  | .aminu g rd ra rb => Sys2Proof.Machine.execAminu g rd ra rb s
  | .amaxu g rd ra rb => Sys2Proof.Machine.execAmaxu g rd ra rb s
  | .acas g rd ra rb => Sys2Proof.Machine.execAcas g rd ra rb s
  | .ldb g rd ra imm => Sys2Proof.Machine.execLdb g rd ra imm s
  | .ldh g rd ra imm => Sys2Proof.Machine.execLdh g rd ra imm s
  | .ldw g rd ra imm => Sys2Proof.Machine.execLdw g rd ra imm s
  | .ldd g rd ra imm => Sys2Proof.Machine.execLdd g rd ra imm s
  | .ldbu g rd ra imm => Sys2Proof.Machine.execLdbu g rd ra imm s
  | .ldhu g rd ra imm => Sys2Proof.Machine.execLdhu g rd ra imm s
  | .stb g rs ra imm => Sys2Proof.Machine.execStb g rs ra imm s
  | .sth g rs ra imm => Sys2Proof.Machine.execSth g rs ra imm s
  | .stw g rs ra imm => Sys2Proof.Machine.execStw g rs ra imm s
  | .std g rs ra imm => Sys2Proof.Machine.execStd g rs ra imm s
  | .beq g an ra rb off => Sys2Proof.Machine.execBeq g an ra rb off s
  | .bne g an ra rb off => Sys2Proof.Machine.execBne g an ra rb off s
  | .blt g an ra rb off => Sys2Proof.Machine.execBlt g an ra rb off s
  | .bge g an ra rb off => Sys2Proof.Machine.execBge g an ra rb off s
  | .bltu g an ra rb off => Sys2Proof.Machine.execBltu g an ra rb off s
  | .bgeu g an ra rb off => Sys2Proof.Machine.execBgeu g an ra rb off s
  | .j g off => Sys2Proof.Machine.execJ g off s
  | .jal g off => Sys2Proof.Machine.execJal g off s
  | .jalr g rd ra off => Sys2Proof.Machine.execJalr g rd ra off s
  | .loop g c end_ => Sys2Proof.Machine.execLoop g c end_ s
  | .mfs g rd sr => Sys2Proof.Machine.execMfs g rd sr s
  | .mts g sr ra => Sys2Proof.Machine.execMts g sr ra s
  | .wait g => Sys2Proof.Machine.execWait g s
  | .trap g n => Sys2Proof.Machine.execTrap g n s
  | .rfe g => Sys2Proof.Machine.execRfe g s
  | .iflush g => Sys2Proof.Machine.execIflush g s
  | .pflush g => Sys2Proof.Machine.execPflush g s
  | .pbar g => Sys2Proof.Machine.execPbar g s
  | .fence g => Sys2Proof.Machine.execFence g s
  | .linkUp => Sys2Proof.Machine.execLinkUp s
  | .linkPowerStateChange lpm => Sys2Proof.Machine.execLinkPowerStateChange lpm s
  | .msixVectorUnmask f vec => Sys2Proof.Machine.execMsixVectorUnmask f vec s
  | .busMasterEnable f b => Sys2Proof.Machine.execBusMasterEnable f b s
  | .imageCheckDone => Sys2Proof.Machine.execImageCheckDone s
  | .twXferSend => Sys2Proof.Machine.execTwXferSend s
  | .pwrfailReturnHigh => Sys2Proof.Machine.execPwrfailReturnHigh s

end Sys2Proof.Machine
end

