-- ==== Sys2Proof/Machine/Tick.lean ====
section
/-! DEFINITION. One tick of the kiln clock, and what happens in it without a command: the timebase, the watchdogs' counts, the
windows of measurements, and host work that waits (R6, R7, R20, R309, R338, R343). -/

namespace Sys2Proof.Machine

/-- A tick of SOSC in a group's watchdog (R338, R343): a count at its period waits for its expiry.
(DEDUCED, notes/assumptions/86.md) -/
def State.wdTick (s : State) (g : Group) : State :=
  let s1 := s.when (s.eraseRuns g && decide (s.get (WD_FRZ_US g) < 500000)) (fun s => s.put (WD_FRZ_US g) (s.get (WD_FRZ_US g) + 1))
  if s.wdFrozen g ∨ s.get (WD_PERIOD_US g) ≤ s.get (WD_COUNT_US g) then s1
  else s1.put (WD_COUNT_US g) (s.get (WD_COUNT_US g) + 1)

/-- The counts of corrected errors begun afresh with a second of SOSC time (R309, R385).
(DEDUCED, notes/assumptions/89.md) -/
def State.scrubSecond (s : State) : State :=
  let scrub := (s.prot.scrub.map (fun x => (x.1, { x.2 with corrected := 0, rated := false }))).filter (fun x => decide (x.2 ≠ ({} : Scrubber)))
  s.onProt (fun x => { x with scrub := scrub, hbmScrub := { s.prot.hbmScrub with corrected := 0, rated := false } })

/-- One tick of SOSC, of 1 µs nominally (R6). -/
def State.soscTick (s : State) : State :=
  let s1 := ({ s with sosc := s.sosc + 1 } : State).each ((allFin 8).filter (fun (g : Group) => s.hasGroup g)) State.wdTick
  s1.when (s1.sosc % 1000000 == 0) State.scrubSecond

/-- SOSC against KCLK (R6): 1,250 KCLK a tick at the nominal rate, within ±5 % of it.
(DESIGN CHOICE, notes/assumptions/2.md) -/
def State.runSosc (s : State) : State :=
  let (k, s1) := s.draw
  let part := s1.soscPart + 950 + Config.soscRate k % 101
  if part < 1250000 then { s1 with soscPart := part }
  else ({ s1 with soscPart := part - 1250000 } : State).soscTick

/-- `ENC_RATE`: the edges of the last whole 1 ms. (DEDUCED, notes/assumptions/89.md) -/
def State.latchRates (s : State) : State :=
  if s.tt % msKclk ≠ 0 then s
  else s.each (allFin 8) (fun s n => (s.put (ENC_RATE_EDGES n) (s.kiln.enc.get n).edges).onEnc n (fun e => { e with edges := 0 }))

/-- Host work that Kilnware goes on with of itself: chains in staging, a FLASH_PROGRAM whose operation has been
abandoned, and packets whose opcode no row lists (R362, R364, R389). -/
def State.hostWork (s : State) : State :=
  if !s.kilnware then s
  else s.stageOn.flashStep.each (s.host.queues.map (fun x => x.1)) (fun s q =>
    if s.takesPackets q then s.skipUnknown (s.hq q).inbox.length q else s)

/-- One KCLK. While RST_N is low the device stands in reset. (DESIGN CHOICE, notes/assumptions/1.md) -/
def State.tick (s : State) : State :=
  if s.sag.rstNLow then s
  else ((({ s with tt := s.tt + 1 } : State).runSosc.latchRates).transmit.twinFlush.hostWork).heldReset.dueRestart

end Sys2Proof.Machine
end

