-- ==== Sys2Proof/Safety.lean ====
section
/-! DEFINITION. What counts as a safe run: the outputs are as the mode and the SSC latches ask for (R169, R174, R335, R434), memory and
the register file keep their canonical form, and no step stops. -/

namespace Sys2Proof.Machine

/-- Both pins of a channel stand at its safe level (R167, R335). -/
abbrev State.chanSafe (s : State) (n : Chan) : Prop :=
  s.flag (PEO_STAT_DRV_A n) = s.safeVal n ∧ s.flag (PEO_STAT_DRV_B n) = (s.safeVal n != s.flag (PEO_CFG_B_ANTI n))

/-- Every output is safe: each channel at its safe level, and both SAFE_STOP pins low (R329, R335). -/
abbrev State.outputsSafe (s : State) : Prop :=
  (∀ n : Chan, s.chanSafe n) ∧ s.flag EW_SSTOP_STAT_DRV0 = false ∧ s.flag EW_SSTOP_STAT_DRV1 = false

/-! ### Register writes that stand as commands -/

/-- A master's write of a register arrives there: no locked region denies it, and the part has the instance (R4, R316,
R320). -/
def State.reaches (s : State) (m : Master) (off : Nat) : Bool :=
  !s.lockDenies m (0x40000000 + off) && !absentAt s.part off

/-- What a register write leaves that its master may not make: the denial recorded, and at a group the store's error
status on its way (R265, R482). -/
def State.refusedBy (s : State) (m : Master) (off : Nat) : State :=
  (s.refuseAccess m off true).storeError m off

/-- What a register write leaves that a locked region denies (R316, R320). -/
def State.deniedBy (s : State) (m : Master) (off : Nat) : State :=
  (s.recordDenial m (0x40000000 + off) true true 0).storeError m off

/-! ### What an instruction leaves -/

/-- The group whose program an instruction command belongs to; none for every other command (R242 to R256). -/
def groupOf (i : Instr) : Option Group :=
  match i with
  | .add g _ _ _ | .sub g _ _ _ | .and g _ _ _ | .or g _ _ _ | .xor g _ _ _ | .nor g _ _ _ | .slt g _ _ _
  | .sltu g _ _ _ | .sll g _ _ _ | .srl g _ _ _ | .sra g _ _ _ | .slli g _ _ _ | .srli g _ _ _ | .srai g _ _ _
  | .min g _ _ _ | .max g _ _ _ | .minu g _ _ _ | .maxu g _ _ _ | .adds g _ _ _ | .subs g _ _ _ | .extu g _ _ _ _
  | .exts g _ _ _ _ | .ins g _ _ _ _ | .clz g _ _ | .ctz g _ _ | .popc g _ _ | .bswap g _ _ | .addi g _ _ _
  | .slti g _ _ _ | .sltiu g _ _ _ | .andi g _ _ _ | .ori g _ _ _ | .xori g _ _ _ | .lui g _ _ | .mul g _ _ _
  | .mulh g _ _ _ | .mulhu g _ _ _ | .mulhsu g _ _ _ | .mulq g _ _ _ | .macq g _ _ _ | .div g _ _ _ | .divu g _ _ _
  | .rem g _ _ _ | .remu g _ _ _ | .aswap g _ _ _ | .aadd g _ _ _ | .aand g _ _ _ | .aor g _ _ _ | .axor g _ _ _
  | .amin g _ _ _ | .amax g _ _ _ | .aminu g _ _ _ | .amaxu g _ _ _ | .acas g _ _ _ | .ldb g _ _ _ | .ldh g _ _ _
  | .ldw g _ _ _ | .ldd g _ _ _ | .ldbu g _ _ _ | .ldhu g _ _ _ | .stb g _ _ _ | .sth g _ _ _ | .stw g _ _ _
  | .std g _ _ _ | .beq g _ _ _ _ | .bne g _ _ _ _ | .blt g _ _ _ _ | .bge g _ _ _ _ | .bltu g _ _ _ _
  | .bgeu g _ _ _ _ | .j g _ | .jal g _ | .jalr g _ _ _ | .loop g _ _ | .mfs g _ _ | .mts g _ _ | .wait g | .trap g _
  | .rfe g | .iflush g | .pflush g | .pbar g | .fence g => some g
  | _ => none

/-- A group runs, with no returned store error to take first and no injection pending, and fetches its next instruction
without a fault; `u` is the state that the fetch leaves (R202, R213, R266). -/
def State.fetches (s u : State) (g : Group) : Bool :=
  s.groupRuns g && (s.core g).due.isEmpty && (s.core g).inject.isNone && !s.fetchWaits g && s.fetchFault g == (u, none)
    && u.groupRuns g

/-- The next instruction is neither in an annulled delay slot nor in one that is a loop's end (R250, R255). -/
def Core.acts (c : Core) : Bool :=
  !c.delay.any (fun d => d.annul) && !(c.delay.isSome && c.pc == c.le && c.lc != 0)

/-- The next instruction follows no branch and, where it is a branch, ends no loop (R252, R255). -/
def Core.mayBranch (c : Core) : Bool :=
  c.delay.isNone && !(c.pc == c.le && c.lc != 0)

/-- Where an instruction in sequence goes on: through its delay slot's branch, back to LS at LE, or at the next word
(R250, R254). -/
def Core.seqPc (c : Core) : Word :=
  match c.delay with
  | some d => d.next
  | none => if c.pc = c.le ∧ c.lc ≠ 0 then (if c.lc = 1 then c.le + 4 else c.ls) else c.pc + 4

/-- LC after an instruction in sequence (R254). -/
def Core.seqLc (c : Core) : Word :=
  if c.delay.isNone ∧ c.pc = c.le ∧ c.lc ≠ 0 then c.lc - 1 else c.lc

/-- Nothing but the group's registers, its counters and the distributor has changed: memory, time, the stage, the links,
the engines, the wheel and the outputs, and every other group's registers are as before. -/
abbrev State.onlyGroup (u t : State) (g : Group) : Prop :=
  t.mem = u.mem ∧ t.tt = u.tt ∧ t.fn = u.fn ∧ t.stage = u.stage ∧ t.chains = u.chains ∧ t.lanes = u.lanes ∧ t.te = u.te ∧
  t.ve = u.ve ∧ t.wheel = u.wheel ∧ t.outs = u.outs ∧ t.sag = u.sag ∧ t.host = u.host ∧ t.pending = u.pending ∧
  ∀ k : Group, k ≠ g → t.core k = u.core k

/-- The special registers that an instruction in sequence keeps: all but the counters' latches, and the status and
prediction control where no earlier write to them ends its shadow (R224, R233). -/
abbrev Core.keepsSpecial (c d : Core) : Prop :=
  d.evb = c.evb ∧ d.tsbp = c.tsbp ∧ d.cause = c.cause ∧ d.faddr = c.faddr ∧ d.ls = c.ls ∧ d.le = c.le ∧ d.dwb = c.dwb ∧
  d.nest = c.nest ∧ d.prio = c.prio ∧ (c.shadow = [] → d.status = c.status ∧ d.predctl = c.predctl)

/-- An instruction has gone on in sequence with a register written: `rd` holds `v`, g0 still reads 0, every other
register is as before, and nothing else has changed (R232, R237). -/
abbrev State.computed (u t : State) (g : Group) (rd : GReg) (v : Word) : Prop :=
  (∀ r : GReg, (t.core g).rg r = if r = rd ∧ r ≠ 0 then v else (u.core g).rg r) ∧
  (t.core g).pc = (u.core g).seqPc ∧ (t.core g).lc = (u.core g).seqLc ∧ (t.core g).delay = none ∧
  (u.core g).keepsSpecial (t.core g) ∧ u.onlyGroup t g

/-- A handler has been entered (R271, R272): its vector, CAUSE, FADDR, level M, IE and PRIO as given, one level deeper,
LC 0; the general and the other special registers are as before. -/
abbrev State.inHandler (u t : State) (g : Group) (vec cause faddr : Word) (ie : Bool) (prio : Nat) : Prop :=
  (t.core g).pc = vec &&& 0xFFFFFFFC ∧ (t.core g).cause = cause ∧ (t.core g).faddr = faddr ∧
  (t.core g).nest.val = (u.core g).nest.val + 1 ∧ (t.core g).pl = 0 ∧ (t.core g).ie = ie ∧ (t.core g).prio.val = prio ∧
  (t.core g).lc = 0 ∧ (t.core g).delay = none ∧ (t.core g).gpr = (u.core g).gpr ∧ (t.core g).ls = (u.core g).ls ∧
  (t.core g).le = (u.core g).le ∧ (t.core g).evb = (u.core g).evb ∧ (t.core g).tsbp = (u.core g).tsbp ∧
  (t.core g).dwb = (u.core g).dwb ∧ ∀ k : Group, k ≠ g → t.core k = u.core k

/-- The slot of a depth holds what entry saves there (R269), and no byte outside it has changed. -/
abbrev State.savedAt (u t : State) (g : Group) (image : Bytes) : Prop :=
  t.bytes (u.slotAddr g (u.core g).nest.val) 160 = image ∧
  ∀ a, (a < u.slotAddr g (u.core g).nest.val ∨ u.slotAddr g (u.core g).nest.val + 160 ≤ a) → byteAt t.mem a = byteAt u.mem a

/-! ### Canonical forms and runs -/

/-- The register file in its canonical form: offsets rise strictly, and a listed word differs from its reset value. -/
def State.regsWf (s : State) : Prop :=
  keysRise s.regs = true ∧ ∀ e ∈ s.regs, e.2 ≠ regReset s.part e.1

/-- A memory in its canonical form. -/
def State.memWf (s : State) : Prop :=
  Memory.wf s.mem = true

/-- A run of steps, each of which answers a next state. -/
inductive Runs : State → State → Prop where
  | here (s : State) : Runs s s
  | step {s t u : State} : Machine.step s = .next t → Runs t u → Runs s u

/-- A state from which no run stops: neither a fault nor a refusal is ever met. -/
def State.goesOn (s : State) : Prop :=
  ∀ t, Runs s t → ∃ u, Machine.step t = .next u

/-- The register that a command writes, with the master that writes it, where the command stands for the write of one
register by a master. -/
def registerOf (c : Instr) : Option (Master × Nat) :=
  match c with
  | .fcuInject m _ => some (m, FCU_INJ_CTRL)
  | .fltCfgWrite i m _ => some (m, FLT_CFG i)
  | .fltPendClear i m => some (m, FLT_STAT i)
  | .sscIntrusiveTest m => some (m, SSC_CTRL)
  | .cfErase m => some (m, CF_CMD)
  | .cfProgram m => some (m, CF_CMD)
  | .hlCmbRead n m => some (m, HL_CMB_CTRL n)
  | .hlCmbWrite n m => some (m, HL_CMB_CTRL n)
  | .hlCmbReset n m => some (m, HL_CMB_CTRL n)
  | .hlCmbSetPort n m => some (m, HL_CMB_CTRL n)
  | .hlAdmit n m => some (m, HL_CTRL n)
  | .hlDetach n m => some (m, HL_CTRL n)
  | .hlRetrain n m => some (m, HL_CTRL n)
  | .hostHeartbeat m => some (m, HI_HOST_HB)
  | .srcSetp i m => some (m, SRC_CTRL i)
  | .srcClrp i m => some (m, SRC_CTRL i)
  | .icEoi g m _ => some (m, IC_EOI g)
  | .encLossClear n m _ _ => some (m, ENC_STAT n)
  | .domPresetGo d m => some (m, DOM_PRESET_CTRL d)
  | .lsCfgWrite g m _ => some (m, LS_CFG g)
  | .lsRestart g m => some (m, LS_CTRL g)
  | .lsStop g m => some (m, LS_CTRL g)
  | .lsInject g m _ => some (m, LS_CTRL g)
  | .lsUnretire g m _ => some (m, LS_CTRL g)
  | .lsPowerOff g m => some (m, LS_PWR g)
  | .lsPowerOn g m => some (m, LS_PWR g)
  | .pmCtrlWarm m => some (m, PM_CTRL)
  | .pmCtrlWarmActivate m => some (m, PM_CTRL)
  | .sgLcAdvance m _ => some (m, SG_LC_ADVANCE)
  | .sgSvnCommit m _ => some (m, SG_SVN_COMMIT)
  | .sgFuseProgram m => some (m, SG_FUSE_CMD)
  | .sgPufEnroll m => some (m, SG_PUF_CTRL)
  | .sgVerCheck m => some (m, SG_VER_CTRL)
  | .sgDbgGo m _ => some (m, SG_DBG_CTRL)
  | .sgDbgEnd m => some (m, SG_DBG_CTRL)
  | .spRawRead m => some (m, SP_RAW_CTRL)
  | .spRawWrite m => some (m, SP_RAW_CTRL)
  | .teDecWrite m _ => some (m, TE_DEC)
  | .vtReturn t m => some (m, VT_CTRL t)
  | .veSqTailWrite g m _ => some (m, VE_SQ_TAIL g)
  | .veCancelGo g m _ => some (m, VE_CANCEL_CTRL g)
  | .veKloadGo m => some (m, VE_KLOAD_CTRL)
  | .veKloadUnload m _ => some (m, VE_KLOAD_CTRL)
  | .wdKeyWrite g m _ => some (m, WD_KEY g)
  | .cmBend g m _ => some (m, CM_BEND g)
  | .cmStart g m => some (m, CM_CTRL g)
  | .retClear m => some (m, RET_CTRL)
  | .ewInsert g m _ => some (m, EW_INS_CTRL g)
  | .ewCancelHandle g m _ => some (m, EW_CAN_HANDLE g)
  | .ewMaskCancel g m => some (m, EW_CAN_CTRL g)
  | .ewRelease g m => some (m, EW_G_CTRL g)
  | _ => none

end Sys2Proof.Machine
end

