-- ==== Sys2Proof/Certificates/Slice0/Obligations.lean ====
section
/-! DEFINITION. The statements for the provers. -/

open Sys2Proof Sys2Proof.Machine

/-- A step runs the front command on the queue's rest; with none waiting it is one tick of KCLK, and nothing happens while RST_N is
low (R12, R6, R7). -/
def Obligations.StepRunsTheQueue : Prop :=
  (∀ (s : State) (c : Instr) (rest : List Instr),
    s.pending = c :: rest →
    step s = exec c { s with pending := rest }) ∧
  (∀ (s : State),
    s.pending = [] →
    s.sag.rstNLow = true →
    step s = .next s) ∧
  (∀ (s : State),
    s.pending = [] →
    s.sag.rstNLow = false →
    s.sag.rstHeld = false →
    s.kilnware = false →
    s.tw.owed = false →
    ∃ t, step s = .next t ∧ t.tt = s.tt + 1 ∧ t.fn = s.fn ∧ t.mem = s.mem ∧ t.stage = s.stage ∧ t.pending = [])

/-- Every command answers a next state in every state: no fault and no refusal (R12). -/
def Obligations.EveryCommandAnswers : Prop :=
  ∀ (i : Instr) (s : State),
    ∃ t, exec i s = .next t

/-- No command changes the queue of commands or the part (R2, R4). -/
def Obligations.CommandsLeaveTheQueueAndThePart : Prop :=
  ∀ (i : Instr) (s t : State),
    exec i s = .next t →
    t.pending = s.pending ∧ t.part = s.part

/-- The state after reset has register file and memory in their canonical form, with nothing listed (R14). -/
def Obligations.ResetHasTheCanonicalForm : Prop :=
  State.reset.regsWf ∧ State.reset.memWf ∧ State.reset.pending = [] ∧ ∀ off, State.reset.rd off = regReset .sk7348 off

/-- Every step keeps the canonical form of the register file and of memory (R11, R14). -/
def Obligations.StepsKeepTheCanonicalForm : Prop :=
  ∀ (s t : State),
    s.regsWf →
    s.memWf →
    step s = .next t →
    t.regsWf ∧ t.memWf

/-- A blown fuse bit never returns to 0 in any step (R404). -/
def Obligations.BlownFusesStayBlown : Prop :=
  ∀ (s t : State) (w b : Nat),
    step s = .next t →
    (s.fuse w).getLsbD b = true →
    (t.fuse w).getLsbD b = true

/-- POWER_ON_RESET resets time, stage, kiln, tracks and cores and keeps the fuses; RST_N_ASSERT does so at once or waits for the
power-fail seal (R437, R473, R481, R404). It says that exec of powerOnReset, rstNAssert each completes with a next state, for
every state and operands that meet hypotheses on these alone. -/
def Obligations.PowerOnResetAndRstN : Prop :=
  (∀ (s : State) (lost : Bool),
    ∃ t, exec (.powerOnReset lost) s = .next t ∧ t.tt = 0 ∧ t.fn = 0 ∧ t.stage = [] ∧ t.chains = [] ∧ t.kiln = State.reset.kiln ∧ t.lanes = State.reset.lanes ∧ t.te = State.reset.te ∧ t.cores = State.reset.cores ∧ t.tw = State.reset.tw ∧ t.mode = modeBisque ∧ t.get PM_RST_CAUSE_CAUSE = 0 ∧ t.flag PM_RST_CAUSE_AON_KEPT = !lost ∧ t.sag.fuses = s.sag.fuses ∧ t.part = s.part ∧ t.pending = s.pending) ∧
  (∀ (s : State),
    s.sealHoldsReset = false →
    ∃ t, exec (.rstNAssert) s = .next t ∧ t.sag.rstNLow = true ∧ t.tt = 0 ∧ t.fn = 0 ∧ t.stage = [] ∧ t.kiln = State.reset.kiln ∧ t.cores = State.reset.cores ∧ t.mode = modeBisque ∧ t.get PM_RST_CAUSE_CAUSE = 1 ∧ t.flag PM_RST_CAUSE_AON_KEPT = true ∧ t.sag.fuses = s.sag.fuses) ∧
  (∀ (s : State),
    s.sealHoldsReset = true →
    exec (.rstNAssert) s = .next (s.onSag (fun x => { x with rstHeld := true })))

/-- PM_CTRL written with WARM restarts the device from outside LOCKDOWN, with ACTIVATE on the other half; in LOCKDOWN it is ignored
(R437, R439, R390, R376). It says that exec of pmCtrlWarm, pmCtrlWarmActivate each completes with a next state, for every state
and operands that meet hypotheses on these alone. -/
def Obligations.WarmRestarts : Prop :=
  (∀ (s : State),
    s.mode = modeLockdown →
    s.reaches 0 (PM_CTRL) = true →
    exec (.pmCtrlWarm 0) s = .next (s) ∧ exec (.pmCtrlWarmActivate 0) s = .next (s)) ∧
  (∀ (s : State),
    s.mode ≠ modeLockdown →
    s.reaches 0 (PM_CTRL) = true →
    s.setDevSafe.relinquish.settleFaults.mode ≠ modeLockdown →
    ∃ t, exec (.pmCtrlWarm 0) s = .next t ∧ t.mode = modeBisque ∧ t.fn = 0 ∧ t.stage = [] ∧ t.chains = [] ∧ t.te = State.reset.te ∧ t.tw.places = [] ∧ t.get PM_RST_CAUSE_CAUSE = 2 ∧ t.flag PM_RST_CAUSE_AON_KEPT = true ∧ t.flag HI_STAT_READY = false ∧ t.tt = s.tt ∧ t.sag.fuses = s.sag.fuses) ∧
  (∀ (s : State),
    s.mode ≠ modeLockdown →
    s.reaches 0 (PM_CTRL) = true →
    s.startTrial.setDevSafe.relinquish.settleFaults.mode ≠ modeLockdown →
    ∃ t, exec (.pmCtrlWarmActivate 0) s = .next t ∧ t.mode = modeBisque ∧ t.fn = 0 ∧ t.stage = [] ∧ t.te = State.reset.te ∧ t.get PM_RST_CAUSE_CAUSE = 2 ∧ t.sag.trial = true ∧ t.sag.tries = 0 ∧ t.tt = s.tt) ∧
  (∀ (s : State) (m : Master),
    m ≠ 0 →
    s.reaches m (PM_CTRL) = true →
    exec (.pmCtrlWarm m) s = .next (s.refusedBy m (PM_CTRL)) ∧ exec (.pmCtrlWarmActivate m) s = .next (s.refusedBy m (PM_CTRL)))

/-- BISQUE enters GLOST or halts as its checks say, GLOST starts the firings or halts as its checks say, and GLOST_TIMEOUT halts
(R409, R411, R412, R410, R406, R408). It says that exec of bisque, glost, glostTimeout each completes with a next state, for
every state and operands that meet hypotheses on these alone. -/
def Obligations.BootStages : Prop :=
  (∀ (s : State) (r : BisqueRun),
    s.mode = modeBisque →
    s.sag.halted = false →
    r.shaOk = true →
    r.mldsaOk = true →
    s.killed = false →
    s.sag.aonAlarm = false →
    ∃ t, exec (.bisque r) s = .next t ∧ t.sag.rstNLow = false ∧
    (let u := ((((s.onSag (fun x => { x with rstNLow := false, scan := false })).deriveIdentity r.pufOk).readStore r.nvOk).startMeas).selectHalf
     if sha512 (u.dirKey u.activeBase .vendor) = u.keyHash .vendor ∧ (u.checkEntry u.activeBase 0 0).2.1 = 0
     then t.mode = modeGlost ∧ t.sag.glostTt = s.tt ∧ t.sag.halted = false
     else s.sag.trial = false → t.mode = modeBisque ∧ t.sag.halted = true ∧ t.get SG_BOOT_STAT_STAGE = 1)) ∧
  (∀ (s : State) (r : BisqueRun),
    s.mode = modeBisque →
    s.sag.halted = false →
    r.shaOk = false ∨ r.mldsaOk = false →
    ∃ t, exec (.bisque r) s = .next t ∧ t.mode = modeBisque ∧ t.sag.halted = true ∧ t.get SG_BOOT_STAT_STAGE = 1 ∧ t.get SG_BOOT_STAT_CODE = 0) ∧
  (∀ (s : State) (r : GlostRun),
    s.mode = modeGlost →
    s.sag.halted = false →
    r.hbmOk = true →
    r.selfTest = none →
    ∃ t, exec (.glost r) s = .next t ∧
    (let u := (s.putFlag DM_STAT_READY true).checkKeys s.activeBase
     let k := u.checkEntry s.activeBase 1 0
     let v := ((((k.1.extendMeas 1 (imageDigest k.2.2)).put SG_EPOCH_MAX_EPOCH (field k.2.2 16 2)).onSag
       (fun x => { x with kwVersion := field k.2.2 8 4, kwSvn := field k.2.2 12 4 })).loadImages s.activeBase).selfTests
     let w := v.drainFaults v.fcuIn.length
     if (1 ∈ u.sag.usable ∨ u.lifecycle = lcBlank) ∧ k.2.1 = 0 then (w.mode = modeGlost → t = w.startFirings k.2.2)
     else s.sag.trial = false → t.sag.halted = true ∧ t.get SG_BOOT_STAT_STAGE = 2)) ∧
  (∀ (s : State) (r : GlostRun),
    s.mode = modeGlost →
    s.sag.halted = false →
    r.hbmOk = false →
    exec (.glost r) s = .next ((s.raise F_DM_INIT 0).bootFail 2 0)) ∧
  (∀ (s : State),
    s.mode = modeGlost →
    s.sag.halted = false →
    s.sag.trial = false →
    s.sag.glostTt + 1875000000 ≤ s.tt →
    ∃ t, exec (.glostTimeout) s = .next t ∧ t.mode = modeGlost ∧ t.sag.halted = true ∧ t.get SG_BOOT_STAT_STAGE = 2 ∧ t.get SG_BOOT_STAT_CODE = 0 ∧ t.mem = s.mem)

/-- Supply, clock and temperature events count, show in their registers and raise their faults (R457, R469, R481). It says that exec
of pwrWarn, pwrRail, clkPcieLoss, clkSysLoss, clkLinkLoss, tjHigh each completes with a next state, for every state and operands
that meet hypotheses on these alone. -/
def Obligations.SuppliesAndClocks : Prop :=
  (∀ (s : State) (r : Rail),
    exec (.pwrWarn r) s = .next ((s.put PM_WARN_CNT_CNT (min (s.get PM_WARN_CNT_CNT + 1) (2 ^ PM_WARN_CNT_CNT.width - 1))).raise F_PWR_WARN r.val)) ∧
  (∀ (s : State) (r : Rail),
    3 ≤ r.val →
    r.val ≠ 5 →
    exec (.pwrRail r) s = .next ((s.put PM_RAIL_STAT_GOOD (withBits (s.get PM_RAIL_STAT_GOOD) (railBit r.val) 1 0)).raise F_PWR_RAIL r.val)) ∧
  (∀ (s : State),
    exec (.pwrRail 5) s = .next ((((s.put PM_RAIL_STAT_GOOD (withBits (s.get PM_RAIL_STAT_GOOD) (railBit 5) 1 0)).raise F_PWR_RAIL 5).onOuts (fun x => { x with ioLost := true })).refreshOuts) ∧
    ∃ t, exec (.pwrRail 5) s = .next t ∧ t.flag EW_SSTOP_STAT_DRV0 = false ∧ t.flag EW_SSTOP_STAT_DRV1 = false ∧ t.mem = s.mem) ∧
  (∀ (s : State) (r : Rail),
    r.val < 3 →
    exec (.pwrRail r) s = .next (s)) ∧
  (∀ (s : State),
    exec (.clkPcieLoss) s = .next ((s.put PM_CLK_STAT_LOCK (withBits (s.get PM_CLK_STAT_LOCK) 1 1 0)).raise F_CLK_PCIE_LOSS 0)) ∧
  (∀ (s : State),
    exec (.clkSysLoss) s = .next ((s.put PM_CLK_STAT_LOCK (withBits (s.get PM_CLK_STAT_LOCK) 2 1 0)).raise F_CLK_SYS_LOSS 0)) ∧
  (∀ (s : State),
    exec (.clkLinkLoss) s = .next ((s.setDevSafe.put PM_CLK_STAT_LOCK (withBits (s.setDevSafe.get PM_CLK_STAT_LOCK) 0 1 0)).raise F_CLK_LINK_LOSS 0)) ∧
  (∀ (s : State) (c : Nat),
    c < 105 →
    exec (.tjHigh c) s = .next (s.put PM_TJ_C c)) ∧
  (∀ (s : State) (c : Nat),
    105 ≤ c →
    exec (.tjHigh c) s = .next ((s.put PM_TJ_C c).raise F_TJ_HIGH c))

/-- An accepted edge moves its encoder's count by one as the quadrature table says, and its domains follow; an illegal transition
counts as an error (R18, R19, R20, R24). It says that exec of encoderEdge completes with a next state, for every state and
operands that meet hypotheses on these alone. -/
def Obligations.EncoderEdges : Prop :=
  (∀ (s : State) (n : Enc),
    s.encOn n = true →
    s.encLost n = false →
    ∃ u : State, exec (.encoderEdge n .a) s = .next (u.each (allFin 4) (fun s d => s.domCount n (((!(s.kiln.enc.get n).a) != (s.kiln.enc.get n).b) != s.flag (ENC_CFG_INV n)) (s.edgeTt n) d)) ∧
    u.rd64 (ENC_CNT n) = unsignedOf 64 (s.rdInt (ENC_CNT n) + (if ((!(s.kiln.enc.get n).a) != (s.kiln.enc.get n).b) != s.flag (ENC_CFG_INV n) then 1 else -1)) ∧ u.rd64 (ENC_ETT n) = (s.tt - (2 + s.get (ENC_CFG_FILT n))) % 2 ^ 64 ∧ (u.kiln.enc.get n).a = !(s.kiln.enc.get n).a ∧ (u.kiln.enc.get n).b = (s.kiln.enc.get n).b ∧ u.kiln.dom = s.kiln.dom ∧ u.mem = s.mem ∧ u.tt = s.tt ∧ u.fn = s.fn ∧ ((∀ d : Dom, s.domOn d = false) → exec (.encoderEdge n .a) s = .next u)) ∧
  (∀ (s : State) (n : Enc),
    s.encOn n = true →
    s.encLost n = false →
    ∃ u : State, exec (.encoderEdge n .b) s = .next (u.each (allFin 4) (fun s d => s.domCount n (((!(s.kiln.enc.get n).b) == (s.kiln.enc.get n).a) != s.flag (ENC_CFG_INV n)) (s.edgeTt n) d)) ∧
    u.rd64 (ENC_CNT n) = unsignedOf 64 (s.rdInt (ENC_CNT n) + (if ((!(s.kiln.enc.get n).b) == (s.kiln.enc.get n).a) != s.flag (ENC_CFG_INV n) then 1 else -1)) ∧ u.rd64 (ENC_ETT n) = (s.tt - (2 + s.get (ENC_CFG_FILT n))) % 2 ^ 64 ∧ (u.kiln.enc.get n).a = (s.kiln.enc.get n).a ∧ (u.kiln.enc.get n).b = !(s.kiln.enc.get n).b ∧ u.kiln.dom = s.kiln.dom ∧ u.mem = s.mem ∧ u.tt = s.tt ∧ u.fn = s.fn ∧ ((∀ d : Dom, s.domOn d = false) → exec (.encoderEdge n .b) s = .next u)) ∧
  (∀ (s : State) (n : Enc),
    s.encOn n = true →
    s.encLost n = false →
    ∃ t, exec (.encoderEdge n .both) s = .next t ∧ t.rd64 (ENC_CNT n) = s.rd64 (ENC_CNT n) ∧ t.rd64 (ENC_ETT n) = s.rd64 (ENC_ETT n) ∧ t.flag (ENC_STAT_ILLEGAL n) = true ∧ t.get (ENC_ILL_CNT_CNT n) = min (s.get (ENC_ILL_CNT_CNT n) + 1) (2 ^ (ENC_ILL_CNT_CNT n).width - 1) ∧ (∃ l d, t.fcuIn = s.fcuIn ++ l ++ [⟨F_ENC_FAULT n, d, false, 0, s.tt⟩]) ∧ t.kiln.dom = s.kiln.dom ∧ t.mem = s.mem) ∧
  (∀ (s : State) (n : Enc) (e : EncEdge),
    s.encOn n = false ∨ s.encLost n = true →
    exec (.encoderEdge n e) s = .next (s.onEnc n (fun c => { c with a := if e = .b then c.a else !c.a, b := if e = .a then c.b else !c.b })))

/-- Overrate, index, loss and clearing of loss at an encoder act as their rules say (R20, R21, R27, R51). It says that exec of
encOverrateEnd, encIndexEdge, encSignalLoss, encZLoss, encLossClear each completes with a next state, for every state and
operands that meet hypotheses on these alone. -/
def Obligations.EncoderEvents : Prop :=
  (∀ (s : State) (n : Enc),
    ((s.kiln.enc.get n).recent.filter (fun t => decide (s.tt < t + 1250))).length ≤ 50 →
    exec (.encOverrateEnd n) s = .next (s.onEnc n (fun c => { c with recent := (s.kiln.enc.get n).recent.filter (fun t => decide (s.tt < t + 1250)), overrate := false }))) ∧
  (∀ (s : State) (n : Enc),
    s.flag (ENC_CFG_ZEN n) = true →
    ∃ t, exec (.encIndexEdge n (!s.flag (ENC_CFG_ZPOL n))) s = .next t ∧ t.rd64 (ENC_ZCNT n) = s.rd64 (ENC_CNT n) ∧ t.rd64 (ENC_CNT n) = s.rd64 (ENC_CNT n) ∧ t.flag (ENC_STAT_INDEX_SEEN n) = true ∧ t.mem = s.mem ∧ t.kiln.dom = s.kiln.dom ∧ exec (.encIndexEdge n (s.flag (ENC_CFG_ZPOL n))) s = .next (s)) ∧
  (∀ (s : State) (n : Enc) (r : Int),
    s.flag (ENC_CFG_ZEN n) = true →
    s.encOn n = true →
    s.encLost n = false →
    s.flag (ENC_STAT_LOSS_Z n) = false →
    (s.kiln.enc.get n).zRef = some r →
    ∃ t, exec (.encIndexEdge n (!s.flag (ENC_CFG_ZPOL n))) s = .next t ∧ (t.kiln.enc.get n).zRef = some (s.rdInt (ENC_CNT n)) ∧ (if s.get (ENC_ZPER_COUNTS n) ≠ 0 ∧ (s.kiln.enc.get n).zRev = false ∧ (s.get (ENC_ZTOL_COUNTS n) : Int) < (((s.rdInt (ENC_CNT n) - r).natAbs : Int) - s.get (ENC_ZPER_COUNTS n)).natAbs then t.flag (ENC_STAT_INDEX_ERR n) = true ∧ t.get (ENC_ZERR_CNT_CNT n) = min (s.get (ENC_ZERR_CNT_CNT n) + 1) (2 ^ (ENC_ZERR_CNT_CNT n).width - 1) ∧ t.fcuIn = s.fcuIn ++ [⟨F_ENC_INDEX, 0, false, 0, s.tt⟩] else t.flag (ENC_STAT_INDEX_ERR n) = s.flag (ENC_STAT_INDEX_ERR n) ∧ t.get (ENC_ZERR_CNT_CNT n) = s.get (ENC_ZERR_CNT_CNT n) ∧ t.fcuIn = s.fcuIn)) ∧
  (∀ (s : State) (n : Enc) (a b : Bool),
    ∃ u : State, exec (.encSignalLoss n a b) s = .next (if s.encOn n && ((a && !s.flag (ENC_STAT_LOSS_A n)) || (b && !s.flag (ENC_STAT_LOSS_B n))) && !s.encLost n then u.domLoss n else u) ∧
    (u.kiln.enc.get n).badA = a ∧ (u.kiln.enc.get n).badB = b ∧ u.flag (ENC_STAT_SIG_BAD n) = (a || b) ∧ u.flag (ENC_STAT_LOSS_A n) = (s.flag (ENC_STAT_LOSS_A n) || (s.encOn n && a)) ∧ u.flag (ENC_STAT_LOSS_B n) = (s.flag (ENC_STAT_LOSS_B n) || (s.encOn n && b)) ∧
    u.fcuIn = s.fcuIn ++ (if s.encOn n && ((a && !s.flag (ENC_STAT_LOSS_A n)) || (b && !s.flag (ENC_STAT_LOSS_B n))) then [⟨F_ENC_FAULT n, 0, false, 0, s.tt⟩] else []) ∧ u.rd64 (ENC_CNT n) = s.rd64 (ENC_CNT n) ∧ u.mem = s.mem) ∧
  (∀ (s : State) (n : Enc),
    s.encOn n = true →
    s.flag (ENC_CFG_ZEN n) = true →
    s.flag (ENC_STAT_LOSS_Z n) = false →
    ∃ t, exec (.encZLoss n) s = .next t ∧ t.flag (ENC_STAT_LOSS_Z n) = true ∧ t.srcIn = s.srcIn ++ [58] ∧ t.fcuIn = s.fcuIn ++ [⟨F_ENC_FAULT n, 0, false, 0, s.tt⟩] ∧ t.rd64 (ENC_CNT n) = s.rd64 (ENC_CNT n) ∧ t.kiln.dom = s.kiln.dom ∧ t.mem = s.mem) ∧
  (∀ (s : State) (n : Enc) (v : Word) (ok : EncValid),
    s.reaches 0 (ENC_STAT n) = true →
    ∃ t, exec (.encLossClear n 0 v ok) s = .next t ∧ (∀ k, k < 7 → (t.rd (ENC_STAT n)).getLsbD k = ((s.rd (ENC_STAT n)).getLsbD k && !(v.getLsbD k && (if k = 0 then ok.a else if k = 1 then ok.b else if k = 2 then ok.z else true)))) ∧ t.rd64 (ENC_CNT n) = s.rd64 (ENC_CNT n) ∧ t.kiln.dom = s.kiln.dom ∧ t.mem = s.mem) ∧
  (∀ (s : State) (n : Enc) (m : Master) (v : Word) (ok : EncValid),
    m ≠ 0 →
    s.reaches m (ENC_STAT n) = true →
    exec (.encLossClear n m v ok) s = .next (s.refusedBy m (ENC_STAT n)))

/-- FIRE_IN edges, overspeed and a lost source act as R38, R40 and R43 say, and a boundary occurs when an event or FMAX and FMIN
have come, at no other time (R38, R39, R40, R43, R448). It says that exec of fireInEdge, firingOverspeed, tbSrcLost,
firingBoundary each completes with a next state, for every state and operands that meet hypotheses on these alone. -/
def Obligations.FiringSourcesAndBoundaries : Prop :=
  (∀ (s : State),
    s.kiln.running = true →
    s.get TB_CTRL_FSRC = 1 →
    exec (.fireInEdge (!s.flag TB_CTRL_FIRE_POL)) s = .next (s.onKiln (fun k => { k with src := k.src.take 1 ++ [⟨s.tt, true, 0⟩], quiet := 0, srcLost := false })) ∧ exec (.fireInEdge (s.flag TB_CTRL_FIRE_POL)) s = .next (s)) ∧
  (∀ (s : State) (r : Bool),
    s.kiln.running = false ∨ s.get TB_CTRL_FSRC ≠ 1 →
    exec (.fireInEdge r) s = .next (s)) ∧
  (∀ (s : State),
    9 ≤ s.get TB_OVS_RUN_RUN →
    s.kiln.ovsRaised = false →
    exec (.firingOverspeed) s = .next ((s.raise F_FIRING_OVERSPEED 0).onKiln (fun k => { k with ovsRaised := true }))) ∧
  (∀ (s : State),
    s.get TB_OVS_RUN_RUN < 9 →
    exec (.firingOverspeed) s = .next (s)) ∧
  (∀ (s : State),
    s.get TB_CTRL_FSRC = 1 →
    16 ≤ s.kiln.quiet →
    s.kiln.srcLost = false →
    exec (.tbSrcLost) s = .next ((s.raise F_TB_SRC_LOST 0).onKiln (fun k => { k with srcLost := true }))) ∧
  (∀ (s : State),
    s.kiln.running = false →
    s.boundaryDue = none) ∧
  (∀ (s : State),
    s.kiln.running = true →
    s.tw.fire = none →
    s.follows = false →
    s.tt - s.rd64 TB_BTT < s.get TB_FMIN_FMIN →
    s.boundaryDue = none) ∧
  (∀ (s : State),
    s.kiln.running = true →
    s.tw.fire = none →
    s.follows = false →
    s.get TB_FMIN_FMIN ≤ s.tt - s.rd64 TB_BTT →
    (∃ e, s.kiln.src.head? = some e ∧ e.tt ≤ s.tt) ∨ s.get TB_FMAX_FMAX ≤ s.tt - s.rd64 TB_BTT →
    ∃ b, s.boundaryDue = some b ∧ b.fn = s.fn + 1 ∧ b.commits = none ∧ (b.cause = 2 ↔ ¬∃ e, s.kiln.src.head? = some e ∧ e.tt ≤ s.tt)) ∧
  (∀ (s : State),
    s.kiln.running = true →
    s.tw.fire = none →
    s.follows = false →
    s.tt - s.rd64 TB_BTT < s.get TB_FMAX_FMAX →
    s.kiln.src = [] →
    s.boundaryDue = none) ∧
  (∀ (s : State) (x : TwFire),
    s.kiln.running = true →
    s.tw.fire = some x →
    s.boundaryDue = some ⟨x.fn, x.cause, some x.commits⟩) ∧
  (∀ (s : State),
    s.kiln.running = true →
    s.tw.fire = none →
    s.follows = true →
    s.boundaryDue = if s.tw.fireLost then some ⟨s.fn + 1, s.ownCause, some 0⟩ else none) ∧
  (∀ (s : State) (cw : CommitWindow) (peer : Bool),
    s.boundaryDue = none →
    exec (.firingBoundary cw peer) s = .next (s))

/-- A boundary that is due is performed with its commit window, an overrun is raised, and at t0 FN, its time, its cause and the
period are latched (R44, R45, R49, R42). It says that exec of firingBoundary completes with a next state, for every state and
operands that meet hypotheses on these alone. -/
def Obligations.BoundaryWindowAndLatches : Prop :=
  (∀ (s : State) (b : Due) (cw : CommitWindow) (peer : Bool),
    s.boundaryDue = some b →
    ∃ t, exec (.firingBoundary cw peer) s = .next t ∧ t = s.boundary b cw.kclk cw.missed peer ∧ min cw.kclk (2 ^ TB_CW_MAX_KCLK.width - 1) ≤ t.get TB_CW_MAX_KCLK ∧ (cw.missed = true ∨ 500 < cw.kclk → t.flag TB_STAT_CW_OVERRUN = true ∧ (t.fcuIn.map (fun e => e.id)).getLast? = some F_COMMIT_OVERRUN)) ∧
  (∀ (s : State) (fn cause : Nat),
    s.tt < 2 ^ 64 →
    (s.latchBoundary fn cause).fn = fn ∧ (s.latchBoundary fn cause).rd64 TB_BTT = s.tt ∧ (s.latchBoundary fn cause).get TB_STAT_CAUSE = cause % 2 ^ TB_STAT_CAUSE.width ∧
    (s.latchBoundary fn cause).flag TB_STAT_SEALED = false ∧ (s.latchBoundary fn cause).get TB_PERIOD_PERIOD = (if fn ≤ 1 then 0 else min (s.tt - s.rd64 TB_BTT) (2 ^ 24 - 1)) ∧
    (s.latchBoundary fn cause).mem = s.mem ∧ (s.latchBoundary fn cause).stage = s.stage ∧ (s.latchBoundary fn cause).te = s.te)

/-- At the seal point the firing is sealed, SRC[60] is raised and the Verify Engine seals its jobs; before it, or twice, nothing
happens (R42, R135, R142). It says that exec of sealPoint completes with a next state, for every state and operands that meet
hypotheses on these alone. -/
def Obligations.SealPoint : Prop :=
  (∀ (s : State),
    s.kiln.running = true →
    s.flag TB_STAT_SEALED = false →
    1 ≤ s.fn →
    s.rd64 TB_BTT + s.get TB_FMIN_FMIN ≤ s.tt + s.get TB_SEAL_MARGIN_MARGIN →
    exec (.sealPoint) s = .next ((((s.putFlag TB_STAT_SEALED true).raiseSrc 60).veSeal.onTw (fun t => { t with results := ((s.putFlag TB_STAT_SEALED true).raiseSrc 60).veSeal.ve.digest })).cancelsDone)) ∧
  (∀ (s : State),
    s.flag TB_STAT_SEALED = true ∨ s.fn = 0 ∨ s.kiln.running = false →
    exec (.sealPoint) s = .next (s))

/-- Domain presets and conversions act as R29 and R32 say, and every master has its own conversion bank (R28, R29, R31, R33, R36).
It says that exec of domPresetGo, domStoppedSet, domCvtT2p, domCvtP2t, domCvtComplete each completes with a next state, for
every state and operands that meet hypotheses on these alone. -/
def Obligations.DomainCommandsAndConversions : Prop :=
  (∀ (s : State) (d : Dom),
    s.reaches 0 (DOM_PRESET_CTRL d) = true →
    s.stage.find? (fun e => e.off = DOM_PRESET_CTRL d) = none →
    s.stagedNext < 1024 →
    exec (.domPresetGo d 0) s = .next ({ s with stage := s.stage ++ [⟨DOM_PRESET_CTRL d, 1, 0, s.stagings⟩], stagings := s.stagings + 1 })) ∧
  (∀ (s : State) (d : Dom),
    s.reaches 0 (DOM_PRESET_CTRL d) = true →
    s.stage.find? (fun e => e.off = DOM_PRESET_CTRL d) = none →
    1024 ≤ s.stagedNext →
    exec (.domPresetGo d 0) s = .next ((s.putFlag TB_STAT_CFG_REJ true).storeError 0 (DOM_PRESET_CTRL d))) ∧
  (∀ (s : State) (d : Dom) (m : Master),
    m ≠ 0 →
    s.reaches m (DOM_PRESET_CTRL d) = true →
    exec (.domPresetGo d m) s = .next (s.refusedBy m (DOM_PRESET_CTRL d))) ∧
  (∀ (s : State) (d : Dom),
    (s.netMotion d).natAbs < 4 * 256 * 2 ^ 24 →
    s.flag (DOM_STAT_STOPPED d) = false →
    exec (.domStoppedSet d) s = .next ((s.putFlag (DOM_STAT_STOPPED d) true).raiseSrc (50 + d))) ∧
  (∀ (s : State) (d : Dom),
    s.flag (DOM_STAT_STOPPED d) = decide ((s.netMotion d).natAbs < 4 * 256 * 2 ^ 24) →
    exec (.domStoppedSet d) s = .next (s)) ∧
  (∀ (s : State) (d : Dom) (m : Master),
    (s.bank d m).busy = none →
    exec (.domCvtT2p d m) s = .next (s.startCvt d m (s.t2p d (s.bank d m).inp.toNat)) ∧ exec (.domCvtP2t d m) s = .next (s.startCvt d m (s.p2t d (s.bank d m).inp.toInt))) ∧
  (∀ (s : State) (d : Dom) (m : Master) (c : Cvt),
    (s.bank d m).busy = none →
    c.code < 8 →
    ∃ r o e, ((s.startCvt d m c).bank d m).busy = some (r, o, e) ∧ r.val = c.code ∧ (2 ≤ c.code → o = 0 ∧ e = 0) ∧ ((s.startCvt d m c).bank d m).out = (s.bank d m).out ∧ ((s.startCvt d m c).bank d m).err = (s.bank d m).err) ∧
  (∀ (s : State) (d : Dom) (m : Master),
    (s.bank d m).busy ≠ none →
    exec (.domCvtT2p d m) s = .next (s) ∧ exec (.domCvtP2t d m) s = .next (s)) ∧
  (∀ (s : State) (d : Dom) (m : Master) (r : Fin 8) (o : DWord) (e : Word),
    (s.bank d m).busy = some (r, o, e) →
    ∃ t, exec (.domCvtComplete d m) s = .next t ∧ (t.bank d m).busy = none ∧ (t.bank d m).result = r ∧ (t.bank d m).out = o ∧ (t.bank d m).err = e ∧ (∀ (d2 : Dom) (m2 : Master), (d2, m2) ≠ (d, m) → t.bank d2 m2 = s.bank d2 m2) ∧ t.regs = s.regs ∧ t.mem = s.mem) ∧
  (∀ (s t : State) (d e : Dom) (m k : Master),
    (d, m) ≠ (e, k) →
    exec (.domCvtT2p d m) s = .next t ∨ exec (.domCvtP2t d m) s = .next t →
    t.bank e k = s.bank e k)

/-- A lane goes DOWN, TRAIN, NEGOTIATE, CALIBRATE as light, lock and versions come, and back or to FAILED as they time out or do not
agree (R53, R55, R87, R91). It says that exec of laneSignalDetect, pam4TrainTimeout, codewordLock, codewordLockLoss, verReceive,
negotiateTimeout, calibrateTimeout, hlRetrain each completes with a next state, for every state and operands that meet
hypotheses on these alone. -/
def Obligations.LanesTrainAndNegotiate : Prop :=
  (∀ (s : State) (n : Lane),
    s.laneSt n = laneDown →
    s.get (HL_CFG_MODE n) ≠ 0 →
    n.val < s.part.lanes →
    ∃ t, exec (.laneSignalDetect n) s = .next t ∧ t.laneSt n = laneTrain ∧ t.flag (HL_ISR_STATE_CHG n) = true ∧ t.get (HL_STAT_RATE n) = 0 ∧ (∀ k : Lane, k ≠ n → t.laneSt k = s.laneSt k ∧ t.lane k = s.lane k) ∧ t.mem = s.mem ∧ t.fn = s.fn) ∧
  (∀ (s : State) (n : Lane),
    s.laneSt n = laneTrain →
    s.flag (HL_CFG_NRZ_ONLY n) = false →
    (s.lane n).attempt < 3 →
    (s.lane n).since + 25000000 ≤ s.tt →
    exec (.pam4TrainTimeout n) s = .next (s.onLane n (fun l => { l with attempt := (s.lane n).attempt + 1, since := s.tt }))) ∧
  (∀ (s : State) (n : Lane),
    s.laneSt n = laneTrain →
    4 ≤ (s.lane n).good →
    ∃ t, exec (.codewordLock n) s = .next t ∧ t.laneSt n = laneNegotiate ∧ t.get (HL_STAT_RATE n) = (if s.flag (HL_CFG_NRZ_ONLY n) || decide (3 ≤ (s.lane n).attempt) then 1 else 2) ∧ (t.lane n).since = s.tt ∧ (t.lane n).bad = 0 ∧ (∀ k : Lane, k ≠ n → t.laneSt k = s.laneSt k ∧ t.lane k = s.lane k) ∧ t.mem = s.mem ∧ t.fn = s.fn) ∧
  (∀ (s : State) (n : Lane),
    laneTrain ≤ s.laneSt n →
    s.laneSt n ≤ laneActive →
    ∃ t, exec (.codewordLockLoss n true) s = .next t ∧ t.laneSt n = laneDown ∧ t.flag (HL_STAT_SYNCED n) = false ∧ t.get (HL_STAT_RATE n) = 0 ∧ (∀ k : Lane, k ≠ n → t.laneSt k = s.laneSt k ∧ t.lane k = s.lane k) ∧ t.mem = s.mem) ∧
  (∀ (s : State) (n : Lane),
    laneNegotiate ≤ s.laneSt n →
    s.laneSt n ≤ laneActive →
    8 ≤ (s.lane n).bad →
    ∃ t, exec (.codewordLockLoss n false) s = .next t ∧ t.laneSt n = laneDown ∧ t.flag (HL_STAT_SYNCED n) = false ∧ t.get (HL_STAT_RATE n) = 0 ∧ (∀ k : Lane, k ≠ n → t.laneSt k = s.laneSt k ∧ t.lane k = s.lane k) ∧ t.mem = s.mem) ∧
  (∀ (s : State) (n : Lane) (m : RxMsg),
    s.rxFront n 1 = some m →
    s.laneSt n = laneNegotiate →
    (s.lane n).verTt.isSome = true →
    max 1 (field m.bytes 8 1) ≤ min (s.get (HL_CFG_VMAX n)) (field m.bytes 9 1) →
    ∃ t, exec (.verReceive n) s = .next t ∧ t.laneSt n = laneCalibrate ∧ t.get (HL_STAT_VER n) = min (s.get (HL_CFG_VMAX n)) (field m.bytes 9 1) % 2 ^ (HL_STAT_VER n).width ∧ t.flag (HL_STAT_SYNCED n) = false ∧ (t.lane n).exch = 0 ∧ (t.lane n).rx = (s.lane n).rx.drop 1 ∧ (∀ k : Lane, k ≠ n → t.laneSt k = s.laneSt k ∧ t.lane k = s.lane k) ∧ t.mem = s.mem ∧ t.fn = s.fn) ∧
  (∀ (s : State) (n : Lane) (m : RxMsg),
    s.rxFront n 1 = some m →
    s.laneSt n = laneNegotiate →
    (s.lane n).verTt.isSome = true →
    min (s.get (HL_CFG_VMAX n)) (field m.bytes 9 1) < max 1 (field m.bytes 8 1) →
    ∃ t, exec (.verReceive n) s = .next t ∧ t.laneSt n = laneFailed ∧ t.flag (HL_ISR_VER_FAIL n) = true ∧ t.fcuIn = s.fcuIn ++ [⟨F_HL_VER_FAIL, n, false, 0, s.tt⟩] ∧ (∀ k : Lane, k ≠ n → t.laneSt k = s.laneSt k ∧ t.lane k = s.lane k) ∧ t.mem = s.mem ∧ t.fn = s.fn) ∧
  (∀ (s : State) (n : Lane) (m : RxMsg),
    s.rxFront n 1 = some m →
    s.laneSt n = laneNegotiate →
    (s.lane n).verTt = none →
    ∃ t, exec (.verReceive n) s = .next t ∧ t.laneSt n = laneNegotiate ∧ (t.lane n).headVer = some (field m.bytes 8 1, field m.bytes 9 1) ∧ t.get (HL_VERINFO_VMIN n) = field m.bytes 8 1 ∧ t.get (HL_VERINFO_VMAX n) = field m.bytes 9 1 ∧ (t.lane n).rx = (s.lane n).rx.drop 1 ∧ (∀ k : Lane, k ≠ n → t.laneSt k = s.laneSt k ∧ t.lane k = s.lane k) ∧ t.mem = s.mem ∧ t.fn = s.fn) ∧
  (∀ (s : State) (n : Lane),
    s.laneSt n = laneNegotiate →
    (s.lane n).headVer = none →
    (s.lane n).since + 12500000 ≤ s.tt →
    ∃ t, exec (.negotiateTimeout n) s = .next t ∧ t.laneSt n = laneTrain ∧ t.get (HL_STAT_VER n) = 0 ∧ (∀ k : Lane, k ≠ n → t.laneSt k = s.laneSt k ∧ t.lane k = s.lane k) ∧ t.mem = s.mem ∧ t.fn = s.fn) ∧
  (∀ (s : State) (n : Lane),
    s.laneSt n = laneCalibrate →
    s.flag (HL_STAT_SYNCED n) = false →
    (s.lane n).since + 12500000 ≤ s.tt →
    ∃ t, exec (.calibrateTimeout n) s = .next t ∧ t.laneSt n = laneFailed ∧ (∀ k : Lane, k ≠ n → t.laneSt k = s.laneSt k ∧ t.lane k = s.lane k) ∧ t.mem = s.mem ∧ t.fn = s.fn) ∧
  (∀ (s : State) (n : Lane),
    s.laneSt n = laneFailed →
    s.reaches 0 (HL_CTRL n) = true →
    ∃ t, exec (.hlRetrain n 0) s = .next t ∧ t.laneSt n = laneDown ∧ t.flag (HL_ISR_STATE_CHG n) = true ∧ (∀ k : Lane, k ≠ n → t.laneSt k = s.laneSt k ∧ t.lane k = s.lane k) ∧ t.mem = s.mem ∧ t.fn = s.fn) ∧
  (∀ (s : State) (n : Lane) (m : Master),
    m ≠ 0 →
    s.reaches m (HL_CTRL n) = true →
    exec (.hlRetrain n m) s = .next (s.refusedBy m (HL_CTRL n)))

/-- A codeword counts towards lock, and an uncorrectable or corrected one in its counter (R55, R59, R95). It says that exec of
codewordReceive completes with a next state, for every state and operands that meet hypotheses on these alone. -/
def Obligations.CodewordsAreCounted : Prop :=
  (∀ (s : State) (n : Lane) (fec : Fec) (cw : Codeword),
    s.laneSt n = laneTrain →
    ∃ t, exec (.codewordReceive n fec cw) s = .next t ∧ (t.lane n).lastCnt = cw.count.toNat ∧ (t.lane n).good = (if fec = .uncorrectable ∨ cw.marker ≠ 0xA5C then 0 else if cw.count.toNat = ((s.lane n).lastCnt + 1) % 256 then (s.lane n).good + 1 else 1) ∧ (t.lane n).bad = (if fec = .uncorrectable ∨ cw.marker ≠ 0xA5C then (s.lane n).bad + 1 else 0) ∧ t.regs = s.regs ∧ t.mem = s.mem ∧ (t.lane n).rx = (s.lane n).rx) ∧
  (∀ (s : State) (n : Lane) (cw : Codeword),
    laneNegotiate ≤ s.laneSt n →
    s.laneSt n ≤ laneActive →
    ∃ t, exec (.codewordReceive n .uncorrectable cw) s = .next t ∧ t.get (HL_FEC_UNC_CNT n) = min (s.get (HL_FEC_UNC_CNT n) + 1) (2 ^ (HL_FEC_UNC_CNT n).width - 1) ∧ (t.lane n).part = none ∧ (t.lane n).search = true ∧ (t.lane n).bad = (s.lane n).bad + 1 ∧ (t.lane n).rx = (s.lane n).rx ∧ t.mem = s.mem) ∧
  (∀ (s : State) (n : Lane) (fec : Fec) (cw : Codeword),
    s.laneSt n = laneDown ∨ laneFailed ≤ s.laneSt n →
    exec (.codewordReceive n fec cw) s = .next (s)) ∧
  (∀ (s : State) (n : Lane) (fec : Fec) (cw : Codeword),
    laneNegotiate ≤ s.laneSt n →
    s.laneSt n ≤ laneActive →
    fec ≠ .uncorrectable →
    ∃ u : State, exec (.codewordReceive n fec cw) s = .next ((slotsOf 80 (descramble (s.lane n).descr cw.stream).2).foldl (fun s b => s.takeSlot n s.tt b) u) ∧
    (u.lane n).lastCnt = cw.count.toNat ∧ (u.lane n).descr = (descramble (s.lane n).descr cw.stream).1 ∧ (u.lane n).bad = (if cw.marker ≠ 0xA5C then (s.lane n).bad + 1 else 0) ∧ (u.lane n).rx = (s.lane n).rx ∧ (u.lane n).part = (s.lane n).part ∧
    u.get (HL_FEC_CORR_CNT n) = (if fec = .corrected then min (s.get (HL_FEC_CORR_CNT n) + 1) (2 ^ (HL_FEC_CORR_CNT n).width - 1) else s.get (HL_FEC_CORR_CNT n)) ∧ u.mem = s.mem)

/-- Versions, synchronisation, heartbeats and credits are sent when they fall due, each as one message of its type (R56, R57, R65,
R80, R82, R86). It says that exec of verSend, syncSend, hbSend, credSend each completes with a next state, for every state and
operands that meet hypotheses on these alone. -/
def Obligations.LinkMessagesAreSent : Prop :=
  (∀ (s : State) (n : Lane),
    s.laneSt n = laneNegotiate →
    (s.lane n).headVer = none →
    s.isPeer n = true ∨ s.arch.refuse = false →
    ∀ x, (s.lane n).verTt = some x → x + 125000 ≤ s.tt →
    ∃ t, exec (.verSend n) s = .next t ∧ (∃ b, (t.lane n).tx = (s.lane n).tx ++ [⟨s.tt, b⟩] ∧ b.head? = some 1) ∧ (t.lane n).verTt = some s.tt ∧ (∀ k : Lane, k ≠ n → t.lane k = s.lane k) ∧ t.regs = s.regs ∧ t.mem = s.mem) ∧
  (∀ (s : State) (n : Lane) (a b : Nat),
    s.laneSt n = laneNegotiate →
    (s.lane n).headVer = some (a, b) →
    max 1 a ≤ min (s.get (HL_CFG_VMAX n)) b →
    ∀ x, (s.lane n).verTt = some x → x + 125000 ≤ s.tt →
    ∃ t, exec (.verSend n) s = .next t ∧ t.laneSt n = laneCalibrate ∧ t.get (HL_STAT_VER n) = min (s.get (HL_CFG_VMAX n)) b % 2 ^ (HL_STAT_VER n).width ∧ (t.lane n).verTt = some s.tt ∧ t.mem = s.mem) ∧
  (∀ (s : State) (n : Lane) (frac : Byte),
    laneCalibrate ≤ s.laneSt n →
    s.laneSt n ≤ laneActive →
    s.isPeer n = true ∨ s.arch.refuse = false →
    ∀ x, (s.lane n).syncTt = some x → x + (if s.laneSt n = laneCalibrate then 10 else s.get (HL_SYNC_CFG_PER n)) * 1250 ≤ s.tt →
    ∃ t, exec (.syncSend n frac) s = .next t ∧ (∃ b, (t.lane n).tx = (s.lane n).tx ++ [⟨s.tt, b⟩] ∧ b.head? = some 3) ∧ (t.lane n).syncs = (s.lane n).syncs ++ [⟨(s.lane n).syncId, s.syncStart n * 256 + frac.toNat, s.get (HL_DELAY_DELAY n)⟩] ∧ (t.lane n).syncTt = some s.tt ∧ (t.lane n).syncId = ((s.lane n).syncId + 1) % 65536 ∧ (∀ k : Lane, k ≠ n → t.lane k = s.lane k) ∧ t.regs = s.regs ∧ t.mem = s.mem) ∧
  (∀ (s : State) (n : Lane),
    laneNegotiate ≤ s.laneSt n →
    s.laneSt n ≤ laneActive →
    s.isPeer n = true ∨ s.arch.refuse = false →
    ∀ x, (s.lane n).hbTt = some x → x + s.get (HL_HB_CFG_PER n) * 1250 ≤ s.tt →
    ∃ t, exec (.hbSend n) s = .next t ∧ (∃ b, (t.lane n).tx = (s.lane n).tx ++ [⟨s.tt, b⟩] ∧ b.head? = some 2) ∧ (t.lane n).hbTt = some s.tt ∧ (∀ k : Lane, k ≠ n → t.lane k = s.lane k) ∧ t.regs = s.regs ∧ t.mem = s.mem) ∧
  (∀ (s : State) (n : Lane) (f c : Nat),
    laneNegotiate ≤ s.laneSt n →
    s.laneSt n ≤ laneActive →
    s.isPeer n = false →
    s.arch.refuse = false →
    f = (s.get (HL_FEAT_CRED_LIMIT n) + 2 ^ 32 - (s.lane n).featSent) % 2 ^ 32 →
    c = (s.get (HL_CROP_CRED_LIMIT n) + 2 ^ 32 - (s.lane n).cropSent) % 2 ^ 32 →
    16 ≤ f ∨ 16 ≤ c ∨ (0 < f + c ∧ (s.lane n).credTt + 12500 ≤ s.tt) →
    ∃ t, exec (.credSend n) s = .next t ∧ (∃ b, (t.lane n).tx = (s.lane n).tx ++ [⟨s.tt, b⟩] ∧ b.head? = some 5) ∧ (t.lane n).featSent = s.get (HL_FEAT_CRED_LIMIT n) ∧ (t.lane n).cropSent = s.get (HL_CROP_CRED_LIMIT n) ∧ (t.lane n).credTt = s.tt ∧ (∀ k : Lane, k ≠ n → t.lane k = s.lane k) ∧ t.regs = s.regs ∧ t.mem = s.mem)

/-- Synchronisation responses, heartbeats, status reports and their absence act on their lane (R62, R63, R64, R65, R82, R83). It
says that exec of hbReceive, statReceive, syncResponseReceive, syncResponseMissing, hbTimeout each completes with a next state,
for every state and operands that meet hypotheses on these alone. -/
def Obligations.LinkMessagesAreTaken : Prop :=
  (∀ (s : State) (n : Lane) (m : RxMsg),
    s.rxFront n 2 = some m →
    exec (.hbReceive n) s = .next (s.onLane n (fun l => { l with rx := l.rx.drop 1, hbRx := s.tt, headCap := field m.bytes 10 2 }))) ∧
  (∀ (s : State) (n : Lane) (m : RxMsg),
    s.rxFront n 0x12 = some m →
    ∃ t, exec (.statReceive n) s = .next t ∧ (t.lane n).rx = (s.lane n).rx.drop 1 ∧ t.get (HL_HSTAT_STATE n) = field m.bytes 8 2 ∧ t.get (HL_HSTAT_TEMP n) = field m.bytes 10 2 ∧ t.get (HL_HCOV_LO n) = field m.bytes 24 2 ∧ t.get (HL_HCOV_HI n) = field m.bytes 26 2 ∧ (s.get (HL_HSTAT_STATE n) ≠ field m.bytes 8 2 → t.flag (HL_ISR_STAT_CHG n) = true) ∧ t.mem = s.mem) ∧
  (∀ (s : State) (n : Lane) (frac : Byte) (m : RxMsg) (e : SyncSent),
    s.rxFront n 3 = some m →
    (s.lane n).syncs.find? (fun x => x.id = field m.bytes 18 2) = some e →
    ∃ u : State, exec (.syncResponseReceive n frac) s = .next (u.exchange n (some (((field m.bytes 8 8 * 256 + field m.bytes 16 1 : Nat) : Int) - (e.t1 + e.delay : Nat)))) ∧
    u.get (HL_RTT_RTT n) = unsignedOf 32 (((m.tt * 256 + frac.toNat : Nat) : Int) - e.t1 - field m.bytes 20 4) ∧ u.get (HL_RESID_RESID n) = unsignedOf 32 (((field m.bytes 8 8 * 256 + field m.bytes 16 1 : Nat) : Int) - (e.t1 + e.delay : Nat)) ∧ (u.lane n).rx = (s.lane n).rx.drop 1 ∧ (u.lane n).syncs = (s.lane n).syncs.filter (fun x => x.id != field m.bytes 18 2) ∧ (u.lane n).exch = (s.lane n).exch ∧ u.laneSt n = s.laneSt n ∧ u.mem = s.mem) ∧
  (∀ (s : State) (n : Lane) (e : SyncSent) (r : List SyncSent),
    (s.lane n).syncs = e :: r →
    e.t1 + 6400000 ≤ s.tt * 256 →
    exec (.syncResponseMissing n) s = .next ((s.onLane n (fun l => { l with syncs := r })).exchange n none)) ∧
  (∀ (s : State) (n : Lane),
    s.losable n = false →
    s.flag (HL_STAT_SYNCED n) = true →
    ((s.exchange n none).lane n).exch = (s.lane n).exch + 1 ∧ ((s.exchange n none).lane n).goodRun = 0 ∧ ((s.exchange n none).lane n).overRun = (s.lane n).overRun + 1 ∧ (s.exchange n none).regs = s.regs ∧ (s.exchange n none).mem = s.mem) ∧
  (∀ (s : State) (n : Lane) (x : Int),
    s.laneSt n = laneCalibrate →
    s.flag (HL_STAT_SYNCED n) = false →
    15 ≤ (s.lane n).goodRun →
    2 * x.natAbs ≤ s.get (HL_SYNC_CFG_LIMIT n) →
    s.flag (HL_CFG_IDREQ n) = false →
    (s.exchange n (some x)).flag (HL_STAT_SYNCED n) = true ∧ (s.exchange n (some x)).laneSt n = laneReady ∧ (s.exchange n (some x)).mem = s.mem) ∧
  (∀ (s : State) (n : Lane),
    s.losable n = true →
    s.flag (HL_STAT_SYNCED n) = true →
    3 ≤ (s.lane n).overRun →
    (s.exchange n none).flag (HL_STAT_SYNCED n) = false ∧ (s.exchange n none).flag (HL_ISR_SYNC_LOSS n) = true ∧ (s.exchange n none).flag (HL_ISR_HEAD_LOST n) = true ∧ (s.exchange n none).laneSt n = laneCalibrate ∧ (s.exchange n none).mem = s.mem) ∧
  (∀ (s : State) (n : Lane),
    s.laneSt n = laneActive →
    (s.lane n).hbRx + s.get (HL_HB_CFG_TO_N n) * s.hbJudged n * 1250 ≤ s.tt →
    ∃ t, exec (.hbTimeout n) s = .next t ∧ t.get (HL_LOSS_CNT_CNT n) = min (s.get (HL_LOSS_CNT_CNT n) + 1) (2 ^ (HL_LOSS_CNT_CNT n).width - 1) ∧ t.flag (HL_ISR_HEAD_LOST n) = true ∧ t.laneSt n = laneCalibrate ∧ t.rd64 (HL_DETACH_FN n) = s.fn % 2 ^ 64 ∧ (∃ l, t.fcuIn = s.fcuIn ++ ⟨F_HL_HEAD_LOST, n, false, 0, s.tt⟩ :: l) ∧ t.mem = s.mem) ∧
  (∀ (s : State) (n : Lane),
    s.losable n = false →
    exec (.hbTimeout n) s = .next (s))

/-- Admission of a READY lane and detachment are staged for the next boundary; admission of another lane is refused and flagged
(R92, R93, R46, R375). It says that exec of hlAdmit, hlDetach each completes with a next state, for every state and operands
that meet hypotheses on these alone. -/
def Obligations.LanesAreAdmittedAndDetachedAtTheNextBoundary : Prop :=
  (∀ (s : State) (n : Lane),
    s.laneSt n = laneReady →
    s.reaches 0 (HL_CTRL n) = true →
    s.stage.find? (fun e => e.off = HL_CTRL n) = none →
    s.stagedNext < 1024 →
    exec (.hlAdmit n 0) s = .next ({ s with stage := s.stage ++ [⟨HL_CTRL n, 1, 0, s.stagings⟩], stagings := s.stagings + 1 })) ∧
  (∀ (s : State) (n : Lane),
    s.laneSt n ≠ laneReady →
    s.reaches 0 (HL_CTRL n) = true →
    exec (.hlAdmit n 0) s = .next (s.putFlag (HL_STAT_CFG_REJ n) true)) ∧
  (∀ (s : State) (n : Lane),
    s.reaches 0 (HL_CTRL n) = true →
    s.stage.find? (fun e => e.off = HL_CTRL n) = none →
    s.stagedNext < 1024 →
    exec (.hlDetach n 0) s = .next ({ s with stage := s.stage ++ [⟨HL_CTRL n, 2, 0, s.stagings⟩], stagings := s.stagings + 1 })) ∧
  (∀ (s : State) (n : Lane) (e : Staged),
    s.reaches 0 (HL_CTRL n) = true →
    s.stage.find? (fun e => e.off = HL_CTRL n) = some e →
    exec (.hlDetach n 0) s = .next ({ s with stage := s.stage.filter (fun e => e.off ≠ HL_CTRL n) ++ [⟨HL_CTRL n, mergeStaged (HL_CTRL n) e.val 2, 0, s.stagings⟩], stagings := s.stagings + 1 }) ∧ (s.laneSt n = laneReady → exec (.hlAdmit n 0) s = .next ({ s with stage := s.stage.filter (fun e => e.off ≠ HL_CTRL n) ++ [⟨HL_CTRL n, mergeStaged (HL_CTRL n) e.val 1, 0, s.stagings⟩], stagings := s.stagings + 1 }))) ∧
  (∀ (s : State) (n : Lane) (m : Master),
    m ≠ 0 →
    s.reaches m (HL_CTRL n) = true →
    exec (.hlAdmit n m) s = .next (s.refusedBy m (HL_CTRL n)) ∧ exec (.hlDetach n m) s = .next (s.refusedBy m (HL_CTRL n)))

/-- A mailbox operation sends one CTRL request of its OP and is BUSY until the response, or for 100 us; CMB_RESET takes the lane
DOWN (R88, R89, R447, R90, R91). It says that exec of hlCmbRead, hlCmbWrite, hlCmbReset, hlCmbSetPort, ctrlResponseReceive,
ctrlResponseTimeout each completes with a next state, for every state and operands that meet hypotheses on these alone. -/
def Obligations.TheMailboxAsksTheHead : Prop :=
  (∀ (s : State) (n : Lane),
    s.reaches 0 (HL_CMB_CTRL n) = true →
    s.flag (HL_CMB_CTRL_BUSY n) = false →
    s.isPeer n = true ∨ s.arch.refuse = false →
    laneNegotiate ≤ s.laneSt n →
    s.laneSt n ≤ laneActive →
    ∃ t, exec (.hlCmbRead n 0) s = .next t ∧ t.get (HL_CMB_CTRL_OP n) = 1 ∧ t.flag (HL_CMB_CTRL_BUSY n) = true ∧ (t.lane n).mailbox = some ((s.lane n).ctrlId, s.tt) ∧ (t.lane n).ctrlId = ((s.lane n).ctrlId + 1) % 65536 ∧ (∃ b, (t.lane n).tx = (s.lane n).tx ++ [⟨s.tt, b⟩] ∧ b.head? = some 6 ∧ field b 10 1 = 1) ∧ (∀ k : Lane, k ≠ n → t.lane k = s.lane k) ∧ t.mem = s.mem) ∧
  (∀ (s : State) (n : Lane),
    s.reaches 0 (HL_CMB_CTRL n) = true →
    s.flag (HL_CMB_CTRL_BUSY n) = false →
    s.isPeer n = true ∨ s.arch.refuse = false →
    laneNegotiate ≤ s.laneSt n →
    s.laneSt n ≤ laneActive →
    ∃ t, exec (.hlCmbWrite n 0) s = .next t ∧ t.get (HL_CMB_CTRL_OP n) = 2 ∧ t.flag (HL_CMB_CTRL_BUSY n) = true ∧ (t.lane n).mailbox = some ((s.lane n).ctrlId, s.tt) ∧ (t.lane n).ctrlId = ((s.lane n).ctrlId + 1) % 65536 ∧ (∃ b, (t.lane n).tx = (s.lane n).tx ++ [⟨s.tt, b⟩] ∧ b.head? = some 6 ∧ field b 10 1 = 2) ∧ (∀ k : Lane, k ≠ n → t.lane k = s.lane k) ∧ t.mem = s.mem) ∧
  (∀ (s : State) (n : Lane),
    s.reaches 0 (HL_CMB_CTRL n) = true →
    s.flag (HL_CMB_CTRL_BUSY n) = false →
    s.isPeer n = true ∨ s.arch.refuse = false →
    laneNegotiate ≤ s.laneSt n →
    s.laneSt n ≤ laneActive →
    ∃ t, exec (.hlCmbReset n 0) s = .next t ∧ t.get (HL_CMB_CTRL_OP n) = 3 ∧ t.flag (HL_CMB_CTRL_BUSY n) = true ∧ (t.lane n).mailbox = some ((s.lane n).ctrlId, s.tt) ∧ (t.lane n).ctrlId = ((s.lane n).ctrlId + 1) % 65536 ∧ (∃ b, (t.lane n).tx = (s.lane n).tx ++ [⟨s.tt, b⟩] ∧ b.head? = some 6 ∧ field b 10 1 = 3) ∧ (∀ k : Lane, k ≠ n → t.lane k = s.lane k) ∧ t.mem = s.mem ∧ t.laneSt n = laneDown) ∧
  (∀ (s : State) (n : Lane),
    s.reaches 0 (HL_CMB_CTRL n) = true →
    s.flag (HL_CMB_CTRL_BUSY n) = false →
    s.isPeer n = true ∨ s.arch.refuse = false →
    laneNegotiate ≤ s.laneSt n →
    s.laneSt n ≤ laneActive →
    ∃ t, exec (.hlCmbSetPort n 0) s = .next t ∧ t.get (HL_CMB_CTRL_OP n) = 6 ∧ t.flag (HL_CMB_CTRL_BUSY n) = true ∧ (t.lane n).mailbox = some ((s.lane n).ctrlId, s.tt) ∧ (t.lane n).ctrlId = ((s.lane n).ctrlId + 1) % 65536 ∧ (∃ b, (t.lane n).tx = (s.lane n).tx ++ [⟨s.tt, b⟩] ∧ b.head? = some 6 ∧ field b 10 1 = 6) ∧ (∀ k : Lane, k ≠ n → t.lane k = s.lane k) ∧ t.mem = s.mem) ∧
  (∀ (s : State) (n : Lane),
    s.reaches 0 (HL_CMB_CTRL n) = true →
    s.flag (HL_CMB_CTRL_BUSY n) = true →
    exec (.hlCmbRead n 0) s = .next (s.put (HL_CMB_CTRL_OP n) 1) ∧ exec (.hlCmbWrite n 0) s = .next (s.put (HL_CMB_CTRL_OP n) 2) ∧ exec (.hlCmbReset n 0) s = .next (s.put (HL_CMB_CTRL_OP n) 3) ∧ exec (.hlCmbSetPort n 0) s = .next (s.put (HL_CMB_CTRL_OP n) 6)) ∧
  (∀ (s : State) (n : Lane) (m : Master),
    m ≠ 0 →
    s.reaches m (HL_CMB_CTRL n) = true →
    exec (.hlCmbRead n m) s = .next (s.refusedBy m (HL_CMB_CTRL n)) ∧ exec (.hlCmbWrite n m) s = .next (s.refusedBy m (HL_CMB_CTRL n)) ∧ exec (.hlCmbReset n m) s = .next (s.refusedBy m (HL_CMB_CTRL n)) ∧ exec (.hlCmbSetPort n m) s = .next (s.refusedBy m (HL_CMB_CTRL n))) ∧
  (∀ (s : State) (n : Lane) (m : RxMsg) (tt : Nat),
    s.rxFront n 6 = some m →
    m.bytes.length = 96 →
    (s.lane n).mailbox = some (field m.bytes 8 2, tt) →
    ∃ t, exec (.ctrlResponseReceive n) s = .next t ∧ t.flag (HL_CMB_CTRL_BUSY n) = false ∧ t.get (HL_CMB_CTRL_RSP_STATUS n) = field m.bytes 11 1 ∧ t.flag (HL_ISR_CMB_DONE n) = true ∧ (∀ k, k < 16 → t.get (HL_CMB_DATA_DATA n k) = field m.bytes (16 + 4 * k) 4) ∧ (t.lane n).mailbox = none ∧ (t.lane n).rx = (s.lane n).rx.drop 1 ∧ (∀ k : Lane, k ≠ n → t.lane k = s.lane k) ∧ t.mem = s.mem) ∧
  (∀ (s : State) (n : Lane) (id tt : Nat),
    (s.lane n).mailbox = some (id, tt) →
    tt + 125000 ≤ s.tt →
    (s.lane n).chal = none →
    ∃ t, exec (.ctrlResponseTimeout n) s = .next t ∧ t.flag (HL_CMB_CTRL_BUSY n) = false ∧ t.get (HL_CMB_CTRL_RSP_STATUS n) = 0xFF ∧ t.flag (HL_ISR_CMB_DONE n) = true ∧ (t.lane n).mailbox = none ∧ (∀ k, t.get (HL_CMB_DATA_DATA n k) = s.get (HL_CMB_DATA_DATA n k)) ∧ (∀ k : Lane, k ≠ n → t.lane k = s.lane k) ∧ t.mem = s.mem)

/-- A CHALLENGE response is kept, checked against the allow list, the signature and the 2 ms, and a lane without response fails
after 100 us (R90, R88, R92, R91, R420). It says that exec of challengeResponseReceive, challengeCheckDone, ctrlResponseTimeout
each completes with a next state, for every state and operands that meet hypotheses on these alone. -/
def Obligations.HeadsAreIdentified : Prop :=
  (∀ (s : State) (n : Lane) (m : RxMsg) (c : Machine.Challenge),
    s.rxFront n 6 = some m →
    m.bytes.length = 7248 →
    (s.lane n).chal = some c →
    c.id = field m.bytes 8 2 →
    c.resp = none →
    exec (.challengeResponseReceive n) s = .next ((s.onLane n (fun l => { l with rx := l.rx.drop 1, chal := some { c with resp := some m } })).syncEngine)) ∧
  (∀ (s u : State) (n : Lane) (m : RxMsg) (c : Machine.Challenge),
    s.served (.head n) = some u →
    (s.lane n).chal = some c →
    c.resp = some m →
    s.laneSt n = laneIdentify →
    ∃ t, exec (.challengeCheckDone n) s = .next t ∧ (t.lane n).chal = none ∧ t.sag.headCheck = s.tt ∧
    (let r := u.busRead 13 (s.rd64 HL_IDLIST_BASE) (64 * s.get HL_IDLIST_N_N)
     let key := (m.bytes.drop 16).take 2592
     if (∃ i, i < s.get HL_IDLIST_N_N ∧ (r.2.1.drop (64 * i)).take 64 = sha512 key) ∧ r.2.2.ok = true ∧
       Config.mldsaVerify key (sha512 (c.req ++ natLe 1 n.val ++ s.serial n)) ((m.bytes.drop 2608).take 4627) = true ∧
       s.tt ≤ max m.tt s.sag.headCheck + 2500000
     then t.laneSt n = laneReady ∧ t.flag (HL_STAT_ID_OK n) = true
     else t.laneSt n = laneFailed ∧ t.flag (HL_ISR_ID_FAIL n) = true)) ∧
  (∀ (s : State) (n : Lane),
    s.served (.head n) = none →
    exec (.challengeCheckDone n) s = .next (s)) ∧
  (∀ (s : State) (n : Lane) (c : Machine.Challenge),
    (s.lane n).chal = some c →
    c.resp = none →
    c.sent + 125000 ≤ s.tt →
    (s.lane n).mailbox = none →
    ∃ t, exec (.ctrlResponseTimeout n) s = .next t ∧ t.laneSt n = laneFailed ∧ t.flag (HL_ISR_ID_FAIL n) = true ∧ (t.lane n).chal = none ∧ t.fcuIn = s.fcuIn ++ [⟨F_HL_ID_FAIL, n, false, 0, s.tt⟩] ∧ (∀ k : Lane, k ≠ n → t.lane k = s.lane k) ∧ t.mem = s.mem)

/-- A FEAT within its credit hands its records to the Track Engine in order; one beyond it is dropped and flagged; eight missing
captures lose a head (R59, R72, R73, R75, R76, R80). It says that exec of featReceive, captureMiss each completes with a next
state, for every state and operands that meet hypotheses on these alone. -/
def Obligations.FeaturesAreHandedOver : Prop :=
  (∀ (s : State) (n : Lane) (m : RxMsg),
    s.rxFront n 0x10 = some m →
    m.bytes.length ≠ 40 + 32 * field m.bytes 27 1 →
    exec (.featReceive n) s = .next ((s.rxPop n).put (HL_CRC_ERR_CNT n) (min (s.get (HL_CRC_ERR_CNT n) + 1) (2 ^ (HL_CRC_ERR_CNT n).width - 1)))) ∧
  (∀ (s : State) (n : Lane) (m : RxMsg),
    s.rxFront n 0x10 = some m →
    m.bytes.length = 40 + 32 * field m.bytes 27 1 →
    creditOk (s.lane n).featUsed (divUp m.bytes.length 64) (s.get (HL_FEAT_CRED_LIMIT n)) = false →
    ∃ t, exec (.featReceive n) s = .next t ∧ t.get (HL_CREDIT_VIOL_CNT n) = min (s.get (HL_CREDIT_VIOL_CNT n) + 1) (2 ^ (HL_CREDIT_VIOL_CNT n).width - 1) ∧ t.flag (HL_ISR_CREDIT_VIOL n) = true ∧ (t.lane n).featUsed = (s.lane n).featUsed ∧ (t.lane n).rx = (s.lane n).rx.drop 1 ∧ (∃ l, t.fcuIn = s.fcuIn ++ l ++ [⟨F_HL_CREDIT_VIOL, n, false, 0, s.tt⟩]) ∧ t.te = s.te ∧ t.mem = s.mem) ∧
  (∀ (s : State) (n : Lane) (m : RxMsg) (c : Capture),
    s.rxFront n 0x10 = some m →
    m.bytes.length = 40 + 32 * field m.bytes 27 1 →
    creditOk (s.lane n).featUsed (divUp m.bytes.length 64) (s.get (HL_FEAT_CRED_LIMIT n)) = true →
    (s.lane n).caps.find? (fun c => c.no % 65536 = field m.bytes 24 2) = some c →
    s.rd64 (HL_ADMIT_FN n) < field m.bytes 16 8 →
    (s.lane n).detached = true → field m.bytes 16 8 ≤ s.rd64 (HL_DETACH_FN n) →
    field m.bytes 16 8 ≤ s.fn + 1 →
    c.got + field m.bytes 27 1 ≤ 1024 →
    (field m.bytes 26 1).testBit 2 = false →
    c.trunc = false →
    ∃ t, exec (.featReceive n) s = .next t ∧ (∃ l : List RecIn, t.te.incoming = s.te.incoming ++ l ∧ l.length = field m.bytes 27 1 ∧ (∀ r ∈ l, r.lane = n.val ∧ r.dom = s.get (HL_CFG_DOM n) ∧ r.surf = s.get (HL_CFG_SURF n) ∧ r.cap = c.no ∧ r.fn = field m.bytes 16 8 ∧ r.tt = field m.bytes 8 8) ∧ l.map (fun r => r.pos) = (List.range (field m.bytes 27 1)).map (fun i => c.got + i)) ∧ (t.lane n).featUsed = ((s.lane n).featUsed + divUp m.bytes.length 64) % 2 ^ 32 ∧ t.get (HL_REC_CNT_CNT n) = min (s.get (HL_REC_CNT_CNT n) + field m.bytes 27 1) (2 ^ (HL_REC_CNT_CNT n).width - 1) ∧ t.mem = s.mem) ∧
  (∀ (s : State) (n : Lane) (m : RxMsg),
    s.rxFront n 0x10 = some m →
    m.bytes.length = 40 + 32 * field m.bytes 27 1 →
    creditOk (s.lane n).featUsed (divUp m.bytes.length 64) (s.get (HL_FEAT_CRED_LIMIT n)) = true →
    (s.lane n).caps.find? (fun c => c.no % 65536 = field m.bytes 24 2) = none →
    s.foreignCap (field m.bytes 16 8) = true →
    s.rd64 (HL_ADMIT_FN n) < field m.bytes 16 8 →
    (s.lane n).detached = true → field m.bytes 16 8 ≤ s.rd64 (HL_DETACH_FN n) →
    field m.bytes 16 8 ≤ s.fn + 1 →
    (s.foreignOf n m.bytes).got + field m.bytes 27 1 ≤ 1024 →
    (field m.bytes 26 1).testBit 2 = false →
    ∃ t, exec (.featReceive n) s = .next t ∧ (∃ l : List RecIn, t.te.incoming = s.te.incoming ++ l ∧ l.length = field m.bytes 27 1 ∧ (∀ r ∈ l, r.lane = n.val ∧ r.cap = (s.foreignOf n m.bytes).no ∧ r.fn = field m.bytes 16 8) ∧ l.map (fun r => r.pos) = (List.range (field m.bytes 27 1)).map (fun i => (s.foreignOf n m.bytes).got + i)) ∧ (t.lane n).featUsed = ((s.lane n).featUsed + divUp m.bytes.length 64) % 2 ^ 32 ∧ t.mem = s.mem) ∧
  (∀ (s : State) (n : Lane) (m : RxMsg),
    s.rxFront n 0x10 = some m →
    m.bytes.length = 40 + 32 * field m.bytes 27 1 →
    creditOk (s.lane n).featUsed (divUp m.bytes.length 64) (s.get (HL_FEAT_CRED_LIMIT n)) = true →
    (s.lane n).caps.find? (fun c => c.no % 65536 = field m.bytes 24 2) = none →
    s.foreignCap (field m.bytes 16 8) = false →
    ∃ t, exec (.featReceive n) s = .next t ∧ t.te = s.te ∧ t.get (HL_REC_DROP_CNT n) = min (s.get (HL_REC_DROP_CNT n) + field m.bytes 27 1) (2 ^ (HL_REC_DROP_CNT n).width - 1) ∧ (field m.bytes 27 1 ≠ 0 → t.flag (HL_ISR_REC_DROP n) = true) ∧ (t.lane n).caps = (s.lane n).caps ∧ t.mem = s.mem) ∧
  (∀ (s : State) (n : Lane) (c : Capture),
    (s.lane n).caps.find? (fun c => decide (c.tt + 1250000 ≤ s.tt)) = some c →
    (s.lane n).missRun + 1 < 8 →
    ∃ t, exec (.captureMiss n) s = .next t ∧ (t.lane n).caps = (s.lane n).caps.filter (fun x => x.no != c.no) ∧ (t.lane n).missRun = (s.lane n).missRun + 1 ∧ t.get (HL_CAP_MISS_CNT n) = min (s.get (HL_CAP_MISS_CNT n) + 1) (2 ^ (HL_CAP_MISS_CNT n).width - 1) ∧ t.flag (HL_ISR_CAP_MISS n) = true ∧ t.fcuIn = s.fcuIn ++ [⟨F_HL_CAP_MISS, n, false, 0, s.tt⟩] ∧ t.laneSt n = s.laneSt n ∧ t.mem = s.mem) ∧
  (∀ (s : State) (n : Lane) (c : Capture),
    (s.lane n).caps.find? (fun c => decide (c.tt + 1250000 ≤ s.tt)) = some c →
    7 ≤ (s.lane n).missRun →
    s.laneSt n = laneActive →
    ∃ t, exec (.captureMiss n) s = .next t ∧ t.flag (HL_ISR_CAP_MISS n) = true ∧ t.flag (HL_ISR_HEAD_LOST n) = true ∧ t.laneSt n = laneCalibrate ∧ t.get (HL_LOSS_CNT_CNT n) = min (s.get (HL_LOSS_CNT_CNT n) + 1) (2 ^ (HL_LOSS_CNT_CNT n).width - 1) ∧ t.mem = s.mem) ∧
  (∀ (s : State) (n : Lane),
    (s.lane n).caps.find? (fun c => decide (c.tt + 1250000 ≤ s.tt)) = none →
    exec (.captureMiss n) s = .next (s))

/-- A CROP within its credit is written to its slot and its credits return; one beyond it is dropped; a crop incomplete after 1 ms
is dropped (R59, R77, R78, R80, R81). It says that exec of cropReceive, cropTimeout each completes with a next state, for every
state and operands that meet hypotheses on these alone. -/
def Obligations.CropsAreWrittenOrDropped : Prop :=
  (∀ (s : State) (n : Lane) (m : RxMsg),
    s.rxFront n 0x11 = some m →
    m.bytes.length ≠ (40 + field m.bytes 24 2 + 7) / 8 * 8 →
    exec (.cropReceive n) s = .next ((s.rxPop n).put (HL_CRC_ERR_CNT n) (min (s.get (HL_CRC_ERR_CNT n) + 1) (2 ^ (HL_CRC_ERR_CNT n).width - 1)))) ∧
  (∀ (s : State) (n : Lane) (m : RxMsg),
    s.rxFront n 0x11 = some m →
    m.bytes.length = (40 + field m.bytes 24 2 + 7) / 8 * 8 →
    creditOk (s.lane n).cropUsed (divUp m.bytes.length 64) (s.get (HL_CROP_CRED_LIMIT n)) = false →
    ∃ t, exec (.cropReceive n) s = .next t ∧ t.get (HL_CREDIT_VIOL_CNT n) = min (s.get (HL_CREDIT_VIOL_CNT n) + 1) (2 ^ (HL_CREDIT_VIOL_CNT n).width - 1) ∧ t.flag (HL_ISR_CREDIT_VIOL n) = true ∧ (t.lane n).cropUsed = (s.lane n).cropUsed ∧ (t.lane n).rx = (s.lane n).rx.drop 1 ∧ t.mem = s.mem) ∧
  (∀ (s : State) (n : Lane) (m : RxMsg),
    s.rxFront n 0x11 = some m →
    m.bytes.length = (40 + field m.bytes 24 2 + 7) / 8 * 8 →
    creditOk (s.lane n).cropUsed (divUp m.bytes.length 64) (s.get (HL_CROP_CRED_LIMIT n)) = true →
    exec (.cropReceive n) s = .next (let u := ((s.rxPop n).checkSeq n 0x11 m.bytes).onLane n (fun l => { l with cropUsed := (l.cropUsed + divUp m.bytes.length 64) % 2 ^ 32 })
      let v := if s.flag (HL_CFG_CROP_EN n) = true ∧ s.get (HL_CROP_SLOTS_N n) ≠ 0 ∧ s.cropOk n m.bytes = true then u.takeFragment n m.bytes else u
      v.put (HL_CROP_CRED_LIMIT n) (v.get (HL_CROP_CRED_LIMIT n) + divUp m.bytes.length 64))) ∧
  (∀ (s : State) (n : Lane) (k : Nat) (f : CropFill),
    (s.lane n).fills.find? (fun f => f.slot = k) = some f →
    f.since + 1250000 ≤ s.tt →
    ∃ t, exec (.cropTimeout n k) s = .next t ∧ (t.lane n).fills = (s.lane n).fills.filter (fun f => f.slot != k) ∧ t.flag (HL_ISR_CROP_DROP n) = true ∧ t.mem = (s.setCropState n k 3).mem ∧ t.get (HL_CROP_DROP_CNT n) = min ((s.setCropState n k 3).get (HL_CROP_DROP_CNT n) + 1) (2 ^ (HL_CROP_DROP_CNT n).width - 1) ∧ (∃ l, t.fcuIn = l ++ [⟨F_HL_CROP_DROP, n, false, 0, s.tt⟩])) ∧
  (∀ (s : State) (n : Lane) (k : Nat),
    (s.lane n).fills.find? (fun f => f.slot = k) = none →
    exec (.cropTimeout n k) s = .next (s))

/-- A record handed over is staged with its batch firing and its credits return; batches are applied in the order of R105; decisions
are buffered and time out (R98, R99, R105, R106, R118, R119). It says that exec of teStageRecord, teApplyBatch, teDecWrite,
teDecisionTimeout each completes with a next state, for every state and operands that meet hypotheses on these alone. -/
def Obligations.TheTrackEngineStagesAndApplies : Prop :=
  (∀ (s : State) (r : RecIn) (l : List RecIn),
    s.te.incoming = r :: l →
    s.stagedCount < 4194304 →
    s.flag TE_CTRL_EN = true →
    s.lateRecord r (s.batchFiring r) = false →
    ∃ t, exec (.teStageRecord) s = .next t ∧ t.te.incoming = l ∧ t.te.staged = s.te.staged ++ [{ r with batch := s.batchFiring r }] ∧ t.get (HL_FEAT_CRED_LIMIT r.lane) = (s.get (HL_FEAT_CRED_LIMIT r.lane) + r.credit) % 2 ^ (HL_FEAT_CRED_LIMIT r.lane).width ∧ t.fcuIn = s.fcuIn ∧ t.mem = s.mem) ∧
  (∀ (s : State) (r : RecIn) (l : List RecIn),
    s.te.incoming = r :: l →
    s.stagedCount < 4194304 →
    s.flag TE_CTRL_EN = true →
    s.lateRecord r (s.batchFiring r) = true →
    ∃ t, exec (.teStageRecord) s = .next t ∧ t.te.incoming = l ∧ t.te.staged = s.te.staged ∧ t.get TE_LATE_CNT_CNT = min (s.get (TE_LATE_CNT_CNT) + 1) (2 ^ (TE_LATE_CNT_CNT).width - 1) ∧ t.fcuIn = s.fcuIn ++ [⟨F_TE_LATE_REC, 0, false, 0, s.tt⟩] ∧ t.mem = s.mem) ∧
  (∀ (s : State) (r : RecIn) (f : Nat),
    s.get TW_STAT_ROLE ≠ 1 →
    s.lateRecord r f = decide (f ≤ s.te.sealedTo)) ∧
  (∀ (s : State) (r : RecIn) (l : List RecIn),
    s.te.incoming = r :: l →
    s.stagedCount < 4194304 →
    s.flag TE_CTRL_EN = false →
    exec (.teStageRecord) s = .next ((s.onTe (fun x => { x with incoming := l })).put (HL_FEAT_CRED_LIMIT r.lane) (s.get (HL_FEAT_CRED_LIMIT r.lane) + r.credit))) ∧
  (∀ (s : State) (b : Batch) (l : List Batch),
    s.get TW_STAT_ROLE ≠ 2 →
    s.te.app = none →
    s.te.batches = b :: l →
    s.flag TE_STAT_POOL_PAUSE = false →
    ∃ a : Application, (s.beginBatch b).te.app = some a ∧ a.batch = b ∧ a.admins = s.te.adminDoms ∧ (s.beginBatch b).te.batches = l ∧
    a.items = s.te.sealedIds.map Item.free ++ (prevailing ((s.te.decsClosed.filter (fun e => decide (e.1 ≤ b.fn + 2))).map (fun e => e.2))).map Item.decide ++
      [Item.timeouts, Item.seals] ++ b.recs.map Item.record ++ [Item.edges] ++
      (List.range 8).map (fun k => Item.closing (k / 2) (k % 2)) ++ [Item.finish] ∧
    exec .teApplyBatch s = .next ((s.beginBatch b).runItems (a.items.length + 8 * (s.te.live.length + b.recs.length) + 64) a a.items [])) ∧
  (∀ (s : State) (a : Application),
    s.get TW_STAT_ROLE ≠ 2 →
    s.te.app = some a →
    s.flag TE_STAT_POOL_PAUSE = false →
    exec (.teApplyBatch) s = .next (s.runItems (a.items.length + 8 * (s.te.live.length + a.batch.recs.length) + 64) a a.items [])) ∧
  (∀ (s : State) (n : Nat) (e : List Int) (l : List Batch),
    s.get TW_STAT_ROLE ≠ 2 →
    s.te.app = none →
    s.te.batches = ⟨n, [], [], e⟩ :: l →
    s.flag TE_STAT_POOL_PAUSE = false →
    s.te.sealedIds = [] →
    s.te.decsClosed = [] →
    s.te.aux = [] →
    s.te.live = [] →
    ∃ t, exec (.teApplyBatch) s = .next t ∧ t.te.app = none ∧ t.te.batches = l ∧ t.te.hashes = ((n, sha512 []) :: s.te.hashes).take 16 ∧ t.rd64 TE_BATCH_FN = n % 2 ^ 64 ∧ t.get TE_BATCH_RECS_N = 0 ∧ t.flag TE_STAT_APPLYING = false ∧ t.srcIn = s.srcIn ++ [128] ∧ t.fcuIn = s.fcuIn ∧ t.mem = s.mem) ∧
  (∀ (s : State),
    (s.te.app = none ∧ s.te.batches = []) ∨ (s.te.app.isSome = true ∧ s.flag TE_STAT_POOL_PAUSE = true) →
    exec (.teApplyBatch) s = .next (s)) ∧
  (∀ (s : State) (m : Master) (v : Word),
    m.val < 8 →
    s.te.decs.length < 4096 →
    s.reaches m (TE_DEC) = true →
    exec (.teDecWrite m v) s = .next ((s.onTe (fun x => { x with decs := x.decs ++ [⟨bitsOf v.toNat 0 20, m.val, bitsOf v.toNat 20 2, bitsOf v.toNat 24 8⟩] })).put TE_DEC_PEND_N (s.te.decs.length + 1))) ∧
  (∀ (s : State) (m : Master) (v : Word),
    m.val < 8 →
    4096 ≤ s.te.decs.length →
    s.reaches m (TE_DEC) = true →
    exec (.teDecWrite m v) s = .next (((s.put TE_DEC_OVF_CNT (min (s.get (TE_DEC_OVF_CNT) + 1) (2 ^ (TE_DEC_OVF_CNT).width - 1))).raiseSrc 136).raise F_TE_DEC_OVF 0)) ∧
  (∀ (s : State) (m : Master) (v : Word),
    8 ≤ m.val →
    s.reaches m (TE_DEC) = true →
    exec (.teDecWrite m v) s = .next (s.refusedBy m (TE_DEC))) ∧
  (∀ (s : State) (id : TrackId) (a : Application),
    s.get TW_STAT_ROLE ≠ 2 →
    s.beginDue.te.app = some a →
    s.flag TE_STAT_POOL_PAUSE = false →
    s.beginDue.timesOutIn a id.val = true →
    exec (.teDecisionTimeout id) s = .next (s.beginDue.runItems (s.beginDue.itemFuel a) a a.stepTwo.1 a.stepTwo.2)) ∧
  (∀ (s : State) (id : TrackId) (b : Batch) (l : List Batch) (p h : Nat),
    s.get TW_STAT_ROLE ≠ 2 →
    s.te.app = none →
    s.te.batches = b :: l →
    s.flag TE_STAT_POOL_PAUSE = false →
    s.te.sealedIds = [] →
    s.te.decsClosed = [] →
    s.te.aux = [(id.val, ⟨some p, h⟩)] →
    s.trackSt id.val = trkClosed →
    p + s.get TE_DEC_TO_FIRINGS ≤ b.fn + 2 →
    16 ≤ s.poolFree →
    ∃ t, exec (.teDecisionTimeout id) s = .next t ∧ t = (((s.beginBatch b).timeoutTrack id.val).cost 2).setItems ([Item.seals] ++ b.recs.map Item.record ++ [Item.edges] ++
      (List.range 8).map (fun k => Item.closing (k / 2) (k % 2)) ++ [Item.finish]) ∧ lookup t.te.aux id.val = none ∧ t.te.decs = s.te.decs ∧ t.te.batches = l) ∧
  (∀ (s : State) (id : TrackId),
    s.trackSt id.val ≠ trkClosed ∨ (s.te.app = none ∧ s.te.batches = []) →
    exec (.teDecisionTimeout id) s = .next (s))

/-- Jobs end with their results, overruns and tile faults end them with their status, and rings, cancels, kernel loads and
self-tests act as their registers say (R135, R142, R145, R146, R148, R132). It says that exec of veJobEnd, veOverrun,
veTileFault, veSqTailWrite, veCancelGo, veKloadGo, veKloadUnload, veKloadDone, vtReturn, vtSelfTestDone each completes with a
next state, for every state and operands that meet hypotheses on these alone. -/
def Obligations.TheVerifyEngineRunsItsCommands : Prop :=
  (∀ (s : State) (n : Tile) (x : Slot_),
    s.running n = some x →
    exec (.veJobEnd n) s = .next ((s.put (VT_JOB_CNT_CNT n) (min (s.get (VT_JOB_CNT_CNT n) + 1) (2 ^ (VT_JOB_CNT_CNT n).width - 1))).runJob n x.job)) ∧
  (∀ (s u : State) (n : Tile) (x : Slot_) (b aux : Bytes),
    s.running n = some x →
    s.fetchJob n x.job = (u, some (b, aux)) →
    x.job.outEn = false →
    s.runJob n x.job = u.endJob n 0 (u.runKernel x.job b aux).1 false) ∧
  (∀ (s u : State) (n : Tile) (x : Slot_) (b aux : Bytes),
    s.running n = some x →
    s.fetchJob n x.job = (u, some (b, aux)) →
    x.job.outEn = true →
    s.runJob n x.job = (let w := u.busWrite 9 x.job.outAddr (u.runKernel x.job b aux).2
      if w.2.ok = true then w.1.endJob n 0 (u.runKernel x.job b aux).1 true else w.1.memErr n)) ∧
  (∀ (s u : State) (n : Tile) (x : Slot_),
    s.running n = some x →
    s.fetchJob n x.job = (u, none) →
    s.runJob n x.job = u) ∧
  (∀ (s : State) (n : Tile) (x : Slot_) (st : Nat) (res : Bytes) (o : Bool),
    s.running n = some x →
    (s.endJob n st res o).ve.slots = s.ve.slots.map (fun y => if y.ix = x.ix then { y with status := some st, result := res, out := o } else y) ∧ (s.endJob n st res o).mem = s.mem ∧ (s.endJob n st res o).regs = s.regs) ∧
  (∀ (s : State) (n : Tile) (x : Slot_),
    s.running n = some x →
    0x80 ≤ x.job.kernel →
    ∃ t, exec (.veOverrun n) s = .next t ∧ t.ve.slots = s.ve.slots.map (fun y => if y.ix = x.ix then { y with status := some 1, result := List.replicate 12 0, out := false } else y) ∧ t.get VE_OVERRUN_CNT_CNT = min (s.get (VE_OVERRUN_CNT_CNT) + 1) (2 ^ (VE_OVERRUN_CNT_CNT).width - 1) ∧ t.get (VT_JOB_CNT_CNT n) = min (s.get (VT_JOB_CNT_CNT n) + 1) (2 ^ (VT_JOB_CNT_CNT n).width - 1) ∧ t.fcuIn = s.fcuIn ++ [⟨F_VE_OVERRUN, 0, false, 0, s.tt⟩] ∧ t.mem = s.mem) ∧
  (∀ (s : State) (n : Tile) (x : Slot_),
    s.running n = some x →
    x.job.kernel < 0x80 →
    exec (.veOverrun n) s = .next (s)) ∧
  (∀ (s : State) (n : Tile),
    s.running n = none →
    exec (.veJobEnd n) s = .next (s) ∧ exec (.veOverrun n) s = .next (s)) ∧
  (∀ (s : State) (n : Tile),
    n.val < s.part.tiles →
    ∃ t, exec (.veTileFault n) s = .next t ∧ n.val ∈ t.ve.out ∧ n.val ∉ t.ve.back ∧ n.val ∉ t.ve.testing ∧ t.flag (VT_STAT_FAULT n) = true ∧ t.ve.slots = s.ve.slots.map (fun x => if x.tile = some n.val ∧ x.status.isNone then { x with status := some 5 } else x) ∧ t.fcuIn = s.fcuIn ++ [⟨F_VE_TILE_FAULT, 0, false, 0, s.tt⟩] ∧ t.srcIn = s.srcIn ++ [217] ∧ t.mem = s.mem) ∧
  (∀ (s : State) (g : Group) (m : Master) (v : Word),
    s.reaches m (VE_SQ_TAIL g) = true →
    m.val = 0 ∨ m.val = g.val →
    exec (.veSqTailWrite g m v) s = .next (if 2 ^ (s.get (VE_SQ_SIZE_LOG2 g) + 4) < (v.toNat + 2 ^ 32 - s.get (VE_SQ_HEAD_CNT g)) % 2 ^ 32 then s.putFlag (VE_G_STAT_CFG_REJ g) true else s.wr (VE_SQ_TAIL g) v)) ∧
  (∀ (s : State) (g : Group) (m : Master) (v : Word),
    s.reaches m (VE_CANCEL_CTRL g) = true →
    m.val = 0 ∨ m.val = g.val →
    v.getLsbD 0 = true →
    ∃ t, exec (.veCancelGo g m v) s = .next t ∧ t.ve.cancel.get g = some (s.get (VE_CANCEL_TAG_TAG g), s.get (VE_CANCEL_MASK_MASK g), v.getLsbD 1) ∧ t.flag (VE_CANCEL_CTRL_PENDING g) = true ∧ t.flag (VE_CANCEL_CTRL_DISCARD g) = v.getLsbD 1 ∧ t.ve.pool = s.ve.pool ∧ t.mem = s.mem) ∧
  (∀ (s : State) (g : Group) (m : Master) (v : Word),
    s.reaches m (VE_CANCEL_CTRL g) = true →
    m.val = 0 ∨ m.val = g.val →
    v.getLsbD 0 = false →
    exec (.veCancelGo g m v) s = .next (s.putFlag (VE_CANCEL_CTRL_DISCARD g) (v.getLsbD 1))) ∧
  (∀ (s : State) (g : Group) (m : Master) (v : Word),
    m.val ≠ 0 →
    m.val ≠ g.val →
    s.reaches m (VE_SQ_TAIL g) = true →
    s.reaches m (VE_CANCEL_CTRL g) = true →
    exec (.veSqTailWrite g m v) s = .next (s.refusedBy m (VE_SQ_TAIL g)) ∧ exec (.veCancelGo g m v) s = .next (s.refusedBy m (VE_CANCEL_CTRL g))) ∧
  (∀ (s : State),
    s.flag VE_KLOAD_CTRL_BUSY = true →
    s.reaches 0 (VE_KLOAD_CTRL) = true →
    exec (.veKloadGo 0) s = .next (s)) ∧
  (∀ (s : State),
    s.flag VE_KLOAD_CTRL_BUSY = false →
    s.reaches 0 (VE_KLOAD_CTRL) = true →
    ∃ t, exec (.veKloadGo 0) s = .next t ∧ t.ve.kload = some (s.rd64 VE_KLOAD_ADDR / 64 * 64 % 2 ^ 40, s.get VE_KLOAD_LEN_BYTES) ∧ t.flag VE_KLOAD_CTRL_BUSY = true ∧ t.mem = s.mem ∧ t.ve.kslots = s.ve.kslots) ∧
  (∀ (s : State) (v : Word),
    s.reaches 0 (VE_KLOAD_CTRL) = true →
    s.stage.find? (fun e => e.off = VE_KLOAD_CTRL) = none →
    s.stagedNext < 1024 →
    ∃ t, exec (.veKloadUnload 0 v) s = .next t ∧ t.stage = s.stage ++ [⟨VE_KLOAD_CTRL, BitVec.ofNat 32 (2 + bitsOf v.toNat 8 5 * 0x100), 0, s.stagings⟩] ∧ t.get VE_KLOAD_CTRL_SLOT = bitsOf v.toNat 8 5 ∧ t.ve = s.ve ∧ t.mem = s.mem) ∧
  (∀ (s u : State),
    s.served .kload = some u →
    exec (.veKloadDone) s = .next (u.kloadDone)) ∧
  (∀ (s : State),
    s.served .kload = none →
    exec (.veKloadDone) s = .next (s)) ∧
  (∀ (s : State) (n : Tile),
    s.reaches 0 (VT_CTRL n) = true →
    n.val ∈ s.ve.out →
    n.val ∉ s.ve.testing →
    exec (.vtReturn n 0) s = .next (s.onVe (fun x => { x with testing := x.testing ++ [n.val] }))) ∧
  (∀ (s : State) (n : Tile) (pass : Bool),
    n.val ∈ s.ve.testing →
    ∃ t, exec (.vtSelfTestDone n pass) s = .next t ∧ t.ve.testing = s.ve.testing.filter (fun x => x != n.val) ∧ t.ve.back = (if pass then s.ve.back ++ [n.val] else s.ve.back) ∧ t.flag (VT_CTRL_ST_FAIL n) = !pass ∧ t.ve.out = s.ve.out ∧ t.mem = s.mem) ∧
  (∀ (s : State) (n : Tile) (m : Master) (v : Word),
    m ≠ 0 →
    s.reaches m (VE_KLOAD_CTRL) = true →
    s.reaches m (VT_CTRL n) = true →
    exec (.veKloadGo m) s = .next (s.refusedBy m (VE_KLOAD_CTRL)) ∧ exec (.veKloadUnload m v) s = .next (s.refusedBy m (VE_KLOAD_CTRL)) ∧ exec (.vtReturn n m) s = .next (s.refusedBy m (VT_CTRL n)))

/-- An insertion goes through the checks of R155 to a slot with its handle, or is refused with its result and leaves the wheel; one
during a mask cancel waits (R152, R153, R154, R155, R160, R177). It says that exec of ewInsert completes with a next state, for
every state and operands that meet hypotheses on these alone. -/
def Obligations.TheWheelTakesInsertions : Prop :=
  (∀ (s u : State) (g : Group) (m : Master) (v : Word),
    s.reaches m (EW_INS_CTRL g) = true →
    m.val = 0 ∨ m.val = g.val →
    s.flag (EW_INS_STAT_BUSY g) = false →
    s.wheel.masked.get g = none →
    u = s.wr (EW_INS_CTRL g) (v &&& 0x000F3F1F) →
    u.insertResult g (m.val == 0) (u.portInsertion g v) ≤ 1 →
    ∃ t, exec (.ewInsert g m v) s = .next t ∧ t.get (EW_INS_STAT_RESULT g) = u.insertResult g (m.val == 0) (u.portInsertion g v) ∧ (∃ e : Event, t.wheel.slots = putKey s.wheel.slots u.pickSlot e ∧ e.cmp = cmpCount (u.portInsertion g v).dir (u.portInsertion g v).target ∧ e.ch = (u.portInsertion g v).ch ∧ e.tag = (u.portInsertion g v).tag ∧ e.group = g ∧ e.near = false ∧ e.handle = u.pickSlot + u.nextGen u.pickSlot * 131072 ∧ t.get (EW_INS_STAT_HANDLE g) = e.handle % 2 ^ 24) ∧ t.wheel.late = s.wheel.late ∧ t.wheel.fates = s.wheel.fates ∧ t.outs = s.outs ∧ t.fcuIn = s.fcuIn ∧ (∀ a, a < wheelBase + u.pickSlot * 32 ∨ wheelBase + u.pickSlot * 32 + 32 ≤ a → byteAt t.mem a = byteAt s.mem a)) ∧
  (∀ (s u : State) (g : Group) (m : Master) (v : Word),
    s.reaches m (EW_INS_CTRL g) = true →
    m.val = 0 ∨ m.val = g.val →
    s.flag (EW_INS_STAT_BUSY g) = false →
    s.wheel.masked.get g = none →
    u = s.wr (EW_INS_CTRL g) (v &&& 0x000F3F1F) →
    3 ≤ u.insertResult g (m.val == 0) (u.portInsertion g v) →
    ∃ t, exec (.ewInsert g m v) s = .next t ∧ t.get (EW_INS_STAT_RESULT g) = u.insertResult g (m.val == 0) (u.portInsertion g v) ∧ t.wheel = s.wheel ∧ t.outs = s.outs ∧ t.mem = s.mem) ∧
  (∀ (s : State) (g : Group) (m : Master) (v : Word),
    s.reaches m (EW_INS_CTRL g) = true →
    m.val = 0 ∨ m.val = g.val →
    s.flag (EW_INS_STAT_BUSY g) = true ∨ (s.wheel.masked.get g).isSome = true →
    ∃ t, exec (.ewInsert g m v) s = .next t ∧ t.wheel.held.get g = s.wheel.held.get g ++ [⟨0x10, v, m⟩] ∧ t.flag (EW_INS_STAT_BUSY g) = true ∧ t.wheel.slots = s.wheel.slots ∧ t.mem = s.mem) ∧
  (∀ (s u : State) (g : Group) (m : Master) (v : Word),
    s.reaches m (EW_INS_CTRL g) = true →
    m.val = 0 ∨ m.val = g.val →
    s.flag (EW_INS_STAT_BUSY g) = false →
    s.wheel.masked.get g = none →
    u = s.wr (EW_INS_CTRL g) (v &&& 0x000F3F1F) →
    u.insertResult g (m.val == 0) (u.portInsertion g v) = 2 →
    ∃ t, exec (.ewInsert g m v) s = .next t ∧ t.get (EW_INS_STAT_RESULT g) = 2 ∧ t.get (EW_INS_STAT_HANDLE g) = (u.pickSlot + u.nextGen u.pickSlot * 131072) % 2 ^ 24 ∧ lookup t.wheel.fates u.pickSlot = some ⟨u.pickSlot + u.nextGen u.pickSlot * 131072, g, true⟩ ∧ t.flag (PEO_ISR_PAST (u.portInsertion g v).ch) = true ∧ t.wheel.slots = s.wheel.slots ∧ t.wheel.late = s.wheel.late) ∧
  (∀ (s : State) (g : Group) (m : Master) (v : Word),
    m.val ≠ 0 →
    m.val ≠ g.val →
    s.reaches m (EW_INS_CTRL g) = true →
    exec (.ewInsert g m v) s = .next (s.refusedBy m (EW_INS_CTRL g)))

/-- Events are cancelled by handle or by mask, loaded into the near set, act late, and a group's release is staged (R160, R157,
R158, R162, R169, R46). It says that exec of ewCancelHandle, ewMaskCancel, ewMaskCancelDone, nearSetLoad, lateEventAct,
ewRelease each completes with a next state, for every state and operands that meet hypotheses on these alone. -/
def Obligations.TheWheelCancelsLoadsAndReleases : Prop :=
  (∀ (s : State) (g : Group) (m : Master) (v : Word) (e : Event),
    s.reaches m (EW_CAN_HANDLE g) = true →
    m.val = 0 ∨ m.val = g.val →
    lookup s.wheel.slots (v.toNat % 2 ^ 24 % 131072) = some e →
    e.handle = v.toNat % 2 ^ 24 →
    e.group = g ∨ m.val = 0 →
    ∃ t, exec (.ewCancelHandle g m v) s = .next t ∧ t.get (EW_CAN_STAT_RESULT g) = 0 ∧ t.wheel.slots = dropKey s.wheel.slots (v.toNat % 2 ^ 24 % 131072) ∧ lookup t.wheel.fates (v.toNat % 2 ^ 24 % 131072) = some ⟨e.handle, e.group, false⟩ ∧ t.wheel.late = s.wheel.late ∧ t.outs = s.outs ∧ t.mem = s.mem) ∧
  (∀ (s : State) (g : Group) (m : Master) (v : Word),
    s.reaches m (EW_CAN_HANDLE g) = true →
    m.val = 0 ∨ m.val = g.val →
    lookup s.wheel.slots (v.toNat % 2 ^ 24 % 131072) = none →
    s.wheel.late = [] →
    lookup s.wheel.fates (v.toNat % 2 ^ 24 % 131072) = none →
    exec (.ewCancelHandle g m v) s = .next (s.put (EW_CAN_STAT_RESULT g) 2)) ∧
  (∀ (s : State) (g : Group) (m : Master),
    s.reaches m (EW_CAN_CTRL g) = true →
    m.val = 0 ∨ m.val = g.val →
    s.wheel.masked.get g = none →
    ∃ t, exec (.ewMaskCancel g m) s = .next t ∧ (∀ x ∈ t.wheel.slots, x ∈ s.wheel.slots ∧ (x.2.group == g && x.2.tag &&& s.rd (EW_CAN_MASK g) == s.rd (EW_CAN_TAG g) &&& s.rd (EW_CAN_MASK g)) = false) ∧ (∀ x ∈ s.wheel.slots, (∀ y ∈ s.wheel.slots, y.1 = x.1 → (y.2.group == g && y.2.tag &&& s.rd (EW_CAN_MASK g) == s.rd (EW_CAN_TAG g) &&& s.rd (EW_CAN_MASK g)) = false) → x ∈ t.wheel.slots) ∧ t.wheel.masked.get g = some (s.wheel.slots.filter (fun x => x.2.group == g && x.2.tag &&& s.rd (EW_CAN_MASK g) == s.rd (EW_CAN_TAG g) &&& s.rd (EW_CAN_MASK g))).length ∧ t.flag (EW_CAN_CTRL_BUSY g) = true ∧ t.wheel.late = s.wheel.late ∧ t.outs = s.outs ∧ t.mem = s.mem) ∧
  (∀ (s : State) (g : Group) (m : Master),
    s.reaches m (EW_CAN_CTRL g) = true →
    m.val = 0 ∨ m.val = g.val →
    (s.wheel.masked.get g).isSome = true →
    exec (.ewMaskCancel g m) s = .next (s)) ∧
  (∀ (s : State) (g : Group) (n : Nat),
    s.wheel.masked.get g = some n →
    s.wheel.held.get g = [] →
    ∀ p ∈ s.host.parked, p.group ≠ g →
    ∃ t, exec (.ewMaskCancelDone g) s = .next t ∧ t.wheel.masked.get g = none ∧ t.flag (EW_CAN_CTRL_BUSY g) = false ∧ t.get (EW_CAN_N_N g) = n % 2 ^ (EW_CAN_N_N g).width ∧ t.flag (EW_INS_STAT_BUSY g) = false ∧ t.wheel.slots = s.wheel.slots ∧ t.mem = s.mem) ∧
  (∀ (s : State) (g : Group),
    s.wheel.masked.get g = none →
    exec (.ewMaskCancelDone g) s = .next (s)) ∧
  (∀ (s : State) (d : Dom) (k : Slot) (e : Event),
    lookup s.wheel.slots k.val = some e →
    s.evDom e = d →
    e.near = false →
    (e.cmp - s.count d).natAbs ≤ 4096 →
    s.nearCount d < 1024 →
    s.nearerWaiting d e = false →
    (s.readSlot k.val).2 = true →
    ∃ t, exec (.nearSetLoad d k) s = .next t ∧ t.wheel.slots = putKey s.wheel.slots k.val { e with near := true, kept := false } ∧ t.get (EW_NEAR_N_N d) = t.nearCount d % 2 ^ (EW_NEAR_N_N d).width ∧ t.wheel.late = s.wheel.late ∧ t.outs = s.outs ∧ t.mem = s.mem) ∧
  (∀ (s : State) (d : Dom) (k : Slot) (e : Event),
    lookup s.wheel.slots k.val = some e →
    s.evDom e = d →
    e.near = false →
    (e.cmp - s.count d).natAbs ≤ 4096 →
    s.nearCount d < 1024 →
    s.nearerWaiting d e = false →
    (s.readSlot k.val).2 = false →
    ∃ t, exec (.nearSetLoad d k) s = .next t ∧ t.wheel.slots = dropKey s.wheel.slots k.val ∧ t.fcuIn = (s.readSlot k.val).1.fcuIn ++ [⟨F_EW_STORE_ERR, e.ch.val, false, 0, s.tt⟩] ∧ t.wheel.late = s.wheel.late ∧ t.outs = s.outs ∧ t.mem = s.mem) ∧
  (∀ (s : State) (d : Dom) (k : Slot) (e : Event),
    lookup s.wheel.slots k.val = some e →
    s.evDom e = d →
    e.near = false →
    e.kept = false →
    (e.cmp - s.count d).natAbs ≤ 4096 →
    1024 ≤ s.nearCount d →
    ∃ t, exec (.nearSetLoad d k) s = .next t ∧ t.wheel.slots = putKey s.wheel.slots k.val { e with kept := true } ∧ t.srcIn = s.srcIn ++ [108 + d.val] ∧ t.fcuIn = s.fcuIn ++ [⟨F_EW_NEAR_FULL, e.ch.val, false, 0, s.tt⟩] ∧ t.wheel.late = s.wheel.late ∧ t.outs = s.outs ∧ t.mem = s.mem) ∧
  (∀ (s : State) (d : Dom) (k : Slot) (x : LateEvent) (l : List LateEvent),
    s.wheel.late.find? (fun x => x.slot = k.val && s.evDom x.ev == d) = some x →
    l = sortBy (fun a b => a.ev.before b.ev) (s.wheel.late.filter (fun y => y.ev.ch == x.ev.ch && y.edge == x.edge)) →
    exec (.lateEventAct d k) s = .next ((((s.onWheel (fun w => { w with late := w.late.filter (fun y => !(y.ev.ch == x.ev.ch && y.edge == x.edge)) })).each l (fun s y => s.fire y.slot y.ev y.up true false s.tt)).settleChans s [x.ev.ch] s.tt).endPosPulses d s.tt)) ∧
  (∀ (s : State) (e : Event) (up late past : Bool) (k a : Nat),
    lookup (s.fire k e up late past a).wheel.fates k = some ⟨e.handle, e.group, true⟩ ∧ (s.fire k e up late past a).wheel.slots = s.wheel.slots ∧ (s.fire k e up late past a).get EW_FIRE_CNT_CNT = min (s.get EW_FIRE_CNT_CNT + 1) (2 ^ EW_FIRE_CNT_CNT.width - 1) ∧ (late = true → (s.fire k e up late past a).flag (PEO_ISR_LATE e.ch) = true) ∧ (past = true → (s.fire k e up late past a).flag (PEO_ISR_PAST e.ch) = true)) ∧
  (∀ (s : State) (d : Dom) (k : Slot),
    s.wheel.late = [] →
    lookup s.wheel.slots k.val = none →
    exec (.lateEventAct d k) s = .next (s) ∧ exec (.nearSetLoad d k) s = .next (s)) ∧
  (∀ (s : State) (g : Group) (m : Master),
    s.reaches m (EW_G_CTRL g) = true →
    m.val = 0 ∨ m.val = g.val →
    s.stage.find? (fun e => e.off = EW_G_CTRL g) = none →
    s.stagedNext < 1024 →
    exec (.ewRelease g m) s = .next ({ s with stage := s.stage ++ [⟨EW_G_CTRL g, 1, m, s.stagings⟩], stagings := s.stagings + 1 })) ∧
  (∀ (s : State) (g : Group) (m : Master) (v : Word),
    m.val ≠ 0 →
    m.val ≠ g.val →
    s.reaches m (EW_CAN_HANDLE g) = true →
    s.reaches m (EW_CAN_CTRL g) = true →
    s.reaches m (EW_G_CTRL g) = true →
    exec (.ewCancelHandle g m v) s = .next (s.refusedBy m (EW_CAN_HANDLE g)) ∧ exec (.ewMaskCancel g m) s = .next (s.refusedBy m (EW_CAN_CTRL g)) ∧ exec (.ewRelease g m) s = .next (s.refusedBy m (EW_G_CTRL g)))

/-- Pulses end at their time, tests drive the safe level and end with their verdict, readbacks and SAFE_STOP feedback are compared
with the drive (R165, R166, R167, R170, R171, R172). It says that exec of timePulseEnd, peoPulseMax, offPulseTest,
offPulseTestEnd, readbackMismatch, safeStopFb each completes with a next state, for every state and operands that meet
hypotheses on these alone. -/
def Obligations.OutputsPulseAndAreTested : Prop :=
  (∀ (s : State) (n : Chan) (e : Nat),
    (s.outs.chan.get n).pulse = some (.time e) →
    e ≤ s.tt →
    ∃ t, exec (.timePulseEnd n) s = .next t ∧ (t.outs.chan.get n).pulse = none ∧ t.logic n = s.safeVal n ∧ t.flag (PEO_STAT_PULSING n) = false ∧ (∀ k : Chan, k ≠ n → t.outs.chan.get k = s.outs.chan.get k) ∧ t.wheel = s.wheel ∧ t.mem = s.mem) ∧
  (∀ (s : State) (n : Chan) (a : Int) (u : Bool) (e : Nat),
    (s.outs.chan.get n).pulse = some (.pos a u (some e)) →
    e ≤ s.tt →
    ∃ t, exec (.peoPulseMax n) s = .next t ∧ (t.outs.chan.get n).pulse = none ∧ t.logic n = s.safeVal n ∧ t.flag (PEO_STAT_PMAX_END n) = true ∧ t.flag (PEO_ISR_PMAX n) = true ∧ t.fcuIn = s.fcuIn ++ [⟨F_PEO_PULSE_MAX, n.val, false, 0, s.tt⟩] ∧ (∀ k : Chan, k ≠ n → t.outs.chan.get k = s.outs.chan.get k) ∧ t.mem = s.mem) ∧
  (∀ (s : State) (n : Chan),
    (s.outs.chan.get n).pulse = none →
    exec (.timePulseEnd n) s = .next (s) ∧ exec (.peoPulseMax n) s = .next (s)) ∧
  (∀ (s : State) (n : Chan),
    s.flag (PEO_CFG_TEST_EN n) = true →
    s.get (PEO_CFG_MODE n) ≠ 0 →
    s.holdCause n = false →
    (s.outs.chan.get n).test = none →
    (s.outs.chan.get n).pulse = none →
    s.logic n ≠ s.safeVal n →
    (s.outs.chan.get n).since + s.get (PEO_TEST_CFG_PER n) * 1250000 ≤ s.tt →
    s.outs.ioLost = false →
    ∃ t, exec (.offPulseTest n) s = .next t ∧ (t.outs.chan.get n).test = some s.tt ∧ t.flag (PEO_STAT_DRV_A n) = s.safeVal n ∧ t.flag (PEO_STAT_DRV_B n) = (s.safeVal n != s.flag (PEO_CFG_B_ANTI n)) ∧ t.logic n = s.logic n ∧ (∀ k : Chan, k ≠ n → t.outs.chan.get k = s.outs.chan.get k) ∧ t.mem = s.mem) ∧
  (∀ (s : State) (n : Chan),
    s.flag (PEO_CFG_TEST_EN n) = false ∨ s.holdCause n = true →
    exec (.offPulseTest n) s = .next (s)) ∧
  (∀ (s : State) (n : Chan) (a b : Bool) (e : Nat),
    (s.outs.chan.get n).test = some e →
    e + s.get (PEO_TEST_CFG_W n) ≤ s.tt →
    (a, b) = s.expectRb n →
    ∃ t, exec (.offPulseTestEnd n a b) s = .next t ∧ (t.outs.chan.get n).test = none ∧ (t.outs.chan.get n).since = s.tt ∧ t.get (PEO_TEST_CNT_CNT n) = min (s.get (PEO_TEST_CNT_CNT n) + 1) (2 ^ (PEO_TEST_CNT_CNT n).width - 1) ∧ t.flag (PEO_STAT_RB_A n) = a ∧ t.flag (PEO_STAT_RB_B n) = b ∧ t.logic n = s.logic n ∧ t.fcuIn = s.fcuIn ∧ (∀ k : Chan, k ≠ n → t.outs.chan.get k = s.outs.chan.get k) ∧ t.mem = s.mem) ∧
  (∀ (s : State) (n : Chan) (a b : Bool) (e : Nat),
    (s.outs.chan.get n).test = some e →
    e + s.get (PEO_TEST_CFG_W n) ≤ s.tt →
    (a, b) ≠ s.expectRb n →
    ∃ t, exec (.offPulseTestEnd n a b) s = .next t ∧ (t.outs.chan.get n).test = none ∧ t.flag (PEO_STAT_TEST_ERR n) = true ∧ t.flag (PEO_STAT_RB_ERR n) = true ∧ t.flag (PEO_ISR_TEST_ERR n) = true ∧ t.fcuIn = s.fcuIn ++ [⟨if s.flag (PEO_CFG_SAFETY n) then F_PEO_RB_SAFETY else F_PEO_RB_MISMATCH, n.val, false, 0, s.tt⟩] ∧ t.get (PEO_RB_ERR_CNT_CNT n) = min (s.get (PEO_RB_ERR_CNT_CNT n) + 1) (2 ^ (PEO_RB_ERR_CNT_CNT n).width - 1) ∧ (∀ k : Chan, k ≠ n → t.outs.chan.get k = s.outs.chan.get k) ∧ t.mem = s.mem) ∧
  (∀ (s : State) (n : Chan) (a b : Bool),
    (s.outs.chan.get n).test = none →
    exec (.offPulseTestEnd n a b) s = .next (s)) ∧
  (∀ (s : State) (n : Chan) (a b : Bool),
    s.flag (PEO_CFG_RB_EN n) = true →
    s.rd64 (PEO_LAST_TT n) + s.get (PEO_RB_DLY_KCLK n) + s.get (PEO_RB_FILT_KCLK n) ≤ s.tt →
    (a, b) ≠ s.expectRb n →
    ∃ t, exec (.readbackMismatch n a b) s = .next t ∧ t.flag (PEO_STAT_RB_A n) = a ∧ t.flag (PEO_STAT_RB_B n) = b ∧ t.flag (PEO_STAT_RB_ERR n) = true ∧ t.flag (PEO_ISR_RB_ERR n) = true ∧ t.get (PEO_RB_ERR_CNT_CNT n) = min (s.get (PEO_RB_ERR_CNT_CNT n) + 1) (2 ^ (PEO_RB_ERR_CNT_CNT n).width - 1) ∧ t.fcuIn = s.fcuIn ++ [⟨if s.flag (PEO_CFG_SAFETY n) then F_PEO_RB_SAFETY else F_PEO_RB_MISMATCH, n.val, false, 0, s.tt⟩] ∧ t.outs = s.outs ∧ t.mem = s.mem) ∧
  (∀ (s : State) (n : Chan) (a b : Bool),
    s.flag (PEO_CFG_RB_EN n) = false ∨ (a, b) = s.expectRb n →
    exec (.readbackMismatch n a b) s = .next ((s.putFlag (PEO_STAT_RB_A n) a).putFlag (PEO_STAT_RB_B n) b)) ∧
  (∀ (s : State) (l : Bool),
    s.flag EW_SSTOP_CFG_FB_EN = true →
    l ≠ s.flag EW_SSTOP_STAT_DRV0 →
    s.outs.stopTt + s.get EW_SSTOP_CFG_FB_DLY * 1250000 < s.tt →
    exec (.safeStopFb 0 l) s = .next ((((s.putFlag EW_SSTOP_STAT_FB0 l).putFlag EW_SSTOP_STAT_FB_ERR true).raise F_SAFE_STOP_FB 0).raiseSrc 107)) ∧
  (∀ (s : State) (l : Bool),
    s.flag EW_SSTOP_CFG_FB_EN = false ∨ l = s.flag EW_SSTOP_STAT_DRV1 →
    exec (.safeStopFb 1 l) s = .next (s.putFlag EW_SSTOP_STAT_FB1 l))

/-- Equal records change nothing; a minority copy is ejected; no majority stops the group; a pause ends with its copies back, out,
or deferred; self-tests count (R181, R184, R190, R191, R194, R195). It says that exec of lockstepCompare, readmissionComplete,
comparatorSelfTest each completes with a next state, for every state and operands that meet hypotheses on these alone. -/
def Obligations.CopiesAreComparedAndReadmitted : Prop :=
  (∀ (s : State) (g : Group) (x c : CopyRecord),
    g.val < s.part.groups →
    s.get (LS_STAT_STATE g) ≠ 1 →
    (s.core g).inject = none →
    s.get (LS_STAT_ACTIVE g) = 7 ∧ c = x ∨ s.get (LS_STAT_ACTIVE g) = 3 →
    exec (.lockstepCompare g x x c) s = .next (if x.bus = Vector.replicate 8 0 then s else s.onCore g (fun c => { c with issued := some (s.tt, x.bus) }))) ∧
  (∀ (s : State) (g : Group) (x y : CopyRecord) (k : Fin 3),
    g.val < s.part.groups →
    s.get (LS_STAT_STATE g) ≠ 1 →
    (s.core g).inject = none →
    s.get (LS_STAT_ACTIVE g) = 7 →
    y ≠ x →
    s.retires g k = false →
    ∃ t, exec (.lockstepCompare g (if k = 0 then y else x) (if k = 1 then y else x) (if k = 2 then y else x)) s = .next t ∧ t.get (LS_STAT_ACTIVE g) = 7 - 2 ^ k.val ∧ (t.get (LS_STAT_EJECTED g)).testBit k.val = true ∧ t.get (ejCnt g k) = min (s.get (ejCnt g k) + 1) (2 ^ (ejCnt g k).width - 1) ∧ t.rd64 (LS_EJ_FN g k) = s.fn % 2 ^ 64 ∧ t.fcuIn = s.fcuIn ++ [⟨F_LS_EJECT, g.val + 2 ^ k.val * 16, false, 0, s.tt⟩] ∧ t.get (LS_STAT_STATE g) = s.get (LS_STAT_STATE g) ∧ (t.core g).issued = (if x.bus = Vector.replicate 8 0 then (s.core g).issued else some (s.tt, x.bus)) ∧ (t.core g).gpr = (s.core g).gpr ∧ (∀ k : Group, k ≠ g → t.core k = s.core k) ∧ t.mem = s.mem) ∧
  (∀ (s : State) (g : Group) (x y : CopyRecord) (k : Fin 3),
    g.val < s.part.groups →
    s.get (LS_STAT_STATE g) ≠ 1 →
    (s.core g).inject = none →
    s.get (LS_STAT_ACTIVE g) = 7 →
    y ≠ x →
    s.retires g k = true →
    ∃ t, exec (.lockstepCompare g (if k = 0 then y else x) (if k = 1 then y else x) (if k = 2 then y else x)) s = .next t ∧ t.get (LS_STAT_ACTIVE g) = 7 - 2 ^ k.val ∧ (t.get (LS_RETIRED_MAP g)).testBit k.val = true ∧ t.get (ejCnt g k) = min (s.get (ejCnt g k) + 1) (2 ^ (ejCnt g k).width - 1) ∧ t.fcuIn = s.fcuIn ++ [⟨F_LS_RETIRE, g.val + 2 ^ k.val * 16, false, 0, s.tt⟩] ∧ (∀ k : Group, k ≠ g → t.core k = s.core k) ∧ t.mem = s.mem) ∧
  (∀ (s : State) (g : Group) (x : CopyRecord) (k : Fin 3),
    g.val < s.part.groups →
    s.get (LS_STAT_STATE g) ≠ 1 →
    (s.core g).inject = some k →
    s.get (LS_STAT_ACTIVE g) = 7 →
    copyCommits x = true →
    s.mode ≠ modeGlost →
    ∃ t, exec (.lockstepCompare g x x x) s = .next t ∧ (t.core g).inject = none ∧ t.get (LS_STAT_ACTIVE g) = 7 - 2 ^ k.val ∧ t.get (ejCnt g k) = s.get (ejCnt g k) ∧ t.fcuIn = s.fcuIn ++ [⟨F_LS_EJECT, g.val + 2 ^ k.val * 16, false, 0, s.tt⟩, ⟨F_LS_INJECT, g.val + 2 ^ k.val * 16, false, 0, s.tt⟩] ∧ (∀ k : Group, k ≠ g → t.core k = s.core k) ∧ t.mem = s.mem) ∧
  (∀ (s : State) (g : Group) (a b c : CopyRecord),
    g.val < s.part.groups →
    s.get (LS_STAT_STATE g) ≠ 1 →
    (s.core g).inject = none →
    s.get (LS_STAT_ACTIVE g) = 7 →
    a ≠ b →
    b ≠ c →
    a ≠ c →
    ∃ t, exec (.lockstepCompare g a b c) s = .next t ∧ t.get (LS_STAT_STATE g) = 1 ∧ (t.core g).restartDue = true ∧ t.get (LS_MISMATCH_CNT_CNT g) = min (s.get (LS_MISMATCH_CNT_CNT g) + 1) (2 ^ (LS_MISMATCH_CNT_CNT g).width - 1) ∧ t.fcuIn = s.fcuIn ++ [⟨if g = 0 then F_LS_MISMATCH_KW else F_LS_MISMATCH_APP, g.val + 7 * 16, false, 0, s.tt⟩] ∧ (t.core g).issued = (s.core g).issued ∧ (∀ k : Group, k ≠ g → t.core k = s.core k) ∧ t.mem = s.mem) ∧
  (∀ (s : State) (g : Group) (a b c : CopyRecord),
    g.val < s.part.groups →
    s.get (LS_STAT_STATE g) ≠ 1 →
    (s.core g).inject = none →
    s.get (LS_STAT_ACTIVE g) = 3 →
    a ≠ b →
    ∃ t, exec (.lockstepCompare g a b c) s = .next t ∧ t.get (LS_STAT_STATE g) = 1 ∧ (t.core g).restartDue = true ∧ t.get (LS_MISMATCH_CNT_CNT g) = min (s.get (LS_MISMATCH_CNT_CNT g) + 1) (2 ^ (LS_MISMATCH_CNT_CNT g).width - 1) ∧ t.fcuIn = s.fcuIn ++ [⟨if g = 0 then F_LS_MISMATCH_KW else F_LS_MISMATCH_APP, g.val + 3 * 16, false, 0, s.tt⟩] ∧ (t.core g).gpr = (s.core g).gpr ∧ (t.core g).pc = (s.core g).pc ∧ (∀ k : Group, k ≠ g → t.core k = s.core k) ∧ t.mem = s.mem) ∧
  (∀ (s : State) (g : Group) (r : ReadmitRun) (p : Pause),
    (s.core g).pause = some p →
    r.drain ≤ 320 →
    (r.drain + 1072) * 25 ≤ (s.tt - p.start) * 32 →
    r.copyEqual = true →
    r.majorityEqual = true →
    (s.core g).stopDue = false →
    p.copies < 8 →
    ∃ t, exec (.readmissionComplete g r) s = .next t ∧ t.get (LS_STAT_ACTIVE g) = (if s.flag (LS_CFG_TMR g) = false ∧ (s.get (LS_STAT_ACTIVE g) ||| p.copies) &&& 3 = 3 then 3 else s.get (LS_STAT_ACTIVE g) ||| p.copies) ∧ t.get (LS_STAT_EJECTED g) = s.get (LS_STAT_EJECTED g) &&& (7 ^^^ p.copies) ∧ t.get (LS_STAT_STATE g) = 0 ∧ (t.core g).pause = none ∧ t.get (LS_READMIT_CNT_CNT g) = min (s.get (LS_READMIT_CNT_CNT g) + 1) (2 ^ (LS_READMIT_CNT_CNT g).width - 1) ∧ t.get (LS_PAUSE_LAST_CCLK g) = r.drain + 1072 ∧ (t.core g).gpr = (s.core g).gpr ∧ t.fcuIn = s.fcuIn ∧ (∀ k : Group, k ≠ g → t.core k = s.core k) ∧ t.mem = s.mem) ∧
  (∀ (s : State) (g : Group) (r : ReadmitRun) (p : Pause),
    (s.core g).pause = some p →
    320 < r.drain →
    320 * 25 ≤ (s.tt - p.start) * 32 →
    (s.core g).stopDue = false →
    ∃ t, exec (.readmissionComplete g r) s = .next t ∧ t.get (LS_STAT_ACTIVE g) = s.get (LS_STAT_ACTIVE g) ∧ t.get (LS_READMIT_DEFER_CNT g) = min (s.get (LS_READMIT_DEFER_CNT g) + 1) (2 ^ (LS_READMIT_DEFER_CNT g).width - 1) ∧ t.get (LS_STAT_STATE g) = 0 ∧ t.get (LS_PAUSE_LAST_CCLK g) = 320 ∧ (t.core g).pause = none ∧ t.mem = s.mem) ∧
  (∀ (s : State) (g : Group) (r : ReadmitRun) (p : Pause),
    (s.core g).pause = some p →
    r.drain ≤ 320 →
    (r.drain + 1072) * 25 ≤ (s.tt - p.start) * 32 →
    r.majorityEqual = false →
    ∃ t, exec (.readmissionComplete g r) s = .next t ∧ t.get (LS_STAT_STATE g) = 1 ∧ (t.core g).restartDue = true ∧ (t.core g).pause = none ∧ t.get (LS_MISMATCH_CNT_CNT g) = min (s.get (LS_MISMATCH_CNT_CNT g) + 1) (2 ^ (LS_MISMATCH_CNT_CNT g).width - 1) ∧ (∀ k : Group, k ≠ g → t.core k = s.core k) ∧ t.mem = s.mem) ∧
  (∀ (s : State) (g : Group) (r : ReadmitRun),
    (s.core g).pause = none →
    exec (.readmissionComplete g r) s = .next (s)) ∧
  (∀ (s : State) (g : Group),
    g.val < s.part.groups →
    s.fn ≠ 0 →
    s.fn % s.get (LS_STEST_PER_FIRINGS g) = 0 →
    (s.core g).stestFn ≠ s.fn →
    exec (.comparatorSelfTest g none) s = .next ((s.onCore g (fun c => { c with stestFn := s.fn })).put (LS_STEST_CNT_CNT g) (min (s.get (LS_STEST_CNT_CNT g) + 1) (2 ^ (LS_STEST_CNT_CNT g).width - 1)))) ∧
  (∀ (s : State) (g : Group) (u : Fin 3) (h : Fin 2),
    g.val < s.part.groups →
    s.fn ≠ 0 →
    s.fn % s.get (LS_STEST_PER_FIRINGS g) = 0 →
    (s.core g).stestFn ≠ s.fn →
    ∃ t, exec (.comparatorSelfTest g (some (u, h))) s = .next t ∧ t.flag (LS_STEST_STAT_FAIL g) = true ∧ t.get (LS_STEST_STAT_UNIT g) = u.val ∧ t.get (LS_STEST_STAT_HALF g) = h.val ∧ t.fcuIn = s.fcuIn ++ [⟨F_LS_CMP_STEST, g.val, false, 0, s.tt⟩] ∧ t.get (LS_STAT_ACTIVE g) = s.get (LS_STAT_ACTIVE g) ∧ t.mem = s.mem) ∧
  (∀ (s : State) (g : Group) (f : Option (Fin 3 × Fin 2)),
    s.fn = 0 →
    exec (.comparatorSelfTest g f) s = .next (s))

/-- Configuration, restart, stop and power of a group are staged for the boundary, injection and un-retirement act at once, each in
its modes and by master 0 (R189, R197, R200, R202, R203, R205). It says that exec of lsCfgWrite, lsRestart, lsStop, lsInject,
lsUnretire, lsPowerOff, lsPowerOn, lsPowerGood, lsPwrFail, debugHaltTaken each completes with a next state, for every state and
operands that meet hypotheses on these alone. -/
def Obligations.GroupsAreControlled : Prop :=
  (∀ (s : State) (g : Group) (v : Word),
    s.reaches 0 (LS_CFG g) = true →
    v.getLsbD 0 = (s.latest (LS_CFG g)).getLsbD 0 →
    v.getLsbD 0 = true → s.part.copyC = true →
    s.stage.find? (fun e => e.off = LS_CFG g) = none →
    s.stagedNext < 1024 →
    exec (.lsCfgWrite g 0 v) s = .next ({ s with stage := s.stage ++ [⟨LS_CFG g, v &&& 3, 0, s.stagings⟩], stagings := s.stagings + 1 })) ∧
  (∀ (s : State) (g : Group) (v : Word),
    s.reaches 0 (LS_CFG g) = true →
    v.getLsbD 0 ≠ (s.latest (LS_CFG g)).getLsbD 0 ∧ s.mode ≠ modeStandby ∧ s.mode ≠ modeMaintenance ∨ v.getLsbD 0 = true ∧ s.part.copyC = false →
    exec (.lsCfgWrite g 0 v) s = .next (s.putFlag (LS_STAT_CFG_REJ g) true)) ∧
  (∀ (s : State) (g : Group),
    s.reaches 0 (LS_CTRL g) = true →
    s.stage.find? (fun e => e.off = LS_CTRL g) = none →
    s.stagedNext < 1024 →
    exec (.lsRestart g 0) s = .next ({ s with stage := s.stage ++ [⟨LS_CTRL g, 1, 0, s.stagings⟩], stagings := s.stagings + 1 }) ∧ exec (.lsStop g 0) s = .next ({ s with stage := s.stage ++ [⟨LS_CTRL g, 2, 0, s.stagings⟩], stagings := s.stagings + 1 })) ∧
  (∀ (s : State) (g : Group) (v : Word),
    s.reaches 0 (LS_CTRL g) = true →
    s.mode = modeMaintenance ∨ s.mode = modeGlost →
    bitsOf v.toNat 4 2 < 3 →
    (s.get (LS_STAT_ACTIVE g)).testBit (bitsOf v.toNat 4 2) = true →
    s.get (LS_STAT_STATE g) ≠ 1 →
    s.get (LS_STAT_STATE g) ≠ 3 →
    s.poweredOff g = false →
    (s.core g).inject = none →
    ∃ t, exec (.lsInject g 0 v) s = .next t ∧ (∃ k : Fin 3, k.val = bitsOf v.toNat 4 2 ∧ (t.core g).inject = some k) ∧ t.get (LS_CTRL_COPY g) = bitsOf v.toNat 4 2 ∧ (∀ k : Group, k ≠ g → t.core k = s.core k) ∧ t.fcuIn = s.fcuIn ∧ t.mem = s.mem) ∧
  (∀ (s : State) (g : Group) (v : Word),
    s.reaches 0 (LS_CTRL g) = true →
    s.mode = modeRun →
    exec (.lsInject g 0 v) s = .next (s.putFlag (LS_STAT_CFG_REJ g) true) ∧ exec (.lsUnretire g 0 v) s = .next (s.putFlag (LS_STAT_CFG_REJ g) true)) ∧
  (∀ (s : State) (g : Group) (v : Word),
    s.reaches 0 (LS_CTRL g) = true →
    s.mode = modeMaintenance →
    bitsOf v.toNat 4 2 < 3 →
    s.fitted.testBit (bitsOf v.toNat 4 2) = true →
    (s.get (LS_RETIRED_MAP g)).testBit (bitsOf v.toNat 4 2) = true →
    ∃ t, exec (.lsUnretire g 0 v) s = .next t ∧ (t.get (LS_RETIRED_MAP g)).testBit (bitsOf v.toNat 4 2) = false ∧ (t.core g).ejections.get (toIx 3 (bitsOf v.toNat 4 2)) = 0 ∧ (t.core g).readmit.testBit (bitsOf v.toNat 4 2) = ((s.core g).readmit.testBit (bitsOf v.toNat 4 2) || (t.startCopies g).testBit (bitsOf v.toNat 4 2)) ∧ (∀ k : Group, k ≠ g → t.core k = s.core k) ∧ t.mem = s.mem) ∧
  (∀ (s : State) (g : Group),
    s.reaches 0 (LS_PWR g) = true →
    g ≠ 0 →
    s.mayPowerOff g = true →
    s.stage.find? (fun e => e.off = LS_PWR g) = none →
    s.stagedNext < 1024 →
    exec (.lsPowerOff g 0) s = .next ({ s with stage := s.stage ++ [⟨LS_PWR g, 1, 0, s.stagings⟩], stagings := s.stagings + 1 })) ∧
  (∀ (s : State) (g : Group),
    s.reaches 0 (LS_PWR g) = true →
    g ≠ 0 →
    s.stage.find? (fun e => e.off = LS_PWR g) = none →
    s.stagedNext < 1024 →
    exec (.lsPowerOn g 0) s = .next ({ s with stage := s.stage ++ [⟨LS_PWR g, 0, 0, s.stagings⟩], stagings := s.stagings + 1 })) ∧
  (∀ (s : State),
    s.reaches 0 (LS_PWR 0) = true →
    exec (.lsPowerOff 0 0) s = .next (s.putFlag (LS_STAT_CFG_REJ 0) true) ∧ exec (.lsPowerOn 0 0) s = .next (s.putFlag (LS_STAT_CFG_REJ 0) true)) ∧
  (∀ (s : State) (g : Group) (k : Nat),
    (s.core g).powering = some k →
    exec (.lsPowerGood g) s = .next ((s.onCore g (fun c => { c with powering := none })).putFlag (LS_PWR_ON_ACK g) true) ∧ exec (.lsPwrFail g) s = .next (if k + 125000 ≤ s.tt then (s.onCore g (fun c => { c with powering := none })).raise F_LS_PWR_FAIL g.val else s)) ∧
  (∀ (s : State) (g : Group),
    g.val < s.part.groups →
    s.flag (LS_DBG_HALT_PEND g) = true →
    s.get (LS_STAT_STATE g) = 0 →
    (s.core g).delay = none →
    ∃ t, exec (.debugHaltTaken g) s = .next t ∧ t.get (LS_STAT_STATE g) = 3 ∧ t.flag (LS_DBG_HALTED g) = true ∧ t.flag (LS_DBG_HALT_PEND g) = false ∧ (t.core g).gpr = (s.core g).gpr ∧ t.mem = s.mem) ∧
  (∀ (s : State) (g : Group),
    s.flag (LS_DBG_HALT_PEND g) = false →
    exec (.debugHaltTaken g) s = .next (s)) ∧
  (∀ (s : State) (g : Group) (m : Master) (v : Word),
    m.val ≠ 0 →
    s.reaches m (LS_CFG g) = true →
    s.reaches m (LS_CTRL g) = true →
    s.reaches m (LS_PWR g) = true →
    exec (.lsCfgWrite g m v) s = .next (s.refusedBy m (LS_CFG g)) ∧ exec (.lsRestart g m) s = .next (s.refusedBy m (LS_CTRL g)) ∧ exec (.lsStop g m) s = .next (s.refusedBy m (LS_CTRL g)) ∧ exec (.lsInject g m v) s = .next (s.refusedBy m (LS_CTRL g)) ∧ exec (.lsUnretire g m v) s = .next (s.refusedBy m (LS_CTRL g)) ∧ exec (.lsPowerOff g m) s = .next (s.refusedBy m (LS_PWR g)) ∧ exec (.lsPowerOn g m) s = .next (s.refusedBy m (LS_PWR g)))

/-- An exception saves the group's registers in its slot and goes to its vector at level M, one level deeper; with a bad TSBP or at
depth 15 the group stops (R264, R265, R266, R267, R268, R269). It says that exec of exceptionEntry, storeErrorReturn each
completes with a next state, for every state and operands that meet hypotheses on these alone. -/
def Obligations.ExceptionsAreEntered : Prop :=
  (∀ (s : State) (g : Group) (c : Exc) (a : Word),
    isFault c = true →
    s.groupRuns g = true →
    (s.core g).delay = none →
    (s.core g).due = [] →
    (s.core g).tsbOk = true →
    (s.core g).nest.val < 15 →
    ∃ t, exec (.exceptionEntry g c a) s = .next t ∧ s.inHandler t g ((s.core g).evb + BitVec.ofNat 32 (excCode c * 0x40)) (BitVec.ofNat 32 (excCode c)) a false (s.core g).prio.val ∧ s.savedAt t g ((s.core g).slotImage (s.core g).pc false (s.core g).cause)) ∧
  (∀ (s : State) (g : Group) (c : Exc) (a : Word) (d : DelaySlot),
    isFault c = true →
    s.groupRuns g = true →
    (s.core g).delay = some d →
    d.annul = false →
    d.before = [] →
    (s.core g).shadow = [] →
    (s.core g).tsbOk = true →
    (s.core g).nest.val < 15 →
    ∃ t, exec (.exceptionEntry g c a) s = .next t ∧ s.inHandler t g ((s.core g).evb + BitVec.ofNat 32 (excCode c * 0x40)) (BitVec.ofNat 32 (excCode c)) a false (s.core g).prio.val ∧ s.savedAt t g ((s.core g).slotImage d.branch true (s.core g).cause)) ∧
  (∀ (s : State) (g : Group) (c : Exc) (a : Word),
    isFault c = false →
    s.atBoundary g = true →
    (s.core g).due = [] →
    (s.core g).tsbOk = true →
    (s.core g).nest.val < 15 →
    ∃ t, exec (.exceptionEntry g c a) s = .next t ∧ s.inHandler t g ((s.core g).evb + BitVec.ofNat 32 (excCode c * 0x40)) (BitVec.ofNat 32 (excCode c + (if c = .storeErr then 0x40000000 else 0))) a false (s.core g).prio.val ∧ t.flag (LS_STAT_WAIT g) = false ∧ s.savedAt t g ((s.core g).slotImage (s.core g).pc false (s.core g).cause)) ∧
  (∀ (s : State) (g : Group) (a : Word) (l : List Word),
    (s.core g).storeErrs = a :: l →
    s.atBoundary g = true →
    (s.core g).due = [] →
    (s.core g).tsbOk = true →
    (s.core g).nest.val < 15 →
    ∃ t, exec (.storeErrorReturn g) s = .next t ∧ s.inHandler t g ((s.core g).evb + 0x2C0) 0x4000000B a false (s.core g).prio.val ∧ (t.core g).storeErrs = l ∧ (t.core g).due = []) ∧
  (∀ (s : State) (g : Group) (a : Word) (l : List Word),
    (s.core g).storeErrs = a :: l →
    s.atBoundary g = false →
    exec (.storeErrorReturn g) s = .next (s.onCore g (fun c => { c with storeErrs := l, due := c.due ++ [(.storeErr, a)] }))) ∧
  (∀ (s : State) (g : Group),
    (s.core g).storeErrs = [] →
    exec (.storeErrorReturn g) s = .next (s)) ∧
  (∀ (s : State) (g : Group) (c : Exc) (a : Word),
    isFault c = true →
    s.groupRuns g = true →
    (s.core g).delay = none →
    (s.core g).due = [] →
    (s.core g).tsbOk = false →
    ∃ t, exec (.exceptionEntry g c a) s = .next t ∧ t.get (LS_STAT_STATE g) = 1 ∧ (t.core g).restartDue = true ∧ t.fcuIn = s.fcuIn ++ [⟨if g = 0 then F_TSB_FAULT_KW else F_TSB_FAULT_APP, g.val, false, 0, s.tt⟩] ∧ (t.core g).gpr = (s.core g).gpr ∧ (t.core g).pc = (s.core g).pc ∧ t.mem = s.mem) ∧
  (∀ (s : State) (g : Group) (c : Exc) (a : Word),
    isFault c = true →
    s.groupRuns g = true →
    (s.core g).delay = none →
    (s.core g).due = [] →
    (s.core g).tsbOk = true →
    (s.core g).nest.val = 15 →
    ∃ t, exec (.exceptionEntry g c a) s = .next t ∧ t.get (LS_STAT_STATE g) = 1 ∧ (t.core g).restartDue = true ∧ (t.fcuIn.map (fun e => e.id)).getLast? = some (if g = 0 then F_TSB_OVF_KW else F_TSB_OVF_APP) ∧ (t.core g).gpr = (s.core g).gpr ∧ (t.core g).pc = (s.core g).pc) ∧
  (∀ (s : State) (g : Group) (c : Exc) (a : Word),
    s.groupRuns g = false →
    s.atBoundary g = false →
    exec (.exceptionEntry g c a) s = .next (s))

/-- A presented source that can be taken enters its handler and is delivered; a higher one in time takes the entry over; fills and
data return (R264, R271, R272, R273, R285, R288). It says that exec of interruptEntry, lateArrival, loadDataReturn,
fetchFillReturn each completes with a next state, for every state and operands that meet hypotheses on these alone. -/
def Obligations.InterruptsAreEntered : Prop :=
  (∀ (s : State) (g : Group),
    s.groupRuns g = true →
    (s.core g).delay = none →
    s.flag (IC_PRES_VALID g) = true →
    s.canTake g (s.get (IC_PRES_SRC g)) = true →
    (s.core g).due = [] →
    (s.core g).tsbOk = true →
    (s.core g).nest.val < 15 →
    ∃ t, exec (.interruptEntry g none) s = .next t ∧ s.inHandler t g (s.rd (SRC_VEC (s.get (IC_PRES_SRC g)))) (BitVec.ofNat 32 (0x80000000 + s.get (IC_PRES_SRC g) % 512)) (s.core g).faddr (s.core g).ie (s.get (SRC_CFG_PRIO (s.get (IC_PRES_SRC g)))) ∧ t.flag (IC_PRES_VALID g) = false ∧ t.get (IC_TAKEN_CNT_CNT g) = min (s.get (IC_TAKEN_CNT_CNT g) + 1) (2 ^ (IC_TAKEN_CNT_CNT g).width - 1) ∧ (s.flag (SRC_CFG_AEOI (s.get (IC_PRES_SRC g))) = false → (t.get (SRC_STAT_GACT (s.get (IC_PRES_SRC g)))).testBit g = true) ∧ s.savedAt t g ((s.core g).slotImage (s.core g).pc false (s.core g).cause)) ∧
  (∀ (s : State) (g : Group) (k : KeptAccess),
    s.groupRuns g = true →
    (s.core g).delay = none →
    s.flag (IC_PRES_VALID g) = true →
    s.canTake g (s.get (IC_PRES_SRC g)) = true →
    (s.core g).due = [] →
    (s.core g).tsbOk = true →
    (s.core g).nest.val < 15 →
    exec (.interruptEntry g (some k)) s = .next ((s.keepAccess g k).enterInt g (s.get (IC_PRES_SRC g)))) ∧
  (∀ (s : State) (g : Group) (k : Option KeptAccess),
    s.flag (IC_PRES_VALID g) = false →
    exec (.interruptEntry g k) s = .next (s)) ∧
  (∀ (s : State) (g : Group) (e : EntryWindow),
    (s.core g).entry = some e →
    s.groupRuns g = true →
    (s.tt - e.tt) * 32 ≤ 9 * 25 →
    s.flag (IC_PRES_VALID g) = true →
    (s.core g).prio.val < s.get (SRC_CFG_PRIO (s.get (IC_PRES_SRC g))) →
    ∃ t, exec (.lateArrival g) s = .next t ∧ (t.core g).pc = s.rd (SRC_VEC (s.get (IC_PRES_SRC g))) &&& 0xFFFFFFFC ∧ (t.core g).cause = BitVec.ofNat 32 (0x80000000 + s.get (IC_PRES_SRC g) % 512) ∧ (t.core g).prio.val = s.get (SRC_CFG_PRIO (s.get (IC_PRES_SRC g))) ∧ (t.core g).nest = (s.core g).nest ∧ (t.core g).gpr = (s.core g).gpr ∧ t.get (IC_LATE_CNT_CNT g) = min (s.get (IC_LATE_CNT_CNT g) + 1) (2 ^ (IC_LATE_CNT_CNT g).width - 1) ∧ t.flag (IC_PRES_VALID g) = false ∧ t.mem = s.mem) ∧
  (∀ (s : State) (g : Group),
    (s.core g).entry = none →
    exec (.lateArrival g) s = .next (s)) ∧
  (∀ (s : State) (g : Group) (a b : List (Nat × Replay)) (n : Nat) (r : Replay),
    (s.core g).replays = a ++ (n, r) :: b →
    a.all (fun e => e.2.back) = true →
    r.back = false →
    exec (.loadDataReturn g) s = .next (s.onCore g (fun c => { c with replays := a ++ (n, { r with back := true }) :: b }))) ∧
  (∀ (s : State) (g : Group) (a : Word),
    g.val < s.part.groups →
    s.poweredOff g = false →
    s.get (LS_STAT_STATE g) ≠ 1 →
    s.viewBusy g (a.toNat / 128 * 128) = false →
    (s.core g).pred.prefetch ≠ some (a.toNat / 128 * 128) →
    lineRegion (a.toNat / 128 * 128) = true →
    (s.mpuJudge g (s.core g).pl.val (a.toNat / 128 * 128) .fetch).2 = true →
    buffered (s.core g).pred.lines 128 (s.fetchKey g (a.toNat / 128 * 128)) = false →
    exec (.fetchFillReturn g a) s = .next ((s.fillLine g (a.toNat / 128 * 128)).1)) ∧
  (∀ (s : State) (g : Group) (a : Nat),
    0x0F000000 ≤ a →
    a + 128 ≤ 0x0F010000 →
    (s.core g).pred.lines.length < 8 →
    (s.fillLine g a).1.get (LS_P_LB_MISS_CNT g) = min (s.get (LS_P_LB_MISS_CNT g) + 1) (2 ^ (LS_P_LB_MISS_CNT g).width - 1) ∧ (∃ b : Bytes, b.length = 128 ∧ ((s.fillLine g a).1.core g).pred.lines = (s.core g).pred.lines ++ [(a, b)]) ∧ ((s.fillLine g a).1.core g).gpr = (s.core g).gpr ∧ ((s.fillLine g a).1.core g).pc = (s.core g).pc ∧ (∀ k : Group, k ≠ g → (s.fillLine g a).1.core k = s.core k) ∧ (s.fillLine g a).1.mem = s.mem) ∧
  (∀ (s : State) (g : Group) (a : Word),
    s.get (LS_STAT_STATE g) = 1 →
    (s.core g).pred.prefetch = none →
    exec (.fetchFillReturn g a) s = .next (s))

/-- Events and lines make sources pending, the best candidate is presented, an end of interrupt deactivates its source, pending
sources wake groups (R282, R284, R289, R290, R291, R293). It says that exec of srcEdgeEvent, srcLevelChange, srcSetp, srcClrp,
interruptPresent, waitWake, icEoi each completes with a next state, for every state and operands that meet hypotheses on these
alone. -/
def Obligations.SourcesPendAndArePresented : Prop :=
  (∀ (s : State) (i : Nat) (l : List Nat),
    s.srcIn = i :: l →
    s.srcPresent i = true →
    ∃ t, exec (.srcEdgeEvent) s = .next t ∧ t.srcIn = l ∧ t.flag (SRC_STAT_EDGE i) = true ∧ t.flag (SRC_STAT_SWPEND i) = s.flag (SRC_STAT_SWPEND i) ∧ (∀ g : Group, s.bcast i = true → (s.get (SRC_CFG_TARGET i)).testBit g = true → s.eligible g = true → srcLevel i = false → (t.get (SRC_STAT_GPEND i)).testBit g = true) ∧ t.cores = s.cores ∧ t.mem = s.mem) ∧
  (∀ (s : State) (i : Nat) (l : List Nat),
    s.srcIn = i :: l →
    s.srcPresent i = false →
    exec (.srcEdgeEvent) s = .next ({ s with srcIn := l })) ∧
  (∀ (s : State),
    s.srcIn = [] →
    exec (.srcEdgeEvent) s = .next (s)) ∧
  (∀ (s : State) (i : Src),
    srcLevel i = true →
    s.srcPresent i = true →
    ∃ t, exec (.srcLevelChange i) s = .next t ∧ t.flag (SRC_STAT_LINE i) = s.ownerLine i ∧ (∀ g : Group, s.bcast i = true → (s.get (SRC_CFG_TARGET i)).testBit g = true → s.eligible g = true → s.ownerLine i = true → s.flag (SRC_STAT_LINE i) = false → (s.get (SRC_STAT_GACT i)).testBit g = false → (t.get (SRC_STAT_GPEND i)).testBit g = true) ∧ t.cores = s.cores ∧ t.srcIn = s.srcIn ∧ t.mem = s.mem) ∧
  (∀ (s : State) (i : Src),
    srcLevel i = false ∨ s.srcPresent i = false →
    exec (.srcLevelChange i) s = .next (s)) ∧
  (∀ (s : State) (i : Src) (m : Master),
    m.val = 0 ∨ (400 ≤ i.val ∧ i.val < 448 ∧ m.val < 8) →
    s.reaches m (SRC_CTRL i) = true →
    s.srcPresent i = true →
    ∃ t, exec (.srcSetp i m) s = .next t ∧ t.flag (SRC_STAT_SWPEND i) = true ∧ t.flag (SRC_STAT_EDGE i) = s.flag (SRC_STAT_EDGE i) ∧ (∀ g : Group, s.bcast i = true → (s.get (SRC_CFG_TARGET i)).testBit g = true → s.eligible g = true → (t.get (SRC_STAT_GPEND i)).testBit g = true) ∧ t.cores = s.cores ∧ t.mem = s.mem) ∧
  (∀ (s : State) (i : Src) (m : Master),
    m.val = 0 ∨ (400 ≤ i.val ∧ i.val < 448 ∧ m.val < 8) →
    s.reaches m (SRC_CTRL i) = true →
    s.srcPresent i = false →
    exec (.srcSetp i m) s = .next (s)) ∧
  (∀ (s : State) (i : Src) (m : Master),
    m.val ≠ 0 →
    i.val < 400 ∨ 448 ≤ i.val ∨ 8 ≤ m.val →
    s.reaches m (SRC_CTRL i) = true →
    exec (.srcSetp i m) s = .next (s.refusedBy m (SRC_CTRL i))) ∧
  (∀ (s : State) (i : Src),
    s.reaches 0 (SRC_CTRL i) = true →
    ∃ t, exec (.srcClrp i 0) s = .next t ∧ t.flag (SRC_STAT_EDGE i) = false ∧ t.flag (SRC_STAT_SWPEND i) = false ∧ t.get (SRC_STAT_GPEND i) = 0 ∧ t.cores = s.cores ∧ t.mem = s.mem) ∧
  (∀ (s : State) (i : Src) (m : Master),
    m.val ≠ 0 →
    s.reaches m (SRC_CTRL i) = true →
    exec (.srcClrp i m) s = .next (s.refusedBy m (SRC_CTRL i))) ∧
  (∀ (s : State) (g : Group) (i : Nat),
    s.syncIc.bestSource (s.syncIc.candidate g) = some i →
    i < 512 →
    ∃ t, exec (.interruptPresent g) s = .next t ∧ t.get (IC_PRES_SRC g) = i ∧ t.flag (IC_PRES_VALID g) = true ∧ t.get (IC_PRES_PRIO g) = s.syncIc.get (SRC_CFG_PRIO i) ∧ (t.get (SRC_STAT_GPRES i)).testBit g = true ∧ t.cores = s.cores ∧ t.mem = s.mem) ∧
  (∀ (s : State) (g : Group),
    s.syncIc.bestSource (s.syncIc.candidate g) = none →
    exec (.interruptPresent g) s = .next (s.syncIc)) ∧
  (∀ (s : State) (g : Group),
    g.val < s.part.groups →
    s.flag (LS_STAT_WAIT g) = true →
    s.get (LS_STAT_STATE g) = 0 →
    ∃ i, i < 512 ∧ s.pendingFor i g = true →
    exec (.waitWake g) s = .next ((s.putFlag (LS_STAT_WAIT g) false).put (IC_WAKE_CNT_CNT g) (min (s.get (IC_WAKE_CNT_CNT g) + 1) (2 ^ (IC_WAKE_CNT_CNT g).width - 1)))) ∧
  (∀ (s : State) (g : Group),
    s.flag (LS_STAT_WAIT g) = false ∨ ∀ i, i < 512 → s.pendingFor i g = false →
    exec (.waitWake g) s = .next (s)) ∧
  (∀ (s : State) (g : Group) (m : Master) (v : Word),
    s.reaches m (IC_EOI g) = true →
    m.val = 0 ∨ m.val = g.val →
    v.toNat < 512 →
    (s.get (SRC_STAT_GACT v.toNat)).testBit g = true →
    ∃ t, exec (.icEoi g m v) s = .next t ∧ (t.get (SRC_STAT_GACT v.toNat)).testBit g = false ∧ t.get (IC_EOI_BAD_CNT g) = s.get (IC_EOI_BAD_CNT g) ∧ t.cores = s.cores ∧ t.mem = s.mem) ∧
  (∀ (s : State) (g : Group) (m : Master) (v : Word),
    s.reaches m (IC_EOI g) = true →
    m.val = 0 ∨ m.val = g.val →
    512 ≤ v.toNat ∨ (s.get (SRC_STAT_GACT v.toNat)).testBit g = false →
    exec (.icEoi g m v) s = .next (s.put (IC_EOI_BAD_CNT g) (min (s.get (IC_EOI_BAD_CNT g) + 1) (2 ^ (IC_EOI_BAD_CNT g).width - 1)))) ∧
  (∀ (s : State) (g : Group) (m : Master) (v : Word),
    m.val ≠ 0 →
    m.val ≠ g.val →
    s.reaches m (IC_EOI g) = true →
    exec (.icEoi g m v) s = .next (s.refusedBy m (IC_EOI g)))

/-- Scrubbing decodes, records and corrects, a late pass raises SCRUB_STALL, and raw access and the checkers of the guards act as
R310 and R315 say (R299, R305, R308, R309, R322, R304). It says that exec of scrubRead, scrubStall, scrubWriteBack, spRawRead,
spRawWrite, spRawDone, fwCfgErr, mpuCfgErr each completes with a next state, for every state and operands that meet hypotheses
on these alone. -/
def Obligations.MemoriesAreScrubbedAndReached : Prop :=
  (∀ (s : State) (i : MemIx) (n : Nat),
    memSize s.part i.val = some n →
    s.scrubOn i.val = true →
    latDecode (s.syndrome (memBase i.val + (s.scrubber i.val).next)) = .clean →
    (s.scrubber i.val).next + 8 < n →
    exec (.scrubRead i) s = .next (s.setScrubber i.val { s.scrubber i.val with next := (s.scrubber i.val).next + 8 })) ∧
  (∀ (s : State) (i : MemIx) (n : Nat),
    memSize s.part i.val = some n →
    s.scrubOn i.val = true →
    i.val < 32 →
    latDecode (s.syndrome (memBase i.val + (s.scrubber i.val).next)) = .clean →
    n ≤ (s.scrubber i.val).next + 8 →
    ∃ t, exec (.scrubRead i) s = .next t ∧ (t.scrubber i.val).next = 0 ∧ (t.scrubber i.val).passStart = s.tt ∧ t.get (SP_PASS_CNT_CNT i.val) = min (s.get (SP_PASS_CNT_CNT i.val) + 1) (2 ^ (SP_PASS_CNT_CNT i.val).width - 1) ∧ t.mem = s.mem ∧ t.prot.lat = s.prot.lat) ∧
  (∀ (s : State) (i : MemIx) (n b : Nat),
    memSize s.part i.val = some n →
    s.scrubOn i.val = true →
    i.val < 32 →
    latDecode (s.syndrome (memBase i.val + (s.scrubber i.val).next)) = .dataBit b →
    ∃ t, exec (.scrubRead i) s = .next t ∧ t.get (SP_CORR_CNT_CNT i.val) = min (s.get (SP_CORR_CNT_CNT i.val) + 1) (2 ^ (SP_CORR_CNT_CNT i.val).width - 1) ∧ t.prot.writeBacks = s.prot.writeBacks ++ [(i.val, memBase i.val + (s.scrubber i.val).next)] ∧ t.fcuIn = s.fcuIn ++ (if s.get (SP_CORR_LIM_N i.val) < (s.scrubber i.val).corrected + 1 ∧ (s.scrubber i.val).rated = false then [⟨F_LAT_CORR_RATE, i.val, false, 0, s.tt⟩] else []) ∧ t.mem = s.mem ∧ t.prot.lat = s.prot.lat) ∧
  (∀ (s : State) (i : MemIx) (n : Nat),
    memSize s.part i.val = some n →
    s.scrubOn i.val = true →
    i.val < 32 →
    latDecode (s.syndrome (memBase i.val + (s.scrubber i.val).next)) = .checkBit →
    ∃ t, exec (.scrubRead i) s = .next t ∧ t.get (SP_CHK_CNT_CNT i.val) = min (s.get (SP_CHK_CNT_CNT i.val) + 1) (2 ^ (SP_CHK_CNT_CNT i.val).width - 1) ∧ t.prot.writeBacks = s.prot.writeBacks ++ [(i.val, memBase i.val + (s.scrubber i.val).next)] ∧ t.fcuIn = s.fcuIn ∧ t.mem = s.mem ∧ t.prot.lat = s.prot.lat) ∧
  (∀ (s : State) (i : MemIx) (n : Nat),
    memSize s.part i.val = some n →
    s.scrubOn i.val = true →
    i.val < 32 →
    latDecode (s.syndrome (memBase i.val + (s.scrubber i.val).next)) = .uncorrectable →
    ∃ t, exec (.scrubRead i) s = .next t ∧ t.get (SP_UNC_CNT_CNT i.val) = min (s.get (SP_UNC_CNT_CNT i.val) + 1) (2 ^ (SP_UNC_CNT_CNT i.val).width - 1) ∧ (i.val ≠ 3 → t.fcuIn = s.fcuIn ++ (match memFault i.val with | some f => [⟨f, i.val, false, 0, s.tt⟩] | none => [])) ∧ t.mem = s.mem ∧ t.prot.lat = s.prot.lat) ∧
  (∀ (s : State) (i : MemIx),
    memSize s.part i.val = none ∨ s.scrubOn i.val = false →
    exec (.scrubRead i) s = .next (s) ∧ exec (.scrubStall i) s = .next (s)) ∧
  (∀ (s : State) (i : MemIx) (k a b : Nat),
    s.prot.writeBacks.find? (fun e => e.1 = i.val) = some (k, a) →
    latDecode (s.syndrome a) = .dataBit b →
    ∃ t, exec (.scrubWriteBack i) s = .next t ∧ t.word64 a = s.word64 a ^^^ BitVec.ofNat 64 (2 ^ b) ∧ t.syndrome a = 0 ∧ t.prot.writeBacks = s.prot.writeBacks.filter (fun e => e.2 ≠ a) ∧ t.cores = s.cores) ∧
  (∀ (s : State) (i : MemIx) (k a : Nat),
    s.prot.writeBacks.find? (fun e => e.1 = i.val) = some (k, a) →
    latDecode (s.syndrome a) = .checkBit →
    ∃ t, exec (.scrubWriteBack i) s = .next t ∧ t.word64 a = s.word64 a ∧ t.syndrome a = 0 ∧ t.prot.writeBacks = s.prot.writeBacks.filter (fun e => e.2 ≠ a) ∧ t.cores = s.cores) ∧
  (∀ (s : State) (i : MemIx) (k a : Nat),
    s.prot.writeBacks.find? (fun e => e.1 = i.val) = some (k, a) →
    latDecode (s.syndrome a) = .clean ∨ latDecode (s.syndrome a) = .uncorrectable →
    exec (.scrubWriteBack i) s = .next (s.onProt (fun x => { x with writeBacks := s.prot.writeBacks.filter (fun e => e.2 ≠ a) }))) ∧
  (∀ (s : State) (i : MemIx),
    s.prot.writeBacks.find? (fun e => e.1 = i.val) = none →
    exec (.scrubWriteBack i) s = .next (s)) ∧
  (∀ (s : State) (i : MemIx) (n : Nat),
    memSize s.part i.val = some n →
    s.scrubOn i.val = true →
    i.val < 32 →
    4 * (n / 8) * s.get (SP_SCRUB_CFG_PER i.val) * 25 < (s.tt - (s.scrubber i.val).passStart) * 24 →
    exec (.scrubStall i) s = .next (if (s.scrubber i.val).stalled then s else (s.setScrubber i.val { s.scrubber i.val with stalled := true }).raise F_SCRUB_STALL i.val)) ∧
  (∀ (s : State) (w : Bool),
    s.prot.raw = none →
    s.reaches 0 (SP_RAW_CTRL) = true →
    s.rawAccepts (s.get SP_RAW_CTRL_MEM) (s.rd SP_RAW_ADDR).toNat = true →
    ∃ t, exec (if w then .spRawWrite 0 else .spRawRead 0) s = .next t ∧ t.prot.raw = some ⟨(s.get SP_RAW_CTRL_MEM), (s.rd SP_RAW_ADDR).toNat, w, BitVec.ofNat 64 (s.rd64 SP_RAW_DATA), BitVec.ofNat 16 (s.get SP_RAW_CHK_CHK)⟩ ∧ t.flag SP_RAW_CTRL_BUSY = true ∧ t.flag SP_RAW_CTRL_WR = w ∧ t.mem = s.mem ∧ t.prot.lat = s.prot.lat) ∧
  (∀ (s : State),
    s.prot.raw = none →
    s.reaches 0 (SP_RAW_CTRL) = true →
    (s.mode ≠ modeGlost ∧ s.mode ≠ modeMaintenance) ∨ ∀ n, memSize s.part (s.get SP_RAW_CTRL_MEM) = some n → n ≤ (s.rd SP_RAW_ADDR).toNat →
    exec (.spRawRead 0) s = .next ((s.putFlag SP_RAW_CTRL_WR false).putFlag SP_STAT_CFG_REJ true) ∧ exec (.spRawWrite 0) s = .next ((s.putFlag SP_RAW_CTRL_WR true).putFlag SP_STAT_CFG_REJ true)) ∧
  (∀ (s : State) (r : RawAccess),
    s.prot.raw = some r →
    s.reaches 0 (SP_RAW_CTRL) = true →
    exec (.spRawRead 0) s = .next (s) ∧ exec (.spRawWrite 0) s = .next (s)) ∧
  (∀ (s : State) (m : Master),
    m.val ≠ 0 →
    s.reaches m (SP_RAW_CTRL) = true →
    exec (.spRawRead m) s = .next (s.refusedBy m (SP_RAW_CTRL)) ∧ exec (.spRawWrite m) s = .next (s.refusedBy m (SP_RAW_CTRL))) ∧
  (∀ (s : State) (r : RawAccess),
    s.prot.raw = some r →
    r.mem ≠ 3 →
    ∃ t, exec .spRawDone s = .next t ∧ t.prot.raw = none ∧ t.flag SP_RAW_CTRL_BUSY = false ∧
    (if r.wr then t.syndrome (memBase r.mem + r.off / 8 * 8) = r.chk ^^^ latEncode r.data ∧ t.fcuIn = s.fcuIn ++ [⟨F_LAT_RAW_WRITE, r.mem % 2 ^ 32, false, 0, s.tt⟩]
     else t.rd64 SP_RAW_DATA = (s.word64 (memBase r.mem + r.off / 8 * 8)).toNat ∧ t.get SP_RAW_CHK_CHK = (latEncode (s.word64 (memBase r.mem + r.off / 8 * 8)) ^^^ s.syndrome (memBase r.mem + r.off / 8 * 8)).toNat ∧ t.mem = s.mem ∧ t.fcuIn = s.fcuIn)) ∧
  (∀ (s : State) (r : RawAccess),
    s.prot.raw = some r →
    r.mem = 3 →
    exec (.spRawDone) s = .next (((s.onProt (fun x => { x with raw := none })).putFlag SP_RAW_CTRL_BUSY false).rawWheel r.wr (r.off / 8) r.data r.chk)) ∧
  (∀ (s : State),
    s.prot.raw = none →
    exec (.spRawDone) s = .next (s)) ∧
  (∀ (s : State),
    exec (.fwCfgErr) s = .next ((s.putFlag FW_STAT_CFG_ERR true).raise F_FW_CFG_ERR 0)) ∧
  (∀ (s : State) (g : Group) (r : Fin 32),
    g.val < s.part.groups →
    ∃ t, exec (.mpuCfgErr g (some r)) s = .next t ∧ t.region g r.val = none ∧ t.flag (MPU_STAT_CFG_ERR g) = true ∧ t.get (MPU_STAT_ERR_REGION g) = r.val ∧ t.fcuIn = s.fcuIn ++ [⟨if g = 0 then F_MPU_CFG_ERR_KW else F_MPU_CFG_ERR_APP, g.val, false, 0, s.tt⟩] ∧ t.cores = s.cores ∧ t.mem = s.mem) ∧
  (∀ (s : State) (g : Group),
    g.val < s.part.groups →
    ∃ t, exec (.mpuCfgErr g none) s = .next t ∧ (∀ r, t.region g r = s.region g r) ∧ t.flag (MPU_STAT_CFG_ERR g) = true ∧ t.fcuIn = s.fcuIn ++ [⟨if g = 0 then F_MPU_CFG_ERR_KW else F_MPU_CFG_ERR_APP, g.val, false, 0, s.tt⟩] ∧ t.cores = s.cores ∧ t.mem = s.mem) ∧
  (∀ (s : State) (g : Group) (r : Option (Fin 32)),
    s.hasGroup g = false →
    exec (.mpuCfgErr g r) s = .next (s))

/-- A fault is counted and recorded, and its class logs, notifies, holds and stops a group, makes the device safe, or locks it down
(R325, R326, R327, R328, R329, R331). It says that exec of faultOccurrence, fcuLogDrain each completes with a next state, for
every state and operands that meet hypotheses on these alone. -/
def Obligations.FaultsAreReceivedAndReactedTo : Prop :=
  (∀ (s : State) (f : FaultIn),
    s.nextFault = some f →
    f ∈ s.fcuIn ∧ ∀ b ∈ s.fcuIn, f.tt < b.tt ∨ (f.tt = b.tt ∧ f.id ≤ b.id)) ∧
  (∀ (s : State),
    s.fcuIn = [] →
    exec (.faultOccurrence) s = .next (s)) ∧
  (∀ (s : State) (f : FaultIn),
    s.nextFault = some f →
    s.flag (FLT_CFG_IMPL f.id) = false →
    exec (.faultOccurrence) s = .next ({ s with fcuIn := s.fcuIn.erase f })) ∧
  (∀ (s : State) (f : FaultIn),
    s.nextFault = some f →
    s.flag (FLT_CFG_IMPL f.id) = true →
    f.id < 512 →
    (s.reaction f).cls ≤ 1 →
    ∃ t, exec (.faultOccurrence) s = .next t ∧ t.fcuIn = s.fcuIn.erase f ∧ t.get (FLT_CNT_CNT f.id) = min (s.get (FLT_CNT_CNT f.id) + 1) (2 ^ (FLT_CNT_CNT f.id).width - 1) ∧ t.get FCU_OCC_CNT_CNT = min (s.get (FCU_OCC_CNT_CNT) + 1) (2 ^ (FCU_OCC_CNT_CNT).width - 1) ∧ t.rd (FLT_DETAIL f.id) = BitVec.ofNat 32 f.detail ∧ t.flag (FLT_STAT_PEND f.id) = true ∧ t.get (FLT_STAT_LAST f.id) = (s.reaction f).cls ∧ t.flag (FLT_STAT_NOTE f.id) = (s.flag (FLT_STAT_NOTE f.id) || decide ((s.reaction f).cls = 1)) ∧ t.mode = s.mode ∧ t.cores = s.cores ∧ t.outs = s.outs ∧ t.mem = s.mem) ∧
  (∀ (s : State) (f : FaultIn),
    s.nextFault = some f →
    s.flag (FLT_CFG_IMPL f.id) = true →
    f.id < 512 →
    (s.reaction f).cls = 2 →
    ∃ t, exec (.faultOccurrence) s = .next t ∧ t.get (FLT_CNT_CNT f.id) = min (s.get (FLT_CNT_CNT f.id) + 1) (2 ^ (FLT_CNT_CNT f.id).width - 1) ∧ t.flag (FLT_STAT_NOTE f.id) = true ∧ (t.get SSC_STAT_GHOLD).testBit (s.reactGroup f).val = true ∧ t.get (LS_STAT_STATE (s.reactGroup f)) = 1 ∧ (t.core (s.reactGroup f)).restartDue = true ∧ t.mode = s.mode ∧ t.mem = s.mem) ∧
  (∀ (s : State) (f : FaultIn),
    s.nextFault = some f →
    s.flag (FLT_CFG_IMPL f.id) = true →
    f.id < 512 →
    (s.reaction f).cls = 3 →
    modeStandby ≤ s.mode →
    s.mode ≤ modeMaintenance →
    ∃ t, exec .faultOccurrence s = .next t ∧ t.mode = modeSafe ∧ t.devSafe = true ∧ t.outputsSafe ∧ t.get PM_MODE_PREV = s.mode) ∧
  (∀ (s : State) (f : FaultIn),
    s.nextFault = some f →
    s.flag (FLT_CFG_IMPL f.id) = true →
    f.id < 512 →
    4 ≤ (s.reaction f).cls →
    ∃ t, exec .faultOccurrence s = .next t ∧ t.mode = modeLockdown ∧ t.devSafe = true ∧ t.outputsSafe) ∧
  (∀ (s : State) (e : Bytes) (l : List Bytes),
    s.sup.logQ = e :: l →
    ∃ t, exec (.fcuLogDrain) s = .next t ∧ t.sup.logQ = l ∧ t.get FCU_LOG_HEAD_CNT = (s.get FCU_LOG_HEAD_CNT + 1) % 2 ^ FCU_LOG_HEAD_CNT.width ∧ (∀ j, j < 8 → t.rd (FCU_LOG (s.get FCU_LOG_HEAD_CNT % 64) j) = BitVec.ofNat 32 (field e (4 * j) 4)) ∧ t.fcuIn = s.fcuIn ∧ t.mem = s.mem) ∧
  (∀ (s : State),
    s.sup.logQ = [] →
    exec (.fcuLogDrain) s = .next (s))

/-- Faults are injected, configured and cleared by master 0 in their modes, the FCU checks itself, and the SSC sets its latches
itself and is tested (R326, R327, R330, R332, R333, R337). It says that exec of fcuInject, fltCfgWrite, fltPendClear, fcuSelf,
sscDisagree, sscPeriodicTest, sscIntrusiveTest, sscIntrusiveTestEnd each completes with a next state, for every state and
operands that meet hypotheses on these alone. -/
def Obligations.TheFcuAndTheSscAreTested : Prop :=
  (∀ (s : State) (v : Word),
    s.mode = modeGlost ∨ s.mode = modeMaintenance →
    s.reaches 0 (FCU_INJ_CTRL) = true →
    s.flag (FLT_CFG_IMPL (bitsOf v.toNat 0 9)) = true →
    (s.reaction ⟨bitsOf v.toNat 0 9, (s.rd FCU_INJ_DETAIL).toNat, true, 0, s.tt⟩).cls ≠ 4 ∨ s.lifecycle ≠ lcDeployed →
    ∃ t, exec (.fcuInject 0 v) s = .next t ∧ t.fcuIn = s.fcuIn ++ [⟨bitsOf v.toNat 0 9, (s.rd FCU_INJ_DETAIL).toNat, true, 0, s.tt⟩, ⟨F_FCU_INJECT, bitsOf v.toNat 0 9, false, 0, s.tt + 1⟩] ∧ t.get FCU_INJ_CTRL_ID = bitsOf v.toNat 0 9 ∧ t.mode = s.mode ∧ t.mem = s.mem) ∧
  (∀ (s : State) (v : Word),
    (s.mode ≠ modeGlost ∧ s.mode ≠ modeMaintenance) ∨ s.flag (FLT_CFG_IMPL (bitsOf v.toNat 0 9)) = false →
    s.reaches 0 (FCU_INJ_CTRL) = true →
    exec (.fcuInject 0 v) s = .next (s.putFlag FCU_STAT_CFG_REJ true)) ∧
  (∀ (s : State) (i : FaultId) (v : Word),
    s.flag (FLT_CFG_IMPL i) = true →
    s.reaches 0 (FLT_CFG i) = true →
    bitsOf v.toNat 0 3 ≤ 4 →
    s.get (FLT_CFG_MIN i) ≤ bitsOf v.toNat 0 3 →
    s.mode = modeMaintenance ∨ (s.get (FLT_CFG_REACT i) ≤ bitsOf v.toNat 0 3 ∧ bitsOf (s.latest (FLT_CFG i)).toNat 0 3 ≤ bitsOf v.toNat 0 3) →
    s.stage.find? (fun e => e.off = FLT_CFG i) = none →
    s.stagedNext < 1024 →
    ∃ t, exec (.fltCfgWrite i 0 v) s = .next t ∧ t.stage = s.stage ++ [⟨FLT_CFG i, v &&& 0x70007, 0, s.stagings⟩] ∧ t.get (FLT_CFG_NSRC i) = bitsOf v.toNat 8 6 ∧ t.get (FLT_CFG_REACT i) = s.get (FLT_CFG_REACT i) ∧ t.flag FCU_STAT_CFG_REJ = s.flag FCU_STAT_CFG_REJ ∧ t.mem = s.mem) ∧
  (∀ (s : State) (i : FaultId) (v : Word),
    s.flag (FLT_CFG_IMPL i) = true →
    s.reaches 0 (FLT_CFG i) = true →
    4 < bitsOf v.toNat 0 3 ∨ (bitsOf v.toNat 0 3 < s.get (FLT_CFG_REACT i) ∧ s.mode ≠ modeMaintenance) →
    exec (.fltCfgWrite i 0 v) s = .next (s.putFlag FCU_STAT_CFG_REJ true)) ∧
  (∀ (s : State) (i : FaultId) (v : Word),
    s.flag (FLT_CFG_IMPL i) = false →
    s.reaches 0 (FLT_CFG i) = true →
    exec (.fltCfgWrite i 0 v) s = .next (s)) ∧
  (∀ (s : State) (i : FaultId),
    s.reaches 0 (FLT_STAT i) = true →
    exec (.fltPendClear i 0) s = .next ((s.putFlag (FLT_STAT_PEND i) false).putFlag (FLT_STAT_NOTE i) false)) ∧
  (∀ (s : State),
    ∃ t, exec (.fcuSelf .heartbeatX) s = .next t ∧ t.flag SSC_STAT_DEV_X = true ∧ t.flag SSC_STAT_HB_LOST = true ∧ t.flag FCU_STAT_HB_OK = false ∧ (∃ l, t.fcuIn = l ++ [⟨F_FCU_SELF, 0, false, 0, s.tt⟩]) ∧ t.flag EW_SSTOP_STAT_DRV0 = false ∧ t.mem = s.mem) ∧
  (∀ (s : State),
    ∃ t, exec (.fcuSelf .heartbeatY) s = .next t ∧ t.flag SSC_STAT_DEV_Y = true ∧ t.flag SSC_STAT_HB_LOST = true ∧ t.flag FCU_STAT_HB_OK = false ∧ (∃ l, t.fcuIn = l ++ [⟨F_FCU_SELF, 0, false, 0, s.tt⟩]) ∧ t.flag EW_SSTOP_STAT_DRV1 = false ∧ t.mem = s.mem) ∧
  (∀ (s : State),
    exec (.fcuSelf .lattice) s = .next (s.raise F_FCU_SELF 0)) ∧
  (∀ (s : State) (c : Fin 5),
    exec (.fcuSelf (.disagree c)) s = .next ((match s.nextFault with | none => s | some f => ({ s with fcuIn := s.fcuIn.erase f } : State).occur { f with cls := max f.cls c.val }).raise F_FCU_SELF 0)) ∧
  (∀ (s : State) (m : Master) (i : FaultId) (v : Word),
    m ≠ 0 →
    s.reaches m (FCU_INJ_CTRL) = true →
    s.reaches m (FLT_CFG i) = true →
    s.reaches m (FLT_STAT i) = true →
    exec (.fcuInject m v) s = .next (s.refusedBy m (FCU_INJ_CTRL)) ∧ exec (.fltCfgWrite i m v) s = .next (s.refusedBy m (FLT_CFG i)) ∧ exec (.fltPendClear i m) s = .next (s.refusedBy m (FLT_STAT i))) ∧
  (∀ (s : State),
    ∃ t, exec (.sscDisagree) s = .next t ∧ t.devSafe = true ∧ t.flag SSC_STAT_DISAGREE = true ∧ t.outputsSafe ∧ t.mode = s.mode ∧ t.mem = s.mem) ∧
  (∀ (s : State),
    s.periodicDue = true →
    ∃ t, exec (.sscPeriodicTest true true) s = .next t ∧ t.sup.testFn = s.fn ∧ t.get SSC_TEST_CNT_CNT = min (s.get (SSC_TEST_CNT_CNT) + 1) (2 ^ (SSC_TEST_CNT_CNT).width - 1) ∧ t.fcuIn = s.fcuIn ∧ t.outs = s.outs ∧ t.mem = s.mem) ∧
  (∀ (s : State) (x y : Bool),
    s.periodicDue = true →
    (x && y) = false →
    ∃ t, exec (.sscPeriodicTest x y) s = .next t ∧ t.sup.testFn = s.fn ∧ t.get SSC_TEST_CNT_CNT = s.get SSC_TEST_CNT_CNT ∧ t.flag SSC_STAT_TEST_FAIL = true ∧ t.devSafe = true ∧ t.outputsSafe ∧ t.mode = s.mode ∧ t.mem = s.mem ∧ (x = false → ⟨F_SSC_TEST_FAIL, 0, false, 0, s.tt⟩ ∈ t.fcuIn) ∧ (y = false → ⟨F_SSC_TEST_FAIL, 1, false, 0, s.tt⟩ ∈ t.fcuIn)) ∧
  (∀ (s : State) (x y : Bool),
    s.periodicDue = false →
    exec (.sscPeriodicTest x y) s = .next (s)) ∧
  (∀ (s : State),
    s.mode = modeGlost ∨ s.mode = modeMaintenance →
    s.reaches 0 (SSC_CTRL) = true →
    s.outs.itest = none →
    ∃ t, exec (.sscIntrusiveTest 0) s = .next t ∧ t.outs.itest = some ⟨s.tt, !s.flag SSC_STAT_DEV_X, !s.flag SSC_STAT_DEV_Y, false⟩ ∧ t.devSafe = true ∧ t.flag SSC_CTRL_TEST_BUSY = true ∧ t.outputsSafe ∧ t.mem = s.mem) ∧
  (∀ (s : State),
    s.mode ≠ modeGlost →
    s.mode ≠ modeMaintenance →
    s.reaches 0 (SSC_CTRL) = true →
    s.outs.itest = none →
    exec (.sscIntrusiveTest 0) s = .next (s.putFlag SSC_STAT_CFG_REJ true)) ∧
  (∀ (s : State),
    s.outs.itest ≠ none →
    s.reaches 0 (SSC_CTRL) = true →
    exec (.sscIntrusiveTest 0) s = .next (s)) ∧
  (∀ (s : State) (m : Master),
    m ≠ 0 →
    s.reaches m (SSC_CTRL) = true →
    exec (.sscIntrusiveTest m) s = .next (s.refusedBy m (SSC_CTRL))) ∧
  (∀ (s : State) (a : IntrusiveTest) (x y : Bool),
    s.outs.itest = some a →
    a.start + 12500 ≤ s.tt →
    a.abandoned = false →
    ((x || y) && s.hasReadback) = false →
    ∃ t, exec (.sscIntrusiveTestEnd x y) s = .next t ∧ t.outs.itest = none ∧ t.flag SSC_CTRL_TEST_BUSY = false ∧ t.flag SSC_STAT_DEV_X = (s.flag SSC_STAT_DEV_X && !a.setX) ∧ t.flag SSC_STAT_DEV_Y = (s.flag SSC_STAT_DEV_Y && !a.setY) ∧ t.flag SSC_STAT_ITEST_PASS = true ∧ t.mem = s.mem) ∧
  (∀ (s : State) (a : IntrusiveTest) (x y : Bool),
    s.outs.itest = some a →
    a.start + 12500 ≤ s.tt →
    a.abandoned = true →
    ∃ t, exec (.sscIntrusiveTestEnd x y) s = .next t ∧ t.outs.itest = none ∧ t.flag SSC_CTRL_TEST_BUSY = false ∧ t.flag SSC_STAT_DEV_X = (s.flag SSC_STAT_DEV_X && !a.setX) ∧ t.flag SSC_STAT_DEV_Y = (s.flag SSC_STAT_DEV_Y && !a.setY) ∧ t.flag SSC_STAT_ITEST_PASS = false ∧ t.mem = s.mem) ∧
  (∀ (s : State) (a : IntrusiveTest) (x y : Bool),
    s.outs.itest = some a →
    a.start + 12500 ≤ s.tt →
    a.abandoned = false →
    (x || y) = true →
    s.hasReadback = true →
    ∃ t, exec (.sscIntrusiveTestEnd x y) s = .next t ∧ t.outs.itest = none ∧ t.flag SSC_CTRL_TEST_BUSY = false ∧ t.flag SSC_STAT_ITEST_PASS = false ∧ t.devSafe = true ∧ t.outputsSafe ∧ ∃ d, (d = 2 ∨ d = 3) ∧ ⟨F_SSC_TEST_FAIL, d, false, 0, s.tt⟩ ∈ t.fcuIn) ∧
  (∀ (s : State) (x y : Bool),
    s.outs.itest = none ∨ ∃ a, s.outs.itest = some a ∧ s.tt < a.start + 12500 →
    exec (.sscIntrusiveTestEnd x y) s = .next (s))

/-- Keys serve the watchdogs or are invalid, an unserved one expires by stages, cones count and are judged, and RETAINED is cleared
on request (R334, R336, R338, R339, R340, R341). It says that exec of wdKeyWrite, wdKey1Lapse, wdWarn, wdExpire, wdFreezeCap,
wdTimebase, cmBend, cmStart, retClear each completes with a next state, for every state and operands that meet hypotheses on
these alone. -/
def Obligations.WatchdogsAndConesSupervise : Prop :=
  (∀ (s : State) (g : Group) (m : Master) (v : Word),
    g.val < s.part.groups →
    m.val = g.val →
    s.reaches m (WD_KEY g) = true →
    v.toNat % 65536 = 0xB15C →
    s.key1Pending g = false →
    exec (.wdKeyWrite g m v) s = .next ((s.onCore g (fun c => { c with key1 := some s.sosc })).putFlag (WD_STAT_KEY1 g) true)) ∧
  (∀ (s : State) (g : Group) (m : Master) (v : Word),
    g.val < s.part.groups →
    m.val = g.val →
    s.reaches m (WD_KEY g) = true →
    v.toNat % 65536 = 0x4EA3 →
    s.key1Pending g = true →
    s.coneGate g = false ∨ s.flag (CM_VERDICT_CLEAN g) = true →
    s.wdOpen g ≤ s.get (WD_COUNT_US g) ∨ s.flag (WD_STAT_STAGE g) = true →
    s.wdAtEnd g = false →
    ∃ t, exec (.wdKeyWrite g m v) s = .next t ∧ t.get (WD_COUNT_US g) = 0 ∧ (t.core g).key1 = none ∧ t.flag (WD_STAT_KEY1 g) = false ∧ t.get (WD_SVC_CNT_CNT g) = min (s.get (WD_SVC_CNT_CNT g) + 1) (2 ^ (WD_SVC_CNT_CNT g).width - 1) ∧ t.flag (WD_STAT_STAGE g) = false ∧ t.fcuIn = s.fcuIn ++ (if s.flag (WD_STAT_STAGE g) then [⟨F_WD_LATE, g.val, false, 0, s.tt⟩] else []) ∧ t.mode = s.mode ∧ t.mem = s.mem) ∧
  (∀ (s : State) (g : Group) (m : Master) (v : Word),
    g.val < s.part.groups →
    m.val = g.val →
    s.reaches m (WD_KEY g) = true →
    v.toNat % 65536 = 0x4EA3 →
    s.key1Pending g = true →
    s.coneGate g = false ∨ s.flag (CM_VERDICT_CLEAN g) = true →
    s.wdAtEnd g = true →
    exec (.wdKeyWrite g m v) s = .next (((s.putFlag (WD_STAT_INVALID g) true).put (WD_STAT_INV_CAUSE g) 5).raise F_WD_INVALID (g.val + 5 * 256))) ∧
  (∀ (s : State) (g : Group) (m : Master) (v : Word) (c : Nat),
    g.val < s.part.groups →
    m.val = g.val →
    s.reaches m (WD_KEY g) = true →
    (v.toNat % 65536 ≠ 0xB15C ∧ v.toNat % 65536 ≠ 0x4EA3 ∧ c = 2) ∨ (v.toNat % 65536 = 0xB15C ∧ s.key1Pending g = true ∧ c = 3) ∨ (v.toNat % 65536 = 0x4EA3 ∧ s.key1Pending g = false ∧ (s.core g).expired ≠ some s.sosc ∧ c = 3) ∨ (v.toNat % 65536 = 0x4EA3 ∧ s.key1Pending g = true ∧ s.coneGate g = true ∧ s.flag (CM_VERDICT_CLEAN g) = false ∧ c = 4) ∨ (v.toNat % 65536 = 0x4EA3 ∧ s.key1Pending g = true ∧ (s.coneGate g = false ∨ s.flag (CM_VERDICT_CLEAN g) = true) ∧ s.wdAtEnd g = false ∧ s.get (WD_COUNT_US g) < s.wdOpen g ∧ s.flag (WD_STAT_STAGE g) = false ∧ c = 1) →
    s.flag (WD_STAT_STAGE g) = false →
    ∃ t, exec (.wdKeyWrite g m v) s = .next t ∧ t.flag (WD_STAT_INVALID g) = true ∧ t.get (WD_STAT_INV_CAUSE g) = c ∧ t.get (WD_COUNT_US g) = 0 ∧ t.flag (WD_STAT_STAGE g) = true ∧ (t.core g).key1 = none ∧ t.get (WD_WARN_CNT_CNT g) = min (s.get (WD_WARN_CNT_CNT g) + 1) (2 ^ (WD_WARN_CNT_CNT g).width - 1) ∧ t.fcuIn = s.fcuIn ++ [⟨F_WD_INVALID, g.val + c * 256, false, 0, s.tt⟩, ⟨F_WD_WARN, g.val, false, 0, s.tt⟩] ∧ t.srcIn = s.srcIn ++ [384 + g.val] ∧ t.mode = s.mode ∧ t.mem = s.mem) ∧
  (∀ (s : State) (g : Group) (m : Master) (v : Word) (c : Nat),
    g.val < s.part.groups →
    m.val = g.val →
    s.reaches m (WD_KEY g) = true →
    (v.toNat % 65536 ≠ 0xB15C ∧ v.toNat % 65536 ≠ 0x4EA3 ∧ c = 2) ∨ (v.toNat % 65536 = 0xB15C ∧ s.key1Pending g = true ∧ c = 3) ∨ (v.toNat % 65536 = 0x4EA3 ∧ s.key1Pending g = false ∧ (s.core g).expired ≠ some s.sosc ∧ c = 3) ∨ (v.toNat % 65536 = 0x4EA3 ∧ s.key1Pending g = true ∧ s.coneGate g = true ∧ s.flag (CM_VERDICT_CLEAN g) = false ∧ c = 4) ∨ (v.toNat % 65536 = 0x4EA3 ∧ s.key1Pending g = true ∧ (s.coneGate g = false ∨ s.flag (CM_VERDICT_CLEAN g) = true) ∧ s.wdAtEnd g = false ∧ s.get (WD_COUNT_US g) < s.wdOpen g ∧ s.flag (WD_STAT_STAGE g) = false ∧ c = 1) →
    s.flag (WD_STAT_STAGE g) = true →
    g ≠ 0 →
    ∃ t, exec (.wdKeyWrite g m v) s = .next t ∧ t.flag (WD_STAT_INVALID g) = true ∧ t.get (WD_STAT_INV_CAUSE g) = c ∧ (t.get SSC_STAT_GHOLD).testBit g = true ∧ t.get (WD_COUNT_US g) = 0 ∧ t.rd64 (RET_WD_RST_FN g) = s.fn % 2 ^ 64 ∧ ⟨F_WD_EXPIRE_APP, g.val, false, 0, s.tt⟩ ∈ t.fcuIn ∧ (latDecode (s.syndrome (retBase + 16 * g.val)) = .clean → t.get (RET_WD_RST_COUNT g) = min (s.get (RET_WD_RST_COUNT g) + 1) (2 ^ (RET_WD_RST_COUNT g).width - 1) ∧ t.fcuIn = s.fcuIn ++ [⟨F_WD_INVALID, g.val + c * 256, false, 0, s.tt⟩, ⟨F_WD_EXPIRE_APP, g.val, false, 0, s.tt⟩]) ∧ t.mode = s.mode ∧ t.mem = s.mem) ∧
  (∀ (s : State) (g : Group) (m : Master) (v : Word),
    g.val < s.part.groups →
    m.val ≠ g.val →
    s.reaches m (WD_KEY g) = true →
    exec (.wdKeyWrite g m v) s = .next (s.refusedBy m (WD_KEY g))) ∧
  (∀ (s : State) (g : Group) (k : Nat),
    (s.core g).key1 = some k →
    exec (.wdKey1Lapse g) s = .next (if k + 16 ≤ s.sosc then (s.onCore g (fun c => { c with key1 := none })).putFlag (WD_STAT_KEY1 g) false else s)) ∧
  (∀ (s : State) (g : Group),
    s.wdDue g = true →
    s.flag (WD_STAT_STAGE g) = false →
    ∃ t, exec (.wdWarn g) s = .next t ∧ t.get (WD_COUNT_US g) = 0 ∧ t.flag (WD_STAT_STAGE g) = true ∧ (t.core g).key1 = none ∧ t.get (WD_WARN_CNT_CNT g) = min (s.get (WD_WARN_CNT_CNT g) + 1) (2 ^ (WD_WARN_CNT_CNT g).width - 1) ∧ t.fcuIn = s.fcuIn ++ [⟨F_WD_WARN, g.val, false, 0, s.tt⟩] ∧ t.srcIn = s.srcIn ++ [384 + g.val] ∧ t.mem = s.mem) ∧
  (∀ (s : State) (g : Group),
    g ≠ 0 →
    s.wdDue g = true →
    s.flag (WD_STAT_STAGE g) = true →
    ∃ t, exec (.wdExpire g) s = .next t ∧ (t.get SSC_STAT_GHOLD).testBit g = true ∧ t.get (WD_COUNT_US g) = 0 ∧ t.rd64 (RET_WD_RST_FN g) = s.fn % 2 ^ 64 ∧ ⟨F_WD_EXPIRE_APP, g.val, false, 0, s.tt⟩ ∈ t.fcuIn ∧ (latDecode (s.syndrome (retBase + 16 * g.val)) = .clean → t.get (RET_WD_RST_COUNT g) = min (s.get (RET_WD_RST_COUNT g) + 1) (2 ^ (RET_WD_RST_COUNT g).width - 1) ∧ t.fcuIn = s.fcuIn ++ [⟨F_WD_EXPIRE_APP, g.val, false, 0, s.tt⟩]) ∧ t.mode = s.mode ∧ t.mem = s.mem) ∧
  (∀ (s : State),
    s.wdDue 0 = true →
    s.flag (WD_STAT_STAGE 0) = true →
    ∃ u : State, exec (.wdExpire 0) s = .next ((u.setDevSafe.raise F_WD_EXPIRE_KW 0).warmRestart causeWdKw) ∧ u.get (WD_COUNT_US 0) = 0 ∧ u.rd64 (RET_WD_RST_FN 0) = s.fn % 2 ^ 64 ∧ (latDecode (s.syndrome retBase) = .clean → u.get (RET_WD_RST_COUNT 0) = min (s.get (RET_WD_RST_COUNT 0) + 1) (2 ^ (RET_WD_RST_COUNT 0).width - 1) ∧ u.fcuIn = s.fcuIn) ∧ u.mode = s.mode ∧ u.mem = s.mem) ∧
  (∀ (s : State) (g : Group),
    s.wdDue g = false ∨ s.flag (WD_STAT_STAGE g) = true →
    exec (.wdWarn g) s = .next (s)) ∧
  (∀ (s : State) (g : Group),
    s.wdDue g = false ∨ s.flag (WD_STAT_STAGE g) = false →
    exec (.wdExpire g) s = .next (s)) ∧
  (∀ (s : State) (g : Group),
    g.val < s.part.groups →
    500000 ≤ s.get (WD_FRZ_US g) →
    exec (.wdFreezeCap g) s = .next (if (s.core g).frzCapped then s else (s.onCore g (fun c => { c with frzCapped := true })).raise F_WD_FREEZE_CAP g.val)) ∧
  (∀ (s : State) (n : Nat),
    exec (.wdTimebase n) s = .next (if n < 900 ∨ 1100 < n then s.raise F_WD_TIMEBASE 0 else s)) ∧
  (∀ (s : State) (g : Group) (m : Master) (v : Word),
    g.val < s.part.groups →
    m.val = g.val →
    s.reaches m (CM_BEND g) = true →
    exec (.cmBend g m v) s = .next (if s.flag (CM_CONE_CFG_EN g (bitsOf v.toNat 0 5)) then s.put (CM_CNT_NOW g (bitsOf v.toNat 0 5)) (min (s.get (CM_CNT_NOW g (bitsOf v.toNat 0 5)) + 1) (2 ^ (CM_CNT_NOW g (bitsOf v.toNat 0 5)).width - 1)) else s.put (CM_BAD_CNT_CNT g) (min (s.get (CM_BAD_CNT_CNT g) + 1) (2 ^ (CM_BAD_CNT_CNT g).width - 1)))) ∧
  (∀ (s : State) (g : Group) (m : Master),
    g.val < s.part.groups →
    m.val = g.val →
    s.reaches m (CM_CTRL g) = true →
    exec (.cmStart g m) s = .next (s.putFlag (CM_CTRL_STARTED g) true)) ∧
  (∀ (s : State) (g : Group) (m : Master) (v : Word),
    g.val < s.part.groups →
    m.val ≠ g.val →
    s.reaches m (CM_BEND g) = true →
    s.reaches m (CM_CTRL g) = true →
    exec (.cmBend g m v) s = .next (s.refusedBy m (CM_BEND g)) ∧ exec (.cmStart g m) s = .next (s.refusedBy m (CM_CTRL g))) ∧
  (∀ (s : State),
    s.mode = modeMaintenance →
    s.reaches 0 (RET_CTRL) = true →
    ∃ t, exec (.retClear 0) s = .next t ∧ (∀ a, 0x910000 ≤ a → a < 0x91009C → t.rd a = regReset s.part a) ∧ (∀ a, a < 0x910000 ∨ 0x91009C ≤ a → t.rd a = s.rd a) ∧ (∀ a, 0x910000 ≤ a → a < 0x91009C → t.syndrome (0x40000000 + a) = 0) ∧ t.mem = s.mem ∧ t.cores = s.cores) ∧
  (∀ (s : State),
    s.mode ≠ modeMaintenance →
    s.reaches 0 (RET_CTRL) = true →
    exec (.retClear 0) s = .next (s)) ∧
  (∀ (s : State) (m : Master),
    m ≠ 0 →
    s.reaches m (RET_CTRL) = true →
    exec (.retClear m) s = .next (s.refusedBy m (RET_CTRL)))

/-- The register instructions of the ALU group write their result to rd, go on in sequence and change nothing else (R232, R237,
R239, R242, R250, R254). It says that exec of add, sub, and, or, xor, nor, slt, sltu, sll, srl, sra, slli, srli, srai, min, max,
minu, maxu, adds, subs, clz, ctz, popc, bswap each completes with a next state, for every state and operands that meet
hypotheses on these alone. -/
def Obligations.TheAluComputes : Prop :=
  ∀ (s u : State) (g : Group) (rd ra rb : GReg) (sh : BitVec 5),
    s.fetches u g = true →
    (u.core g).acts = true →
    (∃ t, exec (.add g rd ra rb) s = .next t ∧ u.computed t g rd ((u.core g).rg ra + (u.core g).rg rb)) ∧
    (∃ t, exec (.sub g rd ra rb) s = .next t ∧ u.computed t g rd ((u.core g).rg ra - (u.core g).rg rb)) ∧
    (∃ t, exec (.and g rd ra rb) s = .next t ∧ u.computed t g rd ((u.core g).rg ra &&& (u.core g).rg rb)) ∧
    (∃ t, exec (.or g rd ra rb) s = .next t ∧ u.computed t g rd ((u.core g).rg ra ||| (u.core g).rg rb)) ∧
    (∃ t, exec (.xor g rd ra rb) s = .next t ∧ u.computed t g rd ((u.core g).rg ra ^^^ (u.core g).rg rb)) ∧
    (∃ t, exec (.nor g rd ra rb) s = .next t ∧ u.computed t g rd (~~~((u.core g).rg ra ||| (u.core g).rg rb))) ∧
    (∃ t, exec (.slt g rd ra rb) s = .next t ∧ u.computed t g rd (if ((u.core g).rg ra).toInt < ((u.core g).rg rb).toInt then 1 else 0)) ∧
    (∃ t, exec (.sltu g rd ra rb) s = .next t ∧ u.computed t g rd (if ((u.core g).rg ra).toNat < ((u.core g).rg rb).toNat then 1 else 0)) ∧
    (∃ t, exec (.sll g rd ra rb) s = .next t ∧ u.computed t g rd (BitVec.ofNat 32 (((u.core g).rg ra).toNat * 2 ^ (((u.core g).rg rb).toNat % 32)))) ∧
    (∃ t, exec (.srl g rd ra rb) s = .next t ∧ u.computed t g rd (BitVec.ofNat 32 (((u.core g).rg ra).toNat / 2 ^ (((u.core g).rg rb).toNat % 32)))) ∧
    (∃ t, exec (.sra g rd ra rb) s = .next t ∧ u.computed t g rd (BitVec.ofInt 32 (((u.core g).rg ra).toInt / 2 ^ (((u.core g).rg rb).toNat % 32)))) ∧
    (∃ t, exec (.slli g rd ra sh) s = .next t ∧ u.computed t g rd (BitVec.ofNat 32 (((u.core g).rg ra).toNat * 2 ^ sh.toNat))) ∧
    (∃ t, exec (.srli g rd ra sh) s = .next t ∧ u.computed t g rd (BitVec.ofNat 32 (((u.core g).rg ra).toNat / 2 ^ sh.toNat))) ∧
    (∃ t, exec (.srai g rd ra sh) s = .next t ∧ u.computed t g rd (BitVec.ofInt 32 (((u.core g).rg ra).toInt / 2 ^ sh.toNat))) ∧
    (∃ t, exec (.min g rd ra rb) s = .next t ∧ u.computed t g rd (BitVec.ofInt 32 (min ((u.core g).rg ra).toInt ((u.core g).rg rb).toInt))) ∧
    (∃ t, exec (.max g rd ra rb) s = .next t ∧ u.computed t g rd (BitVec.ofInt 32 (max ((u.core g).rg ra).toInt ((u.core g).rg rb).toInt))) ∧
    (∃ t, exec (.minu g rd ra rb) s = .next t ∧ u.computed t g rd (BitVec.ofNat 32 (min ((u.core g).rg ra).toNat ((u.core g).rg rb).toNat))) ∧
    (∃ t, exec (.maxu g rd ra rb) s = .next t ∧ u.computed t g rd (BitVec.ofNat 32 (max ((u.core g).rg ra).toNat ((u.core g).rg rb).toNat))) ∧
    (∃ t, exec (.adds g rd ra rb) s = .next t ∧ u.computed t g rd (BitVec.ofInt 32 (max (-2 ^ 31) (min (((u.core g).rg ra).toInt + ((u.core g).rg rb).toInt) (2 ^ 31 - 1))))) ∧
    (∃ t, exec (.subs g rd ra rb) s = .next t ∧ u.computed t g rd (BitVec.ofInt 32 (max (-2 ^ 31) (min (((u.core g).rg ra).toInt - ((u.core g).rg rb).toInt) (2 ^ 31 - 1))))) ∧
    (∃ t, exec (.clz g rd ra) s = .next t ∧ ∃ v : Word, u.computed t g rd v ∧ v.toNat ≤ 32 ∧ (∀ k, k < v.toNat → ((u.core g).rg ra).getLsbD (31 - k) = false) ∧ (v.toNat < 32 → ((u.core g).rg ra).getLsbD (31 - v.toNat) = true)) ∧
    (∃ t, exec (.ctz g rd ra) s = .next t ∧ ∃ v : Word, u.computed t g rd v ∧ v.toNat ≤ 32 ∧ (∀ k, k < v.toNat → ((u.core g).rg ra).getLsbD k = false) ∧ (v.toNat < 32 → ((u.core g).rg ra).getLsbD v.toNat = true)) ∧
    (∃ t, exec (.popc g rd ra) s = .next t ∧ u.computed t g rd (BitVec.ofNat 32 (((List.range 32).filter (fun k => ((u.core g).rg ra).getLsbD k)).length))) ∧
    (∃ t, exec (.bswap g rd ra) s = .next t ∧ ∃ v : Word, u.computed t g rd v ∧ ∀ k, k < 32 → v.getLsbD k = ((u.core g).rg ra).getLsbD (24 - k / 8 * 8 + k % 8))

/-- Bit fields, immediate operands, products and quotients give the results of R242 to R245 in rd, and a field that does not fit is
illegal (R232, R239, R242, R243, R244, R245). It says that exec of addi, slti, sltiu, andi, ori, xori, lui, mul, mulh, mulhu,
mulhsu, mulq, macq, extu, exts, ins, div, divu, rem, remu each completes with a next state, for every state and operands that
meet hypotheses on these alone. -/
def Obligations.FieldsImmediatesProductsAndQuotients : Prop :=
  (∀ (s u : State) (g : Group) (rd ra rb : GReg) (imm : BitVec 16),
    s.fetches u g = true →
    (u.core g).acts = true →
    (∃ t, exec (.addi g rd ra imm) s = .next t ∧ u.computed t g rd ((u.core g).rg ra + imm.signExtend 32)) ∧
    (∃ t, exec (.slti g rd ra imm) s = .next t ∧ u.computed t g rd (if ((u.core g).rg ra).toInt < imm.toInt then 1 else 0)) ∧
    (∃ t, exec (.sltiu g rd ra imm) s = .next t ∧ u.computed t g rd (if ((u.core g).rg ra).toNat < (imm.signExtend 32).toNat then 1 else 0)) ∧
    (∃ t, exec (.andi g rd ra imm) s = .next t ∧ u.computed t g rd ((u.core g).rg ra &&& imm.zeroExtend 32)) ∧
    (∃ t, exec (.ori g rd ra imm) s = .next t ∧ u.computed t g rd ((u.core g).rg ra ||| imm.zeroExtend 32)) ∧
    (∃ t, exec (.xori g rd ra imm) s = .next t ∧ u.computed t g rd ((u.core g).rg ra ^^^ imm.zeroExtend 32)) ∧
    (∃ t, exec (.lui g rd imm) s = .next t ∧ u.computed t g rd (BitVec.ofNat 32 (imm.toNat * 0x10000))) ∧
    (∃ t, exec (.mul g rd ra rb) s = .next t ∧ u.computed t g rd (BitVec.ofNat 32 (((u.core g).rg ra).toNat * ((u.core g).rg rb).toNat))) ∧
    (∃ t, exec (.mulh g rd ra rb) s = .next t ∧ u.computed t g rd (BitVec.ofInt 32 (((u.core g).rg ra).toInt * ((u.core g).rg rb).toInt / 2 ^ 32))) ∧
    (∃ t, exec (.mulhu g rd ra rb) s = .next t ∧ u.computed t g rd (BitVec.ofNat 32 (((u.core g).rg ra).toNat * ((u.core g).rg rb).toNat / 2 ^ 32))) ∧
    (∃ t, exec (.mulhsu g rd ra rb) s = .next t ∧ u.computed t g rd (BitVec.ofInt 32 (((u.core g).rg ra).toInt * (((u.core g).rg rb).toNat : Int) / 2 ^ 32))) ∧
    (∃ t, exec (.mulq g rd ra rb) s = .next t ∧ u.computed t g rd (BitVec.ofInt 32 (max (-2 ^ 31) (min ((if 0 ≤ ((u.core g).rg ra).toInt * ((u.core g).rg rb).toInt then (((u.core g).rg ra).toInt * ((u.core g).rg rb).toInt + 2 ^ 30) / 2 ^ 31 else -((-(((u.core g).rg ra).toInt * ((u.core g).rg rb).toInt) + 2 ^ 30) / 2 ^ 31))) (2 ^ 31 - 1))))) ∧
    (∃ t, exec (.macq g rd ra rb) s = .next t ∧ u.computed t g rd (BitVec.ofInt 32 (max (-2 ^ 31) (min (((u.core g).rg rd).toInt + (if 0 ≤ ((u.core g).rg ra).toInt * ((u.core g).rg rb).toInt then (((u.core g).rg ra).toInt * ((u.core g).rg rb).toInt + 2 ^ 30) / 2 ^ 31 else -((-(((u.core g).rg ra).toInt * ((u.core g).rg rb).toInt) + 2 ^ 30) / 2 ^ 31))) (2 ^ 31 - 1)))))) ∧
  (∀ (s u : State) (g : Group) (rd ra : GReg) (w sh : BitVec 5),
    s.fetches u g = true →
    (u.core g).acts = true →
    sh.toNat + w.toNat + 1 ≤ 32 →
    (∃ t, exec (.extu g rd ra w sh) s = .next t ∧ ∃ v : Word, u.computed t g rd v ∧ ∀ k, k < 32 → v.getLsbD k = (decide (k ≤ w.toNat) && ((u.core g).rg ra).getLsbD (k + sh.toNat))) ∧
    (∃ t, exec (.exts g rd ra w sh) s = .next t ∧ ∃ v : Word, u.computed t g rd v ∧ ∀ k, k < 32 → v.getLsbD k = ((u.core g).rg ra).getLsbD (min k w.toNat + sh.toNat)) ∧
    (∃ t, exec (.ins g rd ra w sh) s = .next t ∧ ∃ v : Word, u.computed t g rd v ∧ ∀ k, k < 32 → v.getLsbD k = if sh.toNat ≤ k ∧ k ≤ sh.toNat + w.toNat then ((u.core g).rg ra).getLsbD (k - sh.toNat) else ((u.core g).rg rd).getLsbD k)) ∧
  (∀ (s u : State) (g : Group) (rd ra : GReg) (w sh : BitVec 5),
    s.fetches u g = true →
    32 < sh.toNat + w.toNat + 1 →
    exec (.extu g rd ra w sh) s = .next (u.refuseIns g .illegal (wordA 0x00 rd ra w sh 0x18)) ∧
    exec (.exts g rd ra w sh) s = .next (u.refuseIns g .illegal (wordA 0x00 rd ra w sh 0x19)) ∧
    exec (.ins g rd ra w sh) s = .next (u.refuseIns g .illegal (wordA 0x00 rd ra w sh 0x1A))) ∧
  (∀ (s u : State) (g : Group) (rd ra rb : GReg),
    s.fetches u g = true →
    (u.core g).acts = true →
    (u.core g).rg rb ≠ 0 ∨ (u.core g).dze = false →
    (∃ t, exec (.div g rd ra rb) s = .next t ∧ u.computed t g rd (if (u.core g).rg rb = 0 then (if 0 ≤ ((u.core g).rg ra).toInt then 0x7FFFFFFF else 0x80000000) else if (u.core g).rg ra = 0x80000000 ∧ (u.core g).rg rb = 0xFFFFFFFF then 0x7FFFFFFF else BitVec.ofInt 32 (((u.core g).rg ra).toInt.tdiv ((u.core g).rg rb).toInt))) ∧
    (∃ t, exec (.divu g rd ra rb) s = .next t ∧ u.computed t g rd (if (u.core g).rg rb = 0 then 0xFFFFFFFF else BitVec.ofNat 32 (((u.core g).rg ra).toNat / ((u.core g).rg rb).toNat))) ∧
    (∃ t, exec (.rem g rd ra rb) s = .next t ∧ u.computed t g rd (if (u.core g).rg rb = 0 then (u.core g).rg ra else BitVec.ofInt 32 (((u.core g).rg ra).toInt.tmod ((u.core g).rg rb).toInt))) ∧
    (∃ t, exec (.remu g rd ra rb) s = .next t ∧ u.computed t g rd (if (u.core g).rg rb = 0 then (u.core g).rg ra else BitVec.ofNat 32 (((u.core g).rg ra).toNat % ((u.core g).rg rb).toNat)))) ∧
  (∀ (s u : State) (g : Group) (rd ra rb : GReg),
    s.fetches u g = true →
    (u.core g).rg rb = 0 →
    (u.core g).dze = true →
    (u.core g).delay = none →
    (u.core g).shadow = [] →
    (u.core g).tsbOk = true →
    (u.core g).nest.val < 15 →
    (∃ t, exec (.div g rd ra rb) s = .next t ∧ (t.core g).pc = ((u.core g).evb + 0x300) &&& 0xFFFFFFFC ∧ (t.core g).cause = 0x0C ∧ (t.core g).faddr = (u.core g).pc ∧ (t.core g).gpr = (u.core g).gpr ∧ (t.core g).nest.val = (u.core g).nest.val + 1 ∧ t.num (u.slotAddr g (u.core g).nest.val) 4 = (u.core g).seqPc.toNat ∧ (∀ k : Group, k ≠ g → t.core k = u.core k)) ∧
    (∃ t, exec (.divu g rd ra rb) s = .next t ∧ (t.core g).pc = ((u.core g).evb + 0x300) &&& 0xFFFFFFFC ∧ (t.core g).cause = 0x0C ∧ (t.core g).faddr = (u.core g).pc ∧ (t.core g).gpr = (u.core g).gpr ∧ (t.core g).nest.val = (u.core g).nest.val + 1 ∧ t.num (u.slotAddr g (u.core g).nest.val) 4 = (u.core g).seqPc.toNat ∧ (∀ k : Group, k ≠ g → t.core k = u.core k)) ∧
    (∃ t, exec (.rem g rd ra rb) s = .next t ∧ (t.core g).pc = ((u.core g).evb + 0x300) &&& 0xFFFFFFFC ∧ (t.core g).cause = 0x0C ∧ (t.core g).faddr = (u.core g).pc ∧ (t.core g).gpr = (u.core g).gpr ∧ (t.core g).nest.val = (u.core g).nest.val + 1 ∧ t.num (u.slotAddr g (u.core g).nest.val) 4 = (u.core g).seqPc.toNat ∧ (∀ k : Group, k ≠ g → t.core k = u.core k)) ∧
    (∃ t, exec (.remu g rd ra rb) s = .next t ∧ (t.core g).pc = ((u.core g).evb + 0x300) &&& 0xFFFFFFFC ∧ (t.core g).cause = 0x0C ∧ (t.core g).faddr = (u.core g).pc ∧ (t.core g).gpr = (u.core g).gpr ∧ (t.core g).nest.val = (u.core g).nest.val + 1 ∧ t.num (u.slotAddr g (u.core g).nest.val) 4 = (u.core g).seqPc.toNat ∧ (∀ k : Group, k ≠ g → t.core k = u.core k)))

/-- Loads extend what memory holds, stores write the low bytes of rs and no other byte, atomics exchange an SSP word, and refused
accesses raise their exception (R228, R232, R239, R246, R247, R248). It says that exec of ldb, ldbu, ldh, ldhu, ldw, ldd, stb,
sth, stw, std, aswap, aadd, aand, aor, axor, amin, amax, aminu, amaxu, acas each completes with a next state, for every state
and operands that meet hypotheses on these alone. -/
def Obligations.LoadsStoresAndAtomicsAccessMemory : Prop :=
  (∀ (s u : State) (g : Group) (rd ra : GReg) (imm : BitVec 16) (f n : Nat) (x : Bool),
    s.fetches u g = true →
    (u.core g).acts = true →
    ((u.core g).rg ra + imm.signExtend 32).toNat % n = 0 →
    n = 1 ∨ n = 2 ∨ n = 4 ∨ n = 8 →
    u.checkAccess g ((u.core g).rg ra + imm.signExtend 32).toNat n .read = .go x →
    x = true → (u.core g).armed = false ∧ (u.core g).storeErrs = [] →
    u.coreView g ((u.core g).rg ra + imm.signExtend 32).toNat = .mem f →
    u.loadWaits g ((u.core g).rg ra + imm.signExtend 32).toNat n = false →
    u.judge g f false = .allow →
    u.prot.lat = [] →
    (n = 1 → ∃ t, exec (.ldb g rd ra imm) s = .next t ∧ u.computed t g rd ((BitVec.ofNat 8 (u.num (u.viewAddr f) 1)).signExtend 32)) ∧
    (n = 1 → ∃ t, exec (.ldbu g rd ra imm) s = .next t ∧ u.computed t g rd (BitVec.ofNat 32 (u.num (u.viewAddr f) 1))) ∧
    (n = 2 → ∃ t, exec (.ldh g rd ra imm) s = .next t ∧ u.computed t g rd ((BitVec.ofNat 16 (u.num (u.viewAddr f) 2)).signExtend 32)) ∧
    (n = 2 → ∃ t, exec (.ldhu g rd ra imm) s = .next t ∧ u.computed t g rd (BitVec.ofNat 32 (u.num (u.viewAddr f) 2))) ∧
    (n = 4 → ∃ t, exec (.ldw g rd ra imm) s = .next t ∧ u.computed t g rd (BitVec.ofNat 32 (u.num (u.viewAddr f) 4))) ∧
    (n = 8 → rd.toNat % 2 = 0 → ∃ t, exec (.ldd g rd ra imm) s = .next t ∧ (∀ r : GReg, (t.core g).rg r = if r = 0 then 0 else if r = rd then BitVec.ofNat 32 (u.num (u.viewAddr f) 4) else if r = rd + 1 then BitVec.ofNat 32 (u.num (u.viewAddr f + 4) 4) else (u.core g).rg r) ∧ (t.core g).pc = (u.core g).seqPc ∧ (t.core g).lc = (u.core g).seqLc ∧ (t.core g).delay = none ∧ u.onlyGroup t g)) ∧
  (∀ (s u : State) (g : Group) (rs ra : GReg) (imm : BitVec 16) (f n : Nat) (x : Bool),
    s.fetches u g = true →
    (u.core g).acts = true →
    ((u.core g).rg ra + imm.signExtend 32).toNat % n = 0 →
    n = 1 ∨ n = 2 ∨ n = 4 ∨ n = 8 →
    u.checkAccess g ((u.core g).rg ra + imm.signExtend 32).toNat n .write = .go x →
    u.coreView g ((u.core g).rg ra + imm.signExtend 32).toNat = .mem f →
    u.judge g f true = .allow →
    u.prot.lat = [] →
    (n = 1 → ∃ t, exec (.stb g rs ra imm) s = .next t ∧ t.bytes f 1 = natLe 1 ((u.core g).rg rs).toNat ∧ (∀ a, (a < f ∨ f + 1 ≤ a) → byteAt t.mem a = byteAt u.mem a) ∧ (∀ r : GReg, (t.core g).rg r = (u.core g).rg r) ∧ (t.core g).pc = (u.core g).seqPc ∧ (t.core g).lc = (u.core g).seqLc ∧ (t.core g).delay = none) ∧
    (n = 2 → ∃ t, exec (.sth g rs ra imm) s = .next t ∧ t.bytes f 2 = natLe 2 ((u.core g).rg rs).toNat ∧ (∀ a, (a < f ∨ f + 2 ≤ a) → byteAt t.mem a = byteAt u.mem a) ∧ (∀ r : GReg, (t.core g).rg r = (u.core g).rg r) ∧ (t.core g).pc = (u.core g).seqPc ∧ (t.core g).lc = (u.core g).seqLc ∧ (t.core g).delay = none) ∧
    (n = 4 → ∃ t, exec (.stw g rs ra imm) s = .next t ∧ t.bytes f 4 = natLe 4 ((u.core g).rg rs).toNat ∧ (∀ a, (a < f ∨ f + 4 ≤ a) → byteAt t.mem a = byteAt u.mem a) ∧ (∀ r : GReg, (t.core g).rg r = (u.core g).rg r) ∧ (t.core g).pc = (u.core g).seqPc ∧ (t.core g).lc = (u.core g).seqLc ∧ (t.core g).delay = none) ∧
    (n = 8 → rs.toNat % 2 = 0 → ∃ t, exec (.std g rs ra imm) s = .next t ∧ t.bytes f 8 = natLe 4 ((u.core g).rg rs).toNat ++ natLe 4 ((u.core g).rg (rs + 1)).toNat ∧ (∀ a, (a < f ∨ f + 8 ≤ a) → byteAt t.mem a = byteAt u.mem a) ∧ (∀ r : GReg, (t.core g).rg r = (u.core g).rg r) ∧ (t.core g).pc = (u.core g).seqPc ∧ (t.core g).lc = (u.core g).seqLc ∧ (t.core g).delay = none)) ∧
  (∀ (s u : State) (g : Group) (rd ra rb : GReg),
    s.fetches u g = true →
    (u.core g).acts = true →
    u.checkAtom g ((u.core g).rg ra).toNat = .go true →
    (u.core g).armed = false →
    (u.core g).storeErrs = [] →
    inSsp ((u.core g).rg ra).toNat 4 = true →
    u.judge g ((u.core g).rg ra).toNat false = .allow →
    u.judge g ((u.core g).rg ra).toNat true = .allow →
    u.prot.lat = [] →
    (∃ t, exec (.aswap g rd ra rb) s = .next t ∧ t.num ((u.core g).rg ra).toNat 4 = ((u.core g).rg rb : Word).toNat ∧ (∀ a, (a < ((u.core g).rg ra).toNat ∨ ((u.core g).rg ra).toNat + 4 ≤ a) → byteAt t.mem a = byteAt u.mem a) ∧ (∀ r : GReg, (t.core g).rg r = if r = rd ∧ r ≠ 0 then (BitVec.ofNat 32 (u.num ((u.core g).rg ra).toNat 4) : Word) else (u.core g).rg r) ∧ (t.core g).pc = (u.core g).seqPc ∧ (t.core g).lc = (u.core g).seqLc ∧ (t.core g).delay = none) ∧
    (∃ t, exec (.aadd g rd ra rb) s = .next t ∧ t.num ((u.core g).rg ra).toNat 4 = ((BitVec.ofNat 32 (u.num ((u.core g).rg ra).toNat 4) : Word) + (u.core g).rg rb : Word).toNat ∧ (∀ a, (a < ((u.core g).rg ra).toNat ∨ ((u.core g).rg ra).toNat + 4 ≤ a) → byteAt t.mem a = byteAt u.mem a) ∧ (∀ r : GReg, (t.core g).rg r = if r = rd ∧ r ≠ 0 then (BitVec.ofNat 32 (u.num ((u.core g).rg ra).toNat 4) : Word) else (u.core g).rg r) ∧ (t.core g).pc = (u.core g).seqPc ∧ (t.core g).lc = (u.core g).seqLc ∧ (t.core g).delay = none) ∧
    (∃ t, exec (.aand g rd ra rb) s = .next t ∧ t.num ((u.core g).rg ra).toNat 4 = ((BitVec.ofNat 32 (u.num ((u.core g).rg ra).toNat 4) : Word) &&& (u.core g).rg rb : Word).toNat ∧ (∀ a, (a < ((u.core g).rg ra).toNat ∨ ((u.core g).rg ra).toNat + 4 ≤ a) → byteAt t.mem a = byteAt u.mem a) ∧ (∀ r : GReg, (t.core g).rg r = if r = rd ∧ r ≠ 0 then (BitVec.ofNat 32 (u.num ((u.core g).rg ra).toNat 4) : Word) else (u.core g).rg r) ∧ (t.core g).pc = (u.core g).seqPc ∧ (t.core g).lc = (u.core g).seqLc ∧ (t.core g).delay = none) ∧
    (∃ t, exec (.aor g rd ra rb) s = .next t ∧ t.num ((u.core g).rg ra).toNat 4 = ((BitVec.ofNat 32 (u.num ((u.core g).rg ra).toNat 4) : Word) ||| (u.core g).rg rb : Word).toNat ∧ (∀ a, (a < ((u.core g).rg ra).toNat ∨ ((u.core g).rg ra).toNat + 4 ≤ a) → byteAt t.mem a = byteAt u.mem a) ∧ (∀ r : GReg, (t.core g).rg r = if r = rd ∧ r ≠ 0 then (BitVec.ofNat 32 (u.num ((u.core g).rg ra).toNat 4) : Word) else (u.core g).rg r) ∧ (t.core g).pc = (u.core g).seqPc ∧ (t.core g).lc = (u.core g).seqLc ∧ (t.core g).delay = none) ∧
    (∃ t, exec (.axor g rd ra rb) s = .next t ∧ t.num ((u.core g).rg ra).toNat 4 = ((BitVec.ofNat 32 (u.num ((u.core g).rg ra).toNat 4) : Word) ^^^ (u.core g).rg rb : Word).toNat ∧ (∀ a, (a < ((u.core g).rg ra).toNat ∨ ((u.core g).rg ra).toNat + 4 ≤ a) → byteAt t.mem a = byteAt u.mem a) ∧ (∀ r : GReg, (t.core g).rg r = if r = rd ∧ r ≠ 0 then (BitVec.ofNat 32 (u.num ((u.core g).rg ra).toNat 4) : Word) else (u.core g).rg r) ∧ (t.core g).pc = (u.core g).seqPc ∧ (t.core g).lc = (u.core g).seqLc ∧ (t.core g).delay = none) ∧
    (∃ t, exec (.amin g rd ra rb) s = .next t ∧ t.num ((u.core g).rg ra).toNat 4 = (BitVec.ofInt 32 (min (BitVec.ofNat 32 (u.num ((u.core g).rg ra).toNat 4) : Word).toInt ((u.core g).rg rb).toInt) : Word).toNat ∧ (∀ a, (a < ((u.core g).rg ra).toNat ∨ ((u.core g).rg ra).toNat + 4 ≤ a) → byteAt t.mem a = byteAt u.mem a) ∧ (∀ r : GReg, (t.core g).rg r = if r = rd ∧ r ≠ 0 then (BitVec.ofNat 32 (u.num ((u.core g).rg ra).toNat 4) : Word) else (u.core g).rg r) ∧ (t.core g).pc = (u.core g).seqPc ∧ (t.core g).lc = (u.core g).seqLc ∧ (t.core g).delay = none) ∧
    (∃ t, exec (.amax g rd ra rb) s = .next t ∧ t.num ((u.core g).rg ra).toNat 4 = (BitVec.ofInt 32 (max (BitVec.ofNat 32 (u.num ((u.core g).rg ra).toNat 4) : Word).toInt ((u.core g).rg rb).toInt) : Word).toNat ∧ (∀ a, (a < ((u.core g).rg ra).toNat ∨ ((u.core g).rg ra).toNat + 4 ≤ a) → byteAt t.mem a = byteAt u.mem a) ∧ (∀ r : GReg, (t.core g).rg r = if r = rd ∧ r ≠ 0 then (BitVec.ofNat 32 (u.num ((u.core g).rg ra).toNat 4) : Word) else (u.core g).rg r) ∧ (t.core g).pc = (u.core g).seqPc ∧ (t.core g).lc = (u.core g).seqLc ∧ (t.core g).delay = none) ∧
    (∃ t, exec (.aminu g rd ra rb) s = .next t ∧ t.num ((u.core g).rg ra).toNat 4 = (BitVec.ofNat 32 (min (u.num ((u.core g).rg ra).toNat 4) ((u.core g).rg rb).toNat) : Word).toNat ∧ (∀ a, (a < ((u.core g).rg ra).toNat ∨ ((u.core g).rg ra).toNat + 4 ≤ a) → byteAt t.mem a = byteAt u.mem a) ∧ (∀ r : GReg, (t.core g).rg r = if r = rd ∧ r ≠ 0 then (BitVec.ofNat 32 (u.num ((u.core g).rg ra).toNat 4) : Word) else (u.core g).rg r) ∧ (t.core g).pc = (u.core g).seqPc ∧ (t.core g).lc = (u.core g).seqLc ∧ (t.core g).delay = none) ∧
    (∃ t, exec (.amaxu g rd ra rb) s = .next t ∧ t.num ((u.core g).rg ra).toNat 4 = (BitVec.ofNat 32 (max (u.num ((u.core g).rg ra).toNat 4) ((u.core g).rg rb).toNat) : Word).toNat ∧ (∀ a, (a < ((u.core g).rg ra).toNat ∨ ((u.core g).rg ra).toNat + 4 ≤ a) → byteAt t.mem a = byteAt u.mem a) ∧ (∀ r : GReg, (t.core g).rg r = if r = rd ∧ r ≠ 0 then (BitVec.ofNat 32 (u.num ((u.core g).rg ra).toNat 4) : Word) else (u.core g).rg r) ∧ (t.core g).pc = (u.core g).seqPc ∧ (t.core g).lc = (u.core g).seqLc ∧ (t.core g).delay = none) ∧
    (∃ t, exec (.acas g rd ra rb) s = .next t ∧ t.num ((u.core g).rg ra).toNat 4 = (if (BitVec.ofNat 32 (u.num ((u.core g).rg ra).toNat 4) : Word) = (u.core g).rg rd then (u.core g).rg rb else (BitVec.ofNat 32 (u.num ((u.core g).rg ra).toNat 4) : Word) : Word).toNat ∧ (∀ a, (a < ((u.core g).rg ra).toNat ∨ ((u.core g).rg ra).toNat + 4 ≤ a) → byteAt t.mem a = byteAt u.mem a) ∧ (∀ r : GReg, (t.core g).rg r = if r = rd ∧ r ≠ 0 then (BitVec.ofNat 32 (u.num ((u.core g).rg ra).toNat 4) : Word) else (u.core g).rg r) ∧ (t.core g).pc = (u.core g).seqPc ∧ (t.core g).lc = (u.core g).seqLc ∧ (t.core g).delay = none)) ∧
  (∀ (s u : State) (g : Group) (rd ra : GReg) (imm : BitVec 16) (e : Exc) (x : Word),
    s.fetches u g = true →
    (u.core g).acts = true →
    (u.checkAccess g ((u.core g).rg ra + imm.signExtend 32).toNat 1 .read = .fault e x → exec (.ldb g rd ra imm) s = .next (u.refuseIns g e x)) ∧
    (u.checkAccess g ((u.core g).rg ra + imm.signExtend 32).toNat 1 .read = .fault e x → exec (.ldbu g rd ra imm) s = .next (u.refuseIns g e x)) ∧
    (u.checkAccess g ((u.core g).rg ra + imm.signExtend 32).toNat 2 .read = .fault e x → exec (.ldh g rd ra imm) s = .next (u.refuseIns g e x)) ∧
    (u.checkAccess g ((u.core g).rg ra + imm.signExtend 32).toNat 2 .read = .fault e x → exec (.ldhu g rd ra imm) s = .next (u.refuseIns g e x)) ∧
    (u.checkAccess g ((u.core g).rg ra + imm.signExtend 32).toNat 4 .read = .fault e x → exec (.ldw g rd ra imm) s = .next (u.refuseIns g e x)) ∧
    (u.checkAccess g ((u.core g).rg ra + imm.signExtend 32).toNat 8 .read = .fault e x → rd.toNat % 2 = 0 → exec (.ldd g rd ra imm) s = .next (u.refuseIns g e x)) ∧
    (u.checkAccess g ((u.core g).rg ra + imm.signExtend 32).toNat 1 .write = .fault e x → exec (.stb g rd ra imm) s = .next (u.refuseIns g e x)) ∧
    (u.checkAccess g ((u.core g).rg ra + imm.signExtend 32).toNat 2 .write = .fault e x → exec (.sth g rd ra imm) s = .next (u.refuseIns g e x)) ∧
    (u.checkAccess g ((u.core g).rg ra + imm.signExtend 32).toNat 4 .write = .fault e x → exec (.stw g rd ra imm) s = .next (u.refuseIns g e x)) ∧
    (u.checkAccess g ((u.core g).rg ra + imm.signExtend 32).toNat 8 .write = .fault e x → rd.toNat % 2 = 0 → exec (.std g rd ra imm) s = .next (u.refuseIns g e x))) ∧
  (∀ (s u : State) (g : Group) (rd ra : GReg) (imm : BitVec 16),
    s.fetches u g = true →
    rd.toNat % 2 = 1 →
    exec (.ldd g rd ra imm) s = .next (u.refuseIns g .illegal (wordI 0x13 rd ra imm)) ∧ exec (.std g rd ra imm) s = .next (u.refuseIns g .illegal (wordI 0x1B rd ra imm))) ∧
  (∀ (s u : State) (g : Group) (rd ra rb : GReg),
    s.fetches u g = true →
    (u.core g).acts = true →
    ((u.core g).rg ra).toNat % 4 ≠ 0 →
    exec (.aswap g rd ra rb) s = .next (u.refuseIns g .align ((u.core g).rg ra)) ∧
    exec (.aadd g rd ra rb) s = .next (u.refuseIns g .align ((u.core g).rg ra)) ∧
    exec (.aand g rd ra rb) s = .next (u.refuseIns g .align ((u.core g).rg ra)) ∧
    exec (.aor g rd ra rb) s = .next (u.refuseIns g .align ((u.core g).rg ra)) ∧
    exec (.axor g rd ra rb) s = .next (u.refuseIns g .align ((u.core g).rg ra)) ∧
    exec (.amin g rd ra rb) s = .next (u.refuseIns g .align ((u.core g).rg ra)) ∧
    exec (.amax g rd ra rb) s = .next (u.refuseIns g .align ((u.core g).rg ra)) ∧
    exec (.aminu g rd ra rb) s = .next (u.refuseIns g .align ((u.core g).rg ra)) ∧
    exec (.amaxu g rd ra rb) s = .next (u.refuseIns g .align ((u.core g).rg ra)) ∧
    exec (.acas g rd ra rb) s = .next (u.refuseIns g .align ((u.core g).rg ra))) ∧
  (∀ (s u : State) (g : Group) (rd ra rb : GReg),
    s.fetches u g = true →
    (u.core g).acts = true →
    u.checkAtom g ((u.core g).rg ra).toNat = .go true →
    (u.core g).armed = false →
    (u.core g).storeErrs = [] →
    inSsp ((u.core g).rg ra).toNat 4 = false →
    exec (.aswap g rd ra rb) s = .next (u.refuseIns g .busRd ((u.core g).rg ra)) ∧
    exec (.aadd g rd ra rb) s = .next (u.refuseIns g .busRd ((u.core g).rg ra)) ∧
    exec (.aand g rd ra rb) s = .next (u.refuseIns g .busRd ((u.core g).rg ra)) ∧
    exec (.aor g rd ra rb) s = .next (u.refuseIns g .busRd ((u.core g).rg ra)) ∧
    exec (.axor g rd ra rb) s = .next (u.refuseIns g .busRd ((u.core g).rg ra)) ∧
    exec (.amin g rd ra rb) s = .next (u.refuseIns g .busRd ((u.core g).rg ra)) ∧
    exec (.amax g rd ra rb) s = .next (u.refuseIns g .busRd ((u.core g).rg ra)) ∧
    exec (.aminu g rd ra rb) s = .next (u.refuseIns g .busRd ((u.core g).rg ra)) ∧
    exec (.amaxu g rd ra rb) s = .next (u.refuseIns g .busRd ((u.core g).rg ra)) ∧
    exec (.acas g rd ra rb) s = .next (u.refuseIns g .busRd ((u.core g).rg ra))) ∧
  (∀ (s u : State) (g : Group) (rd ra : GReg) (imm : BitVec 16),
    s.fetches u g = true →
    (u.core g).acts = true →
    (u.checkAccess g ((u.core g).rg ra + imm.signExtend 32).toNat 1 .read = .go false → u.loadWaits g ((u.core g).rg ra + imm.signExtend 32).toNat 1 = true → exec (.ldb g rd ra imm) s = .next s) ∧
    (u.checkAccess g ((u.core g).rg ra + imm.signExtend 32).toNat 1 .read = .go false → u.loadWaits g ((u.core g).rg ra + imm.signExtend 32).toNat 1 = true → exec (.ldbu g rd ra imm) s = .next s) ∧
    (u.checkAccess g ((u.core g).rg ra + imm.signExtend 32).toNat 2 .read = .go false → u.loadWaits g ((u.core g).rg ra + imm.signExtend 32).toNat 2 = true → exec (.ldh g rd ra imm) s = .next s) ∧
    (u.checkAccess g ((u.core g).rg ra + imm.signExtend 32).toNat 2 .read = .go false → u.loadWaits g ((u.core g).rg ra + imm.signExtend 32).toNat 2 = true → exec (.ldhu g rd ra imm) s = .next s) ∧
    (u.checkAccess g ((u.core g).rg ra + imm.signExtend 32).toNat 4 .read = .go false → u.loadWaits g ((u.core g).rg ra + imm.signExtend 32).toNat 4 = true → exec (.ldw g rd ra imm) s = .next s) ∧
    (u.checkAccess g ((u.core g).rg ra + imm.signExtend 32).toNat 8 .read = .go false → u.loadWaits g ((u.core g).rg ra + imm.signExtend 32).toNat 8 = true → rd.toNat % 2 = 0 → exec (.ldd g rd ra imm) s = .next s)) ∧
  (∀ (s u : State) (g : Group) (rd ra rb : GReg) (imm : BitVec 16),
    s.fetches u g = true →
    (u.core g).acts = true →
    (u.core g).storeErrs ≠ [] →
    (u.checkAccess g ((u.core g).rg ra + imm.signExtend 32).toNat 1 .read = .go true → exec (.ldb g rd ra imm) s = .next s) ∧
    (u.checkAccess g ((u.core g).rg ra + imm.signExtend 32).toNat 1 .read = .go true → exec (.ldbu g rd ra imm) s = .next s) ∧
    (u.checkAccess g ((u.core g).rg ra + imm.signExtend 32).toNat 2 .read = .go true → exec (.ldh g rd ra imm) s = .next s) ∧
    (u.checkAccess g ((u.core g).rg ra + imm.signExtend 32).toNat 2 .read = .go true → exec (.ldhu g rd ra imm) s = .next s) ∧
    (u.checkAccess g ((u.core g).rg ra + imm.signExtend 32).toNat 4 .read = .go true → exec (.ldw g rd ra imm) s = .next s) ∧
    (u.checkAccess g ((u.core g).rg ra + imm.signExtend 32).toNat 8 .read = .go true → rd.toNat % 2 = 0 → exec (.ldd g rd ra imm) s = .next s) ∧
    (u.checkAtom g ((u.core g).rg ra).toNat = .go true → exec (.aswap g rd ra rb) s = .next s) ∧
    (u.checkAtom g ((u.core g).rg ra).toNat = .go true → exec (.aadd g rd ra rb) s = .next s) ∧
    (u.checkAtom g ((u.core g).rg ra).toNat = .go true → exec (.aand g rd ra rb) s = .next s) ∧
    (u.checkAtom g ((u.core g).rg ra).toNat = .go true → exec (.aor g rd ra rb) s = .next s) ∧
    (u.checkAtom g ((u.core g).rg ra).toNat = .go true → exec (.axor g rd ra rb) s = .next s) ∧
    (u.checkAtom g ((u.core g).rg ra).toNat = .go true → exec (.amin g rd ra rb) s = .next s) ∧
    (u.checkAtom g ((u.core g).rg ra).toNat = .go true → exec (.amax g rd ra rb) s = .next s) ∧
    (u.checkAtom g ((u.core g).rg ra).toNat = .go true → exec (.aminu g rd ra rb) s = .next s) ∧
    (u.checkAtom g ((u.core g).rg ra).toNat = .go true → exec (.amaxu g rd ra rb) s = .next s) ∧
    (u.checkAtom g ((u.core g).rg ra).toNat = .go true → exec (.acas g rd ra rb) s = .next s))

/-- Branches and jumps decide before their delay slot, link and go to their target after it; LOOP sets up LS, LE and LC; bad targets
and bad loop ends fault (R232, R240, R250, R251, R252, R254). It says that exec of beq, bne, blt, bge, bltu, bgeu, j, jal, jalr,
loop each completes with a next state, for every state and operands that meet hypotheses on these alone. -/
def Obligations.BranchesJumpsAndLoopsSteer : Prop :=
  (∀ (s u : State) (g : Group) (an : Bool) (ra rb : GReg) (off : BitVec 15) (off25 : BitVec 25),
    s.fetches u g = true →
    (u.core g).mayBranch = true →
    (∃ t, exec (.beq g an ra rb off) s = .next t ∧ (t.core g).delay.map (fun d => (d.branch, d.next, d.annul)) = some ((u.core g).pc, if (u.core g).rg ra = (u.core g).rg rb then (u.core g).pc + (off.signExtend 32 <<< 2) else (u.core g).pc + 8, (an && decide ((u.core g).rg ra ≠ (u.core g).rg rb))) ∧ (∀ r : GReg, (t.core g).rg r = (u.core g).rg r) ∧ (t.core g).pc = (u.core g).pc + 4 ∧ (t.core g).lc = (u.core g).lc ∧ (u.core g).keepsSpecial (t.core g) ∧ u.onlyGroup t g) ∧
    (∃ t, exec (.bne g an ra rb off) s = .next t ∧ (t.core g).delay.map (fun d => (d.branch, d.next, d.annul)) = some ((u.core g).pc, if (u.core g).rg ra ≠ (u.core g).rg rb then (u.core g).pc + (off.signExtend 32 <<< 2) else (u.core g).pc + 8, (an && decide ((u.core g).rg ra = (u.core g).rg rb))) ∧ (∀ r : GReg, (t.core g).rg r = (u.core g).rg r) ∧ (t.core g).pc = (u.core g).pc + 4 ∧ (t.core g).lc = (u.core g).lc ∧ (u.core g).keepsSpecial (t.core g) ∧ u.onlyGroup t g) ∧
    (∃ t, exec (.blt g an ra rb off) s = .next t ∧ (t.core g).delay.map (fun d => (d.branch, d.next, d.annul)) = some ((u.core g).pc, if ((u.core g).rg ra).toInt < ((u.core g).rg rb).toInt then (u.core g).pc + (off.signExtend 32 <<< 2) else (u.core g).pc + 8, (an && decide (((u.core g).rg rb).toInt ≤ ((u.core g).rg ra).toInt))) ∧ (∀ r : GReg, (t.core g).rg r = (u.core g).rg r) ∧ (t.core g).pc = (u.core g).pc + 4 ∧ (t.core g).lc = (u.core g).lc ∧ (u.core g).keepsSpecial (t.core g) ∧ u.onlyGroup t g) ∧
    (∃ t, exec (.bge g an ra rb off) s = .next t ∧ (t.core g).delay.map (fun d => (d.branch, d.next, d.annul)) = some ((u.core g).pc, if ((u.core g).rg rb).toInt ≤ ((u.core g).rg ra).toInt then (u.core g).pc + (off.signExtend 32 <<< 2) else (u.core g).pc + 8, (an && decide (((u.core g).rg ra).toInt < ((u.core g).rg rb).toInt))) ∧ (∀ r : GReg, (t.core g).rg r = (u.core g).rg r) ∧ (t.core g).pc = (u.core g).pc + 4 ∧ (t.core g).lc = (u.core g).lc ∧ (u.core g).keepsSpecial (t.core g) ∧ u.onlyGroup t g) ∧
    (∃ t, exec (.bltu g an ra rb off) s = .next t ∧ (t.core g).delay.map (fun d => (d.branch, d.next, d.annul)) = some ((u.core g).pc, if ((u.core g).rg ra).toNat < ((u.core g).rg rb).toNat then (u.core g).pc + (off.signExtend 32 <<< 2) else (u.core g).pc + 8, (an && decide (((u.core g).rg rb).toNat ≤ ((u.core g).rg ra).toNat))) ∧ (∀ r : GReg, (t.core g).rg r = (u.core g).rg r) ∧ (t.core g).pc = (u.core g).pc + 4 ∧ (t.core g).lc = (u.core g).lc ∧ (u.core g).keepsSpecial (t.core g) ∧ u.onlyGroup t g) ∧
    (∃ t, exec (.bgeu g an ra rb off) s = .next t ∧ (t.core g).delay.map (fun d => (d.branch, d.next, d.annul)) = some ((u.core g).pc, if ((u.core g).rg rb).toNat ≤ ((u.core g).rg ra).toNat then (u.core g).pc + (off.signExtend 32 <<< 2) else (u.core g).pc + 8, (an && decide (((u.core g).rg ra).toNat < ((u.core g).rg rb).toNat))) ∧ (∀ r : GReg, (t.core g).rg r = (u.core g).rg r) ∧ (t.core g).pc = (u.core g).pc + 4 ∧ (t.core g).lc = (u.core g).lc ∧ (u.core g).keepsSpecial (t.core g) ∧ u.onlyGroup t g) ∧
    (∃ t, exec (.j g off25) s = .next t ∧ (t.core g).delay.map (fun d => (d.branch, d.next, d.annul)) = some ((u.core g).pc, (u.core g).pc + (off25.signExtend 32 <<< 2), false) ∧ (∀ r : GReg, (t.core g).rg r = (u.core g).rg r) ∧ (t.core g).pc = (u.core g).pc + 4 ∧ (t.core g).lc = (u.core g).lc ∧ (u.core g).keepsSpecial (t.core g) ∧ u.onlyGroup t g) ∧
    (∃ t, exec (.jal g off25) s = .next t ∧ (t.core g).delay.map (fun d => (d.branch, d.next, d.annul)) = some ((u.core g).pc, (u.core g).pc + (off25.signExtend 32 <<< 2), false) ∧ (∀ r : GReg, (t.core g).rg r = if r = 31 then (u.core g).pc + 8 else (u.core g).rg r) ∧ (t.core g).pc = (u.core g).pc + 4 ∧ (t.core g).lc = (u.core g).lc ∧ (u.core g).keepsSpecial (t.core g) ∧ u.onlyGroup t g)) ∧
  (∀ (s u : State) (g : Group) (rd ra : GReg) (off : BitVec 15),
    s.fetches u g = true →
    (u.core g).mayBranch = true →
    rd ≠ ra ∨ rd = 0 →
    ((u.core g).rg ra + (off.signExtend 32 <<< 2)).toNat % 4 = 0 →
    ∃ t, exec (.jalr g rd ra off) s = .next t ∧ (t.core g).delay.map (fun d => (d.branch, d.next, d.annul)) = some ((u.core g).pc, ((u.core g).rg ra + (off.signExtend 32 <<< 2)), false) ∧ (∀ r : GReg, (t.core g).rg r = if r = rd ∧ r ≠ 0 then (u.core g).pc + 8 else (u.core g).rg r) ∧ (t.core g).pc = (u.core g).pc + 4 ∧ (t.core g).lc = (u.core g).lc ∧ (u.core g).keepsSpecial (t.core g) ∧ u.onlyGroup t g) ∧
  (∀ (s u : State) (g : Group) (rd ra : GReg) (off : BitVec 15),
    s.fetches u g = true →
    (u.core g).mayBranch = true →
    rd ≠ ra ∨ rd = 0 →
    ((u.core g).rg ra + (off.signExtend 32 <<< 2)).toNat % 4 ≠ 0 →
    (u.core g).delay = none →
    (u.core g).tsbOk = true →
    (u.core g).nest.val < 15 →
    ∃ t, exec (.jalr g rd ra off) s = .next t ∧ u.inHandler t g ((u.core g).evb + 0x180) 0x06 ((u.core g).rg ra + (off.signExtend 32 <<< 2)) false (u.core g).prio.val) ∧
  (∀ (s u : State) (g : Group) (ra : GReg) (off : BitVec 15),
    s.fetches u g = true →
    ra ≠ 0 →
    exec (.jalr g ra ra off) s = .next (u.refuseIns g .illegal (wordB 0x2A false ra ra off))) ∧
  (∀ (s u : State) (g : Group) (n : LoopCount) (e : BitVec 13) (k : Word),
    s.fetches u g = true →
    (u.core g).mayBranch = true →
    e ≠ 0 →
    (match n with | .imm c => c.zeroExtend 32 | .reg ra => (u.core g).rg ra) = k →
    ∃ t, exec (.loop g n e) s = .next t ∧ (t.core g).ls = (u.core g).pc + 4 ∧ (t.core g).le = (u.core g).pc + (e.zeroExtend 32 <<< 2) ∧ (t.core g).lc = k ∧ (t.core g).pc = (if k = 0 then (u.core g).pc + (e.zeroExtend 32 <<< 2) + 4 else (u.core g).pc + 4) ∧ (t.core g).delay = none ∧ (∀ r : GReg, (t.core g).rg r = (u.core g).rg r) ∧ u.onlyGroup t g) ∧
  (∀ (s u : State) (g : Group) (n : LoopCount),
    s.fetches u g = true →
    (u.core g).mayBranch = true →
    (u.core g).delay = none →
    (u.core g).tsbOk = true →
    (u.core g).nest.val < 15 →
    ∃ t, exec (.loop g n 0) s = .next t ∧ u.inHandler t g ((u.core g).evb + 0x380) 0x0E (u.core g).pc false (u.core g).prio.val) ∧
  (∀ (s u : State) (g : Group) (an : Bool) (ra rb : GReg) (off : BitVec 15) (off25 : BitVec 25) (n : LoopCount) (e : BitVec 13),
    s.fetches u g = true →
    (u.core g).delay ≠ none →
    exec (.beq g an ra rb off) s = .next (u.refuseIns g .illegal (wordB 0x20 an ra rb off)) ∧
    exec (.bne g an ra rb off) s = .next (u.refuseIns g .illegal (wordB 0x21 an ra rb off)) ∧
    exec (.blt g an ra rb off) s = .next (u.refuseIns g .illegal (wordB 0x22 an ra rb off)) ∧
    exec (.bge g an ra rb off) s = .next (u.refuseIns g .illegal (wordB 0x23 an ra rb off)) ∧
    exec (.bltu g an ra rb off) s = .next (u.refuseIns g .illegal (wordB 0x24 an ra rb off)) ∧
    exec (.bgeu g an ra rb off) s = .next (u.refuseIns g .illegal (wordB 0x25 an ra rb off)) ∧
    exec (.j g off25) s = .next (u.refuseIns g .illegal (wordJ 0x28 off25)) ∧
    exec (.jal g off25) s = .next (u.refuseIns g .illegal (wordJ 0x29 off25)) ∧
    exec (.jalr g rb ra off) s = .next (u.refuseIns g .illegal (wordB 0x2A false ra rb off)) ∧
    exec (.loop g n e) s = .next (u.refuseIns g .illegal (wordL 0x30 n e))) ∧
  (∀ (s u : State) (g : Group) (an : Bool) (ra rb : GReg) (off : BitVec 15) (off25 : BitVec 25) (n : LoopCount) (e : BitVec 13),
    s.fetches u g = true →
    (u.core g).delay = none →
    (u.core g).pc = (u.core g).le →
    (u.core g).lc ≠ 0 →
    exec (.beq g an ra rb off) s = .next (u.refuseIns g .loopSetup (u.core g).le) ∧
    exec (.bne g an ra rb off) s = .next (u.refuseIns g .loopSetup (u.core g).le) ∧
    exec (.blt g an ra rb off) s = .next (u.refuseIns g .loopSetup (u.core g).le) ∧
    exec (.bge g an ra rb off) s = .next (u.refuseIns g .loopSetup (u.core g).le) ∧
    exec (.bltu g an ra rb off) s = .next (u.refuseIns g .loopSetup (u.core g).le) ∧
    exec (.bgeu g an ra rb off) s = .next (u.refuseIns g .loopSetup (u.core g).le) ∧
    exec (.j g off25) s = .next (u.refuseIns g .loopSetup (u.core g).le) ∧
    exec (.jal g off25) s = .next (u.refuseIns g .loopSetup (u.core g).le) ∧
    exec (.jalr g 0 ra off) s = .next (u.refuseIns g .loopSetup (u.core g).le) ∧
    exec (.loop g n e) s = .next (u.refuseIns g .loopSetup (u.core g).le))

/-- MFS and MTS read and write the special registers, WAIT, TRAP, RFE, IFLUSH, PFLUSH, PBAR and FENCE act, each at the levels of
R258; else PRIV (R221, R226, R233, R234, R236, R237). It says that exec of mfs, mts, wait, iflush, pflush, pbar, fence, rfe,
trap each completes with a next state, for every state and operands that meet hypotheses on these alone. -/
def Obligations.SystemInstructionsActAtTheirLevel : Prop :=
  (∀ (s u : State) (g : Group) (rd : GReg) (sr : BitVec 5),
    s.fetches u g = true →
    (u.core g).delay = none →
    sr.toNat ≤ 14 →
    mayMfs (u.core g).pl sr = true →
    ∃ t, exec (.mfs g rd sr) s = .next t ∧ (∀ r : GReg, (t.core g).rg r = if r = rd ∧ r ≠ 0 then ([(u.core g).statusRead, (u.core g).tsbp, (u.core g).evb, (u.core g).cause, (u.core g).faddr, (u.core g).lc, (u.core g).ls, (u.core g).le, (u.core g).written .predctl (u.core g).predctl, (u.core g).dwb, BitVec.ofNat 32 (u.cclk g), (u.core g).cycHi, BitVec.ofNat 32 u.fn, (u.core g).fnHi, coreId u.part g][sr.toNat]?.getD 0) else (u.core g).rg r) ∧ (t.core g).pc = (u.core g).seqPc ∧ (t.core g).lc = (u.core g).seqLc ∧ (t.core g).delay = none ∧ (t.core g).cycHi = (if sr = 10 then BitVec.ofNat 32 (u.cclk g / 2 ^ 32) else (u.core g).cycHi) ∧ (t.core g).fnHi = (if sr = 12 then BitVec.ofNat 32 (u.fn / 2 ^ 32) else (u.core g).fnHi) ∧ (u.core g).keepsSpecial (t.core g) ∧ u.onlyGroup t g) ∧
  (∀ (s u : State) (g : Group) (ra : GReg) (sr : BitVec 5),
    s.fetches u g = true →
    (u.core g).delay = none →
    sr.toNat ≤ 9 →
    mayMts (u.core g).pl sr = true →
    ∃ t, exec (.mts g sr ra) s = .next t ∧ (∀ r : GReg, (t.core g).rg r = (u.core g).rg r) ∧ (t.core g).pc = (u.core g).seqPc ∧ (t.core g).lc = (if sr = 5 then (u.core g).rg ra else (u.core g).seqLc) ∧ (t.core g).tsbp = (if sr = 1 then (u.core g).rg ra else (u.core g).tsbp) ∧ (t.core g).evb = (if sr = 2 then (u.core g).rg ra &&& 0xFFFFF800 else (u.core g).evb) ∧ (t.core g).cause = (if sr = 3 then (u.core g).rg ra &&& 0xC00001FF else (u.core g).cause) ∧ (t.core g).faddr = (if sr = 4 then (u.core g).rg ra else (u.core g).faddr) ∧ (t.core g).ls = (if sr = 6 then (u.core g).rg ra &&& 0xFFFFFFFC else (u.core g).ls) ∧ (t.core g).le = (if sr = 7 then (u.core g).rg ra &&& 0xFFFFFFFC else (u.core g).le) ∧ (t.core g).dwb = (if sr = 9 then (u.core g).rg ra &&& 0xF else (u.core g).dwb) ∧ (sr = 8 → (t.core g).shadow.getLast? = some ⟨.predctl, (u.core g).rg ra &&& 0x7F, 3⟩) ∧ (sr = 0 → (t.core g).shadow.getLast? = some ⟨.status, (u.core g).statusWrite ((u.core g).rg ra), 3⟩) ∧ u.onlyGroup t g) ∧
  (∀ (s u : State) (g : Group) (r : GReg) (sr : BitVec 5),
    s.fetches u g = true →
    (14 < sr.toNat → exec (.mfs g r sr) s = .next (u.refuseIns g .illegal (wordS r 0 (sr.toNat * 32) 0x00))) ∧ (9 < sr.toNat → exec (.mts g sr r) s = .next (u.refuseIns g .illegal (wordS 0 r (sr.toNat * 32) 0x01)))) ∧
  (∀ (s u : State) (g : Group) ,
    s.fetches u g = true →
    (u.core g).delay = none →
    (u.core g).pl ≠ 2 →
    (∃ t, exec (.wait g) s = .next t ∧ t.flag (LS_STAT_WAIT g) = true ∧ u.computed t g 0 0) ∧
    ((u.core g).storeErrs = [] → ∃ t, exec (.iflush g) s = .next t ∧ (t.core g).pred.lines = [] ∧ (t.core g).pred.loopBuf = [] ∧ (t.core g).pred.queue = [] ∧ u.computed t g 0 0) ∧
    ((u.core g).storeErrs ≠ [] → exec (.iflush g) s = .next s) ∧
    (∃ t, exec (.pflush g) s = .next t ∧ (t.core g).pred.btb = [] ∧ (t.core g).pred.ras = [] ∧ (t.core g).pred.hist = 0 ∧ (t.core g).pred.dir = [] ∧ u.computed t g 0 0)) ∧
  (∀ (s u : State) (g : Group) ,
    s.fetches u g = true →
    (u.core g).delay = none →
    (∃ t, exec (.pbar g) s = .next t ∧ u.computed t g 0 0) ∧ ((u.core g).storeErrs = [] → ∃ t, exec (.fence g) s = .next t ∧ u.computed t g 0 0) ∧ ((u.core g).storeErrs ≠ [] → exec (.fence g) s = .next s)) ∧
  (∀ (s u : State) (g : Group) ,
    s.fetches u g = true →
    (u.core g).delay = none →
    (u.core g).pl = 2 →
    (u.core g).tsbOk = true →
    (u.core g).nest.val < 15 →
    (∃ t, exec (.wait g) s = .next t ∧ u.inHandler t g ((u.core g).evb + 0x80) 0x02 (wordS 0 0 0 0x04) false (u.core g).prio.val) ∧
    (∃ t, exec (.iflush g) s = .next t ∧ u.inHandler t g ((u.core g).evb + 0x80) 0x02 (wordS 0 0 0 0x08) false (u.core g).prio.val) ∧
    (∃ t, exec (.pflush g) s = .next t ∧ u.inHandler t g ((u.core g).evb + 0x80) 0x02 (wordS 0 0 0 0x09) false (u.core g).prio.val) ∧
    ((u.core g).nest ≠ 0 → ∃ t, exec (.rfe g) s = .next t ∧ u.inHandler t g ((u.core g).evb + 0x80) 0x02 (wordS 0 0 0 0x06) false (u.core g).prio.val)) ∧
  (∀ (s u : State) (g : Group) (n : BitVec 10),
    s.fetches u g = true →
    (u.core g).delay = none →
    (u.core g).tsbOk = true →
    (u.core g).nest.val < 15 →
    (u.core g).shadow = [] →
    ∃ t, exec (.trap g n) s = .next t ∧ (t.core g).pc = ((u.core g).evb + 0x340) &&& 0xFFFFFFFC ∧ (t.core g).cause = 0x0D ∧ (t.core g).faddr = n.zeroExtend 32 ∧ (t.core g).pl = 0 ∧ (t.core g).ie = false ∧ (t.core g).nest.val = (u.core g).nest.val + 1 ∧ (t.core g).gpr = (u.core g).gpr ∧ t.num (u.slotAddr g (u.core g).nest.val) 4 = (u.core g).seqPc.toNat ∧ (∀ k : Group, k ≠ g → t.core k = u.core k)) ∧
  (∀ (s u : State) (g : Group) ,
    s.fetches u g = true →
    (u.core g).delay = none →
    (u.core g).nest ≠ 0 →
    (u.core g).pl ≠ 2 →
    (u.core g).tsbOk = true →
    (u.core g).shadow = [] →
    (lookup (u.core g).kept ((u.core g).nest.val - 1)).getD [] = [] →
    u.prot.lat = [] →
    u.chained g (u.slotAddr g ((u.core g).nest.val - 1)) = none →
    ∃ t, exec (.rfe g) s = .next t ∧ (t.core g).pc = BitVec.ofNat 32 (u.num (u.slotAddr g ((u.core g).nest.val - 1) + 0) 4) &&& 0xFFFFFFFC ∧ (t.core g).cause = BitVec.ofNat 32 (u.num (u.slotAddr g ((u.core g).nest.val - 1) + 8) 4) &&& 0xC00001FF ∧ (t.core g).faddr = BitVec.ofNat 32 (u.num (u.slotAddr g ((u.core g).nest.val - 1) + 12) 4) ∧ (t.core g).lc = BitVec.ofNat 32 (u.num (u.slotAddr g ((u.core g).nest.val - 1) + 16) 4) ∧ (t.core g).ls = BitVec.ofNat 32 (u.num (u.slotAddr g ((u.core g).nest.val - 1) + 20) 4) &&& 0xFFFFFFFC ∧ (t.core g).le = BitVec.ofNat 32 (u.num (u.slotAddr g ((u.core g).nest.val - 1) + 24) 4) &&& 0xFFFFFFFC ∧ (∀ r : GReg, (t.core g).rg r = if r = 0 then 0 else BitVec.ofNat 32 (u.num ((u.slotAddr g ((u.core g).nest.val - 1)) + 0x1C + 4 * r.toNat) 4)) ∧ (t.core g).nest.val + 1 = (u.core g).nest.val ∧ ((u.core g).pl = 1 → (t.core g).pl ≠ 0) ∧ t.mem = u.mem ∧ (∀ k : Group, k ≠ g → t.core k = u.core k)) ∧
  (∀ (s u : State) (g : Group) ,
    s.fetches u g = true →
    (u.core g).nest = 0 →
    exec (.rfe g) s = .next (u.refuseIns g .illegal (wordS 0 0 0 0x06)))

/-- No instruction acts before its group runs and its fetch succeeds; in an annulled delay slot it writes no register and no memory
(R213, R250, R266, R267, R278, R388). -/
def Obligations.InstructionsAreFetchedFirst : Prop :=
  (∀ (s : State) (i : Instr) (g : Group),
    groupOf i = some g →
    s.groupRuns g = false →
    exec i s = .next s) ∧
  (∀ (s : State) (i : Instr) (g : Group) (e : Exc × Word) (l : List (Exc × Word)),
    groupOf i = some g →
    s.groupRuns g = true →
    (s.core g).due = e :: l →
    (s.core g).delay = none →
    exec i s = .next (((s.onCore g (fun c => { c with due := l })).enterAtBoundary g e.1 e.2).endStep g)) ∧
  (∀ (s u : State) (i : Instr) (g : Group) (e : Exc),
    groupOf i = some g →
    s.groupRuns g = true →
    s.takeDue g = none →
    s.fetchWaits g = false →
    s.fetchFault g = (u, some e) →
    exec i s = .next (((u.bump (LS_P_ISSUE_CNT g)).faultAt g e (u.core g).pc).endStep g)) ∧
  (∀ (s : State) (i : Instr) (g : Group),
    groupOf i = some g →
    s.takeDue g = none →
    s.fetchWaits g = true →
    exec i s = .next s) ∧
  (∀ (s u : State) (i : Instr) (g : Group) (d : DelaySlot),
    groupOf i = some g →
    s.fetches u g = true →
    (u.core g).delay = some d →
    d.annul = true →
    ∃ t, exec i s = .next t ∧ (t.core g).gpr = (u.core g).gpr) ∧
  (∀ (s u : State) (g : Group) (d : DelaySlot) (rd ra rb : GReg) (imm : BitVec 16),
    s.fetches u g = true →
    (u.core g).delay = some d →
    d.annul = true →
    (∃ t, exec (.add g rd ra rb) s = .next t ∧ (t.core g).gpr = (u.core g).gpr ∧ (t.core g).pc = d.next ∧ (t.core g).delay = none ∧ u.onlyGroup t g) ∧
    (∃ t, exec (.addi g rd ra imm) s = .next t ∧ (t.core g).gpr = (u.core g).gpr ∧ (t.core g).pc = d.next ∧ (t.core g).delay = none ∧ u.onlyGroup t g) ∧
    (∃ t, exec (.mul g rd ra rb) s = .next t ∧ (t.core g).gpr = (u.core g).gpr ∧ (t.core g).pc = d.next ∧ (t.core g).delay = none ∧ u.onlyGroup t g) ∧
    (∃ t, exec (.div g rd ra rb) s = .next t ∧ (t.core g).gpr = (u.core g).gpr ∧ (t.core g).pc = d.next ∧ (t.core g).delay = none ∧ u.onlyGroup t g) ∧
    (∃ t, exec (.stw g rd ra imm) s = .next t ∧ (t.core g).gpr = (u.core g).gpr ∧ (t.core g).pc = d.next ∧ (t.core g).delay = none ∧ u.onlyGroup t g) ∧
    (∃ t, exec (.aswap g rd ra rb) s = .next t ∧ (t.core g).gpr = (u.core g).gpr ∧ (t.core g).pc = d.next ∧ (t.core g).delay = none ∧ u.onlyGroup t g))

/-- The oldest segment becomes durable, heat throttles, power-fail seals and rearms, the flash is erased and programmed outside the
active half, the HBM is scrubbed (R384, R385, R386, R387, R393, R395). It says that exec of archiveDurable, arThermalChange,
pwrfailFall, pfSealDone, pwrfailReturnHigh, pwrfailRearm, cfErase, cfProgram, cfOpComplete, dmScrubRead, dmTemp each completes
with a next state, for every state and operands that meet hypotheses on these alone. -/
def Obligations.TheArchiveSealsAndTheFlashIsProgrammed : Prop :=
  (∀ (s : State) (g : Segment) (l : List Segment),
    s.arch.segs = g :: l →
    s.get AR_STAT_THROTTLE ≠ 3 →
    ∃ t, exec (.archiveDurable) s = .next t ∧ t.arch.segs = l ∧ t.rd64 AR_DURABLE_FN = g.fn % 2 ^ 64 ∧ t.rd64 AR_HOST_WR = (s.rd64 AR_HOST_WR + g.bytes) % 2 ^ 64 ∧ t.mem = s.mem ∧ t.cores = s.cores ∧ t.fn = s.fn) ∧
  (∀ (s : State),
    s.arch.segs = [] ∨ s.get AR_STAT_THROTTLE = 3 →
    exec (.archiveDurable) s = .next (s)) ∧
  (∀ (s : State) (c : Nat),
    c < 256 →
    ∃ t, exec (.arThermalChange c) s = .next t ∧ t.get AR_TEMP_C = c ∧ t.get AR_STAT_THROTTLE = (if s.get AR_STAT_THROTTLE < (if 85 ≤ c then 3 else if 83 ≤ c then 2 else if 80 ≤ c then 1 else 0) then (if 85 ≤ c then 3 else if 83 ≤ c then 2 else if 80 ≤ c then 1 else 0) else if c ≤ 78 then 0 else if c ≤ 81 then min (s.get AR_STAT_THROTTLE) 1 else if c ≤ 83 then min (s.get AR_STAT_THROTTLE) 2 else s.get AR_STAT_THROTTLE) ∧ t.srcIn = s.srcIn ++ (if t.get AR_STAT_THROTTLE = s.get AR_STAT_THROTTLE then [] else [466]) ∧ t.fcuIn = s.fcuIn ++ (if t.get AR_STAT_THROTTLE = 3 ∧ s.get AR_STAT_THROTTLE ≠ 3 then [⟨F_AR_THERMAL, c, false, 0, s.tt⟩] else []) ∧ t.mem = s.mem ∧ t.arch = s.arch) ∧
  (∀ (s : State),
    s.arch.low = false →
    s.sag.rstNLow = false →
    ∃ t, exec (.pwrfailFall) s = .next t ∧ (∀ k : Tile, t.running k.val = none) ∧ t.arch.low = true ∧ t.arch.refuse = true ∧ t.arch.pfStart = s.tt - 1250 ∧ t.arch.pfDone = none ∧ t.arch.flash = none ∧ t.flag AR_STAT_PF_ACTIVE = true ∧ (⟨F_AR_PWRFAIL, 0, false, 0, s.tt⟩ : FaultIn) ∈ t.fcuIn ∧ (s.arch.flash = none → t.mem = s.mem) ∧ t.mode = s.mode ∧ t.cores = s.cores) ∧
  (∀ (s : State),
    s.arch.low = true ∨ s.sag.rstNLow = true →
    exec (.pwrfailFall) s = .next (s)) ∧
  (∀ (s : State),
    s.flag AR_STAT_PF_ACTIVE = true →
    ∃ t, exec (.pfSealDone) s = .next t ∧ t.flag AR_STAT_PF_ACTIVE = false ∧ t.flag AR_STAT_PF_DONE = true ∧ t.get AR_PF_LAST_US = min ((s.tt - s.arch.pfStart) / 1250) 65535 ∧ t.arch.segs = [] ∧ t.arch.pfDone = some s.tt ∧ (468 ∈ t.srcIn) ∧ t.mem = s.mem ∧ t.cores = s.cores) ∧
  (∀ (s : State),
    s.flag AR_STAT_PF_ACTIVE = false →
    exec (.pfSealDone) s = .next (s)) ∧
  (∀ (s : State),
    s.arch.low = true →
    exec (.pwrfailReturnHigh) s = .next (s.onArch (fun a => { a with low := false, highSince := some s.tt }))) ∧
  (∀ (s : State),
    s.arch.low = false →
    exec (.pwrfailReturnHigh) s = .next (s)) ∧
  (∀ (s : State) (d h : Nat),
    s.arch.pfDone = some d →
    s.arch.highSince = some h →
    s.arch.refuse = true →
    exec (.pwrfailRearm) s = .next (if d + 12500000 ≤ s.tt ∧ h + 12500000 ≤ s.tt then s.onArch (fun a => { a with refuse := false }) else s)) ∧
  (∀ (s : State),
    s.arch.pfDone = none ∨ s.arch.highSince = none ∨ s.arch.refuse = false →
    exec (.pwrfailRearm) s = .next (s)) ∧
  (∀ (s : State),
    s.arch.flash = none →
    s.reaches 0 (CF_CMD) = true →
    s.inActiveHalf (s.get CF_ADDR_ADDR * 128) = false →
    ∃ t, exec (.cfErase 0) s = .next t ∧ (∀ x, byteAt t.mem x = if (s.get CF_ADDR_ADDR * 128 / 65536 * 65536) ≤ x ∧ x < (s.get CF_ADDR_ADDR * 128 / 65536 * 65536) + 65536 then 0xFF else byteAt s.mem x) ∧ t.arch.flash = some ⟨true, (s.get CF_ADDR_ADDR * 128 / 65536 * 65536), s.tt⟩ ∧ t.flag CF_STAT_BUSY = true ∧ t.get CF_RESULT_RESULT = 0 ∧ t.get CF_ERASE_CNT_CNT = s.get CF_ERASE_CNT_CNT) ∧
  (∀ (s : State) (o : FlashOp),
    s.arch.flash = some o →
    s.reaches 0 (CF_CMD) = true →
    exec (.cfErase 0) s = .next (s.put CF_RESULT_RESULT 4) ∧ exec (.cfProgram 0) s = .next (s.put CF_RESULT_RESULT 4)) ∧
  (∀ (s : State),
    s.arch.flash = none →
    s.reaches 0 (CF_CMD) = true →
    s.inActiveHalf (s.get CF_ADDR_ADDR * 128) = true →
    exec (.cfErase 0) s = .next (s.put CF_RESULT_RESULT 1) ∧ exec (.cfProgram 0) s = .next (s.put CF_RESULT_RESULT 1)) ∧
  (∀ (s u : State) (d : Bytes) (r : BusResult),
    s.arch.flash = none →
    s.reaches 0 (CF_CMD) = true →
    s.inActiveHalf (s.get CF_ADDR_ADDR * 128) = false →
    s.busRead 0 (s.rd64 CF_SRC % 2 ^ 40 / 128 * 128) 128 = (u, d, r) →
    (∀ k, k < 128 → byteAt u.mem ((s.get CF_ADDR_ADDR * 128) + k) &&& d.getD k 0 = d.getD k 0) →
    ∃ t, exec (.cfProgram 0) s = .next t ∧ (∀ x, byteAt t.mem x = if (s.get CF_ADDR_ADDR * 128) ≤ x ∧ x < (s.get CF_ADDR_ADDR * 128) + 128 then d.getD (x - (s.get CF_ADDR_ADDR * 128)) 0 else byteAt u.mem x) ∧ t.arch.flash = some ⟨false, (s.get CF_ADDR_ADDR * 128), u.tt⟩ ∧ t.flag CF_STAT_BUSY = true ∧ t.get CF_RESULT_RESULT = 0) ∧
  (∀ (s u : State) (d : Bytes) (r : BusResult) (k : Nat),
    s.arch.flash = none →
    s.reaches 0 (CF_CMD) = true →
    s.inActiveHalf (s.get CF_ADDR_ADDR * 128) = false →
    s.busRead 0 (s.rd64 CF_SRC % 2 ^ 40 / 128 * 128) 128 = (u, d, r) →
    k < 128 →
    byteAt u.mem ((s.get CF_ADDR_ADDR * 128) + k) &&& d.getD k 0 ≠ d.getD k 0 →
    exec (.cfProgram 0) s = .next (u.put CF_RESULT_RESULT 3)) ∧
  (∀ (s : State) (m : Master),
    m.val ≠ 0 →
    s.reaches m (CF_CMD) = true →
    exec (.cfErase m) s = .next (s.refusedBy m (CF_CMD)) ∧ exec (.cfProgram m) s = .next (s.refusedBy m (CF_CMD))) ∧
  (∀ (s : State) (o : FlashOp) (ok : Bool),
    s.arch.flash = some o →
    s.host.flash = none →
    o.erase = true ∨ ok = true →
    ∃ t, exec (.cfOpComplete ok) s = .next t ∧ t.arch.flash = none ∧ t.flag CF_STAT_BUSY = false ∧ t.get CF_RESULT_RESULT = 0 ∧ t.get CF_ERASE_CNT_CNT = (if o.erase then min (s.get (CF_ERASE_CNT_CNT) + 1) (2 ^ (CF_ERASE_CNT_CNT).width - 1) else s.get CF_ERASE_CNT_CNT) ∧ t.srcIn = s.srcIn ++ [467] ∧ t.fcuIn = s.fcuIn ∧ t.mem = s.mem) ∧
  (∀ (s : State) (o : FlashOp),
    s.arch.flash = some o →
    s.host.flash = none →
    o.erase = false →
    ∃ t, exec (.cfOpComplete false) s = .next t ∧ t.arch.flash = none ∧ t.get CF_RESULT_RESULT = 2 ∧ t.fcuIn = s.fcuIn ++ [⟨F_CF_PROG_FAIL, o.addr % 2 ^ 32, false, 0, s.tt⟩] ∧ (∀ x, (x < o.addr ∨ o.addr + 128 ≤ x) → byteAt t.mem x = byteAt s.mem x)) ∧
  (∀ (s : State) (ok : Bool),
    s.arch.flash = none →
    exec (.cfOpComplete ok) s = .next (s)) ∧
  (∀ (s : State) (l : Option ReservedLoss),
    s.flag DM_SCRUB_PER_EN = true →
    s.prot.hbmScrub.next < 469762048 →
    s.prot.lat = [] →
    exec (.dmScrubRead l) s = .next (s.onProt (fun x => { x with hbmScrub := { x.hbmScrub with next := x.hbmScrub.next + 1 } }))) ∧
  (∀ (s : State),
    s.flag DM_SCRUB_PER_EN = true →
    469762048 ≤ s.prot.hbmScrub.next →
    exec (.dmScrubRead none) s = .next (if 482344960 ≤ s.prot.hbmScrub.next + 1 then (s.onProt (fun x => { x with hbmScrub := { x.hbmScrub with next := 0 } })).bump DM_SCRUB_PASS_CNT else s.onProt (fun x => { x with hbmScrub := { x.hbmScrub with next := x.hbmScrub.next + 1 } }))) ∧
  (∀ (s : State) (l : ReservedLoss),
    s.flag DM_SCRUB_PER_EN = true →
    469762048 ≤ s.prot.hbmScrub.next →
    ∀ n, l = .staging n → n < s.te.staged.length →
    ∃ t, exec (.dmScrubRead (some l)) s = .next t ∧ t.get DM_UNC_CNT_CNT = min (s.get (DM_UNC_CNT_CNT) + 1) (2 ^ (DM_UNC_CNT_CNT).width - 1) ∧ t.fcuIn = s.fcuIn ++ [⟨F_DM_UNC_RSV, (match l with | .staging _ => 0 | .slot _ => 1 | .archive => 2), false, 0, s.tt⟩] ∧ (l = .archive → t.arch.lost = true) ∧ t.mem = s.mem ∧ t.cores = s.cores) ∧
  (∀ (s : State) (l : Option ReservedLoss),
    s.flag DM_SCRUB_PER_EN = false →
    exec (.dmScrubRead l) s = .next (s)) ∧
  (∀ (s : State) (c : Nat),
    exec (.dmTemp c) s = .next (if 95 < c ∧ s.get DM_STAT_TEMP ≤ 95 then (s.put DM_STAT_TEMP (min c 255)).raise F_DM_TEMP c else s.put DM_STAT_TEMP (min c 255)))

/-- The lifecycle, the floors and the fuses advance under their conditions, enrolment and image checks run, and debug sessions are
authenticated and end (R402, R403, R404, R405, R408, R413). It says that exec of sgLcAdvance, sgSvnCommit, sgFuseProgram,
fuseProgramDone, sgPufEnroll, pufEnrollDone, sgVerCheck, sgVerDone, sgDbgGo, dbgAuthDone, sgDbgEnd each completes with a next
state, for every state and operands that meet hypotheses on these alone. -/
def Obligations.TheSaggerServesLifecycleFusesAndDebug : Prop :=
  (∀ (s : State) (v : Word),
    s.advanceOk (v.toNat % 4) = false →
    s.reaches 0 (SG_LC_ADVANCE) = true →
    exec (.sgLcAdvance 0 v) s = .next (s.putFlag SG_STAT_CFG_REJ true)) ∧
  (∀ (s : State) (v : Word),
    s.reaches 0 (SG_LC_ADVANCE) = true →
    s.lifecycle = 0 →
    v.toNat % 4 = 1 →
    s.fuseBytes 24 16 ≠ List.replicate 64 0 →
    s.fuseBytes 40 16 ≠ List.replicate 64 0 →
    s.fuseBytes 88 128 ≠ List.replicate 512 0 →
    bitsOf (s.fuse 0).toNat 16 6 = 63 →
    ∃ t, exec (.sgLcAdvance 0 v) s = .next t ∧ t.fuse 0 = s.fuse 0 ||| 1 ∧ t.get SG_DBG_CTRL_LEVEL = 0 ∧ (∀ w, w ≠ 0 → t.fuse w = s.fuse w) ∧ t.sag.events.getLast? = some ⟨s.fn, 8, 1⟩ ∧ t.mem = s.mem ∧ t.cores = s.cores) ∧
  (∀ (s : State) (v : Word),
    s.reaches 0 (SG_LC_ADVANCE) = true →
    s.lifecycle = 1 →
    v.toNat % 4 = 2 →
    s.mode = modeMaintenance →
    ∃ t, exec (.sgLcAdvance 0 v) s = .next t ∧ t.fuse 0 = s.fuse 0 ||| 2 ∧ (∀ w, w ≠ 0 → t.fuse w = s.fuse w) ∧ (⟨s.fn, 8, 2⟩ : SecEvent) ∈ t.sag.events ∧ t.flag SG_LC_ID_VALID = s.flag SG_LC_ID_VALID ∧ t.mem = s.mem ∧ t.cores = s.cores) ∧
  (∀ (s : State) (v : Word),
    s.reaches 0 (SG_LC_ADVANCE) = true →
    s.lifecycle = 2 →
    v.toNat % 4 = 3 →
    s.mode = modeMaintenance →
    ∃ t, exec (.sgLcAdvance 0 v) s = .next t ∧ t.fuse 0 = s.fuse 0 ||| 12 ∧ (∀ w, w ≠ 0 → t.fuse w = s.fuse w) ∧ t.flag SG_LC_ID_VALID = false ∧ t.sag.idKey = false ∧ t.sag.storeKey = false ∧ t.sag.events = [] ∧ t.rd64 HI_AUTH_CTR = 0 ∧ t.mem = s.mem ∧ t.cores = s.cores) ∧
  (∀ (s : State) (v : Word),
    s.mode = modeMaintenance →
    s.reaches 0 (SG_SVN_COMMIT) = true →
    s.flag CF_STAT_TRIAL = false →
    ∃ t, exec (.sgSvnCommit 0 v) s = .next t ∧ (∀ k, k < 3 → ∀ n, v.toNat.testBit k = true ∧ (k = 0 ∧ n = s.sag.glostSvn ∨ k = 1 ∧ n = s.sag.kwSvn ∨ k = 2 ∧ s.sag.appSvn = some n) → t.fuse (2 + 2 * k) = s.fuse (2 + 2 * k) ||| BitVec.ofNat 32 (2 ^ min n 64 - 1) ∧ t.fuse (3 + 2 * k) = s.fuse (3 + 2 * k) ||| BitVec.ofNat 32 ((2 ^ min n 64 - 1) / 2 ^ 32)) ∧ (∀ k, k < 3 → v.toNat.testBit k = false → t.fuse (2 + 2 * k) = s.fuse (2 + 2 * k) ∧ t.fuse (3 + 2 * k) = s.fuse (3 + 2 * k)) ∧ (∀ w, w < 2 ∨ 8 ≤ w → t.fuse w = s.fuse w) ∧ t.sag.events.getLast? = some ⟨s.fn, 7, v.toNat % 8⟩ ∧ t.mem = s.mem) ∧
  (∀ (s : State) (v : Word),
    s.mode ≠ modeMaintenance ∨ s.flag CF_STAT_TRIAL = true →
    s.reaches 0 (SG_SVN_COMMIT) = true →
    exec (.sgSvnCommit 0 v) s = .next (s.putFlag SG_STAT_CFG_REJ true)) ∧
  (∀ (s : State) (m : Master),
    m.val = 0 ∨ (m.val = 14 ∧ s.debugLevel = 3) →
    s.reaches m (SG_FUSE_CMD) = true →
    s.sag.fuseOp = none →
    s.fuseRefused (s.get SG_FUSE_ADDR_WORD) (s.rd SG_FUSE_DATA) = false →
    exec (.sgFuseProgram m) s = .next ((s.onSag (fun x => { x with fuseOp := some ((s.get SG_FUSE_ADDR_WORD), (s.rd SG_FUSE_DATA)) })).putFlag SG_FUSE_CMD_BUSY true)) ∧
  (∀ (s : State),
    s.sag.fuseOp = none →
    s.reaches 0 (SG_FUSE_CMD) = true →
    2 ≤ s.lifecycle ∨ ((s.get SG_FUSE_ADDR_WORD) = 0 ∧ (s.rd SG_FUSE_DATA) &&& 0xF ≠ 0) ∨ (1 ≤ (s.get SG_FUSE_ADDR_WORD) ∧ (s.get SG_FUSE_ADDR_WORD) ≤ 7) ∨ (8 ≤ (s.get SG_FUSE_ADDR_WORD) ∧ (s.get SG_FUSE_ADDR_WORD) < 88 ∧ (s.fuse 0).toNat.testBit (16 + ((s.get SG_FUSE_ADDR_WORD) - 8) / 16) = true) →
    exec (.sgFuseProgram 0) s = .next (s.put SG_FUSE_CMD_RESULT 1)) ∧
  (∀ (s : State) (x : Nat × Word),
    s.sag.fuseOp = some x →
    s.reaches 0 (SG_FUSE_CMD) = true →
    exec (.sgFuseProgram 0) s = .next (s)) ∧
  (∀ (s : State) (w : Nat) (d : Word),
    s.sag.fuseOp = some (w, d) →
    (∃ t, exec (.fuseProgramDone true) s = .next t ∧ t.fuse w = s.fuse w ||| d ∧ (∀ k, k ≠ w → t.fuse k = s.fuse k) ∧ t.get SG_FUSE_CMD_RESULT = 0 ∧ t.flag SG_FUSE_CMD_BUSY = false ∧ t.sag.fuseOp = none) ∧ (∃ t, exec (.fuseProgramDone false) s = .next t ∧ (∀ b, (t.fuse w).getLsbD b = true → (s.fuse w ||| d).getLsbD b = true) ∧ (∀ b, (s.fuse w).getLsbD b = true → (t.fuse w).getLsbD b = true) ∧ (∀ k, k ≠ w → t.fuse k = s.fuse k) ∧ t.get SG_FUSE_CMD_RESULT = 2 ∧ t.flag SG_FUSE_CMD_BUSY = false ∧ t.sag.fuseOp = none)) ∧
  (∀ (s : State) (ok : Bool),
    s.sag.fuseOp = none →
    exec (.fuseProgramDone ok) s = .next (s)) ∧
  (∀ (s : State),
    s.flag SG_PUF_CTRL_BUSY = false →
    s.reaches 0 (SG_PUF_CTRL) = true →
    exec (.sgPufEnroll 0) s = .next (if s.lifecycle = 0 ∧ (s.fuse 0).toNat.testBit 21 = false then s.putFlag SG_PUF_CTRL_BUSY true else s.putFlag SG_STAT_CFG_REJ true)) ∧
  (∀ (s : State),
    s.flag SG_PUF_CTRL_BUSY = true →
    s.reaches 0 (SG_PUF_CTRL) = true →
    exec (.sgPufEnroll 0) s = .next (s) ∧ (∃ t, exec (.pufEnrollDone) s = .next t ∧ t.flag SG_PUF_CTRL_BUSY = false ∧ t.sag = s.sag ∧ t.mem = s.mem ∧ t.cores = s.cores)) ∧
  (∀ (s : State),
    s.flag SG_PUF_CTRL_BUSY = false →
    exec (.pufEnrollDone) s = .next (s)) ∧
  (∀ (s : State),
    s.sag.ver = none →
    s.reaches 0 (SG_VER_CTRL) = true →
    exec (.sgVerCheck 0) s = .next (((s.onSag (fun x => { x with ver := some (s.rd64 SG_VER_ADDR % 2 ^ 40 / 64 * 64, s.get SG_VER_LEN_BYTES) })).putFlag SG_VER_CTRL_BUSY true).syncEngine)) ∧
  (∀ (s : State) (x : Nat × Nat),
    s.sag.ver = some x →
    s.reaches 0 (SG_VER_CTRL) = true →
    exec (.sgVerCheck 0) s = .next (s)) ∧
  (∀ (s u : State) (a n : Nat),
    s.sag.ver = some (a, n) →
    s.served .ver = some u →
    (∃ t, exec (.sgVerDone) s = .next t ∧ t.sag.ver = none ∧ t.flag SG_VER_CTRL_BUSY = false ∧ t.get SG_VER_CTRL_RESULT = (u.checkAt a n).2.2 % 8 ∧ t.srcIn.getLast? = some 480 ∧ t.cores = s.cores)) ∧
  (∀ (s : State),
    s.sag.ver = none ∨ s.served .ver = none →
    exec (.sgVerDone) s = .next (s)) ∧
  (∀ (s : State) (v : Word),
    s.sag.dbg = none →
    s.reaches 14 (SG_DBG_CTRL) = true →
    exec (.sgDbgGo 14 v) s = .next (((((s.put SG_DBG_CTRL_REQ_LEVEL (v.toNat % 4)).putFlag SG_DBG_CTRL_KEY (v.toNat.testBit 2)).onSag (fun x => { x with dbg := some (v.toNat % 4, v.toNat.testBit 2, (List.range 8).flatMap (fun j => natLe 4 (s.rd (SG_DBG_NONCE j)).toNat), ((List.range 1157).flatMap (fun j => natLe 4 (s.rd (SG_DBG_SIG j)).toNat)).take 4627) })).putFlag SG_DBG_CTRL_BUSY true).syncEngine)) ∧
  (∀ (s : State) (v : Word),
    s.sag.dbg ≠ none →
    s.reaches 14 (SG_DBG_CTRL) = true →
    exec (.sgDbgGo 14 v) s = .next (s)) ∧
  (∀ (s u : State) (l : Nat) (k : Bool) (n g : Bytes),
    s.sag.dbg = some (l, k, n, g) →
    l < 4 →
    s.served .debug = some u →
    (∃ t, exec (.dbgAuthDone) s = .next t ∧ t.sag.dbg = none ∧ t.flag SG_DBG_CTRL_BUSY = false ∧ t.get SG_DBG_CTRL_RESULT = s.debugOutcome l k n g ∧ (s.debugOutcome l k n g = 0 → t.get SG_DBG_CTRL_LEVEL = l ∧ t.fcuIn = s.fcuIn ++ [⟨F_SG_DBG_SESSION, l, false, 0, s.tt⟩] ∧ t.get SG_DBG_FAIL_CNT_CNT = s.get SG_DBG_FAIL_CNT_CNT) ∧ (s.debugOutcome l k n g ≠ 0 → (⟨F_SG_DBG_AUTH_FAIL, l, false, 0, s.tt⟩ : FaultIn) ∈ t.fcuIn ∧ t.get SG_DBG_FAIL_CNT_CNT = min (s.get (SG_DBG_FAIL_CNT_CNT) + 1) (2 ^ (SG_DBG_FAIL_CNT_CNT).width - 1)) ∧ (s.lifecycle = 0 → s.debugOutcome l k n g = 0) ∧ (s.lifecycle ≠ 0 → s.debugMax < l ∨ s.sag.dbgKeys = false ∨ (s.lifecycle = 3 ∧ k = false) → s.debugOutcome l k n g = 2))) ∧
  (∀ (s : State),
    s.sag.dbg = none ∨ s.served .debug = none →
    exec (.dbgAuthDone) s = .next (s)) ∧
  (∀ (s : State),
    s.reaches 14 (SG_DBG_CTRL) = true →
    exec (.sgDbgEnd 14) s = .next (if s.get SG_DBG_CTRL_LEVEL = 0 ∨ s.lifecycle = 0 then s else ((s.put SG_DBG_CTRL_LEVEL 0).secEvent 4 (s.get SG_DBG_CTRL_LEVEL)).raiseSrc 481)) ∧
  (∀ (s : State) (m : Master) (v : Word),
    m.val ≠ 0 →
    s.reaches m (SG_LC_ADVANCE) = true →
    s.reaches m (SG_SVN_COMMIT) = true →
    s.reaches m (SG_PUF_CTRL) = true →
    s.reaches m (SG_VER_CTRL) = true →
    s.reaches m (SG_FUSE_CMD) = true →
    exec (.sgLcAdvance m v) s = .next (s.refusedBy m (SG_LC_ADVANCE)) ∧
    exec (.sgSvnCommit m v) s = .next (s.refusedBy m (SG_SVN_COMMIT)) ∧
    exec (.sgPufEnroll m) s = .next (s.refusedBy m (SG_PUF_CTRL)) ∧
    exec (.sgVerCheck m) s = .next (s.refusedBy m (SG_VER_CTRL)) ∧
    (m.val ≠ 14 ∨ s.debugLevel ≠ 3 → exec (.sgFuseProgram m) s = .next (s.refusedBy m (SG_FUSE_CMD)))) ∧
  (∀ (s : State) (m : Master) (v : Word),
    m.val ≠ 14 →
    s.reaches m (SG_DBG_CTRL) = true →
    exec (.sgDbgGo m v) s = .next (s.refusedBy m (SG_DBG_CTRL)) ∧ exec (.sgDbgEnd m) s = .next (s.refusedBy m (SG_DBG_CTRL)))

/-- A request joins the sagger's engines behind those of its class and above, the one that runs is not displaced, and no other
completes (R420, R408, R370, R415, R419, R148). -/
def Obligations.TheEnginesServeOneRequestAtATime : Prop :=
  (∀ (run r : SagReq) (wait : List SagReq),
    wait.Pairwise (fun a b => a.rank ≤ b.rank) →
    ∃ p q, wait = p ++ q ∧ queueSag (run :: wait) r = run :: (p ++ r :: q) ∧ (∀ x ∈ p, x.rank ≤ r.rank) ∧ (∀ x ∈ q, r.rank < x.rank)) ∧
  (∀ (s u : State) (r : SagReq),
    s.served r = some u →
    s.syncEngine.sag.engine = r :: u.sag.engine ∧ u.regs = s.regs ∧ u.mem = s.mem ∧ u.cores = s.cores ∧ u.host = s.host) ∧
  (∀ (s : State) (r : SagReq),
    s.syncEngine.sag.engine.head? ≠ some r →
    s.served r = none) ∧
  (∀ (s : State),
    (s.served .blob = none → exec (.authCheckDone) s = .next s) ∧
    (s.served .image = none → exec (.imageCheckDone) s = .next s) ∧
    (s.served .attest = none → exec (.attestSignDone true) s = .next s) ∧
    (s.served .attest = none → exec (.attestSignDone false) s = .next s) ∧
    (s.served .kload = none → exec (.veKloadDone) s = .next s) ∧
    (s.served .ver = none → exec (.sgVerDone) s = .next s) ∧
    (s.served .debug = none → exec (.dbgAuthDone) s = .next s))

/-- A sensor that trips erases the keys, makes every output safe and enters LOCKDOWN, and class A blows KILL; boundary scan holds
the safety pins safe (R335, R422, R423, R424, R428, R431). It says that exec of tamperSwitch, tamperMeshFail, packageMeshTrip,
lightSensorTrip, supplyMonitorTrip, clockMonitorTrip, temperatureTrip, jtagExtest, jtagClamp each completes with a next state,
for every state and operands that meet hypotheses on these alone. -/
def Obligations.TamperSensorsMakeTheDeviceSafe : Prop :=
  (∀ (s : State) (n : Fin 4),
    (bitsOf (s.rd SG_TAMP_CFG).toNat (2 * n.val) 2) = 1 →
    ∃ t, exec (.tamperSwitch n) s = .next t ∧ t.mode = modeLockdown ∧ t.devSafe = true ∧ t.outputsSafe ∧ t.sag.idKey = false ∧ t.sag.storeKey = false ∧ (t.rd SG_ALARM_STAT).toNat.testBit (n.val) = true ∧ t.flag SG_ALARM_STAT_ERASED = true ∧ (if ((s.rd SG_TAMP_CFG).toNat.testBit (8 + n.val) = true) then t.get SG_ALARM_STAT_CLASS = 2 ∧ t.killed = true ∧ t.flag SG_LC_ID_VALID = false ∧ (⟨F_SG_ALARM_A, n.val, false, 0, s.tt⟩ : FaultIn) ∈ t.fcuIn else 1 ≤ t.get SG_ALARM_STAT_CLASS ∧ t.fuse 0 = s.fuse 0 ∧ (⟨F_SG_ALARM_B, n.val, false, 0, s.tt⟩ : FaultIn) ∈ t.fcuIn) ∧ (s.arch.flash = none → t.mem = s.mem) ∧ t.cores = s.cores) ∧
  (∀ (s : State) (n : Fin 4),
    (bitsOf (s.rd SG_TAMP_CFG).toNat (2 * n.val) 2) ≠ 1 →
    exec (.tamperSwitch n) s = .next (s)) ∧
  (∀ (s : State) (p : Fin 2),
    (bitsOf (s.rd SG_TAMP_CFG).toNat (2 * (2 * p.val)) 2) = 2 →
    ∃ t, exec (.tamperMeshFail p) s = .next t ∧ t.mode = modeLockdown ∧ t.devSafe = true ∧ t.outputsSafe ∧ t.sag.idKey = false ∧ t.sag.storeKey = false ∧ (t.rd SG_ALARM_STAT).toNat.testBit (2 * p.val) = true ∧ t.flag SG_ALARM_STAT_ERASED = true ∧ (if ((s.rd SG_TAMP_CFG).toNat.testBit (8 + 2 * p.val) = true) then t.get SG_ALARM_STAT_CLASS = 2 ∧ t.killed = true ∧ t.flag SG_LC_ID_VALID = false ∧ (⟨F_SG_ALARM_A, 2 * p.val, false, 0, s.tt⟩ : FaultIn) ∈ t.fcuIn else 1 ≤ t.get SG_ALARM_STAT_CLASS ∧ t.fuse 0 = s.fuse 0 ∧ (⟨F_SG_ALARM_B, 2 * p.val, false, 0, s.tt⟩ : FaultIn) ∈ t.fcuIn) ∧ (s.arch.flash = none → t.mem = s.mem) ∧ t.cores = s.cores) ∧
  (∀ (s : State) (p : Fin 2),
    (bitsOf (s.rd SG_TAMP_CFG).toNat (2 * (2 * p.val)) 2) ≠ 2 →
    exec (.tamperMeshFail p) s = .next (s)) ∧
  (∀ (s : State),
    ∃ t, exec (.packageMeshTrip) s = .next t ∧ t.mode = modeLockdown ∧ t.devSafe = true ∧ t.outputsSafe ∧ t.sag.idKey = false ∧ t.sag.storeKey = false ∧ (t.rd SG_ALARM_STAT).toNat.testBit (4) = true ∧ t.flag SG_ALARM_STAT_ERASED = true ∧ (if True then t.get SG_ALARM_STAT_CLASS = 2 ∧ t.killed = true ∧ t.flag SG_LC_ID_VALID = false ∧ (⟨F_SG_ALARM_A, 4, false, 0, s.tt⟩ : FaultIn) ∈ t.fcuIn else 1 ≤ t.get SG_ALARM_STAT_CLASS ∧ t.fuse 0 = s.fuse 0 ∧ (⟨F_SG_ALARM_B, 4, false, 0, s.tt⟩ : FaultIn) ∈ t.fcuIn) ∧ (s.arch.flash = none → t.mem = s.mem) ∧ t.cores = s.cores) ∧
  (∀ (s : State),
    ∃ t, exec (.lightSensorTrip) s = .next t ∧ t.mode = modeLockdown ∧ t.devSafe = true ∧ t.outputsSafe ∧ t.sag.idKey = false ∧ t.sag.storeKey = false ∧ (t.rd SG_ALARM_STAT).toNat.testBit (5) = true ∧ t.flag SG_ALARM_STAT_ERASED = true ∧ (if True then t.get SG_ALARM_STAT_CLASS = 2 ∧ t.killed = true ∧ t.flag SG_LC_ID_VALID = false ∧ (⟨F_SG_ALARM_A, 5, false, 0, s.tt⟩ : FaultIn) ∈ t.fcuIn else 1 ≤ t.get SG_ALARM_STAT_CLASS ∧ t.fuse 0 = s.fuse 0 ∧ (⟨F_SG_ALARM_B, 5, false, 0, s.tt⟩ : FaultIn) ∈ t.fcuIn) ∧ (s.arch.flash = none → t.mem = s.mem) ∧ t.cores = s.cores) ∧
  (∀ (s : State),
    ∃ t, exec (.supplyMonitorTrip) s = .next t ∧ t.mode = modeLockdown ∧ t.devSafe = true ∧ t.outputsSafe ∧ t.sag.idKey = false ∧ t.sag.storeKey = false ∧ (t.rd SG_ALARM_STAT).toNat.testBit (6) = true ∧ t.flag SG_ALARM_STAT_ERASED = true ∧ (if False then t.get SG_ALARM_STAT_CLASS = 2 ∧ t.killed = true ∧ t.flag SG_LC_ID_VALID = false ∧ (⟨F_SG_ALARM_A, 6, false, 0, s.tt⟩ : FaultIn) ∈ t.fcuIn else 1 ≤ t.get SG_ALARM_STAT_CLASS ∧ t.fuse 0 = s.fuse 0 ∧ (⟨F_SG_ALARM_B, 6, false, 0, s.tt⟩ : FaultIn) ∈ t.fcuIn) ∧ (s.arch.flash = none → t.mem = s.mem) ∧ t.cores = s.cores) ∧
  (∀ (s : State),
    ∃ t, exec (.clockMonitorTrip) s = .next t ∧ t.mode = modeLockdown ∧ t.devSafe = true ∧ t.outputsSafe ∧ t.sag.idKey = false ∧ t.sag.storeKey = false ∧ (t.rd SG_ALARM_STAT).toNat.testBit (7) = true ∧ t.flag SG_ALARM_STAT_ERASED = true ∧ (if False then t.get SG_ALARM_STAT_CLASS = 2 ∧ t.killed = true ∧ t.flag SG_LC_ID_VALID = false ∧ (⟨F_SG_ALARM_A, 7, false, 0, s.tt⟩ : FaultIn) ∈ t.fcuIn else 1 ≤ t.get SG_ALARM_STAT_CLASS ∧ t.fuse 0 = s.fuse 0 ∧ (⟨F_SG_ALARM_B, 7, false, 0, s.tt⟩ : FaultIn) ∈ t.fcuIn) ∧ (s.arch.flash = none → t.mem = s.mem) ∧ t.cores = s.cores) ∧
  (∀ (s : State) (c : Int),
    c < -45 ∨ 115 < c →
    ∃ t, exec (.temperatureTrip c) s = .next t ∧ t.mode = modeLockdown ∧ t.devSafe = true ∧ t.outputsSafe ∧ t.sag.idKey = false ∧ t.sag.storeKey = false ∧ (t.rd SG_ALARM_STAT).toNat.testBit (8) = true ∧ t.flag SG_ALARM_STAT_ERASED = true ∧ (if False then t.get SG_ALARM_STAT_CLASS = 2 ∧ t.killed = true ∧ t.flag SG_LC_ID_VALID = false ∧ (⟨F_SG_ALARM_A, 8, false, 0, s.tt⟩ : FaultIn) ∈ t.fcuIn else 1 ≤ t.get SG_ALARM_STAT_CLASS ∧ t.fuse 0 = s.fuse 0 ∧ (⟨F_SG_ALARM_B, 8, false, 0, s.tt⟩ : FaultIn) ∈ t.fcuIn) ∧ (s.arch.flash = none → t.mem = s.mem) ∧ t.cores = s.cores) ∧
  (∀ (s : State) (c : Int),
    -45 ≤ c →
    c ≤ 115 →
    exec (.temperatureTrip c) s = .next (s.put PM_TJ_C (unsignedOf 8 c))) ∧
  (∀ (s : State),
    s.sag.rstNLow = true →
    s.lifecycle ≤ 1 →
    (∃ t, exec (.jtagExtest) s = .next t ∧ t.outputsSafe ∧ t.mode = s.mode ∧ t.mem = s.mem ∧ t.cores = s.cores) ∧
    (∃ t, exec (.jtagClamp) s = .next t ∧ t.outputsSafe ∧ t.mode = s.mode ∧ t.mem = s.mem ∧ t.cores = s.cores)) ∧
  (∀ (s : State),
    s.sag.rstNLow = false ∨ 2 ≤ s.lifecycle →
    exec (.jtagExtest) s = .next (s) ∧ exec (.jtagClamp) s = .next (s))

/-- Master 14 halts, resumes, steps, reads and writes a group and memory at its level (R203, R204, R316, R321, R426, R427). It says
that exec of dbgHalt, dbgResume, dbgStep, dbgRegAccess, dbgMemGo each completes with a next state, for every state and operands
that meet hypotheses on these alone. -/
def Obligations.TheDebugPortActs : Prop :=
  (∀ (s : State),
    s.lockDenies 14 0x40F00000 = false →
    2 ≤ s.debugLevel →
    s.lifecycle ≠ 2 ∨ s.mode = modeMaintenance →
    s.eligible s.dbgGroup = true →
    exec (.dbgHalt 14) s = .next (s.putFlag (LS_DBG_HALT_PEND s.dbgGroup) true)) ∧
  (∀ (s : State),
    s.lockDenies 14 0x40F00000 = false →
    2 ≤ s.debugLevel →
    s.lifecycle = 2 →
    s.mode ≠ modeMaintenance →
    exec (.dbgHalt 14) s = .next (s.putFlag DBG_STAT_REFUSED true)) ∧
  (∀ (s : State) (g : Group),
    s.lockDenies 14 0x40F00000 = false →
    2 ≤ s.debugLevel →
    s.dbgGroup = g →
    s.dbgHalted g = true →
    (∃ t, exec (.dbgResume 14) s = .next t ∧ t.flag (LS_DBG_HALTED g) = false ∧ t.get (LS_STAT_STATE g) = 0 ∧ (t.core g).stepping = false ∧ (t.core g).gpr = (s.core g).gpr ∧ (t.core g).pc = (s.core g).pc ∧ (∀ k : Group, k ≠ g → t.core k = s.core k) ∧ t.mem = s.mem) ∧
    (∃ t, exec (.dbgStep 14) s = .next t ∧ t.flag (LS_DBG_HALTED g) = false ∧ t.get (LS_STAT_STATE g) = 0 ∧ (t.core g).stepping = true ∧ (t.core g).gpr = (s.core g).gpr ∧ (t.core g).pc = (s.core g).pc ∧ (∀ k : Group, k ≠ g → t.core k = s.core k) ∧ t.mem = s.mem)) ∧
  (∀ (s : State) (g : Group),
    s.lockDenies 14 0x40F00000 = false →
    2 ≤ s.debugLevel →
    s.dbgGroup = g →
    s.dbgHalted g = false →
    exec (.dbgResume 14) s = .next (s) ∧ exec (.dbgStep 14) s = .next (s) ∧ (∀ v x y : Word, exec (.dbgRegAccess 14 v x y) s = .next (s.putFlag DBG_STAT_REFUSED true))) ∧
  (∀ (s : State) (g : Group) (v : Word),
    s.lockDenies 14 0x40F00000 = false →
    2 ≤ s.debugLevel →
    s.dbgGroup = g →
    s.dbgHalted g = true →
    v.toNat.testBit 8 = false →
    exec (.dbgRegAccess 14 v 0 0) s = .next ((s.wr DBG_REG_SEL (v &&& 0x13F)).wr DBG_REG_DATA (if v.toNat % 64 < 32 then s.rg g (BitVec.ofNat 5 (v.toNat % 64)) else if v.toNat % 64 < 47 then s.specialReg g (BitVec.ofNat 5 (v.toNat % 64 - 32)) else if v.toNat % 64 = 47 then (s.core g).pc else 0))) ∧
  (∀ (s : State) (g : Group) (v : Word),
    s.lockDenies 14 0x40F00000 = false →
    2 ≤ s.debugLevel →
    s.dbgGroup = g →
    s.dbgHalted g = true →
    v.toNat.testBit 8 = true →
    v.toNat % 64 < 32 ∨ v.toNat % 64 = 47 →
    ∃ t, exec (.dbgRegAccess 14 v 0 0) s = .next t ∧ (∀ r : GReg, (t.core g).rg r = if r.toNat = v.toNat % 64 ∧ r ≠ 0 then s.rd DBG_REG_DATA else (s.core g).rg r) ∧ (t.core g).pc = (if v.toNat % 64 = 47 then s.rd DBG_REG_DATA &&& 0xFFFFFFFC else (s.core g).pc) ∧ t.rd DBG_REG_SEL = v &&& 0x13F ∧ (∀ k : Group, k ≠ g → t.core k = s.core k) ∧ t.mem = s.mem) ∧
  (∀ (s : State) (v : Word),
    s.lockDenies 14 0x40F00000 = false →
    v.toNat.testBit 0 = false →
    exec (.dbgMemGo 14 v) s = .next ((s.wr DBG_MEM_CTRL (v &&& 0xE)))) ∧
  (∀ (s u : State) (v : Word) (d : Bytes) (n : Nat) (ok : Bool),
    s.lockDenies 14 0x40F00000 = false →
    v.toNat.testBit 0 = true →
    v.toNat.testBit 1 = false →
    1 ≤ s.debugLevel →
    (s.rd64 DBG_MEM_ADDR) % (2 ^ (v.toNat / 4 % 4)) = 0 →
    targetAt s.part (s.rd64 DBG_MEM_ADDR) ≠ .regs →
    (s.wr DBG_MEM_CTRL (v &&& 0xE)).busRead 14 (s.rd64 DBG_MEM_ADDR) (2 ^ (v.toNat / 4 % 4)) = (u, d, ⟨n, ok⟩) →
    exec (.dbgMemGo 14 v) s = .next (if ok then u.wr64 DBG_MEM_DATA (leNat d) else u.putFlag DBG_STAT_MEM_ERR true)) ∧
  (∀ (s u : State) (v : Word) (n : Nat) (ok : Bool),
    s.lockDenies 14 0x40F00000 = false →
    v.toNat.testBit 0 = true →
    v.toNat.testBit 1 = true →
    2 ≤ s.debugLevel →
    (s.rd64 DBG_MEM_ADDR) % (2 ^ (v.toNat / 4 % 4)) = 0 →
    targetAt s.part (s.rd64 DBG_MEM_ADDR) ≠ .regs →
    (s.wr DBG_MEM_CTRL (v &&& 0xE)).busWrite 14 (s.rd64 DBG_MEM_ADDR) (natLe (2 ^ (v.toNat / 4 % 4)) (s.rd64 DBG_MEM_DATA)) = (u, ⟨n, ok⟩) →
    exec (.dbgMemGo 14 v) s = .next (if ok then u else u.putFlag DBG_STAT_MEM_ERR true)) ∧
  (∀ (s : State),
    s.lockDenies 14 0x40F00000 = false →
    s.debugLevel < 2 →
    exec (.dbgHalt 14) s = .next (s.putFlag DBG_STAT_REFUSED true) ∧ exec (.dbgResume 14) s = .next (s.putFlag DBG_STAT_REFUSED true) ∧ exec (.dbgStep 14) s = .next (s.putFlag DBG_STAT_REFUSED true) ∧ (∀ v x y : Word, exec (.dbgRegAccess 14 v x y) s = .next (s.putFlag DBG_STAT_REFUSED true))) ∧
  (∀ (s : State) (m : Master),
    m.val ≠ 14 →
    exec (.dbgHalt m) s = .next (s) ∧ exec (.dbgResume m) s = .next (s) ∧ exec (.dbgStep m) s = .next (s) ∧ (∀ v x y : Word, exec (.dbgRegAccess m v x y) s = .next s ∧ exec (.dbgMemGo m v) s = .next s)) ∧
  (∀ (s : State) (v : Word),
    s.lockDenies 14 0x40F00000 = false →
    v.toNat.testBit 0 = true →
    (s.rd64 DBG_MEM_ADDR) / 0x10000 ≠ 0x4080 →
    s.debugLevel = 0 ∨ (v.toNat.testBit 1 = true ∧ s.debugLevel < 2) →
    exec (.dbgMemGo 14 v) s = .next (s.putFlag DBG_STAT_REFUSED true)) ∧
  (∀ (s : State) (v x y : Word),
    s.lockDenies 14 0x40F00000 = true →
    exec (.dbgHalt 14) s = .next (s.recordDenial 14 0x40F00000 true true 0) ∧
    exec (.dbgResume 14) s = .next (s.recordDenial 14 0x40F00000 true true 0) ∧
    exec (.dbgStep 14) s = .next (s.recordDenial 14 0x40F00000 true true 0) ∧
    exec (.dbgRegAccess 14 v x y) s = .next (s.recordDenial 14 0x40F00000 true true 0) ∧
    exec (.dbgMemGo 14 v) s = .next (s.recordDenial 14 0x40F00000 true true 0)) ∧
  (∀ (s : State) (g : Group) (v x : Word),
    s.lockDenies 14 0x40F00000 = false →
    2 ≤ s.debugLevel →
    s.dbgGroup = g →
    s.dbgHalted g = true →
    v.toNat.testBit 8 = false →
    v.toNat % 64 < 32 →
    s.get (LS_STAT_ACTIVE g) = 7 →
    x ≠ 0 →
    ∃ t, exec (.dbgRegAccess 14 v x 0) s = .next t ∧ t.rd DBG_REG_DATA = s.rg g (BitVec.ofNat 5 (v.toNat % 64)) ∧ (t.get (LS_STAT_EJECTED g)).testBit 1 = true ∧ (t.get (LS_STAT_ACTIVE g)).testBit 1 = false ∧ (t.core g).gpr = (s.core g).gpr)

/-- A register write by a master is refused, discarded, rejected, staged, locked or made as the word's fields say (R4, R11, R12,
R46, R314, R316). It says that exec of registerWrite completes with a next state, for every state and operands that meet
hypotheses on these alone. -/
def Obligations.RegisterWritesFollowTheirFields : Prop :=
  (∀ (s : State) (off : Nat) (m : Master) (v : Word),
    off % 4 ≠ 0 ∨ 0x1000000 ≤ off →
    exec (.registerWrite off m v) s = .next (s)) ∧
  (∀ (s : State) (off : Nat) (m : Master) (v : Word),
    off % 4 = 0 →
    off < 0x1000000 →
    off / 0x10000 ≠ 0xF0 →
    ¬ (isMpuCtl (off - lsgBase m) = true ∧ m.val < 8 ∧ lsgBase m ≤ off) →
    s.lockDenies m (0x40000000 + off) = true →
    exec (.registerWrite off m v) s = .next (s.deniedBy m off)) ∧
  (∀ (s : State) (off : Nat) (m : Master) (v : Word),
    off % 4 = 0 →
    off < 0x1000000 →
    off / 0x10000 ≠ 0xF0 →
    ¬ (isMpuCtl (off - lsgBase m) = true ∧ m.val < 8 ∧ lsgBase m ≤ off) →
    s.lockDenies m (0x40000000 + off) = false →
    inBlocks off = false →
    exec (.registerWrite off m v) s = .next (s.storeError m off)) ∧
  (∀ (s : State) (off : Nat) (m : Master) (v : Word),
    off % 4 = 0 →
    off < 0x1000000 →
    off / 0x10000 ≠ 0xF0 →
    ¬ (isMpuCtl (off - lsgBase m) = true ∧ m.val < 8 ∧ lsgBase m ≤ off) →
    s.lockDenies m (0x40000000 + off) = false →
    inBlocks off = true →
    absentAt s.part off = true ∨ regRow off = none →
    exec (.registerWrite off m v) s = .next (s)) ∧
  (∀ (s : State) (off : Nat) (m : Master) (v : Word) (r : RegRow),
    off % 4 = 0 →
    off < 0x1000000 →
    off / 0x10000 ≠ 0xF0 →
    ¬ (isMpuCtl (off - lsgBase m) = true ∧ m.val < 8 ∧ lsgBase m ≤ off) →
    s.lockDenies m (0x40000000 + off) = false →
    inBlocks off = true →
    absentAt s.part off = false →
    regRow off = some r →
    s.mayWrite m off v = false →
    exec (.registerWrite off m v) s = .next (s.refusedBy m off)) ∧
  (∀ (s : State) (off : Nat) (m : Master) (v : Word) (r : RegRow),
    off % 4 = 0 →
    off < 0x1000000 →
    off / 0x10000 ≠ 0xF0 →
    ¬ (isMpuCtl (off - lsgBase m) = true ∧ m.val < 8 ∧ lsgBase m ≤ off) →
    s.lockDenies m (0x40000000 + off) = false →
    inBlocks off = true →
    absentAt s.part off = false →
    regRow off = some r →
    s.mayWrite m off v = true →
    off < 0x910800 ∨ 0x911000 ≤ off →
    s.regAct m off v = none →
    r.rwl = 0 →
    r.staged = 0 →
    s.rangeOk off v = true →
    s.stages m off v r = false →
    ∃ t, exec (.registerWrite off m v) s = .next t ∧ t.rd off = (s.rd off &&& ~~~(BitVec.ofNat 32 r.rw) &&& ~~~(v &&& BitVec.ofNat 32 r.w1c)) ||| (v &&& BitVec.ofNat 32 r.rw) ∧ (∀ o, o ≠ off → t.rd o = s.rd o) ∧ t.stage = s.stage ∧ t.mem = s.mem ∧ t.cores = s.cores) ∧
  (∀ (s : State) (off : Nat) (m : Master) (v : Word) (r : RegRow),
    off % 4 = 0 →
    off < 0x1000000 →
    off / 0x10000 ≠ 0xF0 →
    ¬ (isMpuCtl (off - lsgBase m) = true ∧ m.val < 8 ∧ lsgBase m ≤ off) →
    s.lockDenies m (0x40000000 + off) = false →
    inBlocks off = true →
    absentAt s.part off = false →
    regRow off = some r →
    s.mayWrite m off v = true →
    off < 0x910800 ∨ 0x911000 ≤ off →
    s.regAct m off v = none →
    r.rwl = 0 →
    s.rangeOk off v = false →
    s.stages m off v r = false ∨ s.stagedNext < 1024 →
    exec (.registerWrite off m v) s = .next (s.rejectAt off)) ∧
  (∀ (s : State) (off : Nat) (m : Master) (v : Word) (r : RegRow),
    off % 4 = 0 →
    off < 0x1000000 →
    off / 0x10000 ≠ 0xF0 →
    ¬ (isMpuCtl (off - lsgBase m) = true ∧ m.val < 8 ∧ lsgBase m ≤ off) →
    s.lockDenies m (0x40000000 + off) = false →
    inBlocks off = true →
    absentAt s.part off = false →
    regRow off = some r →
    s.mayWrite m off v = true →
    off < 0x910800 ∨ 0x911000 ≤ off →
    s.regAct m off v = none →
    r.rwl = 0 →
    BitVec.ofNat 32 r.rw &&& ~~~(BitVec.ofNat 32 r.staged) = 0 →
    BitVec.ofNat 32 r.staged ≠ 0 →
    r.w1c = 0 →
    isFirewall off = false →
    s.rangeOk off v = true →
    s.stagedVal off = none →
    s.stage.find? (fun e => e.off = off) = none →
    s.stagedNext < 1024 →
    ∃ t, exec (.registerWrite off m v) s = .next t ∧ t.stage = s.stage ++ [⟨off, v &&& BitVec.ofNat 32 r.staged, m, s.stagings⟩] ∧ (∀ o, t.rd o = s.rd o) ∧ t.mem = s.mem ∧ t.cores = s.cores) ∧
  (∀ (s : State) (off : Nat) (m : Master) (v : Word) (r : RegRow),
    off % 4 = 0 →
    off < 0x1000000 →
    off / 0x10000 ≠ 0xF0 →
    ¬ (isMpuCtl (off - lsgBase m) = true ∧ m.val < 8 ∧ lsgBase m ≤ off) →
    s.lockDenies m (0x40000000 + off) = false →
    inBlocks off = true →
    absentAt s.part off = false →
    regRow off = some r →
    s.mayWrite m off v = true →
    off < 0x910800 ∨ 0x911000 ≤ off →
    s.stages m off v r = true →
    s.stagedVal off = none →
    1024 ≤ s.stagedNext →
    exec (.registerWrite off m v) s = .next ((s.putFlag TB_STAT_CFG_REJ true).storeError m off)) ∧
  (∀ (s : State) (off : Nat) (m : Master) (v : Word) (r : RegRow),
    off % 4 = 0 →
    off < 0x1000000 →
    off / 0x10000 ≠ 0xF0 →
    ¬ (isMpuCtl (off - lsgBase m) = true ∧ m.val < 8 ∧ lsgBase m ≤ off) →
    s.lockDenies m (0x40000000 + off) = false →
    inBlocks off = true →
    absentAt s.part off = false →
    regRow off = some r →
    s.mayWrite m off v = true →
    off < 0x910800 ∨ 0x911000 ≤ off →
    s.regAct m off v = none →
    r.rwl ≠ 0 →
    s.locked.contains off = true →
    s.stages m off v r = false →
    ∃ t, exec (.registerWrite off m v) s = .next t ∧ t.rd off = s.rd off ∧ t.get DEV_RWL_VIOL_CNT = min (s.get (DEV_RWL_VIOL_CNT) + 1) (2 ^ (DEV_RWL_VIOL_CNT).width - 1) ∧ t.rd DEV_RWL_LAST = BitVec.ofNat 32 (off + m.val * 2 ^ 28) ∧ t.locked = s.locked ∧ t.stage = s.stage ∧ t.mem = s.mem) ∧
  (∀ (s : State) (off : Nat) (m : Master) (v : Word) (r : RegRow),
    off % 4 = 0 →
    off < 0x1000000 →
    off / 0x10000 ≠ 0xF0 →
    ¬ (isMpuCtl (off - lsgBase m) = true ∧ m.val < 8 ∧ lsgBase m ≤ off) →
    s.lockDenies m (0x40000000 + off) = false →
    inBlocks off = true →
    absentAt s.part off = false →
    regRow off = some r →
    s.mayWrite m off v = true →
    off < 0x910800 ∨ 0x911000 ≤ off →
    s.regAct m off v = none →
    r.rwl ≠ 0 →
    s.locked.contains off = false →
    s.rangeOk off v = true →
    isFirewall off = false →
    s.stages m off v r = false →
    ∃ t, exec (.registerWrite off m v) s = .next t ∧ t.rd off = v &&& BitVec.ofNat 32 r.rwl ∧ t.locked.contains off = true ∧ (∀ o, o ≠ off → t.rd o = s.rd o) ∧ t.stage = s.stage ∧ t.mem = s.mem) ∧
  (∀ (s : State) (g : Group) (off : Nat) (v : Word) (r : RegRow),
    off % 4 = 0 →
    off < 0x1000000 →
    lsgBase g ≤ off →
    isMpuCtl (off - lsgBase g) = true →
    absentAt s.part off = false →
    s.lockDenies g.val (0x40000000 + off) = false →
    regRow off = some r →
    (s.mpuBad g (off - lsgBase g) (v &&& BitVec.ofNat 32 r.rw) = false → exec (.registerWrite off (toIx 16 g.val) v) s = .next (s.onCore g (fun c => { c with shadow := c.shadow ++ [⟨.mpu (off - lsgBase g), v &&& BitVec.ofNat 32 r.rw, 3⟩] }))) ∧
    (s.mpuBad g (off - lsgBase g) (v &&& BitVec.ofNat 32 r.rw) = true → s.atBoundary g = false → ∃ t, exec (.registerWrite off (toIx 16 g.val) v) s = .next t ∧ t.get (MPU_REFUSE_CNT_CNT g) = min (s.get (MPU_REFUSE_CNT_CNT g) + 1) (2 ^ (MPU_REFUSE_CNT_CNT g).width - 1) ∧ t.flag (MPU_STAT_REFUSED g) = true ∧ (t.core g).due = (s.core g).due ++ [(.mpuCfg, BitVec.ofNat 32 (0x40000000 + off))] ∧ (∀ k, t.region g k = s.region g k)))

/-- A command that writes a register is denied by a region locked against its master, and discarded at an absent instance (R4, R316,
R320, R482). -/
def Obligations.ALockedOrAbsentRegisterIsNotWritten : Prop :=
  (∀ (s : State) (c : Instr) (m : Master) (off : Nat),
    registerOf c = some (m, off) →
    s.lockDenies m (0x40000000 + off) = true →
    exec c s = .next (s.deniedBy m off)) ∧
  (∀ (s : State) (c : Instr) (m : Master) (off : Nat),
    registerOf c = some (m, off) →
    s.lockDenies m (0x40000000 + off) = false →
    absentAt s.part off = true →
    exec c s = .next s)

/-- TW_FIRE, TW_PLACE, TW_CMD and TW_DIGEST messages of the peer give the follower its boundaries, placement, chains and
comparisons; their absence is noticed (R443, R446, R448, R449, R450, R451). It says that exec of twFireReceive, twFireLost,
twPlaceReceive, twPlaceLate, twCmdReceive, twCmdAck, twDigestFinalise, twDigestReceive, twDigestMissing each completes with a
next state, for every state and operands that meet hypotheses on these alone. -/
def Obligations.TheFollowerKeepsInStep : Prop :=
  (∀ (s : State) (n : Lane) (m : RxMsg),
    s.isPeer n = true →
    s.rxFront n 0x20 = some m →
    s.follows = true ∨ s.joinsAt (field m.bytes 8 8) = true →
    s.rd64 TB_BTT + s.get TB_FMIN_FMIN ≤ s.tt + 2500 →
    exec (.twFireReceive n) s = .next ((s.rxPop n).onTw (fun t => { t with fire := some ⟨field m.bytes 8 8, field m.bytes 24 1, field m.bytes 25 1⟩ }))) ∧
  (∀ (s : State) (n : Lane) (m : RxMsg),
    s.isPeer n = true →
    s.rxFront n 0x20 = some m →
    (s.follows = false ∧ s.joinsAt (field m.bytes 8 8) = false) ∨ s.tt + 2500 < s.rd64 TB_BTT + s.get TB_FMIN_FMIN →
    exec (.twFireReceive n) s = .next (s.rxPop n)) ∧
  (∀ (s : State) (n : Lane),
    s.isPeer n = false ∨ s.rxFront n 0x20 = none →
    exec (.twFireReceive n) s = .next (s)) ∧
  (∀ (s : State),
    s.follows = true →
    s.tw.fire = none →
    s.tw.fireLost = false →
    s.kiln.running = true →
    (match s.kiln.src with | c :: _ => c.tt | [] => s.rd64 TB_BTT + s.get TB_FMAX_FMAX) + s.get TW_FIRE_TO_US * 1250 ≤ s.tt →
    exec (.twFireLost) s = .next (((s.onTw (fun t => { t with fireLost := true })).raise F_TW_FIRE_LOST 0).bump TW_FIRE_LOST_CNT_CNT)) ∧
  (∀ (s : State),
    s.follows = false ∨ s.tw.fire ≠ none ∨ s.tw.fireLost = true ∨ s.kiln.running = false ∨ s.tt < (match s.kiln.src with | c :: _ => c.tt | [] => s.rd64 TB_BTT + s.get TB_FMAX_FMAX) + s.get TW_FIRE_TO_US * 1250 →
    exec (.twFireLost) s = .next (s)) ∧
  (∀ (s : State) (n : Lane) (m : RxMsg),
    s.isPeer n = true →
    s.rxFront n 0x22 = some m →
    s.role = 1 →
    field m.bytes 18 1 % 2 = 0 →
    exec (.twPlaceReceive n) s = .next ((s.rxPop n).onTw (fun t => { t with places := t.places ++ (List.range (field m.bytes 16 2)).map (fun i => ⟨field m.bytes 8 8, field m.bytes (24 + 16 * i) 1, field m.bytes (25 + 16 * i) 1, field m.bytes (26 + 16 * i) 2, signedOf 64 (field m.bytes (32 + 16 * i) 8)⟩) }))) ∧
  (∀ (s : State) (n : Lane) (m : RxMsg),
    s.isPeer n = true →
    s.rxFront n 0x22 = some m →
    s.role = 1 →
    field m.bytes 18 1 % 2 = 1 →
    s.flag TE_CTRL_EN = true →
    field m.bytes 8 8 + 2 ≤ s.fn →
    s.te.sealedTo < field m.bytes 8 8 →
    ∃ t, exec (.twPlaceReceive n) s = .next t ∧ t.te.sealedTo = field m.bytes 8 8 ∧ t.te.batches.length = s.te.batches.length + 1 ∧ t.te.batches.getLast?.map (fun b => b.fn) = some (field m.bytes 8 8) ∧ t.fn = s.fn ∧ t.cores = s.cores) ∧
  (∀ (s : State) (n : Lane) (m : RxMsg),
    s.isPeer n = true →
    s.rxFront n 0x22 = some m →
    s.role ≠ 1 →
    exec (.twPlaceReceive n) s = .next (s.rxPop n)) ∧
  (∀ (s : State) (n : Lane),
    s.isPeer n = false ∨ s.rxFront n 0x22 = none →
    exec (.twPlaceReceive n) s = .next (s)) ∧
  (∀ (s : State),
    s.role = 1 →
    s.flag TE_CTRL_EN = true →
    3 ≤ s.fn →
    s.te.sealedTo < s.fn - 2 →
    s.tw.placed.contains (s.fn - 2) = false →
    s.rd64 TB_BTT + 260 + 25000 ≤ s.tt →
    ∃ t, exec (.twPlaceLate) s = .next t ∧ t.role = 3 ∧ t.flag TW_STAT_INSTEP = false ∧ t.te.sealedTo = s.fn - 2 ∧ (⟨F_TW_PLACE_LATE, (s.fn - 2) % 2 ^ 32, false, 0, s.tt⟩ : FaultIn) ∈ t.fcuIn ∧ t.fn = s.fn ∧ t.cores = s.cores) ∧
  (∀ (s : State),
    s.role ≠ 1 →
    exec (.twPlaceLate) s = .next (s)) ∧
  (∀ (s : State) (n : Lane) (m : RxMsg),
    s.isPeer n = true →
    s.rxFront n 0x23 = some m →
    s.role = 1 →
    ∃ t, exec (.twCmdReceive n) s = .next t ∧ t.chains.dropLast = s.chains ∧ t.chains.getLast?.map (fun c => (c.fn, c.cmds, c.q, c.imm)) = some (field m.bytes 8 8, (List.range (field m.bytes 16 1)).map (fun i => (m.bytes.drop (24 + 64 * i)).take 64), none, (field m.bytes 17 1).testBit 0) ∧ t.stagings = s.stagings + 1 ∧ t.stage = s.stage ∧ (t.lane n).rx = (s.lane n).rx.drop 1 ∧ (∀ k : Lane, k ≠ n → (t.lane k).rx = (s.lane k).rx) ∧ t.mem = s.mem ∧ t.cores = s.cores) ∧
  (∀ (s : State) (n : Lane) (m : RxMsg),
    s.isPeer n = true →
    s.rxFront n 0x23 = some m →
    s.role ≠ 1 →
    exec (.twCmdReceive n) s = .next (s.rxPop n)) ∧
  (∀ (s : State) (n : Lane),
    s.isPeer n = false ∨ s.rxFront n 0x23 = none →
    exec (.twCmdReceive n) s = .next (s)) ∧
  (∀ (s : State) (n : Lane) (b : Bytes),
    s.twCtrl n 5 = some b →
    exec (.twCmdAck n) s = .next (((s.rxPop n).put TW_EPOCH_PEER_MAX (field b 22 2)).raiseSrc 453)) ∧
  (∀ (s : State) (p : DigestPart) (l : List DigestPart),
    s.tw.parts = p :: l →
    p.due ≤ s.tt →
    s.batchOpen (p.fn - 2) = false →
    lookup s.tw.peer p.fn = none →
    ∃ t, exec (.twDigestFinalise) s = .next t ∧ t.tw.parts = l ∧ lookup t.tw.own p.fn = some (s.digestOf p) ∧ t.tw.peer = s.tw.peer ∧ t.role = s.role ∧ t.flag TW_STAT_INSTEP = s.flag TW_STAT_INSTEP ∧ t.mem = s.mem ∧ t.cores = s.cores) ∧
  (∀ (s : State),
    s.tw.parts = [] →
    exec (.twDigestFinalise) s = .next (s)) ∧
  (∀ (s : State) (p : DigestPart) (l : List DigestPart),
    s.tw.parts = p :: l →
    s.tt < p.due ∨ s.batchOpen (p.fn - 2) = true →
    exec (.twDigestFinalise) s = .next (s)) ∧
  (∀ (s : State) (n : Lane) (m : RxMsg) (x : Nat),
    s.isPeer n = true →
    s.rxFront n 0x21 = some m →
    s.tw.from_ = some x →
    lookup s.tw.own (field m.bytes 8 8) = none →
    exec (.twDigestReceive n) s = .next ((s.rxPop n).onTw (fun t => { t with peer := putKey t.peer (field m.bytes 8 8) ((m.bytes.drop 24).take 64) }))) ∧
  (∀ (s : State) (n : Lane) (m : RxMsg) (x : Nat) (d : Bytes),
    s.isPeer n = true →
    s.rxFront n 0x21 = some m →
    s.tw.from_ = some x →
    lookup s.tw.own (field m.bytes 8 8) = some d →
    d = (m.bytes.drop 24).take 64 →
    ∃ t, exec (.twDigestReceive n) s = .next t ∧ t.get TW_MISS_RUN_N = 0 ∧ t.rd64 TW_CMP_FN = field m.bytes 8 8 ∧ 448 ∈ t.srcIn ∧ t.tw.equal = s.tw.equal + 1 ∧ t.get TW_DIV_CNT_CNT = s.get TW_DIV_CNT_CNT ∧ t.role = s.role ∧ t.mem = s.mem ∧ t.cores = s.cores) ∧
  (∀ (s : State) (n : Lane) (m : RxMsg) (x : Nat) (d : Bytes),
    s.isPeer n = true →
    s.rxFront n 0x21 = some m →
    s.tw.from_ = some x →
    lookup s.tw.own (field m.bytes 8 8) = some d →
    d ≠ (m.bytes.drop 24).take 64 →
    ∃ t, exec (.twDigestReceive n) s = .next t ∧ t.get TW_DIV_CNT_CNT = min (s.get (TW_DIV_CNT_CNT) + 1) (2 ^ (TW_DIV_CNT_CNT).width - 1) ∧ (⟨F_TW_DIVERGE, (field m.bytes 8 8) % 2 ^ 32, false, 0, s.tt⟩ : FaultIn) ∈ t.fcuIn ∧ 449 ∈ t.srcIn ∧ t.flag TW_STAT_INSTEP = false ∧ (s.flag TW_STAT_INSTEP = true → t.role = if s.role = 0 then 0 else 3) ∧ t.mem = s.mem) ∧
  (∀ (s : State) (n : Lane),
    s.isPeer n = false ∨ s.rxFront n 0x21 = none →
    exec (.twDigestReceive n) s = .next (s)) ∧
  (∀ (s : State) (x t0 : Nat) (l : List (Nat × Nat)),
    s.tw.due = (x, t0) :: l →
    t0 + 480 + s.get TW_DIG_TO_US * 1250 < s.tt →
    lookup s.tw.peer x = none →
    ∃ t, exec (.twDigestMissing) s = .next t ∧ t.get TW_MISS_RUN_N = min (s.get (TW_MISS_RUN_N) + 1) (2 ^ (TW_MISS_RUN_N).width - 1) ∧ (s.get TW_MISS_RUN_N ≠ 2 → t.tw.due = l ∧ t.role = s.role ∧ t.fcuIn = s.fcuIn) ∧ (s.get TW_MISS_RUN_N = 2 → (⟨F_TW_PEER_LOST, 0, false, 0, s.tt⟩ : FaultIn) ∈ t.fcuIn ∧ t.flag TW_STAT_INSTEP = false ∧ t.role = s.role ∧ (s.role ≠ 0 → t.tw.leadDue = true ∧ t.tw.takeover = true)) ∧ t.mem = s.mem ∧ t.cores = s.cores) ∧
  (∀ (s : State),
    s.tw.due = [] →
    exec (.twDigestMissing) s = .next (s))

/-- HELLO decides the roles, a joiner takes the transfer and the leader sends it, leadership is relinquished, and a join that fails
is tried again (R443, R444, R446, R452, R453, R454). It says that exec of twHello, twJoinAck, twXferReceive, twXferDone,
twXferSend, twRelinquish, twLeave, twCmdAck, twJoinFail, twJoinRetry each completes with a next state, for every state and
operands that meet hypotheses on these alone. -/
def Obligations.TheTwinJoinsAndCedes : Prop :=
  (∀ (s : State) (n : Lane),
    s.flag TW_CFG_EN = true →
    s.isPeer n = true →
    s.laneSt n = laneActive →
    s.flag (HL_STAT_SYNCED n) = true →
    s.twCtrl n 1 = none →
    exec (.twHello n false false) s = .next (if s.tw.hello then s else (s.sendTwCtrl 1 s.fn).onTw (fun t => { t with hello := true })) ∧ exec (.twHello n true true) s = exec (.twHello n false false) s) ∧
  (∀ (s : State) (n : Lane) (b : Bytes) (primary : Bool),
    s.flag TW_CFG_EN = true →
    s.isPeer n = true →
    s.laneSt n = laneActive →
    s.flag (HL_STAT_SYNCED n) = true →
    s.twCtrl n 1 = some b →
    s.role = 3 →
    s.mode = modeStandby →
    ∃ t, exec (.twHello n true primary) s = .next t ∧ t.role = 2 ∧ t.tw.join.map (fun j => (j.start, j.lane, j.at_, j.done)) = some (s.tt, n.val, none, none) ∧ t.get TW_EPOCH_PEER_MAX = field b 22 2 ∧ 453 ∈ t.srcIn ∧ 450 ∈ t.srcIn ∧ (t.lane n).rx = (s.lane n).rx.drop 1 ∧ t.mem = s.mem) ∧
  (∀ (s : State) (n : Lane) (b : Bytes),
    s.flag TW_CFG_EN = true →
    s.isPeer n = true →
    s.laneSt n = laneActive →
    s.flag (HL_STAT_SYNCED n) = true →
    s.twCtrl n 1 = some b →
    s.role = 3 →
    s.flag TW_CFG_PRIMARY = true →
    ∃ t, exec (.twHello n false false) s = .next t ∧ t.tw.leadDue = true ∧ t.tw.takeover = false ∧ t.role = 3 ∧ 453 ∈ t.srcIn ∧ t.fcuIn = s.fcuIn ∧ t.mem = s.mem ∧ t.cores = s.cores) ∧
  (∀ (s : State) (n : Lane) (b : Bytes) (primary : Bool),
    s.flag TW_CFG_EN = true →
    s.isPeer n = true →
    s.laneSt n = laneActive →
    s.flag (HL_STAT_SYNCED n) = true →
    s.twCtrl n 1 = some b →
    s.role = 0 →
    (∃ t, exec (.twHello n true primary) s = .next t ∧ t.fcuIn = s.fcuIn ++ [⟨F_TW_ROLE_CONFLICT, 0, false, 0, s.tt⟩] ∧ t.role = 0 ∧ 453 ∈ t.srcIn ∧ t.mem = s.mem) ∧ (∃ t, exec (.twHello n false primary) s = .next t ∧ t.tw.xfer = some { lane := n, at_ := s.fn + 1, last := s.tt } ∧ t.role = 0 ∧ 453 ∈ t.srcIn ∧ t.fcuIn = s.fcuIn ∧ t.mem = s.mem)) ∧
  (∀ (s : State) (n : Lane) (a b : Bool),
    s.flag TW_CFG_EN = false ∨ s.isPeer n = false →
    exec (.twHello n a b) s = .next (s)) ∧
  (∀ (s : State) (n : Lane) (b : Bytes) (j : Join),
    s.twCtrl n 2 = some b →
    s.tw.join = some j →
    s.role = 2 →
    exec (.twJoinAck n) s = .next ((((s.rxPop n).put TW_EPOCH_PEER_MAX (field b 22 2)).raiseSrc 453).onTw (fun t => { t with join := some { j with lane := n, epoch := field b 20 2, at_ := if field b 20 2 ≤ s.get SG_EPOCH_MAX_EPOCH then some (field b 12 8) else none } }))) ∧
  (∀ (s : State) (n : Lane) (m : RxMsg) (j : Join),
    s.isPeer n = true →
    s.rxFront n 0x25 = some m →
    s.tw.join = some j →
    s.role = 2 →
    j.at_.isSome = true →
    1 ≤ field m.bytes 8 1 →
    field m.bytes 8 1 ≤ 4 →
    exec (.twXferReceive n) s = .next ((s.rxPop n).onTw (fun t => { t with join := some { j with images := putKey j.images (field m.bytes 8 1) (patch ((lookup j.images (field m.bytes 8 1)).getD []) (field m.bytes 12 4) ((m.bytes.drop 24).take (m.bytes.length - 32))) } }))) ∧
  (∀ (s : State) (n : Lane) (m : RxMsg) (j : Join) (a : Nat) (d : Bytes),
    s.isPeer n = true →
    s.rxFront n 0x25 = some m →
    s.tw.join = some j →
    s.role = 2 →
    j.at_.isSome = true →
    a = (if field m.bytes 8 1 = 0 then trackBase else s.rd64 (TW_WIN_BASE (field m.bytes 8 1 - 5)) % 2 ^ 40) + field m.bytes 12 4 →
    d = (m.bytes.drop 24).take (m.bytes.length - 32) →
    field m.bytes 8 1 = 0 ∨ (5 ≤ field m.bytes 8 1 ∧ field m.bytes 8 1 ≤ 8) →
    s.prot.lat = [] →
    ∃ t, exec (.twXferReceive n) s = .next t ∧ t.bytes a d.length = d ∧ (∀ x, (x < a ∨ a + d.length ≤ x) → byteAt t.mem x = byteAt s.mem x) ∧ (t.lane n).rx = (s.lane n).rx.drop 1 ∧ t.tw = s.tw ∧ t.cores = s.cores) ∧
  (∀ (s : State) (n : Lane),
    s.isPeer n = false ∨ s.rxFront n 0x25 = none →
    exec (.twXferReceive n) s = .next (s)) ∧
  (∀ (s : State) (n : Lane) (b : Bytes) (j : Join) (k : Fin 8),
    s.twCtrl n 3 = some b →
    s.tw.join = some j →
    exec (.twXferDone n k) s = .next ((((s.rxPop n).put TW_EPOCH_PEER_MAX (field b 22 2)).raiseSrc 453).onTw (fun t => { t with join := some { j with done := some (field b 12 8, k.val) } }))) ∧
  (∀ (s : State) (x : Transfer),
    s.tw.xfer = some x →
    s.role = 0 →
    x.at_ ≤ s.fn →
    ¬ s.tt * s.get TW_XFER_RATE_MBS < x.last * s.get TW_XFER_RATE_MBS + x.size * 1250 →
    (s.nextFragment x = none → exec (.twXferSend) s = .next ((s.sendTwCtrl 3 (s.fn + 2)).onTw (fun t => { t with xfer := none, from_ := some (s.fn + 2), equal := 0 }))) ∧ (∃ t, exec (.twXferSend) s = .next t ∧ t.mem = s.mem ∧ t.cores = s.cores ∧ (((lookup x.sent 0).getD []).length < (s.part.tracks * 32) → t.tw.xfer = some { x with sent := putKey x.sent 0 (((lookup x.sent 0).getD []) ++ s.bytes (trackBase + ((lookup x.sent 0).getD []).length) (min 8192 ((s.part.tracks * 32) - ((lookup x.sent 0).getD []).length))), last := s.tt, size := min 8192 ((s.part.tracks * 32) - ((lookup x.sent 0).getD []).length) }))) ∧
  (∀ (s : State),
    s.tw.xfer = none ∨ s.role ≠ 0 ∨ ∃ x, s.tw.xfer = some x ∧ (s.fn < x.at_ ∨ s.tt * s.get TW_XFER_RATE_MBS < x.last * s.get TW_XFER_RATE_MBS + x.size * 1250) →
    exec (.twXferSend) s = .next (s)) ∧
  (∀ (s : State) (n : Lane) (b : Bytes),
    s.twCtrl n 4 = some b →
    exec (.twRelinquish n) s = .next (if s.role = 1 ∧ s.flag TW_STAT_INSTEP = true then (((s.rxPop n).put TW_EPOCH_PEER_MAX (field b 22 2)).raiseSrc 453).onTw (fun t => { t with leadDue := true, takeover := true }) else ((s.rxPop n).put TW_EPOCH_PEER_MAX (field b 22 2)).raiseSrc 453)) ∧
  (∀ (s : State) (n : Lane) (b : Bytes),
    s.twCtrl n 6 = some b →
    s.role = 0 →
    ∃ t, exec (.twLeave n) s = .next t ∧ t.flag TW_STAT_INSTEP = false ∧ t.role = 0 ∧ t.tw.xfer = none ∧ (⟨F_TW_PEER_LOST, 0, false, 0, s.tt⟩ : FaultIn) ∈ t.fcuIn ∧ 453 ∈ t.srcIn ∧ t.get TW_EPOCH_PEER_MAX = field b 22 2 ∧ t.mem = s.mem ∧ t.cores = s.cores) ∧
  (∀ (s : State) (n : Lane) (k : Fin 8),
    s.twCtrl n 2 = none →
    s.twCtrl n 3 = none →
    s.twCtrl n 4 = none →
    s.twCtrl n 5 = none →
    s.twCtrl n 6 = none →
    exec (.twJoinAck n) s = .next (s) ∧
    exec (.twXferDone n k) s = .next (s) ∧
    exec (.twRelinquish n) s = .next (s) ∧
    exec (.twCmdAck n) s = .next (s) ∧
    exec (.twLeave n) s = .next (s)) ∧
  (∀ (s : State) (j : Join) (w : JoinFail),
    s.tw.join = some j →
    s.role = 2 →
    (w = .epoch ∧ s.get SG_EPOCH_MAX_EPOCH < j.epoch) ∨ (w = .timeout ∧ j.start + 75000000000 ≤ s.tt) →
    ∃ t, exec (.twJoinFail w) s = .next t ∧ t.role = 3 ∧ t.tw.join = none ∧ t.tw.failTt = some s.tt ∧ (⟨F_TW_JOIN_FAIL, (if w = .epoch then 1 else 3), false, 0, s.tt⟩ : FaultIn) ∈ t.fcuIn ∧ 454 ∈ t.srcIn ∧ t.mem = s.mem ∧ t.cores = s.cores) ∧
  (∀ (s : State) (w : JoinFail),
    s.role ≠ 1 →
    s.role ≠ 2 →
    exec (.twJoinFail w) s = .next (s)) ∧
  (∀ (s : State),
    s.role = 1 →
    s.flag TW_STAT_INSTEP = false →
    s.tw.joinY + 1024 ≤ s.fn →
    ∃ t, exec (.twJoinFail .noStep) s = .next t ∧ t.role = 3 ∧ t.tw.failTt = some s.tt ∧ (⟨F_TW_JOIN_FAIL, 4, false, 0, s.tt⟩ : FaultIn) ∈ t.fcuIn ∧ t.mem = s.mem ∧ t.cores = s.cores) ∧
  (∀ (s : State) (n : Lane) (a : Nat),
    s.tw.failTt = some a →
    s.peerLane = some n →
    s.role = 3 →
    s.flag TW_CFG_EN = true →
    a + 1250000000 ≤ s.tt →
    s.mode = modeStandby →
    ∃ t, exec (.twJoinRetry) s = .next t ∧ t.role = 2 ∧ t.tw.join.map (fun j => (j.start, j.lane, j.at_)) = some (s.tt, n.val, none) ∧ t.tw.failTt = none ∧ 450 ∈ t.srcIn ∧ t.mem = s.mem) ∧
  (∀ (s : State),
    s.tw.failTt = none →
    exec (.twJoinRetry) s = .next (s))

/-- Doorbells, fetches, completion writes and messages move each queue pair, queue pairs are enabled and deleted, chains time out
and blobs are judged (R353, R354, R356, R357, R358, R359). It says that exec of hostSqDoorbell, hostCqDoorbell, hostPacketFetch,
hostCompletionWrite, msixMessage, msixVectorUnmask, hqEnable, hqDelete, mirrorWrite, chainTimeout, authCheckDone each completes
with a next state, for every state and operands that meet hypotheses on these alone. -/
def Obligations.HostQueuesMoveCommandsAndCompletions : Prop :=
  (∀ (s : State) (q : Queue) (f : Fin 2) (v : Word),
    s.flag HI_STAT_READY = true →
    qFunc q = f →
    s.flag (HQ_CTRL_EN q) = true →
    s.flag (HQ_STAT_RUN q) = true →
    v.toNat < (2 ^ s.get (HQ_SIZE_SQ_LOG2 q)) ∧ ((s.get (HQ_SQ_TAIL_IDX q) + (2 ^ s.get (HQ_SIZE_SQ_LOG2 q)) - s.get (HQ_SQ_HEAD_IDX q) % (2 ^ s.get (HQ_SIZE_SQ_LOG2 q))) % (2 ^ s.get (HQ_SIZE_SQ_LOG2 q))) + ((v.toNat + (2 ^ s.get (HQ_SIZE_SQ_LOG2 q)) - s.get (HQ_SQ_TAIL_IDX q) % (2 ^ s.get (HQ_SIZE_SQ_LOG2 q))) % (2 ^ s.get (HQ_SIZE_SQ_LOG2 q))) ≤ (2 ^ s.get (HQ_SIZE_SQ_LOG2 q)) - 1 →
    exec (.hostSqDoorbell q f v) s = .next ((s.onHost (fun h => { h with hbTt := s.tt, lost := false })).put (HQ_SQ_TAIL_IDX q) v.toNat)) ∧
  (∀ (s : State) (q : Queue) (f : Fin 2) (v : Word),
    s.flag HI_STAT_READY = true →
    qFunc q = f →
    s.flag (HQ_CTRL_EN q) = true →
    s.flag (HQ_STAT_RUN q) = true →
    ¬ (v.toNat < (2 ^ s.get (HQ_SIZE_SQ_LOG2 q)) ∧ ((s.get (HQ_SQ_TAIL_IDX q) + (2 ^ s.get (HQ_SIZE_SQ_LOG2 q)) - s.get (HQ_SQ_HEAD_IDX q) % (2 ^ s.get (HQ_SIZE_SQ_LOG2 q))) % (2 ^ s.get (HQ_SIZE_SQ_LOG2 q))) + ((v.toNat + (2 ^ s.get (HQ_SIZE_SQ_LOG2 q)) - s.get (HQ_SQ_TAIL_IDX q) % (2 ^ s.get (HQ_SIZE_SQ_LOG2 q))) % (2 ^ s.get (HQ_SIZE_SQ_LOG2 q))) ≤ (2 ^ s.get (HQ_SIZE_SQ_LOG2 q)) - 1) →
    ∃ t, exec (.hostSqDoorbell q f v) s = .next t ∧ t.get (HQ_SQ_TAIL_IDX q) = s.get (HQ_SQ_TAIL_IDX q) ∧ t.flag (HQ_STAT_ERR q) = true ∧ t.flag (HQ_STAT_RUN q) = false ∧ t.fcuIn = s.fcuIn ++ [⟨F_HI_DOORBELL, q.val, false, 0, s.tt⟩] ∧ t.mem = s.mem) ∧
  (∀ (s : State) (q : Queue) (f : Fin 2) (v : Word),
    s.flag HI_STAT_READY = true →
    qFunc q = f →
    s.flag (HQ_CTRL_EN q) = true →
    s.flag (HQ_STAT_RUN q) = true →
    v.toNat < (2 ^ s.get (HQ_SIZE_CQ_LOG2 q)) ∧ ((v.toNat + (2 ^ s.get (HQ_SIZE_CQ_LOG2 q)) - s.get (HQ_CQ_HEAD_IDX q) % (2 ^ s.get (HQ_SIZE_CQ_LOG2 q))) % (2 ^ s.get (HQ_SIZE_CQ_LOG2 q))) ≤ ((s.get (HQ_CQ_TAIL_IDX q) + (2 ^ s.get (HQ_SIZE_CQ_LOG2 q)) - s.get (HQ_CQ_HEAD_IDX q) % (2 ^ s.get (HQ_SIZE_CQ_LOG2 q))) % (2 ^ s.get (HQ_SIZE_CQ_LOG2 q))) →
    exec (.hostCqDoorbell q f v) s = .next ((s.onHost (fun h => { h with hbTt := s.tt, lost := false })).put (HQ_CQ_HEAD_IDX q) v.toNat)) ∧
  (∀ (s : State) (q : Queue) (f : Fin 2) (v : Word),
    s.flag HI_STAT_READY = true →
    qFunc q = f →
    s.flag (HQ_CTRL_EN q) = true →
    s.flag (HQ_STAT_RUN q) = true →
    ¬ (v.toNat < (2 ^ s.get (HQ_SIZE_CQ_LOG2 q)) ∧ ((v.toNat + (2 ^ s.get (HQ_SIZE_CQ_LOG2 q)) - s.get (HQ_CQ_HEAD_IDX q) % (2 ^ s.get (HQ_SIZE_CQ_LOG2 q))) % (2 ^ s.get (HQ_SIZE_CQ_LOG2 q))) ≤ ((s.get (HQ_CQ_TAIL_IDX q) + (2 ^ s.get (HQ_SIZE_CQ_LOG2 q)) - s.get (HQ_CQ_HEAD_IDX q) % (2 ^ s.get (HQ_SIZE_CQ_LOG2 q))) % (2 ^ s.get (HQ_SIZE_CQ_LOG2 q)))) →
    ∃ t, exec (.hostCqDoorbell q f v) s = .next t ∧ t.get (HQ_CQ_HEAD_IDX q) = s.get (HQ_CQ_HEAD_IDX q) ∧ t.flag (HQ_STAT_ERR q) = true ∧ t.flag (HQ_STAT_RUN q) = false ∧ t.fcuIn = s.fcuIn ++ [⟨F_HI_DOORBELL, q.val, false, 0, s.tt⟩] ∧ t.mem = s.mem) ∧
  (∀ (s : State) (q : Queue) (f : Fin 2) (v : Word),
    s.flag HI_STAT_READY = true →
    qFunc q ≠ f ∨ s.flag (HQ_CTRL_EN q) = false →
    (∃ t, exec (.hostSqDoorbell q f v) s = .next t ∧ t.get (HQ_SQ_TAIL_IDX q) = s.get (HQ_SQ_TAIL_IDX q) ∧ t.get (HQ_CQ_HEAD_IDX q) = s.get (HQ_CQ_HEAD_IDX q) ∧ t.get HI_MIRROR_WREJ_CNT = min (s.get (HI_MIRROR_WREJ_CNT) + 1) (2 ^ (HI_MIRROR_WREJ_CNT).width - 1) ∧ t.fcuIn = s.fcuIn ++ [⟨F_HI_MIRROR_WREJ, f.val, false, 0, s.tt⟩] ∧ t.flag HI_ISR_MIRROR_WREJ = true ∧ t.mem = s.mem ∧ t.cores = s.cores) ∧
    (∃ t, exec (.hostCqDoorbell q f v) s = .next t ∧ t.get (HQ_SQ_TAIL_IDX q) = s.get (HQ_SQ_TAIL_IDX q) ∧ t.get (HQ_CQ_HEAD_IDX q) = s.get (HQ_CQ_HEAD_IDX q) ∧ t.get HI_MIRROR_WREJ_CNT = min (s.get (HI_MIRROR_WREJ_CNT) + 1) (2 ^ (HI_MIRROR_WREJ_CNT).width - 1) ∧ t.fcuIn = s.fcuIn ++ [⟨F_HI_MIRROR_WREJ, f.val, false, 0, s.tt⟩] ∧ t.flag HI_ISR_MIRROR_WREJ = true ∧ t.mem = s.mem ∧ t.cores = s.cores)) ∧
  (∀ (s : State) (q : Queue) (b : Bytes),
    s.fetchTurn = some q.val →
    (∃ t, exec (.hostPacketFetch q (some b)) s = .next t ∧ (t.hq q).inbox = (s.hq q).inbox ++ [(b ++ List.replicate 64 0).take 64] ∧ (t.hq q).resv = (s.hq q).resv + 1 ∧ (t.hq q).chainTt = (if (s.hq q).mid = true then (s.hq q).chainTt else s.tt) ∧ t.get (HQ_SQ_HEAD_IDX q) = (s.get (HQ_SQ_HEAD_IDX q) + 1) % (2 ^ s.get (HQ_SIZE_SQ_LOG2 q)) % 4096 ∧ (∀ k : Queue, k ≠ q → t.hq k = s.hq k) ∧ t.mem = s.mem ∧ t.cores = s.cores) ∧ (∃ t, exec (.hostPacketFetch q none) s = .next t ∧ t.flag (HQ_STAT_ERR q) = true ∧ t.flag (HQ_STAT_RUN q) = false ∧ t.flag HI_ISR_DMA_ERR = true ∧ t.fcuIn = s.fcuIn ++ [⟨F_HI_DMA_ERR, q.val, false, 0, s.tt⟩] ∧ t.hq q = s.hq q ∧ t.mem = s.mem)) ∧
  (∀ (s : State) (q : Queue) (p : Option Bytes),
    s.fetchTurn ≠ some q.val →
    exec (.hostPacketFetch q p) s = .next (s)) ∧
  (∀ (s : State) (q : Queue) (c : Cpl) (l : List Cpl),
    s.canWrite q = true →
    (s.hq q).ready = c :: l →
    ∃ t, exec (.hostCompletionWrite q) s = .next t ∧ t.host.out = s.host.out ++ [(s.rd64 (HQ_CQ_BASE q) / 4096 * 4096 + 32 * s.get (HQ_CQ_TAIL_IDX q), natLe 4 c.tag ++ natLe 2 c.status ++ natLe 1 ((if s.flag (HQ_CQ_TAIL_PHASE q) then 1 else 0) + (if c.chain then 2 else 0) + (if c.held then 4 else 0)) ++ natLe 1 q.val ++ natLe 8 c.cfn ++ (c.result ++ List.replicate 16 0).take 16)] ∧ (t.hq q).ready = l ∧ (t.hq q).resv = (s.hq q).resv - 1 ∧ t.get HI_CMD_CNT_CNT = min (s.get (HI_CMD_CNT_CNT) + 1) (2 ^ (HI_CMD_CNT_CNT).width - 1) ∧ t.flag (HQ_CQ_TAIL_PHASE q) = (s.flag (HQ_CQ_TAIL_PHASE q) != decide (s.get (HQ_CQ_TAIL_IDX q) + 1 = (2 ^ s.get (HQ_SIZE_CQ_LOG2 q)))) ∧ (∀ k : Queue, k ≠ q → t.hq k = s.hq k) ∧ t.mem = s.mem ∧ t.cores = s.cores) ∧
  (∀ (s : State) (q : Queue),
    s.canWrite q = false ∨ (s.hq q).ready = [] →
    exec (.hostCompletionWrite q) s = .next (s)) ∧
  (∀ (s : State) (q : Queue) (f : Fin 2) (v : Byte),
    qFunc q = f →
    s.get (HQ_VEC_VEC q) = v.toNat →
    s.cqDue q = true →
    ∃ t, exec (.msixMessage f v) s = .next t ∧ t.get (HQ_UNSIG_N q) = 0 ∧ (if s.vecMasked f v.toNat = true ∨ s.holdsCpl f = true then t.host.msgs = s.host.msgs ∧ t.host.pba.contains (256 * f.val + v.toNat) = true else t.host.msgs = s.host.msgs ++ [(f.val, v.toNat)]) ∧ t.host.out = s.host.out ∧ t.mem = s.mem ∧ t.cores = s.cores) ∧
  (∀ (s : State) (f : Fin 2) (v : Byte),
    ∀ q : Queue, qFunc q = f → s.get (HQ_VEC_VEC q) = v.toNat → s.cqDue q = false →
    v ≠ 0 ∨ s.host.isrDue.get f = false →
    exec (.msixMessage f v) s = .next (s)) ∧
  (∀ (s : State) (f : Fin 2) (v : Byte),
    ∃ t, exec (.msixVectorUnmask f v) s = .next t ∧ t.vecMasked f v.toNat = false ∧ (if s.host.pba.contains (256 * f.val + v.toNat) = true ∧ s.holdsCpl f = false then t.host.msgs = s.host.msgs ++ [(f.val, v.toNat)] ∧ t.host.pba.contains (256 * f.val + v.toNat) = false else t.host.msgs = s.host.msgs ∧ t.host.pba = s.host.pba) ∧ (∀ off, off ≠ HI_STAT_LPM.off → t.rd off = s.rd off) ∧ t.mem = s.mem ∧ t.cores = s.cores) ∧
  (∀ (s : State) (q : Queue) (w : HqWriter),
    w = .master0 ∨ w = .func (qFunc q) →
    s.flag (HQ_CTRL_EN q) = false →
    s.flag HI_STAT_READY = true →
    4 ≤ s.get (HQ_SIZE_SQ_LOG2 q) ∧ s.get (HQ_SIZE_SQ_LOG2 q) ≤ 12 →
    4 ≤ s.get (HQ_SIZE_CQ_LOG2 q) ∧ s.get (HQ_SIZE_CQ_LOG2 q) ≤ 12 →
    ∃ t, exec (.hqEnable q w) s = .next t ∧ t.flag (HQ_CTRL_EN q) = true ∧ t.flag (HQ_STAT_RUN q) = true ∧ t.get (HQ_SQ_HEAD_IDX q) = 0 ∧ t.get (HQ_SQ_TAIL_IDX q) = 0 ∧ t.get (HQ_CQ_HEAD_IDX q) = 0 ∧ t.get (HQ_CQ_TAIL_IDX q) = 0 ∧ t.flag (HQ_CQ_TAIL_PHASE q) = true ∧ t.hq q = {} ∧ t.mem = s.mem ∧ t.cores = s.cores) ∧
  (∀ (s : State) (q : Queue),
    s.flag (HQ_CTRL_EN q) = false →
    s.flag HI_STAT_READY = false →
    exec (.hqEnable q .master0) s = .next (s.putFlag (HQ_STAT_CFG_REJ q) true)) ∧
  (∀ (s : State) (q : Queue) (w : HqWriter),
    w = .master0 ∨ w = .func (qFunc q) →
    ∃ t, exec (.hqDelete q w) s = .next t ∧ t.flag (HQ_CTRL_EN q) = false ∧ t.flag (HQ_STAT_RUN q) = false ∧ t.hq q = {} ∧ t.chains = s.chains.filter (fun c => c.q != some q.val) ∧ t.host.staging = s.host.staging.filter (fun c => c.q != q.val) ∧ t.host.out = s.host.out ∧ t.mem = s.mem ∧ t.cores = s.cores) ∧
  (∀ (s : State) (q : Queue) (f : Fin 2),
    qFunc q ≠ f →
    (∃ t, exec (.hqEnable q (.func f)) s = .next t ∧ t.get HI_MIRROR_WREJ_CNT = min (s.get (HI_MIRROR_WREJ_CNT) + 1) (2 ^ (HI_MIRROR_WREJ_CNT).width - 1) ∧ t.fcuIn = s.fcuIn ++ [⟨F_HI_MIRROR_WREJ, f.val, false, 0, s.tt⟩] ∧ t.flag HI_ISR_MIRROR_WREJ = true ∧ t.mem = s.mem ∧ t.cores = s.cores) ∧
    (∃ t, exec (.hqDelete q (.func f)) s = .next t ∧ t.get HI_MIRROR_WREJ_CNT = min (s.get (HI_MIRROR_WREJ_CNT) + 1) (2 ^ (HI_MIRROR_WREJ_CNT).width - 1) ∧ t.fcuIn = s.fcuIn ++ [⟨F_HI_MIRROR_WREJ, f.val, false, 0, s.tt⟩] ∧ t.flag HI_ISR_MIRROR_WREJ = true ∧ t.mem = s.mem ∧ t.cores = s.cores)) ∧
  (∀ (s : State) (f : Fin 2) (v : Word),
    exec (.mirrorWrite f HI_ISR v) s = .next (s.wr HI_ISR (s.rd HI_ISR &&& ~~~v)) ∧ exec (.mirrorWrite f (HI_IER f) v) s = .next (s.wr (HI_IER f) (v &&& 0x1FF))) ∧
  (∀ (s : State) (f : Fin 2) (off : Nat) (v : Word),
    off < 0x1000000 →
    off / 0x1000 ≠ 0x600 →
    off / 0x1000 ≠ 0x601 →
    ∃ t, exec (.mirrorWrite f off v) s = .next t ∧ t.get HI_MIRROR_WREJ_CNT = min (s.get (HI_MIRROR_WREJ_CNT) + 1) (2 ^ (HI_MIRROR_WREJ_CNT).width - 1) ∧ t.fcuIn = s.fcuIn ++ [⟨F_HI_MIRROR_WREJ, f.val, false, 0, s.tt⟩] ∧ t.flag HI_ISR_MIRROR_WREJ = true ∧ t.mem = s.mem ∧ t.cores = s.cores) ∧
  (∀ (s : State) (f : Fin 2) (w : Nat) (v : Word),
    w < 1024 →
    w % 4 = 1 ∨ w % 4 = 2 →
    ∃ t, exec (.mirrorWrite f (0x2000000 + 4 * w) v) s = .next t ∧ t.msixWord f w = v ∧ t.regs = s.regs ∧ t.mem = s.mem ∧ t.cores = s.cores) ∧
  (∀ (s : State) (q : Queue),
    s.takesPackets q = true →
    (s.hq q).chain ≠ [] →
    (s.hq q).inbox.any pktEnd = false →
    (s.hq q).chainTt + s.get HI_CFG_CHAIN_TO * 125000 ≤ s.tt →
    ∃ t, exec (.chainTimeout q) s = .next t ∧ (t.hq q).chain = [] ∧ (t.hq q).waitEnd = true ∧ t.flag (HQ_STAT_WAIT_CHAIN q) = true ∧ (t.hq q).ready.map (fun c => (c.tag, c.status)) = (s.hq q).ready.map (fun c => (c.tag, c.status)) ++ (s.hq q).chain.zipIdx.map (fun x => (pktTag x.1, if x.2 + 1 = (s.hq q).chain.length then stBadChain else stChainAbort)) ∧ t.mem = s.mem ∧ t.cores = s.cores) ∧
  (∀ (s : State) (q : Queue),
    s.takesPackets q = false ∨ (s.hq q).chain = [] ∨ (s.hq q).inbox.any pktEnd = true ∨ s.tt < (s.hq q).chainTt + s.get HI_CFG_CHAIN_TO * 125000 →
    exec (.chainTimeout q) s = .next (s)) ∧
  (∀ (s u : State) (c : Staging) (r : OpRow),
    s.host.staging = [c] →
    s.served .blob = some u →
    s.mode ≠ modeLockdown →
    qFunc c.q = 0 →
    pktRow (c.cmds.headD []) = some r →
    pktClean (c.cmds.headD []) r = true →
    pktRanges (c.cmds.headD []) = true →
    ∃ t, exec (.authCheckDone) s = .next t ∧ ((u.checkBlob c.cmds).2.1 = 0 → t.rd64 HI_AUTH_CTR = (u.checkBlob c.cmds).2.2.counter % 2 ^ 64) ∧ ((u.checkBlob c.cmds).2.1 ≠ 0 → t.host.staging = [] ∧ t.get HI_AUTH_FAIL_CNT_CNT = min (s.get (HI_AUTH_FAIL_CNT_CNT) + 1) (2 ^ (HI_AUTH_FAIL_CNT_CNT).width - 1) ∧ t.chains = s.chains ∧ (⟨F_HI_AUTH_FAIL, (u.checkBlob c.cmds).2.1 % 2 ^ 32, false, 0, s.tt⟩ : FaultIn) ∈ t.fcuIn))

/-- A period without a heartbeat or doorbell loses the host once, and the next one finds it again (R379). It says that exec of
hiHostLost, hostHeartbeat, mirrorWrite, hostSqDoorbell, hostCqDoorbell each completes with a next state, for every state and
operands that meet hypotheses on these alone. -/
def Obligations.TheHostIsWatched : Prop :=
  (∀ (s : State),
    s.get HI_HOST_WD_PER ≠ 0 →
    s.host.lost = false →
    s.host.hbTt + s.get HI_HOST_WD_PER * 1250000 ≤ s.tt →
    ∃ t, exec (.hiHostLost) s = .next t ∧ t.fcuIn = s.fcuIn ++ [⟨F_HI_HOST_LOST, 0, false, 0, s.tt⟩] ∧ t.flag HI_ISR_HOST_LOST = true ∧ t.host.lost = true ∧ t.host.hbTt = s.host.hbTt ∧ t.mem = s.mem ∧ t.cores = s.cores ∧ t.mode = s.mode) ∧
  (∀ (s : State),
    s.get HI_HOST_WD_PER = 0 ∨ s.host.lost = true ∨ s.tt < s.host.hbTt + s.get HI_HOST_WD_PER * 1250000 →
    exec (.hiHostLost) s = .next (s)) ∧
  (∀ (s : State) (m : Master),
    m.val = 0 ∨ m.val = 11 →
    exec (.hostHeartbeat m) s = .next ((s.onHost (fun h => { h with hbTt := s.tt, lost := false })))) ∧
  (∀ (s : State) (m : Master),
    m.val ≠ 0 →
    m.val ≠ 11 →
    s.reaches m (HI_HOST_HB) = true →
    exec (.hostHeartbeat m) s = .next (s.refusedBy m (HI_HOST_HB))) ∧
  (∀ (s : State) (f : Fin 2) (v : Word),
    exec (.mirrorWrite f HI_HOST_HB v) s = .next ((s.onHost (fun h => { h with hbTt := s.tt, lost := false })))) ∧
  (∀ (s : State) (q : Queue) (f : Fin 2) (v : Word),
    (∃ t, exec (.hostSqDoorbell q f v) s = .next t ∧ t.host.hbTt = s.tt ∧ t.host.lost = false) ∧
    (∃ t, exec (.hostCqDoorbell q f v) s = .next t ∧ t.host.hbTt = s.tt ∧ t.host.lost = false)) ∧
  (State.reset.get (FLT_CFG_REACT F_HI_HOST_LOST) = 1)

/-- Link loss, PERST, FLR, power states and Bus Master Enable stop, hold and release what the functions send; BAR2 writes HBM
through the firewall; image checks end (R316, R352, R355, R373, R374, R375). It says that exec of linkUp, linkPowerStateChange,
hiLinkDown, perstNAssert, hiFlr, busMasterDisable, busMasterEnable, d0Return, d3hotEntry, hiPcieUncorr, bar2Write,
imageCheckDone each completes with a next state, for every state and operands that meet hypotheses on these alone. -/
def Obligations.TheEndpointFollowsItsLink : Prop :=
  (∀ (s : State),
    s.flag HI_STAT_LINK_UP = false →
    ∃ t, exec (.linkUp) s = .next t ∧ t.flag HI_STAT_LINK_UP = true ∧ 1 ≤ t.get HI_STAT_GEN ∧ t.get HI_STAT_GEN ≤ 6 ∧ (t.get HI_STAT_WIDTH ∈ [1, 2, 4, 8]) ∧ t.flag HI_STAT_FLIT = decide (t.get HI_STAT_GEN = 6) ∧ t.get HI_STAT_LPM = 0 ∧ t.host = s.host ∧ t.mem = s.mem ∧ t.cores = s.cores) ∧
  (∀ (s : State),
    s.flag HI_STAT_LINK_UP = true →
    exec (.linkUp) s = .next (s)) ∧
  (∀ (s : State) (k : Fin 8),
    s.flag HI_STAT_LINK_UP = true →
    exec (.linkPowerStateChange k) s = .next (if k.val < 4 then s.put HI_STAT_LPM k.val else s)) ∧
  (∀ (s : State) (k : Fin 8),
    s.flag HI_STAT_LINK_UP = false →
    exec (.linkPowerStateChange k) s = .next (s) ∧ exec (.hiLinkDown) s = .next (s)) ∧
  (∀ (s : State),
    s.flag HI_STAT_LINK_UP = true →
    (∃ t, exec (.hiLinkDown) s = .next t ∧ t.flag HI_STAT_LINK_UP = false ∧ t.get HI_STAT_GEN = 0 ∧ t.get HI_STAT_WIDTH = 0 ∧ t.flag HI_STAT_FLIT = false ∧ (∀ f : Fin 2, t.flag (pfBme f) = false ∧ t.inD3 f = false ∧ t.host.msixOn.get f = false) ∧ (∀ q : Queue, t.flag (HQ_CTRL_EN q) = false) ∧ t.get HI_LINKDOWN_CNT_CNT = min (s.get (HI_LINKDOWN_CNT_CNT) + 1) (2 ^ (HI_LINKDOWN_CNT_CNT).width - 1) ∧ t.get HI_CPL_DROP_CNT = min (s.get HI_CPL_DROP_CNT + s.unwritten) (2 ^ HI_CPL_DROP_CNT.width - 1) ∧ t.fcuIn = s.fcuIn ++ [⟨F_HI_LINK_DOWN, 0, false, 0, s.tt⟩] ∧ t.flag HI_ISR_LINK_DOWN = true ∧ t.mem = s.mem ∧ t.cores = s.cores ∧ t.stage = s.stage) ∧
    (∃ t, exec (.perstNAssert) s = .next t ∧ t.flag HI_STAT_LINK_UP = false ∧ t.get HI_STAT_GEN = 0 ∧ t.get HI_STAT_WIDTH = 0 ∧ t.flag HI_STAT_FLIT = false ∧ (∀ f : Fin 2, t.flag (pfBme f) = false ∧ t.inD3 f = false ∧ t.host.msixOn.get f = false) ∧ (∀ q : Queue, t.flag (HQ_CTRL_EN q) = false) ∧ t.get HI_LINKDOWN_CNT_CNT = min (s.get (HI_LINKDOWN_CNT_CNT) + 1) (2 ^ (HI_LINKDOWN_CNT_CNT).width - 1) ∧ t.get HI_CPL_DROP_CNT = min (s.get HI_CPL_DROP_CNT + s.unwritten) (2 ^ HI_CPL_DROP_CNT.width - 1) ∧ t.fcuIn = s.fcuIn ++ [⟨F_HI_LINK_DOWN, 0, false, 0, s.tt⟩] ∧ t.flag HI_ISR_LINK_DOWN = true ∧ t.mem = s.mem ∧ t.cores = s.cores ∧ t.stage = s.stage)) ∧
  (∀ (s : State),
    s.flag HI_STAT_LINK_UP = false →
    ∃ t, exec (.perstNAssert) s = .next t ∧ (∀ f : Fin 2, t.flag (pfBme f) = false ∧ t.inD3 f = false ∧ t.host.msixOn.get f = false) ∧ t.fcuIn = s.fcuIn ∧ t.mem = s.mem ∧ t.cores = s.cores) ∧
  (∀ (s : State) (f : Fin 2),
    ∃ t, exec (.hiFlr f) s = .next t ∧ (∀ q : Queue, t.flag (HQ_CTRL_EN q) = (s.flag (HQ_CTRL_EN q) && qFunc q != f) ∧ (qFunc q ≠ f → t.hq q = s.hq q)) ∧ t.flag (pfBme f) = false ∧ t.inD3 f = false ∧ t.host.msixOn.get f = false ∧ (∀ k : Fin 2, k ≠ f → t.flag (pfBme k) = s.flag (pfBme k) ∧ t.inD3 k = s.inD3 k ∧ t.host.msixOn.get k = s.host.msixOn.get k) ∧ t.get (if f = 0 then HI_FLR_CNT_PF0 else HI_FLR_CNT_PF1) = min (s.get (if f = 0 then HI_FLR_CNT_PF0 else HI_FLR_CNT_PF1) + 1) (2 ^ HI_FLR_CNT_PF0.width - 1) ∧ t.fcuIn = s.fcuIn ++ [⟨F_HI_FLR, f.val, false, 0, s.tt⟩] ∧ t.mem = s.mem ∧ t.cores = s.cores) ∧
  (∀ (s : State) (f : Fin 2),
    exec (.busMasterDisable f .busMaster) s = .next (if s.flag (pfBme f) then ((s.putFlag (pfBme f) false).raise F_HI_FLR f).holdReady f else s) ∧ exec (.busMasterDisable f .msix) s = .next ((s.onHost (fun h => { h with msixOn := h.msixOn.set f false })).holdReady f)) ∧
  (∀ (s : State) (f : Fin 2) (q : Queue),
    qFunc q = f →
    ((s.holdReady f).hq q).ready = (s.hq q).ready.map (fun c => { c with held := true }) ∧ ((s.hq q).ready ≠ [] → (s.holdReady f).flag (HQ_STAT_HELD q) = true ∧ (s.holdReady f).host.pba.contains (256 * f.val + s.get (HQ_VEC_VEC q)) = true) ∧ (s.holdReady f).host.out = s.host.out ∧ (s.holdReady f).host.msgs = s.host.msgs ∧ (s.holdReady f).mem = s.mem ∧ (s.holdReady f).cores = s.cores) ∧
  (∀ (s : State) (f : Fin 2),
    (∃ t, exec (.busMasterEnable f .busMaster) s = .next t ∧ t.flag (pfBme f) = true ∧ t.mem = s.mem ∧ t.cores = s.cores ∧ (s.holdsCpl f = true ∧ (s.inD3 f = true ∨ s.host.msixOn.get f = false) → t.host = s.host)) ∧ (∃ t, exec (.busMasterEnable f .msix) s = .next t ∧ t.host.msixOn.get f = true ∧ t.mem = s.mem ∧ t.cores = s.cores)) ∧
  (∀ (s : State) (f : Fin 2) (q : Queue) (c : Cpl),
    qFunc q = f →
    s.flag (HQ_CTRL_EN q) = true →
    s.flag (HQ_STAT_RUN q) = true →
    s.flag HI_STAT_LINK_UP = true →
    s.inD3 f = true →
    s.flag (pfBme f) = true →
    s.host.msixOn.get f = true →
    (s.hq q).ready = [c] →
    c.held = true →
    ∃ t, exec (.d0Return f) s = .next t ∧ t.inD3 f = false ∧ (t.hq q).ready = [] ∧ (t.hq q).resv = (s.hq q).resv - 1 ∧ (s.rd64 (HQ_CQ_BASE q) / 4096 * 4096 + 32 * s.get (HQ_CQ_TAIL_IDX q), c.bytes q (s.flag (HQ_CQ_TAIL_PHASE q))) ∈ t.host.out ∧ t.host.pme.get f = false ∧ t.mem = s.mem ∧ t.cores = s.cores) ∧
  (∀ (s : State) (f : Fin 2),
    s.flag (pfBme f) = false →
    ∃ t, exec (.d0Return f) s = .next t ∧ t.inD3 f = false ∧ t.host.pme.get f = false ∧ t.host.out = s.host.out ∧ t.host.msgs = s.host.msgs ∧ t.host.queues = s.host.queues ∧ t.mem = s.mem ∧ t.cores = s.cores) ∧
  (∀ (s : State) (f : Fin 2),
    ∃ t, exec (.d3hotEntry f) s = .next t ∧ t.inD3 f = true ∧ (∀ q : Queue, qFunc q = f → 0 < s.get (HQ_UNSIG_N q) → t.host.pba.contains (256 * f.val + s.get (HQ_VEC_VEC q)) = true ∧ t.host.pme.get f = true) ∧ (∀ q : Queue, (t.hq q).ready = (if qFunc q = f then (s.hq q).ready.map (fun c => { c with held := true }) else (s.hq q).ready)) ∧ t.host.out = s.host.out ∧ t.host.msgs = s.host.msgs ∧ t.mem = s.mem ∧ t.cores = s.cores) ∧
  (∀ (s : State) (b : Fin 32),
    exec (.hiPcieUncorr b) s = .next (s.raise F_HI_PCIE_UNCORR b)) ∧
  (∀ (s : State) (off : Nat) (d : Bytes),
    off < 0x700000000 →
    s.flag HI_STAT_LINK_UP = true →
    s.deniesSome 11 (hbmBase + off) d.length = false →
    hbmBase + off + d.length ≤ hbmEnd →
    ∀ e ∈ s.prot.lat, e.1 + 8 ≤ hbmBase + off ∨ hbmBase + off + d.length ≤ e.1 →
    ∃ t, exec (.bar2Write off d) s = .next t ∧ t.bytes (hbmBase + off) d.length = d ∧ (∀ a, (a < hbmBase + off ∨ hbmBase + off + d.length ≤ a) → byteAt t.mem a = byteAt s.mem a) ∧ t.get HI_BAR2_WREJ_CNT = s.get HI_BAR2_WREJ_CNT ∧ t.cores = s.cores) ∧
  (∀ (s : State) (off : Nat) (d : Bytes),
    off < 0x700000000 →
    s.flag HI_STAT_LINK_UP = true →
    s.deniesSome 11 (hbmBase + off) d.length = true →
    ∃ t, exec (.bar2Write off d) s = .next t ∧ t.get HI_BAR2_WREJ_CNT = min (s.get (HI_BAR2_WREJ_CNT) + 1) (2 ^ (HI_BAR2_WREJ_CNT).width - 1) ∧ (⟨F_HI_BAR2_DENY, 0, false, 0, s.tt⟩ : FaultIn) ∈ t.fcuIn ∧ t.flag HI_ISR_BAR2_WREJ = true ∧ t.cores = s.cores) ∧
  (∀ (s : State) (off : Nat) (d : Bytes),
    0x700000000 ≤ off ∨ s.flag HI_STAT_LINK_UP = false →
    exec (.bar2Write off d) s = .next (s)) ∧
  (∀ (s u : State) (l : List ImageUse) (j : FlashJob),
    s.host.checks = .flash :: l →
    s.host.flash = some j →
    s.served .image = some u →
    ∃ t, exec (.imageCheckDone) s = .next t ∧ t.host.checks = l ∧ (s.checkHalf j.src j.len = false → t.host.flash = none ∧ t.mem = s.mem ∧ (s.flag (HQ_CTRL_EN j.q) = true → ∃ c, (t.hq j.q).ready = (s.hq j.q).ready ++ [c] ∧ c.tag = pktTag j.cmd ∧ c.status = stOk ∧ c.result = natLe 1 3)) ∧ (s.checkHalf j.src j.len = true → s.arch.flash.isSome = true → t.host.flash = some { j with checked := true }) ∧ t.cores = s.cores) ∧
  (∀ (s u : State) (l : List ImageUse) (c : Staging) (i : Nat) (is : List Nat),
    s.host.checks = .chain :: l →
    s.host.staging = [c] →
    c.images = i :: is →
    is ≠ [] →
    c.blob = false →
    c.checked = true →
    s.mode ≠ modeLockdown →
    s.served .image = some u →
    ∃ t, exec (.imageCheckDone) s = .next t ∧ t.host.checks = l ∧ t.host.staging.map (fun x => (x.images, x.codes.length)) = [(is, c.codes.length + 1)] ∧ t.chains = s.chains ∧ t.cores = s.cores)

/-- A lone immediate command whose checks pass is performed at once and completes with its result; without packets taken the rows do
nothing (R146, R148, R358, R361, R363, R364). It says that exec of nop, identify, getStatus, readLog, attest, attestSignDone,
kernelLoad, veCancel, archRead, archInfo each completes with a next state, for every state and operands that meet hypotheses on
these alone. -/
def Obligations.ImmediateCommandsOfTheHost : Prop :=
  (∀ (s : State) (q : Queue) (p : Bytes) (rest : List Bytes),
    s.takesPackets q = true →
    s.host.staging = [] →
    (s.hq q).inbox = p :: rest →
    (s.hq q).chain = [] →
    (s.hq q).waitEnd = false →
    pktPos p = 0 →
    pktEnd p = true →
    pktOp p = opNop →
    s.nowRefused q p = stOk →
    ∃ t, exec (.nop q) s = .next t ∧ (t.hq q).inbox = rest ∧ (t.hq q).ready = (s.hq q).ready ++ [⟨pktTag p, stOk, false, s.holdsCpl (qFunc q), s.fn, []⟩] ∧ t.host.out = s.host.out ∧ (t.hq q).chain = [] ∧ t.chains = s.chains ∧ t.stage = s.stage ∧ t.mem = s.mem ∧ t.cores = s.cores ∧ (∀ k : Queue, k ≠ q → t.hq k = s.hq k)) ∧
  (∀ (s : State) (q : Queue) (p : Bytes) (rest : List Bytes),
    s.takesPackets q = true →
    s.host.staging = [] →
    (s.hq q).inbox = p :: rest →
    (s.hq q).chain = [] →
    (s.hq q).waitEnd = false →
    pktPos p = 0 →
    pktEnd p = true →
    pktOp p = opIdentify →
    s.nowRefused q p = stOk →
    ∃ t, exec (.identify q) s = .next t ∧ (t.hq q).inbox = rest ∧ (t.hq q).ready = (s.hq q).ready ++ [⟨pktTag p, stOk, false, s.holdsCpl (qFunc q), s.fn, natLe 4 (s.coreId 0).toNat ++ natLe 4 s.sag.kwVersion ++ natLe 4 s.sag.kwSvn ++ natLe 2 (s.get SG_EPOCH_MAX_EPOCH) ++ natLe 2 (s.get TW_EPOCH_EPOCH)⟩] ∧ (t.hq q).chain = [] ∧ t.chains = s.chains ∧ t.stage = s.stage ∧ t.mem = s.mem ∧ t.cores = s.cores ∧ (∀ k : Queue, k ≠ q → t.hq k = s.hq k)) ∧
  (∀ (s : State) (q : Queue) (p : Bytes) (rest : List Bytes),
    s.takesPackets q = true →
    s.host.staging = [] →
    (s.hq q).inbox = p :: rest →
    (s.hq q).chain = [] →
    (s.hq q).waitEnd = false →
    pktPos p = 0 →
    pktEnd p = true →
    pktOp p = opGetStatus →
    s.nowRefused q p = stOk →
    ∃ t, exec (.getStatus q) s = .next t ∧ (t.hq q).inbox = rest ∧ (t.hq q).ready = (s.hq q).ready ++ [⟨pktTag p, stOk, false, s.holdsCpl (qFunc q), s.fn, natLe 1 s.mode ++ natLe 1 s.lifecycle ++ natLe 1 s.worstPending ++ [0] ++ natLe 4 (s.get PM_MODE_DEGR) ++ natLe 4 (s.get TB_PERIOD_PERIOD) ++ natLe 1 s.runMap ++ [0, 0, 0]⟩] ∧ (t.hq q).chain = [] ∧ t.chains = s.chains ∧ t.stage = s.stage ∧ t.mem = s.mem ∧ t.cores = s.cores ∧ (∀ k : Queue, k ≠ q → t.hq k = s.hq k)) ∧
  (∀ (s : State) (q : Queue) (p : Bytes) (rest : List Bytes),
    s.takesPackets q = true →
    s.host.staging = [] →
    (s.hq q).inbox = p :: rest →
    (s.hq q).chain = [] →
    (s.hq q).waitEnd = false →
    pktPos p = 0 →
    pktEnd p = true →
    pktOp p = opReadLog →
    s.nowRefused q p = stOk →
    s.flag HI_STAT_LINK_UP = true →
    s.inD3 (qFunc q) = false →
    s.flag (pfBme (qFunc q)) = true →
    ∃ t, exec (.readLog q) s = .next t ∧ (∀ l, l = ((s.logEntries (field p 24 1)).drop ((s.logEntries (field p 24 1)).length - field p 25 1)) → (t.hq q).inbox = rest ∧ (t.hq q).ready = (s.hq q).ready ++ [⟨pktTag p, stOk, false, s.holdsCpl (qFunc q), s.fn, natLe 1 l.length⟩] ∧ t.host.out = s.host.out ++ (if l = [] then [] else [(field p 16 8, l.flatten)])) ∧ (t.hq q).chain = [] ∧ t.chains = s.chains ∧ t.stage = s.stage ∧ t.mem = s.mem ∧ t.cores = s.cores ∧ (∀ k : Queue, k ≠ q → t.hq k = s.hq k)) ∧
  (∀ (s : State) (q : Queue) (p : Bytes) (rest : List Bytes),
    s.takesPackets q = true →
    s.host.staging = [] →
    (s.hq q).inbox = p :: rest →
    (s.hq q).chain = [] →
    (s.hq q).waitEnd = false →
    pktPos p = 0 →
    pktEnd p = true →
    pktOp p = opAttest →
    s.nowRefused q p = stOk →
    s.flag SG_LC_ID_VALID = true →
    s.sag.idKey = true →
    s.host.attest = none →
    7875 ≤ field p 56 2 →
    ∃ t, exec (.attest q) s = .next t ∧ (t.hq q).inbox = rest ∧ (t.hq q).ready = (s.hq q).ready ∧ t.host.attest = some (q.val, p) ∧ (t.hq q).chain = [] ∧ t.chains = s.chains ∧ t.stage = s.stage ∧ t.mem = s.mem ∧ t.cores = s.cores ∧ (∀ k : Queue, k ≠ q → t.hq k = s.hq k)) ∧
  (∀ (s : State) (q : Queue) (p : Bytes) (rest : List Bytes),
    s.takesPackets q = true →
    s.host.staging = [] →
    (s.hq q).inbox = p :: rest →
    (s.hq q).chain = [] →
    (s.hq q).waitEnd = false →
    pktPos p = 0 →
    pktEnd p = true →
    pktOp p = opAttest →
    s.nowRefused q p = stOk →
    field p 56 2 < 7875 →
    ∃ t, exec (.attest q) s = .next t ∧ (t.hq q).inbox = rest ∧ (t.hq q).ready = (s.hq q).ready ++ [⟨pktTag p, stBadParam, false, s.holdsCpl (qFunc q), s.fn, natLe 2 7875⟩] ∧ t.host.attest = s.host.attest ∧ (t.hq q).chain = [] ∧ t.chains = s.chains ∧ t.stage = s.stage ∧ t.mem = s.mem ∧ t.cores = s.cores ∧ (∀ k : Queue, k ≠ q → t.hq k = s.hq k)) ∧
  (∀ (s : State) (q : Queue) (p : Bytes) (rest : List Bytes),
    s.takesPackets q = true →
    s.host.staging = [] →
    (s.hq q).inbox = p :: rest →
    (s.hq q).chain = [] →
    (s.hq q).waitEnd = false →
    pktPos p = 0 →
    pktEnd p = true →
    pktOp p = opAttest →
    s.nowRefused q p = stOk →
    7875 ≤ field p 56 2 →
    s.flag SG_LC_ID_VALID = false →
    ∃ t, exec (.attest q) s = .next t ∧ (t.hq q).inbox = rest ∧ (t.hq q).ready = (s.hq q).ready ++ [⟨pktTag p, stState, false, s.holdsCpl (qFunc q), s.fn, []⟩] ∧ t.host.attest = s.host.attest ∧ (t.hq q).chain = [] ∧ t.chains = s.chains ∧ t.stage = s.stage ∧ t.mem = s.mem ∧ t.cores = s.cores ∧ (∀ k : Queue, k ≠ q → t.hq k = s.hq k)) ∧
  (∀ (s : State) (q : Queue) (p : Bytes) (rest : List Bytes),
    s.takesPackets q = true →
    s.host.staging = [] →
    (s.hq q).inbox = p :: rest →
    (s.hq q).chain = [] →
    (s.hq q).waitEnd = false →
    pktPos p = 0 →
    pktEnd p = true →
    pktOp p = opAttest →
    s.nowRefused q p = stOk →
    7875 ≤ field p 56 2 →
    s.flag SG_LC_ID_VALID = true →
    s.sag.idKey = true →
    s.host.attest ≠ none →
    ∃ t, exec (.attest q) s = .next t ∧ (t.hq q).inbox = rest ∧ (t.hq q).ready = (s.hq q).ready ++ [⟨pktTag p, stBusy, false, s.holdsCpl (qFunc q), s.fn, []⟩] ∧ t.host.attest = s.host.attest ∧ (t.hq q).chain = [] ∧ t.chains = s.chains ∧ t.stage = s.stage ∧ t.mem = s.mem ∧ t.cores = s.cores ∧ (∀ k : Queue, k ≠ q → t.hq k = s.hq k)) ∧
  (∀ (s u : State) (q : Queue) (p : Bytes),
    s.host.attest = some (q.val, p) →
    s.flag (HQ_CTRL_EN q) = true →
    s.served .attest = some u →
    ∃ t, exec (.attestSignDone false) s = .next t ∧ t.host.attest = none ∧ (t.hq q).ready = (s.hq q).ready ++ [⟨pktTag p, stBusy, pktPos p != 0, s.holdsCpl (qFunc q), s.fn, []⟩] ∧ t.host.out = s.host.out ∧ t.mem = s.mem ∧ t.cores = s.cores) ∧
  (∀ (s u : State) (q : Queue) (p : Bytes),
    s.host.attest = some (q.val, p) →
    s.flag (HQ_CTRL_EN q) = true →
    s.flag SG_LC_ID_VALID = true →
    s.sag.idKey = true →
    s.flag HI_STAT_LINK_UP = true →
    s.inD3 (qFunc q) = false →
    s.flag (pfBme (qFunc q)) = true →
    s.served .attest = some u →
    ∃ t, exec (.attestSignDone true) s = .next t ∧ t.host.attest = none ∧ (t.hq q).ready = (s.hq q).ready ++ [⟨pktTag p, stOk, pktPos p != 0, s.holdsCpl (qFunc q), s.fn, natLe 2 7875⟩] ∧ t.mem = s.mem ∧ t.cores = s.cores ∧ (∃ sig : Bytes, sig.length = 4627 ∧ t.host.out = s.host.out ++ [(field p 48 8, s.report ((p.drop 16).take 32) ++ sig)])) ∧
  (∀ (s : State) (q : Queue) (p : Bytes) (rest : List Bytes),
    s.takesPackets q = true →
    s.host.staging = [] →
    (s.hq q).inbox = p :: rest →
    (s.hq q).chain = [] →
    (s.hq q).waitEnd = false →
    pktPos p = 0 →
    pktEnd p = true →
    pktOp p = opKernelLoad →
    s.nowRefused q p = stOk →
    s.follows = false →
    s.leads = false →
    field p 27 1 = 0 →
    s.flag VE_KLOAD_CTRL_BUSY = false →
    s.reaches 0 VE_KLOAD_CTRL = true →
    ∃ t, exec (.kernelLoad q) s = .next t ∧ (t.hq q).inbox = rest ∧ (t.hq q).ready = (s.hq q).ready ∧ t.host.kload = some (q.val, p) ∧ t.flag VE_KLOAD_CTRL_BUSY = true ∧ t.rd64 VE_KLOAD_ADDR = field p 16 5 ∧ t.get VE_KLOAD_LEN_BYTES = field p 24 3 ∧ t.ve.kload = some (field p 16 5, field p 24 3) ∧ (t.hq q).chain = [] ∧ t.chains = s.chains ∧ t.stage = s.stage ∧ t.mem = s.mem ∧ t.cores = s.cores ∧ (∀ k : Queue, k ≠ q → t.hq k = s.hq k)) ∧
  (∀ (s : State) (q : Queue) (p : Bytes) (rest : List Bytes),
    s.takesPackets q = true →
    s.host.staging = [] →
    (s.hq q).inbox = p :: rest →
    (s.hq q).chain = [] →
    (s.hq q).waitEnd = false →
    pktPos p = 0 →
    pktEnd p = true →
    pktOp p = opKernelLoad →
    s.nowRefused q p = stOk →
    s.follows = false →
    s.leads = false →
    field p 27 1 = 1 →
    s.stagedNext < stageMax →
    s.reaches 0 VE_KLOAD_CTRL = true →
    ∃ t, exec (.kernelLoad q) s = .next t ∧ (t.hq q).inbox = rest ∧ (∃ r, (t.hq q).ready = (s.hq q).ready ++ [⟨pktTag p, stOk, false, s.holdsCpl (qFunc q), s.fn, r⟩]) ∧ t.stage = s.stage ++ [⟨VE_KLOAD_CTRL, BitVec.ofNat 32 (2 + (field p 28 1 - 0x80) * 0x100), 0, s.stagings⟩] ∧ t.host.kload = s.host.kload ∧ t.ve = s.ve ∧ t.chains = s.chains ∧ t.mem = s.mem ∧ t.cores = s.cores) ∧
  (∀ (s : State) (q : Queue) (p : Bytes) (rest : List Bytes),
    s.takesPackets q = true →
    s.host.staging = [] →
    (s.hq q).inbox = p :: rest →
    (s.hq q).chain = [] →
    (s.hq q).waitEnd = false →
    pktPos p = 0 →
    pktEnd p = true →
    pktOp p = opKernelLoad ∨ (pktOp p = opVeCancel ∧ field p 16 1 < s.part.groups) →
    s.nowRefused q p = stOk →
    s.follows = false →
    s.leads = true →
    ∀ c ∈ [Instr.kernelLoad q, Instr.veCancel q], (c = .kernelLoad q ↔ pktOp p = opKernelLoad) → ∃ t, exec c s = .next t ∧ (t.hq q).inbox = rest ∧ (t.hq q).ready = (s.hq q).ready ∧ t.chains = s.chains ++ [{ fn := s.fn + 1, writes := 0, q := some q.val, cmds := [p], imm := true, seq := s.stagings }] ∧ t.stage = s.stage ∧ t.ve = s.ve ∧ t.mem = s.mem ∧ t.cores = s.cores) ∧
  (∀ (s : State) (q : Queue) (p : Bytes) (rest : List Bytes),
    s.takesPackets q = true →
    s.host.staging = [] →
    (s.hq q).inbox = p :: rest →
    (s.hq q).chain = [] →
    (s.hq q).waitEnd = false →
    pktPos p = 0 →
    pktEnd p = true →
    pktOp p = opKernelLoad →
    s.nowRefused q p = stOk →
    s.follows = false →
    s.leads = false →
    field p 27 1 = 0 →
    s.flag VE_KLOAD_CTRL_BUSY = true →
    ∃ t, exec (.kernelLoad q) s = .next t ∧ (t.hq q).inbox = rest ∧ (t.hq q).ready = (s.hq q).ready ++ [⟨pktTag p, stBusy, false, s.holdsCpl (qFunc q), s.fn, []⟩] ∧ t.host.kload = s.host.kload ∧ t.ve = s.ve ∧ (t.hq q).chain = [] ∧ t.chains = s.chains ∧ t.stage = s.stage ∧ t.mem = s.mem ∧ t.cores = s.cores ∧ (∀ k : Queue, k ≠ q → t.hq k = s.hq k)) ∧
  (∀ (s : State) (q : Queue) (p : Bytes) (rest : List Bytes),
    s.takesPackets q = true →
    s.host.staging = [] →
    (s.hq q).inbox = p :: rest →
    (s.hq q).chain = [] →
    (s.hq q).waitEnd = false →
    pktPos p = 0 →
    pktEnd p = true →
    pktOp p = opVeCancel →
    s.nowRefused q p = stOk →
    s.follows = false →
    s.leads = false →
    field p 16 1 < s.part.groups →
    ∀ g : Group, g.val = field p 16 1 → ∃ t, exec (.veCancel q) s = .next t ∧ (t.hq q).inbox = rest ∧ (t.hq q).ready = (s.hq q).ready ∧ t.host.cancels = s.host.cancels ++ [(q.val, p)] ∧ t.get (VE_CANCEL_TAG_TAG g) = field p 20 4 ∧ t.get (VE_CANCEL_MASK_MASK g) = field p 24 4 ∧ t.flag (VE_CANCEL_CTRL_DISCARD g) = decide (field p 17 1 = 1) ∧ t.flag (VE_CANCEL_CTRL_PENDING g) = true ∧ t.ve.cancel.get g = some (field p 20 4, field p 24 4, decide (field p 17 1 = 1)) ∧ (t.hq q).chain = [] ∧ t.chains = s.chains ∧ t.stage = s.stage ∧ t.mem = s.mem ∧ t.cores = s.cores ∧ (∀ k : Queue, k ≠ q → t.hq k = s.hq k)) ∧
  (∀ (s : State) (q : Queue) (p : Bytes) (rest : List Bytes),
    s.takesPackets q = true →
    s.host.staging = [] →
    (s.hq q).inbox = p :: rest →
    (s.hq q).chain = [] →
    (s.hq q).waitEnd = false →
    pktPos p = 0 →
    pktEnd p = true →
    pktOp p = opVeCancel →
    s.nowRefused q p = stOk →
    s.follows = false →
    s.part.groups ≤ field p 16 1 →
    ∃ t, exec (.veCancel q) s = .next t ∧ (t.hq q).inbox = rest ∧ (t.hq q).ready = (s.hq q).ready ++ [⟨pktTag p, stBadParam, false, s.holdsCpl (qFunc q), s.fn, []⟩] ∧ t.host.cancels = s.host.cancels ∧ (t.hq q).chain = [] ∧ t.chains = s.chains ∧ t.stage = s.stage ∧ t.mem = s.mem ∧ t.cores = s.cores ∧ (∀ k : Queue, k ≠ q → t.hq k = s.hq k)) ∧
  (∀ (s : State) (q : Queue) (p : Bytes) (rest : List Bytes),
    s.takesPackets q = true →
    s.host.staging = [] →
    (s.hq q).inbox = p :: rest →
    (s.hq q).chain = [] →
    (s.hq q).waitEnd = false →
    pktPos p = 0 →
    pktEnd p = true →
    pktOp p = opKernelLoad →
    s.nowRefused q p = stOk →
    s.follows = true →
    ∃ t, exec (.kernelLoad q) s = .next t ∧ (t.hq q).inbox = rest ∧ (t.hq q).ready = (s.hq q).ready ++ [⟨pktTag p, stState, false, s.holdsCpl (qFunc q), s.fn, []⟩] ∧ t.ve = s.ve ∧ (t.hq q).chain = [] ∧ t.chains = s.chains ∧ t.stage = s.stage ∧ t.mem = s.mem ∧ t.cores = s.cores ∧ (∀ k : Queue, k ≠ q → t.hq k = s.hq k)) ∧
  (∀ (s : State) (q : Queue) (p : Bytes) (rest : List Bytes),
    s.takesPackets q = true →
    s.host.staging = [] →
    (s.hq q).inbox = p :: rest →
    (s.hq q).chain = [] →
    (s.hq q).waitEnd = false →
    pktPos p = 0 →
    pktEnd p = true →
    pktOp p = opVeCancel →
    s.nowRefused q p = stOk →
    s.follows = true →
    ∃ t, exec (.veCancel q) s = .next t ∧ (t.hq q).inbox = rest ∧ (t.hq q).ready = (s.hq q).ready ++ [⟨pktTag p, stState, false, s.holdsCpl (qFunc q), s.fn, []⟩] ∧ t.host.cancels = s.host.cancels ∧ (t.hq q).chain = [] ∧ t.chains = s.chains ∧ t.stage = s.stage ∧ t.mem = s.mem ∧ t.cores = s.cores ∧ (∀ k : Queue, k ≠ q → t.hq k = s.hq k)) ∧
  (∀ (s : State) (q : Queue) (p : Bytes) (rest : List Bytes) (c : Coil),
    s.takesPackets q = true →
    s.host.staging = [] →
    (s.hq q).inbox = p :: rest →
    (s.hq q).chain = [] →
    (s.hq q).waitEnd = false →
    pktPos p = 0 →
    pktEnd p = true →
    pktOp p = opArchRead →
    s.nowRefused q p = stOk →
    s.flag HI_STAT_LINK_UP = true →
    s.inD3 (qFunc q) = false →
    s.flag (pfBme (qFunc q)) = true →
    s.coilById ((p.drop 16).take 16) = some c →
    ((c.durablePart (field p 52 1)).drop (field p 32 8)).take (field p 48 4) ≠ [] →
    ∃ t, exec (.archRead q none) s = .next t ∧ t.host.out = s.host.out ++ [(field p 40 8, ((c.durablePart (field p 52 1)).drop (field p 32 8)).take (field p 48 4))] ∧ (t.hq q).inbox = rest ∧ (t.hq q).ready.map (fun x => (x.tag, x.status, x.result.take 4)) = (s.hq q).ready.map (fun x => (x.tag, x.status, x.result.take 4)) ++ [(pktTag p, stOk, natLe 4 (((c.durablePart (field p 52 1)).drop (field p 32 8)).take (field p 48 4)).length)] ∧ t.arch = s.arch ∧ (t.hq q).chain = [] ∧ t.chains = s.chains ∧ t.stage = s.stage ∧ t.mem = s.mem ∧ t.cores = s.cores ∧ (∀ k : Queue, k ≠ q → t.hq k = s.hq k)) ∧
  (∀ (s : State) (q : Queue) (p : Bytes) (rest : List Bytes),
    s.takesPackets q = true →
    s.host.staging = [] →
    (s.hq q).inbox = p :: rest →
    (s.hq q).chain = [] →
    (s.hq q).waitEnd = false →
    pktPos p = 0 →
    pktEnd p = true →
    pktOp p = opArchRead →
    s.nowRefused q p = stOk →
    s.coilById ((p.drop 16).take 16) = none →
    ∃ t, exec (.archRead q none) s = .next t ∧ (t.hq q).inbox = rest ∧ (t.hq q).ready = (s.hq q).ready ++ [⟨pktTag p, stState, false, s.holdsCpl (qFunc q), s.fn, []⟩] ∧ t.host.out = s.host.out ∧ (t.hq q).chain = [] ∧ t.chains = s.chains ∧ t.stage = s.stage ∧ t.mem = s.mem ∧ t.cores = s.cores ∧ (∀ k : Queue, k ≠ q → t.hq k = s.hq k)) ∧
  (∀ (s : State) (q : Queue) (p : Bytes) (rest : List Bytes),
    s.takesPackets q = true →
    s.host.staging = [] →
    (s.hq q).inbox = p :: rest →
    (s.hq q).chain = [] →
    (s.hq q).waitEnd = false →
    pktPos p = 0 →
    pktEnd p = true →
    pktOp p = opArchInfo →
    s.nowRefused q p = stOk →
    ∃ t, exec (.archInfo q) s = .next t ∧ (t.hq q).inbox = rest ∧ (∀ c, s.coilById ((p.drop 16).take 16) = some c → (t.hq q).inbox = rest ∧ (t.hq q).ready = (s.hq q).ready ++ [⟨pktTag p, stOk, false, s.holdsCpl (qFunc q), s.fn, natLe 8 c.size ++ natLe 4 c.span.1 ++ natLe 4 c.span.2⟩]) ∧ (s.coilById ((p.drop 16).take 16) = none → (t.hq q).inbox = rest ∧ (t.hq q).ready = (s.hq q).ready ++ [⟨pktTag p, stState, false, s.holdsCpl (qFunc q), s.fn, []⟩]) ∧ t.arch = s.arch ∧ (t.hq q).chain = [] ∧ t.chains = s.chains ∧ t.stage = s.stage ∧ t.mem = s.mem ∧ t.cores = s.cores ∧ (∀ k : Queue, k ≠ q → t.hq k = s.hq k)) ∧
  (∀ (s : State) (q : Queue) (p : Bytes) (rest : List Bytes) (c : Coil) (o blk : Nat),
    s.takesPackets q = true →
    s.host.staging = [] →
    (s.hq q).inbox = p :: rest →
    (s.hq q).chain = [] →
    (s.hq q).waitEnd = false →
    pktPos p = 0 →
    pktEnd p = true →
    pktOp p = opArchRead →
    s.nowRefused q p = stOk →
    s.flag HI_STAT_LINK_UP = true →
    s.inD3 (qFunc q) = false →
    s.flag (pfBme (qFunc q)) = true →
    s.coilById ((p.drop 16).take 16) = some c →
    field p 32 8 < o →
    o < field p 32 8 + (((c.durablePart (field p 52 1)).drop (field p 32 8)).take (field p 48 4)).length →
    ∃ t, exec (.archRead q (some (o, blk))) s = .next t ∧ t.host.out = s.host.out ++ [(field p 40 8, ((c.durablePart (field p 52 1)).drop (field p 32 8)).take (o - field p 32 8))] ∧ (t.hq q).inbox = rest ∧ (t.hq q).ready.map (fun x => (x.tag, x.status, x.result.take 4)) = (s.hq q).ready.map (fun x => (x.tag, x.status, x.result.take 4)) ++ [(pktTag p, stOk, natLe 4 (o - field p 32 8))] ∧ t.get AR_MEDIA_CNT_CNT = min (s.get (AR_MEDIA_CNT_CNT) + 1) (2 ^ (AR_MEDIA_CNT_CNT).width - 1) ∧ t.fcuIn = s.fcuIn ++ [⟨F_AR_MEDIA, blk % 2 ^ 32, false, 0, s.tt⟩] ∧ t.arch = s.arch ∧ (t.hq q).chain = [] ∧ t.chains = s.chains ∧ t.stage = s.stage ∧ t.mem = s.mem ∧ t.cores = s.cores ∧ (∀ k : Queue, k ≠ q → t.hq k = s.hq k)) ∧
  (∀ (s : State) (q : Queue),
    s.takesPackets q = false →
    exec (.nop q) s = .next (s) ∧
    exec (.identify q) s = .next (s) ∧
    exec (.getStatus q) s = .next (s) ∧
    exec (.readLog q) s = .next (s) ∧
    exec (.writeReg q) s = .next (s) ∧
    exec (.modeReq q) s = .next (s) ∧
    exec (.warmRestart q) s = .next (s) ∧
    exec (.epochAdvance q) s = .next (s) ∧
    exec (.twinRelinquish q) s = .next (s) ∧
    exec (.eventInsert q) s = .next (s) ∧
    exec (.eventCancel q) s = .next (s) ∧
    exec (.headCtrl q) s = .next (s) ∧
    exec (.appCtrl q) s = .next (s) ∧
    exec (.appLoad q) s = .next (s) ∧
    exec (.kernelLoad q) s = .next (s) ∧
    exec (.veCancel q) s = .next (s) ∧
    exec (.trackDecide q) s = .next (s) ∧
    exec (.coilMark q) s = .next (s) ∧
    exec (.archInfo q) s = .next (s) ∧
    exec (.flashProgram q) s = .next (s) ∧
    exec (.authRef q) s = .next (s) ∧
    exec (.attest q) s = .next (s) ∧
    (∀ bad, exec (.archRead q bad) s = .next (s))) ∧
  (∀ (s : State) (q : Queue),
    s.takesPackets q = true →
    (s.hq q).inbox = [] →
    exec (.nop q) s = .next (s.stageOn) ∧
    exec (.identify q) s = .next (s.stageOn) ∧
    exec (.getStatus q) s = .next (s.stageOn) ∧
    exec (.readLog q) s = .next (s.stageOn) ∧
    exec (.writeReg q) s = .next (s.stageOn) ∧
    exec (.modeReq q) s = .next (s.stageOn) ∧
    exec (.warmRestart q) s = .next (s.stageOn) ∧
    exec (.epochAdvance q) s = .next (s.stageOn) ∧
    exec (.twinRelinquish q) s = .next (s.stageOn) ∧
    exec (.eventInsert q) s = .next (s.stageOn) ∧
    exec (.eventCancel q) s = .next (s.stageOn) ∧
    exec (.headCtrl q) s = .next (s.stageOn) ∧
    exec (.appCtrl q) s = .next (s.stageOn) ∧
    exec (.appLoad q) s = .next (s.stageOn) ∧
    exec (.kernelLoad q) s = .next (s.stageOn) ∧
    exec (.veCancel q) s = .next (s.stageOn) ∧
    exec (.trackDecide q) s = .next (s.stageOn) ∧
    exec (.coilMark q) s = .next (s.stageOn) ∧
    exec (.archInfo q) s = .next (s.stageOn) ∧
    exec (.flashProgram q) s = .next (s.stageOn) ∧
    exec (.authRef q) s = .next (s.stageOn) ∧
    exec (.attest q) s = .next (s.stageOn) ∧
    (∀ bad, exec (.archRead q bad) s = .next (s.stageOn)) ∧ (s.host.staging = [] → s.stageOn = s.syncEngine))

/-- A lone staged command whose checks pass waits for its firing; one that needs an authorisation waits for its blob, or is refused
without it (R47, R360, R363, R364, R365, R366). It says that exec of writeReg, modeReq, eventInsert, eventCancel, headCtrl,
trackDecide, coilMark, epochAdvance, twinRelinquish, appCtrl, appLoad, warmRestart, flashProgram, authRef each completes with a
next state, for every state and operands that meet hypotheses on these alone. -/
def Obligations.StagedCommandsOfTheHost : Prop :=
  (∀ (s : State) (q : Queue) (p : Bytes) (rest : List Bytes),
    s.takesPackets q = true →
    s.host.staging = [] →
    (s.hq q).inbox = p :: rest →
    (s.hq q).chain = [] →
    (s.hq q).waitEnd = false →
    pktPos p = 0 →
    pktEnd p = true →
    pktOp p = opWriteReg →
    s.follows = false →
    s.mode ≠ modeLockdown →
    s.host.order.find? s.takesPackets = some q.val →
    s.needsAuth p = false →
    ((((s.syncEngine.onHq q (fun h => { h with inbox := rest })).onHost (fun h => { h with order := h.order.erase q.val })).waitEnd q false []).onHost (fun h => { h with staging := [{ q := q.val, cmds := [p], blob := false }] })).checkChain (qFunc q) false [p] = none →
    s.fn < s.efnOf [p] →
    s.efnOf [p] ≤ s.fn + 2 ^ 20 →
    s.chains.length < 256 →
    s.chainWrites (s.efnOf [p]) + chainCost [p] + (if s.efnOf [p] = s.fn + 1 then s.stage.length else 0) ≤ stageMax →
    ∃ t, exec (.writeReg q) s = .next t ∧ t.chains = s.chains ++ [{ fn := s.efnOf [p], writes := field p 16 1, q := some q.val, cmds := [p], seq := s.stagings }] ∧ t.stagings = s.stagings + 1 ∧ (t.hq q).inbox = rest ∧ (t.hq q).ready = (s.hq q).ready ∧ (t.hq q).chain = [] ∧ t.host.staging = [] ∧ t.host.out = s.host.out ∧ t.host.order = s.host.order.erase q.val ∧ t.stage = s.stage ∧ t.mem = s.mem ∧ t.cores = s.cores ∧ t.mode = s.mode ∧ (∀ k : Queue, k ≠ q → t.hq k = s.hq k)) ∧
  (∀ (s : State) (q : Queue) (p : Bytes) (rest : List Bytes),
    s.takesPackets q = true →
    s.host.staging = [] →
    (s.hq q).inbox = p :: rest →
    (s.hq q).chain = [] →
    (s.hq q).waitEnd = false →
    pktPos p = 0 →
    pktEnd p = true →
    pktOp p = opModeReq →
    s.follows = false →
    s.mode ≠ modeLockdown →
    s.host.order.find? s.takesPackets = some q.val →
    s.needsAuth p = false →
    s.checkCmd p false = stOk →
    (∃ r, pktRow p = some r ∧ r.accepts (qFunc q) = true ∧ pktClean p r = true) →
    pktRanges p = true →
    s.fn < s.efnOf [p] →
    s.efnOf [p] ≤ s.fn + 2 ^ 20 →
    s.chains.length < 256 →
    s.chainWrites (s.efnOf [p]) + chainCost [p] + (if s.efnOf [p] = s.fn + 1 then s.stage.length else 0) ≤ stageMax →
    ∃ t, exec (.modeReq q) s = .next t ∧ t.chains = s.chains ++ [{ fn := s.efnOf [p], writes := 1, q := some q.val, cmds := [p], seq := s.stagings }] ∧ t.stagings = s.stagings + 1 ∧ (t.hq q).inbox = rest ∧ (t.hq q).ready = (s.hq q).ready ∧ (t.hq q).chain = [] ∧ t.host.staging = [] ∧ t.host.out = s.host.out ∧ t.host.order = s.host.order.erase q.val ∧ t.stage = s.stage ∧ t.mem = s.mem ∧ t.cores = s.cores ∧ t.mode = s.mode ∧ (∀ k : Queue, k ≠ q → t.hq k = s.hq k)) ∧
  (∀ (s : State) (q : Queue) (p : Bytes) (rest : List Bytes),
    s.takesPackets q = true →
    s.host.staging = [] →
    (s.hq q).inbox = p :: rest →
    (s.hq q).chain = [] →
    (s.hq q).waitEnd = false →
    pktPos p = 0 →
    pktEnd p = true →
    pktOp p = opEventInsert →
    s.follows = false →
    s.mode ≠ modeLockdown →
    s.host.order.find? s.takesPackets = some q.val →
    s.needsAuth p = false →
    s.checkCmd p false = stOk →
    (∃ r, pktRow p = some r ∧ r.accepts (qFunc q) = true ∧ pktClean p r = true) →
    pktRanges p = true →
    s.fn < s.efnOf [p] →
    s.efnOf [p] ≤ s.fn + 2 ^ 20 →
    s.chains.length < 256 →
    s.chainWrites (s.efnOf [p]) + chainCost [p] + (if s.efnOf [p] = s.fn + 1 then s.stage.length else 0) ≤ stageMax →
    ∃ t, exec (.eventInsert q) s = .next t ∧ t.chains = s.chains ++ [{ fn := s.efnOf [p], writes := 0, q := some q.val, cmds := [p], seq := s.stagings }] ∧ t.stagings = s.stagings + 1 ∧ (t.hq q).inbox = rest ∧ (t.hq q).ready = (s.hq q).ready ∧ (t.hq q).chain = [] ∧ t.host.staging = [] ∧ t.host.out = s.host.out ∧ t.host.order = s.host.order.erase q.val ∧ t.stage = s.stage ∧ t.mem = s.mem ∧ t.cores = s.cores ∧ t.mode = s.mode ∧ (∀ k : Queue, k ≠ q → t.hq k = s.hq k)) ∧
  (∀ (s : State) (q : Queue) (p : Bytes) (rest : List Bytes),
    s.takesPackets q = true →
    s.host.staging = [] →
    (s.hq q).inbox = p :: rest →
    (s.hq q).chain = [] →
    (s.hq q).waitEnd = false →
    pktPos p = 0 →
    pktEnd p = true →
    pktOp p = opEventCancel →
    s.follows = false →
    s.mode ≠ modeLockdown →
    s.host.order.find? s.takesPackets = some q.val →
    s.needsAuth p = false →
    s.checkCmd p false = stOk →
    (∃ r, pktRow p = some r ∧ r.accepts (qFunc q) = true ∧ pktClean p r = true) →
    pktRanges p = true →
    s.fn < s.efnOf [p] →
    s.efnOf [p] ≤ s.fn + 2 ^ 20 →
    s.chains.length < 256 →
    s.chainWrites (s.efnOf [p]) + chainCost [p] + (if s.efnOf [p] = s.fn + 1 then s.stage.length else 0) ≤ stageMax →
    ∃ t, exec (.eventCancel q) s = .next t ∧ t.chains = s.chains ++ [{ fn := s.efnOf [p], writes := 0, q := some q.val, cmds := [p], seq := s.stagings }] ∧ t.stagings = s.stagings + 1 ∧ (t.hq q).inbox = rest ∧ (t.hq q).ready = (s.hq q).ready ∧ (t.hq q).chain = [] ∧ t.host.staging = [] ∧ t.host.out = s.host.out ∧ t.host.order = s.host.order.erase q.val ∧ t.stage = s.stage ∧ t.mem = s.mem ∧ t.cores = s.cores ∧ t.mode = s.mode ∧ (∀ k : Queue, k ≠ q → t.hq k = s.hq k)) ∧
  (∀ (s : State) (q : Queue) (p : Bytes) (rest : List Bytes),
    s.takesPackets q = true →
    s.host.staging = [] →
    (s.hq q).inbox = p :: rest →
    (s.hq q).chain = [] →
    (s.hq q).waitEnd = false →
    pktPos p = 0 →
    pktEnd p = true →
    pktOp p = opHeadCtrl →
    s.follows = false →
    s.mode ≠ modeLockdown →
    s.host.order.find? s.takesPackets = some q.val →
    s.needsAuth p = false →
    s.checkCmd p false = stOk →
    (∃ r, pktRow p = some r ∧ r.accepts (qFunc q) = true ∧ pktClean p r = true) →
    pktRanges p = true →
    s.fn < s.efnOf [p] →
    s.efnOf [p] ≤ s.fn + 2 ^ 20 →
    s.chains.length < 256 →
    s.chainWrites (s.efnOf [p]) + chainCost [p] + (if s.efnOf [p] = s.fn + 1 then s.stage.length else 0) ≤ stageMax →
    ∃ t, exec (.headCtrl q) s = .next t ∧ t.chains = s.chains ++ [{ fn := s.efnOf [p], writes := 1, q := some q.val, cmds := [p], seq := s.stagings }] ∧ t.stagings = s.stagings + 1 ∧ (t.hq q).inbox = rest ∧ (t.hq q).ready = (s.hq q).ready ∧ (t.hq q).chain = [] ∧ t.host.staging = [] ∧ t.host.out = s.host.out ∧ t.host.order = s.host.order.erase q.val ∧ t.stage = s.stage ∧ t.mem = s.mem ∧ t.cores = s.cores ∧ t.mode = s.mode ∧ (∀ k : Queue, k ≠ q → t.hq k = s.hq k)) ∧
  (∀ (s : State) (q : Queue) (p : Bytes) (rest : List Bytes),
    s.takesPackets q = true →
    s.host.staging = [] →
    (s.hq q).inbox = p :: rest →
    (s.hq q).chain = [] →
    (s.hq q).waitEnd = false →
    pktPos p = 0 →
    pktEnd p = true →
    pktOp p = opTrackDecide →
    s.follows = false →
    s.mode ≠ modeLockdown →
    s.host.order.find? s.takesPackets = some q.val →
    s.needsAuth p = false →
    s.checkCmd p false = stOk →
    (∃ r, pktRow p = some r ∧ r.accepts (qFunc q) = true ∧ pktClean p r = true) →
    pktRanges p = true →
    s.fn < s.efnOf [p] →
    s.efnOf [p] ≤ s.fn + 2 ^ 20 →
    s.chains.length < 256 →
    s.chainWrites (s.efnOf [p]) + chainCost [p] + (if s.efnOf [p] = s.fn + 1 then s.stage.length else 0) ≤ stageMax →
    ∃ t, exec (.trackDecide q) s = .next t ∧ t.chains = s.chains ++ [{ fn := s.efnOf [p], writes := 0, q := some q.val, cmds := [p], seq := s.stagings }] ∧ t.stagings = s.stagings + 1 ∧ (t.hq q).inbox = rest ∧ (t.hq q).ready = (s.hq q).ready ∧ (t.hq q).chain = [] ∧ t.host.staging = [] ∧ t.host.out = s.host.out ∧ t.host.order = s.host.order.erase q.val ∧ t.stage = s.stage ∧ t.mem = s.mem ∧ t.cores = s.cores ∧ t.mode = s.mode ∧ (∀ k : Queue, k ≠ q → t.hq k = s.hq k)) ∧
  (∀ (s : State) (q : Queue) (p : Bytes) (rest : List Bytes),
    s.takesPackets q = true →
    s.host.staging = [] →
    (s.hq q).inbox = p :: rest →
    (s.hq q).chain = [] →
    (s.hq q).waitEnd = false →
    pktPos p = 0 →
    pktEnd p = true →
    pktOp p = opCoilMark →
    s.follows = false →
    s.mode ≠ modeLockdown →
    s.host.order.find? s.takesPackets = some q.val →
    s.needsAuth p = false →
    s.checkCmd p false = stOk →
    (∃ r, pktRow p = some r ∧ r.accepts (qFunc q) = true ∧ pktClean p r = true) →
    pktRanges p = true →
    s.fn < s.efnOf [p] →
    s.efnOf [p] ≤ s.fn + 2 ^ 20 →
    s.chains.length < 256 →
    s.chainWrites (s.efnOf [p]) + chainCost [p] + (if s.efnOf [p] = s.fn + 1 then s.stage.length else 0) ≤ stageMax →
    ∃ t, exec (.coilMark q) s = .next t ∧ t.chains = s.chains ++ [{ fn := s.efnOf [p], writes := 0, q := some q.val, cmds := [p], seq := s.stagings }] ∧ t.stagings = s.stagings + 1 ∧ (t.hq q).inbox = rest ∧ (t.hq q).ready = (s.hq q).ready ∧ (t.hq q).chain = [] ∧ t.host.staging = [] ∧ t.host.out = s.host.out ∧ t.host.order = s.host.order.erase q.val ∧ t.stage = s.stage ∧ t.mem = s.mem ∧ t.cores = s.cores ∧ t.mode = s.mode ∧ (∀ k : Queue, k ≠ q → t.hq k = s.hq k)) ∧
  (∀ (s : State) (q : Queue) (a p : Bytes) (rest : List Bytes),
    s.takesPackets q = true →
    s.host.staging = [] →
    (s.hq q).inbox = p :: rest →
    (s.hq q).chain = [a] →
    (s.hq q).waitEnd = false →
    pktPos p = 1 →
    pktEnd p = true →
    pktOp a = opAuthRef →
    pktEfn p = pktEfn a →
    s.mode ≠ modeLockdown →
    s.host.order.find? s.takesPackets = some q.val →
    pktOp p = opEpochAdvance →
    s.follows = false →
    ∃ t, exec (.epochAdvance q) s = .next t ∧ t.host.staging = [{ q := q.val, cmds := [a, p], blob := true }] ∧ (t.hq q).inbox = rest ∧ t.host.order = s.host.order.erase q.val ∧ (t.hq q).chain = [] ∧ (t.hq q).ready = (s.hq q).ready ∧ t.flag (HQ_STAT_WAIT_CHAIN q) = false ∧ t.chains = s.chains ∧ t.stage = s.stage ∧ t.mem = s.mem ∧ t.cores = s.cores ∧ t.mode = s.mode ∧ t.arch = s.arch) ∧
  (∀ (s : State) (q : Queue) (a p : Bytes) (rest : List Bytes),
    s.takesPackets q = true →
    s.host.staging = [] →
    (s.hq q).inbox = p :: rest →
    (s.hq q).chain = [a] →
    (s.hq q).waitEnd = false →
    pktPos p = 1 →
    pktEnd p = true →
    pktOp a = opAuthRef →
    pktEfn p = pktEfn a →
    s.mode ≠ modeLockdown →
    s.host.order.find? s.takesPackets = some q.val →
    pktOp p = opTwinRelinquish →
    s.follows = false →
    ∃ t, exec (.twinRelinquish q) s = .next t ∧ t.host.staging = [{ q := q.val, cmds := [a, p], blob := true }] ∧ (t.hq q).inbox = rest ∧ t.host.order = s.host.order.erase q.val ∧ (t.hq q).chain = [] ∧ (t.hq q).ready = (s.hq q).ready ∧ t.flag (HQ_STAT_WAIT_CHAIN q) = false ∧ t.chains = s.chains ∧ t.stage = s.stage ∧ t.mem = s.mem ∧ t.cores = s.cores ∧ t.mode = s.mode ∧ t.arch = s.arch) ∧
  (∀ (s : State) (q : Queue) (a p : Bytes) (rest : List Bytes),
    s.takesPackets q = true →
    s.host.staging = [] →
    (s.hq q).inbox = p :: rest →
    (s.hq q).chain = [a] →
    (s.hq q).waitEnd = false →
    pktPos p = 1 →
    pktEnd p = true →
    pktOp a = opAuthRef →
    pktEfn p = pktEfn a →
    s.mode ≠ modeLockdown →
    s.host.order.find? s.takesPackets = some q.val →
    pktOp p = opAppCtrl →
    s.follows = false →
    ∃ t, exec (.appCtrl q) s = .next t ∧ t.host.staging = [{ q := q.val, cmds := [a, p], blob := true }] ∧ (t.hq q).inbox = rest ∧ t.host.order = s.host.order.erase q.val ∧ (t.hq q).chain = [] ∧ (t.hq q).ready = (s.hq q).ready ∧ t.flag (HQ_STAT_WAIT_CHAIN q) = false ∧ t.chains = s.chains ∧ t.stage = s.stage ∧ t.mem = s.mem ∧ t.cores = s.cores ∧ t.mode = s.mode ∧ t.arch = s.arch) ∧
  (∀ (s : State) (q : Queue) (a p : Bytes) (rest : List Bytes),
    s.takesPackets q = true →
    s.host.staging = [] →
    (s.hq q).inbox = p :: rest →
    (s.hq q).chain = [a] →
    (s.hq q).waitEnd = false →
    pktPos p = 1 →
    pktEnd p = true →
    pktOp a = opAuthRef →
    pktEfn p = pktEfn a →
    s.mode ≠ modeLockdown →
    s.host.order.find? s.takesPackets = some q.val →
    pktOp p = opAppLoad →
    s.follows = false →
    ∃ t, exec (.appLoad q) s = .next t ∧ t.host.staging = [{ q := q.val, cmds := [a, p], blob := true }] ∧ (t.hq q).inbox = rest ∧ t.host.order = s.host.order.erase q.val ∧ (t.hq q).chain = [] ∧ (t.hq q).ready = (s.hq q).ready ∧ t.flag (HQ_STAT_WAIT_CHAIN q) = false ∧ t.chains = s.chains ∧ t.stage = s.stage ∧ t.mem = s.mem ∧ t.cores = s.cores ∧ t.mode = s.mode ∧ t.arch = s.arch) ∧
  (∀ (s : State) (q : Queue) (a p : Bytes) (rest : List Bytes),
    s.takesPackets q = true →
    s.host.staging = [] →
    (s.hq q).inbox = p :: rest →
    (s.hq q).chain = [a] →
    (s.hq q).waitEnd = false →
    pktPos p = 1 →
    pktEnd p = true →
    pktOp a = opAuthRef →
    pktEfn p = pktEfn a →
    s.mode ≠ modeLockdown →
    s.host.order.find? s.takesPackets = some q.val →
    pktOp p = opWarmRestart →
    ∃ t, exec (.warmRestart q) s = .next t ∧ t.host.staging = [{ q := q.val, cmds := [a, p], blob := true }] ∧ (t.hq q).inbox = rest ∧ t.host.order = s.host.order.erase q.val ∧ (t.hq q).chain = [] ∧ (t.hq q).ready = (s.hq q).ready ∧ t.flag (HQ_STAT_WAIT_CHAIN q) = false ∧ t.chains = s.chains ∧ t.stage = s.stage ∧ t.mem = s.mem ∧ t.cores = s.cores ∧ t.mode = s.mode ∧ t.arch = s.arch) ∧
  (∀ (s : State) (q : Queue) (a p : Bytes) (rest : List Bytes),
    s.takesPackets q = true →
    s.host.staging = [] →
    (s.hq q).inbox = p :: rest →
    (s.hq q).chain = [a] →
    (s.hq q).waitEnd = false →
    pktPos p = 1 →
    pktEnd p = true →
    pktOp a = opAuthRef →
    pktEfn p = pktEfn a →
    s.mode ≠ modeLockdown →
    s.host.order.find? s.takesPackets = some q.val →
    pktOp p = opFlashProgram →
    ∃ t, exec (.flashProgram q) s = .next t ∧ t.host.staging = [{ q := q.val, cmds := [a, p], blob := true }] ∧ (t.hq q).inbox = rest ∧ t.host.order = s.host.order.erase q.val ∧ (t.hq q).chain = [] ∧ (t.hq q).ready = (s.hq q).ready ∧ t.flag (HQ_STAT_WAIT_CHAIN q) = false ∧ t.chains = s.chains ∧ t.stage = s.stage ∧ t.mem = s.mem ∧ t.cores = s.cores ∧ t.mode = s.mode ∧ t.arch = s.arch) ∧
  (∀ (s : State) (q : Queue) (p : Bytes) (rest : List Bytes),
    s.takesPackets q = true →
    s.host.staging = [] →
    (s.hq q).inbox = p :: rest →
    (s.hq q).chain = [] →
    (s.hq q).waitEnd = false →
    pktPos p = 0 →
    pktEnd p = true →
    pktOp p = opEpochAdvance →
    s.mode ≠ modeLockdown →
    s.follows = false →
    s.host.order.find? s.takesPackets = some q.val →
    ∃ t, exec (.epochAdvance q) s = .next t ∧ (t.hq q).inbox = rest ∧ (t.hq q).ready = (s.hq q).ready ++ [⟨pktTag p, stAuthRequired, false, s.holdsCpl (qFunc q), 0, []⟩] ∧ t.host.staging = [] ∧ (t.hq q).chain = [] ∧ t.chains = s.chains ∧ t.stage = s.stage ∧ t.mem = s.mem ∧ t.cores = s.cores ∧ (∀ k : Queue, k ≠ q → t.hq k = s.hq k)) ∧
  (∀ (s : State) (q : Queue) (p : Bytes) (rest : List Bytes),
    s.takesPackets q = true →
    s.host.staging = [] →
    (s.hq q).inbox = p :: rest →
    (s.hq q).chain = [] →
    (s.hq q).waitEnd = false →
    pktPos p = 0 →
    pktEnd p = true →
    pktOp p = opTwinRelinquish →
    s.mode ≠ modeLockdown →
    s.follows = false →
    s.host.order.find? s.takesPackets = some q.val →
    ∃ t, exec (.twinRelinquish q) s = .next t ∧ (t.hq q).inbox = rest ∧ (t.hq q).ready = (s.hq q).ready ++ [⟨pktTag p, stAuthRequired, false, s.holdsCpl (qFunc q), 0, []⟩] ∧ t.host.staging = [] ∧ (t.hq q).chain = [] ∧ t.chains = s.chains ∧ t.stage = s.stage ∧ t.mem = s.mem ∧ t.cores = s.cores ∧ (∀ k : Queue, k ≠ q → t.hq k = s.hq k)) ∧
  (∀ (s : State) (q : Queue) (p : Bytes) (rest : List Bytes),
    s.takesPackets q = true →
    s.host.staging = [] →
    (s.hq q).inbox = p :: rest →
    (s.hq q).chain = [] →
    (s.hq q).waitEnd = false →
    pktPos p = 0 →
    pktEnd p = true →
    pktOp p = opAppCtrl →
    s.mode ≠ modeLockdown →
    s.follows = false →
    s.host.order.find? s.takesPackets = some q.val →
    ∃ t, exec (.appCtrl q) s = .next t ∧ (t.hq q).inbox = rest ∧ (t.hq q).ready = (s.hq q).ready ++ [⟨pktTag p, stAuthRequired, false, s.holdsCpl (qFunc q), 0, []⟩] ∧ t.host.staging = [] ∧ (t.hq q).chain = [] ∧ t.chains = s.chains ∧ t.stage = s.stage ∧ t.mem = s.mem ∧ t.cores = s.cores ∧ (∀ k : Queue, k ≠ q → t.hq k = s.hq k)) ∧
  (∀ (s : State) (q : Queue) (p : Bytes) (rest : List Bytes),
    s.takesPackets q = true →
    s.host.staging = [] →
    (s.hq q).inbox = p :: rest →
    (s.hq q).chain = [] →
    (s.hq q).waitEnd = false →
    pktPos p = 0 →
    pktEnd p = true →
    pktOp p = opAppLoad →
    s.mode ≠ modeLockdown →
    s.follows = false →
    s.host.order.find? s.takesPackets = some q.val →
    ∃ t, exec (.appLoad q) s = .next t ∧ (t.hq q).inbox = rest ∧ (t.hq q).ready = (s.hq q).ready ++ [⟨pktTag p, stAuthRequired, false, s.holdsCpl (qFunc q), 0, []⟩] ∧ t.host.staging = [] ∧ (t.hq q).chain = [] ∧ t.chains = s.chains ∧ t.stage = s.stage ∧ t.mem = s.mem ∧ t.cores = s.cores ∧ (∀ k : Queue, k ≠ q → t.hq k = s.hq k)) ∧
  (∀ (s : State) (q : Queue) (p : Bytes) (rest : List Bytes),
    s.takesPackets q = true →
    s.host.staging = [] →
    (s.hq q).inbox = p :: rest →
    (s.hq q).chain = [] →
    (s.hq q).waitEnd = false →
    pktPos p = 0 →
    pktEnd p = true →
    pktOp p = opWarmRestart →
    s.mode ≠ modeLockdown →
    ∃ t, exec (.warmRestart q) s = .next t ∧ (t.hq q).inbox = rest ∧ (t.hq q).ready = (s.hq q).ready ++ [⟨pktTag p, stAuthRequired, false, s.holdsCpl (qFunc q), s.fn, []⟩] ∧ t.host.staging = [] ∧ (t.hq q).chain = [] ∧ t.chains = s.chains ∧ t.stage = s.stage ∧ t.mem = s.mem ∧ t.cores = s.cores ∧ (∀ k : Queue, k ≠ q → t.hq k = s.hq k)) ∧
  (∀ (s : State) (q : Queue) (p : Bytes) (rest : List Bytes),
    s.takesPackets q = true →
    s.host.staging = [] →
    (s.hq q).inbox = p :: rest →
    (s.hq q).chain = [] →
    (s.hq q).waitEnd = false →
    pktPos p = 0 →
    pktEnd p = true →
    pktOp p = opFlashProgram →
    s.mode ≠ modeLockdown →
    ∃ t, exec (.flashProgram q) s = .next t ∧ (t.hq q).inbox = rest ∧ (t.hq q).ready = (s.hq q).ready ++ [⟨pktTag p, stAuthRequired, false, s.holdsCpl (qFunc q), s.fn, []⟩] ∧ t.host.staging = [] ∧ (t.hq q).chain = [] ∧ t.chains = s.chains ∧ t.stage = s.stage ∧ t.mem = s.mem ∧ t.cores = s.cores ∧ (∀ k : Queue, k ≠ q → t.hq k = s.hq k)) ∧
  (∀ (s : State) (q : Queue) (p : Bytes) (rest : List Bytes),
    s.takesPackets q = true →
    s.host.staging = [] →
    (s.hq q).inbox = p :: rest →
    (s.hq q).chain = [] →
    (s.hq q).waitEnd = false →
    pktPos p = 0 →
    pktEnd p = false →
    pktOp p = opAuthRef →
    ∃ t, exec (.authRef q) s = .next t ∧ (t.hq q).inbox = rest ∧ (t.hq q).chain = [p] ∧ (t.hq q).chainTt = (s.hq q).chainTt ∧ t.host.order = s.host.order ∧ (t.hq q).waitEnd = false ∧ (t.hq q).ready = (s.hq q).ready ∧ t.flag (HQ_STAT_WAIT_CHAIN q) = true ∧ t.host.staging = [] ∧ t.chains = s.chains ∧ t.mem = s.mem ∧ t.cores = s.cores) ∧
  (∀ (s : State) (q : Queue) (p : Bytes) (rest : List Bytes),
    s.takesPackets q = true →
    s.host.staging = [] →
    (s.hq q).inbox = p :: rest →
    (s.hq q).chain = [] →
    (s.hq q).waitEnd = false →
    pktPos p = 0 →
    pktEnd p = true →
    s.mode = modeLockdown →
    s.host.order.find? s.takesPackets = some q.val →
    (pktOp p = opWriteReg → ∃ t, exec (.writeReg q) s = .next t ∧ (t.hq q).inbox = rest ∧ (t.hq q).ready = (s.hq q).ready ++ [⟨pktTag p, stMode, false, s.holdsCpl (qFunc q), 0, []⟩] ∧ t.chains = s.chains ∧ t.mem = s.mem ∧ t.cores = s.cores) ∧
    (pktOp p = opModeReq → ∃ t, exec (.modeReq q) s = .next t ∧ (t.hq q).inbox = rest ∧ (t.hq q).ready = (s.hq q).ready ++ [⟨pktTag p, stMode, false, s.holdsCpl (qFunc q), 0, []⟩] ∧ t.chains = s.chains ∧ t.mem = s.mem ∧ t.cores = s.cores) ∧
    (pktOp p = opEpochAdvance → ∃ t, exec (.epochAdvance q) s = .next t ∧ (t.hq q).inbox = rest ∧ (t.hq q).ready = (s.hq q).ready ++ [⟨pktTag p, stMode, false, s.holdsCpl (qFunc q), 0, []⟩] ∧ t.chains = s.chains ∧ t.mem = s.mem ∧ t.cores = s.cores) ∧
    (pktOp p = opTwinRelinquish → ∃ t, exec (.twinRelinquish q) s = .next t ∧ (t.hq q).inbox = rest ∧ (t.hq q).ready = (s.hq q).ready ++ [⟨pktTag p, stMode, false, s.holdsCpl (qFunc q), 0, []⟩] ∧ t.chains = s.chains ∧ t.mem = s.mem ∧ t.cores = s.cores) ∧
    (pktOp p = opEventInsert → ∃ t, exec (.eventInsert q) s = .next t ∧ (t.hq q).inbox = rest ∧ (t.hq q).ready = (s.hq q).ready ++ [⟨pktTag p, stMode, false, s.holdsCpl (qFunc q), 0, []⟩] ∧ t.chains = s.chains ∧ t.mem = s.mem ∧ t.cores = s.cores) ∧
    (pktOp p = opEventCancel → ∃ t, exec (.eventCancel q) s = .next t ∧ (t.hq q).inbox = rest ∧ (t.hq q).ready = (s.hq q).ready ++ [⟨pktTag p, stMode, false, s.holdsCpl (qFunc q), 0, []⟩] ∧ t.chains = s.chains ∧ t.mem = s.mem ∧ t.cores = s.cores) ∧
    (pktOp p = opHeadCtrl → ∃ t, exec (.headCtrl q) s = .next t ∧ (t.hq q).inbox = rest ∧ (t.hq q).ready = (s.hq q).ready ++ [⟨pktTag p, stMode, false, s.holdsCpl (qFunc q), 0, []⟩] ∧ t.chains = s.chains ∧ t.mem = s.mem ∧ t.cores = s.cores) ∧
    (pktOp p = opAppCtrl → ∃ t, exec (.appCtrl q) s = .next t ∧ (t.hq q).inbox = rest ∧ (t.hq q).ready = (s.hq q).ready ++ [⟨pktTag p, stMode, false, s.holdsCpl (qFunc q), 0, []⟩] ∧ t.chains = s.chains ∧ t.mem = s.mem ∧ t.cores = s.cores) ∧
    (pktOp p = opAppLoad → ∃ t, exec (.appLoad q) s = .next t ∧ (t.hq q).inbox = rest ∧ (t.hq q).ready = (s.hq q).ready ++ [⟨pktTag p, stMode, false, s.holdsCpl (qFunc q), 0, []⟩] ∧ t.chains = s.chains ∧ t.mem = s.mem ∧ t.cores = s.cores) ∧
    (pktOp p = opTrackDecide → ∃ t, exec (.trackDecide q) s = .next t ∧ (t.hq q).inbox = rest ∧ (t.hq q).ready = (s.hq q).ready ++ [⟨pktTag p, stMode, false, s.holdsCpl (qFunc q), 0, []⟩] ∧ t.chains = s.chains ∧ t.mem = s.mem ∧ t.cores = s.cores) ∧
    (pktOp p = opCoilMark → ∃ t, exec (.coilMark q) s = .next t ∧ (t.hq q).inbox = rest ∧ (t.hq q).ready = (s.hq q).ready ++ [⟨pktTag p, stMode, false, s.holdsCpl (qFunc q), 0, []⟩] ∧ t.chains = s.chains ∧ t.mem = s.mem ∧ t.cores = s.cores) ∧
    (pktOp p = opAuthRef → ∃ t, exec (.authRef q) s = .next t ∧ (t.hq q).inbox = rest ∧ (t.hq q).ready = (s.hq q).ready ++ [⟨pktTag p, stMode, false, s.holdsCpl (qFunc q), 0, []⟩] ∧ t.chains = s.chains ∧ t.mem = s.mem ∧ t.cores = s.cores)) ∧
  (∀ (s : State) (q : Queue) (p : Bytes) (rest : List Bytes),
    s.takesPackets q = true →
    s.host.staging = [] →
    (s.hq q).inbox = p :: rest →
    (s.hq q).chain = [] →
    (s.hq q).waitEnd = false →
    pktPos p = 0 →
    pktEnd p = true →
    s.mode ≠ modeLockdown →
    s.follows = true →
    s.host.order.find? s.takesPackets = some q.val →
    (pktOp p = opWriteReg → ∃ t, exec (.writeReg q) s = .next t ∧ (t.hq q).inbox = rest ∧ (t.hq q).ready = (s.hq q).ready ++ [⟨pktTag p, stState, false, s.holdsCpl (qFunc q), 0, []⟩] ∧ t.chains = s.chains ∧ t.mem = s.mem ∧ t.cores = s.cores) ∧
    (pktOp p = opModeReq → ∃ t, exec (.modeReq q) s = .next t ∧ (t.hq q).inbox = rest ∧ (t.hq q).ready = (s.hq q).ready ++ [⟨pktTag p, stState, false, s.holdsCpl (qFunc q), 0, []⟩] ∧ t.chains = s.chains ∧ t.mem = s.mem ∧ t.cores = s.cores) ∧
    (pktOp p = opEpochAdvance → ∃ t, exec (.epochAdvance q) s = .next t ∧ (t.hq q).inbox = rest ∧ (t.hq q).ready = (s.hq q).ready ++ [⟨pktTag p, stState, false, s.holdsCpl (qFunc q), 0, []⟩] ∧ t.chains = s.chains ∧ t.mem = s.mem ∧ t.cores = s.cores) ∧
    (pktOp p = opTwinRelinquish → ∃ t, exec (.twinRelinquish q) s = .next t ∧ (t.hq q).inbox = rest ∧ (t.hq q).ready = (s.hq q).ready ++ [⟨pktTag p, stState, false, s.holdsCpl (qFunc q), 0, []⟩] ∧ t.chains = s.chains ∧ t.mem = s.mem ∧ t.cores = s.cores) ∧
    (pktOp p = opEventInsert → ∃ t, exec (.eventInsert q) s = .next t ∧ (t.hq q).inbox = rest ∧ (t.hq q).ready = (s.hq q).ready ++ [⟨pktTag p, stState, false, s.holdsCpl (qFunc q), 0, []⟩] ∧ t.chains = s.chains ∧ t.mem = s.mem ∧ t.cores = s.cores) ∧
    (pktOp p = opEventCancel → ∃ t, exec (.eventCancel q) s = .next t ∧ (t.hq q).inbox = rest ∧ (t.hq q).ready = (s.hq q).ready ++ [⟨pktTag p, stState, false, s.holdsCpl (qFunc q), 0, []⟩] ∧ t.chains = s.chains ∧ t.mem = s.mem ∧ t.cores = s.cores) ∧
    (pktOp p = opHeadCtrl → ∃ t, exec (.headCtrl q) s = .next t ∧ (t.hq q).inbox = rest ∧ (t.hq q).ready = (s.hq q).ready ++ [⟨pktTag p, stState, false, s.holdsCpl (qFunc q), 0, []⟩] ∧ t.chains = s.chains ∧ t.mem = s.mem ∧ t.cores = s.cores) ∧
    (pktOp p = opAppCtrl → ∃ t, exec (.appCtrl q) s = .next t ∧ (t.hq q).inbox = rest ∧ (t.hq q).ready = (s.hq q).ready ++ [⟨pktTag p, stState, false, s.holdsCpl (qFunc q), 0, []⟩] ∧ t.chains = s.chains ∧ t.mem = s.mem ∧ t.cores = s.cores) ∧
    (pktOp p = opAppLoad → ∃ t, exec (.appLoad q) s = .next t ∧ (t.hq q).inbox = rest ∧ (t.hq q).ready = (s.hq q).ready ++ [⟨pktTag p, stState, false, s.holdsCpl (qFunc q), 0, []⟩] ∧ t.chains = s.chains ∧ t.mem = s.mem ∧ t.cores = s.cores) ∧
    (pktOp p = opTrackDecide → ∃ t, exec (.trackDecide q) s = .next t ∧ (t.hq q).inbox = rest ∧ (t.hq q).ready = (s.hq q).ready ++ [⟨pktTag p, stState, false, s.holdsCpl (qFunc q), 0, []⟩] ∧ t.chains = s.chains ∧ t.mem = s.mem ∧ t.cores = s.cores) ∧
    (pktOp p = opCoilMark → ∃ t, exec (.coilMark q) s = .next t ∧ (t.hq q).inbox = rest ∧ (t.hq q).ready = (s.hq q).ready ++ [⟨pktTag p, stState, false, s.holdsCpl (qFunc q), 0, []⟩] ∧ t.chains = s.chains ∧ t.mem = s.mem ∧ t.cores = s.cores) ∧
    (pktOp p = opAuthRef → ∃ t, exec (.authRef q) s = .next t ∧ (t.hq q).inbox = rest ∧ (t.hq q).ready = (s.hq q).ready ++ [⟨pktTag p, stState, false, s.holdsCpl (qFunc q), 0, []⟩] ∧ t.chains = s.chains ∧ t.mem = s.mem ∧ t.cores = s.cores)) ∧
  (∀ (s : State) (q q2 : Queue) (p : Bytes) (rest : List Bytes),
    s.takesPackets q = true →
    s.host.staging = [] →
    (s.hq q).inbox = p :: rest →
    pktStaged p = true →
    pktEnd p = true →
    s.host.order.find? s.takesPackets = some q2.val →
    q2 ≠ q →
    exec (.writeReg q) s = .next (s.syncEngine) ∧
    exec (.modeReq q) s = .next (s.syncEngine) ∧
    exec (.epochAdvance q) s = .next (s.syncEngine) ∧
    exec (.twinRelinquish q) s = .next (s.syncEngine) ∧
    exec (.eventInsert q) s = .next (s.syncEngine) ∧
    exec (.eventCancel q) s = .next (s.syncEngine) ∧
    exec (.headCtrl q) s = .next (s.syncEngine) ∧
    exec (.appCtrl q) s = .next (s.syncEngine) ∧
    exec (.appLoad q) s = .next (s.syncEngine) ∧
    exec (.trackDecide q) s = .next (s.syncEngine) ∧
    exec (.coilMark q) s = .next (s.syncEngine) ∧
    exec (.authRef q) s = .next (s.syncEngine))

/-- A branch, a jump or any SYS-class instruction in a delay slot raises ILLEGAL, whether or not the slot is annulled (R252). -/
def Obligations.NoBranchNorSystemInstructionInADelaySlot : Prop :=
  ∀ (s u : State) (g : Group) (an : Bool) (ra rb : GReg) (off : BitVec 15) (off25 : BitVec 25) (n : LoopCount) (e : BitVec 13) (sr : BitVec 5) (k : BitVec 10),
    s.fetches u g = true →
    (u.core g).delay ≠ none →
    (u.core g).tsbOk = true →
    (u.core g).nest.val < 15 →
    (∃ t, exec (.beq g an ra rb off) s = .next t ∧ u.inHandler t g ((u.core g).evb + 0x40) 0x01 (wordB 0x20 an ra rb off) false (u.core g).prio.val) ∧
    (∃ t, exec (.bne g an ra rb off) s = .next t ∧ u.inHandler t g ((u.core g).evb + 0x40) 0x01 (wordB 0x21 an ra rb off) false (u.core g).prio.val) ∧
    (∃ t, exec (.blt g an ra rb off) s = .next t ∧ u.inHandler t g ((u.core g).evb + 0x40) 0x01 (wordB 0x22 an ra rb off) false (u.core g).prio.val) ∧
    (∃ t, exec (.bge g an ra rb off) s = .next t ∧ u.inHandler t g ((u.core g).evb + 0x40) 0x01 (wordB 0x23 an ra rb off) false (u.core g).prio.val) ∧
    (∃ t, exec (.bltu g an ra rb off) s = .next t ∧ u.inHandler t g ((u.core g).evb + 0x40) 0x01 (wordB 0x24 an ra rb off) false (u.core g).prio.val) ∧
    (∃ t, exec (.bgeu g an ra rb off) s = .next t ∧ u.inHandler t g ((u.core g).evb + 0x40) 0x01 (wordB 0x25 an ra rb off) false (u.core g).prio.val) ∧
    (∃ t, exec (.j g off25) s = .next t ∧ u.inHandler t g ((u.core g).evb + 0x40) 0x01 (wordJ 0x28 off25) false (u.core g).prio.val) ∧
    (∃ t, exec (.jal g off25) s = .next t ∧ u.inHandler t g ((u.core g).evb + 0x40) 0x01 (wordJ 0x29 off25) false (u.core g).prio.val) ∧
    (∃ t, exec (.jalr g rb ra off) s = .next t ∧ u.inHandler t g ((u.core g).evb + 0x40) 0x01 (wordB 0x2A false ra rb off) false (u.core g).prio.val) ∧
    (∃ t, exec (.loop g n e) s = .next t ∧ u.inHandler t g ((u.core g).evb + 0x40) 0x01 (wordL 0x30 n e) false (u.core g).prio.val) ∧
    (∃ t, exec (.mfs g rb sr) s = .next t ∧ u.inHandler t g ((u.core g).evb + 0x40) 0x01 (wordS rb 0 (sr.toNat * 32) 0x00) false (u.core g).prio.val) ∧
    (∃ t, exec (.mts g sr ra) s = .next t ∧ u.inHandler t g ((u.core g).evb + 0x40) 0x01 (wordS 0 ra (sr.toNat * 32) 0x01) false (u.core g).prio.val) ∧
    (∃ t, exec (.trap g k) s = .next t ∧ u.inHandler t g ((u.core g).evb + 0x40) 0x01 (wordS 0 0 k.toNat 0x05) false (u.core g).prio.val) ∧
    (∃ t, exec (.wait g) s = .next t ∧ u.inHandler t g ((u.core g).evb + 0x40) 0x01 (wordS 0 0 0 0x04) false (u.core g).prio.val) ∧
    (∃ t, exec (.rfe g) s = .next t ∧ u.inHandler t g ((u.core g).evb + 0x40) 0x01 (wordS 0 0 0 0x06) false (u.core g).prio.val) ∧
    (∃ t, exec (.iflush g) s = .next t ∧ u.inHandler t g ((u.core g).evb + 0x40) 0x01 (wordS 0 0 0 0x08) false (u.core g).prio.val) ∧
    (∃ t, exec (.pflush g) s = .next t ∧ u.inHandler t g ((u.core g).evb + 0x40) 0x01 (wordS 0 0 0 0x09) false (u.core g).prio.val) ∧
    (∃ t, exec (.pbar g) s = .next t ∧ u.inHandler t g ((u.core g).evb + 0x40) 0x01 (wordS 0 0 0 0x0A) false (u.core g).prio.val) ∧
    (∃ t, exec (.fence g) s = .next t ∧ u.inHandler t g ((u.core g).evb + 0x40) 0x01 (wordS 0 0 0 0x0B) false (u.core g).prio.val)
end

