-- ==== Sys2Proof/Laws/Commands.lean ====
section
/-! SUPPORT. What the operations that many commands share can do: register writes that stand as commands, requests that the
sagger's engines serve, and packets that Kilnware takes. -/

namespace Sys2Proof.Machine

/-! ### Register writes that stand as commands (R4, R316, R320, R482) -/

/-- A write at a region locked against the master leaves the denial. -/
theorem portal_of_locked {s t : State} {m : Master} {off : Nat} {ok : Bool} (h : s.lockDenies m (0x40000000 + off) = true) :
    s.portal m off ok t = s.deniedBy m off := by
  simp [State.portal, State.deniedBy, h]

/-- A write at an instance that the part lacks leaves nothing. -/
theorem portal_of_absent {s t : State} {m : Master} {off : Nat} {ok : Bool} (h : s.lockDenies m (0x40000000 + off) = false)
    (a : absentAt s.part off = true) : s.portal m off ok t = s := by
  simp [State.portal, h, a]

/-- A write that arrives and that its master may not make is refused. -/
theorem portal_of_refused {s t : State} {m : Master} {off : Nat} (h : s.reaches m off = true) :
    s.portal m off false t = s.refusedBy m off := by
  simp only [State.reaches, Bool.and_eq_true, Bool.not_eq_true'] at h
  simp [State.portal, State.refusedBy, h.1, h.2]

/-- A write that arrives and that its master may make has its effect. -/
theorem portal_of_allowed {s t : State} {m : Master} {off : Nat} (h : s.reaches m off = true) : s.portal m off true t = t := by
  simp only [State.reaches, Bool.and_eq_true, Bool.not_eq_true'] at h
  simp [State.portal, h.1, h.2]

/-- What a register write that stands as a command can leave: the denial, the refusal, nothing, or its effect. -/
theorem portal_cases (s t : State) (m : Master) (off : Nat) (ok : Bool) :
    (s.lockDenies m (0x40000000 + off) = true ∧ s.portal m off ok t = s.deniedBy m off) ∨
    (absentAt s.part off = true ∧ s.portal m off ok t = s) ∨
    (s.reaches m off = true ∧ ok = false ∧ s.portal m off ok t = s.refusedBy m off) ∨
    (s.reaches m off = true ∧ ok = true ∧ s.portal m off ok t = t) := by
  cases h : s.lockDenies m (0x40000000 + off) with
  | true => exact .inl ⟨rfl, portal_of_locked h⟩
  | false =>
    cases a : absentAt s.part off with
    | true => exact .inr (.inl ⟨rfl, portal_of_absent h a⟩)
    | false =>
      have r : s.reaches m off = true := by simp [State.reaches, h, a]
      cases ok with
      | false => exact .inr (.inr (.inl ⟨r, rfl, portal_of_refused r⟩))
      | true => exact .inr (.inr (.inr ⟨r, rfl, portal_of_allowed r⟩))

/-! ### The sagger's engines (R420) -/

/-- A request that is served runs at the head of the engines' queue and leaves it; nothing else changes. -/
theorem served_eq {s u : State} {r : SagReq} (h : s.served r = some u) :
    s.syncEngine.sag.engine.head? = some r ∧ u = s.syncEngine.onSag (fun x => { x with engine := x.engine.tail }) := by
  unfold State.served at h
  dsimp only at h
  split at h
  · exact ⟨‹_›, (Option.some.inj h).symm⟩
  · cases h

theorem served_regs {s u : State} {r : SagReq} (h : s.served r = some u) : u.regs = s.regs := by rw [(served_eq h).2]; rfl
theorem served_mem {s u : State} {r : SagReq} (h : s.served r = some u) : u.mem = s.mem := by rw [(served_eq h).2]; rfl
theorem served_host {s u : State} {r : SagReq} (h : s.served r = some u) : u.host = s.host := by rw [(served_eq h).2]; rfl
theorem served_cores {s u : State} {r : SagReq} (h : s.served r = some u) : u.cores = s.cores := by rw [(served_eq h).2]; rfl

/-! ### Packets (R360 to R366) -/

/-- With nothing being staged, staging going on only brings the engines' queue in line. -/
theorem stageOn_of_nil {s : State} (h : s.host.staging = []) : s.stageOn = s.syncEngine := by
  simp [State.stageOn, h, State.drainStaging]

/-- Where Kilnware takes no packets of a queue, none is taken. -/
theorem takeRow_of_idle {s : State} {q op : Nat} {bad : Option (Nat × Nat)} (h : s.takesPackets q = false) : s.takeRow q op bad = s := by
  simp [State.takeRow, h]

end Sys2Proof.Machine
end

