-- ==== Sys2Proof/Laws/Sparse.lean ====
section
/-! SUPPORT. Laws of sparse lists and of bit fields: reading after writing, and the canonical form. -/

namespace Sys2Proof.Machine

/-! ### Reading after writing -/

@[simp] theorem lookup_dropKey_same {α : Type} (l : List (Nat × α)) (k : Nat) : lookup (dropKey l k) k = none := by
  induction l with
  | nil => rfl
  | cons e r ih => obtain ⟨a, v⟩ := e; by_cases h : a = k <;> simp [dropKey, lookup, h, ih]

theorem lookup_dropKey_other {α : Type} (l : List (Nat × α)) {j k : Nat} (h : j ≠ k) : lookup (dropKey l k) j = lookup l j := by
  induction l with
  | nil => rfl
  | cons e r ih =>
    obtain ⟨a, v⟩ := e
    by_cases h1 : a = k
    · have h2 : a ≠ j := fun e => h (e.symm.trans h1)
      simp [dropKey, lookup, h1, ih, Ne.symm h]
    · by_cases h2 : a = j
      · subst h2; simp [dropKey, lookup, h]
      · simp [dropKey, lookup, h1, h2, ih]

@[simp] theorem lookup_putKey_same {α : Type} (l : List (Nat × α)) (k : Nat) (v : α) : lookup (putKey l k v) k = some v := by
  induction l with
  | nil => simp [putKey, lookup]
  | cons e r ih =>
    obtain ⟨a, w⟩ := e
    unfold putKey
    split
    · simp [lookup]
    · split
      · simp [lookup]
      · rename_i h1 h2
        simp [lookup, ih, Ne.symm h2]

theorem lookup_putKey_other {α : Type} (l : List (Nat × α)) {j k : Nat} (v : α) (h : j ≠ k) :
    lookup (putKey l k v) j = lookup l j := by
  induction l with
  | nil => simp [putKey, lookup, Ne.symm h]
  | cons e r ih =>
    obtain ⟨a, w⟩ := e
    unfold putKey
    split
    · simp [lookup, Ne.symm h]
    · split
      · rename_i h1 h2; subst h2; simp [lookup, Ne.symm h]
      · by_cases h3 : a = j <;> simp [lookup, h3, ih]

/-- A key that has been set reads as its value. -/
@[simp] theorem lookup_setKey_same {α : Type} [DecidableEq α] (l : List (Nat × α)) (k : Nat) (v d : α) :
    (lookup (setKey l k v d) k).getD d = v := by
  unfold setKey
  split
  · rename_i h; simp [h]
  · simp

/-- Setting a key leaves what every other key reads as. -/
theorem lookup_setKey_other {α : Type} [DecidableEq α] (l : List (Nat × α)) {j k : Nat} (v d : α) (h : j ≠ k) :
    lookup (setKey l k v d) j = lookup l j := by
  unfold setKey
  split
  · exact lookup_dropKey_other l h
  · exact lookup_putKey_other l v h

/-- What a key reads as in a list without the entries that a test on keys rejects. -/
theorem lookup_filter {α : Type} (l : List (Nat × α)) (p : Nat → Bool) (k : Nat) :
    lookup (l.filter (fun e => p e.1)) k = if p k then lookup l k else none := by
  induction l with
  | nil => simp [lookup]
  | cons e r ih =>
    obtain ⟨a, v⟩ := e
    by_cases h : a = k
    · subst h; by_cases hp : p a <;> simp [hp, lookup, ih]
    · by_cases hp : p a <;> simp [hp, lookup, ih, h]

/-! ### The canonical form -/

theorem keysAbove_iff {α : Type} (k : Nat) (l : List (Nat × α)) : keysAbove k l = true ↔ ∀ e ∈ l, k < e.1 := by
  induction l with
  | nil => simp [keysAbove]
  | cons e r ih => obtain ⟨a, v⟩ := e; simp [keysAbove, ih]

theorem keysRise_iff {α : Type} (l : List (Nat × α)) : keysRise l = true ↔ l.Pairwise (fun a b => a.1 < b.1) := by
  induction l with
  | nil => simp [keysRise]
  | cons e r ih => obtain ⟨a, v⟩ := e; simp [keysRise, keysAbove_iff, ih]

theorem dropKey_eq_filter {α : Type} (l : List (Nat × α)) (k : Nat) : dropKey l k = l.filter (fun e => decide (e.1 ≠ k)) := by
  induction l with
  | nil => rfl
  | cons e r ih => obtain ⟨a, v⟩ := e; by_cases h : a = k <;> simp [dropKey, h, ih]

theorem mem_putKey {α : Type} {l : List (Nat × α)} {k : Nat} {v : α} {e : Nat × α} (h : e ∈ putKey l k v) : e = (k, v) ∨ e ∈ l := by
  induction l with
  | nil => simpa [putKey] using h
  | cons x r ih =>
    obtain ⟨a, w⟩ := x
    unfold putKey at h
    split at h
    · simpa using h
    · split at h
      · rcases List.mem_cons.1 h with h | h
        · exact .inl h
        · exact .inr (List.mem_cons_of_mem _ h)
      · rcases List.mem_cons.1 h with h | h
        · exact .inr (h ▸ List.mem_cons_self ..)
        · exact (ih h).imp id (List.mem_cons_of_mem _)

theorem keysRise_filter {α : Type} {l : List (Nat × α)} (p : Nat × α → Bool) (h : keysRise l = true) : keysRise (l.filter p) = true := by
  rw [keysRise_iff] at *
  exact h.filter p

theorem keysRise_dropKey {α : Type} {l : List (Nat × α)} (k : Nat) (h : keysRise l = true) : keysRise (dropKey l k) = true := by
  rw [dropKey_eq_filter]; exact keysRise_filter _ h

theorem keysRise_putKey {α : Type} {l : List (Nat × α)} (k : Nat) (v : α) (h : keysRise l = true) : keysRise (putKey l k v) = true := by
  induction l with
  | nil => rfl
  | cons e r ih =>
    obtain ⟨a, w⟩ := e
    rw [keysRise_iff, List.pairwise_cons] at h
    unfold putKey
    split
    · rename_i h1
      rw [keysRise_iff, List.pairwise_cons, List.pairwise_cons]
      refine ⟨fun x hx => ?_, h⟩
      rcases List.mem_cons.1 hx with hx | hx
      · simpa [hx] using h1
      · exact lt_trans h1 (h.1 x hx)
    · split
      · rename_i h1 h2
        rw [keysRise_iff, List.pairwise_cons]
        exact ⟨fun x hx => by simpa [h2] using h.1 x hx, h.2⟩
      · rename_i h1 h2
        rw [keysRise_iff, List.pairwise_cons, ← keysRise_iff]
        refine ⟨fun x hx => ?_, ih ((keysRise_iff r).2 h.2)⟩
        rcases mem_putKey hx with hx | hx
        · simp [hx]; omega
        · exact h.1 x hx

theorem keysRise_setKey {α : Type} [DecidableEq α] {l : List (Nat × α)} (k : Nat) (v d : α) (h : keysRise l = true) :
    keysRise (setKey l k v d) = true := by
  unfold setKey
  split
  · exact keysRise_dropKey k h
  · exact keysRise_putKey k v h

theorem mem_setKey {α : Type} [DecidableEq α] {l : List (Nat × α)} {k : Nat} {v d : α} {e : Nat × α} (h : e ∈ setKey l k v d) :
    (e = (k, v) ∧ v ≠ d) ∨ e ∈ l := by
  unfold setKey at h
  split at h
  · rw [dropKey_eq_filter] at h; exact .inr (List.mem_filter.1 h).1
  · rename_i hv; exact (mem_putKey h).imp (fun x => ⟨x, hv⟩) id

/-! ### Bit fields -/

theorem bitsOf_lt (v lo width : Nat) : bitsOf v lo width < 2 ^ width :=
  Nat.mod_lt _ (Nat.two_pow_pos _)

theorem testBit_bitsOf (v lo width i : Nat) : (bitsOf v lo width).testBit i = (decide (i < width) && v.testBit (lo + i)) := by
  unfold bitsOf
  rw [Nat.testBit_mod_two_pow, Nat.testBit_div_two_pow, Nat.add_comm]

/-- A number split at a field: the bits above it, the field, the bits below it. -/
theorem split_bits (v lo width : Nat) : v = (v / 2 ^ (lo + width) * 2 ^ width + bitsOf v lo width) * 2 ^ lo + v % 2 ^ lo := by
  unfold bitsOf
  have h1 := Nat.div_add_mod v (2 ^ lo)
  have h2 := Nat.div_add_mod (v / 2 ^ lo) (2 ^ width)
  rw [Nat.div_div_eq_div_mul, ← pow_add] at h2
  calc v = 2 ^ lo * (v / 2 ^ lo) + v % 2 ^ lo := h1.symm
    _ = 2 ^ lo * (2 ^ width * (v / 2 ^ (lo + width)) + v / 2 ^ lo % 2 ^ width) + v % 2 ^ lo := by rw [h2]
    _ = _ := by ring

/-- A field replaced, as the bits above it, the new field and the bits below it. -/
theorem withBits_eq (v lo width x : Nat) :
    withBits v lo width x = (v / 2 ^ (lo + width) * 2 ^ width + x % 2 ^ width) * 2 ^ lo + v % 2 ^ lo := by
  unfold withBits
  have h := split_bits v lo width
  have e : v - bitsOf v lo width * 2 ^ lo = v / 2 ^ (lo + width) * 2 ^ width * 2 ^ lo + v % 2 ^ lo := by
    conv_lhs => rw [h]
    have e2 : (v / 2 ^ (lo + width) * 2 ^ width + bitsOf v lo width) * 2 ^ lo + v % 2 ^ lo
        = v / 2 ^ (lo + width) * 2 ^ width * 2 ^ lo + v % 2 ^ lo + bitsOf v lo width * 2 ^ lo := by ring
    have e3 : bitsOf ((v / 2 ^ (lo + width) * 2 ^ width + bitsOf v lo width) * 2 ^ lo + v % 2 ^ lo) lo width = bitsOf v lo width := by
      rw [← h]
    rw [e3, e2, Nat.add_sub_cancel]
  rw [e]; ring

theorem testBit_withBits (v lo width x i : Nat) :
    (withBits v lo width x).testBit i = if lo ≤ i ∧ i < lo + width then x.testBit (i - lo) else v.testBit i := by
  rw [withBits_eq, Nat.add_comm, Nat.mul_comm, Nat.add_comm, Nat.testBit_two_pow_mul_add _ (Nat.mod_lt _ (Nat.two_pow_pos lo))]
  rw [Nat.mul_comm (v / 2 ^ (lo + width)), ]
  by_cases h1 : i < lo
  · have : ¬ (lo ≤ i ∧ i < lo + width) := by omega
    simp [h1, this, Nat.testBit_mod_two_pow]
  · rw [if_neg h1, Nat.testBit_two_pow_mul_add _ (Nat.mod_lt _ (Nat.two_pow_pos width))]
    by_cases h2 : i - lo < width
    · have : lo ≤ i ∧ i < lo + width := by omega
      simp [h2, this, Nat.testBit_mod_two_pow]
    · have : ¬ (lo ≤ i ∧ i < lo + width) := by omega
      rw [if_neg h2, if_neg this, Nat.testBit_div_two_pow]
      congr 1; omega

/-- A field that has been replaced reads as its value, cut to its width. -/
@[simp] theorem bitsOf_withBits_same (v lo width x : Nat) : bitsOf (withBits v lo width x) lo width = x % 2 ^ width := by
  apply Nat.eq_of_testBit_eq
  intro i
  rw [testBit_bitsOf, testBit_withBits, Nat.testBit_mod_two_pow]
  by_cases h : i < width
  · simp [h]
  · simp [h]

/-- A field apart from the one that is replaced reads as before. -/
theorem bitsOf_withBits_other (v lo width x lo' width' : Nat) (h : lo + width ≤ lo' ∨ lo' + width' ≤ lo) :
    bitsOf (withBits v lo width x) lo' width' = bitsOf v lo' width' := by
  apply Nat.eq_of_testBit_eq
  intro i
  rw [testBit_bitsOf, testBit_bitsOf, testBit_withBits]
  by_cases h1 : i < width'
  · have : ¬ (lo ≤ lo' + i ∧ lo' + i < lo + width) := by omega
    simp [h1, this]
  · simp [h1]

theorem withBits_lt {v lo width : Nat} (n x : Nat) (hv : v < 2 ^ n) (h : lo + width ≤ n) : withBits v lo width x < 2 ^ n := by
  apply Nat.lt_pow_two_of_testBit
  intro i hi
  rw [testBit_withBits]
  have : ¬ (lo ≤ i ∧ i < lo + width) := by omega
  rw [if_neg this]
  exact Nat.testBit_lt_two_pow (lt_of_lt_of_le hv (Nat.pow_le_pow_right (by norm_num) hi))

end Sys2Proof.Machine
end

