-- ==== Sys2Proof/Laws/Memory.lean ====
section
/-! SUPPORT. Laws of memory: a byte reads as what was last written to it, and every operation keeps the canonical form. -/

namespace Sys2Proof.Machine

/-! ### Reading after writing -/

@[simp] theorem byteAt_setByteAt_same (m : List Host.Cell) (a : Nat) (v : Byte) : byteAt (setByteAt m a v) a = v := by
  simp [byteAt, setByteAt]

theorem byteAt_setByteAt_other (m : List Host.Cell) {a b : Nat} (v : Byte) (h : b ≠ a) : byteAt (setByteAt m a v) b = byteAt m b := by
  simp [byteAt, setByteAt, lookup_setKey_other _ _ _ h]

/-- A byte outside a run of bytes that is written reads as before. -/
theorem byteAt_setBytesAt_outside (m : List Host.Cell) (a : Nat) (b : Bytes) {x : Nat} (h : x < a ∨ a + b.length ≤ x) :
    byteAt (setBytesAt m a b) x = byteAt m x := by
  induction b generalizing m a with
  | nil => rfl
  | cons v r ih =>
    rw [List.length_cons] at h
    have h1 : x ≠ a := by omega
    have h2 : x < a + 1 ∨ a + 1 + r.length ≤ x := by omega
    rw [setBytesAt, ih _ _ h2, byteAt_setByteAt_other _ _ h1]

/-- A byte of a run of bytes that is written reads as its value. -/
theorem byteAt_setBytesAt_inside (m : List Host.Cell) (a : Nat) (b : Bytes) (i : Nat) (h : i < b.length) :
    byteAt (setBytesAt m a b) (a + i) = b[i] := by
  induction b generalizing m a i with
  | nil => simp at h
  | cons v r ih =>
    cases i with
    | zero => rw [setBytesAt, byteAt_setBytesAt_outside _ _ _ (by omega)]; simp
    | succ i =>
      have e : a + (i + 1) = a + 1 + i := by omega
      rw [setBytesAt, e, ih _ _ _ (by simpa using h)]
      simp

/-- A byte outside a range that is dropped reads as before, one inside it as unlisted. -/
theorem byteAt_dropBytes (s : State) (lo hi a : Nat) :
    byteAt (s.dropBytes lo hi).mem a = if a < lo ∨ hi ≤ a then byteAt s.mem a else memDefault a := by
  have h := lookup_filter s.mem (fun x => decide (x < lo) || decide (hi ≤ x)) a
  by_cases hp : a < lo ∨ hi ≤ a
  · have : (decide (a < lo) || decide (hi ≤ a)) = true := by simpa using hp
    simp only [State.dropBytes, byteAt, h, this, if_true, hp]
  · have : (decide (a < lo) || decide (hi ≤ a)) = false := by simpa using hp
    simp [State.dropBytes, byteAt, h, this, hp]

/-! ### The canonical form -/

theorem wf_iff (m : List Host.Cell) : Memory.wf m = true ↔ keysRise m = true ∧ ∀ c ∈ m, c.2 ≠ memDefault c.1 := by
  simp [Memory.wf]

theorem setByteAt_wf {m : List Host.Cell} (a : Nat) (v : Byte) (h : Memory.wf m = true) : Memory.wf (setByteAt m a v) = true := by
  rw [wf_iff] at *
  refine ⟨keysRise_setKey _ _ _ h.1, fun c hc => ?_⟩
  rcases mem_setKey hc with ⟨e, hv⟩ | e
  · rw [e]; exact hv
  · exact h.2 c e

theorem setBytesAt_wf {m : List Host.Cell} (a : Nat) (b : Bytes) (h : Memory.wf m = true) : Memory.wf (setBytesAt m a b) = true := by
  induction b generalizing m a with
  | nil => exact h
  | cons v r ih => exact ih _ (setByteAt_wf a v h)

theorem filter_wf {m : List Host.Cell} (p : Host.Cell → Bool) (h : Memory.wf m = true) : Memory.wf (m.filter p) = true := by
  rw [wf_iff] at *
  exact ⟨keysRise_filter _ h.1, fun c hc => h.2 c (List.mem_filter.1 hc).1⟩

/-- Every memory operation keeps the canonical form. -/
theorem setBytes_wf {s : State} (a : Nat) (b : Bytes) (h : Memory.wf s.mem = true) : Memory.wf (s.setBytes a b).mem = true :=
  setBytesAt_wf a b h

theorem dropBytes_wf {s : State} (lo hi : Nat) (h : Memory.wf s.mem = true) : Memory.wf (s.dropBytes lo hi).mem = true :=
  filter_wf _ h

end Sys2Proof.Machine
end

