-- ==== Sys2Proof/Laws/Regs.lean ====
section
/-! SUPPORT. Laws of the register file: what a word and a field read as after a write, and its canonical form. -/

namespace Sys2Proof.Machine

/-- Two fields lie apart: in different words, or in different bits of one word. -/
def Fld.apart (f g : Fld) : Bool :=
  decide (f.off ≠ g.off) || decide (f.lo + f.width ≤ g.lo) || decide (g.lo + g.width ≤ f.lo)

/-- A field fits its word. -/
def Fld.fits (f : Fld) : Bool :=
  decide (f.lo + f.width ≤ 32)

/-! ### Words -/

@[simp] theorem rd_wr_same (s : State) (off : Nat) (v : Word) : (s.wr off v).rd off = v := by
  simp [State.rd, State.wr]

theorem rd_wr_other (s : State) {off o : Nat} (v : Word) (h : o ≠ off) : (s.wr off v).rd o = s.rd o := by
  simp [State.rd, State.wr, lookup_setKey_other _ _ _ h]

/-! ### Fields -/

/-- The word of a field that has been written. -/
theorem rd_put_same (s : State) (f : Fld) (v : Nat) (h : f.fits = true) :
    ((s.put f v).rd f.off).toNat = withBits (s.rd f.off).toNat f.lo f.width v := by
  have hf : f.lo + f.width ≤ 32 := by simpa [Fld.fits] using h
  rw [State.put, rd_wr_same, BitVec.toNat_ofNat, Nat.mod_eq_of_lt (withBits_lt 32 v (s.rd f.off).isLt hf)]

/-- A field that has been written reads as its value, cut to its width. -/
theorem get_put_same (s : State) (f : Fld) (v : Nat) (h : f.fits = true) : (s.put f v).get f = v % 2 ^ f.width := by
  rw [State.get, rd_put_same s f v h, bitsOf_withBits_same]

/-- A field apart from the one that is written reads as before. -/
theorem get_put_other (s : State) (f g : Fld) (v : Nat) (hf : f.fits = true) (h : f.apart g = true) : (s.put f v).get g = s.get g := by
  by_cases ho : g.off = f.off
  · have hb : f.lo + f.width ≤ g.lo ∨ g.lo + g.width ≤ f.lo := by simpa [Fld.apart, ho] using h
    rw [State.get, State.get, ho, rd_put_same s f v hf, bitsOf_withBits_other _ _ _ _ _ _ hb]
  · rw [State.get, State.get, State.put, rd_wr_other _ _ ho]

/-- A flag that has been written reads as its value. -/
theorem flag_putFlag_same (s : State) (f : Fld) (b : Bool) (h : f.fits = true) (hw : 0 < f.width) : (s.putFlag f b).flag f = b := by
  have h1 : 1 < 2 ^ f.width := Nat.one_lt_two_pow (Nat.pos_iff_ne_zero.1 hw)
  rw [State.flag, State.putFlag, get_put_same _ _ _ h]
  cases b <;> simp [Nat.mod_eq_of_lt h1]

/-- A flag apart from the field that is written reads as before. -/
theorem flag_put_other (s : State) (f g : Fld) (v : Nat) (hf : f.fits = true) (h : f.apart g = true) : (s.put f v).flag g = s.flag g := by
  simp [State.flag, get_put_other s f g v hf h]

/-- A word other than the one that holds a field reads as before the field is written. -/
theorem rd_put_other (s : State) (f : Fld) (v : Nat) {o : Nat} (h : o ≠ f.off) : (s.put f v).rd o = s.rd o :=
  rd_wr_other s _ h

/-- A 64-bit register that has been written reads as its value, cut to 64 bits. -/
theorem rd64_wr64_same (s : State) (off v : Nat) : (s.wr64 off v).rd64 off = v % 2 ^ 64 := by
  simp only [State.rd64, State.wr64, rd_wr_same, rd_wr_other _ _ (Nat.ne_of_lt (Nat.lt_add_of_pos_right (n := off) (by norm_num : 0 < 4))),
    BitVec.toNat_ofNat]
  omega

/-- A word outside a 64-bit register reads as before the register is written. -/
theorem rd_wr64_other (s : State) (off v : Nat) {o : Nat} (h1 : o ≠ off) (h2 : o ≠ off + 4) : (s.wr64 off v).rd o = s.rd o := by
  simp [State.wr64, rd_wr_other _ _ h1, rd_wr_other _ _ h2]

/-! ### The canonical form -/

/-- The register file in its canonical form stays so through a write. -/
theorem wr_canonical (s : State) (off : Nat) (v : Word) (hs : keysRise s.regs = true) (hd : ∀ e ∈ s.regs, e.2 ≠ regReset s.part e.1) :
    keysRise (s.wr off v).regs = true ∧ ∀ e ∈ (s.wr off v).regs, e.2 ≠ regReset (s.wr off v).part e.1 := by
  refine ⟨keysRise_setKey _ _ _ hs, fun e he => ?_⟩
  rcases mem_setKey he with ⟨h, hv⟩ | h
  · rw [h]; exact hv
  · exact hd e h

end Sys2Proof.Machine
end

