-- ==== Sys2Proof/Laws/Keeps.lean ====
section
/-! SUPPORT. What no command does to the state: the relation `Keeps`, and the laws of the operations that all others are made
of. -/

namespace Sys2Proof.Machine

/-- What every command keeps: the queue and the part; the canonical form of the register file and of memory; and every
blown fuse bit (R404). -/
structure Keeps (s t : State) : Prop where
  pending : t.pending = s.pending
  part : t.part = s.part
  regs : s.regsWf → t.regsWf
  mem : s.memWf → t.memWf
  fuses : ∀ w, s.fuse w &&& t.fuse w = s.fuse w

theorem Keeps.refl (s : State) : Keeps s s :=
  ⟨rfl, rfl, id, id, fun _ => BitVec.and_self⟩

theorem Keeps.trans {s t u : State} (h : Keeps s t) (k : Keeps t u) : Keeps s u where
  pending := k.pending.trans h.pending
  part := k.part.trans h.part
  regs := fun x => k.regs (h.regs x)
  mem := fun x => k.mem (h.mem x)
  fuses := fun w => by
    have e := h.fuses w
    rw [← e, BitVec.and_assoc, k.fuses w]

/-- A state that agrees in all that `Keeps` speaks of. -/
theorem Keeps.same {a s t : State} (h : Keeps a s) (h1 : t.pending = s.pending) (h2 : t.part = s.part) (h3 : t.regs = s.regs)
    (h4 : t.mem = s.mem) (h5 : t.sag.fuses = s.sag.fuses) : Keeps a t := by
  refine h.trans ⟨h1, h2, ?_, ?_, fun w => ?_⟩
  · rintro ⟨x, y⟩; exact ⟨by rw [h3]; exact x, by rw [h3, h2]; exact y⟩
  · intro x; unfold State.memWf at *; rw [h4]; exact x
  · have : t.fuse w = s.fuse w := by simp [State.fuse, h5]
    rw [this, BitVec.and_self]

/-- An update of fields that `Keeps` does not speak of. -/
theorem keeps_upd {a s : State} {v2 v3 v5 v7 v8 v9 v10 v11 v12 v13 v14 v15 v16 v17 v18 v19 v20 v21 v22 v23 v24 v25 v26 v27 v28 v30 v31 v32} :
    Keeps a (State.mk s.pending s.part v2 v3 s.regs v5 s.mem v7 v8 v9 v10 v11 v12 v13 v14 v15 v16 v17 v18 v19 v20 v21 v22 v23 v24 v25 v26 v27 v28 s.sag v30 v31 v32) ↔
      Keeps a s :=
  ⟨fun h => h.same rfl rfl rfl rfl rfl, fun h => h.same rfl rfl rfl rfl rfl⟩

/-- The same with an update of the sagger's state beside the fuses. -/
theorem keeps_updSag {a s : State} {v2 v3 v5 v7 v8 v9 v10 v11 v12 v13 v14 v15 v16 v17 v18 v19 v20 v21 v22 v23 v24 v25 v26 v27 v28 v30 v31 v32} {x : Sagger} (hx : x.fuses = s.sag.fuses) :
    Keeps a (State.mk s.pending s.part v2 v3 s.regs v5 s.mem v7 v8 v9 v10 v11 v12 v13 v14 v15 v16 v17 v18 v19 v20 v21 v22 v23 v24 v25 v26 v27 v28 x v30 v31 v32) ↔
      Keeps a s :=
  ⟨fun h => h.same rfl rfl rfl rfl hx.symm, fun h => h.same rfl rfl rfl rfl hx⟩

theorem Keeps.ofEq {a t : State} {β : Type} {b : β} {p : State × β} (h : Keeps a p.1) (e : p = (t, b)) : Keeps a t := by
  rw [e] at h; exact h

theorem Keeps.ofEqSnd {a t : State} {β : Type} {b : β} {p : β × State} (h : Keeps a p.2) (e : p = (b, t)) : Keeps a t := by
  rw [e] at h; exact h

/-! ### Writes -/

theorem Keeps.setRegs {a s t : State} (h : Keeps a s) (h1 : t.pending = s.pending) (h2 : t.part = s.part) (h3 : s.regsWf → t.regsWf)
    (h4 : t.mem = s.mem) (h5 : t.sag.fuses = s.sag.fuses) : Keeps a t := by
  refine h.trans ⟨h1, h2, h3, ?_, fun w => ?_⟩
  · intro x; unfold State.memWf at *; rw [h4]; exact x
  · have : t.fuse w = s.fuse w := by simp [State.fuse, h5]
    rw [this, BitVec.and_self]

theorem State.wr_keeps {a s : State} (h : Keeps a s) (off : Nat) (v : Word) : Keeps a (s.wr off v) :=
  h.setRegs rfl rfl (fun x => wr_canonical s off v x.1 x.2) rfl rfl

/-- A register file without some of its words is in canonical form. -/
theorem regsWf_filter {s : State} (p : Nat × Word → Bool) (h : s.regsWf) :
    keysRise (s.regs.filter p) = true ∧ ∀ e ∈ s.regs.filter p, e.2 ≠ regReset s.part e.1 :=
  ⟨keysRise_filter _ h.1, fun e he => h.2 e (List.mem_filter.1 he).1⟩

theorem State.resetRange_keeps {a s : State} (h : Keeps a s) (lo hi : Nat) : Keeps a (s.resetRange lo hi) :=
  h.setRegs rfl rfl (fun x => regsWf_filter _ x) rfl rfl

theorem Keeps.setMem {a s t : State} (h : Keeps a s) (h1 : t.pending = s.pending) (h2 : t.part = s.part) (h3 : t.regs = s.regs)
    (h4 : s.memWf → t.memWf) (h5 : t.sag.fuses = s.sag.fuses) : Keeps a t := by
  refine h.trans ⟨h1, h2, ?_, h4, fun w => ?_⟩
  · rintro ⟨x, y⟩; exact ⟨by rw [h3]; exact x, by rw [h3, h2]; exact y⟩
  · have : t.fuse w = s.fuse w := by simp [State.fuse, h5]
    rw [this, BitVec.and_self]

theorem State.setBytes_keeps {a s : State} (h : Keeps a s) (x : Nat) (b : Bytes) : Keeps a (s.setBytes x b) :=
  h.setMem rfl rfl rfl (fun m => setBytes_wf x b m) rfl

theorem State.dropBytes_keeps {a s : State} (h : Keeps a s) (lo hi : Nat) : Keeps a (s.dropBytes lo hi) :=
  h.setMem rfl rfl rfl (fun m => dropBytes_wf lo hi m) rfl

theorem State.blow_keeps {a s : State} (h : Keeps a s) (w : Nat) (bits : Word) : Keeps a (s.blow w bits) := by
  refine h.trans ⟨rfl, rfl, id, id, fun v => ?_⟩
  by_cases e : v = w
  · subst e
    have : (s.blow v bits).fuse v = s.fuse v ||| bits := by simp [State.fuse, State.blow, State.onSag]
    rw [this]; ext i; simp; tauto
  · have : (s.blow w bits).fuse v = s.fuse v := by simp [State.fuse, State.blow, State.onSag, lookup_setKey_other _ _ _ e]
    rw [this, BitVec.and_self]

theorem State.onSag_keeps {a s : State} (h : Keeps a s) (f : Sagger → Sagger) (hf : ∀ x, (f x).fuses = x.fuses) : Keeps a (s.onSag f) :=
  h.same rfl rfl rfl rfl (hf _)

/-! ### Repetition -/

theorem State.each_keeps {α : Type} {a s : State} (h : Keeps a s) (l : List α) (f : State → α → State)
    (hf : ∀ s x, Keeps a s → Keeps a (f s x)) : Keeps a (s.each l f) := by
  unfold State.each
  induction l generalizing s with
  | nil => exact h
  | cons x r ih => exact ih (hf _ _ h)

theorem State.when_keeps {a s : State} (h : Keeps a s) (c : Bool) (f : State → State) (hf : ∀ s, Keeps a s → Keeps a (f s)) :
    Keeps a (s.when c f) := by
  unfold State.when
  split
  · exact hf _ h
  · exact h

theorem Keeps.foldl {α : Type} {a s : State} (h : Keeps a s) (l : List α) (f : State → α → State)
    (hf : ∀ s x, Keeps a s → Keeps a (f s x)) : Keeps a (l.foldl f s) :=
  State.each_keeps h l f hf

theorem Keeps.foldlFst {α β : Type} {a : State} {p : State × β} (h : Keeps a p.1) (l : List α) (f : State × β → α → State × β)
    (hf : ∀ p x, Keeps a p.1 → Keeps a (f p x).1) : Keeps a (l.foldl f p).1 := by
  induction l generalizing p with
  | nil => exact h
  | cons x r ih => exact ih (hf _ _ h)

end Sys2Proof.Machine
end

