-- ==== Sys2Proof/Laws/State.lean ====
section
/-! SUPPORT. What every update of the state leaves as it was, field by field. -/

namespace Sys2Proof.Machine

/-! ### `State.wr` -/

@[simp] theorem wr_pending (s : State) (off : Nat) (v : Word) : (s.wr off v).pending = s.pending := rfl
@[simp] theorem wr_part (s : State) (off : Nat) (v : Word) : (s.wr off v).part = s.part := rfl
@[simp] theorem wr_tt (s : State) (off : Nat) (v : Word) : (s.wr off v).tt = s.tt := rfl
@[simp] theorem wr_fn (s : State) (off : Nat) (v : Word) : (s.wr off v).fn = s.fn := rfl
@[simp] theorem wr_latched (s : State) (off : Nat) (v : Word) : (s.wr off v).latched = s.latched := rfl
@[simp] theorem wr_mem (s : State) (off : Nat) (v : Word) : (s.wr off v).mem = s.mem := rfl
@[simp] theorem wr_stage (s : State) (off : Nat) (v : Word) : (s.wr off v).stage = s.stage := rfl
@[simp] theorem wr_stagings (s : State) (off : Nat) (v : Word) : (s.wr off v).stagings = s.stagings := rfl
@[simp] theorem wr_chains (s : State) (off : Nat) (v : Word) : (s.wr off v).chains = s.chains := rfl
@[simp] theorem wr_fcuIn (s : State) (off : Nat) (v : Word) : (s.wr off v).fcuIn = s.fcuIn := rfl
@[simp] theorem wr_srcIn (s : State) (off : Nat) (v : Word) : (s.wr off v).srcIn = s.srcIn := rfl
@[simp] theorem wr_kiln (s : State) (off : Nat) (v : Word) : (s.wr off v).kiln = s.kiln := rfl
@[simp] theorem wr_lanes (s : State) (off : Nat) (v : Word) : (s.wr off v).lanes = s.lanes := rfl
@[simp] theorem wr_gaps (s : State) (off : Nat) (v : Word) : (s.wr off v).gaps = s.gaps := rfl
@[simp] theorem wr_te (s : State) (off : Nat) (v : Word) : (s.wr off v).te = s.te := rfl
@[simp] theorem wr_ve (s : State) (off : Nat) (v : Word) : (s.wr off v).ve = s.ve := rfl
@[simp] theorem wr_wheel (s : State) (off : Nat) (v : Word) : (s.wr off v).wheel = s.wheel := rfl
@[simp] theorem wr_outs (s : State) (off : Nat) (v : Word) : (s.wr off v).outs = s.outs := rfl
@[simp] theorem wr_prot (s : State) (off : Nat) (v : Word) : (s.wr off v).prot = s.prot := rfl
@[simp] theorem wr_cores (s : State) (off : Nat) (v : Word) : (s.wr off v).cores = s.cores := rfl
@[simp] theorem wr_sup (s : State) (off : Nat) (v : Word) : (s.wr off v).sup = s.sup := rfl
@[simp] theorem wr_host (s : State) (off : Nat) (v : Word) : (s.wr off v).host = s.host := rfl
@[simp] theorem wr_orphans (s : State) (off : Nat) (v : Word) : (s.wr off v).orphans = s.orphans := rfl
@[simp] theorem wr_swGroups (s : State) (off : Nat) (v : Word) : (s.wr off v).swGroups = s.swGroups := rfl
@[simp] theorem wr_locked (s : State) (off : Nat) (v : Word) : (s.wr off v).locked = s.locked := rfl
@[simp] theorem wr_timing (s : State) (off : Nat) (v : Word) : (s.wr off v).timing = s.timing := rfl
@[simp] theorem wr_arch (s : State) (off : Nat) (v : Word) : (s.wr off v).arch = s.arch := rfl
@[simp] theorem wr_tw (s : State) (off : Nat) (v : Word) : (s.wr off v).tw = s.tw := rfl
@[simp] theorem wr_sag (s : State) (off : Nat) (v : Word) : (s.wr off v).sag = s.sag := rfl
@[simp] theorem wr_sosc (s : State) (off : Nat) (v : Word) : (s.wr off v).sosc = s.sosc := rfl
@[simp] theorem wr_soscPart (s : State) (off : Nat) (v : Word) : (s.wr off v).soscPart = s.soscPart := rfl
@[simp] theorem wr_draws (s : State) (off : Nat) (v : Word) : (s.wr off v).draws = s.draws := rfl

/-! ### `State.put` -/

@[simp] theorem put_pending (s : State) (f : Fld) (v : Nat) : (s.put f v).pending = s.pending := rfl
@[simp] theorem put_part (s : State) (f : Fld) (v : Nat) : (s.put f v).part = s.part := rfl
@[simp] theorem put_tt (s : State) (f : Fld) (v : Nat) : (s.put f v).tt = s.tt := rfl
@[simp] theorem put_fn (s : State) (f : Fld) (v : Nat) : (s.put f v).fn = s.fn := rfl
@[simp] theorem put_latched (s : State) (f : Fld) (v : Nat) : (s.put f v).latched = s.latched := rfl
@[simp] theorem put_mem (s : State) (f : Fld) (v : Nat) : (s.put f v).mem = s.mem := rfl
@[simp] theorem put_stage (s : State) (f : Fld) (v : Nat) : (s.put f v).stage = s.stage := rfl
@[simp] theorem put_stagings (s : State) (f : Fld) (v : Nat) : (s.put f v).stagings = s.stagings := rfl
@[simp] theorem put_chains (s : State) (f : Fld) (v : Nat) : (s.put f v).chains = s.chains := rfl
@[simp] theorem put_fcuIn (s : State) (f : Fld) (v : Nat) : (s.put f v).fcuIn = s.fcuIn := rfl
@[simp] theorem put_srcIn (s : State) (f : Fld) (v : Nat) : (s.put f v).srcIn = s.srcIn := rfl
@[simp] theorem put_kiln (s : State) (f : Fld) (v : Nat) : (s.put f v).kiln = s.kiln := rfl
@[simp] theorem put_lanes (s : State) (f : Fld) (v : Nat) : (s.put f v).lanes = s.lanes := rfl
@[simp] theorem put_gaps (s : State) (f : Fld) (v : Nat) : (s.put f v).gaps = s.gaps := rfl
@[simp] theorem put_te (s : State) (f : Fld) (v : Nat) : (s.put f v).te = s.te := rfl
@[simp] theorem put_ve (s : State) (f : Fld) (v : Nat) : (s.put f v).ve = s.ve := rfl
@[simp] theorem put_wheel (s : State) (f : Fld) (v : Nat) : (s.put f v).wheel = s.wheel := rfl
@[simp] theorem put_outs (s : State) (f : Fld) (v : Nat) : (s.put f v).outs = s.outs := rfl
@[simp] theorem put_prot (s : State) (f : Fld) (v : Nat) : (s.put f v).prot = s.prot := rfl
@[simp] theorem put_cores (s : State) (f : Fld) (v : Nat) : (s.put f v).cores = s.cores := rfl
@[simp] theorem put_sup (s : State) (f : Fld) (v : Nat) : (s.put f v).sup = s.sup := rfl
@[simp] theorem put_host (s : State) (f : Fld) (v : Nat) : (s.put f v).host = s.host := rfl
@[simp] theorem put_orphans (s : State) (f : Fld) (v : Nat) : (s.put f v).orphans = s.orphans := rfl
@[simp] theorem put_swGroups (s : State) (f : Fld) (v : Nat) : (s.put f v).swGroups = s.swGroups := rfl
@[simp] theorem put_locked (s : State) (f : Fld) (v : Nat) : (s.put f v).locked = s.locked := rfl
@[simp] theorem put_timing (s : State) (f : Fld) (v : Nat) : (s.put f v).timing = s.timing := rfl
@[simp] theorem put_arch (s : State) (f : Fld) (v : Nat) : (s.put f v).arch = s.arch := rfl
@[simp] theorem put_tw (s : State) (f : Fld) (v : Nat) : (s.put f v).tw = s.tw := rfl
@[simp] theorem put_sag (s : State) (f : Fld) (v : Nat) : (s.put f v).sag = s.sag := rfl
@[simp] theorem put_sosc (s : State) (f : Fld) (v : Nat) : (s.put f v).sosc = s.sosc := rfl
@[simp] theorem put_soscPart (s : State) (f : Fld) (v : Nat) : (s.put f v).soscPart = s.soscPart := rfl
@[simp] theorem put_draws (s : State) (f : Fld) (v : Nat) : (s.put f v).draws = s.draws := rfl

/-! ### `State.putFlag` -/

@[simp] theorem putFlag_pending (s : State) (f : Fld) (b : Bool) : (s.putFlag f b).pending = s.pending := rfl
@[simp] theorem putFlag_part (s : State) (f : Fld) (b : Bool) : (s.putFlag f b).part = s.part := rfl
@[simp] theorem putFlag_tt (s : State) (f : Fld) (b : Bool) : (s.putFlag f b).tt = s.tt := rfl
@[simp] theorem putFlag_fn (s : State) (f : Fld) (b : Bool) : (s.putFlag f b).fn = s.fn := rfl
@[simp] theorem putFlag_latched (s : State) (f : Fld) (b : Bool) : (s.putFlag f b).latched = s.latched := rfl
@[simp] theorem putFlag_mem (s : State) (f : Fld) (b : Bool) : (s.putFlag f b).mem = s.mem := rfl
@[simp] theorem putFlag_stage (s : State) (f : Fld) (b : Bool) : (s.putFlag f b).stage = s.stage := rfl
@[simp] theorem putFlag_stagings (s : State) (f : Fld) (b : Bool) : (s.putFlag f b).stagings = s.stagings := rfl
@[simp] theorem putFlag_chains (s : State) (f : Fld) (b : Bool) : (s.putFlag f b).chains = s.chains := rfl
@[simp] theorem putFlag_fcuIn (s : State) (f : Fld) (b : Bool) : (s.putFlag f b).fcuIn = s.fcuIn := rfl
@[simp] theorem putFlag_srcIn (s : State) (f : Fld) (b : Bool) : (s.putFlag f b).srcIn = s.srcIn := rfl
@[simp] theorem putFlag_kiln (s : State) (f : Fld) (b : Bool) : (s.putFlag f b).kiln = s.kiln := rfl
@[simp] theorem putFlag_lanes (s : State) (f : Fld) (b : Bool) : (s.putFlag f b).lanes = s.lanes := rfl
@[simp] theorem putFlag_gaps (s : State) (f : Fld) (b : Bool) : (s.putFlag f b).gaps = s.gaps := rfl
@[simp] theorem putFlag_te (s : State) (f : Fld) (b : Bool) : (s.putFlag f b).te = s.te := rfl
@[simp] theorem putFlag_ve (s : State) (f : Fld) (b : Bool) : (s.putFlag f b).ve = s.ve := rfl
@[simp] theorem putFlag_wheel (s : State) (f : Fld) (b : Bool) : (s.putFlag f b).wheel = s.wheel := rfl
@[simp] theorem putFlag_outs (s : State) (f : Fld) (b : Bool) : (s.putFlag f b).outs = s.outs := rfl
@[simp] theorem putFlag_prot (s : State) (f : Fld) (b : Bool) : (s.putFlag f b).prot = s.prot := rfl
@[simp] theorem putFlag_cores (s : State) (f : Fld) (b : Bool) : (s.putFlag f b).cores = s.cores := rfl
@[simp] theorem putFlag_sup (s : State) (f : Fld) (b : Bool) : (s.putFlag f b).sup = s.sup := rfl
@[simp] theorem putFlag_host (s : State) (f : Fld) (b : Bool) : (s.putFlag f b).host = s.host := rfl
@[simp] theorem putFlag_orphans (s : State) (f : Fld) (b : Bool) : (s.putFlag f b).orphans = s.orphans := rfl
@[simp] theorem putFlag_swGroups (s : State) (f : Fld) (b : Bool) : (s.putFlag f b).swGroups = s.swGroups := rfl
@[simp] theorem putFlag_locked (s : State) (f : Fld) (b : Bool) : (s.putFlag f b).locked = s.locked := rfl
@[simp] theorem putFlag_timing (s : State) (f : Fld) (b : Bool) : (s.putFlag f b).timing = s.timing := rfl
@[simp] theorem putFlag_arch (s : State) (f : Fld) (b : Bool) : (s.putFlag f b).arch = s.arch := rfl
@[simp] theorem putFlag_tw (s : State) (f : Fld) (b : Bool) : (s.putFlag f b).tw = s.tw := rfl
@[simp] theorem putFlag_sag (s : State) (f : Fld) (b : Bool) : (s.putFlag f b).sag = s.sag := rfl
@[simp] theorem putFlag_sosc (s : State) (f : Fld) (b : Bool) : (s.putFlag f b).sosc = s.sosc := rfl
@[simp] theorem putFlag_soscPart (s : State) (f : Fld) (b : Bool) : (s.putFlag f b).soscPart = s.soscPart := rfl
@[simp] theorem putFlag_draws (s : State) (f : Fld) (b : Bool) : (s.putFlag f b).draws = s.draws := rfl

/-! ### `State.wr64` -/

@[simp] theorem wr64_pending (s : State) (off v : Nat) : (s.wr64 off v).pending = s.pending := rfl
@[simp] theorem wr64_part (s : State) (off v : Nat) : (s.wr64 off v).part = s.part := rfl
@[simp] theorem wr64_tt (s : State) (off v : Nat) : (s.wr64 off v).tt = s.tt := rfl
@[simp] theorem wr64_fn (s : State) (off v : Nat) : (s.wr64 off v).fn = s.fn := rfl
@[simp] theorem wr64_latched (s : State) (off v : Nat) : (s.wr64 off v).latched = s.latched := rfl
@[simp] theorem wr64_mem (s : State) (off v : Nat) : (s.wr64 off v).mem = s.mem := rfl
@[simp] theorem wr64_stage (s : State) (off v : Nat) : (s.wr64 off v).stage = s.stage := rfl
@[simp] theorem wr64_stagings (s : State) (off v : Nat) : (s.wr64 off v).stagings = s.stagings := rfl
@[simp] theorem wr64_chains (s : State) (off v : Nat) : (s.wr64 off v).chains = s.chains := rfl
@[simp] theorem wr64_fcuIn (s : State) (off v : Nat) : (s.wr64 off v).fcuIn = s.fcuIn := rfl
@[simp] theorem wr64_srcIn (s : State) (off v : Nat) : (s.wr64 off v).srcIn = s.srcIn := rfl
@[simp] theorem wr64_kiln (s : State) (off v : Nat) : (s.wr64 off v).kiln = s.kiln := rfl
@[simp] theorem wr64_lanes (s : State) (off v : Nat) : (s.wr64 off v).lanes = s.lanes := rfl
@[simp] theorem wr64_gaps (s : State) (off v : Nat) : (s.wr64 off v).gaps = s.gaps := rfl
@[simp] theorem wr64_te (s : State) (off v : Nat) : (s.wr64 off v).te = s.te := rfl
@[simp] theorem wr64_ve (s : State) (off v : Nat) : (s.wr64 off v).ve = s.ve := rfl
@[simp] theorem wr64_wheel (s : State) (off v : Nat) : (s.wr64 off v).wheel = s.wheel := rfl
@[simp] theorem wr64_outs (s : State) (off v : Nat) : (s.wr64 off v).outs = s.outs := rfl
@[simp] theorem wr64_prot (s : State) (off v : Nat) : (s.wr64 off v).prot = s.prot := rfl
@[simp] theorem wr64_cores (s : State) (off v : Nat) : (s.wr64 off v).cores = s.cores := rfl
@[simp] theorem wr64_sup (s : State) (off v : Nat) : (s.wr64 off v).sup = s.sup := rfl
@[simp] theorem wr64_host (s : State) (off v : Nat) : (s.wr64 off v).host = s.host := rfl
@[simp] theorem wr64_orphans (s : State) (off v : Nat) : (s.wr64 off v).orphans = s.orphans := rfl
@[simp] theorem wr64_swGroups (s : State) (off v : Nat) : (s.wr64 off v).swGroups = s.swGroups := rfl
@[simp] theorem wr64_locked (s : State) (off v : Nat) : (s.wr64 off v).locked = s.locked := rfl
@[simp] theorem wr64_timing (s : State) (off v : Nat) : (s.wr64 off v).timing = s.timing := rfl
@[simp] theorem wr64_arch (s : State) (off v : Nat) : (s.wr64 off v).arch = s.arch := rfl
@[simp] theorem wr64_tw (s : State) (off v : Nat) : (s.wr64 off v).tw = s.tw := rfl
@[simp] theorem wr64_sag (s : State) (off v : Nat) : (s.wr64 off v).sag = s.sag := rfl
@[simp] theorem wr64_sosc (s : State) (off v : Nat) : (s.wr64 off v).sosc = s.sosc := rfl
@[simp] theorem wr64_soscPart (s : State) (off v : Nat) : (s.wr64 off v).soscPart = s.soscPart := rfl
@[simp] theorem wr64_draws (s : State) (off v : Nat) : (s.wr64 off v).draws = s.draws := rfl

/-! ### `State.addTo` -/

@[simp] theorem addTo_pending (s : State) (f : Fld) (n : Nat) : (s.addTo f n).pending = s.pending := rfl
@[simp] theorem addTo_part (s : State) (f : Fld) (n : Nat) : (s.addTo f n).part = s.part := rfl
@[simp] theorem addTo_tt (s : State) (f : Fld) (n : Nat) : (s.addTo f n).tt = s.tt := rfl
@[simp] theorem addTo_fn (s : State) (f : Fld) (n : Nat) : (s.addTo f n).fn = s.fn := rfl
@[simp] theorem addTo_latched (s : State) (f : Fld) (n : Nat) : (s.addTo f n).latched = s.latched := rfl
@[simp] theorem addTo_mem (s : State) (f : Fld) (n : Nat) : (s.addTo f n).mem = s.mem := rfl
@[simp] theorem addTo_stage (s : State) (f : Fld) (n : Nat) : (s.addTo f n).stage = s.stage := rfl
@[simp] theorem addTo_stagings (s : State) (f : Fld) (n : Nat) : (s.addTo f n).stagings = s.stagings := rfl
@[simp] theorem addTo_chains (s : State) (f : Fld) (n : Nat) : (s.addTo f n).chains = s.chains := rfl
@[simp] theorem addTo_fcuIn (s : State) (f : Fld) (n : Nat) : (s.addTo f n).fcuIn = s.fcuIn := rfl
@[simp] theorem addTo_srcIn (s : State) (f : Fld) (n : Nat) : (s.addTo f n).srcIn = s.srcIn := rfl
@[simp] theorem addTo_kiln (s : State) (f : Fld) (n : Nat) : (s.addTo f n).kiln = s.kiln := rfl
@[simp] theorem addTo_lanes (s : State) (f : Fld) (n : Nat) : (s.addTo f n).lanes = s.lanes := rfl
@[simp] theorem addTo_gaps (s : State) (f : Fld) (n : Nat) : (s.addTo f n).gaps = s.gaps := rfl
@[simp] theorem addTo_te (s : State) (f : Fld) (n : Nat) : (s.addTo f n).te = s.te := rfl
@[simp] theorem addTo_ve (s : State) (f : Fld) (n : Nat) : (s.addTo f n).ve = s.ve := rfl
@[simp] theorem addTo_wheel (s : State) (f : Fld) (n : Nat) : (s.addTo f n).wheel = s.wheel := rfl
@[simp] theorem addTo_outs (s : State) (f : Fld) (n : Nat) : (s.addTo f n).outs = s.outs := rfl
@[simp] theorem addTo_prot (s : State) (f : Fld) (n : Nat) : (s.addTo f n).prot = s.prot := rfl
@[simp] theorem addTo_cores (s : State) (f : Fld) (n : Nat) : (s.addTo f n).cores = s.cores := rfl
@[simp] theorem addTo_sup (s : State) (f : Fld) (n : Nat) : (s.addTo f n).sup = s.sup := rfl
@[simp] theorem addTo_host (s : State) (f : Fld) (n : Nat) : (s.addTo f n).host = s.host := rfl
@[simp] theorem addTo_orphans (s : State) (f : Fld) (n : Nat) : (s.addTo f n).orphans = s.orphans := rfl
@[simp] theorem addTo_swGroups (s : State) (f : Fld) (n : Nat) : (s.addTo f n).swGroups = s.swGroups := rfl
@[simp] theorem addTo_locked (s : State) (f : Fld) (n : Nat) : (s.addTo f n).locked = s.locked := rfl
@[simp] theorem addTo_timing (s : State) (f : Fld) (n : Nat) : (s.addTo f n).timing = s.timing := rfl
@[simp] theorem addTo_arch (s : State) (f : Fld) (n : Nat) : (s.addTo f n).arch = s.arch := rfl
@[simp] theorem addTo_tw (s : State) (f : Fld) (n : Nat) : (s.addTo f n).tw = s.tw := rfl
@[simp] theorem addTo_sag (s : State) (f : Fld) (n : Nat) : (s.addTo f n).sag = s.sag := rfl
@[simp] theorem addTo_sosc (s : State) (f : Fld) (n : Nat) : (s.addTo f n).sosc = s.sosc := rfl
@[simp] theorem addTo_soscPart (s : State) (f : Fld) (n : Nat) : (s.addTo f n).soscPart = s.soscPart := rfl
@[simp] theorem addTo_draws (s : State) (f : Fld) (n : Nat) : (s.addTo f n).draws = s.draws := rfl

/-! ### `State.bump` -/

@[simp] theorem bump_pending (s : State) (f : Fld) : (s.bump f).pending = s.pending := rfl
@[simp] theorem bump_part (s : State) (f : Fld) : (s.bump f).part = s.part := rfl
@[simp] theorem bump_tt (s : State) (f : Fld) : (s.bump f).tt = s.tt := rfl
@[simp] theorem bump_fn (s : State) (f : Fld) : (s.bump f).fn = s.fn := rfl
@[simp] theorem bump_latched (s : State) (f : Fld) : (s.bump f).latched = s.latched := rfl
@[simp] theorem bump_mem (s : State) (f : Fld) : (s.bump f).mem = s.mem := rfl
@[simp] theorem bump_stage (s : State) (f : Fld) : (s.bump f).stage = s.stage := rfl
@[simp] theorem bump_stagings (s : State) (f : Fld) : (s.bump f).stagings = s.stagings := rfl
@[simp] theorem bump_chains (s : State) (f : Fld) : (s.bump f).chains = s.chains := rfl
@[simp] theorem bump_fcuIn (s : State) (f : Fld) : (s.bump f).fcuIn = s.fcuIn := rfl
@[simp] theorem bump_srcIn (s : State) (f : Fld) : (s.bump f).srcIn = s.srcIn := rfl
@[simp] theorem bump_kiln (s : State) (f : Fld) : (s.bump f).kiln = s.kiln := rfl
@[simp] theorem bump_lanes (s : State) (f : Fld) : (s.bump f).lanes = s.lanes := rfl
@[simp] theorem bump_gaps (s : State) (f : Fld) : (s.bump f).gaps = s.gaps := rfl
@[simp] theorem bump_te (s : State) (f : Fld) : (s.bump f).te = s.te := rfl
@[simp] theorem bump_ve (s : State) (f : Fld) : (s.bump f).ve = s.ve := rfl
@[simp] theorem bump_wheel (s : State) (f : Fld) : (s.bump f).wheel = s.wheel := rfl
@[simp] theorem bump_outs (s : State) (f : Fld) : (s.bump f).outs = s.outs := rfl
@[simp] theorem bump_prot (s : State) (f : Fld) : (s.bump f).prot = s.prot := rfl
@[simp] theorem bump_cores (s : State) (f : Fld) : (s.bump f).cores = s.cores := rfl
@[simp] theorem bump_sup (s : State) (f : Fld) : (s.bump f).sup = s.sup := rfl
@[simp] theorem bump_host (s : State) (f : Fld) : (s.bump f).host = s.host := rfl
@[simp] theorem bump_orphans (s : State) (f : Fld) : (s.bump f).orphans = s.orphans := rfl
@[simp] theorem bump_swGroups (s : State) (f : Fld) : (s.bump f).swGroups = s.swGroups := rfl
@[simp] theorem bump_locked (s : State) (f : Fld) : (s.bump f).locked = s.locked := rfl
@[simp] theorem bump_timing (s : State) (f : Fld) : (s.bump f).timing = s.timing := rfl
@[simp] theorem bump_arch (s : State) (f : Fld) : (s.bump f).arch = s.arch := rfl
@[simp] theorem bump_tw (s : State) (f : Fld) : (s.bump f).tw = s.tw := rfl
@[simp] theorem bump_sag (s : State) (f : Fld) : (s.bump f).sag = s.sag := rfl
@[simp] theorem bump_sosc (s : State) (f : Fld) : (s.bump f).sosc = s.sosc := rfl
@[simp] theorem bump_soscPart (s : State) (f : Fld) : (s.bump f).soscPart = s.soscPart := rfl
@[simp] theorem bump_draws (s : State) (f : Fld) : (s.bump f).draws = s.draws := rfl

/-! ### `State.bumpWrap` -/

@[simp] theorem bumpWrap_pending (s : State) (f : Fld) : (s.bumpWrap f).pending = s.pending := rfl
@[simp] theorem bumpWrap_part (s : State) (f : Fld) : (s.bumpWrap f).part = s.part := rfl
@[simp] theorem bumpWrap_tt (s : State) (f : Fld) : (s.bumpWrap f).tt = s.tt := rfl
@[simp] theorem bumpWrap_fn (s : State) (f : Fld) : (s.bumpWrap f).fn = s.fn := rfl
@[simp] theorem bumpWrap_latched (s : State) (f : Fld) : (s.bumpWrap f).latched = s.latched := rfl
@[simp] theorem bumpWrap_mem (s : State) (f : Fld) : (s.bumpWrap f).mem = s.mem := rfl
@[simp] theorem bumpWrap_stage (s : State) (f : Fld) : (s.bumpWrap f).stage = s.stage := rfl
@[simp] theorem bumpWrap_stagings (s : State) (f : Fld) : (s.bumpWrap f).stagings = s.stagings := rfl
@[simp] theorem bumpWrap_chains (s : State) (f : Fld) : (s.bumpWrap f).chains = s.chains := rfl
@[simp] theorem bumpWrap_fcuIn (s : State) (f : Fld) : (s.bumpWrap f).fcuIn = s.fcuIn := rfl
@[simp] theorem bumpWrap_srcIn (s : State) (f : Fld) : (s.bumpWrap f).srcIn = s.srcIn := rfl
@[simp] theorem bumpWrap_kiln (s : State) (f : Fld) : (s.bumpWrap f).kiln = s.kiln := rfl
@[simp] theorem bumpWrap_lanes (s : State) (f : Fld) : (s.bumpWrap f).lanes = s.lanes := rfl
@[simp] theorem bumpWrap_gaps (s : State) (f : Fld) : (s.bumpWrap f).gaps = s.gaps := rfl
@[simp] theorem bumpWrap_te (s : State) (f : Fld) : (s.bumpWrap f).te = s.te := rfl
@[simp] theorem bumpWrap_ve (s : State) (f : Fld) : (s.bumpWrap f).ve = s.ve := rfl
@[simp] theorem bumpWrap_wheel (s : State) (f : Fld) : (s.bumpWrap f).wheel = s.wheel := rfl
@[simp] theorem bumpWrap_outs (s : State) (f : Fld) : (s.bumpWrap f).outs = s.outs := rfl
@[simp] theorem bumpWrap_prot (s : State) (f : Fld) : (s.bumpWrap f).prot = s.prot := rfl
@[simp] theorem bumpWrap_cores (s : State) (f : Fld) : (s.bumpWrap f).cores = s.cores := rfl
@[simp] theorem bumpWrap_sup (s : State) (f : Fld) : (s.bumpWrap f).sup = s.sup := rfl
@[simp] theorem bumpWrap_host (s : State) (f : Fld) : (s.bumpWrap f).host = s.host := rfl
@[simp] theorem bumpWrap_orphans (s : State) (f : Fld) : (s.bumpWrap f).orphans = s.orphans := rfl
@[simp] theorem bumpWrap_swGroups (s : State) (f : Fld) : (s.bumpWrap f).swGroups = s.swGroups := rfl
@[simp] theorem bumpWrap_locked (s : State) (f : Fld) : (s.bumpWrap f).locked = s.locked := rfl
@[simp] theorem bumpWrap_timing (s : State) (f : Fld) : (s.bumpWrap f).timing = s.timing := rfl
@[simp] theorem bumpWrap_arch (s : State) (f : Fld) : (s.bumpWrap f).arch = s.arch := rfl
@[simp] theorem bumpWrap_tw (s : State) (f : Fld) : (s.bumpWrap f).tw = s.tw := rfl
@[simp] theorem bumpWrap_sag (s : State) (f : Fld) : (s.bumpWrap f).sag = s.sag := rfl
@[simp] theorem bumpWrap_sosc (s : State) (f : Fld) : (s.bumpWrap f).sosc = s.sosc := rfl
@[simp] theorem bumpWrap_soscPart (s : State) (f : Fld) : (s.bumpWrap f).soscPart = s.soscPart := rfl
@[simp] theorem bumpWrap_draws (s : State) (f : Fld) : (s.bumpWrap f).draws = s.draws := rfl

/-! ### `State.raiseTo` -/

@[simp] theorem raiseTo_pending (s : State) (f : Fld) (n : Nat) : (s.raiseTo f n).pending = s.pending := rfl
@[simp] theorem raiseTo_part (s : State) (f : Fld) (n : Nat) : (s.raiseTo f n).part = s.part := rfl
@[simp] theorem raiseTo_tt (s : State) (f : Fld) (n : Nat) : (s.raiseTo f n).tt = s.tt := rfl
@[simp] theorem raiseTo_fn (s : State) (f : Fld) (n : Nat) : (s.raiseTo f n).fn = s.fn := rfl
@[simp] theorem raiseTo_latched (s : State) (f : Fld) (n : Nat) : (s.raiseTo f n).latched = s.latched := rfl
@[simp] theorem raiseTo_mem (s : State) (f : Fld) (n : Nat) : (s.raiseTo f n).mem = s.mem := rfl
@[simp] theorem raiseTo_stage (s : State) (f : Fld) (n : Nat) : (s.raiseTo f n).stage = s.stage := rfl
@[simp] theorem raiseTo_stagings (s : State) (f : Fld) (n : Nat) : (s.raiseTo f n).stagings = s.stagings := rfl
@[simp] theorem raiseTo_chains (s : State) (f : Fld) (n : Nat) : (s.raiseTo f n).chains = s.chains := rfl
@[simp] theorem raiseTo_fcuIn (s : State) (f : Fld) (n : Nat) : (s.raiseTo f n).fcuIn = s.fcuIn := rfl
@[simp] theorem raiseTo_srcIn (s : State) (f : Fld) (n : Nat) : (s.raiseTo f n).srcIn = s.srcIn := rfl
@[simp] theorem raiseTo_kiln (s : State) (f : Fld) (n : Nat) : (s.raiseTo f n).kiln = s.kiln := rfl
@[simp] theorem raiseTo_lanes (s : State) (f : Fld) (n : Nat) : (s.raiseTo f n).lanes = s.lanes := rfl
@[simp] theorem raiseTo_gaps (s : State) (f : Fld) (n : Nat) : (s.raiseTo f n).gaps = s.gaps := rfl
@[simp] theorem raiseTo_te (s : State) (f : Fld) (n : Nat) : (s.raiseTo f n).te = s.te := rfl
@[simp] theorem raiseTo_ve (s : State) (f : Fld) (n : Nat) : (s.raiseTo f n).ve = s.ve := rfl
@[simp] theorem raiseTo_wheel (s : State) (f : Fld) (n : Nat) : (s.raiseTo f n).wheel = s.wheel := rfl
@[simp] theorem raiseTo_outs (s : State) (f : Fld) (n : Nat) : (s.raiseTo f n).outs = s.outs := rfl
@[simp] theorem raiseTo_prot (s : State) (f : Fld) (n : Nat) : (s.raiseTo f n).prot = s.prot := rfl
@[simp] theorem raiseTo_cores (s : State) (f : Fld) (n : Nat) : (s.raiseTo f n).cores = s.cores := rfl
@[simp] theorem raiseTo_sup (s : State) (f : Fld) (n : Nat) : (s.raiseTo f n).sup = s.sup := rfl
@[simp] theorem raiseTo_host (s : State) (f : Fld) (n : Nat) : (s.raiseTo f n).host = s.host := rfl
@[simp] theorem raiseTo_orphans (s : State) (f : Fld) (n : Nat) : (s.raiseTo f n).orphans = s.orphans := rfl
@[simp] theorem raiseTo_swGroups (s : State) (f : Fld) (n : Nat) : (s.raiseTo f n).swGroups = s.swGroups := rfl
@[simp] theorem raiseTo_locked (s : State) (f : Fld) (n : Nat) : (s.raiseTo f n).locked = s.locked := rfl
@[simp] theorem raiseTo_timing (s : State) (f : Fld) (n : Nat) : (s.raiseTo f n).timing = s.timing := rfl
@[simp] theorem raiseTo_arch (s : State) (f : Fld) (n : Nat) : (s.raiseTo f n).arch = s.arch := rfl
@[simp] theorem raiseTo_tw (s : State) (f : Fld) (n : Nat) : (s.raiseTo f n).tw = s.tw := rfl
@[simp] theorem raiseTo_sag (s : State) (f : Fld) (n : Nat) : (s.raiseTo f n).sag = s.sag := rfl
@[simp] theorem raiseTo_sosc (s : State) (f : Fld) (n : Nat) : (s.raiseTo f n).sosc = s.sosc := rfl
@[simp] theorem raiseTo_soscPart (s : State) (f : Fld) (n : Nat) : (s.raiseTo f n).soscPart = s.soscPart := rfl
@[simp] theorem raiseTo_draws (s : State) (f : Fld) (n : Nat) : (s.raiseTo f n).draws = s.draws := rfl

/-! ### `State.resetRange` -/

@[simp] theorem resetRange_pending (s : State) (lo hi : Nat) : (s.resetRange lo hi).pending = s.pending := rfl
@[simp] theorem resetRange_part (s : State) (lo hi : Nat) : (s.resetRange lo hi).part = s.part := rfl
@[simp] theorem resetRange_tt (s : State) (lo hi : Nat) : (s.resetRange lo hi).tt = s.tt := rfl
@[simp] theorem resetRange_fn (s : State) (lo hi : Nat) : (s.resetRange lo hi).fn = s.fn := rfl
@[simp] theorem resetRange_latched (s : State) (lo hi : Nat) : (s.resetRange lo hi).latched = s.latched := rfl
@[simp] theorem resetRange_mem (s : State) (lo hi : Nat) : (s.resetRange lo hi).mem = s.mem := rfl
@[simp] theorem resetRange_stage (s : State) (lo hi : Nat) : (s.resetRange lo hi).stage = s.stage := rfl
@[simp] theorem resetRange_stagings (s : State) (lo hi : Nat) : (s.resetRange lo hi).stagings = s.stagings := rfl
@[simp] theorem resetRange_chains (s : State) (lo hi : Nat) : (s.resetRange lo hi).chains = s.chains := rfl
@[simp] theorem resetRange_fcuIn (s : State) (lo hi : Nat) : (s.resetRange lo hi).fcuIn = s.fcuIn := rfl
@[simp] theorem resetRange_srcIn (s : State) (lo hi : Nat) : (s.resetRange lo hi).srcIn = s.srcIn := rfl
@[simp] theorem resetRange_kiln (s : State) (lo hi : Nat) : (s.resetRange lo hi).kiln = s.kiln := rfl
@[simp] theorem resetRange_lanes (s : State) (lo hi : Nat) : (s.resetRange lo hi).lanes = s.lanes := rfl
@[simp] theorem resetRange_gaps (s : State) (lo hi : Nat) : (s.resetRange lo hi).gaps = s.gaps := rfl
@[simp] theorem resetRange_te (s : State) (lo hi : Nat) : (s.resetRange lo hi).te = s.te := rfl
@[simp] theorem resetRange_ve (s : State) (lo hi : Nat) : (s.resetRange lo hi).ve = s.ve := rfl
@[simp] theorem resetRange_wheel (s : State) (lo hi : Nat) : (s.resetRange lo hi).wheel = s.wheel := rfl
@[simp] theorem resetRange_outs (s : State) (lo hi : Nat) : (s.resetRange lo hi).outs = s.outs := rfl
@[simp] theorem resetRange_prot (s : State) (lo hi : Nat) : (s.resetRange lo hi).prot = s.prot := rfl
@[simp] theorem resetRange_cores (s : State) (lo hi : Nat) : (s.resetRange lo hi).cores = s.cores := rfl
@[simp] theorem resetRange_sup (s : State) (lo hi : Nat) : (s.resetRange lo hi).sup = s.sup := rfl
@[simp] theorem resetRange_host (s : State) (lo hi : Nat) : (s.resetRange lo hi).host = s.host := rfl
@[simp] theorem resetRange_orphans (s : State) (lo hi : Nat) : (s.resetRange lo hi).orphans = s.orphans := rfl
@[simp] theorem resetRange_swGroups (s : State) (lo hi : Nat) : (s.resetRange lo hi).swGroups = s.swGroups := rfl
@[simp] theorem resetRange_locked (s : State) (lo hi : Nat) : (s.resetRange lo hi).locked = s.locked := rfl
@[simp] theorem resetRange_timing (s : State) (lo hi : Nat) : (s.resetRange lo hi).timing = s.timing := rfl
@[simp] theorem resetRange_arch (s : State) (lo hi : Nat) : (s.resetRange lo hi).arch = s.arch := rfl
@[simp] theorem resetRange_tw (s : State) (lo hi : Nat) : (s.resetRange lo hi).tw = s.tw := rfl
@[simp] theorem resetRange_sag (s : State) (lo hi : Nat) : (s.resetRange lo hi).sag = s.sag := rfl
@[simp] theorem resetRange_sosc (s : State) (lo hi : Nat) : (s.resetRange lo hi).sosc = s.sosc := rfl
@[simp] theorem resetRange_soscPart (s : State) (lo hi : Nat) : (s.resetRange lo hi).soscPart = s.soscPart := rfl
@[simp] theorem resetRange_draws (s : State) (lo hi : Nat) : (s.resetRange lo hi).draws = s.draws := rfl

/-! ### `State.raise` -/

@[simp] theorem raise_pending (s : State) (id detail : Nat) : (s.raise id detail).pending = s.pending := rfl
@[simp] theorem raise_part (s : State) (id detail : Nat) : (s.raise id detail).part = s.part := rfl
@[simp] theorem raise_tt (s : State) (id detail : Nat) : (s.raise id detail).tt = s.tt := rfl
@[simp] theorem raise_fn (s : State) (id detail : Nat) : (s.raise id detail).fn = s.fn := rfl
@[simp] theorem raise_regs (s : State) (id detail : Nat) : (s.raise id detail).regs = s.regs := rfl
@[simp] theorem raise_latched (s : State) (id detail : Nat) : (s.raise id detail).latched = s.latched := rfl
@[simp] theorem raise_mem (s : State) (id detail : Nat) : (s.raise id detail).mem = s.mem := rfl
@[simp] theorem raise_stage (s : State) (id detail : Nat) : (s.raise id detail).stage = s.stage := rfl
@[simp] theorem raise_stagings (s : State) (id detail : Nat) : (s.raise id detail).stagings = s.stagings := rfl
@[simp] theorem raise_chains (s : State) (id detail : Nat) : (s.raise id detail).chains = s.chains := rfl
@[simp] theorem raise_srcIn (s : State) (id detail : Nat) : (s.raise id detail).srcIn = s.srcIn := rfl
@[simp] theorem raise_kiln (s : State) (id detail : Nat) : (s.raise id detail).kiln = s.kiln := rfl
@[simp] theorem raise_lanes (s : State) (id detail : Nat) : (s.raise id detail).lanes = s.lanes := rfl
@[simp] theorem raise_gaps (s : State) (id detail : Nat) : (s.raise id detail).gaps = s.gaps := rfl
@[simp] theorem raise_te (s : State) (id detail : Nat) : (s.raise id detail).te = s.te := rfl
@[simp] theorem raise_ve (s : State) (id detail : Nat) : (s.raise id detail).ve = s.ve := rfl
@[simp] theorem raise_wheel (s : State) (id detail : Nat) : (s.raise id detail).wheel = s.wheel := rfl
@[simp] theorem raise_outs (s : State) (id detail : Nat) : (s.raise id detail).outs = s.outs := rfl
@[simp] theorem raise_prot (s : State) (id detail : Nat) : (s.raise id detail).prot = s.prot := rfl
@[simp] theorem raise_cores (s : State) (id detail : Nat) : (s.raise id detail).cores = s.cores := rfl
@[simp] theorem raise_sup (s : State) (id detail : Nat) : (s.raise id detail).sup = s.sup := rfl
@[simp] theorem raise_host (s : State) (id detail : Nat) : (s.raise id detail).host = s.host := rfl
@[simp] theorem raise_orphans (s : State) (id detail : Nat) : (s.raise id detail).orphans = s.orphans := rfl
@[simp] theorem raise_swGroups (s : State) (id detail : Nat) : (s.raise id detail).swGroups = s.swGroups := rfl
@[simp] theorem raise_locked (s : State) (id detail : Nat) : (s.raise id detail).locked = s.locked := rfl
@[simp] theorem raise_timing (s : State) (id detail : Nat) : (s.raise id detail).timing = s.timing := rfl
@[simp] theorem raise_arch (s : State) (id detail : Nat) : (s.raise id detail).arch = s.arch := rfl
@[simp] theorem raise_tw (s : State) (id detail : Nat) : (s.raise id detail).tw = s.tw := rfl
@[simp] theorem raise_sag (s : State) (id detail : Nat) : (s.raise id detail).sag = s.sag := rfl
@[simp] theorem raise_sosc (s : State) (id detail : Nat) : (s.raise id detail).sosc = s.sosc := rfl
@[simp] theorem raise_soscPart (s : State) (id detail : Nat) : (s.raise id detail).soscPart = s.soscPart := rfl
@[simp] theorem raise_draws (s : State) (id detail : Nat) : (s.raise id detail).draws = s.draws := rfl

/-! ### `State.raiseSrc` -/

@[simp] theorem raiseSrc_pending (s : State) (k : Nat) : (s.raiseSrc k).pending = s.pending := rfl
@[simp] theorem raiseSrc_part (s : State) (k : Nat) : (s.raiseSrc k).part = s.part := rfl
@[simp] theorem raiseSrc_tt (s : State) (k : Nat) : (s.raiseSrc k).tt = s.tt := rfl
@[simp] theorem raiseSrc_fn (s : State) (k : Nat) : (s.raiseSrc k).fn = s.fn := rfl
@[simp] theorem raiseSrc_regs (s : State) (k : Nat) : (s.raiseSrc k).regs = s.regs := rfl
@[simp] theorem raiseSrc_latched (s : State) (k : Nat) : (s.raiseSrc k).latched = s.latched := rfl
@[simp] theorem raiseSrc_mem (s : State) (k : Nat) : (s.raiseSrc k).mem = s.mem := rfl
@[simp] theorem raiseSrc_stage (s : State) (k : Nat) : (s.raiseSrc k).stage = s.stage := rfl
@[simp] theorem raiseSrc_stagings (s : State) (k : Nat) : (s.raiseSrc k).stagings = s.stagings := rfl
@[simp] theorem raiseSrc_chains (s : State) (k : Nat) : (s.raiseSrc k).chains = s.chains := rfl
@[simp] theorem raiseSrc_fcuIn (s : State) (k : Nat) : (s.raiseSrc k).fcuIn = s.fcuIn := rfl
@[simp] theorem raiseSrc_kiln (s : State) (k : Nat) : (s.raiseSrc k).kiln = s.kiln := rfl
@[simp] theorem raiseSrc_lanes (s : State) (k : Nat) : (s.raiseSrc k).lanes = s.lanes := rfl
@[simp] theorem raiseSrc_gaps (s : State) (k : Nat) : (s.raiseSrc k).gaps = s.gaps := rfl
@[simp] theorem raiseSrc_te (s : State) (k : Nat) : (s.raiseSrc k).te = s.te := rfl
@[simp] theorem raiseSrc_ve (s : State) (k : Nat) : (s.raiseSrc k).ve = s.ve := rfl
@[simp] theorem raiseSrc_wheel (s : State) (k : Nat) : (s.raiseSrc k).wheel = s.wheel := rfl
@[simp] theorem raiseSrc_outs (s : State) (k : Nat) : (s.raiseSrc k).outs = s.outs := rfl
@[simp] theorem raiseSrc_prot (s : State) (k : Nat) : (s.raiseSrc k).prot = s.prot := rfl
@[simp] theorem raiseSrc_cores (s : State) (k : Nat) : (s.raiseSrc k).cores = s.cores := rfl
@[simp] theorem raiseSrc_sup (s : State) (k : Nat) : (s.raiseSrc k).sup = s.sup := rfl
@[simp] theorem raiseSrc_host (s : State) (k : Nat) : (s.raiseSrc k).host = s.host := rfl
@[simp] theorem raiseSrc_orphans (s : State) (k : Nat) : (s.raiseSrc k).orphans = s.orphans := rfl
@[simp] theorem raiseSrc_swGroups (s : State) (k : Nat) : (s.raiseSrc k).swGroups = s.swGroups := rfl
@[simp] theorem raiseSrc_locked (s : State) (k : Nat) : (s.raiseSrc k).locked = s.locked := rfl
@[simp] theorem raiseSrc_timing (s : State) (k : Nat) : (s.raiseSrc k).timing = s.timing := rfl
@[simp] theorem raiseSrc_arch (s : State) (k : Nat) : (s.raiseSrc k).arch = s.arch := rfl
@[simp] theorem raiseSrc_tw (s : State) (k : Nat) : (s.raiseSrc k).tw = s.tw := rfl
@[simp] theorem raiseSrc_sag (s : State) (k : Nat) : (s.raiseSrc k).sag = s.sag := rfl
@[simp] theorem raiseSrc_sosc (s : State) (k : Nat) : (s.raiseSrc k).sosc = s.sosc := rfl
@[simp] theorem raiseSrc_soscPart (s : State) (k : Nat) : (s.raiseSrc k).soscPart = s.soscPart := rfl
@[simp] theorem raiseSrc_draws (s : State) (k : Nat) : (s.raiseSrc k).draws = s.draws := rfl

/-! ### `State.onEnc` -/

@[simp] theorem onEnc_pending (s : State) (n : Enc) (f : EncState → EncState) : (s.onEnc n f).pending = s.pending := rfl
@[simp] theorem onEnc_part (s : State) (n : Enc) (f : EncState → EncState) : (s.onEnc n f).part = s.part := rfl
@[simp] theorem onEnc_tt (s : State) (n : Enc) (f : EncState → EncState) : (s.onEnc n f).tt = s.tt := rfl
@[simp] theorem onEnc_fn (s : State) (n : Enc) (f : EncState → EncState) : (s.onEnc n f).fn = s.fn := rfl
@[simp] theorem onEnc_regs (s : State) (n : Enc) (f : EncState → EncState) : (s.onEnc n f).regs = s.regs := rfl
@[simp] theorem onEnc_latched (s : State) (n : Enc) (f : EncState → EncState) : (s.onEnc n f).latched = s.latched := rfl
@[simp] theorem onEnc_mem (s : State) (n : Enc) (f : EncState → EncState) : (s.onEnc n f).mem = s.mem := rfl
@[simp] theorem onEnc_stage (s : State) (n : Enc) (f : EncState → EncState) : (s.onEnc n f).stage = s.stage := rfl
@[simp] theorem onEnc_stagings (s : State) (n : Enc) (f : EncState → EncState) : (s.onEnc n f).stagings = s.stagings := rfl
@[simp] theorem onEnc_chains (s : State) (n : Enc) (f : EncState → EncState) : (s.onEnc n f).chains = s.chains := rfl
@[simp] theorem onEnc_fcuIn (s : State) (n : Enc) (f : EncState → EncState) : (s.onEnc n f).fcuIn = s.fcuIn := rfl
@[simp] theorem onEnc_srcIn (s : State) (n : Enc) (f : EncState → EncState) : (s.onEnc n f).srcIn = s.srcIn := rfl
@[simp] theorem onEnc_lanes (s : State) (n : Enc) (f : EncState → EncState) : (s.onEnc n f).lanes = s.lanes := rfl
@[simp] theorem onEnc_gaps (s : State) (n : Enc) (f : EncState → EncState) : (s.onEnc n f).gaps = s.gaps := rfl
@[simp] theorem onEnc_te (s : State) (n : Enc) (f : EncState → EncState) : (s.onEnc n f).te = s.te := rfl
@[simp] theorem onEnc_ve (s : State) (n : Enc) (f : EncState → EncState) : (s.onEnc n f).ve = s.ve := rfl
@[simp] theorem onEnc_wheel (s : State) (n : Enc) (f : EncState → EncState) : (s.onEnc n f).wheel = s.wheel := rfl
@[simp] theorem onEnc_outs (s : State) (n : Enc) (f : EncState → EncState) : (s.onEnc n f).outs = s.outs := rfl
@[simp] theorem onEnc_prot (s : State) (n : Enc) (f : EncState → EncState) : (s.onEnc n f).prot = s.prot := rfl
@[simp] theorem onEnc_cores (s : State) (n : Enc) (f : EncState → EncState) : (s.onEnc n f).cores = s.cores := rfl
@[simp] theorem onEnc_sup (s : State) (n : Enc) (f : EncState → EncState) : (s.onEnc n f).sup = s.sup := rfl
@[simp] theorem onEnc_host (s : State) (n : Enc) (f : EncState → EncState) : (s.onEnc n f).host = s.host := rfl
@[simp] theorem onEnc_orphans (s : State) (n : Enc) (f : EncState → EncState) : (s.onEnc n f).orphans = s.orphans := rfl
@[simp] theorem onEnc_swGroups (s : State) (n : Enc) (f : EncState → EncState) : (s.onEnc n f).swGroups = s.swGroups := rfl
@[simp] theorem onEnc_locked (s : State) (n : Enc) (f : EncState → EncState) : (s.onEnc n f).locked = s.locked := rfl
@[simp] theorem onEnc_timing (s : State) (n : Enc) (f : EncState → EncState) : (s.onEnc n f).timing = s.timing := rfl
@[simp] theorem onEnc_arch (s : State) (n : Enc) (f : EncState → EncState) : (s.onEnc n f).arch = s.arch := rfl
@[simp] theorem onEnc_tw (s : State) (n : Enc) (f : EncState → EncState) : (s.onEnc n f).tw = s.tw := rfl
@[simp] theorem onEnc_sag (s : State) (n : Enc) (f : EncState → EncState) : (s.onEnc n f).sag = s.sag := rfl
@[simp] theorem onEnc_sosc (s : State) (n : Enc) (f : EncState → EncState) : (s.onEnc n f).sosc = s.sosc := rfl
@[simp] theorem onEnc_soscPart (s : State) (n : Enc) (f : EncState → EncState) : (s.onEnc n f).soscPart = s.soscPart := rfl
@[simp] theorem onEnc_draws (s : State) (n : Enc) (f : EncState → EncState) : (s.onEnc n f).draws = s.draws := rfl

/-! ### `State.onDom` -/

@[simp] theorem onDom_pending (s : State) (d : Dom) (f : DomState → DomState) : (s.onDom d f).pending = s.pending := rfl
@[simp] theorem onDom_part (s : State) (d : Dom) (f : DomState → DomState) : (s.onDom d f).part = s.part := rfl
@[simp] theorem onDom_tt (s : State) (d : Dom) (f : DomState → DomState) : (s.onDom d f).tt = s.tt := rfl
@[simp] theorem onDom_fn (s : State) (d : Dom) (f : DomState → DomState) : (s.onDom d f).fn = s.fn := rfl
@[simp] theorem onDom_regs (s : State) (d : Dom) (f : DomState → DomState) : (s.onDom d f).regs = s.regs := rfl
@[simp] theorem onDom_latched (s : State) (d : Dom) (f : DomState → DomState) : (s.onDom d f).latched = s.latched := rfl
@[simp] theorem onDom_mem (s : State) (d : Dom) (f : DomState → DomState) : (s.onDom d f).mem = s.mem := rfl
@[simp] theorem onDom_stage (s : State) (d : Dom) (f : DomState → DomState) : (s.onDom d f).stage = s.stage := rfl
@[simp] theorem onDom_stagings (s : State) (d : Dom) (f : DomState → DomState) : (s.onDom d f).stagings = s.stagings := rfl
@[simp] theorem onDom_chains (s : State) (d : Dom) (f : DomState → DomState) : (s.onDom d f).chains = s.chains := rfl
@[simp] theorem onDom_fcuIn (s : State) (d : Dom) (f : DomState → DomState) : (s.onDom d f).fcuIn = s.fcuIn := rfl
@[simp] theorem onDom_srcIn (s : State) (d : Dom) (f : DomState → DomState) : (s.onDom d f).srcIn = s.srcIn := rfl
@[simp] theorem onDom_lanes (s : State) (d : Dom) (f : DomState → DomState) : (s.onDom d f).lanes = s.lanes := rfl
@[simp] theorem onDom_gaps (s : State) (d : Dom) (f : DomState → DomState) : (s.onDom d f).gaps = s.gaps := rfl
@[simp] theorem onDom_te (s : State) (d : Dom) (f : DomState → DomState) : (s.onDom d f).te = s.te := rfl
@[simp] theorem onDom_ve (s : State) (d : Dom) (f : DomState → DomState) : (s.onDom d f).ve = s.ve := rfl
@[simp] theorem onDom_wheel (s : State) (d : Dom) (f : DomState → DomState) : (s.onDom d f).wheel = s.wheel := rfl
@[simp] theorem onDom_outs (s : State) (d : Dom) (f : DomState → DomState) : (s.onDom d f).outs = s.outs := rfl
@[simp] theorem onDom_prot (s : State) (d : Dom) (f : DomState → DomState) : (s.onDom d f).prot = s.prot := rfl
@[simp] theorem onDom_cores (s : State) (d : Dom) (f : DomState → DomState) : (s.onDom d f).cores = s.cores := rfl
@[simp] theorem onDom_sup (s : State) (d : Dom) (f : DomState → DomState) : (s.onDom d f).sup = s.sup := rfl
@[simp] theorem onDom_host (s : State) (d : Dom) (f : DomState → DomState) : (s.onDom d f).host = s.host := rfl
@[simp] theorem onDom_orphans (s : State) (d : Dom) (f : DomState → DomState) : (s.onDom d f).orphans = s.orphans := rfl
@[simp] theorem onDom_swGroups (s : State) (d : Dom) (f : DomState → DomState) : (s.onDom d f).swGroups = s.swGroups := rfl
@[simp] theorem onDom_locked (s : State) (d : Dom) (f : DomState → DomState) : (s.onDom d f).locked = s.locked := rfl
@[simp] theorem onDom_timing (s : State) (d : Dom) (f : DomState → DomState) : (s.onDom d f).timing = s.timing := rfl
@[simp] theorem onDom_arch (s : State) (d : Dom) (f : DomState → DomState) : (s.onDom d f).arch = s.arch := rfl
@[simp] theorem onDom_tw (s : State) (d : Dom) (f : DomState → DomState) : (s.onDom d f).tw = s.tw := rfl
@[simp] theorem onDom_sag (s : State) (d : Dom) (f : DomState → DomState) : (s.onDom d f).sag = s.sag := rfl
@[simp] theorem onDom_sosc (s : State) (d : Dom) (f : DomState → DomState) : (s.onDom d f).sosc = s.sosc := rfl
@[simp] theorem onDom_soscPart (s : State) (d : Dom) (f : DomState → DomState) : (s.onDom d f).soscPart = s.soscPart := rfl
@[simp] theorem onDom_draws (s : State) (d : Dom) (f : DomState → DomState) : (s.onDom d f).draws = s.draws := rfl

/-! ### `State.onKiln` -/

@[simp] theorem onKiln_pending (s : State) (f : Kiln → Kiln) : (s.onKiln f).pending = s.pending := rfl
@[simp] theorem onKiln_part (s : State) (f : Kiln → Kiln) : (s.onKiln f).part = s.part := rfl
@[simp] theorem onKiln_tt (s : State) (f : Kiln → Kiln) : (s.onKiln f).tt = s.tt := rfl
@[simp] theorem onKiln_fn (s : State) (f : Kiln → Kiln) : (s.onKiln f).fn = s.fn := rfl
@[simp] theorem onKiln_regs (s : State) (f : Kiln → Kiln) : (s.onKiln f).regs = s.regs := rfl
@[simp] theorem onKiln_latched (s : State) (f : Kiln → Kiln) : (s.onKiln f).latched = s.latched := rfl
@[simp] theorem onKiln_mem (s : State) (f : Kiln → Kiln) : (s.onKiln f).mem = s.mem := rfl
@[simp] theorem onKiln_stage (s : State) (f : Kiln → Kiln) : (s.onKiln f).stage = s.stage := rfl
@[simp] theorem onKiln_stagings (s : State) (f : Kiln → Kiln) : (s.onKiln f).stagings = s.stagings := rfl
@[simp] theorem onKiln_chains (s : State) (f : Kiln → Kiln) : (s.onKiln f).chains = s.chains := rfl
@[simp] theorem onKiln_fcuIn (s : State) (f : Kiln → Kiln) : (s.onKiln f).fcuIn = s.fcuIn := rfl
@[simp] theorem onKiln_srcIn (s : State) (f : Kiln → Kiln) : (s.onKiln f).srcIn = s.srcIn := rfl
@[simp] theorem onKiln_lanes (s : State) (f : Kiln → Kiln) : (s.onKiln f).lanes = s.lanes := rfl
@[simp] theorem onKiln_gaps (s : State) (f : Kiln → Kiln) : (s.onKiln f).gaps = s.gaps := rfl
@[simp] theorem onKiln_te (s : State) (f : Kiln → Kiln) : (s.onKiln f).te = s.te := rfl
@[simp] theorem onKiln_ve (s : State) (f : Kiln → Kiln) : (s.onKiln f).ve = s.ve := rfl
@[simp] theorem onKiln_wheel (s : State) (f : Kiln → Kiln) : (s.onKiln f).wheel = s.wheel := rfl
@[simp] theorem onKiln_outs (s : State) (f : Kiln → Kiln) : (s.onKiln f).outs = s.outs := rfl
@[simp] theorem onKiln_prot (s : State) (f : Kiln → Kiln) : (s.onKiln f).prot = s.prot := rfl
@[simp] theorem onKiln_cores (s : State) (f : Kiln → Kiln) : (s.onKiln f).cores = s.cores := rfl
@[simp] theorem onKiln_sup (s : State) (f : Kiln → Kiln) : (s.onKiln f).sup = s.sup := rfl
@[simp] theorem onKiln_host (s : State) (f : Kiln → Kiln) : (s.onKiln f).host = s.host := rfl
@[simp] theorem onKiln_orphans (s : State) (f : Kiln → Kiln) : (s.onKiln f).orphans = s.orphans := rfl
@[simp] theorem onKiln_swGroups (s : State) (f : Kiln → Kiln) : (s.onKiln f).swGroups = s.swGroups := rfl
@[simp] theorem onKiln_locked (s : State) (f : Kiln → Kiln) : (s.onKiln f).locked = s.locked := rfl
@[simp] theorem onKiln_timing (s : State) (f : Kiln → Kiln) : (s.onKiln f).timing = s.timing := rfl
@[simp] theorem onKiln_arch (s : State) (f : Kiln → Kiln) : (s.onKiln f).arch = s.arch := rfl
@[simp] theorem onKiln_tw (s : State) (f : Kiln → Kiln) : (s.onKiln f).tw = s.tw := rfl
@[simp] theorem onKiln_sag (s : State) (f : Kiln → Kiln) : (s.onKiln f).sag = s.sag := rfl
@[simp] theorem onKiln_sosc (s : State) (f : Kiln → Kiln) : (s.onKiln f).sosc = s.sosc := rfl
@[simp] theorem onKiln_soscPart (s : State) (f : Kiln → Kiln) : (s.onKiln f).soscPart = s.soscPart := rfl
@[simp] theorem onKiln_draws (s : State) (f : Kiln → Kiln) : (s.onKiln f).draws = s.draws := rfl

/-! ### `State.onChan` -/

@[simp] theorem onChan_pending (s : State) (n : Chan) (f : ChanState → ChanState) : (s.onChan n f).pending = s.pending := rfl
@[simp] theorem onChan_part (s : State) (n : Chan) (f : ChanState → ChanState) : (s.onChan n f).part = s.part := rfl
@[simp] theorem onChan_tt (s : State) (n : Chan) (f : ChanState → ChanState) : (s.onChan n f).tt = s.tt := rfl
@[simp] theorem onChan_fn (s : State) (n : Chan) (f : ChanState → ChanState) : (s.onChan n f).fn = s.fn := rfl
@[simp] theorem onChan_regs (s : State) (n : Chan) (f : ChanState → ChanState) : (s.onChan n f).regs = s.regs := rfl
@[simp] theorem onChan_latched (s : State) (n : Chan) (f : ChanState → ChanState) : (s.onChan n f).latched = s.latched := rfl
@[simp] theorem onChan_mem (s : State) (n : Chan) (f : ChanState → ChanState) : (s.onChan n f).mem = s.mem := rfl
@[simp] theorem onChan_stage (s : State) (n : Chan) (f : ChanState → ChanState) : (s.onChan n f).stage = s.stage := rfl
@[simp] theorem onChan_stagings (s : State) (n : Chan) (f : ChanState → ChanState) : (s.onChan n f).stagings = s.stagings := rfl
@[simp] theorem onChan_chains (s : State) (n : Chan) (f : ChanState → ChanState) : (s.onChan n f).chains = s.chains := rfl
@[simp] theorem onChan_fcuIn (s : State) (n : Chan) (f : ChanState → ChanState) : (s.onChan n f).fcuIn = s.fcuIn := rfl
@[simp] theorem onChan_srcIn (s : State) (n : Chan) (f : ChanState → ChanState) : (s.onChan n f).srcIn = s.srcIn := rfl
@[simp] theorem onChan_kiln (s : State) (n : Chan) (f : ChanState → ChanState) : (s.onChan n f).kiln = s.kiln := rfl
@[simp] theorem onChan_lanes (s : State) (n : Chan) (f : ChanState → ChanState) : (s.onChan n f).lanes = s.lanes := rfl
@[simp] theorem onChan_gaps (s : State) (n : Chan) (f : ChanState → ChanState) : (s.onChan n f).gaps = s.gaps := rfl
@[simp] theorem onChan_te (s : State) (n : Chan) (f : ChanState → ChanState) : (s.onChan n f).te = s.te := rfl
@[simp] theorem onChan_ve (s : State) (n : Chan) (f : ChanState → ChanState) : (s.onChan n f).ve = s.ve := rfl
@[simp] theorem onChan_wheel (s : State) (n : Chan) (f : ChanState → ChanState) : (s.onChan n f).wheel = s.wheel := rfl
@[simp] theorem onChan_prot (s : State) (n : Chan) (f : ChanState → ChanState) : (s.onChan n f).prot = s.prot := rfl
@[simp] theorem onChan_cores (s : State) (n : Chan) (f : ChanState → ChanState) : (s.onChan n f).cores = s.cores := rfl
@[simp] theorem onChan_sup (s : State) (n : Chan) (f : ChanState → ChanState) : (s.onChan n f).sup = s.sup := rfl
@[simp] theorem onChan_host (s : State) (n : Chan) (f : ChanState → ChanState) : (s.onChan n f).host = s.host := rfl
@[simp] theorem onChan_orphans (s : State) (n : Chan) (f : ChanState → ChanState) : (s.onChan n f).orphans = s.orphans := rfl
@[simp] theorem onChan_swGroups (s : State) (n : Chan) (f : ChanState → ChanState) : (s.onChan n f).swGroups = s.swGroups := rfl
@[simp] theorem onChan_locked (s : State) (n : Chan) (f : ChanState → ChanState) : (s.onChan n f).locked = s.locked := rfl
@[simp] theorem onChan_timing (s : State) (n : Chan) (f : ChanState → ChanState) : (s.onChan n f).timing = s.timing := rfl
@[simp] theorem onChan_arch (s : State) (n : Chan) (f : ChanState → ChanState) : (s.onChan n f).arch = s.arch := rfl
@[simp] theorem onChan_tw (s : State) (n : Chan) (f : ChanState → ChanState) : (s.onChan n f).tw = s.tw := rfl
@[simp] theorem onChan_sag (s : State) (n : Chan) (f : ChanState → ChanState) : (s.onChan n f).sag = s.sag := rfl
@[simp] theorem onChan_sosc (s : State) (n : Chan) (f : ChanState → ChanState) : (s.onChan n f).sosc = s.sosc := rfl
@[simp] theorem onChan_soscPart (s : State) (n : Chan) (f : ChanState → ChanState) : (s.onChan n f).soscPart = s.soscPart := rfl
@[simp] theorem onChan_draws (s : State) (n : Chan) (f : ChanState → ChanState) : (s.onChan n f).draws = s.draws := rfl

/-! ### `State.onWheel` -/

@[simp] theorem onWheel_pending (s : State) (f : Wheel → Wheel) : (s.onWheel f).pending = s.pending := rfl
@[simp] theorem onWheel_part (s : State) (f : Wheel → Wheel) : (s.onWheel f).part = s.part := rfl
@[simp] theorem onWheel_tt (s : State) (f : Wheel → Wheel) : (s.onWheel f).tt = s.tt := rfl
@[simp] theorem onWheel_fn (s : State) (f : Wheel → Wheel) : (s.onWheel f).fn = s.fn := rfl
@[simp] theorem onWheel_regs (s : State) (f : Wheel → Wheel) : (s.onWheel f).regs = s.regs := rfl
@[simp] theorem onWheel_latched (s : State) (f : Wheel → Wheel) : (s.onWheel f).latched = s.latched := rfl
@[simp] theorem onWheel_mem (s : State) (f : Wheel → Wheel) : (s.onWheel f).mem = s.mem := rfl
@[simp] theorem onWheel_stage (s : State) (f : Wheel → Wheel) : (s.onWheel f).stage = s.stage := rfl
@[simp] theorem onWheel_stagings (s : State) (f : Wheel → Wheel) : (s.onWheel f).stagings = s.stagings := rfl
@[simp] theorem onWheel_chains (s : State) (f : Wheel → Wheel) : (s.onWheel f).chains = s.chains := rfl
@[simp] theorem onWheel_fcuIn (s : State) (f : Wheel → Wheel) : (s.onWheel f).fcuIn = s.fcuIn := rfl
@[simp] theorem onWheel_srcIn (s : State) (f : Wheel → Wheel) : (s.onWheel f).srcIn = s.srcIn := rfl
@[simp] theorem onWheel_kiln (s : State) (f : Wheel → Wheel) : (s.onWheel f).kiln = s.kiln := rfl
@[simp] theorem onWheel_lanes (s : State) (f : Wheel → Wheel) : (s.onWheel f).lanes = s.lanes := rfl
@[simp] theorem onWheel_gaps (s : State) (f : Wheel → Wheel) : (s.onWheel f).gaps = s.gaps := rfl
@[simp] theorem onWheel_te (s : State) (f : Wheel → Wheel) : (s.onWheel f).te = s.te := rfl
@[simp] theorem onWheel_ve (s : State) (f : Wheel → Wheel) : (s.onWheel f).ve = s.ve := rfl
@[simp] theorem onWheel_outs (s : State) (f : Wheel → Wheel) : (s.onWheel f).outs = s.outs := rfl
@[simp] theorem onWheel_prot (s : State) (f : Wheel → Wheel) : (s.onWheel f).prot = s.prot := rfl
@[simp] theorem onWheel_cores (s : State) (f : Wheel → Wheel) : (s.onWheel f).cores = s.cores := rfl
@[simp] theorem onWheel_sup (s : State) (f : Wheel → Wheel) : (s.onWheel f).sup = s.sup := rfl
@[simp] theorem onWheel_host (s : State) (f : Wheel → Wheel) : (s.onWheel f).host = s.host := rfl
@[simp] theorem onWheel_orphans (s : State) (f : Wheel → Wheel) : (s.onWheel f).orphans = s.orphans := rfl
@[simp] theorem onWheel_swGroups (s : State) (f : Wheel → Wheel) : (s.onWheel f).swGroups = s.swGroups := rfl
@[simp] theorem onWheel_locked (s : State) (f : Wheel → Wheel) : (s.onWheel f).locked = s.locked := rfl
@[simp] theorem onWheel_timing (s : State) (f : Wheel → Wheel) : (s.onWheel f).timing = s.timing := rfl
@[simp] theorem onWheel_arch (s : State) (f : Wheel → Wheel) : (s.onWheel f).arch = s.arch := rfl
@[simp] theorem onWheel_tw (s : State) (f : Wheel → Wheel) : (s.onWheel f).tw = s.tw := rfl
@[simp] theorem onWheel_sag (s : State) (f : Wheel → Wheel) : (s.onWheel f).sag = s.sag := rfl
@[simp] theorem onWheel_sosc (s : State) (f : Wheel → Wheel) : (s.onWheel f).sosc = s.sosc := rfl
@[simp] theorem onWheel_soscPart (s : State) (f : Wheel → Wheel) : (s.onWheel f).soscPart = s.soscPart := rfl
@[simp] theorem onWheel_draws (s : State) (f : Wheel → Wheel) : (s.onWheel f).draws = s.draws := rfl

/-! ### `State.onCore` -/

@[simp] theorem onCore_pending (s : State) (g : Group) (f : Core → Core) : (s.onCore g f).pending = s.pending := rfl
@[simp] theorem onCore_part (s : State) (g : Group) (f : Core → Core) : (s.onCore g f).part = s.part := rfl
@[simp] theorem onCore_tt (s : State) (g : Group) (f : Core → Core) : (s.onCore g f).tt = s.tt := rfl
@[simp] theorem onCore_fn (s : State) (g : Group) (f : Core → Core) : (s.onCore g f).fn = s.fn := rfl
@[simp] theorem onCore_regs (s : State) (g : Group) (f : Core → Core) : (s.onCore g f).regs = s.regs := rfl
@[simp] theorem onCore_latched (s : State) (g : Group) (f : Core → Core) : (s.onCore g f).latched = s.latched := rfl
@[simp] theorem onCore_mem (s : State) (g : Group) (f : Core → Core) : (s.onCore g f).mem = s.mem := rfl
@[simp] theorem onCore_stage (s : State) (g : Group) (f : Core → Core) : (s.onCore g f).stage = s.stage := rfl
@[simp] theorem onCore_stagings (s : State) (g : Group) (f : Core → Core) : (s.onCore g f).stagings = s.stagings := rfl
@[simp] theorem onCore_chains (s : State) (g : Group) (f : Core → Core) : (s.onCore g f).chains = s.chains := rfl
@[simp] theorem onCore_fcuIn (s : State) (g : Group) (f : Core → Core) : (s.onCore g f).fcuIn = s.fcuIn := rfl
@[simp] theorem onCore_srcIn (s : State) (g : Group) (f : Core → Core) : (s.onCore g f).srcIn = s.srcIn := rfl
@[simp] theorem onCore_kiln (s : State) (g : Group) (f : Core → Core) : (s.onCore g f).kiln = s.kiln := rfl
@[simp] theorem onCore_lanes (s : State) (g : Group) (f : Core → Core) : (s.onCore g f).lanes = s.lanes := rfl
@[simp] theorem onCore_gaps (s : State) (g : Group) (f : Core → Core) : (s.onCore g f).gaps = s.gaps := rfl
@[simp] theorem onCore_te (s : State) (g : Group) (f : Core → Core) : (s.onCore g f).te = s.te := rfl
@[simp] theorem onCore_ve (s : State) (g : Group) (f : Core → Core) : (s.onCore g f).ve = s.ve := rfl
@[simp] theorem onCore_wheel (s : State) (g : Group) (f : Core → Core) : (s.onCore g f).wheel = s.wheel := rfl
@[simp] theorem onCore_outs (s : State) (g : Group) (f : Core → Core) : (s.onCore g f).outs = s.outs := rfl
@[simp] theorem onCore_prot (s : State) (g : Group) (f : Core → Core) : (s.onCore g f).prot = s.prot := rfl
@[simp] theorem onCore_sup (s : State) (g : Group) (f : Core → Core) : (s.onCore g f).sup = s.sup := rfl
@[simp] theorem onCore_host (s : State) (g : Group) (f : Core → Core) : (s.onCore g f).host = s.host := rfl
@[simp] theorem onCore_orphans (s : State) (g : Group) (f : Core → Core) : (s.onCore g f).orphans = s.orphans := rfl
@[simp] theorem onCore_swGroups (s : State) (g : Group) (f : Core → Core) : (s.onCore g f).swGroups = s.swGroups := rfl
@[simp] theorem onCore_locked (s : State) (g : Group) (f : Core → Core) : (s.onCore g f).locked = s.locked := rfl
@[simp] theorem onCore_timing (s : State) (g : Group) (f : Core → Core) : (s.onCore g f).timing = s.timing := rfl
@[simp] theorem onCore_arch (s : State) (g : Group) (f : Core → Core) : (s.onCore g f).arch = s.arch := rfl
@[simp] theorem onCore_tw (s : State) (g : Group) (f : Core → Core) : (s.onCore g f).tw = s.tw := rfl
@[simp] theorem onCore_sag (s : State) (g : Group) (f : Core → Core) : (s.onCore g f).sag = s.sag := rfl
@[simp] theorem onCore_sosc (s : State) (g : Group) (f : Core → Core) : (s.onCore g f).sosc = s.sosc := rfl
@[simp] theorem onCore_soscPart (s : State) (g : Group) (f : Core → Core) : (s.onCore g f).soscPart = s.soscPart := rfl
@[simp] theorem onCore_draws (s : State) (g : Group) (f : Core → Core) : (s.onCore g f).draws = s.draws := rfl

/-! ### `State.onLane` -/

@[simp] theorem onLane_pending (s : State) (n : Lane) (f : LaneState → LaneState) : (s.onLane n f).pending = s.pending := rfl
@[simp] theorem onLane_part (s : State) (n : Lane) (f : LaneState → LaneState) : (s.onLane n f).part = s.part := rfl
@[simp] theorem onLane_tt (s : State) (n : Lane) (f : LaneState → LaneState) : (s.onLane n f).tt = s.tt := rfl
@[simp] theorem onLane_fn (s : State) (n : Lane) (f : LaneState → LaneState) : (s.onLane n f).fn = s.fn := rfl
@[simp] theorem onLane_regs (s : State) (n : Lane) (f : LaneState → LaneState) : (s.onLane n f).regs = s.regs := rfl
@[simp] theorem onLane_latched (s : State) (n : Lane) (f : LaneState → LaneState) : (s.onLane n f).latched = s.latched := rfl
@[simp] theorem onLane_mem (s : State) (n : Lane) (f : LaneState → LaneState) : (s.onLane n f).mem = s.mem := rfl
@[simp] theorem onLane_stage (s : State) (n : Lane) (f : LaneState → LaneState) : (s.onLane n f).stage = s.stage := rfl
@[simp] theorem onLane_stagings (s : State) (n : Lane) (f : LaneState → LaneState) : (s.onLane n f).stagings = s.stagings := rfl
@[simp] theorem onLane_chains (s : State) (n : Lane) (f : LaneState → LaneState) : (s.onLane n f).chains = s.chains := rfl
@[simp] theorem onLane_fcuIn (s : State) (n : Lane) (f : LaneState → LaneState) : (s.onLane n f).fcuIn = s.fcuIn := rfl
@[simp] theorem onLane_srcIn (s : State) (n : Lane) (f : LaneState → LaneState) : (s.onLane n f).srcIn = s.srcIn := rfl
@[simp] theorem onLane_kiln (s : State) (n : Lane) (f : LaneState → LaneState) : (s.onLane n f).kiln = s.kiln := rfl
@[simp] theorem onLane_gaps (s : State) (n : Lane) (f : LaneState → LaneState) : (s.onLane n f).gaps = s.gaps := rfl
@[simp] theorem onLane_te (s : State) (n : Lane) (f : LaneState → LaneState) : (s.onLane n f).te = s.te := rfl
@[simp] theorem onLane_ve (s : State) (n : Lane) (f : LaneState → LaneState) : (s.onLane n f).ve = s.ve := rfl
@[simp] theorem onLane_wheel (s : State) (n : Lane) (f : LaneState → LaneState) : (s.onLane n f).wheel = s.wheel := rfl
@[simp] theorem onLane_outs (s : State) (n : Lane) (f : LaneState → LaneState) : (s.onLane n f).outs = s.outs := rfl
@[simp] theorem onLane_prot (s : State) (n : Lane) (f : LaneState → LaneState) : (s.onLane n f).prot = s.prot := rfl
@[simp] theorem onLane_cores (s : State) (n : Lane) (f : LaneState → LaneState) : (s.onLane n f).cores = s.cores := rfl
@[simp] theorem onLane_sup (s : State) (n : Lane) (f : LaneState → LaneState) : (s.onLane n f).sup = s.sup := rfl
@[simp] theorem onLane_host (s : State) (n : Lane) (f : LaneState → LaneState) : (s.onLane n f).host = s.host := rfl
@[simp] theorem onLane_orphans (s : State) (n : Lane) (f : LaneState → LaneState) : (s.onLane n f).orphans = s.orphans := rfl
@[simp] theorem onLane_swGroups (s : State) (n : Lane) (f : LaneState → LaneState) : (s.onLane n f).swGroups = s.swGroups := rfl
@[simp] theorem onLane_locked (s : State) (n : Lane) (f : LaneState → LaneState) : (s.onLane n f).locked = s.locked := rfl
@[simp] theorem onLane_timing (s : State) (n : Lane) (f : LaneState → LaneState) : (s.onLane n f).timing = s.timing := rfl
@[simp] theorem onLane_arch (s : State) (n : Lane) (f : LaneState → LaneState) : (s.onLane n f).arch = s.arch := rfl
@[simp] theorem onLane_tw (s : State) (n : Lane) (f : LaneState → LaneState) : (s.onLane n f).tw = s.tw := rfl
@[simp] theorem onLane_sag (s : State) (n : Lane) (f : LaneState → LaneState) : (s.onLane n f).sag = s.sag := rfl
@[simp] theorem onLane_sosc (s : State) (n : Lane) (f : LaneState → LaneState) : (s.onLane n f).sosc = s.sosc := rfl
@[simp] theorem onLane_soscPart (s : State) (n : Lane) (f : LaneState → LaneState) : (s.onLane n f).soscPart = s.soscPart := rfl
@[simp] theorem onLane_draws (s : State) (n : Lane) (f : LaneState → LaneState) : (s.onLane n f).draws = s.draws := rfl

/-! ### `State.onTe` -/

@[simp] theorem onTe_pending (s : State) (f : Tracks → Tracks) : (s.onTe f).pending = s.pending := rfl
@[simp] theorem onTe_part (s : State) (f : Tracks → Tracks) : (s.onTe f).part = s.part := rfl
@[simp] theorem onTe_tt (s : State) (f : Tracks → Tracks) : (s.onTe f).tt = s.tt := rfl
@[simp] theorem onTe_fn (s : State) (f : Tracks → Tracks) : (s.onTe f).fn = s.fn := rfl
@[simp] theorem onTe_regs (s : State) (f : Tracks → Tracks) : (s.onTe f).regs = s.regs := rfl
@[simp] theorem onTe_latched (s : State) (f : Tracks → Tracks) : (s.onTe f).latched = s.latched := rfl
@[simp] theorem onTe_mem (s : State) (f : Tracks → Tracks) : (s.onTe f).mem = s.mem := rfl
@[simp] theorem onTe_stage (s : State) (f : Tracks → Tracks) : (s.onTe f).stage = s.stage := rfl
@[simp] theorem onTe_stagings (s : State) (f : Tracks → Tracks) : (s.onTe f).stagings = s.stagings := rfl
@[simp] theorem onTe_chains (s : State) (f : Tracks → Tracks) : (s.onTe f).chains = s.chains := rfl
@[simp] theorem onTe_fcuIn (s : State) (f : Tracks → Tracks) : (s.onTe f).fcuIn = s.fcuIn := rfl
@[simp] theorem onTe_srcIn (s : State) (f : Tracks → Tracks) : (s.onTe f).srcIn = s.srcIn := rfl
@[simp] theorem onTe_kiln (s : State) (f : Tracks → Tracks) : (s.onTe f).kiln = s.kiln := rfl
@[simp] theorem onTe_lanes (s : State) (f : Tracks → Tracks) : (s.onTe f).lanes = s.lanes := rfl
@[simp] theorem onTe_gaps (s : State) (f : Tracks → Tracks) : (s.onTe f).gaps = s.gaps := rfl
@[simp] theorem onTe_ve (s : State) (f : Tracks → Tracks) : (s.onTe f).ve = s.ve := rfl
@[simp] theorem onTe_wheel (s : State) (f : Tracks → Tracks) : (s.onTe f).wheel = s.wheel := rfl
@[simp] theorem onTe_outs (s : State) (f : Tracks → Tracks) : (s.onTe f).outs = s.outs := rfl
@[simp] theorem onTe_prot (s : State) (f : Tracks → Tracks) : (s.onTe f).prot = s.prot := rfl
@[simp] theorem onTe_cores (s : State) (f : Tracks → Tracks) : (s.onTe f).cores = s.cores := rfl
@[simp] theorem onTe_sup (s : State) (f : Tracks → Tracks) : (s.onTe f).sup = s.sup := rfl
@[simp] theorem onTe_host (s : State) (f : Tracks → Tracks) : (s.onTe f).host = s.host := rfl
@[simp] theorem onTe_orphans (s : State) (f : Tracks → Tracks) : (s.onTe f).orphans = s.orphans := rfl
@[simp] theorem onTe_swGroups (s : State) (f : Tracks → Tracks) : (s.onTe f).swGroups = s.swGroups := rfl
@[simp] theorem onTe_locked (s : State) (f : Tracks → Tracks) : (s.onTe f).locked = s.locked := rfl
@[simp] theorem onTe_timing (s : State) (f : Tracks → Tracks) : (s.onTe f).timing = s.timing := rfl
@[simp] theorem onTe_arch (s : State) (f : Tracks → Tracks) : (s.onTe f).arch = s.arch := rfl
@[simp] theorem onTe_tw (s : State) (f : Tracks → Tracks) : (s.onTe f).tw = s.tw := rfl
@[simp] theorem onTe_sag (s : State) (f : Tracks → Tracks) : (s.onTe f).sag = s.sag := rfl
@[simp] theorem onTe_sosc (s : State) (f : Tracks → Tracks) : (s.onTe f).sosc = s.sosc := rfl
@[simp] theorem onTe_soscPart (s : State) (f : Tracks → Tracks) : (s.onTe f).soscPart = s.soscPart := rfl
@[simp] theorem onTe_draws (s : State) (f : Tracks → Tracks) : (s.onTe f).draws = s.draws := rfl

/-! ### `State.onVe` -/

@[simp] theorem onVe_pending (s : State) (f : Verify → Verify) : (s.onVe f).pending = s.pending := rfl
@[simp] theorem onVe_part (s : State) (f : Verify → Verify) : (s.onVe f).part = s.part := rfl
@[simp] theorem onVe_tt (s : State) (f : Verify → Verify) : (s.onVe f).tt = s.tt := rfl
@[simp] theorem onVe_fn (s : State) (f : Verify → Verify) : (s.onVe f).fn = s.fn := rfl
@[simp] theorem onVe_regs (s : State) (f : Verify → Verify) : (s.onVe f).regs = s.regs := rfl
@[simp] theorem onVe_latched (s : State) (f : Verify → Verify) : (s.onVe f).latched = s.latched := rfl
@[simp] theorem onVe_mem (s : State) (f : Verify → Verify) : (s.onVe f).mem = s.mem := rfl
@[simp] theorem onVe_stage (s : State) (f : Verify → Verify) : (s.onVe f).stage = s.stage := rfl
@[simp] theorem onVe_stagings (s : State) (f : Verify → Verify) : (s.onVe f).stagings = s.stagings := rfl
@[simp] theorem onVe_chains (s : State) (f : Verify → Verify) : (s.onVe f).chains = s.chains := rfl
@[simp] theorem onVe_fcuIn (s : State) (f : Verify → Verify) : (s.onVe f).fcuIn = s.fcuIn := rfl
@[simp] theorem onVe_srcIn (s : State) (f : Verify → Verify) : (s.onVe f).srcIn = s.srcIn := rfl
@[simp] theorem onVe_kiln (s : State) (f : Verify → Verify) : (s.onVe f).kiln = s.kiln := rfl
@[simp] theorem onVe_lanes (s : State) (f : Verify → Verify) : (s.onVe f).lanes = s.lanes := rfl
@[simp] theorem onVe_gaps (s : State) (f : Verify → Verify) : (s.onVe f).gaps = s.gaps := rfl
@[simp] theorem onVe_te (s : State) (f : Verify → Verify) : (s.onVe f).te = s.te := rfl
@[simp] theorem onVe_wheel (s : State) (f : Verify → Verify) : (s.onVe f).wheel = s.wheel := rfl
@[simp] theorem onVe_outs (s : State) (f : Verify → Verify) : (s.onVe f).outs = s.outs := rfl
@[simp] theorem onVe_prot (s : State) (f : Verify → Verify) : (s.onVe f).prot = s.prot := rfl
@[simp] theorem onVe_cores (s : State) (f : Verify → Verify) : (s.onVe f).cores = s.cores := rfl
@[simp] theorem onVe_sup (s : State) (f : Verify → Verify) : (s.onVe f).sup = s.sup := rfl
@[simp] theorem onVe_host (s : State) (f : Verify → Verify) : (s.onVe f).host = s.host := rfl
@[simp] theorem onVe_orphans (s : State) (f : Verify → Verify) : (s.onVe f).orphans = s.orphans := rfl
@[simp] theorem onVe_swGroups (s : State) (f : Verify → Verify) : (s.onVe f).swGroups = s.swGroups := rfl
@[simp] theorem onVe_locked (s : State) (f : Verify → Verify) : (s.onVe f).locked = s.locked := rfl
@[simp] theorem onVe_timing (s : State) (f : Verify → Verify) : (s.onVe f).timing = s.timing := rfl
@[simp] theorem onVe_arch (s : State) (f : Verify → Verify) : (s.onVe f).arch = s.arch := rfl
@[simp] theorem onVe_tw (s : State) (f : Verify → Verify) : (s.onVe f).tw = s.tw := rfl
@[simp] theorem onVe_sag (s : State) (f : Verify → Verify) : (s.onVe f).sag = s.sag := rfl
@[simp] theorem onVe_sosc (s : State) (f : Verify → Verify) : (s.onVe f).sosc = s.sosc := rfl
@[simp] theorem onVe_soscPart (s : State) (f : Verify → Verify) : (s.onVe f).soscPart = s.soscPart := rfl
@[simp] theorem onVe_draws (s : State) (f : Verify → Verify) : (s.onVe f).draws = s.draws := rfl

/-! ### `State.onArch` -/

@[simp] theorem onArch_pending (s : State) (f : Archive → Archive) : (s.onArch f).pending = s.pending := rfl
@[simp] theorem onArch_part (s : State) (f : Archive → Archive) : (s.onArch f).part = s.part := rfl
@[simp] theorem onArch_tt (s : State) (f : Archive → Archive) : (s.onArch f).tt = s.tt := rfl
@[simp] theorem onArch_fn (s : State) (f : Archive → Archive) : (s.onArch f).fn = s.fn := rfl
@[simp] theorem onArch_regs (s : State) (f : Archive → Archive) : (s.onArch f).regs = s.regs := rfl
@[simp] theorem onArch_latched (s : State) (f : Archive → Archive) : (s.onArch f).latched = s.latched := rfl
@[simp] theorem onArch_mem (s : State) (f : Archive → Archive) : (s.onArch f).mem = s.mem := rfl
@[simp] theorem onArch_stage (s : State) (f : Archive → Archive) : (s.onArch f).stage = s.stage := rfl
@[simp] theorem onArch_stagings (s : State) (f : Archive → Archive) : (s.onArch f).stagings = s.stagings := rfl
@[simp] theorem onArch_chains (s : State) (f : Archive → Archive) : (s.onArch f).chains = s.chains := rfl
@[simp] theorem onArch_fcuIn (s : State) (f : Archive → Archive) : (s.onArch f).fcuIn = s.fcuIn := rfl
@[simp] theorem onArch_srcIn (s : State) (f : Archive → Archive) : (s.onArch f).srcIn = s.srcIn := rfl
@[simp] theorem onArch_kiln (s : State) (f : Archive → Archive) : (s.onArch f).kiln = s.kiln := rfl
@[simp] theorem onArch_lanes (s : State) (f : Archive → Archive) : (s.onArch f).lanes = s.lanes := rfl
@[simp] theorem onArch_gaps (s : State) (f : Archive → Archive) : (s.onArch f).gaps = s.gaps := rfl
@[simp] theorem onArch_te (s : State) (f : Archive → Archive) : (s.onArch f).te = s.te := rfl
@[simp] theorem onArch_ve (s : State) (f : Archive → Archive) : (s.onArch f).ve = s.ve := rfl
@[simp] theorem onArch_wheel (s : State) (f : Archive → Archive) : (s.onArch f).wheel = s.wheel := rfl
@[simp] theorem onArch_outs (s : State) (f : Archive → Archive) : (s.onArch f).outs = s.outs := rfl
@[simp] theorem onArch_prot (s : State) (f : Archive → Archive) : (s.onArch f).prot = s.prot := rfl
@[simp] theorem onArch_cores (s : State) (f : Archive → Archive) : (s.onArch f).cores = s.cores := rfl
@[simp] theorem onArch_sup (s : State) (f : Archive → Archive) : (s.onArch f).sup = s.sup := rfl
@[simp] theorem onArch_host (s : State) (f : Archive → Archive) : (s.onArch f).host = s.host := rfl
@[simp] theorem onArch_orphans (s : State) (f : Archive → Archive) : (s.onArch f).orphans = s.orphans := rfl
@[simp] theorem onArch_swGroups (s : State) (f : Archive → Archive) : (s.onArch f).swGroups = s.swGroups := rfl
@[simp] theorem onArch_locked (s : State) (f : Archive → Archive) : (s.onArch f).locked = s.locked := rfl
@[simp] theorem onArch_timing (s : State) (f : Archive → Archive) : (s.onArch f).timing = s.timing := rfl
@[simp] theorem onArch_tw (s : State) (f : Archive → Archive) : (s.onArch f).tw = s.tw := rfl
@[simp] theorem onArch_sag (s : State) (f : Archive → Archive) : (s.onArch f).sag = s.sag := rfl
@[simp] theorem onArch_sosc (s : State) (f : Archive → Archive) : (s.onArch f).sosc = s.sosc := rfl
@[simp] theorem onArch_soscPart (s : State) (f : Archive → Archive) : (s.onArch f).soscPart = s.soscPart := rfl
@[simp] theorem onArch_draws (s : State) (f : Archive → Archive) : (s.onArch f).draws = s.draws := rfl

/-! ### `State.onTw` -/

@[simp] theorem onTw_pending (s : State) (f : Twin → Twin) : (s.onTw f).pending = s.pending := rfl
@[simp] theorem onTw_part (s : State) (f : Twin → Twin) : (s.onTw f).part = s.part := rfl
@[simp] theorem onTw_tt (s : State) (f : Twin → Twin) : (s.onTw f).tt = s.tt := rfl
@[simp] theorem onTw_fn (s : State) (f : Twin → Twin) : (s.onTw f).fn = s.fn := rfl
@[simp] theorem onTw_regs (s : State) (f : Twin → Twin) : (s.onTw f).regs = s.regs := rfl
@[simp] theorem onTw_latched (s : State) (f : Twin → Twin) : (s.onTw f).latched = s.latched := rfl
@[simp] theorem onTw_mem (s : State) (f : Twin → Twin) : (s.onTw f).mem = s.mem := rfl
@[simp] theorem onTw_stage (s : State) (f : Twin → Twin) : (s.onTw f).stage = s.stage := rfl
@[simp] theorem onTw_stagings (s : State) (f : Twin → Twin) : (s.onTw f).stagings = s.stagings := rfl
@[simp] theorem onTw_chains (s : State) (f : Twin → Twin) : (s.onTw f).chains = s.chains := rfl
@[simp] theorem onTw_fcuIn (s : State) (f : Twin → Twin) : (s.onTw f).fcuIn = s.fcuIn := rfl
@[simp] theorem onTw_srcIn (s : State) (f : Twin → Twin) : (s.onTw f).srcIn = s.srcIn := rfl
@[simp] theorem onTw_kiln (s : State) (f : Twin → Twin) : (s.onTw f).kiln = s.kiln := rfl
@[simp] theorem onTw_lanes (s : State) (f : Twin → Twin) : (s.onTw f).lanes = s.lanes := rfl
@[simp] theorem onTw_gaps (s : State) (f : Twin → Twin) : (s.onTw f).gaps = s.gaps := rfl
@[simp] theorem onTw_te (s : State) (f : Twin → Twin) : (s.onTw f).te = s.te := rfl
@[simp] theorem onTw_ve (s : State) (f : Twin → Twin) : (s.onTw f).ve = s.ve := rfl
@[simp] theorem onTw_wheel (s : State) (f : Twin → Twin) : (s.onTw f).wheel = s.wheel := rfl
@[simp] theorem onTw_outs (s : State) (f : Twin → Twin) : (s.onTw f).outs = s.outs := rfl
@[simp] theorem onTw_prot (s : State) (f : Twin → Twin) : (s.onTw f).prot = s.prot := rfl
@[simp] theorem onTw_cores (s : State) (f : Twin → Twin) : (s.onTw f).cores = s.cores := rfl
@[simp] theorem onTw_sup (s : State) (f : Twin → Twin) : (s.onTw f).sup = s.sup := rfl
@[simp] theorem onTw_host (s : State) (f : Twin → Twin) : (s.onTw f).host = s.host := rfl
@[simp] theorem onTw_orphans (s : State) (f : Twin → Twin) : (s.onTw f).orphans = s.orphans := rfl
@[simp] theorem onTw_swGroups (s : State) (f : Twin → Twin) : (s.onTw f).swGroups = s.swGroups := rfl
@[simp] theorem onTw_locked (s : State) (f : Twin → Twin) : (s.onTw f).locked = s.locked := rfl
@[simp] theorem onTw_timing (s : State) (f : Twin → Twin) : (s.onTw f).timing = s.timing := rfl
@[simp] theorem onTw_arch (s : State) (f : Twin → Twin) : (s.onTw f).arch = s.arch := rfl
@[simp] theorem onTw_sag (s : State) (f : Twin → Twin) : (s.onTw f).sag = s.sag := rfl
@[simp] theorem onTw_sosc (s : State) (f : Twin → Twin) : (s.onTw f).sosc = s.sosc := rfl
@[simp] theorem onTw_soscPart (s : State) (f : Twin → Twin) : (s.onTw f).soscPart = s.soscPart := rfl
@[simp] theorem onTw_draws (s : State) (f : Twin → Twin) : (s.onTw f).draws = s.draws := rfl

/-! ### `State.onSag` -/

@[simp] theorem onSag_pending (s : State) (f : Sagger → Sagger) : (s.onSag f).pending = s.pending := rfl
@[simp] theorem onSag_part (s : State) (f : Sagger → Sagger) : (s.onSag f).part = s.part := rfl
@[simp] theorem onSag_tt (s : State) (f : Sagger → Sagger) : (s.onSag f).tt = s.tt := rfl
@[simp] theorem onSag_fn (s : State) (f : Sagger → Sagger) : (s.onSag f).fn = s.fn := rfl
@[simp] theorem onSag_regs (s : State) (f : Sagger → Sagger) : (s.onSag f).regs = s.regs := rfl
@[simp] theorem onSag_latched (s : State) (f : Sagger → Sagger) : (s.onSag f).latched = s.latched := rfl
@[simp] theorem onSag_mem (s : State) (f : Sagger → Sagger) : (s.onSag f).mem = s.mem := rfl
@[simp] theorem onSag_stage (s : State) (f : Sagger → Sagger) : (s.onSag f).stage = s.stage := rfl
@[simp] theorem onSag_stagings (s : State) (f : Sagger → Sagger) : (s.onSag f).stagings = s.stagings := rfl
@[simp] theorem onSag_chains (s : State) (f : Sagger → Sagger) : (s.onSag f).chains = s.chains := rfl
@[simp] theorem onSag_fcuIn (s : State) (f : Sagger → Sagger) : (s.onSag f).fcuIn = s.fcuIn := rfl
@[simp] theorem onSag_srcIn (s : State) (f : Sagger → Sagger) : (s.onSag f).srcIn = s.srcIn := rfl
@[simp] theorem onSag_kiln (s : State) (f : Sagger → Sagger) : (s.onSag f).kiln = s.kiln := rfl
@[simp] theorem onSag_lanes (s : State) (f : Sagger → Sagger) : (s.onSag f).lanes = s.lanes := rfl
@[simp] theorem onSag_gaps (s : State) (f : Sagger → Sagger) : (s.onSag f).gaps = s.gaps := rfl
@[simp] theorem onSag_te (s : State) (f : Sagger → Sagger) : (s.onSag f).te = s.te := rfl
@[simp] theorem onSag_ve (s : State) (f : Sagger → Sagger) : (s.onSag f).ve = s.ve := rfl
@[simp] theorem onSag_wheel (s : State) (f : Sagger → Sagger) : (s.onSag f).wheel = s.wheel := rfl
@[simp] theorem onSag_outs (s : State) (f : Sagger → Sagger) : (s.onSag f).outs = s.outs := rfl
@[simp] theorem onSag_prot (s : State) (f : Sagger → Sagger) : (s.onSag f).prot = s.prot := rfl
@[simp] theorem onSag_cores (s : State) (f : Sagger → Sagger) : (s.onSag f).cores = s.cores := rfl
@[simp] theorem onSag_sup (s : State) (f : Sagger → Sagger) : (s.onSag f).sup = s.sup := rfl
@[simp] theorem onSag_host (s : State) (f : Sagger → Sagger) : (s.onSag f).host = s.host := rfl
@[simp] theorem onSag_orphans (s : State) (f : Sagger → Sagger) : (s.onSag f).orphans = s.orphans := rfl
@[simp] theorem onSag_swGroups (s : State) (f : Sagger → Sagger) : (s.onSag f).swGroups = s.swGroups := rfl
@[simp] theorem onSag_locked (s : State) (f : Sagger → Sagger) : (s.onSag f).locked = s.locked := rfl
@[simp] theorem onSag_timing (s : State) (f : Sagger → Sagger) : (s.onSag f).timing = s.timing := rfl
@[simp] theorem onSag_arch (s : State) (f : Sagger → Sagger) : (s.onSag f).arch = s.arch := rfl
@[simp] theorem onSag_tw (s : State) (f : Sagger → Sagger) : (s.onSag f).tw = s.tw := rfl
@[simp] theorem onSag_sosc (s : State) (f : Sagger → Sagger) : (s.onSag f).sosc = s.sosc := rfl
@[simp] theorem onSag_soscPart (s : State) (f : Sagger → Sagger) : (s.onSag f).soscPart = s.soscPart := rfl
@[simp] theorem onSag_draws (s : State) (f : Sagger → Sagger) : (s.onSag f).draws = s.draws := rfl

/-! ### `State.onHost` -/

@[simp] theorem onHost_pending (s : State) (f : HostIf → HostIf) : (s.onHost f).pending = s.pending := rfl
@[simp] theorem onHost_part (s : State) (f : HostIf → HostIf) : (s.onHost f).part = s.part := rfl
@[simp] theorem onHost_tt (s : State) (f : HostIf → HostIf) : (s.onHost f).tt = s.tt := rfl
@[simp] theorem onHost_fn (s : State) (f : HostIf → HostIf) : (s.onHost f).fn = s.fn := rfl
@[simp] theorem onHost_regs (s : State) (f : HostIf → HostIf) : (s.onHost f).regs = s.regs := rfl
@[simp] theorem onHost_latched (s : State) (f : HostIf → HostIf) : (s.onHost f).latched = s.latched := rfl
@[simp] theorem onHost_mem (s : State) (f : HostIf → HostIf) : (s.onHost f).mem = s.mem := rfl
@[simp] theorem onHost_stage (s : State) (f : HostIf → HostIf) : (s.onHost f).stage = s.stage := rfl
@[simp] theorem onHost_stagings (s : State) (f : HostIf → HostIf) : (s.onHost f).stagings = s.stagings := rfl
@[simp] theorem onHost_chains (s : State) (f : HostIf → HostIf) : (s.onHost f).chains = s.chains := rfl
@[simp] theorem onHost_fcuIn (s : State) (f : HostIf → HostIf) : (s.onHost f).fcuIn = s.fcuIn := rfl
@[simp] theorem onHost_srcIn (s : State) (f : HostIf → HostIf) : (s.onHost f).srcIn = s.srcIn := rfl
@[simp] theorem onHost_kiln (s : State) (f : HostIf → HostIf) : (s.onHost f).kiln = s.kiln := rfl
@[simp] theorem onHost_lanes (s : State) (f : HostIf → HostIf) : (s.onHost f).lanes = s.lanes := rfl
@[simp] theorem onHost_gaps (s : State) (f : HostIf → HostIf) : (s.onHost f).gaps = s.gaps := rfl
@[simp] theorem onHost_te (s : State) (f : HostIf → HostIf) : (s.onHost f).te = s.te := rfl
@[simp] theorem onHost_ve (s : State) (f : HostIf → HostIf) : (s.onHost f).ve = s.ve := rfl
@[simp] theorem onHost_wheel (s : State) (f : HostIf → HostIf) : (s.onHost f).wheel = s.wheel := rfl
@[simp] theorem onHost_outs (s : State) (f : HostIf → HostIf) : (s.onHost f).outs = s.outs := rfl
@[simp] theorem onHost_prot (s : State) (f : HostIf → HostIf) : (s.onHost f).prot = s.prot := rfl
@[simp] theorem onHost_cores (s : State) (f : HostIf → HostIf) : (s.onHost f).cores = s.cores := rfl
@[simp] theorem onHost_sup (s : State) (f : HostIf → HostIf) : (s.onHost f).sup = s.sup := rfl
@[simp] theorem onHost_orphans (s : State) (f : HostIf → HostIf) : (s.onHost f).orphans = s.orphans := rfl
@[simp] theorem onHost_swGroups (s : State) (f : HostIf → HostIf) : (s.onHost f).swGroups = s.swGroups := rfl
@[simp] theorem onHost_locked (s : State) (f : HostIf → HostIf) : (s.onHost f).locked = s.locked := rfl
@[simp] theorem onHost_timing (s : State) (f : HostIf → HostIf) : (s.onHost f).timing = s.timing := rfl
@[simp] theorem onHost_arch (s : State) (f : HostIf → HostIf) : (s.onHost f).arch = s.arch := rfl
@[simp] theorem onHost_tw (s : State) (f : HostIf → HostIf) : (s.onHost f).tw = s.tw := rfl
@[simp] theorem onHost_sag (s : State) (f : HostIf → HostIf) : (s.onHost f).sag = s.sag := rfl
@[simp] theorem onHost_sosc (s : State) (f : HostIf → HostIf) : (s.onHost f).sosc = s.sosc := rfl
@[simp] theorem onHost_soscPart (s : State) (f : HostIf → HostIf) : (s.onHost f).soscPart = s.soscPart := rfl
@[simp] theorem onHost_draws (s : State) (f : HostIf → HostIf) : (s.onHost f).draws = s.draws := rfl

/-! ### `State.onOuts` -/

@[simp] theorem onOuts_pending (s : State) (f : Outs → Outs) : (s.onOuts f).pending = s.pending := rfl
@[simp] theorem onOuts_part (s : State) (f : Outs → Outs) : (s.onOuts f).part = s.part := rfl
@[simp] theorem onOuts_tt (s : State) (f : Outs → Outs) : (s.onOuts f).tt = s.tt := rfl
@[simp] theorem onOuts_fn (s : State) (f : Outs → Outs) : (s.onOuts f).fn = s.fn := rfl
@[simp] theorem onOuts_regs (s : State) (f : Outs → Outs) : (s.onOuts f).regs = s.regs := rfl
@[simp] theorem onOuts_latched (s : State) (f : Outs → Outs) : (s.onOuts f).latched = s.latched := rfl
@[simp] theorem onOuts_mem (s : State) (f : Outs → Outs) : (s.onOuts f).mem = s.mem := rfl
@[simp] theorem onOuts_stage (s : State) (f : Outs → Outs) : (s.onOuts f).stage = s.stage := rfl
@[simp] theorem onOuts_stagings (s : State) (f : Outs → Outs) : (s.onOuts f).stagings = s.stagings := rfl
@[simp] theorem onOuts_chains (s : State) (f : Outs → Outs) : (s.onOuts f).chains = s.chains := rfl
@[simp] theorem onOuts_fcuIn (s : State) (f : Outs → Outs) : (s.onOuts f).fcuIn = s.fcuIn := rfl
@[simp] theorem onOuts_srcIn (s : State) (f : Outs → Outs) : (s.onOuts f).srcIn = s.srcIn := rfl
@[simp] theorem onOuts_kiln (s : State) (f : Outs → Outs) : (s.onOuts f).kiln = s.kiln := rfl
@[simp] theorem onOuts_lanes (s : State) (f : Outs → Outs) : (s.onOuts f).lanes = s.lanes := rfl
@[simp] theorem onOuts_gaps (s : State) (f : Outs → Outs) : (s.onOuts f).gaps = s.gaps := rfl
@[simp] theorem onOuts_te (s : State) (f : Outs → Outs) : (s.onOuts f).te = s.te := rfl
@[simp] theorem onOuts_ve (s : State) (f : Outs → Outs) : (s.onOuts f).ve = s.ve := rfl
@[simp] theorem onOuts_wheel (s : State) (f : Outs → Outs) : (s.onOuts f).wheel = s.wheel := rfl
@[simp] theorem onOuts_prot (s : State) (f : Outs → Outs) : (s.onOuts f).prot = s.prot := rfl
@[simp] theorem onOuts_cores (s : State) (f : Outs → Outs) : (s.onOuts f).cores = s.cores := rfl
@[simp] theorem onOuts_sup (s : State) (f : Outs → Outs) : (s.onOuts f).sup = s.sup := rfl
@[simp] theorem onOuts_host (s : State) (f : Outs → Outs) : (s.onOuts f).host = s.host := rfl
@[simp] theorem onOuts_orphans (s : State) (f : Outs → Outs) : (s.onOuts f).orphans = s.orphans := rfl
@[simp] theorem onOuts_swGroups (s : State) (f : Outs → Outs) : (s.onOuts f).swGroups = s.swGroups := rfl
@[simp] theorem onOuts_locked (s : State) (f : Outs → Outs) : (s.onOuts f).locked = s.locked := rfl
@[simp] theorem onOuts_timing (s : State) (f : Outs → Outs) : (s.onOuts f).timing = s.timing := rfl
@[simp] theorem onOuts_arch (s : State) (f : Outs → Outs) : (s.onOuts f).arch = s.arch := rfl
@[simp] theorem onOuts_tw (s : State) (f : Outs → Outs) : (s.onOuts f).tw = s.tw := rfl
@[simp] theorem onOuts_sag (s : State) (f : Outs → Outs) : (s.onOuts f).sag = s.sag := rfl
@[simp] theorem onOuts_sosc (s : State) (f : Outs → Outs) : (s.onOuts f).sosc = s.sosc := rfl
@[simp] theorem onOuts_soscPart (s : State) (f : Outs → Outs) : (s.onOuts f).soscPart = s.soscPart := rfl
@[simp] theorem onOuts_draws (s : State) (f : Outs → Outs) : (s.onOuts f).draws = s.draws := rfl

/-! ### `State.onProt` -/

@[simp] theorem onProt_pending (s : State) (f : Prot → Prot) : (s.onProt f).pending = s.pending := rfl
@[simp] theorem onProt_part (s : State) (f : Prot → Prot) : (s.onProt f).part = s.part := rfl
@[simp] theorem onProt_tt (s : State) (f : Prot → Prot) : (s.onProt f).tt = s.tt := rfl
@[simp] theorem onProt_fn (s : State) (f : Prot → Prot) : (s.onProt f).fn = s.fn := rfl
@[simp] theorem onProt_regs (s : State) (f : Prot → Prot) : (s.onProt f).regs = s.regs := rfl
@[simp] theorem onProt_latched (s : State) (f : Prot → Prot) : (s.onProt f).latched = s.latched := rfl
@[simp] theorem onProt_mem (s : State) (f : Prot → Prot) : (s.onProt f).mem = s.mem := rfl
@[simp] theorem onProt_stage (s : State) (f : Prot → Prot) : (s.onProt f).stage = s.stage := rfl
@[simp] theorem onProt_stagings (s : State) (f : Prot → Prot) : (s.onProt f).stagings = s.stagings := rfl
@[simp] theorem onProt_chains (s : State) (f : Prot → Prot) : (s.onProt f).chains = s.chains := rfl
@[simp] theorem onProt_fcuIn (s : State) (f : Prot → Prot) : (s.onProt f).fcuIn = s.fcuIn := rfl
@[simp] theorem onProt_srcIn (s : State) (f : Prot → Prot) : (s.onProt f).srcIn = s.srcIn := rfl
@[simp] theorem onProt_kiln (s : State) (f : Prot → Prot) : (s.onProt f).kiln = s.kiln := rfl
@[simp] theorem onProt_lanes (s : State) (f : Prot → Prot) : (s.onProt f).lanes = s.lanes := rfl
@[simp] theorem onProt_gaps (s : State) (f : Prot → Prot) : (s.onProt f).gaps = s.gaps := rfl
@[simp] theorem onProt_te (s : State) (f : Prot → Prot) : (s.onProt f).te = s.te := rfl
@[simp] theorem onProt_ve (s : State) (f : Prot → Prot) : (s.onProt f).ve = s.ve := rfl
@[simp] theorem onProt_wheel (s : State) (f : Prot → Prot) : (s.onProt f).wheel = s.wheel := rfl
@[simp] theorem onProt_outs (s : State) (f : Prot → Prot) : (s.onProt f).outs = s.outs := rfl
@[simp] theorem onProt_cores (s : State) (f : Prot → Prot) : (s.onProt f).cores = s.cores := rfl
@[simp] theorem onProt_sup (s : State) (f : Prot → Prot) : (s.onProt f).sup = s.sup := rfl
@[simp] theorem onProt_host (s : State) (f : Prot → Prot) : (s.onProt f).host = s.host := rfl
@[simp] theorem onProt_orphans (s : State) (f : Prot → Prot) : (s.onProt f).orphans = s.orphans := rfl
@[simp] theorem onProt_swGroups (s : State) (f : Prot → Prot) : (s.onProt f).swGroups = s.swGroups := rfl
@[simp] theorem onProt_locked (s : State) (f : Prot → Prot) : (s.onProt f).locked = s.locked := rfl
@[simp] theorem onProt_timing (s : State) (f : Prot → Prot) : (s.onProt f).timing = s.timing := rfl
@[simp] theorem onProt_arch (s : State) (f : Prot → Prot) : (s.onProt f).arch = s.arch := rfl
@[simp] theorem onProt_tw (s : State) (f : Prot → Prot) : (s.onProt f).tw = s.tw := rfl
@[simp] theorem onProt_sag (s : State) (f : Prot → Prot) : (s.onProt f).sag = s.sag := rfl
@[simp] theorem onProt_sosc (s : State) (f : Prot → Prot) : (s.onProt f).sosc = s.sosc := rfl
@[simp] theorem onProt_soscPart (s : State) (f : Prot → Prot) : (s.onProt f).soscPart = s.soscPart := rfl
@[simp] theorem onProt_draws (s : State) (f : Prot → Prot) : (s.onProt f).draws = s.draws := rfl

/-! ### `State.onSup` -/

@[simp] theorem onSup_pending (s : State) (f : Supervision → Supervision) : (s.onSup f).pending = s.pending := rfl
@[simp] theorem onSup_part (s : State) (f : Supervision → Supervision) : (s.onSup f).part = s.part := rfl
@[simp] theorem onSup_tt (s : State) (f : Supervision → Supervision) : (s.onSup f).tt = s.tt := rfl
@[simp] theorem onSup_fn (s : State) (f : Supervision → Supervision) : (s.onSup f).fn = s.fn := rfl
@[simp] theorem onSup_regs (s : State) (f : Supervision → Supervision) : (s.onSup f).regs = s.regs := rfl
@[simp] theorem onSup_latched (s : State) (f : Supervision → Supervision) : (s.onSup f).latched = s.latched := rfl
@[simp] theorem onSup_mem (s : State) (f : Supervision → Supervision) : (s.onSup f).mem = s.mem := rfl
@[simp] theorem onSup_stage (s : State) (f : Supervision → Supervision) : (s.onSup f).stage = s.stage := rfl
@[simp] theorem onSup_stagings (s : State) (f : Supervision → Supervision) : (s.onSup f).stagings = s.stagings := rfl
@[simp] theorem onSup_chains (s : State) (f : Supervision → Supervision) : (s.onSup f).chains = s.chains := rfl
@[simp] theorem onSup_fcuIn (s : State) (f : Supervision → Supervision) : (s.onSup f).fcuIn = s.fcuIn := rfl
@[simp] theorem onSup_srcIn (s : State) (f : Supervision → Supervision) : (s.onSup f).srcIn = s.srcIn := rfl
@[simp] theorem onSup_kiln (s : State) (f : Supervision → Supervision) : (s.onSup f).kiln = s.kiln := rfl
@[simp] theorem onSup_lanes (s : State) (f : Supervision → Supervision) : (s.onSup f).lanes = s.lanes := rfl
@[simp] theorem onSup_gaps (s : State) (f : Supervision → Supervision) : (s.onSup f).gaps = s.gaps := rfl
@[simp] theorem onSup_te (s : State) (f : Supervision → Supervision) : (s.onSup f).te = s.te := rfl
@[simp] theorem onSup_ve (s : State) (f : Supervision → Supervision) : (s.onSup f).ve = s.ve := rfl
@[simp] theorem onSup_wheel (s : State) (f : Supervision → Supervision) : (s.onSup f).wheel = s.wheel := rfl
@[simp] theorem onSup_outs (s : State) (f : Supervision → Supervision) : (s.onSup f).outs = s.outs := rfl
@[simp] theorem onSup_prot (s : State) (f : Supervision → Supervision) : (s.onSup f).prot = s.prot := rfl
@[simp] theorem onSup_cores (s : State) (f : Supervision → Supervision) : (s.onSup f).cores = s.cores := rfl
@[simp] theorem onSup_host (s : State) (f : Supervision → Supervision) : (s.onSup f).host = s.host := rfl
@[simp] theorem onSup_orphans (s : State) (f : Supervision → Supervision) : (s.onSup f).orphans = s.orphans := rfl
@[simp] theorem onSup_swGroups (s : State) (f : Supervision → Supervision) : (s.onSup f).swGroups = s.swGroups := rfl
@[simp] theorem onSup_locked (s : State) (f : Supervision → Supervision) : (s.onSup f).locked = s.locked := rfl
@[simp] theorem onSup_timing (s : State) (f : Supervision → Supervision) : (s.onSup f).timing = s.timing := rfl
@[simp] theorem onSup_arch (s : State) (f : Supervision → Supervision) : (s.onSup f).arch = s.arch := rfl
@[simp] theorem onSup_tw (s : State) (f : Supervision → Supervision) : (s.onSup f).tw = s.tw := rfl
@[simp] theorem onSup_sag (s : State) (f : Supervision → Supervision) : (s.onSup f).sag = s.sag := rfl
@[simp] theorem onSup_sosc (s : State) (f : Supervision → Supervision) : (s.onSup f).sosc = s.sosc := rfl
@[simp] theorem onSup_soscPart (s : State) (f : Supervision → Supervision) : (s.onSup f).soscPart = s.soscPart := rfl
@[simp] theorem onSup_draws (s : State) (f : Supervision → Supervision) : (s.onSup f).draws = s.draws := rfl

/-! ### `State.onHq` -/

@[simp] theorem onHq_pending (s : State) (q : Nat) (f : HostQueue → HostQueue) : (s.onHq q f).pending = s.pending := rfl
@[simp] theorem onHq_part (s : State) (q : Nat) (f : HostQueue → HostQueue) : (s.onHq q f).part = s.part := rfl
@[simp] theorem onHq_tt (s : State) (q : Nat) (f : HostQueue → HostQueue) : (s.onHq q f).tt = s.tt := rfl
@[simp] theorem onHq_fn (s : State) (q : Nat) (f : HostQueue → HostQueue) : (s.onHq q f).fn = s.fn := rfl
@[simp] theorem onHq_regs (s : State) (q : Nat) (f : HostQueue → HostQueue) : (s.onHq q f).regs = s.regs := rfl
@[simp] theorem onHq_latched (s : State) (q : Nat) (f : HostQueue → HostQueue) : (s.onHq q f).latched = s.latched := rfl
@[simp] theorem onHq_mem (s : State) (q : Nat) (f : HostQueue → HostQueue) : (s.onHq q f).mem = s.mem := rfl
@[simp] theorem onHq_stage (s : State) (q : Nat) (f : HostQueue → HostQueue) : (s.onHq q f).stage = s.stage := rfl
@[simp] theorem onHq_stagings (s : State) (q : Nat) (f : HostQueue → HostQueue) : (s.onHq q f).stagings = s.stagings := rfl
@[simp] theorem onHq_chains (s : State) (q : Nat) (f : HostQueue → HostQueue) : (s.onHq q f).chains = s.chains := rfl
@[simp] theorem onHq_fcuIn (s : State) (q : Nat) (f : HostQueue → HostQueue) : (s.onHq q f).fcuIn = s.fcuIn := rfl
@[simp] theorem onHq_srcIn (s : State) (q : Nat) (f : HostQueue → HostQueue) : (s.onHq q f).srcIn = s.srcIn := rfl
@[simp] theorem onHq_kiln (s : State) (q : Nat) (f : HostQueue → HostQueue) : (s.onHq q f).kiln = s.kiln := rfl
@[simp] theorem onHq_lanes (s : State) (q : Nat) (f : HostQueue → HostQueue) : (s.onHq q f).lanes = s.lanes := rfl
@[simp] theorem onHq_gaps (s : State) (q : Nat) (f : HostQueue → HostQueue) : (s.onHq q f).gaps = s.gaps := rfl
@[simp] theorem onHq_te (s : State) (q : Nat) (f : HostQueue → HostQueue) : (s.onHq q f).te = s.te := rfl
@[simp] theorem onHq_ve (s : State) (q : Nat) (f : HostQueue → HostQueue) : (s.onHq q f).ve = s.ve := rfl
@[simp] theorem onHq_wheel (s : State) (q : Nat) (f : HostQueue → HostQueue) : (s.onHq q f).wheel = s.wheel := rfl
@[simp] theorem onHq_outs (s : State) (q : Nat) (f : HostQueue → HostQueue) : (s.onHq q f).outs = s.outs := rfl
@[simp] theorem onHq_prot (s : State) (q : Nat) (f : HostQueue → HostQueue) : (s.onHq q f).prot = s.prot := rfl
@[simp] theorem onHq_cores (s : State) (q : Nat) (f : HostQueue → HostQueue) : (s.onHq q f).cores = s.cores := rfl
@[simp] theorem onHq_sup (s : State) (q : Nat) (f : HostQueue → HostQueue) : (s.onHq q f).sup = s.sup := rfl
@[simp] theorem onHq_orphans (s : State) (q : Nat) (f : HostQueue → HostQueue) : (s.onHq q f).orphans = s.orphans := rfl
@[simp] theorem onHq_swGroups (s : State) (q : Nat) (f : HostQueue → HostQueue) : (s.onHq q f).swGroups = s.swGroups := rfl
@[simp] theorem onHq_locked (s : State) (q : Nat) (f : HostQueue → HostQueue) : (s.onHq q f).locked = s.locked := rfl
@[simp] theorem onHq_timing (s : State) (q : Nat) (f : HostQueue → HostQueue) : (s.onHq q f).timing = s.timing := rfl
@[simp] theorem onHq_arch (s : State) (q : Nat) (f : HostQueue → HostQueue) : (s.onHq q f).arch = s.arch := rfl
@[simp] theorem onHq_tw (s : State) (q : Nat) (f : HostQueue → HostQueue) : (s.onHq q f).tw = s.tw := rfl
@[simp] theorem onHq_sag (s : State) (q : Nat) (f : HostQueue → HostQueue) : (s.onHq q f).sag = s.sag := rfl
@[simp] theorem onHq_sosc (s : State) (q : Nat) (f : HostQueue → HostQueue) : (s.onHq q f).sosc = s.sosc := rfl
@[simp] theorem onHq_soscPart (s : State) (q : Nat) (f : HostQueue → HostQueue) : (s.onHq q f).soscPart = s.soscPart := rfl
@[simp] theorem onHq_draws (s : State) (q : Nat) (f : HostQueue → HostQueue) : (s.onHq q f).draws = s.draws := rfl

/-! ### `State.setBytes` -/

@[simp] theorem setBytes_pending (s : State) (a : Nat) (b : Bytes) : (s.setBytes a b).pending = s.pending := rfl
@[simp] theorem setBytes_part (s : State) (a : Nat) (b : Bytes) : (s.setBytes a b).part = s.part := rfl
@[simp] theorem setBytes_tt (s : State) (a : Nat) (b : Bytes) : (s.setBytes a b).tt = s.tt := rfl
@[simp] theorem setBytes_fn (s : State) (a : Nat) (b : Bytes) : (s.setBytes a b).fn = s.fn := rfl
@[simp] theorem setBytes_regs (s : State) (a : Nat) (b : Bytes) : (s.setBytes a b).regs = s.regs := rfl
@[simp] theorem setBytes_latched (s : State) (a : Nat) (b : Bytes) : (s.setBytes a b).latched = s.latched := rfl
@[simp] theorem setBytes_stage (s : State) (a : Nat) (b : Bytes) : (s.setBytes a b).stage = s.stage := rfl
@[simp] theorem setBytes_stagings (s : State) (a : Nat) (b : Bytes) : (s.setBytes a b).stagings = s.stagings := rfl
@[simp] theorem setBytes_chains (s : State) (a : Nat) (b : Bytes) : (s.setBytes a b).chains = s.chains := rfl
@[simp] theorem setBytes_fcuIn (s : State) (a : Nat) (b : Bytes) : (s.setBytes a b).fcuIn = s.fcuIn := rfl
@[simp] theorem setBytes_srcIn (s : State) (a : Nat) (b : Bytes) : (s.setBytes a b).srcIn = s.srcIn := rfl
@[simp] theorem setBytes_kiln (s : State) (a : Nat) (b : Bytes) : (s.setBytes a b).kiln = s.kiln := rfl
@[simp] theorem setBytes_lanes (s : State) (a : Nat) (b : Bytes) : (s.setBytes a b).lanes = s.lanes := rfl
@[simp] theorem setBytes_gaps (s : State) (a : Nat) (b : Bytes) : (s.setBytes a b).gaps = s.gaps := rfl
@[simp] theorem setBytes_te (s : State) (a : Nat) (b : Bytes) : (s.setBytes a b).te = s.te := rfl
@[simp] theorem setBytes_ve (s : State) (a : Nat) (b : Bytes) : (s.setBytes a b).ve = s.ve := rfl
@[simp] theorem setBytes_wheel (s : State) (a : Nat) (b : Bytes) : (s.setBytes a b).wheel = s.wheel := rfl
@[simp] theorem setBytes_outs (s : State) (a : Nat) (b : Bytes) : (s.setBytes a b).outs = s.outs := rfl
@[simp] theorem setBytes_prot (s : State) (a : Nat) (b : Bytes) : (s.setBytes a b).prot = s.prot := rfl
@[simp] theorem setBytes_cores (s : State) (a : Nat) (b : Bytes) : (s.setBytes a b).cores = s.cores := rfl
@[simp] theorem setBytes_sup (s : State) (a : Nat) (b : Bytes) : (s.setBytes a b).sup = s.sup := rfl
@[simp] theorem setBytes_host (s : State) (a : Nat) (b : Bytes) : (s.setBytes a b).host = s.host := rfl
@[simp] theorem setBytes_orphans (s : State) (a : Nat) (b : Bytes) : (s.setBytes a b).orphans = s.orphans := rfl
@[simp] theorem setBytes_swGroups (s : State) (a : Nat) (b : Bytes) : (s.setBytes a b).swGroups = s.swGroups := rfl
@[simp] theorem setBytes_locked (s : State) (a : Nat) (b : Bytes) : (s.setBytes a b).locked = s.locked := rfl
@[simp] theorem setBytes_timing (s : State) (a : Nat) (b : Bytes) : (s.setBytes a b).timing = s.timing := rfl
@[simp] theorem setBytes_arch (s : State) (a : Nat) (b : Bytes) : (s.setBytes a b).arch = s.arch := rfl
@[simp] theorem setBytes_tw (s : State) (a : Nat) (b : Bytes) : (s.setBytes a b).tw = s.tw := rfl
@[simp] theorem setBytes_sag (s : State) (a : Nat) (b : Bytes) : (s.setBytes a b).sag = s.sag := rfl
@[simp] theorem setBytes_sosc (s : State) (a : Nat) (b : Bytes) : (s.setBytes a b).sosc = s.sosc := rfl
@[simp] theorem setBytes_soscPart (s : State) (a : Nat) (b : Bytes) : (s.setBytes a b).soscPart = s.soscPart := rfl
@[simp] theorem setBytes_draws (s : State) (a : Nat) (b : Bytes) : (s.setBytes a b).draws = s.draws := rfl

/-! ### `State.dropBytes` -/

@[simp] theorem dropBytes_pending (s : State) (lo hi : Nat) : (s.dropBytes lo hi).pending = s.pending := rfl
@[simp] theorem dropBytes_part (s : State) (lo hi : Nat) : (s.dropBytes lo hi).part = s.part := rfl
@[simp] theorem dropBytes_tt (s : State) (lo hi : Nat) : (s.dropBytes lo hi).tt = s.tt := rfl
@[simp] theorem dropBytes_fn (s : State) (lo hi : Nat) : (s.dropBytes lo hi).fn = s.fn := rfl
@[simp] theorem dropBytes_regs (s : State) (lo hi : Nat) : (s.dropBytes lo hi).regs = s.regs := rfl
@[simp] theorem dropBytes_latched (s : State) (lo hi : Nat) : (s.dropBytes lo hi).latched = s.latched := rfl
@[simp] theorem dropBytes_stage (s : State) (lo hi : Nat) : (s.dropBytes lo hi).stage = s.stage := rfl
@[simp] theorem dropBytes_stagings (s : State) (lo hi : Nat) : (s.dropBytes lo hi).stagings = s.stagings := rfl
@[simp] theorem dropBytes_chains (s : State) (lo hi : Nat) : (s.dropBytes lo hi).chains = s.chains := rfl
@[simp] theorem dropBytes_fcuIn (s : State) (lo hi : Nat) : (s.dropBytes lo hi).fcuIn = s.fcuIn := rfl
@[simp] theorem dropBytes_srcIn (s : State) (lo hi : Nat) : (s.dropBytes lo hi).srcIn = s.srcIn := rfl
@[simp] theorem dropBytes_kiln (s : State) (lo hi : Nat) : (s.dropBytes lo hi).kiln = s.kiln := rfl
@[simp] theorem dropBytes_lanes (s : State) (lo hi : Nat) : (s.dropBytes lo hi).lanes = s.lanes := rfl
@[simp] theorem dropBytes_gaps (s : State) (lo hi : Nat) : (s.dropBytes lo hi).gaps = s.gaps := rfl
@[simp] theorem dropBytes_te (s : State) (lo hi : Nat) : (s.dropBytes lo hi).te = s.te := rfl
@[simp] theorem dropBytes_ve (s : State) (lo hi : Nat) : (s.dropBytes lo hi).ve = s.ve := rfl
@[simp] theorem dropBytes_wheel (s : State) (lo hi : Nat) : (s.dropBytes lo hi).wheel = s.wheel := rfl
@[simp] theorem dropBytes_outs (s : State) (lo hi : Nat) : (s.dropBytes lo hi).outs = s.outs := rfl
@[simp] theorem dropBytes_prot (s : State) (lo hi : Nat) : (s.dropBytes lo hi).prot = s.prot := rfl
@[simp] theorem dropBytes_cores (s : State) (lo hi : Nat) : (s.dropBytes lo hi).cores = s.cores := rfl
@[simp] theorem dropBytes_sup (s : State) (lo hi : Nat) : (s.dropBytes lo hi).sup = s.sup := rfl
@[simp] theorem dropBytes_host (s : State) (lo hi : Nat) : (s.dropBytes lo hi).host = s.host := rfl
@[simp] theorem dropBytes_orphans (s : State) (lo hi : Nat) : (s.dropBytes lo hi).orphans = s.orphans := rfl
@[simp] theorem dropBytes_swGroups (s : State) (lo hi : Nat) : (s.dropBytes lo hi).swGroups = s.swGroups := rfl
@[simp] theorem dropBytes_locked (s : State) (lo hi : Nat) : (s.dropBytes lo hi).locked = s.locked := rfl
@[simp] theorem dropBytes_timing (s : State) (lo hi : Nat) : (s.dropBytes lo hi).timing = s.timing := rfl
@[simp] theorem dropBytes_arch (s : State) (lo hi : Nat) : (s.dropBytes lo hi).arch = s.arch := rfl
@[simp] theorem dropBytes_tw (s : State) (lo hi : Nat) : (s.dropBytes lo hi).tw = s.tw := rfl
@[simp] theorem dropBytes_sag (s : State) (lo hi : Nat) : (s.dropBytes lo hi).sag = s.sag := rfl
@[simp] theorem dropBytes_sosc (s : State) (lo hi : Nat) : (s.dropBytes lo hi).sosc = s.sosc := rfl
@[simp] theorem dropBytes_soscPart (s : State) (lo hi : Nat) : (s.dropBytes lo hi).soscPart = s.soscPart := rfl
@[simp] theorem dropBytes_draws (s : State) (lo hi : Nat) : (s.dropBytes lo hi).draws = s.draws := rfl

/-! ### Free values -/

@[simp] theorem draw_fst (s : State) : s.draw.1 = s.draws := rfl
@[simp] theorem draw_pending (s : State) : s.draw.2.pending = s.pending := rfl
@[simp] theorem draw_part (s : State) : s.draw.2.part = s.part := rfl
@[simp] theorem draw_tt (s : State) : s.draw.2.tt = s.tt := rfl
@[simp] theorem draw_fn (s : State) : s.draw.2.fn = s.fn := rfl
@[simp] theorem draw_regs (s : State) : s.draw.2.regs = s.regs := rfl
@[simp] theorem draw_latched (s : State) : s.draw.2.latched = s.latched := rfl
@[simp] theorem draw_mem (s : State) : s.draw.2.mem = s.mem := rfl
@[simp] theorem draw_stage (s : State) : s.draw.2.stage = s.stage := rfl
@[simp] theorem draw_stagings (s : State) : s.draw.2.stagings = s.stagings := rfl
@[simp] theorem draw_chains (s : State) : s.draw.2.chains = s.chains := rfl
@[simp] theorem draw_fcuIn (s : State) : s.draw.2.fcuIn = s.fcuIn := rfl
@[simp] theorem draw_srcIn (s : State) : s.draw.2.srcIn = s.srcIn := rfl
@[simp] theorem draw_kiln (s : State) : s.draw.2.kiln = s.kiln := rfl
@[simp] theorem draw_lanes (s : State) : s.draw.2.lanes = s.lanes := rfl
@[simp] theorem draw_gaps (s : State) : s.draw.2.gaps = s.gaps := rfl
@[simp] theorem draw_te (s : State) : s.draw.2.te = s.te := rfl
@[simp] theorem draw_ve (s : State) : s.draw.2.ve = s.ve := rfl
@[simp] theorem draw_wheel (s : State) : s.draw.2.wheel = s.wheel := rfl
@[simp] theorem draw_outs (s : State) : s.draw.2.outs = s.outs := rfl
@[simp] theorem draw_prot (s : State) : s.draw.2.prot = s.prot := rfl
@[simp] theorem draw_cores (s : State) : s.draw.2.cores = s.cores := rfl
@[simp] theorem draw_sup (s : State) : s.draw.2.sup = s.sup := rfl
@[simp] theorem draw_host (s : State) : s.draw.2.host = s.host := rfl
@[simp] theorem draw_orphans (s : State) : s.draw.2.orphans = s.orphans := rfl
@[simp] theorem draw_swGroups (s : State) : s.draw.2.swGroups = s.swGroups := rfl
@[simp] theorem draw_locked (s : State) : s.draw.2.locked = s.locked := rfl
@[simp] theorem draw_timing (s : State) : s.draw.2.timing = s.timing := rfl
@[simp] theorem draw_arch (s : State) : s.draw.2.arch = s.arch := rfl
@[simp] theorem draw_tw (s : State) : s.draw.2.tw = s.tw := rfl
@[simp] theorem draw_sag (s : State) : s.draw.2.sag = s.sag := rfl
@[simp] theorem draw_sosc (s : State) : s.draw.2.sosc = s.sosc := rfl
@[simp] theorem draw_soscPart (s : State) : s.draw.2.soscPart = s.soscPart := rfl

end Sys2Proof.Machine
end

