-- ==== Sys2Proof/WellFormed.lean ====
section
/-! DEFINITION. What a command must satisfy beside the types of its operands. A step does not ask for it: every meaning is
total, and a command that is not well formed finds nothing it could act on. -/

namespace Sys2Proof

/-- Whether a register offset names a word of the register space (R461). -/
def regOffset (off : Nat) : Bool :=
  off % 4 == 0 && decide (off < 0x1000000)

/-- Whether an offset of BAR0 names a word (R354). -/
def barOffset (off : Nat) : Bool :=
  off % 4 == 0 && decide (off < 0x10000000)

/-- Whether a burst stays in BAR2, which has 32 GiB (R353). -/
def barBurst (off : Nat) (data : Bytes) : Bool :=
  !data.isEmpty && decide (off + data.length ≤ 0x800000000)

/-- Whether an index names a memory of some part (R299). -/
def memIndex (i : MemIx) : Bool :=
  decide (i.val < 5) || (decide (8 ≤ i.val) && decide (i.val < 24)) || decide (32 ≤ i.val)

/-- Whether a kept access has the size and the alignment of one that a core makes (R246, R249). -/
def keptAccess (k : KeptAccess) : Bool :=
  [1, 2, 4, 8].contains k.size && k.addr.toNat % k.size == 0 && (k.atom.isNone || k.size == 4)

/-- The command is well formed. -/
def Instr.wellFormed (i : Instr) : Bool :=
  match i with
  | .codewordReceive _ _ cw => cw.stream.length == 640
  | .hostPacketFetch _ p => p.all (fun b => b.length == 64)
  | .registerWrite off _ _ => regOffset off
  | .mirrorWrite _ off _ => barOffset off
  | .bar2Write off data => barBurst off data
  | .scrubRead i => memIndex i
  | .scrubWriteBack i => memIndex i
  | .scrubStall i => memIndex i
  | .fetchFillReturn _ addr => addr.toNat % 4 == 0
  | .interruptEntry _ kept => kept.all keptAccess
  | _ => true

end Sys2Proof
end

