-- ==== Sys2Proof/Tests/Slice0.lean ====
section
/-! SUPPORT. The model's own tests: what `Instr.wellFormed` refuses, worked examples and tables of the specification, and for
every obligation with hypotheses a state and operands that meet them together. -/

namespace Sys2Proof.Tests

open Sys2Proof Sys2Proof.Machine

section

set_option Elab.async false

/-! ### WellFormed refuses -/

theorem test_wellFormed_codeword : (Instr.codewordReceive 0 .clean ⟨0, 0, []⟩).wellFormed = false := by decide
theorem test_wellFormed_packet : (Instr.hostPacketFetch 0 (some [1, 2, 3])).wellFormed = false := by decide
theorem test_wellFormed_register : (Instr.registerWrite 2 0 0).wellFormed = false := by decide
theorem test_wellFormed_register_space : (Instr.registerWrite 0x1000000 0 0).wellFormed = false := by decide
theorem test_wellFormed_mirror : (Instr.mirrorWrite 0 1 0).wellFormed = false := by decide
theorem test_wellFormed_bar2 : (Instr.bar2Write 0x7FFFFFFFF [1, 2]).wellFormed = false := by decide
theorem test_wellFormed_bar2_empty : (Instr.bar2Write 0 []).wellFormed = false := by decide
theorem test_wellFormed_scrub_read : (Instr.scrubRead 5).wellFormed = false := by decide
theorem test_wellFormed_scrub_write : (Instr.scrubWriteBack 24).wellFormed = false := by decide
theorem test_wellFormed_scrub_stall : (Instr.scrubStall 31).wellFormed = false := by decide
theorem test_wellFormed_fetch : (Instr.fetchFillReturn 0 2).wellFormed = false := by decide
theorem test_wellFormed_kept : (Instr.interruptEntry 0 (some ⟨2, 4, none⟩)).wellFormed = false := by decide
theorem test_wellFormed_accepts : (Instr.registerWrite 0x60000 0 0).wellFormed = true := by decide

/-! ### The commands' words spell none: no row of the opcode table has bits -/

theorem test_decodeTableWord (n w : Nat) : decodeTableWord n w = none := rfl
theorem test_withFetchWord (s : State) (n w : Nat) : s.withFetchWord n w = s := rfl

/-! ### Instruction words: the encoding example of the chapter on the instruction set -/

theorem test_word_ldw : wordI 0x12 4 2 0 = 0x48820000 := by decide
theorem test_word_andi : wordI 0x0C 6 4 0x30 = 0x30C40030 := by decide
theorem test_word_beq : wordB 0x20 false 6 0 3 = 0x80600003 := by decide
theorem test_word_beq_annul : wordB 0x20 true 6 0 3 = 0x82600003 := by decide
theorem test_word_stw : wordI 0x1A 5 3 0 = 0x68A30000 := by decide
theorem test_word_ret : wordB 0x2A false 31 0 0 = 0xA9F00000 := by decide
theorem test_word_loop : wordL 0x30 (.imm 16) 3 = 0xC2020003 := by decide

/-! ### The lattice: the worked example of R304 and R305 -/

theorem test_lattice_code : latEncode 0x80000001 = 0x8109 := by decide +kernel
theorem test_lattice_one_bit : latDecode (latEncode 0x80100001 ^^^ 0x8109) = .dataBit 20 := by decide +kernel
theorem test_lattice_two_bits : latDecode (latEncode 0x80500001 ^^^ 0x8109) = .uncorrectable := by decide +kernel
theorem test_lattice_rectangle : latDecode (latEncode 0x1080500001 ^^^ 0x8109) = .dataBit 38 := by decide +kernel

/-! ### The worked examples of the firing, the tracks and the Verify Engine -/

/-- DOM[0] at 20 m/s: an edge of 256 PV every 3,125 KCLK, 41 edges. -/
def line20 : State :=
  State.reset.onDom 0 (fun x => { x with hist := (List.range 41).map (fun (i : Nat) => (3125 * (41 - i), (256 * (41 - i) : Int))) })

theorem test_velocity : (line20.velocity 0).1 = 1374390 := by decide +kernel
theorem test_tile_capacity : State.reset.latchTiles.get VE_CTILE_FCLK = 27000 := by decide +kernel
theorem test_budget : State.reset.latchTiles.get VE_BUDGET_FCLK = 1728000 := by decide +kernel

/-- The columns of the overlap example: COL_W 5, column origin −10,240. -/
def overlap : State :=
  (State.reset.put (TE_DCFG_COL_W 0) 5).put (TE_COL_ORG_ORG 0) 0xD800

theorem test_column_low : overlap.column 0 (-829) = 1882 := by decide +kernel
theorem test_column_high : overlap.column 0 (-769) = 1894 := by decide +kernel

/-! ### A refused load in a delay slot: the worked example of the chapter on exceptions -/

/-- LSG[1] at T in the slot of a taken branch; g6 names an SSP address that no region grants. -/
def slotLoad : State :=
  (((((State.reset.put (LS_STAT_STATE 1) 0).onCore 1 (fun c =>
    { c with pc := 0x10000304, pl := 2, ie := true, tsbp := 0x1004F000, gpr := c.gpr.set 6 0x20008000,
             delay := some ⟨0x10000300, 0x10000340, false, []⟩ })).wr (MPU_BASE 1 0) 0x10000000).wr (MPU_LIMIT 1 0) 0x10000FE0).wr
    (MPU_ATTR 1 0) 0x801).putFlag (MPU_CTRL_EN 1) true

/-- The state that a command leaves. -/
def after (i : Instr) (s : State) : State :=
  match exec i s with
  | .next t => t
  | _ => s

theorem test_slot_load_handler :
    let c := (after (.ldw 1 5 6 0) slotLoad).core 1
    c.pc = 0x100001C0 ∧ c.cause = 7 ∧ c.faddr = 0x20008000 ∧ c.status = 0x10 := by decide +kernel
theorem test_slot_load_saved :
    let t := after (.ldw 1 5 6 0) slotLoad
    t.num (slotLoad.slotAddr 1 0) 4 = 0x10000300 ∧ t.num (slotLoad.slotAddr 1 0 + 4) 4 = 6 ∧
      t.num (slotLoad.slotAddr 1 0 + 0x1C) 4 = 1 := by decide +kernel

/-! ### Arithmetic at its corners -/

/-- LSG[1] with 0x80000000 in g4 and 0xFFFFFFFF in g5. -/
def corners : State :=
  (State.reset.put (LS_STAT_STATE 1) 0).onCore 1 (fun c => { c with gpr := (c.gpr.set 4 0x80000000).set 5 0xFFFFFFFF })

theorem test_add_wraps : ((after (.add 1 6 4 4) corners).core 1).rg 6 = 0 := by decide +kernel
theorem test_adds_saturates : ((after (.adds 1 6 4 5) corners).core 1).rg 6 = 0x80000000 := by decide +kernel
theorem test_slt_signed : ((after (.slt 1 6 4 5) corners).core 1).rg 6 = 1 := by decide +kernel
theorem test_sltu_unsigned : ((after (.sltu 1 6 5 4) corners).core 1).rg 6 = 0 := by decide +kernel
theorem test_g0_discards : ((after (.add 1 0 4 5) corners).core 1).rg 0 = 0 := by decide +kernel
theorem test_div_overflow : ((after (.div 1 6 4 5) corners).core 1).rg 6 = 0x7FFFFFFF := by decide +kernel

/-! ### Host packets: the worked example of a pulse-width change -/

theorem test_pulse_register : PEO_PULSE 5 = 0x21144 := by decide
theorem test_pulse_is_safety : safetyTarget 0x21144 = true := by decide
theorem test_completion_bytes :
    Cpl.bytes ⟨0x102, 0, true, false, 0x7A184, [1]⟩ 1 true =
      [2, 1, 0, 0, 0, 0, 3, 1, 0x84, 0xA1, 7, 0, 0, 0, 0, 0, 1, 0, 0, 0, 0, 0, 0, 0, 0, 0, 0, 0, 0, 0, 0, 0] := by decide +kernel

/-! ### After reset -/

theorem test_reset_mode : State.reset.mode = modeBisque ∧ State.reset.pending = [] ∧ State.reset.mem = [] := by decide
theorem test_idle_step : step State.reset = .next State.reset.tick := rfl

end

/-! ### Every obligation's hypotheses can be met -/

section

set_option Elab.async false
set_option linter.unusedVariables false

/-- The hypotheses of `StepRunsTheQueue` can be met together. -/
theorem meets_StepRunsTheQueue :
    (∃ (s : State) (c : Instr) (rest : List Instr), (s.pending = c :: rest)) ∧
    (∃ (s : State), (s.pending = []) ∧ (s.sag.rstNLow = true)) ∧
    (∃ (s : State), (s.pending = []) ∧ (s.sag.rstNLow = false) ∧ (s.sag.rstHeld = false) ∧ (s.kilnware = false) ∧ (s.tw.owed = false)) :=
  ⟨⟨{ State.reset with pending := [.linkUp] }, .linkUp, [], rfl⟩, ⟨State.reset.onSag (fun x => { x with rstNLow := true }), rfl, rfl⟩, ⟨State.reset, by decide, by decide, by decide, by decide, by decide⟩⟩

/-- The hypotheses of `CommandsLeaveTheQueueAndThePart` can be met together. -/
theorem meets_CommandsLeaveTheQueueAndThePart :
    (∃ (i : Instr) (s t : State), (exec i s = .next t)) :=
  ⟨.hiPcieUncorr 0, State.reset, (State.reset.raise F_HI_PCIE_UNCORR 0), rfl⟩

/-- The hypotheses of `StepsKeepTheCanonicalForm` can be met together. -/
theorem meets_StepsKeepTheCanonicalForm :
    (∃ (s t : State), (s.regsWf) ∧ (s.memWf) ∧ (step s = .next t)) :=
  ⟨{ State.reset with pending := [.domStoppedSet 0] }, State.reset.syncStopped 0, ⟨rfl, by intro e he; cases he⟩, rfl, rfl⟩

/-- The hypotheses of `BlownFusesStayBlown` can be met together. -/
theorem meets_BlownFusesStayBlown :
    (∃ (s t : State) (w b : Nat), (step s = .next t) ∧ ((s.fuse w).getLsbD b = true)) :=
  ⟨{ State.reset.blow 0 1 with pending := [.hiPcieUncorr 0] }, (State.reset.blow 0 1).raise F_HI_PCIE_UNCORR 0, 0, 0, rfl, by decide⟩

/-- The hypotheses of `PowerOnResetAndRstN` can be met together. -/
theorem meets_PowerOnResetAndRstN :
    (∃ (s : State), (s.sealHoldsReset = false)) ∧
    (∃ (s : State), (s.sealHoldsReset = true)) :=
  ⟨⟨State.reset, by decide +kernel⟩, ⟨(State.reset.putFlag AR_STAT_PF_ACTIVE true), by decide +kernel⟩⟩

/-- The hypotheses of `WarmRestarts` can be met together. -/
theorem meets_WarmRestarts :
    (∃ (s : State), (s.mode = modeLockdown) ∧ (s.reaches 0 (PM_CTRL) = true)) ∧
    (∃ (s : State), (s.mode ≠ modeLockdown) ∧ (s.reaches 0 (PM_CTRL) = true) ∧ (s.setDevSafe.relinquish.settleFaults.mode ≠ modeLockdown)) ∧
    (∃ (s : State), (s.mode ≠ modeLockdown) ∧ (s.reaches 0 (PM_CTRL) = true) ∧ (s.startTrial.setDevSafe.relinquish.settleFaults.mode ≠ modeLockdown)) ∧
    (∃ (s : State) (m : Master), (m ≠ 0) ∧ (s.reaches m (PM_CTRL) = true)) :=
  ⟨⟨(State.reset.put PM_MODE_MODE 7), by decide +kernel⟩, ⟨(State.reset.put PM_MODE_MODE 5), by decide +kernel⟩, ⟨(State.reset.put PM_MODE_MODE 5), by decide +kernel⟩, ⟨State.reset, 1, by decide +kernel⟩⟩

/-- The hypotheses of `BootStages` can be met together. -/
theorem meets_BootStages :
    (∃ (s : State) (r : BisqueRun), (s.mode = modeBisque) ∧ (s.sag.halted = false) ∧ (r.shaOk = true) ∧ (r.mldsaOk = true) ∧ (s.killed = false) ∧ (s.sag.aonAlarm = false)) ∧
    (∃ (s : State) (r : BisqueRun), (s.mode = modeBisque) ∧ (s.sag.halted = false) ∧ (r.shaOk = false ∨ r.mldsaOk = false)) ∧
    (∃ (s : State) (r : GlostRun), (s.mode = modeGlost) ∧ (s.sag.halted = false) ∧ (r.hbmOk = true) ∧ (r.selfTest = none)) ∧
    (∃ (s : State) (r : GlostRun), (s.mode = modeGlost) ∧ (s.sag.halted = false) ∧ (r.hbmOk = false)) ∧
    (∃ (s : State), (s.mode = modeGlost) ∧ (s.sag.halted = false) ∧ (s.sag.trial = false) ∧ (s.sag.glostTt + 1875000000 ≤ s.tt)) :=
  ⟨⟨State.reset, ⟨true, true, true, true⟩, by decide +kernel⟩, ⟨State.reset, ⟨false, true, true, true⟩, by decide +kernel⟩, ⟨(State.reset.put PM_MODE_MODE 1), ⟨true, none⟩, by decide +kernel⟩, ⟨(State.reset.put PM_MODE_MODE 1), ⟨false, none⟩, by decide +kernel⟩, ⟨{ (State.reset.put PM_MODE_MODE 1) with tt := 1875000000 }, by decide +kernel⟩⟩

/-- The hypotheses of `SuppliesAndClocks` can be met together. -/
theorem meets_SuppliesAndClocks :
    (∃ (s : State) (r : Rail), (3 ≤ r.val) ∧ (r.val ≠ 5)) ∧
    (∃ (s : State) (r : Rail), (r.val < 3)) ∧
    (∃ (s : State) (c : Nat), (c < 105)) ∧
    (∃ (s : State) (c : Nat), (105 ≤ c)) :=
  ⟨⟨State.reset, 3, by decide +kernel⟩, ⟨State.reset, 2, by decide +kernel⟩, ⟨State.reset, 104, by decide +kernel⟩, ⟨State.reset, 105, by decide +kernel⟩⟩

/-- The hypotheses of `EncoderEdges` can be met together. -/
theorem meets_EncoderEdges :
    (∃ (s : State) (n : Enc), (s.encOn n = true) ∧ (s.encLost n = false)) ∧
    (∃ (s : State) (n : Enc), (s.encOn n = true) ∧ (s.encLost n = false)) ∧
    (∃ (s : State) (n : Enc), (s.encOn n = true) ∧ (s.encLost n = false)) ∧
    (∃ (s : State) (n : Enc) (e : EncEdge), (s.encOn n = false ∨ s.encLost n = true)) :=
  ⟨⟨(State.reset.putFlag (ENC_CFG_EN 0) true), 0, by decide +kernel⟩, ⟨(State.reset.putFlag (ENC_CFG_EN 0) true), 0, by decide +kernel⟩, ⟨(State.reset.putFlag (ENC_CFG_EN 0) true), 0, by decide +kernel⟩, ⟨State.reset, 0, .both, .inl rfl⟩⟩

/-- The hypotheses of `EncoderEvents` can be met together. -/
theorem meets_EncoderEvents :
    (∃ (s : State) (n : Enc), (((s.kiln.enc.get n).recent.filter (fun t => decide (s.tt < t + 1250))).length ≤ 50)) ∧
    (∃ (s : State) (n : Enc), (s.flag (ENC_CFG_ZEN n) = true)) ∧
    (∃ (s : State) (n : Enc) (r : Int), (s.flag (ENC_CFG_ZEN n) = true) ∧ (s.encOn n = true) ∧ (s.encLost n = false) ∧ (s.flag (ENC_STAT_LOSS_Z n) = false) ∧ ((s.kiln.enc.get n).zRef = some r)) ∧
    (∃ (s : State) (n : Enc), (s.encOn n = true) ∧ (s.flag (ENC_CFG_ZEN n) = true) ∧ (s.flag (ENC_STAT_LOSS_Z n) = false)) ∧
    (∃ (s : State) (n : Enc) (v : Word) (ok : EncValid), (s.reaches 0 (ENC_STAT n) = true)) ∧
    (∃ (s : State) (n : Enc) (m : Master) (v : Word) (ok : EncValid), (m ≠ 0) ∧ (s.reaches m (ENC_STAT n) = true)) :=
  ⟨⟨State.reset, 0, by decide +kernel⟩, ⟨(State.reset.putFlag (ENC_CFG_ZEN 0) true), 0, by decide +kernel⟩, ⟨((((State.reset.putFlag (ENC_CFG_EN 0) true).putFlag (ENC_CFG_ZEN 0) true).put (ENC_ZPER_COUNTS 0) 9).onEnc 0 (fun c => { c with zRef := some 3 })), 0, 3, by decide +kernel⟩, ⟨((State.reset.putFlag (ENC_CFG_EN 0) true).putFlag (ENC_CFG_ZEN 0) true), 0, by decide +kernel⟩, ⟨State.reset, 0, 1, ⟨true, true, true⟩, by decide +kernel⟩, ⟨State.reset, 0, 1, 0, ⟨true, true, true⟩, by decide +kernel⟩⟩

/-- The hypotheses of `FiringSourcesAndBoundaries` can be met together. -/
theorem meets_FiringSourcesAndBoundaries :
    (∃ (s : State), (s.kiln.running = true) ∧ (s.get TB_CTRL_FSRC = 1)) ∧
    (∃ (s : State) (r : Bool), (s.kiln.running = false ∨ s.get TB_CTRL_FSRC ≠ 1)) ∧
    (∃ (s : State), (9 ≤ s.get TB_OVS_RUN_RUN) ∧ (s.kiln.ovsRaised = false)) ∧
    (∃ (s : State), (s.get TB_OVS_RUN_RUN < 9)) ∧
    (∃ (s : State), (s.get TB_CTRL_FSRC = 1) ∧ (16 ≤ s.kiln.quiet) ∧ (s.kiln.srcLost = false)) ∧
    (∃ (s : State), (s.kiln.running = false)) ∧
    (∃ (s : State), (s.kiln.running = true) ∧ (s.tw.fire = none) ∧ (s.follows = false) ∧ (s.tt - s.rd64 TB_BTT < s.get TB_FMIN_FMIN)) ∧
    (∃ (s : State), (s.kiln.running = true) ∧ (s.tw.fire = none) ∧ (s.follows = false) ∧ (s.get TB_FMIN_FMIN ≤ s.tt - s.rd64 TB_BTT) ∧ ((∃ e, s.kiln.src.head? = some e ∧ e.tt ≤ s.tt) ∨ s.get TB_FMAX_FMAX ≤ s.tt - s.rd64 TB_BTT)) ∧
    (∃ (s : State), (s.kiln.running = true) ∧ (s.tw.fire = none) ∧ (s.follows = false) ∧ (s.tt - s.rd64 TB_BTT < s.get TB_FMAX_FMAX) ∧ (s.kiln.src = [])) ∧
    (∃ (s : State) (x : TwFire), (s.kiln.running = true) ∧ (s.tw.fire = some x)) ∧
    (∃ (s : State), (s.kiln.running = true) ∧ (s.tw.fire = none) ∧ (s.follows = true)) ∧
    (∃ (s : State) (cw : CommitWindow) (peer : Bool), (s.boundaryDue = none)) :=
  ⟨⟨(((State.reset.put PM_MODE_MODE 3).onKiln (fun k => { k with running := true })).put TB_CTRL_FSRC 1), by decide +kernel⟩, ⟨State.reset, true, by decide +kernel⟩, ⟨(State.reset.put TB_OVS_RUN_RUN 9), by decide +kernel⟩, ⟨(State.reset.put TB_OVS_RUN_RUN 8), by decide +kernel⟩, ⟨((State.reset.put TB_CTRL_FSRC 1).onKiln (fun k => { k with quiet := 16 })), by decide +kernel⟩, ⟨State.reset, by decide +kernel⟩, ⟨((State.reset.put PM_MODE_MODE 3).onKiln (fun k => { k with running := true })), by decide +kernel⟩, ⟨{ ((State.reset.put PM_MODE_MODE 3).onKiln (fun k => { k with running := true })) with tt := 10000000 }, by decide +kernel, by decide +kernel, by decide +kernel, (by decide +kernel), Or.inr (by decide +kernel)⟩, ⟨((State.reset.put PM_MODE_MODE 3).onKiln (fun k => { k with running := true })), by decide +kernel⟩, ⟨((((State.reset.put PM_MODE_MODE 3).onKiln (fun k => { k with running := true })).putFlag TW_CFG_EN true).put TW_STAT_ROLE 1).onTw (fun t => { t with fire := some ⟨7, 0, 0⟩ }), ⟨7, 0, 0⟩, by decide +kernel⟩, ⟨((((State.reset.put PM_MODE_MODE 3).onKiln (fun k => { k with running := true })).putFlag TW_CFG_EN true).put TW_STAT_ROLE 1), by decide +kernel⟩, ⟨State.reset, ⟨0, false⟩, false, by decide +kernel⟩⟩

/-- The hypotheses of `BoundaryWindowAndLatches` can be met together. -/
theorem meets_BoundaryWindowAndLatches :
    (∃ (s : State) (b : Due) (cw : CommitWindow) (peer : Bool), (s.boundaryDue = some b)) ∧
    (∃ (s : State) (fn cause : Nat), (s.tt < 2 ^ 64)) :=
  ⟨⟨{ ((State.reset.put PM_MODE_MODE 3).onKiln (fun k => { k with running := true })) with tt := 10000000 }, ⟨1, 2, none⟩, ⟨501, false⟩, false, by decide +kernel⟩, ⟨State.reset, 1, 2, by decide +kernel⟩⟩

/-- The hypotheses of `SealPoint` can be met together. -/
theorem meets_SealPoint :
    (∃ (s : State), (s.kiln.running = true) ∧ (s.flag TB_STAT_SEALED = false) ∧ (1 ≤ s.fn) ∧ (s.rd64 TB_BTT + s.get TB_FMIN_FMIN ≤ s.tt + s.get TB_SEAL_MARGIN_MARGIN)) ∧
    (∃ (s : State), (s.flag TB_STAT_SEALED = true ∨ s.fn = 0 ∨ s.kiln.running = false)) :=
  ⟨⟨{ (((State.reset.put PM_MODE_MODE 3).onKiln (fun k => { k with running := true })).put TB_FMIN_FMIN 5000) with tt := 5000, fn := 1 }, by decide +kernel⟩, ⟨State.reset, by decide +kernel⟩⟩

/-- The hypotheses of `DomainCommandsAndConversions` can be met together. -/
theorem meets_DomainCommandsAndConversions :
    (∃ (s : State) (d : Dom), (s.reaches 0 (DOM_PRESET_CTRL d) = true) ∧ (s.stage.find? (fun e => e.off = DOM_PRESET_CTRL d) = none) ∧ (s.stagedNext < 1024)) ∧
    (∃ (s : State) (d : Dom), (s.reaches 0 (DOM_PRESET_CTRL d) = true) ∧ (s.stage.find? (fun e => e.off = DOM_PRESET_CTRL d) = none) ∧ (1024 ≤ s.stagedNext)) ∧
    (∃ (s : State) (d : Dom) (m : Master), (m ≠ 0) ∧ (s.reaches m (DOM_PRESET_CTRL d) = true)) ∧
    (∃ (s : State) (d : Dom), ((s.netMotion d).natAbs < 4 * 256 * 2 ^ 24) ∧ (s.flag (DOM_STAT_STOPPED d) = false)) ∧
    (∃ (s : State) (d : Dom), (s.flag (DOM_STAT_STOPPED d) = decide ((s.netMotion d).natAbs < 4 * 256 * 2 ^ 24))) ∧
    (∃ (s : State) (d : Dom) (m : Master), ((s.bank d m).busy = none)) ∧
    (∃ (s : State) (d : Dom) (m : Master) (c : Cvt), ((s.bank d m).busy = none) ∧ (c.code < 8)) ∧
    (∃ (s : State) (d : Dom) (m : Master), ((s.bank d m).busy ≠ none)) ∧
    (∃ (s : State) (d : Dom) (m : Master) (r : Fin 8) (o : DWord) (e : Word), ((s.bank d m).busy = some (r, o, e))) ∧
    (∃ (s t : State) (d e : Dom) (m k : Master), ((d, m) ≠ (e, k)) ∧ (exec (.domCvtT2p d m) s = .next t ∨ exec (.domCvtP2t d m) s = .next t)) :=
  ⟨⟨State.reset, 0, by decide +kernel⟩, ⟨{ State.reset with stage := List.replicate 1024 ⟨TB_CTRL, 0, 0, 0⟩ }, 0, by decide +kernel⟩, ⟨State.reset, 0, 1, by decide +kernel⟩, ⟨(State.reset.putFlag (DOM_STAT_STOPPED 0) false), 0, by decide +kernel⟩, ⟨(State.reset.putFlag (DOM_STAT_STOPPED 0) true), 0, by decide +kernel⟩, ⟨State.reset, 0, 3, by decide +kernel⟩, ⟨State.reset, 0, 3, ⟨2, 0, 0⟩, by decide +kernel⟩, ⟨State.reset.setBank 0 3 { busy := some (0, 5, 1) }, 0, 3, by decide +kernel⟩, ⟨State.reset.setBank 0 3 { busy := some (0, 5, 1) }, 0, 3, 0, 5, 1, by decide +kernel⟩, ⟨State.reset, State.reset.startCvt 0 3 (State.reset.t2p 0 0), 0, 0, 3, 4, by decide, Or.inl rfl⟩⟩

/-- The hypotheses of `LanesTrainAndNegotiate` can be met together. -/
theorem meets_LanesTrainAndNegotiate :
    (∃ (s : State) (n : Lane), (s.laneSt n = laneDown) ∧ (s.get (HL_CFG_MODE n) ≠ 0) ∧ (n.val < s.part.lanes)) ∧
    (∃ (s : State) (n : Lane), (s.laneSt n = laneTrain) ∧ (s.flag (HL_CFG_NRZ_ONLY n) = false) ∧ ((s.lane n).attempt < 3) ∧ ((s.lane n).since + 25000000 ≤ s.tt)) ∧
    (∃ (s : State) (n : Lane), (s.laneSt n = laneTrain) ∧ (4 ≤ (s.lane n).good)) ∧
    (∃ (s : State) (n : Lane), (laneTrain ≤ s.laneSt n) ∧ (s.laneSt n ≤ laneActive)) ∧
    (∃ (s : State) (n : Lane), (laneNegotiate ≤ s.laneSt n) ∧ (s.laneSt n ≤ laneActive) ∧ (8 ≤ (s.lane n).bad)) ∧
    (∃ (s : State) (n : Lane) (m : RxMsg), (s.rxFront n 1 = some m) ∧ (s.laneSt n = laneNegotiate) ∧ ((s.lane n).verTt.isSome = true) ∧ (max 1 (field m.bytes 8 1) ≤ min (s.get (HL_CFG_VMAX n)) (field m.bytes 9 1))) ∧
    (∃ (s : State) (n : Lane) (m : RxMsg), (s.rxFront n 1 = some m) ∧ (s.laneSt n = laneNegotiate) ∧ ((s.lane n).verTt.isSome = true) ∧ (min (s.get (HL_CFG_VMAX n)) (field m.bytes 9 1) < max 1 (field m.bytes 8 1))) ∧
    (∃ (s : State) (n : Lane) (m : RxMsg), (s.rxFront n 1 = some m) ∧ (s.laneSt n = laneNegotiate) ∧ ((s.lane n).verTt = none)) ∧
    (∃ (s : State) (n : Lane), (s.laneSt n = laneNegotiate) ∧ ((s.lane n).headVer = none) ∧ ((s.lane n).since + 12500000 ≤ s.tt)) ∧
    (∃ (s : State) (n : Lane), (s.laneSt n = laneCalibrate) ∧ (s.flag (HL_STAT_SYNCED n) = false) ∧ ((s.lane n).since + 12500000 ≤ s.tt)) ∧
    (∃ (s : State) (n : Lane), (s.laneSt n = laneFailed) ∧ (s.reaches 0 (HL_CTRL n) = true)) ∧
    (∃ (s : State) (n : Lane) (m : Master), (m ≠ 0) ∧ (s.reaches m (HL_CTRL n) = true)) :=
  ⟨⟨((State.reset.put (HL_CFG_MODE 0) 1).put (HL_STAT_STATE 0) 0), 0, by decide +kernel⟩, ⟨{ ((State.reset.put (HL_CFG_MODE 0) 1).put (HL_STAT_STATE 0) 1) with tt := 25000000 }, 0, by decide +kernel⟩, ⟨(((State.reset.put (HL_CFG_MODE 0) 1).put (HL_STAT_STATE 0) 1).onLane 0 (fun l => { l with good := 4 })), 0, by decide +kernel⟩, ⟨((State.reset.put (HL_CFG_MODE 0) 1).put (HL_STAT_STATE 0) 6), 0, by decide +kernel⟩, ⟨(((State.reset.put (HL_CFG_MODE 0) 1).put (HL_STAT_STATE 0) 6).onLane 0 (fun l => { l with bad := 8 })), 0, by decide +kernel⟩, ⟨((((State.reset.put (HL_CFG_MODE 0) 1).put (HL_STAT_STATE 0) 2).put (HL_CFG_VMAX 0) 1).onLane 0 (fun l => { l with rx := [⟨5, 1 :: List.replicate 7 0 ++ [1, 1] ++ List.replicate 38 0⟩], verTt := some 0 })), 0, ⟨5, 1 :: List.replicate 7 0 ++ [1, 1] ++ List.replicate 38 0⟩, by decide +kernel⟩, ⟨(((State.reset.put (HL_CFG_MODE 0) 1).put (HL_STAT_STATE 0) 2).onLane 0 (fun l => { l with rx := [⟨5, 1 :: List.replicate 7 0 ++ [9, 9] ++ List.replicate 38 0⟩], verTt := some 0 })), 0, ⟨5, 1 :: List.replicate 7 0 ++ [9, 9] ++ List.replicate 38 0⟩, by decide +kernel⟩, ⟨(((State.reset.put (HL_CFG_MODE 0) 1).put (HL_STAT_STATE 0) 2).onLane 0 (fun l => { l with rx := [⟨5, 1 :: List.replicate 7 0 ++ [1, 1] ++ List.replicate 38 0⟩] })), 0, ⟨5, 1 :: List.replicate 7 0 ++ [1, 1] ++ List.replicate 38 0⟩, by decide +kernel⟩, ⟨{ ((State.reset.put (HL_CFG_MODE 0) 1).put (HL_STAT_STATE 0) 2) with tt := 12500000 }, 0, by decide +kernel⟩, ⟨{ ((State.reset.put (HL_CFG_MODE 0) 1).put (HL_STAT_STATE 0) 3) with tt := 12500000 }, 0, by decide +kernel⟩, ⟨((State.reset.put (HL_CFG_MODE 0) 1).put (HL_STAT_STATE 0) 7), 0, by decide +kernel⟩, ⟨State.reset, 0, 1, by decide +kernel⟩⟩

/-- The hypotheses of `CodewordsAreCounted` can be met together. -/
theorem meets_CodewordsAreCounted :
    (∃ (s : State) (n : Lane) (fec : Fec) (cw : Codeword), (s.laneSt n = laneTrain)) ∧
    (∃ (s : State) (n : Lane) (cw : Codeword), (laneNegotiate ≤ s.laneSt n) ∧ (s.laneSt n ≤ laneActive)) ∧
    (∃ (s : State) (n : Lane) (fec : Fec) (cw : Codeword), (s.laneSt n = laneDown ∨ laneFailed ≤ s.laneSt n)) ∧
    (∃ (s : State) (n : Lane) (fec : Fec) (cw : Codeword), (laneNegotiate ≤ s.laneSt n) ∧ (s.laneSt n ≤ laneActive) ∧ (fec ≠ .uncorrectable)) :=
  ⟨⟨((State.reset.put (HL_CFG_MODE 0) 1).put (HL_STAT_STATE 0) 1), 0, .clean, ⟨0xA5C, 1, []⟩, by decide +kernel⟩, ⟨((State.reset.put (HL_CFG_MODE 0) 1).put (HL_STAT_STATE 0) 6), 0, ⟨0xA5C, 1, []⟩, by decide +kernel⟩, ⟨((State.reset.put (HL_CFG_MODE 0) 1).put (HL_STAT_STATE 0) 7), 0, .clean, ⟨0xA5C, 1, []⟩, by decide +kernel⟩, ⟨((State.reset.put (HL_CFG_MODE 0) 1).put (HL_STAT_STATE 0) 6), 0, .corrected, ⟨0xA5C, 1, []⟩, by decide +kernel, by decide +kernel, by decide⟩⟩

/-- The hypotheses of `LinkMessagesAreSent` can be met together. -/
theorem meets_LinkMessagesAreSent :
    (∃ (s : State) (n : Lane), (s.laneSt n = laneNegotiate) ∧ ((s.lane n).headVer = none) ∧ (s.isPeer n = true ∨ s.arch.refuse = false) ∧ (∀ x, (s.lane n).verTt = some x → x + 125000 ≤ s.tt)) ∧
    (∃ (s : State) (n : Lane) (a b : Nat), (s.laneSt n = laneNegotiate) ∧ ((s.lane n).headVer = some (a, b)) ∧ (max 1 a ≤ min (s.get (HL_CFG_VMAX n)) b) ∧ (∀ x, (s.lane n).verTt = some x → x + 125000 ≤ s.tt)) ∧
    (∃ (s : State) (n : Lane) (frac : Byte), (laneCalibrate ≤ s.laneSt n) ∧ (s.laneSt n ≤ laneActive) ∧ (s.isPeer n = true ∨ s.arch.refuse = false) ∧ (∀ x, (s.lane n).syncTt = some x → x + (if s.laneSt n = laneCalibrate then 10 else s.get (HL_SYNC_CFG_PER n)) * 1250 ≤ s.tt)) ∧
    (∃ (s : State) (n : Lane), (laneNegotiate ≤ s.laneSt n) ∧ (s.laneSt n ≤ laneActive) ∧ (s.isPeer n = true ∨ s.arch.refuse = false) ∧ (∀ x, (s.lane n).hbTt = some x → x + s.get (HL_HB_CFG_PER n) * 1250 ≤ s.tt)) ∧
    (∃ (s : State) (n : Lane) (f c : Nat), (laneNegotiate ≤ s.laneSt n) ∧ (s.laneSt n ≤ laneActive) ∧ (s.isPeer n = false) ∧ (s.arch.refuse = false) ∧ (f = (s.get (HL_FEAT_CRED_LIMIT n) + 2 ^ 32 - (s.lane n).featSent) % 2 ^ 32) ∧ (c = (s.get (HL_CROP_CRED_LIMIT n) + 2 ^ 32 - (s.lane n).cropSent) % 2 ^ 32) ∧ (16 ≤ f ∨ 16 ≤ c ∨ (0 < f + c ∧ (s.lane n).credTt + 12500 ≤ s.tt))) :=
  ⟨⟨((State.reset.put (HL_CFG_MODE 0) 1).put (HL_STAT_STATE 0) 2), 0, by decide +kernel, by decide +kernel, .inr rfl, by intro x h; cases h⟩, ⟨((((State.reset.put (HL_CFG_MODE 0) 1).put (HL_STAT_STATE 0) 2).put (HL_CFG_VMAX 0) 1).onLane 0 (fun l => { l with headVer := some (1, 1) })), 0, 1, 1, by decide +kernel, by decide +kernel, by decide +kernel, by intro x h; cases h⟩, ⟨((State.reset.put (HL_CFG_MODE 0) 1).put (HL_STAT_STATE 0) 3), 0, 7, by decide +kernel, by decide +kernel, .inr rfl, by intro x h; cases h⟩, ⟨((State.reset.put (HL_CFG_MODE 0) 1).put (HL_STAT_STATE 0) 6), 0, by decide +kernel, by decide +kernel, .inr rfl, by intro x h; cases h⟩, ⟨(((State.reset.put (HL_CFG_MODE 0) 1).put (HL_STAT_STATE 0) 6).put (HL_FEAT_CRED_LIMIT 0) 16), 0, 16, 0, by decide +kernel⟩⟩

/-- The hypotheses of `LinkMessagesAreTaken` can be met together. -/
theorem meets_LinkMessagesAreTaken :
    (∃ (s : State) (n : Lane) (m : RxMsg), (s.rxFront n 2 = some m)) ∧
    (∃ (s : State) (n : Lane) (m : RxMsg), (s.rxFront n 0x12 = some m)) ∧
    (∃ (s : State) (n : Lane) (frac : Byte) (m : RxMsg) (e : SyncSent), (s.rxFront n 3 = some m) ∧ ((s.lane n).syncs.find? (fun x => x.id = field m.bytes 18 2) = some e)) ∧
    (∃ (s : State) (n : Lane) (e : SyncSent) (r : List SyncSent), ((s.lane n).syncs = e :: r) ∧ (e.t1 + 6400000 ≤ s.tt * 256)) ∧
    (∃ (s : State) (n : Lane), (s.losable n = false) ∧ (s.flag (HL_STAT_SYNCED n) = true)) ∧
    (∃ (s : State) (n : Lane) (x : Int), (s.laneSt n = laneCalibrate) ∧ (s.flag (HL_STAT_SYNCED n) = false) ∧ (15 ≤ (s.lane n).goodRun) ∧ (2 * x.natAbs ≤ s.get (HL_SYNC_CFG_LIMIT n)) ∧ (s.flag (HL_CFG_IDREQ n) = false)) ∧
    (∃ (s : State) (n : Lane), (s.losable n = true) ∧ (s.flag (HL_STAT_SYNCED n) = true) ∧ (3 ≤ (s.lane n).overRun)) ∧
    (∃ (s : State) (n : Lane), (s.laneSt n = laneActive) ∧ ((s.lane n).hbRx + s.get (HL_HB_CFG_TO_N n) * s.hbJudged n * 1250 ≤ s.tt)) ∧
    (∃ (s : State) (n : Lane), (s.losable n = false)) :=
  ⟨⟨(((State.reset.put (HL_CFG_MODE 0) 1).put (HL_STAT_STATE 0) 6).onLane 0 (fun l => { l with rx := [⟨5, [2, 0, 16, 0]⟩] })), 0, ⟨5, [2, 0, 16, 0]⟩, by decide +kernel⟩, ⟨(((State.reset.put (HL_CFG_MODE 0) 1).put (HL_STAT_STATE 0) 6).onLane 0 (fun l => { l with rx := [⟨5, 0x12 :: List.replicate 47 3⟩] })), 0, ⟨5, 0x12 :: List.replicate 47 3⟩, by decide +kernel⟩, ⟨(((State.reset.put (HL_CFG_MODE 0) 1).put (HL_STAT_STATE 0) 3).onLane 0 (fun l => { l with rx := [⟨5, 3 :: List.replicate 31 0⟩], syncs := [⟨0, 9, 0⟩] })), 0, 0, ⟨5, 3 :: List.replicate 31 0⟩, ⟨0, 9, 0⟩, by decide +kernel⟩, ⟨{ (((State.reset.put (HL_CFG_MODE 0) 1).put (HL_STAT_STATE 0) 3).putFlag (HL_STAT_SYNCED 0) true).onLane 0 (fun l => { l with syncs := [⟨0, 9, 0⟩] }) with tt := 30000 }, 0, ⟨0, 9, 0⟩, [], by decide +kernel⟩, ⟨(((State.reset.put (HL_CFG_MODE 0) 1).put (HL_STAT_STATE 0) 3).putFlag (HL_STAT_SYNCED 0) true), 0, by decide +kernel⟩, ⟨(((State.reset.put (HL_CFG_MODE 0) 1).put (HL_STAT_STATE 0) 3).onLane 0 (fun l => { l with goodRun := 15 })), 0, 0, by decide +kernel⟩, ⟨((((State.reset.put (HL_CFG_MODE 0) 1).put (HL_STAT_STATE 0) 6).putFlag (HL_STAT_SYNCED 0) true).onLane 0 (fun l => { l with overRun := 3 })), 0, by decide +kernel⟩, ⟨{ ((State.reset.put (HL_CFG_MODE 0) 1).put (HL_STAT_STATE 0) 6) with tt := 10000000 }, 0, by decide +kernel⟩, ⟨((State.reset.put (HL_CFG_MODE 0) 1).put (HL_STAT_STATE 0) 5), 0, by decide +kernel⟩⟩

/-- The hypotheses of `LanesAreAdmittedAndDetachedAtTheNextBoundary` can be met together. -/
theorem meets_LanesAreAdmittedAndDetachedAtTheNextBoundary :
    (∃ (s : State) (n : Lane), (s.laneSt n = laneReady) ∧ (s.reaches 0 (HL_CTRL n) = true) ∧ (s.stage.find? (fun e => e.off = HL_CTRL n) = none) ∧ (s.stagedNext < 1024)) ∧
    (∃ (s : State) (n : Lane), (s.laneSt n ≠ laneReady) ∧ (s.reaches 0 (HL_CTRL n) = true)) ∧
    (∃ (s : State) (n : Lane), (s.reaches 0 (HL_CTRL n) = true) ∧ (s.stage.find? (fun e => e.off = HL_CTRL n) = none) ∧ (s.stagedNext < 1024)) ∧
    (∃ (s : State) (n : Lane) (e : Staged), (s.reaches 0 (HL_CTRL n) = true) ∧ (s.stage.find? (fun e => e.off = HL_CTRL n) = some e)) ∧
    (∃ (s : State) (n : Lane) (m : Master), (m ≠ 0) ∧ (s.reaches m (HL_CTRL n) = true)) :=
  ⟨⟨((State.reset.put (HL_CFG_MODE 0) 1).put (HL_STAT_STATE 0) 5), 0, by decide +kernel⟩, ⟨((State.reset.put (HL_CFG_MODE 0) 1).put (HL_STAT_STATE 0) 6), 0, by decide +kernel⟩, ⟨((State.reset.put (HL_CFG_MODE 0) 1).put (HL_STAT_STATE 0) 6), 0, by decide +kernel⟩, ⟨{ ((State.reset.put (HL_CFG_MODE 0) 1).put (HL_STAT_STATE 0) 5) with stage := [⟨HL_CTRL 0, 1, 0, 0⟩] }, 0, ⟨HL_CTRL 0, 1, 0, 0⟩, by decide +kernel⟩, ⟨State.reset, 0, 1, by decide +kernel⟩⟩

/-- The hypotheses of `TheMailboxAsksTheHead` can be met together. -/
theorem meets_TheMailboxAsksTheHead :
    (∃ (s : State) (n : Lane), (s.reaches 0 (HL_CMB_CTRL n) = true) ∧ (s.flag (HL_CMB_CTRL_BUSY n) = false) ∧ (s.isPeer n = true ∨ s.arch.refuse = false) ∧ (laneNegotiate ≤ s.laneSt n) ∧ (s.laneSt n ≤ laneActive)) ∧
    (∃ (s : State) (n : Lane), (s.reaches 0 (HL_CMB_CTRL n) = true) ∧ (s.flag (HL_CMB_CTRL_BUSY n) = false) ∧ (s.isPeer n = true ∨ s.arch.refuse = false) ∧ (laneNegotiate ≤ s.laneSt n) ∧ (s.laneSt n ≤ laneActive)) ∧
    (∃ (s : State) (n : Lane), (s.reaches 0 (HL_CMB_CTRL n) = true) ∧ (s.flag (HL_CMB_CTRL_BUSY n) = false) ∧ (s.isPeer n = true ∨ s.arch.refuse = false) ∧ (laneNegotiate ≤ s.laneSt n) ∧ (s.laneSt n ≤ laneActive)) ∧
    (∃ (s : State) (n : Lane), (s.reaches 0 (HL_CMB_CTRL n) = true) ∧ (s.flag (HL_CMB_CTRL_BUSY n) = false) ∧ (s.isPeer n = true ∨ s.arch.refuse = false) ∧ (laneNegotiate ≤ s.laneSt n) ∧ (s.laneSt n ≤ laneActive)) ∧
    (∃ (s : State) (n : Lane), (s.reaches 0 (HL_CMB_CTRL n) = true) ∧ (s.flag (HL_CMB_CTRL_BUSY n) = true)) ∧
    (∃ (s : State) (n : Lane) (m : Master), (m ≠ 0) ∧ (s.reaches m (HL_CMB_CTRL n) = true)) ∧
    (∃ (s : State) (n : Lane) (m : RxMsg) (tt : Nat), (s.rxFront n 6 = some m) ∧ (m.bytes.length = 96) ∧ ((s.lane n).mailbox = some (field m.bytes 8 2, tt))) ∧
    (∃ (s : State) (n : Lane) (id tt : Nat), ((s.lane n).mailbox = some (id, tt)) ∧ (tt + 125000 ≤ s.tt) ∧ ((s.lane n).chal = none)) :=
  ⟨⟨((State.reset.put (HL_CFG_MODE 0) 1).put (HL_STAT_STATE 0) 6), 0, by decide +kernel, by decide +kernel, .inr rfl, by decide +kernel⟩, ⟨((State.reset.put (HL_CFG_MODE 0) 1).put (HL_STAT_STATE 0) 6), 0, by decide +kernel, by decide +kernel, .inr rfl, by decide +kernel⟩, ⟨((State.reset.put (HL_CFG_MODE 0) 1).put (HL_STAT_STATE 0) 6), 0, by decide +kernel, by decide +kernel, .inr rfl, by decide +kernel⟩, ⟨((State.reset.put (HL_CFG_MODE 0) 1).put (HL_STAT_STATE 0) 6), 0, by decide +kernel, by decide +kernel, .inr rfl, by decide +kernel⟩, ⟨(((State.reset.put (HL_CFG_MODE 0) 1).put (HL_STAT_STATE 0) 6).putFlag (HL_CMB_CTRL_BUSY 0) true), 0, by decide +kernel⟩, ⟨State.reset, 0, 1, by decide +kernel⟩, ⟨((((State.reset.put (HL_CFG_MODE 0) 1).put (HL_STAT_STATE 0) 6)).onLane 0 (fun l => { l with rx := [⟨5, 6 :: List.replicate 95 0⟩], mailbox := some (0, 3) })), 0, ⟨5, 6 :: List.replicate 95 0⟩, 3, by decide +kernel⟩, ⟨{ ((State.reset.put (HL_CFG_MODE 0) 1).put (HL_STAT_STATE 0) 6).onLane 0 (fun l => { l with mailbox := some (0, 3) }) with tt := 125003 }, 0, 0, 3, by decide +kernel⟩⟩

/-- The hypotheses of `HeadsAreIdentified` can be met together. -/
theorem meets_HeadsAreIdentified :
    (∃ (s : State) (n : Lane) (m : RxMsg) (c : Machine.Challenge), (s.rxFront n 6 = some m) ∧ (m.bytes.length = 7248) ∧ ((s.lane n).chal = some c) ∧ (c.id = field m.bytes 8 2) ∧ (c.resp = none)) ∧
    (∃ (s u : State) (n : Lane) (m : RxMsg) (c : Machine.Challenge), (s.served (.head n) = some u) ∧ ((s.lane n).chal = some c) ∧ (c.resp = some m) ∧ (s.laneSt n = laneIdentify)) ∧
    (∃ (s : State) (n : Lane), (s.served (.head n) = none)) ∧
    (∃ (s : State) (n : Lane) (c : Machine.Challenge), ((s.lane n).chal = some c) ∧ (c.resp = none) ∧ (c.sent + 125000 ≤ s.tt) ∧ ((s.lane n).mailbox = none)) :=
  ⟨⟨((((State.reset.put (HL_CFG_MODE 0) 1).put (HL_STAT_STATE 0) 4)).onLane 0 (fun l => { l with rx := [⟨5, List.replicate 7248 6⟩], chal := some ⟨0x606, [], 0, none⟩ })), 0, ⟨5, List.replicate 7248 6⟩, ⟨0x606, [], 0, none⟩, rfl, List.length_replicate, rfl, by decide +kernel, rfl⟩, ⟨(((State.reset.put (HL_CFG_MODE 0) 1).put (HL_STAT_STATE 0) 4).onLane 0 (fun l => { l with chal := some ⟨0, [], 0, some ⟨5, []⟩⟩ })), ((((State.reset.put (HL_CFG_MODE 0) 1).put (HL_STAT_STATE 0) 4).onLane 0 (fun l => { l with chal := some ⟨0, [], 0, some ⟨5, []⟩⟩ })).syncEngine.onSag (fun x => { x with engine := x.engine.tail })), 0, ⟨5, []⟩, ⟨0, [], 0, some ⟨5, []⟩⟩, rfl, by decide +kernel⟩, ⟨State.reset, 0, by decide +kernel⟩, ⟨{ ((State.reset.put (HL_CFG_MODE 0) 1).put (HL_STAT_STATE 0) 4).onLane 0 (fun l => { l with chal := some ⟨0, [], 0, none⟩ }) with tt := 125000 }, 0, ⟨0, [], 0, none⟩, by decide +kernel⟩⟩

/-- The hypotheses of `FeaturesAreHandedOver` can be met together. -/
theorem meets_FeaturesAreHandedOver :
    (∃ (s : State) (n : Lane) (m : RxMsg), (s.rxFront n 0x10 = some m) ∧ (m.bytes.length ≠ 40 + 32 * field m.bytes 27 1)) ∧
    (∃ (s : State) (n : Lane) (m : RxMsg), (s.rxFront n 0x10 = some m) ∧ (m.bytes.length = 40 + 32 * field m.bytes 27 1) ∧ (creditOk (s.lane n).featUsed (divUp m.bytes.length 64) (s.get (HL_FEAT_CRED_LIMIT n)) = false)) ∧
    (∃ (s : State) (n : Lane) (m : RxMsg) (c : Capture), (s.rxFront n 0x10 = some m) ∧ (m.bytes.length = 40 + 32 * field m.bytes 27 1) ∧ (creditOk (s.lane n).featUsed (divUp m.bytes.length 64) (s.get (HL_FEAT_CRED_LIMIT n)) = true) ∧ ((s.lane n).caps.find? (fun c => c.no % 65536 = field m.bytes 24 2) = some c) ∧ (s.rd64 (HL_ADMIT_FN n) < field m.bytes 16 8) ∧ ((s.lane n).detached = true → field m.bytes 16 8 ≤ s.rd64 (HL_DETACH_FN n)) ∧ (field m.bytes 16 8 ≤ s.fn + 1) ∧ (c.got + field m.bytes 27 1 ≤ 1024) ∧ ((field m.bytes 26 1).testBit 2 = false) ∧ (c.trunc = false)) ∧
    (∃ (s : State) (n : Lane) (m : RxMsg), (s.rxFront n 0x10 = some m) ∧ (m.bytes.length = 40 + 32 * field m.bytes 27 1) ∧ (creditOk (s.lane n).featUsed (divUp m.bytes.length 64) (s.get (HL_FEAT_CRED_LIMIT n)) = true) ∧ ((s.lane n).caps.find? (fun c => c.no % 65536 = field m.bytes 24 2) = none) ∧ (s.foreignCap (field m.bytes 16 8) = true) ∧ (s.rd64 (HL_ADMIT_FN n) < field m.bytes 16 8) ∧ ((s.lane n).detached = true → field m.bytes 16 8 ≤ s.rd64 (HL_DETACH_FN n)) ∧ (field m.bytes 16 8 ≤ s.fn + 1) ∧ ((s.foreignOf n m.bytes).got + field m.bytes 27 1 ≤ 1024) ∧ ((field m.bytes 26 1).testBit 2 = false)) ∧
    (∃ (s : State) (n : Lane) (m : RxMsg), (s.rxFront n 0x10 = some m) ∧ (m.bytes.length = 40 + 32 * field m.bytes 27 1) ∧ (creditOk (s.lane n).featUsed (divUp m.bytes.length 64) (s.get (HL_FEAT_CRED_LIMIT n)) = true) ∧ ((s.lane n).caps.find? (fun c => c.no % 65536 = field m.bytes 24 2) = none) ∧ (s.foreignCap (field m.bytes 16 8) = false)) ∧
    (∃ (s : State) (n : Lane) (c : Capture), ((s.lane n).caps.find? (fun c => decide (c.tt + 1250000 ≤ s.tt)) = some c) ∧ ((s.lane n).missRun + 1 < 8)) ∧
    (∃ (s : State) (n : Lane) (c : Capture), ((s.lane n).caps.find? (fun c => decide (c.tt + 1250000 ≤ s.tt)) = some c) ∧ (7 ≤ (s.lane n).missRun) ∧ (s.laneSt n = laneActive)) ∧
    (∃ (s : State) (n : Lane), ((s.lane n).caps.find? (fun c => decide (c.tt + 1250000 ≤ s.tt)) = none)) :=
  ⟨⟨((((State.reset.put (HL_CFG_MODE 0) 1).put (HL_STAT_STATE 0) 6)).onLane 0 (fun l => { l with rx := [⟨5, [0x10]⟩] })), 0, ⟨5, [0x10]⟩, by decide +kernel⟩, ⟨((((State.reset.put (HL_CFG_MODE 0) 1).put (HL_STAT_STATE 0) 6)).onLane 0 (fun l => { l with rx := [⟨5, [0x10] ++ List.replicate 15 0 ++ [1] ++ List.replicate 10 0 ++ [1] ++ List.replicate 44 0⟩] })), 0, ⟨5, [0x10] ++ List.replicate 15 0 ++ [1] ++ List.replicate 10 0 ++ [1] ++ List.replicate 44 0⟩, by decide +kernel⟩, ⟨(((((State.reset.put (HL_CFG_MODE 0) 1).put (HL_STAT_STATE 0) 6).put (HL_FEAT_CRED_LIMIT 0) 16).onLane 0 (fun l => { l with rx := [⟨5, [0x10] ++ List.replicate 15 0 ++ [1] ++ List.replicate 10 0 ++ [1] ++ List.replicate 44 0⟩] })).onLane 0 (fun l => { l with caps := [⟨0, 0, 1, 0, 0, false⟩] })), 0, ⟨5, [0x10] ++ List.replicate 15 0 ++ [1] ++ List.replicate 10 0 ++ [1] ++ List.replicate 44 0⟩, ⟨0, 0, 1, 0, 0, false⟩, by decide +kernel⟩, ⟨((((State.reset.put (HL_CFG_MODE 0) 1).put (HL_STAT_STATE 0) 6).put (HL_FEAT_CRED_LIMIT 0) 16 |>.put TW_STAT_ROLE 1).onLane 0 (fun l => { l with rx := [⟨5, [0x10] ++ List.replicate 15 0 ++ [1] ++ List.replicate 10 0 ++ [1] ++ List.replicate 44 0⟩] })), 0, ⟨5, [0x10] ++ List.replicate 15 0 ++ [1] ++ List.replicate 10 0 ++ [1] ++ List.replicate 44 0⟩, by decide +kernel⟩, ⟨((((State.reset.put (HL_CFG_MODE 0) 1).put (HL_STAT_STATE 0) 6).put (HL_FEAT_CRED_LIMIT 0) 16).onLane 0 (fun l => { l with rx := [⟨5, [0x10] ++ List.replicate 15 0 ++ [1] ++ List.replicate 10 0 ++ [1] ++ List.replicate 44 0⟩] })), 0, ⟨5, [0x10] ++ List.replicate 15 0 ++ [1] ++ List.replicate 10 0 ++ [1] ++ List.replicate 44 0⟩, by decide +kernel⟩, ⟨{ ((State.reset.put (HL_CFG_MODE 0) 1).put (HL_STAT_STATE 0) 6).onLane 0 (fun l => { l with caps := [⟨0, 0, 1, 0, 0, false⟩] }) with tt := 1250000 }, 0, ⟨0, 0, 1, 0, 0, false⟩, by decide +kernel⟩, ⟨{ ((State.reset.put (HL_CFG_MODE 0) 1).put (HL_STAT_STATE 0) 6).onLane 0 (fun l => { l with missRun := 7, caps := [⟨0, 0, 1, 0, 0, false⟩] }) with tt := 1250000 }, 0, ⟨0, 0, 1, 0, 0, false⟩, by decide +kernel⟩, ⟨(((State.reset.put (HL_CFG_MODE 0) 1).put (HL_STAT_STATE 0) 6).onLane 0 (fun l => { l with caps := [⟨0, 0, 1, 0, 0, false⟩] })), 0, by decide +kernel⟩⟩

/-- The hypotheses of `CropsAreWrittenOrDropped` can be met together. -/
theorem meets_CropsAreWrittenOrDropped :
    (∃ (s : State) (n : Lane) (m : RxMsg), (s.rxFront n 0x11 = some m) ∧ (m.bytes.length ≠ (40 + field m.bytes 24 2 + 7) / 8 * 8)) ∧
    (∃ (s : State) (n : Lane) (m : RxMsg), (s.rxFront n 0x11 = some m) ∧ (m.bytes.length = (40 + field m.bytes 24 2 + 7) / 8 * 8) ∧ (creditOk (s.lane n).cropUsed (divUp m.bytes.length 64) (s.get (HL_CROP_CRED_LIMIT n)) = false)) ∧
    (∃ (s : State) (n : Lane) (m : RxMsg), (s.rxFront n 0x11 = some m) ∧ (m.bytes.length = (40 + field m.bytes 24 2 + 7) / 8 * 8) ∧ (creditOk (s.lane n).cropUsed (divUp m.bytes.length 64) (s.get (HL_CROP_CRED_LIMIT n)) = true)) ∧
    (∃ (s : State) (n : Lane) (k : Nat) (f : CropFill), ((s.lane n).fills.find? (fun f => f.slot = k) = some f) ∧ (f.since + 1250000 ≤ s.tt)) ∧
    (∃ (s : State) (n : Lane) (k : Nat), ((s.lane n).fills.find? (fun f => f.slot = k) = none)) :=
  ⟨⟨((((State.reset.put (HL_CFG_MODE 0) 1).put (HL_STAT_STATE 0) 6)).onLane 0 (fun l => { l with rx := [⟨5, [0x11]⟩] })), 0, ⟨5, [0x11]⟩, by decide +kernel⟩, ⟨((((State.reset.put (HL_CFG_MODE 0) 1).put (HL_STAT_STATE 0) 6)).onLane 0 (fun l => { l with rx := [⟨5, [0x11] ++ List.replicate 31 0 ++ List.replicate 8 0⟩] })), 0, ⟨5, [0x11] ++ List.replicate 31 0 ++ List.replicate 8 0⟩, by decide +kernel⟩, ⟨((((State.reset.put (HL_CFG_MODE 0) 1).put (HL_STAT_STATE 0) 6).put (HL_CROP_CRED_LIMIT 0) 16).onLane 0 (fun l => { l with rx := [⟨5, [0x11] ++ List.replicate 31 0 ++ List.replicate 8 0⟩] })), 0, ⟨5, [0x11] ++ List.replicate 31 0 ++ List.replicate 8 0⟩, by decide +kernel⟩, ⟨{ ((State.reset.put (HL_CFG_MODE 0) 1).put (HL_STAT_STATE 0) 6).onLane 0 (fun l => { l with fills := [⟨0, 1, 0, 8, 0, []⟩] }) with tt := 1250000 }, 0, 0, ⟨0, 1, 0, 8, 0, []⟩, by decide +kernel⟩, ⟨State.reset, 0, 0, by decide +kernel⟩⟩

/-- The hypotheses of `TheTrackEngineStagesAndApplies` can be met together. -/
theorem meets_TheTrackEngineStagesAndApplies :
    (∃ (s : State) (r : RecIn) (l : List RecIn), (s.te.incoming = r :: l) ∧ (s.stagedCount < 4194304) ∧ (s.flag TE_CTRL_EN = true) ∧ (s.lateRecord r (s.batchFiring r) = false)) ∧
    (∃ (s : State) (r : RecIn) (l : List RecIn), (s.te.incoming = r :: l) ∧ (s.stagedCount < 4194304) ∧ (s.flag TE_CTRL_EN = true) ∧ (s.lateRecord r (s.batchFiring r) = true)) ∧
    (∃ (s : State) (r : RecIn) (f : Nat), (s.get TW_STAT_ROLE ≠ 1)) ∧
    (∃ (s : State) (r : RecIn) (l : List RecIn), (s.te.incoming = r :: l) ∧ (s.stagedCount < 4194304) ∧ (s.flag TE_CTRL_EN = false)) ∧
    (∃ (s : State) (b : Batch) (l : List Batch), (s.get TW_STAT_ROLE ≠ 2) ∧ (s.te.app = none) ∧ (s.te.batches = b :: l) ∧ (s.flag TE_STAT_POOL_PAUSE = false)) ∧
    (∃ (s : State) (a : Application), (s.get TW_STAT_ROLE ≠ 2) ∧ (s.te.app = some a) ∧ (s.flag TE_STAT_POOL_PAUSE = false)) ∧
    (∃ (s : State) (n : Nat) (e : List Int) (l : List Batch), (s.get TW_STAT_ROLE ≠ 2) ∧ (s.te.app = none) ∧ (s.te.batches = ⟨n, [], [], e⟩ :: l) ∧ (s.flag TE_STAT_POOL_PAUSE = false) ∧ (s.te.sealedIds = []) ∧ (s.te.decsClosed = []) ∧ (s.te.aux = []) ∧ (s.te.live = [])) ∧
    (∃ (s : State), ((s.te.app = none ∧ s.te.batches = []) ∨ (s.te.app.isSome = true ∧ s.flag TE_STAT_POOL_PAUSE = true))) ∧
    (∃ (s : State) (m : Master) (v : Word), (m.val < 8) ∧ (s.te.decs.length < 4096) ∧ (s.reaches m (TE_DEC) = true)) ∧
    (∃ (s : State) (m : Master) (v : Word), (m.val < 8) ∧ (4096 ≤ s.te.decs.length) ∧ (s.reaches m (TE_DEC) = true)) ∧
    (∃ (s : State) (m : Master) (v : Word), (8 ≤ m.val) ∧ (s.reaches m (TE_DEC) = true)) ∧
    (∃ (s : State) (id : TrackId) (a : Application), (s.get TW_STAT_ROLE ≠ 2) ∧ (s.beginDue.te.app = some a) ∧ (s.flag TE_STAT_POOL_PAUSE = false) ∧ (s.beginDue.timesOutIn a id.val = true)) ∧
    (∃ (s : State) (id : TrackId) (b : Batch) (l : List Batch) (p h : Nat), (s.get TW_STAT_ROLE ≠ 2) ∧ (s.te.app = none) ∧ (s.te.batches = b :: l) ∧ (s.flag TE_STAT_POOL_PAUSE = false) ∧ (s.te.sealedIds = []) ∧ (s.te.decsClosed = []) ∧ (s.te.aux = [(id.val, ⟨some p, h⟩)]) ∧ (s.trackSt id.val = trkClosed) ∧ (p + s.get TE_DEC_TO_FIRINGS ≤ b.fn + 2) ∧ (16 ≤ s.poolFree)) ∧
    (∃ (s : State) (id : TrackId), (s.trackSt id.val ≠ trkClosed ∨ (s.te.app = none ∧ s.te.batches = []))) :=
  ⟨⟨((State.reset.putFlag TE_CTRL_EN true).onTe (fun x => { x with incoming := [⟨0, 0, 0, 0, 0, 0, 0, 1, [], false, 2, 0⟩] })), ⟨0, 0, 0, 0, 0, 0, 0, 1, [], false, 2, 0⟩, [], by decide +kernel⟩, ⟨((State.reset.putFlag TE_CTRL_EN true).onTe (fun x => { x with incoming := [⟨0, 0, 0, 0, 0, 0, 0, 1, [], false, 2, 0⟩], sealedTo := 5 })), ⟨0, 0, 0, 0, 0, 0, 0, 1, [], false, 2, 0⟩, [], by decide +kernel⟩, ⟨State.reset, ⟨0, 0, 0, 0, 0, 0, 0, 1, [], false, 2, 0⟩, 0, by decide +kernel⟩, ⟨(State.reset.onTe (fun x => { x with incoming := [⟨0, 0, 0, 0, 0, 0, 0, 1, [], false, 2, 0⟩] })), ⟨0, 0, 0, 0, 0, 0, 0, 1, [], false, 2, 0⟩, [], by decide +kernel⟩, ⟨(State.reset.onTe (fun x => { x with batches := [⟨3, [], [], []⟩] })), ⟨3, [], [], []⟩, [], by decide +kernel⟩, ⟨(State.reset.onTe (fun x => { x with app := some ⟨⟨3, [], [], []⟩, [], [Item.finish], [], 0⟩ })), ⟨⟨3, [], [], []⟩, [], [Item.finish], [], 0⟩, by decide +kernel⟩, ⟨(State.reset.onTe (fun x => { x with batches := [⟨3, [], [], []⟩] })), 3, [], [], by decide +kernel⟩, ⟨State.reset, .inl (by decide +kernel)⟩, ⟨State.reset, 0, 0, by decide +kernel⟩, ⟨(State.reset.onTe (fun x => { x with decs := List.replicate 4096 ⟨0, 0, 0, 0⟩ })), 0, 0, by decide, Nat.le_of_eq (List.length_replicate).symm, by decide +kernel⟩, ⟨State.reset, 8, 0, by decide +kernel⟩, ⟨((State.reset.setBytes (trackAddr 0 + 18) [2]).onTe (fun x => { x with aux := [(0, ⟨some 0, 0⟩)], batches := [⟨5000, [], [], []⟩] })), 0, ⟨⟨5000, [], [], []⟩, [], (((State.reset.setBytes (trackAddr 0 + 18) [2]).onTe (fun x => { x with aux := [(0, ⟨some 0, 0⟩)], batches := [⟨5000, [], [], []⟩] })).beginDue.te.app.map (fun a => a.items)).getD [], [], (((State.reset.setBytes (trackAddr 0 + 18) [2]).onTe (fun x => { x with aux := [(0, ⟨some 0, 0⟩)], batches := [⟨5000, [], [], []⟩] })).beginDue.te.app.map (fun a => a.cost)).getD 0⟩, by decide +kernel⟩, ⟨((State.reset.setBytes (trackAddr 0 + 18) [2]).onTe (fun x => { x with aux := [(0, ⟨some 0, 0⟩)], batches := [⟨5000, [], [], []⟩] })), 0, ⟨5000, [], [], []⟩, [], 0, 0, by decide +kernel⟩, ⟨State.reset, 0, .inl (by decide +kernel)⟩⟩

/-- The hypotheses of `TheVerifyEngineRunsItsCommands` can be met together. -/
theorem meets_TheVerifyEngineRunsItsCommands :
    (∃ (s : State) (n : Tile) (x : Slot_), (s.running n = some x)) ∧
    (∃ (s u : State) (n : Tile) (x : Slot_) (b aux : Bytes), (s.running n = some x) ∧ (s.fetchJob n x.job = (u, some (b, aux))) ∧ (x.job.outEn = false)) ∧
    (∃ (s u : State) (n : Tile) (x : Slot_) (b aux : Bytes), (s.running n = some x) ∧ (s.fetchJob n x.job = (u, some (b, aux))) ∧ (x.job.outEn = true)) ∧
    (∃ (s u : State) (n : Tile) (x : Slot_), (s.running n = some x) ∧ (s.fetchJob n x.job = (u, none))) ∧
    (∃ (s : State) (n : Tile) (x : Slot_) (st : Nat) (res : Bytes) (o : Bool), (s.running n = some x)) ∧
    (∃ (s : State) (n : Tile) (x : Slot_), (s.running n = some x) ∧ (0x80 ≤ x.job.kernel)) ∧
    (∃ (s : State) (n : Tile) (x : Slot_), (s.running n = some x) ∧ (x.job.kernel < 0x80)) ∧
    (∃ (s : State) (n : Tile), (s.running n = none)) ∧
    (∃ (s : State) (n : Tile), (n.val < s.part.tiles)) ∧
    (∃ (s : State) (g : Group) (m : Master) (v : Word), (s.reaches m (VE_SQ_TAIL g) = true) ∧ (m.val = 0 ∨ m.val = g.val)) ∧
    (∃ (s : State) (g : Group) (m : Master) (v : Word), (s.reaches m (VE_CANCEL_CTRL g) = true) ∧ (m.val = 0 ∨ m.val = g.val) ∧ (v.getLsbD 0 = true)) ∧
    (∃ (s : State) (g : Group) (m : Master) (v : Word), (s.reaches m (VE_CANCEL_CTRL g) = true) ∧ (m.val = 0 ∨ m.val = g.val) ∧ (v.getLsbD 0 = false)) ∧
    (∃ (s : State) (g : Group) (m : Master) (v : Word), (m.val ≠ 0) ∧ (m.val ≠ g.val) ∧ (s.reaches m (VE_SQ_TAIL g) = true) ∧ (s.reaches m (VE_CANCEL_CTRL g) = true)) ∧
    (∃ (s : State), (s.flag VE_KLOAD_CTRL_BUSY = true) ∧ (s.reaches 0 (VE_KLOAD_CTRL) = true)) ∧
    (∃ (s : State), (s.flag VE_KLOAD_CTRL_BUSY = false) ∧ (s.reaches 0 (VE_KLOAD_CTRL) = true)) ∧
    (∃ (s : State) (v : Word), (s.reaches 0 (VE_KLOAD_CTRL) = true) ∧ (s.stage.find? (fun e => e.off = VE_KLOAD_CTRL) = none) ∧ (s.stagedNext < 1024)) ∧
    (∃ (s u : State), (s.served .kload = some u)) ∧
    (∃ (s : State), (s.served .kload = none)) ∧
    (∃ (s : State) (n : Tile), (s.reaches 0 (VT_CTRL n) = true) ∧ (n.val ∈ s.ve.out) ∧ (n.val ∉ s.ve.testing)) ∧
    (∃ (s : State) (n : Tile) (pass : Bool), (n.val ∈ s.ve.testing)) ∧
    (∃ (s : State) (n : Tile) (m : Master) (v : Word), (m ≠ 0) ∧ (s.reaches m (VE_KLOAD_CTRL) = true) ∧ (s.reaches m (VT_CTRL n) = true)) :=
  ⟨⟨{ (State.reset.onVe (fun x => { x with slots := [⟨0, ⟨0, 3 :: List.replicate 63 0, 0, none⟩, some 0, 10, 1, none, [], false, false⟩] })) with tt := 400 }, 0, ⟨0, ⟨0, 3 :: List.replicate 63 0, 0, none⟩, some 0, 10, 1, none, [], false, false⟩, by decide +kernel⟩, ⟨{ (State.reset.onVe (fun x => { x with slots := [⟨0, ⟨0, 3 :: List.replicate 63 0, 0, none⟩, some 0, 10, 1, none, [], false, false⟩] })) with tt := 400 }, ({ (State.reset.onVe (fun x => { x with slots := [⟨0, ⟨0, 3 :: List.replicate 63 0, 0, none⟩, some 0, 10, 1, none, [], false, false⟩] })) with tt := 400 }.fetchJob 0 (⟨0, ⟨0, 3 :: List.replicate 63 0, 0, none⟩, some 0, 10, 1, none, [], false, false⟩ : Slot_).job).1, 0, ⟨0, ⟨0, 3 :: List.replicate 63 0, 0, none⟩, some 0, 10, 1, none, [], false, false⟩, (({ (State.reset.onVe (fun x => { x with slots := [⟨0, ⟨0, 3 :: List.replicate 63 0, 0, none⟩, some 0, 10, 1, none, [], false, false⟩] })) with tt := 400 }.fetchJob 0 (⟨0, ⟨0, 3 :: List.replicate 63 0, 0, none⟩, some 0, 10, 1, none, [], false, false⟩ : Slot_).job).2.getD ([], [])).1, (({ (State.reset.onVe (fun x => { x with slots := [⟨0, ⟨0, 3 :: List.replicate 63 0, 0, none⟩, some 0, 10, 1, none, [], false, false⟩] })) with tt := 400 }.fetchJob 0 (⟨0, ⟨0, 3 :: List.replicate 63 0, 0, none⟩, some 0, 10, 1, none, [], false, false⟩ : Slot_).job).2.getD ([], [])).2, by decide +kernel⟩, ⟨{ (State.reset.onVe (fun x => { x with slots := [⟨0, ⟨0, 3 :: 0 :: 2 :: List.replicate 61 0, 0, none⟩, some 0, 10, 1, none, [], false, false⟩] })) with tt := 400 }, ({ (State.reset.onVe (fun x => { x with slots := [⟨0, ⟨0, 3 :: 0 :: 2 :: List.replicate 61 0, 0, none⟩, some 0, 10, 1, none, [], false, false⟩] })) with tt := 400 }.fetchJob 0 (⟨0, ⟨0, 3 :: 0 :: 2 :: List.replicate 61 0, 0, none⟩, some 0, 10, 1, none, [], false, false⟩ : Slot_).job).1, 0, ⟨0, ⟨0, 3 :: 0 :: 2 :: List.replicate 61 0, 0, none⟩, some 0, 10, 1, none, [], false, false⟩, (({ (State.reset.onVe (fun x => { x with slots := [⟨0, ⟨0, 3 :: 0 :: 2 :: List.replicate 61 0, 0, none⟩, some 0, 10, 1, none, [], false, false⟩] })) with tt := 400 }.fetchJob 0 (⟨0, ⟨0, 3 :: 0 :: 2 :: List.replicate 61 0, 0, none⟩, some 0, 10, 1, none, [], false, false⟩ : Slot_).job).2.getD ([], [])).1, (({ (State.reset.onVe (fun x => { x with slots := [⟨0, ⟨0, 3 :: 0 :: 2 :: List.replicate 61 0, 0, none⟩, some 0, 10, 1, none, [], false, false⟩] })) with tt := 400 }.fetchJob 0 (⟨0, ⟨0, 3 :: 0 :: 2 :: List.replicate 61 0, 0, none⟩, some 0, 10, 1, none, [], false, false⟩ : Slot_).job).2.getD ([], [])).2, by decide +kernel⟩, ⟨{ (State.reset.onVe (fun x => { x with slots := [⟨0, ⟨0, 3 :: 0 :: 8 :: List.replicate 61 0, 0, none⟩, some 0, 10, 1, none, [], false, false⟩] })) with tt := 400 }, ({ (State.reset.onVe (fun x => { x with slots := [⟨0, ⟨0, 3 :: 0 :: 8 :: List.replicate 61 0, 0, none⟩, some 0, 10, 1, none, [], false, false⟩] })) with tt := 400 }.fetchJob 0 (⟨0, ⟨0, 3 :: 0 :: 8 :: List.replicate 61 0, 0, none⟩, some 0, 10, 1, none, [], false, false⟩ : Slot_).job).1, 0, ⟨0, ⟨0, 3 :: 0 :: 8 :: List.replicate 61 0, 0, none⟩, some 0, 10, 1, none, [], false, false⟩, by decide +kernel⟩, ⟨{ (State.reset.onVe (fun x => { x with slots := [⟨0, ⟨0, 3 :: List.replicate 63 0, 0, none⟩, some 0, 10, 1, none, [], false, false⟩] })) with tt := 400 }, 0, ⟨0, ⟨0, 3 :: List.replicate 63 0, 0, none⟩, some 0, 10, 1, none, [], false, false⟩, 0, [], false, by decide +kernel⟩, ⟨{ (State.reset.onVe (fun x => { x with slots := [⟨0, ⟨0, 128 :: List.replicate 63 0, 0, none⟩, some 0, 10, 1, none, [], false, false⟩] })) with tt := 400 }, 0, ⟨0, ⟨0, 128 :: List.replicate 63 0, 0, none⟩, some 0, 10, 1, none, [], false, false⟩, by decide +kernel⟩, ⟨{ (State.reset.onVe (fun x => { x with slots := [⟨0, ⟨0, 3 :: List.replicate 63 0, 0, none⟩, some 0, 10, 1, none, [], false, false⟩] })) with tt := 400 }, 0, ⟨0, ⟨0, 3 :: List.replicate 63 0, 0, none⟩, some 0, 10, 1, none, [], false, false⟩, by decide +kernel⟩, ⟨State.reset, 0, by decide +kernel⟩, ⟨State.reset, 0, by decide +kernel⟩, ⟨State.reset, 1, 0, 0, by decide +kernel, .inl rfl⟩, ⟨State.reset, 1, 0, 1, by decide +kernel, .inl rfl, by decide⟩, ⟨State.reset, 1, 0, 2, by decide +kernel, .inl rfl, by decide⟩, ⟨State.reset, 1, 2, 0, by decide +kernel⟩, ⟨(State.reset.putFlag VE_KLOAD_CTRL_BUSY true), by decide +kernel⟩, ⟨State.reset, by decide +kernel⟩, ⟨State.reset, 0x102, by decide +kernel⟩, ⟨(State.reset.onVe (fun x => { x with kload := some (0, 0) })), ((State.reset.onVe (fun x => { x with kload := some (0, 0) })).syncEngine.onSag (fun x => { x with engine := x.engine.tail })), rfl⟩, ⟨State.reset, by decide +kernel⟩, ⟨(State.reset.onVe (fun x => { x with out := [0] })), 0, by decide +kernel⟩, ⟨(State.reset.onVe (fun x => { x with testing := [0] })), 0, true, by decide +kernel⟩, ⟨State.reset, 0, 1, 0, by decide +kernel⟩⟩

/-- The hypotheses of `TheWheelTakesInsertions` can be met together. -/
theorem meets_TheWheelTakesInsertions :
    (∃ (s u : State) (g : Group) (m : Master) (v : Word), (s.reaches m (EW_INS_CTRL g) = true) ∧ (m.val = 0 ∨ m.val = g.val) ∧ (s.flag (EW_INS_STAT_BUSY g) = false) ∧ (s.wheel.masked.get g = none) ∧ (u = s.wr (EW_INS_CTRL g) (v &&& 0x000F3F1F)) ∧ (u.insertResult g (m.val == 0) (u.portInsertion g v) ≤ 1)) ∧
    (∃ (s u : State) (g : Group) (m : Master) (v : Word), (s.reaches m (EW_INS_CTRL g) = true) ∧ (m.val = 0 ∨ m.val = g.val) ∧ (s.flag (EW_INS_STAT_BUSY g) = false) ∧ (s.wheel.masked.get g = none) ∧ (u = s.wr (EW_INS_CTRL g) (v &&& 0x000F3F1F)) ∧ (3 ≤ u.insertResult g (m.val == 0) (u.portInsertion g v))) ∧
    (∃ (s : State) (g : Group) (m : Master) (v : Word), (s.reaches m (EW_INS_CTRL g) = true) ∧ (m.val = 0 ∨ m.val = g.val) ∧ (s.flag (EW_INS_STAT_BUSY g) = true ∨ (s.wheel.masked.get g).isSome = true)) ∧
    (∃ (s u : State) (g : Group) (m : Master) (v : Word), (s.reaches m (EW_INS_CTRL g) = true) ∧ (m.val = 0 ∨ m.val = g.val) ∧ (s.flag (EW_INS_STAT_BUSY g) = false) ∧ (s.wheel.masked.get g = none) ∧ (u = s.wr (EW_INS_CTRL g) (v &&& 0x000F3F1F)) ∧ (u.insertResult g (m.val == 0) (u.portInsertion g v) = 2)) ∧
    (∃ (s : State) (g : Group) (m : Master) (v : Word), (m.val ≠ 0) ∧ (m.val ≠ g.val) ∧ (s.reaches m (EW_INS_CTRL g) = true)) :=
  ⟨⟨((((((State.reset.put PM_MODE_MODE 3).putFlag EW_CTRL_EN true).put (PEO_CFG_MODE 0) 1).put (PEO_CFG_OWNER 0) 1).put (EW_QUOTA_N 1) 8).wr64 (EW_INS_TGT 1) 2560), ((((((State.reset.put PM_MODE_MODE 3).putFlag EW_CTRL_EN true).put (PEO_CFG_MODE 0) 1).put (PEO_CFG_OWNER 0) 1).put (EW_QUOTA_N 1) 8).wr64 (EW_INS_TGT 1) 2560).wr (EW_INS_CTRL 1) (0 &&& 0x000F3F1F), 1, 1, 0, by decide +kernel, .inr rfl, by decide +kernel, by decide +kernel, rfl, by decide +kernel⟩, ⟨State.reset, State.reset.wr (EW_INS_CTRL 1) (0 &&& 0x000F3F1F), 1, 1, 0, by decide +kernel, .inr rfl, by decide +kernel, by decide +kernel, rfl, by decide +kernel⟩, ⟨(State.reset.onWheel (fun x => { x with masked := Vector.replicate 8 (some 0) })), 1, 1, 0, by decide +kernel, .inr rfl, .inr (by decide +kernel)⟩, ⟨((((((((State.reset.put PM_MODE_MODE 3).putFlag EW_CTRL_EN true).put (PEO_CFG_MODE 0) 1).put (PEO_CFG_OWNER 0) 1).put (EW_QUOTA_N 1) 8).wr64 (EW_INS_TGT 1) 2560).put (PEO_PAST_TOL_COUNTS 0) 50).wr64 (EW_INS_TGT 1) 0), ((((((((State.reset.put PM_MODE_MODE 3).putFlag EW_CTRL_EN true).put (PEO_CFG_MODE 0) 1).put (PEO_CFG_OWNER 0) 1).put (EW_QUOTA_N 1) 8).wr64 (EW_INS_TGT 1) 2560).put (PEO_PAST_TOL_COUNTS 0) 50).wr64 (EW_INS_TGT 1) 0).wr (EW_INS_CTRL 1) (0x1000 &&& 0x000F3F1F), 1, 1, 0x1000, by decide +kernel, .inr rfl, by decide +kernel, by decide +kernel, rfl, by decide +kernel⟩, ⟨State.reset, 1, 2, 0, by decide +kernel⟩⟩

/-- The hypotheses of `TheWheelCancelsLoadsAndReleases` can be met together. -/
theorem meets_TheWheelCancelsLoadsAndReleases :
    (∃ (s : State) (g : Group) (m : Master) (v : Word) (e : Event), (s.reaches m (EW_CAN_HANDLE g) = true) ∧ (m.val = 0 ∨ m.val = g.val) ∧ (lookup s.wheel.slots (v.toNat % 2 ^ 24 % 131072) = some e) ∧ (e.handle = v.toNat % 2 ^ 24) ∧ (e.group = g ∨ m.val = 0)) ∧
    (∃ (s : State) (g : Group) (m : Master) (v : Word), (s.reaches m (EW_CAN_HANDLE g) = true) ∧ (m.val = 0 ∨ m.val = g.val) ∧ (lookup s.wheel.slots (v.toNat % 2 ^ 24 % 131072) = none) ∧ (s.wheel.late = []) ∧ (lookup s.wheel.fates (v.toNat % 2 ^ 24 % 131072) = none)) ∧
    (∃ (s : State) (g : Group) (m : Master), (s.reaches m (EW_CAN_CTRL g) = true) ∧ (m.val = 0 ∨ m.val = g.val) ∧ (s.wheel.masked.get g = none)) ∧
    (∃ (s : State) (g : Group) (m : Master), (s.reaches m (EW_CAN_CTRL g) = true) ∧ (m.val = 0 ∨ m.val = g.val) ∧ ((s.wheel.masked.get g).isSome = true)) ∧
    (∃ (s : State) (g : Group) (n : Nat), (s.wheel.masked.get g = some n) ∧ (s.wheel.held.get g = []) ∧ (∀ p ∈ s.host.parked, p.group ≠ g)) ∧
    (∃ (s : State) (g : Group), (s.wheel.masked.get g = none)) ∧
    (∃ (s : State) (d : Dom) (k : Slot) (e : Event), (lookup s.wheel.slots k.val = some e) ∧ (s.evDom e = d) ∧ (e.near = false) ∧ ((e.cmp - s.count d).natAbs ≤ 4096) ∧ (s.nearCount d < 1024) ∧ (s.nearerWaiting d e = false) ∧ ((s.readSlot k.val).2 = true)) ∧
    (∃ (s : State) (d : Dom) (k : Slot) (e : Event), (lookup s.wheel.slots k.val = some e) ∧ (s.evDom e = d) ∧ (e.near = false) ∧ ((e.cmp - s.count d).natAbs ≤ 4096) ∧ (s.nearCount d < 1024) ∧ (s.nearerWaiting d e = false) ∧ ((s.readSlot k.val).2 = false)) ∧
    (∃ (s : State) (d : Dom) (k : Slot) (e : Event), (lookup s.wheel.slots k.val = some e) ∧ (s.evDom e = d) ∧ (e.near = false) ∧ (e.kept = false) ∧ ((e.cmp - s.count d).natAbs ≤ 4096) ∧ (1024 ≤ s.nearCount d)) ∧
    (∃ (s : State) (d : Dom) (k : Slot) (x : LateEvent) (l : List LateEvent), (s.wheel.late.find? (fun x => x.slot = k.val && s.evDom x.ev == d) = some x) ∧ (l = sortBy (fun a b => a.ev.before b.ev) (s.wheel.late.filter (fun y => y.ev.ch == x.ev.ch && y.edge == x.edge)))) ∧
    (∃ (s : State) (d : Dom) (k : Slot), (s.wheel.late = []) ∧ (lookup s.wheel.slots k.val = none)) ∧
    (∃ (s : State) (g : Group) (m : Master), (s.reaches m (EW_G_CTRL g) = true) ∧ (m.val = 0 ∨ m.val = g.val) ∧ (s.stage.find? (fun e => e.off = EW_G_CTRL g) = none) ∧ (s.stagedNext < 1024)) ∧
    (∃ (s : State) (g : Group) (m : Master) (v : Word), (m.val ≠ 0) ∧ (m.val ≠ g.val) ∧ (s.reaches m (EW_CAN_HANDLE g) = true) ∧ (s.reaches m (EW_CAN_CTRL g) = true) ∧ (s.reaches m (EW_G_CTRL g) = true)) :=
  ⟨⟨(State.reset.onWheel (fun x => { x with slots := [(0, { cmp := 5, width := 0, tag := 0, ch := 0, action := 0, dir := 0, log := false, prio := 0, group := 1, seq := 0, handle := 0, insTt := 0, insFar := false, near := false, kept := false })] })), 1, 1, 0, { cmp := 5, width := 0, tag := 0, ch := 0, action := 0, dir := 0, log := false, prio := 0, group := 1, seq := 0, handle := 0, insTt := 0, insFar := false, near := false, kept := false }, by decide +kernel, .inr rfl, by decide +kernel, by decide +kernel, .inl rfl⟩, ⟨State.reset, 1, 1, 0, by decide +kernel, .inr rfl, by decide +kernel⟩, ⟨(State.reset.onWheel (fun x => { x with slots := [(0, { cmp := 5, width := 0, tag := 0, ch := 0, action := 0, dir := 0, log := false, prio := 0, group := 1, seq := 0, handle := 0, insTt := 0, insFar := false, near := false, kept := false })] })), 1, 1, by decide +kernel, .inr rfl, by decide +kernel⟩, ⟨(State.reset.onWheel (fun x => { x with masked := Vector.replicate 8 (some 0) })), 1, 1, by decide +kernel, .inr rfl, by decide +kernel⟩, ⟨(State.reset.onWheel (fun x => { x with masked := Vector.replicate 8 (some 0) })), 1, 0, by decide +kernel⟩, ⟨State.reset, 1, by decide +kernel⟩, ⟨(State.reset.onWheel (fun x => { x with slots := [(0, { cmp := 5, width := 0, tag := 0, ch := 0, action := 0, dir := 0, log := false, prio := 0, group := 1, seq := 0, handle := 0, insTt := 0, insFar := false, near := false, kept := false })] })), 0, 0, { cmp := 5, width := 0, tag := 0, ch := 0, action := 0, dir := 0, log := false, prio := 0, group := 1, seq := 0, handle := 0, insTt := 0, insFar := false, near := false, kept := false }, by decide +kernel⟩, ⟨((State.reset.onWheel (fun x => { x with slots := [(0, { cmp := 5, width := 0, tag := 0, ch := 0, action := 0, dir := 0, log := false, prio := 0, group := 1, seq := 0, handle := 0, insTt := 0, insFar := false, near := false, kept := false })] })).setSyndrome wheelBase 3), 0, 0, { cmp := 5, width := 0, tag := 0, ch := 0, action := 0, dir := 0, log := false, prio := 0, group := 1, seq := 0, handle := 0, insTt := 0, insFar := false, near := false, kept := false }, by decide +kernel⟩, ⟨(State.reset.onWheel (fun x => { x with slots := (0, { cmp := 5, width := 0, tag := 0, ch := 0, action := 0, dir := 0, log := false, prio := 0, group := 1, seq := 0, handle := 0, insTt := 0, insFar := false, near := false, kept := false }) :: List.replicate 1024 (1, { cmp := 5, width := 0, tag := 0, ch := 0, action := 0, dir := 0, log := false, prio := 0, group := 1, seq := 0, handle := 0, insTt := 0, insFar := false, near := true, kept := false }) })), 0, 0, { cmp := 5, width := 0, tag := 0, ch := 0, action := 0, dir := 0, log := false, prio := 0, group := 1, seq := 0, handle := 0, insTt := 0, insFar := false, near := false, kept := false }, by decide +kernel⟩, ⟨(State.reset.onWheel (fun x => { x with late := [⟨0, { cmp := 5, width := 0, tag := 0, ch := 0, action := 0, dir := 0, log := false, prio := 0, group := 1, seq := 0, handle := 0, insTt := 0, insFar := false, near := false, kept := false }, true, 0⟩] })), 0, 0, ⟨0, { cmp := 5, width := 0, tag := 0, ch := 0, action := 0, dir := 0, log := false, prio := 0, group := 1, seq := 0, handle := 0, insTt := 0, insFar := false, near := false, kept := false }, true, 0⟩, [⟨0, { cmp := 5, width := 0, tag := 0, ch := 0, action := 0, dir := 0, log := false, prio := 0, group := 1, seq := 0, handle := 0, insTt := 0, insFar := false, near := false, kept := false }, true, 0⟩], by decide +kernel⟩, ⟨State.reset, 0, 0, by decide +kernel⟩, ⟨State.reset, 1, 1, by decide +kernel, .inr rfl, by decide +kernel⟩, ⟨State.reset, 1, 2, 0, by decide +kernel⟩⟩

/-- The hypotheses of `OutputsPulseAndAreTested` can be met together. -/
theorem meets_OutputsPulseAndAreTested :
    (∃ (s : State) (n : Chan) (e : Nat), ((s.outs.chan.get n).pulse = some (.time e)) ∧ (e ≤ s.tt)) ∧
    (∃ (s : State) (n : Chan) (a : Int) (u : Bool) (e : Nat), ((s.outs.chan.get n).pulse = some (.pos a u (some e))) ∧ (e ≤ s.tt)) ∧
    (∃ (s : State) (n : Chan), ((s.outs.chan.get n).pulse = none)) ∧
    (∃ (s : State) (n : Chan), (s.flag (PEO_CFG_TEST_EN n) = true) ∧ (s.get (PEO_CFG_MODE n) ≠ 0) ∧ (s.holdCause n = false) ∧ ((s.outs.chan.get n).test = none) ∧ ((s.outs.chan.get n).pulse = none) ∧ (s.logic n ≠ s.safeVal n) ∧ ((s.outs.chan.get n).since + s.get (PEO_TEST_CFG_PER n) * 1250000 ≤ s.tt) ∧ (s.outs.ioLost = false)) ∧
    (∃ (s : State) (n : Chan), (s.flag (PEO_CFG_TEST_EN n) = false ∨ s.holdCause n = true)) ∧
    (∃ (s : State) (n : Chan) (a b : Bool) (e : Nat), ((s.outs.chan.get n).test = some e) ∧ (e + s.get (PEO_TEST_CFG_W n) ≤ s.tt) ∧ ((a, b) = s.expectRb n)) ∧
    (∃ (s : State) (n : Chan) (a b : Bool) (e : Nat), ((s.outs.chan.get n).test = some e) ∧ (e + s.get (PEO_TEST_CFG_W n) ≤ s.tt) ∧ ((a, b) ≠ s.expectRb n)) ∧
    (∃ (s : State) (n : Chan) (a b : Bool), ((s.outs.chan.get n).test = none)) ∧
    (∃ (s : State) (n : Chan) (a b : Bool), (s.flag (PEO_CFG_RB_EN n) = true) ∧ (s.rd64 (PEO_LAST_TT n) + s.get (PEO_RB_DLY_KCLK n) + s.get (PEO_RB_FILT_KCLK n) ≤ s.tt) ∧ ((a, b) ≠ s.expectRb n)) ∧
    (∃ (s : State) (n : Chan) (a b : Bool), (s.flag (PEO_CFG_RB_EN n) = false ∨ (a, b) = s.expectRb n)) ∧
    (∃ (s : State) (l : Bool), (s.flag EW_SSTOP_CFG_FB_EN = true) ∧ (l ≠ s.flag EW_SSTOP_STAT_DRV0) ∧ (s.outs.stopTt + s.get EW_SSTOP_CFG_FB_DLY * 1250000 < s.tt)) ∧
    (∃ (s : State) (l : Bool), (s.flag EW_SSTOP_CFG_FB_EN = false ∨ l = s.flag EW_SSTOP_STAT_DRV1)) :=
  ⟨⟨((State.reset.put PM_MODE_MODE 3).onChan 0 (fun x => { x with pulse := some (.time 0) })), 0, 0, by decide +kernel⟩, ⟨((State.reset.put PM_MODE_MODE 3).onChan 0 (fun x => { x with pulse := some (.pos 3 true (some 0)) })), 0, 3, true, 0, by decide +kernel⟩, ⟨State.reset, 0, by decide +kernel⟩, ⟨{ ((((State.reset.put PM_MODE_MODE 3).putFlag (PEO_CFG_TEST_EN 0) true).put (PEO_CFG_MODE 0) 1).putFlag (PEO_STAT_LOGIC 0) true) with tt := 1000000000000 }, 0, by decide +kernel⟩, ⟨State.reset, 0, .inr (by decide +kernel)⟩, ⟨{ ((State.reset.put PM_MODE_MODE 3).onChan 0 (fun x => { x with test := some 0 })) with tt := 100000 }, 0, false, false, 0, by decide +kernel⟩, ⟨{ ((State.reset.put PM_MODE_MODE 3).onChan 0 (fun x => { x with test := some 0 })) with tt := 100000 }, 0, true, false, 0, by decide +kernel⟩, ⟨State.reset, 0, true, true, by decide +kernel⟩, ⟨{ (State.reset.putFlag (PEO_CFG_RB_EN 0) true) with tt := 100000 }, 0, true, false, by decide +kernel⟩, ⟨State.reset, 0, false, true, .inl (by decide +kernel)⟩, ⟨{ (State.reset.putFlag EW_SSTOP_CFG_FB_EN true) with tt := 1000000000000 }, true, by decide +kernel⟩, ⟨State.reset, true, .inl (by decide +kernel)⟩⟩

/-- The hypotheses of `CopiesAreComparedAndReadmitted` can be met together. -/
theorem meets_CopiesAreComparedAndReadmitted :
    (∃ (s : State) (g : Group) (x c : CopyRecord), (g.val < s.part.groups) ∧ (s.get (LS_STAT_STATE g) ≠ 1) ∧ ((s.core g).inject = none) ∧ (s.get (LS_STAT_ACTIVE g) = 7 ∧ c = x ∨ s.get (LS_STAT_ACTIVE g) = 3)) ∧
    (∃ (s : State) (g : Group) (x y : CopyRecord) (k : Fin 3), (g.val < s.part.groups) ∧ (s.get (LS_STAT_STATE g) ≠ 1) ∧ ((s.core g).inject = none) ∧ (s.get (LS_STAT_ACTIVE g) = 7) ∧ (y ≠ x) ∧ (s.retires g k = false)) ∧
    (∃ (s : State) (g : Group) (x y : CopyRecord) (k : Fin 3), (g.val < s.part.groups) ∧ (s.get (LS_STAT_STATE g) ≠ 1) ∧ ((s.core g).inject = none) ∧ (s.get (LS_STAT_ACTIVE g) = 7) ∧ (y ≠ x) ∧ (s.retires g k = true)) ∧
    (∃ (s : State) (g : Group) (x : CopyRecord) (k : Fin 3), (g.val < s.part.groups) ∧ (s.get (LS_STAT_STATE g) ≠ 1) ∧ ((s.core g).inject = some k) ∧ (s.get (LS_STAT_ACTIVE g) = 7) ∧ (copyCommits x = true) ∧ (s.mode ≠ modeGlost)) ∧
    (∃ (s : State) (g : Group) (a b c : CopyRecord), (g.val < s.part.groups) ∧ (s.get (LS_STAT_STATE g) ≠ 1) ∧ ((s.core g).inject = none) ∧ (s.get (LS_STAT_ACTIVE g) = 7) ∧ (a ≠ b) ∧ (b ≠ c) ∧ (a ≠ c)) ∧
    (∃ (s : State) (g : Group) (a b c : CopyRecord), (g.val < s.part.groups) ∧ (s.get (LS_STAT_STATE g) ≠ 1) ∧ ((s.core g).inject = none) ∧ (s.get (LS_STAT_ACTIVE g) = 3) ∧ (a ≠ b)) ∧
    (∃ (s : State) (g : Group) (r : ReadmitRun) (p : Pause), ((s.core g).pause = some p) ∧ (r.drain ≤ 320) ∧ ((r.drain + 1072) * 25 ≤ (s.tt - p.start) * 32) ∧ (r.copyEqual = true) ∧ (r.majorityEqual = true) ∧ ((s.core g).stopDue = false) ∧ (p.copies < 8)) ∧
    (∃ (s : State) (g : Group) (r : ReadmitRun) (p : Pause), ((s.core g).pause = some p) ∧ (320 < r.drain) ∧ (320 * 25 ≤ (s.tt - p.start) * 32) ∧ ((s.core g).stopDue = false)) ∧
    (∃ (s : State) (g : Group) (r : ReadmitRun) (p : Pause), ((s.core g).pause = some p) ∧ (r.drain ≤ 320) ∧ ((r.drain + 1072) * 25 ≤ (s.tt - p.start) * 32) ∧ (r.majorityEqual = false)) ∧
    (∃ (s : State) (g : Group) (r : ReadmitRun), ((s.core g).pause = none)) ∧
    (∃ (s : State) (g : Group), (g.val < s.part.groups) ∧ (s.fn ≠ 0) ∧ (s.fn % s.get (LS_STEST_PER_FIRINGS g) = 0) ∧ ((s.core g).stestFn ≠ s.fn)) ∧
    (∃ (s : State) (g : Group) (u : Fin 3) (h : Fin 2), (g.val < s.part.groups) ∧ (s.fn ≠ 0) ∧ (s.fn % s.get (LS_STEST_PER_FIRINGS g) = 0) ∧ ((s.core g).stestFn ≠ s.fn)) ∧
    (∃ (s : State) (g : Group) (f : Option (Fin 3 × Fin 2)), (s.fn = 0)) :=
  ⟨⟨((State.reset.put (LS_STAT_STATE 1) 0).put (LS_STAT_ACTIVE 1) 7), 1, ⟨Vector.replicate 8 0, Vector.replicate 8 0, Vector.replicate 8 0⟩, ⟨Vector.replicate 8 0, Vector.replicate 8 0, Vector.replicate 8 0⟩, by decide, by decide +kernel, by decide +kernel, .inl ⟨by decide +kernel, rfl⟩⟩, ⟨((State.reset.put (LS_STAT_STATE 1) 0).put (LS_STAT_ACTIVE 1) 7), 1, ⟨Vector.replicate 8 0, Vector.replicate 8 0, Vector.replicate 8 0⟩, ⟨Vector.replicate 8 0, Vector.replicate 8 0, Vector.replicate 8 1⟩, 2, by decide, by decide +kernel, by decide +kernel, by decide +kernel, by decide, by decide +kernel⟩, ⟨(((State.reset.put (LS_STAT_STATE 1) 0).put (LS_STAT_ACTIVE 1) 7).onCore 1 (fun c => { c with ejections := Vector.replicate 3 2 })), 1, ⟨Vector.replicate 8 0, Vector.replicate 8 0, Vector.replicate 8 0⟩, ⟨Vector.replicate 8 0, Vector.replicate 8 0, Vector.replicate 8 1⟩, 2, by decide, by decide +kernel, by decide +kernel, by decide +kernel, by decide, by decide +kernel⟩, ⟨((((State.reset.put PM_MODE_MODE 5).put (LS_STAT_STATE 1) 0).put (LS_STAT_ACTIVE 1) 7).onCore 1 (fun c => { c with inject := some 2 })), 1, ⟨Vector.replicate 8 1, Vector.replicate 8 0, Vector.replicate 8 0⟩, 2, by decide, by decide +kernel⟩, ⟨((State.reset.put (LS_STAT_STATE 1) 0).put (LS_STAT_ACTIVE 1) 7), 1, ⟨Vector.replicate 8 0, Vector.replicate 8 0, Vector.replicate 8 0⟩, ⟨Vector.replicate 8 0, Vector.replicate 8 0, Vector.replicate 8 1⟩, ⟨Vector.replicate 8 1, Vector.replicate 8 0, Vector.replicate 8 0⟩, by decide, by decide +kernel, by decide +kernel, by decide +kernel, by decide, by decide, by decide⟩, ⟨((State.reset.put (LS_STAT_STATE 1) 0).put (LS_STAT_ACTIVE 1) 3), 1, ⟨Vector.replicate 8 0, Vector.replicate 8 0, Vector.replicate 8 0⟩, ⟨Vector.replicate 8 0, Vector.replicate 8 0, Vector.replicate 8 1⟩, ⟨Vector.replicate 8 0, Vector.replicate 8 0, Vector.replicate 8 0⟩, by decide, by decide +kernel, by decide +kernel, by decide +kernel, by decide⟩, ⟨{ (((State.reset.put (LS_STAT_STATE 1) 0).put (LS_STAT_ACTIVE 1) 3).onCore 1 (fun c => { c with pause := some ⟨4, 0⟩ })) with tt := 10000 }, 1, ⟨3, true, true⟩, ⟨4, 0⟩, by decide +kernel⟩, ⟨{ (((State.reset.put (LS_STAT_STATE 1) 0).put (LS_STAT_ACTIVE 1) 3).onCore 1 (fun c => { c with pause := some ⟨4, 0⟩ })) with tt := 10000 }, 1, ⟨321, true, true⟩, ⟨4, 0⟩, by decide +kernel⟩, ⟨{ (((State.reset.put (LS_STAT_STATE 1) 0).put (LS_STAT_ACTIVE 1) 3).onCore 1 (fun c => { c with pause := some ⟨4, 0⟩ })) with tt := 10000 }, 1, ⟨3, true, false⟩, ⟨4, 0⟩, by decide +kernel⟩, ⟨State.reset, 1, ⟨3, true, true⟩, by decide +kernel⟩, ⟨{ State.reset with fn := 65536000 }, 1, by decide +kernel⟩, ⟨{ State.reset with fn := 65536000 }, 1, 2, 1, by decide +kernel⟩, ⟨State.reset, 1, none, by decide +kernel⟩⟩

/-- The hypotheses of `GroupsAreControlled` can be met together. -/
theorem meets_GroupsAreControlled :
    (∃ (s : State) (g : Group) (v : Word), (s.reaches 0 (LS_CFG g) = true) ∧ (v.getLsbD 0 = (s.latest (LS_CFG g)).getLsbD 0) ∧ (v.getLsbD 0 = true → s.part.copyC = true) ∧ (s.stage.find? (fun e => e.off = LS_CFG g) = none) ∧ (s.stagedNext < 1024)) ∧
    (∃ (s : State) (g : Group) (v : Word), (s.reaches 0 (LS_CFG g) = true) ∧ (v.getLsbD 0 ≠ (s.latest (LS_CFG g)).getLsbD 0 ∧ s.mode ≠ modeStandby ∧ s.mode ≠ modeMaintenance ∨ v.getLsbD 0 = true ∧ s.part.copyC = false)) ∧
    (∃ (s : State) (g : Group), (s.reaches 0 (LS_CTRL g) = true) ∧ (s.stage.find? (fun e => e.off = LS_CTRL g) = none) ∧ (s.stagedNext < 1024)) ∧
    (∃ (s : State) (g : Group) (v : Word), (s.reaches 0 (LS_CTRL g) = true) ∧ (s.mode = modeMaintenance ∨ s.mode = modeGlost) ∧ (bitsOf v.toNat 4 2 < 3) ∧ ((s.get (LS_STAT_ACTIVE g)).testBit (bitsOf v.toNat 4 2) = true) ∧ (s.get (LS_STAT_STATE g) ≠ 1) ∧ (s.get (LS_STAT_STATE g) ≠ 3) ∧ (s.poweredOff g = false) ∧ ((s.core g).inject = none)) ∧
    (∃ (s : State) (g : Group) (v : Word), (s.reaches 0 (LS_CTRL g) = true) ∧ (s.mode = modeRun)) ∧
    (∃ (s : State) (g : Group) (v : Word), (s.reaches 0 (LS_CTRL g) = true) ∧ (s.mode = modeMaintenance) ∧ (bitsOf v.toNat 4 2 < 3) ∧ (s.fitted.testBit (bitsOf v.toNat 4 2) = true) ∧ ((s.get (LS_RETIRED_MAP g)).testBit (bitsOf v.toNat 4 2) = true)) ∧
    (∃ (s : State) (g : Group), (s.reaches 0 (LS_PWR g) = true) ∧ (g ≠ 0) ∧ (s.mayPowerOff g = true) ∧ (s.stage.find? (fun e => e.off = LS_PWR g) = none) ∧ (s.stagedNext < 1024)) ∧
    (∃ (s : State) (g : Group), (s.reaches 0 (LS_PWR g) = true) ∧ (g ≠ 0) ∧ (s.stage.find? (fun e => e.off = LS_PWR g) = none) ∧ (s.stagedNext < 1024)) ∧
    (∃ (s : State), (s.reaches 0 (LS_PWR 0) = true)) ∧
    (∃ (s : State) (g : Group) (k : Nat), ((s.core g).powering = some k)) ∧
    (∃ (s : State) (g : Group), (g.val < s.part.groups) ∧ (s.flag (LS_DBG_HALT_PEND g) = true) ∧ (s.get (LS_STAT_STATE g) = 0) ∧ ((s.core g).delay = none)) ∧
    (∃ (s : State) (g : Group), (s.flag (LS_DBG_HALT_PEND g) = false)) ∧
    (∃ (s : State) (g : Group) (m : Master) (v : Word), (m.val ≠ 0) ∧ (s.reaches m (LS_CFG g) = true) ∧ (s.reaches m (LS_CTRL g) = true) ∧ (s.reaches m (LS_PWR g) = true)) :=
  ⟨⟨State.reset, 1, 3, by decide +kernel, by decide +kernel, by decide, by decide +kernel⟩, ⟨(State.reset.put PM_MODE_MODE 3), 1, 0, by decide +kernel, .inl (by decide +kernel)⟩, ⟨State.reset, 1, by decide +kernel⟩, ⟨(((State.reset.put PM_MODE_MODE 5).put (LS_STAT_STATE 1) 0).put (LS_STAT_ACTIVE 1) 7), 1, 0x10, by decide +kernel, .inl (by decide +kernel), by decide +kernel⟩, ⟨(State.reset.put PM_MODE_MODE 3), 1, 0x10, by decide +kernel⟩, ⟨((State.reset.put PM_MODE_MODE 5).put (LS_RETIRED_MAP 1) 2), 1, 0x10, by decide +kernel⟩, ⟨(State.reset.put PM_MODE_MODE 5), 1, by decide +kernel⟩, ⟨(State.reset.put PM_MODE_MODE 5), 1, by decide +kernel⟩, ⟨State.reset, by decide +kernel⟩, ⟨((State.reset.put (LS_STAT_STATE 1) 0).onCore 1 (fun c => { c with powering := some 3 })), 1, 3, by decide +kernel⟩, ⟨((State.reset.put (LS_STAT_STATE 1) 0).putFlag (LS_DBG_HALT_PEND 1) true), 1, by decide +kernel⟩, ⟨State.reset, 1, by decide +kernel⟩, ⟨State.reset, 1, 1, 0, by decide +kernel⟩⟩

/-- The hypotheses of `ExceptionsAreEntered` can be met together. -/
theorem meets_ExceptionsAreEntered :
    (∃ (s : State) (g : Group) (c : Exc) (a : Word), (isFault c = true) ∧ (s.groupRuns g = true) ∧ ((s.core g).delay = none) ∧ ((s.core g).due = []) ∧ ((s.core g).tsbOk = true) ∧ ((s.core g).nest.val < 15)) ∧
    (∃ (s : State) (g : Group) (c : Exc) (a : Word) (d : DelaySlot), (isFault c = true) ∧ (s.groupRuns g = true) ∧ ((s.core g).delay = some d) ∧ (d.annul = false) ∧ (d.before = []) ∧ ((s.core g).shadow = []) ∧ ((s.core g).tsbOk = true) ∧ ((s.core g).nest.val < 15)) ∧
    (∃ (s : State) (g : Group) (c : Exc) (a : Word), (isFault c = false) ∧ (s.atBoundary g = true) ∧ ((s.core g).due = []) ∧ ((s.core g).tsbOk = true) ∧ ((s.core g).nest.val < 15)) ∧
    (∃ (s : State) (g : Group) (a : Word) (l : List Word), ((s.core g).storeErrs = a :: l) ∧ (s.atBoundary g = true) ∧ ((s.core g).due = []) ∧ ((s.core g).tsbOk = true) ∧ ((s.core g).nest.val < 15)) ∧
    (∃ (s : State) (g : Group) (a : Word) (l : List Word), ((s.core g).storeErrs = a :: l) ∧ (s.atBoundary g = false)) ∧
    (∃ (s : State) (g : Group), ((s.core g).storeErrs = [])) ∧
    (∃ (s : State) (g : Group) (c : Exc) (a : Word), (isFault c = true) ∧ (s.groupRuns g = true) ∧ ((s.core g).delay = none) ∧ ((s.core g).due = []) ∧ ((s.core g).tsbOk = false)) ∧
    (∃ (s : State) (g : Group) (c : Exc) (a : Word), (isFault c = true) ∧ (s.groupRuns g = true) ∧ ((s.core g).delay = none) ∧ ((s.core g).due = []) ∧ ((s.core g).tsbOk = true) ∧ ((s.core g).nest.val = 15)) ∧
    (∃ (s : State) (g : Group) (c : Exc) (a : Word), (s.groupRuns g = false) ∧ (s.atBoundary g = false)) :=
  ⟨⟨(State.reset.put (LS_STAT_STATE 1) 0), 1, .align, 3, by decide +kernel⟩, ⟨((State.reset.put (LS_STAT_STATE 1) 0).onCore 1 (fun c => { c with delay := some ⟨0x1000, 0x2000, false, []⟩ })), 1, .align, 3, ⟨0x1000, 0x2000, false, []⟩, by decide +kernel⟩, ⟨(State.reset.put (LS_STAT_STATE 1) 0), 1, .storeErr, 3, by decide +kernel⟩, ⟨((State.reset.put (LS_STAT_STATE 1) 0).onCore 1 (fun c => { c with storeErrs := [7] })), 1, 7, [], by decide +kernel⟩, ⟨(State.reset.onCore 1 (fun c => { c with storeErrs := [7] })), 1, 7, [], by decide +kernel⟩, ⟨State.reset, 1, by decide +kernel⟩, ⟨((State.reset.put (LS_STAT_STATE 1) 0).onCore 1 (fun c => { c with tsbp := 4 })), 1, .align, 3, by decide +kernel⟩, ⟨((State.reset.put (LS_STAT_STATE 1) 0).onCore 1 (fun c => { c with nest := 15 })), 1, .align, 3, by decide +kernel⟩, ⟨State.reset, 1, .align, 3, by decide +kernel⟩⟩

/-- The hypotheses of `InterruptsAreEntered` can be met together. -/
theorem meets_InterruptsAreEntered :
    (∃ (s : State) (g : Group), (s.groupRuns g = true) ∧ ((s.core g).delay = none) ∧ (s.flag (IC_PRES_VALID g) = true) ∧ (s.canTake g (s.get (IC_PRES_SRC g)) = true) ∧ ((s.core g).due = []) ∧ ((s.core g).tsbOk = true) ∧ ((s.core g).nest.val < 15)) ∧
    (∃ (s : State) (g : Group) (k : KeptAccess), (s.groupRuns g = true) ∧ ((s.core g).delay = none) ∧ (s.flag (IC_PRES_VALID g) = true) ∧ (s.canTake g (s.get (IC_PRES_SRC g)) = true) ∧ ((s.core g).due = []) ∧ ((s.core g).tsbOk = true) ∧ ((s.core g).nest.val < 15)) ∧
    (∃ (s : State) (g : Group) (k : Option KeptAccess), (s.flag (IC_PRES_VALID g) = false)) ∧
    (∃ (s : State) (g : Group) (e : EntryWindow), ((s.core g).entry = some e) ∧ (s.groupRuns g = true) ∧ ((s.tt - e.tt) * 32 ≤ 9 * 25) ∧ (s.flag (IC_PRES_VALID g) = true) ∧ ((s.core g).prio.val < s.get (SRC_CFG_PRIO (s.get (IC_PRES_SRC g))))) ∧
    (∃ (s : State) (g : Group), ((s.core g).entry = none)) ∧
    (∃ (s : State) (g : Group) (a b : List (Nat × Replay)) (n : Nat) (r : Replay), ((s.core g).replays = a ++ (n, r) :: b) ∧ (a.all (fun e => e.2.back) = true) ∧ (r.back = false)) ∧
    (∃ (s : State) (g : Group) (a : Word), (g.val < s.part.groups) ∧ (s.poweredOff g = false) ∧ (s.get (LS_STAT_STATE g) ≠ 1) ∧ (s.viewBusy g (a.toNat / 128 * 128) = false) ∧ ((s.core g).pred.prefetch ≠ some (a.toNat / 128 * 128)) ∧ (lineRegion (a.toNat / 128 * 128) = true) ∧ ((s.mpuJudge g (s.core g).pl.val (a.toNat / 128 * 128) .fetch).2 = true) ∧ (buffered (s.core g).pred.lines 128 (s.fetchKey g (a.toNat / 128 * 128)) = false)) ∧
    (∃ (s : State) (g : Group) (a : Nat), (0x0F000000 ≤ a) ∧ (a + 128 ≤ 0x0F010000) ∧ ((s.core g).pred.lines.length < 8)) ∧
    (∃ (s : State) (g : Group) (a : Word), (s.get (LS_STAT_STATE g) = 1) ∧ ((s.core g).pred.prefetch = none)) :=
  ⟨⟨(((((State.reset.put (LS_STAT_STATE 1) 0).put (IC_PRES_SRC 1) 50).putFlag (IC_PRES_VALID 1) true).put (SRC_CFG_PRIO 50) 9).onCore 1 (fun c => { c with ie := true })), 1, by decide +kernel⟩, ⟨(((((State.reset.put (LS_STAT_STATE 1) 0).put (IC_PRES_SRC 1) 50).putFlag (IC_PRES_VALID 1) true).put (SRC_CFG_PRIO 50) 9).onCore 1 (fun c => { c with ie := true })), 1, ⟨0, 4, none⟩, by decide +kernel⟩, ⟨(State.reset.put (LS_STAT_STATE 1) 0), 1, none, by decide +kernel⟩, ⟨(((((State.reset.put (LS_STAT_STATE 1) 0).put (IC_PRES_SRC 1) 50).putFlag (IC_PRES_VALID 1) true).put (SRC_CFG_PRIO 50) 9).onCore 1 (fun c => { c with entry := some ⟨51, 0, 0⟩ })), 1, ⟨51, 0, 0⟩, by decide +kernel⟩, ⟨(State.reset.put (LS_STAT_STATE 1) 0), 1, by decide +kernel⟩, ⟨((State.reset.put (LS_STAT_STATE 1) 0).onCore 1 (fun c => { c with replays := [(0, ⟨0, none, 0, 4, 0, none, false⟩)] })), 1, [], [], 0, ⟨0, none, 0, 4, 0, none, false⟩, by decide +kernel⟩, ⟨(State.reset.put (LS_STAT_STATE 1) 0), 1, 0x0F000080, by decide +kernel⟩, ⟨(State.reset.put (LS_STAT_STATE 1) 0), 1, 0x0F000080, by decide, by decide, by decide +kernel⟩, ⟨(State.reset.put (LS_STAT_STATE 1) 1), 1, 0, by decide +kernel⟩⟩

/-- The hypotheses of `SourcesPendAndArePresented` can be met together. -/
theorem meets_SourcesPendAndArePresented :
    (∃ (s : State) (i : Nat) (l : List Nat), (s.srcIn = i :: l) ∧ (s.srcPresent i = true)) ∧
    (∃ (s : State) (i : Nat) (l : List Nat), (s.srcIn = i :: l) ∧ (s.srcPresent i = false)) ∧
    (∃ (s : State), (s.srcIn = [])) ∧
    (∃ (s : State) (i : Src), (srcLevel i = true) ∧ (s.srcPresent i = true)) ∧
    (∃ (s : State) (i : Src), (srcLevel i = false ∨ s.srcPresent i = false)) ∧
    (∃ (s : State) (i : Src) (m : Master), (m.val = 0 ∨ (400 ≤ i.val ∧ i.val < 448 ∧ m.val < 8)) ∧ (s.reaches m (SRC_CTRL i) = true) ∧ (s.srcPresent i = true)) ∧
    (∃ (s : State) (i : Src) (m : Master), (m.val = 0 ∨ (400 ≤ i.val ∧ i.val < 448 ∧ m.val < 8)) ∧ (s.reaches m (SRC_CTRL i) = true) ∧ (s.srcPresent i = false)) ∧
    (∃ (s : State) (i : Src) (m : Master), (m.val ≠ 0) ∧ (i.val < 400 ∨ 448 ≤ i.val ∨ 8 ≤ m.val) ∧ (s.reaches m (SRC_CTRL i) = true)) ∧
    (∃ (s : State) (i : Src), (s.reaches 0 (SRC_CTRL i) = true)) ∧
    (∃ (s : State) (i : Src) (m : Master), (m.val ≠ 0) ∧ (s.reaches m (SRC_CTRL i) = true)) ∧
    (∃ (s : State) (g : Group) (i : Nat), (s.syncIc.bestSource (s.syncIc.candidate g) = some i) ∧ (i < 512)) ∧
    (∃ (s : State) (g : Group), (s.syncIc.bestSource (s.syncIc.candidate g) = none)) ∧
    (∃ (s : State) (g : Group), (g.val < s.part.groups) ∧ (s.flag (LS_STAT_WAIT g) = true) ∧ (s.get (LS_STAT_STATE g) = 0) ∧ (∃ i, i < 512 ∧ s.pendingFor i g = true)) ∧
    (∃ (s : State) (g : Group), (s.flag (LS_STAT_WAIT g) = false ∨ ∀ i, i < 512 → s.pendingFor i g = false)) ∧
    (∃ (s : State) (g : Group) (m : Master) (v : Word), (s.reaches m (IC_EOI g) = true) ∧ (m.val = 0 ∨ m.val = g.val) ∧ (v.toNat < 512) ∧ ((s.get (SRC_STAT_GACT v.toNat)).testBit g = true)) ∧
    (∃ (s : State) (g : Group) (m : Master) (v : Word), (s.reaches m (IC_EOI g) = true) ∧ (m.val = 0 ∨ m.val = g.val) ∧ (512 ≤ v.toNat ∨ (s.get (SRC_STAT_GACT v.toNat)).testBit g = false)) ∧
    (∃ (s : State) (g : Group) (m : Master) (v : Word), (m.val ≠ 0) ∧ (m.val ≠ g.val) ∧ (s.reaches m (IC_EOI g) = true)) :=
  ⟨⟨{ State.reset with srcIn := [50] }, 50, [], by decide +kernel⟩, ⟨{ State.reset with srcIn := [62] }, 62, [], by decide +kernel⟩, ⟨State.reset, by decide +kernel⟩, ⟨State.reset, 0, by decide +kernel⟩, ⟨State.reset, 50, .inl (by decide +kernel)⟩, ⟨State.reset, 410, 3, .inr (by decide), by decide +kernel⟩, ⟨State.reset, 62, 0, .inl rfl, by decide +kernel⟩, ⟨State.reset, 50, 3, by decide, .inl (by decide), by decide +kernel⟩, ⟨State.reset, 50, by decide +kernel⟩, ⟨State.reset, 50, 3, by decide +kernel⟩, ⟨((((((State.reset.put (LS_STAT_STATE 1) 0).put (SRC_CFG_PRIO 50) 9).putFlag (SRC_STAT_SWPEND 50) true).put (SRC_CFG_TARGET 50) 2).putFlag (SRC_CFG_EN 50) true).onCore 1 (fun c => { c with ie := true })), 1, 50, by decide +kernel⟩, ⟨State.reset, 1, by decide +kernel⟩, ⟨((((((State.reset.put (LS_STAT_STATE 1) 0).putFlag (LS_STAT_WAIT 1) true).put (SRC_CFG_PRIO 50) 9).putFlag (SRC_STAT_SWPEND 50) true).put (SRC_CFG_TARGET 50) 2).putFlag (SRC_CFG_EN 50) true), 1, by decide, by decide +kernel, by decide +kernel, ⟨50, by decide +kernel⟩⟩, ⟨State.reset, 1, .inl (by decide +kernel)⟩, ⟨(State.reset.put (SRC_STAT_GACT 50) 2), 1, 1, 50, by decide +kernel, .inr rfl, by decide, by decide +kernel⟩, ⟨State.reset, 1, 1, 50, by decide +kernel, .inr rfl, .inr (by decide +kernel)⟩, ⟨State.reset, 1, 2, 50, by decide +kernel⟩⟩

/-- The hypotheses of `MemoriesAreScrubbedAndReached` can be met together. -/
theorem meets_MemoriesAreScrubbedAndReached :
    (∃ (s : State) (i : MemIx) (n : Nat), (memSize s.part i.val = some n) ∧ (s.scrubOn i.val = true) ∧ (latDecode (s.syndrome (memBase i.val + (s.scrubber i.val).next)) = .clean) ∧ ((s.scrubber i.val).next + 8 < n)) ∧
    (∃ (s : State) (i : MemIx) (n : Nat), (memSize s.part i.val = some n) ∧ (s.scrubOn i.val = true) ∧ (i.val < 32) ∧ (latDecode (s.syndrome (memBase i.val + (s.scrubber i.val).next)) = .clean) ∧ (n ≤ (s.scrubber i.val).next + 8)) ∧
    (∃ (s : State) (i : MemIx) (n b : Nat), (memSize s.part i.val = some n) ∧ (s.scrubOn i.val = true) ∧ (i.val < 32) ∧ (latDecode (s.syndrome (memBase i.val + (s.scrubber i.val).next)) = .dataBit b)) ∧
    (∃ (s : State) (i : MemIx) (n : Nat), (memSize s.part i.val = some n) ∧ (s.scrubOn i.val = true) ∧ (i.val < 32) ∧ (latDecode (s.syndrome (memBase i.val + (s.scrubber i.val).next)) = .checkBit)) ∧
    (∃ (s : State) (i : MemIx) (n : Nat), (memSize s.part i.val = some n) ∧ (s.scrubOn i.val = true) ∧ (i.val < 32) ∧ (latDecode (s.syndrome (memBase i.val + (s.scrubber i.val).next)) = .uncorrectable)) ∧
    (∃ (s : State) (i : MemIx), (memSize s.part i.val = none ∨ s.scrubOn i.val = false)) ∧
    (∃ (s : State) (i : MemIx) (k a b : Nat), (s.prot.writeBacks.find? (fun e => e.1 = i.val) = some (k, a)) ∧ (latDecode (s.syndrome a) = .dataBit b)) ∧
    (∃ (s : State) (i : MemIx) (k a : Nat), (s.prot.writeBacks.find? (fun e => e.1 = i.val) = some (k, a)) ∧ (latDecode (s.syndrome a) = .checkBit)) ∧
    (∃ (s : State) (i : MemIx) (k a : Nat), (s.prot.writeBacks.find? (fun e => e.1 = i.val) = some (k, a)) ∧ (latDecode (s.syndrome a) = .clean ∨ latDecode (s.syndrome a) = .uncorrectable)) ∧
    (∃ (s : State) (i : MemIx), (s.prot.writeBacks.find? (fun e => e.1 = i.val) = none)) ∧
    (∃ (s : State) (i : MemIx) (n : Nat), (memSize s.part i.val = some n) ∧ (s.scrubOn i.val = true) ∧ (i.val < 32) ∧ (4 * (n / 8) * s.get (SP_SCRUB_CFG_PER i.val) * 25 < (s.tt - (s.scrubber i.val).passStart) * 24)) ∧
    (∃ (s : State) (w : Bool), (s.prot.raw = none) ∧ (s.reaches 0 (SP_RAW_CTRL) = true) ∧ (s.rawAccepts (s.get SP_RAW_CTRL_MEM) (s.rd SP_RAW_ADDR).toNat = true)) ∧
    (∃ (s : State), (s.prot.raw = none) ∧ (s.reaches 0 (SP_RAW_CTRL) = true) ∧ ((s.mode ≠ modeGlost ∧ s.mode ≠ modeMaintenance) ∨ ∀ n, memSize s.part (s.get SP_RAW_CTRL_MEM) = some n → n ≤ (s.rd SP_RAW_ADDR).toNat)) ∧
    (∃ (s : State) (r : RawAccess), (s.prot.raw = some r) ∧ (s.reaches 0 (SP_RAW_CTRL) = true)) ∧
    (∃ (s : State) (m : Master), (m.val ≠ 0) ∧ (s.reaches m (SP_RAW_CTRL) = true)) ∧
    (∃ (s : State) (r : RawAccess), (s.prot.raw = some r) ∧ (r.mem ≠ 3)) ∧
    (∃ (s : State) (r : RawAccess), (s.prot.raw = some r) ∧ (r.mem = 3)) ∧
    (∃ (s : State), (s.prot.raw = none)) ∧
    (∃ (s : State) (g : Group) (r : Fin 32), (g.val < s.part.groups)) ∧
    (∃ (s : State) (g : Group), (g.val < s.part.groups)) ∧
    (∃ (s : State) (g : Group) (r : Option (Fin 32)), (s.hasGroup g = false)) :=
  ⟨⟨(State.reset.putFlag (SP_SCRUB_CFG_EN 0) true), 0, 0x1000000, by decide +kernel⟩, ⟨((State.reset.putFlag (SP_SCRUB_CFG_EN 0) true).setScrubber 0 { next := 0x1000000 - 8 }), 0, 0x1000000, by decide +kernel⟩, ⟨((State.reset.putFlag (SP_SCRUB_CFG_EN 0) true).setSyndrome 0x20000000 0x0101), 0, 0x1000000, 0, by decide +kernel⟩, ⟨((State.reset.putFlag (SP_SCRUB_CFG_EN 0) true).setSyndrome 0x20000000 0x0100), 0, 0x1000000, by decide +kernel⟩, ⟨((State.reset.putFlag (SP_SCRUB_CFG_EN 0) true).setSyndrome 0x20000000 0x0303), 0, 0x1000000, by decide +kernel⟩, ⟨State.reset, 5, .inl (by decide)⟩, ⟨((State.reset.setSyndrome 0x20000000 0x0101).queueWriteBack 0 0x20000000), 0, 0, 0x20000000, 0, by decide +kernel⟩, ⟨((State.reset.setSyndrome 0x20000000 0x0100).queueWriteBack 0 0x20000000), 0, 0, 0x20000000, by decide +kernel⟩, ⟨(State.reset.queueWriteBack 0 0x20000000), 0, 0, 0x20000000, by decide +kernel, .inl (by decide +kernel)⟩, ⟨State.reset, 0, by decide +kernel⟩, ⟨{ (State.reset.putFlag (SP_SCRUB_CFG_EN 0) true) with tt := 1000000000000000000 }, 0, 0x1000000, by decide +kernel⟩, ⟨(State.reset.put PM_MODE_MODE 5), true, by decide +kernel⟩, ⟨State.reset, rfl, by decide +kernel, .inl (by decide +kernel)⟩, ⟨((State.reset.put PM_MODE_MODE 5).onProt (fun x => { x with raw := some ⟨0, 8, false, 0, 0⟩ })), ⟨0, 8, false, 0, 0⟩, by decide +kernel⟩, ⟨State.reset, 1, by decide +kernel⟩, ⟨((State.reset.put PM_MODE_MODE 5).onProt (fun x => { x with raw := some ⟨0, 8, false, 0, 0⟩ })), ⟨0, 8, false, 0, 0⟩, by decide +kernel⟩, ⟨((State.reset.put PM_MODE_MODE 5).onProt (fun x => { x with raw := some ⟨3, 8, false, 0, 0⟩ })), ⟨3, 8, false, 0, 0⟩, by decide +kernel⟩, ⟨State.reset, by decide +kernel⟩, ⟨State.reset, 1, 3, by decide +kernel⟩, ⟨State.reset, 1, by decide +kernel⟩, ⟨{ State.reset with part := .sk7316 }, 7, none, by decide +kernel⟩⟩

/-- The hypotheses of `FaultsAreReceivedAndReactedTo` can be met together. -/
theorem meets_FaultsAreReceivedAndReactedTo :
    (∃ (s : State) (f : FaultIn), (s.nextFault = some f)) ∧
    (∃ (s : State), (s.fcuIn = [])) ∧
    (∃ (s : State) (f : FaultIn), (s.nextFault = some f) ∧ (s.flag (FLT_CFG_IMPL f.id) = false)) ∧
    (∃ (s : State) (f : FaultIn), (s.nextFault = some f) ∧ (s.flag (FLT_CFG_IMPL f.id) = true) ∧ (f.id < 512) ∧ ((s.reaction f).cls ≤ 1)) ∧
    (∃ (s : State) (f : FaultIn), (s.nextFault = some f) ∧ (s.flag (FLT_CFG_IMPL f.id) = true) ∧ (f.id < 512) ∧ ((s.reaction f).cls = 2)) ∧
    (∃ (s : State) (f : FaultIn), (s.nextFault = some f) ∧ (s.flag (FLT_CFG_IMPL f.id) = true) ∧ (f.id < 512) ∧ ((s.reaction f).cls = 3) ∧ (modeStandby ≤ s.mode) ∧ (s.mode ≤ modeMaintenance)) ∧
    (∃ (s : State) (f : FaultIn), (s.nextFault = some f) ∧ (s.flag (FLT_CFG_IMPL f.id) = true) ∧ (f.id < 512) ∧ (4 ≤ (s.reaction f).cls)) ∧
    (∃ (s : State) (e : Bytes) (l : List Bytes), (s.sup.logQ = e :: l)) ∧
    (∃ (s : State), (s.sup.logQ = [])) :=
  ⟨⟨{ State.reset with fcuIn := [⟨F_PWR_WARN, 3, false, 0, 0⟩] }, ⟨F_PWR_WARN, 3, false, 0, 0⟩, by decide +kernel⟩, ⟨State.reset, by decide +kernel⟩, ⟨{ State.reset with fcuIn := [⟨511, 3, false, 0, 0⟩] }, ⟨511, 3, false, 0, 0⟩, by decide +kernel⟩, ⟨{ State.reset with fcuIn := [⟨F_PWR_WARN, 3, false, 0, 0⟩] }, ⟨F_PWR_WARN, 3, false, 0, 0⟩, by decide +kernel⟩, ⟨{ State.reset with fcuIn := [⟨F_CONE_OVER, 1, false, 2, 0⟩] }, ⟨F_CONE_OVER, 1, false, 2, 0⟩, by decide +kernel⟩, ⟨{ (State.reset.put PM_MODE_MODE 3) with fcuIn := [⟨F_FCU_SELF, 0, false, 3, 0⟩] }, ⟨F_FCU_SELF, 0, false, 3, 0⟩, by decide +kernel⟩, ⟨{ (State.reset.put PM_MODE_MODE 3) with fcuIn := [⟨F_FCU_SELF, 0, false, 4, 0⟩] }, ⟨F_FCU_SELF, 0, false, 4, 0⟩, by decide +kernel⟩, ⟨(State.reset.onSup (fun x => { x with logQ := [[1]] })), [1], [], by decide +kernel⟩, ⟨State.reset, by decide +kernel⟩⟩

/-- The hypotheses of `TheFcuAndTheSscAreTested` can be met together. -/
theorem meets_TheFcuAndTheSscAreTested :
    (∃ (s : State) (v : Word), (s.mode = modeGlost ∨ s.mode = modeMaintenance) ∧ (s.reaches 0 (FCU_INJ_CTRL) = true) ∧ (s.flag (FLT_CFG_IMPL (bitsOf v.toNat 0 9)) = true) ∧ ((s.reaction ⟨bitsOf v.toNat 0 9, (s.rd FCU_INJ_DETAIL).toNat, true, 0, s.tt⟩).cls ≠ 4 ∨ s.lifecycle ≠ lcDeployed)) ∧
    (∃ (s : State) (v : Word), ((s.mode ≠ modeGlost ∧ s.mode ≠ modeMaintenance) ∨ s.flag (FLT_CFG_IMPL (bitsOf v.toNat 0 9)) = false) ∧ (s.reaches 0 (FCU_INJ_CTRL) = true)) ∧
    (∃ (s : State) (i : FaultId) (v : Word), (s.flag (FLT_CFG_IMPL i) = true) ∧ (s.reaches 0 (FLT_CFG i) = true) ∧ (bitsOf v.toNat 0 3 ≤ 4) ∧ (s.get (FLT_CFG_MIN i) ≤ bitsOf v.toNat 0 3) ∧ (s.mode = modeMaintenance ∨ (s.get (FLT_CFG_REACT i) ≤ bitsOf v.toNat 0 3 ∧ bitsOf (s.latest (FLT_CFG i)).toNat 0 3 ≤ bitsOf v.toNat 0 3)) ∧ (s.stage.find? (fun e => e.off = FLT_CFG i) = none) ∧ (s.stagedNext < 1024)) ∧
    (∃ (s : State) (i : FaultId) (v : Word), (s.flag (FLT_CFG_IMPL i) = true) ∧ (s.reaches 0 (FLT_CFG i) = true) ∧ (4 < bitsOf v.toNat 0 3 ∨ (bitsOf v.toNat 0 3 < s.get (FLT_CFG_REACT i) ∧ s.mode ≠ modeMaintenance))) ∧
    (∃ (s : State) (i : FaultId) (v : Word), (s.flag (FLT_CFG_IMPL i) = false) ∧ (s.reaches 0 (FLT_CFG i) = true)) ∧
    (∃ (s : State) (i : FaultId), (s.reaches 0 (FLT_STAT i) = true)) ∧
    (∃ (s : State) (m : Master) (i : FaultId) (v : Word), (m ≠ 0) ∧ (s.reaches m (FCU_INJ_CTRL) = true) ∧ (s.reaches m (FLT_CFG i) = true) ∧ (s.reaches m (FLT_STAT i) = true)) ∧
    (∃ (s : State), (s.periodicDue = true)) ∧
    (∃ (s : State) (x y : Bool), (s.periodicDue = true) ∧ ((x && y) = false)) ∧
    (∃ (s : State) (x y : Bool), (s.periodicDue = false)) ∧
    (∃ (s : State), (s.mode = modeGlost ∨ s.mode = modeMaintenance) ∧ (s.reaches 0 (SSC_CTRL) = true) ∧ (s.outs.itest = none)) ∧
    (∃ (s : State), (s.mode ≠ modeGlost) ∧ (s.mode ≠ modeMaintenance) ∧ (s.reaches 0 (SSC_CTRL) = true) ∧ (s.outs.itest = none)) ∧
    (∃ (s : State), (s.outs.itest ≠ none) ∧ (s.reaches 0 (SSC_CTRL) = true)) ∧
    (∃ (s : State) (m : Master), (m ≠ 0) ∧ (s.reaches m (SSC_CTRL) = true)) ∧
    (∃ (s : State) (a : IntrusiveTest) (x y : Bool), (s.outs.itest = some a) ∧ (a.start + 12500 ≤ s.tt) ∧ (a.abandoned = false) ∧ (((x || y) && s.hasReadback) = false)) ∧
    (∃ (s : State) (a : IntrusiveTest) (x y : Bool), (s.outs.itest = some a) ∧ (a.start + 12500 ≤ s.tt) ∧ (a.abandoned = true)) ∧
    (∃ (s : State) (a : IntrusiveTest) (x y : Bool), (s.outs.itest = some a) ∧ (a.start + 12500 ≤ s.tt) ∧ (a.abandoned = false) ∧ ((x || y) = true) ∧ (s.hasReadback = true)) ∧
    (∃ (s : State) (x y : Bool), (s.outs.itest = none ∨ ∃ a, s.outs.itest = some a ∧ s.tt < a.start + 12500)) :=
  ⟨⟨(State.reset.put PM_MODE_MODE 5), BitVec.ofNat 32 F_PWR_WARN, .inr (by decide +kernel), by decide +kernel, by decide +kernel, .inr (by decide +kernel)⟩, ⟨State.reset, 0, .inl (by decide +kernel), by decide +kernel⟩, ⟨State.reset, 416, 4, by decide +kernel, by decide +kernel, by decide +kernel, (by decide +kernel), .inr (by decide +kernel), by decide +kernel⟩, ⟨State.reset, 416, 5, by decide +kernel, by decide +kernel, .inl (by decide +kernel)⟩, ⟨State.reset, 511, 4, by decide +kernel⟩, ⟨State.reset, 3, by decide +kernel⟩, ⟨State.reset, 1, 0, 0, by decide +kernel⟩, ⟨{ State.reset with fn := 65536000 }, by decide +kernel⟩, ⟨{ State.reset with fn := 65536000 }, true, false, by decide +kernel⟩, ⟨State.reset, true, false, by decide +kernel⟩, ⟨(State.reset.put PM_MODE_MODE 5), .inr (by decide +kernel), by decide +kernel⟩, ⟨(State.reset.put PM_MODE_MODE 3), by decide +kernel⟩, ⟨(State.reset.onOuts (fun x => { x with itest := some ⟨0, true, true, false⟩ })), by decide, by decide +kernel⟩, ⟨State.reset, 1, by decide +kernel⟩, ⟨{ (State.reset.onOuts (fun x => { x with itest := some ⟨0, true, true, false⟩ })) with tt := 12500 }, ⟨0, true, true, false⟩, false, false, by decide +kernel⟩, ⟨{ (State.reset.onOuts (fun x => { x with itest := some ⟨0, true, true, true⟩ })) with tt := 12500 }, ⟨0, true, true, true⟩, true, false, by decide +kernel⟩, ⟨{ (State.reset.onOuts (fun x => { x with itest := some ⟨0, true, true, false⟩ })).putFlag (PEO_CFG_RB_EN 0) true with tt := 12500 }, ⟨0, true, true, false⟩, true, false, by decide +kernel⟩, ⟨State.reset, true, false, .inl rfl⟩⟩

/-- The hypotheses of `WatchdogsAndConesSupervise` can be met together. -/
theorem meets_WatchdogsAndConesSupervise :
    (∃ (s : State) (g : Group) (m : Master) (v : Word), (g.val < s.part.groups) ∧ (m.val = g.val) ∧ (s.reaches m (WD_KEY g) = true) ∧ (v.toNat % 65536 = 0xB15C) ∧ (s.key1Pending g = false)) ∧
    (∃ (s : State) (g : Group) (m : Master) (v : Word), (g.val < s.part.groups) ∧ (m.val = g.val) ∧ (s.reaches m (WD_KEY g) = true) ∧ (v.toNat % 65536 = 0x4EA3) ∧ (s.key1Pending g = true) ∧ (s.coneGate g = false ∨ s.flag (CM_VERDICT_CLEAN g) = true) ∧ (s.wdOpen g ≤ s.get (WD_COUNT_US g) ∨ s.flag (WD_STAT_STAGE g) = true) ∧ (s.wdAtEnd g = false)) ∧
    (∃ (s : State) (g : Group) (m : Master) (v : Word), (g.val < s.part.groups) ∧ (m.val = g.val) ∧ (s.reaches m (WD_KEY g) = true) ∧ (v.toNat % 65536 = 0x4EA3) ∧ (s.key1Pending g = true) ∧ (s.coneGate g = false ∨ s.flag (CM_VERDICT_CLEAN g) = true) ∧ (s.wdAtEnd g = true)) ∧
    (∃ (s : State) (g : Group) (m : Master) (v : Word) (c : Nat), (g.val < s.part.groups) ∧ (m.val = g.val) ∧ (s.reaches m (WD_KEY g) = true) ∧ ((v.toNat % 65536 ≠ 0xB15C ∧ v.toNat % 65536 ≠ 0x4EA3 ∧ c = 2) ∨ (v.toNat % 65536 = 0xB15C ∧ s.key1Pending g = true ∧ c = 3) ∨ (v.toNat % 65536 = 0x4EA3 ∧ s.key1Pending g = false ∧ (s.core g).expired ≠ some s.sosc ∧ c = 3) ∨ (v.toNat % 65536 = 0x4EA3 ∧ s.key1Pending g = true ∧ s.coneGate g = true ∧ s.flag (CM_VERDICT_CLEAN g) = false ∧ c = 4) ∨ (v.toNat % 65536 = 0x4EA3 ∧ s.key1Pending g = true ∧ (s.coneGate g = false ∨ s.flag (CM_VERDICT_CLEAN g) = true) ∧ s.wdAtEnd g = false ∧ s.get (WD_COUNT_US g) < s.wdOpen g ∧ s.flag (WD_STAT_STAGE g) = false ∧ c = 1)) ∧ (s.flag (WD_STAT_STAGE g) = false)) ∧
    (∃ (s : State) (g : Group) (m : Master) (v : Word) (c : Nat), (g.val < s.part.groups) ∧ (m.val = g.val) ∧ (s.reaches m (WD_KEY g) = true) ∧ ((v.toNat % 65536 ≠ 0xB15C ∧ v.toNat % 65536 ≠ 0x4EA3 ∧ c = 2) ∨ (v.toNat % 65536 = 0xB15C ∧ s.key1Pending g = true ∧ c = 3) ∨ (v.toNat % 65536 = 0x4EA3 ∧ s.key1Pending g = false ∧ (s.core g).expired ≠ some s.sosc ∧ c = 3) ∨ (v.toNat % 65536 = 0x4EA3 ∧ s.key1Pending g = true ∧ s.coneGate g = true ∧ s.flag (CM_VERDICT_CLEAN g) = false ∧ c = 4) ∨ (v.toNat % 65536 = 0x4EA3 ∧ s.key1Pending g = true ∧ (s.coneGate g = false ∨ s.flag (CM_VERDICT_CLEAN g) = true) ∧ s.wdAtEnd g = false ∧ s.get (WD_COUNT_US g) < s.wdOpen g ∧ s.flag (WD_STAT_STAGE g) = false ∧ c = 1)) ∧ (s.flag (WD_STAT_STAGE g) = true) ∧ (g ≠ 0)) ∧
    (∃ (s : State) (g : Group) (m : Master) (v : Word), (g.val < s.part.groups) ∧ (m.val ≠ g.val) ∧ (s.reaches m (WD_KEY g) = true)) ∧
    (∃ (s : State) (g : Group) (k : Nat), ((s.core g).key1 = some k)) ∧
    (∃ (s : State) (g : Group), (s.wdDue g = true) ∧ (s.flag (WD_STAT_STAGE g) = false)) ∧
    (∃ (s : State) (g : Group), (g ≠ 0) ∧ (s.wdDue g = true) ∧ (s.flag (WD_STAT_STAGE g) = true)) ∧
    (∃ (s : State), (s.wdDue 0 = true) ∧ (s.flag (WD_STAT_STAGE 0) = true)) ∧
    (∃ (s : State) (g : Group), (s.wdDue g = false ∨ s.flag (WD_STAT_STAGE g) = true)) ∧
    (∃ (s : State) (g : Group), (s.wdDue g = false ∨ s.flag (WD_STAT_STAGE g) = false)) ∧
    (∃ (s : State) (g : Group), (g.val < s.part.groups) ∧ (500000 ≤ s.get (WD_FRZ_US g))) ∧
    (∃ (s : State) (g : Group) (m : Master) (v : Word), (g.val < s.part.groups) ∧ (m.val = g.val) ∧ (s.reaches m (CM_BEND g) = true)) ∧
    (∃ (s : State) (g : Group) (m : Master), (g.val < s.part.groups) ∧ (m.val = g.val) ∧ (s.reaches m (CM_CTRL g) = true)) ∧
    (∃ (s : State) (g : Group) (m : Master) (v : Word), (g.val < s.part.groups) ∧ (m.val ≠ g.val) ∧ (s.reaches m (CM_BEND g) = true) ∧ (s.reaches m (CM_CTRL g) = true)) ∧
    (∃ (s : State), (s.mode = modeMaintenance) ∧ (s.reaches 0 (RET_CTRL) = true)) ∧
    (∃ (s : State), (s.mode ≠ modeMaintenance) ∧ (s.reaches 0 (RET_CTRL) = true)) ∧
    (∃ (s : State) (m : Master), (m ≠ 0) ∧ (s.reaches m (RET_CTRL) = true)) :=
  ⟨⟨State.reset, 1, 1, 0xB15C, by decide +kernel⟩, ⟨((((State.reset.put PM_MODE_MODE 3).put (WD_PERIOD_US 1) 100).put (WD_COUNT_US 1) 80).onCore 1 (fun c => { c with key1 := some 0 })), 1, 1, 0x4EA3, by decide, rfl, by decide +kernel, by decide, by decide +kernel, .inl (by decide +kernel), .inl (by decide +kernel), by decide +kernel⟩, ⟨((((State.reset.put PM_MODE_MODE 3).put (WD_PERIOD_US 1) 100).put (WD_COUNT_US 1) 100).onCore 1 (fun c => { c with key1 := some 0 })), 1, 1, 0x4EA3, by decide, rfl, by decide +kernel, by decide, by decide +kernel, .inl (by decide +kernel), by decide +kernel⟩, ⟨State.reset, 1, 1, 5, 2, by decide, rfl, by decide +kernel, .inl (by decide), by decide +kernel⟩, ⟨(((State.reset.put PM_MODE_MODE 3).put (WD_PERIOD_US 1) 100).putFlag (WD_STAT_STAGE 1) true), 1, 1, 0x4EA3, 3, by decide, rfl, by decide +kernel, .inr (.inr (.inl (by decide +kernel))), by decide +kernel, by decide⟩, ⟨State.reset, 1, 0, 5, by decide +kernel⟩, ⟨((State.reset.put (LS_STAT_STATE 1) 0).onCore 1 (fun c => { c with key1 := some 0 })), 1, 0, by decide +kernel⟩, ⟨(((State.reset.put PM_MODE_MODE 3).put (WD_PERIOD_US 1) 100).put (WD_COUNT_US 1) 100), 1, by decide +kernel⟩, ⟨((((State.reset.put PM_MODE_MODE 3).put (WD_PERIOD_US 1) 100).put (WD_COUNT_US 1) 100).putFlag (WD_STAT_STAGE 1) true), 1, by decide +kernel⟩, ⟨((((State.reset.put PM_MODE_MODE 3).put (WD_PERIOD_US 0) 100).put (WD_COUNT_US 0) 100).putFlag (WD_STAT_STAGE 0) true), by decide +kernel⟩, ⟨((State.reset.put PM_MODE_MODE 3).put (WD_PERIOD_US 1) 100), 1, .inl (by decide +kernel)⟩, ⟨((State.reset.put PM_MODE_MODE 3).put (WD_PERIOD_US 1) 100), 1, .inl (by decide +kernel)⟩, ⟨(State.reset.put (WD_FRZ_US 0) 500000), 0, by decide +kernel⟩, ⟨State.reset, 1, 1, 3, by decide, rfl, by decide +kernel⟩, ⟨State.reset, 1, 1, by decide, rfl, by decide +kernel⟩, ⟨State.reset, 1, 0, 5, by decide +kernel⟩, ⟨(State.reset.put PM_MODE_MODE 5), by decide +kernel⟩, ⟨State.reset, by decide +kernel⟩, ⟨State.reset, 1, by decide +kernel⟩⟩

/-- The hypotheses of `TheAluComputes` can be met together. -/
theorem meets_TheAluComputes :
    (∃ (s u : State) (g : Group) (rd ra rb : GReg) (sh : BitVec 5), (s.fetches u g = true) ∧ ((u.core g).acts = true)) :=
  ⟨((State.reset.put (LS_STAT_STATE 1) 0).onCore 1 (fun c => { c with gpr := Vector.ofFn (fun i => BitVec.ofNat 32 (i.val * 0x9E3779B1)) })), (((State.reset.put (LS_STAT_STATE 1) 0).onCore 1 (fun c => { c with gpr := Vector.ofFn (fun i => BitVec.ofNat 32 (i.val * 0x9E3779B1)) })).fetchFault 1).1, 1, 3, 4, 5, 6, by decide +kernel⟩

/-- The hypotheses of `FieldsImmediatesProductsAndQuotients` can be met together. -/
theorem meets_FieldsImmediatesProductsAndQuotients :
    (∃ (s u : State) (g : Group) (rd ra rb : GReg) (imm : BitVec 16), (s.fetches u g = true) ∧ ((u.core g).acts = true)) ∧
    (∃ (s u : State) (g : Group) (rd ra : GReg) (w sh : BitVec 5), (s.fetches u g = true) ∧ ((u.core g).acts = true) ∧ (sh.toNat + w.toNat + 1 ≤ 32)) ∧
    (∃ (s u : State) (g : Group) (rd ra : GReg) (w sh : BitVec 5), (s.fetches u g = true) ∧ (32 < sh.toNat + w.toNat + 1)) ∧
    (∃ (s u : State) (g : Group) (rd ra rb : GReg), (s.fetches u g = true) ∧ ((u.core g).acts = true) ∧ ((u.core g).rg rb ≠ 0 ∨ (u.core g).dze = false)) ∧
    (∃ (s u : State) (g : Group) (rd ra rb : GReg), (s.fetches u g = true) ∧ ((u.core g).rg rb = 0) ∧ ((u.core g).dze = true) ∧ ((u.core g).delay = none) ∧ ((u.core g).shadow = []) ∧ ((u.core g).tsbOk = true) ∧ ((u.core g).nest.val < 15)) :=
  ⟨⟨((State.reset.put (LS_STAT_STATE 1) 0).onCore 1 (fun c => { c with gpr := Vector.ofFn (fun i => BitVec.ofNat 32 (i.val * 0x9E3779B1)) })), (((State.reset.put (LS_STAT_STATE 1) 0).onCore 1 (fun c => { c with gpr := Vector.ofFn (fun i => BitVec.ofNat 32 (i.val * 0x9E3779B1)) })).fetchFault 1).1, 1, 3, 4, 5, 6, by decide +kernel⟩, ⟨((State.reset.put (LS_STAT_STATE 1) 0).onCore 1 (fun c => { c with gpr := Vector.ofFn (fun i => BitVec.ofNat 32 (i.val * 0x9E3779B1)) })), (((State.reset.put (LS_STAT_STATE 1) 0).onCore 1 (fun c => { c with gpr := Vector.ofFn (fun i => BitVec.ofNat 32 (i.val * 0x9E3779B1)) })).fetchFault 1).1, 1, 3, 4, 5, 6, by decide +kernel⟩, ⟨((State.reset.put (LS_STAT_STATE 1) 0).onCore 1 (fun c => { c with gpr := Vector.ofFn (fun i => BitVec.ofNat 32 (i.val * 0x9E3779B1)) })), (((State.reset.put (LS_STAT_STATE 1) 0).onCore 1 (fun c => { c with gpr := Vector.ofFn (fun i => BitVec.ofNat 32 (i.val * 0x9E3779B1)) })).fetchFault 1).1, 1, 3, 4, 31, 31, by decide +kernel⟩, ⟨((State.reset.put (LS_STAT_STATE 1) 0).onCore 1 (fun c => { c with gpr := Vector.ofFn (fun i => BitVec.ofNat 32 (i.val * 0x9E3779B1)) })), (((State.reset.put (LS_STAT_STATE 1) 0).onCore 1 (fun c => { c with gpr := Vector.ofFn (fun i => BitVec.ofNat 32 (i.val * 0x9E3779B1)) })).fetchFault 1).1, 1, 3, 4, 5, by decide +kernel, by decide +kernel, .inr (by decide +kernel)⟩, ⟨((State.reset.put (LS_STAT_STATE 1) 0).onCore 1 (fun c => { c with dze := true })), (((State.reset.put (LS_STAT_STATE 1) 0).onCore 1 (fun c => { c with dze := true })).fetchFault 1).1, 1, 3, 4, 0, by decide +kernel⟩⟩

/-- The hypotheses of `LoadsStoresAndAtomicsAccessMemory` can be met together. -/
theorem meets_LoadsStoresAndAtomicsAccessMemory :
    (∃ (s u : State) (g : Group) (rd ra : GReg) (imm : BitVec 16) (f n : Nat) (x : Bool), (s.fetches u g = true) ∧ ((u.core g).acts = true) ∧ (((u.core g).rg ra + imm.signExtend 32).toNat % n = 0) ∧ (n = 1 ∨ n = 2 ∨ n = 4 ∨ n = 8) ∧ (u.checkAccess g ((u.core g).rg ra + imm.signExtend 32).toNat n .read = .go x) ∧ (x = true → (u.core g).armed = false ∧ (u.core g).storeErrs = []) ∧ (u.coreView g ((u.core g).rg ra + imm.signExtend 32).toNat = .mem f) ∧ (u.loadWaits g ((u.core g).rg ra + imm.signExtend 32).toNat n = false) ∧ (u.judge g f false = .allow) ∧ (u.prot.lat = [])) ∧
    (∃ (s u : State) (g : Group) (rs ra : GReg) (imm : BitVec 16) (f n : Nat) (x : Bool), (s.fetches u g = true) ∧ ((u.core g).acts = true) ∧ (((u.core g).rg ra + imm.signExtend 32).toNat % n = 0) ∧ (n = 1 ∨ n = 2 ∨ n = 4 ∨ n = 8) ∧ (u.checkAccess g ((u.core g).rg ra + imm.signExtend 32).toNat n .write = .go x) ∧ (u.coreView g ((u.core g).rg ra + imm.signExtend 32).toNat = .mem f) ∧ (u.judge g f true = .allow) ∧ (u.prot.lat = [])) ∧
    (∃ (s u : State) (g : Group) (rd ra rb : GReg), (s.fetches u g = true) ∧ ((u.core g).acts = true) ∧ (u.checkAtom g ((u.core g).rg ra).toNat = .go true) ∧ ((u.core g).armed = false) ∧ ((u.core g).storeErrs = []) ∧ (inSsp ((u.core g).rg ra).toNat 4 = true) ∧ (u.judge g ((u.core g).rg ra).toNat false = .allow) ∧ (u.judge g ((u.core g).rg ra).toNat true = .allow) ∧ (u.prot.lat = [])) ∧
    (∃ (s u : State) (g : Group) (rd ra : GReg) (imm : BitVec 16) (e : Exc) (x : Word), (s.fetches u g = true) ∧ ((u.core g).acts = true)) ∧
    (∃ (s u : State) (g : Group) (rd ra : GReg) (imm : BitVec 16), (s.fetches u g = true) ∧ (rd.toNat % 2 = 1)) ∧
    (∃ (s u : State) (g : Group) (rd ra rb : GReg), (s.fetches u g = true) ∧ ((u.core g).acts = true) ∧ (((u.core g).rg ra).toNat % 4 ≠ 0)) ∧
    (∃ (s u : State) (g : Group) (rd ra rb : GReg), (s.fetches u g = true) ∧ ((u.core g).acts = true) ∧ (u.checkAtom g ((u.core g).rg ra).toNat = .go true) ∧ ((u.core g).armed = false) ∧ ((u.core g).storeErrs = []) ∧ (inSsp ((u.core g).rg ra).toNat 4 = false)) ∧
    (∃ (s u : State) (g : Group) (rd ra : GReg) (imm : BitVec 16), (s.fetches u g = true) ∧ ((u.core g).acts = true)) ∧
    (∃ (s u : State) (g : Group) (rd ra rb : GReg) (imm : BitVec 16), (s.fetches u g = true) ∧ ((u.core g).acts = true) ∧ ((u.core g).storeErrs ≠ [])) :=
  ⟨⟨(((State.reset.put (LS_STAT_STATE 1) 0).onCore 1 (fun c => { c with gpr := (Vector.ofFn (fun i => BitVec.ofNat 32 (i.val * 0x9E3779B1))).set 4 0x10041000 })).setBytes 0x10141000 [0x81,0x82,0x83,0x84,0x85,0x86,0x87,0x88]), ((((State.reset.put (LS_STAT_STATE 1) 0).onCore 1 (fun c => { c with gpr := (Vector.ofFn (fun i => BitVec.ofNat 32 (i.val * 0x9E3779B1))).set 4 0x10041000 })).setBytes 0x10141000 [0x81,0x82,0x83,0x84,0x85,0x86,0x87,0x88]).fetchFault 1).1, 1, 6, 4, 0, 0x10141000, 8, false, by decide +kernel, by decide +kernel, by decide +kernel, by decide, by decide +kernel⟩, ⟨(((State.reset.put (LS_STAT_STATE 1) 0).onCore 1 (fun c => { c with gpr := (Vector.ofFn (fun i => BitVec.ofNat 32 (i.val * 0x9E3779B1))).set 4 0x10041000 })).setBytes 0x10141000 [0x81,0x82,0x83,0x84,0x85,0x86,0x87,0x88]), ((((State.reset.put (LS_STAT_STATE 1) 0).onCore 1 (fun c => { c with gpr := (Vector.ofFn (fun i => BitVec.ofNat 32 (i.val * 0x9E3779B1))).set 4 0x10041000 })).setBytes 0x10141000 [0x81,0x82,0x83,0x84,0x85,0x86,0x87,0x88]).fetchFault 1).1, 1, 6, 4, 0, 0x10141000, 8, false, by decide +kernel, by decide +kernel, by decide +kernel, by decide, by decide +kernel⟩, ⟨(((((((State.reset.put (LS_STAT_STATE 1) 0).put (FW_WIN_BASE_PAGE 0) 0x20000).put (FW_WIN_LIMIT_PAGE 0) 0x20FFF).put (FW_WIN_MASK_RD 0) 2).put (FW_WIN_MASK_WR 0) 2).putFlag (FW_WIN_CTRL_EN 0) true).onCore 1 (fun c => { c with gpr := (Vector.ofFn (fun i => BitVec.ofNat 32 (i.val * 0x9E3779B1))).set 4 0x20001000 })), ((((((((State.reset.put (LS_STAT_STATE 1) 0).put (FW_WIN_BASE_PAGE 0) 0x20000).put (FW_WIN_LIMIT_PAGE 0) 0x20FFF).put (FW_WIN_MASK_RD 0) 2).put (FW_WIN_MASK_WR 0) 2).putFlag (FW_WIN_CTRL_EN 0) true).onCore 1 (fun c => { c with gpr := (Vector.ofFn (fun i => BitVec.ofNat 32 (i.val * 0x9E3779B1))).set 4 0x20001000 })).fetchFault 1).1, 1, 6, 4, 5, by decide +kernel⟩, ⟨(((State.reset.put (LS_STAT_STATE 1) 0).onCore 1 (fun c => { c with gpr := (Vector.ofFn (fun i => BitVec.ofNat 32 (i.val * 0x9E3779B1))).set 4 0x10041000 })).setBytes 0x10141000 [0x81,0x82,0x83,0x84,0x85,0x86,0x87,0x88]), ((((State.reset.put (LS_STAT_STATE 1) 0).onCore 1 (fun c => { c with gpr := (Vector.ofFn (fun i => BitVec.ofNat 32 (i.val * 0x9E3779B1))).set 4 0x10041000 })).setBytes 0x10141000 [0x81,0x82,0x83,0x84,0x85,0x86,0x87,0x88]).fetchFault 1).1, 1, 6, 4, 0, .align, 0, by decide +kernel⟩, ⟨(((State.reset.put (LS_STAT_STATE 1) 0).onCore 1 (fun c => { c with gpr := (Vector.ofFn (fun i => BitVec.ofNat 32 (i.val * 0x9E3779B1))).set 4 0x10041000 })).setBytes 0x10141000 [0x81,0x82,0x83,0x84,0x85,0x86,0x87,0x88]), ((((State.reset.put (LS_STAT_STATE 1) 0).onCore 1 (fun c => { c with gpr := (Vector.ofFn (fun i => BitVec.ofNat 32 (i.val * 0x9E3779B1))).set 4 0x10041000 })).setBytes 0x10141000 [0x81,0x82,0x83,0x84,0x85,0x86,0x87,0x88]).fetchFault 1).1, 1, 7, 4, 0, by decide +kernel, by decide⟩, ⟨(((State.reset.put (LS_STAT_STATE 1) 0).onCore 1 (fun c => { c with gpr := (Vector.ofFn (fun i => BitVec.ofNat 32 (i.val * 0x9E3779B1))).set 4 0x10041001 })).setBytes 0x10141000 [0x81,0x82,0x83,0x84,0x85,0x86,0x87,0x88]), ((((State.reset.put (LS_STAT_STATE 1) 0).onCore 1 (fun c => { c with gpr := (Vector.ofFn (fun i => BitVec.ofNat 32 (i.val * 0x9E3779B1))).set 4 0x10041001 })).setBytes 0x10141000 [0x81,0x82,0x83,0x84,0x85,0x86,0x87,0x88]).fetchFault 1).1, 1, 6, 4, 5, by decide +kernel⟩, ⟨(((State.reset.put (LS_STAT_STATE 1) 0).onCore 1 (fun c => { c with gpr := (Vector.ofFn (fun i => BitVec.ofNat 32 (i.val * 0x9E3779B1))).set 4 0x10041000 })).setBytes 0x10141000 [0x81,0x82,0x83,0x84,0x85,0x86,0x87,0x88]), ((((State.reset.put (LS_STAT_STATE 1) 0).onCore 1 (fun c => { c with gpr := (Vector.ofFn (fun i => BitVec.ofNat 32 (i.val * 0x9E3779B1))).set 4 0x10041000 })).setBytes 0x10141000 [0x81,0x82,0x83,0x84,0x85,0x86,0x87,0x88]).fetchFault 1).1, 1, 6, 4, 5, by decide +kernel⟩, ⟨(((State.reset.put (LS_STAT_STATE 1) 0).onArch (fun a => { a with flash := some ⟨true, 0x2000000, 0⟩ })).onCore 1 (fun c => { c with gpr := (Vector.ofFn (fun i => BitVec.ofNat 32 (i.val * 0x9E3779B1))).set 4 0x2000000 })), ((((State.reset.put (LS_STAT_STATE 1) 0).onArch (fun a => { a with flash := some ⟨true, 0x2000000, 0⟩ })).onCore 1 (fun c => { c with gpr := (Vector.ofFn (fun i => BitVec.ofNat 32 (i.val * 0x9E3779B1))).set 4 0x2000000 })).fetchFault 1).1, 1, 6, 4, 0, by decide +kernel⟩, ⟨((State.reset.put (LS_STAT_STATE 1) 0).onCore 1 (fun c => { c with storeErrs := [0x20000000], gpr := (Vector.ofFn (fun i => BitVec.ofNat 32 (i.val * 0x9E3779B1))).set 4 0x10041000 })), (((State.reset.put (LS_STAT_STATE 1) 0).onCore 1 (fun c => { c with storeErrs := [0x20000000], gpr := (Vector.ofFn (fun i => BitVec.ofNat 32 (i.val * 0x9E3779B1))).set 4 0x10041000 })).fetchFault 1).1, 1, 6, 4, 5, 0, by decide +kernel⟩⟩

/-- The hypotheses of `BranchesJumpsAndLoopsSteer` can be met together. -/
theorem meets_BranchesJumpsAndLoopsSteer :
    (∃ (s u : State) (g : Group) (an : Bool) (ra rb : GReg) (off : BitVec 15) (off25 : BitVec 25), (s.fetches u g = true) ∧ ((u.core g).mayBranch = true)) ∧
    (∃ (s u : State) (g : Group) (rd ra : GReg) (off : BitVec 15), (s.fetches u g = true) ∧ ((u.core g).mayBranch = true) ∧ (rd ≠ ra ∨ rd = 0) ∧ (((u.core g).rg ra + (off.signExtend 32 <<< 2)).toNat % 4 = 0)) ∧
    (∃ (s u : State) (g : Group) (rd ra : GReg) (off : BitVec 15), (s.fetches u g = true) ∧ ((u.core g).mayBranch = true) ∧ (rd ≠ ra ∨ rd = 0) ∧ (((u.core g).rg ra + (off.signExtend 32 <<< 2)).toNat % 4 ≠ 0) ∧ ((u.core g).delay = none) ∧ ((u.core g).tsbOk = true) ∧ ((u.core g).nest.val < 15)) ∧
    (∃ (s u : State) (g : Group) (ra : GReg) (off : BitVec 15), (s.fetches u g = true) ∧ (ra ≠ 0)) ∧
    (∃ (s u : State) (g : Group) (n : LoopCount) (e : BitVec 13) (k : Word), (s.fetches u g = true) ∧ ((u.core g).mayBranch = true) ∧ (e ≠ 0) ∧ ((match n with | .imm c => c.zeroExtend 32 | .reg ra => (u.core g).rg ra) = k)) ∧
    (∃ (s u : State) (g : Group) (n : LoopCount), (s.fetches u g = true) ∧ ((u.core g).mayBranch = true) ∧ ((u.core g).delay = none) ∧ ((u.core g).tsbOk = true) ∧ ((u.core g).nest.val < 15)) ∧
    (∃ (s u : State) (g : Group) (an : Bool) (ra rb : GReg) (off : BitVec 15) (off25 : BitVec 25) (n : LoopCount) (e : BitVec 13), (s.fetches u g = true) ∧ ((u.core g).delay ≠ none)) ∧
    (∃ (s u : State) (g : Group) (an : Bool) (ra rb : GReg) (off : BitVec 15) (off25 : BitVec 25) (n : LoopCount) (e : BitVec 13), (s.fetches u g = true) ∧ ((u.core g).delay = none) ∧ ((u.core g).pc = (u.core g).le) ∧ ((u.core g).lc ≠ 0)) :=
  ⟨⟨((State.reset.put (LS_STAT_STATE 1) 0).onCore 1 (fun c => { c with gpr := Vector.ofFn (fun i => BitVec.ofNat 32 (i.val * 0x9E3779B1)) })), (((State.reset.put (LS_STAT_STATE 1) 0).onCore 1 (fun c => { c with gpr := Vector.ofFn (fun i => BitVec.ofNat 32 (i.val * 0x9E3779B1)) })).fetchFault 1).1, 1, true, 4, 5, 0x7FFF, 0x1FFFFF0, by decide +kernel⟩, ⟨((State.reset.put (LS_STAT_STATE 1) 0).onCore 1 (fun c => { c with gpr := (Vector.ofFn (fun i => BitVec.ofNat 32 (i.val * 0x9E3779B1))).set 4 0x10041000 })), (((State.reset.put (LS_STAT_STATE 1) 0).onCore 1 (fun c => { c with gpr := (Vector.ofFn (fun i => BitVec.ofNat 32 (i.val * 0x9E3779B1))).set 4 0x10041000 })).fetchFault 1).1, 1, 31, 4, 3, by decide +kernel, by decide +kernel, by decide, by decide +kernel⟩, ⟨((State.reset.put (LS_STAT_STATE 1) 0).onCore 1 (fun c => { c with gpr := (Vector.ofFn (fun i => BitVec.ofNat 32 (i.val * 0x9E3779B1))).set 4 0x10041002 })), (((State.reset.put (LS_STAT_STATE 1) 0).onCore 1 (fun c => { c with gpr := (Vector.ofFn (fun i => BitVec.ofNat 32 (i.val * 0x9E3779B1))).set 4 0x10041002 })).fetchFault 1).1, 1, 31, 4, 3, by decide +kernel, by decide +kernel, by decide, by decide +kernel⟩, ⟨((State.reset.put (LS_STAT_STATE 1) 0).onCore 1 (fun c => { c with gpr := Vector.ofFn (fun i => BitVec.ofNat 32 (i.val * 0x9E3779B1)) })), (((State.reset.put (LS_STAT_STATE 1) 0).onCore 1 (fun c => { c with gpr := Vector.ofFn (fun i => BitVec.ofNat 32 (i.val * 0x9E3779B1)) })).fetchFault 1).1, 1, 4, 3, by decide +kernel, by decide⟩, ⟨((State.reset.put (LS_STAT_STATE 1) 0).onCore 1 (fun c => { c with gpr := Vector.ofFn (fun i => BitVec.ofNat 32 (i.val * 0x9E3779B1)) })), (((State.reset.put (LS_STAT_STATE 1) 0).onCore 1 (fun c => { c with gpr := Vector.ofFn (fun i => BitVec.ofNat 32 (i.val * 0x9E3779B1)) })).fetchFault 1).1, 1, .imm 5, 3, 5, by decide +kernel, by decide +kernel, by decide, rfl⟩, ⟨((State.reset.put (LS_STAT_STATE 1) 0).onCore 1 (fun c => { c with gpr := Vector.ofFn (fun i => BitVec.ofNat 32 (i.val * 0x9E3779B1)) })), (((State.reset.put (LS_STAT_STATE 1) 0).onCore 1 (fun c => { c with gpr := Vector.ofFn (fun i => BitVec.ofNat 32 (i.val * 0x9E3779B1)) })).fetchFault 1).1, 1, .imm 5, by decide +kernel⟩, ⟨((State.reset.put (LS_STAT_STATE 1) 0).onCore 1 (fun c => { c with delay := some ⟨0, 8, false, []⟩ })), (((State.reset.put (LS_STAT_STATE 1) 0).onCore 1 (fun c => { c with delay := some ⟨0, 8, false, []⟩ })).fetchFault 1).1, 1, true, 4, 5, 3, 4, .imm 5, 3, by decide +kernel⟩, ⟨((State.reset.put (LS_STAT_STATE 1) 0).onCore 1 (fun c => { c with pc := 0x10000000, le := 0x10000000, lc := 2 })), (((State.reset.put (LS_STAT_STATE 1) 0).onCore 1 (fun c => { c with pc := 0x10000000, le := 0x10000000, lc := 2 })).fetchFault 1).1, 1, true, 4, 5, 3, 4, .imm 5, 3, by decide +kernel⟩⟩

/-- The hypotheses of `SystemInstructionsActAtTheirLevel` can be met together. -/
theorem meets_SystemInstructionsActAtTheirLevel :
    (∃ (s u : State) (g : Group) (rd : GReg) (sr : BitVec 5), (s.fetches u g = true) ∧ ((u.core g).delay = none) ∧ (sr.toNat ≤ 14) ∧ (mayMfs (u.core g).pl sr = true)) ∧
    (∃ (s u : State) (g : Group) (ra : GReg) (sr : BitVec 5), (s.fetches u g = true) ∧ ((u.core g).delay = none) ∧ (sr.toNat ≤ 9) ∧ (mayMts (u.core g).pl sr = true)) ∧
    (∃ (s u : State) (g : Group) (r : GReg) (sr : BitVec 5), (s.fetches u g = true)) ∧
    (∃ (s u : State) (g : Group) , (s.fetches u g = true) ∧ ((u.core g).delay = none) ∧ ((u.core g).pl ≠ 2)) ∧
    (∃ (s u : State) (g : Group) , (s.fetches u g = true) ∧ ((u.core g).delay = none)) ∧
    (∃ (s u : State) (g : Group) , (s.fetches u g = true) ∧ ((u.core g).delay = none) ∧ ((u.core g).pl = 2) ∧ ((u.core g).tsbOk = true) ∧ ((u.core g).nest.val < 15)) ∧
    (∃ (s u : State) (g : Group) (n : BitVec 10), (s.fetches u g = true) ∧ ((u.core g).delay = none) ∧ ((u.core g).tsbOk = true) ∧ ((u.core g).nest.val < 15) ∧ ((u.core g).shadow = [])) ∧
    (∃ (s u : State) (g : Group) , (s.fetches u g = true) ∧ ((u.core g).delay = none) ∧ ((u.core g).nest ≠ 0) ∧ ((u.core g).pl ≠ 2) ∧ ((u.core g).tsbOk = true) ∧ ((u.core g).shadow = []) ∧ ((lookup (u.core g).kept ((u.core g).nest.val - 1)).getD [] = []) ∧ (u.prot.lat = []) ∧ (u.chained g (u.slotAddr g ((u.core g).nest.val - 1)) = none)) ∧
    (∃ (s u : State) (g : Group) , (s.fetches u g = true) ∧ ((u.core g).nest = 0)) :=
  ⟨⟨((State.reset.put (LS_STAT_STATE 1) 0).onCore 1 (fun c => { c with gpr := Vector.ofFn (fun i => BitVec.ofNat 32 (i.val * 0x9E3779B1)) })), (((State.reset.put (LS_STAT_STATE 1) 0).onCore 1 (fun c => { c with gpr := Vector.ofFn (fun i => BitVec.ofNat 32 (i.val * 0x9E3779B1)) })).fetchFault 1).1, 1, 3, 10, by decide +kernel, by decide +kernel, by decide, by decide +kernel⟩, ⟨((State.reset.put (LS_STAT_STATE 1) 0).onCore 1 (fun c => { c with gpr := Vector.ofFn (fun i => BitVec.ofNat 32 (i.val * 0x9E3779B1)) })), (((State.reset.put (LS_STAT_STATE 1) 0).onCore 1 (fun c => { c with gpr := Vector.ofFn (fun i => BitVec.ofNat 32 (i.val * 0x9E3779B1)) })).fetchFault 1).1, 1, 3, 2, by decide +kernel, by decide +kernel, by decide, by decide +kernel⟩, ⟨((State.reset.put (LS_STAT_STATE 1) 0).onCore 1 (fun c => { c with gpr := Vector.ofFn (fun i => BitVec.ofNat 32 (i.val * 0x9E3779B1)) })), (((State.reset.put (LS_STAT_STATE 1) 0).onCore 1 (fun c => { c with gpr := Vector.ofFn (fun i => BitVec.ofNat 32 (i.val * 0x9E3779B1)) })).fetchFault 1).1, 1, 3, 15, by decide +kernel⟩, ⟨((State.reset.put (LS_STAT_STATE 1) 0).onCore 1 (fun c => { c with gpr := Vector.ofFn (fun i => BitVec.ofNat 32 (i.val * 0x9E3779B1)) })), (((State.reset.put (LS_STAT_STATE 1) 0).onCore 1 (fun c => { c with gpr := Vector.ofFn (fun i => BitVec.ofNat 32 (i.val * 0x9E3779B1)) })).fetchFault 1).1, 1, by decide +kernel⟩, ⟨((State.reset.put (LS_STAT_STATE 1) 0).onCore 1 (fun c => { c with gpr := Vector.ofFn (fun i => BitVec.ofNat 32 (i.val * 0x9E3779B1)) })), (((State.reset.put (LS_STAT_STATE 1) 0).onCore 1 (fun c => { c with gpr := Vector.ofFn (fun i => BitVec.ofNat 32 (i.val * 0x9E3779B1)) })).fetchFault 1).1, 1, by decide +kernel⟩, ⟨((State.reset.put (LS_STAT_STATE 1) 0).onCore 1 (fun c => { c with pl := 2 })), (((State.reset.put (LS_STAT_STATE 1) 0).onCore 1 (fun c => { c with pl := 2 })).fetchFault 1).1, 1, by decide +kernel⟩, ⟨((State.reset.put (LS_STAT_STATE 1) 0).onCore 1 (fun c => { c with gpr := Vector.ofFn (fun i => BitVec.ofNat 32 (i.val * 0x9E3779B1)) })), (((State.reset.put (LS_STAT_STATE 1) 0).onCore 1 (fun c => { c with gpr := Vector.ofFn (fun i => BitVec.ofNat 32 (i.val * 0x9E3779B1)) })).fetchFault 1).1, 1, 77, by decide +kernel⟩, ⟨((State.reset.put (LS_STAT_STATE 1) 0).onCore 1 (fun c => { c with nest := 1 })), (((State.reset.put (LS_STAT_STATE 1) 0).onCore 1 (fun c => { c with nest := 1 })).fetchFault 1).1, 1, by decide +kernel⟩, ⟨((State.reset.put (LS_STAT_STATE 1) 0).onCore 1 (fun c => { c with gpr := Vector.ofFn (fun i => BitVec.ofNat 32 (i.val * 0x9E3779B1)) })), (((State.reset.put (LS_STAT_STATE 1) 0).onCore 1 (fun c => { c with gpr := Vector.ofFn (fun i => BitVec.ofNat 32 (i.val * 0x9E3779B1)) })).fetchFault 1).1, 1, by decide +kernel⟩⟩

/-- The hypotheses of `InstructionsAreFetchedFirst` can be met together. -/
theorem meets_InstructionsAreFetchedFirst :
    (∃ (s : State) (i : Instr) (g : Group), (groupOf i = some g) ∧ (s.groupRuns g = false)) ∧
    (∃ (s : State) (i : Instr) (g : Group) (e : Exc × Word) (l : List (Exc × Word)), (groupOf i = some g) ∧ (s.groupRuns g = true) ∧ ((s.core g).due = e :: l) ∧ ((s.core g).delay = none)) ∧
    (∃ (s u : State) (i : Instr) (g : Group) (e : Exc), (groupOf i = some g) ∧ (s.groupRuns g = true) ∧ (s.takeDue g = none) ∧ (s.fetchWaits g = false) ∧ (s.fetchFault g = (u, some e))) ∧
    (∃ (s : State) (i : Instr) (g : Group), (groupOf i = some g) ∧ (s.takeDue g = none) ∧ (s.fetchWaits g = true)) ∧
    (∃ (s u : State) (i : Instr) (g : Group) (d : DelaySlot), (groupOf i = some g) ∧ (s.fetches u g = true) ∧ ((u.core g).delay = some d) ∧ (d.annul = true)) ∧
    (∃ (s u : State) (g : Group) (d : DelaySlot) (rd ra rb : GReg) (imm : BitVec 16), (s.fetches u g = true) ∧ ((u.core g).delay = some d) ∧ (d.annul = true)) :=
  ⟨⟨State.reset, .std 1 3 4 0, 1, rfl, by decide +kernel⟩, ⟨((State.reset.put (LS_STAT_STATE 1) 0).onCore 1 (fun c => { c with due := [(.storeErr, 0x20000000)] })), .std 1 3 4 0, 1, (.storeErr, 0x20000000), [], rfl, by decide +kernel⟩, ⟨((State.reset.put (LS_STAT_STATE 1) 0).onCore 1 (fun c => { c with pc := 0x20000000 })), (((State.reset.put (LS_STAT_STATE 1) 0).onCore 1 (fun c => { c with pc := 0x20000000 }))).countDeny 1 .fetchNx, .std 1 3 4 0, 1, .fetchNx, rfl, by decide +kernel⟩, ⟨(((State.reset.put (LS_STAT_STATE 1) 0).onCore 1 (fun c => { c with pc := 0x2000000 })).onArch (fun a => { a with flash := some ⟨true, 0x2000000, 0⟩ })), .std 1 3 4 0, 1, rfl, by decide +kernel⟩, ⟨((State.reset.put (LS_STAT_STATE 1) 0).onCore 1 (fun c => { c with delay := some ⟨0, 8, true, []⟩ })), (((State.reset.put (LS_STAT_STATE 1) 0).onCore 1 (fun c => { c with delay := some ⟨0, 8, true, []⟩ })).fetchFault 1).1, .std 1 3 4 0, 1, ⟨0, 8, true, []⟩, rfl, by decide +kernel, by decide +kernel, rfl⟩, ⟨((State.reset.put (LS_STAT_STATE 1) 0).onCore 1 (fun c => { c with delay := some ⟨0, 8, true, []⟩ })), (((State.reset.put (LS_STAT_STATE 1) 0).onCore 1 (fun c => { c with delay := some ⟨0, 8, true, []⟩ })).fetchFault 1).1, 1, ⟨0, 8, true, []⟩, 3, 4, 5, 6, by decide +kernel⟩⟩

/-- The hypotheses of `TheArchiveSealsAndTheFlashIsProgrammed` can be met together. -/
theorem meets_TheArchiveSealsAndTheFlashIsProgrammed :
    (∃ (s : State) (g : Segment) (l : List Segment), (s.arch.segs = g :: l) ∧ (s.get AR_STAT_THROTTLE ≠ 3)) ∧
    (∃ (s : State), (s.arch.segs = [] ∨ s.get AR_STAT_THROTTLE = 3)) ∧
    (∃ (s : State) (c : Nat), (c < 256)) ∧
    (∃ (s : State), (s.arch.low = false) ∧ (s.sag.rstNLow = false)) ∧
    (∃ (s : State), (s.arch.low = true ∨ s.sag.rstNLow = true)) ∧
    (∃ (s : State), (s.flag AR_STAT_PF_ACTIVE = true)) ∧
    (∃ (s : State), (s.flag AR_STAT_PF_ACTIVE = false)) ∧
    (∃ (s : State), (s.arch.low = true)) ∧
    (∃ (s : State), (s.arch.low = false)) ∧
    (∃ (s : State) (d h : Nat), (s.arch.pfDone = some d) ∧ (s.arch.highSince = some h) ∧ (s.arch.refuse = true)) ∧
    (∃ (s : State), (s.arch.pfDone = none ∨ s.arch.highSince = none ∨ s.arch.refuse = false)) ∧
    (∃ (s : State), (s.arch.flash = none) ∧ (s.reaches 0 (CF_CMD) = true) ∧ (s.inActiveHalf (s.get CF_ADDR_ADDR * 128) = false)) ∧
    (∃ (s : State) (o : FlashOp), (s.arch.flash = some o) ∧ (s.reaches 0 (CF_CMD) = true)) ∧
    (∃ (s : State), (s.arch.flash = none) ∧ (s.reaches 0 (CF_CMD) = true) ∧ (s.inActiveHalf (s.get CF_ADDR_ADDR * 128) = true)) ∧
    (∃ (s u : State) (d : Bytes) (r : BusResult), (s.arch.flash = none) ∧ (s.reaches 0 (CF_CMD) = true) ∧ (s.inActiveHalf (s.get CF_ADDR_ADDR * 128) = false) ∧ (s.busRead 0 (s.rd64 CF_SRC % 2 ^ 40 / 128 * 128) 128 = (u, d, r)) ∧ ((∀ k, k < 128 → byteAt u.mem ((s.get CF_ADDR_ADDR * 128) + k) &&& d.getD k 0 = d.getD k 0))) ∧
    (∃ (s u : State) (d : Bytes) (r : BusResult) (k : Nat), (s.arch.flash = none) ∧ (s.reaches 0 (CF_CMD) = true) ∧ (s.inActiveHalf (s.get CF_ADDR_ADDR * 128) = false) ∧ (s.busRead 0 (s.rd64 CF_SRC % 2 ^ 40 / 128 * 128) 128 = (u, d, r)) ∧ (k < 128) ∧ (byteAt u.mem ((s.get CF_ADDR_ADDR * 128) + k) &&& d.getD k 0 ≠ d.getD k 0)) ∧
    (∃ (s : State) (m : Master), (m.val ≠ 0) ∧ (s.reaches m (CF_CMD) = true)) ∧
    (∃ (s : State) (o : FlashOp) (ok : Bool), (s.arch.flash = some o) ∧ (s.host.flash = none) ∧ (o.erase = true ∨ ok = true)) ∧
    (∃ (s : State) (o : FlashOp), (s.arch.flash = some o) ∧ (s.host.flash = none) ∧ (o.erase = false)) ∧
    (∃ (s : State) (ok : Bool), (s.arch.flash = none)) ∧
    (∃ (s : State) (l : Option ReservedLoss), (s.flag DM_SCRUB_PER_EN = true) ∧ (s.prot.hbmScrub.next < 469762048) ∧ (s.prot.lat = [])) ∧
    (∃ (s : State), (s.flag DM_SCRUB_PER_EN = true) ∧ (469762048 ≤ s.prot.hbmScrub.next)) ∧
    (∃ (s : State) (l : ReservedLoss), (s.flag DM_SCRUB_PER_EN = true) ∧ (469762048 ≤ s.prot.hbmScrub.next) ∧ (∀ n, l = .staging n → n < s.te.staged.length)) ∧
    (∃ (s : State) (l : Option ReservedLoss), (s.flag DM_SCRUB_PER_EN = false)) :=
  ⟨⟨(State.reset.onArch (fun a => { a with segs := [⟨5, 100, []⟩] })), ⟨5, 100, []⟩, [], by decide +kernel⟩, ⟨State.reset, .inl rfl⟩, ⟨(State.reset.put AR_STAT_THROTTLE 3), 83, by decide⟩, ⟨State.reset, by decide +kernel⟩, ⟨(State.reset.onArch (fun a => { a with low := true })), .inl rfl⟩, ⟨{ ((State.reset.onArch (fun a => { a with segs := [⟨5, 100, []⟩] })).putFlag AR_STAT_PF_ACTIVE true).putFlag AR_CTRL_EN true with tt := 2000000 }, by decide +kernel⟩, ⟨State.reset, by decide +kernel⟩, ⟨(State.reset.onArch (fun a => { a with low := true })), by decide +kernel⟩, ⟨State.reset, by decide +kernel⟩, ⟨{ (State.reset.onArch (fun a => { a with pfDone := some 3, highSince := some 5, refuse := true })) with tt := 20000000 }, 3, 5, by decide +kernel⟩, ⟨State.reset, .inl rfl⟩, ⟨(State.reset.put CF_ADDR_ADDR 0x40000), by decide +kernel⟩, ⟨(State.reset.onArch (fun a => { a with flash := some ⟨true, 0x2000000, 0⟩ })), ⟨true, 0x2000000, 0⟩, by decide +kernel⟩, ⟨State.reset, by decide +kernel⟩, ⟨(State.reset.put CF_ADDR_ADDR 0x40000), ((State.reset.put CF_ADDR_ADDR 0x40000).busRead 0 0 128).1, ((State.reset.put CF_ADDR_ADDR 0x40000).busRead 0 0 128).2.1, ((State.reset.put CF_ADDR_ADDR 0x40000).busRead 0 0 128).2.2, rfl, by decide +kernel⟩, ⟨((State.reset.put CF_ADDR_ADDR 0x40000).setBytes 0x2000000 [0]), (((State.reset.put CF_ADDR_ADDR 0x40000).setBytes 0x2000000 [0]).busRead 0 0 128).1, (((State.reset.put CF_ADDR_ADDR 0x40000).setBytes 0x2000000 [0]).busRead 0 0 128).2.1, (((State.reset.put CF_ADDR_ADDR 0x40000).setBytes 0x2000000 [0]).busRead 0 0 128).2.2, 0, rfl, by decide +kernel, by decide +kernel, by decide +kernel, by decide, by decide +kernel⟩, ⟨State.reset, 1, by decide +kernel⟩, ⟨(State.reset.onArch (fun a => { a with flash := some ⟨true, 0x2000000, 0⟩ })), ⟨true, 0x2000000, 0⟩, true, rfl, rfl, .inl rfl⟩, ⟨(State.reset.onArch (fun a => { a with flash := some ⟨false, 0x2000080, 0⟩ })), ⟨false, 0x2000080, 0⟩, rfl, rfl, rfl⟩, ⟨State.reset, true, by decide +kernel⟩, ⟨(State.reset.putFlag DM_SCRUB_PER_EN true), none, by decide +kernel⟩, ⟨((State.reset.putFlag DM_SCRUB_PER_EN true).onProt (fun x => { x with hbmScrub := { x.hbmScrub with next := 482344959 } })), by decide +kernel⟩, ⟨((State.reset.putFlag DM_SCRUB_PER_EN true).onProt (fun x => { x with hbmScrub := { x.hbmScrub with next := 482344000 } })), .archive, by decide +kernel, by decide +kernel, by intro n h; cases h⟩, ⟨(State.reset.putFlag DM_SCRUB_PER_EN false), none, by decide +kernel⟩⟩

/-- The hypotheses of `TheSaggerServesLifecycleFusesAndDebug` can be met together. -/
theorem meets_TheSaggerServesLifecycleFusesAndDebug :
    (∃ (s : State) (v : Word), (s.advanceOk (v.toNat % 4) = false) ∧ (s.reaches 0 (SG_LC_ADVANCE) = true)) ∧
    (∃ (s : State) (v : Word), (s.reaches 0 (SG_LC_ADVANCE) = true) ∧ (s.lifecycle = 0) ∧ (v.toNat % 4 = 1) ∧ (s.fuseBytes 24 16 ≠ List.replicate 64 0) ∧ (s.fuseBytes 40 16 ≠ List.replicate 64 0) ∧ (s.fuseBytes 88 128 ≠ List.replicate 512 0) ∧ (bitsOf (s.fuse 0).toNat 16 6 = 63)) ∧
    (∃ (s : State) (v : Word), (s.reaches 0 (SG_LC_ADVANCE) = true) ∧ (s.lifecycle = 1) ∧ (v.toNat % 4 = 2) ∧ (s.mode = modeMaintenance)) ∧
    (∃ (s : State) (v : Word), (s.reaches 0 (SG_LC_ADVANCE) = true) ∧ (s.lifecycle = 2) ∧ (v.toNat % 4 = 3) ∧ (s.mode = modeMaintenance)) ∧
    (∃ (s : State) (v : Word), (s.mode = modeMaintenance) ∧ (s.reaches 0 (SG_SVN_COMMIT) = true) ∧ (s.flag CF_STAT_TRIAL = false)) ∧
    (∃ (s : State) (v : Word), (s.mode ≠ modeMaintenance ∨ s.flag CF_STAT_TRIAL = true) ∧ (s.reaches 0 (SG_SVN_COMMIT) = true)) ∧
    (∃ (s : State) (m : Master), (m.val = 0 ∨ (m.val = 14 ∧ s.debugLevel = 3)) ∧ (s.reaches m (SG_FUSE_CMD) = true) ∧ (s.sag.fuseOp = none) ∧ (s.fuseRefused (s.get SG_FUSE_ADDR_WORD) (s.rd SG_FUSE_DATA) = false)) ∧
    (∃ (s : State), (s.sag.fuseOp = none) ∧ (s.reaches 0 (SG_FUSE_CMD) = true) ∧ (2 ≤ s.lifecycle ∨ ((s.get SG_FUSE_ADDR_WORD) = 0 ∧ (s.rd SG_FUSE_DATA) &&& 0xF ≠ 0) ∨ (1 ≤ (s.get SG_FUSE_ADDR_WORD) ∧ (s.get SG_FUSE_ADDR_WORD) ≤ 7) ∨ (8 ≤ (s.get SG_FUSE_ADDR_WORD) ∧ (s.get SG_FUSE_ADDR_WORD) < 88 ∧ (s.fuse 0).toNat.testBit (16 + ((s.get SG_FUSE_ADDR_WORD) - 8) / 16) = true))) ∧
    (∃ (s : State) (x : Nat × Word), (s.sag.fuseOp = some x) ∧ (s.reaches 0 (SG_FUSE_CMD) = true)) ∧
    (∃ (s : State) (w : Nat) (d : Word), (s.sag.fuseOp = some (w, d))) ∧
    (∃ (s : State) (ok : Bool), (s.sag.fuseOp = none)) ∧
    (∃ (s : State), (s.flag SG_PUF_CTRL_BUSY = false) ∧ (s.reaches 0 (SG_PUF_CTRL) = true)) ∧
    (∃ (s : State), (s.flag SG_PUF_CTRL_BUSY = true) ∧ (s.reaches 0 (SG_PUF_CTRL) = true)) ∧
    (∃ (s : State), (s.flag SG_PUF_CTRL_BUSY = false)) ∧
    (∃ (s : State), (s.sag.ver = none) ∧ (s.reaches 0 (SG_VER_CTRL) = true)) ∧
    (∃ (s : State) (x : Nat × Nat), (s.sag.ver = some x) ∧ (s.reaches 0 (SG_VER_CTRL) = true)) ∧
    (∃ (s u : State) (a n : Nat), (s.sag.ver = some (a, n)) ∧ (s.served .ver = some u)) ∧
    (∃ (s : State), (s.sag.ver = none ∨ s.served .ver = none)) ∧
    (∃ (s : State) (v : Word), (s.sag.dbg = none) ∧ (s.reaches 14 (SG_DBG_CTRL) = true)) ∧
    (∃ (s : State) (v : Word), (s.sag.dbg ≠ none) ∧ (s.reaches 14 (SG_DBG_CTRL) = true)) ∧
    (∃ (s u : State) (l : Nat) (k : Bool) (n g : Bytes), (s.sag.dbg = some (l, k, n, g)) ∧ (l < 4) ∧ (s.served .debug = some u)) ∧
    (∃ (s : State), (s.sag.dbg = none ∨ s.served .debug = none)) ∧
    (∃ (s : State), (s.reaches 14 (SG_DBG_CTRL) = true)) ∧
    (∃ (s : State) (m : Master) (v : Word), (m.val ≠ 0) ∧ (s.reaches m (SG_LC_ADVANCE) = true) ∧ (s.reaches m (SG_SVN_COMMIT) = true) ∧ (s.reaches m (SG_PUF_CTRL) = true) ∧ (s.reaches m (SG_VER_CTRL) = true) ∧ (s.reaches m (SG_FUSE_CMD) = true)) ∧
    (∃ (s : State) (m : Master) (v : Word), (m.val ≠ 14) ∧ (s.reaches m (SG_DBG_CTRL) = true)) :=
  ⟨⟨State.reset, 2, by decide +kernel⟩, ⟨((((State.reset.blow 24 1).blow 40 1).blow 88 1).blow 0 0x3F0000), 1, by decide +kernel⟩, ⟨((State.reset.put PM_MODE_MODE 5).blow 0 1), 2, by decide +kernel⟩, ⟨((State.reset.put PM_MODE_MODE 5).blow 0 3), 3, by decide +kernel⟩, ⟨((State.reset.put PM_MODE_MODE 5).onSag (fun x => { x with glostSvn := 3 })), 1, by decide +kernel⟩, ⟨State.reset, 1, .inl (by decide +kernel), by decide +kernel⟩, ⟨(State.reset.put SG_FUSE_ADDR_WORD 8), 14, .inr (by decide +kernel), by decide +kernel⟩, ⟨(State.reset.put SG_FUSE_ADDR_WORD 7), rfl, by decide +kernel, .inr (.inr (.inl (by decide +kernel)))⟩, ⟨(State.reset.onSag (fun x => { x with fuseOp := some (8, 5) })), (8, 5), by decide +kernel⟩, ⟨(State.reset.onSag (fun x => { x with fuseOp := some (8, 5) })), 8, 5, rfl⟩, ⟨State.reset, true, by decide +kernel⟩, ⟨State.reset, by decide +kernel⟩, ⟨(State.reset.putFlag SG_PUF_CTRL_BUSY true), by decide +kernel⟩, ⟨State.reset, by decide +kernel⟩, ⟨State.reset, by decide +kernel⟩, ⟨(State.reset.onSag (fun x => { x with ver := some (0, 64) })), (0, 64), by decide +kernel⟩, ⟨(State.reset.onSag (fun x => { x with ver := some (0, 64) })), ((State.reset.onSag (fun x => { x with ver := some (0, 64) })).syncEngine.onSag (fun x => { x with engine := x.engine.tail })), 0, 64, by decide +kernel⟩, ⟨State.reset, .inl rfl⟩, ⟨State.reset, 2, rfl, by decide +kernel⟩, ⟨(State.reset.onSag (fun x => { x with dbg := some (2, false, [], []) })), 2, by decide, by decide +kernel⟩, ⟨(State.reset.onSag (fun x => { x with dbg := some (2, false, [], []) })), ((State.reset.onSag (fun x => { x with dbg := some (2, false, [], []) })).syncEngine.onSag (fun x => { x with engine := x.engine.tail })), 2, false, [], [], rfl, by decide, by decide +kernel⟩, ⟨State.reset, .inl rfl⟩, ⟨State.reset, by decide +kernel⟩, ⟨State.reset, 3, 1, by decide +kernel⟩, ⟨State.reset, 3, 1, by decide +kernel⟩⟩

/-- The hypotheses of `TheEnginesServeOneRequestAtATime` can be met together. -/
theorem meets_TheEnginesServeOneRequestAtATime :
    (∃ (run r : SagReq) (wait : List SagReq), (wait.Pairwise (fun a b => a.rank ≤ b.rank))) ∧
    (∃ (s u : State) (r : SagReq), (s.served r = some u)) ∧
    (∃ (s : State) (r : SagReq), (s.syncEngine.sag.engine.head? ≠ some r)) :=
  ⟨⟨.attest, .debug, [.kload, .debug, .ver], by decide⟩, ⟨(State.reset.onSag (fun x => { x with ver := some (0, 64) })), ((State.reset.onSag (fun x => { x with ver := some (0, 64) })).syncEngine.onSag (fun x => { x with engine := x.engine.tail })), .ver, by decide +kernel⟩, ⟨State.reset, .ver, by decide +kernel⟩⟩

/-- The hypotheses of `TamperSensorsMakeTheDeviceSafe` can be met together. -/
theorem meets_TamperSensorsMakeTheDeviceSafe :
    (∃ (s : State) (n : Fin 4), ((bitsOf (s.rd SG_TAMP_CFG).toNat (2 * n.val) 2) = 1)) ∧
    (∃ (s : State) (n : Fin 4), ((bitsOf (s.rd SG_TAMP_CFG).toNat (2 * n.val) 2) ≠ 1)) ∧
    (∃ (s : State) (p : Fin 2), ((bitsOf (s.rd SG_TAMP_CFG).toNat (2 * (2 * p.val)) 2) = 2)) ∧
    (∃ (s : State) (p : Fin 2), ((bitsOf (s.rd SG_TAMP_CFG).toNat (2 * (2 * p.val)) 2) ≠ 2)) ∧
    (∃ (s : State) (c : Int), (c < -45 ∨ 115 < c)) ∧
    (∃ (s : State) (c : Int), (-45 ≤ c) ∧ (c ≤ 115)) ∧
    (∃ (s : State), (s.sag.rstNLow = true) ∧ (s.lifecycle ≤ 1)) ∧
    (∃ (s : State), (s.sag.rstNLow = false ∨ 2 ≤ s.lifecycle)) :=
  ⟨⟨(State.reset.wr SG_TAMP_CFG 0x104), 1, by decide +kernel⟩, ⟨State.reset, 1, by decide +kernel⟩, ⟨(State.reset.wr SG_TAMP_CFG 0x420), 1, by decide +kernel⟩, ⟨State.reset, 1, by decide +kernel⟩, ⟨State.reset, -46, .inl (by decide)⟩, ⟨State.reset, 115, by decide, by decide⟩, ⟨(State.reset.onSag (fun x => { x with rstNLow := true })), rfl, by decide +kernel⟩, ⟨State.reset, .inl rfl⟩⟩

/-- The hypotheses of `TheDebugPortActs` can be met together. -/
theorem meets_TheDebugPortActs :
    (∃ (s : State), (s.lockDenies 14 0x40F00000 = false) ∧ (2 ≤ s.debugLevel) ∧ (s.lifecycle ≠ 2 ∨ s.mode = modeMaintenance) ∧ (s.eligible s.dbgGroup = true)) ∧
    (∃ (s : State), (s.lockDenies 14 0x40F00000 = false) ∧ (2 ≤ s.debugLevel) ∧ (s.lifecycle = 2) ∧ (s.mode ≠ modeMaintenance)) ∧
    (∃ (s : State) (g : Group), (s.lockDenies 14 0x40F00000 = false) ∧ (2 ≤ s.debugLevel) ∧ (s.dbgGroup = g) ∧ (s.dbgHalted g = true)) ∧
    (∃ (s : State) (g : Group), (s.lockDenies 14 0x40F00000 = false) ∧ (2 ≤ s.debugLevel) ∧ (s.dbgGroup = g) ∧ (s.dbgHalted g = false)) ∧
    (∃ (s : State) (g : Group) (v : Word), (s.lockDenies 14 0x40F00000 = false) ∧ (2 ≤ s.debugLevel) ∧ (s.dbgGroup = g) ∧ (s.dbgHalted g = true) ∧ (v.toNat.testBit 8 = false)) ∧
    (∃ (s : State) (g : Group) (v : Word), (s.lockDenies 14 0x40F00000 = false) ∧ (2 ≤ s.debugLevel) ∧ (s.dbgGroup = g) ∧ (s.dbgHalted g = true) ∧ (v.toNat.testBit 8 = true) ∧ (v.toNat % 64 < 32 ∨ v.toNat % 64 = 47)) ∧
    (∃ (s : State) (v : Word), (s.lockDenies 14 0x40F00000 = false) ∧ (v.toNat.testBit 0 = false)) ∧
    (∃ (s u : State) (v : Word) (d : Bytes) (n : Nat) (ok : Bool), (s.lockDenies 14 0x40F00000 = false) ∧ (v.toNat.testBit 0 = true) ∧ (v.toNat.testBit 1 = false) ∧ (1 ≤ s.debugLevel) ∧ ((s.rd64 DBG_MEM_ADDR) % (2 ^ (v.toNat / 4 % 4)) = 0) ∧ (targetAt s.part (s.rd64 DBG_MEM_ADDR) ≠ .regs) ∧ ((s.wr DBG_MEM_CTRL (v &&& 0xE)).busRead 14 (s.rd64 DBG_MEM_ADDR) (2 ^ (v.toNat / 4 % 4)) = (u, d, ⟨n, ok⟩))) ∧
    (∃ (s u : State) (v : Word) (n : Nat) (ok : Bool), (s.lockDenies 14 0x40F00000 = false) ∧ (v.toNat.testBit 0 = true) ∧ (v.toNat.testBit 1 = true) ∧ (2 ≤ s.debugLevel) ∧ ((s.rd64 DBG_MEM_ADDR) % (2 ^ (v.toNat / 4 % 4)) = 0) ∧ (targetAt s.part (s.rd64 DBG_MEM_ADDR) ≠ .regs) ∧ ((s.wr DBG_MEM_CTRL (v &&& 0xE)).busWrite 14 (s.rd64 DBG_MEM_ADDR) (natLe (2 ^ (v.toNat / 4 % 4)) (s.rd64 DBG_MEM_DATA)) = (u, ⟨n, ok⟩))) ∧
    (∃ (s : State), (s.lockDenies 14 0x40F00000 = false) ∧ (s.debugLevel < 2)) ∧
    (∃ (s : State) (m : Master), (m.val ≠ 14)) ∧
    (∃ (s : State) (v : Word), (s.lockDenies 14 0x40F00000 = false) ∧ (v.toNat.testBit 0 = true) ∧ ((s.rd64 DBG_MEM_ADDR) / 0x10000 ≠ 0x4080) ∧ (s.debugLevel = 0 ∨ (v.toNat.testBit 1 = true ∧ s.debugLevel < 2))) ∧
    (∃ (s : State) (v x y : Word), (s.lockDenies 14 0x40F00000 = true)) ∧
    (∃ (s : State) (g : Group) (v x : Word), (s.lockDenies 14 0x40F00000 = false) ∧ (2 ≤ s.debugLevel) ∧ (s.dbgGroup = g) ∧ (s.dbgHalted g = true) ∧ (v.toNat.testBit 8 = false) ∧ (v.toNat % 64 < 32) ∧ (s.get (LS_STAT_ACTIVE g) = 7) ∧ (x ≠ 0)) :=
  ⟨⟨((State.reset.put DBG_SEL_GROUP 1).put (LS_STAT_STATE 1) 0), by decide +kernel, by decide +kernel, .inl (by decide +kernel), by decide +kernel⟩, ⟨((State.reset.blow 0 0x603).put SG_DBG_CTRL_LEVEL 2), by decide +kernel⟩, ⟨((((State.reset.put DBG_SEL_GROUP 1).put (LS_STAT_STATE 1) 3).putFlag (LS_DBG_HALTED 1) true)), 1, by decide +kernel⟩, ⟨(State.reset.put DBG_SEL_GROUP 1), 1, by decide +kernel⟩, ⟨((((State.reset.put DBG_SEL_GROUP 1).put (LS_STAT_STATE 1) 3).putFlag (LS_DBG_HALTED 1) true)), 1, 47, by decide +kernel⟩, ⟨(((((State.reset.put DBG_SEL_GROUP 1).put (LS_STAT_STATE 1) 3).putFlag (LS_DBG_HALTED 1) true)).wr DBG_REG_DATA 7), 1, 0x103, by decide +kernel, by decide +kernel, by decide +kernel, (by decide +kernel), by decide +kernel, .inl (by decide)⟩, ⟨State.reset, 2, by decide +kernel⟩, ⟨State.reset, ((State.reset.wr DBG_MEM_CTRL (9 &&& 0xE)).busRead 14 0 4).1, 9, ((State.reset.wr DBG_MEM_CTRL (9 &&& 0xE)).busRead 14 0 4).2.1, ((State.reset.wr DBG_MEM_CTRL (9 &&& 0xE)).busRead 14 0 4).2.2.beats, ((State.reset.wr DBG_MEM_CTRL (9 &&& 0xE)).busRead 14 0 4).2.2.ok, by decide +kernel⟩, ⟨State.reset, ((State.reset.wr DBG_MEM_CTRL (11 &&& 0xE)).busWrite 14 0 (natLe 4 0)).1, 11, ((State.reset.wr DBG_MEM_CTRL (11 &&& 0xE)).busWrite 14 0 (natLe 4 0)).2.beats, ((State.reset.wr DBG_MEM_CTRL (11 &&& 0xE)).busWrite 14 0 (natLe 4 0)).2.ok, by decide +kernel⟩, ⟨(State.reset.blow 0 1), by decide +kernel⟩, ⟨State.reset, 0, by decide +kernel⟩, ⟨(State.reset.blow 0 1), 1, by decide +kernel, by decide, by decide +kernel, .inl (by decide +kernel)⟩, ⟨(((State.reset.putFlag (FW_LOCK_CTRL_EN 0) true).put (FW_LOCK_BASE_PAGE 0) 0x40F00).put (FW_LOCK_LIMIT_PAGE 0) 0x40F00), 0, 0, 0, by decide +kernel⟩, ⟨(((((State.reset.put DBG_SEL_GROUP 1).put (LS_STAT_STATE 1) 3).putFlag (LS_DBG_HALTED 1) true)).put (LS_STAT_ACTIVE 1) 7), 1, 3, 9, by decide +kernel⟩⟩

/-- The hypotheses of `RegisterWritesFollowTheirFields` can be met together. -/
theorem meets_RegisterWritesFollowTheirFields :
    (∃ (s : State) (off : Nat) (m : Master) (v : Word), (off % 4 ≠ 0 ∨ 0x1000000 ≤ off)) ∧
    (∃ (s : State) (off : Nat) (m : Master) (v : Word), (off % 4 = 0) ∧ (off < 0x1000000) ∧ (off / 0x10000 ≠ 0xF0) ∧ (¬ (isMpuCtl (off - lsgBase m) = true ∧ m.val < 8 ∧ lsgBase m ≤ off)) ∧ (s.lockDenies m (0x40000000 + off) = true)) ∧
    (∃ (s : State) (off : Nat) (m : Master) (v : Word), (off % 4 = 0) ∧ (off < 0x1000000) ∧ (off / 0x10000 ≠ 0xF0) ∧ (¬ (isMpuCtl (off - lsgBase m) = true ∧ m.val < 8 ∧ lsgBase m ≤ off)) ∧ (s.lockDenies m (0x40000000 + off) = false) ∧ (inBlocks off = false)) ∧
    (∃ (s : State) (off : Nat) (m : Master) (v : Word), (off % 4 = 0) ∧ (off < 0x1000000) ∧ (off / 0x10000 ≠ 0xF0) ∧ (¬ (isMpuCtl (off - lsgBase m) = true ∧ m.val < 8 ∧ lsgBase m ≤ off)) ∧ (s.lockDenies m (0x40000000 + off) = false) ∧ (inBlocks off = true) ∧ (absentAt s.part off = true ∨ regRow off = none)) ∧
    (∃ (s : State) (off : Nat) (m : Master) (v : Word) (r : RegRow), (off % 4 = 0) ∧ (off < 0x1000000) ∧ (off / 0x10000 ≠ 0xF0) ∧ (¬ (isMpuCtl (off - lsgBase m) = true ∧ m.val < 8 ∧ lsgBase m ≤ off)) ∧ (s.lockDenies m (0x40000000 + off) = false) ∧ (inBlocks off = true) ∧ (absentAt s.part off = false) ∧ (regRow off = some r) ∧ (s.mayWrite m off v = false)) ∧
    (∃ (s : State) (off : Nat) (m : Master) (v : Word) (r : RegRow), (off % 4 = 0) ∧ (off < 0x1000000) ∧ (off / 0x10000 ≠ 0xF0) ∧ (¬ (isMpuCtl (off - lsgBase m) = true ∧ m.val < 8 ∧ lsgBase m ≤ off)) ∧ (s.lockDenies m (0x40000000 + off) = false) ∧ (inBlocks off = true) ∧ (absentAt s.part off = false) ∧ (regRow off = some r) ∧ (s.mayWrite m off v = true) ∧ (off < 0x910800 ∨ 0x911000 ≤ off) ∧ (s.regAct m off v = none) ∧ (r.rwl = 0) ∧ (r.staged = 0) ∧ (s.rangeOk off v = true) ∧ (s.stages m off v r = false)) ∧
    (∃ (s : State) (off : Nat) (m : Master) (v : Word) (r : RegRow), (off % 4 = 0) ∧ (off < 0x1000000) ∧ (off / 0x10000 ≠ 0xF0) ∧ (¬ (isMpuCtl (off - lsgBase m) = true ∧ m.val < 8 ∧ lsgBase m ≤ off)) ∧ (s.lockDenies m (0x40000000 + off) = false) ∧ (inBlocks off = true) ∧ (absentAt s.part off = false) ∧ (regRow off = some r) ∧ (s.mayWrite m off v = true) ∧ (off < 0x910800 ∨ 0x911000 ≤ off) ∧ (s.regAct m off v = none) ∧ (r.rwl = 0) ∧ (s.rangeOk off v = false) ∧ (s.stages m off v r = false ∨ s.stagedNext < 1024)) ∧
    (∃ (s : State) (off : Nat) (m : Master) (v : Word) (r : RegRow), (off % 4 = 0) ∧ (off < 0x1000000) ∧ (off / 0x10000 ≠ 0xF0) ∧ (¬ (isMpuCtl (off - lsgBase m) = true ∧ m.val < 8 ∧ lsgBase m ≤ off)) ∧ (s.lockDenies m (0x40000000 + off) = false) ∧ (inBlocks off = true) ∧ (absentAt s.part off = false) ∧ (regRow off = some r) ∧ (s.mayWrite m off v = true) ∧ (off < 0x910800 ∨ 0x911000 ≤ off) ∧ (s.regAct m off v = none) ∧ (r.rwl = 0) ∧ (BitVec.ofNat 32 r.rw &&& ~~~(BitVec.ofNat 32 r.staged) = 0) ∧ (BitVec.ofNat 32 r.staged ≠ 0) ∧ (r.w1c = 0) ∧ (isFirewall off = false) ∧ (s.rangeOk off v = true) ∧ (s.stagedVal off = none) ∧ (s.stage.find? (fun e => e.off = off) = none) ∧ (s.stagedNext < 1024)) ∧
    (∃ (s : State) (off : Nat) (m : Master) (v : Word) (r : RegRow), (off % 4 = 0) ∧ (off < 0x1000000) ∧ (off / 0x10000 ≠ 0xF0) ∧ (¬ (isMpuCtl (off - lsgBase m) = true ∧ m.val < 8 ∧ lsgBase m ≤ off)) ∧ (s.lockDenies m (0x40000000 + off) = false) ∧ (inBlocks off = true) ∧ (absentAt s.part off = false) ∧ (regRow off = some r) ∧ (s.mayWrite m off v = true) ∧ (off < 0x910800 ∨ 0x911000 ≤ off) ∧ (s.stages m off v r = true) ∧ (s.stagedVal off = none) ∧ (1024 ≤ s.stagedNext)) ∧
    (∃ (s : State) (off : Nat) (m : Master) (v : Word) (r : RegRow), (off % 4 = 0) ∧ (off < 0x1000000) ∧ (off / 0x10000 ≠ 0xF0) ∧ (¬ (isMpuCtl (off - lsgBase m) = true ∧ m.val < 8 ∧ lsgBase m ≤ off)) ∧ (s.lockDenies m (0x40000000 + off) = false) ∧ (inBlocks off = true) ∧ (absentAt s.part off = false) ∧ (regRow off = some r) ∧ (s.mayWrite m off v = true) ∧ (off < 0x910800 ∨ 0x911000 ≤ off) ∧ (s.regAct m off v = none) ∧ (r.rwl ≠ 0) ∧ (s.locked.contains off = true) ∧ (s.stages m off v r = false)) ∧
    (∃ (s : State) (off : Nat) (m : Master) (v : Word) (r : RegRow), (off % 4 = 0) ∧ (off < 0x1000000) ∧ (off / 0x10000 ≠ 0xF0) ∧ (¬ (isMpuCtl (off - lsgBase m) = true ∧ m.val < 8 ∧ lsgBase m ≤ off)) ∧ (s.lockDenies m (0x40000000 + off) = false) ∧ (inBlocks off = true) ∧ (absentAt s.part off = false) ∧ (regRow off = some r) ∧ (s.mayWrite m off v = true) ∧ (off < 0x910800 ∨ 0x911000 ≤ off) ∧ (s.regAct m off v = none) ∧ (r.rwl ≠ 0) ∧ (s.locked.contains off = false) ∧ (s.rangeOk off v = true) ∧ (isFirewall off = false) ∧ (s.stages m off v r = false)) ∧
    (∃ (s : State) (g : Group) (off : Nat) (v : Word) (r : RegRow), (off % 4 = 0) ∧ (off < 0x1000000) ∧ (lsgBase g ≤ off) ∧ (isMpuCtl (off - lsgBase g) = true) ∧ (absentAt s.part off = false) ∧ (s.lockDenies g.val (0x40000000 + off) = false) ∧ (regRow off = some r)) :=
  ⟨⟨State.reset, 2, 0, 0, .inl (by decide)⟩, ⟨(((State.reset.putFlag (FW_LOCK_CTRL_EN 0) true).put (FW_LOCK_BASE_PAGE 0) 0x40000).put (FW_LOCK_LIMIT_PAGE 0) 0x40FFF), 0x10000, 0, 0, by decide +kernel⟩, ⟨State.reset, 0xE00000, 0, 0, by decide +kernel⟩, ⟨State.reset, 0x12FFFC, 0, 0, by decide +kernel, by decide +kernel, by decide +kernel, (by decide +kernel), by decide +kernel, by decide +kernel, .inr (by decide +kernel)⟩, ⟨State.reset, SP_RAW_ADDR, 3, 1, ((regRow SP_RAW_ADDR).getD ⟨0, 4, 1, 1, 0, 0, 0, 0, 0, 0, 0, false⟩), by decide +kernel⟩, ⟨State.reset, SP_RAW_ADDR, 0, 0x1000, ((regRow SP_RAW_ADDR).getD ⟨0, 4, 1, 1, 0, 0, 0, 0, 0, 0, 0, false⟩), by decide +kernel, by decide +kernel, by decide +kernel, (by decide +kernel), by decide +kernel, by decide +kernel, by decide +kernel, (by decide +kernel), by decide +kernel, .inl (by decide), by decide +kernel⟩, ⟨State.reset, AR_RATE, 0, 1, ((regRow AR_RATE).getD ⟨0, 4, 1, 1, 0, 0, 0, 0, 0, 0, 0, false⟩), by decide +kernel, by decide +kernel, by decide +kernel, (by decide +kernel), by decide +kernel, by decide +kernel, by decide +kernel, (by decide +kernel), by decide +kernel, .inl (by decide), by decide +kernel, by decide +kernel, by decide +kernel, .inr (by decide +kernel)⟩, ⟨State.reset, AR_CTRL, 0, 1, ((regRow AR_CTRL).getD ⟨0, 4, 1, 1, 0, 0, 0, 0, 0, 0, 0, false⟩), by decide +kernel, by decide +kernel, by decide +kernel, (by decide +kernel), by decide +kernel, by decide +kernel, by decide +kernel, (by decide +kernel), by decide +kernel, .inl (by decide), by decide +kernel⟩, ⟨{ State.reset with stage := List.replicate 1024 ⟨0x140000, 0, 0, 0⟩ }, AR_CTRL, 0, 1, ((regRow AR_CTRL).getD ⟨0, 4, 1, 1, 0, 0, 0, 0, 0, 0, 0, false⟩), by decide +kernel, by decide +kernel, by decide +kernel, (by decide +kernel), by decide +kernel, by decide +kernel, by decide +kernel, (by decide +kernel), by decide +kernel, .inl (by decide), by decide +kernel⟩, ⟨{ State.reset with locked := [WD_PERIOD 1] }, WD_PERIOD 1, 0, 5000, ((regRow (WD_PERIOD 1)).getD ⟨0, 4, 1, 1, 0, 0, 0, 0, 0, 0, 0, false⟩), by decide +kernel, by decide +kernel, by decide +kernel, (by decide +kernel), by decide +kernel, by decide +kernel, by decide +kernel, (by decide +kernel), by decide +kernel, .inl (by decide), by decide +kernel⟩, ⟨State.reset, WD_PERIOD 1, 0, 5000, ((regRow (WD_PERIOD 1)).getD ⟨0, 4, 1, 1, 0, 0, 0, 0, 0, 0, 0, false⟩), by decide +kernel, by decide +kernel, by decide +kernel, (by decide +kernel), by decide +kernel, by decide +kernel, by decide +kernel, (by decide +kernel), by decide +kernel, .inl (by decide), by decide +kernel⟩, ⟨State.reset, 1, MPU_BASE 1 0, 0x10000, ((regRow (MPU_BASE 1 0)).getD ⟨0, 4, 1, 1, 0, 0, 0, 0, 0, 0, 0, false⟩), by decide +kernel⟩⟩

/-- The hypotheses of `ALockedOrAbsentRegisterIsNotWritten` can be met together. -/
theorem meets_ALockedOrAbsentRegisterIsNotWritten :
    (∃ (s : State) (c : Instr) (m : Master) (off : Nat), (registerOf c = some (m, off)) ∧ (s.lockDenies m (0x40000000 + off) = true)) ∧
    (∃ (s : State) (c : Instr) (m : Master) (off : Nat), (registerOf c = some (m, off)) ∧ (s.lockDenies m (0x40000000 + off) = false) ∧ (absentAt s.part off = true)) :=
  ⟨⟨(((State.reset.putFlag (FW_LOCK_CTRL_EN 0) true).put (FW_LOCK_BASE_PAGE 0) 0x40000).put (FW_LOCK_LIMIT_PAGE 0) 0x40FFF), .pmCtrlWarm 3, 3, PM_CTRL, by decide +kernel⟩, ⟨{ State.reset with part := .sk7316 }, .lsStop 7 0, 0, LS_CTRL 7, by decide +kernel⟩⟩

/-- The hypotheses of `TheFollowerKeepsInStep` can be met together. -/
theorem meets_TheFollowerKeepsInStep :
    (∃ (s : State) (n : Lane) (m : RxMsg), (s.isPeer n = true) ∧ (s.rxFront n 0x20 = some m) ∧ (s.follows = true ∨ s.joinsAt (field m.bytes 8 8) = true) ∧ (s.rd64 TB_BTT + s.get TB_FMIN_FMIN ≤ s.tt + 2500)) ∧
    (∃ (s : State) (n : Lane) (m : RxMsg), (s.isPeer n = true) ∧ (s.rxFront n 0x20 = some m) ∧ ((s.follows = false ∧ s.joinsAt (field m.bytes 8 8) = false) ∨ s.tt + 2500 < s.rd64 TB_BTT + s.get TB_FMIN_FMIN)) ∧
    (∃ (s : State) (n : Lane), (s.isPeer n = false ∨ s.rxFront n 0x20 = none)) ∧
    (∃ (s : State), (s.follows = true) ∧ (s.tw.fire = none) ∧ (s.tw.fireLost = false) ∧ (s.kiln.running = true) ∧ ((match s.kiln.src with | c :: _ => c.tt | [] => s.rd64 TB_BTT + s.get TB_FMAX_FMAX) + s.get TW_FIRE_TO_US * 1250 ≤ s.tt)) ∧
    (∃ (s : State), (s.follows = false ∨ s.tw.fire ≠ none ∨ s.tw.fireLost = true ∨ s.kiln.running = false ∨ s.tt < (match s.kiln.src with | c :: _ => c.tt | [] => s.rd64 TB_BTT + s.get TB_FMAX_FMAX) + s.get TW_FIRE_TO_US * 1250)) ∧
    (∃ (s : State) (n : Lane) (m : RxMsg), (s.isPeer n = true) ∧ (s.rxFront n 0x22 = some m) ∧ (s.role = 1) ∧ (field m.bytes 18 1 % 2 = 0)) ∧
    (∃ (s : State) (n : Lane) (m : RxMsg), (s.isPeer n = true) ∧ (s.rxFront n 0x22 = some m) ∧ (s.role = 1) ∧ (field m.bytes 18 1 % 2 = 1) ∧ (s.flag TE_CTRL_EN = true) ∧ (field m.bytes 8 8 + 2 ≤ s.fn) ∧ (s.te.sealedTo < field m.bytes 8 8)) ∧
    (∃ (s : State) (n : Lane) (m : RxMsg), (s.isPeer n = true) ∧ (s.rxFront n 0x22 = some m) ∧ (s.role ≠ 1)) ∧
    (∃ (s : State) (n : Lane), (s.isPeer n = false ∨ s.rxFront n 0x22 = none)) ∧
    (∃ (s : State), (s.role = 1) ∧ (s.flag TE_CTRL_EN = true) ∧ (3 ≤ s.fn) ∧ (s.te.sealedTo < s.fn - 2) ∧ (s.tw.placed.contains (s.fn - 2) = false) ∧ (s.rd64 TB_BTT + 260 + 25000 ≤ s.tt)) ∧
    (∃ (s : State), (s.role ≠ 1)) ∧
    (∃ (s : State) (n : Lane) (m : RxMsg), (s.isPeer n = true) ∧ (s.rxFront n 0x23 = some m) ∧ (s.role = 1)) ∧
    (∃ (s : State) (n : Lane) (m : RxMsg), (s.isPeer n = true) ∧ (s.rxFront n 0x23 = some m) ∧ (s.role ≠ 1)) ∧
    (∃ (s : State) (n : Lane), (s.isPeer n = false ∨ s.rxFront n 0x23 = none)) ∧
    (∃ (s : State) (n : Lane) (b : Bytes), (s.twCtrl n 5 = some b)) ∧
    (∃ (s : State) (p : DigestPart) (l : List DigestPart), (s.tw.parts = p :: l) ∧ (p.due ≤ s.tt) ∧ (s.batchOpen (p.fn - 2) = false) ∧ (lookup s.tw.peer p.fn = none)) ∧
    (∃ (s : State), (s.tw.parts = [])) ∧
    (∃ (s : State) (p : DigestPart) (l : List DigestPart), (s.tw.parts = p :: l) ∧ (s.tt < p.due ∨ s.batchOpen (p.fn - 2) = true)) ∧
    (∃ (s : State) (n : Lane) (m : RxMsg) (x : Nat), (s.isPeer n = true) ∧ (s.rxFront n 0x21 = some m) ∧ (s.tw.from_ = some x) ∧ (lookup s.tw.own (field m.bytes 8 8) = none)) ∧
    (∃ (s : State) (n : Lane) (m : RxMsg) (x : Nat) (d : Bytes), (s.isPeer n = true) ∧ (s.rxFront n 0x21 = some m) ∧ (s.tw.from_ = some x) ∧ (lookup s.tw.own (field m.bytes 8 8) = some d) ∧ (d = (m.bytes.drop 24).take 64)) ∧
    (∃ (s : State) (n : Lane) (m : RxMsg) (x : Nat) (d : Bytes), (s.isPeer n = true) ∧ (s.rxFront n 0x21 = some m) ∧ (s.tw.from_ = some x) ∧ (lookup s.tw.own (field m.bytes 8 8) = some d) ∧ (d ≠ (m.bytes.drop 24).take 64)) ∧
    (∃ (s : State) (n : Lane), (s.isPeer n = false ∨ s.rxFront n 0x21 = none)) ∧
    (∃ (s : State) (x t0 : Nat) (l : List (Nat × Nat)), (s.tw.due = (x, t0) :: l) ∧ (t0 + 480 + s.get TW_DIG_TO_US * 1250 < s.tt) ∧ (lookup s.tw.peer x = none)) ∧
    (∃ (s : State), (s.tw.due = [])) :=
  ⟨⟨{ ((((((State.reset.put (HL_CFG_MODE 0) 2).put (HL_STAT_STATE 0) laneActive).putFlag (HL_STAT_SYNCED 0) true).putFlag TW_CFG_EN true).put TW_STAT_ROLE 1).onLane 0 (fun l => { l with rx := [⟨5, [32, 0, 0, 0, 0, 0, 0, 0, 7, 0, 0, 0, 0, 0, 0, 0, 0, 0, 0, 0, 0, 0, 0, 0, 1, 2, 0, 0, 0, 0, 0, 0]⟩] })) with tt := 1000000000 }, 0, ⟨5, [32, 0, 0, 0, 0, 0, 0, 0, 7, 0, 0, 0, 0, 0, 0, 0, 0, 0, 0, 0, 0, 0, 0, 0, 1, 2, 0, 0, 0, 0, 0, 0]⟩, by decide +kernel, by decide +kernel, .inl (by decide +kernel), by decide +kernel⟩, ⟨((((((State.reset.put (HL_CFG_MODE 0) 2).put (HL_STAT_STATE 0) laneActive).putFlag (HL_STAT_SYNCED 0) true).putFlag TW_CFG_EN true).put TW_STAT_ROLE 0).onLane 0 (fun l => { l with rx := [⟨5, [32, 0, 0, 0, 0, 0, 0, 0, 7, 0, 0, 0, 0, 0, 0, 0, 0, 0, 0, 0, 0, 0, 0, 0, 1, 2, 0, 0, 0, 0, 0, 0]⟩] })), 0, ⟨5, [32, 0, 0, 0, 0, 0, 0, 0, 7, 0, 0, 0, 0, 0, 0, 0, 0, 0, 0, 0, 0, 0, 0, 0, 1, 2, 0, 0, 0, 0, 0, 0]⟩, by decide +kernel, by decide +kernel, .inl (by decide +kernel)⟩, ⟨State.reset, 0, .inl (by decide +kernel)⟩, ⟨{ ((State.reset.put TW_STAT_ROLE 1).onKiln (fun k => { k with running := true, src := [{ tt := 0, fireIn := true }] })) with tt := 1000000000 }, by decide +kernel⟩, ⟨State.reset, .inl (by decide +kernel)⟩, ⟨((((((State.reset.put (HL_CFG_MODE 0) 2).put (HL_STAT_STATE 0) laneActive).putFlag (HL_STAT_SYNCED 0) true).putFlag TW_CFG_EN true).put TW_STAT_ROLE 1).onLane 0 (fun l => { l with rx := [⟨5, [34, 0, 0, 0, 0, 0, 0, 0, 4, 0, 0, 0, 0, 0, 0, 0, 1, 0, 0, 0, 0, 0, 0, 0, 0, 0, 0, 0, 0, 0, 0, 0, 0, 0, 0, 0, 0, 0, 0, 0, 0, 0, 0, 0, 0, 0, 0, 0]⟩] })), 0, ⟨5, [34, 0, 0, 0, 0, 0, 0, 0, 4, 0, 0, 0, 0, 0, 0, 0, 1, 0, 0, 0, 0, 0, 0, 0, 0, 0, 0, 0, 0, 0, 0, 0, 0, 0, 0, 0, 0, 0, 0, 0, 0, 0, 0, 0, 0, 0, 0, 0]⟩, by decide +kernel⟩, ⟨{ ((((((State.reset.put (HL_CFG_MODE 0) 2).put (HL_STAT_STATE 0) laneActive).putFlag (HL_STAT_SYNCED 0) true).putFlag TW_CFG_EN true).put TW_STAT_ROLE 1 |>.putFlag TE_CTRL_EN true).onLane 0 (fun l => { l with rx := [⟨5, [34, 0, 0, 0, 0, 0, 0, 0, 4, 0, 0, 0, 0, 0, 0, 0, 1, 0, 1, 0, 0, 0, 0, 0, 0, 0, 0, 0, 0, 0, 0, 0, 0, 0, 0, 0, 0, 0, 0, 0, 0, 0, 0, 0, 0, 0, 0, 0]⟩] })) with fn := 9 }, 0, ⟨5, [34, 0, 0, 0, 0, 0, 0, 0, 4, 0, 0, 0, 0, 0, 0, 0, 1, 0, 1, 0, 0, 0, 0, 0, 0, 0, 0, 0, 0, 0, 0, 0, 0, 0, 0, 0, 0, 0, 0, 0, 0, 0, 0, 0, 0, 0, 0, 0]⟩, by decide +kernel⟩, ⟨((((((State.reset.put (HL_CFG_MODE 0) 2).put (HL_STAT_STATE 0) laneActive).putFlag (HL_STAT_SYNCED 0) true).putFlag TW_CFG_EN true)).onLane 0 (fun l => { l with rx := [⟨5, [34, 0, 0, 0, 0, 0, 0, 0, 4, 0, 0, 0, 0, 0, 0, 0, 1, 0, 0, 0, 0, 0, 0, 0, 0, 0, 0, 0, 0, 0, 0, 0, 0, 0, 0, 0, 0, 0, 0, 0, 0, 0, 0, 0, 0, 0, 0, 0]⟩] })), 0, ⟨5, [34, 0, 0, 0, 0, 0, 0, 0, 4, 0, 0, 0, 0, 0, 0, 0, 1, 0, 0, 0, 0, 0, 0, 0, 0, 0, 0, 0, 0, 0, 0, 0, 0, 0, 0, 0, 0, 0, 0, 0, 0, 0, 0, 0, 0, 0, 0, 0]⟩, by decide +kernel⟩, ⟨State.reset, 0, .inl (by decide +kernel)⟩, ⟨{ (((((State.reset.put (HL_CFG_MODE 0) 2).put (HL_STAT_STATE 0) laneActive).putFlag (HL_STAT_SYNCED 0) true).putFlag TW_CFG_EN true).put TW_STAT_ROLE 1 |>.putFlag TE_CTRL_EN true) with fn := 9, tt := 1000000 }, by decide +kernel⟩, ⟨State.reset, by decide +kernel⟩, ⟨((((((State.reset.put (HL_CFG_MODE 0) 2).put (HL_STAT_STATE 0) laneActive).putFlag (HL_STAT_SYNCED 0) true).putFlag TW_CFG_EN true).put TW_STAT_ROLE 1).onLane 0 (fun l => { l with rx := [⟨5, [35, 0, 0, 0, 0, 0, 0, 0, 9, 0, 0, 0, 0, 0, 0, 0, 1, 0, 0, 0, 0, 0, 0, 0, 0, 0, 0, 0, 0, 0, 0, 0, 0, 0, 0, 0, 0, 0, 0, 0, 0, 0, 0, 0, 0, 0, 0, 0, 0, 0, 0, 0, 0, 0, 0, 0, 0, 0, 0, 0, 0, 0, 0, 0, 0, 0, 0, 0, 0, 0, 0, 0, 0, 0, 0, 0, 0, 0, 0, 0, 0, 0, 0, 0, 0, 0, 0, 0, 0, 0, 0, 0, 0, 0, 0, 0]⟩] })), 0, ⟨5, [35, 0, 0, 0, 0, 0, 0, 0, 9, 0, 0, 0, 0, 0, 0, 0, 1, 0, 0, 0, 0, 0, 0, 0, 0, 0, 0, 0, 0, 0, 0, 0, 0, 0, 0, 0, 0, 0, 0, 0, 0, 0, 0, 0, 0, 0, 0, 0, 0, 0, 0, 0, 0, 0, 0, 0, 0, 0, 0, 0, 0, 0, 0, 0, 0, 0, 0, 0, 0, 0, 0, 0, 0, 0, 0, 0, 0, 0, 0, 0, 0, 0, 0, 0, 0, 0, 0, 0, 0, 0, 0, 0, 0, 0, 0, 0]⟩, by decide +kernel⟩, ⟨((((((State.reset.put (HL_CFG_MODE 0) 2).put (HL_STAT_STATE 0) laneActive).putFlag (HL_STAT_SYNCED 0) true).putFlag TW_CFG_EN true)).onLane 0 (fun l => { l with rx := [⟨5, [35, 0, 0, 0, 0, 0, 0, 0, 9, 0, 0, 0, 0, 0, 0, 0, 1, 0, 0, 0, 0, 0, 0, 0, 0, 0, 0, 0, 0, 0, 0, 0, 0, 0, 0, 0, 0, 0, 0, 0, 0, 0, 0, 0, 0, 0, 0, 0, 0, 0, 0, 0, 0, 0, 0, 0, 0, 0, 0, 0, 0, 0, 0, 0, 0, 0, 0, 0, 0, 0, 0, 0, 0, 0, 0, 0, 0, 0, 0, 0, 0, 0, 0, 0, 0, 0, 0, 0, 0, 0, 0, 0, 0, 0, 0, 0]⟩] })), 0, ⟨5, [35, 0, 0, 0, 0, 0, 0, 0, 9, 0, 0, 0, 0, 0, 0, 0, 1, 0, 0, 0, 0, 0, 0, 0, 0, 0, 0, 0, 0, 0, 0, 0, 0, 0, 0, 0, 0, 0, 0, 0, 0, 0, 0, 0, 0, 0, 0, 0, 0, 0, 0, 0, 0, 0, 0, 0, 0, 0, 0, 0, 0, 0, 0, 0, 0, 0, 0, 0, 0, 0, 0, 0, 0, 0, 0, 0, 0, 0, 0, 0, 0, 0, 0, 0, 0, 0, 0, 0, 0, 0, 0, 0, 0, 0, 0, 0]⟩, by decide +kernel⟩, ⟨State.reset, 0, .inl (by decide +kernel)⟩, ⟨((((((State.reset.put (HL_CFG_MODE 0) 2).put (HL_STAT_STATE 0) laneActive).putFlag (HL_STAT_SYNCED 0) true).putFlag TW_CFG_EN true)).onLane 0 (fun l => { l with rx := [⟨5, [36, 0, 0, 0, 0, 0, 0, 0, 5, 0, 0, 0, 0, 0, 0, 0, 0, 0, 0, 0, 0, 0, 0, 0, 0, 0, 0, 0, 0, 0, 0, 0, 0, 0, 0, 0, 0, 0, 0, 0, 0, 0, 0, 0, 0, 0, 0, 0, 0, 0, 0, 0, 0, 0, 0, 0, 0, 0, 0, 0, 0, 0, 0, 0]⟩] })), 0, [36, 0, 0, 0, 0, 0, 0, 0, 5, 0, 0, 0, 0, 0, 0, 0, 0, 0, 0, 0, 0, 0, 0, 0, 0, 0, 0, 0, 0, 0, 0, 0, 0, 0, 0, 0, 0, 0, 0, 0, 0, 0, 0, 0, 0, 0, 0, 0, 0, 0, 0, 0, 0, 0, 0, 0, 0, 0, 0, 0, 0, 0, 0, 0], by decide +kernel⟩, ⟨((((((State.reset.put (HL_CFG_MODE 0) 2).put (HL_STAT_STATE 0) laneActive).putFlag (HL_STAT_SYNCED 0) true).putFlag TW_CFG_EN true)).onTw (fun t => { t with parts := [⟨5, 1, [], [], [], 0⟩] })), ⟨5, 1, [], [], [], 0⟩, [], rfl, by decide +kernel, by decide +kernel, rfl⟩, ⟨State.reset, by decide +kernel⟩, ⟨((((((State.reset.put (HL_CFG_MODE 0) 2).put (HL_STAT_STATE 0) laneActive).putFlag (HL_STAT_SYNCED 0) true).putFlag TW_CFG_EN true)).onTw (fun t => { t with parts := [⟨5, 1, [], [], [], 9⟩] })), ⟨5, 1, [], [], [], 9⟩, [], rfl, .inl (by decide +kernel)⟩, ⟨(((((((State.reset.put (HL_CFG_MODE 0) 2).put (HL_STAT_STATE 0) laneActive).putFlag (HL_STAT_SYNCED 0) true).putFlag TW_CFG_EN true)).onLane 0 (fun l => { l with rx := [⟨5, [33, 0, 0, 0, 0, 0, 0, 0, 5, 0, 0, 0, 0, 0, 0, 0, 0, 0, 0, 0, 0, 0, 0, 0, 9, 0, 0, 0, 0, 0, 0, 0, 0, 0, 0, 0, 0, 0, 0, 0, 0, 0, 0, 0, 0, 0, 0, 0, 0, 0, 0, 0, 0, 0, 0, 0, 0, 0, 0, 0, 0, 0, 0, 0, 0, 0, 0, 0, 0, 0, 0, 0, 0, 0, 0, 0, 0, 0, 0, 0, 0, 0, 0, 0, 0, 0, 0, 0, 0, 0, 0, 0, 0, 0, 0, 0]⟩] })).onTw (fun t => { t with from_ := some 1 })), 0, ⟨5, [33, 0, 0, 0, 0, 0, 0, 0, 5, 0, 0, 0, 0, 0, 0, 0, 0, 0, 0, 0, 0, 0, 0, 0, 9, 0, 0, 0, 0, 0, 0, 0, 0, 0, 0, 0, 0, 0, 0, 0, 0, 0, 0, 0, 0, 0, 0, 0, 0, 0, 0, 0, 0, 0, 0, 0, 0, 0, 0, 0, 0, 0, 0, 0, 0, 0, 0, 0, 0, 0, 0, 0, 0, 0, 0, 0, 0, 0, 0, 0, 0, 0, 0, 0, 0, 0, 0, 0, 0, 0, 0, 0, 0, 0, 0, 0]⟩, 1, by decide +kernel⟩, ⟨(((((((State.reset.put (HL_CFG_MODE 0) 2).put (HL_STAT_STATE 0) laneActive).putFlag (HL_STAT_SYNCED 0) true).putFlag TW_CFG_EN true)).onLane 0 (fun l => { l with rx := [⟨5, [33, 0, 0, 0, 0, 0, 0, 0, 5, 0, 0, 0, 0, 0, 0, 0, 0, 0, 0, 0, 0, 0, 0, 0, 9, 0, 0, 0, 0, 0, 0, 0, 0, 0, 0, 0, 0, 0, 0, 0, 0, 0, 0, 0, 0, 0, 0, 0, 0, 0, 0, 0, 0, 0, 0, 0, 0, 0, 0, 0, 0, 0, 0, 0, 0, 0, 0, 0, 0, 0, 0, 0, 0, 0, 0, 0, 0, 0, 0, 0, 0, 0, 0, 0, 0, 0, 0, 0, 0, 0, 0, 0, 0, 0, 0, 0]⟩] })).onTw (fun t => { t with from_ := some 1, own := [(5, 9 :: List.replicate 63 0)] })), 0, ⟨5, [33, 0, 0, 0, 0, 0, 0, 0, 5, 0, 0, 0, 0, 0, 0, 0, 0, 0, 0, 0, 0, 0, 0, 0, 9, 0, 0, 0, 0, 0, 0, 0, 0, 0, 0, 0, 0, 0, 0, 0, 0, 0, 0, 0, 0, 0, 0, 0, 0, 0, 0, 0, 0, 0, 0, 0, 0, 0, 0, 0, 0, 0, 0, 0, 0, 0, 0, 0, 0, 0, 0, 0, 0, 0, 0, 0, 0, 0, 0, 0, 0, 0, 0, 0, 0, 0, 0, 0, 0, 0, 0, 0, 0, 0, 0, 0]⟩, 1, 9 :: List.replicate 63 0, by decide +kernel⟩, ⟨(((((((State.reset.put (HL_CFG_MODE 0) 2).put (HL_STAT_STATE 0) laneActive).putFlag (HL_STAT_SYNCED 0) true).putFlag TW_CFG_EN true).putFlag TW_STAT_INSTEP true |>.put TW_STAT_ROLE 1).onLane 0 (fun l => { l with rx := [⟨5, [33, 0, 0, 0, 0, 0, 0, 0, 5, 0, 0, 0, 0, 0, 0, 0, 0, 0, 0, 0, 0, 0, 0, 0, 9, 0, 0, 0, 0, 0, 0, 0, 0, 0, 0, 0, 0, 0, 0, 0, 0, 0, 0, 0, 0, 0, 0, 0, 0, 0, 0, 0, 0, 0, 0, 0, 0, 0, 0, 0, 0, 0, 0, 0, 0, 0, 0, 0, 0, 0, 0, 0, 0, 0, 0, 0, 0, 0, 0, 0, 0, 0, 0, 0, 0, 0, 0, 0, 0, 0, 0, 0, 0, 0, 0, 0]⟩] })).onTw (fun t => { t with from_ := some 1, own := [(5, List.replicate 64 0)] })), 0, ⟨5, [33, 0, 0, 0, 0, 0, 0, 0, 5, 0, 0, 0, 0, 0, 0, 0, 0, 0, 0, 0, 0, 0, 0, 0, 9, 0, 0, 0, 0, 0, 0, 0, 0, 0, 0, 0, 0, 0, 0, 0, 0, 0, 0, 0, 0, 0, 0, 0, 0, 0, 0, 0, 0, 0, 0, 0, 0, 0, 0, 0, 0, 0, 0, 0, 0, 0, 0, 0, 0, 0, 0, 0, 0, 0, 0, 0, 0, 0, 0, 0, 0, 0, 0, 0, 0, 0, 0, 0, 0, 0, 0, 0, 0, 0, 0, 0]⟩, 1, List.replicate 64 0, by decide +kernel⟩, ⟨State.reset, 0, .inl (by decide +kernel)⟩, ⟨{ ((((((State.reset.put (HL_CFG_MODE 0) 2).put (HL_STAT_STATE 0) laneActive).putFlag (HL_STAT_SYNCED 0) true).putFlag TW_CFG_EN true).put TW_MISS_RUN_N 2).onTw (fun t => { t with due := [(5, 0)] })) with tt := 1000000000 }, 5, 0, [], rfl, by decide +kernel, rfl⟩, ⟨State.reset, by decide +kernel⟩⟩

/-- The hypotheses of `TheTwinJoinsAndCedes` can be met together. -/
theorem meets_TheTwinJoinsAndCedes :
    (∃ (s : State) (n : Lane), (s.flag TW_CFG_EN = true) ∧ (s.isPeer n = true) ∧ (s.laneSt n = laneActive) ∧ (s.flag (HL_STAT_SYNCED n) = true) ∧ (s.twCtrl n 1 = none)) ∧
    (∃ (s : State) (n : Lane) (b : Bytes) (primary : Bool), (s.flag TW_CFG_EN = true) ∧ (s.isPeer n = true) ∧ (s.laneSt n = laneActive) ∧ (s.flag (HL_STAT_SYNCED n) = true) ∧ (s.twCtrl n 1 = some b) ∧ (s.role = 3) ∧ (s.mode = modeStandby)) ∧
    (∃ (s : State) (n : Lane) (b : Bytes), (s.flag TW_CFG_EN = true) ∧ (s.isPeer n = true) ∧ (s.laneSt n = laneActive) ∧ (s.flag (HL_STAT_SYNCED n) = true) ∧ (s.twCtrl n 1 = some b) ∧ (s.role = 3) ∧ (s.flag TW_CFG_PRIMARY = true)) ∧
    (∃ (s : State) (n : Lane) (b : Bytes) (primary : Bool), (s.flag TW_CFG_EN = true) ∧ (s.isPeer n = true) ∧ (s.laneSt n = laneActive) ∧ (s.flag (HL_STAT_SYNCED n) = true) ∧ (s.twCtrl n 1 = some b) ∧ (s.role = 0)) ∧
    (∃ (s : State) (n : Lane) (a b : Bool), (s.flag TW_CFG_EN = false ∨ s.isPeer n = false)) ∧
    (∃ (s : State) (n : Lane) (b : Bytes) (j : Join), (s.twCtrl n 2 = some b) ∧ (s.tw.join = some j) ∧ (s.role = 2)) ∧
    (∃ (s : State) (n : Lane) (m : RxMsg) (j : Join), (s.isPeer n = true) ∧ (s.rxFront n 0x25 = some m) ∧ (s.tw.join = some j) ∧ (s.role = 2) ∧ (j.at_.isSome = true) ∧ (1 ≤ field m.bytes 8 1) ∧ (field m.bytes 8 1 ≤ 4)) ∧
    (∃ (s : State) (n : Lane) (m : RxMsg) (j : Join) (a : Nat) (d : Bytes), (s.isPeer n = true) ∧ (s.rxFront n 0x25 = some m) ∧ (s.tw.join = some j) ∧ (s.role = 2) ∧ (j.at_.isSome = true) ∧ (a = (if field m.bytes 8 1 = 0 then trackBase else s.rd64 (TW_WIN_BASE (field m.bytes 8 1 - 5)) % 2 ^ 40) + field m.bytes 12 4) ∧ (d = (m.bytes.drop 24).take (m.bytes.length - 32)) ∧ (field m.bytes 8 1 = 0 ∨ (5 ≤ field m.bytes 8 1 ∧ field m.bytes 8 1 ≤ 8)) ∧ (s.prot.lat = [])) ∧
    (∃ (s : State) (n : Lane), (s.isPeer n = false ∨ s.rxFront n 0x25 = none)) ∧
    (∃ (s : State) (n : Lane) (b : Bytes) (j : Join) (k : Fin 8), (s.twCtrl n 3 = some b) ∧ (s.tw.join = some j)) ∧
    (∃ (s : State) (x : Transfer), (s.tw.xfer = some x) ∧ (s.role = 0) ∧ (x.at_ ≤ s.fn) ∧ (¬ s.tt * s.get TW_XFER_RATE_MBS < x.last * s.get TW_XFER_RATE_MBS + x.size * 1250)) ∧
    (∃ (s : State), (s.tw.xfer = none ∨ s.role ≠ 0 ∨ ∃ x, s.tw.xfer = some x ∧ (s.fn < x.at_ ∨ s.tt * s.get TW_XFER_RATE_MBS < x.last * s.get TW_XFER_RATE_MBS + x.size * 1250))) ∧
    (∃ (s : State) (n : Lane) (b : Bytes), (s.twCtrl n 4 = some b)) ∧
    (∃ (s : State) (n : Lane) (b : Bytes), (s.twCtrl n 6 = some b) ∧ (s.role = 0)) ∧
    (∃ (s : State) (n : Lane) (k : Fin 8), (s.twCtrl n 2 = none) ∧ (s.twCtrl n 3 = none) ∧ (s.twCtrl n 4 = none) ∧ (s.twCtrl n 5 = none) ∧ (s.twCtrl n 6 = none)) ∧
    (∃ (s : State) (j : Join) (w : JoinFail), (s.tw.join = some j) ∧ (s.role = 2) ∧ ((w = .epoch ∧ s.get SG_EPOCH_MAX_EPOCH < j.epoch) ∨ (w = .timeout ∧ j.start + 75000000000 ≤ s.tt))) ∧
    (∃ (s : State) (w : JoinFail), (s.role ≠ 1) ∧ (s.role ≠ 2)) ∧
    (∃ (s : State), (s.role = 1) ∧ (s.flag TW_STAT_INSTEP = false) ∧ (s.tw.joinY + 1024 ≤ s.fn)) ∧
    (∃ (s : State) (n : Lane) (a : Nat), (s.tw.failTt = some a) ∧ (s.peerLane = some n) ∧ (s.role = 3) ∧ (s.flag TW_CFG_EN = true) ∧ (a + 1250000000 ≤ s.tt) ∧ (s.mode = modeStandby)) ∧
    (∃ (s : State), (s.tw.failTt = none)) :=
  ⟨⟨((((State.reset.put (HL_CFG_MODE 0) 2).put (HL_STAT_STATE 0) laneActive).putFlag (HL_STAT_SYNCED 0) true).putFlag TW_CFG_EN true), 0, by decide +kernel⟩, ⟨((((((State.reset.put (HL_CFG_MODE 0) 2).put (HL_STAT_STATE 0) laneActive).putFlag (HL_STAT_SYNCED 0) true).putFlag TW_CFG_EN true).put TW_STAT_ROLE 3 |>.put PM_MODE_MODE 2).onLane 0 (fun l => { l with rx := [⟨5, [36, 0, 0, 0, 0, 0, 0, 0, 1, 0, 0, 0, 0, 0, 0, 0, 0, 0, 0, 0, 0, 0, 0, 0, 0, 0, 0, 0, 0, 0, 0, 0, 0, 0, 0, 0, 0, 0, 0, 0, 0, 0, 0, 0, 0, 0, 0, 0, 0, 0, 0, 0, 0, 0, 0, 0, 0, 0, 0, 0, 0, 0, 0, 0]⟩] })), 0, [36, 0, 0, 0, 0, 0, 0, 0, 1, 0, 0, 0, 0, 0, 0, 0, 0, 0, 0, 0, 0, 0, 0, 0, 0, 0, 0, 0, 0, 0, 0, 0, 0, 0, 0, 0, 0, 0, 0, 0, 0, 0, 0, 0, 0, 0, 0, 0, 0, 0, 0, 0, 0, 0, 0, 0, 0, 0, 0, 0, 0, 0, 0, 0], false, by decide +kernel⟩, ⟨((((((State.reset.put (HL_CFG_MODE 0) 2).put (HL_STAT_STATE 0) laneActive).putFlag (HL_STAT_SYNCED 0) true).putFlag TW_CFG_EN true).put TW_STAT_ROLE 3 |>.putFlag TW_CFG_PRIMARY true).onLane 0 (fun l => { l with rx := [⟨5, [36, 0, 0, 0, 0, 0, 0, 0, 1, 0, 0, 0, 0, 0, 0, 0, 0, 0, 0, 0, 0, 0, 0, 0, 0, 0, 0, 0, 0, 0, 0, 0, 0, 0, 0, 0, 0, 0, 0, 0, 0, 0, 0, 0, 0, 0, 0, 0, 0, 0, 0, 0, 0, 0, 0, 0, 0, 0, 0, 0, 0, 0, 0, 0]⟩] })), 0, [36, 0, 0, 0, 0, 0, 0, 0, 1, 0, 0, 0, 0, 0, 0, 0, 0, 0, 0, 0, 0, 0, 0, 0, 0, 0, 0, 0, 0, 0, 0, 0, 0, 0, 0, 0, 0, 0, 0, 0, 0, 0, 0, 0, 0, 0, 0, 0, 0, 0, 0, 0, 0, 0, 0, 0, 0, 0, 0, 0, 0, 0, 0, 0], by decide +kernel⟩, ⟨((((((State.reset.put (HL_CFG_MODE 0) 2).put (HL_STAT_STATE 0) laneActive).putFlag (HL_STAT_SYNCED 0) true).putFlag TW_CFG_EN true).put TW_STAT_ROLE 0).onLane 0 (fun l => { l with rx := [⟨5, [36, 0, 0, 0, 0, 0, 0, 0, 1, 0, 0, 0, 0, 0, 0, 0, 0, 0, 0, 0, 0, 0, 0, 0, 0, 0, 0, 0, 0, 0, 0, 0, 0, 0, 0, 0, 0, 0, 0, 0, 0, 0, 0, 0, 0, 0, 0, 0, 0, 0, 0, 0, 0, 0, 0, 0, 0, 0, 0, 0, 0, 0, 0, 0]⟩] })), 0, [36, 0, 0, 0, 0, 0, 0, 0, 1, 0, 0, 0, 0, 0, 0, 0, 0, 0, 0, 0, 0, 0, 0, 0, 0, 0, 0, 0, 0, 0, 0, 0, 0, 0, 0, 0, 0, 0, 0, 0, 0, 0, 0, 0, 0, 0, 0, 0, 0, 0, 0, 0, 0, 0, 0, 0, 0, 0, 0, 0, 0, 0, 0, 0], false, by decide +kernel⟩, ⟨State.reset, 0, true, true, .inr (by decide +kernel)⟩, ⟨(((((((State.reset.put (HL_CFG_MODE 0) 2).put (HL_STAT_STATE 0) laneActive).putFlag (HL_STAT_SYNCED 0) true).putFlag TW_CFG_EN true).put TW_STAT_ROLE 2).onLane 0 (fun l => { l with rx := [⟨5, [36, 0, 0, 0, 0, 0, 0, 0, 2, 0, 0, 0, 0, 0, 0, 0, 0, 0, 0, 0, 0, 0, 0, 0, 0, 0, 0, 0, 0, 0, 0, 0, 0, 0, 0, 0, 0, 0, 0, 0, 0, 0, 0, 0, 0, 0, 0, 0, 0, 0, 0, 0, 0, 0, 0, 0, 0, 0, 0, 0, 0, 0, 0, 0]⟩] })).onTw (fun t => { t with join := some { start := 0, lane := 0 } })), 0, [36, 0, 0, 0, 0, 0, 0, 0, 2, 0, 0, 0, 0, 0, 0, 0, 0, 0, 0, 0, 0, 0, 0, 0, 0, 0, 0, 0, 0, 0, 0, 0, 0, 0, 0, 0, 0, 0, 0, 0, 0, 0, 0, 0, 0, 0, 0, 0, 0, 0, 0, 0, 0, 0, 0, 0, 0, 0, 0, 0, 0, 0, 0, 0], { start := 0, lane := 0 }, by decide +kernel⟩, ⟨(((((((State.reset.put (HL_CFG_MODE 0) 2).put (HL_STAT_STATE 0) laneActive).putFlag (HL_STAT_SYNCED 0) true).putFlag TW_CFG_EN true).put TW_STAT_ROLE 2).onLane 0 (fun l => { l with rx := [⟨5, [37, 0, 0, 0, 0, 0, 0, 0, 1, 0, 0, 0, 0, 0, 0, 0, 0, 0, 0, 0, 0, 0, 0, 0, 7, 8, 0, 0, 0, 0, 0, 0, 0, 0, 0, 0, 0, 0, 0, 0, 0, 0, 0, 0, 0, 0, 0, 0]⟩] })).onTw (fun t => { t with join := some { start := 0, lane := 0, at_ := some 3 } })), 0, ⟨5, [37, 0, 0, 0, 0, 0, 0, 0, 1, 0, 0, 0, 0, 0, 0, 0, 0, 0, 0, 0, 0, 0, 0, 0, 7, 8, 0, 0, 0, 0, 0, 0, 0, 0, 0, 0, 0, 0, 0, 0, 0, 0, 0, 0, 0, 0, 0, 0]⟩, { start := 0, lane := 0, at_ := some 3 }, by decide +kernel⟩, ⟨(((((((State.reset.put (HL_CFG_MODE 0) 2).put (HL_STAT_STATE 0) laneActive).putFlag (HL_STAT_SYNCED 0) true).putFlag TW_CFG_EN true).put TW_STAT_ROLE 2).onLane 0 (fun l => { l with rx := [⟨5, [37, 0, 0, 0, 0, 0, 0, 0, 0, 0, 0, 0, 32, 0, 0, 0, 0, 0, 0, 0, 0, 0, 0, 0, 7, 8, 0, 0, 0, 0, 0, 0, 0, 0, 0, 0, 0, 0, 0, 0, 0, 0, 0, 0, 0, 0, 0, 0]⟩] })).onTw (fun t => { t with join := some { start := 0, lane := 0, at_ := some 3 } })), 0, ⟨5, [37, 0, 0, 0, 0, 0, 0, 0, 0, 0, 0, 0, 32, 0, 0, 0, 0, 0, 0, 0, 0, 0, 0, 0, 7, 8, 0, 0, 0, 0, 0, 0, 0, 0, 0, 0, 0, 0, 0, 0, 0, 0, 0, 0, 0, 0, 0, 0]⟩, { start := 0, lane := 0, at_ := some 3 }, trackBase + 32, [7, 8, 0, 0, 0, 0, 0, 0, 0, 0, 0, 0, 0, 0, 0, 0], by decide +kernel, by decide +kernel, by decide +kernel, (by decide +kernel), by decide +kernel, by decide +kernel, by decide +kernel, .inl (by decide +kernel), by decide +kernel⟩, ⟨State.reset, 0, .inl (by decide +kernel)⟩, ⟨(((((((State.reset.put (HL_CFG_MODE 0) 2).put (HL_STAT_STATE 0) laneActive).putFlag (HL_STAT_SYNCED 0) true).putFlag TW_CFG_EN true)).onLane 0 (fun l => { l with rx := [⟨5, [36, 0, 0, 0, 0, 0, 0, 0, 3, 0, 0, 0, 0, 0, 0, 0, 0, 0, 0, 0, 0, 0, 0, 0, 0, 0, 0, 0, 0, 0, 0, 0, 0, 0, 0, 0, 0, 0, 0, 0, 0, 0, 0, 0, 0, 0, 0, 0, 0, 0, 0, 0, 0, 0, 0, 0, 0, 0, 0, 0, 0, 0, 0, 0]⟩] })).onTw (fun t => { t with join := some { start := 0, lane := 0, at_ := some 3 } })), 0, [36, 0, 0, 0, 0, 0, 0, 0, 3, 0, 0, 0, 0, 0, 0, 0, 0, 0, 0, 0, 0, 0, 0, 0, 0, 0, 0, 0, 0, 0, 0, 0, 0, 0, 0, 0, 0, 0, 0, 0, 0, 0, 0, 0, 0, 0, 0, 0, 0, 0, 0, 0, 0, 0, 0, 0, 0, 0, 0, 0, 0, 0, 0, 0], { start := 0, lane := 0, at_ := some 3 }, 3, by decide +kernel⟩, ⟨((((((State.reset.put (HL_CFG_MODE 0) 2).put (HL_STAT_STATE 0) laneActive).putFlag (HL_STAT_SYNCED 0) true).putFlag TW_CFG_EN true).put TW_STAT_ROLE 0).onTw (fun t => { t with xfer := some { lane := 0 } })), { lane := 0 }, rfl, by decide +kernel⟩, ⟨State.reset, .inl rfl⟩, ⟨((((((State.reset.put (HL_CFG_MODE 0) 2).put (HL_STAT_STATE 0) laneActive).putFlag (HL_STAT_SYNCED 0) true).putFlag TW_CFG_EN true).put TW_STAT_ROLE 1 |>.putFlag TW_STAT_INSTEP true).onLane 0 (fun l => { l with rx := [⟨5, [36, 0, 0, 0, 0, 0, 0, 0, 4, 0, 0, 0, 0, 0, 0, 0, 0, 0, 0, 0, 0, 0, 0, 0, 0, 0, 0, 0, 0, 0, 0, 0, 0, 0, 0, 0, 0, 0, 0, 0, 0, 0, 0, 0, 0, 0, 0, 0, 0, 0, 0, 0, 0, 0, 0, 0, 0, 0, 0, 0, 0, 0, 0, 0]⟩] })), 0, [36, 0, 0, 0, 0, 0, 0, 0, 4, 0, 0, 0, 0, 0, 0, 0, 0, 0, 0, 0, 0, 0, 0, 0, 0, 0, 0, 0, 0, 0, 0, 0, 0, 0, 0, 0, 0, 0, 0, 0, 0, 0, 0, 0, 0, 0, 0, 0, 0, 0, 0, 0, 0, 0, 0, 0, 0, 0, 0, 0, 0, 0, 0, 0], by decide +kernel⟩, ⟨((((((State.reset.put (HL_CFG_MODE 0) 2).put (HL_STAT_STATE 0) laneActive).putFlag (HL_STAT_SYNCED 0) true).putFlag TW_CFG_EN true).put TW_STAT_ROLE 0 |>.putFlag TW_STAT_INSTEP true).onLane 0 (fun l => { l with rx := [⟨5, [36, 0, 0, 0, 0, 0, 0, 0, 6, 0, 0, 0, 0, 0, 0, 0, 0, 0, 0, 0, 0, 0, 0, 0, 0, 0, 0, 0, 0, 0, 0, 0, 0, 0, 0, 0, 0, 0, 0, 0, 0, 0, 0, 0, 0, 0, 0, 0, 0, 0, 0, 0, 0, 0, 0, 0, 0, 0, 0, 0, 0, 0, 0, 0]⟩] })), 0, [36, 0, 0, 0, 0, 0, 0, 0, 6, 0, 0, 0, 0, 0, 0, 0, 0, 0, 0, 0, 0, 0, 0, 0, 0, 0, 0, 0, 0, 0, 0, 0, 0, 0, 0, 0, 0, 0, 0, 0, 0, 0, 0, 0, 0, 0, 0, 0, 0, 0, 0, 0, 0, 0, 0, 0, 0, 0, 0, 0, 0, 0, 0, 0], by decide +kernel⟩, ⟨((((State.reset.put (HL_CFG_MODE 0) 2).put (HL_STAT_STATE 0) laneActive).putFlag (HL_STAT_SYNCED 0) true).putFlag TW_CFG_EN true), 0, 0, by decide +kernel⟩, ⟨((((((State.reset.put (HL_CFG_MODE 0) 2).put (HL_STAT_STATE 0) laneActive).putFlag (HL_STAT_SYNCED 0) true).putFlag TW_CFG_EN true).put TW_STAT_ROLE 2).onTw (fun t => { t with join := some { start := 0, lane := 0, epoch := 9 } })), { start := 0, lane := 0, epoch := 9 }, .epoch, rfl, by decide +kernel, .inl (by decide +kernel)⟩, ⟨((((State.reset.put (HL_CFG_MODE 0) 2).put (HL_STAT_STATE 0) laneActive).putFlag (HL_STAT_SYNCED 0) true).putFlag TW_CFG_EN true).put TW_STAT_ROLE 3, .epoch, by decide +kernel⟩, ⟨{ ((((State.reset.put (HL_CFG_MODE 0) 2).put (HL_STAT_STATE 0) laneActive).putFlag (HL_STAT_SYNCED 0) true).putFlag TW_CFG_EN true).put TW_STAT_ROLE 1 with fn := 2000 }, by decide +kernel⟩, ⟨{ ((((((State.reset.put (HL_CFG_MODE 0) 2).put (HL_STAT_STATE 0) laneActive).putFlag (HL_STAT_SYNCED 0) true).putFlag TW_CFG_EN true).put TW_STAT_ROLE 3 |>.put PM_MODE_MODE 2).onTw (fun t => { t with failTt := some 5 })) with tt := 2000000000 }, 0, 5, by decide +kernel⟩, ⟨State.reset, by decide +kernel⟩⟩

/-- The hypotheses of `HostQueuesMoveCommandsAndCompletions` can be met together. -/
theorem meets_HostQueuesMoveCommandsAndCompletions :
    (∃ (s : State) (q : Queue) (f : Fin 2) (v : Word), (s.flag HI_STAT_READY = true) ∧ (qFunc q = f) ∧ (s.flag (HQ_CTRL_EN q) = true) ∧ (s.flag (HQ_STAT_RUN q) = true) ∧ (v.toNat < (2 ^ s.get (HQ_SIZE_SQ_LOG2 q)) ∧ ((s.get (HQ_SQ_TAIL_IDX q) + (2 ^ s.get (HQ_SIZE_SQ_LOG2 q)) - s.get (HQ_SQ_HEAD_IDX q) % (2 ^ s.get (HQ_SIZE_SQ_LOG2 q))) % (2 ^ s.get (HQ_SIZE_SQ_LOG2 q))) + ((v.toNat + (2 ^ s.get (HQ_SIZE_SQ_LOG2 q)) - s.get (HQ_SQ_TAIL_IDX q) % (2 ^ s.get (HQ_SIZE_SQ_LOG2 q))) % (2 ^ s.get (HQ_SIZE_SQ_LOG2 q))) ≤ (2 ^ s.get (HQ_SIZE_SQ_LOG2 q)) - 1)) ∧
    (∃ (s : State) (q : Queue) (f : Fin 2) (v : Word), (s.flag HI_STAT_READY = true) ∧ (qFunc q = f) ∧ (s.flag (HQ_CTRL_EN q) = true) ∧ (s.flag (HQ_STAT_RUN q) = true) ∧ (¬ (v.toNat < (2 ^ s.get (HQ_SIZE_SQ_LOG2 q)) ∧ ((s.get (HQ_SQ_TAIL_IDX q) + (2 ^ s.get (HQ_SIZE_SQ_LOG2 q)) - s.get (HQ_SQ_HEAD_IDX q) % (2 ^ s.get (HQ_SIZE_SQ_LOG2 q))) % (2 ^ s.get (HQ_SIZE_SQ_LOG2 q))) + ((v.toNat + (2 ^ s.get (HQ_SIZE_SQ_LOG2 q)) - s.get (HQ_SQ_TAIL_IDX q) % (2 ^ s.get (HQ_SIZE_SQ_LOG2 q))) % (2 ^ s.get (HQ_SIZE_SQ_LOG2 q))) ≤ (2 ^ s.get (HQ_SIZE_SQ_LOG2 q)) - 1))) ∧
    (∃ (s : State) (q : Queue) (f : Fin 2) (v : Word), (s.flag HI_STAT_READY = true) ∧ (qFunc q = f) ∧ (s.flag (HQ_CTRL_EN q) = true) ∧ (s.flag (HQ_STAT_RUN q) = true) ∧ (v.toNat < (2 ^ s.get (HQ_SIZE_CQ_LOG2 q)) ∧ ((v.toNat + (2 ^ s.get (HQ_SIZE_CQ_LOG2 q)) - s.get (HQ_CQ_HEAD_IDX q) % (2 ^ s.get (HQ_SIZE_CQ_LOG2 q))) % (2 ^ s.get (HQ_SIZE_CQ_LOG2 q))) ≤ ((s.get (HQ_CQ_TAIL_IDX q) + (2 ^ s.get (HQ_SIZE_CQ_LOG2 q)) - s.get (HQ_CQ_HEAD_IDX q) % (2 ^ s.get (HQ_SIZE_CQ_LOG2 q))) % (2 ^ s.get (HQ_SIZE_CQ_LOG2 q))))) ∧
    (∃ (s : State) (q : Queue) (f : Fin 2) (v : Word), (s.flag HI_STAT_READY = true) ∧ (qFunc q = f) ∧ (s.flag (HQ_CTRL_EN q) = true) ∧ (s.flag (HQ_STAT_RUN q) = true) ∧ (¬ (v.toNat < (2 ^ s.get (HQ_SIZE_CQ_LOG2 q)) ∧ ((v.toNat + (2 ^ s.get (HQ_SIZE_CQ_LOG2 q)) - s.get (HQ_CQ_HEAD_IDX q) % (2 ^ s.get (HQ_SIZE_CQ_LOG2 q))) % (2 ^ s.get (HQ_SIZE_CQ_LOG2 q))) ≤ ((s.get (HQ_CQ_TAIL_IDX q) + (2 ^ s.get (HQ_SIZE_CQ_LOG2 q)) - s.get (HQ_CQ_HEAD_IDX q) % (2 ^ s.get (HQ_SIZE_CQ_LOG2 q))) % (2 ^ s.get (HQ_SIZE_CQ_LOG2 q)))))) ∧
    (∃ (s : State) (q : Queue) (f : Fin 2) (v : Word), (s.flag HI_STAT_READY = true) ∧ (qFunc q ≠ f ∨ s.flag (HQ_CTRL_EN q) = false)) ∧
    (∃ (s : State) (q : Queue) (b : Bytes), (s.fetchTurn = some q.val)) ∧
    (∃ (s : State) (q : Queue) (p : Option Bytes), (s.fetchTurn ≠ some q.val)) ∧
    (∃ (s : State) (q : Queue) (c : Cpl) (l : List Cpl), (s.canWrite q = true) ∧ ((s.hq q).ready = c :: l)) ∧
    (∃ (s : State) (q : Queue), (s.canWrite q = false ∨ (s.hq q).ready = [])) ∧
    (∃ (s : State) (q : Queue) (f : Fin 2) (v : Byte), (qFunc q = f) ∧ (s.get (HQ_VEC_VEC q) = v.toNat) ∧ (s.cqDue q = true)) ∧
    (∃ (s : State) (f : Fin 2) (v : Byte), (∀ q : Queue, qFunc q = f → s.get (HQ_VEC_VEC q) = v.toNat → s.cqDue q = false) ∧ (v ≠ 0 ∨ s.host.isrDue.get f = false)) ∧
    (∃ (s : State) (q : Queue) (w : HqWriter), (w = .master0 ∨ w = .func (qFunc q)) ∧ (s.flag (HQ_CTRL_EN q) = false) ∧ (s.flag HI_STAT_READY = true) ∧ (4 ≤ s.get (HQ_SIZE_SQ_LOG2 q) ∧ s.get (HQ_SIZE_SQ_LOG2 q) ≤ 12) ∧ (4 ≤ s.get (HQ_SIZE_CQ_LOG2 q) ∧ s.get (HQ_SIZE_CQ_LOG2 q) ≤ 12)) ∧
    (∃ (s : State) (q : Queue), (s.flag (HQ_CTRL_EN q) = false) ∧ (s.flag HI_STAT_READY = false)) ∧
    (∃ (s : State) (q : Queue) (w : HqWriter), (w = .master0 ∨ w = .func (qFunc q))) ∧
    (∃ (s : State) (q : Queue) (f : Fin 2), (qFunc q ≠ f)) ∧
    (∃ (s : State) (f : Fin 2) (off : Nat) (v : Word), (off < 0x1000000) ∧ (off / 0x1000 ≠ 0x600) ∧ (off / 0x1000 ≠ 0x601)) ∧
    (∃ (s : State) (f : Fin 2) (w : Nat) (v : Word), (w < 1024) ∧ (w % 4 = 1 ∨ w % 4 = 2)) ∧
    (∃ (s : State) (q : Queue), (s.takesPackets q = true) ∧ ((s.hq q).chain ≠ []) ∧ ((s.hq q).inbox.any pktEnd = false) ∧ ((s.hq q).chainTt + s.get HI_CFG_CHAIN_TO * 125000 ≤ s.tt)) ∧
    (∃ (s : State) (q : Queue), (s.takesPackets q = false ∨ (s.hq q).chain = [] ∨ (s.hq q).inbox.any pktEnd = true ∨ s.tt < (s.hq q).chainTt + s.get HI_CFG_CHAIN_TO * 125000)) ∧
    (∃ (s u : State) (c : Staging) (r : OpRow), (s.host.staging = [c]) ∧ (s.served .blob = some u) ∧ (s.mode ≠ modeLockdown) ∧ (qFunc c.q = 0) ∧ (pktRow (c.cmds.headD []) = some r) ∧ (pktClean (c.cmds.headD []) r = true) ∧ (pktRanges (c.cmds.headD []) = true)) :=
  ⟨⟨((((((((State.reset.putFlag HI_STAT_READY true).putFlag HI_STAT_LINK_UP true).putFlag HI_STAT_PF0_BME true).putFlag (HQ_CTRL_EN 0) true).putFlag (HQ_STAT_RUN 0) true).put (HQ_SIZE_SQ_LOG2 0) 4).put (HQ_SIZE_CQ_LOG2 0) 4).onHost (fun h => { h with msixOn := h.msixOn.set 0 true })), 0, 0, 3, by decide +kernel⟩, ⟨((((((((State.reset.putFlag HI_STAT_READY true).putFlag HI_STAT_LINK_UP true).putFlag HI_STAT_PF0_BME true).putFlag (HQ_CTRL_EN 0) true).putFlag (HQ_STAT_RUN 0) true).put (HQ_SIZE_SQ_LOG2 0) 4).put (HQ_SIZE_CQ_LOG2 0) 4).onHost (fun h => { h with msixOn := h.msixOn.set 0 true })), 0, 0, 16, by decide +kernel⟩, ⟨(((((((((State.reset.putFlag HI_STAT_READY true).putFlag HI_STAT_LINK_UP true).putFlag HI_STAT_PF0_BME true).putFlag (HQ_CTRL_EN 0) true).putFlag (HQ_STAT_RUN 0) true).put (HQ_SIZE_SQ_LOG2 0) 4).put (HQ_SIZE_CQ_LOG2 0) 4).onHost (fun h => { h with msixOn := h.msixOn.set 0 true })).put (HQ_CQ_TAIL_IDX 0) 4), 0, 0, 3, by decide +kernel⟩, ⟨((((((((State.reset.putFlag HI_STAT_READY true).putFlag HI_STAT_LINK_UP true).putFlag HI_STAT_PF0_BME true).putFlag (HQ_CTRL_EN 0) true).putFlag (HQ_STAT_RUN 0) true).put (HQ_SIZE_SQ_LOG2 0) 4).put (HQ_SIZE_CQ_LOG2 0) 4).onHost (fun h => { h with msixOn := h.msixOn.set 0 true })), 0, 0, 1, by decide +kernel⟩, ⟨((((((((State.reset.putFlag HI_STAT_READY true).putFlag HI_STAT_LINK_UP true).putFlag HI_STAT_PF0_BME true).putFlag (HQ_CTRL_EN 0) true).putFlag (HQ_STAT_RUN 0) true).put (HQ_SIZE_SQ_LOG2 0) 4).put (HQ_SIZE_CQ_LOG2 0) 4).onHost (fun h => { h with msixOn := h.msixOn.set 0 true })), 1, 0, 1, by decide +kernel, .inr (by decide +kernel)⟩, ⟨(((((((((State.reset.putFlag HI_STAT_READY true).putFlag HI_STAT_LINK_UP true).putFlag HI_STAT_PF0_BME true).putFlag (HQ_CTRL_EN 0) true).putFlag (HQ_STAT_RUN 0) true).put (HQ_SIZE_SQ_LOG2 0) 4).put (HQ_SIZE_CQ_LOG2 0) 4).onHost (fun h => { h with msixOn := h.msixOn.set 0 true })).put (HQ_SQ_TAIL_IDX 0) 4), 0, [1], by decide +kernel⟩, ⟨((((((((State.reset.putFlag HI_STAT_READY true).putFlag HI_STAT_LINK_UP true).putFlag HI_STAT_PF0_BME true).putFlag (HQ_CTRL_EN 0) true).putFlag (HQ_STAT_RUN 0) true).put (HQ_SIZE_SQ_LOG2 0) 4).put (HQ_SIZE_CQ_LOG2 0) 4).onHost (fun h => { h with msixOn := h.msixOn.set 0 true })), 0, none, by decide +kernel⟩, ⟨(((((((((State.reset.putFlag HI_STAT_READY true).putFlag HI_STAT_LINK_UP true).putFlag HI_STAT_PF0_BME true).putFlag (HQ_CTRL_EN 0) true).putFlag (HQ_STAT_RUN 0) true).put (HQ_SIZE_SQ_LOG2 0) 4).put (HQ_SIZE_CQ_LOG2 0) 4).onHost (fun h => { h with msixOn := h.msixOn.set 0 true })).onHq 0 (fun h => { h with ready := [⟨7, 0, false, false, 5, [1, 2]⟩] })), 0, ⟨7, 0, false, false, 5, [1, 2]⟩, [], by decide +kernel, rfl⟩, ⟨State.reset, 0, .inr rfl⟩, ⟨(((((((((State.reset.putFlag HI_STAT_READY true).putFlag HI_STAT_LINK_UP true).putFlag HI_STAT_PF0_BME true).putFlag (HQ_CTRL_EN 0) true).putFlag (HQ_STAT_RUN 0) true).put (HQ_SIZE_SQ_LOG2 0) 4).put (HQ_SIZE_CQ_LOG2 0) 4).onHost (fun h => { h with msixOn := h.msixOn.set 0 true })).put (HQ_UNSIG_N 0) 300), 0, 0, 1, by decide +kernel⟩, ⟨State.reset, 0, 0, by decide +kernel, .inr rfl⟩, ⟨(((((((((State.reset.putFlag HI_STAT_READY true).putFlag HI_STAT_LINK_UP true).putFlag HI_STAT_PF0_BME true).putFlag (HQ_CTRL_EN 0) true).putFlag (HQ_STAT_RUN 0) true).put (HQ_SIZE_SQ_LOG2 0) 4).put (HQ_SIZE_CQ_LOG2 0) 4).onHost (fun h => { h with msixOn := h.msixOn.set 0 true })).putFlag (HQ_CTRL_EN 0) false), 0, .func 0, .inr rfl, by decide +kernel⟩, ⟨State.reset, 0, by decide +kernel⟩, ⟨((((((((State.reset.putFlag HI_STAT_READY true).putFlag HI_STAT_LINK_UP true).putFlag HI_STAT_PF0_BME true).putFlag (HQ_CTRL_EN 0) true).putFlag (HQ_STAT_RUN 0) true).put (HQ_SIZE_SQ_LOG2 0) 4).put (HQ_SIZE_CQ_LOG2 0) 4).onHost (fun h => { h with msixOn := h.msixOn.set 0 true })), 0, .master0, .inl rfl⟩, ⟨((((((((State.reset.putFlag HI_STAT_READY true).putFlag HI_STAT_LINK_UP true).putFlag HI_STAT_PF0_BME true).putFlag (HQ_CTRL_EN 0) true).putFlag (HQ_STAT_RUN 0) true).put (HQ_SIZE_SQ_LOG2 0) 4).put (HQ_SIZE_CQ_LOG2 0) 4).onHost (fun h => { h with msixOn := h.msixOn.set 0 true })), 0, 1, by decide⟩, ⟨State.reset, 0, 0x10000, 1, by decide, by decide, by decide⟩, ⟨State.reset, 1, 5, 9, by decide, .inl (by decide)⟩, ⟨{ ((((((((((State.reset.putFlag HI_STAT_READY true).putFlag HI_STAT_LINK_UP true).putFlag HI_STAT_PF0_BME true).putFlag (HQ_CTRL_EN 0) true).putFlag (HQ_STAT_RUN 0) true).put (HQ_SIZE_SQ_LOG2 0) 4).put (HQ_SIZE_CQ_LOG2 0) 4).onHost (fun h => { h with msixOn := h.msixOn.set 0 true })).onHq 0 (fun h => { h with chain := [[2, 1]] })).put (LS_STAT_STATE 0) 0) with tt := 1000000000 }, 0, by decide +kernel⟩, ⟨State.reset, 0, .inr (.inl rfl)⟩, ⟨(((((((((State.reset.putFlag HI_STAT_READY true).putFlag HI_STAT_LINK_UP true).putFlag HI_STAT_PF0_BME true).putFlag (HQ_CTRL_EN 0) true).putFlag (HQ_STAT_RUN 0) true).put (HQ_SIZE_SQ_LOG2 0) 4).put (HQ_SIZE_CQ_LOG2 0) 4).onHost (fun h => { h with msixOn := h.msixOn.set 0 true })).onHost (fun h => { h with staging := [{ q := 0, cmds := [[0, 4, 0, 0x80, 7, 0, 0, 0, 0, 0, 0, 0, 0, 0, 0, 0, 0, 0, 0, 0, 0x10] ++ List.replicate 43 0], blob := true }] })), ((((((((((State.reset.putFlag HI_STAT_READY true).putFlag HI_STAT_LINK_UP true).putFlag HI_STAT_PF0_BME true).putFlag (HQ_CTRL_EN 0) true).putFlag (HQ_STAT_RUN 0) true).put (HQ_SIZE_SQ_LOG2 0) 4).put (HQ_SIZE_CQ_LOG2 0) 4).onHost (fun h => { h with msixOn := h.msixOn.set 0 true })).onHost (fun h => { h with staging := [{ q := 0, cmds := [[0, 4, 0, 0x80, 7, 0, 0, 0, 0, 0, 0, 0, 0, 0, 0, 0, 0, 0, 0, 0, 0x10] ++ List.replicate 43 0], blob := true }] })).syncEngine.onSag (fun x => { x with engine := x.engine.tail })), { q := 0, cmds := [[0, 4, 0, 0x80, 7, 0, 0, 0, 0, 0, 0, 0, 0, 0, 0, 0, 0, 0, 0, 0, 0x10] ++ List.replicate 43 0], blob := true }, ⟨0x400, true, false, true, [(16, 5), (24, 2)]⟩, by decide +kernel⟩⟩

/-- The hypotheses of `TheHostIsWatched` can be met together. -/
theorem meets_TheHostIsWatched :
    (∃ (s : State), (s.get HI_HOST_WD_PER ≠ 0) ∧ (s.host.lost = false) ∧ (s.host.hbTt + s.get HI_HOST_WD_PER * 1250000 ≤ s.tt)) ∧
    (∃ (s : State), (s.get HI_HOST_WD_PER = 0 ∨ s.host.lost = true ∨ s.tt < s.host.hbTt + s.get HI_HOST_WD_PER * 1250000)) ∧
    (∃ (s : State) (m : Master), (m.val = 0 ∨ m.val = 11)) ∧
    (∃ (s : State) (m : Master), (m.val ≠ 0) ∧ (m.val ≠ 11) ∧ (s.reaches m (HI_HOST_HB) = true)) :=
  ⟨⟨{ State.reset.put HI_HOST_WD_PER 2 with tt := 2500000 }, by decide +kernel⟩, ⟨State.reset, .inl (by decide +kernel)⟩, ⟨State.reset, 11, .inr rfl⟩, ⟨State.reset, 3, by decide, by decide, by decide +kernel⟩⟩

/-- The hypotheses of `TheEndpointFollowsItsLink` can be met together. -/
theorem meets_TheEndpointFollowsItsLink :
    (∃ (s : State), (s.flag HI_STAT_LINK_UP = false)) ∧
    (∃ (s : State), (s.flag HI_STAT_LINK_UP = true)) ∧
    (∃ (s : State) (k : Fin 8), (s.flag HI_STAT_LINK_UP = true)) ∧
    (∃ (s : State) (k : Fin 8), (s.flag HI_STAT_LINK_UP = false)) ∧
    (∃ (s : State), (s.flag HI_STAT_LINK_UP = true)) ∧
    (∃ (s : State), (s.flag HI_STAT_LINK_UP = false)) ∧
    (∃ (s : State) (f : Fin 2) (q : Queue), (qFunc q = f)) ∧
    (∃ (s : State) (f : Fin 2) (q : Queue) (c : Cpl), (qFunc q = f) ∧ (s.flag (HQ_CTRL_EN q) = true) ∧ (s.flag (HQ_STAT_RUN q) = true) ∧ (s.flag HI_STAT_LINK_UP = true) ∧ (s.inD3 f = true) ∧ (s.flag (pfBme f) = true) ∧ (s.host.msixOn.get f = true) ∧ ((s.hq q).ready = [c]) ∧ (c.held = true)) ∧
    (∃ (s : State) (f : Fin 2), (s.flag (pfBme f) = false)) ∧
    (∃ (s : State) (off : Nat) (d : Bytes), (off < 0x700000000) ∧ (s.flag HI_STAT_LINK_UP = true) ∧ (s.deniesSome 11 (hbmBase + off) d.length = false) ∧ (hbmBase + off + d.length ≤ hbmEnd) ∧ (∀ e ∈ s.prot.lat, e.1 + 8 ≤ hbmBase + off ∨ hbmBase + off + d.length ≤ e.1)) ∧
    (∃ (s : State) (off : Nat) (d : Bytes), (off < 0x700000000) ∧ (s.flag HI_STAT_LINK_UP = true) ∧ (s.deniesSome 11 (hbmBase + off) d.length = true)) ∧
    (∃ (s : State) (off : Nat) (d : Bytes), (0x700000000 ≤ off ∨ s.flag HI_STAT_LINK_UP = false)) ∧
    (∃ (s u : State) (l : List ImageUse) (j : FlashJob), (s.host.checks = .flash :: l) ∧ (s.host.flash = some j) ∧ (s.served .image = some u)) ∧
    (∃ (s u : State) (l : List ImageUse) (c : Staging) (i : Nat) (is : List Nat), (s.host.checks = .chain :: l) ∧ (s.host.staging = [c]) ∧ (c.images = i :: is) ∧ (is ≠ []) ∧ (c.blob = false) ∧ (c.checked = true) ∧ (s.mode ≠ modeLockdown) ∧ (s.served .image = some u)) :=
  ⟨⟨State.reset, by decide +kernel⟩, ⟨(State.reset.putFlag HI_STAT_LINK_UP true), by decide +kernel⟩, ⟨(State.reset.putFlag HI_STAT_LINK_UP true), 2, by decide +kernel⟩, ⟨State.reset, 2, by decide +kernel⟩, ⟨(((((((((State.reset.putFlag HI_STAT_READY true).putFlag HI_STAT_LINK_UP true).putFlag HI_STAT_PF0_BME true).putFlag (HQ_CTRL_EN 0) true).putFlag (HQ_STAT_RUN 0) true).put (HQ_SIZE_SQ_LOG2 0) 4).put (HQ_SIZE_CQ_LOG2 0) 4).onHost (fun h => { h with msixOn := h.msixOn.set 0 true })).onHq 0 (fun h => { h with ready := [⟨7, 0, false, false, 5, [1, 2]⟩] })), by decide +kernel⟩, ⟨State.reset, by decide +kernel⟩, ⟨(((((((((State.reset.putFlag HI_STAT_READY true).putFlag HI_STAT_LINK_UP true).putFlag HI_STAT_PF0_BME true).putFlag (HQ_CTRL_EN 0) true).putFlag (HQ_STAT_RUN 0) true).put (HQ_SIZE_SQ_LOG2 0) 4).put (HQ_SIZE_CQ_LOG2 0) 4).onHost (fun h => { h with msixOn := h.msixOn.set 0 true })).onHq 0 (fun h => { h with ready := [⟨7, 0, false, false, 5, [1, 2]⟩] })), 0, 0, by decide⟩, ⟨((((((((((State.reset.putFlag HI_STAT_READY true).putFlag HI_STAT_LINK_UP true).putFlag HI_STAT_PF0_BME true).putFlag (HQ_CTRL_EN 0) true).putFlag (HQ_STAT_RUN 0) true).put (HQ_SIZE_SQ_LOG2 0) 4).put (HQ_SIZE_CQ_LOG2 0) 4).onHost (fun h => { h with msixOn := h.msixOn.set 0 true })).onHq 0 (fun h => { h with ready := [⟨7, 0, false, true, 5, [1, 2]⟩] })).put HI_STAT_PF0_D 3), 0, 0, ⟨7, 0, false, true, 5, [1, 2]⟩, by decide +kernel, by decide +kernel, by decide +kernel, (by decide +kernel), by decide +kernel, by decide +kernel, by decide +kernel, rfl, rfl⟩, ⟨State.reset, 0, by decide +kernel⟩, ⟨((((((State.reset.putFlag HI_STAT_LINK_UP true).put (FW_WIN_BASE_PAGE 0) 0x1000000).put (FW_WIN_LIMIT_PAGE 0) 0x16FFFFF).put (FW_WIN_MASK_RD 0) 0x800).put (FW_WIN_MASK_WR 0) 0x800).putFlag (FW_WIN_CTRL_EN 0) true), 0x1000, [1, 2, 3], by decide +kernel⟩, ⟨(State.reset.putFlag HI_STAT_LINK_UP true), 0x1000, [1, 2, 3], by decide +kernel⟩, ⟨State.reset, 0, [], .inr (by decide +kernel)⟩, ⟨(((((((((State.reset.putFlag HI_STAT_READY true).putFlag HI_STAT_LINK_UP true).putFlag HI_STAT_PF0_BME true).putFlag (HQ_CTRL_EN 0) true).putFlag (HQ_STAT_RUN 0) true).put (HQ_SIZE_SQ_LOG2 0) 4).put (HQ_SIZE_CQ_LOG2 0) 4).onHost (fun h => { h with msixOn := h.msixOn.set 0 true })).onHost (fun h => { h with checks := [.flash], flash := some { q := 0, cmd := [], src := 0, len := 128, base := 0x2000000 } })), ((((((((((State.reset.putFlag HI_STAT_READY true).putFlag HI_STAT_LINK_UP true).putFlag HI_STAT_PF0_BME true).putFlag (HQ_CTRL_EN 0) true).putFlag (HQ_STAT_RUN 0) true).put (HQ_SIZE_SQ_LOG2 0) 4).put (HQ_SIZE_CQ_LOG2 0) 4).onHost (fun h => { h with msixOn := h.msixOn.set 0 true })).onHost (fun h => { h with checks := [.flash], flash := some { q := 0, cmd := [], src := 0, len := 128, base := 0x2000000 } })).syncEngine.onSag (fun x => { x with engine := x.engine.tail })), [], { q := 0, cmd := [], src := 0, len := 128, base := 0x2000000 }, rfl, rfl, by decide +kernel⟩, ⟨(((((((((State.reset.putFlag HI_STAT_READY true).putFlag HI_STAT_LINK_UP true).putFlag HI_STAT_PF0_BME true).putFlag (HQ_CTRL_EN 0) true).putFlag (HQ_STAT_RUN 0) true).put (HQ_SIZE_SQ_LOG2 0) 4).put (HQ_SIZE_CQ_LOG2 0) 4).onHost (fun h => { h with msixOn := h.msixOn.set 0 true })).onHost (fun h => { h with checks := [.chain, .chain], staging := [{ q := 0, cmds := [[5, 2], [5, 2]], blob := false, checked := true, images := [0, 1] }] })), ((((((((((State.reset.putFlag HI_STAT_READY true).putFlag HI_STAT_LINK_UP true).putFlag HI_STAT_PF0_BME true).putFlag (HQ_CTRL_EN 0) true).putFlag (HQ_STAT_RUN 0) true).put (HQ_SIZE_SQ_LOG2 0) 4).put (HQ_SIZE_CQ_LOG2 0) 4).onHost (fun h => { h with msixOn := h.msixOn.set 0 true })).onHost (fun h => { h with checks := [.chain, .chain], staging := [{ q := 0, cmds := [[5, 2], [5, 2]], blob := false, checked := true, images := [0, 1] }] })).syncEngine.onSag (fun x => { x with engine := x.engine.tail })), [.chain], { q := 0, cmds := [[5, 2], [5, 2]], blob := false, checked := true, images := [0, 1] }, 0, [1], rfl, rfl, rfl, by decide +kernel⟩⟩

/-- The hypotheses of `ImmediateCommandsOfTheHost` can be met together. -/
theorem meets_ImmediateCommandsOfTheHost :
    (∃ (s : State) (q : Queue) (p : Bytes) (rest : List Bytes), (s.takesPackets q = true) ∧ (s.host.staging = []) ∧ ((s.hq q).inbox = p :: rest) ∧ ((s.hq q).chain = []) ∧ ((s.hq q).waitEnd = false) ∧ (pktPos p = 0) ∧ (pktEnd p = true) ∧ (pktOp p = opNop) ∧ (s.nowRefused q p = stOk)) ∧
    (∃ (s : State) (q : Queue) (p : Bytes) (rest : List Bytes), (s.takesPackets q = true) ∧ (s.host.staging = []) ∧ ((s.hq q).inbox = p :: rest) ∧ ((s.hq q).chain = []) ∧ ((s.hq q).waitEnd = false) ∧ (pktPos p = 0) ∧ (pktEnd p = true) ∧ (pktOp p = opIdentify) ∧ (s.nowRefused q p = stOk)) ∧
    (∃ (s : State) (q : Queue) (p : Bytes) (rest : List Bytes), (s.takesPackets q = true) ∧ (s.host.staging = []) ∧ ((s.hq q).inbox = p :: rest) ∧ ((s.hq q).chain = []) ∧ ((s.hq q).waitEnd = false) ∧ (pktPos p = 0) ∧ (pktEnd p = true) ∧ (pktOp p = opGetStatus) ∧ (s.nowRefused q p = stOk)) ∧
    (∃ (s : State) (q : Queue) (p : Bytes) (rest : List Bytes), (s.takesPackets q = true) ∧ (s.host.staging = []) ∧ ((s.hq q).inbox = p :: rest) ∧ ((s.hq q).chain = []) ∧ ((s.hq q).waitEnd = false) ∧ (pktPos p = 0) ∧ (pktEnd p = true) ∧ (pktOp p = opReadLog) ∧ (s.nowRefused q p = stOk) ∧ (s.flag HI_STAT_LINK_UP = true) ∧ (s.inD3 (qFunc q) = false) ∧ (s.flag (pfBme (qFunc q)) = true)) ∧
    (∃ (s : State) (q : Queue) (p : Bytes) (rest : List Bytes), (s.takesPackets q = true) ∧ (s.host.staging = []) ∧ ((s.hq q).inbox = p :: rest) ∧ ((s.hq q).chain = []) ∧ ((s.hq q).waitEnd = false) ∧ (pktPos p = 0) ∧ (pktEnd p = true) ∧ (pktOp p = opAttest) ∧ (s.nowRefused q p = stOk) ∧ (s.flag SG_LC_ID_VALID = true) ∧ (s.sag.idKey = true) ∧ (s.host.attest = none) ∧ (7875 ≤ field p 56 2)) ∧
    (∃ (s : State) (q : Queue) (p : Bytes) (rest : List Bytes), (s.takesPackets q = true) ∧ (s.host.staging = []) ∧ ((s.hq q).inbox = p :: rest) ∧ ((s.hq q).chain = []) ∧ ((s.hq q).waitEnd = false) ∧ (pktPos p = 0) ∧ (pktEnd p = true) ∧ (pktOp p = opAttest) ∧ (s.nowRefused q p = stOk) ∧ (field p 56 2 < 7875)) ∧
    (∃ (s : State) (q : Queue) (p : Bytes) (rest : List Bytes), (s.takesPackets q = true) ∧ (s.host.staging = []) ∧ ((s.hq q).inbox = p :: rest) ∧ ((s.hq q).chain = []) ∧ ((s.hq q).waitEnd = false) ∧ (pktPos p = 0) ∧ (pktEnd p = true) ∧ (pktOp p = opAttest) ∧ (s.nowRefused q p = stOk) ∧ (7875 ≤ field p 56 2) ∧ (s.flag SG_LC_ID_VALID = false)) ∧
    (∃ (s : State) (q : Queue) (p : Bytes) (rest : List Bytes), (s.takesPackets q = true) ∧ (s.host.staging = []) ∧ ((s.hq q).inbox = p :: rest) ∧ ((s.hq q).chain = []) ∧ ((s.hq q).waitEnd = false) ∧ (pktPos p = 0) ∧ (pktEnd p = true) ∧ (pktOp p = opAttest) ∧ (s.nowRefused q p = stOk) ∧ (7875 ≤ field p 56 2) ∧ (s.flag SG_LC_ID_VALID = true) ∧ (s.sag.idKey = true) ∧ (s.host.attest ≠ none)) ∧
    (∃ (s u : State) (q : Queue) (p : Bytes), (s.host.attest = some (q.val, p)) ∧ (s.flag (HQ_CTRL_EN q) = true) ∧ (s.served .attest = some u)) ∧
    (∃ (s u : State) (q : Queue) (p : Bytes), (s.host.attest = some (q.val, p)) ∧ (s.flag (HQ_CTRL_EN q) = true) ∧ (s.flag SG_LC_ID_VALID = true) ∧ (s.sag.idKey = true) ∧ (s.flag HI_STAT_LINK_UP = true) ∧ (s.inD3 (qFunc q) = false) ∧ (s.flag (pfBme (qFunc q)) = true) ∧ (s.served .attest = some u)) ∧
    (∃ (s : State) (q : Queue) (p : Bytes) (rest : List Bytes), (s.takesPackets q = true) ∧ (s.host.staging = []) ∧ ((s.hq q).inbox = p :: rest) ∧ ((s.hq q).chain = []) ∧ ((s.hq q).waitEnd = false) ∧ (pktPos p = 0) ∧ (pktEnd p = true) ∧ (pktOp p = opKernelLoad) ∧ (s.nowRefused q p = stOk) ∧ (s.follows = false) ∧ (s.leads = false) ∧ (field p 27 1 = 0) ∧ (s.flag VE_KLOAD_CTRL_BUSY = false) ∧ (s.reaches 0 VE_KLOAD_CTRL = true)) ∧
    (∃ (s : State) (q : Queue) (p : Bytes) (rest : List Bytes), (s.takesPackets q = true) ∧ (s.host.staging = []) ∧ ((s.hq q).inbox = p :: rest) ∧ ((s.hq q).chain = []) ∧ ((s.hq q).waitEnd = false) ∧ (pktPos p = 0) ∧ (pktEnd p = true) ∧ (pktOp p = opKernelLoad) ∧ (s.nowRefused q p = stOk) ∧ (s.follows = false) ∧ (s.leads = false) ∧ (field p 27 1 = 1) ∧ (s.stagedNext < stageMax) ∧ (s.reaches 0 VE_KLOAD_CTRL = true)) ∧
    (∃ (s : State) (q : Queue) (p : Bytes) (rest : List Bytes), (s.takesPackets q = true) ∧ (s.host.staging = []) ∧ ((s.hq q).inbox = p :: rest) ∧ ((s.hq q).chain = []) ∧ ((s.hq q).waitEnd = false) ∧ (pktPos p = 0) ∧ (pktEnd p = true) ∧ (pktOp p = opKernelLoad ∨ (pktOp p = opVeCancel ∧ field p 16 1 < s.part.groups)) ∧ (s.nowRefused q p = stOk) ∧ (s.follows = false) ∧ (s.leads = true)) ∧
    (∃ (s : State) (q : Queue) (p : Bytes) (rest : List Bytes), (s.takesPackets q = true) ∧ (s.host.staging = []) ∧ ((s.hq q).inbox = p :: rest) ∧ ((s.hq q).chain = []) ∧ ((s.hq q).waitEnd = false) ∧ (pktPos p = 0) ∧ (pktEnd p = true) ∧ (pktOp p = opKernelLoad) ∧ (s.nowRefused q p = stOk) ∧ (s.follows = false) ∧ (s.leads = false) ∧ (field p 27 1 = 0) ∧ (s.flag VE_KLOAD_CTRL_BUSY = true)) ∧
    (∃ (s : State) (q : Queue) (p : Bytes) (rest : List Bytes), (s.takesPackets q = true) ∧ (s.host.staging = []) ∧ ((s.hq q).inbox = p :: rest) ∧ ((s.hq q).chain = []) ∧ ((s.hq q).waitEnd = false) ∧ (pktPos p = 0) ∧ (pktEnd p = true) ∧ (pktOp p = opVeCancel) ∧ (s.nowRefused q p = stOk) ∧ (s.follows = false) ∧ (s.leads = false) ∧ (field p 16 1 < s.part.groups)) ∧
    (∃ (s : State) (q : Queue) (p : Bytes) (rest : List Bytes), (s.takesPackets q = true) ∧ (s.host.staging = []) ∧ ((s.hq q).inbox = p :: rest) ∧ ((s.hq q).chain = []) ∧ ((s.hq q).waitEnd = false) ∧ (pktPos p = 0) ∧ (pktEnd p = true) ∧ (pktOp p = opVeCancel) ∧ (s.nowRefused q p = stOk) ∧ (s.follows = false) ∧ (s.part.groups ≤ field p 16 1)) ∧
    (∃ (s : State) (q : Queue) (p : Bytes) (rest : List Bytes), (s.takesPackets q = true) ∧ (s.host.staging = []) ∧ ((s.hq q).inbox = p :: rest) ∧ ((s.hq q).chain = []) ∧ ((s.hq q).waitEnd = false) ∧ (pktPos p = 0) ∧ (pktEnd p = true) ∧ (pktOp p = opKernelLoad) ∧ (s.nowRefused q p = stOk) ∧ (s.follows = true)) ∧
    (∃ (s : State) (q : Queue) (p : Bytes) (rest : List Bytes), (s.takesPackets q = true) ∧ (s.host.staging = []) ∧ ((s.hq q).inbox = p :: rest) ∧ ((s.hq q).chain = []) ∧ ((s.hq q).waitEnd = false) ∧ (pktPos p = 0) ∧ (pktEnd p = true) ∧ (pktOp p = opVeCancel) ∧ (s.nowRefused q p = stOk) ∧ (s.follows = true)) ∧
    (∃ (s : State) (q : Queue) (p : Bytes) (rest : List Bytes) (c : Coil), (s.takesPackets q = true) ∧ (s.host.staging = []) ∧ ((s.hq q).inbox = p :: rest) ∧ ((s.hq q).chain = []) ∧ ((s.hq q).waitEnd = false) ∧ (pktPos p = 0) ∧ (pktEnd p = true) ∧ (pktOp p = opArchRead) ∧ (s.nowRefused q p = stOk) ∧ (s.flag HI_STAT_LINK_UP = true) ∧ (s.inD3 (qFunc q) = false) ∧ (s.flag (pfBme (qFunc q)) = true) ∧ (s.coilById ((p.drop 16).take 16) = some c) ∧ (((c.durablePart (field p 52 1)).drop (field p 32 8)).take (field p 48 4) ≠ [])) ∧
    (∃ (s : State) (q : Queue) (p : Bytes) (rest : List Bytes), (s.takesPackets q = true) ∧ (s.host.staging = []) ∧ ((s.hq q).inbox = p :: rest) ∧ ((s.hq q).chain = []) ∧ ((s.hq q).waitEnd = false) ∧ (pktPos p = 0) ∧ (pktEnd p = true) ∧ (pktOp p = opArchRead) ∧ (s.nowRefused q p = stOk) ∧ (s.coilById ((p.drop 16).take 16) = none)) ∧
    (∃ (s : State) (q : Queue) (p : Bytes) (rest : List Bytes), (s.takesPackets q = true) ∧ (s.host.staging = []) ∧ ((s.hq q).inbox = p :: rest) ∧ ((s.hq q).chain = []) ∧ ((s.hq q).waitEnd = false) ∧ (pktPos p = 0) ∧ (pktEnd p = true) ∧ (pktOp p = opArchInfo) ∧ (s.nowRefused q p = stOk)) ∧
    (∃ (s : State) (q : Queue) (p : Bytes) (rest : List Bytes) (c : Coil) (o blk : Nat), (s.takesPackets q = true) ∧ (s.host.staging = []) ∧ ((s.hq q).inbox = p :: rest) ∧ ((s.hq q).chain = []) ∧ ((s.hq q).waitEnd = false) ∧ (pktPos p = 0) ∧ (pktEnd p = true) ∧ (pktOp p = opArchRead) ∧ (s.nowRefused q p = stOk) ∧ (s.flag HI_STAT_LINK_UP = true) ∧ (s.inD3 (qFunc q) = false) ∧ (s.flag (pfBme (qFunc q)) = true) ∧ (s.coilById ((p.drop 16).take 16) = some c) ∧ (field p 32 8 < o) ∧ (o < field p 32 8 + (((c.durablePart (field p 52 1)).drop (field p 32 8)).take (field p 48 4)).length)) ∧
    (∃ (s : State) (q : Queue), (s.takesPackets q = false)) ∧
    (∃ (s : State) (q : Queue), (s.takesPackets q = true) ∧ ((s.hq q).inbox = [])) :=
  ⟨⟨((((((((((State.reset.putFlag HI_STAT_READY true).putFlag HI_STAT_LINK_UP true).putFlag HI_STAT_PF0_BME true).putFlag (HQ_CTRL_EN 0) true).putFlag (HQ_STAT_RUN 0) true).put (HQ_SIZE_SQ_LOG2 0) 4).put (HQ_SIZE_CQ_LOG2 0) 4).onHost (fun h => { h with msixOn := h.msixOn.set 0 true })).put (LS_STAT_STATE 0) 0).onHq 0 (fun h => { h with inbox := [([1, 0, 0, 128, 7] ++ List.replicate 59 0)] })), 0, ([1, 0, 0, 128, 7] ++ List.replicate 59 0), [], by decide +kernel, rfl, rfl, rfl, rfl, by decide +kernel⟩, ⟨((((((((((State.reset.putFlag HI_STAT_READY true).putFlag HI_STAT_LINK_UP true).putFlag HI_STAT_PF0_BME true).putFlag (HQ_CTRL_EN 0) true).putFlag (HQ_STAT_RUN 0) true).put (HQ_SIZE_SQ_LOG2 0) 4).put (HQ_SIZE_CQ_LOG2 0) 4).onHost (fun h => { h with msixOn := h.msixOn.set 0 true })).put (LS_STAT_STATE 0) 0).onHq 0 (fun h => { h with inbox := [([2, 0, 0, 128, 7] ++ List.replicate 59 0)] })), 0, ([2, 0, 0, 128, 7] ++ List.replicate 59 0), [], by decide +kernel, rfl, rfl, rfl, rfl, by decide +kernel⟩, ⟨((((((((((State.reset.putFlag HI_STAT_READY true).putFlag HI_STAT_LINK_UP true).putFlag HI_STAT_PF0_BME true).putFlag (HQ_CTRL_EN 0) true).putFlag (HQ_STAT_RUN 0) true).put (HQ_SIZE_SQ_LOG2 0) 4).put (HQ_SIZE_CQ_LOG2 0) 4).onHost (fun h => { h with msixOn := h.msixOn.set 0 true })).put (LS_STAT_STATE 0) 0).onHq 0 (fun h => { h with inbox := [([3, 0, 0, 128, 7] ++ List.replicate 59 0)] })), 0, ([3, 0, 0, 128, 7] ++ List.replicate 59 0), [], by decide +kernel, rfl, rfl, rfl, rfl, by decide +kernel⟩, ⟨((((((((((State.reset.putFlag HI_STAT_READY true).putFlag HI_STAT_LINK_UP true).putFlag HI_STAT_PF0_BME true).putFlag (HQ_CTRL_EN 0) true).putFlag (HQ_STAT_RUN 0) true).put (HQ_SIZE_SQ_LOG2 0) 4).put (HQ_SIZE_CQ_LOG2 0) 4).onHost (fun h => { h with msixOn := h.msixOn.set 0 true })).put (LS_STAT_STATE 0) 0).onHq 0 (fun h => { h with inbox := [([4, 0, 0, 128, 7, 0, 0, 0, 0, 0, 0, 0, 0, 0, 0, 0, 0, 0, 0, 0, 0, 0, 0, 0, 0, 3] ++ List.replicate 38 0)] })), 0, ([4, 0, 0, 128, 7, 0, 0, 0, 0, 0, 0, 0, 0, 0, 0, 0, 0, 0, 0, 0, 0, 0, 0, 0, 0, 3] ++ List.replicate 38 0), [], by decide +kernel, rfl, rfl, rfl, rfl, by decide +kernel⟩, ⟨((((((((((((State.reset.putFlag HI_STAT_READY true).putFlag HI_STAT_LINK_UP true).putFlag HI_STAT_PF0_BME true).putFlag (HQ_CTRL_EN 0) true).putFlag (HQ_STAT_RUN 0) true).put (HQ_SIZE_SQ_LOG2 0) 4).put (HQ_SIZE_CQ_LOG2 0) 4).onHost (fun h => { h with msixOn := h.msixOn.set 0 true })).put (LS_STAT_STATE 0) 0).onHq 0 (fun h => { h with inbox := [([1, 4, 0, 128, 7, 0, 0, 0, 0, 0, 0, 0, 0, 0, 0, 0, 0, 0, 0, 0, 0, 0, 0, 0, 0, 0, 0, 0, 0, 0, 0, 0, 0, 0, 0, 0, 0, 0, 0, 0, 0, 0, 0, 0, 0, 0, 0, 0, 64, 0, 0, 0, 0, 0, 0, 0, 195, 30] ++ List.replicate 6 0)] })).putFlag SG_LC_ID_VALID true).onSag (fun x => { x with idKey := true })), 0, ([1, 4, 0, 128, 7, 0, 0, 0, 0, 0, 0, 0, 0, 0, 0, 0, 0, 0, 0, 0, 0, 0, 0, 0, 0, 0, 0, 0, 0, 0, 0, 0, 0, 0, 0, 0, 0, 0, 0, 0, 0, 0, 0, 0, 0, 0, 0, 0, 64, 0, 0, 0, 0, 0, 0, 0, 195, 30] ++ List.replicate 6 0), [], by decide +kernel, rfl, rfl, rfl, rfl, by decide +kernel⟩, ⟨((((((((((State.reset.putFlag HI_STAT_READY true).putFlag HI_STAT_LINK_UP true).putFlag HI_STAT_PF0_BME true).putFlag (HQ_CTRL_EN 0) true).putFlag (HQ_STAT_RUN 0) true).put (HQ_SIZE_SQ_LOG2 0) 4).put (HQ_SIZE_CQ_LOG2 0) 4).onHost (fun h => { h with msixOn := h.msixOn.set 0 true })).put (LS_STAT_STATE 0) 0).onHq 0 (fun h => { h with inbox := [([1, 4, 0, 128, 7] ++ List.replicate 59 0)] })), 0, ([1, 4, 0, 128, 7] ++ List.replicate 59 0), [], by decide +kernel, rfl, rfl, rfl, rfl, by decide +kernel⟩, ⟨((((((((((State.reset.putFlag HI_STAT_READY true).putFlag HI_STAT_LINK_UP true).putFlag HI_STAT_PF0_BME true).putFlag (HQ_CTRL_EN 0) true).putFlag (HQ_STAT_RUN 0) true).put (HQ_SIZE_SQ_LOG2 0) 4).put (HQ_SIZE_CQ_LOG2 0) 4).onHost (fun h => { h with msixOn := h.msixOn.set 0 true })).put (LS_STAT_STATE 0) 0).onHq 0 (fun h => { h with inbox := [([1, 4, 0, 128, 7, 0, 0, 0, 0, 0, 0, 0, 0, 0, 0, 0, 0, 0, 0, 0, 0, 0, 0, 0, 0, 0, 0, 0, 0, 0, 0, 0, 0, 0, 0, 0, 0, 0, 0, 0, 0, 0, 0, 0, 0, 0, 0, 0, 64, 0, 0, 0, 0, 0, 0, 0, 195, 30] ++ List.replicate 6 0)] })), 0, ([1, 4, 0, 128, 7, 0, 0, 0, 0, 0, 0, 0, 0, 0, 0, 0, 0, 0, 0, 0, 0, 0, 0, 0, 0, 0, 0, 0, 0, 0, 0, 0, 0, 0, 0, 0, 0, 0, 0, 0, 0, 0, 0, 0, 0, 0, 0, 0, 64, 0, 0, 0, 0, 0, 0, 0, 195, 30] ++ List.replicate 6 0), [], by decide +kernel, rfl, rfl, rfl, rfl, by decide +kernel⟩, ⟨(((((((((((((State.reset.putFlag HI_STAT_READY true).putFlag HI_STAT_LINK_UP true).putFlag HI_STAT_PF0_BME true).putFlag (HQ_CTRL_EN 0) true).putFlag (HQ_STAT_RUN 0) true).put (HQ_SIZE_SQ_LOG2 0) 4).put (HQ_SIZE_CQ_LOG2 0) 4).onHost (fun h => { h with msixOn := h.msixOn.set 0 true })).put (LS_STAT_STATE 0) 0).onHq 0 (fun h => { h with inbox := [([1, 4, 0, 128, 7, 0, 0, 0, 0, 0, 0, 0, 0, 0, 0, 0, 0, 0, 0, 0, 0, 0, 0, 0, 0, 0, 0, 0, 0, 0, 0, 0, 0, 0, 0, 0, 0, 0, 0, 0, 0, 0, 0, 0, 0, 0, 0, 0, 64, 0, 0, 0, 0, 0, 0, 0, 195, 30] ++ List.replicate 6 0)] })).putFlag SG_LC_ID_VALID true).onSag (fun x => { x with idKey := true })).onHost (fun h => { h with attest := some (0, [5]) })), 0, ([1, 4, 0, 128, 7, 0, 0, 0, 0, 0, 0, 0, 0, 0, 0, 0, 0, 0, 0, 0, 0, 0, 0, 0, 0, 0, 0, 0, 0, 0, 0, 0, 0, 0, 0, 0, 0, 0, 0, 0, 0, 0, 0, 0, 0, 0, 0, 0, 64, 0, 0, 0, 0, 0, 0, 0, 195, 30] ++ List.replicate 6 0), [], by decide +kernel, rfl, rfl, rfl, rfl, by decide +kernel⟩, ⟨(((((((((State.reset.putFlag HI_STAT_READY true).putFlag HI_STAT_LINK_UP true).putFlag HI_STAT_PF0_BME true).putFlag (HQ_CTRL_EN 0) true).putFlag (HQ_STAT_RUN 0) true).put (HQ_SIZE_SQ_LOG2 0) 4).put (HQ_SIZE_CQ_LOG2 0) 4).onHost (fun h => { h with msixOn := h.msixOn.set 0 true })).onHost (fun h => { h with attest := some (0, [5]) })), ((((((((((State.reset.putFlag HI_STAT_READY true).putFlag HI_STAT_LINK_UP true).putFlag HI_STAT_PF0_BME true).putFlag (HQ_CTRL_EN 0) true).putFlag (HQ_STAT_RUN 0) true).put (HQ_SIZE_SQ_LOG2 0) 4).put (HQ_SIZE_CQ_LOG2 0) 4).onHost (fun h => { h with msixOn := h.msixOn.set 0 true })).onHost (fun h => { h with attest := some (0, [5]) })).syncEngine.onSag (fun x => { x with engine := x.engine.tail })), 0, [5], rfl, by decide +kernel⟩, ⟨(((((((((((State.reset.putFlag HI_STAT_READY true).putFlag HI_STAT_LINK_UP true).putFlag HI_STAT_PF0_BME true).putFlag (HQ_CTRL_EN 0) true).putFlag (HQ_STAT_RUN 0) true).put (HQ_SIZE_SQ_LOG2 0) 4).put (HQ_SIZE_CQ_LOG2 0) 4).onHost (fun h => { h with msixOn := h.msixOn.set 0 true })).putFlag SG_LC_ID_VALID true).onSag (fun x => { x with idKey := true })).onHost (fun h => { h with attest := some (0, [5]) })), ((((((((((((State.reset.putFlag HI_STAT_READY true).putFlag HI_STAT_LINK_UP true).putFlag HI_STAT_PF0_BME true).putFlag (HQ_CTRL_EN 0) true).putFlag (HQ_STAT_RUN 0) true).put (HQ_SIZE_SQ_LOG2 0) 4).put (HQ_SIZE_CQ_LOG2 0) 4).onHost (fun h => { h with msixOn := h.msixOn.set 0 true })).putFlag SG_LC_ID_VALID true).onSag (fun x => { x with idKey := true })).onHost (fun h => { h with attest := some (0, [5]) })).syncEngine.onSag (fun x => { x with engine := x.engine.tail })), 0, [5], rfl, by decide +kernel⟩, ⟨((((((((((State.reset.putFlag HI_STAT_READY true).putFlag HI_STAT_LINK_UP true).putFlag HI_STAT_PF0_BME true).putFlag (HQ_CTRL_EN 0) true).putFlag (HQ_STAT_RUN 0) true).put (HQ_SIZE_SQ_LOG2 0) 4).put (HQ_SIZE_CQ_LOG2 0) 4).onHost (fun h => { h with msixOn := h.msixOn.set 0 true })).put (LS_STAT_STATE 0) 0).onHq 0 (fun h => { h with inbox := [([6, 2, 0, 128, 7, 0, 0, 0, 0, 0, 0, 0, 0, 0, 0, 0, 0, 0, 0, 0, 16, 0, 0, 0, 0, 1] ++ List.replicate 38 0)] })), 0, ([6, 2, 0, 128, 7, 0, 0, 0, 0, 0, 0, 0, 0, 0, 0, 0, 0, 0, 0, 0, 16, 0, 0, 0, 0, 1] ++ List.replicate 38 0), [], by decide +kernel, rfl, rfl, rfl, rfl, by decide +kernel⟩, ⟨((((((((((State.reset.putFlag HI_STAT_READY true).putFlag HI_STAT_LINK_UP true).putFlag HI_STAT_PF0_BME true).putFlag (HQ_CTRL_EN 0) true).putFlag (HQ_STAT_RUN 0) true).put (HQ_SIZE_SQ_LOG2 0) 4).put (HQ_SIZE_CQ_LOG2 0) 4).onHost (fun h => { h with msixOn := h.msixOn.set 0 true })).put (LS_STAT_STATE 0) 0).onHq 0 (fun h => { h with inbox := [([6, 2, 0, 128, 7, 0, 0, 0, 0, 0, 0, 0, 0, 0, 0, 0, 0, 0, 0, 0, 0, 0, 0, 0, 0, 0, 0, 1, 133] ++ List.replicate 35 0)] })), 0, ([6, 2, 0, 128, 7, 0, 0, 0, 0, 0, 0, 0, 0, 0, 0, 0, 0, 0, 0, 0, 0, 0, 0, 0, 0, 0, 0, 1, 133] ++ List.replicate 35 0), [], by decide +kernel, rfl, rfl, rfl, rfl, by decide +kernel⟩, ⟨((((((((((((State.reset.putFlag HI_STAT_READY true).putFlag HI_STAT_LINK_UP true).putFlag HI_STAT_PF0_BME true).putFlag (HQ_CTRL_EN 0) true).putFlag (HQ_STAT_RUN 0) true).put (HQ_SIZE_SQ_LOG2 0) 4).put (HQ_SIZE_CQ_LOG2 0) 4).onHost (fun h => { h with msixOn := h.msixOn.set 0 true })).putFlag TW_CFG_EN true).put TW_STAT_ROLE 0).put (LS_STAT_STATE 0) 0).onHq 0 (fun h => { h with inbox := [([6, 2, 0, 128, 7, 0, 0, 0, 0, 0, 0, 0, 0, 0, 0, 0, 0, 0, 0, 0, 16, 0, 0, 0, 0, 1] ++ List.replicate 38 0)] })), 0, ([6, 2, 0, 128, 7, 0, 0, 0, 0, 0, 0, 0, 0, 0, 0, 0, 0, 0, 0, 0, 16, 0, 0, 0, 0, 1] ++ List.replicate 38 0), [], by decide +kernel, rfl, rfl, rfl, rfl, by decide +kernel, by decide +kernel, .inl (by decide +kernel), by decide +kernel⟩, ⟨(((((((((((State.reset.putFlag HI_STAT_READY true).putFlag HI_STAT_LINK_UP true).putFlag HI_STAT_PF0_BME true).putFlag (HQ_CTRL_EN 0) true).putFlag (HQ_STAT_RUN 0) true).put (HQ_SIZE_SQ_LOG2 0) 4).put (HQ_SIZE_CQ_LOG2 0) 4).onHost (fun h => { h with msixOn := h.msixOn.set 0 true })).putFlag VE_KLOAD_CTRL_BUSY true).put (LS_STAT_STATE 0) 0).onHq 0 (fun h => { h with inbox := [([6, 2, 0, 128, 7, 0, 0, 0, 0, 0, 0, 0, 0, 0, 0, 0, 0, 0, 0, 0, 16, 0, 0, 0, 0, 1] ++ List.replicate 38 0)] })), 0, ([6, 2, 0, 128, 7, 0, 0, 0, 0, 0, 0, 0, 0, 0, 0, 0, 0, 0, 0, 0, 16, 0, 0, 0, 0, 1] ++ List.replicate 38 0), [], by decide +kernel, rfl, rfl, rfl, rfl, by decide +kernel⟩, ⟨((((((((((State.reset.putFlag HI_STAT_READY true).putFlag HI_STAT_LINK_UP true).putFlag HI_STAT_PF0_BME true).putFlag (HQ_CTRL_EN 0) true).putFlag (HQ_STAT_RUN 0) true).put (HQ_SIZE_SQ_LOG2 0) 4).put (HQ_SIZE_CQ_LOG2 0) 4).onHost (fun h => { h with msixOn := h.msixOn.set 0 true })).put (LS_STAT_STATE 0) 0).onHq 0 (fun h => { h with inbox := [([7, 2, 0, 128, 7, 0, 0, 0, 0, 0, 0, 0, 0, 0, 0, 0, 2, 1, 0, 0, 9] ++ List.replicate 43 0)] })), 0, ([7, 2, 0, 128, 7, 0, 0, 0, 0, 0, 0, 0, 0, 0, 0, 0, 2, 1, 0, 0, 9] ++ List.replicate 43 0), [], by decide +kernel, rfl, rfl, rfl, rfl, by decide +kernel⟩, ⟨{ ((((((((((State.reset.putFlag HI_STAT_READY true).putFlag HI_STAT_LINK_UP true).putFlag HI_STAT_PF0_BME true).putFlag (HQ_CTRL_EN 0) true).putFlag (HQ_STAT_RUN 0) true).put (HQ_SIZE_SQ_LOG2 0) 4).put (HQ_SIZE_CQ_LOG2 0) 4).onHost (fun h => { h with msixOn := h.msixOn.set 0 true })).put (LS_STAT_STATE 0) 0).onHq 0 (fun h => { h with inbox := [([7, 2, 0, 128, 7, 0, 0, 0, 0, 0, 0, 0, 0, 0, 0, 0, 6] ++ List.replicate 47 0)] })) with part := .sk7332 }, 0, ([7, 2, 0, 128, 7, 0, 0, 0, 0, 0, 0, 0, 0, 0, 0, 0, 6] ++ List.replicate 47 0), [], by decide +kernel, rfl, rfl, rfl, rfl, by decide +kernel⟩, ⟨((((((((((((State.reset.putFlag HI_STAT_READY true).putFlag HI_STAT_LINK_UP true).putFlag HI_STAT_PF0_BME true).putFlag (HQ_CTRL_EN 0) true).putFlag (HQ_STAT_RUN 0) true).put (HQ_SIZE_SQ_LOG2 0) 4).put (HQ_SIZE_CQ_LOG2 0) 4).onHost (fun h => { h with msixOn := h.msixOn.set 0 true })).putFlag TW_CFG_EN true).put TW_STAT_ROLE 1).put (LS_STAT_STATE 0) 0).onHq 0 (fun h => { h with inbox := [([6, 2, 0, 128, 7, 0, 0, 0, 0, 0, 0, 0, 0, 0, 0, 0, 0, 0, 0, 0, 16, 0, 0, 0, 0, 1] ++ List.replicate 38 0)] })), 0, ([6, 2, 0, 128, 7, 0, 0, 0, 0, 0, 0, 0, 0, 0, 0, 0, 0, 0, 0, 0, 16, 0, 0, 0, 0, 1] ++ List.replicate 38 0), [], by decide +kernel, rfl, rfl, rfl, rfl, by decide +kernel⟩, ⟨((((((((((((State.reset.putFlag HI_STAT_READY true).putFlag HI_STAT_LINK_UP true).putFlag HI_STAT_PF0_BME true).putFlag (HQ_CTRL_EN 0) true).putFlag (HQ_STAT_RUN 0) true).put (HQ_SIZE_SQ_LOG2 0) 4).put (HQ_SIZE_CQ_LOG2 0) 4).onHost (fun h => { h with msixOn := h.msixOn.set 0 true })).putFlag TW_CFG_EN true).put TW_STAT_ROLE 1).put (LS_STAT_STATE 0) 0).onHq 0 (fun h => { h with inbox := [([7, 2, 0, 128, 7, 0, 0, 0, 0, 0, 0, 0, 0, 0, 0, 0, 2] ++ List.replicate 47 0)] })), 0, ([7, 2, 0, 128, 7, 0, 0, 0, 0, 0, 0, 0, 0, 0, 0, 0, 2] ++ List.replicate 47 0), [], by decide +kernel, rfl, rfl, rfl, rfl, by decide +kernel⟩, ⟨((((((((((((State.reset.putFlag HI_STAT_READY true).putFlag HI_STAT_LINK_UP true).putFlag HI_STAT_PF1_BME true).putFlag (HQ_CTRL_EN 63) true).putFlag (HQ_STAT_RUN 63) true).put (HQ_SIZE_SQ_LOG2 63) 4).put (HQ_SIZE_CQ_LOG2 63) 4).onHost (fun h => { h with msixOn := h.msixOn.set 1 true })).put (LS_STAT_STATE 0) 0)).onHq 63 (fun h => { h with inbox := [([1, 3, 0, 128, 7, 0, 0, 0, 0, 0, 0, 0, 0, 0, 0, 0, 1, 1, 1, 1, 1, 1, 1, 1, 1, 1, 1, 1, 1, 1, 1, 1, 0, 0, 0, 0, 0, 0, 0, 0, 0, 0, 0, 0, 0, 0, 0, 0, 64, 0, 0, 0, 1] ++ List.replicate 11 0)] })).onArch (fun a => { a with coils := [({ seq := 0, dom := none, start := 0, id := List.replicate 16 1, recs := [(1, List.replicate 100 5)], durable := 1 } : Coil)] })), 63, ([1, 3, 0, 128, 7, 0, 0, 0, 0, 0, 0, 0, 0, 0, 0, 0, 1, 1, 1, 1, 1, 1, 1, 1, 1, 1, 1, 1, 1, 1, 1, 1, 0, 0, 0, 0, 0, 0, 0, 0, 0, 0, 0, 0, 0, 0, 0, 0, 64, 0, 0, 0, 1] ++ List.replicate 11 0), [], ({ seq := 0, dom := none, start := 0, id := List.replicate 16 1, recs := [(1, List.replicate 100 5)], durable := 1 } : Coil), by decide +kernel, rfl, rfl, rfl, rfl, by decide +kernel⟩, ⟨((((((((((((State.reset.putFlag HI_STAT_READY true).putFlag HI_STAT_LINK_UP true).putFlag HI_STAT_PF1_BME true).putFlag (HQ_CTRL_EN 63) true).putFlag (HQ_STAT_RUN 63) true).put (HQ_SIZE_SQ_LOG2 63) 4).put (HQ_SIZE_CQ_LOG2 63) 4).onHost (fun h => { h with msixOn := h.msixOn.set 1 true })).put (LS_STAT_STATE 0) 0)).onHq 63 (fun h => { h with inbox := [([1, 3, 0, 128, 7, 0, 0, 0, 0, 0, 0, 0, 0, 0, 0, 0, 0, 0, 0, 0, 0, 0, 0, 0, 0, 0, 0, 0, 0, 0, 0, 0, 0, 0, 0, 0, 0, 0, 0, 0, 0, 0, 0, 0, 0, 0, 0, 0, 64] ++ List.replicate 15 0)] })).onArch (fun a => { a with coils := [({ seq := 0, dom := none, start := 0, id := List.replicate 16 1, recs := [(1, List.replicate 100 5)], durable := 1 } : Coil)] })), 63, ([1, 3, 0, 128, 7, 0, 0, 0, 0, 0, 0, 0, 0, 0, 0, 0, 0, 0, 0, 0, 0, 0, 0, 0, 0, 0, 0, 0, 0, 0, 0, 0, 0, 0, 0, 0, 0, 0, 0, 0, 0, 0, 0, 0, 0, 0, 0, 0, 64] ++ List.replicate 15 0), [], by decide +kernel, rfl, rfl, rfl, rfl, by decide +kernel⟩, ⟨((((((((((((State.reset.putFlag HI_STAT_READY true).putFlag HI_STAT_LINK_UP true).putFlag HI_STAT_PF1_BME true).putFlag (HQ_CTRL_EN 63) true).putFlag (HQ_STAT_RUN 63) true).put (HQ_SIZE_SQ_LOG2 63) 4).put (HQ_SIZE_CQ_LOG2 63) 4).onHost (fun h => { h with msixOn := h.msixOn.set 1 true })).put (LS_STAT_STATE 0) 0)).onHq 63 (fun h => { h with inbox := [([2, 3, 0, 128, 7, 0, 0, 0, 0, 0, 0, 0, 0, 0, 0, 0, 1, 1, 1, 1, 1, 1, 1, 1, 1, 1, 1, 1, 1, 1, 1, 1] ++ List.replicate 32 0)] })).onArch (fun a => { a with coils := [({ seq := 0, dom := none, start := 0, id := List.replicate 16 1, recs := [(1, List.replicate 100 5)], durable := 1 } : Coil)] })), 63, ([2, 3, 0, 128, 7, 0, 0, 0, 0, 0, 0, 0, 0, 0, 0, 0, 1, 1, 1, 1, 1, 1, 1, 1, 1, 1, 1, 1, 1, 1, 1, 1] ++ List.replicate 32 0), [], by decide +kernel, rfl, rfl, rfl, rfl, by decide +kernel⟩, ⟨((((((((((((State.reset.putFlag HI_STAT_READY true).putFlag HI_STAT_LINK_UP true).putFlag HI_STAT_PF1_BME true).putFlag (HQ_CTRL_EN 63) true).putFlag (HQ_STAT_RUN 63) true).put (HQ_SIZE_SQ_LOG2 63) 4).put (HQ_SIZE_CQ_LOG2 63) 4).onHost (fun h => { h with msixOn := h.msixOn.set 1 true })).put (LS_STAT_STATE 0) 0)).onHq 63 (fun h => { h with inbox := [([1, 3, 0, 128, 7, 0, 0, 0, 0, 0, 0, 0, 0, 0, 0, 0, 1, 1, 1, 1, 1, 1, 1, 1, 1, 1, 1, 1, 1, 1, 1, 1, 0, 0, 0, 0, 0, 0, 0, 0, 0, 0, 0, 0, 0, 0, 0, 0, 64, 0, 0, 0, 1] ++ List.replicate 11 0)] })).onArch (fun a => { a with coils := [({ seq := 0, dom := none, start := 0, id := List.replicate 16 1, recs := [(1, List.replicate 100 5)], durable := 1 } : Coil)] })), 63, ([1, 3, 0, 128, 7, 0, 0, 0, 0, 0, 0, 0, 0, 0, 0, 0, 1, 1, 1, 1, 1, 1, 1, 1, 1, 1, 1, 1, 1, 1, 1, 1, 0, 0, 0, 0, 0, 0, 0, 0, 0, 0, 0, 0, 0, 0, 0, 0, 64, 0, 0, 0, 1] ++ List.replicate 11 0), [], ({ seq := 0, dom := none, start := 0, id := List.replicate 16 1, recs := [(1, List.replicate 100 5)], durable := 1 } : Coil), 30, 6, by decide +kernel, rfl, rfl, rfl, rfl, by decide +kernel⟩, ⟨State.reset, 0, by decide +kernel⟩, ⟨(((((((((State.reset.putFlag HI_STAT_READY true).putFlag HI_STAT_LINK_UP true).putFlag HI_STAT_PF0_BME true).putFlag (HQ_CTRL_EN 0) true).putFlag (HQ_STAT_RUN 0) true).put (HQ_SIZE_SQ_LOG2 0) 4).put (HQ_SIZE_CQ_LOG2 0) 4).onHost (fun h => { h with msixOn := h.msixOn.set 0 true })).put (LS_STAT_STATE 0) 0), 0, by decide +kernel⟩⟩

/-- The hypotheses of `StagedCommandsOfTheHost` can be met together. -/
theorem meets_StagedCommandsOfTheHost :
    (∃ (s : State) (q : Queue) (p : Bytes) (rest : List Bytes), (s.takesPackets q = true) ∧ (s.host.staging = []) ∧ ((s.hq q).inbox = p :: rest) ∧ ((s.hq q).chain = []) ∧ ((s.hq q).waitEnd = false) ∧ (pktPos p = 0) ∧ (pktEnd p = true) ∧ (pktOp p = opWriteReg) ∧ (s.follows = false) ∧ (s.mode ≠ modeLockdown) ∧ (s.host.order.find? s.takesPackets = some q.val) ∧ (s.needsAuth p = false) ∧ (((((s.syncEngine.onHq q (fun h => { h with inbox := rest })).onHost (fun h => { h with order := h.order.erase q.val })).waitEnd q false []).onHost (fun h => { h with staging := [{ q := q.val, cmds := [p], blob := false }] })).checkChain (qFunc q) false [p] = none) ∧ (s.fn < s.efnOf [p]) ∧ (s.efnOf [p] ≤ s.fn + 2 ^ 20) ∧ (s.chains.length < 256) ∧ (s.chainWrites (s.efnOf [p]) + chainCost [p] + (if s.efnOf [p] = s.fn + 1 then s.stage.length else 0) ≤ stageMax)) ∧
    (∃ (s : State) (q : Queue) (p : Bytes) (rest : List Bytes), (s.takesPackets q = true) ∧ (s.host.staging = []) ∧ ((s.hq q).inbox = p :: rest) ∧ ((s.hq q).chain = []) ∧ ((s.hq q).waitEnd = false) ∧ (pktPos p = 0) ∧ (pktEnd p = true) ∧ (pktOp p = opModeReq) ∧ (s.follows = false) ∧ (s.mode ≠ modeLockdown) ∧ (s.host.order.find? s.takesPackets = some q.val) ∧ (s.needsAuth p = false) ∧ (s.checkCmd p false = stOk) ∧ ((∃ r, pktRow p = some r ∧ r.accepts (qFunc q) = true ∧ pktClean p r = true)) ∧ (pktRanges p = true) ∧ (s.fn < s.efnOf [p]) ∧ (s.efnOf [p] ≤ s.fn + 2 ^ 20) ∧ (s.chains.length < 256) ∧ (s.chainWrites (s.efnOf [p]) + chainCost [p] + (if s.efnOf [p] = s.fn + 1 then s.stage.length else 0) ≤ stageMax)) ∧
    (∃ (s : State) (q : Queue) (p : Bytes) (rest : List Bytes), (s.takesPackets q = true) ∧ (s.host.staging = []) ∧ ((s.hq q).inbox = p :: rest) ∧ ((s.hq q).chain = []) ∧ ((s.hq q).waitEnd = false) ∧ (pktPos p = 0) ∧ (pktEnd p = true) ∧ (pktOp p = opEventInsert) ∧ (s.follows = false) ∧ (s.mode ≠ modeLockdown) ∧ (s.host.order.find? s.takesPackets = some q.val) ∧ (s.needsAuth p = false) ∧ (s.checkCmd p false = stOk) ∧ ((∃ r, pktRow p = some r ∧ r.accepts (qFunc q) = true ∧ pktClean p r = true)) ∧ (pktRanges p = true) ∧ (s.fn < s.efnOf [p]) ∧ (s.efnOf [p] ≤ s.fn + 2 ^ 20) ∧ (s.chains.length < 256) ∧ (s.chainWrites (s.efnOf [p]) + chainCost [p] + (if s.efnOf [p] = s.fn + 1 then s.stage.length else 0) ≤ stageMax)) ∧
    (∃ (s : State) (q : Queue) (p : Bytes) (rest : List Bytes), (s.takesPackets q = true) ∧ (s.host.staging = []) ∧ ((s.hq q).inbox = p :: rest) ∧ ((s.hq q).chain = []) ∧ ((s.hq q).waitEnd = false) ∧ (pktPos p = 0) ∧ (pktEnd p = true) ∧ (pktOp p = opEventCancel) ∧ (s.follows = false) ∧ (s.mode ≠ modeLockdown) ∧ (s.host.order.find? s.takesPackets = some q.val) ∧ (s.needsAuth p = false) ∧ (s.checkCmd p false = stOk) ∧ ((∃ r, pktRow p = some r ∧ r.accepts (qFunc q) = true ∧ pktClean p r = true)) ∧ (pktRanges p = true) ∧ (s.fn < s.efnOf [p]) ∧ (s.efnOf [p] ≤ s.fn + 2 ^ 20) ∧ (s.chains.length < 256) ∧ (s.chainWrites (s.efnOf [p]) + chainCost [p] + (if s.efnOf [p] = s.fn + 1 then s.stage.length else 0) ≤ stageMax)) ∧
    (∃ (s : State) (q : Queue) (p : Bytes) (rest : List Bytes), (s.takesPackets q = true) ∧ (s.host.staging = []) ∧ ((s.hq q).inbox = p :: rest) ∧ ((s.hq q).chain = []) ∧ ((s.hq q).waitEnd = false) ∧ (pktPos p = 0) ∧ (pktEnd p = true) ∧ (pktOp p = opHeadCtrl) ∧ (s.follows = false) ∧ (s.mode ≠ modeLockdown) ∧ (s.host.order.find? s.takesPackets = some q.val) ∧ (s.needsAuth p = false) ∧ (s.checkCmd p false = stOk) ∧ ((∃ r, pktRow p = some r ∧ r.accepts (qFunc q) = true ∧ pktClean p r = true)) ∧ (pktRanges p = true) ∧ (s.fn < s.efnOf [p]) ∧ (s.efnOf [p] ≤ s.fn + 2 ^ 20) ∧ (s.chains.length < 256) ∧ (s.chainWrites (s.efnOf [p]) + chainCost [p] + (if s.efnOf [p] = s.fn + 1 then s.stage.length else 0) ≤ stageMax)) ∧
    (∃ (s : State) (q : Queue) (p : Bytes) (rest : List Bytes), (s.takesPackets q = true) ∧ (s.host.staging = []) ∧ ((s.hq q).inbox = p :: rest) ∧ ((s.hq q).chain = []) ∧ ((s.hq q).waitEnd = false) ∧ (pktPos p = 0) ∧ (pktEnd p = true) ∧ (pktOp p = opTrackDecide) ∧ (s.follows = false) ∧ (s.mode ≠ modeLockdown) ∧ (s.host.order.find? s.takesPackets = some q.val) ∧ (s.needsAuth p = false) ∧ (s.checkCmd p false = stOk) ∧ ((∃ r, pktRow p = some r ∧ r.accepts (qFunc q) = true ∧ pktClean p r = true)) ∧ (pktRanges p = true) ∧ (s.fn < s.efnOf [p]) ∧ (s.efnOf [p] ≤ s.fn + 2 ^ 20) ∧ (s.chains.length < 256) ∧ (s.chainWrites (s.efnOf [p]) + chainCost [p] + (if s.efnOf [p] = s.fn + 1 then s.stage.length else 0) ≤ stageMax)) ∧
    (∃ (s : State) (q : Queue) (p : Bytes) (rest : List Bytes), (s.takesPackets q = true) ∧ (s.host.staging = []) ∧ ((s.hq q).inbox = p :: rest) ∧ ((s.hq q).chain = []) ∧ ((s.hq q).waitEnd = false) ∧ (pktPos p = 0) ∧ (pktEnd p = true) ∧ (pktOp p = opCoilMark) ∧ (s.follows = false) ∧ (s.mode ≠ modeLockdown) ∧ (s.host.order.find? s.takesPackets = some q.val) ∧ (s.needsAuth p = false) ∧ (s.checkCmd p false = stOk) ∧ ((∃ r, pktRow p = some r ∧ r.accepts (qFunc q) = true ∧ pktClean p r = true)) ∧ (pktRanges p = true) ∧ (s.fn < s.efnOf [p]) ∧ (s.efnOf [p] ≤ s.fn + 2 ^ 20) ∧ (s.chains.length < 256) ∧ (s.chainWrites (s.efnOf [p]) + chainCost [p] + (if s.efnOf [p] = s.fn + 1 then s.stage.length else 0) ≤ stageMax)) ∧
    (∃ (s : State) (q : Queue) (a p : Bytes) (rest : List Bytes), (s.takesPackets q = true) ∧ (s.host.staging = []) ∧ ((s.hq q).inbox = p :: rest) ∧ ((s.hq q).chain = [a]) ∧ ((s.hq q).waitEnd = false) ∧ (pktPos p = 1) ∧ (pktEnd p = true) ∧ (pktOp a = opAuthRef) ∧ (pktEfn p = pktEfn a) ∧ (s.mode ≠ modeLockdown) ∧ (s.host.order.find? s.takesPackets = some q.val) ∧ (pktOp p = opEpochAdvance) ∧ (s.follows = false)) ∧
    (∃ (s : State) (q : Queue) (a p : Bytes) (rest : List Bytes), (s.takesPackets q = true) ∧ (s.host.staging = []) ∧ ((s.hq q).inbox = p :: rest) ∧ ((s.hq q).chain = [a]) ∧ ((s.hq q).waitEnd = false) ∧ (pktPos p = 1) ∧ (pktEnd p = true) ∧ (pktOp a = opAuthRef) ∧ (pktEfn p = pktEfn a) ∧ (s.mode ≠ modeLockdown) ∧ (s.host.order.find? s.takesPackets = some q.val) ∧ (pktOp p = opTwinRelinquish) ∧ (s.follows = false)) ∧
    (∃ (s : State) (q : Queue) (a p : Bytes) (rest : List Bytes), (s.takesPackets q = true) ∧ (s.host.staging = []) ∧ ((s.hq q).inbox = p :: rest) ∧ ((s.hq q).chain = [a]) ∧ ((s.hq q).waitEnd = false) ∧ (pktPos p = 1) ∧ (pktEnd p = true) ∧ (pktOp a = opAuthRef) ∧ (pktEfn p = pktEfn a) ∧ (s.mode ≠ modeLockdown) ∧ (s.host.order.find? s.takesPackets = some q.val) ∧ (pktOp p = opAppCtrl) ∧ (s.follows = false)) ∧
    (∃ (s : State) (q : Queue) (a p : Bytes) (rest : List Bytes), (s.takesPackets q = true) ∧ (s.host.staging = []) ∧ ((s.hq q).inbox = p :: rest) ∧ ((s.hq q).chain = [a]) ∧ ((s.hq q).waitEnd = false) ∧ (pktPos p = 1) ∧ (pktEnd p = true) ∧ (pktOp a = opAuthRef) ∧ (pktEfn p = pktEfn a) ∧ (s.mode ≠ modeLockdown) ∧ (s.host.order.find? s.takesPackets = some q.val) ∧ (pktOp p = opAppLoad) ∧ (s.follows = false)) ∧
    (∃ (s : State) (q : Queue) (a p : Bytes) (rest : List Bytes), (s.takesPackets q = true) ∧ (s.host.staging = []) ∧ ((s.hq q).inbox = p :: rest) ∧ ((s.hq q).chain = [a]) ∧ ((s.hq q).waitEnd = false) ∧ (pktPos p = 1) ∧ (pktEnd p = true) ∧ (pktOp a = opAuthRef) ∧ (pktEfn p = pktEfn a) ∧ (s.mode ≠ modeLockdown) ∧ (s.host.order.find? s.takesPackets = some q.val) ∧ (pktOp p = opWarmRestart)) ∧
    (∃ (s : State) (q : Queue) (a p : Bytes) (rest : List Bytes), (s.takesPackets q = true) ∧ (s.host.staging = []) ∧ ((s.hq q).inbox = p :: rest) ∧ ((s.hq q).chain = [a]) ∧ ((s.hq q).waitEnd = false) ∧ (pktPos p = 1) ∧ (pktEnd p = true) ∧ (pktOp a = opAuthRef) ∧ (pktEfn p = pktEfn a) ∧ (s.mode ≠ modeLockdown) ∧ (s.host.order.find? s.takesPackets = some q.val) ∧ (pktOp p = opFlashProgram)) ∧
    (∃ (s : State) (q : Queue) (p : Bytes) (rest : List Bytes), (s.takesPackets q = true) ∧ (s.host.staging = []) ∧ ((s.hq q).inbox = p :: rest) ∧ ((s.hq q).chain = []) ∧ ((s.hq q).waitEnd = false) ∧ (pktPos p = 0) ∧ (pktEnd p = true) ∧ (pktOp p = opEpochAdvance) ∧ (s.mode ≠ modeLockdown) ∧ (s.follows = false) ∧ (s.host.order.find? s.takesPackets = some q.val)) ∧
    (∃ (s : State) (q : Queue) (p : Bytes) (rest : List Bytes), (s.takesPackets q = true) ∧ (s.host.staging = []) ∧ ((s.hq q).inbox = p :: rest) ∧ ((s.hq q).chain = []) ∧ ((s.hq q).waitEnd = false) ∧ (pktPos p = 0) ∧ (pktEnd p = true) ∧ (pktOp p = opTwinRelinquish) ∧ (s.mode ≠ modeLockdown) ∧ (s.follows = false) ∧ (s.host.order.find? s.takesPackets = some q.val)) ∧
    (∃ (s : State) (q : Queue) (p : Bytes) (rest : List Bytes), (s.takesPackets q = true) ∧ (s.host.staging = []) ∧ ((s.hq q).inbox = p :: rest) ∧ ((s.hq q).chain = []) ∧ ((s.hq q).waitEnd = false) ∧ (pktPos p = 0) ∧ (pktEnd p = true) ∧ (pktOp p = opAppCtrl) ∧ (s.mode ≠ modeLockdown) ∧ (s.follows = false) ∧ (s.host.order.find? s.takesPackets = some q.val)) ∧
    (∃ (s : State) (q : Queue) (p : Bytes) (rest : List Bytes), (s.takesPackets q = true) ∧ (s.host.staging = []) ∧ ((s.hq q).inbox = p :: rest) ∧ ((s.hq q).chain = []) ∧ ((s.hq q).waitEnd = false) ∧ (pktPos p = 0) ∧ (pktEnd p = true) ∧ (pktOp p = opAppLoad) ∧ (s.mode ≠ modeLockdown) ∧ (s.follows = false) ∧ (s.host.order.find? s.takesPackets = some q.val)) ∧
    (∃ (s : State) (q : Queue) (p : Bytes) (rest : List Bytes), (s.takesPackets q = true) ∧ (s.host.staging = []) ∧ ((s.hq q).inbox = p :: rest) ∧ ((s.hq q).chain = []) ∧ ((s.hq q).waitEnd = false) ∧ (pktPos p = 0) ∧ (pktEnd p = true) ∧ (pktOp p = opWarmRestart) ∧ (s.mode ≠ modeLockdown)) ∧
    (∃ (s : State) (q : Queue) (p : Bytes) (rest : List Bytes), (s.takesPackets q = true) ∧ (s.host.staging = []) ∧ ((s.hq q).inbox = p :: rest) ∧ ((s.hq q).chain = []) ∧ ((s.hq q).waitEnd = false) ∧ (pktPos p = 0) ∧ (pktEnd p = true) ∧ (pktOp p = opFlashProgram) ∧ (s.mode ≠ modeLockdown)) ∧
    (∃ (s : State) (q : Queue) (p : Bytes) (rest : List Bytes), (s.takesPackets q = true) ∧ (s.host.staging = []) ∧ ((s.hq q).inbox = p :: rest) ∧ ((s.hq q).chain = []) ∧ ((s.hq q).waitEnd = false) ∧ (pktPos p = 0) ∧ (pktEnd p = false) ∧ (pktOp p = opAuthRef)) ∧
    (∃ (s : State) (q : Queue) (p : Bytes) (rest : List Bytes), (s.takesPackets q = true) ∧ (s.host.staging = []) ∧ ((s.hq q).inbox = p :: rest) ∧ ((s.hq q).chain = []) ∧ ((s.hq q).waitEnd = false) ∧ (pktPos p = 0) ∧ (pktEnd p = true) ∧ (s.mode = modeLockdown) ∧ (s.host.order.find? s.takesPackets = some q.val)) ∧
    (∃ (s : State) (q : Queue) (p : Bytes) (rest : List Bytes), (s.takesPackets q = true) ∧ (s.host.staging = []) ∧ ((s.hq q).inbox = p :: rest) ∧ ((s.hq q).chain = []) ∧ ((s.hq q).waitEnd = false) ∧ (pktPos p = 0) ∧ (pktEnd p = true) ∧ (s.mode ≠ modeLockdown) ∧ (s.follows = true) ∧ (s.host.order.find? s.takesPackets = some q.val)) ∧
    (∃ (s : State) (q q2 : Queue) (p : Bytes) (rest : List Bytes), (s.takesPackets q = true) ∧ (s.host.staging = []) ∧ ((s.hq q).inbox = p :: rest) ∧ (pktStaged p = true) ∧ (pktEnd p = true) ∧ (s.host.order.find? s.takesPackets = some q2.val) ∧ (q2 ≠ q)) :=
  ⟨⟨(((((((((((State.reset.putFlag HI_STAT_READY true).putFlag HI_STAT_LINK_UP true).putFlag HI_STAT_PF0_BME true).putFlag (HQ_CTRL_EN 0) true).putFlag (HQ_STAT_RUN 0) true).put (HQ_SIZE_SQ_LOG2 0) 4).put (HQ_SIZE_CQ_LOG2 0) 4).onHost (fun h => { h with msixOn := h.msixOn.set 0 true })).put (LS_STAT_STATE 0) 0).onHq 0 (fun h => { h with inbox := [([1, 1, 0, 128, 7, 0, 0, 0, 0, 0, 0, 0, 0, 0, 0, 0, 1, 0, 0, 0, 0, 0, 20] ++ List.replicate 41 0)] })).onHost (fun h => { h with order := [0] })), 0, ([1, 1, 0, 128, 7, 0, 0, 0, 0, 0, 0, 0, 0, 0, 0, 0, 1, 0, 0, 0, 0, 0, 20] ++ List.replicate 41 0), [], by decide +kernel, rfl, rfl, rfl, rfl, by decide +kernel⟩, ⟨((((((((((((State.reset.putFlag HI_STAT_READY true).putFlag HI_STAT_LINK_UP true).putFlag HI_STAT_PF0_BME true).putFlag (HQ_CTRL_EN 0) true).putFlag (HQ_STAT_RUN 0) true).put (HQ_SIZE_SQ_LOG2 0) 4).put (HQ_SIZE_CQ_LOG2 0) 4).onHost (fun h => { h with msixOn := h.msixOn.set 0 true })).put PM_MODE_MODE 3).put (LS_STAT_STATE 0) 0).onHq 0 (fun h => { h with inbox := [([2, 1, 0, 128, 7, 0, 0, 0, 0, 0, 0, 0, 0, 0, 0, 0, 2] ++ List.replicate 47 0)] })).onHost (fun h => { h with order := [0] })), 0, ([2, 1, 0, 128, 7, 0, 0, 0, 0, 0, 0, 0, 0, 0, 0, 0, 2] ++ List.replicate 47 0), [], by decide +kernel, rfl, rfl, rfl, rfl, by decide +kernel, by decide +kernel, by decide +kernel, (by decide +kernel), by decide +kernel, by decide +kernel, by decide +kernel, (by decide +kernel), ⟨_, rfl, by decide +kernel, by decide +kernel⟩, by decide +kernel⟩, ⟨(((((((((((State.reset.putFlag HI_STAT_READY true).putFlag HI_STAT_LINK_UP true).putFlag HI_STAT_PF0_BME true).putFlag (HQ_CTRL_EN 0) true).putFlag (HQ_STAT_RUN 0) true).put (HQ_SIZE_SQ_LOG2 0) 4).put (HQ_SIZE_CQ_LOG2 0) 4).onHost (fun h => { h with msixOn := h.msixOn.set 0 true })).put (LS_STAT_STATE 0) 0).onHq 0 (fun h => { h with inbox := [([1, 2, 0, 128, 7, 0, 0, 0, 0, 0, 0, 0, 0, 0, 0, 0, 0, 0, 0, 0, 0, 0, 0, 0, 0, 0, 0, 0, 0, 0, 0, 0, 0, 0, 0, 0, 1] ++ List.replicate 27 0)] })).onHost (fun h => { h with order := [0] })), 0, ([1, 2, 0, 128, 7, 0, 0, 0, 0, 0, 0, 0, 0, 0, 0, 0, 0, 0, 0, 0, 0, 0, 0, 0, 0, 0, 0, 0, 0, 0, 0, 0, 0, 0, 0, 0, 1] ++ List.replicate 27 0), [], by decide +kernel, rfl, rfl, rfl, rfl, by decide +kernel, by decide +kernel, by decide +kernel, (by decide +kernel), by decide +kernel, by decide +kernel, by decide +kernel, (by decide +kernel), ⟨_, rfl, by decide +kernel, by decide +kernel⟩, by decide +kernel⟩, ⟨(((((allFin 32).foldl (fun s (n : Chan) => s.put (PEO_CFG_OWNER n) 0) ((((((((State.reset.putFlag HI_STAT_READY true).putFlag HI_STAT_LINK_UP true).putFlag HI_STAT_PF0_BME true).putFlag (HQ_CTRL_EN 0) true).putFlag (HQ_STAT_RUN 0) true).put (HQ_SIZE_SQ_LOG2 0) 4).put (HQ_SIZE_CQ_LOG2 0) 4).onHost (fun h => { h with msixOn := h.msixOn.set 0 true }))).put (LS_STAT_STATE 0) 0).onHq 0 (fun h => { h with inbox := [([2, 2, 0, 128, 7, 0, 0, 0, 0, 0, 0, 0, 0, 0, 0, 0, 1] ++ List.replicate 47 0)] })).onHost (fun h => { h with order := [0] })), 0, ([2, 2, 0, 128, 7, 0, 0, 0, 0, 0, 0, 0, 0, 0, 0, 0, 1] ++ List.replicate 47 0), [], by decide +kernel, rfl, rfl, rfl, rfl, by decide +kernel, by decide +kernel, by decide +kernel, (by decide +kernel), by decide +kernel, by decide +kernel, by decide +kernel, (by decide +kernel), ⟨_, rfl, by decide +kernel, by decide +kernel⟩, by decide +kernel⟩, ⟨((((((((((((State.reset.putFlag HI_STAT_READY true).putFlag HI_STAT_LINK_UP true).putFlag HI_STAT_PF0_BME true).putFlag (HQ_CTRL_EN 0) true).putFlag (HQ_STAT_RUN 0) true).put (HQ_SIZE_SQ_LOG2 0) 4).put (HQ_SIZE_CQ_LOG2 0) 4).onHost (fun h => { h with msixOn := h.msixOn.set 0 true })).put (HL_STAT_STATE 0) laneReady).put (LS_STAT_STATE 0) 0).onHq 0 (fun h => { h with inbox := [([3, 2, 0, 128, 7] ++ List.replicate 59 0)] })).onHost (fun h => { h with order := [0] })), 0, ([3, 2, 0, 128, 7] ++ List.replicate 59 0), [], by decide +kernel, rfl, rfl, rfl, rfl, by decide +kernel, by decide +kernel, by decide +kernel, (by decide +kernel), by decide +kernel, by decide +kernel, by decide +kernel, (by decide +kernel), ⟨_, rfl, by decide +kernel, by decide +kernel⟩, by decide +kernel⟩, ⟨(((((((((((State.reset.putFlag HI_STAT_READY true).putFlag HI_STAT_LINK_UP true).putFlag HI_STAT_PF0_BME true).putFlag (HQ_CTRL_EN 0) true).putFlag (HQ_STAT_RUN 0) true).put (HQ_SIZE_SQ_LOG2 0) 4).put (HQ_SIZE_CQ_LOG2 0) 4).onHost (fun h => { h with msixOn := h.msixOn.set 0 true })).put (LS_STAT_STATE 0) 0).onHq 0 (fun h => { h with inbox := [([8, 2, 0, 128, 7, 0, 0, 0, 0, 0, 0, 0, 0, 0, 0, 0, 3] ++ List.replicate 47 0)] })).onHost (fun h => { h with order := [0] })), 0, ([8, 2, 0, 128, 7, 0, 0, 0, 0, 0, 0, 0, 0, 0, 0, 0, 3] ++ List.replicate 47 0), [], by decide +kernel, rfl, rfl, rfl, rfl, by decide +kernel, by decide +kernel, by decide +kernel, (by decide +kernel), by decide +kernel, by decide +kernel, by decide +kernel, (by decide +kernel), ⟨_, rfl, by decide +kernel, by decide +kernel⟩, by decide +kernel⟩, ⟨(((((((((((((State.reset.putFlag HI_STAT_READY true).putFlag HI_STAT_LINK_UP true).putFlag HI_STAT_PF0_BME true).putFlag (HQ_CTRL_EN 0) true).putFlag (HQ_STAT_RUN 0) true).put (HQ_SIZE_SQ_LOG2 0) 4).put (HQ_SIZE_CQ_LOG2 0) 4).onHost (fun h => { h with msixOn := h.msixOn.set 0 true })).putFlag AR_CTRL_EN true).onArch (fun a => { a with coils := [] })).put (LS_STAT_STATE 0) 0).onHq 0 (fun h => { h with inbox := [([9, 2, 0, 128, 7, 0, 0, 0, 0, 0, 0, 0, 0, 0, 0, 0, 0, 0, 0, 0, 9, 0, 0, 0, 0, 0, 0, 0, 0, 0, 0, 0, 1, 1, 1, 1, 1, 1, 1, 1, 1, 1, 1, 1, 1, 1, 1, 1] ++ List.replicate 16 0)] })).onHost (fun h => { h with order := [0] })), 0, ([9, 2, 0, 128, 7, 0, 0, 0, 0, 0, 0, 0, 0, 0, 0, 0, 0, 0, 0, 0, 9, 0, 0, 0, 0, 0, 0, 0, 0, 0, 0, 0, 1, 1, 1, 1, 1, 1, 1, 1, 1, 1, 1, 1, 1, 1, 1, 1] ++ List.replicate 16 0), [], by decide +kernel, rfl, rfl, rfl, rfl, by decide +kernel, by decide +kernel, by decide +kernel, (by decide +kernel), by decide +kernel, by decide +kernel, by decide +kernel, (by decide +kernel), ⟨_, rfl, by decide +kernel, by decide +kernel⟩, by decide +kernel⟩, ⟨(((((((((((State.reset.putFlag HI_STAT_READY true).putFlag HI_STAT_LINK_UP true).putFlag HI_STAT_PF0_BME true).putFlag (HQ_CTRL_EN 0) true).putFlag (HQ_STAT_RUN 0) true).put (HQ_SIZE_SQ_LOG2 0) 4).put (HQ_SIZE_CQ_LOG2 0) 4).onHost (fun h => { h with msixOn := h.msixOn.set 0 true })).put (LS_STAT_STATE 0) 0).onHq 0 (fun h => { h with inbox := [([4, 1, 0, 129, 7, 0, 0, 0, 0, 0, 0, 0, 0, 0, 0, 0, 2] ++ List.replicate 47 0)], chain := [([0, 4, 0, 0, 7, 0, 0, 0, 0, 0, 0, 0, 0, 0, 0, 0, 0, 0, 0, 0, 16, 0, 0, 0, 147, 18] ++ List.replicate 38 0)] })).onHost (fun h => { h with order := [0] })), 0, ([0, 4, 0, 0, 7, 0, 0, 0, 0, 0, 0, 0, 0, 0, 0, 0, 0, 0, 0, 0, 16, 0, 0, 0, 147, 18] ++ List.replicate 38 0), ([4, 1, 0, 129, 7, 0, 0, 0, 0, 0, 0, 0, 0, 0, 0, 0, 2] ++ List.replicate 47 0), [], by decide +kernel, rfl, rfl, rfl, rfl, by decide +kernel⟩, ⟨(((((((((((State.reset.putFlag HI_STAT_READY true).putFlag HI_STAT_LINK_UP true).putFlag HI_STAT_PF0_BME true).putFlag (HQ_CTRL_EN 0) true).putFlag (HQ_STAT_RUN 0) true).put (HQ_SIZE_SQ_LOG2 0) 4).put (HQ_SIZE_CQ_LOG2 0) 4).onHost (fun h => { h with msixOn := h.msixOn.set 0 true })).put (LS_STAT_STATE 0) 0).onHq 0 (fun h => { h with inbox := [([5, 1, 0, 129, 7] ++ List.replicate 59 0)], chain := [([0, 4, 0, 0, 7, 0, 0, 0, 0, 0, 0, 0, 0, 0, 0, 0, 0, 0, 0, 0, 16, 0, 0, 0, 147, 18] ++ List.replicate 38 0)] })).onHost (fun h => { h with order := [0] })), 0, ([0, 4, 0, 0, 7, 0, 0, 0, 0, 0, 0, 0, 0, 0, 0, 0, 0, 0, 0, 0, 16, 0, 0, 0, 147, 18] ++ List.replicate 38 0), ([5, 1, 0, 129, 7] ++ List.replicate 59 0), [], by decide +kernel, rfl, rfl, rfl, rfl, by decide +kernel⟩, ⟨(((((((((((State.reset.putFlag HI_STAT_READY true).putFlag HI_STAT_LINK_UP true).putFlag HI_STAT_PF0_BME true).putFlag (HQ_CTRL_EN 0) true).putFlag (HQ_STAT_RUN 0) true).put (HQ_SIZE_SQ_LOG2 0) 4).put (HQ_SIZE_CQ_LOG2 0) 4).onHost (fun h => { h with msixOn := h.msixOn.set 0 true })).put (LS_STAT_STATE 0) 0).onHq 0 (fun h => { h with inbox := [([4, 2, 0, 129, 7, 0, 0, 0, 0, 0, 0, 0, 0, 0, 0, 0, 1] ++ List.replicate 47 0)], chain := [([0, 4, 0, 0, 7, 0, 0, 0, 0, 0, 0, 0, 0, 0, 0, 0, 0, 0, 0, 0, 16, 0, 0, 0, 147, 18] ++ List.replicate 38 0)] })).onHost (fun h => { h with order := [0] })), 0, ([0, 4, 0, 0, 7, 0, 0, 0, 0, 0, 0, 0, 0, 0, 0, 0, 0, 0, 0, 0, 16, 0, 0, 0, 147, 18] ++ List.replicate 38 0), ([4, 2, 0, 129, 7, 0, 0, 0, 0, 0, 0, 0, 0, 0, 0, 0, 1] ++ List.replicate 47 0), [], by decide +kernel, rfl, rfl, rfl, rfl, by decide +kernel⟩, ⟨(((((((((((State.reset.putFlag HI_STAT_READY true).putFlag HI_STAT_LINK_UP true).putFlag HI_STAT_PF0_BME true).putFlag (HQ_CTRL_EN 0) true).putFlag (HQ_STAT_RUN 0) true).put (HQ_SIZE_SQ_LOG2 0) 4).put (HQ_SIZE_CQ_LOG2 0) 4).onHost (fun h => { h with msixOn := h.msixOn.set 0 true })).put (LS_STAT_STATE 0) 0).onHq 0 (fun h => { h with inbox := [([5, 2, 0, 129, 7, 0, 0, 0, 0, 0, 0, 0, 0, 0, 0, 0, 1, 0, 0, 0, 1] ++ List.replicate 43 0)], chain := [([0, 4, 0, 0, 7, 0, 0, 0, 0, 0, 0, 0, 0, 0, 0, 0, 0, 0, 0, 0, 16, 0, 0, 0, 147, 18] ++ List.replicate 38 0)] })).onHost (fun h => { h with order := [0] })), 0, ([0, 4, 0, 0, 7, 0, 0, 0, 0, 0, 0, 0, 0, 0, 0, 0, 0, 0, 0, 0, 16, 0, 0, 0, 147, 18] ++ List.replicate 38 0), ([5, 2, 0, 129, 7, 0, 0, 0, 0, 0, 0, 0, 0, 0, 0, 0, 1, 0, 0, 0, 1] ++ List.replicate 43 0), [], by decide +kernel, rfl, rfl, rfl, rfl, by decide +kernel⟩, ⟨(((((((((((State.reset.putFlag HI_STAT_READY true).putFlag HI_STAT_LINK_UP true).putFlag HI_STAT_PF0_BME true).putFlag (HQ_CTRL_EN 0) true).putFlag (HQ_STAT_RUN 0) true).put (HQ_SIZE_SQ_LOG2 0) 4).put (HQ_SIZE_CQ_LOG2 0) 4).onHost (fun h => { h with msixOn := h.msixOn.set 0 true })).put (LS_STAT_STATE 0) 0).onHq 0 (fun h => { h with inbox := [([3, 1, 0, 129, 7] ++ List.replicate 59 0)], chain := [([0, 4, 0, 0, 7, 0, 0, 0, 0, 0, 0, 0, 0, 0, 0, 0, 0, 0, 0, 0, 16, 0, 0, 0, 147, 18] ++ List.replicate 38 0)] })).onHost (fun h => { h with order := [0] })), 0, ([0, 4, 0, 0, 7, 0, 0, 0, 0, 0, 0, 0, 0, 0, 0, 0, 0, 0, 0, 0, 16, 0, 0, 0, 147, 18] ++ List.replicate 38 0), ([3, 1, 0, 129, 7] ++ List.replicate 59 0), [], by decide +kernel, rfl, rfl, rfl, rfl, by decide +kernel⟩, ⟨(((((((((((State.reset.putFlag HI_STAT_READY true).putFlag HI_STAT_LINK_UP true).putFlag HI_STAT_PF0_BME true).putFlag (HQ_CTRL_EN 0) true).putFlag (HQ_STAT_RUN 0) true).put (HQ_SIZE_SQ_LOG2 0) 4).put (HQ_SIZE_CQ_LOG2 0) 4).onHost (fun h => { h with msixOn := h.msixOn.set 0 true })).put (LS_STAT_STATE 0) 0).onHq 0 (fun h => { h with inbox := [([3, 3, 0, 129, 7, 0, 0, 0, 0, 0, 0, 0, 0, 0, 0, 0, 0, 0, 0, 0, 16, 0, 0, 0, 1] ++ List.replicate 39 0)], chain := [([0, 4, 0, 0, 7, 0, 0, 0, 0, 0, 0, 0, 0, 0, 0, 0, 0, 0, 0, 0, 16, 0, 0, 0, 147, 18] ++ List.replicate 38 0)] })).onHost (fun h => { h with order := [0] })), 0, ([0, 4, 0, 0, 7, 0, 0, 0, 0, 0, 0, 0, 0, 0, 0, 0, 0, 0, 0, 0, 16, 0, 0, 0, 147, 18] ++ List.replicate 38 0), ([3, 3, 0, 129, 7, 0, 0, 0, 0, 0, 0, 0, 0, 0, 0, 0, 0, 0, 0, 0, 16, 0, 0, 0, 1] ++ List.replicate 39 0), [], by decide +kernel, rfl, rfl, rfl, rfl, by decide +kernel⟩, ⟨(((((((((((State.reset.putFlag HI_STAT_READY true).putFlag HI_STAT_LINK_UP true).putFlag HI_STAT_PF0_BME true).putFlag (HQ_CTRL_EN 0) true).putFlag (HQ_STAT_RUN 0) true).put (HQ_SIZE_SQ_LOG2 0) 4).put (HQ_SIZE_CQ_LOG2 0) 4).onHost (fun h => { h with msixOn := h.msixOn.set 0 true })).put (LS_STAT_STATE 0) 0).onHq 0 (fun h => { h with inbox := [([4, 1, 0, 128, 7, 0, 0, 0, 0, 0, 0, 0, 0, 0, 0, 0, 2] ++ List.replicate 47 0)] })).onHost (fun h => { h with order := [0] })), 0, ([4, 1, 0, 128, 7, 0, 0, 0, 0, 0, 0, 0, 0, 0, 0, 0, 2] ++ List.replicate 47 0), [], by decide +kernel, rfl, rfl, rfl, rfl, by decide +kernel⟩, ⟨(((((((((((State.reset.putFlag HI_STAT_READY true).putFlag HI_STAT_LINK_UP true).putFlag HI_STAT_PF0_BME true).putFlag (HQ_CTRL_EN 0) true).putFlag (HQ_STAT_RUN 0) true).put (HQ_SIZE_SQ_LOG2 0) 4).put (HQ_SIZE_CQ_LOG2 0) 4).onHost (fun h => { h with msixOn := h.msixOn.set 0 true })).put (LS_STAT_STATE 0) 0).onHq 0 (fun h => { h with inbox := [([5, 1, 0, 128, 7] ++ List.replicate 59 0)] })).onHost (fun h => { h with order := [0] })), 0, ([5, 1, 0, 128, 7] ++ List.replicate 59 0), [], by decide +kernel, rfl, rfl, rfl, rfl, by decide +kernel⟩, ⟨(((((((((((State.reset.putFlag HI_STAT_READY true).putFlag HI_STAT_LINK_UP true).putFlag HI_STAT_PF0_BME true).putFlag (HQ_CTRL_EN 0) true).putFlag (HQ_STAT_RUN 0) true).put (HQ_SIZE_SQ_LOG2 0) 4).put (HQ_SIZE_CQ_LOG2 0) 4).onHost (fun h => { h with msixOn := h.msixOn.set 0 true })).put (LS_STAT_STATE 0) 0).onHq 0 (fun h => { h with inbox := [([4, 2, 0, 128, 7, 0, 0, 0, 0, 0, 0, 0, 0, 0, 0, 0, 1] ++ List.replicate 47 0)] })).onHost (fun h => { h with order := [0] })), 0, ([4, 2, 0, 128, 7, 0, 0, 0, 0, 0, 0, 0, 0, 0, 0, 0, 1] ++ List.replicate 47 0), [], by decide +kernel, rfl, rfl, rfl, rfl, by decide +kernel⟩, ⟨(((((((((((State.reset.putFlag HI_STAT_READY true).putFlag HI_STAT_LINK_UP true).putFlag HI_STAT_PF0_BME true).putFlag (HQ_CTRL_EN 0) true).putFlag (HQ_STAT_RUN 0) true).put (HQ_SIZE_SQ_LOG2 0) 4).put (HQ_SIZE_CQ_LOG2 0) 4).onHost (fun h => { h with msixOn := h.msixOn.set 0 true })).put (LS_STAT_STATE 0) 0).onHq 0 (fun h => { h with inbox := [([5, 2, 0, 128, 7, 0, 0, 0, 0, 0, 0, 0, 0, 0, 0, 0, 1, 0, 0, 0, 1] ++ List.replicate 43 0)] })).onHost (fun h => { h with order := [0] })), 0, ([5, 2, 0, 128, 7, 0, 0, 0, 0, 0, 0, 0, 0, 0, 0, 0, 1, 0, 0, 0, 1] ++ List.replicate 43 0), [], by decide +kernel, rfl, rfl, rfl, rfl, by decide +kernel⟩, ⟨(((((((((((State.reset.putFlag HI_STAT_READY true).putFlag HI_STAT_LINK_UP true).putFlag HI_STAT_PF0_BME true).putFlag (HQ_CTRL_EN 0) true).putFlag (HQ_STAT_RUN 0) true).put (HQ_SIZE_SQ_LOG2 0) 4).put (HQ_SIZE_CQ_LOG2 0) 4).onHost (fun h => { h with msixOn := h.msixOn.set 0 true })).put (LS_STAT_STATE 0) 0).onHq 0 (fun h => { h with inbox := [([3, 1, 0, 128, 7] ++ List.replicate 59 0)] })).onHost (fun h => { h with order := [0] })), 0, ([3, 1, 0, 128, 7] ++ List.replicate 59 0), [], by decide +kernel, rfl, rfl, rfl, rfl, by decide +kernel⟩, ⟨(((((((((((State.reset.putFlag HI_STAT_READY true).putFlag HI_STAT_LINK_UP true).putFlag HI_STAT_PF0_BME true).putFlag (HQ_CTRL_EN 0) true).putFlag (HQ_STAT_RUN 0) true).put (HQ_SIZE_SQ_LOG2 0) 4).put (HQ_SIZE_CQ_LOG2 0) 4).onHost (fun h => { h with msixOn := h.msixOn.set 0 true })).put (LS_STAT_STATE 0) 0).onHq 0 (fun h => { h with inbox := [([3, 3, 0, 128, 7, 0, 0, 0, 0, 0, 0, 0, 0, 0, 0, 0, 0, 0, 0, 0, 16, 0, 0, 0, 1] ++ List.replicate 39 0)] })).onHost (fun h => { h with order := [0] })), 0, ([3, 3, 0, 128, 7, 0, 0, 0, 0, 0, 0, 0, 0, 0, 0, 0, 0, 0, 0, 0, 16, 0, 0, 0, 1] ++ List.replicate 39 0), [], by decide +kernel, rfl, rfl, rfl, rfl, by decide +kernel⟩, ⟨((((((((((State.reset.putFlag HI_STAT_READY true).putFlag HI_STAT_LINK_UP true).putFlag HI_STAT_PF0_BME true).putFlag (HQ_CTRL_EN 0) true).putFlag (HQ_STAT_RUN 0) true).put (HQ_SIZE_SQ_LOG2 0) 4).put (HQ_SIZE_CQ_LOG2 0) 4).onHost (fun h => { h with msixOn := h.msixOn.set 0 true })).put (LS_STAT_STATE 0) 0).onHq 0 (fun h => { h with inbox := [([0, 4, 0, 0, 7, 0, 0, 0, 0, 0, 0, 0, 0, 0, 0, 0, 0, 0, 0, 0, 16, 0, 0, 0, 147, 18] ++ List.replicate 38 0)] })), 0, ([0, 4, 0, 0, 7, 0, 0, 0, 0, 0, 0, 0, 0, 0, 0, 0, 0, 0, 0, 0, 16, 0, 0, 0, 147, 18] ++ List.replicate 38 0), [], by decide +kernel, rfl, rfl, rfl, rfl, by decide +kernel⟩, ⟨((((((((((((State.reset.putFlag HI_STAT_READY true).putFlag HI_STAT_LINK_UP true).putFlag HI_STAT_PF0_BME true).putFlag (HQ_CTRL_EN 0) true).putFlag (HQ_STAT_RUN 0) true).put (HQ_SIZE_SQ_LOG2 0) 4).put (HQ_SIZE_CQ_LOG2 0) 4).onHost (fun h => { h with msixOn := h.msixOn.set 0 true })).put PM_MODE_MODE 7).put (LS_STAT_STATE 0) 0).onHq 0 (fun h => { h with inbox := [([2, 1, 0, 128, 7, 0, 0, 0, 0, 0, 0, 0, 0, 0, 0, 0, 2] ++ List.replicate 47 0)] })).onHost (fun h => { h with order := [0] })), 0, ([2, 1, 0, 128, 7, 0, 0, 0, 0, 0, 0, 0, 0, 0, 0, 0, 2] ++ List.replicate 47 0), [], by decide +kernel, rfl, rfl, rfl, rfl, by decide +kernel⟩, ⟨(((((((((((((State.reset.putFlag HI_STAT_READY true).putFlag HI_STAT_LINK_UP true).putFlag HI_STAT_PF0_BME true).putFlag (HQ_CTRL_EN 0) true).putFlag (HQ_STAT_RUN 0) true).put (HQ_SIZE_SQ_LOG2 0) 4).put (HQ_SIZE_CQ_LOG2 0) 4).onHost (fun h => { h with msixOn := h.msixOn.set 0 true })).putFlag TW_CFG_EN true).put TW_STAT_ROLE 1).put (LS_STAT_STATE 0) 0).onHq 0 (fun h => { h with inbox := [([2, 1, 0, 128, 7, 0, 0, 0, 0, 0, 0, 0, 0, 0, 0, 0, 2] ++ List.replicate 47 0)] })).onHost (fun h => { h with order := [0] })), 0, ([2, 1, 0, 128, 7, 0, 0, 0, 0, 0, 0, 0, 0, 0, 0, 0, 2] ++ List.replicate 47 0), [], by decide +kernel, rfl, rfl, rfl, rfl, by decide +kernel⟩, ⟨(((((((((((((State.reset.putFlag HI_STAT_READY true).putFlag HI_STAT_LINK_UP true).putFlag HI_STAT_PF0_BME true).putFlag (HQ_CTRL_EN 0) true).putFlag (HQ_STAT_RUN 0) true).put (HQ_SIZE_SQ_LOG2 0) 4).put (HQ_SIZE_CQ_LOG2 0) 4).onHost (fun h => { h with msixOn := h.msixOn.set 0 true })).put (HQ_CTRL_EN 1) 1).putFlag (HQ_STAT_RUN 1) true).put (LS_STAT_STATE 0) 0).onHq 0 (fun h => { h with inbox := [([2, 1, 0, 128, 7, 0, 0, 0, 0, 0, 0, 0, 0, 0, 0, 0, 2] ++ List.replicate 47 0)] })).onHost (fun h => { h with order := [1, 0] })), 0, 1, ([2, 1, 0, 128, 7, 0, 0, 0, 0, 0, 0, 0, 0, 0, 0, 0, 2] ++ List.replicate 47 0), [], by decide +kernel, rfl, rfl, by decide +kernel⟩⟩

/-- The hypotheses of `NoBranchNorSystemInstructionInADelaySlot` can be met together. -/
theorem meets_NoBranchNorSystemInstructionInADelaySlot :
    (∃ (s u : State) (g : Group) (an : Bool) (ra rb : GReg) (off : BitVec 15) (off25 : BitVec 25) (n : LoopCount) (e : BitVec 13) (sr : BitVec 5) (k : BitVec 10), (s.fetches u g = true) ∧ ((u.core g).delay ≠ none) ∧ ((u.core g).tsbOk = true) ∧ ((u.core g).nest.val < 15)) :=
  ⟨((State.reset.put (LS_STAT_STATE 1) 0).onCore 1 (fun c => { c with delay := some ⟨0, 8, true, []⟩ })), (((State.reset.put (LS_STAT_STATE 1) 0).onCore 1 (fun c => { c with delay := some ⟨0, 8, true, []⟩ })).fetchFault 1).1, 1, true, 4, 5, 3, 4, .imm 5, 3, 2, 9, by decide +kernel⟩

end

end Sys2Proof.Tests
end

section
/-! No command does what `Keeps` forbids, function by function of the model: a lemma `Keeps.f` says that the function `f`
keeps what `Keeps` speaks of, from a state `s₀` on, and each is put together from those of the functions that `f` calls, in
the order of the model. `exec_kept` gathers them.

Where a function's text reads memory at an address written out, the kernel would compute the access to compare two forms of
a term that holds it. Such a function is unfolded before it is applied (`generalize e : f = …`, then `unfold f at e`), and
what it calls stands under a variable (`exists_eq`). -/

namespace Sys2Proof.Machine

/-- A branch keeps what both of its sides keep. -/
theorem Keeps.ite {a s t : State} {c : Prop} [Decidable c] (h : Keeps a s) (k : Keeps a t) : Keeps a (if c then s else t) := by
  split
  · exact h
  · exact k

/-- The same where the branch answers a state and a result. -/
theorem Keeps.iteFst {a : State} {β : Type} {p q : State × β} {c : Prop} [Decidable c] (h : Keeps a p.1) (k : Keeps a q.1) :
    Keeps a (if c then p else q).1 := by
  split
  · exact h
  · exact k

/-- A command answers a next state, which keeps what `Keeps` speaks of. -/
def Kept (a : State) (o : Host.Outcome State Fault Refusal) : Prop :=
  ∃ t, o = .next t ∧ Keeps a t

theorem Kept.next {a t : State} (h : Keeps a t) : Kept a (.next t) :=
  ⟨t, rfl, h⟩

/-- What a command leaves where it stands in a register write. -/
theorem Kept.ran {a s : State} {o : Host.Outcome State Fault Refusal} (h : Kept a o) : Keeps a (ran o s) := by
  obtain ⟨t, rfl, ht⟩ := h
  exact ht

/-- An optional state keeps what `Keeps` speaks of, where there is one. -/
def KeepsIn (a : State) (o : Option State) : Prop :=
  ∀ t, o = some t → Keeps a t

theorem KeepsIn.none {a : State} : KeepsIn a none :=
  fun _ e => nomatch e

theorem KeepsIn.some {a t : State} (h : Keeps a t) : KeepsIn a (some t) :=
  fun _ e => Option.some.inj e ▸ h

theorem KeepsIn.ite {a : State} {o p : Option State} {c : Prop} [Decidable c] (h : KeepsIn a o) (k : KeepsIn a p) :
    KeepsIn a (if c then o else p) := by
  split
  · exact h
  · exact k

theorem KeepsIn.getD {a s : State} {o : Option State} (h : KeepsIn a o) (k : Keeps a s) : Keeps a (o.getD s) := by
  cases o with
  | none => exact k
  | some t => exact h t rfl

/-- The state of a pair keeps what `Keeps` speaks of: `Keeps` with the projection folded, so that neither Lean nor its
kernel computes the pair to find its state. -/
def KeepsFst {β : Type} (a : State) (p : State × β) : Prop :=
  Keeps a p.1

theorem KeepsFst.mk {a s : State} {β : Type} {b : β} (h : Keeps a s) : KeepsFst a (s, b) :=
  h

theorem KeepsFst.ite {a : State} {β : Type} {p q : State × β} {c : Prop} [Decidable c] (h : KeepsFst a p) (k : KeepsFst a q) :
    KeepsFst a (if c then p else q) := by
  split
  · exact h
  · exact k

/-! ### The functions of Machine/Regs -/

theorem Keeps.put {s₀ s : State} (h : Keeps s₀ s) (f : Fld) (v : ℕ) : Keeps s₀ (s.put f v) :=
  State.wr_keeps h _ _

theorem Keeps.putFlag {s₀ s : State} (h : Keeps s₀ s) (f : Fld) (b : Bool) : Keeps s₀ (s.putFlag f b) :=
  h.put _ _

theorem Keeps.wr64 {s₀ s : State} (h : Keeps s₀ s) (off v : ℕ) : Keeps s₀ (s.wr64 off v) :=
  State.wr_keeps (State.wr_keeps h _ _) _ _

theorem Keeps.wrInt {s₀ s : State} (h : Keeps s₀ s) (off : ℕ) (v : ℤ) : Keeps s₀ (s.wrInt off v) :=
  h.wr64 _ _

theorem Keeps.addTo {s₀ s : State} (h : Keeps s₀ s) (f : Fld) (n : ℕ) : Keeps s₀ (s.addTo f n) :=
  h.put _ _

theorem Keeps.bump {s₀ s : State} (h : Keeps s₀ s) (f : Fld) : Keeps s₀ (s.bump f) :=
  h.addTo _ _

theorem Keeps.bumpWrap {s₀ s : State} (h : Keeps s₀ s) (f : Fld) : Keeps s₀ (s.bumpWrap f) :=
  h.put _ _

theorem Keeps.raiseTo {s₀ s : State} (h : Keeps s₀ s) (f : Fld) (n : ℕ) : Keeps s₀ (s.raiseTo f n) :=
  h.put _ _

/-! ### The functions of Machine/Ops -/

theorem Keeps.raise {s₀ s : State} (h : Keeps s₀ s) (id detail : ℕ) : Keeps s₀ (s.raise id detail) :=
  h.same rfl rfl rfl rfl rfl

theorem Keeps.draw {s₀ s : State} (h : Keeps s₀ s) : Keeps s₀ s.draw.2 :=
  h.same rfl rfl rfl rfl rfl

theorem Keeps.raiseSrc {s₀ s : State} (h : Keeps s₀ s) (src : ℕ) : Keeps s₀ (s.raiseSrc src) :=
  h.same rfl rfl rfl rfl rfl

theorem Keeps.onEnc {s₀ s : State} (h : Keeps s₀ s) (n : Enc) (f : EncState → EncState) : Keeps s₀ (s.onEnc n f) :=
  h.same rfl rfl rfl rfl rfl

theorem Keeps.onDom {s₀ s : State} (h : Keeps s₀ s) (d : Dom) (f : DomState → DomState) : Keeps s₀ (s.onDom d f) :=
  h.same rfl rfl rfl rfl rfl

theorem Keeps.onKiln {s₀ s : State} (h : Keeps s₀ s) (f : Kiln → Kiln) : Keeps s₀ (s.onKiln f) :=
  h.same rfl rfl rfl rfl rfl

theorem Keeps.onWheel {s₀ s : State} (h : Keeps s₀ s) (f : Wheel → Wheel) : Keeps s₀ (s.onWheel f) :=
  h.same rfl rfl rfl rfl rfl

theorem Keeps.onArch {s₀ s : State} (h : Keeps s₀ s) (f : Archive → Archive) : Keeps s₀ (s.onArch f) :=
  h.same rfl rfl rfl rfl rfl

theorem Keeps.onCore {s₀ s : State} (h : Keeps s₀ s) (g : Group) (f : Core → Core) : Keeps s₀ (s.onCore g f) :=
  h.same rfl rfl rfl rfl rfl

theorem Keeps.onLane {s₀ s : State} (h : Keeps s₀ s) (n : Lane) (f : LaneState → LaneState) : Keeps s₀ (s.onLane n f) :=
  h.same rfl rfl rfl rfl rfl

theorem Keeps.onHost {s₀ s : State} (h : Keeps s₀ s) (f : HostIf → HostIf) : Keeps s₀ (s.onHost f) :=
  h.same rfl rfl rfl rfl rfl

theorem Keeps.onTe {s₀ s : State} (h : Keeps s₀ s) (f : Tracks → Tracks) : Keeps s₀ (s.onTe f) :=
  h.same rfl rfl rfl rfl rfl

theorem Keeps.onTw {s₀ s : State} (h : Keeps s₀ s) (f : Twin → Twin) : Keeps s₀ (s.onTw f) :=
  h.same rfl rfl rfl rfl rfl

theorem Keeps.onVe {s₀ s : State} (h : Keeps s₀ s) (f : Verify → Verify) : Keeps s₀ (s.onVe f) :=
  h.same rfl rfl rfl rfl rfl

theorem Keeps.onOuts {s₀ s : State} (h : Keeps s₀ s) (f : Outs → Outs) : Keeps s₀ (s.onOuts f) :=
  h.same rfl rfl rfl rfl rfl

theorem Keeps.onProt {s₀ s : State} (h : Keeps s₀ s) (f : Prot → Prot) : Keeps s₀ (s.onProt f) :=
  h.same rfl rfl rfl rfl rfl

theorem Keeps.onSup {s₀ s : State} (h : Keeps s₀ s) (f : Supervision → Supervision) : Keeps s₀ (s.onSup f) :=
  h.same rfl rfl rfl rfl rfl

theorem Keeps.onChan {s₀ s : State} (h : Keeps s₀ s) (n : Chan) (f : ChanState → ChanState) : Keeps s₀ (s.onChan n f) :=
  h.onOuts _

/-! ### The functions of Machine/Engine -/

theorem Keeps.syncEngine {s₀ s : State} (h : Keeps s₀ s) : Keeps s₀ s.syncEngine := by
  unfold State.syncEngine
  exact State.onSag_keeps h _ (fun _ => by rfl)

theorem Keeps.served {s₀ s : State} (h : Keeps s₀ s) (r : SagReq) : KeepsIn s₀ (s.served r) := by
  unfold State.served
  exact KeepsIn.ite (.some (State.onSag_keeps h.syncEngine _ (fun _ => by rfl))) <| .none

/-! ### The functions of Machine/Outputs -/

theorem Keeps.syncChan {s₀ s : State} (h : Keeps s₀ s) (n : Chan) (at_ : ℕ) : Keeps s₀ (s.syncChan n at_) :=
  Keeps.ite (h.putFlag _ _) ((((h.putFlag _ _).putFlag _ _).putFlag _ _).wr64 _ _)

theorem Keeps.setLogic {s₀ s : State} (h : Keeps s₀ s) (n : Chan) (l : Bool) (at_ : ℕ) : Keeps s₀ (s.setLogic n l at_) :=
  Keeps.ite h ((h.putFlag _ _).onChan _ _)

theorem Keeps.dropTest {s₀ s : State} (h : Keeps s₀ s) (n : Chan) : Keeps s₀ (s.dropTest n) :=
  Keeps.ite (h.onChan _ _) h

theorem Keeps.endPulse {s₀ s : State} (h : Keeps s₀ s) (n : Chan) (at_ : ℕ) : Keeps s₀ (s.endPulse n at_) :=
  Keeps.ite ((h.onChan _ _).setLogic _ _ _) h

theorem Keeps.refreshChan {s₀ s : State} (h : Keeps s₀ s) (n : Chan) : Keeps s₀ (s.refreshChan n) := by
  unfold State.refreshChan
  extract_lets +onlyGivenNames _ _ _ s1
  have k1 : Keeps s₀ s1 := Keeps.ite (((h.dropTest _).onChan _ _).setLogic _ _ _) (Keeps.ite (h.setLogic _ _ _) h)
  exact (((Keeps.ite (k1.onChan _ _) k1).putFlag _ _).put _ _).syncChan _ _

theorem Keeps.refreshStop {s₀ s : State} (h : Keeps s₀ s) : Keeps s₀ s.refreshStop :=
  Keeps.ite h ((((h.putFlag _ _).putFlag _ _).onOuts _).raiseSrc _)

theorem Keeps.refreshOuts {s₀ s : State} (h : Keeps s₀ s) : Keeps s₀ s.refreshOuts :=
  (State.each_keeps h _ _ (fun _ _ k => k.refreshChan _)).refreshStop

theorem Keeps.abandonTest {s₀ s : State} (h : Keeps s₀ s) : Keeps s₀ s.abandonTest := by
  unfold State.abandonTest
  split
  · exact (h.onOuts _).putFlag _ _
  · exact h

theorem Keeps.enterMode {s₀ s : State} (h : Keeps s₀ s) (m : ℕ) : Keeps s₀ (s.enterMode m) := by
  unfold State.enterMode
  exact Keeps.ite h (Keeps.ite (((((((State.when_keeps h _ _
    (fun _ k => k.abandonTest)).put _ _).put _ _).wr64 _ _).bump _).refreshOuts).onTw _) ((((((State.when_keeps h _ _
    (fun _ k => k.abandonTest)).put _ _).put _ _).wr64 _ _).bump _).refreshOuts))

theorem Keeps.degrade {s₀ s : State} (h : Keeps s₀ s) (bit : ℕ) : Keeps s₀ (s.degrade bit) :=
  Keeps.ite ((h.put _ _).enterMode _) (h.put _ _)

theorem Keeps.undegrade {s₀ s : State} (h : Keeps s₀ s) (bit : ℕ) : Keeps s₀ (s.undegrade bit) :=
  h.put _ _

theorem Keeps.degradeWhen {s₀ s : State} (h : Keeps s₀ s) (bit : ℕ) (c : Bool) : Keeps s₀ (s.degradeWhen bit c) :=
  Keeps.ite (h.degrade _) (h.undegrade _)

theorem Keeps.degradedExit {s₀ s : State} (h : Keeps s₀ s) : Keeps s₀ s.degradedExit :=
  Keeps.ite (h.enterMode _) h

theorem Keeps.mismatch {s₀ s : State} (h : Keeps s₀ s) (n : Chan) : Keeps s₀ (s.mismatch n) :=
  (((h.putFlag _ _).bump _).putFlag _ _).raise _ _

theorem Keeps.samplePei {s₀ s : State} (h : Keeps s₀ s) (n : Chan) (a b : Bool) : Keeps s₀ (s.samplePei n a b) :=
  (h.putFlag _ _).putFlag _ _

theorem execOffPulseTestEnd_kept {s₀ s : State} (h : Keeps s₀ s) (n : Chan) (a b : Bool) :
    Kept s₀ (execOffPulseTestEnd n a b s) := by
  unfold execOffPulseTestEnd
  refine Kept.next ?_
  split
  · exact h
  · exact Keeps.ite (((Keeps.ite ((h.samplePei _ _ _).bump _)
      ((((h.samplePei _ _ _).mismatch _).putFlag _ _).putFlag _ _)).onChan _ _).syncChan _ _) h

theorem execTimePulseEnd_kept {s₀ s : State} (h : Keeps s₀ s) (n : Chan) : Kept s₀ (execTimePulseEnd n s) := by
  unfold execTimePulseEnd
  refine Kept.next ?_
  split
  · exact Keeps.ite ((h.endPulse _ _).syncChan _ _) h
  · exact h

theorem execPeoPulseMax_kept {s₀ s : State} (h : Keeps s₀ s) (n : Chan) : Kept s₀ (execPeoPulseMax n s) := by
  unfold execPeoPulseMax
  refine Kept.next ?_
  split
  · exact Keeps.ite (((((h.endPulse _ _).syncChan _ _).putFlag _ _).putFlag _ _).raise _ _) h
  · exact h

theorem Keeps.startPulse {s₀ s : State} (h : Keeps s₀ s) (n : Chan) (p : Pulse) (at_ : ℕ) : Keeps s₀ (s.startPulse n p at_) :=
  (h.draw.onChan _ _).setLogic _ _ _

theorem Keeps.settleChan {s₀ s : State} (h : Keeps s₀ s) (old : State) (n : Chan) (at_ : ℕ) :
    Keeps s₀ (s.settleChan old n at_) :=
  (State.when_keeps h _ _ (fun _ k => k.onChan _ _)).syncChan _ _

theorem Keeps.actOn {s₀ s : State} (h : Keeps s₀ s) (e : Event) (up : Bool) (at_ : ℕ) : Keeps s₀ (s.actOn e up at_).1 := by
  unfold State.actOn
  extract_lets +onlyGivenNames _ s0
  have k1 : Keeps s₀ s0 := (h.bump _).putFlag _ _
  split
  · exact k1
  · extract_lets +onlyGivenNames s1 _ _ s2
    have k1 : Keeps s₀ s1 := k1.dropTest _
    have k2 : Keeps s₀ s2 := by
      unfold s2
      split
      · exact k1.setLogic _ _ _
      · exact (k1.onChan _ _).setLogic _ _ _
      · exact Keeps.ite (k1.startPulse _ _ _) (k1.startPulse _ _ _)
      · exact k1.setLogic _ _ _
    exact k2

/-! ### The functions of Machine/Lattice -/

theorem Keeps.setWord64 {s₀ s : State} (h : Keeps s₀ s) (a : ℕ) (d : DWord) : Keeps s₀ (s.setWord64 a d) :=
  Keeps.ite (h.wr64 _ _) (State.setBytes_keeps h _ _)

theorem Keeps.setSyndrome {s₀ s : State} (h : Keeps s₀ s) (a : ℕ) (e : BitVec 16) : Keeps s₀ (s.setSyndrome a e) :=
  h.onProt _

theorem Keeps.setScrubber {s₀ s : State} (h : Keeps s₀ s) (i : ℕ) (x : Scrubber) : Keeps s₀ (s.setScrubber i x) :=
  h.onProt _

theorem Keeps.lastError {s₀ s : State} (h : Keeps s₀ s) (i a kind : ℕ) : Keeps s₀ (s.lastError i a kind) :=
  State.wr_keeps (State.wr_keeps h _ _) _ _

theorem Keeps.countCorrection {s₀ s : State} (h : Keeps s₀ s) (i : ℕ) : Keeps s₀ (s.countCorrection i) :=
  Keeps.ite ((h.setScrubber _ _).raise _ _) (h.setScrubber _ _)

theorem Keeps.tileFault {s₀ s : State} (h : Keeps s₀ s) (t : ℕ) : Keeps s₀ (s.tileFault t) := by
  unfold State.tileFault
  exact ((((State.when_keeps h _ _ (fun _ k => k.putFlag _ _)).putFlag _ _).raise _ _).raiseSrc _).onVe _

theorem Keeps.queueWriteBack {s₀ s : State} (h : Keeps s₀ s) (i a : ℕ) : Keeps s₀ (s.queueWriteBack i a) :=
  h.onProt _

theorem Keeps.recordError {s₀ s : State} (h : Keeps s₀ s) (i a : ℕ) (o : LatOutcome) : Keeps s₀ (s.recordError i a o) := by
  unfold State.recordError
  split
  · exact h
  · exact ((Keeps.ite (h.bump _) ((h.bump _).lastError _ _ _)).countCorrection _).queueWriteBack _ _
  · exact (Keeps.ite h ((h.bump _).lastError _ _ _)).queueWriteBack _ _
  · extract_lets +onlyGivenNames s1
    have k1 : Keeps s₀ s1 := Keeps.ite ((h.bump _).tileFault _) ((h.bump _).lastError _ _ _)
    split
    · exact k1.raise _ _
    · exact k1

theorem Keeps.recordDm {s₀ s : State} (h : Keeps s₀ s) (a : ℕ) (o : LatOutcome) : Keeps s₀ (s.recordDm a o) := by
  unfold State.recordDm
  extract_lets +onlyGivenNames s0 corrected
  have k0 : Keeps s₀ s0 := h.wr64 _ _
  have kc : Keeps s₀ (corrected s0) := Keeps.ite (((k0.bump _).onProt _).raise _ _) ((k0.bump _).onProt _)
  cases o with
  | clean => exact h
  | dataBit b => exact (kc.setWord64 _ _).setSyndrome _ _
  | checkBit => exact kc.setSyndrome _ _
  | uncorrectable => exact k0.bump _

theorem Keeps.readStacked {s₀ s : State} (h : Keeps s₀ s) (a : ℕ) : Keeps s₀ (s.readStacked a).1 :=
  Keeps.ite (h.recordDm _ _) h

theorem Keeps.raiseUnc {s₀ s : State} (h : Keeps s₀ s) (m a : ℕ) : Keeps s₀ (s.raiseUnc m a) :=
  Keeps.ite (h.raise _ _) (Keeps.ite (h.raise _ _) h)

theorem Keeps.readWord {s₀ s : State} (h : Keeps s₀ s) (a : ℕ) : Keeps s₀ (s.readWord a).1 := by
  unfold State.readWord
  split
  · exact h.readStacked _
  · exact h.recordError _ _ _

theorem Keeps.writeWord {s₀ s : State} (h : Keeps s₀ s) (a : ℕ) (d : DWord) : Keeps s₀ (s.writeWord a d) := by
  unfold State.writeWord
  exact ((h.setWord64 _ _).setSyndrome _ _).onProt _

theorem Keeps.writeInWord {s₀ s : State} (h : Keeps s₀ s) (a off : ℕ) (b : Bytes) : Keeps s₀ (s.writeInWord a off b).1 := by
  unfold State.writeInWord
  split
  · exact h.writeWord _ _
  · split
    next s1 e =>
      have q1 := (h.readWord _).ofEq e
      exact q1
    next s1 d e =>
      have q1 := (h.readWord _).ofEq e
      exact q1.writeWord _ _

theorem Keeps.latWrite {s₀ s : State} (h : Keeps s₀ s) (fuel a : ℕ) (b : Bytes) : Keeps s₀ (s.latWrite fuel a b).1 := by
  induction fuel generalizing s a b with
  | zero => exact h
  | succ fuel ih =>
    cases b with
    | nil => exact h
    | cons x r => exact ih (h.writeInWord _ _ _) _ _

theorem Keeps.latRead {s₀ s : State} (h : Keeps s₀ s) (fuel a n : ℕ) : Keeps s₀ (s.latRead fuel a n).1 := by
  induction fuel generalizing s a n with
  | zero => exact h
  | succ fuel ih =>
    cases n with
    | zero => exact h
    | succ n => exact ih (h.readWord _) _ _

theorem Keeps.store {s₀ s : State} (h : Keeps s₀ s) (a : ℕ) (b : Bytes) : Keeps s₀ (s.store a b).1 :=
  h.latWrite _ _ _

theorem Keeps.retain {s₀ s : State} (h : Keeps s₀ s) (off : ℕ) (b : Bytes) : Keeps s₀ (s.retain off b) :=
  h.store _ _

theorem Keeps.wipeRetained {s₀ s : State} (h : Keeps s₀ s) (lo hi : ℕ) : Keeps s₀ (s.wipeRetained lo hi) := by
  unfold State.wipeRetained
  exact (State.resetRange_keeps h _ _).onProt _

theorem Keeps.fetch {s₀ s : State} (h : Keeps s₀ s) (a n : ℕ) : Keeps s₀ (s.fetch a n).1 :=
  h.latRead _ _ _

/-! ### The functions of Machine/Alarms -/

theorem Keeps.secEvent {s₀ s : State} (h : Keeps s₀ s) (kind detail : ℕ) : Keeps s₀ (s.secEvent kind detail) :=
  Keeps.ite h (((State.onSag_keeps h _ (fun _ => by rfl)).bumpWrap _).raiseSrc _)

theorem Keeps.recordSafe {s₀ s : State} (h : Keeps s₀ s) (id cls detail : ℕ) (request : Bool) :
    Keeps s₀ (s.recordSafe id cls detail request) :=
  h.retain _ _

theorem Keeps.setDevSafe {s₀ s : State} (h : Keeps s₀ s) : Keeps s₀ s.setDevSafe :=
  (((h.onOuts _).putFlag _ _).putFlag _ _).refreshOuts

theorem Keeps.endSession {s₀ s : State} (h : Keeps s₀ s) : Keeps s₀ s.endSession :=
  Keeps.ite h (((h.put _ _).secEvent _ _).raiseSrc _)

theorem Keeps.tearFlash {s₀ s : State} (h : Keeps s₀ s) (a n : ℕ) : Keeps s₀ (s.tearFlash a n) :=
  State.setBytes_keeps h.draw _ _

theorem Keeps.endFlash {s₀ s : State} (h : Keeps s₀ s) (o : FlashOp) (result : ℕ) : Keeps s₀ (s.endFlash o result) :=
  ((((h.onArch _).putFlag _ _).put _ _).put _ _).raiseSrc _

theorem Keeps.abandonFlash {s₀ s : State} (h : Keeps s₀ s) : Keeps s₀ s.abandonFlash := by
  unfold State.abandonFlash
  split
  · exact h
  · exact (h.tearFlash _ _).endFlash _ _

theorem Keeps.clearRetained {s₀ s : State} (h : Keeps s₀ s) (id detail : ℕ) : Keeps s₀ (s.clearRetained id detail) :=
  Keeps.ite h ((h.wipeRetained _ _).recordSafe _ _ _ _)

theorem Keeps.stopBoot {s₀ s : State} (h : Keeps s₀ s) : Keeps s₀ s.stopBoot :=
  Keeps.ite (h.put _ _) (Keeps.ite (h.put _ _) h)

theorem Keeps.alarm {s₀ s : State} (h : Keeps s₀ s) (classA : Bool) (bit id detail : ℕ) :
    Keeps s₀ (s.alarm classA bit id detail) := by
  unfold State.alarm
  extract_lets +onlyGivenNames _ _ _ s3
  have k1 : Keeps s₀ s3 := State.wr_keeps (State.onSag_keeps h.abandonFlash.setDevSafe _ (fun _ => by rfl)) _ _
  exact ((((((Keeps.ite
    ((State.blow_keeps k1 _ _).putFlag _ _) k1).put _ _).putFlag _ _).endSession.clearRetained _ _).stopBoot).enterMode
    _).secEvent _ _

theorem Keeps.sensorAlarm {s₀ s : State} (h : Keeps s₀ s) (classA : Bool) (bit : ℕ) : Keeps s₀ (s.sensorAlarm classA bit) :=
  (h.alarm _ _ _ _).raise _ _

/-! ### The functions of Machine/MemProt -/

theorem Keeps.debugDenial {s₀ s : State} (h : Keeps s₀ s) : Keeps s₀ s.debugDenial := by
  unfold State.debugDenial
  extract_lets +onlyGivenNames _ _ s2 s3
  have k1 : Keeps s₀ s2 := ((h.onProt _).bump _).raise _ _
  have k2 : Keeps s₀ s3 := Keeps.ite (k1.secEvent _ _) k1
  exact Keeps.ite (k2.sensorAlarm _ _) k2

theorem Keeps.recordDenial {s₀ s : State} (h : Keeps s₀ s) (m a : ℕ) (wr locked : Bool) (beats : ℕ) :
    Keeps s₀ (s.recordDenial m a wr locked beats) :=
  Keeps.ite (((State.wr_keeps ((h.bump _).wr64 _ _) _ _).raise _ _).debugDenial) ((State.wr_keeps
    ((h.bump _).wr64 _ _) _ _).raise _ _)

theorem Keeps.busWriteFrom {s₀ s : State} (h : Keeps s₀ s) (fuel m a done : ℕ) (b : Bytes) :
    Keeps s₀ (s.busWriteFrom fuel m a done b).1 := by
  induction fuel generalizing s a done b with
  | zero => exact h
  | succ fuel ih =>
    cases b with
    | nil => exact h
    | cons x r =>
      refine Keeps.iteFst (h.recordDenial _ _ _ _ _) ?_
      split
      · exact Keeps.iteFst (ih (h.store _ _) _ _ _) ((h.store _ _).raiseUnc _ _)
      · exact h.recordDenial _ _ _ _ _
      · exact h

theorem Keeps.busWrite {s₀ s : State} (h : Keeps s₀ s) (m a : ℕ) (b : Bytes) : Keeps s₀ (s.busWrite m a b).1 :=
  h.busWriteFrom _ _ _ _ _

theorem Keeps.busReadFrom {s₀ s : State} (h : Keeps s₀ s) (fuel m a done n : ℕ) :
    Keeps s₀ (s.busReadFrom fuel m a done n).1 := by
  induction fuel generalizing s a done n with
  | zero => exact h
  | succ fuel ih =>
    cases n with
    | zero => exact h
    | succ n =>
      refine Keeps.iteFst (h.recordDenial _ _ _ _ _) ?_
      split
      · exact Keeps.iteFst (ih (h.fetch _ _) _ _ _) ((h.fetch _ _).raiseUnc _ _)
      · exact h.recordDenial _ _ _ _ _
      · exact h

theorem Keeps.busRead {s₀ s : State} (h : Keeps s₀ s) (m a n : ℕ) : Keeps s₀ (s.busRead m a n).1 :=
  h.busReadFrom _ _ _ _ _

theorem Keeps.refuseAccess {s₀ s : State} (h : Keeps s₀ s) (m off : ℕ) (wr : Bool) : Keeps s₀ (s.refuseAccess m off wr) :=
  h.recordDenial _ _ _ _ _

theorem Keeps.storeError {s₀ s : State} (h : Keeps s₀ s) (m : Master) (off : ℕ) : Keeps s₀ (s.storeError m off) :=
  Keeps.ite (h.onCore _ _) h

theorem Keeps.portal {s₀ s t : State} (h : Keeps s₀ s) (h' : Keeps s₀ t) (m : Master) (off : ℕ) (ok : Bool) :
    Keeps s₀ (s.portal m off ok t) :=
  Keeps.ite ((h.recordDenial _ _ _ _ _).storeError _ _) (Keeps.ite h (Keeps.ite ((h.refuseAccess _ _ _).storeError _ _) h'))

/-! ### The functions of Machine/Stage -/

theorem Keeps.stageWrite {s₀ s : State} (h : Keeps s₀ s) (m : Master) (off : ℕ) (v : Word) :
    Keeps s₀ (s.stageWrite m off v).1 := by
  unfold State.stageWrite
  split
  · exact h.same rfl rfl rfl rfl rfl
  · exact Keeps.iteFst (h.putFlag _ _) (h.same rfl rfl rfl rfl rfl)

theorem Keeps.stageBy {s₀ s : State} (h : Keeps s₀ s) (m : Master) (off : ℕ) (v : Word) : Keeps s₀ (s.stageBy m off v) := by
  unfold State.stageBy
  split
  next t e =>
    have q1 := (h.stageWrite _ _ _).ofEq e
    exact q1
  next t e =>
    have q1 := (h.stageWrite _ _ _).ofEq e
    exact q1.storeError _ _

theorem Keeps.dropStaged {s₀ s : State} (h : Keeps s₀ s) (lo hi : ℕ) : Keeps s₀ (s.dropStaged lo hi) :=
  h.same rfl rfl rfl rfl rfl

/-! ### The functions of Machine/Wheel -/

theorem Keeps.countNear {s₀ s : State} (h : Keeps s₀ s) (d : Dom) : Keeps s₀ (s.countNear d) :=
  (h.put _ _).put _ _

theorem Keeps.recount {s₀ s : State} (h : Keeps s₀ s) (e : Event) : Keeps s₀ (s.recount e) :=
  ((((h.put _ _).raiseTo _ _).put _ _).put _ _).countNear _

theorem Keeps.setFate {s₀ s : State} (h : Keeps s₀ s) (slot : ℕ) (e : Event) (fired : Bool) :
    Keeps s₀ (s.setFate slot e fired) :=
  h.onWheel _

theorem Keeps.cleanSlot {s₀ s : State} (h : Keeps s₀ s) (slot : ℕ) : Keeps s₀ (s.cleanSlot slot) :=
  h.setMem rfl rfl rfl (filter_wf _) rfl

theorem Keeps.readSlot {s₀ s : State} (h : Keeps s₀ s) (slot : ℕ) : Keeps s₀ (s.readSlot slot).1 := by
  unfold State.readSlot
  exact h.fetch _ _

theorem Keeps.removeEvent {s₀ s : State} (h : Keeps s₀ s) (slot : ℕ) (e : Event) : Keeps s₀ (s.removeEvent slot e) :=
  (h.onWheel _).recount _

theorem Keeps.putEvent {s₀ s : State} (h : Keeps s₀ s) (slot : ℕ) (e : Event) : Keeps s₀ (s.putEvent slot e) :=
  Keeps.ite ((((h.cleanSlot _).onWheel _).recount _).raiseSrc _) (((h.cleanSlot _).onWheel _).recount _)

theorem Keeps.wheelLost {s₀ s : State} (h : Keeps s₀ s) (slot : Slot) : Keeps s₀ (s.wheelLost slot) := by
  unfold State.wheelLost
  split
  · exact ((h.removeEvent _ _).setFate _ _ _).raise _ _
  · exact h

theorem Keeps.fireLog {s₀ s : State} (h : Keeps s₀ s) (e : Event) (late past held : Bool) (tt : ℕ) :
    Keeps s₀ (s.fireLog e late past held tt) :=
  Keeps.ite ((h.bump _).raise _ _) (((Keeps.ite (h.store _ _) h).bumpWrap _).raiseSrc _)

theorem Keeps.endPosPulses {s₀ s : State} (h : Keeps s₀ s) (d : Dom) (at_ : ℕ) : Keeps s₀ (s.endPosPulses d at_) := by
  unfold State.endPosPulses
  refine State.each_keeps h _ _ (fun _ _ k => ?_)
  split
  · exact Keeps.ite ((k.endPulse _ _).syncChan _ _) k
  · exact k

theorem Keeps.fire {s₀ s : State} (h : Keeps s₀ s) (slot : ℕ) (e : Event) (up late past : Bool) (at_ : ℕ) :
    Keeps s₀ (s.fire slot e up late past at_) := by
  unfold State.fire
  exact State.when_keeps ((State.when_keeps (State.when_keeps (State.when_keeps ((h.actOn _ _ _).bump _) _ _
    (fun _ k => k.bump _)) _ _ (fun _ k => ((k.bump _).putFlag _ _).raise _ _)) _ _
    (fun _ k => k.putFlag _ _)).setFate _ _ _) _ _ (fun _ k => k.fireLog _ _ _ _ _)

theorem Keeps.dropFar {s₀ s : State} (h : Keeps s₀ s) (d : Dom) : Keeps s₀ (s.dropFar d) :=
  Keeps.ite ((h.onWheel _).countNear _) h

theorem Keeps.settleChans {s₀ s : State} (h : Keeps s₀ s) (old : State) (l : List Chan) (at_ : ℕ) :
    Keeps s₀ (s.settleChans old l at_) :=
  State.each_keeps h _ _ (fun _ _ k => k.settleChan _ _ _)

theorem Keeps.wheelMove {s₀ s : State} (h : Keeps s₀ s) (d : Dom) (old new : ℤ) : Keeps s₀ (s.wheelMove d old new) := by
  unfold State.wheelMove
  exact Keeps.ite (h.endPosPulses _ _) ((((State.each_keeps h _ _ (fun _ _ k => Keeps.ite ((Keeps.iteFst k
    (k.readSlot _)).wheelLost _) (Keeps.ite (((Keeps.iteFst k (k.readSlot _)).removeEvent _ _).fire _ _ _ _ _ _)
    (((Keeps.iteFst k (k.readSlot _)).removeEvent _ _).onWheel _)))).settleChans _ _ _).dropFar _).endPosPulses _ _)

theorem execLateEventAct_kept {s₀ s : State} (h : Keeps s₀ s) (d : Dom) (slot : Slot) :
    Kept s₀ (execLateEventAct d slot s) := by
  unfold execLateEventAct
  refine Kept.next ?_
  split
  · exact h
  · exact ((State.each_keeps (h.onWheel _) _ _ (fun _ _ k2 => k2.fire _ _ _ _ _ _)).settleChans _ _ _).endPosPulses _ _

theorem execNearSetLoad_kept {s₀ s : State} (h : Keeps s₀ s) (d : Dom) (slot : Slot) : Kept s₀ (execNearSetLoad d slot s) := by
  unfold execNearSetLoad
  refine Kept.next ?_
  split
  · exact h
  · exact Keeps.ite h (Keeps.ite (Keeps.ite h ((((h.onWheel _).countNear _).raiseSrc _).raise _ _)) (Keeps.ite h (Keeps.ite
      (((h.readSlot _).onWheel _).countNear _) ((h.readSlot _).wheelLost _))))

theorem Keeps.insertNoted {s₀ s : State} (h : Keeps s₀ s) (g : Group) (ch : Chan) (res : ℕ) :
    Keeps s₀ (s.insertNoted g ch res) := by
  unfold State.insertNoted
  split
  · exact (h.bump _).raise _ _
  · exact ((h.bump _).putFlag _ _).raise _ _
  · exact ((h.bump _).raiseSrc _).raise _ _
  · exact (h.bump _).raise _ _
  · exact h

theorem Keeps.insert {s₀ s : State} (h : Keeps s₀ s) (g : Group) (m0 : Bool) (r : Insertion) :
    Keeps s₀ (s.insert g m0 r).1 := by
  have k : Keeps s₀ (s.insertNoted g r.ch (s.insertResult g m0 r)) := h.insertNoted _ _ _
  unfold State.insert
  extract_lets +onlyGivenNames _ s1
  refine Keeps.iteFst k ?_
  extract_lets +onlyGivenNames _ _ _ _ ev s2
  have k2 : Keeps s₀ s2 := (k.bump _).onWheel _
  clear_value ev s2
  refine Keeps.iteFst ?_ (k2.putEvent _ _)
  rcases e : s2.draw with ⟨x, s3⟩
  have k3 : Keeps s₀ s3 := k2.draw.ofEqSnd e
  dsimp only
  exact (((k3.cleanSlot _).fire _ _ _ _ _ _).settleChans _ _ _).endPosPulses _ _

theorem Keeps.portInsert {s₀ s : State} (h : Keeps s₀ s) (g : Group) (m : Master) (v : Word) : Keeps s₀ (s.portInsert g m v) :=
  (Keeps.ite (((State.wr_keeps h _ _).insert _ _ _).put _ _) ((State.wr_keeps h _ _).insert _ _ _)).put _ _

theorem Keeps.holdPort {s₀ s : State} (h : Keeps s₀ s) (g : Group) (m : Master) (off : ℕ) (v : Word) :
    Keeps s₀ (s.holdPort g m off v) :=
  State.when_keeps (h.onWheel _) _ _ (fun _ k => k.putFlag _ _)

theorem Keeps.portWrite {s₀ s : State} (h : Keeps s₀ s) (g : Group) (m : Master) (off : ℕ) (v : Word) :
    Keeps s₀ (s.portWrite g m off v) :=
  Keeps.ite (h.portInsert _ _ _) (State.wr_keeps h _ _)

theorem execEwInsert_kept {s₀ s : State} (h : Keeps s₀ s) (g : Group) (m : Master) (v : Word) :
    Kept s₀ (execEwInsert g m v s) :=
  Kept.next (h.portal (Keeps.ite (h.holdPort _ _ _ _) (h.portInsert _ _ _)) _ _ _)

theorem Keeps.cancelHandle {s₀ s : State} (h : Keeps s₀ s) (g : Group) (m0 : Bool) (handle : ℕ) :
    Keeps s₀ (s.cancelHandle g m0 handle).1 := by
  unfold State.cancelHandle
  extract_lets +onlyGivenNames _
  split
  · exact Keeps.iteFst h (Keeps.iteFst h (((h.removeEvent _ _).setFate _ _ _).bump _))
  · split
    · exact Keeps.iteFst h (((h.onWheel _).setFate _ _ _).bump _)
    · split
      · exact Keeps.iteFst (Keeps.iteFst h h) h
      · exact h

theorem execEwCancelHandle_kept {s₀ s : State} (h : Keeps s₀ s) (g : Group) (m : Master) (v : Word) :
    Kept s₀ (execEwCancelHandle g m v s) :=
  Kept.next (h.portal ((h.cancelHandle _ _ _).put _ _) _ _ _)

theorem Keeps.cancelMask {s₀ s : State} (h : Keeps s₀ s) (g : Group) (tag mask : Word) : Keeps s₀ (s.cancelMask g tag mask).1 :=
  (State.each_keeps h _ _ (fun _ _ k => (k.removeEvent _ _).setFate _ _ _)).addTo _ _

theorem Keeps.startMask {s₀ s : State} (h : Keeps s₀ s) (g : Group) : Keeps s₀ (s.startMask g) :=
  Keeps.ite h (((h.cancelMask _ _ _).onWheel _).putFlag _ _)

theorem execEwMaskCancel_kept {s₀ s : State} (h : Keeps s₀ s) (g : Group) (m : Master) : Kept s₀ (execEwMaskCancel g m s) :=
  Kept.next (h.portal (h.startMask _) _ _ _)

theorem execEwRelease_kept {s₀ s : State} (h : Keeps s₀ s) (g : Group) (m : Master) : Kept s₀ (execEwRelease g m s) :=
  Kept.next (h.portal (h.stageBy _ _ _) _ _ _)

theorem Keeps.commitRelease {s₀ s : State} (h : Keeps s₀ s) (g : ℕ) : Keeps s₀ (s.commitRelease g) :=
  (h.put _ _).refreshOuts

theorem Keeps.rawWheel {s₀ s : State} (h : Keeps s₀ s) (wr : Bool) (word : ℕ) (data : DWord) (chk : BitVec 16) :
    Keeps s₀ (s.rawWheel wr word data chk) := by
  unfold State.rawWheel
  extract_lets +onlyGivenNames _
  split
  · split
    next n s1 e =>
      extract_lets +onlyGivenNames s2
      have k2 : Keeps s₀ s2 := ((((h.draw.ofEqSnd e).setWord64 _ _).setSyndrome _ _).onWheel _).raise _ _
      split
      · exact k2.onWheel _
      · exact k2
  · exact State.wr_keeps ((Keeps.ite h ((h.draw.setWord64 _ _).onWheel _)).wr64 _ _) _ _

/-! ### The functions of Machine/Kiln -/

theorem Keeps.setEncStat {s₀ s : State} (h : Keeps s₀ s) (f : Fld) : Keeps s₀ (s.setEncStat f) :=
  Keeps.ite h ((h.putFlag _ _).raiseSrc _)

theorem Keeps.syncSigBad {s₀ s : State} (h : Keeps s₀ s) (n : Enc) : Keeps s₀ (s.syncSigBad n) :=
  Keeps.ite (h.setEncStat _) (h.putFlag _ _)

theorem Keeps.countEdges {s₀ s : State} (h : Keeps s₀ s) (n : Enc) (k : ℕ) : Keeps s₀ (s.countEdges n k) :=
  Keeps.ite (((h.onEnc _ _).setEncStat _).raise _ _) (h.onEnc _ _)

theorem Keeps.syncDegr2 {s₀ s : State} (h : Keeps s₀ s) : Keeps s₀ s.syncDegr2 :=
  h.degradeWhen _ _

theorem Keeps.holdPos {s₀ s : State} (h : Keeps s₀ s) (d : Dom) : Keeps s₀ (s.holdPos d) :=
  h.onDom _ _

theorem Keeps.chkLoss {s₀ s : State} (h : Keeps s₀ s) (d : Dom) (silent : Bool) : Keeps s₀ (s.chkLoss d silent) := by
  unfold State.chkLoss
  extract_lets +onlyGivenNames _ s2
  have k1 : Keeps s₀ s2 := (((h.putFlag _ _).putFlag _ _).onDom _ _).raise _ _
  exact (Keeps.ite (((k1.holdPos _).putFlag _ _).raise _ _) k1).degrade _

theorem Keeps.priLoss {s₀ s : State} (h : Keeps s₀ s) (d : Dom) : Keeps s₀ (s.priLoss d) :=
  Keeps.ite ((((h.onDom _ _).putFlag _ _).raise _ _).degrade _) ((((h.holdPos _).onDom _ _).putFlag _ _).raise _ _)

theorem Keeps.domLoss {s₀ s : State} (h : Keeps s₀ s) (n : ℕ) : Keeps s₀ (s.domLoss n) :=
  State.each_keeps h _ _ (fun _ _ k => Keeps.ite k (Keeps.ite (k.priLoss _) (Keeps.ite (k.chkLoss _ _) k)))

theorem Keeps.syncStopped {s₀ s : State} (h : Keeps s₀ s) (d : Dom) : Keeps s₀ (s.syncStopped d) :=
  Keeps.ite h (Keeps.ite (((((h.putFlag _ _).raiseSrc _).raise _ _).abandonTest).onKiln _) ((h.putFlag _ _).raiseSrc _))

theorem Keeps.recognise {s₀ s : State} (h : Keeps s₀ s) (e : SourceEvent) : Keeps s₀ (s.recognise e) :=
  h.onKiln _

theorem Keeps.gridMove {s₀ s : State} (h : Keeps s₀ s) (d : Dom) : Keeps s₀ (s.gridMove d) :=
  Keeps.ite (Keeps.ite h ((h.onKiln _).recognise _)) h

theorem Keeps.forgetSent {s₀ s : State} (h : Keeps s₀ s) (d : Dom) : Keeps s₀ (s.forgetSent d) :=
  h.same rfl rfl rfl rfl rfl

theorem Keeps.reversed {s₀ s : State} (h : Keeps s₀ s) (d : Dom) : Keeps s₀ (s.reversed d) :=
  ((h.bump _).raiseSrc _).forgetSent _

theorem Keeps.moveDom {s₀ s : State} (h : Keeps s₀ s) (d : Dom) (ett : ℕ) (delta : ℤ) : Keeps s₀ (s.moveDom d ett delta) := by
  unfold State.moveDom
  extract_lets +onlyGivenNames _ _ _ _ _ _ _ _ _ s3
  have k1 : Keeps s₀ s3 := ((Keeps.ite (h.onDom _ _) (((Keeps.ite ((h.onDom _ _).reversed _)
    (h.onDom _ _)).putFlag _ _).onDom _ _)).putFlag _ _).syncStopped _
  exact (Keeps.ite k1 (k1.wheelMove _ _ _)).gridMove _

theorem Keeps.crossCheck {s₀ s : State} (h : Keeps s₀ s) (d : Dom) : Keeps s₀ (s.crossCheck d) := by
  unfold State.crossCheck
  extract_lets +onlyGivenNames _ _ _ s1
  have k1 : Keeps s₀ s1 := Keeps.ite (Keeps.ite (((h.onDom _ _).putFlag _ _).raise _ _) (h.onDom _ _)) h
  exact Keeps.ite (k1.chkLoss _ _) k1

theorem Keeps.domCount {s₀ s : State} (h : Keeps s₀ s) (n : Enc) (up : Bool) (ett : ℕ) (d : Dom) :
    Keeps s₀ (s.domCount n up ett d) := by
  unfold State.domCount
  exact Keeps.ite h (Keeps.ite (Keeps.ite (h.moveDom _ _ _) h) (Keeps.ite (Keeps.ite
    (((h.moveDom _ _ _).onDom _ _).crossCheck _) (h.moveDom _ _ _)) (Keeps.ite (Keeps.ite (h.onDom _ _) (h.onDom _ _)) h)))

theorem execEncoderEdge_kept {s₀ s : State} (h : Keeps s₀ s) (n : Enc) (e : EncEdge) : Kept s₀ (execEncoderEdge n e s) := by
  unfold execEncoderEdge
  extract_lets +onlyGivenNames _
  split
  refine Kept.next ?_
  split
  · exact h.onEnc _ _
  · split
    · exact ((((h.onEnc _ _).countEdges _ _).setEncStat _).bump _).raise _ _
    · exact State.each_keeps (((((h.onEnc _ _).countEdges _ _).onEnc _ _).wrInt _ _).wr64 _ _) _ _
        (fun _ _ k5 => k5.domCount _ _ _ _)

theorem execEncIndexEdge_kept {s₀ s : State} (h : Keeps s₀ s) (n : Enc) (rising : Bool) :
    Kept s₀ (execEncIndexEdge n rising s) := by
  unfold execEncIndexEdge
  exact Kept.next (Keeps.ite h (Keeps.ite ((h.setEncStat _).wrInt _ _) (Keeps.ite
    ((((((h.setEncStat _).wrInt _ _).onEnc _ _).setEncStat _).bump _).raise _ _) (((h.setEncStat _).wrInt _ _).onEnc _ _))))

theorem execEncSignalLoss_kept {s₀ s : State} (h : Keeps s₀ s) (n : Enc) (a b : Bool) :
    Kept s₀ (execEncSignalLoss n a b s) := by
  unfold execEncSignalLoss
  extract_lets +onlyGivenNames s1
  have k1 : Keeps s₀ s1 := (h.onEnc _ _).syncSigBad _
  exact Kept.next (Keeps.ite k1 (Keeps.ite ((State.when_keeps (State.when_keeps k1 _ _ (fun _ k2 => k2.setEncStat _)) _ _
    (fun _ k2 => k2.setEncStat _)).raise _ _) (((State.when_keeps (State.when_keeps k1 _ _ (fun _ k2 => k2.setEncStat _)) _ _
    (fun _ k2 => k2.setEncStat _)).raise _ _).domLoss _)))

theorem Keeps.clearEncStat {s₀ s : State} (h : Keeps s₀ s) (n : Enc) (v : Word) (ok : EncValid) :
    Keeps s₀ (s.clearEncStat n v ok) :=
  Keeps.ite ((((State.wr_keeps h _ _).onEnc _ _).syncSigBad _).onEnc _ _) (((State.wr_keeps h _ _).onEnc _ _).syncSigBad _)

theorem Keeps.rebaseGrid {s₀ s : State} (h : Keeps s₀ s) : Keeps s₀ s.rebaseGrid := by
  unfold State.rebaseGrid
  exact h.onKiln _

theorem Keeps.commitPreset {s₀ s : State} (h : Keeps s₀ s) (d : Dom) : Keeps s₀ (s.commitPreset d) := by
  unfold State.commitPreset
  exact Keeps.ite (h.putFlag _ _) (Keeps.ite ((((((h.onDom _ _).wrInt _ _).putFlag _ _).forgetSent _).onTe _).onKiln _)
    (((((h.onDom _ _).wrInt _ _).putFlag _ _).forgetSent _).onTe _))

theorem Keeps.setBank {s₀ s : State} (h : Keeps s₀ s) (d : Dom) (m : Master) (b : CvtBank) : Keeps s₀ (s.setBank d m b) :=
  h.onKiln _

theorem Keeps.startCvt {s₀ s : State} (h : Keeps s₀ s) (d : Dom) (m : Master) (c : Cvt) : Keeps s₀ (s.startCvt d m c) :=
  Keeps.ite h (h.setBank _ _ _)

theorem execDomCvtT2p_kept {s₀ s : State} (h : Keeps s₀ s) (d : Dom) (m : Master) : Kept s₀ (execDomCvtT2p d m s) :=
  Kept.next (h.startCvt _ _ _)

theorem execDomCvtP2t_kept {s₀ s : State} (h : Keeps s₀ s) (d : Dom) (m : Master) : Kept s₀ (execDomCvtP2t d m s) :=
  Kept.next (h.startCvt _ _ _)

theorem execDomCvtComplete_kept {s₀ s : State} (h : Keeps s₀ s) (d : Dom) (m : Master) :
    Kept s₀ (execDomCvtComplete d m s) := by
  unfold execDomCvtComplete
  refine Kept.next ?_
  split
  · exact h.setBank _ _ _
  · exact h

theorem Keeps.commitDomCfg {s₀ s : State} (h : Keeps s₀ s) (d : Dom) (v : Word) : Keeps s₀ (s.commitDomCfg d v) := by
  unfold State.commitDomCfg
  exact Keeps.ite (h.putFlag _ _) ((State.when_keeps (Keeps.ite ((Keeps.ite ((((State.wr_keeps ((Keeps.ite h
    (h.holdPos _)).onDom _ _) _ _).putFlag _ _).putFlag _ _).onKiln _) (((State.wr_keeps ((Keeps.ite h
    (h.holdPos _)).onDom _ _) _ _).putFlag _ _).putFlag _ _)).priLoss _) (Keeps.ite ((((State.wr_keeps ((Keeps.ite h
    (h.holdPos _)).onDom _ _) _ _).putFlag _ _).putFlag _ _).onKiln _) (((State.wr_keeps ((Keeps.ite h
    (h.holdPos _)).onDom _ _) _ _).putFlag _ _).putFlag _ _))) _ _ (fun _ k => k.chkLoss _ _)).syncDegr2)

theorem Keeps.commitTbStep {s₀ s : State} (h : Keeps s₀ s) (v : Word) : Keeps s₀ (s.commitTbStep v) :=
  Keeps.ite (State.wr_keeps h _ _) ((State.wr_keeps h _ _).onKiln _)

theorem Keeps.commitTbCtrl {s₀ s : State} (h : Keeps s₀ s) (v : Word) : Keeps s₀ (s.commitTbCtrl v) :=
  Keeps.ite ((State.wr_keeps h _ _).onKiln _) (State.wr_keeps h _ _)

theorem Keeps.commitEncCfg {s₀ s : State} (h : Keeps s₀ s) (n : Enc) (v : Word) : Keeps s₀ (s.commitEncCfg n v) :=
  Keeps.ite ((State.wr_keeps h _ _).onEnc _ _) (State.wr_keeps h _ _)

theorem Keeps.resumeChecks {s₀ s : State} (h : Keeps s₀ s) : Keeps s₀ s.resumeChecks :=
  (State.each_keeps h _ _ (fun _ _ k => Keeps.ite ((k.putFlag _ _).onDom _ _) k)).syncDegr2

/-! ### The functions of Machine/Lanes -/

theorem Keeps.formCodeword {s₀ s : State} (h : Keeps s₀ s) (n : Lane) : Keeps s₀ (s.formCodeword n) := by
  obtain ⟨ps, hps⟩ : ∃ f, f = packStream := exists_eq
  obtain ⟨co, hco⟩ : ∃ f, f = codewordOf := exists_eq
  generalize e : State.formCodeword = f
  unfold State.formCodeword at e
  rw [← hps, ← hco] at e
  subst e
  exact h.onLane _ _

theorem Keeps.transmit {s₀ s : State} (h : Keeps s₀ s) : Keeps s₀ s.transmit :=
  State.each_keeps h _ _ (fun _ _ k => Keeps.ite (State.when_keeps k _ _ (fun _ k2 => k2.onLane _ _)) (Keeps.ite
    (k.formCodeword _) k))

/-! ### The functions of Machine/Links -/

theorem Keeps.send {s₀ s : State} (h : Keeps s₀ s) (n : Lane) (typ flags : ℕ) (content : Bytes) :
    Keeps s₀ (s.send n typ flags content) :=
  Keeps.ite (h.onLane _ _) h

theorem Keeps.sendCtrl {s₀ s : State} (h : Keeps s₀ s) (n : Lane) (op addr : ℕ) (data : Bytes) :
    Keeps s₀ (s.sendCtrl n op addr data) :=
  (h.send _ _ _ _).onLane _ _

theorem Keeps.pushHbPer {s₀ s : State} (h : Keeps s₀ s) (n : Lane) : Keeps s₀ (s.pushHbPer n) :=
  Keeps.ite h (h.sendCtrl _ _ _ _)

theorem Keeps.sendCred {s₀ s : State} (h : Keeps s₀ s) (n : Lane) : Keeps s₀ (s.sendCred n) :=
  (h.send _ _ _ _).onLane _ _

theorem Keeps.syncActive {s₀ s : State} (h : Keeps s₀ s) (n : Lane) : Keeps s₀ (s.syncActive n) :=
  Keeps.ite (h.put _ _) (h.put _ _)

theorem Keeps.setLane {s₀ s : State} (h : Keeps s₀ s) (n : Lane) (st : ℕ) : Keeps s₀ (s.setLane n st) := by
  unfold State.setLane
  exact Keeps.ite h (Keeps.ite
    (((((((((h.put _ _).putFlag _ _).onLane _ _).syncActive _).put _ _).put _ _).putFlag _ _).putFlag _ _).onLane _ _)
    ((((h.put _ _).putFlag _ _).onLane _ _).syncActive _))

theorem Keeps.calibrate {s₀ s : State} (h : Keeps s₀ s) (n : Lane) : Keeps s₀ (s.calibrate n) :=
  ((((h.setLane _ _).putFlag _ _).putFlag _ _).onLane _ _).pushHbPer _

theorem Keeps.readyLane {s₀ s : State} (h : Keeps s₀ s) (n : Lane) : Keeps s₀ (s.readyLane n) :=
  Keeps.ite ((h.setLane _ _).stageWrite _ _ _) (h.setLane _ _)

theorem Keeps.challenge {s₀ s : State} (h : Keeps s₀ s) (n : Lane) : Keeps s₀ (s.challenge n) :=
  (h.draw.send _ _ _ _).onLane _ _

theorem Keeps.idFail {s₀ s : State} (h : Keeps s₀ s) (n : Lane) : Keeps s₀ (s.idFail n) :=
  (((h.onLane _ _).putFlag _ _).raise _ _).setLane _ _

theorem Keeps.headLost {s₀ s : State} (h : Keeps s₀ s) (n : Lane) : Keeps s₀ (s.headLost n) := by
  unfold State.headLost
  extract_lets +onlyGivenNames _ s2 s3
  have k1 : Keeps s₀ s2 := ((((h.putFlag _ _).bump _).raise _ _).wr64 _ _).onLane _ _
  have k2 : Keeps s₀ s3 := Keeps.ite (k1.raise _ _) k1
  exact Keeps.ite k2 (k2.calibrate _)

theorem Keeps.laneDrop {s₀ s : State} (h : Keeps s₀ s) (n : Lane) : Keeps s₀ (s.laneDrop n) :=
  Keeps.ite ((h.setLane _ _).headLost _) (h.setLane _ _)

theorem Keeps.synced {s₀ s : State} (h : Keeps s₀ s) (n : Lane) : Keeps s₀ (s.synced n) := by
  unfold State.synced
  exact Keeps.ite (h.putFlag _ _) (Keeps.ite (Keeps.ite (((h.putFlag _ _).setLane _ _).idFail _)
    (((h.putFlag _ _).setLane _ _).challenge _)) ((h.putFlag _ _).readyLane _))

theorem Keeps.exchange {s₀ s : State} (h : Keeps s₀ s) (n : Lane) (resid : Option ℤ) : Keeps s₀ (s.exchange n resid) :=
  Keeps.ite ((h.onLane _ _).synced _) (Keeps.ite (((((h.onLane _ _).putFlag _ _).putFlag _ _).raise _ _).headLost _)
    (h.onLane _ _))

theorem Keeps.answerSync {s₀ s : State} (h : Keeps s₀ s) (n : Lane) (m : RxMsg) : Keeps s₀ (s.answerSync n m) :=
  h.draw.send _ _ _ _

theorem Keeps.takeMessage {s₀ s : State} (h : Keeps s₀ s) (n : Lane) (m : RxMsg) : Keeps s₀ (s.takeMessage n m) :=
  Keeps.ite (h.bump _) (Keeps.ite (h.bump _) (Keeps.ite (h.onLane _ _) (Keeps.ite (h.answerSync _ _) h)))

theorem Keeps.takeSlot {s₀ s : State} (h : Keeps s₀ s) (n : Lane) (tt : ℕ) (b : Bytes) : Keeps s₀ (s.takeSlot n tt b) := by
  unfold State.takeSlot
  split
  · exact Keeps.ite (h.onLane _ _) ((h.onLane _ _).takeMessage _ _)
  · exact Keeps.ite h (Keeps.ite (Keeps.ite (h.onLane _ _) ((h.bump _).onLane _ _)) ((Keeps.ite h (h.bump _)).onLane _ _))

theorem Keeps.uncorrectable {s₀ s : State} (h : Keeps s₀ s) (n : Lane) : Keeps s₀ (s.uncorrectable n) :=
  Keeps.ite (((h.bump _).onLane _ _).raise _ _) ((h.bump _).onLane _ _)

theorem execCodewordReceive_kept {s₀ s : State} (h : Keeps s₀ s) (n : Lane) (fec : Fec) (cw : Codeword) :
    Kept s₀ (execCodewordReceive n fec cw s) := by
  unfold execCodewordReceive
  extract_lets +onlyGivenNames _ _ _ _ _
  split
  refine Kept.next ?_
  split
  · exact h
  · split
    · exact h.onLane _ _
    · split
      · exact (h.onLane _ _).uncorrectable _
      · exact ((h.onLane _ _).bump _).foldl _ _ (fun _ _ k2 => k2.takeSlot _ _ _)
      · exact (h.onLane _ _).foldl _ _ (fun _ _ k2 => k2.takeSlot _ _ _)

theorem Keeps.rxPop {s₀ s : State} (h : Keeps s₀ s) (n : Lane) : Keeps s₀ (s.rxPop n) :=
  h.onLane _ _

theorem Keeps.agree {s₀ s : State} (h : Keeps s₀ s) (n : Lane) : Keeps s₀ (s.agree n) := by
  unfold State.agree
  split
  · exact Keeps.ite (((h.onLane _ _).put _ _).calibrate _) ((((h.onLane _ _).putFlag _ _).raise _ _).setLane _ _)
  · exact h

theorem execVerReceive_kept {s₀ s : State} (h : Keeps s₀ s) (n : Lane) : Kept s₀ (execVerReceive n s) := by
  unfold execVerReceive
  refine Kept.next ?_
  split
  · exact h
  · exact Keeps.ite (h.rxPop _) (((State.each_keeps ((((((h.rxPop _).put _ _).put _ _).put _ _).put _ _).put _ _) _ _
      (fun _ _ k2 => k2.put _ _)).onLane _ _).agree _)

theorem execSyncResponseReceive_kept {s₀ s : State} (h : Keeps s₀ s) (n : Lane) (frac : Byte) :
    Kept s₀ (execSyncResponseReceive n frac s) := by
  unfold execSyncResponseReceive
  refine Kept.next ?_
  split
  · exact h
  · extract_lets +onlyGivenNames _ _
    split
    · exact h.rxPop _
    · exact (((((h.rxPop _).put _ _).put _ _).put _ _).onLane _ _).exchange _ _

theorem execSyncResponseMissing_kept {s₀ s : State} (h : Keeps s₀ s) (n : Lane) : Kept s₀ (execSyncResponseMissing n s) := by
  unfold execSyncResponseMissing
  refine Kept.next ?_
  split
  · exact Keeps.ite ((h.onLane _ _).exchange _ _) h
  · exact h

theorem execHbReceive_kept {s₀ s : State} (h : Keeps s₀ s) (n : Lane) : Kept s₀ (execHbReceive n s) := by
  unfold execHbReceive
  refine Kept.next ?_
  split
  · exact (h.rxPop _).onLane _ _
  · exact h

/-! ### The functions of Machine/Heads -/

theorem Keeps.mailbox {s₀ s : State} (h : Keeps s₀ s) {f : State → State} (hf : ∀ t, Keeps s₀ t → Keeps s₀ (f t))
    (n : Lane) (m : Master) (op : ℕ) : Keeps s₀ (s.mailbox n m op f) :=
  h.portal (Keeps.ite (h.put _ _) (hf _ (((h.put _ _).putFlag _ _).send _ _ _ _ |>.onLane _ _))) _ _ _

theorem execHlCmbReset_kept {s₀ s : State} (h : Keeps s₀ s) (n : Lane) (m : Master) : Kept s₀ (execHlCmbReset n m s) :=
  Kept.next (h.mailbox (fun _ k => Keeps.ite (k.laneDrop _) k) _ _ _)

theorem Keeps.mailboxDone {s₀ s : State} (h : Keeps s₀ s) (n : Lane) (status : ℕ) : Keeps s₀ (s.mailboxDone n status) :=
  (((h.putFlag _ _).put _ _).putFlag _ _).onLane _ _

theorem execCtrlResponseReceive_kept {s₀ s : State} (h : Keeps s₀ s) (n : Lane) : Kept s₀ (execCtrlResponseReceive n s) := by
  unfold execCtrlResponseReceive
  refine Kept.next ?_
  split
  · exact h
  · split
    · exact h
    · extract_lets +onlyGivenNames _ _
      split
      · exact Keeps.ite ((State.each_keeps (h.rxPop _) _ _ (fun _ _ k2 => k2.put _ _)).mailboxDone _ _) ((h.rxPop _).onLane _ _)
      · exact (h.rxPop _).onLane _ _

theorem execCtrlResponseTimeout_kept {s₀ s : State} (h : Keeps s₀ s) (n : Lane) : Kept s₀ (execCtrlResponseTimeout n s) := by
  unfold execCtrlResponseTimeout
  extract_lets +onlyGivenNames _ _ s1 s2
  have k1 : Keeps s₀ s1 := by
    unfold s1
    split
    · exact Keeps.ite (h.mailboxDone _ _) h
    · exact h
  have k2 : Keeps s₀ s2 := k1.onLane _ _
  refine Kept.next ?_
  split
  · exact Keeps.ite (k2.idFail _) k2
  · exact k2

theorem execChallengeResponseReceive_kept {s₀ s : State} (h : Keeps s₀ s) (n : Lane) :
    Kept s₀ (execChallengeResponseReceive n s) := by
  unfold execChallengeResponseReceive
  refine Kept.next ?_
  split
  · exact h
  · exact Keeps.ite h (((h.rxPop _).onLane _ _).syncEngine)

theorem execChallengeCheckDone_kept {s₀ s0 : State} (h : Keeps s₀ s0) (n : Lane) : Kept s₀ (execChallengeCheckDone n s0) := by
  unfold execChallengeCheckDone
  refine Kept.next ?_
  split
  · exact h
  next s e =>
    have q1 := (h.served _) _ e
    split
    · exact q1
    · exact Keeps.ite ((State.onSag_keeps (q1.busRead _ _ _) _ (fun _ => by rfl)).onLane _ _) (Keeps.ite ((((State.onSag_keeps
        (q1.busRead _ _ _) _ (fun _ => by rfl)).onLane _ _).putFlag _ _).readyLane _) ((State.onSag_keeps (q1.busRead _ _ _) _
        (fun _ => by rfl)).idFail _))

theorem execHlAdmit_kept {s₀ s : State} (h : Keeps s₀ s) (n : Lane) (m : Master) : Kept s₀ (execHlAdmit n m s) :=
  Kept.next (h.portal (Keeps.ite (h.putFlag _ _) (h.stageBy _ _ _)) _ _ _)

theorem execHlDetach_kept {s₀ s : State} (h : Keeps s₀ s) (n : Lane) (m : Master) : Kept s₀ (execHlDetach n m s) :=
  Kept.next (h.portal (h.stageBy _ _ _) _ _ _)

theorem execHlRetrain_kept {s₀ s : State} (h : Keeps s₀ s) (n : Lane) (m : Master) : Kept s₀ (execHlRetrain n m s) :=
  Kept.next (h.portal (Keeps.ite (h.setLane _ _) h) _ _ _)

theorem Keeps.commitHlCtrl {s₀ s : State} (h : Keeps s₀ s) (n : Lane) (v : Word) : Keeps s₀ (s.commitHlCtrl n v) := by
  unfold State.commitHlCtrl
  exact Keeps.ite (Keeps.ite (((Keeps.ite (h.wr64 _ _) ((h.wr64 _ _).sendCtrl _ _ _ _)).readyLane _).onLane _ _) (Keeps.ite
    (h.wr64 _ _) h)) (Keeps.ite (Keeps.ite (((((h.wr64 _ _).put _ _).put _ _).setLane _ _).onLane _ _)
    ((((((h.wr64 _ _).put _ _).put _ _).setLane _ _).onLane _ _).sendCred _)) h)

theorem Keeps.syncPeers {s₀ s : State} (h : Keeps s₀ s) : Keeps s₀ s.syncPeers := by
  unfold State.syncPeers
  split
  · exact (((h.put _ _).putFlag _ _).put _ _).putFlag _ _
  · exact (((h.put _ _).putFlag _ _).put _ _).putFlag _ _
  · exact (((h.put _ _).putFlag _ _).put _ _).putFlag _ _

theorem Keeps.commitHlCfg {s₀ s : State} (h : Keeps s₀ s) (n : Lane) (v : Word) : Keeps s₀ (s.commitHlCfg n v) := by
  unfold State.commitHlCfg
  extract_lets +onlyGivenNames _ _ _ s1 s2
  have k1 : Keeps s₀ s1 := State.when_keeps (State.wr_keeps h _ _) _ _ (fun _ k => k.onLane _ _)
  have k2 : Keeps s₀ s2 := Keeps.ite (k1.raise _ _) k1
  exact (Keeps.ite (k2.setLane _ _) k2).syncPeers

theorem Keeps.commitHlHb {s₀ s : State} (h : Keeps s₀ s) (n : Lane) (v : Word) : Keeps s₀ (s.commitHlHb n v) :=
  Keeps.ite (State.wr_keeps h _ _) (Keeps.ite (((State.wr_keeps h _ _).onLane _ _).pushHbPer _)
    ((State.wr_keeps h _ _).onLane _ _))

theorem Keeps.returnFeat {s₀ s : State} (h : Keeps s₀ s) (n k : ℕ) : Keeps s₀ (s.returnFeat n k) :=
  h.put _ _

theorem Keeps.returnCrop {s₀ s : State} (h : Keeps s₀ s) (n k : ℕ) : Keeps s₀ (s.returnCrop n k) :=
  h.put _ _

theorem Keeps.creditViolation {s₀ s : State} (h : Keeps s₀ s) (n : Lane) : Keeps s₀ (s.creditViolation n) :=
  ((h.bump _).putFlag _ _).raise _ _

theorem Keeps.checkSeq {s₀ s : State} (h : Keeps s₀ s) (n : Lane) (typ : ℕ) (b : Bytes) : Keeps s₀ (s.checkSeq n typ b) := by
  unfold State.checkSeq
  extract_lets +onlyGivenNames _ _
  split
  · exact Keeps.ite (h.onLane _ _) ((((h.onLane _ _).bump _).putFlag _ _).raise _ _)
  · exact h.onLane _ _

theorem Keeps.captureMissed {s₀ s : State} (h : Keeps s₀ s) (n : Lane) : Keeps s₀ (s.captureMissed n) :=
  Keeps.ite (((((h.bump _).putFlag _ _).raise _ _).onLane _ _).headLost _) ((((h.bump _).putFlag _ _).raise _ _).onLane _ _)

theorem execCaptureMiss_kept {s₀ s : State} (h : Keeps s₀ s) (n : Lane) : Kept s₀ (execCaptureMiss n s) := by
  unfold execCaptureMiss
  refine Kept.next ?_
  split
  · exact (h.onLane _ _).captureMissed _
  · exact h

theorem Keeps.takeRecords {s₀ s : State} (h : Keeps s₀ s) (n : Lane) (b : Bytes) (cap : Capture) (own : Bool) (cost : ℕ) :
    Keeps s₀ (s.takeRecords n b cap own cost) := by
  unfold State.takeRecords
  exact Keeps.ite ((Keeps.ite (h.addTo _ _) ((h.addTo _ _).putFlag _ _)).returnFeat _ _) (Keeps.ite (((State.when_keeps
    ((h.onTe _).addTo _ _) _ _ (fun _ k => k.returnFeat _ _)).onLane _ _).onTe _) ((State.when_keeps
    ((h.onTe _).addTo _ _) _ _ (fun _ k => k.returnFeat _ _)).onLane _ _))

theorem execFeatReceive_kept {s₀ s : State} (h : Keeps s₀ s) (n : Lane) : Kept s₀ (execFeatReceive n s) := by
  unfold execFeatReceive
  refine Kept.next ?_
  split
  · exact h
  · exact Keeps.ite ((h.rxPop _).bump _) (Keeps.ite (((h.rxPop _).checkSeq _ _ _).creditViolation _) (Keeps.ite
      ((((h.rxPop _).checkSeq _ _ _).onLane _ _).takeRecords _ _ _ _ _) (Keeps.ite
      ((((((h.rxPop _).checkSeq _ _ _).onLane _ _).takeRecords _ _ _ _ _).onLane _ _).captureMissed _)
      ((((((h.rxPop _).checkSeq _ _ _).onLane _ _).takeRecords _ _ _ _ _).onLane _ _).onLane _ _))))

theorem Keeps.setCropState {s₀ s : State} (h : Keeps s₀ s) (n : Lane) (slot st : ℕ) : Keeps s₀ (s.setCropState n slot st) := by
  generalize e : State.setCropState = f
  unfold State.setCropState at e
  subst e
  exact h.busWrite _ _ _

theorem Keeps.cropDropped {s₀ s : State} (h : Keeps s₀ s) (n : Lane) : Keeps s₀ (s.cropDropped n) :=
  ((h.bump _).putFlag _ _).raise _ _

theorem Keeps.takeFragment {s₀ s : State} (h : Keeps s₀ s) (n : Lane) (b : Bytes) : Keeps s₀ (s.takeFragment n b) := by
  unfold State.takeFragment
  extract_lets +onlyGivenNames _ _ _ _ old s1 f0
  have k1 : Keeps s₀ s1 := by
    unfold s1
    clear_value old
    cases old with
    | none => exact h
    | some f => exact Keeps.ite h ((h.setCropState _ _ _).cropDropped _)
  split
  next s2 r e =>
    have k2 : Keeps s₀ s2 := (k1.busWrite _ _ _).ofEq e
    exact Keeps.ite (((k2.busWrite _ _ _).setCropState _ _ _).onLane _ _) ((k2.busWrite _ _ _).onLane _ _)

theorem execCropReceive_kept {s₀ s : State} (h : Keeps s₀ s) (n : Lane) : Kept s₀ (execCropReceive n s) := by
  unfold execCropReceive
  refine Kept.next ?_
  split
  · exact h
  · exact Keeps.ite ((h.rxPop _).bump _) (Keeps.ite (((h.rxPop _).checkSeq _ _ _).creditViolation _) ((Keeps.ite
      ((((h.rxPop _).checkSeq _ _ _).onLane _ _).takeFragment _ _) (((h.rxPop _).checkSeq _ _ _).onLane _ _)).returnCrop _ _))

theorem execCropTimeout_kept {s₀ s : State} (h : Keeps s₀ s) (n : Lane) (slot : ℕ) : Kept s₀ (execCropTimeout n slot s) := by
  unfold execCropTimeout
  refine Kept.next ?_
  split
  · exact Keeps.ite (((h.setCropState _ _ _).onLane _ _).cropDropped _) h
  · exact h

theorem execStatReceive_kept {s₀ s : State} (h : Keeps s₀ s) (n : Lane) : Kept s₀ (execStatReceive n s) := by
  unfold execStatReceive
  refine Kept.next ?_
  split
  · exact h
  · extract_lets +onlyGivenNames _ _ s2
    have k1 : Keeps s₀ s2 := ((((h.rxPop _).put _ _).put _ _).put _ _).put _ _
    exact Keeps.ite k1 (k1.putFlag _ _)

theorem Keeps.sendTrig {s₀ s : State} (h : Keeps s₀ s) (n : Lane) (t : ℕ) (c : ℤ) : Keeps s₀ (s.sendTrig n t c) :=
  ((h.send _ _ _ _).bump _).onLane _ _

theorem Keeps.skipTrig {s₀ s : State} (h : Keeps s₀ s) (n : Lane) : Keeps s₀ (s.skipTrig n) :=
  ((h.bump _).putFlag _ _).raise _ _

theorem Keeps.selectFrom {s₀ s : State} (h :
    Keeps s₀ s) (fuel : ℕ) (n : Lane) (d : Dom) (up : Bool) (bound : Option ℤ) (c : ℤ) (sent : ℕ)
    (ovf : Bool) : Keeps s₀ (s.selectFrom fuel n d up bound c sent ovf).1 := by
  induction fuel generalizing s c sent ovf with
  | zero => exact h
  | succ fuel ih =>
    unfold State.selectFrom
    extract_lets +onlyGivenNames inside
    refine Keeps.iteFst h ?_
    extract_lets +onlyGivenNames p pitch next done b
    have kd : Keeps s₀ done := h.onLane _ _
    exact Keeps.iteFst (ih h _ _ _) (Keeps.iteFst (Keeps.iteFst h (ih (kd.skipTrig _) _ _ _)) (Keeps.iteFst h
      (Keeps.iteFst (ih (kd.skipTrig _) _ _ _) (Keeps.iteFst (ih (kd.skipTrig _) _ _ _) (ih (kd.sendTrig _ _ _) _ _ _)))))

theorem Keeps.sendTrigs {s₀ s : State} (h : Keeps s₀ s) (n : Lane) : Keeps s₀ (s.sendTrigs n) :=
  Keeps.ite h (Keeps.ite (((h.onLane _ _).selectFrom _ _ _ _ _ _ _ _).raise _ _) ((h.onLane _ _).selectFrom _ _ _ _ _ _ _ _))

theorem Keeps.coverOne {s₀ s : State} (h : Keeps s₀ s) (d surf : ℕ) : Keeps s₀ (s.coverOne d surf) := by
  unfold State.coverOne
  extract_lets +onlyGivenNames _ _ _ _ _ _ s0 s1
  have k0 : Keeps s₀ s0 := h.same rfl rfl rfl rfl rfl
  have k1 : Keeps s₀ s1 := (State.wr_keeps k0 _ _).put _ _
  exact State.each_keeps k1 _ _ (fun _ _ k => (k.bump _).raise _ _)

theorem Keeps.evalCoverage {s₀ s : State} (h : Keeps s₀ s) : Keeps s₀ s.evalCoverage :=
  (State.each_keeps h _ _ (fun _ _ k => (k.coverOne _ _).coverOne _ _)).degradeWhen _ _

/-! ### The functions of Machine/Archive -/

theorem Keeps.syncArch {s₀ s : State} (h : Keeps s₀ s) : Keeps s₀ s.syncArch :=
  ((((Keeps.ite (h.raiseSrc _) h).wr64 _ _).wr64 _ _).put _ _).put _ _

theorem Keeps.makeRoom {s₀ s : State} (h : Keeps s₀ s) (fuel need : ℕ) : Keeps s₀ (s.makeRoom fuel need) := by
  induction fuel generalizing s with
  | zero => exact h
  | succ fuel ih =>
    refine Keeps.ite h ?_
    split
    · exact ih ((h.onArch _).bump _)
    · exact h

theorem Keeps.countWrite {s₀ s : State} (h : Keeps s₀ s) (n : ℕ) : Keeps s₀ (s.countWrite n) :=
  h.onArch _

theorem Keeps.addRecord {s₀ s : State} (h : Keeps s₀ s) (seq p : ℕ) (b : Bytes) : Keeps s₀ (s.addRecord seq p b) :=
  ((h.makeRoom _ _).countWrite _).onArch _

theorem Keeps.cropOf {s₀ s : State} (h : Keeps s₀ s) (lane id : ℕ) : Keeps s₀ (s.cropOf lane id).1 := by
  obtain ⟨rd, hrd⟩ : ∃ f, f = State.busRead := exists_eq
  have hr {t : State} (k : Keeps s₀ t) (m a n : ℕ) : Keeps s₀ (rd t m a n).1 := hrd ▸ k.busRead m a n
  generalize e : State.cropOf = f
  unfold State.cropOf at e
  rw [← hrd] at e
  subst e
  exact Keeps.iteFst h (Keeps.iteFst (hr (hr h _ _ _) _ _ _) (hr h _ _ _))

theorem Keeps.archiveTrack {s₀ s : State} (h : Keeps s₀ s) (id : ℕ) (r : Bytes) (batch : ℕ) :
    Keeps s₀ (s.archiveTrack id r batch).1 := by
  obtain ⟨co, hco⟩ : ∃ f, f = State.cropOf := exists_eq
  have hc (lane id : ℕ) : Keeps s₀ (co s lane id).1 := hco ▸ h.cropOf lane id
  suffices k : KeepsFst s₀ (s.archiveTrack id r batch) from k
  generalize e : State.archiveTrack = f
  unfold State.archiveTrack at e
  rw [← hco] at e
  subst e
  refine KeepsFst.ite (.mk (h.bump _)) (KeepsFst.ite (.mk h) ?_)
  split
  next s1 crop e =>
    have k1 : Keeps s₀ s1 := (hc _ _).ofEq e
    extract_lets +onlyGivenNames _ _ _ entry _ _
    refine KeepsFst.ite (.mk k1) ?_
    extract_lets +onlyGivenNames s2
    have k2 : Keeps s₀ s2 := k1.makeRoom _ _
    refine KeepsFst.ite (.mk (Keeps.ite k2 ((k2.putFlag _ _).raise _ _))) ?_
    split
    · exact .mk k2
    · extract_lets +onlyGivenNames _ s3 s4 s5
      have k3 : Keeps s₀ s3 := k2.putFlag _ _
      have k4 : Keeps s₀ s4 := Keeps.ite ((k3.bump _).onArch _) k3
      have k5 : Keeps s₀ s5 := by
        unfold s5
        clear_value entry
        cases entry with
        | none => exact k4
        | some e => exact k4.addRecord _ _ _
      exact .mk (k5.addRecord _ _ _).syncArch

theorem Keeps.sealSegment {s₀ s : State} (h : Keeps s₀ s) (fn : ℕ) (pf : Bool) : Keeps s₀ (s.sealSegment fn pf) :=
  Keeps.ite h (((State.each_keeps h _ _ (fun _ _ k => k.addRecord _ _ _)).onArch _).syncArch)

theorem Keeps.syncWear {s₀ s : State} (h : Keeps s₀ s) : Keeps s₀ s.syncWear :=
  Keeps.ite (((h.put _ _).raise _ _).onArch _) (h.put _ _)

theorem Keeps.programSegment {s₀ s : State} (h : Keeps s₀ s) : Keeps s₀ s.programSegment := by
  unfold State.programSegment
  split
  · exact h
  · exact (((((h.onArch _).draw.wr64 _ _).wr64 _ _).wr64 _ _).syncWear).syncArch

theorem Keeps.openAutoCoil {s₀ s : State} (h : Keeps s₀ s) : Keeps s₀ s.openAutoCoil :=
  (h.onArch _).syncArch

theorem Keeps.openCoil {s₀ s : State} (h : Keeps s₀ s) (d : ℕ) (start : ℤ) (id : Bytes) : Keeps s₀ (s.openCoil d start id) :=
  (h.onArch _).syncArch

theorem Keeps.closeCoil {s₀ s : State} (h : Keeps s₀ s) (seq : ℕ) : Keeps s₀ (s.closeCoil seq) :=
  ((h.onArch _).raiseSrc _).syncArch

theorem Keeps.commitArCtrl {s₀ s : State} (h : Keeps s₀ s) (v : Word) : Keeps s₀ (s.commitArCtrl v) := by
  unfold State.commitArCtrl
  exact Keeps.ite ((State.wr_keeps h _ _).openAutoCoil) (Keeps.ite (State.wr_keeps (State.each_keeps (h.sealSegment _ _) _ _
    (fun _ _ k => k.closeCoil _)) _ _) (State.wr_keeps h _ _))

theorem Keeps.logGap {s₀ s : State} (h : Keeps s₀ s) (d surf old new : ℕ) : Keeps s₀ (s.logGap d surf old new) := by
  unfold State.logGap
  split
  · exact h
  · extract_lets +onlyGivenNames _ _
    split
    · exact (h.addRecord _ _ _).syncArch
    · exact h

theorem execArThermalChange_kept {s₀ s : State} (h : Keeps s₀ s) (t : ℕ) : Kept s₀ (execArThermalChange t s) := by
  unfold execArThermalChange
  extract_lets +onlyGivenNames _ _ s1 s2
  have k1 : Keeps s₀ s1 := (h.put _ _).put _ _
  have k2 : Keeps s₀ s2 := Keeps.ite k1 (k1.raiseSrc _)
  exact Kept.next (Keeps.ite (k2.raise _ _) k2)

/-! ### The functions of Machine/Tracks -/

theorem Keeps.readTrack {s₀ s : State} (h : Keeps s₀ s) (id : ℕ) : Keeps s₀ (s.readTrack id) :=
  h.fetch _ _

theorem Keeps.preImage {s₀ s : State} (h : Keeps s₀ s) (id : ℕ) : Keeps s₀ (s.preImage id) :=
  Keeps.ite h ((((h.store _ _).onTe _).put _ _).raiseTo _ _)

theorem Keeps.hashIn {s₀ s : State} (h : Keeps s₀ s) (b : Bytes) : Keeps s₀ (s.hashIn b) :=
  h.onTe _

theorem Keeps.writeTrackBytes {s₀ s : State} (h : Keeps s₀ s) (id : ℕ) (b : Bytes) : Keeps s₀ (s.writeTrackBytes id b) :=
  ((h.preImage _).store _ _).hashIn _

theorem Keeps.writeTrack {s₀ s : State} (h : Keeps s₀ s) (id : ℕ) (t : Track) : Keeps s₀ (s.writeTrack id t) :=
  h.writeTrackBytes _ _

theorem Keeps.countOpen {s₀ s : State} (h : Keeps s₀ s) (d surf : ℕ) (up : Bool) : Keeps s₀ (s.countOpen d surf up) :=
  h.put _ _

theorem Keeps.cost {s₀ s : State} (h : Keeps s₀ s) (n : ℕ) : Keeps s₀ (s.cost n) :=
  h.onTe _

theorem Keeps.countLate {s₀ s : State} (h : Keeps s₀ s) : Keeps s₀ s.countLate :=
  (h.bump _).raise _ _

theorem execTeStageRecord_kept {s₀ s : State} (h : Keeps s₀ s) : Kept s₀ (execTeStageRecord s) := by
  unfold execTeStageRecord
  refine Kept.next ?_
  split
  · exact h
  · exact Keeps.ite h (Keeps.ite ((h.onTe _).returnFeat _ _) (Keeps.ite (((h.onTe _).returnFeat _ _).countLate)
      (((h.onTe _).returnFeat _ _).onTe _)))

theorem Keeps.placeRecord {s₀ : State} {acc : State × List Placed × List (ℕ × ℕ × ℤ)} (h :
    Keeps s₀ acc.1) (s : State) (r : RecIn) :
    Keeps s₀ (s.placeRecord acc r).1 := by
  unfold State.placeRecord
  obtain ⟨s1, recs, edges⟩ := acc
  exact Keeps.iteFst (h.bump _) (Keeps.iteFst h (Keeps.iteFst (h.bump _) (Keeps.iteFst h ((h.bump _).raise _ _))))

theorem Keeps.sealBatch {s₀ s : State} (h : Keeps s₀ s) (f : ℕ) : Keeps s₀ (s.sealBatch f) := by
  unfold State.sealBatch
  exact (State.each_keeps ((Keeps.foldlFst (State.each_keeps h _ _ (fun _ _ k => k.countLate)) _ _
    (fun _ _ k2 => k2.placeRecord _ _)).addTo _ _) _ _ (fun _ _ k2 => k2.raise _ _)).onTe _

theorem Keeps.refer {s₀ s : State} (h : Keeps s₀ s) (d surf id c : ℕ) : Keeps s₀ (s.refer d surf id c) :=
  Keeps.ite (h.onTe _) (Keeps.ite (h.onTe _) ((h.bump _).onTe _))

theorem Keeps.referAll {s₀ s : State} (h : Keeps s₀ s) (id : ℕ) (p : Placed) : Keeps s₀ (s.referAll id p) :=
  State.each_keeps h _ _ (fun _ _ k => k.refer _ _ _ _)

theorem Keeps.openTrack {s₀ s : State} (h : Keeps s₀ s) (p : Placed) : Keeps s₀ (s.openTrack p) := by
  unfold State.openTrack
  exact Keeps.ite ((h.bump _).raise _ _) (((((Keeps.ite ((((h.put _ _).onTe _).raiseSrc _).raise _ _)
    ((h.put _ _).onTe _)).writeTrack _ _).countOpen _ _ _).referAll _ _).bump _)

theorem Keeps.mergeTrack {s₀ s : State} (h : Keeps s₀ s) (sid mid : ℕ) : Keeps s₀ (s.mergeTrack sid mid) :=
  (((((h.writeTrack _ _).writeTrack _ _).countOpen _ _ _).bump _).onTe _).cost _

theorem Keeps.associate {s₀ s : State} (h : Keeps s₀ s) (p : Placed) : Keeps s₀ (s.associate p) := by
  unfold State.associate
  extract_lets +onlyGivenNames _ _ _ refs s1 _ s2 qual
  have k1 : Keeps s₀ s1 := (State.each_keeps h _ _ (fun _ _ k => k.readTrack _)).addTo _ _
  have k2 : Keeps s₀ s2 := State.when_keeps k1 _ _ (fun _ k => k.bump _)
  clear_value qual
  split
  · exact k2.openTrack _
  split
  · split
    · exact State.each_keeps (((k2.writeTrack _ _).referAll _ _).bump _) _ _ (fun _ _ k => k.mergeTrack _ _)
    · exact k2
  · extract_lets +onlyGivenNames _
    split
    · exact ((k2.writeTrack _ _).referAll _ _).bump _
    · exact k2

theorem Keeps.trackEdges {s₀ s : State} (h : Keeps s₀ s) (e : List (ℕ × ℕ × ℤ)) : Keeps s₀ (s.trackEdges e) := by
  unfold State.trackEdges
  refine State.each_keeps h _ _ (fun _ _ k => ?_)
  split
  · exact k
  · exact State.wr_keeps k _ _

theorem Keeps.findRepeat {s₀ s : State} (h : Keeps s₀ s) (id : ℕ) : Keeps s₀ (s.findRepeat id) := by
  unfold State.findRepeat
  extract_lets +onlyGivenNames _ _ _ _ _ _ best s1
  have k1 : Keeps s₀ s1 := by
    unfold s1
    clear_value best
    cases best with
    | none => exact h
    | some b => exact Keeps.ite (((((h.writeTrack _ _).bump _).put _ _).put _ _).raiseSrc _) h
  exact (k1.onTe _).put _ _

theorem Keeps.queueClose {s₀ s : State} (h : Keeps s₀ s) (id reason batch : ℕ) : Keeps s₀ (s.queueClose id reason batch) :=
  Keeps.ite ((h.bump _).raise _ _) (((h.busWrite _ _ _).onTe _).hashIn _)

theorem Keeps.closeTrack {s₀ s : State} (h : Keeps s₀ s) (id reason batch : ℕ) : Keeps s₀ (s.closeTrack id reason batch) := by
  unfold State.closeTrack
  extract_lets +onlyGivenNames _ _ s1
  have k1 : Keeps s₀ s1 := ((h.readTrack _).writeTrack _ _).countOpen _ _ _
  exact (((Keeps.ite k1 (k1.findRepeat _)).queueClose _ _ _).onTe _).cost _

theorem Keeps.findCloses {s₀ s : State} (h : Keeps s₀ s) (a : Application) (d surf : ℕ) : Keeps s₀ (s.findCloses a d surf).1 :=
  ((h.onTe _).wrInt _ _).cost _

theorem Keeps.bufferDecision {s₀ s : State} (h : Keeps s₀ s) (m v : ℕ) : Keeps s₀ (s.bufferDecision m v) :=
  Keeps.ite (((h.bump _).raiseSrc _).raise _ _) ((h.onTe _).put _ _)

theorem execTeDecWrite_kept {s₀ s : State} (h : Keeps s₀ s) (m : Master) (v : Word) : Kept s₀ (execTeDecWrite m v s) :=
  Kept.next (h.portal (h.bufferDecision _ _) _ _ _)

theorem Keeps.badDecision {s₀ s : State} (h : Keeps s₀ s) : Keeps s₀ s.badDecision :=
  (h.bump _).raiseSrc _

theorem Keeps.applyDecision {s₀ s : State} (h : Keeps s₀ s) (x : Decision) : Keeps s₀ (s.applyDecision x) :=
  Keeps.ite h.badDecision (Keeps.ite (Keeps.ite h.badDecision (((h.readTrack _).writeTrack _ _).onTe _))
    (((h.readTrack _).writeTrack _ _).onTe _))

theorem Keeps.timeoutTrack {s₀ s : State} (h : Keeps s₀ s) (id : ℕ) : Keeps s₀ (s.timeoutTrack id) :=
  (((h.readTrack _).writeTrack _ _).onTe _).bump _

theorem Keeps.sealTrack {s₀ s : State} (h : Keeps s₀ s) (id batch : ℕ) : Keeps s₀ (s.sealTrack id batch) := by
  unfold State.sealTrack
  extract_lets +onlyGivenNames _ _ s1
  have k1 : Keeps s₀ s1 := Keeps.ite (h.readTrack _) ((h.readTrack _).writeTrack _ _)
  exact Keeps.ite ((k1.archiveTrack _ _ _).onTe _) ((k1.archiveTrack _ _ _).raise _ _)

theorem Keeps.freeTrack {s₀ s : State} (h : Keeps s₀ s) (id : ℕ) : Keeps s₀ (s.freeTrack id) :=
  ((h.writeTrackBytes _ _).put _ _).onTe _

theorem Keeps.finishBatch {s₀ s : State} (h : Keeps s₀ s) (a : Application) : Keeps s₀ (s.finishBatch a) :=
  ((((((h.draw.onTe _).wr64 _ _).put _ _).putFlag _ _).put _ _).raiseTo _ _).raiseSrc _

theorem Keeps.applyItem {s₀ s : State} (h : Keeps s₀ s) (a : Application) (i : Item) : Keeps s₀ (s.applyItem a i).1 := by
  unfold State.applyItem
  split
  · exact (h.freeTrack _).cost _
  · exact (h.applyDecision _).cost _
  · exact h
  · exact (h.timeoutTrack _).cost _
  · exact h
  · exact (h.sealTrack _ _).cost _
  · exact h.associate _
  · exact h.trackEdges _
  · exact h.findCloses _ _ _
  · exact h.closeTrack _ _ _
  · exact h.finishBatch _

theorem Keeps.setItems {s₀ s : State} (h : Keeps s₀ s) (l : List Item) : Keeps s₀ (s.setItems l) :=
  h.onTe _

theorem Keeps.runItems {s₀ s : State} (h : Keeps s₀ s) (fuel : ℕ) (a : Application) (l back : List Item) :
    Keeps s₀ (s.runItems fuel a l back) := by
  induction fuel generalizing s l with
  | zero => exact h.setItems _
  | succ fuel ih =>
    cases l with
    | nil => exact Keeps.ite h (h.setItems _)
    | cons i r => exact Keeps.ite (((h.setItems _).putFlag _ _).raise _ _) (ih (h.applyItem _ _) _)

theorem Keeps.beginBatch {s₀ s : State} (h : Keeps s₀ s) (b : Batch) : Keeps s₀ (s.beginBatch b) :=
  (h.onTe _).putFlag _ _

theorem Keeps.beginDue {s₀ s : State} (h : Keeps s₀ s) : Keeps s₀ s.beginDue := by
  unfold State.beginDue
  split
  · exact h.beginBatch _
  · exact h

theorem execTeApplyBatch_kept {s₀ s : State} (h : Keeps s₀ s) : Kept s₀ (execTeApplyBatch s) := by
  unfold execTeApplyBatch
  refine Kept.next ?_
  split
  · exact h
  · split
    · exact Keeps.ite h (h.beginDue.runItems _ _ _ _)
    · exact h

theorem execTeDecisionTimeout_kept {s₀ s : State} (h : Keeps s₀ s) (id : TrackId) : Kept s₀ (execTeDecisionTimeout id s) := by
  unfold execTeDecisionTimeout
  refine Kept.next ?_
  split
  · exact h
  · split
    · exact Keeps.ite (h.beginDue.runItems _ _ _ _) h
    · exact h

theorem Keeps.teBoundary {s₀ s : State} (h : Keeps s₀ s) : Keeps s₀ s.teBoundary := by
  unfold State.teBoundary
  extract_lets +onlyGivenNames _ s1 _ s2 s3
  have k1 : Keeps s₀ s1 := (h.onTe _).put _ _
  have k2 : Keeps s₀ s2 := Keeps.ite (((k1.putFlag _ _).raise _ _).raiseSrc _) k1
  have k3 : Keeps s₀ s3 := Keeps.ite (k2.raise _ _) k2
  exact Keeps.ite (k3.putFlag _ _) k3

theorem Keeps.commitCqTail {s₀ s : State} (h : Keeps s₀ s) (d : ℕ) (v : Word) : Keeps s₀ (s.commitCqTail d v) :=
  Keeps.ite (h.putFlag _ _) (State.wr_keeps h _ _)

theorem Keeps.commitTeDcfg {s₀ s : State} (h : Keeps s₀ s) (d : ℕ) (v : Word) : Keeps s₀ (s.commitTeDcfg d v) :=
  Keeps.ite ((State.wr_keeps h _ _).onTe _) (State.wr_keeps h _ _)

theorem Keeps.publishCq {s₀ s : State} (h : Keeps s₀ s) : Keeps s₀ s.publishCq := by
  unfold State.publishCq
  exact (State.each_keeps h _ _ (fun _ _ k => Keeps.ite k ((k.put _ _).raiseSrc _))).onTe _

theorem Keeps.clearPool {s₀ s : State} (h : Keeps s₀ s) : Keeps s₀ s.clearPool :=
  Keeps.ite h (((((((h.onTe _).put _ _).wr64 _ _).wr64 _ _).putFlag _ _).putFlag _ _).publishCq)

theorem Keeps.sealDue {s₀ s : State} (h : Keeps s₀ s) : Keeps s₀ s.sealDue :=
  Keeps.ite (h.sealBatch _) h

/-! ### The functions of Machine/Images -/

theorem Keeps.extendMeas {s₀ s : State} (h : Keeps s₀ s) (i : ℕ) (d : Bytes) : Keeps s₀ (s.extendMeas i d) :=
  State.each_keeps h _ _ (fun _ _ k => State.wr_keeps k _ _)

/-! ### The functions of Machine/Verify -/

theorem Keeps.latchTiles {s₀ s : State} (h : Keeps s₀ s) : Keeps s₀ s.latchTiles :=
  (((((h.onVe _).put _ _).put _ _).put _ _).put _ _).put _ _

theorem Keeps.applySlot {s₀ s : State} (h : Keeps s₀ s) (e : ℕ × Option Bytes) : Keeps s₀ (s.applySlot e) := by
  unfold State.applySlot
  extract_lets +onlyGivenNames _
  split
  · exact (h.onVe _).put _ _
  · extract_lets +onlyGivenNames s1
    have k1 : Keeps s₀ s1 := ((h.onVe _).put _ _).put _ _
    exact Keeps.ite k1 (k1.extendMeas _ _)

theorem Keeps.quarantine {s₀ s : State} (h : Keeps s₀ s) (k : ℕ) : Keeps s₀ (s.quarantine k) :=
  (h.put _ _).raise _ _

theorem Keeps.slotsAtBoundary {s₀ s : State} (h : Keeps s₀ s) : Keeps s₀ s.slotsAtBoundary :=
  State.each_keeps (State.each_keeps (h.onVe _) _ _ (fun _ _ k => k.quarantine _)) _ _ (fun _ _ k => k.applySlot _)

theorem Keeps.countReject {s₀ s : State} (h : Keeps s₀ s) (st : ℕ) : Keeps s₀ (s.countReject st) :=
  Keeps.ite ((h.bump _).raise _ _) (Keeps.ite ((h.bump _).raise _ _) (Keeps.ite ((h.bump _).raise _ _) (h.bump _)))

theorem Keeps.keepJob {s₀ s : State} (h : Keeps s₀ s) (a : Admission) (c : Cand) : Keeps s₀ (s.keepJob a c).1 := by
  unfold State.keepJob
  extract_lets +onlyGivenNames _ s1
  have k1 : Keeps s₀ s1 := Keeps.ite h (((h.raise _ _).raiseSrc _).putFlag _ _)
  exact Keeps.iteFst k1 (Keeps.iteFst k1 ((k1.bump _).raise _ _))

theorem Keeps.settleJob {s₀ s : State} (h : Keeps s₀ s) (a : Admission) (c : Cand) (st : ℕ) : Keeps s₀ (s.settleJob a c st).1 :=
  Keeps.iteFst (h.keepJob _ _) (h.countReject _)

theorem Keeps.pass1 {s₀ : State} {x : State × Admission} (h : Keeps s₀ x.1) (c : Cand) : Keeps s₀ (State.pass1 x c).1 := by
  obtain ⟨s, a⟩ := x
  unfold State.pass1
  dsimp only at h ⊢
  split
  · exact h.settleJob _ _ _
  split
  · exact h.keepJob _ _
  split
  · exact h
  · exact h

theorem Keeps.pass2 {s₀ : State} {x : State × Admission} (h : Keeps s₀ x.1) (c : Cand) : Keeps s₀ (State.pass2 x c).1 := by
  obtain ⟨s, a⟩ := x
  unfold State.pass2
  dsimp only at h ⊢
  split
  · exact h.keepJob _ _
  split
  · exact h
  · exact h

theorem Keeps.pass3 {s₀ : State} {x : State × Admission} (h : Keeps s₀ x.1) (c : Cand) : Keeps s₀ (State.pass3 x c).1 := by
  obtain ⟨s, a⟩ := x
  exact Keeps.iteFst (h.settleJob _ _ _) (Keeps.iteFst (h.settleJob _ _ _) (Keeps.iteFst (h.bump _) (Keeps.iteFst (h.bump _)
    (h.settleJob _ _ _))))

theorem Keeps.parkJob {s₀ : State} {x : State × Admission} (h : Keeps s₀ x.1) (c : Cand) : Keeps s₀ (State.parkJob x c).1 := by
  obtain ⟨s, a⟩ := x
  exact Keeps.iteFst h (h.settleJob _ _ _)

theorem Keeps.showAdmission {s₀ s : State} (h : Keeps s₀ s) (a : Admission) (n : ℕ) : Keeps s₀ (s.showAdmission a n) := by
  unfold State.showAdmission
  exact State.each_keeps (State.each_keeps ((((((h.put _ _).put _ _).put _ _).put _ _).addTo _ _).put _ _) _ _
    (fun _ _ k3 => k3.put _ _)) _ _ (fun _ _ k4 => (k4.put _ _).put _ _)

theorem Keeps.latchBusy {s₀ s : State} (h : Keeps s₀ s) : Keeps s₀ s.latchBusy :=
  State.each_keeps h _ _ (fun _ _ k => k.draw.put _ _)

theorem Keeps.markFirst {s₀ s : State} (h : Keeps s₀ s) : Keeps s₀ s.markFirst :=
  h.onVe _

theorem Keeps.veBoundary {s₀ s : State} (h : Keeps s₀ s) : Keeps s₀ s.veBoundary := by
  unfold State.veBoundary
  extract_lets +onlyGivenNames s1 f base
  have k1 : Keeps s₀ s1 := h.latchBusy.slotsAtBoundary.latchTiles.markFirst
  clear_value s1 f base
  refine Keeps.ite (k1.showAdmission _ _) ?_
  extract_lets +onlyGivenNames budget due idle ready fresh all cands later pool a0 parked
  have kp : Keeps s₀ parked.1 := Keeps.foldlFst (p := (s1, a0)) k1 _ _ (fun _ _ k => k.parkJob _)
  split
  next s2 a2 e2 =>
    have k2 : Keeps s₀ s2 := (Keeps.foldlFst kp _ _ (fun _ _ k => k.pass1 _)).ofEq e2
    split
    next s3 a3 e3 =>
      have k3 : Keeps s₀ s3 := Keeps.ofEq (Keeps.foldlFst (p := (s2, { a2 with left := [] })) k2 _ _
        (fun _ _ k => k.pass2 _)) e3
      split
      next s4 a4 e4 =>
        have k4 : Keeps s₀ s4 := Keeps.ofEq (Keeps.foldlFst (p := (s3, { a3 with left := [] })) k3 _ _
          (fun _ _ k => k.pass3 _)) e4
        exact (k4.onVe _).showAdmission _ _

theorem Keeps.copyRing {s₀ s : State} (h : Keeps s₀ s) (g : ℕ) : Keeps s₀ (s.copyRing g) := by
  unfold State.copyRing
  extract_lets +onlyGivenNames _ _ _ s1
  have k1 : Keeps s₀ s1 := by
    refine State.each_keeps h _ _ (fun t i k => ?_)
    split
    next u d r e => exact ((k.busRead _ _ _).ofEq e).onVe _
  exact k1.put _ _

theorem Keeps.actCancel {s₀ s : State} (h : Keeps s₀ s) (old g : ℕ) : Keeps s₀ (s.actCancel old g) := by
  unfold State.actCancel
  split
  · exact h
  · exact ((((h.onVe _).onVe _).addTo _ _).putFlag _ _).put _ _

theorem Keeps.publishOne {s₀ s : State} (h : Keeps s₀ s) (x : Slot_) : Keeps s₀ (s.publishOne x) :=
  (h.busWrite _ _ _).put _ _

theorem Keeps.deadline {s₀ s : State} (h : Keeps s₀ s) (t : ℕ) : Keeps s₀ (s.deadline t) :=
  Keeps.ite ((((h.onVe _).bump _).bump _).raise _ _) h

theorem Keeps.veSeal {s₀ s : State} (h : Keeps s₀ s) : Keeps s₀ s.veSeal := by
  unfold State.veSeal
  exact (State.each_keeps (State.each_keeps (State.each_keeps (State.each_keeps (State.each_keeps (h.onVe _) _ _
    (fun _ _ k => k.copyRing _)) _ _ (fun _ _ k2 => k2.actCancel _ _)) _ _ (fun _ _ k3 => k3.deadline _)) _ _
    (fun _ _ k4 => k4.publishOne _)) _ _ (fun _ _ k5 => State.when_keeps (State.when_keeps k5 _ _
    (fun _ k6 => k6.raiseSrc _)) _ _ (fun _ k6 => k6.raiseSrc _))).onVe _

theorem Keeps.endJob {s₀ s : State} (h : Keeps s₀ s) (t st : ℕ) (result : Bytes) (out : Bool) :
    Keeps s₀ (s.endJob t st result out) := by
  generalize e : State.endJob = f
  unfold State.endJob at e
  subst e
  beta_reduce
  split
  · exact h
  · exact h.onVe _

theorem Keeps.cropThere {s₀ s : State} (h : Keeps s₀ s) (j : Job) : Keeps s₀ (s.cropThere j).1 :=
  Keeps.iteFst (h.busRead _ _ _) h

theorem Keeps.memErr {s₀ s : State} (h : Keeps s₀ s) (t : ℕ) : Keeps s₀ (s.memErr t) :=
  ((h.bump _).raise _ _).endJob _ _ _ _

theorem Keeps.cropStep {s₀ s : State} (h : Keeps s₀ s) (t : ℕ) (j : Job) : Keeps s₀ (s.cropStep t j).1 :=
  Keeps.iteFst ((h.cropThere _).memErr _) (Keeps.iteFst (h.cropThere _) ((h.cropThere _).endJob _ _ _ _))

theorem Keeps.fetchStep {s₀ s : State} (h : Keeps s₀ s) (t a n : ℕ) : Keeps s₀ (s.fetchStep t a n).1 :=
  Keeps.iteFst (h.busRead _ _ _) ((h.busRead _ _ _).memErr _)

theorem Keeps.fetchJob {s₀ s : State} (h : Keeps s₀ s) (t : ℕ) (j : Job) : Keeps s₀ (s.fetchJob t j).1 := by
  unfold State.fetchJob
  split
  next s1 e =>
    have q1 := (h.cropStep _ _).ofEq e
    exact q1
  next s1 e =>
    have q1 := (h.cropStep _ _).ofEq e
    split
    next s2 e =>
      have q2 := (q1.fetchStep _ _ _).ofEq e
      exact q2
    next s2 b e =>
      have q2 := (q1.fetchStep _ _ _).ofEq e
      split
      next s3 e =>
        have q3 := (q2.fetchStep _ _ _).ofEq e
        exact q3
      next s3 aux e =>
        have q3 := (q2.fetchStep _ _ _).ofEq e
        split
        next s4 e =>
          have q4 := (q3.cropStep _ _).ofEq e
          exact q4
        next s4 e =>
          have q4 := (q3.cropStep _ _).ofEq e
          exact q4

theorem Keeps.runJob {s₀ s : State} (h : Keeps s₀ s) (t : ℕ) (j : Job) : Keeps s₀ (s.runJob t j) := by
  unfold State.runJob
  split
  next s4 e =>
    have q1 := (h.fetchJob _ _).ofEq e
    exact q1
  next s4 b aux e =>
    have q1 := (h.fetchJob _ _).ofEq e
    split
    exact Keeps.ite (Keeps.ite ((q1.busWrite _ _ _).endJob _ _ _ _) ((q1.busWrite _ _ _).memErr _)) (q1.endJob _ _ _ _)

theorem execVeJobEnd_kept {s₀ s : State} (h : Keeps s₀ s) (t : Tile) : Kept s₀ (execVeJobEnd t s) := by
  unfold execVeJobEnd
  refine Kept.next ?_
  split
  · exact h
  · exact (h.bump _).runJob _ _

theorem execVeOverrun_kept {s₀ s : State} (h : Keeps s₀ s) (t : Tile) : Kept s₀ (execVeOverrun t s) := by
  unfold execVeOverrun
  refine Kept.next ?_
  split
  · exact h
  · split
    · exact h
    · extract_lets +onlyGivenNames _ _ s2
      have k1 : Keeps s₀ s2 := ((((h.bump _).bump _).bump _).raise _ _).endJob _ _ _ _
      split
      · exact k1
      · exact k1.onVe _

theorem execVtReturn_kept {s₀ s : State} (h : Keeps s₀ s) (t : Tile) (m : Master) : Kept s₀ (execVtReturn t m s) :=
  Kept.next (h.portal (Keeps.ite (h.onVe _) h) _ _ _)

theorem execVeSqTailWrite_kept {s₀ s : State} (h : Keeps s₀ s) (g : Group) (m : Master) (v : Word) :
    Kept s₀ (execVeSqTailWrite g m v s) :=
  Kept.next (h.portal (Keeps.ite (h.putFlag _ _) (State.wr_keeps h _ _)) _ _ _)

theorem Keeps.holdCancel {s₀ s : State} (h : Keeps s₀ s) (g : Group) (tag mask : ℕ) (discard : Bool) :
    Keeps s₀ (s.holdCancel g tag mask discard) :=
  (h.onVe _).putFlag _ _

theorem execVeCancelGo_kept {s₀ s : State} (h : Keeps s₀ s) (g : Group) (m : Master) (v : Word) :
    Kept s₀ (execVeCancelGo g m v s) :=
  Kept.next (h.portal (Keeps.ite ((h.putFlag _ _).holdCancel _ _ _ _) (h.putFlag _ _)) _ _ _)

theorem Keeps.veRestart {s₀ s : State} (h : Keeps s₀ s) (g : Group) : Keeps s₀ (s.veRestart g) :=
  State.wr_keeps (h.holdCancel _ _ _ _) _ _

theorem execVeKloadGo_kept {s₀ s : State} (h : Keeps s₀ s) (m : Master) : Kept s₀ (execVeKloadGo m s) :=
  Kept.next (h.portal (Keeps.ite h (((h.onVe _).putFlag _ _).syncEngine)) _ _ _)

theorem execVeKloadUnload_kept {s₀ s : State} (h : Keeps s₀ s) (m : Master) (v : Word) : Kept s₀ (execVeKloadUnload m v s) :=
  Kept.next (h.portal ((h.put _ _).stageBy _ _ _) _ _ _)

theorem Keeps.commitUnload {s₀ s : State} (h : Keeps s₀ s) (v : Word) : Keeps s₀ (s.commitUnload v) :=
  Keeps.ite (h.onVe _) h

theorem Keeps.endKload {s₀ s : State} (h : Keeps s₀ s) : Keeps s₀ (s.endKload).1 := by
  unfold State.endKload
  split
  · exact h
  · exact Keeps.ite ((((((h.busRead _ _ _).onVe _).putFlag _ _).put _ _).raiseSrc _).onVe _)
      ((((((h.busRead _ _ _).onVe _).putFlag _ _).put _ _).raiseSrc _).raise _ _)

/-! ### The functions of Machine/Groups -/

theorem Keeps.resetBlock {s₀ s : State} (h : Keeps s₀ s) (lo hi : ℕ) : Keeps s₀ (s.resetBlock lo hi) := by
  unfold State.resetBlock
  extract_lets s1
  have k1 : Keeps s₀ s1 := (State.resetRange_keeps h _ _).dropStaged _ _
  exact k1.same rfl rfl rfl rfl rfl

theorem Keeps.syncDegr {s₀ s : State} (h : Keeps s₀ s) (g : Group) : Keeps s₀ (s.syncDegr g) :=
  (h.putFlag _ _).degradeWhen _ _

theorem Keeps.holdCopy {s₀ s : State} (h : Keeps s₀ s) (g : Group) (c : Fin 3) (own : Copy → Copy) :
    Keeps s₀ (s.holdCopy g c own) :=
  h.onCore _ _

theorem Keeps.dropCopies {s₀ s : State} (h : Keeps s₀ s) (g : Group) (m : ℕ) : Keeps s₀ (s.dropCopies g m) :=
  h.onCore _ _

theorem Keeps.countOrphan {s₀ s : State} (h : Keeps s₀ s) (i : ℕ) : Keeps s₀ (s.countOrphan i) :=
  (h.bump _).bump _

theorem Keeps.syncOrphans {s₀ s : State} (h : Keeps s₀ s) : Keeps s₀ s.syncOrphans := by
  unfold State.syncOrphans
  extract_lets +onlyGivenNames now s1
  have k1 : Keeps s₀ s1 := State.each_keeps h _ _ (fun _ _ k => k.countOrphan _)
  clear_value s1 now
  exact k1.same rfl rfl rfl rfl rfl

theorem Keeps.unpresent {s₀ s : State} (h : Keeps s₀ s) (g : Group) : Keeps s₀ (s.unpresent g) :=
  Keeps.ite (State.wr_keeps (h.put _ _) _ _) h

theorem Keeps.withdraw {s₀ s : State} (h : Keeps s₀ s) (g : Group) : Keeps s₀ (s.withdraw g) :=
  Keeps.ite ((h.unpresent _).bump _) h

theorem Keeps.syncIc {s₀ s : State} (h : Keeps s₀ s) : Keeps s₀ s.syncIc :=
  (State.each_keeps h _ _ (fun _ _ k => Keeps.ite (k.withdraw _) k)).syncOrphans

theorem Keeps.stopNow {s₀ s : State} (h : Keeps s₀ s) (g : Group) : Keeps s₀ (s.stopNow g) :=
  ((((((h.onCore _ _).put _ _).putFlag _ _).putFlag _ _).putFlag _ _).withdraw _).syncOrphans

theorem Keeps.stopGroup {s₀ s : State} (h : Keeps s₀ s) (g : Group) : Keeps s₀ (s.stopGroup g) :=
  Keeps.ite (h.onCore _ _) (h.stopNow _)

theorem Keeps.resetWd {s₀ s : State} (h : Keeps s₀ s) (g : Group) : Keeps s₀ (s.resetWd g) :=
  (h.resetBlock _ _).onCore _ _

theorem Keeps.resetCm {s₀ s : State} (h : Keeps s₀ s) (g : Group) : Keeps s₀ (s.resetCm g) :=
  (State.resetRange_keeps (State.resetRange_keeps h _ _) _ _).putFlag _ _

theorem Keeps.resetIc {s₀ s : State} (h : Keeps s₀ s) (g : Group) : Keeps s₀ (s.resetIc g) :=
  ((State.each_keeps h _ _ (fun _ _ k => Keeps.ite (k.put _ _) k)).unpresent _).resetBlock _ _

theorem Keeps.freshMpu {s₀ s : State} (h : Keeps s₀ s) (g : Group) : Keeps s₀ (s.freshMpu g) :=
  h.onProt _

theorem Keeps.resetGroup {s₀ s : State} (h : Keeps s₀ s) (g : Group) : Keeps s₀ (s.resetGroup g) :=
  ((((((h.freshMpu _).onCore _ _).resetBlock _ _).resetWd _).resetCm _).resetIc _).veRestart _

theorem Keeps.startGroup {s₀ s : State} (h : Keeps s₀ s) (g : Group) : Keeps s₀ (s.startGroup g) :=
  ((State.wr_keeps ((((h.put _ _).put _ _).put _ _).putFlag _ _) _ _).syncDegr _).syncOrphans

theorem Keeps.restartGroup {s₀ s : State} (h : Keeps s₀ s) (g : Group) : Keeps s₀ (s.restartGroup g) :=
  (h.resetGroup _).startGroup _

theorem Keeps.craze {s₀ s : State} (h : Keeps s₀ s) (g : Group) (c : Craze) : Keeps s₀ (s.craze g c) :=
  (State.each_keeps h _ _ (fun _ _ k => State.wr_keeps k _ _)).bumpWrap _

theorem Keeps.countEject {s₀ s : State} (h : Keeps s₀ s) (g : Group) (c : Fin 3) : Keeps s₀ (s.countEject g c) :=
  (((h.bump _).wr64 _ _).wr64 _ _).onCore _ _

theorem Keeps.eject {s₀ s : State} (h : Keeps s₀ s) (g : Group) (c : Fin 3) (z : Craze) (counted : Bool) (own : Copy → Copy) :
    Keeps s₀ (s.eject g c z counted own) := by
  unfold State.eject
  extract_lets +onlyGivenNames _ _ _ s2 s3
  have k1 : Keeps s₀ s2 := Keeps.ite (((h.put _ _).put _ _).put _ _) ((h.put _ _).put _ _)
  have k2 : Keeps s₀ s3 := Keeps.ite (k1.countEject _ _) k1
  exact (((Keeps.ite (k2.dropCopies _ _) (k2.holdCopy _ _ _)).craze _ _).syncDegr _).raise _ _

theorem Keeps.setSw {s₀ s : State} (h : Keeps s₀ s) (i m : ℕ) : Keeps s₀ (s.setSw i m) :=
  h.same rfl rfl rfl rfl rfl

theorem Keeps.undeliver {s₀ s : State} (h : Keeps s₀ s) (g : Group) (e : EntryWindow) : Keeps s₀ (s.undeliver g e) :=
  Keeps.ite ((State.wr_keeps h _ _).setSw _ _) (State.wr_keeps h _ _)

theorem Keeps.breakEntry {s₀ s : State} (h : Keeps s₀ s) (g : Group) : Keeps s₀ (s.breakEntry g) := by
  unfold State.breakEntry
  split
  · exact h
  · exact Keeps.ite (((h.undeliver _ _).put _ _).onCore _ _) h

theorem Keeps.mismatchStop {s₀ s : State} (h : Keeps s₀ s) (g : Group) (z : Craze) : Keeps s₀ (s.mismatchStop g z) :=
  (((((h.breakEntry _).bump _).craze _ _).stopNow _).onCore _ _).raise _ _

/-! ### The functions of Machine/Interrupt -/

theorem Keeps.onHq {s₀ s : State} (h : Keeps s₀ s) (q : ℕ) (f : HostQueue → HostQueue) : Keeps s₀ (s.onHq q f) :=
  h.same rfl rfl rfl rfl rfl

theorem Keeps.bcastEvent {s₀ s : State} (h : Keeps s₀ s) (i : ℕ) (setp : Bool) : Keeps s₀ (s.bcastEvent i setp) :=
  (Keeps.ite ((Keeps.ite ((h.put _ _).setSw _ _) (h.put _ _)).countOrphan _) (Keeps.ite ((h.put _ _).setSw _ _)
    (h.put _ _))).syncOrphans

theorem execSrcEdgeEvent_kept {s₀ s : State} (h : Keeps s₀ s) : Kept s₀ (execSrcEdgeEvent s) := by
  unfold execSrcEdgeEvent
  refine Kept.next ?_
  split
  · exact h
  · extract_lets +onlyGivenNames s1
    have k1 : Keeps s₀ s1 := h.same rfl rfl rfl rfl rfl
    exact Keeps.ite k1 (Keeps.ite ((k1.putFlag _ _).bcastEvent _ _) ((k1.putFlag _ _).syncOrphans))

theorem execSrcLevelChange_kept {s₀ s : State} (h : Keeps s₀ s) (i : Src) : Kept s₀ (execSrcLevelChange i s) :=
  Kept.next (Keeps.ite h ((Keeps.ite (h.putFlag _ _) (Keeps.ite ((h.putFlag _ _).bcastEvent _ _) (Keeps.ite
    ((h.putFlag _ _).put _ _) (h.putFlag _ _)))).syncIc))

theorem execSrcSetp_kept {s₀ s : State} (h : Keeps s₀ s) (i : Src) (m : Master) : Kept s₀ (execSrcSetp i m s) :=
  Kept.next (h.portal (Keeps.ite h (Keeps.ite ((h.putFlag _ _).bcastEvent _ _) ((h.putFlag _ _).syncOrphans))) _ _ _)

theorem execSrcClrp_kept {s₀ s : State} (h : Keeps s₀ s) (i : Src) (m : Master) : Kept s₀ (execSrcClrp i m s) :=
  Kept.next (h.portal (((((h.putFlag _ _).putFlag _ _).put _ _).setSw _ _).syncIc) _ _ _)

theorem Keeps.present {s₀ s : State} (h : Keeps s₀ s) (g : Group) (i : ℕ) : Keeps s₀ (s.present g i) :=
  ((((h.unpresent _).put _ _).put _ _).putFlag _ _).put _ _

theorem execInterruptPresent_kept {s₀ s : State} (h : Keeps s₀ s) (g : Group) : Kept s₀ (execInterruptPresent g s) := by
  unfold execInterruptPresent
  refine Kept.next ?_
  split
  · exact h.syncIc.present _ _
  · exact h.syncIc

theorem Keeps.deliver {s₀ s : State} (h : Keeps s₀ s) (g : Group) (i : ℕ) : Keeps s₀ (s.deliver g i) := by
  unfold State.deliver
  extract_lets +onlyGivenNames s0 s1
  have k1 : Keeps s₀ s0 := (h.putFlag _ _).putFlag _ _
  have k2 : Keeps s₀ s1 := Keeps.ite ((k1.put _ _).setSw _ _) (k1.put _ _)
  exact Keeps.ite k2 (k2.put _ _)

theorem execIcEoi_kept {s₀ s : State} (h : Keeps s₀ s) (g : Group) (m : Master) (v : Word) : Kept s₀ (execIcEoi g m v s) :=
  Kept.next (h.portal (Keeps.ite ((Keeps.ite ((h.put _ _).put _ _) (h.put _ _)).syncIc) (h.bump _)) _ _ _)

/-! ### The functions of Machine/Vote -/

theorem Keeps.applyVote {s₀ s : State} (h : Keeps s₀ s) (g : Group) (v : VoteOutcome) (counted : Bool) :
    Keeps s₀ (s.applyVote g v counted) := by
  unfold State.applyVote
  split
  · exact h
  · exact h.eject _ _ _ _ _
  · exact h.mismatchStop _ _

theorem Keeps.applyInjected {s₀ s : State} (h : Keeps s₀ s) (g : Group) (v : VoteOutcome) : Keeps s₀ (s.applyInjected g v) := by
  unfold State.applyInjected
  extract_lets +onlyGivenNames _ _
  split
  · split
    · exact (h.onCore _ _).raise _ _
    · exact ((h.onCore _ _).craze _ _).raise _ _
    · exact ((h.onCore _ _).craze _ _).raise _ _
  · exact ((h.onCore _ _).applyVote _ _ _).raise _ _

theorem Keeps.voteSlot {s₀ s : State} (h : Keeps s₀ s) (g : Group) (part : List (Fin 3 × CopyRecord)) :
    Keeps s₀ (s.voteSlot g part).1 :=
  Keeps.ite (h.applyInjected _ _) (h.applyVote _ _ _)

theorem Keeps.votedSlot {s₀ s t : State} (k : Keeps s₀ t) (h : Keeps s₀ s) (g : Group) (wrote : Option (GReg × Word)) :
    Keeps s₀ (t.votedSlot s g wrote) := by
  unfold State.votedSlot
  split
  · exact k
  extract_lets +onlyGivenNames _
  split
  next t1 go e => exact Keeps.ite ((k.voteSlot _ _).ofEq e) (h.voteSlot _ _)

/-! ### The functions of Machine/Lockstep -/

theorem Keeps.issueBus {s₀ s : State} (h : Keeps s₀ s) (g : Group) (bus : Vector (BitVec 128) 8) :
    Keeps s₀ (s.issueBus g bus) :=
  Keeps.ite h (h.onCore _ _)

theorem execLockstepCompare_kept {s₀ s : State} (h : Keeps s₀ s) (g : Group) (a b c : CopyRecord) :
    Kept s₀ (execLockstepCompare g a b c s) := by
  unfold execLockstepCompare
  extract_lets +onlyGivenNames part
  refine Kept.next ?_
  split
  · exact h
  split
  next t go e =>
    have k : Keeps s₀ t := (h.voteSlot _ _).ofEq e
    extract_lets +onlyGivenNames won
    clear_value won
    split
    · split
      · exact k.issueBus _ _
      · exact k
    · exact k

theorem Keeps.startReadmit {s₀ s : State} (h : Keeps s₀ s) (g : Group) : Keeps s₀ (s.startReadmit g) :=
  Keeps.ite h ((h.onCore _ _).put _ _)

theorem Keeps.endPause {s₀ s : State} (h : Keeps s₀ s) (g : Group) (cclk : ℕ) : Keeps s₀ (s.endPause g cclk) :=
  Keeps.ite (((((h.put _ _).raiseTo _ _).onCore _ _).put _ _).stopNow _) ((((h.put _ _).raiseTo _ _).onCore _ _).put _ _)

theorem Keeps.readmitFail {s₀ s : State} (h : Keeps s₀ s) (g : Group) (m : ℕ) : Keeps s₀ (s.readmitFail g m) := by
  unfold State.readmitFail
  extract_lets +onlyGivenNames _ _ _ _ _ _ s3
  have k1 : Keeps s₀ s3 := ((((Keeps.ite (((h.put _ _).put _ _).put _ _)
    (h.put _ _)).countEject _ _).craze _ _).syncDegr _).raise _ _
  exact Keeps.ite (k1.raise _ _) k1

theorem execReadmissionComplete_kept {s₀ s : State} (h : Keeps s₀ s) (g : Group) (r : ReadmitRun) :
    Kept s₀ (execReadmissionComplete g r s) := by
  unfold execReadmissionComplete
  refine Kept.next ?_
  split
  · exact h
  · exact Keeps.ite h (Keeps.ite ((h.bump _).endPause _ _) (Keeps.ite ((h.endPause _ _).mismatchStop _ _) (Keeps.ite
      ((((h.onCore _ _).dropCopies _ _).readmitFail _ _).endPause _ _)
      (((((((h.onCore _ _).dropCopies _ _).put _ _).put _ _).bump _).syncDegr _).endPause _ _))))

theorem execComparatorSelfTest_kept {s₀ s : State} (h : Keeps s₀ s) (g : Group) (fail : Option (Fin 3 × Fin 2)) :
    Kept s₀ (execComparatorSelfTest g fail s) := by
  unfold execComparatorSelfTest
  refine Kept.next ?_
  split
  · exact h
  · extract_lets +onlyGivenNames _
    split
    · exact (h.onCore _ _).bump _
    · exact (((((h.onCore _ _).putFlag _ _).put _ _).put _ _).craze _ _).raise _ _

theorem Keeps.lsWrite {s₀ s : State} (h :
    Keeps s₀ s) {f : State → State} (hf : ∀ t, Keeps s₀ t → Keeps s₀ (f t)) (m : Master) (off : ℕ) :
    Keeps s₀ (s.lsWrite m off f) :=
  h.portal (hf _ h) _ _ _

theorem Keeps.lsReject {s₀ s : State} (h : Keeps s₀ s) (g : Group) : Keeps s₀ (s.lsReject g) :=
  h.putFlag _ _

theorem execLsCfgWrite_kept {s₀ s : State} (h : Keeps s₀ s) (g : Group) (m : Master) (v : Word) :
    Kept s₀ (execLsCfgWrite g m v s) :=
  Kept.next (h.lsWrite (fun _ k => Keeps.ite (k.lsReject _) (k.stageBy _ _ _)) _ _)

theorem Keeps.commitLsCfg {s₀ s : State} (h : Keeps s₀ s) (g : Group) (v : Word) : Keeps s₀ (s.commitLsCfg g v) := by
  unfold State.commitLsCfg
  extract_lets +onlyGivenNames _ s1
  have k1 : Keeps s₀ s1 := State.wr_keeps h _ _
  exact Keeps.ite (k1.onCore _ _) (Keeps.ite (((((k1.dropCopies _ _).put _ _).put _ _).onCore _ _).syncDegr _) k1)

theorem execLsRestart_kept {s₀ s : State} (h : Keeps s₀ s) (g : Group) (m : Master) : Kept s₀ (execLsRestart g m s) :=
  Kept.next (h.lsWrite (fun _ k => k.stageBy _ _ _) _ _)

theorem execLsStop_kept {s₀ s : State} (h : Keeps s₀ s) (g : Group) (m : Master) : Kept s₀ (execLsStop g m s) :=
  Kept.next (h.lsWrite (fun _ k => k.stageBy _ _ _) _ _)

theorem Keeps.commitLsCtrl {s₀ s : State} (h : Keeps s₀ s) (g : Group) (v : Word) : Keeps s₀ (s.commitLsCtrl g v) :=
  Keeps.ite (h.stopGroup _) (Keeps.ite (Keeps.ite (h.lsReject _) (h.restartGroup _)) h)

theorem execLsInject_kept {s₀ s : State} (h : Keeps s₀ s) (g : Group) (m : Master) (v : Word) :
    Kept s₀ (execLsInject g m v s) :=
  Kept.next (h.lsWrite (fun _ k => Keeps.ite (k.lsReject _) ((k.put _ _).onCore _ _)) _ _)

theorem execLsUnretire_kept {s₀ s : State} (h : Keeps s₀ s) (g : Group) (m : Master) (v : Word) :
    Kept s₀ (execLsUnretire g m v s) :=
  Kept.next (h.lsWrite (fun _ k => Keeps.ite (k.lsReject _)
    (((((((k.put _ _).put _ _).wr64 _ _).wr64 _ _).onCore _ _).put _ _).syncDegr _)) _ _)

theorem execLsPowerOff_kept {s₀ s : State} (h : Keeps s₀ s) (g : Group) (m : Master) : Kept s₀ (execLsPowerOff g m s) :=
  Kept.next (h.lsWrite (fun _ k => Keeps.ite (k.lsReject _) (k.stageBy _ _ _)) _ _)

theorem execLsPowerOn_kept {s₀ s : State} (h : Keeps s₀ s) (g : Group) (m : Master) : Kept s₀ (execLsPowerOn g m s) :=
  Kept.next (h.lsWrite (fun _ k => Keeps.ite (k.lsReject _) (k.stageBy _ _ _)) _ _)

theorem Keeps.loseGroup {s₀ s : State} (h : Keeps s₀ s) (g : Group) : Keeps s₀ (s.loseGroup g) := by
  unfold State.loseGroup
  exact (((((State.dropBytes_keeps h _ _).freshMpu _).onCore _ _).resetBlock _ _).resetWd _).onProt _

theorem Keeps.commitLsPwr {s₀ s : State} (h : Keeps s₀ s) (g : Group) (v : Word) : Keeps s₀ (s.commitLsPwr g v) :=
  Keeps.ite ((((((h.putFlag _ _).putFlag _ _).loseGroup _).put _ _).onCore _ _).syncIc) (Keeps.ite
    ((h.putFlag _ _).onCore _ _) (h.putFlag _ _))

theorem execLsPowerGood_kept {s₀ s : State} (h : Keeps s₀ s) (g : Group) : Kept s₀ (execLsPowerGood g s) := by
  unfold execLsPowerGood
  refine Kept.next ?_
  split
  · exact h
  · exact (h.onCore _ _).putFlag _ _

theorem execLsPwrFail_kept {s₀ s : State} (h : Keeps s₀ s) (g : Group) : Kept s₀ (execLsPwrFail g s) := by
  unfold execLsPwrFail
  refine Kept.next ?_
  split
  · exact h
  · exact Keeps.ite ((h.onCore _ _).raise _ _) h

/-! ### The functions of Machine/Flash -/

theorem Keeps.freshChecks {s₀ s : State} (h : Keeps s₀ s) (lo hi : ℕ) : Keeps s₀ (s.freshChecks lo hi) :=
  h.onProt _

theorem Keeps.beginFlash {s₀ s : State} (h : Keeps s₀ s) (o : FlashOp) : Keeps s₀ (s.beginFlash o) :=
  (((h.onArch _).putFlag _ _).put _ _).freshChecks _ _

theorem Keeps.flashErase {s₀ s : State} (h : Keeps s₀ s) : Keeps s₀ s.flashErase :=
  Keeps.ite (h.put _ _) (Keeps.ite (h.put _ _) (State.dropBytes_keeps (((h.put _ _).onCore _ _).beginFlash _) _ _))

theorem Keeps.flashProgram {s₀ s : State} (h : Keeps s₀ s) (src : ℕ) : Keeps s₀ (s.flashProgram src) := by
  generalize e : State.flashProgram = f
  unfold State.flashProgram at e
  subst e
  beta_reduce
  extract_lets +onlyGivenNames _
  split
  · exact h.put _ _
  split
  · exact h.put _ _
  split
  next s1 d r e =>
    have k : Keeps s₀ s1 := (h.busRead _ _ _).ofEq e
    exact Keeps.ite (k.put _ _) (State.setBytes_keeps (k.beginFlash _) _ _)

theorem execCfErase_kept {s₀ s : State} (h : Keeps s₀ s) (m : Master) : Kept s₀ (execCfErase m s) :=
  Kept.next (h.portal h.flashErase _ _ _)

theorem execCfProgram_kept {s₀ s : State} (h : Keeps s₀ s) (m : Master) : Kept s₀ (execCfProgram m s) :=
  Kept.next (h.portal (h.flashProgram _) _ _ _)

theorem Keeps.finishFlash {s₀ s : State} (h : Keeps s₀ s) (ok : Bool) : Keeps s₀ (s.finishFlash ok) := by
  unfold State.finishFlash
  split
  · exact h
  · exact Keeps.ite ((h.bump _).endFlash _ _) (Keeps.ite (h.endFlash _ _) (((h.tearFlash _ _).endFlash _ _).raise _ _))

theorem Keeps.loseReserved {s₀ s : State} (h : Keeps s₀ s) (l : ReservedLoss) : Keeps s₀ (s.loseReserved l) := by
  unfold State.loseReserved
  extract_lets +onlyGivenNames _
  split
  · exact (State.when_keeps (h.bump _) _ _ (fun _ k2 => (k2.onTe _).bump _)).raise _ _
  · exact ((h.bump _).onVe _).raise _ _
  · exact (((h.bump _).draw.onArch _).raise _ _).syncArch

theorem execDmScrubRead_kept {s₀ s : State} (h : Keeps s₀ s) (loss : Option ReservedLoss) :
    Kept s₀ (execDmScrubRead loss s) := by
  unfold execDmScrubRead
  refine Kept.next ?_
  split
  · exact h
  extract_lets +onlyGivenNames _ s1 _
  have k1 : Keeps s₀ s1 := by
    unfold s1
    split
    · exact State.each_keeps h _ _ (fun _ _ k => Keeps.ite ((k.readStacked _).raise _ _) (k.readStacked _))
    · split
      · exact h.loseReserved _
      · exact h
  exact Keeps.ite ((k1.onProt _).bump _) (k1.onProt _)

theorem execPwrfailFall_kept {s₀ s : State} (h : Keeps s₀ s) : Kept s₀ (execPwrfailFall s) :=
  Kept.next (Keeps.ite h (((State.each_keeps ((h.onArch _).raise _ _) _ _ (fun _ _ k => Keeps.ite
    (k.deadline _) k)).abandonFlash).putFlag _ _))

theorem Keeps.programAll {s₀ s : State} (h : Keeps s₀ s) (fuel : ℕ) : Keeps s₀ (s.programAll fuel) := by
  induction fuel generalizing s with
  | zero => exact h
  | succ fuel ih => exact ih h.programSegment

theorem execPfSealDone_kept {s₀ s : State} (h : Keeps s₀ s) : Kept s₀ (execPfSealDone s) :=
  Kept.next (Keeps.ite h (((((((h.sealSegment _ _).programAll _).putFlag _ _).putFlag _ _).put _ _).onArch _).raiseSrc _))

theorem execPwrfailRearm_kept {s₀ s : State} (h : Keeps s₀ s) : Kept s₀ (execPwrfailRearm s) := by
  unfold execPwrfailRearm
  refine Kept.next ?_
  split
  · exact Keeps.ite (h.onArch _) h
  · exact h

theorem Keeps.closeCoils {s₀ s : State} (h : Keeps s₀ s) : Keeps s₀ s.closeCoils :=
  State.each_keeps h _ _ (fun _ _ k => k.closeCoil _)

/-! ### The functions of Machine/Twin -/

theorem Keeps.setRole {s₀ s : State} (h : Keeps s₀ s) (r : ℕ) : Keeps s₀ (s.setRole r) :=
  Keeps.ite h ((h.put _ _).raiseSrc _)

theorem Keeps.syncTwin {s₀ s : State} (h : Keeps s₀ s) : Keeps s₀ s.syncTwin :=
  h.degradeWhen _ _

theorem Keeps.setInstep {s₀ s : State} (h : Keeps s₀ s) (b : Bool) : Keeps s₀ (s.setInstep b) :=
  (Keeps.ite h ((h.putFlag _ _).raiseSrc _)).syncTwin

theorem Keeps.leaveStep {s₀ s : State} (h : Keeps s₀ s) : Keeps s₀ s.leaveStep :=
  Keeps.ite ((h.setInstep _).onTw _) (((h.setInstep _).onTw _).setRole _)

theorem Keeps.commitTwCfg {s₀ s : State} (h : Keeps s₀ s) (v : Word) : Keeps s₀ (s.commitTwCfg v) :=
  Keeps.ite ((State.wr_keeps h _ _).syncTwin) (((((State.wr_keeps h _ _).leaveStep).setRole _).onTw _).syncTwin)

theorem Keeps.sendPeer {s₀ s : State} (h : Keeps s₀ s) (typ : ℕ) (content : Bytes) : Keeps s₀ (s.sendPeer typ content) := by
  unfold State.sendPeer
  split
  · exact h.send _ _ _ _
  · exact h

theorem Keeps.sendTwCtrl {s₀ s : State} (h : Keeps s₀ s) (op fn : ℕ) : Keeps s₀ (s.sendTwCtrl op fn) :=
  h.sendPeer _ _

theorem Keeps.takeTwCtrl {s₀ s : State} (h : Keeps s₀ s) (n : Lane) (b : Bytes) : Keeps s₀ (s.takeTwCtrl n b) :=
  ((h.rxPop _).put _ _).raiseSrc _

theorem Keeps.becomeLeader {s₀ s : State} (h : Keeps s₀ s) (takeover : Bool) : Keeps s₀ (s.becomeLeader takeover) := by
  unfold State.becomeLeader
  extract_lets +onlyGivenNames _ _ s2
  have k1 : Keeps s₀ s2 := State.each_keeps ((h.setRole _).onTw _) _ _ (fun _ _ k2 => k2.sendCtrl _ _ _ _)
  exact Keeps.ite k1 ((((((State.each_keeps k1 _ _ (fun _ _ k3 => Keeps.ite k3
    (k3.onLane _ _))).onTw _).raise _ _).bump _).setInstep _).onTw _)

theorem Keeps.leadAtBoundary {s₀ s : State} (h : Keeps s₀ s) (peer : Bool) : Keeps s₀ (s.leadAtBoundary peer) := by
  unfold State.leadAtBoundary
  extract_lets +onlyGivenNames _ s1
  have k1 : Keeps s₀ s1 := by
    unfold s1
    split
    · exact Keeps.ite (((h.onTw _).leaveStep.setRole _).onTw _) (h.onTw _)
    · exact h.onTw _
  exact Keeps.ite k1 (Keeps.ite (k1.raise _ _) (k1.becomeLeader _))

theorem Keeps.relinquish {s₀ s : State} (h : Keeps s₀ s) : Keeps s₀ s.relinquish :=
  Keeps.ite h (Keeps.ite ((h.sendTwCtrl _ _).onTw _) (h.sendTwCtrl _ _))

theorem Keeps.twinFlush {s₀ s : State} (h : Keeps s₀ s) : Keeps s₀ s.twinFlush :=
  Keeps.ite h (Keeps.ite (h.onTw _) (Keeps.ite ((h.onTw _).relinquish) (Keeps.ite (((h.onTw _).sendTwCtrl _ _).leaveStep)
    (h.onTw _))))

theorem execTwRelinquish_kept {s₀ s : State} (h : Keeps s₀ s) (n : Lane) : Kept s₀ (execTwRelinquish n s) := by
  unfold execTwRelinquish
  refine Kept.next ?_
  split
  · exact h
  · extract_lets +onlyGivenNames s1
    have k1 : Keeps s₀ s1 := h.takeTwCtrl _ _
    exact Keeps.ite (k1.onTw _) k1

theorem execTwLeave_kept {s₀ s : State} (h : Keeps s₀ s) (n : Lane) : Kept s₀ (execTwLeave n s) := by
  unfold execTwLeave
  refine Kept.next ?_
  split
  · exact h
  · extract_lets +onlyGivenNames s1
    have k1 : Keeps s₀ s1 := h.takeTwCtrl _ _
    exact Keeps.ite ((k1.leaveStep.onTw _).raise _ _) k1

theorem execTwCmdAck_kept {s₀ s : State} (h : Keeps s₀ s) (n : Lane) : Kept s₀ (execTwCmdAck n s) := by
  unfold execTwCmdAck
  refine Kept.next ?_
  split
  · exact h
  · exact h.takeTwCtrl _ _

theorem Keeps.startJoin {s₀ s : State} (h : Keeps s₀ s) (n : Lane) : Keeps s₀ (s.startJoin n) :=
  Keeps.ite h (((State.each_keeps h _ _ (fun _ _ k => k.stopGroup _)).setRole _).onTw _)

theorem Keeps.ackJoin {s₀ s : State} (h : Keeps s₀ s) (n : Lane) : Keeps s₀ (s.ackJoin n) :=
  (h.sendTwCtrl _ _).onTw _

theorem execTwHello_kept {s₀ s : State} (h : Keeps s₀ s) (n : Lane) (leader primary : Bool) :
    Kept s₀ (execTwHello n leader primary s) := by
  unfold execTwHello
  refine Kept.next ?_
  split
  · exact h
  · split
    · exact Keeps.ite h ((h.sendTwCtrl _ _).onTw _)
    · extract_lets +onlyGivenNames s0 s1
      have k1 : Keeps s₀ s0 := h.takeTwCtrl _ _
      have k2 : Keeps s₀ s1 := Keeps.ite k1 (k1.sendTwCtrl _ _)
      exact Keeps.ite (Keeps.ite ((k2.onTw _).raise _ _) ((k2.onTw _).ackJoin _)) (Keeps.ite (k2.onTw _) (Keeps.ite
        ((k2.onTw _).startJoin _) (Keeps.ite ((k2.onTw _).onTw _) (Keeps.ite ((k2.onTw _).startJoin _) (Keeps.ite
        (((k2.onTw _).raise _ _).onTw _) (((k2.onTw _).raise _ _).startJoin _))))))

theorem execTwFireReceive_kept {s₀ s : State} (h : Keeps s₀ s) (n : Lane) : Kept s₀ (execTwFireReceive n s) := by
  unfold execTwFireReceive
  refine Kept.next ?_
  split
  · exact h
  · split
    · exact h
    · exact Keeps.ite (h.rxPop _) ((h.rxPop _).onTw _)

theorem Keeps.sealPlaced {s₀ s : State} (h : Keeps s₀ s) (f : ℕ) : Keeps s₀ (s.sealPlaced f) :=
  Keeps.ite ((h.sealBatch _).onTw _) h

theorem execTwPlaceReceive_kept {s₀ s : State} (h : Keeps s₀ s) (n : Lane) : Kept s₀ (execTwPlaceReceive n s) := by
  unfold execTwPlaceReceive
  refine Kept.next ?_
  split
  · exact h
  · split
    · exact h
    · exact Keeps.ite (h.rxPop _) (Keeps.ite ((((h.rxPop _).onTw _).onTw _).sealPlaced _) ((h.rxPop _).onTw _))

theorem Keeps.sendPlace {s₀ s : State} (h : Keeps s₀ s) (f : ℕ) (l : List Place) (last : Bool) :
    Keeps s₀ (s.sendPlace f l last) :=
  h.sendPeer _ _

theorem Keeps.sendPlaces {s₀ s : State} (h : Keeps s₀ s) (fuel f : ℕ) (l : List Place) : Keeps s₀ (s.sendPlaces fuel f l) := by
  induction fuel generalizing s l with
  | zero => exact h
  | succ fuel ih => exact Keeps.ite (h.sendPlace _ _ _) (ih (h.sendPlace _ _ _) _)

theorem Keeps.sealByRole {s₀ s : State} (h : Keeps s₀ s) : Keeps s₀ s.sealByRole :=
  Keeps.ite (h.sealPlaced _) (Keeps.ite (h.sealDue.sendPlaces _ _ _) h.sealDue)

theorem Keeps.closePart {s₀ s : State} (h : Keeps s₀ s) : Keeps s₀ s.closePart := by
  unfold State.closePart
  exact (h.onTw _).onWheel _

theorem Keeps.wrDigest {s₀ s : State} (h : Keeps s₀ s) (reg : ℕ → ℕ) (b : Bytes) : Keeps s₀ (s.wrDigest reg b) :=
  State.each_keeps h _ _ (fun _ _ k => State.wr_keeps k _ _)

theorem Keeps.converge {s₀ s : State} (h : Keeps s₀ s) : Keeps s₀ s.converge :=
  Keeps.ite ((h.onTw _).setInstep _) (h.onTw _)

theorem Keeps.diverge {s₀ s : State} (h : Keeps s₀ s) (fn : ℕ) : Keeps s₀ (s.diverge fn) := by
  unfold State.diverge
  extract_lets +onlyGivenNames s1
  have k1 : Keeps s₀ s1 := ((h.raise _ _).bump _).raiseSrc _
  split
  · exact k1.leaveStep
  · split
    · extract_lets +onlyGivenNames _
      split
      · exact k1.leaveStep.ackJoin _
      · exact k1.leaveStep
    · exact ((State.each_keeps k1.leaveStep _ _ (fun _ _ k2 => k2.stopGroup _)).setRole _).onTw _

theorem Keeps.compareDigests {s₀ s : State} (h : Keeps s₀ s) (fn : ℕ) : Keeps s₀ (s.compareDigests fn) := by
  unfold State.compareDigests
  split
  · extract_lets +onlyGivenNames s1
    have k1 : Keeps s₀ s1 := ((h.wr64 _ _).wrDigest _ _).wrDigest _ _
    exact Keeps.ite ((((k1.onTw _).put _ _).raiseSrc _).converge) ((k1.onTw _).diverge _)
  · exact h

theorem execTwDigestFinalise_kept {s₀ s : State} (h : Keeps s₀ s) : Kept s₀ (execTwDigestFinalise s) := by
  unfold execTwDigestFinalise
  refine Kept.next ?_
  split
  · exact h
  · exact Keeps.ite h (((h.sendPeer _ _).onTw _).compareDigests _)

theorem execTwDigestReceive_kept {s₀ s : State} (h : Keeps s₀ s) (n : Lane) : Kept s₀ (execTwDigestReceive n s) := by
  unfold execTwDigestReceive
  refine Kept.next ?_
  split
  · exact h
  · split
    · exact h
    · exact ((h.rxPop _).onTw _).compareDigests _

theorem execTwDigestMissing_kept {s₀ s : State} (h : Keeps s₀ s) : Kept s₀ (execTwDigestMissing s) := by
  unfold execTwDigestMissing
  refine Kept.next ?_
  split
  · exact h
  · exact Keeps.ite h (Keeps.ite ((h.bump _).onTw _) (Keeps.ite ((((h.bump _).onTw _).raise _ _).leaveStep)
      (((((h.bump _).onTw _).raise _ _).setInstep _).onTw _)))

theorem execTwJoinAck_kept {s₀ s : State} (h : Keeps s₀ s) (n : Lane) : Kept s₀ (execTwJoinAck n s) := by
  unfold execTwJoinAck
  refine Kept.next ?_
  split
  · extract_lets +onlyGivenNames s1
    have k1 : Keeps s₀ s1 := h.takeTwCtrl _ _
    exact Keeps.ite k1 (k1.onTw _)
  · exact h.takeTwCtrl _ _
  · exact h

theorem Keeps.joinFail {s₀ s : State} (h : Keeps s₀ s) (reason : ℕ) : Keeps s₀ (s.joinFail reason) :=
  (((h.raise _ _).raiseSrc _).leaveStep).onTw _

theorem execTwJoinFail_kept {s₀ s : State} (h : Keeps s₀ s) (why : JoinFail) : Kept s₀ (execTwJoinFail why s) := by
  unfold execTwJoinFail
  refine Kept.next ?_
  split
  · exact Keeps.ite (h.joinFail _) h
  · exact Keeps.ite (h.joinFail _) h
  · exact Keeps.ite (h.joinFail _) h
  · exact h

theorem execTwJoinRetry_kept {s₀ s : State} (h : Keeps s₀ s) : Kept s₀ (execTwJoinRetry s) := by
  unfold execTwJoinRetry
  refine Kept.next ?_
  split
  · exact Keeps.ite ((h.startJoin _).sendTwCtrl _ _) h
  · exact h

theorem execTwXferSend_kept {s₀ s : State} (h : Keeps s₀ s) : Kept s₀ (execTwXferSend s) := by
  unfold execTwXferSend
  refine Kept.next ?_
  split
  · exact h
  · split
    · exact h
    · split
      · exact (h.sendPeer _ _).onTw _
      · exact (h.sendTwCtrl _ _).onTw _

theorem execTwXferReceive_kept {s₀ s : State} (h : Keeps s₀ s) (n : Lane) : Kept s₀ (execTwXferReceive n s) := by
  unfold execTwXferReceive
  refine Kept.next ?_
  split
  · exact h
  · split
    · exact Keeps.ite (h.rxPop _) (Keeps.ite ((h.rxPop _).store _ _) (Keeps.ite ((h.rxPop _).store _ _) (Keeps.ite
        ((h.rxPop _).onTw _) (h.rxPop _))))
    · exact h.rxPop _
    · exact h

theorem execTwXferDone_kept {s₀ s : State} (h : Keeps s₀ s) (n : Lane) (mode : Fin 8) : Kept s₀ (execTwXferDone n mode s) := by
  unfold execTwXferDone
  refine Kept.next ?_
  split
  · exact (h.takeTwCtrl _ _).onTw _
  · exact h.takeTwCtrl _ _
  · exact h

theorem Keeps.installObjects {s₀ s : State} (h : Keeps s₀ s) (images : List (ℕ × Bytes)) :
    Keeps s₀ (s.installObjects images) := by
  unfold State.installObjects
  extract_lets +onlyGivenNames _ s1 _ _ s3
  have k1 : Keeps s₀ s1 := by
    unfold s1
    split
    · exact h.onTe _
    · exact h
  have k2 : Keeps s₀ s3 := by
    unfold s3
    split
    · exact (k1.onTe _).onWheel _
    · exact k1.onTe _
  exact (k2.onVe _).onTe _

theorem Keeps.enterRun {s₀ s : State} (h : Keeps s₀ s) : Keeps s₀ s.enterRun :=
  h.enterMode _

theorem Keeps.completeJoin {s₀ s : State} (h : Keeps s₀ s) : Keeps s₀ s.completeJoin := by
  unfold State.completeJoin
  split
  · exact h
  · split
    · exact h
    · exact Keeps.ite h (Keeps.ite (State.each_keeps ((((h.installObjects _).setRole _).raiseSrc _).onTw _) _ _
        (fun _ _ k => k.restartGroup _)) (Keeps.ite (((State.each_keeps
        ((((h.installObjects _).setRole _).raiseSrc _).onTw _) _ _ (fun _ _ k => k.restartGroup _)).syncTwin).enterRun)
        (Keeps.ite ((State.each_keeps ((((h.installObjects _).setRole _).raiseSrc _).onTw _) _ _
        (fun _ _ k => k.restartGroup _)).enterMode _) (State.each_keeps
        ((((h.installObjects _).setRole _).raiseSrc _).onTw _) _ _ (fun _ _ k => k.restartGroup _)))))

theorem Keeps.shiftTimes {s₀ s : State} (h : Keeps s₀ s) (k : ℤ) : Keeps s₀ (s.shiftTimes k) :=
  h.same rfl rfl rfl rfl rfl

theorem Keeps.alignJoin {s₀ s : State} (h : Keeps s₀ s) : Keeps s₀ s.alignJoin := by
  unfold State.alignJoin
  split
  · exact h
  · split
    · exact Keeps.ite (Keeps.ite ((((h.onTw _).shiftTimes _).wr64 _ _).wrInt _ _)
        ((((((h.onTw _).shiftTimes _).wr64 _ _).wrInt _ _).put _ _).raiseSrc _)) h
    · exact h

/-! ### The functions of Machine/Sagger -/

theorem Keeps.eraseStore {s₀ s : State} (h : Keeps s₀ s) : Keeps s₀ s.eraseStore :=
  (State.onSag_keeps h _ (fun _ => by rfl)).wr64 _ _

theorem execSgLcAdvance_kept {s₀ s : State} (h : Keeps s₀ s) (m : Master) (v : Word) : Kept s₀ (execSgLcAdvance m v s) := by
  unfold execSgLcAdvance
  exact Kept.next (h.portal (Keeps.ite (h.putFlag _ _) (Keeps.ite (State.onSag_keeps (((State.blow_keeps (Keeps.ite
    (((State.blow_keeps h _ _).secEvent _ _).put _ _) (Keeps.ite (((State.blow_keeps h _ _).secEvent _ _).endSession)
    ((State.blow_keeps h _ _).secEvent _ _))) _ _).eraseStore).putFlag _ _) _ (fun _ => by rfl)) (Keeps.ite
    (((State.blow_keeps h _ _).secEvent _ _).put _ _) (Keeps.ite (((State.blow_keeps h _ _).secEvent _ _).endSession)
    ((State.blow_keeps h _ _).secEvent _ _))))) _ _ _)

theorem Keeps.raiseFloor {s₀ s : State} (h : Keeps s₀ s) (kind svn : ℕ) : Keeps s₀ (s.raiseFloor kind svn) :=
  State.blow_keeps (State.blow_keeps h _ _) _ _

theorem execSgSvnCommit_kept {s₀ s : State} (h : Keeps s₀ s) (m : Master) (v : Word) : Kept s₀ (execSgSvnCommit m v s) := by
  refine Kept.next (h.portal (Keeps.ite (h.putFlag _ _) ?_) _ _ _)
  extract_lets +onlyGivenNames s1 s2 s3
  have k1 : Keeps s₀ s1 := State.when_keeps h _ _ (fun _ k => k.raiseFloor _ _)
  have k2 : Keeps s₀ s2 := State.when_keeps k1 _ _ (fun _ k => k.raiseFloor _ _)
  have k3 : Keeps s₀ s3 := by
    refine State.when_keeps k2 _ _ (fun t k => ?_)
    split
    · exact k.raiseFloor _ _
    · exact k
  exact k3.secEvent _ _

theorem execSgFuseProgram_kept {s₀ s : State} (h : Keeps s₀ s) (m : Master) : Kept s₀ (execSgFuseProgram m s) :=
  Kept.next (h.portal (Keeps.ite h (Keeps.ite (h.put _ _) ((State.onSag_keeps h _ (fun _ => by rfl)).putFlag _ _))) _ _ _)

theorem execFuseProgramDone_kept {s₀ s : State} (h : Keeps s₀ s) (ok : Bool) : Kept s₀ (execFuseProgramDone ok s) := by
  unfold execFuseProgramDone
  refine Kept.next ?_
  split
  · exact h
  · extract_lets +onlyGivenNames s1
    have k1 : Keeps s₀ s1 := (State.onSag_keeps h _ (fun _ => by rfl)).putFlag _ _
    exact Keeps.ite ((State.blow_keeps k1 _ _).put _ _) ((State.blow_keeps k1.draw _ _).put _ _)

theorem execSgPufEnroll_kept {s₀ s : State} (h : Keeps s₀ s) (m : Master) : Kept s₀ (execSgPufEnroll m s) :=
  Kept.next (h.portal (Keeps.ite h (Keeps.ite (h.putFlag _ _) (h.putFlag _ _))) _ _ _)

theorem execSgVerCheck_kept {s₀ s : State} (h : Keeps s₀ s) (m : Master) : Kept s₀ (execSgVerCheck m s) :=
  Kept.next (h.portal (Keeps.ite h (((State.onSag_keeps h _ (fun _ => by rfl)).putFlag _ _).syncEngine)) _ _ _)

theorem Keeps.checkAt {s₀ s : State} (h : Keeps s₀ s) (a len : ℕ) : Keeps s₀ (s.checkAt a len).1 :=
  h.busRead _ _ _

theorem execSgVerDone_kept {s₀ s : State} (h : Keeps s₀ s) : Kept s₀ (execSgVerDone s) := by
  refine Kept.next ?_
  split
  next a len s0 _ e =>
    have k0 : Keeps s₀ s0 := h.served .ver s0 e
    split
    next s1 _ code e1 =>
      have k1 : Keeps s₀ s1 := (k0.checkAt _ _).ofEq e1
      exact (((State.onSag_keeps k1 _ (fun _ => by rfl)).putFlag _ _).put _ _).raiseSrc _
  · exact h

theorem Keeps.newNonce {s₀ s : State} (h : Keeps s₀ s) : Keeps s₀ s.newNonce :=
  State.each_keeps h.draw _ _ (fun _ _ k => State.wr_keeps k _ _)

theorem execSgDbgGo_kept {s₀ s : State} (h : Keeps s₀ s) (m : Master) (v : Word) : Kept s₀ (execSgDbgGo m v s) :=
  Kept.next (h.portal (Keeps.ite h (((State.onSag_keeps ((h.put _ _).putFlag _ _) _
    (fun _ => by rfl)).putFlag _ _).syncEngine)) _ _ _)

theorem execDbgAuthDone_kept {s₀ s : State} (h : Keeps s₀ s) : Kept s₀ (execDbgAuthDone s) := by
  refine Kept.next ?_
  split
  next level vendor nonce sig s0 _ e =>
    have k0 : Keeps s₀ s0 := h.served .debug s0 e
    extract_lets +onlyGivenNames res s1
    have k1 : Keeps s₀ s1 := (((State.onSag_keeps k0 _ (fun _ => by rfl)).putFlag _ _).put _ _).newNonce
    clear_value s1
    refine Keeps.ite ?_ (((k1.bump _).raise _ _).secEvent _ _).debugDenial
    extract_lets +onlyGivenNames s2
    have k2 : Keeps s₀ s2 := (State.onSag_keeps (k1.put _ _) _ (fun _ => by rfl)).extendMeas _ _
    exact ((k2.secEvent _ _).raise _ _).raiseSrc _
  · exact h

theorem execSgDbgEnd_kept {s₀ s : State} (h : Keeps s₀ s) (m : Master) : Kept s₀ (execSgDbgEnd m s) :=
  Kept.next (h.portal h.endSession _ _ _)

theorem Keeps.boundaryScan {s₀ s : State} (h : Keeps s₀ s) : Keeps s₀ s.boundaryScan :=
  Keeps.ite (State.onSag_keeps (((State.each_keeps h _ _ (fun _ _ k =>
    (k.putFlag _ _).putFlag _ _)).putFlag _ _).putFlag _ _) _ (fun _ => by rfl)) h

theorem execJtagExtest_kept {s₀ s : State} (h : Keeps s₀ s) : Kept s₀ (execJtagExtest s) :=
  Kept.next h.boundaryScan

theorem execJtagClamp_kept {s₀ s : State} (h : Keeps s₀ s) : Kept s₀ (execJtagClamp s) :=
  Kept.next h.boundaryScan

/-! ### The functions of Machine/Fcu -/

theorem Keeps.queueLog {s₀ s : State} (h : Keeps s₀ s) (e : Bytes) : Keeps s₀ (s.queueLog e) :=
  Keeps.ite (h.bump _) (h.onSup _)

theorem Keeps.recordFault {s₀ s : State} (h : Keeps s₀ s) (f : FaultIn) (r : Reaction) : Keeps s₀ (s.recordFault f r) := by
  unfold State.recordFault
  extract_lets +onlyGivenNames _ _ _ _ s4
  have k1 : Keeps s₀ s4 := State.when_keeps (((State.wr_keeps
    ((((h.bump _).put _ _).putFlag _ _).bump _) _ _).put _ _).putFlag _ _) _ _ (fun _ k4 =>
    (((k4.put _ _).put _ _).putFlag _ _).wr64 _ _)
  exact State.when_keeps ((Keeps.ite k1 (k1.queueLog _)).putFlag _ _) _ _ (fun _ k6 => k6.putFlag _ _)

theorem Keeps.latchTime {s₀ s : State} (h : Keeps s₀ s) : Keeps s₀ s.latchTime :=
  (h.draw.put _ _).raiseTo _ _

theorem Keeps.groupSafe {s₀ s : State} (h : Keeps s₀ s) (g : Group) : Keeps s₀ (s.groupSafe g) :=
  ((((h.put _ _).refreshOuts).stopNow _).onCore _ _).veRestart _

theorem Keeps.deviceSafe {s₀ s : State} (h : Keeps s₀ s) (f : FaultIn) (cls : ℕ) : Keeps s₀ (s.deviceSafe f cls) :=
  Keeps.ite h.setDevSafe (Keeps.ite (h.setDevSafe.onSup _) ((h.setDevSafe.recordSafe _ _ _ _).enterMode _))

theorem Keeps.alsoGroup {s₀ s : State} (h : Keeps s₀ s) (f : FaultIn) : Keeps s₀ (s.alsoGroup f) :=
  Keeps.ite (h.groupSafe _) h

theorem Keeps.abandonPeriodic {s₀ s : State} (h : Keeps s₀ s) : Keeps s₀ s.abandonPeriodic :=
  Keeps.ite (h.onSup _) h

theorem Keeps.react {s₀ s : State} (h : Keeps s₀ s) (f : FaultIn) (r : Reaction) : Keeps s₀ (s.react f r) := by
  unfold State.react
  exact Keeps.ite h (Keeps.ite (h.abandonPeriodic.latchTime.groupSafe _) (Keeps.ite
    (((h.abandonPeriodic.latchTime.alsoGroup _).deviceSafe _ _).twinFlush) ((Keeps.ite
    ((h.abandonPeriodic.latchTime.alsoGroup _).setDevSafe)
    (((h.abandonPeriodic.latchTime.alsoGroup _).setDevSafe).alarm _ _ _ _)).twinFlush)))

theorem Keeps.occur {s₀ s : State} (h : Keeps s₀ s) (f : FaultIn) : Keeps s₀ (s.occur f) :=
  Keeps.ite h ((h.recordFault _ _).react _ _)

theorem Keeps.takeFault {s₀ s : State} (h : Keeps s₀ s) (f : FaultIn) : Keeps s₀ (s.takeFault f) := by
  have k : Keeps s₀ ({ s with fcuIn := s.fcuIn.erase f } : State) := h.same rfl rfl rfl rfl rfl
  exact k.occur f

theorem execFaultOccurrence_kept {s₀ s : State} (h : Keeps s₀ s) : Kept s₀ (execFaultOccurrence s) := by
  unfold execFaultOccurrence
  refine Kept.next ?_
  split
  · exact h
  · exact h.takeFault _

theorem Keeps.drainLog {s₀ s : State} (h : Keeps s₀ s) : Keeps s₀ s.drainLog := by
  unfold State.drainLog
  split
  · exact h
  · exact State.when_keeps (((State.each_keeps h _ _ (fun _ _ k => State.wr_keeps k _ _)).onSup _).bumpWrap _) _ _
      (fun _ k3 => k3.putFlag _ _)

theorem execFcuLogDrain_kept {s₀ s : State} (h : Keeps s₀ s) : Kept s₀ (execFcuLogDrain s) :=
  Kept.next h.drainLog

theorem Keeps.fcuReject {s₀ s : State} (h : Keeps s₀ s) : Keeps s₀ s.fcuReject :=
  h.putFlag _ _

theorem execFcuInject_kept {s₀ s : State} (h : Keeps s₀ s) (m : Master) (v : Word) : Kept s₀ (execFcuInject m v s) := by
  unfold execFcuInject
  extract_lets +onlyGivenNames _ f
  refine Kept.next (h.portal (Keeps.ite h.fcuReject ?_) _ _ _)
  have k : Keeps s₀ (s.put FCU_INJ_CTRL_ID (bitsOf v.toNat 0 9)) := h.put _ _
  exact k.same rfl rfl rfl rfl rfl

theorem execFltCfgWrite_kept {s₀ s : State} (h : Keeps s₀ s) (i : FaultId) (m : Master) (v : Word) :
    Kept s₀ (execFltCfgWrite i m v s) := by
  unfold execFltCfgWrite
  exact Kept.next (h.portal (Keeps.ite h (Keeps.ite h.fcuReject (Keeps.ite ((h.stageWrite _ _ _).storeError _ _)
    (State.when_keeps ((h.stageWrite _ _ _).put _ _) _ _ (fun _ k => k.fcuReject))))) _ _ _)

theorem Keeps.commitFltCfg {s₀ s : State} (h : Keeps s₀ s) (i : ℕ) (v : Word) : Keeps s₀ (s.commitFltCfg i v) :=
  (h.put _ _).put _ _

theorem execFltPendClear_kept {s₀ s : State} (h : Keeps s₀ s) (i : FaultId) (m : Master) : Kept s₀ (execFltPendClear i m s) :=
  Kept.next (h.portal ((h.putFlag _ _).putFlag _ _) _ _ _)

theorem Keeps.loseHeartbeat {s₀ s : State} (h : Keeps s₀ s) (y : Bool) : Keeps s₀ (s.loseHeartbeat y) :=
  (((((h.onOuts _).putFlag _ _).putFlag _ _).putFlag _ _).refreshOuts).raise _ _

theorem Keeps.disagree {s₀ s : State} (h : Keeps s₀ s) (cls : ℕ) : Keeps s₀ (s.disagree cls) := by
  unfold State.disagree
  split
  · exact h
  next f e =>
    have k : Keeps s₀ ({ s with fcuIn := s.fcuIn.erase f } : State) := h.same rfl rfl rfl rfl rfl
    exact k.occur _

theorem execFcuSelf_kept {s₀ s : State} (h : Keeps s₀ s) (why : FcuSelfCause) : Kept s₀ (execFcuSelf why s) := by
  unfold execFcuSelf
  refine Kept.next ?_
  split
  · exact h.loseHeartbeat _
  · exact h.loseHeartbeat _
  · exact (h.disagree _).raise _ _
  · exact h.raise _ _

theorem Keeps.sscTestFail {s₀ s : State} (h : Keeps s₀ s) (detail : ℕ) : Keeps s₀ (s.sscTestFail detail) :=
  (h.setDevSafe.putFlag _ _).raise _ _

theorem execSscPeriodicTest_kept {s₀ s : State} (h : Keeps s₀ s) (x y : Bool) : Kept s₀ (execSscPeriodicTest x y s) := by
  unfold execSscPeriodicTest
  exact Kept.next (Keeps.ite h (Keeps.ite ((h.onSup _).bump _) (State.when_keeps (State.when_keeps (h.onSup _) _ _
    (fun _ k => k.sscTestFail _)) _ _ (fun _ k => k.sscTestFail _))))

theorem Keeps.beginItest {s₀ s : State} (h : Keeps s₀ s) : Keeps s₀ s.beginItest :=
  ((((h.onOuts _).putFlag _ _).putFlag _ _).putFlag _ _).refreshOuts

theorem execSscIntrusiveTest_kept {s₀ s : State} (h : Keeps s₀ s) (m : Master) : Kept s₀ (execSscIntrusiveTest m s) :=
  Kept.next (h.portal (Keeps.ite h (Keeps.ite (h.putFlag _ _) h.beginItest)) _ _ _)

theorem Keeps.endItest {s₀ s : State} (h : Keeps s₀ s) (t : IntrusiveTest) (badX badY : Bool) :
    Keeps s₀ (s.endItest t badX badY) := by
  unfold State.endItest
  extract_lets +onlyGivenNames _ _ s3
  have k1 : Keeps s₀ s3 := ((State.when_keeps (State.when_keeps (h.onOuts _) _ _ (fun _ k2 => k2.putFlag _ _)) _ _
    (fun _ k2 => k2.putFlag _ _)).putFlag _ _).refreshOuts
  exact Keeps.ite (k1.putFlag _ _) (Keeps.ite (k1.putFlag _ _) ((k1.draw.putFlag _ _).sscTestFail _))

theorem execSscIntrusiveTestEnd_kept {s₀ s : State} (h : Keeps s₀ s) (badX badY : Bool) :
    Kept s₀ (execSscIntrusiveTestEnd badX badY s) := by
  unfold execSscIntrusiveTestEnd
  refine Kept.next ?_
  split
  · exact h
  · exact Keeps.ite h (h.endItest _ _ _)

theorem execMpuCfgErr_kept {s₀ s : State} (h : Keeps s₀ s) (g : Group) (r : Option (Fin 32)) :
    Kept s₀ (execMpuCfgErr g r s) := by
  unfold execMpuCfgErr
  refine Kept.next ?_
  split
  · exact h
  · extract_lets +onlyGivenNames _ s2
    have k1 : Keeps s₀ s2 := by
      unfold s2
      split
      · exact ((h.putFlag _ _).put _ _).onProt _
      · exact (h.putFlag _ _).draw.put _ _
    exact k1.raise _ _

/-! ### The functions of Machine/Restart -/

theorem Keeps.setIsr {s₀ s : State} (h : Keeps s₀ s) (f : Fld) : Keeps s₀ (s.setIsr f) :=
  Keeps.ite h ((h.putFlag _ _).onHost _)

theorem Keeps.stopQueue {s₀ s : State} (h : Keeps s₀ s) (q : ℕ) : Keeps s₀ (s.stopQueue q) := by
  unfold State.stopQueue
  extract_lets +onlyGivenNames s1 _ s2
  have k1 : Keeps s₀ s1 := h.addTo _ _
  have k2 : Keeps s₀ s2 := by
    have k : Keeps s₀ ({ s1 with chains := s1.chains.filter (fun c => c.q != some q) } : State) := k1.same rfl rfl rfl rfl rfl
    exact k.onHost _
  exact (State.wr_keeps (k2.putFlag _ _) _ _).put _ _

theorem Keeps.stopQueues {s₀ s : State} (h : Keeps s₀ s) : Keeps s₀ s.stopQueues :=
  State.each_keeps h _ _ (fun _ _ k => k.stopQueue _)

theorem Keeps.drainFaults {s₀ s : State} (h : Keeps s₀ s) (fuel : ℕ) : Keeps s₀ (State.drainFaults fuel s) := by
  induction fuel generalizing s with
  | zero => exact h
  | succ fuel ih =>
    unfold State.drainFaults
    split
    next n f e1 e2 => cases e1; exact ih (h.takeFault _)
    · exact h

theorem Keeps.drainLogs {s₀ s : State} (h : Keeps s₀ s) : Keeps s₀ s.drainLogs :=
  State.each_keeps h _ _ (fun _ _ k => k.drainLog)

theorem Keeps.settleFaults {s₀ s : State} (h : Keeps s₀ s) : Keeps s₀ s.settleFaults :=
  (h.drainFaults _).drainLogs

theorem Keeps.syncBoot {s₀ s : State} (h : Keeps s₀ s) : Keeps s₀ s.syncBoot :=
  (h.putFlag _ _).put _ _

theorem Keeps.powerOnReset {s₀ s : State} (h : Keeps s₀ s) (cause : ℕ) (aonLost : Bool) :
    Keeps s₀ (s.powerOnReset cause aonLost) := by
  have k0 := h.abandonFlash
  unfold State.powerOnReset
  extract_lets s0 r sp sh s1 s2 s3 s4 s5 s6
  have k1 : Keeps s₀ s1 := k0.trans ⟨rfl, rfl, fun x => regsWf_filter _ x, filter_wf _, fun _ => BitVec.and_self⟩
  have k3 : Keeps s₀ s3 := (((State.wr_keeps k1 _ _).putFlag _ _).putFlag _ _).syncBoot
  have k5 : Keeps s₀ s5 := ((((k3.putFlag _ _).newNonce.put _ _).putFlag _ _).put _ _)
  have k6 : Keeps s₀ s6 := (k5.put _ _).syncArch.refreshOuts.wr64 _ _
  exact State.each_keeps k6 _ _ (fun _ _ k => k.syncDegr _)

theorem Keeps.resetByPin {s₀ s : State} (h : Keeps s₀ s) : Keeps s₀ s.resetByPin :=
  State.onSag_keeps (h.powerOnReset _ _) _ (fun _ => by rfl)

theorem Keeps.heldReset {s₀ s : State} (h : Keeps s₀ s) : Keeps s₀ s.heldReset :=
  Keeps.ite h.resetByPin h

theorem Keeps.warmProt {s₀ s : State} (h : Keeps s₀ s) : Keeps s₀ s.warmProt :=
  h.setMem rfl rfl rfl (filter_wf _) rfl

theorem Keeps.warmDegr {s₀ s : State} (h : Keeps s₀ s) : Keeps s₀ s.warmDegr :=
  State.each_keeps (h.put _ _) _ _ (fun _ _ k => k.syncDegr _)

theorem Keeps.warmReset {s₀ s : State} (h : Keeps s₀ s) : Keeps s₀ s.warmReset := by
  unfold State.warmReset
  extract_lets +onlyGivenNames _ _ s1 s2
  have k1 : Keeps s₀ s1 := h.warmProt.setRegs rfl rfl (fun x => regsWf_filter (s := s.warmProt)
    (fun e => !resetAtWarm e.1) x) rfl rfl
  have k2 : Keeps s₀ s2 := State.onSag_keeps (State.wr_keeps (k1.put _ _) _ _) _ (fun _ => rfl)
  exact ((k2.putFlag _ _).putFlag _ _).newNonce.warmDegr

theorem Keeps.warmRestart {s₀ s : State} (h : Keeps s₀ s) (cause : ℕ) : Keeps s₀ (s.warmRestart cause) := by
  unfold State.warmRestart
  exact Keeps.ite h (Keeps.ite h.setDevSafe.relinquish.settleFaults
    ((((((((((((h.setDevSafe.relinquish.settleFaults.sealSegment _ _).endSession).stopQueues).onHost _).warmReset).setIsr
    _).putFlag _ _).retain _ _).put _ _).putFlag _ _).enterMode _).refreshOuts))

theorem execPmCtrlWarm_kept {s₀ s : State} (h : Keeps s₀ s) (m : Master) : Kept s₀ (execPmCtrlWarm m s) :=
  Kept.next (h.portal (h.warmRestart _) _ _ _)

theorem Keeps.startTrial {s₀ s : State} (h : Keeps s₀ s) : Keeps s₀ s.startTrial :=
  (State.onSag_keeps h _ (fun _ => by rfl)).syncBoot

theorem Keeps.warmRequest {s₀ s : State} (h : Keeps s₀ s) (activate : Bool) : Keeps s₀ (s.warmRequest activate) :=
  Keeps.ite h ((State.when_keeps h _ _ (fun _ k => k.startTrial)).warmRestart _)

theorem Keeps.dueRestart {s₀ s : State} (h : Keeps s₀ s) : Keeps s₀ s.dueRestart := by
  unfold State.dueRestart
  split
  · exact Keeps.ite ((h.onHost _).warmRequest _) h
  · exact h

theorem execPmCtrlWarmActivate_kept {s₀ s : State} (h : Keeps s₀ s) (m : Master) : Kept s₀ (execPmCtrlWarmActivate m s) :=
  Kept.next (h.portal (h.warmRequest _) _ _ _)

theorem Keeps.trialFail {s₀ s : State} (h : Keeps s₀ s) : Keeps s₀ s.trialFail :=
  ((Keeps.ite (State.onSag_keeps h _ (fun _ => by rfl)) ((State.onSag_keeps h _
    (fun _ => by rfl)).putFlag _ _)).syncBoot).warmRestart _

theorem Keeps.haltBoot {s₀ s : State} (h : Keeps s₀ s) (stage code : ℕ) : Keeps s₀ (s.haltBoot stage code) :=
  State.onSag_keeps (((h.put _ _).put _ _).putFlag _ _) _ (fun _ => by rfl)

theorem Keeps.bootFail {s₀ s : State} (h : Keeps s₀ s) (stage code : ℕ) : Keeps s₀ (s.bootFail stage code) :=
  Keeps.ite ((((h.put _ _).put _ _).putFlag _ _).trialFail) ((((h.put _ _).put _ _).putFlag _ _).haltBoot _ _)

theorem Keeps.loseLock {s₀ s : State} (h : Keeps s₀ s) (bit id : ℕ) : Keeps s₀ (s.loseLock bit id) :=
  (h.put _ _).raise _ _

/-! ### The functions of Machine/Watchdog -/

theorem Keeps.dropKey1 {s₀ s : State} (h : Keeps s₀ s) (g : Group) : Keeps s₀ (s.dropKey1 g) :=
  (h.onCore _ _).putFlag _ _

theorem Keeps.wdFirst {s₀ s : State} (h : Keeps s₀ s) (g : Group) : Keeps s₀ (s.wdFirst g) :=
  (((((h.dropKey1 _).bump _).putFlag _ _).put _ _).raiseSrc _).raise _ _

theorem Keeps.wdSecond {s₀ s : State} (h : Keeps s₀ s) (g : Group) : Keeps s₀ (s.wdSecond g) := by
  unfold State.wdSecond
  extract_lets +onlyGivenNames s1
  have k1 : Keeps s₀ s1 := (((h.dropKey1 _).put _ _).retain _ _).retain _ _
  exact Keeps.ite ((k1.setDevSafe.raise _ _).warmRestart _) (((k1.put _ _).refreshOuts).raise _ _)

theorem Keeps.wdExpiry {s₀ s : State} (h : Keeps s₀ s) (g : Group) : Keeps s₀ (s.wdExpiry g) :=
  Keeps.ite (h.wdSecond _) (h.wdFirst _)

theorem Keeps.wdInvalid {s₀ s : State} (h : Keeps s₀ s) (g : Group) (cause : ℕ) : Keeps s₀ (s.wdInvalid g cause) :=
  Keeps.ite (((h.putFlag _ _).put _ _).raise _ _) ((((h.putFlag _ _).put _ _).raise _ _).wdExpiry _)

theorem Keeps.wdService {s₀ s : State} (h : Keeps s₀ s) (g : Group) : Keeps s₀ (s.wdService g) :=
  Keeps.ite (((((((h.dropKey1 _).put _ _).bump _).putFlag _ _).putFlag _ _).bump _).raise _ _) (((h.dropKey1 _).put _ _).bump _)

theorem Keeps.wdKey {s₀ s : State} (h : Keeps s₀ s) (g : Group) (v : Word) : Keeps s₀ (s.wdKey g v) := by
  unfold State.wdKey
  exact Keeps.ite (h.wdInvalid _ _) (Keeps.ite (Keeps.ite (h.wdInvalid _ _) ((h.onCore _ _).putFlag _ _)) (Keeps.ite
    (h.wdInvalid _ _) (Keeps.ite (h.wdInvalid _ _) (Keeps.ite (h.wdInvalid _ _) (Keeps.ite (h.wdInvalid _ _)
    (h.wdService _))))))

theorem execWdKeyWrite_kept {s₀ s : State} (h : Keeps s₀ s) (g : Group) (m : Master) (v : Word) :
    Kept s₀ (execWdKeyWrite g m v s) :=
  Kept.next (h.portal (h.wdKey _ _) _ _ _)

theorem Keeps.markExpiry {s₀ s : State} (h : Keeps s₀ s) (g : Group) : Keeps s₀ (s.markExpiry g) :=
  h.onCore _ _

theorem execCmBend_kept {s₀ s : State} (h : Keeps s₀ s) (g : Group) (m : Master) (v : Word) : Kept s₀ (execCmBend g m v s) :=
  Kept.next (h.portal (Keeps.ite (h.bump _) (h.bump _)) _ _ _)

theorem execCmStart_kept {s₀ s : State} (h : Keeps s₀ s) (g : Group) (m : Master) : Kept s₀ (execCmStart g m s) :=
  Kept.next (h.portal (h.putFlag _ _) _ _ _)

theorem Keeps.latchCones {s₀ s : State} (h : Keeps s₀ s) (g : Group) : Keeps s₀ (s.latchCones g) :=
  State.each_keeps h _ _ (fun _ _ k => (k.put _ _).put _ _)

theorem Keeps.raiseCone {s₀ s : State} (h : Keeps s₀ s) (id : ℕ) (g : Group) (m : ConeMap) : Keeps s₀ (s.raiseCone id g m) :=
  Keeps.ite h (h.same rfl rfl rfl rfl rfl)

theorem Keeps.applyVerdict {s₀ s : State} (h : Keeps s₀ s) (f : ℕ) (v : ConeVerdict) : Keeps s₀ (s.applyVerdict f v) := by
  unfold State.applyVerdict
  extract_lets +onlyGivenNames _ s1
  have k1 : Keeps s₀ s1 := (h.wr64 _ _).putFlag _ _
  exact Keeps.ite (((k1.put _ _).put _ _).bump _) (State.when_keeps (((State.when_keeps (State.when_keeps
    (((k1.put _ _).put _ _).putFlag _ _) _ _ (fun _ k2 => k2.bump _)) _ _
    (fun _ k2 => k2.bump _)).raiseCone _ _ _).raiseCone _ _ _) _ _ (fun _ k2 => k2.raiseSrc _))

theorem Keeps.commitCmCtrl {s₀ s : State} (h : Keeps s₀ s) (g : Group) (v : Word) : Keeps s₀ (s.commitCmCtrl g v) :=
  Keeps.ite h (h.putFlag _ _)

theorem execRetClear_kept {s₀ s : State} (h : Keeps s₀ s) (m : Master) : Kept s₀ (execRetClear m s) :=
  Kept.next (h.portal (Keeps.ite h (h.wipeRetained _ _)) _ _ _)

/-! ### The functions of Machine/HostQueue -/

theorem Keeps.setPba {s₀ s : State} (h : Keeps s₀ s) (f : Fin 2) (v : ℕ) : Keeps s₀ (s.setPba f v) := by
  unfold State.setPba
  exact h.onHost _

theorem Keeps.wakeLink {s₀ s : State} (h : Keeps s₀ s) : Keeps s₀ s.wakeLink :=
  State.when_keeps h _ _ (fun _ k => k.put _ _)

theorem Keeps.sendMsix {s₀ s : State} (h : Keeps s₀ s) (f : Fin 2) (v : ℕ) : Keeps s₀ (s.sendMsix f v) :=
  Keeps.ite (h.setPba _ _) ((h.onHost _).wakeLink)

theorem Keeps.deliverPba {s₀ s : State} (h : Keeps s₀ s) (f : Fin 2) (v : ℕ) : Keeps s₀ (s.deliverPba f v) :=
  Keeps.ite ((h.onHost _).wakeLink) h

theorem execMsixMessage_kept {s₀ s : State} (h : Keeps s₀ s) (f : Fin 2) (v : Byte) : Kept s₀ (execMsixMessage f v s) :=
  Kept.next (Keeps.ite h ((Keeps.ite ((State.each_keeps h _ _ (fun _ _ k => k.put _ _)).onHost _) (State.each_keeps h _ _
    (fun _ _ k => k.put _ _))).sendMsix _ _))

theorem Keeps.sendPme {s₀ s : State} (h : Keeps s₀ s) (f : Fin 2) : Keeps s₀ (s.sendPme f) :=
  h.onHost _

theorem Keeps.pushCpl {s₀ s : State} (h : Keeps s₀ s) (q : ℕ) (c : Cpl) : Keeps s₀ (s.pushCpl q c) :=
  Keeps.ite h (Keeps.ite (h.onHq _ _) (State.when_keeps (((h.onHq _ _).putFlag _ _).setPba _ _) _ _ (fun _ k => k.sendPme _)))

theorem Keeps.holdReady {s₀ s : State} (h : Keeps s₀ s) (f : Fin 2) : Keeps s₀ (s.holdReady f) :=
  State.when_keeps (State.each_keeps h _ _ (fun _ _ k => ((k.onHq _ _).putFlag _ _).setPba _ _)) _ _ (fun _ k => k.sendPme _)

theorem Keeps.writeCpl {s₀ s : State} (h : Keeps s₀ s) (q : ℕ) : Keeps s₀ (s.writeCpl q) := by
  unfold State.writeCpl
  split
  · exact h
  · exact ((State.when_keeps (((((((h.onHost _).onHq _ _).put _ _).putFlag _ _).put _ _).bump _).bump _) _ _
      (fun _ k4 => k4.bump _)).putFlag _ _).wakeLink

theorem Keeps.releaseHeld {s₀ s : State} (h : Keeps s₀ s) (f : Fin 2) : Keeps s₀ (s.releaseHeld f) := by
  unfold State.releaseHeld
  exact Keeps.ite h (State.each_keeps (State.each_keeps (State.each_keeps h _ _ (fun _ _ k => State.each_keeps k _ _
    (fun _ _ k2 => k2.writeCpl _))) _ _ (fun _ _ k => k.put _ _)) _ _ (fun _ _ k => k.deliverPba _ _))

theorem Keeps.heartbeat {s₀ s : State} (h : Keeps s₀ s) : Keeps s₀ s.heartbeat :=
  h.onHost _

theorem Keeps.mirrorReject {s₀ s : State} (h : Keeps s₀ s) (f : Fin 2) : Keeps s₀ (s.mirrorReject f) :=
  ((h.bump _).raise _ _).setIsr _

theorem Keeps.queueError {s₀ s : State} (h : Keeps s₀ s) (q id : ℕ) : Keeps s₀ (s.queueError q id) :=
  ((h.putFlag _ _).putFlag _ _).raise _ _

theorem Keeps.doorbell {s₀ s : State} (h :
    Keeps s₀ s) {act : State → State} (hf : ∀ t, Keeps s₀ t → Keeps s₀ (act t)) (q : ℕ) (f : Fin 2) :
    Keeps s₀ (s.doorbell q f act) :=
  Keeps.ite (h.heartbeat.mirrorReject _) (Keeps.ite (hf _ h.heartbeat) h.heartbeat)

theorem Keeps.sqDoorbell {s₀ s : State} (h : Keeps s₀ s) (q : ℕ) (f : Fin 2) (v : Word) : Keeps s₀ (s.sqDoorbell q f v) := by
  unfold State.sqDoorbell
  exact h.doorbell (fun _ k => Keeps.ite (k.queueError _ _) (k.put _ _)) _ _

theorem Keeps.cqDoorbell {s₀ s : State} (h : Keeps s₀ s) (q : ℕ) (f : Fin 2) (v : Word) : Keeps s₀ (s.cqDoorbell q f v) := by
  unfold State.cqDoorbell
  exact h.doorbell (fun _ k => Keeps.ite (k.queueError _ _) (k.put _ _)) _ _

theorem execHostPacketFetch_kept {s₀ s : State} (h : Keeps s₀ s) (q : Queue) (p : Option Bytes) :
    Kept s₀ (execHostPacketFetch q p s) := by
  unfold execHostPacketFetch
  refine Kept.next ?_
  split
  · exact h
  · split
    · exact (h.queueError _ _).setIsr _
    · exact (((h.put _ _).wakeLink).onHq _ _).onHost _

theorem Keeps.hqReject {s₀ s : State} (h : Keeps s₀ s) (q : ℕ) : Keeps s₀ (s.hqReject q) :=
  h.putFlag _ _

theorem Keeps.enableQueue {s₀ s : State} (h : Keeps s₀ s) (q : ℕ) : Keeps s₀ (s.enableQueue q) := by
  unfold State.enableQueue
  exact Keeps.ite h (Keeps.ite (h.hqReject _) ((((State.wr_keeps (State.wr_keeps (State.wr_keeps
    (State.wr_keeps h _ _) _ _) _ _) _ _).putFlag _ _).putFlag _ _).onHq _ _))

theorem Keeps.hqWrites {s₀ s : State} (h :
    Keeps s₀ s) {act : State → State} (hf : ∀ t, Keeps s₀ t → Keeps s₀ (act t)) (q : ℕ) (w : HqWriter) :
    Keeps s₀ (s.hqWrites q w act) := by
  unfold State.hqWrites
  split
  · exact hf _ h
  · split
    · exact h.mirrorReject _
    · exact h

theorem Keeps.hqReg {s₀ s : State} (h : Keeps s₀ s) (q rel : ℕ) (v : Word) : Keeps s₀ (s.hqReg q rel v) := by
  have idle (t : State) (k : Keeps s₀ t) : Keeps s₀ (if s.flag (HQ_CTRL_EN q) then s.hqReject q else t) := Keeps.ite
    (h.hqReject _) k
  unfold State.hqReg
  exact Keeps.ite (idle _ (State.wr_keeps h _ _)) (Keeps.ite (idle _ (State.wr_keeps h _ _)) (Keeps.ite (idle _
    (State.wr_keeps h _ _))
    (Keeps.ite (State.wr_keeps h _ _) (Keeps.ite (State.wr_keeps h _ _) (Keeps.ite (Keeps.ite (h.enableQueue _) (h.stopQueue _))
      (Keeps.ite (Keeps.ite (h.putFlag _ _) h) h))))))

theorem Keeps.hostWd {s₀ s : State} (h : Keeps s₀ s) (v : Word) : Keeps s₀ (s.hostWd v) :=
  State.when_keeps (h.put _ _) _ _ (fun _ k => k.onHost _)

theorem Keeps.hiReg {s₀ s : State} (h : Keeps s₀ s) (off : ℕ) (v : Word) : Keeps s₀ (s.hiReg off v) :=
  Keeps.ite (State.wr_keeps h _ _) (Keeps.ite (State.wr_keeps h _ _) (Keeps.ite (h.hostWd _) (Keeps.ite h.heartbeat (Keeps.ite
    (h.put _ _) h))))

theorem Keeps.msixTable {s₀ s : State} (h : Keeps s₀ s) (f : Fin 2) (w : ℕ) (v : Word) : Keeps s₀ (s.msixTable f w v) :=
  (h.onHost _).deliverPba _ _

theorem execMirrorWrite_kept {s₀ s : State} (h : Keeps s₀ s) (f : Fin 2) (off : ℕ) (v : Word) :
    Kept s₀ (execMirrorWrite f off v s) := by
  unfold execMirrorWrite
  exact Kept.next (Keeps.ite (Keeps.ite (h.hiReg _ _) (Keeps.ite (h.hqReg _ _ _) (h.mirrorReject _))) (Keeps.ite
    (h.sqDoorbell _ _ _) (Keeps.ite (h.cqDoorbell _ _ _) (Keeps.ite (h.msixTable _ _ _) h))))

theorem execBar2Write_kept {s₀ s : State} (h : Keeps s₀ s) (off : ℕ) (data : Bytes) : Kept s₀ (execBar2Write off data s) :=
  Kept.next (Keeps.ite h (Keeps.ite (((((h.busWrite _ _ _).bump _).raise _ _).setIsr _).onHost _) (h.busWrite _ _ _)))

theorem Keeps.resetFunction {s₀ s : State} (h : Keeps s₀ s) (f : Fin 2) : Keeps s₀ (s.resetFunction f) := by
  unfold State.resetFunction
  exact ((h.put _ _).putFlag _ _).onHost _

theorem Keeps.linkLost {s₀ s : State} (h : Keeps s₀ s) : Keeps s₀ s.linkLost := by
  unfold State.linkLost
  exact Keeps.ite h
    ((((((((((((h.addTo _ _).stopQueues).resetFunction _).resetFunction _).put _ _).putFlag _ _).put _ _).put _ _).putFlag _
    _).bump _).raise _ _).setIsr _)

theorem execHiLinkDown_kept {s₀ s : State} (h : Keeps s₀ s) : Kept s₀ (execHiLinkDown s) :=
  Kept.next h.linkLost

theorem execD3hotEntry_kept {s₀ s : State} (h : Keeps s₀ s) (f : Fin 2) : Kept s₀ (execD3hotEntry f s) := by
  unfold execD3hotEntry
  extract_lets +onlyGivenNames _ s1
  have k1 : Keeps s₀ s1 := State.each_keeps (h.put _ _) _ _ (fun _ _ k => k.setPba _ _)
  exact Kept.next ((Keeps.ite k1 (k1.sendPme _)).holdReady _)

theorem execBusMasterDisable_kept {s₀ s : State} (h : Keeps s₀ s) (f : Fin 2) (b : BmeBit) :
    Kept s₀ (execBusMasterDisable f b s) := by
  unfold execBusMasterDisable
  refine Kept.next ?_
  split
  · exact Keeps.ite (((h.putFlag _ _).raise _ _).holdReady _) h
  · exact (h.onHost _).holdReady _

theorem execBusMasterEnable_kept {s₀ s : State} (h : Keeps s₀ s) (f : Fin 2) (b : BmeBit) :
    Kept s₀ (execBusMasterEnable f b s) := by
  unfold execBusMasterEnable
  refine Kept.next ?_
  split
  · exact (h.putFlag _ _).releaseHeld _
  · exact (h.onHost _).releaseHeld _

/-! ### The functions of Machine/Scrub -/

theorem execScrubRead_kept {s₀ s : State} (h : Keeps s₀ s) (i : MemIx) : Kept s₀ (execScrubRead i s) := by
  unfold execScrubRead
  refine Kept.next ?_
  split
  · exact h
  · exact Keeps.ite (Keeps.ite ((Keeps.ite ((h.recordError _ _ _).wheelLost _) (h.recordError _ _ _)).setScrubber _ _)
      (Keeps.ite (((Keeps.ite ((h.recordError _ _ _).wheelLost _) (h.recordError _ _ _)).setScrubber _ _).bump _) ((Keeps.ite
      ((h.recordError _ _ _).wheelLost _) (h.recordError _ _ _)).setScrubber _ _))) h

theorem execScrubWriteBack_kept {s₀ s : State} (h : Keeps s₀ s) (i : MemIx) : Kept s₀ (execScrubWriteBack i s) := by
  unfold execScrubWriteBack
  refine Kept.next ?_
  split
  · exact h
  · extract_lets +onlyGivenNames _
    split
    · exact h.writeWord _ _
    · exact h.writeWord _ _
    · exact h.onProt _
    · exact h.onProt _

theorem execScrubStall_kept {s₀ s : State} (h : Keeps s₀ s) (i : MemIx) : Kept s₀ (execScrubStall i s) := by
  unfold execScrubStall
  refine Kept.next ?_
  split
  · exact h
  · exact Keeps.ite ((h.setScrubber _ _).raise _ _) h

theorem Keeps.rawGo {s₀ s : State} (h : Keeps s₀ s) (m : Master) (wr : Bool) : Keeps s₀ (s.rawGo m wr) := by
  unfold State.rawGo
  extract_lets +onlyGivenNames s0 i off
  have k0 : Keeps s₀ s0 := h.putFlag _ _
  have k1 : Keeps s₀ (s0.putFlag SP_RAW_CTRL_BUSY true) := k0.putFlag _ _
  clear_value s0 i off
  refine h.portal (Keeps.ite h (Keeps.ite ?_ (k0.putFlag _ _))) _ _ _
  generalize s0.putFlag SP_RAW_CTRL_BUSY true = s1 at k1 ⊢
  exact k1.same rfl rfl rfl rfl rfl

theorem execSpRawRead_kept {s₀ s : State} (h : Keeps s₀ s) (m : Master) : Kept s₀ (execSpRawRead m s) :=
  Kept.next (h.rawGo _ _)

theorem execSpRawWrite_kept {s₀ s : State} (h : Keeps s₀ s) (m : Master) : Kept s₀ (execSpRawWrite m s) :=
  Kept.next (h.rawGo _ _)

theorem execSpRawDone_kept {s₀ s : State} (h : Keeps s₀ s) : Kept s₀ (execSpRawDone s) := by
  unfold execSpRawDone
  refine Kept.next ?_
  split
  · exact h
  · extract_lets +onlyGivenNames s1
    have k1 : Keeps s₀ s1 := (h.onProt _).putFlag _ _
    exact Keeps.ite (k1.rawWheel _ _ _ _) (Keeps.ite (((k1.writeWord _ _).setSyndrome _ _).raise _ _) (State.wr_keeps
      (k1.wr64 _ _) _ _))

/-! ### The functions of Machine/RegRead -/

theorem Keeps.settleWait {s₀ s : State} (h : Keeps s₀ s) (g : Group) : Keeps s₀ (s.settleWait g) :=
  Keeps.ite h ((h.draw.onCore _ _).raiseTo _ _)

theorem Keeps.settle {s₀ s : State} (h : Keeps s₀ s) (off : ℕ) : Keeps s₀ (s.settle off) := by
  unfold State.settle
  split
  · exact h
  split
  · exact h.settleWait _
  extract_lets +onlyGivenNames _ s1
  have k1 : Keeps s₀ s1 := h.same rfl rfl rfl rfl rfl
  exact State.wr_keeps k1 _ _

theorem Keeps.readListed {s₀ s0 : State} (h : Keeps s₀ s0) (m : Master) (off : ℕ) (r : RegRow) :
    Keeps s₀ (s0.readListed m off r).1 := by
  unfold State.readListed
  extract_lets +onlyGivenNames _
  split
  · exact (h.settle _).same rfl rfl rfl rfl rfl
  · extract_lets +onlyGivenNames _ _ s1
    have k1 : Keeps s₀ s1 := Keeps.ite (State.wr_keeps (h.settle _) _ _) (h.settle _)
    exact Keeps.ite (k1.same rfl rfl rfl rfl rfl) k1

theorem Keeps.readRetained {s₀ s : State} (h : Keeps s₀ s) (off : ℕ) : Keeps s₀ (s.readRetained off).1 := by
  obtain ⟨rd, hrd⟩ : ∃ f, f = State.readWord := exists_eq
  have hr (a : ℕ) : Keeps s₀ (rd s a).1 := hrd ▸ h.readWord a
  generalize e : State.readRetained = f
  unfold State.readRetained at e
  rw [← hrd] at e
  subst e
  exact hr _

theorem Keeps.regRead {s₀ s : State} (h : Keeps s₀ s) (m : Master) (off : ℕ) : Keeps s₀ (s.regRead m off).1 := by
  unfold State.regRead
  split
  · exact h
  · split
    · exact h.recordDenial _ _ _ _ _
    · split
      · exact h
      · split
        · exact h
        · split
          · exact h.refuseAccess _ _ _
          · split
            · exact h
            · exact Keeps.iteFst ((Keeps.iteFst (h.readRetained _) h).readListed _ _ _) (Keeps.iteFst (h.readRetained _) h)

/-! ### The functions of Machine/Mpu -/

theorem Keeps.mpuStore {s₀ s : State} (h : Keeps s₀ s) (g : Group) (rel : ℕ) (v : Word) : Keeps s₀ (s.mpuStore g rel v).1 :=
  Keeps.iteFst ((h.bump _).putFlag _ _) (h.onCore _ _)

theorem Keeps.mpuTake {s₀ s : State} (h : Keeps s₀ s) (g : Group) (rel : ℕ) (v : Word) : Keeps s₀ (s.mpuTake g rel v) :=
  Keeps.ite (State.wr_keeps h _ _) ((State.wr_keeps h _ _).onProt _)

/-! ### The functions of Machine/RegRange -/

theorem Keeps.rejectAt {s₀ s : State} (h : Keeps s₀ s) (off : ℕ) : Keeps s₀ (s.rejectAt off) := by
  unfold State.rejectAt
  split
  · exact h.putFlag _ _
  · exact h

/-! ### The functions of Machine/RegWrite -/

theorem Keeps.groupAct {s₀ s : State} (h : Keeps s₀ s) (g : Group) (m : Master) (rel : ℕ) (v : Word) :
    KeepsIn s₀ (s.groupAct g m rel v) := by
  unfold State.groupAct
  exact KeepsIn.ite (.some ((execLsCfgWrite_kept h _ _ _).ran)) <| KeepsIn.ite (.some (Keeps.ite ((execLsStop_kept (Keeps.ite
    ((execLsRestart_kept (Keeps.ite ((execLsUnretire_kept (Keeps.ite ((execLsInject_kept (Keeps.ite h (h.put _ _)) _ _ _).ran)
    (Keeps.ite h (h.put _ _))) _ _ _).ran) (Keeps.ite ((execLsInject_kept (Keeps.ite h (h.put _ _)) _ _ _).ran) (Keeps.ite h
    (h.put _ _)))) _ _).ran) (Keeps.ite ((execLsUnretire_kept (Keeps.ite ((execLsInject_kept (Keeps.ite h
    (h.put _ _)) _ _ _).ran) (Keeps.ite h (h.put _ _))) _ _ _).ran) (Keeps.ite ((execLsInject_kept (Keeps.ite h
    (h.put _ _)) _ _ _).ran) (Keeps.ite h (h.put _ _))))) _ _).ran) (Keeps.ite ((execLsRestart_kept (Keeps.ite
    ((execLsUnretire_kept (Keeps.ite ((execLsInject_kept (Keeps.ite h (h.put _ _)) _ _ _).ran) (Keeps.ite h
    (h.put _ _))) _ _ _).ran) (Keeps.ite ((execLsInject_kept (Keeps.ite h (h.put _ _)) _ _ _).ran) (Keeps.ite h
    (h.put _ _)))) _ _).ran) (Keeps.ite ((execLsUnretire_kept (Keeps.ite ((execLsInject_kept (Keeps.ite h
    (h.put _ _)) _ _ _).ran) (Keeps.ite h (h.put _ _))) _ _ _).ran) (Keeps.ite ((execLsInject_kept (Keeps.ite h
    (h.put _ _)) _ _ _).ran) (Keeps.ite h (h.put _ _))))))) <| KeepsIn.ite (.some (Keeps.ite ((execLsPowerOff_kept h _ _).ran)
    ((execLsPowerOn_kept h _ _).ran))) <| KeepsIn.ite (.some (h.mpuStore _ _ _)) <| KeepsIn.ite (.some
    ((execWdKeyWrite_kept h _ _ _).ran)) <| KeepsIn.ite (.some (Keeps.ite ((Keeps.ite
    ((execCmStart_kept h _ _).ran) h).stageWrite _ _ _) (Keeps.ite ((execCmStart_kept h _ _).ran) h))) <| KeepsIn.ite (.some
    ((execCmBend_kept h _ _ _).ran)) <| KeepsIn.ite (.some ((h.put _ _).syncIc)) <| KeepsIn.ite (.some
    ((execIcEoi_kept h _ _ _).ran)) <| .none

theorem Keeps.laneAct {s₀ s : State} (h : Keeps s₀ s) (n : Lane) (m : Master) (rel : ℕ) (v : Word) :
    KeepsIn s₀ (s.laneAct n m rel v) := by
  unfold State.laneAct
  extract_lets +onlyGivenNames x
  refine KeepsIn.ite ?_ (KeepsIn.ite ?_ .none)
  · extract_lets +onlyGivenNames s1 s2
    have k1 : Keeps s₀ s1 := Keeps.ite (execHlAdmit_kept h _ _).ran h
    have k2 : Keeps s₀ s2 := Keeps.ite (execHlDetach_kept k1 _ _).ran k1
    exact .some (Keeps.ite (execHlRetrain_kept k2 _ _).ran k2)
  · exact .some (Keeps.ite (h.put _ _) (Keeps.ite (execHlCmbReset_kept h _ _).ran (h.mailbox (fun _ k => k) _ _ _)))

theorem Keeps.kilnAct {s₀ s : State} (h : Keeps s₀ s) (m : Master) (off : ℕ) (v : Word) : KeepsIn s₀ (s.kilnAct m off v) := by
  unfold State.kilnAct
  exact KeepsIn.ite (.some (h.clearEncStat _ _ _)) <| KeepsIn.ite (KeepsIn.ite (.some (Keeps.ite h (Keeps.ite
    ((execDomCvtP2t_kept h _ _).ran) ((execDomCvtT2p_kept h _ _).ran)))) <| KeepsIn.ite (.some
    (h.setBank _ _ _)) <| KeepsIn.ite (.some (h.setBank _ _ _)) <| .none) <| .none

theorem Keeps.verifyAct {s₀ s : State} (h : Keeps s₀ s) (m : Master) (off : ℕ) (v : Word) :
    KeepsIn s₀ (s.verifyAct m off v) := by
  unfold State.verifyAct
  exact KeepsIn.ite (.some (Keeps.ite ((execVeKloadGo_kept (Keeps.ite ((execVeKloadUnload_kept h _ _).ran)
    (h.put _ _)) _).ran) (Keeps.ite ((execVeKloadUnload_kept h _ _).ran) (h.put _ _)))) <| KeepsIn.ite (KeepsIn.ite (.some
    ((execVeSqTailWrite_kept h _ _ _).ran)) <| KeepsIn.ite (.some
    ((execVeCancelGo_kept h _ _ _).ran)) <| .none) <| KeepsIn.ite (.some (Keeps.ite ((execVtReturn_kept h _ _).ran) h)) <| .none

theorem Keeps.wheelAct {s₀ s : State} (h : Keeps s₀ s) (g : Group) (m : Master) (rel : ℕ) (v : Word) :
    KeepsIn s₀ (s.wheelAct g m rel v) := by
  unfold State.wheelAct
  exact KeepsIn.ite (.some (Keeps.ite (h.holdPort _ _ _ _) (h.portWrite _ _ _ _))) <| KeepsIn.ite (.some
    ((execEwInsert_kept h _ _ _).ran)) <| KeepsIn.ite (.some ((execEwCancelHandle_kept h _ _ _).ran)) <| KeepsIn.ite (.some
    (Keeps.ite ((execEwMaskCancel_kept h _ _).ran) h)) <| KeepsIn.ite (.some (Keeps.ite
    ((execEwRelease_kept h _ _).ran) h)) <| .none

theorem Keeps.writeSrcCfg {s₀ s : State} (h : Keeps s₀ s) (i : ℕ) (v : Word) : Keeps s₀ (s.writeSrcCfg i v) := by
  unfold State.writeSrcCfg
  exact Keeps.ite (h.putFlag _ _) (State.each_keeps (State.when_keeps
    (((((h.put _ _).putFlag _ _).putFlag _ _).put _ _).putFlag _ _) _ _ (fun _ k => k.putFlag _ _)) _ _
    (fun _ _ k => k.put _ _))

theorem Keeps.sourceAct {s₀ s : State} (h : Keeps s₀ s) (m : Master) (off : ℕ) (v : Word) :
    KeepsIn s₀ (s.sourceAct m off v) := by
  unfold State.sourceAct
  exact KeepsIn.ite (.some ((h.writeSrcCfg _ _).syncIc)) <| KeepsIn.ite (.some (Keeps.ite ((execSrcSetp_kept (Keeps.ite
    ((execSrcClrp_kept h _ _).ran) h) _ _).ran) (Keeps.ite ((execSrcClrp_kept h _ _).ran) h))) <| .none

theorem Keeps.superviseAct {s₀ s : State} (h : Keeps s₀ s) (m : Master) (off : ℕ) (v : Word) :
    KeepsIn s₀ (s.superviseAct m off v) := by
  unfold State.superviseAct
  exact KeepsIn.ite (.some (Keeps.ite ((State.wr_keeps h _ _).onSup _) (State.wr_keeps h _ _))) <| KeepsIn.ite (.some
    (Keeps.ite ((execFcuInject_kept h _ _).ran) (h.put _ _))) <| KeepsIn.ite (.some
    ((execFltCfgWrite_kept h _ _ _).ran)) <| KeepsIn.ite (.some (Keeps.ite
    ((execFltPendClear_kept h _ _).ran) h)) <| KeepsIn.ite (.some (Keeps.ite
    ((execSscIntrusiveTest_kept h _).ran) h)) <| KeepsIn.ite (.some (Keeps.ite ((execRetClear_kept h _).ran) h)) <| .none

theorem Keeps.securityAct {s₀ s : State} (h : Keeps s₀ s) (m : Master) (off : ℕ) (v : Word) :
    KeepsIn s₀ (s.securityAct m off v) := by
  unfold State.securityAct
  exact KeepsIn.ite (.some (Keeps.ite ((execCfErase_kept h _).ran) (Keeps.ite
    ((execCfProgram_kept h _).ran) h))) <| KeepsIn.ite (.some ((execSgSvnCommit_kept h _ _).ran)) <| KeepsIn.ite (.some
    ((execSgLcAdvance_kept h _ _).ran)) <| KeepsIn.ite (.some (Keeps.ite ((execSgFuseProgram_kept h _).ran) h)) <| KeepsIn.ite
    (.some (Keeps.ite ((execSgPufEnroll_kept h _).ran) h)) <| KeepsIn.ite (.some (Keeps.ite
    ((execSgVerCheck_kept h _).ran) h)) <| KeepsIn.ite (.some (Keeps.ite ((execSgDbgGo_kept (Keeps.ite
    ((execSgDbgEnd_kept h _).ran) h) _ _).ran) (((Keeps.ite
    ((execSgDbgEnd_kept h _).ran) h).put _ _).putFlag _ _))) <| KeepsIn.ite (.some (State.wr_keeps h _ _)) <| KeepsIn.ite
    (.some (Keeps.ite h (Keeps.ite ((execPmCtrlWarmActivate_kept h _).ran) ((execPmCtrlWarm_kept h _).ran)))) <| KeepsIn.ite
    (.some (Keeps.ite ((Keeps.ite h (h.put _ _)).putFlag _ _) (Keeps.ite ((execSpRawWrite_kept (Keeps.ite h
    (h.put _ _)) _).ran) ((execSpRawRead_kept (Keeps.ite h (h.put _ _)) _).ran)))) <| .none

theorem Keeps.regAct {s₀ s : State} (h : Keeps s₀ s) (m : Master) (off : ℕ) (v : Word) : KeepsIn s₀ (s.regAct m off v) := by
  unfold State.regAct
  exact KeepsIn.ite (h.kilnAct _ _ _) <| KeepsIn.ite (h.wheelAct _ _ _ _) <| KeepsIn.ite (h.laneAct _ _ _ _) <| KeepsIn.ite
    (.some ((execTeDecWrite_kept h _ _).ran)) <| KeepsIn.ite (h.verifyAct _ _ _) <| KeepsIn.ite
    (h.groupAct _ _ _ _) <| KeepsIn.ite (h.sourceAct _ _ _) <| KeepsIn.ite (h.superviseAct _ _ _) <| KeepsIn.ite (.some
    (h.hqReg _ _ _)) <| KeepsIn.ite (.some (h.hiReg _ _)) <| h.securityAct _ _ _

theorem Keeps.rwlViolation {s₀ s : State} (h : Keeps s₀ s) (m : Master) (off : ℕ) : Keeps s₀ (s.rwlViolation m off) :=
  State.wr_keeps (h.bump _) _ _

theorem Keeps.withLocked {s₀ s : State} (h : Keeps s₀ s) (l : List ℕ) : Keeps s₀ ({ s with locked := l } : State) :=
  h.same rfl rfl rfl rfl rfl

theorem Keeps.plainWrite {s₀ s : State} (h : Keeps s₀ s) (m : Master) (off : ℕ) (v : Word) (r : RegRow) :
    Keeps s₀ (s.plainWrite m off v r) := by
  have k := h.withLocked (sortBy (fun a b => decide (a ≤ b)) (off :: s.locked))
  unfold State.plainWrite
  exact Keeps.ite (h.rwlViolation _ _) (Keeps.ite (h.rejectAt _) (Keeps.ite (Keeps.ite (k.stageWrite _ _ _)
    (State.wr_keeps k _ _))
    (Keeps.ite (State.wr_keeps h _ _) ((State.wr_keeps h _ _).stageWrite _ _ _))))

theorem Keeps.writeListed {s₀ s : State} (h : Keeps s₀ s) (m : Master) (off : ℕ) (v : Word) (r : RegRow) :
    Keeps s₀ (s.writeListed m off v r).1 := by
  unfold State.writeListed
  split
  · exact h.putFlag _ _
  · split
    · exact h.store _ _
    · split
      next t e =>
        have q1 := (h.regAct _ _ _) _ e
        exact q1
      · exact h.plainWrite _ _ _ _

theorem Keeps.regWrite {s₀ s : State} (h : Keeps s₀ s) (m : Master) (off : ℕ) (v : Word) : Keeps s₀ (s.regWrite m off v).1 := by
  unfold State.regWrite
  split
  · exact h.recordDenial _ _ _ _ _
  · split
    · exact h
    · split
      · exact h
      · split
        · exact h
        · exact Keeps.iteFst (h.refuseAccess _ _ _) (h.writeListed _ _ _ _)

theorem Keeps.commitPeoCfg {s₀ s : State} (h : Keeps s₀ s) (n : Chan) (v : Word) : Keeps s₀ (s.commitPeoCfg n v) :=
  (State.wr_keeps h _ _).refreshChan _

theorem Keeps.commitLine {s₀ s : State} (h : Keeps s₀ s) (off : ℕ) (v : Word) : KeepsIn s₀ (s.commitLine off v) := by
  unfold State.commitLine
  exact KeepsIn.ite (.some (h.commitTbStep _)) <| KeepsIn.ite (.some (h.commitTbCtrl _)) <| KeepsIn.ite (.some
    (h.commitEncCfg _ _)) <| KeepsIn.ite (.some (h.commitDomCfg _ _)) <| KeepsIn.ite (.some (Keeps.ite
    (h.commitPreset _) h)) <| KeepsIn.ite (.some (h.commitPeoCfg _ _)) <| KeepsIn.ite (.some
    (h.commitHlCfg _ _)) <| KeepsIn.ite (.some (h.commitHlCtrl _ _)) <| KeepsIn.ite (.some (h.commitHlHb _ _)) <| KeepsIn.ite
    (.some (h.commitTeDcfg _ _)) <| KeepsIn.ite (.some (h.commitCqTail _ _)) <| .none

theorem Keeps.commitOther {s₀ s : State} (h : Keeps s₀ s) (off : ℕ) (v : Word) : KeepsIn s₀ (s.commitOther off v) := by
  unfold State.commitOther
  exact KeepsIn.ite (.some (h.commitUnload _)) <| KeepsIn.ite (.some (Keeps.ite (h.commitRelease _) h)) <| KeepsIn.ite
    (KeepsIn.ite (.some (h.commitLsCfg _ _)) <| KeepsIn.ite (.some (h.commitLsCtrl _ _)) <| KeepsIn.ite (.some
    (h.commitLsPwr _ _)) <| KeepsIn.ite (.some (h.commitCmCtrl _ _)) <| .none) <| KeepsIn.ite (.some
    (h.commitFltCfg _ _)) <| KeepsIn.ite (.some (h.commitArCtrl _)) <| KeepsIn.ite (.some (h.commitTwCfg _)) <| .none

theorem Keeps.commitReg {s₀ s : State} (h : Keeps s₀ s) (off : ℕ) (v : Word) : Keeps s₀ (s.commitReg off v) := by
  unfold State.commitReg
  split
  next t e =>
    have q1 := (h.commitLine _ _) _ e
    exact q1
  · split
    next t e =>
      have q1 := (h.commitOther _ _) _ e
      exact q1
    · exact State.wr_keeps h _ _

/-! ### The functions of Machine/Operands -/

theorem Keeps.setRg {s₀ s : State} (h : Keeps s₀ s) (g : Group) (r : GReg) (v : Word) : Keeps s₀ (s.setRg g r v) :=
  h.onCore _ _

/-! ### The functions of Machine/Flags -/

theorem Keeps.setEffect {s₀ s : State} (h : Keeps s₀ s) (g : Group) (r : ShadowReg) (v : Word) :
    Keeps s₀ (s.setEffect g r v) := by
  unfold State.setEffect
  split
  · exact (h.onCore _ _).syncIc
  · exact h.onCore _ _
  · exact h.mpuTake _ _ _

theorem Keeps.shadowWrite {s₀ s : State} (h : Keeps s₀ s) (g : Group) (r : ShadowReg) (v : Word) :
    Keeps s₀ (s.shadowWrite g r v) :=
  h.onCore _ _

theorem Keeps.age {s₀ s : State} (h : Keeps s₀ s) (g : Group) (n : ℕ) : Keeps s₀ (s.age g n) :=
  State.each_keeps (h.onCore _ _) _ _ (fun _ _ k => k.setEffect _ _ _)

/-! ### The functions of Machine/Entry -/

theorem Keeps.tsbFail {s₀ s : State} (h : Keeps s₀ s) (g : Group) (overflow : Bool) : Keeps s₀ (s.tsbFail g overflow) :=
  ((h.raise _ _).stopNow _).onCore _ _

theorem Keeps.enter {s₀ s : State} (h : Keeps s₀ s) (g : Group) (e : Entering) : Keeps s₀ (s.enter g e) :=
  Keeps.ite (h.tsbFail _ _) (Keeps.ite ((h.store _ _).tsbFail _ _) (((h.store _ _).onCore _ _).syncIc))

theorem Keeps.enterExc {s₀ s : State} (h : Keeps s₀ s) (g : Group) (c : Exc) (faddr pc : Word) (ds : Bool) :
    Keeps s₀ (s.enterExc g c faddr pc ds) :=
  h.enter _ _

theorem Keeps.faultAt {s₀ s : State} (h : Keeps s₀ s) (g : Group) (c : Exc) (faddr : Word) :
    Keeps s₀ (s.faultAt g c faddr) := by
  unfold State.faultAt
  split
  · exact h.enterExc _ _ _ _ _
  · exact ((State.each_keeps h _ _ (fun _ _ k => k.setEffect _ _ _)).onCore _ _).enterExc _ _ _ _ _

theorem Keeps.completeExc {s₀ s : State} (h : Keeps s₀ s) (g : Group) (c : Exc) (faddr : Word) :
    Keeps s₀ (s.completeExc g c faddr) :=
  h.enterExc _ _ _ _ _

theorem Keeps.enterAtBoundary {s₀ s : State} (h : Keeps s₀ s) (g : Group) (c : Exc) (faddr : Word) :
    Keeps s₀ (s.enterAtBoundary g c faddr) :=
  (h.putFlag _ _).completeExc _ _ _

theorem Keeps.takeDue {s₀ s : State} (h : Keeps s₀ s) (g : Group) : KeepsIn s₀ (s.takeDue g) := by
  unfold State.takeDue
  split
  · exact .none
  · exact KeepsIn.ite .none (.some ((h.onCore _ _).enterAtBoundary _ _ _))

theorem Keeps.enterInt {s₀ s : State} (h : Keeps s₀ s) (g : Group) (i : ℕ) : Keeps s₀ (s.enterInt g i) :=
  Keeps.ite (h.enter _ _) (((((h.unpresent _).deliver _ _).enter _ _).bump _).onCore _ _)

theorem Keeps.tailChain {s₀ s : State} (h : Keeps s₀ s) (g : Group) (i : ℕ) : Keeps s₀ (s.tailChain g i) :=
  ((((h.unpresent _).deliver _ _).bump _).onCore _ _).syncIc

theorem Keeps.rfe {s₀ s : State} (h : Keeps s₀ s) (g : Group) (pl : Fin 3) : Keeps s₀ (s.rfe g pl) := by
  unfold State.rfe
  extract_lets +onlyGivenNames _ _ slot
  refine Keeps.ite (h.tsbFail _ _) ?_
  cases s.chained g slot with
  | some i => exact h.tailChain _ _
  | none =>
    rcases e : s.fetch slot 0xA0 with ⟨s1, b, ok⟩
    have k1 : Keeps s₀ s1 := (h.fetch _ _).ofEq e
    refine Keeps.ite (k1.tsbFail _ _) ?_
    extract_lets +onlyGivenNames k now s2 s3
    have k3 : Keeps s₀ s3 := (k1.onCore _ _).onCore _ _
    exact (State.each_keeps k3 _ _ (fun _ _ k => k.setEffect _ _ _)).syncIc

/-! ### The functions of Machine/CoreAccess -/

theorem Keeps.countDeny {s₀ s : State} (h : Keeps s₀ s) (g : Group) (c : Exc) : Keeps s₀ (s.countDeny g c) :=
  Keeps.ite (h.bump _) h

theorem Keeps.readRegs {s₀ s : State} (h : Keeps s₀ s) (g : Group) (off n : ℕ) : Keeps s₀ (s.readRegs g off n).1 :=
  Keeps.iteFst (h.regRead _ _) ((h.regRead _ _).regRead _ _)

theorem Keeps.readHalf {s₀ s : State} (h : Keeps s₀ s) (g : Group) (x : Half) : Keeps s₀ (s.readHalf g x).1 := by
  unfold State.readHalf
  split
  · exact h
  · exact h
  · exact h.readRegs _ _ _
  split
  · exact h
  · exact h.recordDenial _ _ _ _ _
  split
  next s1 b ok e =>
    have k1 : Keeps s₀ s1 := (h.fetch _ _).ofEq e
    split
    next d s2 e2 =>
      have k2 : Keeps s₀ s2 := k1.draw.ofEqSnd e2
      extract_lets +onlyGivenNames s3
      have k3 : Keeps s₀ s3 := Keeps.ite (k2.raiseTo _ _) k1
      exact Keeps.iteFst k3 (k3.raiseUnc _ _)

theorem Keeps.readCore {s₀ s : State} (h : Keeps s₀ s) (g : Group) (a n : ℕ) : Keeps s₀ (s.readCore g a n).1 := by
  unfold State.readCore
  extract_lets +onlyGivenNames _
  split
  · exact (h.readHalf _ _).readHalf _ _
  · exact h.readHalf _ _

theorem Keeps.writeReg {s₀ s : State} (h : Keeps s₀ s) (g : Group) (off : ℕ) (v : Word) : Keeps s₀ (s.writeReg g off v).1 :=
  Keeps.iteFst (h.mpuStore _ _ _) (h.regWrite _ _ _)

theorem Keeps.writeRegs {s₀ s : State} (h : Keeps s₀ s) (g : Group) (off : ℕ) (b : Bytes) : Keeps s₀ (s.writeRegs g off b).1 :=
  Keeps.iteFst h (Keeps.iteFst (h.writeReg _ _ _) ((h.writeReg _ _ _).writeReg _ _ _))

theorem Keeps.writeHalf {s₀ s : State} (h : Keeps s₀ s) (g : Group) (x : Half) (b : Bytes) :
    Keeps s₀ (s.writeHalf g x b).1 := by
  unfold State.writeHalf
  split
  · exact h
  · exact h
  · exact h.writeRegs _ _ _
  split
  · exact h
  · exact h.recordDenial _ _ _ _ _
  split
  next s1 ok e =>
    have k1 : Keeps s₀ s1 := (h.store _ _).ofEq e
    exact Keeps.ite k1 (k1.raiseUnc _ _)

theorem Keeps.writeCore {s₀ s : State} (h : Keeps s₀ s) (g : Group) (a : ℕ) (b : Bytes) : Keeps s₀ (s.writeCore g a b).1 := by
  unfold State.writeCore
  split
  next s1 ok r e =>
    have k1 : Keeps s₀ s1 := by
      split at e
      · split at e
        next t p e1 =>
          split at e
          next u q e2 =>
            cases e
            exact (((h.writeHalf _ _ _).ofEq e1).writeHalf _ _ _).ofEq e2
      · split at e
        next t p e1 =>
          cases e
          exact (h.writeHalf _ _ _).ofEq e1
    exact Keeps.ite k1 (k1.onCore _ _)

theorem Keeps.atomic {s₀ s : State} (h : Keeps s₀ s) (g : Group) (a : ℕ) (op : AtomOp) (b d : Word) :
    Keeps s₀ (s.atomic g a op b d).1 := by
  unfold State.atomic
  split
  · exact h
  split
  · exact h.recordDenial _ _ _ _ _
  · exact h.recordDenial _ _ _ _ _
  split
  next s1 w ok e =>
    have k1 : Keeps s₀ s1 := (h.fetch _ _).ofEq e
    exact Keeps.iteFst k1 (k1.store _ _)

theorem Keeps.replay {s₀ s : State} (h : Keeps s₀ s) (g : Group) (atom : Option AtomOp) (a n : ℕ) :
    Keeps s₀ (s.replay g atom a n).1 := by
  unfold State.replay
  extract_lets +onlyGivenNames _
  split
  · exact h
  · extract_lets +onlyGivenNames _
    split
    · exact h.onCore _ _
    · exact Keeps.iteFst (Keeps.iteFst ((h.onCore _ _).bump _) h) ((h.onCore _ _).bump _)

theorem Keeps.keepAccess {s₀ s : State} (h : Keeps s₀ s) (g : Group) (k : KeptAccess) : Keeps s₀ (s.keepAccess g k) := by
  unfold State.keepAccess
  extract_lets +onlyGivenNames c a keep
  split
  · split
    · exact h
    · exact (h.atomic _ _ _ _ _).onCore _ _
  · refine Keeps.ite h ?_
    split
    · exact (h.readHalf _ _).onCore _ _
    · exact h

/-! ### The functions of Machine/Fetch -/

theorem Keeps.askNext {s₀ s : State} (h : Keeps s₀ s) (g : Group) (line : ℕ) : Keeps s₀ (s.askNext g line) :=
  Keeps.ite (h.onCore _ _) h

theorem Keeps.fillLine {s₀ s : State} (h : Keeps s₀ s) (g : Group) (line : ℕ) : Keeps s₀ (s.fillLine g line).1 := by
  unfold State.fillLine
  extract_lets +onlyGivenNames s1 put
  have k1 : Keeps s₀ s1 := h.bump _
  have kp {t : State} (k : Keeps s₀ t) (f : ℕ) (b : Bytes) : Keeps s₀ (put t f b) := (k.onCore _ _).askNext _ _
  split
  · exact kp k1 _ _
  · split
    · split
      next s2 b ok e =>
        have k2 : Keeps s₀ s2 := (k1.fetch _ _).ofEq e
        exact Keeps.iteFst (kp k2 _ _) (k2.raiseUnc _ _)
    · exact k1.recordDenial _ _ _ _ _
    · exact k1
  · exact k1

theorem Keeps.takeGroup {s₀ s : State} (h : Keeps s₀ s) (g : Group) (f : ℕ) : Keeps s₀ (s.takeGroup g f).1 := by
  unfold State.takeGroup
  split
  · exact h
  · exact Keeps.iteFst h (h.fetch _ _)

theorem Keeps.fetchIsp {s₀ s : State} (h : Keeps s₀ s) (g : Group) (f : ℕ) : Keeps s₀ (s.fetchIsp g f).1 :=
  ((h.takeGroup _ _).takeGroup _ _).onCore _ _

theorem Keeps.captureLoop {s₀ s : State} (h : Keeps s₀ s) (g : Group) : Keeps s₀ (s.captureLoop g) :=
  Keeps.ite (h.onCore _ _) h

theorem Keeps.fetchFault {s₀ s : State} (h : Keeps s₀ s) (g : Group) : Keeps s₀ (s.fetchFault g).1 := by
  unfold State.fetchFault
  extract_lets +onlyGivenNames _ _ _
  split
  · exact h.countDeny g .fetchNx
  refine Keeps.iteFst h (Keeps.iteFst h ?_)
  split
  · split
    next s1 ok e => exact ((h.fetchIsp _ _).ofEq e).captureLoop _
  split
  · exact h.captureLoop _
  split
  next s1 e => exact (h.fillLine _ _).ofEq e
  next s1 x _ e => exact (h.fillLine _ _).ofEq e
  next s1 e => exact ((h.fillLine _ _).ofEq e).captureLoop _

/-! ### The functions of Machine/CoreRun -/

theorem Keeps.wander {s₀ s : State} (h : Keeps s₀ s) (g : Group) (ctl : Word) : Keeps s₀ (s.wander g ctl) :=
  Keeps.ite h (h.draw.onCore _ _)

theorem Keeps.predict {s₀ s : State} (h : Keeps s₀ s) (g : Group) (pc : Word) (b : Branch) : Keeps s₀ (s.predict g pc b) :=
  (Keeps.ite ((Keeps.ite ((h.bump _).wander _ _) h).bump _) (Keeps.ite ((h.bump _).wander _ _) h)).onCore _ _

theorem Keeps.endStep {s₀ s : State} (h : Keeps s₀ s) (g : Group) : Keeps s₀ (s.endStep g) :=
  Keeps.ite ((((h.onCore _ _).putFlag _ _).put _ _).syncIc) h

theorem Keeps.commit {s₀ s : State} (h : Keeps s₀ s) (s0 : State) (g : Group) (flow : Flow) (after : Option (Exc × Word)) :
    Keeps s₀ (s.commit s0 g flow after) := by
  unfold State.commit
  refine Keeps.ite h ?_
  extract_lets +onlyGivenNames c0 before s1 s2 s3
  have k1 : Keeps s₀ s1 := (h.bump _).bump _
  have k2 : Keeps s₀ s2 := by
    unfold s2
    split
    · exact k1.predict _ _ _
    · exact k1
  have k3 : Keeps s₀ s3 := (k2.age _ _).onCore _ _
  split
  next t e => exact k3.takeDue g t e
  · exact k3.completeExc _ _ _
  · exact k3

theorem Keeps.refuseIns {s₀ s : State} (h : Keeps s₀ s) (g : Group) (c : Exc) (faddr : Word) :
    Keeps s₀ (s.refuseIns g c faddr) :=
  (((h.bump _).countDeny _ _).faultAt _ _ _).endStep _

/-- The state an instruction's effect leaves, where it is a fault or commits, keeps what `Keeps` speaks of. -/
def KeepsEffect (a : State) : Effect → Prop
  | .fault _ _ t => Keeps a t
  | .done t _ _ => Keeps a t
  | .returns => True
  | .waits => True

theorem KeepsEffect.ite {a : State} {e f : Effect} {c : Prop} [Decidable c] (h : KeepsEffect a e) (k : KeepsEffect a f) :
    KeepsEffect a (if c then e else f) := by
  split
  · exact h
  · exact k

theorem Keeps.run {s₀ s : State} (h : Keeps s₀ s) (g : Group) (i : Ins) {effect : State → Effect}
    (hf : ∀ t, Keeps s₀ t → KeepsEffect s₀ (effect t)) : Keeps s₀ (s.run g i effect) := by
  unfold State.run
  refine Keeps.ite h ?_
  split
  next t e => exact (h.takeDue g t e).endStep _
  refine Keeps.ite h ?_
  split
  next s1 f e =>
    have k1 : Keeps s₀ s1 := (h.fetchFault g).ofEq e
    extract_lets +onlyGivenNames c
    split
    · exact ((k1.bump _).faultAt _ _ _).endStep _
    refine Keeps.ite (k1.refuseIns _ _ _) (Keeps.ite (((k1.commit _ _ _ _).votedSlot k1 _ _).endStep _)
      (Keeps.ite (k1.refuseIns _ _ _) (Keeps.ite (k1.refuseIns _ _ _) ?_)))
    have ke := hf s1 k1
    cases he : effect s1 with
    | fault x a t => rw [he] at ke; exact Keeps.refuseIns ke _ _ _
    | done t flow after => rw [he] at ke; exact ((Keeps.commit ke _ _ _ _).votedSlot k1 _ _).endStep _
    | returns => exact (((((k1.bump _).bump _).age _ _).rfe _ _).votedSlot k1 _ _).endStep _
    | waits => exact h

/-! ### The functions of Machine/Alu -/

theorem KeepsEffect.done {a t : State} (h : Keeps a t) (flow : Flow) (after : Option (Exc × Word)) : KeepsEffect a
  (.done t flow after) :=
  h

theorem KeepsEffect.acknowledged {a : State} {e : Effect} (h : KeepsEffect a e) (s : State) (g : Group) :
    KeepsEffect a (s.acknowledged g e) :=
  KeepsEffect.ite h trivial

theorem Keeps.computeReg {s₀ s : State} (h : Keeps s₀ s) (g : Group) (i : Ins) (rd : GReg) (v : Core → Word) :
    Keeps s₀ (s.computeReg g i rd v) :=
  h.run _ _ (fun _ k => k.setRg _ _ _)

/-! ### The functions of Machine/MulDiv -/

theorem Keeps.divide {s₀ s : State} (h : Keeps s₀ s) (g : Group) (i : Ins) (rd ra rb : GReg) (f : Word → Word → Word) :
    Keeps s₀ (s.divide g i rd ra rb f) :=
  h.run _ _ (fun _ k => KeepsEffect.ite k (k.setRg _ _ _))

/-! ### The functions of Machine/LoadStore -/

theorem Keeps.load {s₀ s : State} (h :
    Keeps s₀ s) (g : Group) (i : Ins) (ra : GReg) (imm : BitVec 16) (n : ℕ) (put : Core → ℕ → Core) :
    Keeps s₀ (s.load g i ra imm n put) := by
  refine h.run _ _ (fun t k => ?_)
  extract_lets +onlyGivenNames a finish bus
  have kf {u : State} (k : Keeps s₀ u) (v : ℕ) (e : Option (Exc × Word)) : KeepsEffect s₀ (finish u v e) := by
    unfold finish
    split
    · exact k
    · exact k.onCore _ _
  have kb {u : State} (k : Keeps s₀ u) : KeepsEffect s₀ (bus u) := by
    refine KeepsEffect.ite trivial ?_
    split
    next u1 v e e1 => exact kf ((k.readCore _ _ _).ofEq e1) _ _
  split
  · exact k
  · exact kb k
  · refine KeepsEffect.acknowledged ?_ _ _
    split
    · trivial
    next u1 v e e1 => exact kf ((k.replay _ _ _ _).ofEq e1) _ _
    next u1 e1 => exact kb ((k.replay _ _ _ _).ofEq e1)

theorem Keeps.loadReg {s₀ s : State} (h : Keeps s₀ s) (g : Group) (i : Ins) (rd ra : GReg) (imm : BitVec 16) (n : ℕ)
  (signed : Bool) :
    Keeps s₀ (s.loadReg g i rd ra imm n signed) :=
  h.load _ _ _ _ _ _

theorem Keeps.storeReg {s₀ s : State} (h :
    Keeps s₀ s) (g : Group) (i : Ins) (ra : GReg) (imm : BitVec 16) (bytes : Core → Bytes) :
    Keeps s₀ (s.storeReg g i ra imm bytes) := by
  refine h.run _ _ (fun t k => ?_)
  extract_lets +onlyGivenNames a b
  split
  · exact k
  · split
    next u r e1 => exact (k.writeCore _ _ _).ofEq e1

theorem Keeps.atomicReg {s₀ s : State} (h : Keeps s₀ s) (g : Group) (i : Ins) (rd ra rb : GReg) (op : AtomOp) :
    Keeps s₀ (s.atomicReg g i rd ra rb op) := by
  refine h.run _ _ (fun t k => ?_)
  extract_lets +onlyGivenNames c a finish
  have kf {u : State} (k : Keeps s₀ u) (v : ℕ) (e : Option (Exc × Word)) : KeepsEffect s₀ (finish u v e) := by
    unfold finish
    split
    · exact k
    · exact k.setRg _ _ _
  split
  · exact k
  · refine KeepsEffect.acknowledged ?_ _ _
    split
    · trivial
    next u1 v e e1 => exact kf ((k.replay _ _ _ _).ofEq e1) _ _
    next u1 e1 =>
      have k1 : Keeps s₀ u1 := (k.replay _ _ _ _).ofEq e1
      split
      next u2 x e2 => exact kf ((k1.atomic _ _ _ _ _).ofEq e2) _ _

/-! ### The functions of Machine/Branch -/

theorem Keeps.condBranch {s₀ s : State} (h :
    Keeps s₀ s) (g : Group) (w : Word) (an : Bool) (off : BitVec 15) (test : Core → Bool) :
    Keeps s₀ (s.condBranch g w an off test) :=
  h.run _ _ (fun _ k => k)

/-! ### The functions of Machine/System -/

theorem Keeps.latchSpecial {s₀ s : State} (h : Keeps s₀ s) (g : Group) (sr : BitVec 5) : Keeps s₀ (s.latchSpecial g sr) :=
  Keeps.ite (h.onCore _ _) (Keeps.ite (h.onCore _ _) h)

theorem Keeps.writeSpecial {s₀ s : State} (h : Keeps s₀ s) (g : Group) (sr : BitVec 5) (v : Word) :
    Keeps s₀ (s.writeSpecial g sr v).1 := by
  have set (f : Core → Core) : Keeps s₀ (s.onCore g f) := h.onCore _ _
  unfold State.writeSpecial
  split
  case h_1 => exact h.shadowWrite _ _ _
  case h_9 => exact h.shadowWrite _ _ _
  case h_11 => exact h
  all_goals exact set _

/-! ### The functions of Machine/CoreEvents -/

theorem execStoreErrorReturn_kept {s₀ s : State} (h : Keeps s₀ s) (g : Group) : Kept s₀ (execStoreErrorReturn g s) := by
  unfold execStoreErrorReturn
  refine Kept.next ?_
  split
  · exact h
  · exact Keeps.ite (KeepsIn.getD ((h.onCore _ _).takeDue _) (h.onCore _ _)) (h.onCore _ _)

theorem execExceptionEntry_kept {s₀ s : State} (h : Keeps s₀ s) (g : Group) (c : Exc) (faddr : Word) :
    Kept s₀ (execExceptionEntry g c faddr s) := by
  unfold execExceptionEntry
  exact Kept.next (Keeps.ite (Keeps.ite h (KeepsIn.getD (h.takeDue _) ((h.countDeny _ _).faultAt _ _ _))) (Keeps.ite
    (KeepsIn.getD (h.takeDue _) (h.enterAtBoundary _ _ _)) h))

theorem execInterruptEntry_kept {s₀ s : State} (h : Keeps s₀ s) (g : Group) (kept : Option KeptAccess) :
    Kept s₀ (execInterruptEntry g kept s) := by
  unfold execInterruptEntry
  refine Kept.next ?_
  split
  · split
    next t e =>
      have q1 := (h.takeDue _) _ e
      exact q1
    · extract_lets +onlyGivenNames s1
      have k1 : Keeps s₀ s1 := by
        unfold s1
        split
        · exact Keeps.ite (h.keepAccess _ _) h
        · exact h
      exact k1.enterInt _ _
  · exact h

theorem execLateArrival_kept {s₀ s : State} (h : Keeps s₀ s) (g : Group) : Kept s₀ (execLateArrival g s) := by
  unfold execLateArrival
  refine Kept.next ?_
  split
  · exact h
  · exact Keeps.ite ((((((h.undeliver _ _).unpresent _).deliver _ _).bump _).onCore _ _).syncIc) h

/-! ### The functions of Machine/Debug -/

theorem Keeps.dbgRefuse {s₀ s : State} (h : Keeps s₀ s) : Keeps s₀ s.dbgRefuse :=
  h.putFlag _ _

theorem Keeps.dbgWrite {s₀ s : State} (h :
    Keeps s₀ s) {f : State → State} (hf : ∀ t, Keeps s₀ t → Keeps s₀ (f t)) (m : Master) (level : ℕ) :
    Keeps s₀ (s.dbgWrite m level f) :=
  Keeps.ite h (Keeps.ite (h.recordDenial _ _ _ _ _) (Keeps.ite h.dbgRefuse (hf _ h)))

theorem execDbgHalt_kept {s₀ s : State} (h : Keeps s₀ s) (m : Master) : Kept s₀ (execDbgHalt m s) :=
  Kept.next (h.dbgWrite (fun _ k => Keeps.ite k.dbgRefuse (Keeps.ite (k.putFlag _ _) k)) _ _)

theorem Keeps.dbgGo {s₀ s : State} (h : Keeps s₀ s) (g : Group) (step : Bool) : Keeps s₀ (s.dbgGo g step) :=
  Keeps.ite ((((h.putFlag _ _).put _ _).onCore _ _).syncIc) h

theorem execDbgResume_kept {s₀ s : State} (h : Keeps s₀ s) (m : Master) : Kept s₀ (execDbgResume m s) :=
  Kept.next (h.dbgWrite (fun _ k => k.dbgGo _ _) _ _)

theorem execDbgStep_kept {s₀ s : State} (h : Keeps s₀ s) (m : Master) : Kept s₀ (execDbgStep m s) :=
  Kept.next (h.dbgWrite (fun _ k => k.dbgGo _ _) _ _)

theorem Keeps.setDbgReg {s₀ s : State} (h : Keeps s₀ s) (g : Group) (r : ℕ) (v : Word) : Keeps s₀ (s.setDbgReg g r v) := by
  unfold State.setDbgReg
  exact Keeps.ite (h.setRg _ _ _) (Keeps.ite (h.setEffect _ _ _) (Keeps.ite (h.setEffect _ _ _) (Keeps.ite
    (h.writeSpecial _ _ _) (Keeps.ite (h.onCore _ _) h))))

theorem Keeps.compareRead {s₀ s : State} (h : Keeps s₀ s) (g : Group) (r : ℕ) (own db dc : Word) :
    Keeps s₀ (s.compareRead g r own db dc).1 := by
  unfold State.compareRead
  extract_lets +onlyGivenNames _ _ _ _ _ _
  split
  · exact h
  · split
    · exact h.eject _ _ _ _ _
    · exact h.mismatchStop _ _

theorem execDbgRegAccess_kept {s₀ s : State} (h : Keeps s₀ s) (m : Master) (v db dc : Word) :
    Kept s₀ (execDbgRegAccess m v db dc s) := by
  unfold execDbgRegAccess
  exact Kept.next (h.dbgWrite (fun _ k => Keeps.ite k.dbgRefuse (Keeps.ite ((State.wr_keeps k _ _).setDbgReg _ _ _)
    (State.wr_keeps ((State.wr_keeps k _ _).compareRead _ _ _ _ _) _ _))) _ _)

theorem Keeps.dbgRegs {s₀ s : State} (h : Keeps s₀ s) (off n : ℕ) (w : Bool) (d : ℕ) : Keeps s₀ (s.dbgRegs off n w d).1 := by
  unfold State.dbgRegs
  exact Keeps.iteFst (Keeps.iteFst h (Keeps.iteFst h (Keeps.iteFst (h.regWrite _ _ _) ((h.regWrite _ _ _).regWrite _ _ _))))
    (Keeps.iteFst (h.regRead _ _) ((h.regRead _ _).regRead _ _))

theorem Keeps.dbgAccess {s₀ s : State} (h : Keeps s₀ s) (a n : ℕ) (w : Bool) (d : ℕ) : Keeps s₀ (s.dbgAccess a n w d).1 :=
  Keeps.iteFst h (Keeps.iteFst (h.dbgRegs _ _ _ _) (Keeps.iteFst (h.busWrite _ _ _) (h.busRead _ _ _)))

theorem execDbgMemGo_kept {s₀ s : State} (h : Keeps s₀ s) (m : Master) (v : Word) : Kept s₀ (execDbgMemGo m v s) := by
  refine Kept.next (h.dbgWrite (fun t k => ?_) _ _)
  extract_lets +onlyGivenNames s1
  have k1 : Keeps s₀ s1 := State.wr_keeps k _ _
  refine Keeps.ite k1 ?_
  extract_lets +onlyGivenNames n
  split
  next s2 d ok e =>
    have k2 : Keeps s₀ s2 := (k1.dbgAccess _ _ _ _).ofEq e
    exact Keeps.ite (k2.putFlag _ _) (Keeps.ite k2 (k2.wr64 _ _))

theorem Keeps.dbgCtrl {s₀ s : State} (h : Keeps s₀ s) (m : Master) (v : Word) : Keeps s₀ (s.dbgCtrl m v) := by
  unfold State.dbgCtrl
  extract_lets +onlyGivenNames s1 s2
  have k1 : Keeps s₀ s1 := Keeps.ite ((execDbgHalt_kept h _).ran) h
  have k2 : Keeps s₀ s2 := Keeps.ite ((execDbgResume_kept k1 _).ran) k1
  exact Keeps.ite ((execDbgStep_kept k2 _).ran) k2

theorem Keeps.dbgRegister {s₀ s : State} (h : Keeps s₀ s) (m : Master) (off : ℕ) (v : Word) :
    Keeps s₀ (s.dbgRegister m off v) := by
  unfold State.dbgRegister
  split
  · exact h.dbgCtrl _ _
  · split
    · exact (execDbgRegAccess_kept h _ _ _ _).ran
    · split
      · exact (execDbgMemGo_kept h _ _).ran
      · split
        · exact h
        · exact h.dbgWrite (fun _ k => k.plainWrite _ _ _ _) _ _

theorem Keeps.mpuPort {s₀ s : State} (h : Keeps s₀ s) (g : Group) (off : ℕ) (v : Word) : Keeps s₀ (s.mpuPort g off v) := by
  unfold State.mpuPort
  split
  next t _ e => exact ((h.writeReg _ _ _).ofEq e).storeError _ _
  next t e => exact (h.writeReg _ _ _).ofEq e
  next t a e =>
    have k : Keeps s₀ t := (h.writeReg _ _ _).ofEq e
    exact Keeps.ite (KeepsIn.getD ((k.onCore _ _).takeDue _) (k.onCore _ _)) (k.onCore _ _)

theorem execRegisterWrite_kept {s₀ s : State} (h : Keeps s₀ s) (off : ℕ) (m : Master) (v : Word) :
    Kept s₀ (execRegisterWrite off m v s) := by
  unfold execRegisterWrite
  refine Kept.next ?_
  split
  · exact h
  · split
    · exact h.dbgRegister _ _ _
    · split
      · exact h.mpuPort _ _ _
      · split
        next t e =>
          have q1 := (h.regWrite _ _ _).ofEq e
          exact q1
        next t e =>
          have q1 := (h.regWrite _ _ _).ofEq e
          exact q1.storeError _ _

/-! ### The functions of Machine/HostParse -/

theorem Keeps.reply {s₀ s : State} (h : Keeps s₀ s) (q : ℕ) (p : Bytes) (chain : Bool) (status cfn : ℕ) (result : Bytes) :
    Keeps s₀ (s.reply q p chain status cfn result) :=
  h.pushCpl _ _

theorem Keeps.replyNow {s₀ s : State} (h : Keeps s₀ s) (q : ℕ) (p : Bytes) (status : ℕ) (result : Bytes) :
    Keeps s₀ (s.replyNow q p status result) :=
  h.reply _ _ _ _ _ _

theorem Keeps.replyChain {s₀ s : State} (h : Keeps s₀ s) (q : ℕ) (cmds : List Bytes) (st : ℕ → ℕ) :
    Keeps s₀ (s.replyChain q cmds st) :=
  State.each_keeps h _ _ (fun _ _ k => k.reply _ _ _ _ _ _)

theorem Keeps.refuseChain {s₀ s : State} (h : Keeps s₀ s) (q : ℕ) (cmds : List Bytes) (at_ status : ℕ) :
    Keeps s₀ (s.refuseChain q cmds at_ status) :=
  h.replyChain _ _ _

theorem Keeps.hostWrite {s₀ s : State} (h : Keeps s₀ s) (q a : ℕ) (b : Bytes) : Keeps s₀ (s.hostWrite q a b).1 :=
  Keeps.iteFst ((h.onHost _).wakeLink) ((h.raise _ _).setIsr _)

/-! ### The functions of Machine/HostStage -/

theorem Keeps.authFailed {s₀ s : State} (h : Keeps s₀ s) (status : ℕ) : Keeps s₀ (s.authFailed status) :=
  (((h.bump _).raise _ _).setIsr _).secEvent _ _

theorem Keeps.checkBlob {s₀ s : State} (h : Keeps s₀ s) (cmds : List Bytes) : Keeps s₀ (s.checkBlob cmds).1 :=
  Keeps.iteFst ((h.busRead _ _ _).wr64 _ _) ((h.busRead _ _ _).authFailed _)

theorem Keeps.addChain {s₀ s : State} (h : Keeps s₀ s) (c : Chain) : Keeps s₀ (s.addChain c) :=
  h.same rfl rfl rfl rfl rfl

theorem Keeps.sendTwCmd {s₀ s : State} (h : Keeps s₀ s) (efn : ℕ) (cmds : List Bytes) (next : Bool) :
    Keeps s₀ (s.sendTwCmd efn cmds next) :=
  h.sendPeer _ _

theorem Keeps.place {s₀ s : State} (h : Keeps s₀ s) (c : Staging) : Keeps s₀ (s.place c) := by
  unfold State.place
  extract_lets +onlyGivenNames _ _ _ _ _ s0
  have k1 : Keeps s₀ s0 := Keeps.ite ((h.bump _).raiseSrc _) h
  exact Keeps.ite (h.refuseChain _ _ _ _) (Keeps.ite (k1.replyChain _ _ _) (Keeps.ite (h.refuseChain _ _ _ _) (Keeps.ite
    (k1.refuseChain _ _ _ _) (Keeps.ite ((k1.addChain _).sendTwCmd _ _ _) (k1.addChain _)))))

theorem Keeps.popStaging {s₀ s : State} (h : Keeps s₀ s) : Keeps s₀ s.popStaging :=
  h.onHost _

theorem Keeps.putStaging {s₀ s : State} (h : Keeps s₀ s) (c : Staging) : Keeps s₀ (s.putStaging c) :=
  h.onHost _

theorem Keeps.stageHead {s₀ s : State} (h : Keeps s₀ s) (c : Staging) : Keeps s₀ (s.stageHead c) := by
  unfold State.stageHead
  split
  · exact h
  · split
    · exact h.popStaging.replyChain _ _ _
    · split
      · split
        · exact h.popStaging.refuseChain _ _ _ _
        · exact Keeps.ite (h.popStaging.place _) ((h.putStaging _).onHost _)
      · exact Keeps.ite (h.popStaging.place _) h

theorem Keeps.drainStaging {s₀ s : State} (h : Keeps s₀ s) (fuel : ℕ) : Keeps s₀ (State.drainStaging fuel s) := by
  induction fuel generalizing s with
  | zero => exact h
  | succ fuel ih =>
    unfold State.drainStaging
    split
    next c r e1 e2 => cases e1; exact Keeps.ite (ih (h.stageHead _)) (h.stageHead _)
    · exact h

theorem Keeps.stageOn {s₀ s : State} (h : Keeps s₀ s) : Keeps s₀ s.stageOn :=
  (h.drainStaging _).syncEngine

theorem Keeps.stageChain {s₀ s : State} (h : Keeps s₀ s) (q : ℕ) (cmds : List Bytes) : Keeps s₀ (s.stageChain q cmds) :=
  Keeps.ite (h.replyChain _ _ _) (Keeps.ite (h.replyChain _ _ _) (Keeps.ite (h.replyChain _ _ _) ((h.onHost _).stageOn)))

/-! ### The functions of Machine/HostImm -/

theorem Keeps.readLogNow {s₀ s : State} (h : Keeps s₀ s) (q : ℕ) (p : Bytes) : Keeps s₀ (s.readLogNow q p) := by
  unfold State.readLogNow
  extract_lets +onlyGivenNames _ _
  split
  · exact h.replyNow _ _ _ _
  · split
    next t e =>
      have q1 := (h.hostWrite _ _ _).ofEq e
      exact q1.replyNow _ _ _ _
    next t e =>
      have q1 := (h.hostWrite _ _ _).ofEq e
      exact q1.replyNow _ _ _ _

theorem Keeps.archReadNow {s₀ s : State} (h : Keeps s₀ s) (q : ℕ) (p : Bytes) (bad : Option (ℕ × ℕ)) :
    Keeps s₀ (s.archReadNow q p bad) := by
  unfold State.archReadNow
  split
  · exact h.replyNow _ _ _ _
  extract_lets +onlyGivenNames _ _ _ hit b s1 _ _
  have k1 : Keeps s₀ s1 := by
    unfold s1
    clear_value hit
    cases hit with
    | none => exact h
    | some x => exact (h.bump _).raise _ _
  split
  · exact k1.replyNow _ _ _ _
  split
  next t e => exact ((k1.hostWrite _ _ _).ofEq e).replyNow _ _ _ _
  next t e => exact ((k1.hostWrite _ _ _).ofEq e).replyNow _ _ _ _

theorem Keeps.archInfoNow {s₀ s : State} (h : Keeps s₀ s) (q : ℕ) (p : Bytes) : Keeps s₀ (s.archInfoNow q p) := by
  unfold State.archInfoNow
  split
  · exact h.replyNow _ _ _ _
  · exact h.replyNow _ _ _ _

theorem Keeps.attestNow {s₀ s : State} (h : Keeps s₀ s) (q : ℕ) (p : Bytes) : Keeps s₀ (s.attestNow q p) :=
  Keeps.ite (h.reply _ _ _ _ _ _) (Keeps.ite (h.replyNow _ _ _ _) (Keeps.ite (h.replyNow _ _ _ _) ((h.onHost _).syncEngine)))

theorem Keeps.endAttest {s₀ s : State} (h : Keeps s₀ s) (done : Bool) : Keeps s₀ (s.endAttest done) := by
  unfold State.endAttest
  split
  · exact h
  extract_lets +onlyGivenNames s1
  have k1 : Keeps s₀ s1 := h.onHost _
  split
  · exact k1.replyNow _ _ _ _
  split
  · exact k1.replyNow _ _ _ _
  split
  next k s2 e =>
    have k2 : Keeps s₀ s2 := k1.draw.ofEqSnd e
    extract_lets +onlyGivenNames b
    split
    next t e => exact ((k2.hostWrite _ _ _).ofEq e).replyNow _ _ _ _
    next t e => exact ((k2.hostWrite _ _ _).ofEq e).replyNow _ _ _ _

theorem Keeps.kernelWrites {s₀ s : State} (h : Keeps s₀ s) (p : Bytes) : Keeps s₀ (s.kernelWrites p) :=
  Keeps.ite ((execVeKloadUnload_kept h _ _).ran) ((execVeKloadGo_kept ((h.wr64 _ _).put _ _) _).ran)

theorem Keeps.performKload {s₀ s : State} (h : Keeps s₀ s) (q : Option ℕ) (p : Bytes) : Keeps s₀ (s.performKload q p) := by
  unfold State.performKload
  extract_lets +onlyGivenNames answer
  have ka {t : State} (k : Keeps s₀ t) (st : ℕ) : Keeps s₀ (answer t st) := by
    unfold answer
    split
    · exact k.replyNow _ _ _ _
    · exact k
  refine Keeps.ite (Keeps.ite (ka h _) (ka (h.kernelWrites _) _)) (Keeps.ite (ka h _) ?_)
  split
  · exact (h.kernelWrites _).onHost _
  · exact h.kernelWrites _

theorem Keeps.performCancel {s₀ s : State} (h : Keeps s₀ s) (q : Option ℕ) (p : Bytes) : Keeps s₀ (s.performCancel q p) := by
  unfold State.performCancel
  extract_lets +onlyGivenNames _ _ _ s2
  have k1 : Keeps s₀ s2 := (((h.put _ _).put _ _).putFlag _ _).holdCancel _ _ _ _
  split
  · exact k1.onHost _
  · exact k1

theorem Keeps.performVe {s₀ s : State} (h : Keeps s₀ s) (q : Option ℕ) (p : Bytes) : Keeps s₀ (s.performVe q p) :=
  Keeps.ite (h.performKload _ _) (h.performCancel _ _)

theorem Keeps.veNow {s₀ s : State} (h : Keeps s₀ s) (q : ℕ) (p : Bytes) : Keeps s₀ (s.veNow q p) :=
  Keeps.ite (h.replyNow _ _ _ _) (Keeps.ite (h.replyNow _ _ _ _) (Keeps.ite ((h.addChain _).sendTwCmd _ _ _) (h.performVe _ _)))

theorem Keeps.kloadDone {s₀ s : State} (h : Keeps s₀ s) : Keeps s₀ s.kloadDone := by
  unfold State.kloadDone
  split
  next s1 e =>
    have q1 := h.endKload.ofEq e
    exact q1
  next s1 code b e =>
    have q1 := h.endKload.ofEq e
    extract_lets +onlyGivenNames s2
    have k1 : Keeps s₀ s2 := Keeps.ite (q1.extendMeas _ _) q1
    split
    · exact (k1.onHost _).replyNow _ _ _ _
    · exact k1

theorem Keeps.cancelsDone {s₀ s : State} (h : Keeps s₀ s) : Keeps s₀ s.cancelsDone :=
  State.each_keeps (h.onHost _) _ _ (fun _ _ k => k.replyNow _ _ _ _)

theorem Keeps.flashNow {s₀ s : State} (h : Keeps s₀ s) (q : ℕ) (p : Bytes) : Keeps s₀ (s.flashNow q p) :=
  Keeps.ite (h.replyNow _ _ _ _) (Keeps.ite (h.replyNow _ _ _ _) ((h.onHost _).syncEngine))

theorem Keeps.endFlashJob {s₀ s : State} (h : Keeps s₀ s) (j : FlashJob) (result : ℕ) : Keeps s₀ (s.endFlashJob j result) :=
  (h.onHost _).replyNow _ _ _ _

theorem Keeps.flashStep {s₀ s : State} (h : Keeps s₀ s) : Keeps s₀ s.flashStep := by
  unfold State.flashStep
  split
  · exact h
  · exact Keeps.ite h (Keeps.ite (h.onHost _) (Keeps.ite (((h.put _ _).onHost _).flashErase) (Keeps.ite (Keeps.ite
      ((((h.put _ _).wr64 _ _).onHost _).flashProgram _) (((((h.put _ _).wr64 _ _).onHost _).flashProgram _).endFlashJob _ _))
      ((h.busRead _ _ _).endFlashJob _ _))))

theorem Keeps.flashOpDone {s₀ s : State} (h : Keeps s₀ s) (ok : Bool) : Keeps s₀ (s.flashOpDone ok) := by
  unfold State.flashOpDone
  extract_lets +onlyGivenNames _ s1
  have k1 : Keeps s₀ s1 := h.finishFlash _
  split
  · exact Keeps.ite (k1.endFlashJob _ _) k1.flashStep
  · exact k1

theorem Keeps.authNow {s₀ s : State} (h : Keeps s₀ s) (q : ℕ) (p : Bytes) : Keeps s₀ (s.authNow q p) := by
  unfold State.authNow
  exact Keeps.ite (Keeps.ite (h.replyNow _ _ _ _) ((State.each_keeps (h.replyNow _ _ _ _) _ _ (fun _ _ k => Keeps.ite
    (k.writeCpl _) k)).onHost _)) (h.flashNow _ _)

theorem Keeps.performNow {s₀ s : State} (h : Keeps s₀ s) (q : ℕ) (p : Bytes) (bad : Option (ℕ × ℕ)) :
    Keeps s₀ (s.performNow q p bad) := by
  unfold State.performNow
  exact Keeps.ite (h.replyNow _ _ _ _) (Keeps.ite (h.replyNow _ _ _ _) (Keeps.ite (h.replyNow _ _ _ _) (Keeps.ite
    (h.readLogNow _ _) (Keeps.ite (h.archReadNow _ _ _) (Keeps.ite (h.archInfoNow _ _) (Keeps.ite (h.attestNow _ _)
    (h.veNow _ _)))))))

theorem Keeps.takeNow {s₀ s : State} (h : Keeps s₀ s) (q : ℕ) (p : Bytes) (bad : Option (ℕ × ℕ)) :
    Keeps s₀ (s.takeNow q p bad) :=
  Keeps.ite (h.replyNow _ _ _ _) (Keeps.ite (h.replyNow _ _ _ _) (Keeps.ite (h.replyNow _ _ _ _) (h.performNow _ _ _)))

/-! ### The functions of Machine/HostCommit -/

theorem Keeps.gather {s₀ s : State} (h : Keeps s₀ s) (off : ℕ) (v : Word) (seq : ℕ) : Keeps s₀ (s.gather off v seq) :=
  h.same rfl rfl rfl rfl rfl

theorem Keeps.withStage {s₀ s : State} (h : Keeps s₀ s) (l : List Staged) : Keeps s₀ ({ s with stage := l } : State) :=
  h.same rfl rfl rfl rfl rfl

theorem Keeps.joinChains {s₀ s : State} (h : Keeps s₀ s) (l : List Chain) : Keeps s₀ (s.joinChains l) := by
  unfold State.joinChains
  extract_lets +onlyGivenNames _ _
  split
  next t rest e =>
    have k : Keeps s₀ t := by
      refine Keeps.ofEq (Keeps.foldlFst (h.withStage []) _ _ (fun a c k => ?_)) e
      exact State.each_keeps (k.withStage _) _ _ (fun _ _ k2 => k2.gather _ _ _)
    exact k.withStage _

theorem Keeps.changeMode {s₀ s : State} (h : Keeps s₀ s) (target tag : ℕ) : Keeps s₀ (s.changeMode target tag) :=
  Keeps.ite h (Keeps.ite ((h.setDevSafe.recordSafe _ _ _ _).enterMode _) (Keeps.ite (h.enterMode _) (h.enterMode _)))

theorem Keeps.commitModeReg {s₀ s : State} (h : Keeps s₀ s) (v : Word) : Keeps s₀ (s.commitModeReg v) :=
  Keeps.ite (h.changeMode _ _) h

theorem Keeps.withinLimits {s₀ s : State} (h : Keeps s₀ s) (l : List Staged) : Keeps s₀ (s.withinLimits l).1 :=
  Keeps.iteFst h (h.putFlag _ _)

theorem Keeps.commitStage {s₀ s0 : State} (h : Keeps s₀ s0) (l0 : List Staged) : Keeps s₀ (s0.commitStage l0) :=
  State.each_keeps (h.withinLimits _) _ _ (fun _ _ k => Keeps.ite (k.commitModeReg _) (k.commitReg _ _))

theorem Keeps.appCode {s₀ s : State} (h : Keeps s₀ s) (p : Bytes) : Keeps s₀ (s.appCode p).1 :=
  h.busRead _ _ _

theorem Keeps.copyImage {s₀ s : State} (h : Keeps s₀ s) (g : ℕ) (b : Bytes) : Keeps s₀ (s.copyImage g b) :=
  State.wr_keeps (((State.setBytes_keeps (State.setBytes_keeps h _ _) _ _).freshChecks _ _).freshChecks _ _) _ _

theorem Keeps.commitLoad {s₀ s : State} (h : Keeps s₀ s) (c : Chain) (i : ℕ) (p : Bytes) : Keeps s₀ (s.commitLoad c i p).1 := by
  unfold State.commitLoad
  split
  next s1 code b e =>
    have k1 : Keeps s₀ s1 := by
      split at e
      · split at e
        next t d _ e1 =>
          cases e
          exact (h.busRead _ _ _).ofEq e1
      · exact (h.appCode _).ofEq e
    exact Keeps.iteFst (k1.secEvent _ _) ((k1.copyImage _ _).extendMeas _ _)

theorem Keeps.commitCmd {s₀ s : State} (h : Keeps s₀ s) (c : Chain) (i : ℕ) (p : Bytes) : Keeps s₀ (s.commitCmd c i p).1 := by
  unfold State.commitCmd
  exact Keeps.iteFst (h.changeMode _ _) (Keeps.iteFst ((h.put _ _).raiseSrc _) (Keeps.iteFst h.relinquish (Keeps.iteFst
    (h.commitLoad _ _ _) (Keeps.iteFst (h.openCoil _ _ _) h))))

theorem Keeps.commitChain {s₀ s : State} (h : Keeps s₀ s) (c : Chain) : Keeps s₀ (s.commitChain c).1 :=
  Keeps.iteFst ((h.onTw _).performVe _ _) (Keeps.foldlFst (Keeps.ite ((h.onTw _).extendMeas _ _) (h.onTw _)) _ _
    (fun _ _ k => k.commitCmd _ _ _))

theorem Keeps.hostInsert {s₀ s : State} (h : Keeps s₀ s) (p : Bytes) : Keeps s₀ (s.hostInsert p).1 :=
  (State.wr_keeps ((h.wr64 _ _).put _ _) _ _).portInsert _ _ _

theorem Keeps.hostCancel {s₀ s : State} (h : Keeps s₀ s) (p : Bytes) : Keeps s₀ (s.hostCancel p).1 :=
  Keeps.iteFst ((h.cancelHandle _ _ _).put _ _) ((h.cancelMask _ _ _).put _ _)

theorem Keeps.heldWrite {s₀ s : State} (h : Keeps s₀ s) (off : ℕ) (v : Word) : Keeps s₀ (s.heldWrite off v) := by
  unfold State.heldWrite
  split
  · exact h
  · exact Keeps.ite (h.put _ _) ((h.regWrite _ _ _).same rfl rfl rfl rfl rfl)

theorem Keeps.finishCmd {s₀ s : State} (h : Keeps s₀ s) (c : Chain) (code : ℕ) (p : Bytes) :
    Keeps s₀ (s.finishCmd c code p).1 := by
  unfold State.finishCmd
  exact Keeps.iteFst h (Keeps.iteFst (State.each_keeps h _ _ (fun _ _ k => k.heldWrite _ _)) (Keeps.iteFst h (Keeps.iteFst h
    (Keeps.iteFst (h.hostInsert _) (Keeps.iteFst (h.hostCancel _) (Keeps.iteFst (Keeps.ite ((execHlRetrain_kept h _ _).ran) h)
    (Keeps.iteFst (Keeps.ite ((h.cancelMask _ _ _).put _ _) h) (Keeps.iteFst h (Keeps.iteFst (h.bufferDecision _ _) h)))))))))

theorem Keeps.finishFrom {s₀ s : State} (h : Keeps s₀ s) (c : Chain) (codes : List (ℕ × ℕ)) (l : List (Bytes × ℕ)) :
    Keeps s₀ (s.finishFrom c codes l) := by
  induction l generalizing s with
  | nil => exact h
  | cons x r ih =>
    unfold State.finishFrom
    split
    · exact (h.onHost _).putFlag _ _
    split
    next t res e =>
      have k : Keeps s₀ t := (h.finishCmd _ _ _).ofEq e
      apply ih
      split
      · exact k.reply _ _ _ _ _ _
      · exact k

theorem Keeps.finishChain {s₀ s : State} (h : Keeps s₀ s) (c : Chain) (codes : List (ℕ × ℕ)) :
    Keeps s₀ (s.finishChain c codes) :=
  Keeps.ite h (h.finishFrom _ _ _)

theorem execEwMaskCancelDone_kept {s₀ s : State} (h : Keeps s₀ s) (g : Group) : Kept s₀ (execEwMaskCancelDone g s) := by
  unfold execEwMaskCancelDone
  refine Kept.next ?_
  split
  · exact h
  · exact State.each_keeps ((State.each_keeps ((((h.onWheel _).putFlag _ _).put _ _).putFlag _ _) _ _
      (fun _ _ k3 => k3.portWrite _ _ _ _)).onHost _) _ _ (fun _ _ k4 => k4.finishFrom _ _ _)

theorem Keeps.failChain {s₀ s : State} (h : Keeps s₀ s) (c : Chain) (at_ st : ℕ) : Keeps s₀ (s.failChain c at_ st) := by
  unfold State.failChain
  split
  · exact h.refuseChain _ _ _ _
  · exact h

/-! ### The functions of Machine/HostRows -/

theorem Keeps.waitEnd {s₀ s : State} (h : Keeps s₀ s) (q : ℕ) (refused : Bool) (chain : List Bytes) :
    Keeps s₀ (s.waitEnd q refused chain) :=
  (h.onHq _ _).putFlag _ _

theorem Keeps.packet {s₀ s : State} (h : Keeps s₀ s) (q : ℕ) (bad : Option (ℕ × ℕ)) : Keeps s₀ (s.packet q bad) := by
  unfold State.packet
  extract_lets +onlyGivenNames _
  split
  · exact h
  · extract_lets +onlyGivenNames s1
    have k1 : Keeps s₀ s1 := State.when_keeps (h.onHq _ _) _ _ (fun _ k => k.onHost _)
    exact Keeps.ite ((k1.reply _ _ _ _ _ _).waitEnd _ _ _) (Keeps.ite ((State.each_keeps k1 _ _
      (fun _ _ k2 => k2.reply _ _ _ _ _ _)).waitEnd _ _ _) (Keeps.ite (k1.waitEnd _ _ _) (Keeps.ite
      ((k1.waitEnd _ _ _).takeNow _ _ _) ((k1.waitEnd _ _ _).stageChain _ _))))

theorem Keeps.skipUnknown {s₀ s : State} (h : Keeps s₀ s) (fuel q : ℕ) : Keeps s₀ (State.skipUnknown fuel s q) := by
  induction fuel generalizing s with
  | zero => exact h
  | succ fuel ih =>
    unfold State.skipUnknown
    split
    next p r e1 e2 => cases e1; exact Keeps.ite (ih (h.packet _ _)) h
    · exact h

theorem Keeps.takeRow {s₀ s : State} (h : Keeps s₀ s) (q op : ℕ) (bad : Option (ℕ × ℕ)) : Keeps s₀ (s.takeRow q op bad) := by
  unfold State.takeRow
  split
  · exact h
  · extract_lets +onlyGivenNames s1
    have k1 : Keeps s₀ s1 := h.stageOn.skipUnknown _ _
    split
    · exact Keeps.ite (k1.packet _ _) k1
    · exact k1

theorem Keeps.blobDone {s₀ s : State} (h : Keeps s₀ s) (c : Staging) : Keeps s₀ (s.blobDone c) := by
  unfold State.blobDone
  extract_lets +onlyGivenNames _ _
  split
  · exact h.popStaging.replyChain _ _ _
  split
  · exact h.popStaging.refuseChain _ _ _ _
  split
  · exact h.popStaging.refuseChain _ _ _ _
  split
  next s1 a e =>
    have k1 : Keeps s₀ s1 := (h.checkBlob _).ofEq e
    split
    · extract_lets +onlyGivenNames _ s2
      have k2 : Keeps s₀ s2 := k1.popStaging
      split
      · exact k2.refuseChain _ _ _ _
      · exact (k2.reply _ _ _ _ _ _).authNow _ _
    · exact k1.putStaging _
  next s1 st _ e => exact ((h.checkBlob _).ofEq e).popStaging.refuseChain _ _ _ _

theorem execAuthCheckDone_kept {s₀ s : State} (h : Keeps s₀ s) : Kept s₀ (execAuthCheckDone s) := by
  refine Kept.next ?_
  split
  next c r s1 _ e => exact ((h.served .blob s1 e).blobDone _).stageOn
  · exact h

theorem execImageCheckDone_kept {s₀ s : State} (h : Keeps s₀ s) : Kept s₀ (execImageCheckDone s) := by
  refine Kept.next ?_
  split
  next r s0 _ e =>
    extract_lets +onlyGivenNames s1
    have k1 : Keeps s₀ s1 := (h.served .image s0 e).onHost _
    split
    · split
      · exact ((k1.appCode _).putStaging _).stageOn
      · exact k1
    · exact k1
  next r s0 _ e =>
    extract_lets +onlyGivenNames s1
    have k1 : Keeps s₀ s1 := (h.served .image s0 e).onHost _
    split
    · exact Keeps.ite (k1.onHost _).flashStep (k1.endFlashJob _ _)
    · exact k1
  · exact h

theorem execAttestSignDone_kept {s₀ s : State} (h : Keeps s₀ s) (done : Bool) : Kept s₀ (execAttestSignDone done s) := by
  unfold execAttestSignDone
  refine Kept.next ?_
  split
  next s1 e =>
    have q1 := (h.served _) _ e
    exact q1.endAttest _
  · exact h

theorem execVeKloadDone_kept {s₀ s : State} (h : Keeps s₀ s) : Kept s₀ (execVeKloadDone s) := by
  unfold execVeKloadDone
  refine Kept.next ?_
  split
  next s1 e =>
    have q1 := (h.served _) _ e
    exact q1.kloadDone
  · exact h

theorem execTwCmdReceive_kept {s₀ s : State} (h : Keeps s₀ s) (n : Lane) : Kept s₀ (execTwCmdReceive n s) := by
  unfold execTwCmdReceive
  refine Kept.next ?_
  split
  · exact h
  · split
    · exact h
    · exact Keeps.ite (h.rxPop _) (((h.rxPop _).addChain _).sendTwCtrl _ _)

/-! ### The functions of Machine/Boundary -/

theorem Keeps.countCause {s₀ s : State} (h : Keeps s₀ s) (cause : ℕ) : Keeps s₀ (s.countCause cause) := by
  unfold State.countCause
  extract_lets +onlyGivenNames _ _ s1 s2
  have k1 : Keeps s₀ s1 := Keeps.ite (Keeps.ite (((h.bump _).bump _).raiseSrc _) ((h.bump _).bump _)) ((h.put _ _).onKiln _)
  have k2 : Keeps s₀ s2 := Keeps.ite k1 (k1.onKiln _)
  exact Keeps.ite k2 (Keeps.ite (((k2.bump _).raiseSrc _).onKiln _) ((k2.bump _).raiseSrc _))

theorem Keeps.countSkips {s₀ s : State} (h : Keeps s₀ s) (cause : ℕ) : Keeps s₀ (s.countSkips cause) :=
  Keeps.ite ((h.addTo _ _).onKiln _) h

theorem Keeps.withFn {s₀ s : State} (h : Keeps s₀ s) (n : ℕ) : Keeps s₀ ({ s with fn := n } : State) :=
  h.same rfl rfl rfl rfl rfl

theorem Keeps.latchBoundary {s₀ s : State} (h : Keeps s₀ s) (fn cause : ℕ) : Keeps s₀ (s.latchBoundary fn cause) := by
  have k1 : Keeps s₀ (if fn ≤ 1 then s.put TB_PERIOD_PERIOD 0 else s.put TB_PERIOD_PERIOD (min (s.tt - s.rd64 TB_BTT)
    (2 ^ 24 - 1))) :=
    Keeps.ite (h.put _ _) (h.put _ _)
  unfold State.latchBoundary
  exact State.each_keeps ((((k1.withFn _).wr64 _ _).put _ _).putFlag _ _) _ _ (fun _ _ k => State.wr_keeps (k.wrInt _ _) _ _)

theorem Keeps.sealArchive {s₀ s : State} (h : Keeps s₀ s) : Keeps s₀ s.sealArchive :=
  Keeps.ite h (h.sealSegment _ _)

theorem Keeps.coverage {s₀ s : State} (h : Keeps s₀ s) : Keeps s₀ s.coverage :=
  State.each_keeps h.evalCoverage _ _ (fun _ _ k => (k.logGap _ _ _ _).logGap _ _ _ _)

theorem Keeps.dueRestarts {s₀ s : State} (h : Keeps s₀ s) : Keeps s₀ s.dueRestarts :=
  State.each_keeps h _ _ (fun _ _ k => Keeps.ite (k.onCore _ _) (k.restartGroup _))

theorem Keeps.leaveMaintenance {s₀ s : State} (h : Keeps s₀ s) : Keeps s₀ s.leaveMaintenance :=
  Keeps.ite ((h.onKiln _).enterMode _) (h.onKiln _)

theorem Keeps.dropChains {s₀ s : State} (h : Keeps s₀ s) (due : List Chain) (commits : Option ℕ) :
    Keeps s₀ (s.dropChains due commits) := by
  unfold State.dropChains
  extract_lets +onlyGivenNames _ s1
  have k1 : Keeps s₀ s1 := h.same rfl rfl rfl rfl rfl
  split
  · exact k1
  · extract_lets +onlyGivenNames s2
    have k1 : Keeps s₀ s2 := by
      unfold s2
      refine State.each_keeps k1 _ _ (fun _ _ k => ?_)
      split
      · exact k.replyChain _ _ _
      · exact k
    exact Keeps.ite ((((k1.raise _ _).bump _).raiseSrc _).leaveStep) k1

theorem Keeps.sendFire {s₀ s : State} (h : Keeps s₀ s) (commits : ℕ) : Keeps s₀ (s.sendFire commits) :=
  Keeps.ite (h.sendPeer _ _) h

theorem Keeps.settleGrid {s₀ s : State} (h : Keeps s₀ s) : Keeps s₀ s.settleGrid :=
  Keeps.ite ((h.onKiln _).rebaseGrid) (h.onKiln _)

theorem Keeps.commitAll {s₀ s : State} (h : Keeps s₀ s) (ok : List Chain) : Keeps s₀ (s.commitAll ok) := by
  unfold State.commitAll
  extract_lets +onlyGivenNames s1 s2
  have k1 : Keeps s₀ s1 := h.joinChains _
  have k2 : Keeps s₀ s2 := ((k1.withStage []).commitStage _).settleGrid
  split
  next s3 done e =>
    have k3 : Keeps s₀ s3 := by
      refine Keeps.ofEq (Keeps.foldlFst (p := (s2, [])) k2 ok _ (fun a c k => ?_)) e
      exact k.commitChain _
    exact State.each_keeps (k3.onTw _).clearPool _ _ (fun _ _ k => k.finishChain _ _)

theorem Keeps.openCones {s₀ s : State} (h : Keeps s₀ s) (started : Group → Bool) : Keeps s₀ (s.openCones started) :=
  State.each_keeps h _ _ (fun _ _ k => k.onCore _ _)

theorem Keeps.window {s₀ s : State} (h : Keeps s₀ s) (cw : ℕ) (missed : Bool) : Keeps s₀ (s.window cw missed) :=
  Keeps.ite (((h.raiseTo _ _).putFlag _ _).raise _ _) (h.raiseTo _ _)

theorem Keeps.boundary {s₀ s : State} (h : Keeps s₀ s) (b : Due) (cw : ℕ) (missed peer : Bool) :
    Keeps s₀ (s.boundary b cw missed peer) := by
  unfold State.boundary
  extract_lets +onlyGivenNames _ _ _ _ _ _ _ _ _
  split
  exact ((State.each_keeps ((State.each_keeps ((State.each_keeps ((((State.each_keeps ((((State.each_keeps
    ((((h.sealArchive.alignJoin.countSkips _).latchBoundary _ _).countCause _).onKiln _) _ _
    (fun _ _ k3 => k3.latchCones _)).closePart.leadAtBoundary
    _).completeJoin).dueRestarts.resumeChecks.leaveMaintenance.coverage.teBoundary.dropChains _ _) _ _
    (fun _ _ k6 => k6.failChain _ _ _)).sendFire _).onTw _).commitAll _) _ _
    (fun _ _ k8 => k8.sendTrigs _)).sealByRole).veBoundary _ _
    (fun _ _ k9 => k9.applyVerdict _ _)).closeCoils.degradedExit.raiseSrc _) _ _
    (fun _ _ k10 => k10.startReadmit _)).openCones _).window _ _

theorem execFiringBoundary_kept {s₀ s : State} (h : Keeps s₀ s) (cw : CommitWindow) (peer : Bool) :
    Kept s₀ (execFiringBoundary cw peer s) := by
  unfold execFiringBoundary
  refine Kept.next ?_
  split
  · exact h.boundary _ _ _ _
  · exact h

/-! ### The functions of Machine/Boot -/

theorem Keeps.readEntry {s₀ s : State} (h : Keeps s₀ s) (base : ℕ) (e : DirEntry) : Keeps s₀ (s.readEntry base e).1 :=
  Keeps.iteFst h (h.busRead _ _ _)

theorem Keeps.checkEntry {s₀ s : State} (h : Keeps s₀ s) (base typ group : ℕ) : Keeps s₀ (s.checkEntry base typ group).1 := by
  unfold State.checkEntry
  split
  · exact h
  · split
    next s1 e =>
      have q1 := (h.readEntry _ _).ofEq e
      exact q1
    next s1 b e =>
      have q1 := (h.readEntry _ _).ofEq e
      exact q1

theorem Keeps.bootLockdown {s₀ s : State} (h : Keeps s₀ s) : Keeps s₀ s.bootLockdown :=
  (State.blow_keeps h _ _).enterMode _

theorem Keeps.deriveIdentity {s₀ s : State} (h : Keeps s₀ s) (pufOk : Bool) : Keeps s₀ (s.deriveIdentity pufOk) := by
  unfold State.deriveIdentity
  exact State.onSag_keeps ((State.each_keeps (State.when_keeps h _ _ (fun _ k => k.raise _ _)) _ _
    (fun _ _ k2 => State.wr_keeps k2 _ _)).putFlag _ _) _ (fun _ => by rfl)

theorem Keeps.readStore {s₀ s : State} (h : Keeps s₀ s) (ok : Bool) : Keeps s₀ (s.readStore ok) := by
  unfold State.readStore
  extract_lets +onlyGivenNames s1
  have k1 : Keeps s₀ s1 := (State.onSag_keeps h _ (fun _ => by rfl)).putFlag _ _
  exact Keeps.ite k1 (((State.onSag_keeps k1 _ (fun _ => by rfl)).syncBoot).raise _ _)

theorem Keeps.startMeas {s₀ s : State} (h : Keeps s₀ s) : Keeps s₀ s.startMeas :=
  (State.each_keeps h _ _ (fun _ _ k => State.each_keeps k _ _ (fun _ _ k2 => State.wr_keeps k2 _ _))).extendMeas _ _

theorem Keeps.selectHalf {s₀ s : State} (h : Keeps s₀ s) : Keeps s₀ s.selectHalf :=
  (h.putFlag _ _).putFlag _ _

theorem Keeps.checkGlost {s₀ s : State} (h : Keeps s₀ s) : Keeps s₀ s.checkGlost := by
  unfold State.checkGlost
  extract_lets +onlyGivenNames _
  split
  · exact h.bootFail _ _
  split
  next s1 code b e =>
    have k1 : Keeps s₀ s1 := (h.checkEntry _ _ _).ofEq e
    split
    · exact k1.bootFail _ _
    extract_lets +onlyGivenNames s2
    have k2 : Keeps s₀ s2 := State.onSag_keeps (k1.extendMeas _ _) _ (fun _ => rfl)
    clear_value s2
    exact k2.enterMode _

theorem execBisque_kept {s₀ s : State} (h : Keeps s₀ s) (r : BisqueRun) : Kept s₀ (execBisque r s) := by
  unfold execBisque
  exact Kept.next (Keeps.ite h (Keeps.ite ((State.when_keeps (State.when_keeps (State.onSag_keeps h _ (fun _ => by rfl)) _ _
    (fun _ k => k.raise _ _)) _ _ (fun _ k => k.raise _ _)).haltBoot _ _) (Keeps.ite ((State.onSag_keeps h _
    (fun _ => by rfl)).bootLockdown) ((((((State.onSag_keeps h _
    (fun _ => by rfl)).deriveIdentity _).readStore _).startMeas).selectHalf).checkGlost))))

theorem Keeps.checkKey {s₀ s : State} (h : Keeps s₀ s) (base : ℕ) (k : KeySlot) : Keeps s₀ (s.checkKey base k) :=
  Keeps.ite (State.onSag_keeps h _ (fun _ => by rfl)) (h.raise _ _)

theorem Keeps.checkKeys {s₀ s : State} (h : Keeps s₀ s) (base : ℕ) : Keeps s₀ (s.checkKeys base) :=
  State.each_keeps (State.onSag_keeps h _ (fun _ => by rfl)) _ _ (fun _ _ k => k.checkKey _ _)

theorem Keeps.noteSvn {s₀ s : State} (h : Keeps s₀ s) (b : Bytes) : Keeps s₀ (s.noteSvn b) :=
  State.onSag_keeps h _ (fun _ => by rfl)

theorem Keeps.rejectImage {s₀ s : State} (h : Keeps s₀ s) (slot code : ℕ) : Keeps s₀ (s.rejectImage slot code) :=
  (h.raise _ _).secEvent _ _

theorem Keeps.loadApp {s₀ s : State} (h : Keeps s₀ s) (base : ℕ) (e : DirEntry) : Keeps s₀ (s.loadApp base e) := by
  unfold State.loadApp
  split
  next s1 e =>
    have q1 := (h.readEntry _ _).ofEq e
    exact q1.rejectImage _ _
  next s1 b e =>
    have q1 := (h.readEntry _ _).ofEq e
    exact Keeps.ite (q1.rejectImage _ _) (Keeps.ite (q1.rejectImage _ _) (((q1.extendMeas _ _).copyImage _ _).noteSvn _))

theorem Keeps.loadKernel {s₀ s : State} (h : Keeps s₀ s) (base : ℕ) (e : DirEntry) : Keeps s₀ (s.loadKernel base e) := by
  unfold State.loadKernel
  split
  next s1 e =>
    have q1 := (h.readEntry _ _).ofEq e
    exact q1.rejectImage _ _
  next s1 b e =>
    have q1 := (h.readEntry _ _).ofEq e
    exact Keeps.ite (q1.rejectImage _ _) (((q1.extendMeas _ _).noteSvn _).onVe _)

theorem Keeps.loadImages {s₀ s : State} (h : Keeps s₀ s) (base : ℕ) : Keeps s₀ (s.loadImages base) :=
  Keeps.ite h (State.each_keeps (State.each_keeps h _ _ (fun _ _ k => k.loadApp _ _)) _ _ (fun _ _ k => k.loadKernel _ _))

theorem Keeps.selfInject {s₀ s : State} (h : Keeps s₀ s) (g : Group) (k : ℕ) : Keeps s₀ (s.selfInject g k) :=
  (h.draw.craze _ _).raise _ _

theorem Keeps.selfInjects {s₀ s : State} (h : Keeps s₀ s) (g : Group) : Keeps s₀ (s.selfInjects g) :=
  Keeps.ite h (State.each_keeps h _ _ (fun _ _ k => k.selfInject _ _))

theorem Keeps.selfItest {s₀ s : State} (h : Keeps s₀ s) : Keeps s₀ s.selfItest := by
  unfold State.selfItest
  extract_lets +onlyGivenNames _
  split
  · exact h.beginItest.endItest _ _ _
  · exact h.beginItest

theorem Keeps.selfTests {s₀ s : State} (h : Keeps s₀ s) : Keeps s₀ s.selfTests := by
  unfold State.selfTests
  exact (State.when_keeps ((State.each_keeps h _ _ (fun _ _ k => k.selfInjects _)).selfItest) _ _
    (fun _ k2 => k2.raise _ _)).onArch _

theorem Keeps.settleRecord {s₀ s : State} (h : Keeps s₀ s) : Keeps s₀ s.settleRecord := by
  unfold State.settleRecord
  extract_lets +onlyGivenNames s1
  have k1 : Keeps s₀ s1 := Keeps.ite ((State.onSag_keeps h _ (fun _ => by rfl)).syncBoot) h
  split
  · exact k1
  · exact ((State.onSag_keeps k1 _ (fun _ => by rfl)).raise _ _).raiseSrc _

theorem Keeps.modeAfterGlost {s₀ s : State} (h : Keeps s₀ s) : Keeps s₀ s.modeAfterGlost := by
  unfold State.modeAfterGlost
  split
  · exact h.enterMode _
  · extract_lets +onlyGivenNames s1
    have k1 : Keeps s₀ s1 := by
      unfold s1
      split
      · exact h.recordSafe _ _ _ _
      · exact h
    exact k1.enterMode _

theorem Keeps.startFirings {s₀ s : State} (h : Keeps s₀ s) (kw : Bytes) : Keeps s₀ (s.startFirings kw) := by
  unfold State.startFirings
  exact (((((State.when_keeps ((((((h.copyImage _ _).put _ _).settleRecord).putFlag _ _).putFlag _ _).syncArch) _ _
    (fun _ k4 => k4.openAutoCoil)).modeAfterGlost).onKiln _).boundary _ _ _ _).onSup _).restartGroup _

theorem Keeps.glostImages {s₀ s : State} (h : Keeps s₀ s) (base : ℕ) (selfTest : Option Byte) :
    Keeps s₀ (s.glostImages base selfTest) := by
  unfold State.glostImages
  split
  next s1 code kw e =>
    have k1 : Keeps s₀ s1 := (h.checkEntry _ _ _).ofEq e
    split
    · exact k1.bootFail _ _
    extract_lets +onlyGivenNames s2 s3
    have k2 : Keeps s₀ s2 := State.onSag_keeps ((k1.extendMeas _ _).put _ _) _ (fun _ => rfl)
    have k3 : Keeps s₀ s3 := k2.loadImages _
    split
    · exact (k3.raise _ _).bootFail _ _
    extract_lets +onlyGivenNames s4 s5
    have k5 : Keeps s₀ s5 := k3.selfTests.drainFaults _
    exact Keeps.ite k5 (k5.startFirings _)

theorem execGlost_kept {s₀ s : State} (h : Keeps s₀ s) (r : GlostRun) : Kept s₀ (execGlost r s) := by
  unfold execGlost
  exact Kept.next (Keeps.ite h (Keeps.ite ((h.raise _ _).bootFail _ _) (Keeps.ite (((h.putFlag _ _).checkKeys _).bootFail _ _)
    (((h.putFlag _ _).checkKeys _).glostImages _ _))))

/-! ### The functions of Machine/Dispatch -/

/-- What no command does, in one: each answers a next state, which has the queue and the part, keeps the canonical forms,
and clears no fuse bit. -/
theorem exec_kept {s₀ s : State} (h : Keeps s₀ s) (i : Instr) : Kept s₀ (exec i s) := by
  cases i with
  | powerOnReset _ => exact Kept.next (h.powerOnReset _ _)
  | rstNAssert => exact Kept.next (Keeps.ite (State.onSag_keeps h _ (fun _ => by rfl)) h.resetByPin)
  | perstNAssert => exact Kept.next ((h.linkLost.resetFunction _).resetFunction _)
  | bisque r => exact execBisque_kept h r
  | glost r => exact execGlost_kept h r
  | glostTimeout => exact Kept.next (Keeps.ite (h.bootFail _ _) h)
  | pwrWarn _ => exact Kept.next ((h.bump _).raise _ _)
  | pwrRail _ => exact Kept.next (Keeps.ite h (Keeps.ite ((((h.put _ _).raise _ _).onOuts _).refreshOuts)
      ((h.put _ _).raise _ _)))
  | clkLinkLoss => exact Kept.next (h.setDevSafe.loseLock _ _)
  | clkPcieLoss => exact Kept.next (h.loseLock _ _)
  | clkSysLoss => exact Kept.next (h.loseLock _ _)
  | tjHigh _ => exact Kept.next (Keeps.ite ((h.put _ _).raise _ _) (h.put _ _))
  | encoderEdge n e => exact execEncoderEdge_kept h n e
  | encOverrateEnd _ => exact Kept.next (Keeps.ite (h.onEnc _ _) h)
  | encIndexEdge n rising => exact execEncIndexEdge_kept h n rising
  | encSignalLoss n a b => exact execEncSignalLoss_kept h n a b
  | encZLoss _ => exact Kept.next (Keeps.ite (((h.onEnc _ _).setEncStat _).raise _ _) (h.onEnc _ _))
  | encLossClear _ _ _ _ => exact Kept.next (h.portal (h.clearEncStat _ _ _) _ _ _)
  | domStoppedSet _ => exact Kept.next (h.syncStopped _)
  | fireInEdge _ => exact Kept.next (Keeps.ite ((h.recognise _).onKiln _) h)
  | firingBoundary cw peer => exact execFiringBoundary_kept h cw peer
  | firingOverspeed => exact Kept.next (Keeps.ite ((h.raise _ _).onKiln _) h)
  | tbSrcLost => exact Kept.next (Keeps.ite ((h.raise _ _).onKiln _) h)
  | sealPoint => exact Kept.next (Keeps.ite (((((h.putFlag _ _).raiseSrc _).veSeal).onTw _).cancelsDone) h)
  | domPresetGo _ _ => exact Kept.next (h.portal (h.stageBy _ _ _) _ _ _)
  | domCvtT2p d m => exact execDomCvtT2p_kept h d m
  | domCvtP2t d m => exact execDomCvtP2t_kept h d m
  | domCvtComplete d m => exact execDomCvtComplete_kept h d m
  | laneSignalDetect _ => exact Kept.next (Keeps.ite (h.setLane _ _) h)
  | pam4TrainTimeout _ => exact Kept.next (Keeps.ite (h.onLane _ _) h)
  | codewordLock _ => exact Kept.next (Keeps.ite (((h.setLane _ _).put _ _).onLane _ _) h)
  | codewordLockLoss _ _ => exact Kept.next (Keeps.ite (h.laneDrop _) h)
  | codewordReceive n fec cw => exact execCodewordReceive_kept h n fec cw
  | verSend _ => exact Kept.next (Keeps.ite (((h.send _ _ _ _).onLane _ _).agree _) h)
  | verReceive n => exact execVerReceive_kept h n
  | negotiateTimeout _ => exact Kept.next (Keeps.ite (h.setLane _ _) h)
  | syncSend _ _ => exact Kept.next (Keeps.ite ((h.send _ _ _ _).onLane _ _) h)
  | syncResponseReceive n frac => exact execSyncResponseReceive_kept h n frac
  | syncResponseMissing n => exact execSyncResponseMissing_kept h n
  | calibrateTimeout _ => exact Kept.next (Keeps.ite (h.setLane _ _) h)
  | challengeResponseReceive n => exact execChallengeResponseReceive_kept h n
  | challengeCheckDone n => exact execChallengeCheckDone_kept h n
  | hlAdmit n m => exact execHlAdmit_kept h n m
  | hlDetach n m => exact execHlDetach_kept h n m
  | hlRetrain n m => exact execHlRetrain_kept h n m
  | hlCmbRead _ _ => exact Kept.next (h.mailbox (fun _ k => k) _ _ _)
  | hlCmbWrite _ _ => exact Kept.next (h.mailbox (fun _ k => k) _ _ _)
  | hlCmbReset n m => exact execHlCmbReset_kept h n m
  | hlCmbSetPort _ _ => exact Kept.next (h.mailbox (fun _ k => k) _ _ _)
  | ctrlResponseReceive n => exact execCtrlResponseReceive_kept h n
  | ctrlResponseTimeout n => exact execCtrlResponseTimeout_kept h n
  | featReceive n => exact execFeatReceive_kept h n
  | cropReceive n => exact execCropReceive_kept h n
  | cropTimeout n slot => exact execCropTimeout_kept h n slot
  | statReceive n => exact execStatReceive_kept h n
  | hbReceive n => exact execHbReceive_kept h n
  | hbSend _ => exact Kept.next (Keeps.ite ((h.draw.send _ _ _ _).onLane _ _) h)
  | hbTimeout _ => exact Kept.next (Keeps.ite (h.headLost _) h)
  | captureMiss n => exact execCaptureMiss_kept h n
  | credSend _ => exact Kept.next (Keeps.ite (h.sendCred _) h)
  | teStageRecord => exact execTeStageRecord_kept h
  | teApplyBatch => exact execTeApplyBatch_kept h
  | teDecWrite m v => exact execTeDecWrite_kept h m v
  | teDecisionTimeout id => exact execTeDecisionTimeout_kept h id
  | veJobEnd t => exact execVeJobEnd_kept h t
  | veOverrun t => exact execVeOverrun_kept h t
  | veTileFault _ => exact Kept.next (Keeps.ite h (h.tileFault _))
  | veSqTailWrite g m v => exact execVeSqTailWrite_kept h g m v
  | veCancelGo g m v => exact execVeCancelGo_kept h g m v
  | veKloadGo m => exact execVeKloadGo_kept h m
  | veKloadUnload m v => exact execVeKloadUnload_kept h m v
  | veKloadDone => exact execVeKloadDone_kept h
  | vtReturn t m => exact execVtReturn_kept h t m
  | vtSelfTestDone _ _ => exact Kept.next (Keeps.ite ((h.onVe _).putFlag _ _) h)
  | ewInsert g m v => exact execEwInsert_kept h g m v
  | ewCancelHandle g m v => exact execEwCancelHandle_kept h g m v
  | ewMaskCancel g m => exact execEwMaskCancel_kept h g m
  | ewMaskCancelDone g => exact execEwMaskCancelDone_kept h g
  | nearSetLoad d slot => exact execNearSetLoad_kept h d slot
  | lateEventAct d slot => exact execLateEventAct_kept h d slot
  | timePulseEnd n => exact execTimePulseEnd_kept h n
  | peoPulseMax n => exact execPeoPulseMax_kept h n
  | offPulseTest _ => exact Kept.next (Keeps.ite ((h.onChan _ _).syncChan _ _) h)
  | offPulseTestEnd n a b => exact execOffPulseTestEnd_kept h n a b
  | readbackMismatch _ _ _ => exact Kept.next (Keeps.ite ((h.samplePei _ _ _).mismatch _) (h.samplePei _ _ _))
  | safeStopFb _ _ => exact Kept.next (Keeps.ite ((((h.putFlag _ _).putFlag _ _).raise _ _).raiseSrc _) (h.putFlag _ _))
  | ewRelease g m => exact execEwRelease_kept h g m
  | lockstepCompare g a b c => exact execLockstepCompare_kept h g a b c
  | readmissionComplete g r => exact execReadmissionComplete_kept h g r
  | comparatorSelfTest g fail => exact execComparatorSelfTest_kept h g fail
  | lsCfgWrite g m v => exact execLsCfgWrite_kept h g m v
  | lsRestart g m => exact execLsRestart_kept h g m
  | lsStop g m => exact execLsStop_kept h g m
  | lsInject g m v => exact execLsInject_kept h g m v
  | lsUnretire g m v => exact execLsUnretire_kept h g m v
  | lsPowerOff g m => exact execLsPowerOff_kept h g m
  | lsPowerOn g m => exact execLsPowerOn_kept h g m
  | lsPowerGood g => exact execLsPowerGood_kept h g
  | lsPwrFail g => exact execLsPwrFail_kept h g
  | debugHaltTaken _ => exact Kept.next (Keeps.ite ((((h.putFlag _ _).putFlag _ _).put _ _).syncIc) h)
  | loadDataReturn _ => exact Kept.next (h.onCore _ _)
  | fetchFillReturn _ _ => exact Kept.next (Keeps.ite h (Keeps.ite ((Keeps.ite (h.onCore _ _) h).fillLine _ _) (Keeps.ite
      (h.onCore _ _) h)))
  | storeErrorReturn g => exact execStoreErrorReturn_kept h g
  | exceptionEntry g c faddr => exact execExceptionEntry_kept h g c faddr
  | interruptEntry g kept => exact execInterruptEntry_kept h g kept
  | lateArrival g => exact execLateArrival_kept h g
  | srcEdgeEvent => exact execSrcEdgeEvent_kept h
  | srcLevelChange src => exact execSrcLevelChange_kept h src
  | interruptPresent g => exact execInterruptPresent_kept h g
  | waitWake _ => exact Kept.next (Keeps.ite ((h.putFlag _ _).bump _) h)
  | srcSetp src m => exact execSrcSetp_kept h src m
  | srcClrp src m => exact execSrcClrp_kept h src m
  | icEoi g m v => exact execIcEoi_kept h g m v
  | scrubRead ix => exact execScrubRead_kept h ix
  | scrubWriteBack ix => exact execScrubWriteBack_kept h ix
  | scrubStall ix => exact execScrubStall_kept h ix
  | spRawRead m => exact execSpRawRead_kept h m
  | spRawWrite m => exact execSpRawWrite_kept h m
  | spRawDone => exact execSpRawDone_kept h
  | mpuCfgErr g r => exact execMpuCfgErr_kept h g r
  | fwCfgErr => exact Kept.next ((h.putFlag _ _).raise _ _)
  | faultOccurrence => exact execFaultOccurrence_kept h
  | fcuLogDrain => exact execFcuLogDrain_kept h
  | fcuInject m v => exact execFcuInject_kept h m v
  | fltCfgWrite ix m v => exact execFltCfgWrite_kept h ix m v
  | fltPendClear ix m => exact execFltPendClear_kept h ix m
  | fcuSelf why => exact execFcuSelf_kept h why
  | sscDisagree => exact Kept.next ((h.setDevSafe.putFlag _ _).raise _ _)
  | sscPeriodicTest x y => exact execSscPeriodicTest_kept h x y
  | sscIntrusiveTest m => exact execSscIntrusiveTest_kept h m
  | sscIntrusiveTestEnd badX badY => exact execSscIntrusiveTestEnd_kept h badX badY
  | wdKeyWrite g m v => exact execWdKeyWrite_kept h g m v
  | wdKey1Lapse _ => exact Kept.next (Keeps.ite (h.dropKey1 _) h)
  | wdWarn _ => exact Kept.next (Keeps.ite ((h.markExpiry _).wdFirst _) h)
  | wdExpire _ => exact Kept.next (Keeps.ite ((h.markExpiry _).wdSecond _) h)
  | wdFreezeCap _ => exact Kept.next (Keeps.ite ((h.onCore _ _).raise _ _) h)
  | wdTimebase _ => exact Kept.next (Keeps.ite (h.raise _ _) h)
  | cmBend g m v => exact execCmBend_kept h g m v
  | cmStart g m => exact execCmStart_kept h g m
  | retClear m => exact execRetClear_kept h m
  | hostSqDoorbell _ _ _ => exact Kept.next (h.sqDoorbell _ _ _)
  | hostCqDoorbell _ _ _ => exact Kept.next (h.cqDoorbell _ _ _)
  | hostPacketFetch q p => exact execHostPacketFetch_kept h q p
  | hostCompletionWrite _ => exact Kept.next (Keeps.ite (h.writeCpl _) h)
  | msixMessage f vec => exact execMsixMessage_kept h f vec
  | chainTimeout _ => exact Kept.next (Keeps.ite ((State.each_keeps h _ _ (fun _ _ k => k.reply _ _ _ _ _ _)).waitEnd _ _ _) h)
  | authCheckDone => exact execAuthCheckDone_kept h
  | hqEnable _ _ => exact Kept.next (h.hqWrites (fun _ k => k.enableQueue _) _ _)
  | hqDelete _ _ => exact Kept.next (h.hqWrites (fun _ k => k.stopQueue _) _ _)
  | hostHeartbeat _ => exact Kept.next (h.portal h.heartbeat _ _ _)
  | hiHostLost => exact Kept.next (Keeps.ite (((h.onHost _).raise _ _).setIsr _) h)
  | mirrorWrite f off v => exact execMirrorWrite_kept h f off v
  | bar2Write off data => exact execBar2Write_kept h off data
  | hiLinkDown => exact execHiLinkDown_kept h
  | hiFlr _ => exact Kept.next (((((State.each_keeps h _ _
      (fun _ _ k => k.stopQueue _)).resetFunction _).bump _).raise _ _).setIsr _)
  | busMasterDisable f b => exact execBusMasterDisable_kept h f b
  | d3hotEntry f => exact execD3hotEntry_kept h f
  | d0Return _ => exact Kept.next (((h.put _ _).onHost _).releaseHeld _)
  | hiPcieUncorr _ => exact Kept.next (h.raise _ _)
  | nop _ => exact Kept.next (h.takeRow _ _ _)
  | identify _ => exact Kept.next (h.takeRow _ _ _)
  | getStatus _ => exact Kept.next (h.takeRow _ _ _)
  | readLog _ => exact Kept.next (h.takeRow _ _ _)
  | writeReg _ => exact Kept.next (h.takeRow _ _ _)
  | modeReq _ => exact Kept.next (h.takeRow _ _ _)
  | warmRestart _ => exact Kept.next (h.takeRow _ _ _)
  | epochAdvance _ => exact Kept.next (h.takeRow _ _ _)
  | twinRelinquish _ => exact Kept.next (h.takeRow _ _ _)
  | eventInsert _ => exact Kept.next (h.takeRow _ _ _)
  | eventCancel _ => exact Kept.next (h.takeRow _ _ _)
  | headCtrl _ => exact Kept.next (h.takeRow _ _ _)
  | appCtrl _ => exact Kept.next (h.takeRow _ _ _)
  | appLoad _ => exact Kept.next (h.takeRow _ _ _)
  | kernelLoad _ => exact Kept.next (h.takeRow _ _ _)
  | veCancel _ => exact Kept.next (h.takeRow _ _ _)
  | trackDecide _ => exact Kept.next (h.takeRow _ _ _)
  | coilMark _ => exact Kept.next (h.takeRow _ _ _)
  | archRead _ _ => exact Kept.next (h.takeRow _ _ _)
  | archInfo _ => exact Kept.next (h.takeRow _ _ _)
  | flashProgram _ => exact Kept.next (h.takeRow _ _ _)
  | authRef _ => exact Kept.next (h.takeRow _ _ _)
  | attest _ => exact Kept.next (h.takeRow _ _ _)
  | attestSignDone done => exact execAttestSignDone_kept h done
  | archiveDurable => exact Kept.next (Keeps.ite h h.programSegment)
  | arThermalChange t => exact execArThermalChange_kept h t
  | pwrfailFall => exact execPwrfailFall_kept h
  | pfSealDone => exact execPfSealDone_kept h
  | pwrfailRearm => exact execPwrfailRearm_kept h
  | dmScrubRead loss => exact execDmScrubRead_kept h loss
  | dmTemp _ => exact Kept.next (Keeps.ite ((h.put _ _).raise _ _) (h.put _ _))
  | cfErase m => exact execCfErase_kept h m
  | cfProgram m => exact execCfProgram_kept h m
  | cfOpComplete _ => exact Kept.next (h.flashOpDone _)
  | sgLcAdvance m v => exact execSgLcAdvance_kept h m v
  | sgSvnCommit m v => exact execSgSvnCommit_kept h m v
  | sgFuseProgram m => exact execSgFuseProgram_kept h m
  | fuseProgramDone ok => exact execFuseProgramDone_kept h ok
  | sgPufEnroll m => exact execSgPufEnroll_kept h m
  | pufEnrollDone => exact Kept.next (Keeps.ite h ((State.each_keeps h.draw _ _
      (fun _ _ k => State.wr_keeps k _ _)).putFlag _ _))
  | sgVerCheck m => exact execSgVerCheck_kept h m
  | sgVerDone => exact execSgVerDone_kept h
  | sgDbgGo m v => exact execSgDbgGo_kept h m v
  | dbgAuthDone => exact execDbgAuthDone_kept h
  | sgDbgEnd m => exact execSgDbgEnd_kept h m
  | tamperSwitch _ => exact Kept.next (Keeps.ite (h.sensorAlarm _ _) h)
  | tamperMeshFail _ => exact Kept.next (Keeps.ite (h.sensorAlarm _ _) h)
  | packageMeshTrip => exact Kept.next (h.sensorAlarm _ _)
  | lightSensorTrip => exact Kept.next (h.sensorAlarm _ _)
  | supplyMonitorTrip => exact Kept.next (h.sensorAlarm _ _)
  | clockMonitorTrip => exact Kept.next (h.sensorAlarm _ _)
  | temperatureTrip _ => exact Kept.next (Keeps.ite ((h.put _ _).sensorAlarm _ _) (h.put _ _))
  | jtagExtest => exact execJtagExtest_kept h
  | jtagClamp => exact execJtagClamp_kept h
  | dbgHalt m => exact execDbgHalt_kept h m
  | dbgResume m => exact execDbgResume_kept h m
  | dbgStep m => exact execDbgStep_kept h m
  | dbgRegAccess m v db dc => exact execDbgRegAccess_kept h m v db dc
  | dbgMemGo m v => exact execDbgMemGo_kept h m v
  | pmCtrlWarm m => exact execPmCtrlWarm_kept h m
  | pmCtrlWarmActivate m => exact execPmCtrlWarmActivate_kept h m
  | twFireReceive n => exact execTwFireReceive_kept h n
  | twFireLost => exact Kept.next (Keeps.ite (((h.onTw _).raise _ _).bump _) h)
  | twPlaceReceive n => exact execTwPlaceReceive_kept h n
  | twPlaceLate => exact Kept.next (Keeps.ite (((h.raise _ _).leaveStep).sealBatch _) h)
  | twCmdReceive n => exact execTwCmdReceive_kept h n
  | twDigestFinalise => exact execTwDigestFinalise_kept h
  | twDigestReceive n => exact execTwDigestReceive_kept h n
  | twDigestMissing => exact execTwDigestMissing_kept h
  | twHello n leader primary => exact execTwHello_kept h n leader primary
  | twJoinAck n => exact execTwJoinAck_kept h n
  | twXferReceive n => exact execTwXferReceive_kept h n
  | twXferDone n mode => exact execTwXferDone_kept h n mode
  | twRelinquish n => exact execTwRelinquish_kept h n
  | twCmdAck n => exact execTwCmdAck_kept h n
  | twLeave n => exact execTwLeave_kept h n
  | twJoinFail why => exact execTwJoinFail_kept h why
  | twJoinRetry => exact execTwJoinRetry_kept h
  | registerWrite off m v => exact execRegisterWrite_kept h off m v
  | add _ _ _ _ => exact Kept.next (h.computeReg _ _ _ _)
  | sub _ _ _ _ => exact Kept.next (h.computeReg _ _ _ _)
  | and _ _ _ _ => exact Kept.next (h.computeReg _ _ _ _)
  | or _ _ _ _ => exact Kept.next (h.computeReg _ _ _ _)
  | xor _ _ _ _ => exact Kept.next (h.computeReg _ _ _ _)
  | nor _ _ _ _ => exact Kept.next (h.computeReg _ _ _ _)
  | slt _ _ _ _ => exact Kept.next (h.computeReg _ _ _ _)
  | sltu _ _ _ _ => exact Kept.next (h.computeReg _ _ _ _)
  | sll _ _ _ _ => exact Kept.next (h.computeReg _ _ _ _)
  | srl _ _ _ _ => exact Kept.next (h.computeReg _ _ _ _)
  | sra _ _ _ _ => exact Kept.next (h.computeReg _ _ _ _)
  | slli _ _ _ _ => exact Kept.next (h.computeReg _ _ _ _)
  | srli _ _ _ _ => exact Kept.next (h.computeReg _ _ _ _)
  | srai _ _ _ _ => exact Kept.next (h.computeReg _ _ _ _)
  | min _ _ _ _ => exact Kept.next (h.computeReg _ _ _ _)
  | max _ _ _ _ => exact Kept.next (h.computeReg _ _ _ _)
  | minu _ _ _ _ => exact Kept.next (h.computeReg _ _ _ _)
  | maxu _ _ _ _ => exact Kept.next (h.computeReg _ _ _ _)
  | adds _ _ _ _ => exact Kept.next (h.computeReg _ _ _ _)
  | subs _ _ _ _ => exact Kept.next (h.computeReg _ _ _ _)
  | extu _ _ _ _ _ => exact Kept.next (h.computeReg _ _ _ _)
  | exts _ _ _ _ _ => exact Kept.next (h.computeReg _ _ _ _)
  | ins _ _ _ _ _ => exact Kept.next (h.computeReg _ _ _ _)
  | clz _ _ _ => exact Kept.next (h.computeReg _ _ _ _)
  | ctz _ _ _ => exact Kept.next (h.computeReg _ _ _ _)
  | popc _ _ _ => exact Kept.next (h.computeReg _ _ _ _)
  | bswap _ _ _ => exact Kept.next (h.computeReg _ _ _ _)
  | addi _ _ _ _ => exact Kept.next (h.computeReg _ _ _ _)
  | slti _ _ _ _ => exact Kept.next (h.computeReg _ _ _ _)
  | sltiu _ _ _ _ => exact Kept.next (h.computeReg _ _ _ _)
  | andi _ _ _ _ => exact Kept.next (h.computeReg _ _ _ _)
  | ori _ _ _ _ => exact Kept.next (h.computeReg _ _ _ _)
  | xori _ _ _ _ => exact Kept.next (h.computeReg _ _ _ _)
  | lui _ _ _ => exact Kept.next (h.computeReg _ _ _ _)
  | mul _ _ _ _ => exact Kept.next (h.computeReg _ _ _ _)
  | mulh _ _ _ _ => exact Kept.next (h.computeReg _ _ _ _)
  | mulhu _ _ _ _ => exact Kept.next (h.computeReg _ _ _ _)
  | mulhsu _ _ _ _ => exact Kept.next (h.computeReg _ _ _ _)
  | mulq _ _ _ _ => exact Kept.next (h.computeReg _ _ _ _)
  | macq _ _ _ _ => exact Kept.next (h.computeReg _ _ _ _)
  | div _ _ _ _ => exact Kept.next (h.divide _ _ _ _ _ _)
  | divu _ _ _ _ => exact Kept.next (h.divide _ _ _ _ _ _)
  | rem _ _ _ _ => exact Kept.next (h.divide _ _ _ _ _ _)
  | remu _ _ _ _ => exact Kept.next (h.divide _ _ _ _ _ _)
  | aswap _ _ _ _ => exact Kept.next (h.atomicReg _ _ _ _ _ _)
  | aadd _ _ _ _ => exact Kept.next (h.atomicReg _ _ _ _ _ _)
  | aand _ _ _ _ => exact Kept.next (h.atomicReg _ _ _ _ _ _)
  | aor _ _ _ _ => exact Kept.next (h.atomicReg _ _ _ _ _ _)
  | axor _ _ _ _ => exact Kept.next (h.atomicReg _ _ _ _ _ _)
  | amin _ _ _ _ => exact Kept.next (h.atomicReg _ _ _ _ _ _)
  | amax _ _ _ _ => exact Kept.next (h.atomicReg _ _ _ _ _ _)
  | aminu _ _ _ _ => exact Kept.next (h.atomicReg _ _ _ _ _ _)
  | amaxu _ _ _ _ => exact Kept.next (h.atomicReg _ _ _ _ _ _)
  | acas _ _ _ _ => exact Kept.next (h.atomicReg _ _ _ _ _ _)
  | ldb _ _ _ _ => exact Kept.next (h.loadReg _ _ _ _ _ _ _)
  | ldh _ _ _ _ => exact Kept.next (h.loadReg _ _ _ _ _ _ _)
  | ldw _ _ _ _ => exact Kept.next (h.loadReg _ _ _ _ _ _ _)
  | ldd _ _ _ _ => exact Kept.next (h.load _ _ _ _ _ _)
  | ldbu _ _ _ _ => exact Kept.next (h.loadReg _ _ _ _ _ _ _)
  | ldhu _ _ _ _ => exact Kept.next (h.loadReg _ _ _ _ _ _ _)
  | stb _ _ _ _ => exact Kept.next (h.storeReg _ _ _ _ _)
  | sth _ _ _ _ => exact Kept.next (h.storeReg _ _ _ _ _)
  | stw _ _ _ _ => exact Kept.next (h.storeReg _ _ _ _ _)
  | std _ _ _ _ => exact Kept.next (h.storeReg _ _ _ _ _)
  | beq _ _ _ _ _ => exact Kept.next (h.condBranch _ _ _ _ _)
  | bne _ _ _ _ _ => exact Kept.next (h.condBranch _ _ _ _ _)
  | blt _ _ _ _ _ => exact Kept.next (h.condBranch _ _ _ _ _)
  | bge _ _ _ _ _ => exact Kept.next (h.condBranch _ _ _ _ _)
  | bltu _ _ _ _ _ => exact Kept.next (h.condBranch _ _ _ _ _)
  | bgeu _ _ _ _ _ => exact Kept.next (h.condBranch _ _ _ _ _)
  | j _ _ => exact Kept.next (h.run _ _ (fun _ k => k))
  | jal _ _ => exact Kept.next (h.run _ _ (fun _ k => k.setRg _ _ _))
  | jalr _ _ _ _ => exact Kept.next (h.run _ _ (fun _ k => KeepsEffect.ite k (k.setRg _ _ _)))
  | loop _ _ _ => exact Kept.next (h.run _ _ (fun _ k => KeepsEffect.ite k (k.onCore _ _)))
  | mfs _ _ _ => exact Kept.next (h.run _ _ (fun _ k => (k.latchSpecial _ _).setRg _ _ _))
  | mts _ _ _ => exact Kept.next (h.run _ _ (fun _ k => k.writeSpecial _ _ _))
  | wait _ => exact Kept.next (h.run _ _ (fun _ k => k.putFlag _ _))
  | trap _ _ => exact Kept.next (h.run _ _ (fun _ k => k))
  | rfe _ => exact Kept.next (h.run _ _ (fun _ _ => trivial))
  | iflush _ => exact Kept.next (h.run _ _ (fun _ k => (KeepsEffect.done (k.onCore _ _) _ _).acknowledged _ _))
  | pflush _ => exact Kept.next (h.run _ _ (fun _ k => k.onCore _ _))
  | pbar _ => exact Kept.next (h.run _ _ (fun _ k => k))
  | fence _ => exact Kept.next (h.run _ _ (fun _ k => (KeepsEffect.done k _ _).acknowledged _ _))
  | linkUp => exact Kept.next (Keeps.ite h (((((h.draw.putFlag _ _).put _ _).put _ _).putFlag _ _).put _ _))
  | linkPowerStateChange _ => exact Kept.next (Keeps.ite (h.put _ _) h)
  | msixVectorUnmask _ _ => exact Kept.next ((h.onHost _).deliverPba _ _)
  | busMasterEnable f b => exact execBusMasterEnable_kept h f b
  | imageCheckDone => exact execImageCheckDone_kept h
  | twXferSend => exact execTwXferSend_kept h
  | pwrfailReturnHigh => exact Kept.next (Keeps.ite (h.onArch _) h)

/-! ### The functions of Machine/Tick -/

theorem Keeps.wdTick {s₀ s : State} (h : Keeps s₀ s) (g : Group) : Keeps s₀ (s.wdTick g) :=
  Keeps.ite (State.when_keeps h _ _ (fun _ k => k.put _ _)) ((State.when_keeps h _ _ (fun _ k => k.put _ _)).put _ _)

theorem Keeps.scrubSecond {s₀ s : State} (h : Keeps s₀ s) : Keeps s₀ s.scrubSecond := by
  unfold State.scrubSecond
  exact h.onProt _

theorem Keeps.soscTick {s₀ s : State} (h : Keeps s₀ s) : Keeps s₀ s.soscTick := by
  have k : Keeps s₀ ({ s with sosc := s.sosc + 1 } : State) := h.same rfl rfl rfl rfl rfl
  unfold State.soscTick
  exact State.when_keeps (State.each_keeps k _ _ (fun _ _ k => k.wdTick _)) _ _ (fun _ k => k.scrubSecond)

theorem Keeps.withSoscPart {s₀ s : State} (h : Keeps s₀ s) (n : ℕ) : Keeps s₀ ({ s with soscPart := n } : State) :=
  h.same rfl rfl rfl rfl rfl

theorem Keeps.runSosc {s₀ s : State} (h : Keeps s₀ s) : Keeps s₀ s.runSosc := by
  unfold State.runSosc
  split
  next k s1 e =>
    have k1 : Keeps s₀ s1 := h.draw.ofEqSnd e
    exact Keeps.ite (k1.withSoscPart _) (k1.withSoscPart _).soscTick

theorem Keeps.latchRates {s₀ s : State} (h : Keeps s₀ s) : Keeps s₀ s.latchRates :=
  Keeps.ite h (State.each_keeps h _ _ (fun _ _ k => (k.put _ _).onEnc _ _))

theorem Keeps.hostWork {s₀ s : State} (h : Keeps s₀ s) : Keeps s₀ s.hostWork :=
  Keeps.ite h (State.each_keeps h.stageOn.flashStep _ _ (fun _ _ k => Keeps.ite (k.skipUnknown _ _) k))

theorem Keeps.tick {s₀ s : State} (h : Keeps s₀ s) : Keeps s₀ s.tick := by
  have k : Keeps s₀ ({ s with tt := s.tt + 1 } : State) := h.same rfl rfl rfl rfl rfl
  exact Keeps.ite h k.runSosc.latchRates.transmit.twinFlush.hostWork.heldReset.dueRestart

/-! ### The functions of Machine/Step -/

/-- A step keeps what a command keeps, but for the command it takes from the queue. -/
theorem step_kept (s : State) : ∃ rest, Kept { s with pending := rest } (step s) := by
  unfold step
  split
  · exact ⟨s.pending, Kept.next (Keeps.refl s).tick⟩
  next c rest _ => exact ⟨rest, exec_kept (Keeps.refl _) c⟩

end Sys2Proof.Machine
end

section
/-! What every command and every step keeps. -/

open Sys2Proof Sys2Proof.Machine

/-- Settles O5: a step keeps what a command or the tick keeps (`step_kept`), and the canonical forms are among it. -/
theorem stepsKeepTheCanonicalForm : Obligations.StepsKeepTheCanonicalForm := by
  unfold Obligations.StepsKeepTheCanonicalForm
  intro s t hregs hmem e
  obtain ⟨rest, u, eu, k⟩ := step_kept s
  cases e.symm.trans eu
  exact ⟨k.regs hregs, k.mem hmem⟩

/-- Settles O3: `exec_kept`, from the state itself on. -/
theorem commandsLeaveTheQueueAndThePart : Obligations.CommandsLeaveTheQueueAndThePart := by
  unfold Obligations.CommandsLeaveTheQueueAndThePart
  intro i s t e
  obtain ⟨u, eu, k⟩ := exec_kept (Keeps.refl s) i
  cases e.symm.trans eu
  exact ⟨k.pending, k.part⟩

/-- Settles O2: `exec_kept`, from the state itself on. -/
theorem everyCommandAnswers : Obligations.EveryCommandAnswers := by
  unfold Obligations.EveryCommandAnswers
  intro i s
  obtain ⟨t, e, -⟩ := exec_kept (Keeps.refl s) i
  exact ⟨t, e⟩

end

section
/-! What does not move FN: the functions a warm restart is made of. -/

namespace Sys2Proof.Machine

/-- FN of a state, with the projection folded: the kernel then takes a state apart by the lemmas below, and does not compute
it to find its FN. -/
def FnIs (n : Nat) (s : State) : Prop :=
  s.fn = n

variable {n : Nat} {s t : State}

theorem FnIs.ite {c : Prop} [Decidable c] (h : FnIs n s) (k : FnIs n t) : FnIs n (if c then s else t) := by
  split
  · exact h
  · exact k

theorem FnIs.when (h : FnIs n s) (c : Bool) (f : State → State) (hf : ∀ s, FnIs n s → FnIs n (f s)) : FnIs n (s.when c f) :=
  FnIs.ite (hf s h) h

theorem FnIs.each {α : Type} (h : FnIs n s) (l : List α) (f : State → α → State) (hf : ∀ s x, FnIs n s → FnIs n (f s x)) :
    FnIs n (s.each l f) := by
  unfold State.each
  induction l generalizing s with
  | nil => exact h
  | cons x r ih => exact ih (hf s x h)

theorem FnIs.wr (h : FnIs n s) (off : Nat) (v : Word) : FnIs n (s.wr off v) := h

theorem FnIs.put (h : FnIs n s) (f : Fld) (v : Nat) : FnIs n (s.put f v) := h

theorem FnIs.putFlag (h : FnIs n s) (f : Fld) (b : Bool) : FnIs n (s.putFlag f b) := h

theorem FnIs.wr64 (h : FnIs n s) (off v : Nat) : FnIs n (s.wr64 off v) := h

theorem FnIs.bump (h : FnIs n s) (f : Fld) : FnIs n (s.bump f) := h

theorem FnIs.raise (h : FnIs n s) (id detail : Nat) : FnIs n (s.raise id detail) := h

theorem FnIs.raiseSrc (h : FnIs n s) (src : Nat) : FnIs n (s.raiseSrc src) := h

theorem FnIs.onChan (h : FnIs n s) (c : Chan) (f : ChanState → ChanState) : FnIs n (s.onChan c f) := h

theorem FnIs.onOuts (h : FnIs n s) (f : Outs → Outs) : FnIs n (s.onOuts f) := h

theorem FnIs.onTw (h : FnIs n s) (f : Twin → Twin) : FnIs n (s.onTw f) := h

theorem FnIs.onHost (h : FnIs n s) (f : HostIf → HostIf) : FnIs n (s.onHost f) := h

theorem FnIs.onVe (h : FnIs n s) (f : Verify → Verify) : FnIs n (s.onVe f) := h

theorem FnIs.onProt (h : FnIs n s) (f : Prot → Prot) : FnIs n (s.onProt f) := h

theorem FnIs.setBytes (h : FnIs n s) (a : Nat) (b : Bytes) : FnIs n (s.setBytes a b) := h

theorem FnIs.draw (h : FnIs n s) : FnIs n s.draw.2 := h

/-! ### Outputs and the mode -/

theorem FnIs.dropTest (h : FnIs n s) (c : Chan) : FnIs n (s.dropTest c) :=
  FnIs.ite (h.onChan _ _) h

theorem FnIs.setLogic (h : FnIs n s) (c : Chan) (l : Bool) (at_ : Nat) : FnIs n (s.setLogic c l at_) :=
  FnIs.ite h ((h.putFlag _ _).onChan _ _)

theorem FnIs.syncChan (h : FnIs n s) (c : Chan) (at_ : Nat) : FnIs n (s.syncChan c at_) :=
  FnIs.ite (h.putFlag _ _) ((((h.putFlag _ _).putFlag _ _).putFlag _ _).wr64 _ _)

theorem FnIs.refreshChan (h : FnIs n s) (c : Chan) : FnIs n (s.refreshChan c) := by
  unfold State.refreshChan
  extract_lets held off changed s1 s2 map
  have k1 : FnIs n s1 := FnIs.ite (((h.dropTest _).onChan _ _).setLogic _ _ _) (FnIs.ite (h.setLogic _ _ _) h)
  have k2 : FnIs n s2 := FnIs.ite (k1.onChan _ _) k1
  exact ((k2.putFlag _ _).put _ _).syncChan _ _

theorem FnIs.refreshOuts (h : FnIs n s) : FnIs n s.refreshOuts := by
  have k : FnIs n (s.each (allFin 32) State.refreshChan) := h.each _ _ (fun _ _ k => k.refreshChan _)
  exact FnIs.ite k ((((k.putFlag _ _).putFlag _ _).onOuts _).raiseSrc _)

theorem FnIs.abandonTest (h : FnIs n s) : FnIs n s.abandonTest := by
  unfold State.abandonTest
  split
  · exact (h.onOuts _).putFlag _ _
  · exact h

theorem FnIs.enterMode (h : FnIs n s) (m : Nat) : FnIs n (s.enterMode m) := by
  unfold State.enterMode
  refine FnIs.ite h ?_
  extract_lets s0 s1
  have k0 : FnIs n s0 := h.when _ _ (fun _ k => k.abandonTest)
  have k1 : FnIs n s1 := ((((k0.put _ _).put _ _).wr64 _ _).bump _).refreshOuts
  exact FnIs.ite (k1.onTw _) k1

theorem FnIs.degradeWhen (h : FnIs n s) (bit : Nat) (c : Bool) : FnIs n (s.degradeWhen bit c) :=
  FnIs.ite (FnIs.ite ((h.put _ _).enterMode _) (h.put _ _)) (h.put _ _)

theorem FnIs.warmDegr (h : FnIs n s) : FnIs n s.warmDegr :=
  (h.put _ _).each _ _ (fun _ _ k => (k.putFlag _ _).degradeWhen _ _)

theorem FnIs.newNonce (h : FnIs n s) : FnIs n s.newNonce :=
  h.draw.each _ _ (fun _ _ k => k.wr _ _)

theorem FnIs.setIsr (h : FnIs n s) (f : Fld) : FnIs n (s.setIsr f) :=
  FnIs.ite h ((h.putFlag _ _).onHost _)

/-! ### Retained memory -/

theorem FnIs.tileFault (h : FnIs n s) (t : Nat) : FnIs n (s.tileFault t) :=
  ((((h.when _ _ (fun _ k => k.putFlag _ _)).putFlag _ _).raise _ _).raiseSrc _).onVe _

theorem FnIs.countCorrection (h : FnIs n s) (i : Nat) : FnIs n (s.countCorrection i) :=
  FnIs.ite ((h.onProt _).raise _ _) (h.onProt _)

theorem FnIs.recordError (h : FnIs n s) (i a : Nat) (o : LatOutcome) : FnIs n (s.recordError i a o) := by
  have last {t : State} (k : FnIs n t) (kind : Nat) : FnIs n (t.lastError i a kind) := (k.wr _ _).wr _ _
  unfold State.recordError
  split
  · exact h
  · exact (FnIs.countCorrection (FnIs.ite (h.bump _) (last (h.bump _) _)) _).onProt _
  · exact (FnIs.ite h (last (h.bump _) _)).onProt _
  · extract_lets s1
    have k1 : FnIs n s1 := FnIs.ite ((h.bump _).tileFault _) (last (h.bump _) _)
    split
    · exact k1.raise _ _
    · exact k1

theorem FnIs.setWord64 (h : FnIs n s) (a : Nat) (d : DWord) : FnIs n (s.setWord64 a d) :=
  FnIs.ite (h.wr64 _ _) (h.setBytes _ _)

theorem FnIs.recordDm (h : FnIs n s) (a : Nat) (o : LatOutcome) : FnIs n (s.recordDm a o) := by
  unfold State.recordDm
  extract_lets s0 corrected
  have k0 : FnIs n s0 := h.wr64 _ _
  have kc : FnIs n (corrected s0) := FnIs.ite (((k0.bump _).onProt _).raise _ _) ((k0.bump _).onProt _)
  cases o with
  | clean => exact h
  | dataBit b => exact (kc.setWord64 _ _).onProt _
  | checkBit => exact kc.onProt _
  | uncorrectable => exact k0.bump _

theorem FnIs.readWord (h : FnIs n s) (a : Nat) : FnIs n (s.readWord a).1 := by
  unfold State.readWord
  split
  · exact FnIs.ite (h.recordDm _ _) h
  · exact h.recordError _ _ _

theorem FnIs.writeWord (h : FnIs n s) (a : Nat) (d : DWord) : FnIs n (s.writeWord a d) :=
  ((h.setWord64 _ _).onProt _).onProt _

theorem FnIs.writeInWord (h : FnIs n s) (a off : Nat) (b : Bytes) : FnIs n (s.writeInWord a off b).1 := by
  have k := h.readWord a
  unfold State.writeInWord
  split
  · exact h.writeWord _ _
  split
  next s1 e => rw [e] at k; exact k
  next s1 d e => rw [e] at k; exact FnIs.writeWord k _ _

theorem FnIs.latWrite (h : FnIs n s) (fuel a : Nat) (b : Bytes) : FnIs n (s.latWrite fuel a b).1 := by
  induction fuel generalizing s a b with
  | zero => exact h
  | succ fuel ih =>
    cases b with
    | nil => exact h
    | cons x r => exact ih (h.writeInWord _ _ _) _ _

theorem FnIs.retain (h : FnIs n s) (off : Nat) (b : Bytes) : FnIs n (s.retain off b) :=
  h.latWrite _ _ _

/-! ### The warm restart -/

theorem warmReset_fnIs_zero (s : State) : FnIs 0 s.warmReset := by
  unfold State.warmReset
  extract_lets _ _ s1 s2
  have k2 : FnIs 0 s2 := rfl
  exact ((k2.putFlag _ _).putFlag _ _).newNonce.warmDegr

/-- A warm restart begins with FN 0 (R437), unless the device is in LOCKDOWN or the faults it settles first lead there. -/
theorem warmRestart_fnIs_zero (s : State) (cause : Nat) (h : s.mode ≠ modeLockdown)
    (k : s.setDevSafe.relinquish.settleFaults.mode ≠ modeLockdown) : FnIs 0 (s.warmRestart cause) := by
  unfold State.warmRestart
  rw [if_neg h]
  extract_lets s1 s2 s3 s4
  rw [if_neg (show ¬s1.mode = modeLockdown from k)]
  have k3 : FnIs 0 s3 := ((warmReset_fnIs_zero s2).setIsr _).putFlag _ _
  have k4 : FnIs 0 s4 := (k3.retain _ _).put _ _
  exact ((k4.putFlag _ _).enterMode _).refreshOuts

end Sys2Proof.Machine
end

section
/-! The tick of a state in which a warm restart is due. -/

namespace Sys2Proof.Machine

/-- A state in the firing after FN 0 whose warm restart is due (R376), with Kilnware not running. -/
def restartDue : State :=
  { State.reset with fn := 1, host := { State.reset.host with restart := some (0, false) } }

/-- The same after its KCLK is counted; the drawn rate of SOSC decides no more than `soscPart`. -/
def restartDueNext : State :=
  { restartDue with tt := 1, draws := 1, soscPart := 950 + Config.soscRate 0 % 101 }

theorem runSosc_restartDue : ({ restartDue with tt := restartDue.tt + 1 } : State).runSosc = restartDueNext := by
  have h : 950 + Config.soscRate 0 % 101 < 1250000 := by omega
  simp [State.runSosc, State.draw, restartDue, restartDueNext, State.reset, h]

/-- The state of the tick before the restart that is due. -/
def beforeRestart : State :=
  restartDueNext.latchRates.transmit.twinFlush.hostWork.heldReset

theorem step_of_idle (s : State) (h : s.pending = []) : step s = .next s.tick := by
  simp only [step, h]

theorem tick_restartDue : restartDue.tick = beforeRestart.dueRestart := by
  unfold State.tick
  rw [if_neg (by decide), runSosc_restartDue, beforeRestart]

/-- The restart is due in it, and the faults that it settles first do not lead to LOCKDOWN. -/
theorem beforeRestart_restarts : beforeRestart.host.restart = some (0, false) ∧
    (beforeRestart.onHost (fun h => { h with restart := none })).mode ≠ modeLockdown ∧
    (beforeRestart.onHost (fun h => { h with restart := none })).setDevSafe.relinquish.settleFaults.mode ≠ modeLockdown := by
  decide +kernel

theorem tick_restartDue_fnIs_zero : FnIs 0 restartDue.tick := by
  obtain ⟨hdue, hmode, hsettled⟩ := beforeRestart_restarts
  rw [tick_restartDue]
  unfold State.dueRestart State.warmRequest
  rw [hdue]
  simp only [Nat.zero_le, if_true, if_neg hmode]
  exact warmRestart_fnIs_zero _ _ hmode hsettled

end Sys2Proof.Machine
end

section
/-! The step and the state after reset. -/

open Sys2Proof Sys2Proof.Machine

/-- Refutes O1: with a warm restart due (R376, R437), the tick restarts the device, and FN goes from 1 to 0. -/
theorem not_stepRunsTheQueue : ¬ Obligations.StepRunsTheQueue := by
  unfold Obligations.StepRunsTheQueue
  rintro ⟨-, -, h⟩
  obtain ⟨t, e, -, hfn, -⟩ := h restartDue rfl rfl rfl (by decide +kernel) rfl
  obtain rfl := Host.Outcome.next.inj ((step_of_idle restartDue rfl).symm.trans e)
  exact absurd (tick_restartDue_fnIs_zero.symm.trans hfn) (by decide)

/-- Settles O4: nothing is listed, so every word reads its reset value. -/
theorem resetHasTheCanonicalForm : Obligations.ResetHasTheCanonicalForm := by
  unfold Obligations.ResetHasTheCanonicalForm
  exact ⟨⟨rfl, by simp [State.reset]⟩, rfl, rfl, fun off => rfl⟩

end

section
/-! A command that stands for a register's write is a write at the register's port. -/

namespace Sys2Proof.Machine

/-- What a command does that writes a register stands behind the register's port, `State.portal`. -/
theorem exec_of_registerOf {c : Instr} {m : Master} {off : Nat} (h : registerOf c = some (m, off)) (s : State) :
    ∃ ok t, exec c s = .next (s.portal m off ok t) := by
  unfold registerOf at h
  split at h
  case h_52 => cases h
  all_goals
    cases h
    exact ⟨_, _, rfl⟩

end Sys2Proof.Machine
end

section
/-! Locked and absent registers. -/

open Sys2Proof Sys2Proof.Machine

/-- Settles O52: at its port a write leaves the denial of a locked region, and where the part lacks the register nothing. -/
theorem aLockedOrAbsentRegisterIsNotWritten : Obligations.ALockedOrAbsentRegisterIsNotWritten := by
  unfold Obligations.ALockedOrAbsentRegisterIsNotWritten
  refine ⟨fun s c m off hc hlocked => ?_, fun s c m off hc hfree habsent => ?_⟩
  · obtain ⟨ok, t, e⟩ := exec_of_registerOf hc s
    rw [e, portal_of_locked hlocked]
  · obtain ⟨ok, t, e⟩ := exec_of_registerOf hc s
    rw [e, portal_of_absent hfree habsent]

end

section
/-! What a register write does (R12, R46, R314, R460, R482): a lemma for each way that `execRegisterWrite`, `regWrite`,
`writeListed` and `plainWrite` go. -/

namespace Sys2Proof.Machine

/-! ### From the command to the write -/

/-- An aligned word outside the debug port whose write is not one of its own MPU control by a group. -/
structure PortWord (m : Master) (off : Nat) : Prop where
  aligned : off % 4 = 0
  inRange : off < 0x1000000
  notDebug : off / 0x10000 ≠ 0xF0
  notOwnMpu : ¬(isMpuCtl (off - lsgBase m) = true ∧ m.val < 8 ∧ lsgBase m ≤ off)

/-- A listed word that a master reaches and may write, outside the memory of RETAINED. -/
structure WritableWord (s : State) (m : Master) (off : Nat) (v : Word) (r : RegRow) : Prop extends PortWord m off where
  notLocked : s.lockDenies m (0x40000000 + off) = false
  inBlock : inBlocks off = true
  present : absentAt s.part off = false
  row : regRow off = some r
  permitted : s.mayWrite m off v = true
  notRetained : off < 0x910800 ∨ 0x911000 ≤ off

variable {s t : State} {m : Master} {off : Nat} {v : Word} {r : RegRow}

theorem exec_registerWrite (p : PortWord m off) :
    exec (.registerWrite off m v) s =
      .next (if (s.regWrite m off v).2 then (s.regWrite m off v).1 else (s.regWrite m off v).1.storeError m off) := by
  obtain ⟨haligned, hrange, hdebug, hmpu⟩ := p
  have hother : ¬(off % 4 ≠ 0 ∨ 0x1000000 ≤ off) := by omega
  have hown : ¬(isMpuCtl (off - lsgBase m) = true ∧ m.val < 8 ∧ lsgBase m ≤ off ∧ (!absentAt s.part off) = true) :=
    fun h => hmpu ⟨h.1, h.2.1, h.2.2.1⟩
  show execRegisterWrite off m v s = _
  unfold execRegisterWrite
  rw [if_neg hother, if_neg hdebug, if_neg hown]
  split
  next t e => simp [e]
  next t e => simp [e]

/-- A write that ends without an error status leaves what `regWrite` leaves. -/
theorem exec_registerWrite_of_made (p : PortWord m off) (h : s.regWrite m off v = (t, true)) :
    exec (.registerWrite off m v) s = .next t := by
  rw [exec_registerWrite p, h]
  rfl

/-- A write that ends with an error status leaves it at the group. -/
theorem exec_registerWrite_of_refused (p : PortWord m off) (h : s.regWrite m off v = (t, false)) :
    exec (.registerWrite off m v) s = .next (t.storeError m off) := by
  rw [exec_registerWrite p, h]
  rfl

theorem exec_registerWrite_of_misplaced (h : off % 4 ≠ 0 ∨ 0x1000000 ≤ off) : exec (.registerWrite off m v) s = .next s := by
  show execRegisterWrite off m v s = _
  unfold execRegisterWrite
  rw [if_pos h]

/-! ### Words that a write does not reach (R4, R316, R482) -/

theorem regWrite_of_locked (h : s.lockDenies m (0x40000000 + off) = true) :
    s.regWrite m off v = (s.recordDenial m (0x40000000 + off) true true 0, false) := by
  simp [State.regWrite, h]

theorem regWrite_of_noBlock (h : s.lockDenies m (0x40000000 + off) = false) (hb : inBlocks off = false) :
    s.regWrite m off v = (s, false) := by
  simp [State.regWrite, h, hb]

theorem regWrite_of_absent (h : s.lockDenies m (0x40000000 + off) = false) (hb : inBlocks off = true)
    (ha : absentAt s.part off = true ∨ regRow off = none) : s.regWrite m off v = (s, true) := by
  unfold State.regWrite
  rw [if_neg (by simp [h]), if_neg (by simp [hb])]
  split
  · rfl
  next hpresent =>
    have hrow : regRow off = none := by
      rcases ha with ha | ha
      · exact absurd (.inr ha) hpresent
      · exact ha
    rw [hrow]

theorem regWrite_of_listed (p : PortWord m off) (h : s.lockDenies m (0x40000000 + off) = false) (hb : inBlocks off = true)
    (ha : absentAt s.part off = false) (hr : regRow off = some r) :
    s.regWrite m off v = if !s.mayWrite m off v then (s.refuseAccess m off true, false) else s.writeListed m off v r := by
  unfold State.regWrite
  rw [if_neg (by simp [h]), if_neg (by simp [hb]), if_neg (by simp [ha, p.notDebug]), hr]

/-! ### Listed words (R46) -/

theorem regWrite_of_writable (w : WritableWord s m off v r) : s.regWrite m off v = s.writeListed m off v r := by
  rw [regWrite_of_listed w.toPortWord w.notLocked w.inBlock w.present w.row, if_neg (by simp [w.permitted])]

theorem writeListed_of_full (hst : s.stages m off v r = true) (hval : s.stagedVal off = none) (hfull : 1024 ≤ s.stagedNext) :
    s.writeListed m off v r = (s.putFlag TB_STAT_CFG_REJ true, false) := by
  simp [State.writeListed, hst, hval, stageMax, hfull]

/-- A word without a step of its own, with room in the stage where the write needs it, follows its field types. -/
theorem exec_registerWrite_of_plain (w : WritableWord s m off v r) (hact : s.regAct m off v = none)
    (hroom : s.stages m off v r = false ∨ s.stagedNext < 1024) :
    exec (.registerWrite off m v) s = .next (s.plainWrite m off v r) := by
  have hfits : ¬((s.stages m off v r && (s.stagedVal off).isNone && decide (stageMax ≤ s.stagedNext)) = true) := by
    rcases hroom with h | h
    · simp [h]
    · simp [stageMax, Nat.not_le.2 h]
  have houtside : ¬(0x910800 ≤ off ∧ off < 0x911000) := by
    have := w.notRetained
    omega
  refine exec_registerWrite_of_made w.toPortWord ?_
  rw [regWrite_of_writable w]
  unfold State.writeListed
  rw [if_neg hfits, if_neg houtside, hact]

/-! ### Field types (R12) -/

theorem and_not_zero (x : Word) : x &&& ~~~(0 : Word) = x :=
  BitVec.and_allOnes

theorem plainWrite_of_locked (hrwl : r.rwl ≠ 0) (h : s.locked.contains off = true) :
    s.plainWrite m off v r = s.rwlViolation m off := by
  unfold State.plainWrite
  rw [if_pos ⟨hrwl, h⟩]

theorem plainWrite_of_outOfRange (hrwl : r.rwl = 0) (h : s.rangeOk off v = false) : s.plainWrite m off v r = s.rejectAt off := by
  unfold State.plainWrite
  rw [if_neg (by simp [hrwl]), if_pos (by simp [h])]

/-- An RWL word outside the firewall that is not locked takes its value and is locked. -/
theorem plainWrite_of_unlocked (hrwl : r.rwl ≠ 0) (h : s.locked.contains off = false) (hok : s.rangeOk off v = true)
    (hfw : isFirewall off = false) :
    s.plainWrite m off v r =
      ({ s with locked := sortBy (fun a b => decide (a ≤ b)) (off :: s.locked) } : State).wr off (v &&& BitVec.ofNat 32 r.rwl) := by
  have hlock : ¬(0x510808 ≤ off ∧ off < 0x510880 ∧ off % 16 = 8) := by
    simp only [isFirewall, Bool.and_eq_false_iff, decide_eq_false_iff_not] at hfw
    omega
  unfold State.plainWrite
  rw [if_neg (by simp only [h, Bool.false_eq_true, and_false, not_false_eq_true]), if_neg (by simp [hok]), if_pos hrwl]
  simp only [hfw, Bool.false_and, if_neg hlock, Bool.false_eq_true, if_false]

/-- A word without staged fields takes its RW bits and clears its W1C bits at once. -/
theorem plainWrite_of_unstaged (hrwl : r.rwl = 0) (hok : s.rangeOk off v = true) (hstaged : r.staged = 0) :
    s.plainWrite m off v r = s.wr off ((s.rd off &&& ~~~(BitVec.ofNat 32 r.rw) &&& ~~~(v &&& BitVec.ofNat 32 r.w1c)) |||
      (v &&& BitVec.ofNat 32 r.rw)) := by
  unfold State.plainWrite
  rw [if_neg (by simp [hrwl]), if_neg (by simp [hok]), if_neg (by simp [hrwl])]
  have hnow : (if isFirewall off && !(isFirewall off && s.kiln.running) then (0 : Word) else BitVec.ofNat 32 r.staged) = 0 := by
    rw [hstaged]
    exact ite_self _
  dsimp only
  rw [hnow, and_not_zero, if_pos rfl]

/-- A word whose writable fields are staged is written as it was, and the write goes to the stage. -/
theorem plainWrite_of_staged (hrwl : r.rwl = 0) (hok : s.rangeOk off v = true) (hfw : isFirewall off = false)
    (hnow : BitVec.ofNat 32 r.rw &&& ~~~(BitVec.ofNat 32 r.staged) = 0) (hstaged : BitVec.ofNat 32 r.staged ≠ 0) (hw1c : r.w1c = 0) :
    s.plainWrite m off v r = ((s.wr off (s.rd off)).stageWrite m off (v &&& BitVec.ofNat 32 r.staged)).1 := by
  unfold State.plainWrite
  rw [if_neg (by simp [hrwl]), if_neg (by simp [hok]), if_neg (by simp [hrwl])]
  have hkept (x : Word) : (x &&& ~~~(0 : Word) &&& ~~~(v &&& BitVec.ofNat 32 0)) ||| (v &&& (0 : Word)) = x := by
    have hzero : v &&& BitVec.ofNat 32 0 = 0 := BitVec.and_zero
    have hnone : v &&& (0 : Word) = 0 := BitVec.and_zero
    rw [hzero, and_not_zero, and_not_zero, hnone]
    exact BitVec.or_zero
  simp only [hfw, Bool.false_and, Bool.false_eq_true, if_false, hnow, hw1c]
  rw [hkept, if_neg hstaged]

/-- A write that finds no entry of its word and room in the stage is one entry more. -/
theorem stageWrite_of_room (h : s.stage.find? (fun e => e.off = off) = none) (hroom : s.stagedNext < 1024) :
    s.stageWrite m off v = ({ s with stage := s.stage ++ [⟨off, v, m, s.stagings⟩], stagings := s.stagings + 1 }, true) := by
  unfold State.stageWrite
  rw [h]
  exact if_neg (by simpa [stageMax] using hroom)

theorem rd_wr_rd (s : State) (off o : Nat) : (s.wr off (s.rd off)).rd o = s.rd o := by
  by_cases h : o = off
  · rw [h, rd_wr_same]
  · rw [rd_wr_other _ _ h]

/-! ### Locked words (R12, R463) -/

theorem get_bump_same (s : State) (f : Fld) (h : f.fits = true) : (s.bump f).get f = min (s.get f + 1) (2 ^ f.width - 1) := by
  have hpos : 0 < 2 ^ f.width := Nat.two_pow_pos _
  rw [State.bump, State.addTo, get_put_same _ _ _ h]
  exact Nat.mod_eq_of_lt (by omega)

/-- The registers that count and name a violation have no RWL field themselves. -/
theorem rwl_offset (hr : regRow off = some r) (hrwl : r.rwl ≠ 0) : off ≠ DEV_RWL_VIOL ∧ off ≠ DEV_RWL_LAST := by
  have hrow (o : Nat) (h : (regRow o).map (fun r => r.rwl) = some 0) : off ≠ o := by
    rintro rfl
    rw [hr] at h
    exact hrwl (Option.some.inj h)
  exact ⟨hrow _ (by decide), hrow _ (by decide)⟩

theorem rd_rwlViolation_other (hcnt : off ≠ DEV_RWL_VIOL) (hlast : off ≠ DEV_RWL_LAST) :
    (s.rwlViolation m off).rd off = s.rd off := by
  rw [State.rwlViolation, rd_wr_other _ _ hlast, State.bump, State.addTo, rd_put_other _ _ _ hcnt]

theorem get_rwlViolation_count : (s.rwlViolation m off).get DEV_RWL_VIOL_CNT =
    min (s.get DEV_RWL_VIOL_CNT + 1) (2 ^ DEV_RWL_VIOL_CNT.width - 1) := by
  have hother : DEV_RWL_VIOL_CNT.off ≠ DEV_RWL_LAST := by decide
  rw [State.rwlViolation, State.get, rd_wr_other _ _ hother]
  exact get_bump_same s _ rfl

theorem rd_rwlViolation_last :
    (s.rwlViolation m off).rd DEV_RWL_LAST = BitVec.ofNat 32 (off + m.val * 2 ^ 28) :=
  rd_wr_same _ _ _

/-- A violation touches registers alone. -/
theorem rest_rwlViolation : (s.rwlViolation m off).locked = s.locked ∧ (s.rwlViolation m off).stage = s.stage ∧
    (s.rwlViolation m off).mem = s.mem := by
  unfold State.rwlViolation
  exact ⟨(wr_locked _ _ _).trans (bump_locked _ _), (wr_stage _ _ _).trans (bump_stage _ _), (wr_mem _ _ _).trans (bump_mem _ _)⟩

theorem mem_insertBy {α : Type} (le : α → α → Bool) (x y : α) (l : List α) : y ∈ insertBy le x l ↔ y = x ∨ y ∈ l := by
  induction l with
  | nil => simp [insertBy]
  | cons z l ih =>
    unfold insertBy
    split
    · simp
    · simp only [List.mem_cons, ih]
      tauto

theorem mem_sortBy {α : Type} (le : α → α → Bool) (y : α) (l : List α) : y ∈ sortBy le l ↔ y ∈ l := by
  induction l with
  | nil => rfl
  | cons z l ih => rw [sortBy, List.foldr_cons, mem_insertBy, ← sortBy, ih, List.mem_cons]

theorem contains_sortBy_cons (off : Nat) (l : List Nat) :
    (sortBy (fun a b => decide (a ≤ b)) (off :: l)).contains off = true := by
  rw [List.contains_iff_mem, mem_sortBy]
  exact List.mem_cons_self

/-! ### A group's own MPU control (R314) -/

theorem toIx_val {n : Nat} [NeZero n] {k : Nat} (h : k < n) : (toIx n k).val = k :=
  Nat.mod_eq_of_lt h

theorem isMpuCtl_lt {rel : Nat} (h : isMpuCtl rel = true) : rel < 0x1300 := by
  simp only [isMpuCtl, Bool.or_eq_true, beq_iff_eq, Bool.and_eq_true, decide_eq_true_eq] at h
  omega

/-- A write by a group of its own MPU control, at a group the part has, is a write at its port. -/
theorem exec_registerWrite_of_mpu {g : Group} (haligned : off % 4 = 0) (hrange : off < 0x1000000) (hbase : lsgBase g ≤ off)
    (hmpu : isMpuCtl (off - lsgBase g) = true) (ha : absentAt s.part off = false) :
    exec (.registerWrite off (toIx 16 g.val) v) s = .next (s.mpuPort g off v) := by
  have hg : (toIx 16 g.val).val = g.val := toIx_val (by omega)
  have hix : toIx 8 g.val = g := Fin.ext (toIx_val g.isLt)
  have hdebug : ¬off / 0x10000 = 0xF0 := by
    have := isMpuCtl_lt hmpu
    have := g.isLt
    unfold lsgBase at *
    omega
  show execRegisterWrite off (toIx 16 g.val) v s = _
  unfold execRegisterWrite
  rw [hg, hix, if_neg (by omega), if_neg hdebug, if_pos ⟨hmpu, g.isLt, hbase, by simp [ha]⟩]

theorem writeReg_of_mpu {g : Group} (hbase : lsgBase g ≤ off) (hmpu : isMpuCtl (off - lsgBase g) = true)
    (h : s.lockDenies g (0x40000000 + off) = false) :
    s.writeReg g off v = ((s.mpuStore g (off - lsgBase g) v).1,
      ⟨true, if (s.mpuStore g (off - lsgBase g) v).2 then none else some (BitVec.ofNat 32 (0x40000000 + off))⟩) := by
  unfold State.writeReg
  rw [if_pos ⟨hbase, hmpu, by simp [h]⟩]

theorem mpuStore_of_row {g : Group} (hbase : lsgBase g ≤ off) (hr : regRow off = some r) :
    s.mpuStore g (off - lsgBase g) v =
      if s.mpuBad g (off - lsgBase g) (v &&& BitVec.ofNat 32 r.rw) then
        ((s.bump (MPU_REFUSE_CNT_CNT g)).putFlag (MPU_STAT_REFUSED g) true, false)
      else (s.onCore g (fun c => { c with shadow := c.shadow ++ [⟨.mpu (off - lsgBase g), v &&& BitVec.ofNat 32 r.rw, 3⟩] }), true) := by
  unfold State.mpuStore
  rw [Nat.add_sub_cancel' hbase, hr]

theorem rd_onCore (s : State) (g : Group) (f : Core → Core) (o : Nat) : (s.onCore g f).rd o = s.rd o := rfl

theorem core_onCore_same (s : State) (g : Group) (f : Core → Core) : (s.onCore g f).core g = f (s.core g) := by
  rw [State.core, State.onCore, alter]
  exact Vector.getElem_set_self g.isLt

/-- The state after a group's MPU control write that is refused for overlap (R314): the refusal is counted and flagged. -/
def mpuRefused (s : State) (g : Group) : State :=
  (s.bump (MPU_REFUSE_CNT_CNT g)).putFlag (MPU_STAT_REFUSED g) true

theorem rd_mpuRefused_other (g : Group) {o : Nat} (hcnt : o ≠ MPU_REFUSE_CNT g) (hstat : o ≠ MPU_STAT g) :
    (mpuRefused s g).rd o = s.rd o := by
  rw [mpuRefused, State.putFlag, rd_put_other _ _ _ hstat, State.bump, State.addTo, rd_put_other _ _ _ hcnt]

theorem get_mpuRefused_count (g : Group) : (mpuRefused s g).get (MPU_REFUSE_CNT_CNT g) =
    min (s.get (MPU_REFUSE_CNT_CNT g) + 1) (2 ^ (MPU_REFUSE_CNT_CNT g).width - 1) := by
  have hother : (MPU_REFUSE_CNT_CNT g).off ≠ (MPU_STAT_REFUSED g).off := by
    simp only [MPU_REFUSE_CNT_CNT, MPU_STAT_REFUSED, MPU_REFUSE_CNT, MPU_STAT]
    omega
  rw [mpuRefused, State.putFlag, State.get, rd_put_other _ _ _ hother]
  exact get_bump_same s _ rfl

theorem flag_mpuRefused (g : Group) : (mpuRefused s g).flag (MPU_STAT_REFUSED g) = true :=
  flag_putFlag_same _ _ _ rfl Nat.one_pos

/-- A region is made of its three words and of the regions switched off. -/
theorem region_congr {g : Group} {k : Nat} (hprot : t.prot = s.prot) (hrd : ∀ o, MPU_BASE g k ≤ o → t.rd o = s.rd o) :
    t.region g k = s.region g k := by
  unfold State.region
  rw [hprot, hrd (MPU_BASE g k) (le_refl _), hrd (MPU_LIMIT g k) (by unfold MPU_BASE MPU_LIMIT; omega),
    hrd (MPU_ATTR g k) (by unfold MPU_BASE MPU_ATTR; omega)]

theorem region_mpuRefused (g : Group) (k : Nat) : (mpuRefused s g).region g k = s.region g k := by
  refine region_congr (by rw [mpuRefused, putFlag_prot, bump_prot]) fun o ho => ?_
  unfold MPU_BASE at ho
  exact rd_mpuRefused_other g (by unfold MPU_REFUSE_CNT; omega) (by unfold MPU_STAT; omega)

/-- Whether a group is at a boundary depends on the part, its core and two of its words. -/
theorem atBoundary_congr {g : Group} (hpart : t.part = s.part) (hcore : (t.core g).delay = (s.core g).delay)
    (hstat : t.rd (LS_STAT g) = s.rd (LS_STAT g)) (hpwr : t.rd (LS_PWR g) = s.rd (LS_PWR g)) :
    t.atBoundary g = s.atBoundary g := by
  unfold State.atBoundary State.hasGroup State.poweredOff State.flag State.get
  dsimp only [LS_STAT_STATE, LS_PWR_OFF]
  rw [hpart, hcore, hstat, hpwr]

theorem atBoundary_mpuRefused (g : Group) : (mpuRefused s g).atBoundary g = s.atBoundary g := by
  have hother {o : Nat} (h : o < 0x201000 + g.val * 0x10000) : (mpuRefused s g).rd o = s.rd o :=
    rd_mpuRefused_other g (by unfold MPU_REFUSE_CNT; omega) (by unfold MPU_STAT; omega)
  refine atBoundary_congr ?_ ?_ (hother (by unfold LS_STAT; omega)) (hother (by unfold LS_PWR; omega))
  · rw [mpuRefused, putFlag_part, bump_part]
  · rw [mpuRefused, State.core, putFlag_cores, bump_cores, State.core]

/-- The event MPU_CFG waits for the group's boundary (R314). -/
def withMpuCfg (off : Nat) (c : Core) : Core :=
  { c with due := c.due ++ [(.mpuCfg, BitVec.ofNat 32 (0x40000000 + off))] }

theorem atBoundary_withMpuCfg (g : Group) : (s.onCore g (withMpuCfg off)).atBoundary g = s.atBoundary g := by
  refine atBoundary_congr rfl ?_ rfl rfl
  rw [core_onCore_same]
  rfl

/-- What stands after a refused MPU control write while the event waits (R314). -/
theorem mpuRefused_withMpuCfg (s : State) (g : Group) (off : Nat) (t : State)
    (h : t = (mpuRefused s g).onCore g (withMpuCfg off)) :
    t.get (MPU_REFUSE_CNT_CNT g) = min (s.get (MPU_REFUSE_CNT_CNT g) + 1) (2 ^ (MPU_REFUSE_CNT_CNT g).width - 1) ∧
      t.flag (MPU_STAT_REFUSED g) = true ∧
      (t.core g).due = (s.core g).due ++ [(.mpuCfg, BitVec.ofNat 32 (0x40000000 + off))] ∧
      (∀ k, t.region g k = s.region g k) := by
  have hrd (o : Nat) : t.rd o = (mpuRefused s g).rd o := by
    rw [h, rd_onCore]
  have hprot : t.prot = (mpuRefused s g).prot := by rw [h, onCore_prot]
  refine ⟨?_, ?_, ?_, fun k => ?_⟩
  · rw [State.get, hrd, ← State.get, get_mpuRefused_count]
  · rw [State.flag, State.get, hrd, ← State.get, ← State.flag, flag_mpuRefused]
  · rw [h, core_onCore_same, mpuRefused, State.core, putFlag_cores, bump_cores, ← State.core, withMpuCfg]
  · rw [region_congr hprot fun o _ => hrd o, region_mpuRefused]

section
variable {g : Group} (hbase : lsgBase g ≤ off) (hmpu : isMpuCtl (off - lsgBase g) = true)
  (hopen : s.lockDenies g (0x40000000 + off) = false) (hr : regRow off = some r)
include hbase hmpu hopen hr

/-- A write that leaves the regions apart waits in the shadow for three packets. -/
theorem mpuPort_of_good (h : s.mpuBad g (off - lsgBase g) (v &&& BitVec.ofNat 32 r.rw) = false) :
    s.mpuPort g off v =
      s.onCore g (fun c => { c with shadow := c.shadow ++ [⟨.mpu (off - lsgBase g), v &&& BitVec.ofNat 32 r.rw, 3⟩] }) := by
  unfold State.mpuPort
  rw [writeReg_of_mpu hbase hmpu hopen, mpuStore_of_row hbase hr, if_neg (by simp [h])]
  rfl

/-- A write that makes regions overlap is refused; away from the boundary the event waits. -/
theorem mpuPort_of_bad (h : s.mpuBad g (off - lsgBase g) (v &&& BitVec.ofNat 32 r.rw) = true) (hb : s.atBoundary g = false) :
    s.mpuPort g off v = (mpuRefused s g).onCore g (withMpuCfg off) := by
  unfold State.mpuPort
  rw [writeReg_of_mpu hbase hmpu hopen, mpuStore_of_row hbase hr, if_pos h]
  refine if_neg ?_
  show ¬((mpuRefused s g).onCore g (withMpuCfg off)).atBoundary g = true
  rw [atBoundary_withMpuCfg, atBoundary_mpuRefused, hb]
  exact Bool.false_ne_true

end

end Sys2Proof.Machine
end

section
open Sys2Proof Sys2Proof.Machine

/-- Settles O51: the lemmas above follow a write from the command through the region locks, the part and the right to write
down to the field types, and each clause names the branch that its hypotheses leave. -/
theorem registerWritesFollowTheirFields : Obligations.RegisterWritesFollowTheirFields := by
  unfold Obligations.RegisterWritesFollowTheirFields
  refine ⟨?misplaced, ?locked, ?noBlock, ?absent, ?noRight, ?plain, ?outOfRange, ?staged, ?full, ?violation, ?lock, ?mpu⟩
  case misplaced => exact fun s off m v h => exec_registerWrite_of_misplaced h
  case locked =>
    intro s off m v ha hrange hdebug hmpu hlock
    exact exec_registerWrite_of_refused ⟨ha, hrange, hdebug, hmpu⟩ (regWrite_of_locked hlock)
  case noBlock =>
    intro s off m v ha hrange hdebug hmpu hopen hblock
    exact exec_registerWrite_of_refused ⟨ha, hrange, hdebug, hmpu⟩ (regWrite_of_noBlock hopen hblock)
  case absent =>
    intro s off m v ha hrange hdebug hmpu hopen hblock habsent
    exact exec_registerWrite_of_made ⟨ha, hrange, hdebug, hmpu⟩ (regWrite_of_absent hopen hblock habsent)
  case noRight =>
    intro s off m v r ha hrange hdebug hmpu hopen hblock hpresent hr hright
    have p : PortWord m off := ⟨ha, hrange, hdebug, hmpu⟩
    refine exec_registerWrite_of_refused (t := s.refuseAccess m off true) p ?_
    rw [regWrite_of_listed p hopen hblock hpresent hr, if_pos (by simp [hright])]
  case plain =>
    intro s off m v r ha hrange hdebug hmpu hopen hblock hpresent hr hright hret hact hrwl hst hok hstages
    have w : WritableWord s m off v r := ⟨⟨ha, hrange, hdebug, hmpu⟩, hopen, hblock, hpresent, hr, hright, hret⟩
    refine ⟨_, exec_registerWrite_of_plain w hact (.inl hstages), ?_⟩
    rw [plainWrite_of_unstaged hrwl hok hst]
    exact ⟨rd_wr_same _ _ _, fun o ho => rd_wr_other _ _ ho, rfl, rfl, rfl⟩
  case outOfRange =>
    intro s off m v r ha hrange hdebug hmpu hopen hblock hpresent hr hright hret hact hrwl hbad hroom
    have w : WritableWord s m off v r := ⟨⟨ha, hrange, hdebug, hmpu⟩, hopen, hblock, hpresent, hr, hright, hret⟩
    rw [exec_registerWrite_of_plain w hact hroom, plainWrite_of_outOfRange hrwl hbad]
  case staged =>
    intro s off m v r ha hrange hdebug hmpu hopen hblock hpresent hr hright hret hact hrwl hnow hst hw1c hfw hok _ hnew hroom
    have w : WritableWord s m off v r := ⟨⟨ha, hrange, hdebug, hmpu⟩, hopen, hblock, hpresent, hr, hright, hret⟩
    refine ⟨_, exec_registerWrite_of_plain w hact (.inr hroom), ?_⟩
    rw [plainWrite_of_staged hrwl hok hfw hnow hst hw1c, stageWrite_of_room (s := s.wr off (s.rd off)) hnew hroom]
    exact ⟨rfl, rd_wr_rd s off, rfl, rfl⟩
  case full =>
    intro s off m v r ha hrange hdebug hmpu hopen hblock hpresent hr hright hret hstages hval hfull
    have w : WritableWord s m off v r := ⟨⟨ha, hrange, hdebug, hmpu⟩, hopen, hblock, hpresent, hr, hright, hret⟩
    exact exec_registerWrite_of_refused w.toPortWord ((regWrite_of_writable w).trans (writeListed_of_full hstages hval hfull))
  case violation =>
    intro s off m v r ha hrange hdebug hmpu hopen hblock hpresent hr hright hret hact hrwl hlocked hstages
    have w : WritableWord s m off v r := ⟨⟨ha, hrange, hdebug, hmpu⟩, hopen, hblock, hpresent, hr, hright, hret⟩
    refine ⟨_, exec_registerWrite_of_plain w hact (.inl hstages), ?_⟩
    rw [plainWrite_of_locked hrwl hlocked]
    exact ⟨rd_rwlViolation_other (rwl_offset hr hrwl).1 (rwl_offset hr hrwl).2, get_rwlViolation_count, rd_rwlViolation_last,
      rest_rwlViolation⟩
  case lock =>
    intro s off m v r ha hrange hdebug hmpu hopen hblock hpresent hr hright hret hact hrwl hunlocked hok hfw hstages
    have w : WritableWord s m off v r := ⟨⟨ha, hrange, hdebug, hmpu⟩, hopen, hblock, hpresent, hr, hright, hret⟩
    refine ⟨_, exec_registerWrite_of_plain w hact (.inl hstages), ?_⟩
    rw [plainWrite_of_unlocked hrwl hunlocked hok hfw]
    exact ⟨rd_wr_same _ _ _, contains_sortBy_cons off s.locked, fun o ho => rd_wr_other _ _ ho, rfl, rfl⟩
  case mpu =>
    intro s g off v r ha hrange hbase hmpu hpresent hopen hr
    have hgroup : s.lockDenies g (0x40000000 + off) = false := hopen
    rw [exec_registerWrite_of_mpu ha hrange hbase hmpu hpresent]
    refine ⟨fun hgood => ?_, fun hbad hb => ⟨_, rfl, ?_⟩⟩
    · rw [mpuPort_of_good hbase hmpu hgroup hr hgood]
    · exact mpuRefused_withMpuCfg s g off _ (mpuPort_of_bad hbase hmpu hgroup hr hbad hb)

end

section
/-! Reading after writing: fields, words and 64-bit registers that lie apart from what is written. -/

namespace Sys2Proof.Machine

variable {s : State}

theorem get_wr_other {f : Fld} {off : Nat} (v : Word) (h : f.off ≠ off) : (s.wr off v).get f = s.get f := by
  rw [State.get, rd_wr_other _ _ h, State.get]

theorem get_wr64_other {f : Fld} {off : Nat} (v : Nat) (h1 : f.off ≠ off) (h2 : f.off ≠ off + 4) :
    (s.wr64 off v).get f = s.get f := by
  rw [State.get, rd_wr64_other _ _ _ h1 h2, State.get]

theorem get_put_otherWord {f g : Fld} (v : Nat) (h : g.off ≠ f.off) : (s.put f v).get g = s.get g :=
  get_wr_other _ h

theorem rd64_wr_other {off o : Nat} (v : Word) (h1 : o ≠ off) (h2 : o + 4 ≠ off) : (s.wr off v).rd64 o = s.rd64 o := by
  rw [State.rd64, rd_wr_other _ _ h1, rd_wr_other _ _ h2, State.rd64]

theorem rd64_put_other {f : Fld} {o : Nat} (v : Nat) (h1 : o ≠ f.off) (h2 : o + 4 ≠ f.off) : (s.put f v).rd64 o = s.rd64 o :=
  rd64_wr_other _ h1 h2

theorem rd64_lt (s : State) (off : Nat) : s.rd64 off < 2 ^ 64 := by
  have h1 := (s.rd off).isLt
  have h2 := (s.rd (off + 4)).isLt
  unfold State.rd64
  omega

theorem unsignedOf_lt (w : Nat) (v : Int) : unsignedOf w v < 2 ^ w := by
  have hpos : (0 : Int) < ((2 ^ w : Nat) : Int) := by exact_mod_cast Nat.two_pow_pos w
  have h := Int.emod_lt_of_pos v hpos
  unfold unsignedOf
  omega

/-- A 64-bit register written with a signed number. -/
theorem rd64_wrInt_same (s : State) (off : Nat) (v : Int) : (s.wrInt off v).rd64 off = unsignedOf 64 v := by
  rw [State.wrInt, rd64_wr64_same, Nat.mod_eq_of_lt (unsignedOf_lt 64 v)]

/-- The bits of a signed number in two's complement are those it was read from. -/
theorem unsignedOf_signedOf {w v : Nat} (h : v < 2 ^ w) : unsignedOf w (signedOf w v) = v := by
  have hmod : v % 2 ^ w = v := Nat.mod_eq_of_lt h
  have hself : ((v : Int) % ((2 ^ w : Nat) : Int)).toNat = v := by
    rw [← Int.natCast_mod, hmod, Int.toNat_natCast]
  unfold unsignedOf signedOf
  rw [hmod]
  split
  · rw [Int.sub_emod_right, hself]
  · exact hself

theorem get_lt (s : State) (f : Fld) : s.get f < 2 ^ f.width :=
  bitsOf_lt _ _ _

theorem get_raiseTo_same (s : State) (f : Fld) (n : Nat) (h : f.fits = true) :
    (s.raiseTo f n).get f = max (s.get f) (min n (2 ^ f.width - 1)) := by
  have hlt := get_lt s f
  rw [State.raiseTo, get_put_same _ _ _ h]
  exact Nat.mod_eq_of_lt (by omega)

/-! What is no register leaves every register. -/

@[simp] theorem rd_raise (s : State) (id detail o : Nat) : (s.raise id detail).rd o = s.rd o := rfl
@[simp] theorem rd_raiseSrc (s : State) (src o : Nat) : (s.raiseSrc src).rd o = s.rd o := rfl
@[simp] theorem rd_onEnc (s : State) (n : Enc) (f : EncState → EncState) (o : Nat) : (s.onEnc n f).rd o = s.rd o := rfl
@[simp] theorem get_raise (s : State) (id detail : Nat) (f : Fld) : (s.raise id detail).get f = s.get f := rfl
@[simp] theorem get_onEnc (s : State) (n : Enc) (g : EncState → EncState) (f : Fld) : (s.onEnc n g).get f = s.get f := rfl
@[simp] theorem flag_raise (s : State) (id detail : Nat) (f : Fld) : (s.raise id detail).flag f = s.flag f := rfl
@[simp] theorem flag_raiseSrc (s : State) (src : Nat) (f : Fld) : (s.raiseSrc src).flag f = s.flag f := rfl
@[simp] theorem flag_onEnc (s : State) (n : Enc) (g : EncState → EncState) (f : Fld) : (s.onEnc n g).flag f = s.flag f := rfl
@[simp] theorem rd64_raise (s : State) (id detail o : Nat) : (s.raise id detail).rd64 o = s.rd64 o := rfl
@[simp] theorem rd64_raiseSrc (s : State) (src o : Nat) : (s.raiseSrc src).rd64 o = s.rd64 o := rfl
@[simp] theorem rd64_onEnc (s : State) (n : Enc) (f : EncState → EncState) (o : Nat) : (s.onEnc n f).rd64 o = s.rd64 o := rfl

theorem get_eq_of_rd_eq {t : State} {f : Fld} (h : t.rd f.off = s.rd f.off) : t.get f = s.get f := by
  rw [State.get, h, State.get]

theorem flag_eq_of_rd_eq {t : State} {f : Fld} (h : t.rd f.off = s.rd f.off) : t.flag f = s.flag f := by
  rw [State.flag, get_eq_of_rd_eq h, State.flag]

theorem rd64_eq_of_rd_eq {t : State} {o : Nat} (h1 : t.rd o = s.rd o) (h2 : t.rd (o + 4) = s.rd (o + 4)) :
    t.rd64 o = s.rd64 o := by
  rw [State.rd64, h1, h2, State.rd64]

theorem flag_eq_of_get_eq {t : State} {f : Fld} (h : t.get f = s.get f) : t.flag f = s.flag f := by
  rw [State.flag, h, State.flag]

/-- What a repetition of a transformer keeps, where each round keeps it. -/
theorem each_preserves {α β : Type} (p : State → β) (l : List α) (f : State → α → State) (hf : ∀ t x, p (f t x) = p t) (s : State) :
    p (s.each l f) = p s := by
  unfold State.each
  induction l generalizing s with
  | nil => rfl
  | cons x r ih => rw [List.foldl_cons, ih, hf]

end Sys2Proof.Machine
end

section
/-! Source events, the boundary that is due, and the seal point (R38 to R43, R448): a lemma for each way that
`boundaryDue` goes. -/

namespace Sys2Proof.Machine

variable {s : State}

/-! ### The boundary that is due -/

theorem boundaryDue_of_stopped (h : s.kiln.running = false) : s.boundaryDue = none := by
  simp [State.boundaryDue, h]

theorem boundaryDue_of_fire {x : TwFire} (hr : s.kiln.running = true) (h : s.tw.fire = some x) :
    s.boundaryDue = some ⟨x.fn, x.cause, some x.commits⟩ := by
  simp [State.boundaryDue, hr, h]

theorem boundaryDue_of_follower (hr : s.kiln.running = true) (hf : s.tw.fire = none) (h : s.follows = true) :
    s.boundaryDue = if s.tw.fireLost then some ⟨s.fn + 1, s.ownCause, some 0⟩ else none := by
  simp [State.boundaryDue, hr, hf, h]

/-- A device that follows no leader takes its boundary from FMIN, FMAX and its own events. -/
theorem boundaryDue_of_own (hr : s.kiln.running = true) (hf : s.tw.fire = none) (h : s.follows = false) :
    s.boundaryDue = if s.tt - s.rd64 TB_BTT < s.get TB_FMIN_FMIN then none
      else if s.ownCause ≠ 2 ∨ s.get TB_FMAX_FMAX ≤ s.tt - s.rd64 TB_BTT then some ⟨s.fn + 1, s.ownCause, none⟩
      else none := by
  simp [State.boundaryDue, hr, hf, h]

/-- The cause is FMAX exactly where no event that waits has been recognised by now. -/
theorem ownCause_eq_two_iff : s.ownCause = 2 ↔ ¬∃ e, s.kiln.src.head? = some e ∧ e.tt ≤ s.tt := by
  unfold State.ownCause
  cases s.kiln.src.head? with
  | none => simp
  | some e =>
    by_cases h : s.tt < e.tt
    · simp [h]
    · have hne : (if e.tt < s.rd64 TB_BTT + s.get TB_FMIN_FMIN then 3 else if e.fireIn then 1 else 0) ≠ 2 := by
        split_ifs <;> decide
      simpa [h, Nat.not_lt.1 h] using hne

theorem exec_firingBoundary (s : State) (cw : CommitWindow) (peer : Bool) :
    exec (.firingBoundary cw peer) s =
      .next (match s.boundaryDue with | some b => s.boundary b cw.kclk cw.missed peer | none => s) := rfl

/-! ### The seal point -/

theorem sealDuePoint_iff : s.sealDuePoint = true ↔ s.kiln.running = true ∧ s.flag TB_STAT_SEALED = false ∧ 1 ≤ s.fn ∧
    s.rd64 TB_BTT + s.get TB_FMIN_FMIN ≤ s.tt + s.get TB_SEAL_MARGIN_MARGIN := by
  simp [State.sealDuePoint, and_assoc]

theorem exec_sealPoint_of_due (h : s.sealDuePoint = true) :
    exec .sealPoint s = .next ((((s.putFlag TB_STAT_SEALED true).raiseSrc 60).veSeal.onTw
      (fun t => { t with results := ((s.putFlag TB_STAT_SEALED true).raiseSrc 60).veSeal.ve.digest })).cancelsDone) := by
  show execSealPoint s = _
  rw [execSealPoint, if_pos h]

theorem exec_sealPoint_of_not_due (h : ¬s.sealDuePoint = true) : exec .sealPoint s = .next s := by
  show execSealPoint s = _
  rw [execSealPoint, if_neg h]

end Sys2Proof.Machine
end

section
open Sys2Proof Sys2Proof.Machine

/-- Settles O15: the seal point acts exactly where the four conditions of `sealDuePoint` hold. -/
theorem sealPoint : Obligations.SealPoint := by
  unfold Obligations.SealPoint
  refine ⟨fun s hrun hopen hfn htt => exec_sealPoint_of_due (sealDuePoint_iff.2 ⟨hrun, hopen, hfn, htt⟩), fun s h => ?_⟩
  refine exec_sealPoint_of_not_due fun hdue => ?_
  obtain ⟨hrun, hopen, hfn, -⟩ := sealDuePoint_iff.1 hdue
  rcases h with h | h | h
  · simp [h] at hopen
  · omega
  · simp [h] at hrun

/-- Settles O13: the boundaries by the cases of `boundaryDue`. -/
theorem firingSourcesAndBoundaries : Obligations.FiringSourcesAndBoundaries := by
  unfold Obligations.FiringSourcesAndBoundaries
  refine ⟨?edge, ?noEdge, ?overspeed, ?noOverspeed, ?lost, fun s => boundaryDue_of_stopped, ?early, ?due, ?quiet,
    fun s x => boundaryDue_of_fire, fun s => boundaryDue_of_follower, ?notDue⟩
  case edge =>
    intro s hrun hsrc
    show execFireInEdge _ s = _ ∧ execFireInEdge _ s = _
    constructor
    · simp [execFireInEdge, State.recognise, State.onKiln, hrun, hsrc]
    · simp [execFireInEdge]
  case noEdge =>
    intro s r h
    show execFireInEdge _ s = _
    rcases h with h | h <;> simp [execFireInEdge, h]
  case overspeed =>
    intro s hrun hraised
    show execFiringOverspeed s = _
    simp [execFiringOverspeed, hrun, hraised]
  case noOverspeed =>
    intro s hrun
    show execFiringOverspeed s = _
    simp [execFiringOverspeed, Nat.not_le.2 hrun]
  case lost =>
    intro s hsrc hquiet hlost
    show execTbSrcLost s = _
    simp [execTbSrcLost, hsrc, hquiet, hlost]
  case early =>
    intro s hrun hfire hown hmin
    rw [boundaryDue_of_own hrun hfire hown, if_pos hmin]
  case due =>
    intro s hrun hfire hown hmin h
    have hcome : s.ownCause ≠ 2 ∨ s.get TB_FMAX_FMAX ≤ s.tt - s.rd64 TB_BTT :=
      h.imp_left fun he => by rw [ne_eq, ownCause_eq_two_iff]; exact not_not.2 he
    rw [boundaryDue_of_own hrun hfire hown, if_neg (Nat.not_lt.2 hmin), if_pos hcome]
    exact ⟨_, rfl, rfl, rfl, ownCause_eq_two_iff⟩
  case quiet =>
    intro s hrun hfire hown hmax hsrc
    have hcause : s.ownCause = 2 := ownCause_eq_two_iff.2 (by simp [hsrc])
    rw [boundaryDue_of_own hrun hfire hown, if_neg (c := _ ∨ _) (by simp [hcause, Nat.not_le.2 hmax]), ite_self]
  case notDue =>
    intro s cw peer h
    rw [exec_firingBoundary, h]

end

section
/-! The latches of t0 and the end of the commit window (R44, R45). -/

namespace Sys2Proof.Machine

/-! ### The end of the window -/

theorem get_window_max (s : State) (cw : Nat) (missed : Bool) :
    min cw (2 ^ TB_CW_MAX_KCLK.width - 1) ≤ (s.window cw missed).get TB_CW_MAX_KCLK := by
  have hmax : min cw (2 ^ TB_CW_MAX_KCLK.width - 1) ≤ (s.raiseTo TB_CW_MAX_KCLK cw).get TB_CW_MAX_KCLK := by
    rw [get_raiseTo_same _ _ _ rfl]
    exact le_max_right _ _
  unfold State.window
  dsimp only
  split
  · rw [get_raise, State.putFlag, get_put_otherWord _ (by decide)]
    exact hmax
  · exact hmax

theorem window_of_overrun (s : State) {cw : Nat} {missed : Bool} (h : missed = true ∨ 500 < cw) :
    s.window cw missed = ((s.raiseTo TB_CW_MAX_KCLK cw).putFlag TB_STAT_CW_OVERRUN true).raise F_COMMIT_OVERRUN 0 := by
  unfold State.window
  exact if_pos (by simpa using h)

/-- An overrun shows, and its fault is the last one sent. -/
theorem window_shows_overrun (s : State) {cw : Nat} {missed : Bool} (h : missed = true ∨ 500 < cw) :
    (s.window cw missed).flag TB_STAT_CW_OVERRUN = true ∧
      ((s.window cw missed).fcuIn.map (fun e => e.id)).getLast? = some F_COMMIT_OVERRUN := by
  rw [window_of_overrun s h]
  refine ⟨?_, by simp [State.raise]⟩
  rw [flag_raise, flag_putFlag_same _ _ _ rfl (by decide)]

/-- A boundary ends with its window. -/
theorem boundary_ends_with_window (s : State) (b : Due) (cw : Nat) (missed peer : Bool) :
    ∃ u : State, s.boundary b cw missed peer = u.window cw missed :=
  ⟨_, rfl⟩

/-! ### The latches -/

/-- The latches of t0 but for those of the domains. -/
def latchTime (s : State) (fn cause : Nat) : State :=
  ((({ s.put TB_PERIOD_PERIOD (if fn ≤ 1 then 0 else min (s.tt - s.rd64 TB_BTT) (2 ^ 24 - 1)) with fn := fn } : State).wr64
    TB_BTT s.tt).put TB_STAT_CAUSE cause).putFlag TB_STAT_SEALED false

/-- The position and the velocity of a domain latched. -/
def latchDom (s : State) (d : Dom) : State :=
  (s.wrInt (DOM_BPV d) (s.pv d)).wr (DOM_BVEL d) (BitVec.ofInt 32 (s.velocity d).1)

theorem latchBoundary_eq (s : State) (fn cause : Nat) :
    s.latchBoundary fn cause = (latchTime s fn cause).each (allFin 4) latchDom := by
  unfold State.latchBoundary latchTime
  by_cases h : fn ≤ 1 <;> simp only [h, if_true, if_false] <;> rfl

theorem rd_latchDom_other (s : State) (d : Dom) {o : Nat} (h : o < 0x12000) : (latchDom s d).rd o = s.rd o := by
  have hbvel : o ≠ DOM_BVEL d := by unfold DOM_BVEL; omega
  have hbpv : o ≠ DOM_BPV d ∧ o ≠ DOM_BPV d + 4 := by unfold DOM_BPV; omega
  rw [latchDom, rd_wr_other _ _ hbvel, State.wrInt, rd_wr64_other _ _ _ hbpv.1 hbpv.2]

/-- What no domain's latches touch is as the latches before them leave it. -/
theorem latchBoundary_keeps {β : Type} (p : State → β) (hp : ∀ t d, p (latchDom t d) = p t) (s : State) (fn cause : Nat) :
    p (s.latchBoundary fn cause) = p (latchTime s fn cause) := by
  rw [latchBoundary_eq, each_preserves p _ _ hp]

/-- The latches of the domains leave the words of TB. -/
theorem rd_latchBoundary (s : State) (fn cause : Nat) {o : Nat} (h : o < 0x12000) :
    (s.latchBoundary fn cause).rd o = (latchTime s fn cause).rd o :=
  latchBoundary_keeps (fun t => t.rd o) (fun t d => rd_latchDom_other t d h) s fn cause

theorem latchTime_btt (s : State) (fn cause : Nat) (h : s.tt < 2 ^ 64) : (latchTime s fn cause).rd64 TB_BTT = s.tt := by
  have hoff : TB_BTT ≠ TB_STAT ∧ TB_BTT + 4 ≠ TB_STAT := by decide
  rw [latchTime, State.putFlag, rd64_put_other _ hoff.1 hoff.2, rd64_put_other _ hoff.1 hoff.2, rd64_wr64_same,
    Nat.mod_eq_of_lt h]

theorem latchTime_cause (s : State) (fn cause : Nat) :
    (latchTime s fn cause).get TB_STAT_CAUSE = cause % 2 ^ TB_STAT_CAUSE.width := by
  rw [latchTime, State.putFlag, get_put_other _ _ _ _ rfl rfl, get_put_same _ _ _ rfl]

theorem latchTime_sealed (s : State) (fn cause : Nat) : (latchTime s fn cause).flag TB_STAT_SEALED = false :=
  flag_putFlag_same _ _ _ rfl (by decide)

theorem latchTime_period (s : State) (fn cause : Nat) : (latchTime s fn cause).get TB_PERIOD_PERIOD =
    if fn ≤ 1 then 0 else min (s.tt - s.rd64 TB_BTT) (2 ^ 24 - 1) := by
  have hlt : (if fn ≤ 1 then 0 else min (s.tt - s.rd64 TB_BTT) (2 ^ 24 - 1)) < 2 ^ TB_PERIOD_PERIOD.width := by
    show _ < 2 ^ 24
    split <;> omega
  rw [latchTime, State.putFlag, get_put_otherWord _ (by decide), get_put_otherWord _ (by decide),
    get_wr64_other _ (by decide) (by decide)]
  exact (get_put_same s _ _ rfl).trans (Nat.mod_eq_of_lt hlt)

/-- What lies outside the registers and FN is not latched. -/
theorem latchBoundary_rest (s : State) (fn cause : Nat) : (s.latchBoundary fn cause).fn = fn ∧
    (s.latchBoundary fn cause).mem = s.mem ∧ (s.latchBoundary fn cause).stage = s.stage ∧ (s.latchBoundary fn cause).te = s.te :=
  ⟨latchBoundary_keeps State.fn (fun _ _ => rfl) s fn cause, latchBoundary_keeps State.mem (fun _ _ => rfl) s fn cause,
    latchBoundary_keeps State.stage (fun _ _ => rfl) s fn cause, latchBoundary_keeps State.te (fun _ _ => rfl) s fn cause⟩

end Sys2Proof.Machine
end

section
open Sys2Proof Sys2Proof.Machine

/-- Settles O14: the window closes the boundary, and the latches of t0 are read off word by word. -/
theorem boundaryWindowAndLatches : Obligations.BoundaryWindowAndLatches := by
  unfold Obligations.BoundaryWindowAndLatches
  refine ⟨fun s b cw peer h => ?_, fun s fn cause htt => ?_⟩
  · obtain ⟨u, hu⟩ := boundary_ends_with_window s b cw.kclk cw.missed peer
    refine ⟨s.boundary b cw.kclk cw.missed peer, by rw [exec_firingBoundary, h], rfl, ?_⟩
    rw [hu]
    exact ⟨get_window_max u _ _, window_shows_overrun u⟩
  · obtain ⟨hfn, hmem, hstage, hte⟩ := latchBoundary_rest s fn cause
    refine ⟨hfn, ?_, ?_, ?_, ?_, hmem, hstage, hte⟩
    · rw [rd64_eq_of_rd_eq (rd_latchBoundary s fn cause (by decide)) (rd_latchBoundary s fn cause (by decide)), latchTime_btt s _ _ htt]
    · rw [get_eq_of_rd_eq (rd_latchBoundary s fn cause (by decide)), latchTime_cause]
    · rw [flag_eq_of_rd_eq (rd_latchBoundary s fn cause (by decide)), latchTime_sealed]
    · rw [get_eq_of_rd_eq (rd_latchBoundary s fn cause (by decide)), latchTime_period]

end

section
/-! Domain presets, domains at rest, and the conversion service (R28, R29, R36, R46): a lemma for each way that they go. -/

namespace Sys2Proof.Machine
variable {s : State}

/-! ### Domain presets (R29, R46) -/

theorem exec_domPresetGo (s : State) (d : Dom) (m : Master) :
    exec (.domPresetGo d m) s = .next (s.portal m (DOM_PRESET_CTRL d) (m == 0) (s.stageBy m (DOM_PRESET_CTRL d) 1)) := rfl

/-- A write that finds no entry of its word and no room in the stage is refused. -/
theorem stageWrite_of_full {m : Master} {off : Nat} {v : Word} (h : s.stage.find? (fun e => e.off = off) = none)
    (hfull : 1024 ≤ s.stagedNext) : s.stageWrite m off v = (s.putFlag TB_STAT_CFG_REJ true, false) := by
  unfold State.stageWrite
  rw [h]
  exact if_pos hfull

theorem stageBy_of_room {m : Master} {off : Nat} {v : Word} (h : s.stage.find? (fun e => e.off = off) = none)
    (hroom : s.stagedNext < 1024) :
    s.stageBy m off v = { s with stage := s.stage ++ [⟨off, v, m, s.stagings⟩], stagings := s.stagings + 1 } := by
  rw [State.stageBy, stageWrite_of_room h hroom]

theorem stageBy_of_full {m : Master} {off : Nat} {v : Word} (h : s.stage.find? (fun e => e.off = off) = none)
    (hfull : 1024 ≤ s.stagedNext) : s.stageBy m off v = (s.putFlag TB_STAT_CFG_REJ true).storeError m off := by
  rw [State.stageBy, stageWrite_of_full h hfull]

/-! ### Domains at rest (R28) -/

theorem syncStopped_of_agreed {d : Dom} (h : s.flag (DOM_STAT_STOPPED d) = decide ((s.netMotion d).natAbs < 4 * 256 * 2 ^ 24)) :
    s.syncStopped d = s := by
  unfold State.syncStopped
  exact if_pos h.symm

theorem syncStopped_of_stopped {d : Dom} (hrest : (s.netMotion d).natAbs < 4 * 256 * 2 ^ 24)
    (h : s.flag (DOM_STAT_STOPPED d) = false) :
    s.syncStopped d = (s.putFlag (DOM_STAT_STOPPED d) true).raiseSrc (50 + d) := by
  have hstopped : decide ((s.netMotion d).natAbs < 4 * 256 * q24) = true := decide_eq_true hrest
  simp [State.syncStopped, hstopped, h]

/-! ### The conversion service (R36) -/

theorem bank_setBank_same (s : State) (d : Dom) (m : Master) (b : CvtBank) : (s.setBank d m b).bank d m = b :=
  lookup_setKey_same _ _ _ _

/-- The banks of different domains or masters lie apart. -/
theorem bankKey_injective {d e : Dom} {m k : Master} (h : d.val * 16 + m.val = e.val * 16 + k.val) : (d, m) = (e, k) := by
  have hd : d = e := Fin.ext (by omega)
  have hm : m = k := Fin.ext (by omega)
  rw [hd, hm]

theorem bank_setBank_other {d e : Dom} {m k : Master} (b : CvtBank) (h : (e, k) ≠ (d, m)) :
    (s.setBank d m b).bank e k = s.bank e k := by
  have hkey : e.val * 16 + k.val ≠ d.val * 16 + m.val := fun x => h (bankKey_injective x)
  exact congrArg (fun o : Option CvtBank => o.getD {}) (lookup_setKey_other _ _ _ hkey)

/-- The bank of a conversion that has begun. -/
def CvtBank.started (b : CvtBank) (c : Cvt) : CvtBank :=
  { b with busy := some (toIx 8 c.code,
    (if c.code < 2 then BitVec.ofNat 64 (unsignedOf 64 c.out) else 0),
    (if c.code < 2 then BitVec.ofNat 32 (min c.err (2 ^ 32 - 1)) else 0)) }

theorem startCvt_of_idle {d : Dom} {m : Master} (c : Cvt) (h : (s.bank d m).busy = none) :
    s.startCvt d m c = s.setBank d m ((s.bank d m).started c) := by
  simp [State.startCvt, CvtBank.started, h]

theorem startCvt_of_busy {d : Dom} {m : Master} (c : Cvt) (h : (s.bank d m).busy ≠ none) : s.startCvt d m c = s :=
  if_pos (Option.isSome_iff_ne_none.2 h)

theorem bank_startCvt_other {d e : Dom} {m k : Master} (c : Cvt) (h : (e, k) ≠ (d, m)) :
    (s.startCvt d m c).bank e k = s.bank e k := by
  by_cases hidle : (s.bank d m).busy = none
  · rw [startCvt_of_idle c hidle, bank_setBank_other _ h]
  · rw [startCvt_of_busy c hidle]

theorem exec_domCvtT2p (s : State) (d : Dom) (m : Master) :
    exec (.domCvtT2p d m) s = .next (s.startCvt d m (s.t2p d (s.bank d m).inp.toNat)) := rfl

theorem exec_domCvtP2t (s : State) (d : Dom) (m : Master) :
    exec (.domCvtP2t d m) s = .next (s.startCvt d m (s.p2t d (s.bank d m).inp.toInt)) := rfl

theorem exec_domCvtComplete_of_busy {d : Dom} {m : Master} {r : Fin 8} {o : DWord} {e : Word}
    (h : (s.bank d m).busy = some (r, o, e)) :
    exec (.domCvtComplete d m) s =
      .next (s.setBank d m { s.bank d m with busy := none, result := r, out := o, err := e }) := by
  show execDomCvtComplete d m s = _
  simp [execDomCvtComplete, h]

end Sys2Proof.Machine
end

section
open Sys2Proof Sys2Proof.Machine

/-- Settles O16: a preset is a write at its port, and a conversion touches the bank of its domain and master alone. -/
theorem domainCommandsAndConversions : Obligations.DomainCommandsAndConversions := by
  unfold Obligations.DomainCommandsAndConversions
  refine ⟨?staged, ?full, ?refused, ?stops, ?agreed, fun s d m _ => ⟨exec_domCvtT2p s d m, exec_domCvtP2t s d m⟩, ?begun,
    ?busy, ?complete, ?apart⟩
  case staged =>
    intro s d hreach hnew hroom
    rw [exec_domPresetGo, beq_self_eq_true, portal_of_allowed hreach, stageBy_of_room hnew hroom]
  case full =>
    intro s d hreach hnew hfull
    rw [exec_domPresetGo, beq_self_eq_true, portal_of_allowed hreach, stageBy_of_full hnew hfull]
  case refused =>
    intro s d m hm hreach
    rw [exec_domPresetGo, beq_false_of_ne hm, portal_of_refused hreach]
  case stops => exact fun s d hrest h => congrArg _ (syncStopped_of_stopped hrest h)
  case agreed => exact fun s d h => congrArg _ (syncStopped_of_agreed h)
  case begun =>
    intro s d m c hidle hcode
    rw [startCvt_of_idle c hidle, bank_setBank_same]
    refine ⟨_, _, _, rfl, toIx_val hcode, fun h => ?_, rfl, rfl⟩
    exact ⟨if_neg (Nat.not_lt.2 h), if_neg (Nat.not_lt.2 h)⟩
  case busy =>
    intro s d m hbusy
    rw [exec_domCvtT2p, exec_domCvtP2t, startCvt_of_busy _ hbusy, startCvt_of_busy _ hbusy]
    exact ⟨rfl, rfl⟩
  case complete =>
    intro s d m r o e hbusy
    refine ⟨_, exec_domCvtComplete_of_busy hbusy, ?_⟩
    rw [bank_setBank_same]
    exact ⟨rfl, rfl, rfl, rfl, fun d2 m2 h => bank_setBank_other _ h, rfl, rfl⟩
  case apart =>
    intro s t d e m k hne h
    rw [exec_domCvtT2p, exec_domCvtP2t] at h
    rcases h with h | h <;> cases h <;> exact bank_startCvt_other _ hne.symm

end

section
/-! Encoders: the bits of `ENC_STAT` and an encoder's own record (R18 to R21). -/

namespace Sys2Proof.Machine

variable {s : State}

/-! ### A bit of `ENC_STAT` set -/

theorem setEncStat_of_set {f : Fld} (h : s.flag f = true) : s.setEncStat f = s :=
  if_pos h

theorem setEncStat_of_clear {f : Fld} (h : s.flag f = false) : s.setEncStat f = (s.putFlag f true).raiseSrc 58 :=
  if_neg (by simp [h])

/-- Setting a bit leaves what neither a register write nor an event touches. -/
theorem setEncStat_preserves {β : Type} (p : State → β) (f : Fld) (hp : p ((s.putFlag f true).raiseSrc 58) = p s) :
    p (s.setEncStat f) = p s := by
  unfold State.setEncStat
  split
  · rfl
  · exact hp

theorem flag_setEncStat_same (s : State) (f : Fld) (h : f.fits = true) (hw : 0 < f.width) : (s.setEncStat f).flag f = true := by
  cases hf : s.flag f with
  | true => rw [setEncStat_of_set hf, hf]
  | false => rw [setEncStat_of_clear hf, flag_raiseSrc, flag_putFlag_same _ _ _ h hw]

theorem flag_setEncStat_other (s : State) (f g : Fld) (hf : f.fits = true) (h : f.apart g = true) :
    (s.setEncStat f).flag g = s.flag g :=
  setEncStat_preserves (fun t => t.flag g) f ((flag_raiseSrc _ _ _).trans (flag_put_other s f g _ hf h))

theorem rd_setEncStat_other (s : State) (f : Fld) {o : Nat} (h : o ≠ f.off) : (s.setEncStat f).rd o = s.rd o :=
  setEncStat_preserves (fun t => t.rd o) f ((rd_raiseSrc _ _ _).trans (rd_put_other s f _ h))

@[simp] theorem setEncStat_kiln (s : State) (f : Fld) : (s.setEncStat f).kiln = s.kiln :=
  setEncStat_preserves State.kiln f rfl

@[simp] theorem setEncStat_mem (s : State) (f : Fld) : (s.setEncStat f).mem = s.mem :=
  setEncStat_preserves State.mem f rfl

@[simp] theorem setEncStat_tt (s : State) (f : Fld) : (s.setEncStat f).tt = s.tt :=
  setEncStat_preserves State.tt f rfl

@[simp] theorem setEncStat_fcuIn (s : State) (f : Fld) : (s.setEncStat f).fcuIn = s.fcuIn :=
  setEncStat_preserves State.fcuIn f rfl

/-! ### One encoder's state -/

theorem enc_onEnc_same (s : State) (n : Enc) (f : EncState → EncState) :
    (s.onEnc n f).kiln.enc.get n = f (s.kiln.enc.get n) := by
  rw [State.onEnc, alter]
  exact Vector.getElem_set_self n.isLt

@[simp] theorem onEnc_dom (s : State) (n : Enc) (f : EncState → EncState) : (s.onEnc n f).kiln.dom = s.kiln.dom := rfl

end Sys2Proof.Machine
end

section
/-! What the wheel, the outputs and the modes leave alone: any property of states that does not speak of registers, memory, the
engines' own state, and faults and events on their way. -/

namespace Sys2Proof.Machine

/-- A property that no update of registers, memory, the wheel, the outputs, the memories' guards, the Verify Engine, the twin
link, the counter of free values, and faults and events on their way touches. -/
def Blind (P : State → Prop) : Prop :=
  ∀ (s : State) regs mem fcuIn srcIn ve wheel outs prot tw draws, P s →
    P { s with regs := regs, mem := mem, fcuIn := fcuIn, srcIn := srcIn, ve := ve, wheel := wheel, outs := outs, prot := prot,
               tw := tw, draws := draws }

variable {P : State → Prop} (hP : Blind P) {s t : State}

theorem holds_ite {c : Prop} [Decidable c] (h : P s) (k : P t) : P (if c then s else t) := by
  split
  · exact h
  · exact k

theorem holds_when (h : P s) (c : Bool) (f : State → State) (hf : ∀ s, P s → P (f s)) : P (s.when c f) :=
  holds_ite (hf s h) h

theorem holds_each {α : Type} (h : P s) (l : List α) (f : State → α → State) (hf : ∀ s x, P s → P (f s x)) : P (s.each l f) := by
  unfold State.each
  induction l generalizing s with
  | nil => exact h
  | cons x r ih => exact ih (hf s x h)

include hP

namespace Blind

theorem wr (h : P s) (off : Nat) (v : Word) : P (s.wr off v) := hP s _ _ _ _ _ _ _ _ _ _ h
theorem put (h : P s) (f : Fld) (v : Nat) : P (s.put f v) := hP.wr h _ _
theorem putFlag (h : P s) (f : Fld) (b : Bool) : P (s.putFlag f b) := hP.put h _ _
theorem wr64 (h : P s) (off v : Nat) : P (s.wr64 off v) := hP.wr (hP.wr h _ _) _ _
theorem bump (h : P s) (f : Fld) : P (s.bump f) := hP.put h _ _
theorem bumpWrap (h : P s) (f : Fld) : P (s.bumpWrap f) := hP.put h _ _
theorem raiseTo (h : P s) (f : Fld) (n : Nat) : P (s.raiseTo f n) := hP.put h _ _
theorem raise (h : P s) (id detail : Nat) : P (s.raise id detail) := hP s _ _ _ _ _ _ _ _ _ _ h
theorem raiseSrc (h : P s) (src : Nat) : P (s.raiseSrc src) := hP s _ _ _ _ _ _ _ _ _ _ h
theorem onOuts (h : P s) (f : Outs → Outs) : P (s.onOuts f) := hP s _ _ _ _ _ _ _ _ _ _ h
theorem onChan (h : P s) (c : Chan) (f : ChanState → ChanState) : P (s.onChan c f) := hP.onOuts h _
theorem onWheel (h : P s) (f : Wheel → Wheel) : P (s.onWheel f) := hP s _ _ _ _ _ _ _ _ _ _ h
theorem onProt (h : P s) (f : Prot → Prot) : P (s.onProt f) := hP s _ _ _ _ _ _ _ _ _ _ h
theorem onVe (h : P s) (f : Verify → Verify) : P (s.onVe f) := hP s _ _ _ _ _ _ _ _ _ _ h
theorem onTw (h : P s) (f : Twin → Twin) : P (s.onTw f) := hP s _ _ _ _ _ _ _ _ _ _ h
theorem setBytes (h : P s) (a : Nat) (b : Bytes) : P (s.setBytes a b) := hP s _ _ _ _ _ _ _ _ _ _ h
theorem draw (h : P s) : P s.draw.2 := hP s _ _ _ _ _ _ _ _ _ _ h

/-! ### Memory through the lattice code -/

theorem lastError (h : P s) (i a kind : Nat) : P (s.lastError i a kind) := hP.wr (hP.wr h _ _) _ _

theorem tileFault (h : P s) (t : Nat) : P (s.tileFault t) := by
  unfold State.tileFault
  exact hP.onVe (hP.raiseSrc (hP.raise (hP.putFlag (holds_when h _ _ (fun _ k => hP.putFlag k _ _)) _ _) _ _) _) _

theorem countCorrection (h : P s) (i : Nat) : P (s.countCorrection i) :=
  holds_ite (hP.raise (hP.onProt h _) _ _) (hP.onProt h _)

theorem recordError (h : P s) (i a : Nat) (o : LatOutcome) : P (s.recordError i a o) := by
  unfold State.recordError
  split
  · exact h
  · exact hP.onProt (hP.countCorrection (holds_ite (hP.bump h _) (hP.lastError (hP.bump h _) _ _ _)) _) _
  · exact hP.onProt (holds_ite h (hP.lastError (hP.bump h _) _ _ _)) _
  · extract_lets s1
    have k1 : P s1 := holds_ite (hP.tileFault (hP.bump h _) _) (hP.lastError (hP.bump h _) _ _ _)
    split
    · exact hP.raise k1 _ _
    · exact k1

theorem setWord64 (h : P s) (a : Nat) (d : DWord) : P (s.setWord64 a d) :=
  holds_ite (hP.wr64 h _ _) (hP.setBytes h _ _)

theorem recordDm (h : P s) (a : Nat) (o : LatOutcome) : P (s.recordDm a o) := by
  unfold State.recordDm
  extract_lets s0 corrected
  have k0 : P s0 := hP.wr64 h _ _
  have kc : P (corrected s0) := holds_ite (hP.raise (hP.onProt (hP.bump k0 _) _) _ _) (hP.onProt (hP.bump k0 _) _)
  cases o with
  | clean => exact h
  | dataBit b => exact hP.onProt (hP.setWord64 kc _ _) _
  | checkBit => exact hP.onProt kc _
  | uncorrectable => exact hP.bump k0 _

theorem readWord (h : P s) (a : Nat) : P (s.readWord a).1 := by
  unfold State.readWord
  split
  · exact holds_ite (hP.recordDm h _ _) h
  · exact hP.recordError h _ _ _

theorem writeWord (h : P s) (a : Nat) (d : DWord) : P (s.writeWord a d) := by
  unfold State.writeWord
  exact hP.onProt (hP.onProt (hP.setWord64 h _ _) _) _

theorem writeInWord (h : P s) (a off : Nat) (b : Bytes) : P (s.writeInWord a off b).1 := by
  have k := hP.readWord h a
  unfold State.writeInWord
  split
  · exact hP.writeWord h _ _
  split
  next s1 e => rw [e] at k; exact k
  next s1 d e => rw [e] at k; exact hP.writeWord k _ _

theorem latWrite (h : P s) (fuel a : Nat) (b : Bytes) : P (s.latWrite fuel a b).1 := by
  induction fuel generalizing s a b with
  | zero => exact h
  | succ fuel ih =>
    cases b with
    | nil => exact h
    | cons x r => exact ih (hP.writeInWord h _ _ _) _ _

theorem latRead (h : P s) (fuel a n : Nat) : P (s.latRead fuel a n).1 := by
  induction fuel generalizing s a n with
  | zero => exact h
  | succ fuel ih =>
    cases n with
    | zero => exact h
    | succ n => exact ih (hP.readWord h _) _ _

/-! ### Channels -/

theorem dropTest (h : P s) (n : Chan) : P (s.dropTest n) :=
  holds_ite (hP.onChan h _ _) h

theorem setLogic (h : P s) (n : Chan) (l : Bool) (at_ : Nat) : P (s.setLogic n l at_) :=
  holds_ite h (hP.onChan (hP.putFlag h _ _) _ _)

theorem syncChan (h : P s) (n : Chan) (at_ : Nat) : P (s.syncChan n at_) :=
  have k := hP.putFlag h (PEO_STAT_PULSING n) _
  holds_ite k (hP.wr64 (hP.putFlag (hP.putFlag k _ _) _ _) _ _)

theorem endPulse (h : P s) (n : Chan) (at_ : Nat) : P (s.endPulse n at_) :=
  holds_ite (hP.setLogic (hP.onChan h _ _) _ _ _) h

theorem startPulse (h : P s) (n : Chan) (p : Pulse) (at_ : Nat) : P (s.startPulse n p at_) :=
  hP.setLogic (hP.onChan (hP.draw h) _ _) _ _ _

theorem settleChan (h : P s) (old : State) (n : Chan) (at_ : Nat) : P (s.settleChan old n at_) :=
  hP.syncChan (holds_when h _ _ (fun _ k => hP.onChan k _ _)) _ _

theorem actOn (h : P s) (e : Event) (up : Bool) (at_ : Nat) : P (s.actOn e up at_).1 := by
  unfold State.actOn
  extract_lets n s0 s1 w pmax s2
  have k0 : P s0 := hP.putFlag (hP.bump h _) _ _
  split
  · exact k0
  · have k1 : P s1 := hP.dropTest k0 _
    show P s2
    unfold s2
    split
    · exact hP.setLogic k1 _ _ _
    · exact hP.setLogic (hP.onChan k1 _ _) _ _ _
    · exact holds_ite (hP.startPulse k1 _ _ _) (hP.startPulse k1 _ _ _)
    · exact hP.setLogic k1 _ _ _

theorem refreshChan (h : P s) (n : Chan) : P (s.refreshChan n) := by
  unfold State.refreshChan
  extract_lets held off changed s1 s2 map
  have k1 : P s1 := holds_ite (hP.setLogic (hP.onChan (hP.dropTest h _) _ _) _ _ _) (holds_ite (hP.setLogic h _ _ _) h)
  have k2 : P s2 := holds_ite (hP.onChan k1 _ _) k1
  exact hP.syncChan (hP.put (hP.putFlag k2 _ _) _ _) _ _

theorem refreshOuts (h : P s) : P s.refreshOuts :=
  have k : P (s.each (allFin 32) State.refreshChan) := holds_each h _ _ (fun _ _ k => hP.refreshChan k _)
  holds_ite k (hP.raiseSrc (hP.onOuts (hP.putFlag (hP.putFlag k _ _) _ _) _) _)

/-! ### Modes -/

theorem abandonTest (h : P s) : P s.abandonTest := by
  unfold State.abandonTest
  split
  · exact hP.putFlag (hP.onOuts h _) _ _
  · exact h

theorem enterMode (h : P s) (m : Nat) : P (s.enterMode m) := by
  unfold State.enterMode
  refine holds_ite h ?_
  extract_lets s0 s1
  have k0 : P s0 := holds_when h _ _ (fun _ k => hP.abandonTest k)
  have k1 : P s1 := hP.refreshOuts (hP.bump (hP.wr64 (hP.put (hP.put k0 _ _) _ _) _ _) _)
  exact holds_ite (hP.onTw k1 _) k1

theorem degrade (h : P s) (bit : Nat) : P (s.degrade bit) :=
  holds_ite (hP.enterMode (hP.put h _ _) _) (hP.put h _ _)

/-! ### The wheel -/

theorem countNear (h : P s) (d : Dom) : P (s.countNear d) := hP.put (hP.put h _ _) _ _

theorem recount (h : P s) (e : Event) : P (s.recount e) :=
  hP.countNear (hP.put (hP.put (hP.raiseTo (hP.put h _ _) _ _) _ _) _ _) _

theorem removeEvent (h : P s) (slot : Nat) (e : Event) : P (s.removeEvent slot e) :=
  hP.recount (hP.onWheel h _) _

theorem readSlot (h : P s) (slot : Nat) : P (s.readSlot slot).1 := by
  unfold State.readSlot
  exact hP.latRead h _ _ _

theorem wheelLost (h : P s) (slot : Slot) : P (s.wheelLost slot) := by
  unfold State.wheelLost
  split
  · exact hP.raise (hP.onWheel (hP.removeEvent h _ _) _) _ _
  · exact h

theorem fireLog (h : P s) (e : Event) (late past held : Bool) (tt : Nat) : P (s.fireLog e late past held tt) :=
  holds_ite (hP.raise (hP.bump h _) _ _) (hP.raiseSrc (hP.bumpWrap (holds_ite (hP.latWrite h _ _ _) h) _) _)

theorem fire (h : P s) (slot : Nat) (e : Event) (up late past : Bool) (at_ : Nat) : P (s.fire slot e up late past at_) := by
  unfold State.fire
  exact holds_when (hP.onWheel (holds_when (holds_when (holds_when (hP.bump (hP.actOn h e up at_) _) _ _ (fun _ k => hP.bump k _)) _ _
    (fun _ k => hP.raise (hP.putFlag (hP.bump k _) _ _) _ _)) _ _ (fun _ k => hP.putFlag k _ _)) _) _ _ (fun _ k => hP.fireLog k _ _ _ _ _)

theorem endPosPulses (h : P s) (d : Dom) (at_ : Nat) : P (s.endPosPulses d at_) := by
  refine holds_each h _ _ (fun s n k => ?_)
  split
  · exact holds_ite (hP.syncChan (hP.endPulse k _ _) _ _) k
  · exact k

theorem wheelMove (h : P s) (d : Dom) (old new : Int) : P (s.wheelMove d old new) := by
  unfold State.wheelMove
  refine holds_ite (hP.endPosPulses h _ _) ?_
  extract_lets hits up reach s1
  have kreach (s : State) (x : Nat × Event) (k : P s) : P (reach s x) := by
    unfold reach
    have k0 : P (if x.2.near then (s, true) else s.readSlot x.1).1 := by
      split
      · exact k
      · exact hP.readSlot k _
    refine holds_ite (hP.wheelLost k0 _) (holds_ite ?_ ?_)
    · exact hP.fire (hP.removeEvent k0 _ _) _ _ _ _ _ _
    · exact hP.onWheel (hP.removeEvent k0 _ _) _
  have k1 : P s1 := holds_each (holds_each h _ _ kreach) _ _ (fun _ _ k => hP.settleChan k _ _ _)
  exact hP.endPosPulses (holds_ite (hP.countNear (hP.onWheel k1 _) _) k1) _ _

end Blind

end Sys2Proof.Machine
end

section
/-! What a count does to the domains (R24 to R27): it moves one of them, or changes nothing but that domain's own record. -/

namespace Sys2Proof.Machine

/-- What the domains hold is no register and no output. -/
theorem blind_doms (v : Vector DomState 4) : Blind (fun s => s.kiln.dom = v) :=
  fun _ _ _ _ _ _ _ _ _ _ _ h => h

/-! ### One domain -/

theorem dom_onDom_same (s : State) (d : Dom) (f : DomState → DomState) : (s.onDom d f).dom d = f (s.dom d) := by
  rw [State.dom, State.onDom, alter]
  exact Vector.getElem_set_self d.isLt

theorem dom_onDom_other (s : State) {d e : Dom} (f : DomState → DomState) (h : e ≠ d) : (s.onDom d f).dom e = s.dom e := by
  rw [State.dom, State.onDom, alter]
  exact Vector.getElem_set_ne d.isLt e.isLt (fun x => h (Fin.ext x.symm))

theorem onDom_id (s : State) (d : Dom) : s.onDom d id = s := by
  have h : alter s.kiln.dom d id = s.kiln.dom := Vector.set_getElem_self d.isLt
  rw [State.onDom, h]

/-! ### A domain that has moved -/

/-- A domain has moved: its history is not empty, and every other domain is as before. -/
structure Moved (s : State) (d : Dom) (t : State) : Prop where
  hist : (t.dom d).hist ≠ []
  others : ∀ e, e ≠ d → t.dom e = s.dom e

variable {s t u : State} {d : Dom}

theorem Moved.ofDoms (h : Moved s d t) (k : u.kiln.dom = t.kiln.dom := by rfl) : Moved s d u := by
  have hdom (e : Dom) : u.dom e = t.dom e := by rw [State.dom, k, ← State.dom]
  exact ⟨by rw [hdom]; exact h.hist, fun e he => (hdom e).trans (h.others e he)⟩

theorem Moved.onDom (h : Moved s d t) (f : DomState → DomState) (hf : ∀ c, (f c).hist = c.hist := by exact fun _ => rfl) :
    Moved s d (t.onDom d f) :=
  ⟨by rw [dom_onDom_same, hf]; exact h.hist, fun e he => (dom_onDom_other t f he).trans (h.others e he)⟩

theorem Moved.putFlag (h : Moved s d t) (f : Fld) (b : Bool) : Moved s d (t.putFlag f b) := h.ofDoms

theorem Moved.raise (h : Moved s d t) (id detail : Nat) : Moved s d (t.raise id detail) := h.ofDoms

theorem Moved.ite {c : Prop} [Decidable c] (h : Moved s d t) (k : Moved s d u) : Moved s d (if c then t else u) :=
  holds_ite (P := Moved s d) h k

theorem doms_syncStopped (s : State) (d : Dom) : (s.syncStopped d).kiln.dom = s.kiln.dom := by
  unfold State.syncStopped
  extract_lets stopped s1
  split
  · rfl
  split
  · exact (blind_doms s.kiln.dom).abandonTest (s := s1.raise F_MAINT_MOTION d) rfl
  · rfl

theorem doms_gridMove (s : State) (d : Dom) : (s.gridMove d).kiln.dom = s.kiln.dom :=
  holds_ite (P := fun t => t.kiln.dom = s.kiln.dom) (holds_ite (P := fun t => t.kiln.dom = s.kiln.dom) rfl rfl) rfl

theorem moved_moveDom (s : State) (d : Dom) (ett : Nat) (delta : Int) : Moved s d (s.moveDom d ett delta) := by
  unfold State.moveDom
  extract_lets c oldPv oldCount new newPv s1 up s2' s2 s3 s4
  have m1 : Moved s d s1 := ⟨by rw [dom_onDom_same]; simp, fun e he => dom_onDom_other s _ he⟩
  have m2 : Moved s d s2 := by
    have mrev : Moved s d s2' := m1.ofDoms.ite m1
    exact m1.ite ((mrev.putFlag _ _).onDom _)
  have m3 : Moved s d s3 := m2.ofDoms (doms_syncStopped _ d)
  have m4 : Moved s d s4 := m3.ite (m3.ofDoms ((blind_doms _).wheelMove rfl _ _ _))
  exact m4.ofDoms (doms_gridMove s4 d)

theorem Moved.chkLoss (h : Moved s d t) (silent : Bool) : Moved s d (t.chkLoss d silent) := by
  unfold State.chkLoss
  extract_lets s1 s2 s3
  have m2 : Moved s d s2 := (((h.putFlag _ _).putFlag _ _).onDom _).raise _ _
  have m3 : Moved s d s3 := (((m2.onDom _).putFlag _ _).raise _ _).ite m2
  exact m3.ofDoms ((blind_doms _).degrade rfl _)

theorem Moved.crossCheck (h : Moved s d t) : Moved s d (t.crossCheck d) := by
  unfold State.crossCheck
  extract_lets c bad s0 s1
  have m0 : Moved s d s0 := h.onDom _
  have m1 : Moved s d s1 := (((m0.putFlag _ _).raise _ _).ite m0).ite h
  exact (m1.chkLoss true).ite m1

/-- A count moves the domain, or changes at most the domain's own record, its history not among it. -/
theorem domCount_moves_or_not (s : State) (n : Enc) (up : Bool) (ett : Nat) (d : Dom) :
    Moved s d (s.domCount n up ett d) ∨ ∃ f, s.domCount n up ett d = s.onDom d f := by
  have still : ∃ f, s = s.onDom d f := ⟨id, (onDom_id s d).symm⟩
  unfold State.domCount
  extract_lets raw sgn s1
  split
  · exact .inr still
  split
  · split
    · exact .inl (moved_moveDom ..)
    · exact .inr still
  split
  · have m1 : Moved s d s1 := moved_moveDom ..
    exact .inl ((m1.onDom _).crossCheck.ite m1)
  split
  · split
    · exact .inr ⟨_, rfl⟩
    · exact .inr ⟨_, rfl⟩
  · exact .inr still

theorem dom_domCount_other (s : State) (n : Enc) (up : Bool) (ett : Nat) {d e : Dom} (h : e ≠ d) :
    (s.domCount n up ett d).dom e = s.dom e := by
  rcases domCount_moves_or_not s n up ett d with m | ⟨f, hf⟩
  · exact m.others e h
  · rw [hf, dom_onDom_other s f h]

/-- A domain whose check encoder counts, and which is not on it, counts it in its window. -/
theorem dom_domCount_check {n : Enc} (up : Bool) (ett : Nat) (hon : s.domOn d = true) (hpri : s.flag (DOM_STAT_ON_CHECK d) = false)
    (hother : s.priOf d ≠ n.val) (hen : s.flag (DOM_CFG_CHKEN d) = true) (hchk : s.chkOf d = n.val)
    (hlost : s.flag (DOM_STAT_CHK_LOST d) = false) :
    ((s.domCount n up ett d).dom d).winChk = (s.dom d).winChk + (if up then 1 else -1) := by
  have h : s.domCount n up ett d = s.onDom d (fun c => { c with winChk := c.winChk + (if up then 1 else -1), stall := 0 }) := by
    simp [State.domCount, hon, hpri, hother, hen, hchk, hlost]
  rw [h, dom_onDom_same]

end Sys2Proof.Machine
end

section
/-! An edge that a domain counts on its check encoder: the direction that the running state of the statement's repetition shows
is the opposite of the one that counts. -/

namespace Sys2Proof.Machine

/-- Encoder 0 counts, and domain 3 has it as its check encoder, with encoder 1 as its primary. -/
def checkedByEnc0 : State :=
  (State.reset.putFlag (ENC_CFG_EN 0) true).wr (DOM_CFG 3) 0x13

/-- The state after an edge of A at encoder 0. -/
def afterEdgeA : State :=
  match exec (.encoderEdge 0 .a) checkedByEnc0 with
  | .next t => t
  | _ => checkedByEnc0

theorem exec_edgeA_checkedByEnc0 : exec (.encoderEdge 0 .a) checkedByEnc0 = .next afterEdgeA := rfl

/-- The edge counts up (R19). -/
theorem afterEdgeA_winChk : (afterEdgeA.dom 3).winChk = 1 ∧ (checkedByEnc0.dom 3).winChk = 0 := by decide +kernel

/-- The domain has not moved. -/
theorem afterEdgeA_hist : (afterEdgeA.dom 3).hist = [] := by decide +kernel

/-- Domain 3 still checks its primary against encoder 0. -/
theorem afterEdgeA_checks : afterEdgeA.domOn 3 = true ∧ afterEdgeA.flag (DOM_STAT_ON_CHECK 3) = false ∧
    afterEdgeA.priOf 3 ≠ (0 : Enc).val ∧ afterEdgeA.flag (DOM_CFG_CHKEN 3) = true ∧ afterEdgeA.chkOf 3 = (0 : Enc).val ∧
    afterEdgeA.flag (DOM_STAT_CHK_LOST 3) = false := by
  decide +kernel

/-- The direction in which an edge of A of encoder 0 counts, from the levels that a state holds. -/
def upA (s : State) : Bool :=
  ((!(s.kiln.enc.get 0).a) != (s.kiln.enc.get 0).b) != s.flag (ENC_CFG_INV (0 : Enc))

/-- What the count does to a domain, with the direction taken from the running state. -/
def countRunning (s : State) (d : Dom) : State :=
  s.domCount 0 (upA s) (s.edgeTt 0) d

/-- From the levels after the edge, a further edge of A would count down. -/
theorem afterEdgeA_down : upA afterEdgeA = false := by decide +kernel

theorem dom_countRunning_other (s : State) {d e : Dom} (h : e ≠ d) : (countRunning s d).dom e = s.dom e :=
  dom_domCount_other _ _ _ _ h

/-- No state leads to the one after the edge by counts in the direction that the running state shows: the last domain would
have counted down. -/
theorem no_counts_by_running_state (u : State) (hdom : u.kiln.dom = checkedByEnc0.kiln.dom)
    (h : u.each (allFin 4) countRunning = afterEdgeA) : False := by
  obtain ⟨v, hv⟩ : ∃ v, v = countRunning (countRunning (countRunning u 0) 1) 2 := ⟨_, rfl⟩
  have hlast : countRunning v 3 = afterEdgeA := by rw [← h, hv]; rfl
  have hbefore : (v.dom 3).winChk = 0 := by
    have h3 : v.dom 3 = u.dom 3 := by
      rw [hv, dom_countRunning_other _ (by decide), dom_countRunning_other _ (by decide), dom_countRunning_other _ (by decide)]
    rw [h3, State.dom, hdom, ← State.dom, afterEdgeA_winChk.2]
  rcases domCount_moves_or_not v 0 (upA v) (v.edgeTt 0) 3 with m | ⟨f, hf⟩
  · refine m.hist ?_
    show ((countRunning v 3).dom 3).hist = []
    rw [hlast, afterEdgeA_hist]
  · have hafter : afterEdgeA = v.onDom 3 f := hlast.symm.trans hf
    obtain ⟨hon, hpri, hother, hen, hchk, hlost⟩ := afterEdgeA_checks
    have hdown : upA afterEdgeA = false := afterEdgeA_down
    rw [hafter] at hon hpri hother hen hchk hlost hdown
    have hcount : ((countRunning v 3).dom 3).winChk = (v.dom 3).winChk + (if upA v then 1 else -1) :=
      dom_domCount_check _ _ hon hpri hother hen hchk hlost
    have hv : upA v = false := hdown
    rw [hlast, afterEdgeA_winChk.1, hbefore, hv] at hcount
    exact absurd hcount (by decide)

end Sys2Proof.Machine
end

section
open Sys2Proof Sys2Proof.Machine

/-- Refutes O11: the statement's repetition takes the direction from the running state, in which the level of A has changed
already, so that a domain whose check encoder has an edge of A would count it the other way. -/
theorem not_encoderEdges : ¬ Obligations.EncoderEdges := by
  unfold Obligations.EncoderEdges
  rintro ⟨h, -⟩
  obtain ⟨u, hexec, -, -, -, -, hdom, -⟩ := h checkedByEnc0 0 (by decide +kernel) (by decide +kernel)
  exact no_counts_by_running_state u hdom (Host.Outcome.next.inj (hexec.symm.trans exec_edgeA_checkedByEnc0))

end

section
/-! Overrate, index, loss and clearing of loss at an encoder (R20, R21, R27): what each command leaves. -/

namespace Sys2Proof.Machine

variable {s t : State} {n : Enc}

/-! ### The index (R20) -/

/-- The state after an active index edge that is only seen. -/
def indexSeen (s : State) (n : Enc) : State :=
  (s.setEncStat (ENC_STAT_INDEX_SEEN n)).wrInt (ENC_ZCNT n) (s.rdInt (ENC_CNT n))

/-- The same with the count as the new reference. -/
def indexTaken (s : State) (n : Enc) : State :=
  (indexSeen s n).onEnc n (fun c => { c with zRef := some (s.rdInt (ENC_CNT n)), zRev := false })

/-- The same with the index error that the edge was. -/
def indexWrong (s : State) (n : Enc) : State :=
  (((indexTaken s n).setEncStat (ENC_STAT_INDEX_ERR n)).bump (ENC_ZERR_CNT_CNT n)).raise F_ENC_INDEX 0

/-- The count lies outside `ENC_ZPER` from the reference by more than `ENC_ZTOL`, where both stand. -/
def indexOff (s : State) (n : Enc) (r : Int) : Bool :=
  s.get (ENC_ZPER_COUNTS n) != 0 && !(s.kiln.enc.get n).zRev
    && decide ((s.get (ENC_ZTOL_COUNTS n) : Int) < (((s.rdInt (ENC_CNT n) - r).natAbs : Int) - s.get (ENC_ZPER_COUNTS n)).natAbs)

theorem indexOff_iff (s : State) (n : Enc) (r : Int) : indexOff s n r = true ↔ s.get (ENC_ZPER_COUNTS n) ≠ 0 ∧
    (s.kiln.enc.get n).zRev = false ∧
    (s.get (ENC_ZTOL_COUNTS n) : Int) < (((s.rdInt (ENC_CNT n) - r).natAbs : Int) - s.get (ENC_ZPER_COUNTS n)).natAbs := by
  rw [indexOff, Bool.and_eq_true, Bool.and_eq_true, bne_iff_ne, Bool.not_eq_true', decide_eq_true_iff, and_assoc]

theorem exec_encIndexEdge_of_inactive : exec (.encIndexEdge n (s.flag (ENC_CFG_ZPOL n))) s = .next s := by
  show execEncIndexEdge n _ s = _
  simp [execEncIndexEdge]

theorem exec_encIndexEdge_of_active (hz : s.flag (ENC_CFG_ZEN n) = true) :
    ∃ t, exec (.encIndexEdge n (!s.flag (ENC_CFG_ZPOL n))) s = .next t ∧
      (t = indexSeen s n ∨ t = indexTaken s n ∨ t = indexWrong s n) := by
  refine ⟨_, rfl, ?_⟩
  rw [if_neg (by simp [hz])]
  dsimp only
  split
  · exact .inl rfl
  · exact .inr (ite_eq_or_eq _ _ _).symm

/-- Against a reference, the edge is taken, or wrong where it is off. -/
theorem exec_encIndexEdge_of_ref {r : Int} (hz : s.flag (ENC_CFG_ZEN n) = true) (hon : s.encOn n = true)
    (hlost : s.encLost n = false) (hlossZ : s.flag (ENC_STAT_LOSS_Z n) = false) (href : (s.kiln.enc.get n).zRef = some r) :
    exec (.encIndexEdge n (!s.flag (ENC_CFG_ZPOL n))) s = .next (if indexOff s n r then indexWrong s n else indexTaken s n) := by
  show execEncIndexEdge n _ s = _
  unfold execEncIndexEdge
  rw [if_neg (by simp [hz])]
  dsimp only
  rw [if_neg (by simp [hon, hlost, hlossZ]), href]
  unfold indexOff indexWrong indexTaken indexSeen
  with_reducible rfl

theorem rd_indexSeen_other {o : Nat} (h1 : o ≠ ENC_STAT n) (h2 : o ≠ ENC_ZCNT n) (h3 : o ≠ ENC_ZCNT n + 4) :
    (indexSeen s n).rd o = s.rd o := by
  rw [indexSeen, State.wrInt, rd_wr64_other _ _ _ h2 h3, rd_setEncStat_other _ _ h1]

theorem rd_indexWrong_other {o : Nat} (h1 : o ≠ ENC_STAT n) (h2 : o ≠ ENC_ZERR_CNT n) :
    (indexWrong s n).rd o = (indexTaken s n).rd o := by
  rw [indexWrong, rd_raise, State.bump, State.addTo, rd_put_other _ _ _ h2, rd_setEncStat_other _ _ h1]

theorem rd64_indexSeen_zcnt : (indexSeen s n).rd64 (ENC_ZCNT n) = s.rd64 (ENC_CNT n) := by
  rw [indexSeen, rd64_wrInt_same, State.rdInt, unsignedOf_signedOf (rd64_lt _ _)]

theorem rd64_indexSeen_cnt : (indexSeen s n).rd64 (ENC_CNT n) = s.rd64 (ENC_CNT n) := by
  have hlow : ENC_CNT n ≠ ENC_STAT n ∧ ENC_CNT n ≠ ENC_ZCNT n ∧ ENC_CNT n ≠ ENC_ZCNT n + 4 := by
    unfold ENC_CNT ENC_STAT ENC_ZCNT; omega
  have hhigh : ENC_CNT n + 4 ≠ ENC_STAT n ∧ ENC_CNT n + 4 ≠ ENC_ZCNT n ∧ ENC_CNT n + 4 ≠ ENC_ZCNT n + 4 := by
    unfold ENC_CNT ENC_STAT ENC_ZCNT; omega
  exact rd64_eq_of_rd_eq (rd_indexSeen_other hlow.1 hlow.2.1 hlow.2.2) (rd_indexSeen_other hhigh.1 hhigh.2.1 hhigh.2.2)

theorem flag_indexSeen {f : Fld} (h : f.off = ENC_STAT n) : (indexSeen s n).flag f = (s.setEncStat (ENC_STAT_INDEX_SEEN n)).flag f := by
  refine flag_eq_of_rd_eq ?_
  rw [indexSeen, State.wrInt, rd_wr64_other] <;> rw [h] <;> unfold ENC_STAT ENC_ZCNT <;> omega

theorem indexSeen_mem : (indexSeen s n).mem = s.mem := by
  rw [indexSeen, State.wrInt, wr64_mem, setEncStat_mem]

theorem indexSeen_kiln : (indexSeen s n).kiln = s.kiln := by
  rw [indexSeen, State.wrInt, wr64_kiln, setEncStat_kiln]

theorem indexSeen_fcuIn : (indexSeen s n).fcuIn = s.fcuIn := by
  rw [indexSeen, State.wrInt, wr64_fcuIn, setEncStat_fcuIn]

theorem indexSeen_tt : (indexSeen s n).tt = s.tt := by
  rw [indexSeen, State.wrInt, wr64_tt, setEncStat_tt]

theorem indexWrong_kiln : (indexWrong s n).kiln = (indexTaken s n).kiln := by
  rw [indexWrong, raise_kiln, bump_kiln, setEncStat_kiln]

theorem indexWrong_mem : (indexWrong s n).mem = (indexTaken s n).mem := by
  rw [indexWrong, raise_mem, bump_mem, setEncStat_mem]

theorem indexTaken_mem : (indexTaken s n).mem = s.mem := by
  rw [indexTaken, onEnc_mem, indexSeen_mem]

theorem indexTaken_dom : (indexTaken s n).kiln.dom = s.kiln.dom := by
  rw [indexTaken, onEnc_dom, indexSeen_kiln]

/-- The flags of `ENC_STAT` but INDEX_ERR are as before the error is recorded. -/
theorem flag_indexWrong_other {f : Fld} (h : f.off = ENC_STAT n) (ha : (ENC_STAT_INDEX_ERR n).apart f = true) :
    (indexWrong s n).flag f = (indexTaken s n).flag f := by
  have hstat : f.off ≠ (ENC_ZERR_CNT_CNT n).off := by
    rw [h]
    show ENC_STAT n ≠ ENC_ZERR_CNT n
    unfold ENC_STAT ENC_ZERR_CNT; omega
  rw [indexWrong, flag_raise, State.bump, State.addTo, flag_eq_of_rd_eq (rd_put_other _ _ _ hstat),
    flag_setEncStat_other _ _ _ rfl ha]

theorem rd64_indexWrong_other {o : Nat} (h1 : o = ENC_ZCNT n ∨ o = ENC_CNT n) :
    (indexWrong s n).rd64 o = (indexTaken s n).rd64 o := by
  have h : o ≠ ENC_STAT n ∧ o ≠ ENC_ZERR_CNT n ∧ o + 4 ≠ ENC_STAT n ∧ o + 4 ≠ ENC_ZERR_CNT n := by
    unfold ENC_ZCNT ENC_CNT at h1
    unfold ENC_STAT ENC_ZERR_CNT; omega
  exact rd64_eq_of_rd_eq (rd_indexWrong_other h.1 h.2.1) (rd_indexWrong_other h.2.2.1 h.2.2.2)

/-- After an active index edge the count stands in `ENC_ZCNT` and the edge shows; count, memory and domains are as before. -/
theorem index_of_active (h : t = indexSeen s n ∨ t = indexTaken s n ∨ t = indexWrong s n) :
    t.rd64 (ENC_ZCNT n) = s.rd64 (ENC_CNT n) ∧ t.rd64 (ENC_CNT n) = s.rd64 (ENC_CNT n) ∧
      t.flag (ENC_STAT_INDEX_SEEN n) = true ∧ t.mem = s.mem ∧ t.kiln.dom = s.kiln.dom := by
  have hseen : (indexSeen s n).flag (ENC_STAT_INDEX_SEEN n) = true := by
    rw [flag_indexSeen rfl, flag_setEncStat_same _ _ rfl Nat.one_pos]
  have htaken : (indexTaken s n).rd64 (ENC_ZCNT n) = s.rd64 (ENC_CNT n) ∧ (indexTaken s n).rd64 (ENC_CNT n) = s.rd64 (ENC_CNT n) ∧
      (indexTaken s n).flag (ENC_STAT_INDEX_SEEN n) = true := by
    rw [indexTaken, rd64_onEnc, rd64_onEnc, flag_onEnc]
    exact ⟨rd64_indexSeen_zcnt, rd64_indexSeen_cnt, hseen⟩
  rcases h with rfl | rfl | rfl
  · exact ⟨rd64_indexSeen_zcnt, rd64_indexSeen_cnt, hseen, indexSeen_mem, by rw [indexSeen_kiln]⟩
  · exact ⟨htaken.1, htaken.2.1, htaken.2.2, indexTaken_mem, indexTaken_dom⟩
  · rw [rd64_indexWrong_other (.inl rfl), rd64_indexWrong_other (.inr rfl), indexWrong_mem, indexWrong_kiln,
      flag_indexWrong_other rfl (by simp [Fld.apart, ENC_STAT_INDEX_ERR, ENC_STAT_INDEX_SEEN])]
    exact ⟨htaken.1, htaken.2.1, htaken.2.2, indexTaken_mem, indexTaken_dom⟩

theorem fcuIn_raise (s : State) (id : Nat) : (s.raise id 0).fcuIn = s.fcuIn ++ [⟨id, 0, false, 0, s.tt⟩] := rfl

theorem indexTaken_zRef (s : State) (n : Enc) : ((indexTaken s n).kiln.enc.get n).zRef = some (s.rdInt (ENC_CNT n)) := by
  rw [indexTaken, enc_onEnc_same]

/-- An edge that is taken is no error. -/
theorem indexTaken_error (s : State) (n : Enc) : (indexTaken s n).flag (ENC_STAT_INDEX_ERR n) = s.flag (ENC_STAT_INDEX_ERR n) ∧
    (indexTaken s n).get (ENC_ZERR_CNT_CNT n) = s.get (ENC_ZERR_CNT_CNT n) ∧ (indexTaken s n).fcuIn = s.fcuIn := by
  have hword : ENC_ZERR_CNT n ≠ ENC_STAT n ∧ ENC_ZERR_CNT n ≠ ENC_ZCNT n ∧ ENC_ZERR_CNT n ≠ ENC_ZCNT n + 4 := by
    unfold ENC_ZERR_CNT ENC_STAT ENC_ZCNT; omega
  rw [indexTaken, flag_onEnc, get_onEnc, onEnc_fcuIn, flag_indexSeen rfl, indexSeen_fcuIn,
    flag_setEncStat_other _ _ _ rfl (by simp [Fld.apart, ENC_STAT_INDEX_SEEN, ENC_STAT_INDEX_ERR])]
  exact ⟨rfl, get_eq_of_rd_eq (rd_indexSeen_other hword.1 hword.2.1 hword.2.2), rfl⟩

/-- An edge that is wrong shows, is counted and raises its fault. -/
theorem indexWrong_error (s : State) (n : Enc) : (indexWrong s n).flag (ENC_STAT_INDEX_ERR n) = true ∧
    (indexWrong s n).get (ENC_ZERR_CNT_CNT n) = min (s.get (ENC_ZERR_CNT_CNT n) + 1) (2 ^ (ENC_ZERR_CNT_CNT n).width - 1) ∧
    (indexWrong s n).fcuIn = s.fcuIn ++ [⟨F_ENC_INDEX, 0, false, 0, s.tt⟩] := by
  have hword : ENC_STAT n ≠ ENC_ZERR_CNT n := by unfold ENC_ZERR_CNT ENC_STAT; omega
  obtain ⟨-, hcnt, hfcu⟩ := indexTaken_error s n
  have htt : (indexTaken s n).tt = s.tt := by rw [indexTaken, onEnc_tt, indexSeen_tt]
  rw [indexWrong, flag_raise, get_raise, fcuIn_raise, get_bump_same _ _ rfl, bump_fcuIn, setEncStat_fcuIn, hfcu, bump_tt,
    setEncStat_tt, htt, get_eq_of_rd_eq (rd_setEncStat_other _ _ hword.symm), hcnt, State.bump, State.addTo,
    flag_eq_of_rd_eq (rd_put_other _ _ _ hword), flag_setEncStat_same _ _ rfl Nat.one_pos]
  exact ⟨rfl, rfl, rfl⟩

/-! ### The status that the fail-safe detector reports (R20) -/

theorem syncSigBad_cases (s : State) (n : Enc) :
    s.syncSigBad n = if (s.kiln.enc.get n).badA || (s.kiln.enc.get n).badB then s.setEncStat (ENC_STAT_SIG_BAD n)
      else s.putFlag (ENC_STAT_SIG_BAD n) false := rfl

theorem flag_syncSigBad_same : (s.syncSigBad n).flag (ENC_STAT_SIG_BAD n) =
    ((s.kiln.enc.get n).badA || (s.kiln.enc.get n).badB) := by
  rw [syncSigBad_cases]
  split
  · rename_i h
    rw [flag_setEncStat_same _ _ rfl Nat.one_pos, h]
  · rename_i h
    rw [flag_putFlag_same _ _ _ rfl Nat.one_pos, Bool.eq_false_iff.2 h]

theorem flag_syncSigBad_other {f : Fld} (h : (ENC_STAT_SIG_BAD n).apart f = true) : (s.syncSigBad n).flag f = s.flag f := by
  rw [syncSigBad_cases]
  split
  · exact flag_setEncStat_other _ _ _ rfl h
  · exact flag_put_other _ _ _ _ rfl h

theorem rd_syncSigBad_other {o : Nat} (h : o ≠ ENC_STAT n) : (s.syncSigBad n).rd o = s.rd o := by
  rw [syncSigBad_cases]
  split
  · exact rd_setEncStat_other _ _ h
  · exact rd_put_other _ _ _ h

/-- The status brought in line leaves the encoders, the domains, memory and faults on their way. -/
theorem syncSigBad_rest : (s.syncSigBad n).kiln = s.kiln ∧ (s.syncSigBad n).mem = s.mem ∧ (s.syncSigBad n).fcuIn = s.fcuIn ∧
    (s.syncSigBad n).tt = s.tt := by
  rw [syncSigBad_cases]
  split
  · exact ⟨setEncStat_kiln .., setEncStat_mem .., setEncStat_fcuIn .., setEncStat_tt ..⟩
  · exact ⟨putFlag_kiln .., putFlag_mem .., putFlag_fcuIn .., putFlag_tt ..⟩

/-! ### Signals lost (R20, R27) -/

/-- The state after what the detector reports of A and B is recorded and shown. -/
def sigReported (s : State) (n : Enc) (a b : Bool) : State :=
  (s.onEnc n (fun c => c.report a b s.tt)).syncSigBad n

/-- `LOSS_A` and `LOSS_B` set where they are new, and the encoder's fault raised. -/
def lossMarked (s : State) (n : Enc) (newA newB : Bool) : State :=
  ((s.when newA (fun s => s.setEncStat (ENC_STAT_LOSS_A n))).when newB (fun s => s.setEncStat (ENC_STAT_LOSS_B n))).raise (F_ENC_FAULT n) 0

/-- Whether a report loses a signal of an encoder that counts. -/
def losesNew (s : State) (n : Enc) (a b : Bool) : Bool :=
  s.encOn n && ((a && !s.flag (ENC_STAT_LOSS_A n)) || (b && !s.flag (ENC_STAT_LOSS_B n)))

/-- The state after a report of the detector, but for what a loss does to the domains. -/
def sigLost (s : State) (n : Enc) (a b : Bool) : State :=
  if losesNew s n a b then
    lossMarked (sigReported s n a b) n (a && !s.flag (ENC_STAT_LOSS_A n)) (b && !s.flag (ENC_STAT_LOSS_B n))
  else sigReported s n a b

theorem exec_encSignalLoss (s : State) (n : Enc) (a b : Bool) : exec (.encSignalLoss n a b) s =
    .next (if losesNew s n a b && !s.encLost n then (sigLost s n a b).domLoss n else sigLost s n a b) := by
  show execEncSignalLoss n a b s = _
  unfold execEncSignalLoss sigLost
  dsimp only
  have hnot : (!s.encOn n || !((a && !s.flag (ENC_STAT_LOSS_A n)) || (b && !s.flag (ENC_STAT_LOSS_B n)))) = !losesNew s n a b :=
    (Bool.not_and _ _).symm
  rw [hnot]
  cases losesNew s n a b with
  | true => cases s.encLost n <;> rfl
  | false => rfl

/-- The report is recorded and shown. -/
theorem sigReported_shows (s : State) (n : Enc) (a b : Bool) : ((sigReported s n a b).kiln.enc.get n).badA = a ∧
    ((sigReported s n a b).kiln.enc.get n).badB = b ∧ (sigReported s n a b).flag (ENC_STAT_SIG_BAD n) = (a || b) := by
  have hrep : ((s.onEnc n (fun c => c.report a b s.tt)).kiln.enc.get n).badA = a ∧
      ((s.onEnc n (fun c => c.report a b s.tt)).kiln.enc.get n).badB = b := by
    rw [enc_onEnc_same]
    exact ⟨rfl, rfl⟩
  rw [sigReported, syncSigBad_rest.1, flag_syncSigBad_same, hrep.1, hrep.2]
  exact ⟨rfl, rfl, rfl⟩

theorem flag_sigReported_other {a b : Bool} {f : Fld} (h : (ENC_STAT_SIG_BAD n).apart f = true) :
    (sigReported s n a b).flag f = s.flag f := by
  rw [sigReported, flag_syncSigBad_other h, flag_onEnc]

theorem rd_sigReported_other {a b : Bool} {o : Nat} (h : o ≠ ENC_STAT n) : (sigReported s n a b).rd o = s.rd o := by
  rw [sigReported, rd_syncSigBad_other h, rd_onEnc]

theorem sigReported_rest (s : State) (n : Enc) (a b : Bool) : (sigReported s n a b).mem = s.mem ∧
    (sigReported s n a b).fcuIn = s.fcuIn ∧ (sigReported s n a b).tt = s.tt := by
  rw [sigReported, syncSigBad_rest.2.1, syncSigBad_rest.2.2.1, syncSigBad_rest.2.2.2]
  exact ⟨onEnc_mem .., onEnc_fcuIn .., onEnc_tt ..⟩

/-- A bit set where a condition holds. -/
theorem flag_when_setEncStat_same (s : State) (c : Bool) (f : Fld) (h : f.fits = true) (hw : 0 < f.width) :
    (s.when c (fun s => s.setEncStat f)).flag f = (s.flag f || c) := by
  cases c with
  | false => exact (Bool.or_false _).symm
  | true => exact (flag_setEncStat_same s f h hw).trans (Bool.or_true _).symm

/-- What setting a bit keeps, setting it where a condition holds keeps. -/
theorem when_setEncStat_preserves {β : Type} (p : State → β) (s : State) (c : Bool) (f : Fld) (hp : p (s.setEncStat f) = p s) :
    p (s.when c (fun s => s.setEncStat f)) = p s := by
  cases c with
  | false => rfl
  | true => exact hp

theorem lossMarked_flags (s : State) (n : Enc) (x y : Bool) :
    (lossMarked s n x y).flag (ENC_STAT_LOSS_A n) = (s.flag (ENC_STAT_LOSS_A n) || x) ∧
      (lossMarked s n x y).flag (ENC_STAT_LOSS_B n) = (s.flag (ENC_STAT_LOSS_B n) || y) ∧
      (lossMarked s n x y).flag (ENC_STAT_SIG_BAD n) = s.flag (ENC_STAT_SIG_BAD n) := by
  have hab : (ENC_STAT_LOSS_A n).apart (ENC_STAT_LOSS_B n) = true := by simp [Fld.apart, ENC_STAT_LOSS_A, ENC_STAT_LOSS_B]
  have hba : (ENC_STAT_LOSS_B n).apart (ENC_STAT_LOSS_A n) = true := by simp [Fld.apart, ENC_STAT_LOSS_A, ENC_STAT_LOSS_B]
  have has : (ENC_STAT_LOSS_A n).apart (ENC_STAT_SIG_BAD n) = true := by simp [Fld.apart, ENC_STAT_LOSS_A, ENC_STAT_SIG_BAD]
  have hbs : (ENC_STAT_LOSS_B n).apart (ENC_STAT_SIG_BAD n) = true := by simp [Fld.apart, ENC_STAT_LOSS_B, ENC_STAT_SIG_BAD]
  simp only [lossMarked, flag_raise]
  refine ⟨?_, ?_, ?_⟩
  · rw [when_setEncStat_preserves (fun t => t.flag _) _ _ _ (flag_setEncStat_other _ _ _ rfl hba),
      flag_when_setEncStat_same _ _ _ rfl Nat.one_pos]
  · rw [flag_when_setEncStat_same _ _ _ rfl Nat.one_pos,
      when_setEncStat_preserves (fun t => t.flag _) _ _ _ (flag_setEncStat_other _ _ _ rfl hab)]
  · rw [when_setEncStat_preserves (fun t => t.flag _) _ _ _ (flag_setEncStat_other _ _ _ rfl hbs),
      when_setEncStat_preserves (fun t => t.flag _) _ _ _ (flag_setEncStat_other _ _ _ rfl has)]

theorem rd_lossMarked_other {x y : Bool} {o : Nat} (h : o ≠ ENC_STAT n) : (lossMarked s n x y).rd o = s.rd o := by
  rw [lossMarked, rd_raise, when_setEncStat_preserves (fun t => t.rd o) _ _ _ (rd_setEncStat_other _ _ h),
    when_setEncStat_preserves (fun t => t.rd o) _ _ _ (rd_setEncStat_other _ _ h)]

theorem lossMarked_rest (s : State) (n : Enc) (x y : Bool) : (lossMarked s n x y).kiln = s.kiln ∧ (lossMarked s n x y).mem = s.mem ∧
    (lossMarked s n x y).fcuIn = s.fcuIn ++ [⟨F_ENC_FAULT n, 0, false, 0, s.tt⟩] := by
  have hkeep {β : Type} (p : State → β) (hp : ∀ t f, p (State.setEncStat t f) = p t) :
      p ((s.when x (fun s => s.setEncStat (ENC_STAT_LOSS_A n))).when y (fun s => s.setEncStat (ENC_STAT_LOSS_B n))) = p s := by
    rw [when_setEncStat_preserves p _ _ _ (hp _ _), when_setEncStat_preserves p _ _ _ (hp _ _)]
  rw [lossMarked, raise_kiln, raise_mem, fcuIn_raise, hkeep State.kiln setEncStat_kiln, hkeep State.mem setEncStat_mem,
    hkeep State.fcuIn setEncStat_fcuIn, hkeep State.tt setEncStat_tt]
  exact ⟨rfl, rfl, rfl⟩

/-- What a report leaves, but for what a loss does to the domains. -/
theorem sigLost_shows (s : State) (n : Enc) (a b : Bool) : ((sigLost s n a b).kiln.enc.get n).badA = a ∧
    ((sigLost s n a b).kiln.enc.get n).badB = b ∧ (sigLost s n a b).flag (ENC_STAT_SIG_BAD n) = (a || b) ∧
    (sigLost s n a b).mem = s.mem ∧ (sigLost s n a b).rd64 (ENC_CNT n) = s.rd64 (ENC_CNT n) := by
  obtain ⟨ha, hb, hsig⟩ := sigReported_shows s n a b
  have hmem := (sigReported_rest s n a b).1
  have hcnt : ENC_CNT n ≠ ENC_STAT n ∧ ENC_CNT n + 4 ≠ ENC_STAT n := by unfold ENC_CNT ENC_STAT; omega
  have hrd : (sigReported s n a b).rd64 (ENC_CNT n) = s.rd64 (ENC_CNT n) :=
    rd64_eq_of_rd_eq (rd_sigReported_other hcnt.1) (rd_sigReported_other hcnt.2)
  unfold sigLost
  split
  · obtain ⟨hkiln, hm, -⟩ := lossMarked_rest (sigReported s n a b) n (a && !s.flag (ENC_STAT_LOSS_A n)) (b && !s.flag (ENC_STAT_LOSS_B n))
    rw [hkiln, hm, (lossMarked_flags ..).2.2, rd64_eq_of_rd_eq (rd_lossMarked_other hcnt.1) (rd_lossMarked_other hcnt.2)]
    exact ⟨ha, hb, hsig, hmem, hrd⟩
  · exact ⟨ha, hb, hsig, hmem, hrd⟩

/-- The loss bits and the fault that a report leaves. -/
theorem sigLost_losses (s : State) (n : Enc) (a b : Bool) :
    (sigLost s n a b).flag (ENC_STAT_LOSS_A n) = (s.flag (ENC_STAT_LOSS_A n) || (s.encOn n && a)) ∧
      (sigLost s n a b).flag (ENC_STAT_LOSS_B n) = (s.flag (ENC_STAT_LOSS_B n) || (s.encOn n && b)) ∧
      (sigLost s n a b).fcuIn = s.fcuIn ++ (if losesNew s n a b then [⟨F_ENC_FAULT n, 0, false, 0, s.tt⟩] else []) := by
  have hA : (sigReported s n a b).flag (ENC_STAT_LOSS_A n) = s.flag (ENC_STAT_LOSS_A n) :=
    flag_sigReported_other (by simp [Fld.apart, ENC_STAT_LOSS_A, ENC_STAT_SIG_BAD])
  have hB : (sigReported s n a b).flag (ENC_STAT_LOSS_B n) = s.flag (ENC_STAT_LOSS_B n) :=
    flag_sigReported_other (by simp [Fld.apart, ENC_STAT_LOSS_B, ENC_STAT_SIG_BAD])
  obtain ⟨-, hfcu, htt⟩ := sigReported_rest s n a b
  unfold sigLost
  cases hnew : losesNew s n a b with
  | true =>
    obtain ⟨fA, fB, -⟩ := lossMarked_flags (sigReported s n a b) n (a && !s.flag (ENC_STAT_LOSS_A n)) (b && !s.flag (ENC_STAT_LOSS_B n))
    have hon : s.encOn n = true := (Bool.and_eq_true_iff.1 hnew).1
    rw [if_pos rfl, if_pos rfl, fA, fB, (lossMarked_rest ..).2.2, hA, hB, hfcu, htt, hon]
    refine ⟨?_, ?_, rfl⟩
    · cases s.flag (ENC_STAT_LOSS_A n) <;> simp
    · cases s.flag (ENC_STAT_LOSS_B n) <;> simp
  | false =>
    rw [if_neg Bool.false_ne_true, if_neg Bool.false_ne_true, hA, hB, hfcu, List.append_nil]
    unfold losesNew at hnew
    revert hnew
    cases s.encOn n <;> cases s.flag (ENC_STAT_LOSS_A n) <;> cases s.flag (ENC_STAT_LOSS_B n) <;> simp

/-! ### Z lost (R20) -/

/-- The state after the loss of Z. -/
def zLost (s : State) (n : Enc) : State :=
  (((s.onEnc n (fun c => { c with zBadTt := s.tt })).putFlag (ENC_STAT_LOSS_Z n) true).raiseSrc 58).raise (F_ENC_FAULT n) 0

theorem exec_encZLoss_of_new (hon : s.encOn n = true) (hz : s.flag (ENC_CFG_ZEN n) = true)
    (h : s.flag (ENC_STAT_LOSS_Z n) = false) : exec (.encZLoss n) s = .next (zLost s n) := by
  show execEncZLoss n s = _
  unfold execEncZLoss
  dsimp only
  rw [if_pos (by simp [hon, hz, h]), setEncStat_of_clear (by rw [flag_onEnc, h]), zLost]

theorem srcIn_raiseSrc (s : State) (k : Nat) : (s.raiseSrc k).srcIn = s.srcIn ++ [k] := rfl

theorem zLost_leaves (s : State) (n : Enc) : (zLost s n).flag (ENC_STAT_LOSS_Z n) = true ∧ (zLost s n).srcIn = s.srcIn ++ [58] ∧
    (zLost s n).fcuIn = s.fcuIn ++ [⟨F_ENC_FAULT n, 0, false, 0, s.tt⟩] ∧ (zLost s n).rd64 (ENC_CNT n) = s.rd64 (ENC_CNT n) ∧
    (zLost s n).kiln.dom = s.kiln.dom ∧ (zLost s n).mem = s.mem := by
  have hcnt : ENC_CNT n ≠ ENC_STAT n ∧ ENC_CNT n + 4 ≠ ENC_STAT n := by unfold ENC_CNT ENC_STAT; omega
  unfold zLost
  refine ⟨?_, ?_, ?_, ?_, ?_, ?_⟩
  · rw [flag_raise, flag_raiseSrc, flag_putFlag_same _ _ _ rfl Nat.one_pos]
  · rw [raise_srcIn, srcIn_raiseSrc, putFlag_srcIn, onEnc_srcIn]
  · rw [fcuIn_raise, raiseSrc_fcuIn, putFlag_fcuIn, onEnc_fcuIn, raiseSrc_tt, putFlag_tt, onEnc_tt]
  · rw [rd64_raise, rd64_raiseSrc, State.putFlag, rd64_put_other _ hcnt.1 hcnt.2, rd64_onEnc]
  · rw [raise_kiln, raiseSrc_kiln, putFlag_kiln, onEnc_dom]
  · rw [raise_mem, raiseSrc_mem, putFlag_mem, onEnc_mem]

/-! ### Losses cleared (R12, R21) -/

/-- A bit of a word outside the field that is written is as before. -/
theorem getLsbD_put_other (s : State) (f : Fld) (v : Nat) {k : Nat} (hf : f.fits = true) (h : k < f.lo) :
    ((s.put f v).rd f.off).getLsbD k = (s.rd f.off).getLsbD k := by
  rw [← BitVec.testBit_toNat, rd_put_same s f v hf, testBit_withBits, if_neg (by omega), BitVec.testBit_toNat]

/-- The bits of `ENC_STAT` below `SIG_BAD` are as before it is brought in line. -/
theorem getLsbD_syncSigBad (s : State) (n : Enc) {k : Nat} (h : k < 8) :
    ((s.syncSigBad n).rd (ENC_STAT n)).getLsbD k = (s.rd (ENC_STAT n)).getLsbD k := by
  have hput (v : Nat) : ((s.put (ENC_STAT_SIG_BAD n) v).rd (ENC_STAT n)).getLsbD k = (s.rd (ENC_STAT n)).getLsbD k :=
    getLsbD_put_other s (ENC_STAT_SIG_BAD n) v rfl h
  rw [syncSigBad_cases]
  split
  · exact setEncStat_preserves (fun t => (t.rd (ENC_STAT n)).getLsbD k) _ (by rw [rd_raiseSrc, State.putFlag, hput])
  · exact hput _

/-- The bits that a write may clear: a loss bit only where its signal has been valid. -/
theorem clearMask_testBit (a b z : Bool) {k : Nat} (h : k < 7) :
    (0x7F - ((if a then 0 else 1) + (if b then 0 else 2) + (if z then 0 else 4))).testBit k =
      (if k = 0 then a else if k = 1 then b else if k = 2 then z else true) := by
  revert a b z k
  decide

/-- What a write of `ENC_STAT` leaves of the word before the status is brought in line. -/
def encStatCleared (s : State) (n : Enc) (v : Word) (ok : EncValid) : State :=
  (s.wr (ENC_STAT n) (s.rd (ENC_STAT n) &&& ~~~(BitVec.ofNat 32 (v.toNat &&&
    (0x7F - ((if ok.a then 0 else 1) + (if ok.b then 0 else 2) + (if ok.z then 0 else 4))))))).onEnc n
      (fun c => c.report (c.badA && !ok.a) (c.badB && !ok.b) s.tt)

theorem clearEncStat_cases (s : State) (n : Enc) (v : Word) (ok : EncValid) :
    s.clearEncStat n v ok = (encStatCleared s n v ok).syncSigBad n ∨
    s.clearEncStat n v ok = ((encStatCleared s n v ok).syncSigBad n).onEnc n (fun c => { c with zRef := none, zRev := false }) := by
  unfold State.clearEncStat encStatCleared
  exact (ite_eq_or_eq _ _ _).symm

theorem getLsbD_encStatCleared (s : State) (n : Enc) (v : Word) (ok : EncValid) {k : Nat} (h : k < 7) :
    ((encStatCleared s n v ok).rd (ENC_STAT n)).getLsbD k = ((s.rd (ENC_STAT n)).getLsbD k &&
      !(v.getLsbD k && (if k = 0 then ok.a else if k = 1 then ok.b else if k = 2 then ok.z else true))) := by
  have hk : k < 32 := by omega
  rw [encStatCleared, rd_onEnc, rd_wr_same, BitVec.getLsbD_and, BitVec.getLsbD_not, BitVec.getLsbD_ofNat, Nat.testBit_and,
    clearMask_testBit _ _ _ h, BitVec.testBit_toNat, decide_eq_true hk]
  simp

/-- What a write of `ENC_STAT` leaves. -/
theorem clearEncStat_leaves (s : State) (n : Enc) (v : Word) (ok : EncValid) :
    (∀ k, k < 7 → ((s.clearEncStat n v ok).rd (ENC_STAT n)).getLsbD k = ((s.rd (ENC_STAT n)).getLsbD k &&
      !(v.getLsbD k && (if k = 0 then ok.a else if k = 1 then ok.b else if k = 2 then ok.z else true)))) ∧
      (s.clearEncStat n v ok).rd64 (ENC_CNT n) = s.rd64 (ENC_CNT n) ∧ (s.clearEncStat n v ok).kiln.dom = s.kiln.dom ∧
      (s.clearEncStat n v ok).mem = s.mem := by
  have hcnt : ENC_CNT n ≠ ENC_STAT n ∧ ENC_CNT n + 4 ≠ ENC_STAT n := by unfold ENC_CNT ENC_STAT; omega
  have hrd {o : Nat} (h : o ≠ ENC_STAT n) : ((encStatCleared s n v ok).syncSigBad n).rd o = s.rd o := by
    rw [rd_syncSigBad_other h, encStatCleared, rd_onEnc, rd_wr_other _ _ h]
  have hkiln : (encStatCleared s n v ok).kiln.dom = s.kiln.dom := by rw [encStatCleared, onEnc_dom, wr_kiln]
  have hmem : (encStatCleared s n v ok).mem = s.mem := by rw [encStatCleared, onEnc_mem, wr_mem]
  rcases clearEncStat_cases s n v ok with h | h
  all_goals
    rw [h]
    simp only [rd_onEnc, rd64_onEnc, onEnc_dom, onEnc_mem, syncSigBad_rest.1, syncSigBad_rest.2.1, hkiln, hmem, and_true]
    refine ⟨fun k hk => ?_, rd64_eq_of_rd_eq (hrd hcnt.1) (hrd hcnt.2)⟩
    rw [getLsbD_syncSigBad _ _ (by omega), getLsbD_encStatCleared _ _ _ _ hk]

end Sys2Proof.Machine
end

section
open Sys2Proof Sys2Proof.Machine

/-- Settles O12: each command by the lemmas about what it leaves. -/
theorem encoderEvents : Obligations.EncoderEvents := by
  unfold Obligations.EncoderEvents
  refine ⟨?overrate, ?seen, ?reference, ?loss, ?zLoss, ?clear, ?refused⟩
  case overrate =>
    intro s n h
    show execEncOverrateEnd n s = _
    exact congrArg _ (if_pos h)
  case seen =>
    intro s n hz
    obtain ⟨t, hexec, ht⟩ := exec_encIndexEdge_of_active hz
    obtain ⟨hzcnt, hcnt, hseen, hmem, hdom⟩ := index_of_active ht
    exact ⟨t, hexec, hzcnt, hcnt, hseen, hmem, hdom, exec_encIndexEdge_of_inactive⟩
  case reference =>
    intro s n r hz hon hlost hlossZ href
    refine ⟨_, exec_encIndexEdge_of_ref hz hon hlost hlossZ href, ?_⟩
    by_cases hoff : indexOff s n r = true
    · rw [if_pos hoff, if_pos ((indexOff_iff s n r).1 hoff)]
      exact ⟨by rw [indexWrong_kiln, indexTaken_zRef], indexWrong_error s n⟩
    · rw [if_neg hoff, if_neg (mt (indexOff_iff s n r).2 hoff)]
      exact ⟨indexTaken_zRef s n, indexTaken_error s n⟩
  case loss =>
    intro s n a b
    obtain ⟨hA, hB, hsig, hmem, hcnt⟩ := sigLost_shows s n a b
    obtain ⟨hlossA, hlossB, hfcu⟩ := sigLost_losses s n a b
    exact ⟨sigLost s n a b, exec_encSignalLoss s n a b, hA, hB, hsig, hlossA, hlossB, hfcu, hcnt, hmem⟩
  case zLoss =>
    intro s n hon hz h
    exact ⟨_, exec_encZLoss_of_new hon hz h, zLost_leaves s n⟩
  case clear =>
    intro s n v ok hreach
    refine ⟨s.clearEncStat n v ok, ?_, clearEncStat_leaves s n v ok⟩
    show Host.Outcome.next (s.portal 0 (ENC_STAT n) true (s.clearEncStat n v ok)) = _
    rw [portal_of_allowed hreach]
  case refused =>
    intro s n m v ok hm hreach
    show Host.Outcome.next (s.portal m (ENC_STAT n) (m == 0) (s.clearEncStat n v ok)) = _
    rw [beq_false_of_ne hm, portal_of_refused hreach]

end

section
/-! Queue pairs: what a change of one queue pair, of its status word and of the host interface leaves of the rest. -/

namespace Sys2Proof.Machine

variable {s t u : State} {q : Nat}

/-! ### One queue pair -/

theorem hq_onHq_same (s : State) (q : Nat) (f : HostQueue → HostQueue) : (s.onHq q f).hq q = f (s.hq q) := by
  rw [State.hq, State.onHq, lookup_setKey_same]

theorem hq_onHq_other (s : State) {q k : Nat} (f : HostQueue → HostQueue) (h : k ≠ q) : (s.onHq q f).hq k = s.hq k := by
  rw [State.hq, State.onHq, lookup_setKey_other _ _ _ h, State.hq]

theorem hq_of_queues_eq (h : t.host.queues = s.host.queues) (k : Nat) : t.hq k = s.hq k := by
  rw [State.hq, h, State.hq]

theorem flag_onHost (s : State) (g : HostIf → HostIf) (f : Fld) : (s.onHost g).flag f = s.flag f := rfl

theorem flag_syncEngine (s : State) (f : Fld) : s.syncEngine.flag f = s.flag f := rfl

/-! ### States that differ in the host interface alone -/

/-- `t` differs from `s` in the host interface, in the status word of queue pair `q` and in the engines' requests alone, as far as
Kilnware's checks of packets and chains look at the rest. -/
structure HostOnly (q : Nat) (s t : State) : Prop where
  rd : ∀ o, o ≠ HQ_STAT q → t.rd o = s.rd o
  msixOn : t.host.msixOn = s.host.msixOn
  fuses : t.sag.fuses = s.sag.fuses := by rfl
  part : t.part = s.part := by rfl
  fn : t.fn = s.fn := by rfl
  mem : t.mem = s.mem := by rfl
  stage : t.stage = s.stage := by rfl
  stagings : t.stagings = s.stagings := by rfl
  chains : t.chains = s.chains := by rfl
  te : t.te = s.te := by rfl
  cores : t.cores = s.cores := by rfl
  arch : t.arch = s.arch := by rfl
  tw : t.tw = s.tw := by rfl

theorem HostOnly.trans (h : HostOnly q s t) (k : HostOnly q t u) : HostOnly q s u where
  rd o ho := (k.rd o ho).trans (h.rd o ho)
  msixOn := k.msixOn.trans h.msixOn
  fuses := k.fuses.trans h.fuses
  part := k.part.trans h.part
  fn := k.fn.trans h.fn
  mem := k.mem.trans h.mem
  stage := k.stage.trans h.stage
  stagings := k.stagings.trans h.stagings
  chains := k.chains.trans h.chains
  te := k.te.trans h.te
  cores := k.cores.trans h.cores
  arch := k.arch.trans h.arch
  tw := k.tw.trans h.tw

theorem HostOnly.get (h : HostOnly q s t) (f : Fld) (hf : f.off ≠ HQ_STAT q) : t.get f = s.get f :=
  get_eq_of_rd_eq (h.rd _ hf)

theorem HostOnly.flag (h : HostOnly q s t) (f : Fld) (hf : f.off ≠ HQ_STAT q) : t.flag f = s.flag f :=
  flag_eq_of_rd_eq (h.rd _ hf)

theorem hostOnly_syncEngine (s : State) (q : Nat) : HostOnly q s s.syncEngine :=
  { rd := fun _ _ => rfl, msixOn := rfl }

theorem hostOnly_onHost (s : State) (q : Nat) (f : HostIf → HostIf) (hf : (f s.host).msixOn = s.host.msixOn) : HostOnly q s (s.onHost f) :=
  { rd := fun _ _ => rfl, msixOn := hf }

theorem hostOnly_onHq (s : State) (q k : Nat) (f : HostQueue → HostQueue) : HostOnly q s (s.onHq k f) :=
  { rd := fun _ _ => rfl, msixOn := rfl }

theorem hostOnly_put (s : State) (q : Nat) (f : Fld) (v : Nat) (hf : f.off = HQ_STAT q) : HostOnly q s (s.put f v) :=
  { rd := fun _ ho => rd_put_other s f v (hf ▸ ho), msixOn := rfl }

theorem hostOnly_waitEnd (s : State) (q : Nat) (refused : Bool) (chain : List Bytes) : HostOnly q s (s.waitEnd q refused chain) :=
  (hostOnly_onHq s q q _).trans (hostOnly_put _ q _ _ rfl)

theorem HostOnly.when (h : HostOnly q s t) (c : Bool) (f : State → State) (hf : HostOnly q t (f t)) : HostOnly q s (t.when c f) := by
  cases c with
  | false => exact h
  | true => exact h.trans hf

section
variable (h : HostOnly q s t)
include h

theorem HostOnly.mode (hq : q < 64) : t.mode = s.mode :=
  h.get _ (show PM_MODE ≠ HQ_STAT q by unfold PM_MODE HQ_STAT; omega)

theorem HostOnly.role (hq : q < 64) : t.role = s.role :=
  h.get _ (show TW_STAT ≠ HQ_STAT q by unfold TW_STAT HQ_STAT; omega)

theorem HostOnly.follows (hq : q < 64) : t.follows = s.follows := by
  unfold State.follows
  rw [h.role hq, h.tw]

theorem HostOnly.hqCtrl : t.flag (HQ_CTRL_EN q) = s.flag (HQ_CTRL_EN q) :=
  h.flag _ (show HQ_CTRL q ≠ HQ_STAT q by unfold HQ_CTRL HQ_STAT; omega)

theorem HostOnly.hiStat (f : Fld) (hf : f.off = HI_STAT) : t.get f = s.get f :=
  h.get _ (by rw [hf]; unfold HI_STAT HQ_STAT; omega)

theorem HostOnly.holdsCpl (f : Fin 2) : t.holdsCpl f = s.holdsCpl f := by
  have hd : t.get (pfState f) = s.get (pfState f) := h.hiStat _ (by unfold pfState; split <;> rfl)
  have hb : t.get (pfBme f) = s.get (pfBme f) := h.hiStat _ (by unfold pfBme; split <;> rfl)
  rw [State.holdsCpl, State.inD3, hd, flag_eq_of_get_eq hb, h.msixOn, State.holdsCpl, State.inD3]

theorem HostOnly.chainWrites (n : Nat) : t.chainWrites n = s.chainWrites n := by
  rw [State.chainWrites, h.chains, State.chainWrites]

theorem HostOnly.efnOf (cmds : List Bytes) : t.efnOf cmds = s.efnOf cmds := by
  unfold State.efnOf
  rw [h.fn]

theorem HostOnly.cfnOf (p : Bytes) : t.cfnOf p = s.cfnOf p := by
  rw [State.cfnOf, h.fn, State.cfnOf]

theorem HostOnly.needsAuth (p : Bytes) : t.needsAuth p = s.needsAuth p := by
  have hpeo (n : Nat) (hn : n < 32) : PEO_CFG n ≠ HQ_STAT q := by unfold PEO_CFG HQ_STAT; omega
  have hsafe (n : Nat) (hn : n < 32) : t.flag (PEO_CFG_SAFETY n) = s.flag (PEO_CFG_SAFETY n) := h.flag _ (hpeo n hn)
  have howner (n : Nat) (hn : n < 32) : t.get (PEO_CFG_OWNER n) = s.get (PEO_CFG_OWNER n) := h.get _ (hpeo n hn)
  have howns (g : Nat) : t.ownsSafety g = s.ownsSafety g := by
    unfold State.ownsSafety
    simp only [hsafe _ (Fin.isLt _), howner _ (Fin.isLt _)]
  unfold State.needsAuth
  simp only [howns, hsafe _ (Nat.mod_lt _ (by decide : 0 < 32))]

theorem HostOnly.runAllowed : t.runAllowed = s.runAllowed := by
  unfold State.runAllowed State.lifecycle State.fuse
  rw [h.fuses]

theorem HostOnly.checkMode (hq : q < 64) (m : Nat) : t.checkMode m false = s.checkMode m false := by
  unfold State.checkMode
  simp only [h.mode hq, h.runAllowed, Bool.false_eq_true, false_and, if_false]

theorem HostOnly.checkCoil (p : Bytes) : t.checkCoil p = s.checkCoil p := by
  have hen : t.flag AR_CTRL_EN = s.flag AR_CTRL_EN := h.flag _ (show AR_CTRL ≠ HQ_STAT q by unfold AR_CTRL HQ_STAT; omega)
  unfold State.checkCoil
  rw [h.arch, h.te, hen]

theorem HostOnly.checkEpoch (e : Nat) : t.checkEpoch e = s.checkEpoch e := by
  have hmax : t.get SG_EPOCH_MAX_EPOCH = s.get SG_EPOCH_MAX_EPOCH :=
    h.get _ (show SG_EPOCH_MAX ≠ HQ_STAT q by unfold SG_EPOCH_MAX HQ_STAT; omega)
  have hstep : t.flag TW_STAT_INSTEP = s.flag TW_STAT_INSTEP := h.flag _ (show TW_STAT ≠ HQ_STAT q by unfold TW_STAT HQ_STAT; omega)
  have hpeer : t.get TW_EPOCH_PEER_MAX = s.get TW_EPOCH_PEER_MAX :=
    h.get _ (show TW_EPOCH ≠ HQ_STAT q by unfold TW_EPOCH HQ_STAT; omega)
  rw [State.checkEpoch, hmax, hstep, hpeer, State.checkEpoch]

theorem HostOnly.checkApp (hq : q < 64) (g : Group) (a : Nat) : t.checkApp g a = s.checkApp g a := by
  have hpwr : LS_PWR g ≠ HQ_STAT q := by unfold LS_PWR HQ_STAT; omega
  have hoff : t.poweredOff g = s.poweredOff g := h.flag _ hpwr
  have hack : t.flag (LS_PWR_ON_ACK g) = s.flag (LS_PWR_ON_ACK g) := h.flag _ hpwr
  rw [State.checkApp, h.part, h.mode hq, hoff, hack, State.checkApp]

/-- A staged command other than WRITE_REG is judged without regard to the host interface. -/
theorem HostOnly.checkCmd (hq : q < 64) (p : Bytes) : t.checkCmd p false = s.checkCmd p false := by
  have hlane (n : Lane) : t.laneSt n = s.laneSt n := h.get _ (show HL_STAT n ≠ HQ_STAT q by unfold HL_STAT HQ_STAT; omega)
  have hcore (g : Group) : t.get (LS_STAT_STATE g) = s.get (LS_STAT_STATE g) :=
    h.get _ (show LS_STAT g ≠ HQ_STAT q by unfold LS_STAT HQ_STAT; omega)
  unfold State.checkCmd
  simp only [h.checkMode hq, h.checkEpoch, h.checkApp hq, h.checkCoil, h.role hq, h.part, hlane, hcore]

end

end Sys2Proof.Machine
end

section
/-! Packets and chains of the host: which is taken, what a chain that its END completes becomes, and the completions of one that
has no effect (R360 to R367). -/

namespace Sys2Proof.Machine

variable {s : State} {q : Nat} {p : Bytes} {rest : List Bytes}

/-! ### Which packet is taken -/

theorem inTurn_syncEngine (s : State) (q : Nat) (p : Bytes) : s.syncEngine.inTurn q p = s.inTurn q p := rfl

/-- No packet whose opcode a row lists, or whose turn it is not, is skipped. -/
theorem skipUnknown_of_listed (fuel : Nat) (h : ∀ p rest, (s.hq q).inbox = p :: rest → (pktRow p).isNone = false ∨ s.inTurn q p = false) :
    s.skipUnknown fuel q = s := by
  cases fuel with
  | zero => rfl
  | succ n =>
    unfold State.skipUnknown
    split
    · rename_i hin
      rcases h _ _ hin with h | h <;> rw [h] <;> simp
    · rfl

/-- A packet with the row's opcode whose turn it is is taken. -/
theorem takeRow_of_turn {op : Nat} {bad : Option (Nat × Nat)} (ht : s.takesPackets q = true) (hs : s.host.staging = [])
    (hin : (s.hq q).inbox = p :: rest) (hop : pktOp p = op) (hrow : (pktRow p).isNone = false) (hturn : s.inTurn q p = true) :
    s.takeRow q op bad = s.syncEngine.packet q bad := by
  have hin' : (s.syncEngine.hq q).inbox = p :: rest := hin
  have hskip (fuel : Nat) : s.syncEngine.skipUnknown fuel q = s.syncEngine := by
    refine skipUnknown_of_listed fuel (fun x l hx => .inl ?_)
    rw [hin'] at hx
    rw [← (List.cons.inj hx).1, hrow]
  unfold State.takeRow
  rw [ht, stageOn_of_nil hs, hskip]
  simp only [hin', hop, inTurn_syncEngine, hturn, and_self, if_true, Bool.not_true, Bool.false_eq_true, if_false]

/-- A packet whose turn it is not waits. -/
theorem takeRow_of_wait {op : Nat} {bad : Option (Nat × Nat)} (ht : s.takesPackets q = true) (hs : s.host.staging = [])
    (hin : (s.hq q).inbox = p :: rest) (hturn : s.inTurn q p = false) : s.takeRow q op bad = s.syncEngine := by
  have hin' : (s.syncEngine.hq q).inbox = p :: rest := hin
  have hskip (fuel : Nat) : s.syncEngine.skipUnknown fuel q = s.syncEngine := by
    refine skipUnknown_of_listed fuel (fun x l hx => .inr ?_)
    rw [hin'] at hx
    rw [← (List.cons.inj hx).1, inTurn_syncEngine, hturn]
  unfold State.takeRow
  rw [ht, stageOn_of_nil hs, hskip]
  simp only [hin', inTurn_syncEngine, hturn, and_false, Bool.false_eq_true, if_false, Bool.not_true]

/-! ### What a packet that is taken becomes -/

/-- Kilnware has taken the packet at the front of a queue's inbox; what remains stays. -/
def State.unboxed (s : State) (q : Nat) (rest : List Bytes) : State :=
  s.syncEngine.onHq q (fun h => { h with inbox := rest })

/-- The same with the end of the queue's chain, which leaves the order of fetch. -/
def State.ended (s : State) (q : Nat) (rest : List Bytes) : State :=
  ((s.unboxed q rest).onHost (fun h => { h with order := h.order.erase q })).waitEnd q false []

/-- The packet that ends a chain has the chain staged. -/
theorem packet_of_chain {bad : Option (Nat × Nat)} (hin : (s.hq q).inbox = p :: rest) (hw : (s.hq q).waitEnd = false)
    (hb : breaksChain (s.hq q).chain p = false) (hend : pktEnd p = true) (hc : ((s.hq q).chain.isEmpty && !pktStaged p) = false) :
    s.syncEngine.packet q bad = (s.ended q rest).stageChain q ((s.hq q).chain ++ [p]) := by
  have hcl : (s.hq q).closes p = true := by
    rw [HostQueue.closes, hend, hw]
    revert hc
    cases (s.hq q).chain.isEmpty <;> cases pktStaged p <;> simp
  have hq : s.syncEngine.hq q = s.hq q := rfl
  unfold State.packet
  simp only [hq, hin, hw, hb, hend, hc, hcl, Bool.false_eq_true, if_false, Bool.not_true]
  rfl

/-- A lone immediate command is performed. -/
theorem packet_of_immediate {bad : Option (Nat × Nat)} (hin : (s.hq q).inbox = p :: rest) (hw : (s.hq q).waitEnd = false)
    (hchain : (s.hq q).chain = []) (hb : breaksChain [] p = false) (hend : pktEnd p = true) (hst : pktStaged p = false) :
    s.syncEngine.packet q bad = ((s.unboxed q rest).waitEnd q false []).takeNow q p bad := by
  have hcl : (s.hq q).closes p = false := by rw [HostQueue.closes, hchain, hw, hst]; simp
  have hq : s.syncEngine.hq q = s.hq q := rfl
  unfold State.packet
  simp only [hq, hin, hw, hchain, hb, hend, hst, hcl, Bool.false_eq_true, if_false, Bool.not_true, Bool.not_false, List.isEmpty_nil,
    Bool.and_self, if_true]
  rfl

/-- A packet without END is collected. -/
theorem packet_of_open {bad : Option (Nat × Nat)} (hin : (s.hq q).inbox = p :: rest) (hw : (s.hq q).waitEnd = false)
    (hb : breaksChain (s.hq q).chain p = false) (hend : pktEnd p = false) :
    s.syncEngine.packet q bad = (s.unboxed q rest).waitEnd q false ((s.hq q).chain ++ [p]) := by
  have hcl : (s.hq q).closes p = false := by rw [HostQueue.closes, hend, Bool.false_and]
  have hq : s.syncEngine.hq q = s.hq q := rfl
  unfold State.packet
  simp only [hq, hin, hw, hb, hend, hcl, Bool.false_eq_true, if_false, Bool.not_false, if_true]
  rfl

/-! ### The state in which a chain is judged -/

theorem hostOnly_unboxed (s : State) (q : Nat) (rest : List Bytes) : HostOnly q s (s.unboxed q rest) :=
  (hostOnly_syncEngine s q).trans (hostOnly_onHq _ q q _)

theorem hostOnly_ended (s : State) (q : Nat) (rest : List Bytes) : HostOnly q s (s.ended q rest) :=
  ((hostOnly_unboxed s q rest).trans (hostOnly_onHost _ q _ rfl)).trans (hostOnly_waitEnd _ q _ _)

theorem hq_putFlag (s : State) (f : Fld) (b : Bool) (k : Nat) : (s.putFlag f b).hq k = s.hq k := rfl

theorem hq_waitEnd_same (s : State) (q : Nat) (refused : Bool) (chain : List Bytes) :
    (s.waitEnd q refused chain).hq q = { s.hq q with chain := chain, waitEnd := refused } := by
  rw [State.waitEnd, hq_putFlag, hq_onHq_same]

theorem hq_waitEnd_other (s : State) {q k : Nat} (refused : Bool) (chain : List Bytes) (h : k ≠ q) :
    (s.waitEnd q refused chain).hq k = s.hq k := by
  rw [State.waitEnd, hq_putFlag, hq_onHq_other _ _ h]

theorem hq_unboxed_same (s : State) (q : Nat) (rest : List Bytes) : (s.unboxed q rest).hq q = { s.hq q with inbox := rest } :=
  hq_onHq_same _ q _

theorem hq_unboxed_other (s : State) {q k : Nat} (rest : List Bytes) (h : k ≠ q) : (s.unboxed q rest).hq k = s.hq k :=
  hq_onHq_other _ _ h

/-- `u` is `s` after the packets of a queue's chain have been taken: nothing of the chain stands in the queue pair any more. -/
structure Taken (q : Nat) (rest : List Bytes) (s u : State) : Prop where
  frame : HostOnly q s u
  own : u.hq q = { s.hq q with inbox := rest, chain := [], waitEnd := false }
  others : ∀ k, k ≠ q → u.hq k = s.hq k
  staging : u.host.staging = s.host.staging

theorem taken_unboxed (s : State) (q : Nat) (rest : List Bytes) : Taken q rest s ((s.unboxed q rest).waitEnd q false []) where
  frame := (hostOnly_unboxed s q rest).trans (hostOnly_waitEnd _ q _ _)
  own := by rw [hq_waitEnd_same, hq_unboxed_same]
  others k h := by rw [hq_waitEnd_other _ _ _ h, hq_unboxed_other _ _ h]
  staging := rfl

theorem taken_ended (s : State) (q : Nat) (rest : List Bytes) : Taken q rest s (s.ended q rest) where
  frame := hostOnly_ended s q rest
  own := by
    rw [State.ended, hq_waitEnd_same]
    exact congrArg (fun h : HostQueue => { h with chain := [], waitEnd := false }) (hq_unboxed_same s q rest)
  others k h := by
    rw [State.ended, hq_waitEnd_other _ _ _ h]
    exact hq_unboxed_other s rest h
  staging := rfl

theorem flag_waitEnd_same (s : State) (q : Nat) (refused : Bool) (chain : List Bytes) :
    (s.waitEnd q refused chain).flag (HQ_STAT_WAIT_CHAIN q) = (refused || !chain.isEmpty) :=
  flag_putFlag_same _ _ _ rfl Nat.one_pos

theorem ended_order (s : State) (q : Nat) (rest : List Bytes) : (s.ended q rest).host.order = s.host.order.erase q := rfl

theorem ended_out (s : State) (q : Nat) (rest : List Bytes) : (s.ended q rest).host.out = s.host.out := rfl

end Sys2Proof.Machine
end

section
/-! What a chain of the host that has been taken leaves: its completions without effect, its place in staging, or its place among the
chains that wait for their firing (R361, R366, R367). -/

namespace Sys2Proof.Machine

variable {s t u : State} {q : Nat} {p a : Bytes} {rest : List Bytes}

/-! ### Completions that fall due (R361, R374) -/

/-- What a completion that falls due leaves: it stands at the end of those of its queue pair, held where R374 says so. -/
structure Completed (q : Nat) (c : Cpl) (s t : State) : Prop where
  frame : HostOnly q s t
  own : t.hq q = { s.hq q with ready := (s.hq q).ready ++ [{ c with held := s.holdsCpl (qFunc q) }] }
  others : ∀ k, k ≠ q → t.hq k = s.hq k
  staging : t.host.staging = s.host.staging

theorem Completed.setPba {c : Cpl} (h : Completed q c s t) (f : Fin 2) (v : Nat) : Completed q c s (t.setPba f v) where
  frame := h.frame.trans { rd := fun _ _ => rfl, msixOn := rfl }
  own := h.own
  others := h.others
  staging := h.staging

theorem Completed.sendPme {c : Cpl} (h : Completed q c s t) (f : Fin 2) : Completed q c s (t.sendPme f) where
  frame := h.frame.trans (hostOnly_onHost t q _ rfl)
  own := h.own
  others := h.others
  staging := h.staging

theorem Completed.markHeld {c : Cpl} (h : Completed q c s t) : Completed q c s (t.putFlag (HQ_STAT_HELD q) true) where
  frame := h.frame.trans (hostOnly_put t q _ _ rfl)
  own := h.own
  others := h.others
  staging := h.staging

theorem completed_onHq (s : State) (q : Nat) (c : Cpl) :
    Completed q c s (s.onHq q (fun h => { h with ready := h.ready ++ [{ c with held := s.holdsCpl (qFunc q) }] })) where
  frame := hostOnly_onHq s q q _
  own := hq_onHq_same s q _
  others _ h := hq_onHq_other s _ h
  staging := rfl

theorem completed_pushCpl (c : Cpl) (hen : s.flag (HQ_CTRL_EN q) = true) : Completed q c s (s.pushCpl q c) := by
  have h := completed_onHq s q c
  unfold State.pushCpl
  rw [hen]
  simp only [Bool.not_true, Bool.false_eq_true, if_false]
  split
  · exact h
  · have hpba := h.markHeld.setPba (qFunc q) (s.get (HQ_VEC_VEC q))
    cases s.inD3 (qFunc q) with
    | false => exact hpba
    | true => exact hpba.sendPme _

/-! ### A command that completes at once -/

/-- What a lone command that completes at once, with nothing done, leaves of `s`. -/
def Answered (s t : State) (q : Queue) (p : Bytes) (rest : List Bytes) (st cfn : Nat) : Prop :=
  (t.hq q).inbox = rest ∧ (t.hq q).ready = (s.hq q).ready ++ [⟨pktTag p, st, false, s.holdsCpl (qFunc q), cfn, []⟩] ∧
    t.host.staging = [] ∧ (t.hq q).chain = [] ∧ t.chains = s.chains ∧ t.stage = s.stage ∧ t.mem = s.mem ∧ t.cores = s.cores ∧
    (∀ k : Queue, k ≠ q → t.hq k = s.hq k)

theorem answered_of_reply {q : Queue} {st cfn : Nat} (hu : Taken q rest s u) (hs : s.host.staging = [])
    (hen : s.flag (HQ_CTRL_EN q) = true) : Answered s (u.reply q p false st cfn []) q p rest st cfn := by
  obtain ⟨frame, own, others, staging⟩ := completed_pushCpl (q := q)
    { tag := pktTag p, status := st, chain := false, held := false, cfn := cfn, result := [] } (hu.frame.hqCtrl.trans hen)
  have hall := hu.frame.trans frame
  unfold Answered State.reply
  rw [own, hu.own, hu.frame.holdsCpl]
  exact ⟨rfl, rfl, by rw [staging, hu.staging, hs], rfl, hall.chains, hall.stage, hall.mem, hall.cores,
    fun k hk => by rw [others _ (Fin.val_ne_of_ne hk), hu.others _ (Fin.val_ne_of_ne hk)]⟩

theorem replyChain_single (s : State) (q : Nat) (p : Bytes) (st : Nat → Nat) :
    s.replyChain q [p] st = s.reply q p false (st 0) (s.cfnOf p) [] := rfl

/-! ### A chain whose END has been taken (R366, R368) -/

theorem stageChain_of_lockdown (cmds : List Bytes) (h : s.mode = modeLockdown) :
    s.stageChain q cmds = s.replyChain q cmds (fun _ => stMode) :=
  if_pos h

theorem stageChain_of_follower {cmds : List Bytes} (h : s.mode ≠ modeLockdown) (hf : s.follows = true) (hn : isAuthNow cmds = false) :
    s.stageChain q cmds = s.replyChain q cmds (fun _ => stState) := by
  simp [State.stageChain, h, hf, hn]

/-- A lone command that wants an authorisation is refused for it. -/
theorem stageChain_of_unauthorised (h : s.mode ≠ modeLockdown) (hf : s.follows = false) (hop : pktOp p ≠ opAuthRef)
    (hn : s.needsAuth p = true) : s.stageChain q [p] = s.reply q p false stAuthRequired (s.cfnOf p) [] := by
  have hst : s.stageChain q [p] = s.replyChain q [p] (fun i => if s.needsAuth ([p].getD i []) then stAuthRequired else stChainAbort) := by
    simp [State.stageChain, h, hf, hn, hop]
  rw [hst, replyChain_single, List.getD_cons_zero, if_pos hn]

/-- A chain that is not refused is the one that is staged, where nothing else is. -/
theorem stageChain_of_accepted {cmds : List Bytes} {blob : Bool} (hs : s.host.staging = []) (h : s.mode ≠ modeLockdown)
    (hf : (s.follows && !isAuthNow cmds) = false) (hblob : (pktOp (cmds.headD []) == opAuthRef) = blob)
    (hn : blob = true ∨ cmds.any (fun p => s.needsAuth p) = false) :
    s.stageChain q cmds = (s.onHost (fun h => { h with staging := [{ q := q, cmds := cmds, blob := blob }] })).stageOn := by
  have hauth : (!blob && cmds.any (fun p => s.needsAuth p)) = false := by
    rcases hn with rfl | hn
    · rfl
    · rw [hn, Bool.and_false]
  have hone : s.onHost (fun h => { h with staging := h.staging ++ [{ q := q, cmds := cmds, blob := blob }] }) =
      s.onHost (fun h => { h with staging := [{ q := q, cmds := cmds, blob := blob }] }) := by
    rw [State.onHost, hs, State.onHost, List.nil_append]
  unfold State.stageChain
  simp only [hblob, hauth, hf, h, hone, Bool.false_eq_true, if_false]

/-- The one chain in staging is taken as far as it goes. -/
theorem stageOn_of_single {c : Staging} (h : s.host.staging = [c]) : s.stageOn = (s.stageHead c).syncEngine := by
  have hdrain : s.drainStaging 1 = s.stageHead c := by
    unfold State.drainStaging
    simp only [h]
    exact ite_self _
  rw [State.stageOn, h, List.length_singleton, hdrain]

/-! ### A place among the chains that wait (R47, R366) -/

/-- A message to the peer is on a lane. -/
theorem sendPeer_lanes (s : State) (typ : Nat) (content : Bytes) : ∃ l, s.sendPeer typ content = { s with lanes := l } := by
  unfold State.sendPeer
  split
  · unfold State.send
    dsimp only
    split
    · exact ⟨_, rfl⟩
    · exact ⟨s.lanes, rfl⟩
  · exact ⟨s.lanes, rfl⟩

/-- A chain in time, with room in the stage, waits for its firing; a leader forwards it. -/
theorem place_of_room {c : Staging} (ha : c.auth = none) (hlo : s.fn < s.efnOf c.cmds) (hhi : s.efnOf c.cmds ≤ s.fn + 2 ^ 20)
    (hn : s.chains.length < 256)
    (hroom : s.chainWrites (s.efnOf c.cmds) + chainCost c.cmds + (if s.efnOf c.cmds = s.fn + 1 then s.stage.length else 0) ≤ stageMax) :
    ∃ l, s.place c = { s.addChain { fn := s.efnOf c.cmds, writes := chainCost c.cmds, q := some c.q, cmds := c.cmds, codes := c.codes }
      with lanes := l } := by
  have hlate : decide (s.efnOf c.cmds ≤ s.fn) = false := decide_eq_false (Nat.not_le.2 hlo)
  have hfar : ¬ s.fn + 2 ^ 20 < s.efnOf c.cmds := Nat.not_lt.2 hhi
  have hfull : ¬ (256 ≤ s.chains.length ∨
      stageMax < s.chainWrites (s.efnOf c.cmds) + chainCost c.cmds + (if s.efnOf c.cmds = s.fn + 1 then s.stage.length else 0)) :=
    not_or.2 ⟨Nat.not_le.2 hn, Nat.not_lt.2 hroom⟩
  unfold State.place
  simp only [hlate, ha, hfar, hfull, Bool.false_eq_true, if_false, Bool.false_and, Bool.not_true]
  split
  · exact sendPeer_lanes _ _ _
  · exact ⟨s.lanes, rfl⟩

end Sys2Proof.Machine
end

section
/-! The staged rows of R363 as packets: a lone one, one behind an AUTH_REF, one that is refused, and one whose turn it is not. -/

namespace Sys2Proof.Machine

variable {s : State} {q : Queue} {p a : Bytes} {rest : List Bytes} {op : Nat} {r : OpRow}

/-! ### Rows and chains -/

theorem pktRow_of_op (hop : pktOp p = op) (hr : opRows.find? (fun r => r.op == op) = some r) : pktRow p = some r := by
  rw [pktRow, hop, hr]

theorem pktStaged_of_op (hop : pktOp p = op) (hr : opRows.find? (fun r => r.op == op) = some r) : pktStaged p = r.staged := by
  rw [pktStaged, pktRow_of_op hop hr]

/-- A packet at position 0 that is staged or alone breaks no chain. -/
theorem breaksChain_first (hpos : pktPos p = 0) (h : pktStaged p = true ∨ pktEnd p = true) : breaksChain [] p = false := by
  rcases h with h | h <;> simp [breaksChain, hpos, h]

/-- A command behind an AUTH_REF at its firing, with END where it is immediate, breaks no chain. -/
theorem breaksChain_second (hpos : pktPos p = 1) (hefn : pktEfn p = pktEfn a) (ha : pktOp a = opAuthRef) (hend : pktEnd p = true)
    (hop : pktOp p ≠ opAuthRef) (h : pktStaged p = true ∨ pktAuthNow p = true) : breaksChain [a] p = false := by
  rcases h with h | h <;> simp [breaksChain, hpos, hefn, ha, hend, hop, h]

/-! ### The packet at the front -/

/-- Kilnware takes packets of the queue, `p` is the first of them, `chain` has been collected, and nothing is being staged. -/
structure Front (s : State) (q : Queue) (p : Bytes) (rest chain : List Bytes) : Prop where
  takes : s.takesPackets q = true
  staging : s.host.staging = []
  inbox : (s.hq q).inbox = p :: rest
  chain : (s.hq q).chain = chain
  waitEnd : (s.hq q).waitEnd = false

theorem Front.enabled {chain : List Bytes} (h : Front s q p rest chain) : s.flag (HQ_CTRL_EN q) = true :=
  (Bool.and_eq_true_iff.1 (Bool.and_eq_true_iff.1 h.takes).2).1

theorem inTurn_of_first {s : State} {q : Nat} (p : Bytes) (h : s.host.order.find? s.takesPackets = some q) : s.inTurn q p = true := by
  rw [State.inTurn, h, beq_self_eq_true, Bool.or_true]

/-- The packet that ends its chain, in turn, has the chain staged. -/
theorem Front.stages {chain : List Bytes} (h : Front s q p rest chain) (hop : pktOp p = op)
    (hr : opRows.find? (fun r => r.op == op) = some r) (hb : breaksChain chain p = false) (hend : pktEnd p = true)
    (hc : (chain.isEmpty && !pktStaged p) = false) (hturn : s.host.order.find? s.takesPackets = some q.val) :
    s.takeRow q op none = (s.ended q rest).stageChain q (chain ++ [p]) := by
  have hrow : (pktRow p).isNone = false := by rw [pktRow_of_op hop hr]; rfl
  rw [← h.chain] at hb hc
  rw [takeRow_of_turn h.takes h.staging h.inbox hop hrow (inTurn_of_first p hturn), packet_of_chain h.inbox h.waitEnd hb hend hc,
    h.chain]

/-- The same for a lone staged command. -/
theorem Front.stagesAlone (h : Front s q p rest []) (hop : pktOp p = op) (hr : opRows.find? (fun r => r.op == op) = some r)
    (hst : r.staged = true) (hpos : pktPos p = 0) (hend : pktEnd p = true)
    (hturn : s.host.order.find? s.takesPackets = some q.val) : s.takeRow q op none = (s.ended q rest).stageChain q [p] := by
  have hst' : pktStaged p = true := (pktStaged_of_op hop hr).trans hst
  exact h.stages hop hr (breaksChain_first hpos (.inl hst')) hend (by rw [hst']; rfl) hturn

/-! ### A lone command that waits for its firing -/

/-- What a lone command that waits for its firing with `w` register writes leaves of `s`. -/
def WaitsForFiring (s t : State) (q : Queue) (p : Bytes) (rest : List Bytes) (w : Nat) : Prop :=
  t.chains = s.chains ++ [{ fn := s.efnOf [p], writes := w, q := some q.val, cmds := [p], seq := s.stagings }] ∧
    t.stagings = s.stagings + 1 ∧ (t.hq q).inbox = rest ∧ (t.hq q).ready = (s.hq q).ready ∧ (t.hq q).chain = [] ∧
    t.host.staging = [] ∧ t.host.out = s.host.out ∧ t.host.order = s.host.order.erase q.val ∧ t.stage = s.stage ∧ t.mem = s.mem ∧
    t.cores = s.cores ∧ t.mode = s.mode ∧ (∀ k : Queue, k ≠ q → t.hq k = s.hq k)

/-- The state in which a lone command is judged. -/
def State.judged (s : State) (q : Nat) (p : Bytes) (rest : List Bytes) : State :=
  (s.ended q rest).onHost (fun h => { h with staging := [{ q := q, cmds := [p], blob := false }] })

theorem hostOnly_judged (s : State) (q : Nat) (p : Bytes) (rest : List Bytes) : HostOnly q s (s.judged q p rest) :=
  (hostOnly_ended s q rest).trans (hostOnly_onHost _ q _ rfl)

/-- The state in which a lone command that has passed its checks is placed. -/
def State.passed (s : State) (q : Nat) (p : Bytes) (rest : List Bytes) : State :=
  (s.judged q p rest).popStaging

theorem hostOnly_passed (s : State) (q : Nat) (p : Bytes) (rest : List Bytes) : HostOnly q s (s.passed q p rest) :=
  (hostOnly_judged s q p rest).trans { rd := fun _ _ => rfl, msixOn := rfl }

theorem passed_host (s : State) (q : Nat) (p : Bytes) (rest : List Bytes) :
    (s.passed q p rest).host = { (s.ended q rest).host with staging := [] } := rfl

theorem hq_passed (s : State) (q : Nat) (p : Bytes) (rest : List Bytes) (k : Nat) : (s.passed q p rest).hq k = (s.ended q rest).hq k := by
  rw [State.hq, passed_host, State.hq]

/-- What a chain that is placed, and forwarded on a lane, leaves. -/
theorem placed_leaves (s : State) (c : Chain) (l : Vector LaneState 48) :
    ({ s.addChain c with lanes := l }.syncEngine).chains = s.chains ++ [{ c with seq := s.stagings }] ∧
      ({ s.addChain c with lanes := l }.syncEngine).stagings = s.stagings + 1 ∧
      ({ s.addChain c with lanes := l }.syncEngine).host = s.host ∧
      ({ s.addChain c with lanes := l }.syncEngine).stage = s.stage ∧ ({ s.addChain c with lanes := l }.syncEngine).mem = s.mem ∧
      ({ s.addChain c with lanes := l }.syncEngine).cores = s.cores ∧ ({ s.addChain c with lanes := l }.syncEngine).mode = s.mode :=
  ⟨rfl, rfl, rfl, rfl, rfl, rfl, rfl⟩

/-- There is room for the command at its firing, which lies ahead, and not too far. -/
structure HasPlace (s : State) (p : Bytes) : Prop where
  late : s.fn < s.efnOf [p]
  far : s.efnOf [p] ≤ s.fn + 2 ^ 20
  few : s.chains.length < 256
  room : s.chainWrites (s.efnOf [p]) + chainCost [p] + (if s.efnOf [p] = s.fn + 1 then s.stage.length else 0) ≤ stageMax

/-- A lone command that has passed its checks is placed. -/
theorem stageChain_of_checked (hs : s.host.staging = []) (hm : s.mode ≠ modeLockdown) (hf : s.follows = false)
    (hauth : s.needsAuth p = false) (hop : pktOp p ≠ opAuthRef) (hload : pktOp p ≠ opAppLoad)
    (hchk : (s.judged q p rest).checkChain (qFunc q) false [p] = none) : (s.ended q rest).stageChain q [p] =
      ((s.passed q p rest).place { q := q.val, cmds := [p], blob := false, checked := true }).syncEngine := by
  obtain ⟨frame, -, -, staging⟩ := taken_ended s q rest
  have hone : (s.judged q p rest).host.staging = [{ q := q.val, cmds := [p], blob := false }] := rfl
  have hacc : (s.ended q rest).stageChain q [p] = (s.judged q p rest).stageOn :=
    stageChain_of_accepted (staging.trans hs) (by rw [frame.mode q.isLt]; exact hm)
      (by rw [frame.follows q.isLt, hf, Bool.false_and]) (beq_false_of_ne hop)
      (.inr (by rw [List.any_cons, frame.needsAuth, hauth]; rfl))
  have hloads : loadsOf [p] = [] := by simp [loadsOf, hload]
  have hhead : (s.judged q p rest).stageHead { q := q.val, cmds := [p], blob := false } =
      (s.passed q p rest).place { q := q.val, cmds := [p], blob := false, checked := true } := by
    unfold State.stageHead
    simp only [(hostOnly_judged s q p rest).mode q.isLt, hm, hchk, hloads, Bool.false_eq_true, if_false, Bool.not_false, if_true,
      List.isEmpty_nil, State.passed]
  rw [hacc, stageOn_of_single hone, hhead]

/-- With room in the stage it waits for its firing. -/
theorem waits_of_placed (hplace : HasPlace s p) :
    WaitsForFiring s ((s.passed q p rest).place { q := q.val, cmds := [p], blob := false, checked := true }).syncEngine q p rest
      (chainCost [p]) := by
  have hp := hostOnly_passed s q p rest
  have hefn := hp.efnOf [p]
  obtain ⟨l, hl⟩ := place_of_room (s := s.passed q p rest) (c := { q := q.val, cmds := [p], blob := false, checked := true }) rfl
    (by rw [hefn, hp.fn]; exact hplace.late) (by rw [hefn, hp.fn]; exact hplace.far) (by rw [hp.chains]; exact hplace.few)
    (by rw [hefn, hp.chainWrites, hp.fn, hp.stage]; exact hplace.room)
  obtain ⟨-, own, others, -⟩ := taken_ended s q rest
  rw [hl, hefn]
  obtain ⟨hchains, hstagings, hhost, hstage, hmem, hcores, hmode⟩ := placed_leaves (s.passed q p rest)
    { fn := s.efnOf [p], writes := chainCost [p], q := some q.val, cmds := [p] } l
  have hhq (k : Nat) := (hq_of_queues_eq (congrArg HostIf.queues hhost) k).trans (hq_passed s q p rest k)
  unfold WaitsForFiring
  rw [hchains, hstagings, hstage, hmem, hcores, hmode, hhost, hhq q, own, passed_host, hp.chains, hp.stagings]
  exact ⟨rfl, rfl, rfl, rfl, rfl, rfl, ended_out s q rest, ended_order s q rest, hp.stage, hp.mem, hp.cores, hp.mode q.isLt,
    fun k hk => (hhq k).trans (others k (Fin.val_ne_of_ne hk))⟩

end Sys2Proof.Machine
end

section
/-! The staged rows of R363, each outcome once for every row: a lone command waits for its firing, one behind an AUTH_REF for its blob,
the others complete at once. -/

namespace Sys2Proof.Machine

variable {s : State} {q : Queue} {p a : Bytes} {rest : List Bytes} {op : Nat} {r : OpRow}

/-! ### A lone command that needs no authorisation -/

/-- A lone staged command other than WRITE_REG passes its checks where its form and its own check say so. -/
theorem checkChain_of_checkCmd (hop : pktOp p = op) (hne : op ≠ opWriteReg) (hcmd : s.checkCmd p false = stOk)
    (hrow : ∃ r, pktRow p = some r ∧ r.accepts (qFunc q) = true ∧ pktClean p r = true) (hrange : pktRanges p = true) :
    (s.judged q p rest).checkChain (qFunc q) false [p] = none := by
  obtain ⟨r, hr, hacc, hclean⟩ := hrow
  have hrop : r.op ≠ opWriteReg := by
    rw [eq_of_beq (List.find?_some (p := fun r : OpRow => r.op == pktOp p) hr), hop]
    exact hne
  have hcmd' : (s.judged q p rest).checkCmd p false = stOk := ((hostOnly_judged s q p rest).checkCmd q.isLt p).trans hcmd
  unfold State.checkChain State.checkFrom
  rw [hr]
  simp only [hacc, hclean, hrange, hrop, hcmd', Bool.not_true, Bool.or_self, Bool.false_eq_true, if_false]
  rfl

/-- A lone staged command whose checks pass waits for its firing. -/
theorem Front.waits (h : Front s q p rest []) (hpos : pktPos p = 0) (hend : pktEnd p = true) (hop : pktOp p = op)
    (hf : s.follows = false) (hm : s.mode ≠ modeLockdown) (hturn : s.host.order.find? s.takesPackets = some q.val)
    (hauth : s.needsAuth p = false) (hchk : (s.judged q p rest).checkChain (qFunc q) false [p] = none) (hplace : HasPlace s p)
    (hr : opRows.find? (fun r => r.op == op) = some r) (hst : r.staged = true) (hne : op ≠ opAuthRef) (hload : op ≠ opAppLoad) :
    WaitsForFiring s (s.takeRow q op none) q p rest (chainCost [p]) := by
  rw [h.stagesAlone hop hr hst hpos hend hturn,
    stageChain_of_checked h.staging hm hf hauth (hop.trans_ne hne) (hop.trans_ne hload) hchk]
  exact waits_of_placed hplace

/-- The register writes of a lone command by its row (R47). -/
theorem chainCost_of_op (hop : pktOp p = op) : chainCost [p] =
    0 + (if op = opWriteReg then field p 16 1 else if op = opModeReq ∨ op = opHeadCtrl ∨ op = opAppCtrl then 1 else 0) := by
  rw [← hop]
  rfl

/-! ### A command behind its AUTH_REF -/

/-- What a command behind its AUTH_REF leaves of `s`: the chain is staged, and waits for the check of its blob. -/
def WaitsForBlob (s t : State) (q : Queue) (a p : Bytes) (rest : List Bytes) : Prop :=
  t.host.staging = [{ q := q.val, cmds := [a, p], blob := true }] ∧ (t.hq q).inbox = rest ∧
    t.host.order = s.host.order.erase q.val ∧ (t.hq q).chain = [] ∧ (t.hq q).ready = (s.hq q).ready ∧
    t.flag (HQ_STAT_WAIT_CHAIN q) = false ∧ t.chains = s.chains ∧ t.stage = s.stage ∧ t.mem = s.mem ∧ t.cores = s.cores ∧
    t.mode = s.mode ∧ t.arch = s.arch

/-- The state in which a chain with an AUTH_REF waits for the check of its blob. -/
def State.awaiting (s : State) (q : Nat) (a p : Bytes) (rest : List Bytes) : State :=
  (s.ended q rest).onHost (fun h => { h with staging := [{ q := q, cmds := [a, p], blob := true }] })

theorem waitsForBlob_awaiting (s : State) (q : Queue) (a p : Bytes) (rest : List Bytes) :
    WaitsForBlob s (s.awaiting q a p rest).syncEngine q a p rest := by
  have hall : HostOnly q s (s.awaiting q a p rest).syncEngine :=
    ((hostOnly_ended s q rest).trans (hostOnly_onHost _ q _ rfl)).trans (hostOnly_syncEngine _ q)
  have hhost : (s.awaiting q a p rest).syncEngine.host =
    { (s.ended q rest).host with staging := [{ q := q.val, cmds := [a, p], blob := true }] } := rfl
  have hflag : (s.awaiting q a p rest).syncEngine.flag (HQ_STAT_WAIT_CHAIN q) = (s.ended q rest).flag (HQ_STAT_WAIT_CHAIN q) := by
    rw [flag_syncEngine, State.awaiting, flag_onHost]
  have hhq : (s.awaiting q a p rest).syncEngine.hq q = (s.ended q rest).hq q := by rw [State.hq, hhost, State.hq]
  unfold WaitsForBlob
  rw [hhost, hflag, hhq, (taken_ended s q rest).own, State.ended, flag_waitEnd_same]
  exact ⟨rfl, rfl, rfl, rfl, rfl, rfl, hall.chains, hall.stage, hall.mem, hall.cores, hall.mode q.isLt, hall.arch⟩

/-- A chain behind its AUTH_REF is staged, its blob to be checked; a follower takes only an immediate command so. -/
theorem stageChain_of_authRef (hs : s.host.staging = []) (hm : s.mode ≠ modeLockdown) (ha : pktOp a = opAuthRef)
    (hf : s.follows = false ∨ pktAuthNow p = true) : (s.ended q rest).stageChain q [a, p] = (s.awaiting q a p rest).syncEngine := by
  obtain ⟨frame, -, -, staging⟩ := taken_ended s q rest
  have hfol : (s.follows && !isAuthNow [a, p]) = false := by
    rcases hf with h | h
    · rw [h, Bool.false_and]
    · rw [isAuthNow, h, Bool.not_true, Bool.and_false]
  have hone : (s.awaiting q a p rest).host.staging = [{ q := q.val, cmds := [a, p], blob := true }] := rfl
  have hacc : (s.ended q rest).stageChain q [a, p] = (s.awaiting q a p rest).stageOn :=
    stageChain_of_accepted (staging.trans hs) (by rw [frame.mode q.isLt]; exact hm) (by rw [frame.follows q.isLt, hfol])
      (by rw [List.headD_cons, ha]; rfl) (.inl rfl)
  rw [hacc, stageOn_of_single hone, State.stageHead, if_pos rfl]

theorem Front.waitsForBlob (h : Front s q p rest [a]) (hpos : pktPos p = 1) (hend : pktEnd p = true) (ha : pktOp a = opAuthRef)
    (hefn : pktEfn p = pktEfn a) (hm : s.mode ≠ modeLockdown) (hturn : s.host.order.find? s.takesPackets = some q.val)
    (hop : pktOp p = op) (hf : s.follows = false ∨ pktAuthNow p = true) (hr : opRows.find? (fun r => r.op == op) = some r)
    (hst : pktStaged p = true ∨ pktAuthNow p = true) (hne : op ≠ opAuthRef) : WaitsForBlob s (s.takeRow q op none) q a p rest := by
  rw [h.stages hop hr (breaksChain_second hpos hefn ha hend (hop.trans_ne hne) hst) hend rfl hturn, List.singleton_append,
    stageChain_of_authRef h.staging hm ha hf]
  exact waitsForBlob_awaiting s q a p rest

/-! ### A command that completes at once -/

/-- A lone staged command that is answered without effect. -/
theorem Front.answered {st : Nat} (h : Front s q p rest []) (hpos : pktPos p = 0) (hend : pktEnd p = true) (hop : pktOp p = op)
    (hturn : s.host.order.find? s.takesPackets = some q.val) (hr : opRows.find? (fun r => r.op == op) = some r) (hst : r.staged = true)
    (hreply : ∀ u : State, HostOnly q s u → u.stageChain q [p] = u.reply q p false st (u.cfnOf p) []) :
    Answered s (s.takeRow q op none) q p rest st 0 := by
  have hu := taken_ended s q rest
  have hcfn : (s.ended q rest).cfnOf p = 0 := if_pos ((pktStaged_of_op hop hr).trans hst)
  rw [h.stagesAlone hop hr hst hpos hend hturn, hreply _ hu.frame, hcfn]
  exact answered_of_reply hu h.staging h.enabled

/-- In LOCKDOWN it is answered MODE. -/
theorem reply_of_lockdown (hm : s.mode = modeLockdown) (u : State) (hu : HostOnly q s u) :
    u.stageChain q [p] = u.reply q p false stMode (u.cfnOf p) [] := by
  rw [stageChain_of_lockdown _ ((hu.mode q.isLt).trans hm), replyChain_single]

/-- By a follower it is answered STATE. -/
theorem reply_of_follower (hm : s.mode ≠ modeLockdown) (hf : s.follows = true) (u : State) (hu : HostOnly q s u) :
    u.stageChain q [p] = u.reply q p false stState (u.cfnOf p) [] := by
  rw [stageChain_of_follower (by rw [hu.mode q.isLt]; exact hm) ((hu.follows q.isLt).trans hf) rfl, replyChain_single]

/-- A command that needs an authorisation and has none is answered AUTH_REQUIRED. -/
theorem reply_of_unauthorised (hm : s.mode ≠ modeLockdown) (hf : s.follows = false) (hop : pktOp p ≠ opAuthRef)
    (hn : s.needsAuth p = true) (u : State) (hu : HostOnly q s u) :
    u.stageChain q [p] = u.reply q p false stAuthRequired (u.cfnOf p) [] :=
  stageChain_of_unauthorised (by rw [hu.mode q.isLt]; exact hm) ((hu.follows q.isLt).trans hf) hop ((hu.needsAuth p).trans hn)

/-- What of `Answered` does not speak of the rest of the host interface. -/
theorem Answered.own {t : State} {st cfn : Nat} (h : Answered s t q p rest st cfn) : (t.hq q).inbox = rest ∧
    (t.hq q).ready = (s.hq q).ready ++ [⟨pktTag p, st, false, s.holdsCpl (qFunc q), cfn, []⟩] ∧ t.chains = s.chains ∧
    t.mem = s.mem ∧ t.cores = s.cores := by
  obtain ⟨hin, hready, -, -, hchains, -, hmem, hcores, -⟩ := h
  exact ⟨hin, hready, hchains, hmem, hcores⟩

/-- Outside LOCKDOWN an immediate command is not refused for the mode. -/
theorem nowRefused_ne_mode (hm : s.mode ≠ modeLockdown) : s.nowRefused q p ≠ stMode := by
  unfold State.nowRefused
  split
  · decide
  · rw [if_neg (fun h => hm h.1)]
    split
    · decide
    · split <;> decide

/-- A lone immediate command marked Auth is refused for want of its AUTH_REF. -/
theorem Front.answeredNow (h : Front s q p rest []) (hpos : pktPos p = 0) (hend : pktEnd p = true) (hop : pktOp p = op)
    (hm : s.mode ≠ modeLockdown) (hr : opRows.find? (fun r => r.op == op) = some r) (hst : r.staged = false)
    (hauth : pktAuthNow p = true) : Answered s (s.takeRow q op none) q p rest stAuthRequired s.fn := by
  have hrow : (pktRow p).isNone = false := by rw [pktRow_of_op hop hr]; rfl
  have hst' : pktStaged p = false := (pktStaged_of_op hop hr).trans hst
  have hturn : s.inTurn q p = true := by
    rw [State.inTurn, HostQueue.closes, h.chain, h.waitEnd, hst', hend]
    rfl
  have hu := taken_unboxed s q rest
  have hm' : ((s.unboxed q rest).waitEnd q false []).mode ≠ modeLockdown := by rw [hu.frame.mode q.isLt]; exact hm
  rw [takeRow_of_turn h.takes h.staging h.inbox hop hrow hturn,
    packet_of_immediate h.inbox h.waitEnd h.chain (breaksChain_first hpos (.inr hend)) hend hst', State.takeNow]
  simp only [nowRefused_ne_mode hm', hauth, if_false, if_true]
  rw [State.replyNow, hpos, hu.frame.fn]
  exact answered_of_reply hu h.staging h.enabled

/-! ### A chain that opens, and one that waits -/

/-- What an AUTH_REF that opens a chain leaves of `s`. -/
theorem Front.opens (h : Front s q p rest []) (hpos : pktPos p = 0) (hend : pktEnd p = false) (hop : pktOp p = op)
    (hr : opRows.find? (fun r => r.op == op) = some r) (hst : r.staged = true) :
    s.takeRow q op none = (s.unboxed q rest).waitEnd q false [p] := by
  have hrow : (pktRow p).isNone = false := by rw [pktRow_of_op hop hr]; rfl
  have hturn : s.inTurn q p = true := by
    rw [State.inTurn, HostQueue.closes, hend]
    rfl
  have hb : breaksChain (s.hq q).chain p = false := by
    rw [h.chain]
    exact breaksChain_first hpos (.inl ((pktStaged_of_op hop hr).trans hst))
  rw [takeRow_of_turn h.takes h.staging h.inbox hop hrow hturn, packet_of_open h.inbox h.waitEnd hb hend, h.chain, List.nil_append]

/-- Behind another queue's chain in the order of fetch, the packet that ends a chain waits. -/
theorem takeRow_of_behind {q2 : Queue} (ht : s.takesPackets q = true) (hs : s.host.staging = []) (hin : (s.hq q).inbox = p :: rest)
    (hst : pktStaged p = true) (hend : pktEnd p = true) (hfirst : s.host.order.find? s.takesPackets = some q2.val) (hne : q2 ≠ q) :
    s.takeRow q op none = s.syncEngine := by
  have hsome : (some q2.val == some q.val) = false := beq_false_of_ne (fun e => hne (Fin.ext (Option.some.inj e)))
  refine takeRow_of_wait ht hs hin ?_
  rw [State.inTurn, HostQueue.closes, hst, hend, hfirst, hsome, Bool.or_true]
  rfl

end Sys2Proof.Machine
end

section
/-! The rows as commands: each clause of O59 once, for every instruction that takes the packets of a row. -/

namespace Sys2Proof.Machine

/-- The instruction takes the packets of one row of R363, which is staged or not. -/
structure RowOf (i : Queue → Instr) (op : Nat) (staged : Bool) : Prop where
  takes : ∀ (q : Queue) (s : State), exec (i q) s = .next (s.takeRow q op none)
  row : ∃ r, opRows.find? (fun r => r.op == op) = some r ∧ r.staged = staged

theorem rowOf_writeReg : RowOf .writeReg opWriteReg true := ⟨fun _ _ => rfl, _, rfl, rfl⟩
theorem rowOf_modeReq : RowOf .modeReq opModeReq true := ⟨fun _ _ => rfl, _, rfl, rfl⟩
theorem rowOf_epochAdvance : RowOf .epochAdvance opEpochAdvance true := ⟨fun _ _ => rfl, _, rfl, rfl⟩
theorem rowOf_twinRelinquish : RowOf .twinRelinquish opTwinRelinquish true := ⟨fun _ _ => rfl, _, rfl, rfl⟩
theorem rowOf_eventInsert : RowOf .eventInsert opEventInsert true := ⟨fun _ _ => rfl, _, rfl, rfl⟩
theorem rowOf_eventCancel : RowOf .eventCancel opEventCancel true := ⟨fun _ _ => rfl, _, rfl, rfl⟩
theorem rowOf_headCtrl : RowOf .headCtrl opHeadCtrl true := ⟨fun _ _ => rfl, _, rfl, rfl⟩
theorem rowOf_appCtrl : RowOf .appCtrl opAppCtrl true := ⟨fun _ _ => rfl, _, rfl, rfl⟩
theorem rowOf_appLoad : RowOf .appLoad opAppLoad true := ⟨fun _ _ => rfl, _, rfl, rfl⟩
theorem rowOf_trackDecide : RowOf .trackDecide opTrackDecide true := ⟨fun _ _ => rfl, _, rfl, rfl⟩
theorem rowOf_coilMark : RowOf .coilMark opCoilMark true := ⟨fun _ _ => rfl, _, rfl, rfl⟩
theorem rowOf_authRef : RowOf .authRef opAuthRef true := ⟨fun _ _ => rfl, _, rfl, rfl⟩
theorem rowOf_warmRestart : RowOf .warmRestart opWarmRestart false := ⟨fun _ _ => rfl, _, rfl, rfl⟩
theorem rowOf_flashProgram : RowOf .flashProgram opFlashProgram false := ⟨fun _ _ => rfl, _, rfl, rfl⟩

/-- The staged commands that always need an authorisation. -/
def markedOps : List Nat := [opEpochAdvance, opTwinRelinquish, opAppCtrl, opAppLoad]

theorem needsAuth_of_marked {p : Bytes} (s : State) (h : pktOp p ∈ markedOps) : s.needsAuth p = true := by
  unfold markedOps at h
  unfold State.needsAuth
  generalize pktOp p = op at h ⊢
  rcases List.mem_cons.1 h with rfl | h
  · rfl
  rcases List.mem_cons.1 h with rfl | h
  · rfl
  rcases List.mem_cons.1 h with rfl | h
  · rfl
  rw [List.mem_singleton.1 h]
  rfl

variable {i : Queue → Instr} {op : Nat} {st : Nat}

/-- A lone command of the row that passes its checks, with room in the stage, waits for its firing with `w` register writes. -/
def WaitsAlone (i : Queue → Instr) (op w : Nat) : Prop :=
  ∀ (s : State) (q : Queue) (p : Bytes) (rest : List Bytes), s.takesPackets q = true → s.host.staging = [] →
    (s.hq q).inbox = p :: rest → (s.hq q).chain = [] → (s.hq q).waitEnd = false → pktPos p = 0 → pktEnd p = true → pktOp p = op →
    s.follows = false → s.mode ≠ modeLockdown → s.host.order.find? s.takesPackets = some q.val → s.needsAuth p = false →
    s.checkCmd p false = stOk → (∃ r, pktRow p = some r ∧ r.accepts (qFunc q) = true ∧ pktClean p r = true) → pktRanges p = true →
    s.fn < s.efnOf [p] → s.efnOf [p] ≤ s.fn + 2 ^ 20 → s.chains.length < 256 →
    s.chainWrites (s.efnOf [p]) + chainCost [p] + (if s.efnOf [p] = s.fn + 1 then s.stage.length else 0) ≤ stageMax →
    ∃ t, exec (i q) s = .next t ∧ WaitsForFiring s t q p rest w

theorem RowOf.waitsAlone {w : Nat} (hi : RowOf i op true) (hwr : op ≠ opWriteReg) (hne : op ≠ opAuthRef) (hload : op ≠ opAppLoad)
    (hw : (if op = opModeReq ∨ op = opHeadCtrl ∨ op = opAppCtrl then 1 else 0) = w) : WaitsAlone i op w := by
  intro s q p rest htakes hs hin hchain hwait hpos hend hop hf hm hturn hauth hcmd hrow hrange hlo hhi hn hroom
  obtain ⟨r, hr, hst⟩ := hi.row
  have hfront : Front s q p rest [] := ⟨htakes, hs, hin, hchain, hwait⟩
  have hcost : chainCost [p] = w := by rw [chainCost_of_op hop, if_neg hwr, hw, Nat.zero_add]
  refine ⟨_, hi.takes q s, ?_⟩
  rw [← hcost]
  exact hfront.waits hpos hend hop hf hm hturn hauth (checkChain_of_checkCmd hop hwr hcmd hrow hrange) ⟨hlo, hhi, hn, hroom⟩
    hr hst hne hload

theorem pktAuthNow_of_op {p : Bytes} (hop : pktOp p = op) (h : op = opWarmRestart ∨ op = opFlashProgram) : pktAuthNow p = true := by
  rw [pktAuthNow, hop]
  rcases h with h | h <;> rw [h] <;> rfl

/-- A command of the row behind its AUTH_REF goes into staging, where its blob is to be checked. -/
def WaitsBehindAuthRef (i : Queue → Instr) (op : Nat) (follows : State → Prop) : Prop :=
  ∀ (s : State) (q : Queue) (a p : Bytes) (rest : List Bytes), s.takesPackets q = true → s.host.staging = [] →
    (s.hq q).inbox = p :: rest → (s.hq q).chain = [a] → (s.hq q).waitEnd = false → pktPos p = 1 → pktEnd p = true →
    pktOp a = opAuthRef → pktEfn p = pktEfn a → s.mode ≠ modeLockdown → s.host.order.find? s.takesPackets = some q.val →
    pktOp p = op → follows s → ∃ t, exec (i q) s = .next t ∧ WaitsForBlob s t q a p rest

/-- A staged command does so on a device that is no follower. -/
theorem RowOf.waitsForBlob (hi : RowOf i op true) (hne : op ≠ opAuthRef) : WaitsBehindAuthRef i op (fun s => s.follows = false) := by
  intro s q a p rest htakes hs hin hchain hwait hpos hend ha hefn hm hturn hop hf
  obtain ⟨r, hr, hst⟩ := hi.row
  have hfront : Front s q p rest [a] := ⟨htakes, hs, hin, hchain, hwait⟩
  exact ⟨_, hi.takes q s, hfront.waitsForBlob hpos hend ha hefn hm hturn hop (.inl hf) hr (.inl ((pktStaged_of_op hop hr).trans hst)) hne⟩

/-- An immediate command marked Auth does so on any device. -/
theorem RowOf.waitsForBlobNow (hi : RowOf i op false) (hne : op ≠ opAuthRef) (hnow : op = opWarmRestart ∨ op = opFlashProgram) :
    WaitsBehindAuthRef i op (fun _ => True) := by
  intro s q a p rest htakes hs hin hchain hwait hpos hend ha hefn hm hturn hop _
  obtain ⟨r, hr, -⟩ := hi.row
  have hfront : Front s q p rest [a] := ⟨htakes, hs, hin, hchain, hwait⟩
  have hauth := pktAuthNow_of_op hop hnow
  exact ⟨_, hi.takes q s, hfront.waitsForBlob hpos hend ha hefn hm hturn hop (.inr hauth) hr (.inr hauth) hne⟩

/-- A lone staged command of the row is refused for want of an authorisation. -/
def WantsAuth (i : Queue → Instr) (op : Nat) : Prop :=
  ∀ (s : State) (q : Queue) (p : Bytes) (rest : List Bytes), s.takesPackets q = true → s.host.staging = [] →
    (s.hq q).inbox = p :: rest → (s.hq q).chain = [] → (s.hq q).waitEnd = false → pktPos p = 0 → pktEnd p = true → pktOp p = op →
    s.mode ≠ modeLockdown → s.follows = false → s.host.order.find? s.takesPackets = some q.val →
    ∃ t, exec (i q) s = .next t ∧ Answered s t q p rest stAuthRequired 0

theorem RowOf.wantsAuth (hi : RowOf i op true) (hmark : op ∈ markedOps) : WantsAuth i op := by
  intro s q p rest htakes hs hin hchain hwait hpos hend hop hm hf hturn
  obtain ⟨r, hr, hst⟩ := hi.row
  have hfront : Front s q p rest [] := ⟨htakes, hs, hin, hchain, hwait⟩
  have hne : pktOp p ≠ opAuthRef := by
    rw [hop]
    rintro rfl
    revert hmark
    decide
  exact ⟨_, hi.takes q s, hfront.answered hpos hend hop hturn hr hst
    (reply_of_unauthorised hm hf hne (needsAuth_of_marked s (by rw [hop]; exact hmark)))⟩

/-- The same for a lone immediate command marked Auth, whatever the order of fetch, at the current firing. -/
def WantsAuthNow (i : Queue → Instr) (op : Nat) : Prop :=
  ∀ (s : State) (q : Queue) (p : Bytes) (rest : List Bytes), s.takesPackets q = true → s.host.staging = [] →
    (s.hq q).inbox = p :: rest → (s.hq q).chain = [] → (s.hq q).waitEnd = false → pktPos p = 0 → pktEnd p = true → pktOp p = op →
    s.mode ≠ modeLockdown → ∃ t, exec (i q) s = .next t ∧ Answered s t q p rest stAuthRequired s.fn

theorem RowOf.wantsAuthNow (hi : RowOf i op false) (hnow : op = opWarmRestart ∨ op = opFlashProgram) : WantsAuthNow i op := by
  intro s q p rest htakes hs hin hchain hwait hpos hend hop hm
  obtain ⟨r, hr, hst⟩ := hi.row
  have hfront : Front s q p rest [] := ⟨htakes, hs, hin, hchain, hwait⟩
  exact ⟨_, hi.takes q s, hfront.answeredNow hpos hend hop hm hr hst (pktAuthNow_of_op hop hnow)⟩

/-- A lone staged command that is refused, whatever its row. -/
theorem RowOf.answers {s : State} {q : Queue} {p : Bytes} {rest : List Bytes} (hi : RowOf i op true) (h : Front s q p rest [])
    (hpos : pktPos p = 0) (hend : pktEnd p = true) (hturn : s.host.order.find? s.takesPackets = some q.val)
    (hreply : ∀ u : State, HostOnly q s u → u.stageChain q [p] = u.reply q p false st (u.cfnOf p) []) (hop : pktOp p = op) :
    ∃ t, exec (i q) s = .next t ∧ (t.hq q).inbox = rest ∧
      (t.hq q).ready = (s.hq q).ready ++ [⟨pktTag p, st, false, s.holdsCpl (qFunc q), 0, []⟩] ∧ t.chains = s.chains ∧ t.mem = s.mem ∧
      t.cores = s.cores := by
  obtain ⟨r, hr, hst⟩ := hi.row
  exact ⟨_, hi.takes q s, (h.answered hpos hend hop hturn hr hst hreply).own⟩

end Sys2Proof.Machine
end

section
open Sys2Proof Sys2Proof.Machine

/-- Settles O59: the outcomes of `Front`, each row by its `RowOf`. -/
theorem stagedCommandsOfTheHost : Obligations.StagedCommandsOfTheHost := by
  unfold Obligations.StagedCommandsOfTheHost
  refine ⟨?writeReg, ?modeReq, ?eventInsert, ?eventCancel, ?headCtrl, ?trackDecide, ?coilMark,
    ?epochBlob, ?relinquishBlob, ?appCtrlBlob, ?appLoadBlob, ?warmBlob, ?flashBlob,
    ?epochAuth, ?relinquishAuth, ?appCtrlAuth, ?appLoadAuth, ?warmAuth, ?flashAuth, ?opens, ?lockdown, ?follower, ?behind⟩
  case writeReg =>
    intro s q p rest htakes hs hin hchain hwait hpos hend hop hf hm hturn hauth hchk hlo hhi hn hroom
    have hfront : Front s q p rest [] := ⟨htakes, hs, hin, hchain, hwait⟩
    have hcost : chainCost [p] = field p 16 1 := by rw [chainCost_of_op hop, if_pos rfl, Nat.zero_add]
    refine ⟨_, rowOf_writeReg.takes q s, ?_⟩
    rw [← hcost]
    exact hfront.waits hpos hend hop hf hm hturn hauth hchk ⟨hlo, hhi, hn, hroom⟩ rfl rfl (by decide) (by decide)
  case modeReq => exact rowOf_modeReq.waitsAlone (by decide) (by decide) (by decide) rfl
  case eventInsert => exact rowOf_eventInsert.waitsAlone (by decide) (by decide) (by decide) rfl
  case eventCancel => exact rowOf_eventCancel.waitsAlone (by decide) (by decide) (by decide) rfl
  case headCtrl => exact rowOf_headCtrl.waitsAlone (by decide) (by decide) (by decide) rfl
  case trackDecide => exact rowOf_trackDecide.waitsAlone (by decide) (by decide) (by decide) rfl
  case coilMark => exact rowOf_coilMark.waitsAlone (by decide) (by decide) (by decide) rfl
  case epochBlob => exact rowOf_epochAdvance.waitsForBlob (by decide)
  case relinquishBlob => exact rowOf_twinRelinquish.waitsForBlob (by decide)
  case appCtrlBlob => exact rowOf_appCtrl.waitsForBlob (by decide)
  case appLoadBlob => exact rowOf_appLoad.waitsForBlob (by decide)
  case warmBlob =>
    intro s q a p rest htakes hs hin hchain hwait hpos hend ha hefn hm hturn hop
    exact rowOf_warmRestart.waitsForBlobNow (by decide) (.inl rfl) s q a p rest htakes hs hin hchain hwait hpos hend ha hefn hm hturn hop trivial
  case flashBlob =>
    intro s q a p rest htakes hs hin hchain hwait hpos hend ha hefn hm hturn hop
    exact rowOf_flashProgram.waitsForBlobNow (by decide) (.inr rfl) s q a p rest htakes hs hin hchain hwait hpos hend ha hefn hm hturn hop trivial
  case epochAuth => exact rowOf_epochAdvance.wantsAuth (by decide)
  case relinquishAuth => exact rowOf_twinRelinquish.wantsAuth (by decide)
  case appCtrlAuth => exact rowOf_appCtrl.wantsAuth (by decide)
  case appLoadAuth => exact rowOf_appLoad.wantsAuth (by decide)
  case warmAuth => exact rowOf_warmRestart.wantsAuthNow (.inl rfl)
  case flashAuth => exact rowOf_flashProgram.wantsAuthNow (.inr rfl)
  case opens =>
    intro s q p rest htakes hs hin hchain hwait hpos hend hop
    have hfront : Front s q p rest [] := ⟨htakes, hs, hin, hchain, hwait⟩
    have hall := (hostOnly_unboxed s q rest).trans (hostOnly_waitEnd _ q false [p])
    refine ⟨_, (rowOf_authRef.takes q s).trans (congrArg _ (hfront.opens hpos hend hop rfl rfl)), ?_⟩
    rw [hq_waitEnd_same, hq_unboxed_same, flag_waitEnd_same, hall.chains, hall.mem, hall.cores]
    exact ⟨rfl, rfl, rfl, rfl, rfl, rfl, rfl, hs, rfl, rfl, rfl⟩
  case lockdown =>
    intro s q p rest htakes hs hin hchain hwait hpos hend hm hturn
    have answers {i : Queue → Instr} {op : Nat} (hi : RowOf i op true) :=
      hi.answers ⟨htakes, hs, hin, hchain, hwait⟩ hpos hend hturn (reply_of_lockdown hm)
    exact ⟨answers rowOf_writeReg, answers rowOf_modeReq, answers rowOf_epochAdvance, answers rowOf_twinRelinquish,
      answers rowOf_eventInsert, answers rowOf_eventCancel, answers rowOf_headCtrl, answers rowOf_appCtrl, answers rowOf_appLoad,
      answers rowOf_trackDecide, answers rowOf_coilMark, answers rowOf_authRef⟩
  case follower =>
    intro s q p rest htakes hs hin hchain hwait hpos hend hm hf hturn
    have answers {i : Queue → Instr} {op : Nat} (hi : RowOf i op true) :=
      hi.answers ⟨htakes, hs, hin, hchain, hwait⟩ hpos hend hturn (reply_of_follower hm hf)
    exact ⟨answers rowOf_writeReg, answers rowOf_modeReq, answers rowOf_epochAdvance, answers rowOf_twinRelinquish,
      answers rowOf_eventInsert, answers rowOf_eventCancel, answers rowOf_headCtrl, answers rowOf_appCtrl, answers rowOf_appLoad,
      answers rowOf_trackDecide, answers rowOf_coilMark, answers rowOf_authRef⟩
  case behind =>
    intro s q q2 p rest htakes hs hin hst hend hfirst hne
    have waits {i : Queue → Instr} {op : Nat} (hi : RowOf i op true) : exec (i q) s = .next s.syncEngine :=
      (hi.takes q s).trans (congrArg _ (takeRow_of_behind htakes hs hin hst hend hfirst hne))
    exact ⟨waits rowOf_writeReg, waits rowOf_modeReq, waits rowOf_epochAdvance, waits rowOf_twinRelinquish,
      waits rowOf_eventInsert, waits rowOf_eventCancel, waits rowOf_headCtrl, waits rowOf_appCtrl, waits rowOf_appLoad,
      waits rowOf_trackDecide, waits rowOf_coilMark, waits rowOf_authRef⟩

end

section
/-! The lanes: what a lane holds beside its registers, where the registers of a lane lie, and what leaves the other lanes
alone (R91, R97). -/

namespace Sys2Proof.Machine

variable {s t u : State} {n k : Lane}

/-! ### What a lane holds beside its registers -/

theorem lane_onLane_same (s : State) (n : Lane) (f : LaneState → LaneState) : (s.onLane n f).lane n = f (s.lane n) := by
  rw [State.lane, State.onLane, alter]
  exact Vector.getElem_set_self n.isLt

theorem lane_onLane_other (s : State) (f : LaneState → LaneState) (h : k ≠ n) : (s.onLane n f).lane k = s.lane k := by
  rw [State.lane, State.onLane, alter]
  exact Vector.getElem_set_ne n.isLt k.isLt (fun x => h (Fin.ext x.symm))

theorem onLane_onLane (s : State) (n : Lane) (f g : LaneState → LaneState) :
    (s.onLane n f).onLane n g = s.onLane n (fun l => g (f l)) := by
  have hlanes : alter (alter s.lanes n f) n g = alter s.lanes n (fun l => g (f l)) := by
    show (s.lanes.set n (f (s.lane n))).set n (g ((s.onLane n f).lane n)) = _
    rw [lane_onLane_same, Vector.set_set]
    rfl
  show ({ s with lanes := alter (alter s.lanes n f) n g } : State) = _
  rw [hlanes]
  rfl

/-- Two updates of a lane that agree on what it holds. -/
theorem onLane_congr {f g : LaneState → LaneState} (h : f (s.lane n) = g (s.lane n)) : s.onLane n f = s.onLane n g := by
  have hlanes : alter s.lanes n f = alter s.lanes n g := congrArg (s.lanes.set n) h
  rw [State.onLane, hlanes, State.onLane]

@[simp] theorem rd_onLane (s : State) (n : Lane) (g : LaneState → LaneState) (o : Nat) : (s.onLane n g).rd o = s.rd o := rfl
@[simp] theorem get_onLane (s : State) (n : Lane) (g : LaneState → LaneState) (f : Fld) : (s.onLane n g).get f = s.get f := rfl
@[simp] theorem flag_onLane (s : State) (n : Lane) (g : LaneState → LaneState) (f : Fld) : (s.onLane n g).flag f = s.flag f := rfl
@[simp] theorem laneSt_onLane (s : State) (n k : Lane) (g : LaneState → LaneState) : (s.onLane n g).laneSt k = s.laneSt k := rfl

@[simp] theorem lane_put (s : State) (f : Fld) (v : Nat) (k : Lane) : (s.put f v).lane k = s.lane k := rfl
@[simp] theorem lane_putFlag (s : State) (f : Fld) (b : Bool) (k : Lane) : (s.putFlag f b).lane k = s.lane k := rfl
@[simp] theorem lane_bump (s : State) (f : Fld) (k : Lane) : (s.bump f).lane k = s.lane k := rfl
@[simp] theorem lane_raise (s : State) (id detail : Nat) (k : Lane) : (s.raise id detail).lane k = s.lane k := rfl

/-! ### Where the registers of a lane lie -/

/-- A word at an offset of lane 0's block lies at the same offset of each lane's. -/
theorem laneBlock {c : Nat} (h : c / 0x1000 = 0x100) (n : Nat) : (c + n * 0x1000) / 0x1000 = 0x100 + n := by
  omega

/-- A write of field `f` leaves field `g`: `f` fits its word and lies apart from `g`. -/
def Fld.spares (f g : Fld) : Bool :=
  f.fits && f.apart g

/-- A field of a lane spares another of that lane where those of lane 0 do. -/
theorem spares_of_lane {n c d lo w lo' w' : Nat} (h : Fld.spares ⟨c, lo, w⟩ ⟨d, lo', w'⟩ = true) :
    Fld.spares ⟨c + n * 0x1000, lo, w⟩ ⟨d + n * 0x1000, lo', w'⟩ = true := by
  simpa [Fld.spares, Fld.fits, Fld.apart] using h

theorem spares_of_word {f g : Fld} (hf : f.fits = true) (h : f.off ≠ g.off) : f.spares g = true := by
  simp [Fld.spares, Fld.apart, hf, h]

section
variable {f g : Fld} (h : f.spares g = true)
include h

theorem get_put_spared (s : State) (v : Nat) : (s.put f v).get g = s.get g := by
  obtain ⟨hf, hg⟩ := Bool.and_eq_true_iff.1 h
  exact get_put_other s f g v hf hg

theorem flag_put_spared (s : State) (v : Nat) : (s.put f v).flag g = s.flag g :=
  flag_eq_of_get_eq (get_put_spared h s v)

theorem get_putFlag_spared (s : State) (b : Bool) : (s.putFlag f b).get g = s.get g :=
  get_put_spared h s _

theorem flag_putFlag_spared (s : State) (b : Bool) : (s.putFlag f b).flag g = s.flag g :=
  flag_put_spared h s _

theorem get_bump_spared (s : State) : (s.bump f).get g = s.get g :=
  get_put_spared h s _

theorem flag_bump_spared (s : State) : (s.bump f).flag g = s.flag g :=
  flag_put_spared h s _

end

/-- The words of the lanes lie below the maps of ACTIVE lanes. -/
theorem lane_off_lt {off : Nat} (n : Lane) (h : off / 0x1000 = 0x100 + n) : off < HL_ACTIVE_LO := by
  unfold HL_ACTIVE_LO
  omega

/-- The status word of another lane is no word of this one. -/
theorem stat_off_ne {off : Nat} (h : off / 0x1000 = 0x100 + n) (hk : k ≠ n) : HL_STAT k ≠ off := by
  have hval : k.val ≠ n.val := fun e => hk (Fin.ext e)
  unfold HL_STAT
  omega

/-! ### What leaves the other lanes alone -/

/-- `t` differs from `s` in the registers, in what lane `n` holds and in the faults on their way alone, and shows the state of
every other lane as `s` does. -/
structure LaneOnly (n : Lane) (s t : State) : Prop where
  states : ∀ k : Lane, k ≠ n → t.laneSt k = s.laneSt k
  lanes : ∀ k : Lane, k ≠ n → t.lane k = s.lane k
  rest : t = { s with regs := t.regs, lanes := t.lanes, fcuIn := t.fcuIn }

theorem LaneOnly.refl (n : Lane) (s : State) : LaneOnly n s s :=
  ⟨fun _ _ => rfl, fun _ _ => rfl, rfl⟩

theorem LaneOnly.trans (h : LaneOnly n s t) (g : LaneOnly n t u) : LaneOnly n s u where
  states k hk := (g.states k hk).trans (h.states k hk)
  lanes k hk := (g.lanes k hk).trans (h.lanes k hk)
  rest := by rw [g.rest, h.rest]

section
variable (h : LaneOnly n s t)
include h

theorem LaneOnly.mem : t.mem = s.mem := by rw [h.rest]
theorem LaneOnly.fn : t.fn = s.fn := by rw [h.rest]
theorem LaneOnly.tt : t.tt = s.tt := by rw [h.rest]
theorem LaneOnly.sag : t.sag = s.sag := by rw [h.rest]

theorem LaneOnly.others : ∀ k : Lane, k ≠ n → t.laneSt k = s.laneSt k ∧ t.lane k = s.lane k :=
  fun k hk => ⟨h.states k hk, h.lanes k hk⟩

theorem LaneOnly.onLane (f : LaneState → LaneState) : LaneOnly n s (t.onLane n f) :=
  h.trans ⟨fun _ _ => rfl, fun _ hk => lane_onLane_other _ _ hk, rfl⟩

theorem LaneOnly.raise (id detail : Nat) : LaneOnly n s (t.raise id detail) :=
  h.trans ⟨fun _ _ => rfl, fun _ _ => rfl, rfl⟩

theorem LaneOnly.wr {off : Nat} (v : Word) (hoff : ∀ k : Lane, k ≠ n → HL_STAT k ≠ off) : LaneOnly n s (t.wr off v) :=
  h.trans ⟨fun k hk => get_wr_other v (hoff k hk), fun _ _ => rfl, rfl⟩

theorem LaneOnly.put (f : Fld) (v : Nat) (hf : f.off / 0x1000 = 0x100 + n := by exact laneBlock rfl _) :
    LaneOnly n s (t.put f v) :=
  h.wr _ (fun _ hk => stat_off_ne hf hk)

theorem LaneOnly.putFlag (f : Fld) (b : Bool) (hf : f.off / 0x1000 = 0x100 + n := by exact laneBlock rfl _) :
    LaneOnly n s (t.putFlag f b) :=
  h.put f _ hf

theorem LaneOnly.bump (f : Fld) (hf : f.off / 0x1000 = 0x100 + n := by exact laneBlock rfl _) : LaneOnly n s (t.bump f) :=
  h.put f _ hf

end

theorem LaneOnly.ite {c : Prop} [Decidable c] (h : LaneOnly n s t) (g : LaneOnly n s u) : LaneOnly n s (if c then t else u) := by
  split
  · exact h
  · exact g

end Sys2Proof.Machine
end

section
/-! What a lane's transmitter takes (R56, R88), and what a lane's entry into a state leaves (R64, R65, R91). -/

namespace Sys2Proof.Machine

variable {s t u : State} {n k : Lane}

/-! ### Messages handed to the transmitter (R56) -/

theorem onLane_id (s : State) (n : Lane) : s.onLane n (fun l => l) = s := by
  have h : alter s.lanes n (fun l => l) = s.lanes := Vector.set_getElem_self n.isLt
  rw [State.onLane, h]

/-- A lane with a message appended to those that wait for the transmitter. -/
def LaneState.queued (l : LaneState) (tt typ ver flags : Nat) (content : Bytes) : LaneState :=
  let seq := (lookup l.seqs typ).getD 0
  { l with tx := l.tx ++ [⟨tt, frame typ ver flags seq content⟩], seqs := setKey l.seqs typ ((seq + 1) % 65536) 0 }

/-- The first byte of a message is its TYPE. -/
theorem frame_head (typ ver flags seq : Nat) (content : Bytes) :
    (frame typ ver flags seq content).head? = some (BitVec.ofNat 8 typ) := rfl

/-- A transmitter that is on takes the message. -/
theorem send_of_on (typ flags : Nat) (content : Bytes) (hlow : laneNegotiate ≤ s.laneSt n) (hhigh : s.laneSt n ≤ laneActive)
    (hon : s.isPeer n = true ∨ s.arch.refuse = false) :
    s.send n typ flags content =
      s.onLane n (fun l => l.queued s.tt typ (if typ = 1 then 1 else max 1 (s.get (HL_STAT_VER n))) flags content) := by
  have hon' : (s.isPeer n || !s.arch.refuse) = true := by simpa using hon
  rw [State.send]
  exact (if_pos ⟨hlow, hhigh, hon'⟩).trans (onLane_congr rfl)

/-- A message handed over changes the transmitter alone. -/
theorem send_eq (s : State) (n : Lane) (typ flags : Nat) (content : Bytes) :
    ∃ tx seqs, s.send n typ flags content = s.onLane n (fun l => { l with tx := tx, seqs := seqs }) := by
  unfold State.send
  dsimp only
  split
  · exact ⟨_, _, onLane_congr rfl⟩
  · exact ⟨(s.lane n).tx, (s.lane n).seqs, (onLane_id s n).symm.trans (onLane_congr rfl)⟩

/-- A request of the device itself changes the transmitter and the requests that await responses. -/
theorem pushHbPer_eq (s : State) (n : Lane) :
    ∃ tx seqs id own, s.pushHbPer n = s.onLane n (fun l => { l with tx := tx, seqs := seqs, ctrlId := id, own := own }) := by
  unfold State.pushHbPer State.sendCtrl
  split
  · exact ⟨(s.lane n).tx, (s.lane n).seqs, (s.lane n).ctrlId, (s.lane n).own, (onLane_id s n).symm.trans (onLane_congr rfl)⟩
  · obtain ⟨tx, seqs, h⟩ := send_eq s n 6 0 (natLe 2 (s.lane n).ctrlId ++ natLe 1 2 ++ [0] ++ natLe 4 0x10
      ++ (natLe 4 (s.get (HL_HB_CFG_PER n)) ++ List.replicate 64 0).take 64 ++ List.replicate 12 0)
    refine ⟨tx, seqs, ((s.lane n).ctrlId + 1) % 65536, (s.lane n).own ++ [((s.lane n).ctrlId, s.tt)], ?_⟩
    dsimp only
    rw [h, onLane_onLane]
    exact onLane_congr rfl

/-! ### The map of ACTIVE lanes -/

/-- The map of ACTIVE lanes lies above the words of the lanes. -/
theorem get_syncActive (s : State) (n : Lane) {f : Fld} (h : f.off < HL_ACTIVE_LO) : (s.syncActive n).get f = s.get f := by
  have hhi : f.off ≠ HL_ACTIVE_HI := fun e => absurd (e ▸ h) (by decide)
  unfold State.syncActive
  dsimp only
  split
  · exact get_put_otherWord _ (Nat.ne_of_lt h)
  · exact get_put_otherWord _ hhi

theorem flag_syncActive (s : State) (n : Lane) {f : Fld} (h : f.off < HL_ACTIVE_LO) : (s.syncActive n).flag f = s.flag f :=
  flag_eq_of_get_eq (get_syncActive s n h)

theorem syncActive_eq (s : State) (n : Lane) : ∃ f v, s.syncActive n = s.put f v ∧ HL_ACTIVE_LO ≤ f.off := by
  unfold State.syncActive
  dsimp only
  split
  · exact ⟨_, _, rfl, le_refl _⟩
  · exact ⟨_, _, rfl, (by decide : HL_ACTIVE_LO ≤ HL_ACTIVE_HI)⟩

theorem LaneOnly.syncActive (h : LaneOnly n s t) : LaneOnly n s (t.syncActive n) := by
  obtain ⟨f, v, e, hf⟩ := syncActive_eq t n
  rw [e]
  exact h.wr _ (fun k _ => Nat.ne_of_lt (lt_of_lt_of_le (lane_off_lt k (laneBlock rfl _)) hf))

@[simp] theorem lane_syncActive (s : State) (n k : Lane) : (s.syncActive n).lane k = s.lane k := by
  obtain ⟨f, v, e, -⟩ := syncActive_eq s n
  rw [e, lane_put]

@[simp] theorem syncActive_fcuIn (s : State) (n : Lane) : (s.syncActive n).fcuIn = s.fcuIn := by
  obtain ⟨f, v, e, -⟩ := syncActive_eq s n
  rw [e, put_fcuIn]

/-! ### Entry into a state (R91) -/

/-- What every entry into another state leaves. -/
def laneEntered (s : State) (n : Lane) (st : Nat) : State :=
  (((s.put (HL_STAT_STATE n) st).putFlag (HL_ISR_STATE_CHG n) true).onLane n
    (fun l => { l with since := s.tt, chal := none })).syncActive n

/-- What entry into DOWN or TRAIN leaves beside that. -/
def laneUnlocked (s : State) (n : Lane) : State :=
  ((((s.put (HL_STAT_RATE n) 0).put (HL_STAT_VER n) 0).putFlag (HL_STAT_SYNCED n) false).putFlag (HL_STAT_ID_OK n) false).onLane n
    (fun l => { l.unlocked with attempt := 0, released := false })

theorem setLane_of_same {st : Nat} (h : s.laneSt n = st) : s.setLane n st = s := if_pos h

theorem setLane_of_locked {st : Nat} (h : s.laneSt n ≠ st) (hst : laneTrain < st) : s.setLane n st = laneEntered s n st :=
  (if_neg h).trans (if_neg (Nat.not_le.2 hst))

theorem setLane_of_unlocked {st : Nat} (h : s.laneSt n ≠ st) (hst : st ≤ laneTrain) :
    s.setLane n st = laneUnlocked (laneEntered s n st) n :=
  (if_neg h).trans (if_pos hst)

theorem LaneOnly.entered (h : LaneOnly n s t) (st : Nat) : LaneOnly n s (laneEntered t n st) :=
  (((h.put _ _).putFlag _ _).onLane _).syncActive

theorem LaneOnly.setLane (h : LaneOnly n s t) (st : Nat) : LaneOnly n s (t.setLane n st) := by
  by_cases hs : t.laneSt n = st
  · rwa [setLane_of_same hs]
  · by_cases hst : laneTrain < st
    · rw [setLane_of_locked hs hst]
      exact h.entered st
    · rw [setLane_of_unlocked hs (Nat.not_lt.1 hst)]
      exact (((((h.entered st).put _ _).put _ _).putFlag _ _).putFlag _ _).onLane _

/-- An entry raises no fault. -/
@[simp] theorem setLane_fcuIn (s : State) (n : Lane) (st : Nat) : (s.setLane n st).fcuIn = s.fcuIn := by
  have hentered : (laneEntered s n st).fcuIn = s.fcuIn := by
    rw [laneEntered, syncActive_fcuIn, onLane_fcuIn, putFlag_fcuIn, put_fcuIn]
  by_cases hs : s.laneSt n = st
  · rw [setLane_of_same hs]
  · by_cases hst : laneTrain < st
    · rw [setLane_of_locked hs hst, hentered]
    · rw [setLane_of_unlocked hs (Nat.not_lt.1 hst), laneUnlocked, onLane_fcuIn, putFlag_fcuIn, putFlag_fcuIn, put_fcuIn,
        put_fcuIn, hentered]

/-- Entry into a state from NEGOTIATE on keeps its time and ends a challenge. -/
theorem lane_setLane {st : Nat} (h : s.laneSt n ≠ st) (hst : laneTrain < st) :
    (s.setLane n st).lane n = { s.lane n with since := s.tt, chal := none } := by
  rw [setLane_of_locked h hst, laneEntered, lane_syncActive, lane_onLane_same, lane_putFlag, lane_put]

/-- What such an entry leaves of what a lane holds. -/
theorem lane_setLane_keeps {β : Type} (p : LaneState → β) (hp : ∀ l since chal, p { l with since := since, chal := chal } = p l)
    {st : Nat} (hst : laneTrain < st) : p ((s.setLane n st).lane n) = p (s.lane n) := by
  by_cases hs : s.laneSt n = st
  · rw [setLane_of_same hs]
  · rw [lane_setLane hs hst, hp]

/-- No entry begins a challenge. -/
theorem chal_setLane {st : Nat} (hst : laneTrain < st) (h : (s.lane n).chal = none) : ((s.setLane n st).lane n).chal = none := by
  by_cases hs : s.laneSt n = st
  · rwa [setLane_of_same hs]
  · rw [lane_setLane hs hst]

/-! ### What a lane shows after an entry -/

section
variable (s n) {st : Nat}

/-- A field of a lane apart from its state and from STATE_CHG is as before the entry. -/
theorem get_laneEntered_other {f : Fld} (hoff : f.off < HL_ACTIVE_LO) (hstat : (HL_STAT_STATE n).spares f = true)
    (hisr : (HL_ISR_STATE_CHG n).spares f = true) : (laneEntered s n st).get f = s.get f := by
  rw [laneEntered, get_syncActive _ _ hoff, get_onLane, get_putFlag_spared hisr, get_put_spared hstat]

theorem laneSt_laneEntered (h : st < 16) : (laneEntered s n st).laneSt n = st := by
  have hisr : (HL_ISR_STATE_CHG n).spares (HL_STAT_STATE n) = true := spares_of_lane rfl
  rw [State.laneSt, laneEntered, get_syncActive _ _ (lane_off_lt n (laneBlock rfl _)), get_onLane, get_putFlag_spared hisr,
    get_put_same _ _ _ rfl]
  exact Nat.mod_eq_of_lt h

theorem stateChg_laneEntered : (laneEntered s n st).flag (HL_ISR_STATE_CHG n) = true := by
  rw [laneEntered, flag_syncActive _ _ (lane_off_lt n (laneBlock rfl _)), flag_onLane, flag_putFlag_same _ _ _ rfl Nat.one_pos]

/-- The state and STATE_CHG are not cleared with the lock. -/
theorem laneUnlocked_keeps : (laneUnlocked s n).laneSt n = s.laneSt n ∧
    (laneUnlocked s n).flag (HL_ISR_STATE_CHG n) = s.flag (HL_ISR_STATE_CHG n) := by
  unfold laneUnlocked State.laneSt
  constructor
  · rw [get_onLane, get_putFlag_spared, get_putFlag_spared, get_put_spared, get_put_spared]
    all_goals exact spares_of_lane rfl
  · rw [flag_onLane, flag_putFlag_spared, flag_putFlag_spared, flag_put_spared, flag_put_spared]
    all_goals exact spares_of_lane rfl

theorem laneUnlocked_shows : (laneUnlocked s n).get (HL_STAT_RATE n) = 0 ∧ (laneUnlocked s n).get (HL_STAT_VER n) = 0 ∧
    (laneUnlocked s n).flag (HL_STAT_SYNCED n) = false := by
  unfold laneUnlocked
  refine ⟨?_, ?_, ?_⟩
  · rw [get_onLane, get_putFlag_spared, get_putFlag_spared, get_put_spared, get_put_same _ _ _ rfl]
    · rfl
    all_goals exact spares_of_lane rfl
  · rw [get_onLane, get_putFlag_spared, get_putFlag_spared, get_put_same _ _ _ rfl]
    · rfl
    all_goals exact spares_of_lane rfl
  · rw [flag_onLane, flag_putFlag_spared, flag_putFlag_same _ _ _ rfl Nat.one_pos]
    exact spares_of_lane rfl

theorem laneSt_setLane (h : st < 16) : (s.setLane n st).laneSt n = st := by
  by_cases hs : s.laneSt n = st
  · rwa [setLane_of_same hs]
  · by_cases hst : laneTrain < st
    · rw [setLane_of_locked hs hst, laneSt_laneEntered s n h]
    · rw [setLane_of_unlocked hs (Nat.not_lt.1 hst), (laneUnlocked_keeps _ n).1, laneSt_laneEntered s n h]

variable {s n}

/-- Entry into a state from NEGOTIATE on leaves every field of a lane but its state and STATE_CHG. -/
theorem get_setLane_other {f : Fld} (hst : laneTrain < st) (hoff : f.off < HL_ACTIVE_LO) (hstat : (HL_STAT_STATE n).spares f = true)
    (hisr : (HL_ISR_STATE_CHG n).spares f = true) : (s.setLane n st).get f = s.get f := by
  by_cases hs : s.laneSt n = st
  · rw [setLane_of_same hs]
  · rw [setLane_of_locked hs hst, get_laneEntered_other _ _ hoff hstat hisr]

theorem flag_setLane_other {f : Fld} (hst : laneTrain < st) (hoff : f.off < HL_ACTIVE_LO) (hstat : (HL_STAT_STATE n).spares f = true)
    (hisr : (HL_ISR_STATE_CHG n).spares f = true) : (s.setLane n st).flag f = s.flag f :=
  flag_eq_of_get_eq (get_setLane_other hst hoff hstat hisr)

/-- Entry into another state shows STATE_CHG. -/
theorem stateChg_setLane (h : s.laneSt n ≠ st) : (s.setLane n st).flag (HL_ISR_STATE_CHG n) = true := by
  by_cases hst : laneTrain < st
  · rw [setLane_of_locked h hst, stateChg_laneEntered]
  · rw [setLane_of_unlocked h (Nat.not_lt.1 hst), (laneUnlocked_keeps _ n).2, stateChg_laneEntered]

/-- Entry into DOWN or TRAIN from another state clears RATE, VER and SYNCED. -/
theorem setLane_unlocked_shows (h : s.laneSt n ≠ st) (hst : st ≤ laneTrain) : (s.setLane n st).get (HL_STAT_RATE n) = 0 ∧
    (s.setLane n st).get (HL_STAT_VER n) = 0 ∧ (s.setLane n st).flag (HL_STAT_SYNCED n) = false := by
  rw [setLane_of_unlocked h hst]
  exact laneUnlocked_shows _ n

end

end Sys2Proof.Machine
end

section
/-! Lanes that calibrate, agree on a version, or lose their head (R64, R65, R84, R87, R91, R93). -/

namespace Sys2Proof.Machine

variable {s t u : State} {n k : Lane}

/-! ### Faults of a lane, and whole words -/

theorem fcuIn_raise_lane (s : State) (id : Nat) (n : Lane) :
    (s.raise id n).fcuIn = s.fcuIn ++ [⟨id, n, false, 0, s.tt⟩] := by
  have hn : n.val % 2 ^ 32 = n := Nat.mod_eq_of_lt (by omega)
  rw [State.raise, hn]

/-- A word that reads the same as a field reads the same. -/
theorem rd_eq_of_get_word {o : Nat} (h : t.get ⟨o, 0, 32⟩ = s.get ⟨o, 0, 32⟩) : t.rd o = s.rd o := by
  have hword (x : State) : x.get ⟨o, 0, 32⟩ = (x.rd o).toNat := by
    show (x.rd o).toNat / 2 ^ 0 % 2 ^ 32 = _
    rw [pow_zero, Nat.div_one, Nat.mod_eq_of_lt (x.rd o).isLt]
  exact BitVec.eq_of_toNat_eq (by rw [← hword, h, hword])

/-! ### CALIBRATE (R64, R65) -/

/-- What entry into CALIBRATE leaves in the registers. -/
def laneCalibrated (s : State) (n : Lane) : State :=
  ((s.setLane n laneCalibrate).putFlag (HL_STAT_SYNCED n) false).putFlag (HL_STAT_ID_OK n) false

/-- Entry into CALIBRATE begins the exchanges anew, and HB_PER waits for the transmitter. -/
theorem calibrate_eq (s : State) (n : Lane) : ∃ g, s.calibrate n = (laneCalibrated s n).onLane n g ∧
    ∀ l, (g l).exch = 0 ∧ (g l).rx = l.rx ∧ (g l).verTt = l.verTt := by
  obtain ⟨tx, seqs, id, own, h⟩ := pushHbPer_eq ((laneCalibrated s n).onLane n (fun l =>
    { l with steps := 0, exch := 0, goodRun := 0, overRun := 0, syncs := [], syncTt := none })) n
  refine ⟨_, h.trans (onLane_onLane _ _ _ _), fun l => ⟨rfl, rfl, rfl⟩⟩

theorem LaneOnly.calibrate (h : LaneOnly n s t) : LaneOnly n s (t.calibrate n) := by
  obtain ⟨g, e, -⟩ := calibrate_eq t n
  rw [e]
  exact (((h.setLane _).putFlag _ _).putFlag _ _).onLane _

@[simp] theorem calibrate_fcuIn (s : State) (n : Lane) : (s.calibrate n).fcuIn = s.fcuIn := by
  obtain ⟨g, e, -⟩ := calibrate_eq s n
  rw [e, onLane_fcuIn, laneCalibrated, putFlag_fcuIn, putFlag_fcuIn, setLane_fcuIn]

theorem laneSt_calibrate (s : State) (n : Lane) : (s.calibrate n).laneSt n = laneCalibrate := by
  obtain ⟨g, e, -⟩ := calibrate_eq s n
  have hst : (s.setLane n laneCalibrate).get (HL_STAT_STATE n) = laneCalibrate := laneSt_setLane s n (by decide)
  rw [e, laneSt_onLane, laneCalibrated, State.laneSt, get_putFlag_spared, get_putFlag_spared, hst]
  all_goals exact spares_of_lane rfl

theorem synced_calibrate (s : State) (n : Lane) : (s.calibrate n).flag (HL_STAT_SYNCED n) = false := by
  obtain ⟨g, e, -⟩ := calibrate_eq s n
  rw [e, flag_onLane, laneCalibrated, flag_putFlag_spared, flag_putFlag_same _ _ _ rfl Nat.one_pos]
  exact spares_of_lane rfl

/-- Entry into CALIBRATE leaves every field of a lane but its state, SYNCED, ID_OK and STATE_CHG. -/
theorem get_calibrate_other {f : Fld} (hoff : f.off < HL_ACTIVE_LO) (hstat : (HL_STAT_STATE n).spares f = true)
    (hisr : (HL_ISR_STATE_CHG n).spares f = true) (hsynced : (HL_STAT_SYNCED n).spares f = true)
    (hid : (HL_STAT_ID_OK n).spares f = true) : (s.calibrate n).get f = s.get f := by
  obtain ⟨g, e, -⟩ := calibrate_eq s n
  rw [e, get_onLane, laneCalibrated, get_putFlag_spared hid, get_putFlag_spared hsynced,
    get_setLane_other (by decide) hoff hstat hisr]

/-- The same for a whole word of the lane, other than its status and HL_ISR. -/
theorem rd_calibrate_other {o : Nat} (h : o / 0x1000 = 0x100 + n) (hstat : HL_STAT n ≠ o) (hisr : HL_ISR n ≠ o) :
    (s.calibrate n).rd o = s.rd o :=
  rd_eq_of_get_word (get_calibrate_other (lane_off_lt n h) (spares_of_word rfl hstat) (spares_of_word rfl hisr)
    (spares_of_word rfl hstat) (spares_of_word rfl hstat))

/-- The exchanges begin anew; what has been received, and the VER sent, stay. -/
theorem lane_calibrate (s : State) (n : Lane) : ((s.calibrate n).lane n).exch = 0 ∧
    ((s.calibrate n).lane n).rx = (s.lane n).rx ∧ ((s.calibrate n).lane n).verTt = (s.lane n).verTt := by
  obtain ⟨g, e, hg⟩ := calibrate_eq s n
  obtain ⟨hexch, hrx, hver⟩ := hg ((s.setLane n laneCalibrate).lane n)
  rw [e, lane_onLane_same, laneCalibrated, lane_putFlag, lane_putFlag]
  exact ⟨hexch, hrx.trans (lane_setLane_keeps LaneState.rx (fun _ _ _ => rfl) (by decide)),
    hver.trans (lane_setLane_keeps LaneState.verTt (fun _ _ _ => rfl) (by decide))⟩

/-! ### Versions (R87) -/

/-- Until both devices have sent their VER, nothing is agreed. -/
theorem agree_of_waiting (h : (s.lane n).verTt = none ∨ (s.lane n).headVer = none) : s.agree n = s := by
  unfold State.agree
  rcases h with h | h
  · rw [h]
  · rw [h]
    cases (s.lane n).verTt <;> rfl

section
variable {x a b : Nat} (hver : (s.lane n).verTt = some x) (hhead : (s.lane n).headVer = some (a, b))
include hver hhead

theorem agree_of_common (h : max 1 a ≤ min (s.get (HL_CFG_VMAX n)) b) :
    s.agree n = ((s.onLane n (fun l => { l with headVer := none })).put (HL_STAT_VER n) (min (s.get (HL_CFG_VMAX n)) b)).calibrate n := by
  unfold State.agree
  rw [hver, hhead]
  exact if_pos h

theorem agree_of_apart (h : min (s.get (HL_CFG_VMAX n)) b < max 1 a) :
    s.agree n = (((s.onLane n (fun l => { l with headVer := none })).putFlag (HL_ISR_VER_FAIL n) true).raise F_HL_VER_FAIL n).setLane n
      laneFailed := by
  unfold State.agree
  rw [hver, hhead]
  exact if_neg (Nat.not_le.2 h)

/-- With a common version the lane calibrates at it. -/
theorem agree_of_common_shows (h : max 1 a ≤ min (s.get (HL_CFG_VMAX n)) b) : (s.agree n).laneSt n = laneCalibrate ∧
    (s.agree n).get (HL_STAT_VER n) = min (s.get (HL_CFG_VMAX n)) b % 2 ^ (HL_STAT_VER n).width ∧
    (s.agree n).flag (HL_STAT_SYNCED n) = false ∧ ((s.agree n).lane n).exch = 0 ∧ ((s.agree n).lane n).rx = (s.lane n).rx ∧
    ((s.agree n).lane n).verTt = (s.lane n).verTt := by
  rw [agree_of_common hver hhead h]
  obtain ⟨hexch, hrx, htt⟩ := lane_calibrate
    ((s.onLane n (fun l => { l with headVer := none })).put (HL_STAT_VER n) (min (s.get (HL_CFG_VMAX n)) b)) n
  have hlane : ((s.onLane n (fun l => { l with headVer := none })).put (HL_STAT_VER n) (min (s.get (HL_CFG_VMAX n)) b)).lane n =
      { s.lane n with headVer := none } := lane_onLane_same s n _
  rw [hlane] at hrx htt
  refine ⟨laneSt_calibrate _ n, ?_, synced_calibrate _ n, hexch, hrx, htt⟩
  rw [get_calibrate_other (lane_off_lt n (laneBlock rfl _)), get_put_same _ _ _ rfl]
  all_goals exact spares_of_lane rfl

/-- Without one the lane has failed, and the failure shows and is raised. -/
theorem agree_of_apart_shows (h : min (s.get (HL_CFG_VMAX n)) b < max 1 a) : (s.agree n).laneSt n = laneFailed ∧
    (s.agree n).flag (HL_ISR_VER_FAIL n) = true ∧ (s.agree n).fcuIn = s.fcuIn ++ [⟨F_HL_VER_FAIL, n, false, 0, s.tt⟩] := by
  rw [agree_of_apart hver hhead h]
  refine ⟨laneSt_setLane _ n (by decide), ?_, ?_⟩
  · rw [flag_setLane_other (by decide) (lane_off_lt n (laneBlock rfl _)), flag_raise, flag_putFlag_same _ _ _ rfl Nat.one_pos]
    all_goals exact spares_of_lane rfl
  · rw [setLane_fcuIn, fcuIn_raise_lane, putFlag_fcuIn, onLane_fcuIn, putFlag_tt, onLane_tt]

end

theorem LaneOnly.agree (h : LaneOnly n s t) : LaneOnly n s (t.agree n) := by
  unfold State.agree
  split
  · exact ((h.onLane _).put _ _).calibrate.ite ((((h.onLane _).putFlag _ _).raise _ _).setLane _)
  · exact h

/-! ### Head loss (R84, R93, R94) -/

/-- What a head loss leaves before the lane calibrates anew. -/
def headLossShown (s : State) (n : Lane) : State :=
  let s1 := ((s.putFlag (HL_ISR_HEAD_LOST n) true).bump (HL_LOSS_CNT_CNT n)).raise F_HL_HEAD_LOST n
  let s2 := (s1.wr64 (HL_DETACH_FN n) s.fn).onLane n (fun l =>
    { l with detached := true, lostFn := some s.fn, missRun := 0 })
  if s.isPeer n then s2.raise F_HL_PEER_DOWN n else s2

theorem headLost_of_down (h : s.laneSt n = laneDown) : s.headLost n = headLossShown s n := if_pos h

theorem headLost_of_up (h : s.laneSt n ≠ laneDown) : s.headLost n = (headLossShown s n).calibrate n := if_neg h

theorem LaneOnly.headLossShown (h : LaneOnly n s t) : LaneOnly n s (headLossShown t n) := by
  have hlow : HL_DETACH_FN n / 0x1000 = 0x100 + n := laneBlock rfl _
  have hhigh : (HL_DETACH_FN n + 4) / 0x1000 = 0x100 + n := by
    unfold HL_DETACH_FN
    omega
  have hfn := ((((h.putFlag (HL_ISR_HEAD_LOST n) true).bump (HL_LOSS_CNT_CNT n)).raise F_HL_HEAD_LOST n).wr
    (BitVec.ofNat 32 t.fn) (fun _ hk => stat_off_ne hlow hk)).wr (BitVec.ofNat 32 (t.fn / 2 ^ 32)) (fun _ hk => stat_off_ne hhigh hk)
  exact ((hfn.onLane _).raise _ _).ite (hfn.onLane _)

theorem LaneOnly.headLost (h : LaneOnly n s t) : LaneOnly n s (t.headLost n) := by
  by_cases hd : t.laneSt n = laneDown
  · rw [headLost_of_down hd]
    exact h.headLossShown
  · rw [headLost_of_up hd]
    exact h.headLossShown.calibrate

theorem LaneOnly.laneDrop (h : LaneOnly n s t) : LaneOnly n s (t.laneDrop n) :=
  (h.setLane _).headLost.ite (h.setLane _)

/-- The registers after a head loss, written out. -/
theorem rd_headLossShown (s : State) (n : Lane) (o : Nat) : (headLossShown s n).rd o =
    ((((s.putFlag (HL_ISR_HEAD_LOST n) true).bump (HL_LOSS_CNT_CNT n)).raise F_HL_HEAD_LOST n).wr64 (HL_DETACH_FN n) s.fn).rd o := by
  unfold headLossShown
  dsimp only
  split
  · rw [rd_raise, rd_onLane]
  · rw [rd_onLane]

/-- A field that does not lie in `HL_DETACH_FN`, and that neither HEAD_LOST nor the count of losses is, is as before. -/
theorem get_headLossShown_other {f : Fld} (hlow : f.off ≠ HL_DETACH_FN n) (hhigh : f.off ≠ HL_DETACH_FN n + 4)
    (hlost : (HL_ISR_HEAD_LOST n).spares f = true) (hcnt : (HL_LOSS_CNT_CNT n).spares f = true) :
    (headLossShown s n).get f = s.get f := by
  rw [get_eq_of_rd_eq (rd_headLossShown s n _), get_wr64_other _ hlow hhigh, get_raise, get_bump_spared hcnt, get_putFlag_spared hlost]

/-- The status word of the lane is as before. -/
theorem get_headLossShown_stat {f : Fld} (hf : f.off = HL_STAT n) : (headLossShown s n).get f = s.get f := by
  have hoff : HL_STAT n ≠ HL_DETACH_FN n ∧ HL_STAT n ≠ HL_DETACH_FN n + 4 ∧ HL_ISR n ≠ HL_STAT n ∧ HL_LOSS_CNT n ≠ HL_STAT n := by
    unfold HL_STAT HL_DETACH_FN HL_ISR HL_LOSS_CNT
    omega
  obtain ⟨hlow, hhigh, hisr, hcnt⟩ := hoff
  exact get_headLossShown_other (hf ▸ hlow) (hf ▸ hhigh) (spares_of_word rfl (hf ▸ hisr)) (spares_of_word rfl (hf ▸ hcnt))

/-- The words of a lane that a head loss writes lie apart. -/
theorem headLoss_offs (n : Lane) : HL_ISR n ≠ HL_DETACH_FN n ∧ HL_ISR n ≠ HL_DETACH_FN n + 4 ∧ HL_LOSS_CNT n ≠ HL_DETACH_FN n ∧
    HL_LOSS_CNT n ≠ HL_DETACH_FN n + 4 ∧ HL_STAT n ≠ HL_DETACH_FN n ∧ HL_STAT n ≠ HL_DETACH_FN n + 4 := by
  unfold HL_ISR HL_DETACH_FN HL_LOSS_CNT HL_STAT
  omega

/-- A head loss shows, is counted and raised, and its firing is recorded. -/
theorem headLossShown_shows (s : State) (n : Lane) : (headLossShown s n).flag (HL_ISR_HEAD_LOST n) = true ∧
    (headLossShown s n).get (HL_LOSS_CNT_CNT n) = min (s.get (HL_LOSS_CNT_CNT n) + 1) (2 ^ (HL_LOSS_CNT_CNT n).width - 1) ∧
    (headLossShown s n).rd64 (HL_DETACH_FN n) = s.fn % 2 ^ 64 ∧
    ∃ l, (headLossShown s n).fcuIn = s.fcuIn ++ ⟨F_HL_HEAD_LOST, n, false, 0, s.tt⟩ :: l := by
  obtain ⟨hisr1, hisr2, hcnt1, hcnt2, -, -⟩ := headLoss_offs n
  refine ⟨?_, ?_, ?_, ?_⟩
  · rw [flag_eq_of_rd_eq (rd_headLossShown s n _), flag_eq_of_get_eq (get_wr64_other _ hisr1 hisr2), flag_raise, flag_bump_spared,
      flag_putFlag_same _ _ _ rfl Nat.one_pos]
    exact spares_of_lane rfl
  · rw [get_eq_of_rd_eq (rd_headLossShown s n _), get_wr64_other _ hcnt1 hcnt2, get_raise, get_bump_same _ _ rfl, get_putFlag_spared]
    exact spares_of_lane rfl
  · rw [rd64_eq_of_rd_eq (rd_headLossShown s n _) (rd_headLossShown s n _), rd64_wr64_same]
  · have hraise := fcuIn_raise_lane ((s.putFlag (HL_ISR_HEAD_LOST n) true).bump (HL_LOSS_CNT_CNT n)) F_HL_HEAD_LOST n
    rw [bump_fcuIn, putFlag_fcuIn, bump_tt, putFlag_tt] at hraise
    unfold headLossShown
    dsimp only
    split
    · refine ⟨[⟨F_HL_PEER_DOWN, n, false, 0, s.tt⟩], ?_⟩
      rw [fcuIn_raise_lane, onLane_fcuIn, wr64_fcuIn, hraise, onLane_tt, wr64_tt, raise_tt, bump_tt, putFlag_tt, List.append_assoc,
        List.singleton_append]
    · refine ⟨[], ?_⟩
      rw [onLane_fcuIn, wr64_fcuIn, hraise]

/-- A lane that is not DOWN calibrates anew, and shows the loss. -/
theorem headLost_of_up_shows (h : s.laneSt n ≠ laneDown) : (s.headLost n).laneSt n = laneCalibrate ∧
    (s.headLost n).flag (HL_STAT_SYNCED n) = false ∧ (s.headLost n).flag (HL_ISR_HEAD_LOST n) = true ∧
    (s.headLost n).get (HL_LOSS_CNT_CNT n) = min (s.get (HL_LOSS_CNT_CNT n) + 1) (2 ^ (HL_LOSS_CNT_CNT n).width - 1) ∧
    (s.headLost n).rd64 (HL_DETACH_FN n) = s.fn % 2 ^ 64 ∧
    ∃ l, (s.headLost n).fcuIn = s.fcuIn ++ ⟨F_HL_HEAD_LOST, n, false, 0, s.tt⟩ :: l := by
  obtain ⟨hlost, hcnt, hfn, hfcu⟩ := headLossShown_shows s n
  obtain ⟨hisr1, hisr2, -, -, hstat1, hstat2⟩ := headLoss_offs n
  rw [headLost_of_up h]
  refine ⟨laneSt_calibrate _ n, synced_calibrate _ n, ?_, ?_, ?_, ?_⟩
  · rw [← hlost]
    exact flag_eq_of_get_eq (get_calibrate_other (lane_off_lt n (laneBlock rfl _)) (spares_of_lane rfl) (spares_of_lane rfl)
      (spares_of_lane rfl) (spares_of_lane rfl))
  · rw [← hcnt]
    exact get_calibrate_other (lane_off_lt n (laneBlock rfl _)) (spares_of_lane rfl) (spares_of_lane rfl) (spares_of_lane rfl)
      (spares_of_lane rfl)
  · have hhigh : (HL_DETACH_FN n + 4) / 0x1000 = 0x100 + n := by
      unfold HL_DETACH_FN
      omega
    rw [← hfn]
    exact rd64_eq_of_rd_eq (rd_calibrate_other (laneBlock rfl _) hstat1 hisr1) (rd_calibrate_other hhigh hstat2 hisr2)
  · rw [calibrate_fcuIn]
    exact hfcu

/-- SYNC_LOSS shown before a head loss is still shown after it. -/
theorem syncLoss_headLost (h : s.laneSt n ≠ laneDown) (hs : s.flag (HL_ISR_SYNC_LOSS n) = true) :
    (s.headLost n).flag (HL_ISR_SYNC_LOSS n) = true := by
  obtain ⟨hisr1, hisr2, -, -, -, -⟩ := headLoss_offs n
  rw [headLost_of_up h, ← hs]
  refine flag_eq_of_get_eq ((get_calibrate_other (lane_off_lt n (laneBlock rfl _)) (spares_of_lane rfl) (spares_of_lane rfl)
    (spares_of_lane rfl) (spares_of_lane rfl)).trans ?_)
  exact get_headLossShown_other hisr1 hisr2 (spares_of_lane rfl) (spares_of_lane rfl)

/-! ### Lanes that go DOWN (R55, R91) -/

/-- A lane that goes DOWN shows neither a rate nor synchronisation, whether its head was in use or not. -/
theorem laneDrop_shows (s : State) (n : Lane) (h : s.laneSt n ≠ laneDown) : (s.laneDrop n).laneSt n = laneDown ∧
    (s.laneDrop n).flag (HL_STAT_SYNCED n) = false ∧ (s.laneDrop n).get (HL_STAT_RATE n) = 0 := by
  obtain ⟨hrate, -, hsynced⟩ := setLane_unlocked_shows h (by decide : laneDown ≤ laneTrain)
  have hdown : (s.setLane n laneDown).laneSt n = laneDown := laneSt_setLane s n (by decide)
  unfold State.laneDrop
  dsimp only
  split
  · rw [headLost_of_down hdown]
    exact ⟨(get_headLossShown_stat rfl).trans hdown, (flag_eq_of_get_eq (get_headLossShown_stat rfl)).trans hsynced,
      (get_headLossShown_stat rfl).trans hrate⟩
  · exact ⟨hdown, hsynced, hrate⟩

end Sys2Proof.Machine
end

section
/-! A received VER (R86, R87). -/

namespace Sys2Proof.Machine

variable {s t : State} {n : Lane} {m : RxMsg}

/-- A run of bytes of a message spells a number of as many bytes. -/
theorem leNat_lt (b : Bytes) : leNat b < 256 ^ b.length := by
  induction b with
  | nil => exact Nat.one_pos
  | cons x r ih =>
    have hx : x.toNat < 256 := x.isLt
    rw [leNat, List.length_cons, pow_succ]
    omega

theorem field_lt (b : Bytes) (i k : Nat) : field b i k < 256 ^ k :=
  lt_of_lt_of_le (leNat_lt _) (Nat.pow_le_pow_right (by decide) (List.length_take_le _ _))

theorem each_of_mem {α : Type} {P : State → Prop} (h : P s) (l : List α) (f : State → α → State)
    (hf : ∀ s, P s → ∀ x ∈ l, P (f s x)) : P (s.each l f) :=
  List.foldlRecOn l f h hf

/-- What a head's VER leaves before the versions are compared: its fields shown, its versions kept. -/
def verShown (s : State) (n : Lane) (m : RxMsg) : State :=
  let s1 := ((((s.rxPop n).put (HL_VERINFO_VMIN n) (field m.bytes 8 1)).put (HL_VERINFO_VMAX n) (field m.bytes 9 1)).put
    (HL_VERINFO_VENDOR n) (field m.bytes 28 2))
  let s2 := (s1.put (HL_VERMODEL_MODEL n) (field m.bytes 30 2)).put (HL_VERMODEL_CAPS n) (field m.bytes 32 2)
  let s3 := s2.each (List.range 4) (fun s i => s.put (HL_SERIAL_SERIAL n i) (field m.bytes (12 + 4 * i) 4))
  s3.onLane n (fun l => { l with headVer := some (field m.bytes 8 1, field m.bytes 9 1) })

theorem exec_verReceive_of_front (hm : s.rxFront n 1 = some m) (hst : s.laneSt n = laneNegotiate) :
    exec (.verReceive n) s = .next ((verShown s n m).agree n) := by
  show execVerReceive n s = _
  unfold execVerReceive
  rw [hm]
  exact congrArg _ (if_neg (not_not.2 hst))

theorem LaneOnly.rxPop (h : LaneOnly n s t) : LaneOnly n s (t.rxPop n) := h.onLane _

theorem LaneOnly.verShown (h : LaneOnly n s t) (m : RxMsg) : LaneOnly n s (verShown t n m) := by
  have hserial {i : Nat} (hi : i ∈ List.range 4) : HL_SERIAL n i / 0x1000 = 0x100 + n := by
    have hlt := List.mem_range.1 hi
    unfold HL_SERIAL
    omega
  exact (each_of_mem (((((h.rxPop.put _ _).put _ _).put _ _).put _ _).put _ _) _ _ (fun _ hs _ hi => hs.put _ _ (hserial hi))).onLane _

theorem lane_verShown (s : State) (n : Lane) (m : RxMsg) : (verShown s n m).lane n =
    { s.lane n with rx := (s.lane n).rx.drop 1, headVer := some (field m.bytes 8 1, field m.bytes 9 1) } := by
  unfold verShown
  dsimp only
  rw [lane_onLane_same, each_preserves (fun t => t.lane n) _ _ (fun t i => lane_put t _ _ _), lane_put, lane_put, lane_put, lane_put,
    lane_put, State.rxPop, lane_onLane_same]

@[simp] theorem verShown_fcuIn (s : State) (n : Lane) (m : RxMsg) : (verShown s n m).fcuIn = s.fcuIn := by
  unfold verShown
  dsimp only
  rw [onLane_fcuIn, each_preserves State.fcuIn _ _ (fun t i => put_fcuIn t _ _), put_fcuIn, put_fcuIn, put_fcuIn, put_fcuIn, put_fcuIn,
    State.rxPop, onLane_fcuIn]

/-- The serial number lies above the words that show the versions. -/
theorem get_eachSerial (s : State) (n : Lane) (l : List Nat) (v : Nat → Nat) {f : Fld} (h : f.off ≤ HL_VERINFO n) :
    (s.each l (fun s i => s.put (HL_SERIAL_SERIAL n i) (v i))).get f = s.get f := by
  have hne (i : Nat) : f.off ≠ HL_SERIAL n i := by
    unfold HL_VERINFO at h
    unfold HL_SERIAL
    omega
  exact each_preserves (fun t => t.get f) _ _ (fun t i => get_put_otherWord _ (hne i)) s

/-- The words below those that a VER shows are as before. -/
theorem get_verShown_other (m : RxMsg) {f : Fld} (h : f.off < HL_VERINFO n) : (verShown s n m).get f = s.get f := by
  have hinfo : f.off ≠ HL_VERINFO n := Nat.ne_of_lt h
  have hmodel : f.off ≠ HL_VERMODEL n := by
    unfold HL_VERINFO at h
    unfold HL_VERMODEL
    omega
  unfold verShown
  dsimp only
  rw [get_onLane, get_eachSerial _ _ _ _ (Nat.le_of_lt h), get_put_otherWord _ hmodel, get_put_otherWord _ hmodel, get_put_otherWord _ hinfo,
    get_put_otherWord _ hinfo, get_put_otherWord _ hinfo, State.rxPop, get_onLane]

theorem stat_lt_verInfo (n : Nat) : HL_STAT n < HL_VERINFO n ∧ HL_CFG n < HL_VERINFO n := by
  unfold HL_STAT HL_CFG HL_VERINFO
  omega

theorem vmax_verShown (s : State) (n : Lane) (m : RxMsg) : (verShown s n m).get (HL_CFG_VMAX n) = s.get (HL_CFG_VMAX n) :=
  get_verShown_other m (stat_lt_verInfo n).2

theorem laneSt_verShown (s : State) (n : Lane) (m : RxMsg) : (verShown s n m).laneSt n = s.laneSt n :=
  get_verShown_other m (stat_lt_verInfo n).1

/-- The head's versions show. -/
theorem verInfo_verShown (s : State) (n : Lane) (m : RxMsg) : (verShown s n m).get (HL_VERINFO_VMIN n) = field m.bytes 8 1 ∧
    (verShown s n m).get (HL_VERINFO_VMAX n) = field m.bytes 9 1 := by
  have hmodel : HL_VERINFO n ≠ HL_VERMODEL n := by
    unfold HL_VERINFO HL_VERMODEL
    omega
  unfold verShown
  dsimp only
  constructor
  · rw [get_onLane, get_eachSerial _ _ _ _ (le_refl _), get_put_otherWord _ hmodel, get_put_otherWord _ hmodel, get_put_spared,
      get_put_spared, get_put_same _ _ _ rfl]
    · exact Nat.mod_eq_of_lt (field_lt _ _ _)
    all_goals exact spares_of_lane rfl
  · rw [get_onLane, get_eachSerial _ _ _ _ (le_refl _), get_put_otherWord _ hmodel, get_put_otherWord _ hmodel, get_put_spared,
      get_put_same _ _ _ rfl]
    · exact Nat.mod_eq_of_lt (field_lt _ _ _)
    all_goals exact spares_of_lane rfl

end Sys2Proof.Machine
end

section
/-! The commands that take a lane from one state to another (R53, R55, R91), where their conditions hold. -/

namespace Sys2Proof.Machine

variable {s : State} {n : Lane}

theorem exec_laneSignalDetect_of (hst : s.laneSt n = laneDown) (hmode : s.get (HL_CFG_MODE n) ≠ 0) (hn : n.val < s.part.lanes) :
    exec (.laneSignalDetect n) s = .next (s.setLane n laneTrain) :=
  congrArg Host.Outcome.next (if_pos ⟨hst, hmode, hn⟩)

theorem exec_pam4TrainTimeout_of (hst : s.laneSt n = laneTrain) (hnrz : s.flag (HL_CFG_NRZ_ONLY n) = false)
    (hattempt : (s.lane n).attempt < 3) (htt : (s.lane n).since + 25000000 ≤ s.tt) :
    exec (.pam4TrainTimeout n) s = .next (s.onLane n (fun l => { l with attempt := l.attempt + 1, since := s.tt })) :=
  congrArg Host.Outcome.next (if_pos ⟨hst, by rw [hnrz]; rfl, hattempt, htt⟩)

/-- The rate that a lane has been trained at: 1 for NRZ, 2 for PAM4. -/
def trainedRate (s : State) (n : Lane) : Nat :=
  if s.flag (HL_CFG_NRZ_ONLY n) || decide (3 ≤ (s.lane n).attempt) then 1 else 2

theorem exec_codewordLock_of (hst : s.laneSt n = laneTrain) (hgood : 4 ≤ (s.lane n).good) :
    exec (.codewordLock n) s =
      .next (((s.setLane n laneNegotiate).put (HL_STAT_RATE n) (trainedRate s n)).onLane n (fun l => { l with bad := 0 })) :=
  congrArg Host.Outcome.next (if_pos ⟨hst, hgood⟩)

theorem exec_codewordLockLoss_of {optical : Bool} (hlow : laneTrain ≤ s.laneSt n) (hhigh : s.laneSt n ≤ laneActive)
    (h : optical = true ∨ (laneNegotiate ≤ s.laneSt n ∧ 8 ≤ (s.lane n).bad)) :
    exec (.codewordLockLoss n optical) s = .next (s.laneDrop n) :=
  congrArg Host.Outcome.next (if_pos ⟨hlow, hhigh, h⟩)

theorem exec_negotiateTimeout_of (hst : s.laneSt n = laneNegotiate) (hver : (s.lane n).headVer = none)
    (htt : (s.lane n).since + 12500000 ≤ s.tt) : exec (.negotiateTimeout n) s = .next (s.setLane n laneTrain) :=
  congrArg Host.Outcome.next (if_pos ⟨hst, by rw [hver]; rfl, htt⟩)

theorem exec_calibrateTimeout_of (hst : s.laneSt n = laneCalibrate) (hsync : s.flag (HL_STAT_SYNCED n) = false)
    (htt : (s.lane n).since + 12500000 ≤ s.tt) : exec (.calibrateTimeout n) s = .next (s.setLane n laneFailed) :=
  congrArg Host.Outcome.next (if_pos ⟨hst, by rw [hsync]; rfl, htt⟩)

theorem exec_hlRetrain (s : State) (n : Lane) (m : Master) : exec (.hlRetrain n m) s =
    .next (s.portal m (HL_CTRL n) (m == 0) (if s.laneSt n = laneFailed then s.setLane n laneDown else s)) := rfl

/-- A lane that has trained shows its rate, and the time of the entry is kept. -/
theorem locked_shows (hst : s.laneSt n = laneTrain) (rate : Nat) (hrate : rate < 4) :
    (((s.setLane n laneNegotiate).put (HL_STAT_RATE n) rate).onLane n (fun l => { l with bad := 0 })).laneSt n = laneNegotiate ∧
    (((s.setLane n laneNegotiate).put (HL_STAT_RATE n) rate).onLane n (fun l => { l with bad := 0 })).get (HL_STAT_RATE n) = rate ∧
    ((((s.setLane n laneNegotiate).put (HL_STAT_RATE n) rate).onLane n (fun l => { l with bad := 0 })).lane n).since = s.tt ∧
    ((((s.setLane n laneNegotiate).put (HL_STAT_RATE n) rate).onLane n (fun l => { l with bad := 0 })).lane n).bad = 0 := by
  have hne : s.laneSt n ≠ laneNegotiate := by rw [hst]; decide
  have hentered : (s.setLane n laneNegotiate).get (HL_STAT_STATE n) = laneNegotiate := laneSt_setLane s n (by decide)
  refine ⟨?_, ?_, ?_, ?_⟩
  · rw [laneSt_onLane, State.laneSt, get_put_spared, hentered]
    exact spares_of_lane rfl
  · rw [get_onLane, get_put_same _ _ _ rfl]
    exact Nat.mod_eq_of_lt hrate
  · rw [lane_onLane_same, lane_put, lane_setLane hne (by decide)]
  · rw [lane_onLane_same]

end Sys2Proof.Machine
end

section
open Sys2Proof Sys2Proof.Machine

/-- Settles O17: what each entry into a state shows, and `LaneOnly` for all that stays as it was. -/
theorem lanesTrainAndNegotiate : Obligations.LanesTrainAndNegotiate := by
  unfold Obligations.LanesTrainAndNegotiate
  refine ⟨?detect, ?pam4, ?lock, ?dark, ?bad, ?common, ?apart, ?early, ?negotiate, ?calibrate, ?retrain, ?refused⟩
  case detect =>
    intro s n hst hmode hn
    have hne : s.laneSt n ≠ laneTrain := by rw [hst]; decide
    have hone := (LaneOnly.refl n s).setLane laneTrain
    exact ⟨_, exec_laneSignalDetect_of hst hmode hn, laneSt_setLane s n (by decide), stateChg_setLane hne,
      (setLane_unlocked_shows hne (le_refl _)).1, hone.others, hone.mem, hone.fn⟩
  case pam4 =>
    intro s n hst hnrz hattempt htt
    exact (exec_pam4TrainTimeout_of hst hnrz hattempt htt).trans (congrArg _ (onLane_congr rfl))
  case lock =>
    intro s n hst hgood
    have hrate : trainedRate s n < 4 := by unfold trainedRate; split <;> decide
    obtain ⟨hstate, hshown, hsince, hbad⟩ := locked_shows hst _ hrate
    have hone := (((LaneOnly.refl n s).setLane laneNegotiate).put (HL_STAT_RATE n) (trainedRate s n)).onLane (fun l => { l with bad := 0 })
    exact ⟨_, exec_codewordLock_of hst hgood, hstate, hshown, hsince, hbad, hone.others, hone.mem, hone.fn⟩
  case dark =>
    intro s n hlow hhigh
    obtain ⟨hstate, hsync, hrate⟩ := laneDrop_shows s n (Nat.ne_of_gt hlow)
    have hone := (LaneOnly.refl n s).laneDrop
    exact ⟨_, exec_codewordLockLoss_of hlow hhigh (.inl rfl), hstate, hsync, hrate, hone.others, hone.mem⟩
  case bad =>
    intro s n hlow hhigh hbad
    have htrain : laneTrain ≤ s.laneSt n := le_trans (by decide) hlow
    obtain ⟨hstate, hsync, hrate⟩ := laneDrop_shows s n (Nat.ne_of_gt htrain)
    have hone := (LaneOnly.refl n s).laneDrop
    exact ⟨_, exec_codewordLockLoss_of htrain hhigh (.inr ⟨hlow, hbad⟩), hstate, hsync, hrate, hone.others, hone.mem⟩
  case common =>
    intro s n m hm hst hsent hcommon
    obtain ⟨x, hx⟩ := Option.isSome_iff_exists.1 hsent
    have hlane := lane_verShown s n m
    rw [← vmax_verShown s n m] at hcommon
    obtain ⟨hstate, hver, hsync, hexch, hrx, -⟩ := agree_of_common_shows (by rw [hlane]; exact hx) (by rw [hlane]) hcommon
    rw [vmax_verShown] at hver
    have hone := ((LaneOnly.refl n s).verShown m).agree
    exact ⟨_, exec_verReceive_of_front hm hst, hstate, hver, hsync, hexch, by rw [hrx, hlane], hone.others, hone.mem, hone.fn⟩
  case apart =>
    intro s n m hm hst hsent happart
    obtain ⟨x, hx⟩ := Option.isSome_iff_exists.1 hsent
    have hlane := lane_verShown s n m
    rw [← vmax_verShown s n m] at happart
    obtain ⟨hstate, hfail, hfcu⟩ := agree_of_apart_shows (by rw [hlane]; exact hx) (by rw [hlane]) happart
    rw [verShown_fcuIn, ((LaneOnly.refl n s).verShown m).tt] at hfcu
    have hone := ((LaneOnly.refl n s).verShown m).agree
    exact ⟨_, exec_verReceive_of_front hm hst, hstate, hfail, hfcu, hone.others, hone.mem, hone.fn⟩
  case early =>
    intro s n m hm hst hnone
    have hlane := lane_verShown s n m
    obtain ⟨hvmin, hvmax⟩ := verInfo_verShown s n m
    have hone := (LaneOnly.refl n s).verShown m
    refine ⟨verShown s n m, ?_, (laneSt_verShown s n m).trans hst, by rw [hlane], hvmin, hvmax, by rw [hlane], hone.others, hone.mem, hone.fn⟩
    rw [exec_verReceive_of_front hm hst, agree_of_waiting (.inl (by rw [hlane]; exact hnone))]
  case negotiate =>
    intro s n hst hver htt
    have hne : s.laneSt n ≠ laneTrain := by rw [hst]; decide
    have hone := (LaneOnly.refl n s).setLane laneTrain
    exact ⟨_, exec_negotiateTimeout_of hst hver htt, laneSt_setLane s n (by decide), (setLane_unlocked_shows hne (le_refl _)).2.1,
      hone.others, hone.mem, hone.fn⟩
  case calibrate =>
    intro s n hst hsync htt
    have hone := (LaneOnly.refl n s).setLane laneFailed
    exact ⟨_, exec_calibrateTimeout_of hst hsync htt, laneSt_setLane s n (by decide), hone.others, hone.mem, hone.fn⟩
  case retrain =>
    intro s n hst hreach
    have hne : s.laneSt n ≠ laneDown := by rw [hst]; decide
    have hone := (LaneOnly.refl n s).setLane laneDown
    refine ⟨s.setLane n laneDown, ?_, laneSt_setLane s n (by decide), stateChg_setLane hne, hone.others, hone.mem, hone.fn⟩
    rw [exec_hlRetrain, beq_self_eq_true, portal_of_allowed hreach, if_pos hst]
  case refused =>
    intro s n m hm hreach
    rw [exec_hlRetrain, beq_false_of_ne hm, portal_of_refused hreach]

end

section
/-! Codewords on a lane (R55, R59, R95). -/

namespace Sys2Proof.Machine

variable {s : State} {n : Lane} {fec : Fec} {cw : Codeword}

/-- Whether a codeword counts as bad (R55). -/
def badCodeword (fec : Fec) (cw : Codeword) : Bool :=
  fec == Fec.uncorrectable || !(cw.marker == 0xA5C)

theorem badCodeword_iff : badCodeword fec cw = true ↔ fec = .uncorrectable ∨ cw.marker ≠ 0xA5C := by
  simp [badCodeword]

/-- A lane that has counted a codeword. -/
def LaneState.counted (l : LaneState) (fec : Fec) (cw : Codeword) : LaneState :=
  { l with
    lastCnt := cw.count.toNat,
    good := if badCodeword fec cw then 0 else if cw.count.toNat == (l.lastCnt + 1) % 256 then l.good + 1 else 1,
    bad := if badCodeword fec cw then l.bad + 1 else 0,
    descr := (descramble l.descr cw.stream).1 }

/-- A lane in TRAIN counts the codeword and takes nothing from it. -/
theorem exec_codewordReceive_of_train (h : s.laneSt n = laneTrain) :
    exec (.codewordReceive n fec cw) s = .next (s.onLane n (fun l => l.counted fec cw)) := by
  have hup : ¬(s.laneSt n < laneTrain ∨ laneFailed ≤ s.laneSt n) := by rw [h]; decide
  exact congrArg Host.Outcome.next ((if_neg hup).trans ((if_pos h).trans (onLane_congr rfl)))

theorem exec_codewordReceive_of_off (h : s.laneSt n = laneDown ∨ laneFailed ≤ s.laneSt n) :
    exec (.codewordReceive n fec cw) s = .next s :=
  congrArg Host.Outcome.next (if_pos (h.imp_left fun e => by rw [e]; decide))

/-- A codeword of which messages are taken: counted, and one that was corrected in its counter. -/
def codewordKept (s : State) (n : Lane) (fec : Fec) (cw : Codeword) : State :=
  if fec = .corrected then (s.onLane n (fun l => l.counted fec cw)).bump (HL_FEC_CORR_CNT n) else s.onLane n (fun l => l.counted fec cw)

section
variable (hlow : laneNegotiate ≤ s.laneSt n) (hhigh : s.laneSt n ≤ laneActive)
include hlow hhigh

theorem past_train_of_lock : ¬(s.laneSt n < laneTrain ∨ laneFailed ≤ s.laneSt n) ∧ ¬s.laneSt n = laneTrain := by
  unfold laneNegotiate at hlow
  unfold laneActive at hhigh
  unfold laneTrain laneFailed
  omega

theorem exec_codewordReceive_of_uncorrectable : exec (.codewordReceive n .uncorrectable cw) s =
    .next ((s.onLane n (fun l => l.counted .uncorrectable cw)).uncorrectable n) := by
  obtain ⟨hup, htrain⟩ := past_train_of_lock hlow hhigh
  exact congrArg Host.Outcome.next ((if_neg hup).trans ((if_neg htrain).trans
    (congrArg (fun t => State.uncorrectable t n) (onLane_congr rfl))))

theorem exec_codewordReceive_of_kept (hfec : fec ≠ .uncorrectable) : exec (.codewordReceive n fec cw) s =
    .next ((slotsOf 80 (descramble (s.lane n).descr cw.stream).2).foldl (fun s b => s.takeSlot n s.tt b) (codewordKept s n fec cw)) := by
  obtain ⟨hup, htrain⟩ := past_train_of_lock hlow hhigh
  cases fec with
  | uncorrectable => exact absurd rfl hfec
  | corrected =>
    exact congrArg Host.Outcome.next ((if_neg hup).trans ((if_neg htrain).trans
      (congrArg (fun t => List.foldl (fun s b => State.takeSlot s n s.tt b) (State.bump t (HL_FEC_CORR_CNT n)) _) (onLane_congr rfl))))
  | clean =>
    exact congrArg Host.Outcome.next ((if_neg hup).trans ((if_neg htrain).trans
      (congrArg (fun t => List.foldl (fun s b => State.takeSlot s n s.tt b) t _) (onLane_congr rfl))))

end

/-- A codeword that is kept counts one corrected, and leaves what has been received to the slots. -/
theorem codewordKept_shows (s : State) (n : Lane) (fec : Fec) (cw : Codeword) :
    (codewordKept s n fec cw).lane n = (s.lane n).counted fec cw ∧
    (codewordKept s n fec cw).get (HL_FEC_CORR_CNT n) = (if fec = .corrected then
      min (s.get (HL_FEC_CORR_CNT n) + 1) (2 ^ (HL_FEC_CORR_CNT n).width - 1) else s.get (HL_FEC_CORR_CNT n)) ∧
    (codewordKept s n fec cw).mem = s.mem := by
  unfold codewordKept
  split
  · rw [lane_bump, lane_onLane_same, get_bump_same _ _ rfl, get_onLane, bump_mem, onLane_mem]
    exact ⟨rfl, rfl, rfl⟩
  · rw [lane_onLane_same, get_onLane, onLane_mem]
    exact ⟨rfl, rfl, rfl⟩

/-- An uncorrectable codeword is counted, drops the message in assembly and starts the search for a header. -/
theorem uncorrectable_shows (s : State) (n : Lane) :
    (s.uncorrectable n).get (HL_FEC_UNC_CNT n) = min (s.get (HL_FEC_UNC_CNT n) + 1) (2 ^ (HL_FEC_UNC_CNT n).width - 1) ∧
    ((s.uncorrectable n).lane n).part = none ∧ ((s.uncorrectable n).lane n).search = true ∧
    ((s.uncorrectable n).lane n).bad = (s.lane n).bad ∧ ((s.uncorrectable n).lane n).rx = (s.lane n).rx ∧
    (s.uncorrectable n).mem = s.mem := by
  have hcnt := get_bump_same s (HL_FEC_UNC_CNT n) rfl
  unfold State.uncorrectable
  dsimp only
  split
  · rw [get_raise, lane_raise, raise_mem, get_onLane, lane_onLane_same, onLane_mem, bump_mem, lane_bump]
    exact ⟨hcnt, rfl, rfl, rfl, rfl, rfl⟩
  · rw [get_onLane, lane_onLane_same, onLane_mem, bump_mem, lane_bump]
    exact ⟨hcnt, rfl, rfl, rfl, rfl, rfl⟩

end Sys2Proof.Machine
end

section
open Sys2Proof Sys2Proof.Machine

/-- Settles O18: what the count of a codeword leaves (`LaneState.counted`), and what its FEC outcome adds. -/
theorem codewordsAreCounted : Obligations.CodewordsAreCounted := by
  unfold Obligations.CodewordsAreCounted
  refine ⟨?train, ?uncorrectable, fun s n fec cw h => exec_codewordReceive_of_off h, ?taken⟩
  case train =>
    intro s n fec cw hst
    refine ⟨_, exec_codewordReceive_of_train hst, ?_⟩
    rw [lane_onLane_same]
    refine ⟨rfl, ?_, ?_, rfl, rfl, rfl⟩
    all_goals simp only [LaneState.counted, badCodeword_iff, beq_iff_eq]
  case uncorrectable =>
    intro s n cw hlow hhigh
    obtain ⟨hcnt, hpart, hsearch, hbad, hrx, hmem⟩ := uncorrectable_shows (s.onLane n (fun l => l.counted .uncorrectable cw)) n
    rw [lane_onLane_same] at hbad hrx
    exact ⟨_, exec_codewordReceive_of_uncorrectable hlow hhigh, hcnt, hpart, hsearch, hbad, hrx, hmem⟩
  case taken =>
    intro s n fec cw hlow hhigh hfec
    obtain ⟨hlane, hcnt, hmem⟩ := codewordKept_shows s n fec cw
    refine ⟨_, exec_codewordReceive_of_kept hlow hhigh hfec, ?_⟩
    rw [hlane]
    refine ⟨rfl, rfl, ?_, rfl, rfl, hcnt, hmem⟩
    simp only [LaneState.counted, badCodeword_iff, hfec, false_or]

end

section
/-! Admission and detachment, staged for the next boundary (R46, R92, R93). -/

namespace Sys2Proof.Machine

variable {s : State} {n : Lane} {m : Master}

theorem exec_hlAdmit (s : State) (n : Lane) (m : Master) : exec (.hlAdmit n m) s =
    .next (s.portal m (HL_CTRL n) (m == 0)
      (if s.laneSt n ≠ laneReady then s.putFlag (HL_STAT_CFG_REJ n) true else s.stageBy m (HL_CTRL n) 1)) := rfl

theorem exec_hlDetach (s : State) (n : Lane) (m : Master) : exec (.hlDetach n m) s =
    .next (s.portal m (HL_CTRL n) (m == 0) (s.stageBy m (HL_CTRL n) 2)) := rfl

/-- A write of a word that is staged already is merged with that, and is the last one staged. -/
theorem stageBy_of_staged {off : Nat} {v : Word} {e : Staged} (h : s.stage.find? (fun e => e.off = off) = some e) :
    s.stageBy m off v = { s with stage := s.stage.filter (fun e => e.off ≠ off) ++ [⟨off, mergeStaged off e.val v, m, s.stagings⟩],
                                 stagings := s.stagings + 1 } := by
  unfold State.stageBy State.stageWrite
  rw [h]

end Sys2Proof.Machine
end

section
open Sys2Proof Sys2Proof.Machine

/-- Settles O21: both commands are writes at the port of `HL_CTRL` that stage their bit. -/
theorem lanesAreAdmittedAndDetachedAtTheNextBoundary : Obligations.LanesAreAdmittedAndDetachedAtTheNextBoundary := by
  unfold Obligations.LanesAreAdmittedAndDetachedAtTheNextBoundary
  refine ⟨?ready, ?notReady, ?detach, ?merged, ?refused⟩
  case ready =>
    intro s n hst hreach hnew hroom
    rw [exec_hlAdmit, beq_self_eq_true, portal_of_allowed hreach, if_neg (not_not.2 hst), stageBy_of_room hnew hroom]
  case notReady =>
    intro s n hst hreach
    rw [exec_hlAdmit, beq_self_eq_true, portal_of_allowed hreach, if_pos hst]
  case detach =>
    intro s n hreach hnew hroom
    rw [exec_hlDetach, beq_self_eq_true, portal_of_allowed hreach, stageBy_of_room hnew hroom]
  case merged =>
    intro s n e hreach he
    refine ⟨?_, fun hst => ?_⟩
    · rw [exec_hlDetach, beq_self_eq_true, portal_of_allowed hreach, stageBy_of_staged he]
    · rw [exec_hlAdmit, beq_self_eq_true, portal_of_allowed hreach, if_neg (not_not.2 hst), stageBy_of_staged he]
  case refused =>
    intro s n m hm hreach
    rw [exec_hlAdmit, exec_hlDetach, beq_false_of_ne hm, portal_of_refused hreach, portal_of_refused hreach]
    exact ⟨rfl, rfl⟩

end

section
/-! Messages that the device sends on its own (R56, R57, R65, R80, R82, R86). -/

namespace Sys2Proof.Machine

variable {s t : State} {n k : Lane}

/-! ### What sending leaves -/

@[simp] theorem get_send (s : State) (n : Lane) (typ flags : Nat) (content : Bytes) (f : Fld) :
    (s.send n typ flags content).get f = s.get f := by
  obtain ⟨tx, seqs, h⟩ := send_eq s n typ flags content
  rw [h, get_onLane]

theorem LaneOnly.send (h : LaneOnly n s t) (typ flags : Nat) (content : Bytes) : LaneOnly n s (t.send n typ flags content) := by
  obtain ⟨tx, seqs, e⟩ := send_eq t n typ flags content
  rw [e]
  exact h.onLane _

/-- Sending leaves what a lane holds outside its transmitter. -/
theorem lane_send_keeps {β : Type} (p : LaneState → β) (hp : ∀ l tx seqs, p { l with tx := tx, seqs := seqs } = p l) (s : State)
    (n : Lane) (typ flags : Nat) (content : Bytes) : p ((s.send n typ flags content).lane n) = p (s.lane n) := by
  obtain ⟨tx, seqs, h⟩ := send_eq s n typ flags content
  rw [h, lane_onLane_same, hp]

/-- `t` is `s` with one more message of a type waiting for the transmitter of lane `n`, the last, and nothing else changed but
what that lane holds. -/
structure SentOne (n : Lane) (typ : Byte) (s t : State) : Prop where
  tx : ∃ b, (t.lane n).tx = (s.lane n).tx ++ [⟨s.tt, b⟩] ∧ b.head? = some typ
  others : ∀ k : Lane, k ≠ n → t.lane k = s.lane k
  regs : t.regs = s.regs
  mem : t.mem = s.mem

/-- A message handed to a transmitter that is on waits there, whatever the lane remembers of it. -/
theorem sentOne_of_on (s : State) (typ flags : Nat) (content : Bytes) (f : LaneState → LaneState) (hf : ∀ l, (f l).tx = l.tx)
    (hlow : laneNegotiate ≤ s.laneSt n) (hhigh : s.laneSt n ≤ laneActive) (hon : s.isPeer n = true ∨ s.arch.refuse = false) :
    SentOne n (BitVec.ofNat 8 typ) s ((s.send n typ flags content).onLane n f) := by
  rw [send_of_on typ flags content hlow hhigh hon]
  refine ⟨⟨frame typ (if typ = 1 then 1 else max 1 (s.get (HL_STAT_VER n))) flags ((lookup (s.lane n).seqs typ).getD 0) content,
    ?_, frame_head _ _ _ _ _⟩, fun k hk => ?_, rfl, rfl⟩
  · rw [lane_onLane_same, lane_onLane_same, hf]
    rfl
  · rw [lane_onLane_other _ _ hk, lane_onLane_other _ _ hk]

/-! ### The commands, where their message is due -/

/-- The content of a VER (R86). -/
def verContent (s : State) (n : Lane) : Bytes :=
  natLe 1 1 ++ natLe 1 (s.get (HL_CFG_VMAX n)) ++ natLe 1 (if s.isPeer n then 2 else 0) ++ [0]
    ++ natLe 26 Config.verFields ++ List.replicate 6 0

/-- A lane that has sent its VER. -/
def LaneState.verSent (l : LaneState) (tt : Nat) : LaneState :=
  { l with verTt := some tt }

theorem exec_verSend_of_due {x : Nat} (hst : s.laneSt n = laneNegotiate) (hx : (s.lane n).verTt = some x) (hdue : x + 125000 ≤ s.tt) :
    exec (.verSend n) s = .next (((s.send n 1 0 (verContent s n)).onLane n (fun l => l.verSent s.tt)).agree n) := by
  show execVerSend n s = _
  unfold execVerSend
  simp only [hx]
  exact congrArg _ (if_pos (by simp [hst, usKclk, hdue]))

/-- The content of a SYNC (R61). -/
def syncContent (s : State) (n : Lane) (frac : Byte) : Bytes :=
  natLe 8 (s.syncStart n) ++ natLe 4 (s.get (HL_DELAY_DELAY n)) ++ [frac]
    ++ [if s.laneSt n == laneCalibrate && decide ((s.lane n).steps < 8) then 1 else 0] ++ natLe 2 (s.lane n).syncId ++ List.replicate 4 0

/-- A lane that has sent a SYNC. -/
def LaneState.syncSent (l : LaneState) (tt t1 delay : Nat) : LaneState :=
  { l with syncTt := some tt, syncId := (l.syncId + 1) % 65536, steps := l.steps + 1, syncs := l.syncs ++ [⟨l.syncId, t1, delay⟩] }

theorem exec_syncSend_of_due (frac : Byte) {x : Nat} (hlow : laneCalibrate ≤ s.laneSt n) (hhigh : s.laneSt n ≤ laneActive)
    (hx : (s.lane n).syncTt = some x)
    (hdue : x + (if s.laneSt n = laneCalibrate then 10 else s.get (HL_SYNC_CFG_PER n)) * 1250 ≤ s.tt) :
    exec (.syncSend n frac) s = .next ((s.send n 3 0 (syncContent s n frac)).onLane n
      (fun l => l.syncSent s.tt (s.syncStart n * 256 + frac.toNat) (s.get (HL_DELAY_DELAY n)))) := by
  show execSyncSend n frac s = _
  unfold execSyncSend
  simp only [hx]
  exact congrArg _ (if_pos (by simpa [hlow, hhigh, usKclk] using hdue))

/-- The content of an HB (R82). -/
def hbContent (s : State) (n : Lane) : Bytes :=
  natLe 1 (Config.hbState s.draws % 4) ++ [0] ++ natLe 2 (if (s.lane n).capNo = 0 then 0 else ((s.lane n).capNo + 65535) % 65536)

/-- A lane that has sent an HB. -/
def LaneState.hbSent (l : LaneState) (tt : Nat) : LaneState :=
  { l with hbTt := some tt }

theorem exec_hbSend_of_due {x : Nat} (hlow : laneNegotiate ≤ s.laneSt n) (hhigh : s.laneSt n ≤ laneActive)
    (hx : (s.lane n).hbTt = some x) (hdue : x + s.get (HL_HB_CFG_PER n) * 1250 ≤ s.tt) :
    exec (.hbSend n) s = .next ((s.draw.2.send n 2 0 (hbContent s n)).onLane n (fun l => l.hbSent s.tt)) := by
  show execHbSend n s = _
  unfold execHbSend
  simp only [hx]
  exact congrArg _ (if_pos (by simp [hlow, hhigh, usKclk, hdue]))

/-- The content of a CRED (R79, R80). -/
def credContent (s : State) (n : Lane) : Bytes :=
  natLe 4 (s.get (HL_FEAT_CRED_LIMIT n)) ++ natLe 4 (s.get (HL_CROP_CRED_LIMIT n))

/-- A lane whose limits have been sent. -/
def LaneState.credSent (l : LaneState) (feat crop tt : Nat) : LaneState :=
  { l with featSent := feat, cropSent := crop, credTt := tt }

theorem exec_credSend_of_due {f c : Nat} (hlow : laneNegotiate ≤ s.laneSt n) (hhigh : s.laneSt n ≤ laneActive)
    (hpeer : s.isPeer n = false) (hf : f = (s.get (HL_FEAT_CRED_LIMIT n) + 2 ^ 32 - (s.lane n).featSent) % 2 ^ 32)
    (hc : c = (s.get (HL_CROP_CRED_LIMIT n) + 2 ^ 32 - (s.lane n).cropSent) % 2 ^ 32)
    (hdue : 16 ≤ f ∨ 16 ≤ c ∨ (0 < f + c ∧ (s.lane n).credTt + 12500 ≤ s.tt)) :
    exec (.credSend n) s = .next ((s.send n 5 0 (credContent s n)).onLane n
      (fun l => l.credSent (s.get (HL_FEAT_CRED_LIMIT n)) (s.get (HL_CROP_CRED_LIMIT n)) s.tt)) := by
  show execCredSend n s = _
  unfold execCredSend
  simp only [← hf, ← hc]
  refine congrArg _ (if_pos ?_)
  simp only [Bool.and_eq_true, Bool.or_eq_true, Bool.not_eq_true', decide_eq_true_eq, or_assoc]
  exact ⟨⟨⟨hlow, hhigh⟩, hpeer⟩, hdue⟩

end Sys2Proof.Machine
end

section
open Sys2Proof Sys2Proof.Machine

/-- Settles O19: each command that is due hands its message to a transmitter that is on (`sentOne_of_on`). -/
theorem linkMessagesAreSent : Obligations.LinkMessagesAreSent := by
  unfold Obligations.LinkMessagesAreSent
  refine ⟨?ver, ?agreed, ?sync, ?hb, ?cred⟩
  case ver =>
    intro s n hst hhead hon x hx hdue
    have hexec := exec_verSend_of_due hst hx hdue
    obtain ⟨htx, hothers, hregs, hmem⟩ := sentOne_of_on s 1 0 (verContent s n) (fun l => l.verSent s.tt) (fun _ => rfl)
      (Nat.le_of_eq hst.symm) (by rw [hst]; decide) hon
    have hwait : (((s.send n 1 0 (verContent s n)).onLane n (fun l => l.verSent s.tt)).lane n).headVer = none := by
      rw [lane_onLane_same, ← hhead]
      exact lane_send_keeps LaneState.headVer (fun _ _ _ => rfl) _ _ _ _ _
    rw [agree_of_waiting (.inr hwait)] at hexec
    exact ⟨_, hexec, htx, by rw [lane_onLane_same]; rfl, hothers, hregs, hmem⟩
  case agreed =>
    intro s n a b hst hhead hcommon x hx hdue
    have hexec := exec_verSend_of_due hst hx hdue
    have htt : (((s.send n 1 0 (verContent s n)).onLane n (fun l => l.verSent s.tt)).lane n).verTt = some s.tt := by
      rw [lane_onLane_same]
      rfl
    have hver : (((s.send n 1 0 (verContent s n)).onLane n (fun l => l.verSent s.tt)).lane n).headVer = some (a, b) := by
      rw [lane_onLane_same, ← hhead]
      exact lane_send_keeps LaneState.headVer (fun _ _ _ => rfl) _ _ _ _ _
    have hvmax : ((s.send n 1 0 (verContent s n)).onLane n (fun l => l.verSent s.tt)).get (HL_CFG_VMAX n) = s.get (HL_CFG_VMAX n) := by
      rw [get_onLane, get_send]
    rw [← hvmax] at hcommon ⊢
    obtain ⟨hstate, hshown, -, -, -, hsent⟩ := agree_of_common_shows htt hver hcommon
    exact ⟨_, hexec, hstate, hshown, hsent.trans htt, (((LaneOnly.refl n s).send 1 0 _).onLane _).agree.mem⟩
  case sync =>
    intro s n frac hlow hhigh hon x hx hdue
    have hexec := exec_syncSend_of_due frac hlow hhigh hx hdue
    obtain ⟨htx, hothers, hregs, hmem⟩ := sentOne_of_on s 3 0 (syncContent s n frac)
      (fun l => l.syncSent s.tt (s.syncStart n * 256 + frac.toNat) (s.get (HL_DELAY_DELAY n))) (fun _ => rfl)
      (le_trans (by decide) hlow) hhigh hon
    have hid : ((s.send n 3 0 (syncContent s n frac)).lane n).syncId = (s.lane n).syncId :=
      lane_send_keeps LaneState.syncId (fun _ _ _ => rfl) _ _ _ _ _
    have hsyncs : ((s.send n 3 0 (syncContent s n frac)).lane n).syncs = (s.lane n).syncs :=
      lane_send_keeps LaneState.syncs (fun _ _ _ => rfl) _ _ _ _ _
    refine ⟨_, hexec, htx, ?_, ?_, ?_, hothers, hregs, hmem⟩
    all_goals rw [lane_onLane_same, LaneState.syncSent]
    · rw [hid, hsyncs]
    · rw [hid]
  case hb =>
    intro s n hlow hhigh hon x hx hdue
    have hexec := exec_hbSend_of_due hlow hhigh hx hdue
    obtain ⟨htx, hothers, hregs, hmem⟩ := sentOne_of_on s.draw.2 2 0 (hbContent s n) (fun l => l.hbSent s.tt)
      (fun _ => rfl) hlow hhigh hon
    exact ⟨_, hexec, htx, by rw [lane_onLane_same]; rfl, hothers, hregs, hmem⟩
  case cred =>
    intro s n f c hlow hhigh hpeer hon hf hc hdue
    have hexec := exec_credSend_of_due hlow hhigh hpeer hf hc hdue
    obtain ⟨htx, hothers, hregs, hmem⟩ := sentOne_of_on s 5 0 (credContent s n)
      (fun l => l.credSent (s.get (HL_FEAT_CRED_LIMIT n)) (s.get (HL_CROP_CRED_LIMIT n)) s.tt) (fun _ => rfl) hlow hhigh (.inr hon)
    refine ⟨_, hexec, htx, ?_, ?_, ?_, hothers, hregs, hmem⟩
    all_goals rw [lane_onLane_same, LaneState.credSent]

end

section
/-! Lanes that reach READY, and exchanges of synchronisation (R62 to R65, R92, R93). -/

namespace Sys2Proof.Machine

variable {s t : State} {n : Lane} {m : RxMsg}

/-! ### READY (R92) -/

/-- A staged write is kept or refused in `TB_STAT`; what neither touches is as before. -/
theorem stageWrite_keeps {β : Type} (p : State → β) (hstage : ∀ t stage stagings, p { t with stage := stage, stagings := stagings } = p t)
    (hrej : ∀ t, p (t.putFlag TB_STAT_CFG_REJ true) = p t) (s : State) (m : Master) (off : Nat) (v : Word) :
    p (s.stageWrite m off v).1 = p s := by
  unfold State.stageWrite
  split
  · exact hstage s _ _
  · split
    · exact hrej s
    · exact hstage s _ _

/-- Beside the entry, READY does no more than stage the admission. -/
theorem readyLane_keeps {β : Type} (p : State → β) (hstage : ∀ t stage stagings, p { t with stage := stage, stagings := stagings } = p t)
    (hrej : ∀ t, p (t.putFlag TB_STAT_CFG_REJ true) = p t) (s : State) (n : Lane) :
    p (s.readyLane n) = p (s.setLane n laneReady) := by
  unfold State.readyLane
  dsimp only
  split
  · exact stageWrite_keeps p hstage hrej _ _ _ _
  · rfl

/-- The words of the lanes lie above `TB_STAT`. -/
theorem get_readyLane (s : State) (n : Lane) {f : Fld} (h : f.off ≠ TB_STAT) : (s.readyLane n).get f = (s.setLane n laneReady).get f :=
  readyLane_keeps (fun t => t.get f) (fun _ _ _ => rfl) (fun _ => get_put_otherWord _ h) s n

theorem stat_ne_tbStat (n : Nat) : HL_STAT n ≠ TB_STAT := by
  unfold HL_STAT TB_STAT
  omega

theorem laneSt_readyLane (s : State) (n : Lane) : (s.readyLane n).laneSt n = laneReady :=
  (get_readyLane s n (stat_ne_tbStat n)).trans (laneSt_setLane s n (by decide))

/-- A flag of the status word beside the state stays. -/
theorem flag_readyLane {f : Fld} (hoff : f.off = HL_STAT n) (hf : (HL_STAT_STATE n).spares f = true) :
    (s.readyLane n).flag f = s.flag f := by
  have hisr : HL_ISR n ≠ HL_STAT n := by
    unfold HL_ISR HL_STAT
    omega
  refine flag_eq_of_get_eq ((get_readyLane s n (hoff ▸ stat_ne_tbStat n)).trans ?_)
  exact get_setLane_other (by decide) (hoff ▸ lane_off_lt n (laneBlock rfl _)) hf (spares_of_word rfl (hoff ▸ hisr))

@[simp] theorem readyLane_mem (s : State) (n : Lane) : (s.readyLane n).mem = s.mem :=
  (readyLane_keeps State.mem (fun _ _ _ => rfl) (fun t => putFlag_mem t _ _) s n).trans ((LaneOnly.refl n s).setLane _).mem

/-! ### Exchanges (R65) -/

/-- A lane that counts an exchange: `good` within half the limit, `excess` over the limit or missing. -/
def LaneState.exchanged (l : LaneState) (good excess : Bool) : LaneState :=
  { l with exch := l.exch + 1, goodRun := if good then l.goodRun + 1 else 0, overRun := if excess then l.overRun + 1 else 0 }

/-- A head that can be lost is ACTIVE or READY. -/
theorem losable_up (h : s.losable n = true) : s.laneSt n ≠ laneDown := by
  intro hd
  simp [State.losable, hd, laneDown, laneActive, laneReady] at h

theorem losable_of_active (h : s.laneSt n = laneActive) : s.losable n = true := by
  rw [State.losable, h]
  rfl

/-- An exchange only counts where it neither reaches nor loses synchronisation. -/
theorem exchange_none_of_synced (hlose : s.losable n = false) (hsync : s.flag (HL_STAT_SYNCED n) = true) :
    s.exchange n none = s.onLane n (fun l => l.exchanged false true) :=
  (if_neg (by rw [hsync]; exact Bool.false_ne_true)).trans (if_neg fun h => by rw [hlose] at h; exact absurd h.1 Bool.false_ne_true)

/-- The sixteenth good exchange in a row reaches synchronisation. -/
theorem exchange_of_reached {x : Int} (hsync : s.flag (HL_STAT_SYNCED n) = false) (hrun : 15 ≤ (s.lane n).goodRun)
    (hx : 2 * x.natAbs ≤ s.get (HL_SYNC_CFG_LIMIT n)) : ∃ excess, s.exchange n (some x) =
      (s.onLane n (fun l => l.exchanged true excess)).synced n := by
  have hgood : decide (2 * x.natAbs ≤ s.get (HL_SYNC_CFG_LIMIT n)) = true := decide_eq_true hx
  have hlane := lane_onLane_same s n (fun l => l.exchanged true (decide (s.get (HL_SYNC_CFG_LIMIT n) < x.natAbs)))
  have hreached : 16 ≤ ((s.onLane n (fun l => l.exchanged true (decide (s.get (HL_SYNC_CFG_LIMIT n) < x.natAbs)))).lane n).goodRun := by
    rw [hlane]
    exact Nat.succ_le_succ hrun
  refine ⟨decide (s.get (HL_SYNC_CFG_LIMIT n) < x.natAbs), ?_⟩
  unfold State.exchange
  dsimp only
  rw [hgood, hsync]
  exact if_pos (decide_eq_true hreached)

/-- The fourth exchange in a row that is missing loses the head. -/
theorem exchange_none_of_lost (hlose : s.losable n = true) (hsync : s.flag (HL_STAT_SYNCED n) = true) (hrun : 3 ≤ (s.lane n).overRun) :
    s.exchange n none = ((((s.onLane n (fun l => l.exchanged false true)).putFlag (HL_STAT_SYNCED n) false).putFlag
      (HL_ISR_SYNC_LOSS n) true).raise F_HL_SYNC_LOSS n).headLost n := by
  have hover : 4 ≤ ((s.onLane n (fun l => l.exchanged false true)).lane n).overRun := by
    rw [lane_onLane_same]
    exact Nat.succ_le_succ hrun
  exact (if_neg (by rw [hsync]; exact Bool.false_ne_true)).trans (if_pos ⟨hlose, hover⟩)

/-- Without identification, synchronisation in CALIBRATE makes the lane READY. -/
theorem synced_of_ready (hst : s.laneSt n = laneCalibrate) (hid : s.flag (HL_CFG_IDREQ n) = false) :
    s.synced n = (s.putFlag (HL_STAT_SYNCED n) true).readyLane n :=
  (if_neg (not_not.2 hst)).trans (if_neg (by rw [hid]; exact Bool.false_ne_true))

end Sys2Proof.Machine
end

section
/-! Received messages, and messages that do not come (R62, R63, R82 to R84). -/

namespace Sys2Proof.Machine

variable {s : State} {n : Lane} {m : RxMsg}

theorem lane_rxPop (s : State) (n : Lane) : (s.rxPop n).lane n = { s.lane n with rx := (s.lane n).rx.drop 1 } :=
  lane_onLane_same s n _

theorem exec_hbReceive_of_front (hm : s.rxFront n 2 = some m) : exec (.hbReceive n) s =
    .next (s.onLane n (fun l => { l with rx := l.rx.drop 1, hbRx := s.tt, headCap := field m.bytes 10 2 })) := by
  show execHbReceive n s = _
  unfold execHbReceive
  rw [hm]
  exact congrArg _ (onLane_onLane _ _ _ _)

/-- What a STAT shows. -/
def statShown (s : State) (n : Lane) (b : Bytes) : State :=
  ((((s.rxPop n).put (HL_HSTAT_STATE n) (field b 8 2)).put (HL_HSTAT_TEMP n) (field b 10 2)).put (HL_HCOV_LO n) (field b 24 2)).put
    (HL_HCOV_HI n) (field b 26 2)

theorem exec_statReceive_of_front (hm : s.rxFront n 0x12 = some m) : exec (.statReceive n) s =
    .next (if s.get (HL_HSTAT_STATE n) = field m.bytes 8 2 then statShown s n m.bytes
      else (statShown s n m.bytes).putFlag (HL_ISR_STAT_CHG n) true) := by
  show execStatReceive n s = _
  unfold execStatReceive
  rw [hm]
  rfl

theorem statShown_shows (s : State) (n : Lane) (b : Bytes) : (statShown s n b).get (HL_HSTAT_STATE n) = field b 8 2 ∧
    (statShown s n b).get (HL_HSTAT_TEMP n) = field b 10 2 ∧ (statShown s n b).get (HL_HCOV_LO n) = field b 24 2 ∧
    (statShown s n b).get (HL_HCOV_HI n) = field b 26 2 := by
  have hfit (i : Nat) : field b i 2 % 2 ^ 16 = field b i 2 := Nat.mod_eq_of_lt (field_lt b i 2)
  unfold statShown
  refine ⟨?_, ?_, ?_, ?_⟩
  · rw [get_put_spared, get_put_spared, get_put_spared, get_put_same _ _ _ rfl]
    · exact hfit 8
    all_goals exact spares_of_lane rfl
  · rw [get_put_spared, get_put_spared, get_put_same _ _ _ rfl]
    · exact hfit 10
    all_goals exact spares_of_lane rfl
  · rw [get_put_spared, get_put_same _ _ _ rfl]
    · exact hfit 24
    · exact spares_of_lane rfl
  · rw [get_put_same _ _ _ rfl]
    exact hfit 26

/-- What the response of an open exchange leaves before the exchange is judged. -/
def syncShown (s : State) (n : Lane) (id : Nat) (delay rtt resid : Int) : State :=
  ((((s.rxPop n).put (HL_DELAY_DELAY n) (unsignedOf 32 delay)).put (HL_RTT_RTT n) (unsignedOf 32 rtt)).put (HL_RESID_RESID n)
    (unsignedOf 32 resid)).onLane n (fun l => { l with syncs := l.syncs.filter (fun x => x.id != id), peerOfs := resid })

/-- The round trip of an exchange in 1/256 KCLK, T4 − T1 − HOLD (R64). -/
def syncRtt (m : RxMsg) (e : SyncSent) (frac : Byte) : Int :=
  ((m.tt * 256 + frac.toNat : Nat) : Int) - e.t1 - field m.bytes 20 4

/-- The residual of an exchange, T2 − (T1 + DELAY) (R64). -/
def syncResid (m : RxMsg) (e : SyncSent) : Int :=
  ((field m.bytes 8 8 * 256 + field m.bytes 16 1 : Nat) : Int) - (e.t1 + e.delay : Nat)

/-- The delay after an exchange: a step of the average towards half the round trip (R64). -/
def syncDelay (s : State) (n : Lane) (m : RxMsg) (e : SyncSent) (frac : Byte) : Int :=
  (s.get (HL_DELAY_DELAY n) : Int) + divNearest
    (divNearest (syncRtt m e frac + signedOf 32 (s.get (HL_FIBRE_ASYM_ASYM n))) 2 - s.get (HL_DELAY_DELAY n))
    (2 ^ (if (s.lane n).exch < 8 then 0 else s.get (HL_SYNC_CFG_AVG n)))

theorem exec_syncResponseReceive_of_open {frac : Byte} {e : SyncSent} (hm : s.rxFront n 3 = some m)
    (he : (s.lane n).syncs.find? (fun x => x.id = field m.bytes 18 2) = some e) : exec (.syncResponseReceive n frac) s =
      .next ((syncShown s n (field m.bytes 18 2) (syncDelay s n m e frac) (syncRtt m e frac) (syncResid m e)).exchange n
        (some (syncResid m e))) := by
  show execSyncResponseReceive n frac s = _
  unfold execSyncResponseReceive
  rw [hm]
  dsimp only
  rw [he]
  rfl

theorem syncShown_shows (s : State) (n : Lane) (id : Nat) (delay rtt resid : Int) :
    (syncShown s n id delay rtt resid).get (HL_RTT_RTT n) = unsignedOf 32 rtt ∧
    (syncShown s n id delay rtt resid).get (HL_RESID_RESID n) = unsignedOf 32 resid ∧
    (syncShown s n id delay rtt resid).laneSt n = s.laneSt n := by
  have hfit (v : Int) : unsignedOf 32 v % 2 ^ 32 = unsignedOf 32 v := Nat.mod_eq_of_lt (unsignedOf_lt 32 v)
  unfold syncShown State.laneSt
  refine ⟨?_, ?_, ?_⟩
  · rw [get_onLane, get_put_spared, get_put_same _ _ _ rfl]
    · exact hfit rtt
    · exact spares_of_lane rfl
  · rw [get_onLane, get_put_same _ _ _ rfl]
    exact hfit resid
  · rw [get_onLane, get_put_spared, get_put_spared, get_put_spared, State.rxPop, get_onLane]
    all_goals exact spares_of_lane rfl

theorem lane_syncShown (s : State) (n : Lane) (id : Nat) (delay rtt resid : Int) : (syncShown s n id delay rtt resid).lane n =
    { s.lane n with rx := (s.lane n).rx.drop 1, syncs := (s.lane n).syncs.filter (fun x => x.id != id), peerOfs := resid } := by
  rw [syncShown, lane_onLane_same, lane_put, lane_put, lane_put, lane_rxPop]

theorem syncShown_mem (s : State) (n : Lane) (id : Nat) (delay rtt resid : Int) : (syncShown s n id delay rtt resid).mem = s.mem := by
  rw [syncShown, onLane_mem, put_mem, put_mem, put_mem, State.rxPop, onLane_mem]

theorem exec_syncResponseMissing_of_due {e : SyncSent} {r : List SyncSent} (hs : (s.lane n).syncs = e :: r)
    (hdue : e.t1 + 6400000 ≤ s.tt * 256) :
    exec (.syncResponseMissing n) s = .next ((s.onLane n (fun l => { l with syncs := r })).exchange n none) := by
  show execSyncResponseMissing n s = _
  unfold execSyncResponseMissing
  rw [hs]
  exact congrArg _ (if_pos hdue)

theorem exec_hbTimeout_of_due (hst : s.losable n = true)
    (hdue : (s.lane n).hbRx + s.get (HL_HB_CFG_TO_N n) * s.hbJudged n * 1250 ≤ s.tt) : exec (.hbTimeout n) s = .next (s.headLost n) :=
  congrArg Host.Outcome.next (if_pos (by rw [hst]; exact decide_eq_true hdue))

theorem exec_hbTimeout_of_unused (h : s.losable n = false) : exec (.hbTimeout n) s = .next s :=
  congrArg Host.Outcome.next (if_neg (by rw [h]; exact Bool.false_ne_true))

end Sys2Proof.Machine
end

section
open Sys2Proof Sys2Proof.Machine

/-- Settles O20: each message by what it shows, each exchange by whether it reaches or loses synchronisation. -/
theorem linkMessagesAreTaken : Obligations.LinkMessagesAreTaken := by
  unfold Obligations.LinkMessagesAreTaken
  refine ⟨fun s n m hm => exec_hbReceive_of_front hm, ?stat, ?response, fun s n e r hs hdue => exec_syncResponseMissing_of_due hs hdue,
    ?counted, ?reached, ?lost, ?silent, fun s n h => exec_hbTimeout_of_unused h⟩
  case stat =>
    intro s n m hm
    obtain ⟨hstate, htemp, hlo, hhi⟩ := statShown_shows s n m.bytes
    have hrx : ((statShown s n m.bytes).lane n).rx = (s.lane n).rx.drop 1 := by
      rw [statShown, lane_put, lane_put, lane_put, lane_put, lane_rxPop]
    have hmem : (statShown s n m.bytes).mem = s.mem := by
      rw [statShown, put_mem, put_mem, put_mem, put_mem, State.rxPop, onLane_mem]
    refine ⟨_, exec_statReceive_of_front hm, ?_⟩
    split
    · exact ⟨hrx, hstate, htemp, hlo, hhi, fun hne => absurd ‹_› hne, hmem⟩
    · have hput {f : Fld} (hf : (HL_ISR_STAT_CHG n).spares f = true) :
          ((statShown s n m.bytes).putFlag (HL_ISR_STAT_CHG n) true).get f = (statShown s n m.bytes).get f :=
        get_putFlag_spared hf _ _
      rw [lane_putFlag, putFlag_mem]
      exact ⟨hrx, (hput (spares_of_lane rfl)).trans hstate, (hput (spares_of_lane rfl)).trans htemp,
        (hput (spares_of_lane rfl)).trans hlo, (hput (spares_of_lane rfl)).trans hhi,
        fun _ => flag_putFlag_same _ _ _ rfl Nat.one_pos, hmem⟩
  case response =>
    intro s n frac m e hm he
    obtain ⟨hrtt, hresid, hstate⟩ := syncShown_shows s n (field m.bytes 18 2) (syncDelay s n m e frac) (syncRtt m e frac) (syncResid m e)
    refine ⟨_, exec_syncResponseReceive_of_open hm he, hrtt, hresid, ?_⟩
    rw [lane_syncShown]
    exact ⟨rfl, rfl, rfl, hstate, syncShown_mem s n _ _ _ _⟩
  case counted =>
    intro s n hlose hsync
    rw [exchange_none_of_synced hlose hsync, lane_onLane_same]
    exact ⟨rfl, rfl, rfl, rfl, rfl⟩
  case reached =>
    intro s n x hst hsync hrun hx hid
    obtain ⟨excess, h⟩ := exchange_of_reached hsync hrun hx
    rw [h, synced_of_ready ((laneSt_onLane _ _ _ _).trans hst) ((flag_onLane _ _ _ _).trans hid)]
    exact ⟨(flag_readyLane rfl (spares_of_lane rfl)).trans (flag_putFlag_same _ _ _ rfl Nat.one_pos), laneSt_readyLane _ n,
      by rw [readyLane_mem, putFlag_mem, onLane_mem]⟩
  case lost =>
    intro s n hlose hsync hrun
    rw [exchange_none_of_lost hlose hsync hrun]
    have hup : ((((s.onLane n (fun l => l.exchanged false true)).putFlag (HL_STAT_SYNCED n) false).putFlag (HL_ISR_SYNC_LOSS n) true).raise
        F_HL_SYNC_LOSS n).laneSt n ≠ laneDown := by
      rw [State.laneSt, get_raise, get_putFlag_spared, get_putFlag_spared, get_onLane]
      · exact losable_up hlose
      all_goals exact spares_of_lane rfl
    obtain ⟨hstate, hunsynced, hlost, -⟩ := headLost_of_up_shows hup
    have hshown := syncLoss_headLost hup ((flag_raise _ _ _ _).trans (flag_putFlag_same _ _ _ rfl Nat.one_pos))
    exact ⟨hunsynced, hshown, hlost, hstate,
      (((((LaneOnly.refl n s).onLane _).putFlag _ _).putFlag _ _).raise F_HL_SYNC_LOSS n).headLost.mem⟩
  case silent =>
    intro s n hst hdue
    have hup : s.laneSt n ≠ laneDown := by rw [hst]; decide
    obtain ⟨hstate, -, hlost, hcnt, hfn, hfcu⟩ := headLost_of_up_shows hup
    exact ⟨_, exec_hbTimeout_of_due (losable_of_active hst) hdue, hcnt, hlost, hstate, hfn, hfcu, (LaneOnly.refl n s).headLost.mem⟩

end

section
/-! Identification of heads by challenge (R90, R420). -/

namespace Sys2Proof.Machine

variable {s t u : State} {n : Lane} {m : RxMsg} {c : Challenge}

/-! ### What the engines' queue leaves -/

theorem served_lane {r : SagReq} (h : s.served r = some u) (n : Lane) : u.lane n = s.lane n := by rw [(served_eq h).2]; rfl
theorem served_tt {r : SagReq} (h : s.served r = some u) : u.tt = s.tt := by rw [(served_eq h).2]; rfl
theorem served_rd {r : SagReq} (h : s.served r = some u) (o : Nat) : u.rd o = s.rd o := by rw [(served_eq h).2]; rfl
theorem served_headCheck {r : SagReq} (h : s.served r = some u) : u.sag.headCheck = s.sag.headCheck := by rw [(served_eq h).2]; rfl

/-! ### A challenge that fails -/

theorem LaneOnly.idFail (h : LaneOnly n s t) : LaneOnly n s (t.idFail n) :=
  (((h.onLane _).putFlag _ _).raise _ _).setLane _

/-- A challenge that failed is over, shows and is raised, and the lane has failed. -/
theorem idFail_shows (s : State) (n : Lane) : (s.idFail n).laneSt n = laneFailed ∧ (s.idFail n).flag (HL_ISR_ID_FAIL n) = true ∧
    ((s.idFail n).lane n).chal = none ∧ (s.idFail n).fcuIn = s.fcuIn ++ [⟨F_HL_ID_FAIL, n, false, 0, s.tt⟩] := by
  refine ⟨laneSt_setLane _ n (by decide), ?_, ?_, ?_⟩
  · rw [State.idFail, flag_setLane_other (by decide) (lane_off_lt n (laneBlock rfl _)), flag_raise, flag_putFlag_same _ _ _ rfl Nat.one_pos]
    all_goals exact spares_of_lane rfl
  · exact chal_setLane (by decide) (by rw [lane_raise, lane_putFlag, lane_onLane_same])
  · rw [State.idFail, setLane_fcuIn, fcuIn_raise_lane, putFlag_fcuIn, onLane_fcuIn, putFlag_tt, onLane_tt]

/-! ### The response and its check -/

theorem exec_challengeResponseReceive_of_open (hm : s.rxFront n 6 = some m) (hlen : m.bytes.length = 7248) (hc : (s.lane n).chal = some c)
    (hid : c.id = field m.bytes 8 2) (hresp : c.resp = none) : exec (.challengeResponseReceive n) s =
      .next ((s.onLane n (fun l => { l with rx := l.rx.drop 1, chal := some { c with resp := some m } })).syncEngine) := by
  have hkept : (if c.id = field m.bytes 8 2 ∧ c.resp.isNone then { c with resp := some m } else c) = { c with resp := some m } :=
    if_pos ⟨hid, by rw [hresp]; rfl⟩
  show execChallengeResponseReceive n s = _
  unfold execChallengeResponseReceive
  rw [hm]
  refine congrArg _ ((if_neg (not_not.2 hlen)).trans (congrArg State.syncEngine ?_))
  rw [State.rxPop, onLane_onLane]
  refine onLane_congr ?_
  dsimp only
  rw [hc, Option.map_some, hkept]

/-- The allow list as a check reads it. -/
def idList (u : State) : State × Bytes × BusResult :=
  u.busRead 13 (u.rd64 HL_IDLIST_BASE) (64 * u.get HL_IDLIST_N_N)

/-- The key of a response. -/
def idKey (m : RxMsg) : Bytes :=
  (m.bytes.drop 16).take 2592

/-- Whether a check passes: the key is listed, its reading met no error, the signature verifies, and it is in time. -/
def idPasses (u : State) (n : Lane) (c : Challenge) (m : RxMsg) : Bool :=
  (List.range (u.get HL_IDLIST_N_N)).any (fun i => ((idList u).2.1.drop (64 * i)).take 64 == sha512 (idKey m)) && (idList u).2.2.ok
    && Config.mldsaVerify (idKey m) (sha512 (c.req ++ natLe 1 n ++ u.serial n)) ((m.bytes.drop 2608).take 4627)
    && decide (u.tt ≤ max m.tt u.sag.headCheck + 2 * msKclk)

theorem idPasses_iff (u : State) (n : Lane) (c : Challenge) (m : RxMsg) : idPasses u n c m = true ↔
    (∃ i, i < u.get HL_IDLIST_N_N ∧ ((idList u).2.1.drop (64 * i)).take 64 = sha512 (idKey m)) ∧ (idList u).2.2.ok = true ∧
      Config.mldsaVerify (idKey m) (sha512 (c.req ++ natLe 1 n.val ++ u.serial n)) ((m.bytes.drop 2608).take 4627) = true ∧
      u.tt ≤ max m.tt u.sag.headCheck + 2500000 := by
  simp only [idPasses, Bool.and_eq_true, List.any_eq_true, List.mem_range, beq_iff_eq, decide_eq_true_eq, and_assoc]
  rfl

/-- What every check leaves: the reads of the list, and its time. -/
def idChecked (u : State) : State :=
  (idList u).1.onSag (fun x => { x with headCheck := u.tt })

theorem exec_challengeCheckDone_of_served (hu : s.served (.head n) = some u) (hc : (s.lane n).chal = some c) (hm : c.resp = some m)
    (hst : s.laneSt n = laneIdentify) : exec (.challengeCheckDone n) s =
      .next (if idPasses u n c m = true then (((idChecked u).onLane n (fun l => { l with chal := none })).putFlag (HL_STAT_ID_OK n)
        true).readyLane n else (idChecked u).idFail n) := by
  have hopen : (u.lane n).chal.bind (fun c => c.resp.map (fun m => (c, m))) = some (c, m) := by
    rw [served_lane hu, hc, Option.bind_some, hm, Option.map_some]
  have hstate : u.laneSt n = laneIdentify := (get_eq_of_rd_eq (served_rd hu _)).trans hst
  show execChallengeCheckDone n s = _
  unfold execChallengeCheckDone
  rw [hu]
  dsimp only
  rw [hopen]
  exact congrArg _ (if_neg (not_not.2 hstate))

theorem exec_challengeCheckDone_of_unserved (h : s.served (.head n) = none) : exec (.challengeCheckDone n) s = .next s := by
  show execChallengeCheckDone n s = _
  unfold execChallengeCheckDone
  rw [h]

/-- A head that is identified shows so and is READY, and its challenge is over. -/
theorem identified_shows (s : State) (n : Lane) :
    (((s.onLane n (fun l => { l with chal := none })).putFlag (HL_STAT_ID_OK n) true).readyLane n).laneSt n = laneReady ∧
    (((s.onLane n (fun l => { l with chal := none })).putFlag (HL_STAT_ID_OK n) true).readyLane n).flag (HL_STAT_ID_OK n) = true ∧
    ((((s.onLane n (fun l => { l with chal := none })).putFlag (HL_STAT_ID_OK n) true).readyLane n).lane n).chal = none ∧
    (((s.onLane n (fun l => { l with chal := none })).putFlag (HL_STAT_ID_OK n) true).readyLane n).sag = s.sag := by
  refine ⟨laneSt_readyLane _ n, ?_, ?_, ?_⟩
  · exact (flag_readyLane rfl (spares_of_lane rfl)).trans (flag_putFlag_same _ _ _ rfl Nat.one_pos)
  · rw [readyLane_keeps (fun t => (t.lane n).chal) (fun _ _ _ => rfl) (fun t => congrArg _ (lane_putFlag t _ _ _))]
    exact chal_setLane (by decide) (by rw [lane_putFlag, lane_onLane_same])
  · rw [readyLane_keeps State.sag (fun _ _ _ => rfl) (fun t => putFlag_sag t _ _), ((LaneOnly.refl n _).setLane laneReady).sag,
      putFlag_sag, onLane_sag]

theorem exec_ctrlResponseTimeout_of_due (hbox : (s.lane n).mailbox = none) (hc : (s.lane n).chal = some c) (hresp : c.resp = none)
    (hdue : c.sent + 125000 ≤ s.tt) : exec (.ctrlResponseTimeout n) s =
      .next ((s.onLane n (fun l => { l with own := l.own.filter (fun e => !decide (e.2 + 100 * usKclk ≤ s.tt)) })).idFail n) := by
  show execCtrlResponseTimeout n s = _
  unfold execCtrlResponseTimeout
  simp only [hbox, hc]
  exact congrArg _ (if_pos (by rw [hresp]; exact Bool.and_eq_true_iff.2 ⟨decide_eq_true hdue, rfl⟩))

end Sys2Proof.Machine
end

section
open Sys2Proof Sys2Proof.Machine

/-- Settles O23: the check passes or fails by `idPasses`, and a challenge that fails ends as `idFail_shows` says. -/
theorem headsAreIdentified : Obligations.HeadsAreIdentified := by
  unfold Obligations.HeadsAreIdentified
  refine ⟨fun s n m c hm hlen hc hid hresp => exec_challengeResponseReceive_of_open hm hlen hc hid hresp, ?checked,
    fun s n h => exec_challengeCheckDone_of_unserved h, ?silent⟩
  case checked =>
    intro s u n m c hu hc hm hst
    have hn : u.get HL_IDLIST_N_N = s.get HL_IDLIST_N_N := get_eq_of_rd_eq (served_rd hu _)
    have hbase : u.rd64 HL_IDLIST_BASE = s.rd64 HL_IDLIST_BASE := rd64_eq_of_rd_eq (served_rd hu _) (served_rd hu _)
    have hserial : u.serial n = s.serial n := by simp only [State.serial, served_rd hu]
    have hpass := idPasses_iff u n c m
    rw [idList, hn, hbase, hserial, served_tt hu, served_headCheck hu] at hpass
    refine ⟨_, exec_challengeCheckDone_of_served hu hc hm hst, ?_⟩
    by_cases h : idPasses u n c m = true
    · obtain ⟨hready, hok, hchal, hsag⟩ := identified_shows (idChecked u) n
      rw [if_pos h]
      refine ⟨hchal, (congrArg Sagger.headCheck hsag).trans (served_tt hu), ?_⟩
      exact (if_pos (hpass.1 h)).symm ▸ ⟨hready, hok⟩
    · obtain ⟨hfailed, hshown, hchal, -⟩ := idFail_shows (idChecked u) n
      rw [if_neg h]
      refine ⟨hchal, (congrArg Sagger.headCheck (LaneOnly.refl n _).idFail.sag).trans (served_tt hu), ?_⟩
      exact (if_neg (mt hpass.2 h)).symm ▸ ⟨hfailed, hshown⟩
  case silent =>
    intro s n c hc hresp hdue hbox
    obtain ⟨hfailed, hshown, hchal, hfcu⟩ := idFail_shows
      (s.onLane n (fun l => { l with own := l.own.filter (fun e => !decide (e.2 + 100 * usKclk ≤ s.tt)) })) n
    have hone := ((LaneOnly.refl n s).onLane (fun l => { l with own := l.own.filter (fun e => !decide (e.2 + 100 * usKclk ≤ s.tt)) })).idFail
    exact ⟨_, exec_ctrlResponseTimeout_of_due hbox hc hresp hdue, hfailed, hshown, hchal, hfcu, hone.lanes, hone.mem⟩

end

section
/-! What a write burst on the fabric leaves alone (R299 to R309, R316, R319). -/

namespace Sys2Proof.Machine

variable {P : State → Prop} (hP : Blind P) {s : State}
include hP

namespace Blind

theorem raiseUnc (h : P s) (m a : Nat) : P (s.raiseUnc m a) :=
  holds_ite (hP.raise h _ _) (holds_ite (hP.raise h _ _) h)

/-- A denial of any master but the debug port is recorded in registers and raised. -/
theorem recordDenial {m : Nat} (hm : m ≠ 14) (h : P s) (a : Nat) (w l : Bool) (beats : Nat) : P (s.recordDenial m a w l beats) := by
  unfold State.recordDenial
  dsimp only
  rw [if_neg (fun x => hm x.1)]
  exact hP.raise (hP.wr (hP.wr64 (hP.bump h _) _ _) _ _) _ _

theorem busWriteFrom {m : Nat} (hm : m ≠ 14) (h : P s) (fuel a done : Nat) (b : Bytes) : P (s.busWriteFrom fuel m a done b).1 := by
  induction fuel generalizing s a done b with
  | zero => exact h
  | succ fuel ih =>
    cases b with
    | nil => exact h
    | cons x r =>
      have hstored := hP.latWrite h (((x :: r).take (32 - a % 32)).length + 1) a ((x :: r).take (32 - a % 32))
      unfold State.busWriteFrom State.store
      dsimp only
      split
      · exact hP.recordDenial hm h _ _ _ _
      · split
        · split
          · exact ih hstored _ _ _
          · exact hP.raiseUnc hstored _ _
        · exact hP.recordDenial hm h _ _ _ _
        · exact h

theorem busWrite {m : Nat} (hm : m ≠ 14) (h : P s) (a : Nat) (b : Bytes) : P (s.busWrite m a b).1 :=
  hP.busWriteFrom hm h _ _ _ _

end Blind

end Sys2Proof.Machine
end

section
/-! Crops (R59, R77, R78, R80, R81). -/

namespace Sys2Proof.Machine

variable {s : State} {n : Lane} {m : RxMsg}

/-! ### The state byte of a slot -/

/-- What the lanes hold, and the time, with the projections folded: the kernel then compares the burst as it stands and does
not compute it. -/
def LanesAt (v : Vector LaneState 48) (tt : Nat) (s : State) : Prop :=
  s.lanes = v ∧ s.tt = tt

theorem blind_lanesAt (v : Vector LaneState 48) (tt : Nat) : Blind (LanesAt v tt) :=
  fun _ _ _ _ _ _ _ _ _ _ _ h => h

/-- A slot's state byte lies in memory: the lanes hold what they held, at the same time. -/
theorem setCropState_lanesAt (s : State) (n : Lane) (slot st : Nat) : LanesAt s.lanes s.tt (s.setCropState n slot st) := by
  generalize e : State.setCropState = f
  unfold State.setCropState at e
  subst e
  exact (blind_lanesAt s.lanes s.tt).busWrite (by decide) ⟨rfl, rfl⟩ _ _

/-! ### A crop that is dropped -/

theorem cropDropped_shows (s : State) (n : Lane) : (s.cropDropped n).flag (HL_ISR_CROP_DROP n) = true ∧
    (s.cropDropped n).get (HL_CROP_DROP_CNT n) = min (s.get (HL_CROP_DROP_CNT n) + 1) (2 ^ (HL_CROP_DROP_CNT n).width - 1) ∧
    (s.cropDropped n).fcuIn = s.fcuIn ++ [⟨F_HL_CROP_DROP, n, false, 0, s.tt⟩] := by
  unfold State.cropDropped
  refine ⟨?_, ?_, ?_⟩
  · rw [flag_raise, flag_putFlag_same _ _ _ rfl Nat.one_pos]
  · rw [get_raise, get_putFlag_spared, get_bump_same _ _ rfl]
    exact spares_of_lane rfl
  · rw [fcuIn_raise_lane, putFlag_fcuIn, bump_fcuIn, putFlag_tt, bump_tt]

/-- What CROP_TIMEOUT leaves of a crop whose time is over. -/
def cropExpired (s : State) (n : Lane) (slot : Nat) : State :=
  ((s.setCropState n slot 3).onLane n (fun l => { l with fills := l.fills.filter (fun f => f.slot != slot) })).cropDropped n

theorem exec_cropTimeout_of_due {k : Nat} {f : CropFill} (hf : (s.lane n).fills.find? (fun f => f.slot = k) = some f)
    (hdue : f.since + 1250000 ≤ s.tt) : exec (.cropTimeout n k) s = .next (cropExpired s n k) := by
  show execCropTimeout n k s = _
  unfold execCropTimeout
  rw [hf]
  exact congrArg _ (if_pos hdue)

theorem exec_cropTimeout_of_none {k : Nat} (hf : (s.lane n).fills.find? (fun f => f.slot = k) = none) :
    exec (.cropTimeout n k) s = .next s := by
  show execCropTimeout n k s = _
  unfold execCropTimeout
  rw [hf]

theorem fills_cropExpired (s : State) (n : Lane) (slot : Nat) :
    ((cropExpired s n slot).lane n).fills = (s.lane n).fills.filter (fun f => f.slot != slot) := by
  have hlane : (s.setCropState n slot 3).lane n = s.lane n := congrArg (fun v => v.get n) (setCropState_lanesAt s n slot 3).1
  rw [cropExpired, State.cropDropped, lane_raise, lane_putFlag, lane_bump, lane_onLane_same, hlane]

theorem cropExpired_mem (s : State) (n : Lane) (slot : Nat) : (cropExpired s n slot).mem = (s.setCropState n slot 3).mem := by
  rw [cropExpired, State.cropDropped, raise_mem, putFlag_mem, bump_mem, onLane_mem]

/-! ### A CROP -/

theorem exec_cropReceive_of_bad (hm : s.rxFront n 0x11 = some m) (hlen : m.bytes.length ≠ (40 + field m.bytes 24 2 + 7) / 8 * 8) :
    exec (.cropReceive n) s = .next ((s.rxPop n).bump (HL_CRC_ERR_CNT n)) := by
  show execCropReceive n s = _
  unfold execCropReceive
  rw [hm]
  exact congrArg _ (if_pos hlen)

section
variable (hm : s.rxFront n 0x11 = some m) (hlen : m.bytes.length = (40 + field m.bytes 24 2 + 7) / 8 * 8)
include hm hlen

theorem exec_cropReceive_of_beyond
    (hcredit : creditOk (s.lane n).cropUsed (divUp m.bytes.length 64) (s.get (HL_CROP_CRED_LIMIT n)) = false) :
    exec (.cropReceive n) s = .next (((s.rxPop n).checkSeq n 0x11 m.bytes).creditViolation n) := by
  show execCropReceive n s = _
  unfold execCropReceive
  rw [hm]
  exact congrArg _ ((if_neg (not_not.2 hlen)).trans (if_pos (by rw [hcredit]; rfl)))

/-- A CROP within its credit, its credits used: written where it may be, and the credits returned. -/
theorem exec_cropReceive_of_within {u : State}
    (hcredit : creditOk (s.lane n).cropUsed (divUp m.bytes.length 64) (s.get (HL_CROP_CRED_LIMIT n)) = true)
    (hu : u = ((s.rxPop n).checkSeq n 0x11 m.bytes).onLane n
      (fun l => { l with cropUsed := (l.cropUsed + divUp m.bytes.length 64) % 2 ^ 32 })) :
    exec (.cropReceive n) s = .next (State.returnCrop (if s.flag (HL_CFG_CROP_EN n) = true ∧ s.get (HL_CROP_SLOTS_N n) ≠ 0 ∧
      s.cropOk n m.bytes = true then u.takeFragment n m.bytes else u) n (divUp m.bytes.length 64)) := by
  show execCropReceive n s = _
  unfold execCropReceive
  rw [hm]
  refine congrArg _ ((if_neg (not_not.2 hlen)).trans ((if_neg (by rw [hcredit]; exact Bool.false_ne_true)).trans ?_))
  simp only [← hu, Bool.and_eq_true, bne_iff_ne, and_assoc]

end

/-- The check of SEQ counts in a register of its own, and shows a gap; what a lane has used of its credit stays. -/
theorem checkSeq_keeps {β : Type} (p : State → β) (hlane : ∀ t l, p (t.onLane n (fun x => { x with rxSeqs := l })) = p t)
    (hgap : ∀ t, p (((t.bump (HL_SEQ_GAP_CNT_CNT n)).putFlag (HL_ISR_SEQ_GAP n) true).raise F_HL_SEQ_GAP n) = p t)
    (s : State) (typ : Nat) (b : Bytes) : p (s.checkSeq n typ b) = p s := by
  have hone : p (s.onLane n (fun l => { l with rxSeqs := putKey l.rxSeqs typ ((field b 4 2 + 1) % 65536) })) = p s :=
    (congrArg p (onLane_congr rfl)).trans (hlane s (putKey (s.lane n).rxSeqs typ ((field b 4 2 + 1) % 65536)))
  unfold State.checkSeq
  dsimp only
  split
  · split
    · exact hone
    · exact (hgap _).trans hone
  · exact hone

theorem creditViolation_shows (s : State) (n : Lane) : (s.creditViolation n).get (HL_CREDIT_VIOL_CNT n) =
      min (s.get (HL_CREDIT_VIOL_CNT n) + 1) (2 ^ (HL_CREDIT_VIOL_CNT n).width - 1) ∧
    (s.creditViolation n).flag (HL_ISR_CREDIT_VIOL n) = true ∧ (s.creditViolation n).lane n = s.lane n ∧
    (s.creditViolation n).mem = s.mem := by
  unfold State.creditViolation
  refine ⟨?_, ?_, ?_, ?_⟩
  · rw [get_raise, get_putFlag_spared, get_bump_same _ _ rfl]
    exact spares_of_lane rfl
  · rw [flag_raise, flag_putFlag_same _ _ _ rfl Nat.one_pos]
  · rw [lane_raise, lane_putFlag, lane_bump]
  · rw [raise_mem, putFlag_mem, bump_mem]

/-- What the check of SEQ leaves of a message beyond its credit. -/
theorem checkSeq_shows (s : State) (n : Lane) (typ : Nat) (b : Bytes) :
    (s.checkSeq n typ b).get (HL_CREDIT_VIOL_CNT n) = s.get (HL_CREDIT_VIOL_CNT n) ∧
    ((s.checkSeq n typ b).lane n).cropUsed = (s.lane n).cropUsed ∧ ((s.checkSeq n typ b).lane n).rx = (s.lane n).rx ∧
    (s.checkSeq n typ b).mem = s.mem := by
  refine ⟨checkSeq_keeps (fun t => t.get (HL_CREDIT_VIOL_CNT n)) (fun t _ => get_onLane t _ _ _) (fun t => ?_) s typ b,
    checkSeq_keeps (fun t => (t.lane n).cropUsed) (fun t _ => ?_) (fun t => ?_) s typ b,
    checkSeq_keeps (fun t => (t.lane n).rx) (fun t _ => ?_) (fun t => ?_) s typ b,
    checkSeq_keeps State.mem (fun t _ => onLane_mem t _ _) (fun t => ?_) s typ b⟩
  · rw [get_raise, get_putFlag_spared, get_bump_spared]
    all_goals exact spares_of_lane rfl
  · rw [lane_onLane_same]
  · rw [lane_raise, lane_putFlag, lane_bump]
  · rw [lane_onLane_same]
  · rw [lane_raise, lane_putFlag, lane_bump]
  · rw [raise_mem, putFlag_mem, bump_mem]

end Sys2Proof.Machine
end

section
open Sys2Proof Sys2Proof.Machine

/-- Settles O25: a CROP by its length and its credit, a crop whose time is over by what the drop shows. -/
theorem cropsAreWrittenOrDropped : Obligations.CropsAreWrittenOrDropped := by
  unfold Obligations.CropsAreWrittenOrDropped
  refine ⟨fun s n m hm hlen => exec_cropReceive_of_bad hm hlen, ?beyond, ?within, ?expired, fun s n k h => exec_cropTimeout_of_none h⟩
  case beyond =>
    intro s n m hm hlen hcredit
    obtain ⟨hcnt, hused, hrx, hmem⟩ := checkSeq_shows (s.rxPop n) n 0x11 m.bytes
    obtain ⟨hviol, hshown, hlane, hsame⟩ := creditViolation_shows ((s.rxPop n).checkSeq n 0x11 m.bytes) n
    rw [lane_rxPop] at hused hrx
    rw [hcnt] at hviol
    exact ⟨_, exec_cropReceive_of_beyond hm hlen hcredit, hviol, hshown, (congrArg LaneState.cropUsed hlane).trans hused,
      (congrArg LaneState.rx hlane).trans hrx, hsame.trans hmem⟩
  case within => exact fun s n m hm hlen hcredit => exec_cropReceive_of_within hm hlen hcredit rfl
  case expired =>
    intro s n k f hf hdue
    obtain ⟨hshown, hcnt, hfcu⟩ := cropDropped_shows
      ((s.setCropState n k 3).onLane n (fun l => { l with fills := l.fills.filter (fun f => f.slot != k) })) n
    rw [get_onLane] at hcnt
    rw [onLane_tt, (setCropState_lanesAt s n k 3).2] at hfcu
    exact ⟨_, exec_cropTimeout_of_due hf hdue, fills_cropExpired s n k, hshown, cropExpired_mem s n k, hcnt, _, hfcu⟩

end

section
/-! Records that the Track Engine takes (R98, R99). -/

namespace Sys2Proof.Machine

variable {s : State} {r : RecIn} {l : List RecIn}

@[simp] theorem get_raiseSrc (s : State) (src : Nat) (f : Fld) : (s.raiseSrc src).get f = s.get f := rfl
@[simp] theorem get_onTe (s : State) (g : Tracks → Tracks) (f : Fld) : (s.onTe g).get f = s.get f := rfl

/-- The oldest record handed over taken, which leaves those after it, and its credits returned. -/
def recordTaken (s : State) (r : RecIn) (l : List RecIn) : State :=
  (s.onTe (fun x => { x with incoming := l })).put (HL_FEAT_CRED_LIMIT r.lane) (s.get (HL_FEAT_CRED_LIMIT r.lane) + r.credit)

theorem get_recordTaken_limit (s : State) (r : RecIn) (l : List RecIn) : (recordTaken s r l).get (HL_FEAT_CRED_LIMIT r.lane) =
    (s.get (HL_FEAT_CRED_LIMIT r.lane) + r.credit) % 2 ^ (HL_FEAT_CRED_LIMIT r.lane).width :=
  get_put_same _ _ _ rfl

/-- No lane's word is one of the Track Engine's: the lanes' words of credits lie at 0x070 of their blocks. -/
theorem get_recordTaken_late (s : State) (r : RecIn) (l : List RecIn) :
    (recordTaken s r l).get TE_LATE_CNT_CNT = s.get TE_LATE_CNT_CNT := by
  have hoff : TE_LATE_CNT ≠ HL_FEAT_CRED r.lane := by
    unfold TE_LATE_CNT HL_FEAT_CRED
    omega
  rw [recordTaken, get_put_otherWord _ hoff, get_onTe]

section
variable (hin : s.te.incoming = r :: l) (hroom : s.stagedCount < 4194304)
include hin hroom

theorem exec_teStageRecord_of_room : exec .teStageRecord s = .next (if !s.flag TE_CTRL_EN then recordTaken s r l
    else if s.lateRecord r (s.batchFiring r) then (recordTaken s r l).countLate
    else (recordTaken s r l).onTe (fun x => { x with staged := x.staged ++ [{ r with batch := s.batchFiring r }] })) := by
  show execTeStageRecord s = _
  unfold execTeStageRecord
  rw [hin]
  exact congrArg _ (if_neg (Nat.not_le.2 hroom))

theorem exec_teStageRecord_of_disabled (hen : s.flag TE_CTRL_EN = false) : exec .teStageRecord s = .next (recordTaken s r l) := by
  rw [exec_teStageRecord_of_room hin hroom, hen]
  rfl

theorem exec_teStageRecord_of_late (hen : s.flag TE_CTRL_EN = true) (hlate : s.lateRecord r (s.batchFiring r) = true) :
    exec .teStageRecord s = .next (recordTaken s r l).countLate := by
  rw [exec_teStageRecord_of_room hin hroom, hen, hlate]
  rfl

theorem exec_teStageRecord_of_timely (hen : s.flag TE_CTRL_EN = true) (hlate : s.lateRecord r (s.batchFiring r) = false) :
    exec .teStageRecord s = .next ((recordTaken s r l).onTe
      (fun x => { x with staged := x.staged ++ [{ r with batch := s.batchFiring r }] })) := by
  rw [exec_teStageRecord_of_room hin hroom, hen, hlate]
  rfl

end

theorem countLate_shows (s : State) : s.countLate.te = s.te ∧
    s.countLate.get TE_LATE_CNT_CNT = min (s.get TE_LATE_CNT_CNT + 1) (2 ^ TE_LATE_CNT_CNT.width - 1) ∧
    s.countLate.fcuIn = s.fcuIn ++ [⟨F_TE_LATE_REC, 0, false, 0, s.tt⟩] ∧ s.countLate.mem = s.mem := by
  unfold State.countLate
  refine ⟨by rw [raise_te, bump_te], ?_, rfl, by rw [raise_mem, bump_mem]⟩
  rw [get_raise, get_bump_same _ _ rfl]

theorem lateRecord_of_no_follower (h : s.get TW_STAT_ROLE ≠ 1) (f : Nat) : s.lateRecord r f = decide (f ≤ s.te.sealedTo) :=
  if_neg h

end Sys2Proof.Machine
end

section
/-! Decisions written (R118). -/

namespace Sys2Proof.Machine

variable {s : State} {m : Master} {v : Word}

theorem exec_teDecWrite_of_group (hm : m.val < 8) (hreach : s.reaches m TE_DEC = true) :
    exec (.teDecWrite m v) s = .next (s.bufferDecision m v.toNat) := by
  show execTeDecWrite m v s = _
  rw [execTeDecWrite, decide_eq_true hm, portal_of_allowed hreach]

theorem exec_teDecWrite_of_other (hm : 8 ≤ m.val) (hreach : s.reaches m TE_DEC = true) :
    exec (.teDecWrite m v) s = .next (s.refusedBy m TE_DEC) := by
  show execTeDecWrite m v s = _
  rw [execTeDecWrite, decide_eq_false (Nat.not_lt.2 hm), portal_of_refused hreach]

theorem bufferDecision_of_room (h : s.te.decs.length < 4096) (m v : Nat) : s.bufferDecision m v =
    (s.onTe (fun x => { x with decs := x.decs ++ [⟨bitsOf v 0 20, m, bitsOf v 20 2, bitsOf v 24 8⟩] })).put TE_DEC_PEND_N
      (s.te.decs.length + 1) :=
  if_neg (Nat.not_le.2 h)

theorem bufferDecision_of_full (h : 4096 ≤ s.te.decs.length) (m v : Nat) : s.bufferDecision m v =
    ((s.bump TE_DEC_OVF_CNT).raiseSrc 136).raise F_TE_DEC_OVF 0 :=
  if_pos h

end Sys2Proof.Machine
end

section
/-! Applications of batches (R105): which one goes on, and how its items run one by one. -/

namespace Sys2Proof.Machine

variable {s : State} {a : Application} {b : Batch}

/-! ### The application that goes on -/

/-- The items that the application of a batch begins with (R105). -/
def itemsOf (s : State) (b : Batch) : List Item :=
  s.te.sealedIds.map Item.free ++
    (prevailing ((s.te.decsClosed.filter (fun e => decide (e.1 ≤ b.fn + 2))).map (fun e => e.2))).map Item.decide ++
    [Item.timeouts, Item.seals] ++ b.recs.map Item.record ++ [Item.edges] ++
    (List.range 8).map (fun k => Item.closing (k / 2) (k % 2)) ++ [Item.finish]

/-- The items of a batch after step 2 of its application (R105). -/
def itemsFromSeals (b : Batch) : List Item :=
  [Item.seals] ++ b.recs.map Item.record ++ [Item.edges] ++
    (List.range 8).map (fun k => Item.closing (k / 2) (k % 2)) ++ [Item.finish]

/-- The application that begins with a batch. -/
def applicationOf (s : State) (b : Batch) : Application :=
  { batch := b, admins := s.te.adminDoms, items := itemsOf s b, log := [], cost := recordCosts [] (b.recs.map s.reach) }

theorem beginBatch_app (s : State) (b : Batch) : (s.beginBatch b).te.app = some (applicationOf s b) := rfl

/-- With nothing to free and no decision, the application begins with those that time out. -/
theorem items_applicationOf (hsealed : s.te.sealedIds = []) (hdecs : s.te.decsClosed = []) (b : Batch) :
    (applicationOf s b).items = Item.timeouts :: itemsFromSeals b := by
  rw [applicationOf, itemsOf, hsealed, hdecs]
  rfl

theorem beginDue_of_waiting {l : List Batch} (happ : s.te.app = none) (hb : s.te.batches = b :: l) : s.beginDue = s.beginBatch b := by
  unfold State.beginDue
  rw [happ, hb]

theorem beginDue_of_app (happ : s.te.app = some a) : s.beginDue = s := by
  unfold State.beginDue
  rw [happ]

theorem beginDue_of_none (happ : s.te.app = none) (hb : s.te.batches = []) : s.beginDue = s := by
  unfold State.beginDue
  rw [happ, hb]

theorem word64_congr {t : State} (hmem : t.mem = s.mem) (hret : ∀ o, 0x910000 ≤ o → t.rd o = s.rd o) (x : Nat) :
    t.word64 x = s.word64 x := by
  unfold State.word64
  split
  next h =>
    have hbase : 0x910000 ≤ x - 0x40000000 := Nat.sub_le_sub_right h.1 0x40000000
    rw [rd64_eq_of_rd_eq (hret _ hbase) (hret _ (Nat.le_add_right_of_le hbase))]
  next => rw [State.num, State.num, State.bytes, State.bytes, hmem]

/-- What memory reads as depends on memory, its guards and the retained registers. -/
theorem decoded_congr {t : State} (hmem : t.mem = s.mem) (hprot : t.prot = s.prot) (hret : ∀ o, 0x910000 ≤ o → t.rd o = s.rd o)
    (x n : Nat) : t.decoded x n = s.decoded x n := by
  unfold State.decoded State.fixed State.syndrome State.bytes
  simp only [hmem, hprot, word64_congr hmem hret]

theorem trackSt_beginBatch (s : State) (b : Batch) (id : Nat) : (s.beginBatch b).trackSt id = s.trackSt id := by
  have hret : ∀ o, 0x910000 ≤ o → (s.beginBatch b).rd o = s.rd o := fun o ho =>
    rd_put_other _ _ _ (Nat.ne_of_gt (Nat.lt_of_lt_of_le (by decide : TE_STAT < 0x910000) ho))
  unfold State.trackSt
  rw [decoded_congr (t := s.beginBatch b) (s := s) rfl rfl hret]

theorem trackSt_beginDue (s : State) (id : Nat) : s.beginDue.trackSt id = s.trackSt id := by
  unfold State.beginDue
  split
  · exact trackSt_beginBatch s _ id
  · rfl

/-! ### The commands -/

theorem exec_teApplyBatch_of_app (happ : s.beginDue.te.app = some a) : exec .teApplyBatch s = .next (if s.get TW_STAT_ROLE = 2 then s
    else if s.flag TE_STAT_POOL_PAUSE then s else s.beginDue.runItems (s.beginDue.itemFuel a) a a.items []) := by
  show execTeApplyBatch s = _
  unfold execTeApplyBatch
  simp only [happ]

theorem exec_teApplyBatch_of_none (happ : s.beginDue.te.app = none) : exec .teApplyBatch s = .next s := by
  show execTeApplyBatch s = _
  unfold execTeApplyBatch
  simp only [happ, ite_self]

theorem exec_teDecisionTimeout_of_app {id : TrackId} (happ : s.beginDue.te.app = some a) :
    exec (.teDecisionTimeout id) s = .next (if s.get TW_STAT_ROLE = 2 then s
      else if !s.flag TE_STAT_POOL_PAUSE && s.beginDue.timesOutIn a id then
        s.beginDue.runItems (s.beginDue.itemFuel a) a a.stepTwo.1 a.stepTwo.2
      else s) := by
  show execTeDecisionTimeout id s = _
  unfold execTeDecisionTimeout
  simp only [happ]

theorem exec_teDecisionTimeout_of_none {id : TrackId} (happ : s.beginDue.te.app = none) : exec (.teDecisionTimeout id) s = .next s := by
  show execTeDecisionTimeout id s = _
  unfold execTeDecisionTimeout
  simp only [happ, ite_self]

theorem exec_teApplyBatch_of_paused (happ : s.te.app = some a) (hpause : s.flag TE_STAT_POOL_PAUSE = true) :
    exec .teApplyBatch s = .next s := by
  rw [exec_teApplyBatch_of_app ((beginDue_of_app happ).symm ▸ happ), if_pos hpause, ite_self]

theorem timesOutIn_of_not_closed {id : Nat} (h : s.trackSt id ≠ trkClosed) : s.timesOutIn a id = false := by
  rw [State.timesOutIn, State.timedOut, beq_eq_false_iff_ne.2 h, Bool.false_and, Bool.false_and, Bool.false_and]

theorem exec_teDecisionTimeout_of_not_closed {id : TrackId} (h : s.trackSt id.val ≠ trkClosed) :
    exec (.teDecisionTimeout id) s = .next s := by
  rw [← trackSt_beginDue] at h
  cases happ : s.beginDue.te.app with
  | none => exact exec_teDecisionTimeout_of_none happ
  | some a =>
    rw [exec_teDecisionTimeout_of_app happ, timesOutIn_of_not_closed h, Bool.and_false, if_neg Bool.false_ne_true, ite_self]

section
variable (hrole : s.get TW_STAT_ROLE ≠ 2) (happ : s.beginDue.te.app = some a) (hpause : s.flag TE_STAT_POOL_PAUSE = false)
include hrole happ hpause

theorem exec_teApplyBatch_of_running : exec .teApplyBatch s = .next (s.beginDue.runItems (s.beginDue.itemFuel a) a a.items []) := by
  rw [exec_teApplyBatch_of_app happ, if_neg hrole, hpause, if_neg Bool.false_ne_true]

theorem exec_teDecisionTimeout_of_due {id : TrackId} (hdue : s.beginDue.timesOutIn a id.val = true) :
    exec (.teDecisionTimeout id) s = .next (s.beginDue.runItems (s.beginDue.itemFuel a) a a.stepTwo.1 a.stepTwo.2) := by
  rw [exec_teDecisionTimeout_of_app happ, if_neg hrole, hpause, hdue]
  exact congrArg _ (if_pos rfl)

end

/-! ### Items one by one -/

theorem itemFuel_eq (s : State) (a : Application) : ∃ fuel, s.itemFuel a = fuel + 64 := ⟨_, rfl⟩

/-- An item for which the pool has room, or that needs none, gives way to what it expands to. -/
theorem runItems_cons {i : Item} (h : i.modifies = false ∨ 16 ≤ s.poolFree) (fuel : Nat) (l back : List Item) :
    s.runItems (fuel + 1) a (i :: l) back = (s.applyItem a i).1.runItems fuel a ((s.applyItem a i).2 ++ l) back := by
  have hroom : ¬(i.modifies && decide (s.poolFree < 16)) = true := by
    rw [Bool.and_eq_true, decide_eq_true_iff]
    rintro ⟨hmod, hlow⟩
    rcases h with h | h
    · exact Bool.false_ne_true (h.symm.trans hmod)
    · omega
  exact if_neg hroom

theorem runItems_nil (s : State) (fuel : Nat) (a : Application) : s.runItems (fuel + 1) a [] [] = s := rfl

theorem runItems_nil_back {back : List Item} (h : back ≠ []) (s : State) (fuel : Nat) (a : Application) :
    s.runItems fuel a [] back = s.setItems back := by
  cases fuel with
  | zero => rfl
  | succ fuel => exact if_neg (by rw [List.isEmpty_iff]; exact h)

end Sys2Proof.Machine
end

section
/-! A batch with no work applied (R105, R106): what its items leave, up to its end. -/

namespace Sys2Proof.Machine

variable {s t u : State} {a : Application}

/-- `t` differs from `s` in registers, the horizons, and the time of the application in progress alone. -/
structure WorkFree (s t : State) : Prop where
  te : t.te = { s.te with hzn := t.te.hzn, app := t.te.app }
  log : t.te.app.map Application.log = s.te.app.map Application.log
  srcIn : t.srcIn = s.srcIn
  fcuIn : t.fcuIn = s.fcuIn
  mem : t.mem = s.mem

theorem WorkFree.refl (s : State) : WorkFree s s :=
  ⟨rfl, rfl, rfl, rfl, rfl⟩

theorem WorkFree.trans (h : WorkFree s t) (k : WorkFree t u) : WorkFree s u where
  te := by rw [k.te, h.te]
  log := k.log.trans h.log
  srcIn := k.srcIn.trans h.srcIn
  fcuIn := k.fcuIn.trans h.fcuIn
  mem := k.mem.trans h.mem

theorem WorkFree.live (h : WorkFree s t) : t.te.live = s.te.live := by rw [h.te]

theorem findCloses_workFree (s : State) (a : Application) (d surf : Nat) : WorkFree s (s.findCloses a d surf).1 where
  te := rfl
  log := Option.map_map _ _ _
  srcIn := rfl
  fcuIn := rfl
  mem := rfl

theorem findCloses_of_no_tracks (h : s.te.live = []) (d surf : Nat) : (s.findCloses a d surf).2 = [] := by
  unfold State.findCloses
  rw [h]
  rfl

/-- With no tracks, each closing moves a horizon and closes nothing. -/
theorem runItems_closings (h : s.te.live = []) (l : List (Nat × Nat)) (fuel : Nat) (r back : List Item) :
    ∃ t, WorkFree s t ∧
      s.runItems (fuel + l.length) a (l.map (fun k => Item.closing k.1 k.2) ++ r) back = t.runItems fuel a r back := by
  induction l generalizing s with
  | nil => exact ⟨s, WorkFree.refl s, rfl⟩
  | cons k l ih =>
    have hone := findCloses_workFree s a k.1 k.2
    obtain ⟨t, hfree, hrun⟩ := ih (hone.live.trans h)
    refine ⟨t, hone.trans hfree, ?_⟩
    rw [← hrun, List.map_cons, List.cons_append, List.length_cons, ← Nat.add_assoc, runItems_cons (.inl rfl), State.applyItem,
      findCloses_of_no_tracks h, List.nil_append]

theorem trackEdges_nil (s : State) : s.trackEdges [] = s := rfl

theorem runItems_cons_idle {i : Item} (hmod : i.modifies = false) (h : s.applyItem a i = (s, [])) (fuel : Nat) (l back : List Item) :
    s.runItems (fuel + 1) a (i :: l) back = s.runItems fuel a l back := by
  rw [runItems_cons (.inl hmod), h]
  rfl

/-- With no tracks and no records, no item before the last finds any work. -/
theorem runItems_of_no_work (haux : s.te.aux = []) (hlive : s.te.live = []) (hrecs : a.batch.recs = []) (hedges : a.batch.edges = [])
    (fuel : Nat) : ∃ t, WorkFree s t ∧
      s.runItems (fuel + 12) a (Item.timeouts :: itemsFromSeals a.batch) [] = (t.finishBatch a).runItems fuel a [] [] := by
  obtain ⟨t, hfree, hrun⟩ := runItems_closings (a := a) hlive ((List.range 8).map (fun k => (k / 2, k % 2))) (fuel + 1) [Item.finish] []
  refine ⟨t, hfree, ?_⟩
  have htimeouts : s.applyItem a .timeouts = (s, []) := by rw [State.applyItem, haux]; rfl
  have hseals : s.applyItem a .seals = (s, []) := by rw [State.applyItem, hlive]; rfl
  have hedge : s.applyItem a .edges = (s, []) := by rw [State.applyItem, hedges, trackEdges_nil]
  have hlast : t.runItems (fuel + 1) a [.finish] [] = (t.finishBatch a).runItems fuel a [] [] := runItems_cons (.inl rfl) _ _ _
  rw [← hlast, ← hrun, List.map_map, itemsFromSeals, hrecs]
  exact (runItems_cons_idle rfl htimeouts _ _ _).trans
    ((runItems_cons_idle rfl hseals _ _ _).trans (runItems_cons_idle rfl hedge _ _ _))

/-! ### The end of an application (R105, R106) -/

/-- The application in progress ended, its hash in the list. -/
def batchEnded (s : State) (a : Application) : State :=
  s.draw.2.onTe (fun x => { x with
    app := none, hashes := ((a.batch.fn, sha512 (s.te.app.elim [] Application.log)) :: x.hashes).take 16 })

theorem finishBatch_eq (s : State) (a : Application) : ∃ time, s.finishBatch a =
    ((((((batchEnded s a).wr64 TE_BATCH_FN a.batch.fn).put TE_BATCH_RECS_N a.batch.recs.length).putFlag TE_STAT_APPLYING false).put
      TE_APPLY_LAST_FCLK (min time (2 ^ 24 - 1))).raiseTo TE_APPLY_MAX_FCLK time).raiseSrc 128 :=
  ⟨_, rfl⟩

/-- What the end of an application shows (R105, R106). -/
theorem finishBatch_shows (s : State) (a : Application) : (s.finishBatch a).te = (batchEnded s a).te ∧
    (s.finishBatch a).rd64 TE_BATCH_FN = a.batch.fn % 2 ^ 64 ∧ (s.finishBatch a).get TE_BATCH_RECS_N = a.batch.recs.length % 2 ^ 21 ∧
    (s.finishBatch a).flag TE_STAT_APPLYING = false ∧ (s.finishBatch a).srcIn = s.srcIn ++ [128] ∧
    (s.finishBatch a).fcuIn = s.fcuIn ∧ (s.finishBatch a).mem = s.mem := by
  obtain ⟨time, heq⟩ := finishBatch_eq s a
  rw [heq]
  refine ⟨?te, ?fn, ?recs, ?flag, ?src, ?fcu, ?mem⟩
  case te => rw [raiseSrc_te, raiseTo_te, put_te, putFlag_te, put_te, wr64_te]
  case fn =>
    rw [rd64_raiseSrc, State.raiseTo, rd64_put_other, rd64_put_other, State.putFlag, rd64_put_other, rd64_put_other, rd64_wr64_same]
    all_goals decide
  case recs =>
    rw [get_raiseSrc, State.raiseTo, get_put_otherWord, get_put_otherWord, State.putFlag, get_put_otherWord, get_put_same]
    · rfl
    all_goals decide
  case flag =>
    rw [flag_raiseSrc, State.raiseTo, flag_put_spared, flag_put_spared, flag_putFlag_same]
    all_goals decide
  case src =>
    rw [srcIn_raiseSrc, raiseTo_srcIn, put_srcIn, putFlag_srcIn, put_srcIn, wr64_srcIn]
    rfl
  case fcu =>
    rw [raiseSrc_fcuIn, raiseTo_fcuIn, put_fcuIn, putFlag_fcuIn, put_fcuIn, wr64_fcuIn]
    rfl
  case mem =>
    rw [raiseSrc_mem, raiseTo_mem, put_mem, putFlag_mem, put_mem, wr64_mem]
    rfl

/-! ### The batch as a whole -/

/-- A batch with no work has the hash of no bytes. -/
theorem hashes_batchEnded {b : Batch} (h : WorkFree (s.beginBatch b) t) (a : Application) :
    (batchEnded t a).te.hashes = ((a.batch.fn, sha512 []) :: s.te.hashes).take 16 := by
  obtain ⟨x, happ, hlog⟩ := Option.map_eq_some_iff.1 (h.log : t.te.app.map Application.log = some [])
  have hhashes : t.te.hashes = s.te.hashes := by
    rw [h.te]
    rfl
  show ((a.batch.fn, sha512 (t.te.app.elim [] Application.log)) :: t.te.hashes).take 16 = _
  rw [hhashes, happ, Option.elim_some, hlog]

/-- A batch without records, with nothing to free, no decisions and no tracks, is applied as a whole. -/
theorem exec_teApplyBatch_of_no_work {b : Batch} {l : List Batch} (hrole : s.get TW_STAT_ROLE ≠ 2) (happ : s.te.app = none)
    (hb : s.te.batches = b :: l) (hrecs : b.recs = []) (hedges : b.edges = []) (hpause : s.flag TE_STAT_POOL_PAUSE = false)
    (hsealed : s.te.sealedIds = []) (hdecs : s.te.decsClosed = []) (haux : s.te.aux = []) (hlive : s.te.live = []) :
    ∃ t, WorkFree (s.beginBatch b) t ∧ exec .teApplyBatch s = .next (t.finishBatch (applicationOf s b)) := by
  have hdue := beginDue_of_waiting happ hb
  have hexec := exec_teApplyBatch_of_running hrole (hdue ▸ beginBatch_app s b) hpause
  obtain ⟨fuel, hfuel⟩ := itemFuel_eq (s.beginBatch b) (applicationOf s b)
  obtain ⟨t, hfree, hrun⟩ := runItems_of_no_work (s := s.beginBatch b) (a := applicationOf s b) haux hlive hrecs hedges (fuel + 52)
  rw [hdue, hfuel, items_applicationOf hsealed hdecs] at hexec
  exact ⟨t, hfree, hexec.trans (congrArg _ (hrun.trans (runItems_nil _ (fuel + 51) _)))⟩

end Sys2Proof.Machine
end

section
/-! A decision timeout (R119): the one track that is due, decided by the engine. -/

namespace Sys2Proof.Machine

variable {s t : State} {v : Tracks}

/-- Beside the pool and the application in progress, the Track Engine holds `v`. -/
def TeBut (v : Tracks) (s : State) : Prop :=
  s.te = { v with pool := s.te.pool, app := s.te.app }

theorem blind_teBut (v : Tracks) : Blind (TeBut v) :=
  fun _ _ _ _ _ _ _ _ _ _ _ h => h

theorem TeBut.onTe (h : TeBut v s) {f : Tracks → Tracks} (hf : ∀ x, f x = { x with pool := (f x).pool, app := (f x).app }) :
    TeBut v (s.onTe f) :=
  (hf s.te).trans (congrArg (fun x : Tracks => { x with pool := (f s.te).pool, app := (f s.te).app }) h)

theorem TeBut.hashIn (h : TeBut v s) (b : Bytes) : TeBut v (s.hashIn b) := h.onTe (fun _ => rfl)

theorem TeBut.cost (h : TeBut v s) (n : Nat) : TeBut v (s.cost n) := h.onTe (fun _ => rfl)

theorem TeBut.setItems (h : TeBut v s) (l : List Item) : TeBut v (s.setItems l) := h.onTe (fun _ => rfl)

theorem TeBut.preImage (h : TeBut v s) (id : Nat) : TeBut v (s.preImage id) :=
  holds_ite h ((blind_teBut v).raiseTo ((blind_teBut v).put (TeBut.onTe ((blind_teBut v).latWrite h _ _ _) (fun _ => rfl)) _ _) _ _)

theorem TeBut.writeTrack (h : TeBut v s) (id : Nat) (x : Track) : TeBut v (s.writeTrack id x) := by
  unfold State.writeTrack State.writeTrackBytes State.store
  exact TeBut.hashIn ((blind_teBut v).latWrite (h.preImage id) _ _ _) _

theorem TeBut.onAux (h : TeBut v s) (f : List (Nat × TrackAux) → List (Nat × TrackAux)) :
    TeBut { v with aux := f v.aux } (s.onTe (fun x => { x with aux := f x.aux })) := by
  unfold TeBut State.onTe
  dsimp only
  rw [h]

theorem TeBut.readTrack (h : TeBut v s) (id : Nat) : TeBut v (s.readTrack id) :=
  (blind_teBut v).latRead h _ _ _

/-- A timeout takes what the engine knows of the track beside its record, and touches nothing else but the pool and the
application in progress. -/
theorem timeoutTrack_teBut (s : State) (id : Nat) : TeBut { s.te with aux := dropKey s.te.aux id } (s.timeoutTrack id) := by
  have hself : TeBut s.te s := rfl
  exact (blind_teBut _).bump (((hself.readTrack id).writeTrack id _).onAux (fun l => dropKey l id)) _

/-! ### Step 2 of an application (R105) -/

/-- With nothing to free and no decision, step 2 of the application finds the tracks that time out, and no more. -/
theorem stepTwo_applicationOf (hsealed : s.te.sealedIds = []) (hdecs : s.te.decsClosed = []) (b : Batch) :
    (applicationOf s b).stepTwo = ([.timeouts], itemsFromSeals b) := by
  rw [Application.stepTwo, items_applicationOf hsealed hdecs]
  rfl

theorem timedOut_of_closed {f id p h : Nat} (haux : s.te.aux = [(id, ⟨some p, h⟩)]) (hclosed : s.trackSt id = trkClosed)
    (hdue : p + s.get TE_DEC_TO_FIRINGS ≤ f) : s.timedOut f id = true := by
  have hknown : s.aux id = ⟨some p, h⟩ := by
    rw [State.aux, haux, lookup, if_pos rfl]
    rfl
  rw [State.timedOut, hclosed, hknown]
  exact decide_eq_true hdue

theorem timesOutIn_of_stepTwo {a : Application} {id : Nat} (h2 : a.stepTwo.1 = [.timeouts]) (h : s.timedOut (a.batch.fn + 2) id = true) :
    s.timesOutIn a id = true := by
  rw [State.timesOutIn, h, h2]
  rfl

/-- With one track that times out and room in the pool, step 2 decides that track. -/
theorem runItems_timeouts {a : Application} {id : Nat} {x : TrackAux} (haux : s.te.aux = [(id, x)])
    (hdue : s.timedOut (a.batch.fn + 2) id = true) (hroom : 16 ≤ s.poolFree) {back : List Item} (hback : back ≠ []) (fuel : Nat) :
    s.runItems (fuel + 2) a [.timeouts] back = ((s.timeoutTrack id).cost 2).setItems back := by
  have hfound : s.applyItem a .timeouts = (s, [.timeout id]) := by
    rw [State.applyItem, haux, List.filter_cons, if_pos hdue]
    rfl
  rw [runItems_cons (.inl rfl), hfound]
  exact (runItems_cons (.inr hroom) _ _ _).trans (runItems_nil_back hback _ _ _)

/-- A track that times out at the application of the oldest batch, which has nothing to free and no decision to apply. -/
theorem exec_teDecisionTimeout_of_closed {id : TrackId} {b : Batch} {l : List Batch} {p h : Nat} (hrole : s.get TW_STAT_ROLE ≠ 2)
    (happ : s.te.app = none) (hb : s.te.batches = b :: l) (hpause : s.flag TE_STAT_POOL_PAUSE = false) (hsealed : s.te.sealedIds = [])
    (hdecs : s.te.decsClosed = []) (haux : s.te.aux = [(id.val, ⟨some p, h⟩)]) (hclosed : s.trackSt id.val = trkClosed)
    (hlate : p + s.get TE_DEC_TO_FIRINGS ≤ b.fn + 2) (hroom : 16 ≤ s.poolFree) :
    exec (.teDecisionTimeout id) s = .next ((((s.beginBatch b).timeoutTrack id.val).cost 2).setItems (itemsFromSeals b)) := by
  have hdue := beginDue_of_waiting happ hb
  have htwo := stepTwo_applicationOf hsealed hdecs b
  have hto : (s.beginBatch b).get TE_DEC_TO_FIRINGS = s.get TE_DEC_TO_FIRINGS := get_put_otherWord _ (by decide)
  have hout : (s.beginBatch b).timedOut (b.fn + 2) id.val = true :=
    timedOut_of_closed haux ((trackSt_beginBatch s b id.val).trans hclosed) (hto ▸ hlate)
  have htimes : (s.beginBatch b).timesOutIn (applicationOf s b) id.val = true := timesOutIn_of_stepTwo (congrArg Prod.fst htwo) hout
  have hexec := exec_teDecisionTimeout_of_due hrole (hdue ▸ beginBatch_app s b) hpause (hdue ▸ htimes)
  obtain ⟨fuel, hfuel⟩ := itemFuel_eq (s.beginBatch b) (applicationOf s b)
  rw [hdue, hfuel, htwo] at hexec
  have hrun := runItems_timeouts (s := s.beginBatch b) (a := applicationOf s b) haux hout hroom
    (List.cons_ne_nil _ _ : itemsFromSeals b ≠ []) (fuel + 62)
  exact hexec.trans (congrArg _ hrun)

end Sys2Proof.Machine
end

section
open Sys2Proof Sys2Proof.Machine

/-- Settles O26: records by what taking one leaves, applications by their items one by one. -/
theorem theTrackEngineStagesAndApplies : Obligations.TheTrackEngineStagesAndApplies := by
  unfold Obligations.TheTrackEngineStagesAndApplies
  refine ⟨?timely, ?late, fun s r f h => lateRecord_of_no_follower h f,
    fun s r l hin hroom hen => exec_teStageRecord_of_disabled hin hroom hen, ?begins, ?goesOn, ?noWork, ?nothing, ?buffered,
    ?overflow, fun s m v hm hreach => exec_teDecWrite_of_other hm hreach,
    fun s id a hrole happ hpause hdue => exec_teDecisionTimeout_of_due hrole happ hpause hdue, ?timedOut, ?notTimedOut⟩
  case timely =>
    intro s r l hin hroom hen hlate
    exact ⟨_, exec_teStageRecord_of_timely hin hroom hen hlate, rfl, rfl, get_recordTaken_limit s r l, rfl, rfl⟩
  case late =>
    intro s r l hin hroom hen hlate
    obtain ⟨hte, hcnt, hfcu, hmem⟩ := countLate_shows (recordTaken s r l)
    rw [get_recordTaken_late] at hcnt
    exact ⟨_, exec_teStageRecord_of_late hin hroom hen hlate, by rw [hte]; rfl, by rw [hte]; rfl, hcnt, hfcu, hmem⟩
  case begins =>
    intro s b l hrole happ hb hpause
    have hdue := beginDue_of_waiting happ hb
    have hexec := exec_teApplyBatch_of_running hrole (hdue ▸ beginBatch_app s b) hpause
    rw [hdue] at hexec
    exact ⟨applicationOf s b, beginBatch_app s b, rfl, rfl, congrArg (List.drop 1) hb, rfl, hexec⟩
  case goesOn =>
    intro s a hrole happ hpause
    have hdue := beginDue_of_app happ
    have hexec := exec_teApplyBatch_of_running hrole (hdue.symm ▸ happ) hpause
    rwa [hdue] at hexec
  case noWork =>
    intro s n e l hrole happ hb hpause hsealed hdecs haux hlive
    obtain ⟨t, hfree, hexec⟩ := exec_teApplyBatch_of_no_work hrole happ hb rfl rfl hpause hsealed hdecs haux hlive
    obtain ⟨hte, hfn, hrecs, happlying, hsrc, hfcu, hmem⟩ := finishBatch_shows t (applicationOf s ⟨n, [], [], e⟩)
    have hhashes := hashes_batchEnded hfree (applicationOf s ⟨n, [], [], e⟩)
    have hbatches : t.te.batches = l := by
      rw [hfree.te]
      exact congrArg (List.drop 1) hb
    exact ⟨_, hexec, by rw [hte]; rfl, by rw [hte]; exact hbatches, by rw [hte, hhashes]; rfl, hfn, hrecs, happlying,
      hsrc.trans (congrArg (· ++ [128]) hfree.srcIn), hfcu.trans hfree.fcuIn, hmem.trans hfree.mem⟩
  case nothing =>
    rintro s (⟨happ, hb⟩ | ⟨happ, hpause⟩)
    · exact exec_teApplyBatch_of_none ((beginDue_of_none happ hb).symm ▸ happ)
    · obtain ⟨a, ha⟩ := Option.isSome_iff_exists.1 happ
      exact exec_teApplyBatch_of_paused ha hpause
  case buffered =>
    intro s m v hm hroom hreach
    rw [exec_teDecWrite_of_group hm hreach, bufferDecision_of_room hroom]
  case overflow =>
    intro s m v hm hfull hreach
    rw [exec_teDecWrite_of_group hm hreach, bufferDecision_of_full hfull]
    rfl
  case timedOut =>
    intro s id b l p h hrole happ hb hpause hsealed hdecs haux hclosed hdue hroom
    have hbut := ((timeoutTrack_teBut (s.beginBatch b) id.val).cost 2).setItems (itemsFromSeals b)
    refine ⟨_, exec_teDecisionTimeout_of_closed hrole happ hb hpause hsealed hdecs haux hclosed hdue hroom, rfl, ?_, ?_, ?_⟩
    all_goals rw [hbut]
    · exact lookup_dropKey_same _ _
    · rfl
    · exact congrArg (List.drop 1) hb
  case notTimedOut =>
    rintro s id (hopen | ⟨happ, hb⟩)
    · exact exec_teDecisionTimeout_of_not_closed hopen
    · exact exec_teDecisionTimeout_of_none ((beginDue_of_none happ hb).symm ▸ happ)

end

section
/-! Jobs on the tiles of the Verify Engine (R132, R142, R145): which one runs, how it ends, and what an overrun and a tile fault
leave.

To compare two forms of a term in which `State.running` is matched on, the kernel would compute it, and with it the 64-bit word of
the last boundary. A function that matches on it is unfolded before it is applied (`generalize e : f = …`). -/

namespace Sys2Proof.Machine

variable {s t u : State} {n : Tile} {k : Nat} {x : Slot_} {j : Job} {b aux : Bytes}

@[simp] theorem get_onVe (s : State) (g : Verify → Verify) (f : Fld) : (s.onVe g).get f = s.get f := rfl
@[simp] theorem flag_onVe (s : State) (g : Verify → Verify) (f : Fld) : (s.onVe g).flag f = s.flag f := rfl

theorem ve_onVe (s : State) (g : Verify → Verify) : (s.onVe g).ve = g s.ve := rfl

/-! ### The job that runs -/

/-- Which job runs on a tile depends on the time, the last boundary and the slots. -/
theorem running_congr (htt : t.tt = s.tt) (hbtt : t.rd64 TB_BTT = s.rd64 TB_BTT) (hslots : t.ve.slots = s.ve.slots) (k : Nat) :
    t.running k = s.running k := by
  rw [State.running, htt, hbtt, hslots, State.running]

theorem endJob_of_running (h : s.running k = some x) (st : Nat) (res : Bytes) (o : Bool) : s.endJob k st res o =
    s.onVe (fun v => { v with
      slots := v.slots.map (fun y => if y.ix = x.ix then { y with status := some st, result := res, out := o } else y) }) := by
  generalize e : State.endJob = f
  unfold State.endJob at e
  subst e
  beta_reduce
  rw [h]

theorem exec_veJobEnd_of_running (h : s.running n = some x) :
    exec (.veJobEnd n) s = .next ((s.bump (VT_JOB_CNT_CNT n)).runJob n x.job) := by
  show execVeJobEnd n s = _
  rw [execVeJobEnd, h]

theorem exec_veJobEnd_of_idle (h : s.running n = none) : exec (.veJobEnd n) s = .next s := by
  show execVeJobEnd n s = _
  rw [execVeJobEnd, h]

/-! ### Its inputs and its output -/

/-- A job whose inputs cannot be read has ended with the fetch. -/
theorem runJob_of_unread (h : s.fetchJob k j = (u, none)) : s.runJob k j = u := by
  rw [State.runJob, h]

/-- A job whose inputs have been read computes its result, and writes its output where it has one. -/
theorem runJob_of_read (h : s.fetchJob k j = (u, some (b, aux))) : s.runJob k j =
    if j.outEn then
      let w := u.busWrite 9 j.outAddr (u.runKernel j b aux).2
      if w.2.ok = true then w.1.endJob k 0 (u.runKernel j b aux).1 true else w.1.memErr k
    else u.endJob k 0 (u.runKernel j b aux).1 false := by
  rw [State.runJob, h]

/-! ### Overruns (R145) -/

/-- An overrun counted three times and reported: the job of the tile, the engine's overruns, and the tile's. -/
def overrunCounted (s : State) (n : Tile) : State :=
  (((s.bump (VT_JOB_CNT_CNT n)).bump VE_OVERRUN_CNT_CNT).bump (VT_OVERRUN_CNT_CNT n)).raise F_VE_OVERRUN 0

theorem get_overrunCounted_total (s : State) (n : Tile) : (overrunCounted s n).get VE_OVERRUN_CNT_CNT =
    min (s.get VE_OVERRUN_CNT_CNT + 1) (2 ^ VE_OVERRUN_CNT_CNT.width - 1) := by
  have htile : (VT_OVERRUN_CNT_CNT n).spares VE_OVERRUN_CNT_CNT = true :=
    spares_of_word rfl (show VT_OVERRUN_CNT n ≠ VE_OVERRUN_CNT by unfold VT_OVERRUN_CNT VE_OVERRUN_CNT; omega)
  have hjob : (VT_JOB_CNT_CNT n).spares VE_OVERRUN_CNT_CNT = true :=
    spares_of_word rfl (show VT_JOB_CNT n ≠ VE_OVERRUN_CNT by unfold VT_JOB_CNT VE_OVERRUN_CNT; omega)
  rw [overrunCounted, get_raise, get_bump_spared htile, get_bump_same _ _ rfl, get_bump_spared hjob]

theorem get_overrunCounted_job (s : State) (n : Tile) : (overrunCounted s n).get (VT_JOB_CNT_CNT n) =
    min (s.get (VT_JOB_CNT_CNT n) + 1) (2 ^ (VT_JOB_CNT_CNT n).width - 1) := by
  have htile : (VT_OVERRUN_CNT_CNT n).spares (VT_JOB_CNT_CNT n) = true :=
    spares_of_word rfl (show VT_OVERRUN_CNT n ≠ VT_JOB_CNT n by unfold VT_OVERRUN_CNT VT_JOB_CNT; omega)
  have htotal : VE_OVERRUN_CNT_CNT.spares (VT_JOB_CNT_CNT n) = true :=
    spares_of_word rfl (show VE_OVERRUN_CNT ≠ VT_JOB_CNT n by unfold VE_OVERRUN_CNT VT_JOB_CNT; omega)
  rw [overrunCounted, get_raise, get_bump_spared htile, get_bump_spared htotal, get_bump_same _ _ rfl]

theorem overrunCounted_rest (s : State) (n : Tile) : (overrunCounted s n).ve = s.ve ∧
    (overrunCounted s n).fcuIn = s.fcuIn ++ [⟨F_VE_OVERRUN, 0, false, 0, s.tt⟩] ∧ (overrunCounted s n).mem = s.mem := by
  rw [overrunCounted, raise_ve, fcuIn_raise, raise_mem]
  simp only [bump_ve, bump_fcuIn, bump_tt, bump_mem, and_self]

theorem rd_overrunCounted_other (s : State) (n : Tile) {o : Nat} (h : o < VE_OVERRUN_CNT) : (overrunCounted s n).rd o = s.rd o := by
  unfold VE_OVERRUN_CNT at h
  have htile : o ≠ VT_OVERRUN_CNT n := by unfold VT_OVERRUN_CNT; omega
  have htotal : o ≠ VE_OVERRUN_CNT := by unfold VE_OVERRUN_CNT; omega
  have hjob : o ≠ VT_JOB_CNT n := by unfold VT_JOB_CNT; omega
  rw [overrunCounted, rd_raise, State.bump, State.addTo, rd_put_other _ _ _ htile, State.bump, State.addTo,
    rd_put_other _ _ _ htotal, State.bump, State.addTo, rd_put_other _ _ _ hjob]

theorem running_overrunCounted (s : State) (n : Tile) (k : Nat) : (overrunCounted s n).running k = s.running k := by
  have hlow : (overrunCounted s n).rd TB_BTT = s.rd TB_BTT := rd_overrunCounted_other s n (by decide)
  have hhigh : (overrunCounted s n).rd (TB_BTT + 4) = s.rd (TB_BTT + 4) := rd_overrunCounted_other s n (by decide)
  have hbtt : (overrunCounted s n).rd64 TB_BTT = s.rd64 TB_BTT := by rw [State.rd64, hlow, hhigh, State.rd64]
  exact running_congr (s := s) (t := overrunCounted s n) rfl hbtt rfl k

theorem onVe_id (s : State) : s.onVe (fun v => v) = s := rfl

/-- A custom kernel that overruns ends its job; what follows for its slot leaves the jobs. -/
theorem exec_veOverrun_of_custom (h : s.running n = some x) (hk : 0x80 ≤ x.job.kernel) :
    ∃ f : Verify → Verify, exec (.veOverrun n) s =
      .next (((overrunCounted s n).endJob n 1 (List.replicate 12 0) false).onVe f) ∧ (∀ v, (f v).slots = v.slots) := by
  show ∃ f : Verify → Verify, execVeOverrun n s = _ ∧ _
  generalize e : execVeOverrun = g
  unfold execVeOverrun at e
  subst e
  beta_reduce
  rw [h]
  show ∃ f : Verify → Verify, Host.Outcome.next (if x.job.kernel < 0x80 then s else _) = _ ∧ _
  rw [if_neg (Nat.not_lt.2 hk)]
  extract_lets +onlyGivenNames k s1 s2
  split
  · exact ⟨fun v => v, congrArg _ (onVe_id s2).symm, fun _ => rfl⟩
  · exact ⟨_, rfl, fun _ => rfl⟩

/-- Where no custom kernel runs there is no overrun. -/
theorem exec_veOverrun_of_no_custom (h : ∀ x, s.running n = some x → x.job.kernel < 0x80) : exec (.veOverrun n) s = .next s := by
  show execVeOverrun n s = _
  generalize e : execVeOverrun = g
  unfold execVeOverrun at e
  subst e
  beta_reduce
  split
  · rfl
  next x hx => rw [if_pos (h x hx)]

/-! ### Tile faults (R145) -/

theorem exec_veTileFault_of_present (h : n.val < s.part.tiles) : exec (.veTileFault n) s = .next (s.tileFault n) := by
  show execVeTileFault n s = _
  rw [execVeTileFault, if_neg (Nat.not_le.2 h)]

/-- A tile with a fault is out of service, with no self-test and no return to come, and its jobs have ended. -/
theorem tileFault_shows (s : State) (k : Nat) : k ∈ (s.tileFault k).ve.out ∧ k ∉ (s.tileFault k).ve.back ∧
    k ∉ (s.tileFault k).ve.testing ∧ (s.tileFault k).flag (VT_STAT_FAULT k) = true ∧
    (s.tileFault k).ve.slots = s.ve.slots.map (fun x => if x.tile = some k ∧ x.status.isNone then { x with status := some 5 } else x) ∧
    (s.tileFault k).fcuIn = s.fcuIn ++ [⟨F_VE_TILE_FAULT, 0, false, 0, s.tt⟩] ∧ (s.tileFault k).srcIn = s.srcIn ++ [217] ∧
    (s.tileFault k).mem = s.mem := by
  have hmarked : ∃ r, s.when (s.ve.testing.contains k) (fun s => s.putFlag (VT_CTRL_ST_FAIL k) true) = { s with regs := r } := by
    cases s.ve.testing.contains k with
    | false => exact ⟨s.regs, rfl⟩
    | true => exact ⟨_, rfl⟩
  obtain ⟨r, hr⟩ := hmarked
  unfold State.tileFault
  rw [hr]
  refine ⟨?_, ?_, ?_, ?_, ?_, ?_, ?_, ?_⟩
  · show k ∈ if s.ve.out.contains k then s.ve.out else s.ve.out ++ [k]
    split
    · exact List.contains_iff_mem.1 ‹_›
    · exact List.mem_append_right _ List.mem_cons_self
  · show k ∉ s.ve.back.filter (fun x => x != k)
    simp
  · show k ∉ s.ve.testing.filter (fun x => x != k)
    simp
  · rw [flag_onVe, flag_raiseSrc, flag_raise, flag_putFlag_same _ _ _ rfl Nat.one_pos]
  · rw [ve_onVe, raiseSrc_ve, raise_ve, putFlag_ve]
  · rw [onVe_fcuIn, raiseSrc_fcuIn, fcuIn_raise, putFlag_fcuIn, putFlag_tt]
  · rw [onVe_srcIn, srcIn_raiseSrc, raise_srcIn, putFlag_srcIn]
  · rw [onVe_mem, raiseSrc_mem, raise_mem, putFlag_mem]

/-! ### Self-tests (R145) -/

theorem exec_vtReturn (s : State) (n : Tile) (m : Master) : exec (.vtReturn n m) s =
    .next (s.portal m (VT_CTRL n) (m == 0)
      (if s.ve.out.contains n ∧ !s.ve.testing.contains n then s.onVe (fun v => { v with testing := v.testing ++ [n.val] }) else s)) := rfl

theorem exec_vtSelfTestDone_of_testing (pass : Bool) (h : n.val ∈ s.ve.testing) : exec (.vtSelfTestDone n pass) s =
    .next ((s.onVe (fun v => { v with
      testing := v.testing.filter (fun x => x != n.val), back := if pass then v.back ++ [n.val] else v.back })).putFlag
      (VT_CTRL_ST_FAIL n) (!pass)) := by
  show execVtSelfTestDone n pass s = _
  rw [execVtSelfTestDone, if_pos (List.contains_iff_mem.2 h)]

end Sys2Proof.Machine
end

section
/-! The registers of the group blocks and of the kernel slots (R135, R146, R148): their writes stand as commands. -/

namespace Sys2Proof.Machine

variable {s u : State} {g : Group} {m : Master} {v : Word}

theorem ownOr0_of_own (h : m.val = 0 ∨ m.val = g.val) : ownOr0 g m = true := by
  rcases h with h | h <;> simp [ownOr0, h]

theorem ownOr0_of_other (h0 : m.val ≠ 0) (hg : m.val ≠ g.val) : ownOr0 g m = false := by
  simp [ownOr0, h0, hg]

theorem exec_veSqTailWrite (s : State) (g : Group) (m : Master) (v : Word) : exec (.veSqTailWrite g m v) s =
    .next (s.portal m (VE_SQ_TAIL g) (ownOr0 g m)
      (if 2 ^ (s.get (VE_SQ_SIZE_LOG2 g) + 4) < (v.toNat + 2 ^ 32 - s.get (VE_SQ_HEAD_CNT g)) % 2 ^ 32 then
        s.putFlag (VE_G_STAT_CFG_REJ g) true
      else s.wr (VE_SQ_TAIL g) v)) := rfl

theorem exec_veCancelGo (s : State) (g : Group) (m : Master) (v : Word) : exec (.veCancelGo g m v) s =
    .next (s.portal m (VE_CANCEL_CTRL g) (ownOr0 g m)
      (if v.toNat.testBit 0 then (s.putFlag (VE_CANCEL_CTRL_DISCARD g) (v.toNat.testBit 1)).holdCancel g (s.get (VE_CANCEL_TAG_TAG g))
          (s.get (VE_CANCEL_MASK_MASK g)) (v.toNat.testBit 1)
      else s.putFlag (VE_CANCEL_CTRL_DISCARD g) (v.toNat.testBit 1))) := rfl

theorem exec_veCancelGo_of_own (hreach : s.reaches m (VE_CANCEL_CTRL g) = true) (hm : m.val = 0 ∨ m.val = g.val) :
    exec (.veCancelGo g m v) s =
      .next (if v.toNat.testBit 0 then (s.putFlag (VE_CANCEL_CTRL_DISCARD g) (v.toNat.testBit 1)).holdCancel g
          (s.get (VE_CANCEL_TAG_TAG g)) (s.get (VE_CANCEL_MASK_MASK g)) (v.toNat.testBit 1)
        else s.putFlag (VE_CANCEL_CTRL_DISCARD g) (v.toNat.testBit 1)) := by
  rw [exec_veCancelGo, ownOr0_of_own hm, portal_of_allowed hreach]

theorem syncEngine_ve (s : State) : s.syncEngine.ve = s.ve := rfl
theorem syncEngine_mem (s : State) : s.syncEngine.mem = s.mem := rfl

theorem exec_veKloadGo (s : State) (m : Master) : exec (.veKloadGo m) s =
    .next (s.portal m VE_KLOAD_CTRL (m == 0) (if s.flag VE_KLOAD_CTRL_BUSY then s
      else ((s.onVe (fun v => { v with kload := some (s.rd64 VE_KLOAD_ADDR / 64 * 64 % 2 ^ 40, s.get VE_KLOAD_LEN_BYTES) })).putFlag
        VE_KLOAD_CTRL_BUSY true).syncEngine)) := rfl

theorem exec_veKloadGo_of_reached (hreach : s.reaches 0 VE_KLOAD_CTRL = true) : exec (.veKloadGo 0) s =
    .next (if s.flag VE_KLOAD_CTRL_BUSY then s
      else ((s.onVe (fun v => { v with kload := some (s.rd64 VE_KLOAD_ADDR / 64 * 64 % 2 ^ 40, s.get VE_KLOAD_LEN_BYTES) })).putFlag
        VE_KLOAD_CTRL_BUSY true).syncEngine) := by
  rw [exec_veKloadGo, beq_self_eq_true, portal_of_allowed hreach]

theorem exec_veKloadUnload (s : State) (m : Master) (v : Word) : exec (.veKloadUnload m v) s =
    .next (s.portal m VE_KLOAD_CTRL (m == 0) ((s.put VE_KLOAD_CTRL_SLOT (bitsOf v.toNat 8 5)).stageBy m VE_KLOAD_CTRL
      (BitVec.ofNat 32 (2 + bitsOf v.toNat 8 5 * 0x100)))) := rfl

/-- An UNLOAD that finds room in the stage is staged there, and its slot is named. -/
theorem exec_veKloadUnload_of_room (hreach : s.reaches 0 VE_KLOAD_CTRL = true)
    (hnew : s.stage.find? (fun e => e.off = VE_KLOAD_CTRL) = none) (hroom : s.stagedNext < 1024) :
    exec (.veKloadUnload 0 v) s = .next { s.put VE_KLOAD_CTRL_SLOT (bitsOf v.toNat 8 5) with
      stage := s.stage ++ [⟨VE_KLOAD_CTRL, BitVec.ofNat 32 (2 + bitsOf v.toNat 8 5 * 0x100), 0, s.stagings⟩],
      stagings := s.stagings + 1 } := by
  rw [exec_veKloadUnload, beq_self_eq_true, portal_of_allowed hreach, stageBy_of_room (s := s.put _ _) hnew hroom, put_stage,
    put_stagings]

theorem exec_veKloadDone_of_served (h : s.served .kload = some u) : exec .veKloadDone s = .next u.kloadDone := by
  show execVeKloadDone s = _
  rw [execVeKloadDone, h]

theorem exec_veKloadDone_of_unserved (h : s.served .kload = none) : exec .veKloadDone s = .next s := by
  show execVeKloadDone s = _
  rw [execVeKloadDone, h]

/-! ### Cancels (R146) -/

/-- A cancel that is held shows PENDING, and leaves the pool. -/
theorem holdCancel_shows (s : State) (g : Group) (tag mask : Nat) (d : Bool) :
    (s.holdCancel g tag mask d).ve.cancel.get g = some (tag, mask, d) ∧
      (s.holdCancel g tag mask d).flag (VE_CANCEL_CTRL_PENDING g) = true ∧
      (s.holdCancel g tag mask d).ve.pool = s.ve.pool ∧ (s.holdCancel g tag mask d).mem = s.mem :=
  ⟨Vector.getElem_set_self g.isLt, flag_putFlag_same _ _ _ rfl Nat.one_pos, rfl, rfl⟩

/-- The bit PENDING of a cancel is apart from DISCARD. -/
theorem flag_holdCancel_discard (s : State) (g : Group) (tag mask : Nat) (d : Bool) :
    (s.holdCancel g tag mask d).flag (VE_CANCEL_CTRL_DISCARD g) = s.flag (VE_CANCEL_CTRL_DISCARD g) := by
  have hapart : (VE_CANCEL_CTRL_PENDING g).spares (VE_CANCEL_CTRL_DISCARD g) = true := by
    simp [Fld.spares, Fld.fits, Fld.apart, VE_CANCEL_CTRL_PENDING, VE_CANCEL_CTRL_DISCARD]
  rw [State.holdCancel, flag_putFlag_spared hapart, flag_onVe]

end Sys2Proof.Machine
end

section
open Sys2Proof Sys2Proof.Machine

/-- Settles O27: jobs by whether one runs and what its fetch answers, registers by the port of each. -/
theorem theVerifyEngineRunsItsCommands : Obligations.TheVerifyEngineRunsItsCommands := by
  unfold Obligations.TheVerifyEngineRunsItsCommands
  refine ⟨?jobEnd, ?noOutput, ?output, ?unread, ?ended, ?overrun, ?builtIn, ?idle, ?tileFault, ?tail, ?cancel, ?discard, ?foreign,
    ?busy, ?go, ?unload, ?done, ?undone, ?testStarts, ?testEnds, ?refused⟩
  case jobEnd => exact fun s n x hrun => exec_veJobEnd_of_running hrun
  case noOutput =>
    intro s u n x b aux _ hfetch hout
    rw [runJob_of_read hfetch, hout, if_neg Bool.false_ne_true]
  case output =>
    intro s u n x b aux _ hfetch hout
    rw [runJob_of_read hfetch, hout, if_pos rfl]
  case unread => exact fun s u n x _ hfetch => runJob_of_unread hfetch
  case ended =>
    intro s n x st res o hrun
    rw [endJob_of_running hrun]
    exact ⟨rfl, rfl, rfl⟩
  case overrun =>
    intro s n x hrun hk
    obtain ⟨f, hexec, hslots⟩ := exec_veOverrun_of_custom hrun hk
    refine ⟨_, hexec, ?_⟩
    obtain ⟨hve, hfcu, hmem⟩ := overrunCounted_rest s n
    rw [endJob_of_running ((running_overrunCounted s n n).trans hrun), ve_onVe, hslots, ve_onVe, hve, get_onVe, get_onVe, get_onVe,
      get_onVe, get_overrunCounted_total, get_overrunCounted_job, onVe_fcuIn, onVe_fcuIn, hfcu, onVe_mem, onVe_mem, hmem]
    exact ⟨rfl, rfl, rfl, rfl, rfl⟩
  case builtIn =>
    intro s n x hrun hk
    refine exec_veOverrun_of_no_custom (fun y hy => ?_)
    rw [← Option.some.inj (hrun.symm.trans hy)]
    exact hk
  case idle =>
    intro s n hidle
    refine ⟨exec_veJobEnd_of_idle hidle, exec_veOverrun_of_no_custom (fun y hy => ?_)⟩
    rw [hidle] at hy
    cases hy
  case tileFault => exact fun s n hn => ⟨_, exec_veTileFault_of_present hn, tileFault_shows s n⟩
  case tail =>
    intro s g m v hreach hm
    rw [exec_veSqTailWrite, ownOr0_of_own hm, portal_of_allowed hreach]
  case cancel =>
    intro s g m v hreach hm hgo
    rw [← BitVec.testBit_toNat] at hgo
    refine ⟨_, (exec_veCancelGo_of_own hreach hm).trans (congrArg _ (if_pos hgo)), ?_⟩
    obtain ⟨hcancel, hpending, hpool, hmem⟩ := holdCancel_shows (s.putFlag (VE_CANCEL_CTRL_DISCARD g) (v.toNat.testBit 1)) g
      (s.get (VE_CANCEL_TAG_TAG g)) (s.get (VE_CANCEL_MASK_MASK g)) (v.toNat.testBit 1)
    refine ⟨hcancel, hpending, ?_, hpool, hmem⟩
    rw [flag_holdCancel_discard, flag_putFlag_same _ _ _ rfl Nat.one_pos, BitVec.testBit_toNat]
  case discard =>
    intro s g m v hreach hm hgo
    rw [exec_veCancelGo_of_own hreach hm, BitVec.testBit_toNat, hgo, if_neg Bool.false_ne_true, BitVec.testBit_toNat]
  case foreign =>
    intro s g m v h0 hg htail hctrl
    rw [exec_veSqTailWrite, exec_veCancelGo, ownOr0_of_other h0 hg, portal_of_refused htail, portal_of_refused hctrl]
    exact ⟨rfl, rfl⟩
  case busy =>
    intro s hbusy hreach
    rw [exec_veKloadGo_of_reached hreach, if_pos hbusy]
  case go =>
    intro s hbusy hreach
    refine ⟨_, (exec_veKloadGo_of_reached hreach).trans (congrArg _ (if_neg (by rw [hbusy]; exact Bool.false_ne_true))), ?_⟩
    rw [flag_syncEngine, flag_putFlag_same _ _ _ rfl Nat.one_pos, syncEngine_ve, putFlag_ve, ve_onVe, syncEngine_mem, putFlag_mem,
      onVe_mem]
    exact ⟨rfl, rfl, rfl, rfl⟩
  case unload =>
    intro s v hreach hnew hroom
    exact ⟨_, exec_veKloadUnload_of_room hreach hnew hroom, rfl,
      (get_put_same s VE_KLOAD_CTRL_SLOT _ rfl).trans (Nat.mod_eq_of_lt (bitsOf_lt _ _ _)), rfl, rfl⟩
  case done => exact fun s u hserved => exec_veKloadDone_of_served hserved
  case undone => exact fun s hserved => exec_veKloadDone_of_unserved hserved
  case testStarts =>
    intro s n hreach hout htest
    rw [exec_vtReturn, beq_self_eq_true, portal_of_allowed hreach, if_pos ⟨List.contains_iff_mem.2 hout, by simp [htest]⟩]
  case testEnds =>
    intro s n pass htest
    exact ⟨_, exec_vtSelfTestDone_of_testing pass htest, rfl, rfl, flag_putFlag_same _ _ _ rfl Nat.one_pos, rfl, rfl⟩
  case refused =>
    intro s n m v hm hkload htile
    rw [exec_veKloadGo, exec_veKloadUnload, exec_vtReturn, beq_false_of_ne hm, portal_of_refused hkload, portal_of_refused hkload,
      portal_of_refused htile]
    exact ⟨rfl, rfl, rfl⟩

end

section
/-! An UNLOAD of the host behind one that the next boundary still holds (R46, R148, R363): the later write of `VE_KLOAD_CTRL` takes
the place of the one staged before it. -/

namespace Sys2Proof.Machine

/-- A KERNEL_LOAD packet that asks for the UNLOAD of slot 0x85. -/
def unloadPacket : Bytes :=
  [6, 2, 0, 128, 7] ++ List.replicate 22 0 ++ [1, 133] ++ List.replicate 35 0

/-- Kilnware takes the packets of queue 0. -/
def queueZeroRuns : State :=
  ((((((State.reset.putFlag HI_STAT_READY true).putFlag HI_STAT_LINK_UP true).putFlag HI_STAT_PF0_BME true).put (LS_STAT_STATE 0) 0).putFlag
    (HQ_CTRL_EN 0) true).putFlag (HQ_STAT_RUN 0) true).onHost (fun h => { h with msixOn := h.msixOn.set 0 true })

/-- The UNLOAD of slot 0x84 is staged, and that of slot 0x85 waits in the inbox. -/
def unloadStaged : State :=
  { queueZeroRuns.onHq 0 (fun h => { h with inbox := [unloadPacket] }) with
    stage := [⟨VE_KLOAD_CTRL, 0x402, 0, 0⟩], stagings := 1 }

/-- What the command asks for holds: the packet is alone at the front, nothing refuses it, and the stage has room. -/
theorem unloadStaged_meets : unloadStaged.takesPackets 0 = true ∧ unloadStaged.host.staging = [] ∧
    (unloadStaged.hq 0).inbox = [unloadPacket] ∧ (unloadStaged.hq 0).chain = [] ∧ (unloadStaged.hq 0).waitEnd = false ∧
    pktPos unloadPacket = 0 ∧ pktEnd unloadPacket = true ∧ pktOp unloadPacket = opKernelLoad ∧
    unloadStaged.nowRefused 0 unloadPacket = stOk ∧ unloadStaged.follows = false ∧ unloadStaged.leads = false ∧
    field unloadPacket 27 1 = 1 ∧ unloadStaged.stagedNext < stageMax ∧ unloadStaged.reaches 0 VE_KLOAD_CTRL = true := by
  decide +kernel

theorem exec_kernelLoad (s : State) (q : Queue) : exec (.kernelLoad q) s = .next (s.takeRow q opKernelLoad none) := rfl

/-- One write of the word stays staged, with the slot of the later command. -/
theorem stage_takeRow_unloadStaged :
    (unloadStaged.takeRow (0 : Queue) opKernelLoad none).stage = [⟨VE_KLOAD_CTRL, 0x502, 0, 1⟩] := by
  decide +kernel

end Sys2Proof.Machine
end

section
open Sys2Proof Sys2Proof.Machine

/-- Refutes O58: its clause on UNLOAD has the write added to the stage whatever the stage holds, but an UNLOAD that is staged already
is replaced (R46), so that one write is staged and not two. -/
theorem not_immediateCommandsOfTheHost : ¬ Obligations.ImmediateCommandsOfTheHost := by
  unfold Obligations.ImmediateCommandsOfTheHost
  rintro ⟨-, -, -, -, -, -, -, -, -, -, -, hunload, -⟩
  obtain ⟨htakes, hstaging, hinbox, hchain, hwait, hpos, hend, hop, hok, hfollows, hleads, hask, hroom, hreach⟩ := unloadStaged_meets
  obtain ⟨t, hexec, -, -, hstage, -⟩ := hunload unloadStaged 0 unloadPacket [] htakes hstaging hinbox hchain hwait hpos hend hop hok
    hfollows hleads hask hroom hreach
  obtain rfl : unloadStaged.takeRow (0 : Queue) opKernelLoad none = t :=
    Host.Outcome.next.inj ((exec_kernelLoad unloadStaged 0).symm.trans hexec)
  have hone : (unloadStaged.takeRow (0 : Queue) opKernelLoad none).stage.length = 1 := congrArg List.length stage_takeRow_unloadStaged
  have htwo : (unloadStaged.takeRow (0 : Queue) opKernelLoad none).stage.length = 2 := congrArg List.length hstage
  exact absurd (hone.symm.trans htwo) (by decide)

end

section
/-! The output channels: what a channel holds beside its registers, where its registers lie, and what leaves the other channels
alone (R165 to R172). -/

namespace Sys2Proof.Machine

variable {s t u : State} {n k : Chan}

/-! ### What a channel holds beside its registers -/

theorem chan_onChan_same (s : State) (n : Chan) (f : ChanState → ChanState) :
    (s.onChan n f).outs.chan.get n = f (s.outs.chan.get n) := by
  rw [State.onChan, State.onOuts, alter]
  exact Vector.getElem_set_self n.isLt

theorem chan_onChan_other (s : State) (f : ChanState → ChanState) (h : k ≠ n) :
    (s.onChan n f).outs.chan.get k = s.outs.chan.get k := by
  rw [State.onChan, State.onOuts, alter]
  exact Vector.getElem_set_ne n.isLt k.isLt (fun x => h (Fin.ext x.symm))

@[simp] theorem get_onChan (s : State) (n : Chan) (g : ChanState → ChanState) (f : Fld) : (s.onChan n g).get f = s.get f := rfl
@[simp] theorem flag_onChan (s : State) (n : Chan) (g : ChanState → ChanState) (f : Fld) : (s.onChan n g).flag f = s.flag f := rfl

/-! ### Where the registers of a channel lie -/

/-- A field of a channel spares another of that channel where those of channel 0 do. -/
theorem spares_of_chan {n c d lo w lo' w' : Nat} (h : Fld.spares ⟨c, lo, w⟩ ⟨d, lo', w'⟩ = true) :
    Fld.spares ⟨c + n * 0x40, lo, w⟩ ⟨d + n * 0x40, lo', w'⟩ = true := by
  simpa [Fld.spares, Fld.fits, Fld.apart] using h

/-- A field in which the pins of a channel and its running pulse do not show. -/
structure Fld.besidePins (n : Nat) (g : Fld) : Prop where
  pulsing : (PEO_STAT_PULSING n).spares g = true
  pinA : (PEO_STAT_DRV_A n).spares g = true
  pinB : (PEO_STAT_DRV_B n).spares g = true
  stamp : g.off ≠ PEO_LAST_TT n
  stampHigh : g.off ≠ PEO_LAST_TT n + 4

/-- A field of a channel is beside the channel's pins where that of channel 0 is. -/
theorem besidePins_of_chan {n c lo w : Nat} (h : c < 0x21038) (ha : (PEO_STAT_PULSING 0).spares ⟨c, lo, w⟩ = true)
    (hb : (PEO_STAT_DRV_A 0).spares ⟨c, lo, w⟩ = true) (hc : (PEO_STAT_DRV_B 0).spares ⟨c, lo, w⟩ = true) :
    Fld.besidePins n ⟨c + n * 0x40, lo, w⟩ where
  pulsing := spares_of_chan ha
  pinA := spares_of_chan hb
  pinB := spares_of_chan hc
  stamp := by dsimp only [PEO_LAST_TT]; omega
  stampHigh := by dsimp only [PEO_LAST_TT]; omega

/-! ### What leaves the other channels alone -/

/-- `t` differs from `s` in the registers, in what channel `n` holds and in the faults on their way alone. -/
structure ChanOnly (n : Chan) (s t : State) : Prop where
  chans : ∀ k : Chan, k ≠ n → t.outs.chan.get k = s.outs.chan.get k
  rest : t = { s with regs := t.regs, outs := t.outs, fcuIn := t.fcuIn }

theorem ChanOnly.refl (n : Chan) (s : State) : ChanOnly n s s :=
  ⟨fun _ _ => rfl, rfl⟩

theorem ChanOnly.trans (h : ChanOnly n s t) (g : ChanOnly n t u) : ChanOnly n s u where
  chans k hk := (g.chans k hk).trans (h.chans k hk)
  rest := by rw [g.rest, h.rest]

section
variable (h : ChanOnly n s t)
include h

theorem ChanOnly.mem : t.mem = s.mem := by rw [h.rest]
theorem ChanOnly.wheel : t.wheel = s.wheel := by rw [h.rest]
theorem ChanOnly.tt : t.tt = s.tt := by rw [h.rest]

theorem ChanOnly.wr (off : Nat) (v : Word) : ChanOnly n s (t.wr off v) := h.trans ⟨fun _ _ => rfl, rfl⟩
theorem ChanOnly.putFlag (f : Fld) (b : Bool) : ChanOnly n s (t.putFlag f b) := h.wr _ _
theorem ChanOnly.bump (f : Fld) : ChanOnly n s (t.bump f) := h.wr _ _
theorem ChanOnly.wr64 (off v : Nat) : ChanOnly n s (t.wr64 off v) := (h.wr _ _).wr _ _
theorem ChanOnly.raise (id detail : Nat) : ChanOnly n s (t.raise id detail) := h.trans ⟨fun _ _ => rfl, rfl⟩

theorem ChanOnly.onChan (f : ChanState → ChanState) : ChanOnly n s (t.onChan n f) :=
  h.trans ⟨fun _ hk => chan_onChan_other _ _ hk, rfl⟩

theorem ChanOnly.ite {c : Prop} [Decidable c] (g : ChanOnly n s u) : ChanOnly n s (if c then t else u) :=
  holds_ite (P := ChanOnly n s) h g

theorem ChanOnly.setLogic (l : Bool) (at_ : Nat) : ChanOnly n s (t.setLogic n l at_) :=
  h.ite ((h.putFlag _ _).onChan _)

theorem ChanOnly.endPulse (at_ : Nat) : ChanOnly n s (t.endPulse n at_) :=
  ((h.onChan _).setLogic _ _).ite h

theorem ChanOnly.syncChan (at_ : Nat) : ChanOnly n s (t.syncChan n at_) :=
  (h.putFlag _ _).ite ((((h.putFlag _ _).putFlag _ _).putFlag _ _).wr64 _ _)

theorem ChanOnly.samplePei (a b : Bool) : ChanOnly n s (t.samplePei n a b) :=
  (h.putFlag _ _).putFlag _ _

theorem ChanOnly.mismatch : ChanOnly n s (t.mismatch n) :=
  (((h.putFlag _ _).bump _).putFlag _ _).raise _ _

end

/-! ### Pins brought to their levels (R164, R165, R171) -/

@[simp] theorem syncChan_outs (s : State) (n : Chan) (at_ : Nat) : (s.syncChan n at_).outs = s.outs := by
  unfold State.syncChan
  extract_lets
  split <;> rfl

@[simp] theorem syncChan_fcuIn (s : State) (n : Chan) (at_ : Nat) : (s.syncChan n at_).fcuIn = s.fcuIn := by
  unfold State.syncChan
  extract_lets
  split <;> rfl

/-- The fields in which neither the pins nor the pulse shows read as before. -/
theorem get_syncChan_other {g : Fld} (h : g.besidePins n) (at_ : Nat) : (s.syncChan n at_).get g = s.get g := by
  unfold State.syncChan
  extract_lets p
  split
  · exact get_putFlag_spared h.pulsing _ _
  · rw [get_wr64_other _ h.stamp h.stampHigh, get_putFlag_spared h.pinB, get_putFlag_spared h.pinA, get_putFlag_spared h.pulsing]

theorem flag_syncChan_other {g : Fld} (h : g.besidePins n) (at_ : Nat) : (s.syncChan n at_).flag g = s.flag g :=
  flag_eq_of_get_eq (get_syncChan_other h at_)

@[simp] theorem logic_syncChan (s : State) (n : Chan) (at_ : Nat) : (s.syncChan n at_).logic n = s.logic n :=
  flag_syncChan_other (besidePins_of_chan (by decide) rfl rfl rfl) at_

/-- The status of a channel whose pins have been brought to their levels shows its pulse and these levels. -/
theorem syncChan_shows (s : State) (n : Chan) (at_ : Nat) :
    (s.syncChan n at_).flag (PEO_STAT_PULSING n) = (s.outs.chan.get n).pulse.isSome ∧
      (s.syncChan n at_).flag (PEO_STAT_DRV_A n) = (s.pinLevels n).1 ∧
      (s.syncChan n at_).flag (PEO_STAT_DRV_B n) = (s.pinLevels n).2 := by
  have hstamp {f : Fld} {t : State} (v : Nat) (h : f.off = PEO_STAT n) : (t.wr64 (PEO_LAST_TT n) v).flag f = t.flag f :=
    flag_eq_of_get_eq (get_wr64_other _ (by rw [h]; unfold PEO_STAT PEO_LAST_TT; omega) (by rw [h]; unfold PEO_STAT PEO_LAST_TT; omega))
  unfold State.syncChan
  extract_lets p s1
  have hpulsing : s1.flag (PEO_STAT_PULSING n) = (s.outs.chan.get n).pulse.isSome := flag_putFlag_same _ _ _ rfl Nat.one_pos
  split
  next heq =>
    obtain ⟨ha, hb⟩ := Prod.ext_iff.1 heq
    exact ⟨hpulsing, ha.symm, hb.symm⟩
  next =>
    refine ⟨?_, ?_, ?_⟩
    · rw [hstamp _ rfl, flag_putFlag_spared, flag_putFlag_spared, hpulsing]
      all_goals exact spares_of_chan rfl
    · rw [hstamp _ rfl, flag_putFlag_spared, flag_putFlag_same _ _ _ rfl Nat.one_pos]
      exact spares_of_chan rfl
    · rw [hstamp _ rfl, flag_putFlag_same _ _ _ rfl Nat.one_pos]

/-! ### L and pulses (R165, R166) -/

@[simp] theorem logic_setLogic (s : State) (n : Chan) (l : Bool) (at_ : Nat) : (s.setLogic n l at_).logic n = l := by
  unfold State.setLogic
  split
  next h => exact h
  next => exact flag_putFlag_same s (PEO_STAT_LOGIC n) l rfl Nat.one_pos

@[simp] theorem pulse_setLogic (s : State) (n : Chan) (l : Bool) (at_ : Nat) :
    ((s.setLogic n l at_).outs.chan.get n).pulse = (s.outs.chan.get n).pulse := by
  unfold State.setLogic
  split
  · rfl
  · rw [chan_onChan_same, putFlag_outs]

/-- A pulse that ends leaves none, and L at the safe level. -/
theorem endPulse_shows (at_ : Nat) (h : (s.outs.chan.get n).pulse.isSome = true) :
    ((s.endPulse n at_).outs.chan.get n).pulse = none ∧ (s.endPulse n at_).logic n = s.safeVal n ∧
      (s.endPulse n at_).fcuIn = s.fcuIn := by
  rw [State.endPulse, if_pos h]
  refine ⟨?_, logic_setLogic _ _ _ _, ?_⟩
  · rw [pulse_setLogic, chan_onChan_same]
  · unfold State.setLogic
    split <;> rfl

/-! ### Readback (R170) -/

/-- A sample of the readback pins shows in their two bits. -/
theorem samplePei_shows (s : State) (n : Chan) (a b : Bool) : (s.samplePei n a b).flag (PEO_STAT_RB_A n) = a ∧
    (s.samplePei n a b).flag (PEO_STAT_RB_B n) = b := by
  refine ⟨?_, flag_putFlag_same _ _ _ rfl Nat.one_pos⟩
  rw [State.samplePei, flag_putFlag_spared, flag_putFlag_same _ _ _ rfl Nat.one_pos]
  exact spares_of_chan rfl

/-- The fields beside the two readback bits read as before a sample. -/
theorem get_samplePei_other {g : Fld} (ha : (PEO_STAT_RB_A n).spares g = true) (hb : (PEO_STAT_RB_B n).spares g = true) (a b : Bool) :
    (s.samplePei n a b).get g = s.get g := by
  rw [State.samplePei, get_putFlag_spared hb, get_putFlag_spared ha]

theorem flag_samplePei_other {g : Fld} (ha : (PEO_STAT_RB_A n).spares g = true) (hb : (PEO_STAT_RB_B n).spares g = true) (a b : Bool) :
    (s.samplePei n a b).flag g = s.flag g :=
  flag_eq_of_get_eq (get_samplePei_other ha hb a b)

theorem fcuIn_raise_chan (s : State) (id : Nat) (n : Chan) : (s.raise id n).fcuIn = s.fcuIn ++ [⟨id, n, false, 0, s.tt⟩] := by
  have hn : n.val % 2 ^ 32 = n := Nat.mod_eq_of_lt (by omega)
  rw [State.raise, hn]

/-- A mismatch is flagged, counted and raised. -/
theorem mismatch_shows (s : State) (n : Chan) : (s.mismatch n).flag (PEO_STAT_RB_ERR n) = true ∧
    (s.mismatch n).flag (PEO_ISR_RB_ERR n) = true ∧
    (s.mismatch n).get (PEO_RB_ERR_CNT_CNT n) = min (s.get (PEO_RB_ERR_CNT_CNT n) + 1) (2 ^ (PEO_RB_ERR_CNT_CNT n).width - 1) ∧
    (s.mismatch n).fcuIn =
      s.fcuIn ++ [⟨if s.flag (PEO_CFG_SAFETY n) then F_PEO_RB_SAFETY else F_PEO_RB_MISMATCH, n.val, false, 0, s.tt⟩] := by
  unfold State.mismatch
  extract_lets s1
  refine ⟨?_, ?_, ?_, ?_⟩
  · rw [flag_raise, flag_putFlag_spared, flag_bump_spared, flag_putFlag_same _ _ _ rfl Nat.one_pos]
    all_goals exact spares_of_chan rfl
  · rw [flag_raise, flag_putFlag_same _ _ _ rfl Nat.one_pos]
  · rw [get_raise, get_putFlag_spared, get_bump_same _ _ rfl, get_putFlag_spared]
    all_goals exact spares_of_chan rfl
  · rw [fcuIn_raise_chan, putFlag_fcuIn, bump_fcuIn, putFlag_fcuIn, putFlag_tt, bump_tt, putFlag_tt]

/-- The fields beside the mismatch's own read as before it. -/
theorem flag_mismatch_other {g : Fld} (hstat : (PEO_STAT_RB_ERR n).spares g = true) (hcnt : (PEO_RB_ERR_CNT_CNT n).spares g = true)
    (hisr : (PEO_ISR_RB_ERR n).spares g = true) : (s.mismatch n).flag g = s.flag g := by
  unfold State.mismatch
  rw [flag_raise, flag_putFlag_spared hisr, flag_bump_spared hcnt, flag_putFlag_spared hstat]

end Sys2Proof.Machine
end

section
/-! The commands of the output channels and of the SAFE_STOP pins, where their conditions hold (R165 to R174). -/

namespace Sys2Proof.Machine

variable {s : State} {n : Chan} {a b : Bool}

/-! ### Pulses (R165, R166) -/

theorem exec_timePulseEnd_of_due {e : Nat} (hp : (s.outs.chan.get n).pulse = some (.time e)) (hdue : e ≤ s.tt) :
    exec (.timePulseEnd n) s = .next ((s.endPulse n e).syncChan n e) := by
  show execTimePulseEnd n s = _
  rw [execTimePulseEnd, hp]
  exact congrArg _ (if_pos hdue)

theorem exec_timePulseEnd_of_none (hp : (s.outs.chan.get n).pulse = none) : exec (.timePulseEnd n) s = .next s := by
  show execTimePulseEnd n s = _
  rw [execTimePulseEnd, hp]

theorem exec_peoPulseMax_of_due {c : Int} {up : Bool} {e : Nat} (hp : (s.outs.chan.get n).pulse = some (.pos c up (some e)))
    (hdue : e ≤ s.tt) : exec (.peoPulseMax n) s =
      .next (((((s.endPulse n e).syncChan n e).putFlag (PEO_STAT_PMAX_END n) true).putFlag (PEO_ISR_PMAX n) true).raise
        F_PEO_PULSE_MAX n) := by
  show execPeoPulseMax n s = _
  rw [execPeoPulseMax, hp]
  exact congrArg _ (if_pos hdue)

theorem exec_peoPulseMax_of_none (hp : (s.outs.chan.get n).pulse = none) : exec (.peoPulseMax n) s = .next s := by
  show execPeoPulseMax n s = _
  rw [execPeoPulseMax, hp]

theorem chanOnly_pulseEnded (s : State) (n : Chan) (at_ : Nat) : ChanOnly n s ((s.endPulse n at_).syncChan n at_) :=
  ((ChanOnly.refl n s).endPulse at_).syncChan at_

/-- A pulse has ended, and the pins have followed: L is safe, and the status shows no pulse. -/
theorem pulseEnded_shows (at_ : Nat) (h : (s.outs.chan.get n).pulse.isSome = true) :
    (((s.endPulse n at_).syncChan n at_).outs.chan.get n).pulse = none ∧
      ((s.endPulse n at_).syncChan n at_).logic n = s.safeVal n ∧
      ((s.endPulse n at_).syncChan n at_).flag (PEO_STAT_PULSING n) = false ∧
      ((s.endPulse n at_).syncChan n at_).fcuIn = s.fcuIn := by
  obtain ⟨hnone, hsafe, hfcu⟩ := endPulse_shows at_ h
  refine ⟨?_, ?_, ?_, ?_⟩
  · rw [syncChan_outs, hnone]
  · rw [logic_syncChan, hsafe]
  · rw [(syncChan_shows _ n at_).1, hnone, Option.isSome_none]
  · rw [syncChan_fcuIn, hfcu]

/-! ### The off-pulse test (R171) -/

/-- What lets an off-pulse test of a channel begin. -/
def testDue (s : State) (n : Chan) : Bool :=
  s.flag (PEO_CFG_TEST_EN n) && s.get (PEO_CFG_MODE n) != 0 && !s.holdCause n && (s.outs.chan.get n).test.isNone
    && (s.outs.chan.get n).pulse.isNone && s.logic n != s.safeVal n
    && decide ((s.outs.chan.get n).since + s.get (PEO_TEST_CFG_PER n) * 1250000 ≤ s.tt)

/-- The state in which an off-pulse test of a channel has begun, its pins still as before. -/
def testBegun (s : State) (n : Chan) : State :=
  s.onChan n (fun c => { c with test := some s.tt })

theorem exec_offPulseTest (s : State) (n : Chan) : exec (.offPulseTest n) s =
    .next (if testDue s n then (testBegun s n).syncChan n s.tt else s) := rfl

theorem exec_offPulseTest_of_due (h : testDue s n = true) : exec (.offPulseTest n) s = .next ((testBegun s n).syncChan n s.tt) := by
  rw [exec_offPulseTest, if_pos h]

theorem exec_offPulseTest_of_barred (h : s.flag (PEO_CFG_TEST_EN n) = false ∨ s.holdCause n = true) :
    exec (.offPulseTest n) s = .next s := by
  have hdue : testDue s n = false := by rcases h with h | h <;> simp [testDue, h]
  rw [exec_offPulseTest, hdue, if_neg Bool.false_ne_true]

/-- A test drives both pins of a channel to their safe levels. -/
theorem pinLevels_testBegun (hio : s.outs.ioLost = false) :
    (testBegun s n).pinLevels n = (s.safeVal n, s.safeVal n != s.flag (PEO_CFG_B_ANTI n)) := by
  have hsafe : (testBegun s n).safeVal n = s.safeVal n := rfl
  have htest : ((testBegun s n).outs.chan.get n).test.isSome = true := by rw [testBegun, chan_onChan_same, Option.isSome_some]
  have hlost : (testBegun s n).outs.ioLost = false := hio
  rw [State.pinLevels, htest, hlost, hsafe, Bool.or_true]
  simp [testBegun]

/-- The verdict of a test: a pass is counted, a failure flagged with a mismatch. -/
def testJudged (s : State) (n : Chan) (a b : Bool) : State :=
  if (a, b) = s.expectRb n then (s.samplePei n a b).bump (PEO_TEST_CNT_CNT n)
  else (((s.samplePei n a b).mismatch n).putFlag (PEO_STAT_TEST_ERR n) true).putFlag (PEO_ISR_TEST_ERR n) true

/-- The state in which the test of a channel has ended with its verdict. -/
def testEnded (s : State) (n : Chan) (a b : Bool) : State :=
  ((testJudged s n a b).onChan n (fun c => { c with test := none, since := (testJudged s n a b).tt })).syncChan n (testJudged s n a b).tt

theorem chanOnly_testJudged (s : State) (n : Chan) (a b : Bool) : ChanOnly n s (testJudged s n a b) :=
  have h := (ChanOnly.refl n s).samplePei a b
  (h.bump _).ite ((h.mismatch.putFlag _ _).putFlag _ _)

theorem exec_offPulseTestEnd_of_due {e : Nat} (ht : (s.outs.chan.get n).test = some e) (hdue : e + s.get (PEO_TEST_CFG_W n) ≤ s.tt) :
    exec (.offPulseTestEnd n a b) s = .next (testEnded s n a b) := by
  show execOffPulseTestEnd n a b s = _
  rw [execOffPulseTestEnd, ht, testEnded, (chanOnly_testJudged s n a b).tt]
  exact congrArg _ (if_pos hdue)

theorem exec_offPulseTestEnd_of_none (ht : (s.outs.chan.get n).test = none) : exec (.offPulseTestEnd n a b) s = .next s := by
  show execOffPulseTestEnd n a b s = _
  rw [execOffPulseTestEnd, ht]

theorem chanOnly_testEnded (s : State) (n : Chan) (a b : Bool) : ChanOnly n s (testEnded s n a b) :=
  ((chanOnly_testJudged s n a b).onChan _).syncChan _

theorem chan_testEnded (s : State) (n : Chan) (a b : Bool) :
    ((testEnded s n a b).outs.chan.get n).test = none ∧ ((testEnded s n a b).outs.chan.get n).since = s.tt := by
  rw [testEnded, syncChan_outs, chan_onChan_same]
  exact ⟨rfl, (chanOnly_testJudged s n a b).tt⟩

theorem fcuIn_testEnded (s : State) (n : Chan) (a b : Bool) : (testEnded s n a b).fcuIn = (testJudged s n a b).fcuIn := by
  rw [testEnded, syncChan_fcuIn, onChan_fcuIn]

/-- The end of a test leaves the fields beside the pins as the verdict leaves them. -/
theorem get_testEnded {g : Fld} (h : g.besidePins n) : (testEnded s n a b).get g = (testJudged s n a b).get g := by
  rw [testEnded, get_syncChan_other h, get_onChan]

theorem flag_testEnded {g : Fld} (h : g.besidePins n) : (testEnded s n a b).flag g = (testJudged s n a b).flag g :=
  flag_eq_of_get_eq (get_testEnded h)

/-- A test that passes is counted; the readback pins show, L and the faults are as before. -/
theorem testEnded_of_pass (h : (a, b) = s.expectRb n) :
    (testEnded s n a b).get (PEO_TEST_CNT_CNT n) = min (s.get (PEO_TEST_CNT_CNT n) + 1) (2 ^ (PEO_TEST_CNT_CNT n).width - 1) ∧
      (testEnded s n a b).flag (PEO_STAT_RB_A n) = a ∧ (testEnded s n a b).flag (PEO_STAT_RB_B n) = b ∧
      (testEnded s n a b).logic n = s.logic n ∧ (testEnded s n a b).fcuIn = s.fcuIn := by
  have hj : testJudged s n a b = (s.samplePei n a b).bump (PEO_TEST_CNT_CNT n) := if_pos h
  obtain ⟨ha, hb⟩ := samplePei_shows s n a b
  refine ⟨?_, ?_, ?_, ?_, ?_⟩
  · refine Eq.trans (get_testEnded (besidePins_of_chan (by decide) rfl rfl rfl)) ?_
    rw [hj, get_bump_same _ _ rfl, get_samplePei_other]
    all_goals exact spares_of_chan rfl
  · refine Eq.trans (flag_testEnded (besidePins_of_chan (by decide) rfl rfl rfl)) ?_
    rw [hj, flag_bump_spared, ha]
    exact spares_of_chan rfl
  · refine Eq.trans (flag_testEnded (besidePins_of_chan (by decide) rfl rfl rfl)) ?_
    rw [hj, flag_bump_spared, hb]
    exact spares_of_chan rfl
  · refine Eq.trans (flag_testEnded (besidePins_of_chan (by decide) rfl rfl rfl)) ?_
    rw [hj, flag_bump_spared, flag_samplePei_other, State.logic]
    all_goals exact spares_of_chan rfl
  · rw [fcuIn_testEnded, hj]
    rfl

/-- What a mismatch of sampled readback pins leaves. -/
theorem mismatch_samplePei_shows (s : State) (n : Chan) (a b : Bool) :
    ((s.samplePei n a b).mismatch n).flag (PEO_STAT_RB_ERR n) = true ∧
    ((s.samplePei n a b).mismatch n).flag (PEO_ISR_RB_ERR n) = true ∧
    ((s.samplePei n a b).mismatch n).get (PEO_RB_ERR_CNT_CNT n) =
      min (s.get (PEO_RB_ERR_CNT_CNT n) + 1) (2 ^ (PEO_RB_ERR_CNT_CNT n).width - 1) ∧
    ((s.samplePei n a b).mismatch n).fcuIn =
      s.fcuIn ++ [⟨if s.flag (PEO_CFG_SAFETY n) then F_PEO_RB_SAFETY else F_PEO_RB_MISMATCH, n.val, false, 0, s.tt⟩] := by
  have hsafety : (s.samplePei n a b).flag (PEO_CFG_SAFETY n) = s.flag (PEO_CFG_SAFETY n) :=
    flag_samplePei_other (spares_of_chan rfl) (spares_of_chan rfl) a b
  have hcnt : (s.samplePei n a b).get (PEO_RB_ERR_CNT_CNT n) = s.get (PEO_RB_ERR_CNT_CNT n) :=
    get_samplePei_other (spares_of_chan rfl) (spares_of_chan rfl) a b
  have h := mismatch_shows (s.samplePei n a b) n
  rw [hsafety, hcnt] at h
  exact h

/-- A test that fails is flagged, with a mismatch. -/
theorem testEnded_of_fail (h : (a, b) ≠ s.expectRb n) : (testEnded s n a b).flag (PEO_STAT_TEST_ERR n) = true ∧
    (testEnded s n a b).flag (PEO_STAT_RB_ERR n) = true ∧ (testEnded s n a b).flag (PEO_ISR_TEST_ERR n) = true ∧
    (testEnded s n a b).fcuIn =
      s.fcuIn ++ [⟨if s.flag (PEO_CFG_SAFETY n) then F_PEO_RB_SAFETY else F_PEO_RB_MISMATCH, n.val, false, 0, s.tt⟩] ∧
    (testEnded s n a b).get (PEO_RB_ERR_CNT_CNT n) =
      min (s.get (PEO_RB_ERR_CNT_CNT n) + 1) (2 ^ (PEO_RB_ERR_CNT_CNT n).width - 1) := by
  have hj : testJudged s n a b =
      (((s.samplePei n a b).mismatch n).putFlag (PEO_STAT_TEST_ERR n) true).putFlag (PEO_ISR_TEST_ERR n) true := if_neg h
  obtain ⟨hstat, -, hcnt, hfcu⟩ := mismatch_samplePei_shows s n a b
  refine ⟨?_, ?_, ?_, ?_, ?_⟩
  · refine Eq.trans (flag_testEnded (besidePins_of_chan (by decide) rfl rfl rfl)) ?_
    rw [hj, flag_putFlag_spared, flag_putFlag_same _ _ _ rfl Nat.one_pos]
    exact spares_of_chan rfl
  · refine Eq.trans (flag_testEnded (besidePins_of_chan (by decide) rfl rfl rfl)) ?_
    rw [hj, flag_putFlag_spared, flag_putFlag_spared, hstat]
    all_goals exact spares_of_chan rfl
  · refine Eq.trans (flag_testEnded (besidePins_of_chan (by decide) rfl rfl rfl)) ?_
    rw [hj, flag_putFlag_same _ _ _ rfl Nat.one_pos]
  · rw [fcuIn_testEnded, hj, putFlag_fcuIn, putFlag_fcuIn, hfcu]
  · refine Eq.trans (get_testEnded (besidePins_of_chan (by decide) rfl rfl rfl)) ?_
    rw [hj, get_putFlag_spared, get_putFlag_spared, hcnt]
    all_goals exact spares_of_chan rfl

/-! ### Readback (R170) and SAFE_STOP feedback (R174) -/

theorem exec_readbackMismatch (s : State) (n : Chan) (a b : Bool) : exec (.readbackMismatch n a b) s =
    .next (if s.flag (PEO_CFG_RB_EN n)
        && decide (s.rd64 (PEO_LAST_TT n) + s.get (PEO_RB_DLY_KCLK n) + s.get (PEO_RB_FILT_KCLK n) ≤ s.tt)
        && decide ((a, b) ≠ s.expectRb n) then (s.samplePei n a b).mismatch n
      else s.samplePei n a b) := rfl

theorem exec_readbackMismatch_of_due (hen : s.flag (PEO_CFG_RB_EN n) = true)
    (hdue : s.rd64 (PEO_LAST_TT n) + s.get (PEO_RB_DLY_KCLK n) + s.get (PEO_RB_FILT_KCLK n) ≤ s.tt) (hrb : (a, b) ≠ s.expectRb n) :
    exec (.readbackMismatch n a b) s = .next ((s.samplePei n a b).mismatch n) := by
  rw [exec_readbackMismatch, hen, decide_eq_true hdue, decide_eq_true hrb, Bool.and_true, Bool.and_true, if_pos rfl]

theorem exec_readbackMismatch_of_agreed (h : s.flag (PEO_CFG_RB_EN n) = false ∨ (a, b) = s.expectRb n) :
    exec (.readbackMismatch n a b) s = .next (s.samplePei n a b) := by
  rw [exec_readbackMismatch]
  rcases h with h | h <;> simp [h]

/-- A sampled pin and a mismatch leave each other's flags. -/
theorem flag_mismatch_samplePei (s : State) (n : Chan) (a b : Bool) :
    ((s.samplePei n a b).mismatch n).flag (PEO_STAT_RB_A n) = a ∧ ((s.samplePei n a b).mismatch n).flag (PEO_STAT_RB_B n) = b := by
  obtain ⟨ha, hb⟩ := samplePei_shows s n a b
  constructor
  · exact Eq.trans (flag_mismatch_other (spares_of_chan rfl) (spares_of_chan rfl) (spares_of_chan rfl)) ha
  · exact Eq.trans (flag_mismatch_other (spares_of_chan rfl) (spares_of_chan rfl) (spares_of_chan rfl)) hb

theorem mismatch_samplePei_outs (s : State) (n : Chan) (a b : Bool) : ((s.samplePei n a b).mismatch n).outs = s.outs := by
  rw [State.mismatch, raise_outs, putFlag_outs, bump_outs, putFlag_outs, State.samplePei, putFlag_outs, putFlag_outs]

/-- The level that a SAFE_STOP pin is driven to. -/
def State.stopDrive (s : State) (k : Fin 2) : Bool :=
  if k.val = 0 then s.flag EW_SSTOP_STAT_DRV0 else s.flag EW_SSTOP_STAT_DRV1

/-- The field that shows the level of a SAFE_STOP feedback pin. -/
def stopFeedback (k : Fin 2) : Fld :=
  if k.val = 0 then EW_SSTOP_STAT_FB0 else EW_SSTOP_STAT_FB1

theorem exec_safeStopFb (s : State) (k : Fin 2) (l : Bool) : exec (.safeStopFb k l) s =
    .next (if s.flag EW_SSTOP_CFG_FB_EN && l != s.stopDrive k
        && decide (s.outs.stopTt + s.get EW_SSTOP_CFG_FB_DLY * 1250000 < s.tt) then
      (((s.putFlag (stopFeedback k) l).putFlag EW_SSTOP_STAT_FB_ERR true).raise F_SAFE_STOP_FB k).raiseSrc 107
    else s.putFlag (stopFeedback k) l) := rfl

theorem exec_safeStopFb_of_differing {k : Fin 2} {l : Bool} (hen : s.flag EW_SSTOP_CFG_FB_EN = true) (hl : l ≠ s.stopDrive k)
    (hdue : s.outs.stopTt + s.get EW_SSTOP_CFG_FB_DLY * 1250000 < s.tt) : exec (.safeStopFb k l) s =
      .next ((((s.putFlag (stopFeedback k) l).putFlag EW_SSTOP_STAT_FB_ERR true).raise F_SAFE_STOP_FB k).raiseSrc 107) := by
  rw [exec_safeStopFb, hen, bne_iff_ne.2 hl, decide_eq_true hdue, Bool.and_true, Bool.and_true, if_pos rfl]

theorem exec_safeStopFb_of_agreed {k : Fin 2} {l : Bool} (h : s.flag EW_SSTOP_CFG_FB_EN = false ∨ l = s.stopDrive k) :
    exec (.safeStopFb k l) s = .next (s.putFlag (stopFeedback k) l) := by
  rw [exec_safeStopFb]
  rcases h with h | h <;> simp [h]

end Sys2Proof.Machine
end

section
open Sys2Proof Sys2Proof.Machine

/-- Settles O30: each command that is due by what its end, its verdict or its mismatch shows, and `ChanOnly` for the rest. -/
theorem outputsPulseAndAreTested : Obligations.OutputsPulseAndAreTested := by
  unfold Obligations.OutputsPulseAndAreTested
  refine ⟨?timeEnd, ?capEnd, ?noPulse, ?test, ?barred, ?pass, ?fail, ?noTest, ?mismatch, ?agreed, ?feedback, ?quiet⟩
  case timeEnd =>
    intro s n e hp hdue
    obtain ⟨hnone, hsafe, hpulsing, -⟩ := pulseEnded_shows e (Option.isSome_of_eq_some hp)
    have hone := chanOnly_pulseEnded s n e
    exact ⟨_, exec_timePulseEnd_of_due hp hdue, hnone, hsafe, hpulsing, hone.chans, hone.wheel, hone.mem⟩
  case capEnd =>
    intro s n c up e hp hdue
    obtain ⟨hnone, hsafe, -, hfcu⟩ := pulseEnded_shows e (Option.isSome_of_eq_some hp)
    have hone := chanOnly_pulseEnded s n e
    have hmax := ((hone.putFlag (PEO_STAT_PMAX_END n) true).putFlag (PEO_ISR_PMAX n) true).raise F_PEO_PULSE_MAX n
    refine ⟨_, exec_peoPulseMax_of_due hp hdue, hnone, ?_, ?_, ?_, ?_, hmax.chans, hmax.mem⟩
    · rw [← hsafe, State.logic, flag_raise, flag_putFlag_spared, flag_putFlag_spared, State.logic]
      all_goals exact spares_of_chan rfl
    · rw [flag_raise, flag_putFlag_spared, flag_putFlag_same _ _ _ rfl Nat.one_pos]
      exact spares_of_chan rfl
    · rw [flag_raise, flag_putFlag_same _ _ _ rfl Nat.one_pos]
    · rw [fcuIn_raise_chan, putFlag_fcuIn, putFlag_fcuIn, hfcu, putFlag_tt, putFlag_tt, hone.tt]
  case noPulse => exact fun s n hp => ⟨exec_timePulseEnd_of_none hp, exec_peoPulseMax_of_none hp⟩
  case test =>
    intro s n hen hmode hfree htest hpulse hlogic hper hio
    have hdue : testDue s n = true := by
      simp [testDue, hen, hmode, hfree, htest, hpulse, hlogic, hper]
    have hone : ChanOnly n s ((testBegun s n).syncChan n s.tt) := ((ChanOnly.refl n s).onChan _).syncChan _
    obtain ⟨-, ha, hb⟩ := syncChan_shows (testBegun s n) n s.tt
    rw [pinLevels_testBegun hio] at ha hb
    refine ⟨_, exec_offPulseTest_of_due hdue, ?_, ha, hb, logic_syncChan _ _ _, hone.chans, hone.mem⟩
    rw [syncChan_outs, testBegun, chan_onChan_same]
  case barred => exact fun s n h => exec_offPulseTest_of_barred h
  case pass =>
    intro s n a b e ht hdue hrb
    obtain ⟨hcnt, ha, hb, hlogic, hfcu⟩ := testEnded_of_pass hrb
    obtain ⟨htest, hsince⟩ := chan_testEnded s n a b
    have hone := chanOnly_testEnded s n a b
    exact ⟨_, exec_offPulseTestEnd_of_due ht hdue, htest, hsince, hcnt, ha, hb, hlogic, hfcu, hone.chans, hone.mem⟩
  case fail =>
    intro s n a b e ht hdue hrb
    obtain ⟨hstat, herr, hisr, hfcu, hcnt⟩ := testEnded_of_fail hrb
    have hone := chanOnly_testEnded s n a b
    exact ⟨_, exec_offPulseTestEnd_of_due ht hdue, (chan_testEnded s n a b).1, hstat, herr, hisr, hfcu, hcnt, hone.chans, hone.mem⟩
  case noTest => exact fun s n a b ht => exec_offPulseTestEnd_of_none ht
  case mismatch =>
    intro s n a b hen hdue hrb
    obtain ⟨ha, hb⟩ := flag_mismatch_samplePei s n a b
    obtain ⟨herr, hisr, hcnt, hfcu⟩ := mismatch_samplePei_shows s n a b
    exact ⟨_, exec_readbackMismatch_of_due hen hdue hrb, ha, hb, herr, hisr, hcnt, hfcu, mismatch_samplePei_outs s n a b,
      ((ChanOnly.refl n s).samplePei a b).mismatch.mem⟩
  case agreed => exact fun s n a b h => exec_readbackMismatch_of_agreed h
  case feedback => exact fun s l hen hl hdue => exec_safeStopFb_of_differing (k := 0) hen hl hdue
  case quiet => exact fun s l h => exec_safeStopFb_of_agreed (k := 1) h

end

section
/-! What the outputs and the lattice code leave of the wheel and of a channel's `PEO_ISR` (R157 to R166, R308). -/

namespace Sys2Proof.Machine

/-- The state has a given wheel, and a given word in `PEO_ISR` of a channel. -/
structure WheelAndIsr (w : Wheel) (k : Chan) (v : Word) (s : State) : Prop where
  wheel : s.wheel = w
  isr : s.rd (PEO_ISR k) = v

theorem wheelAndIsr_self (s : State) (k : Chan) : WheelAndIsr s.wheel k (s.rd (PEO_ISR k)) s :=
  ⟨rfl, rfl⟩

theorem isr_ne_of_above {off : Nat} (k : Chan) (h : 0x22000 ≤ off) : PEO_ISR k ≠ off := by
  unfold PEO_ISR
  omega

theorem isr_ne_stat (k n : Chan) : PEO_ISR k ≠ PEO_STAT n := by
  unfold PEO_ISR PEO_STAT
  omega

theorem isr_ne_lastTt (k n : Chan) : PEO_ISR k ≠ PEO_LAST_TT n ∧ PEO_ISR k ≠ PEO_LAST_TT n + 4 := by
  unfold PEO_ISR PEO_LAST_TT
  omega

namespace WheelAndIsr

variable {w : Wheel} {k : Chan} {v : Word} {s : State}

/-- A write of another word leaves both. -/
theorem wr (h : WheelAndIsr w k v s) {off : Nat} (x : Word) (ho : PEO_ISR k ≠ off) : WheelAndIsr w k v (s.wr off x) :=
  ⟨h.wheel, (rd_wr_other s x ho).trans h.isr⟩

/-- A field of the blocks above the channels' written. -/
theorem putAbove (h : WheelAndIsr w k v s) (f : Fld) (x : Nat)
    (ho : 0x22000 ≤ f.off := by exact Nat.le_add_right_of_le (by decide)) : WheelAndIsr w k v (s.put f x) :=
  h.wr _ (isr_ne_of_above k ho)

theorem bumpAbove (h : WheelAndIsr w k v s) (f : Fld) (ho : 0x22000 ≤ f.off := by exact Nat.le_add_right_of_le (by decide)) :
    WheelAndIsr w k v (s.bump f) :=
  h.putAbove f _ ho

theorem wr64Above (h : WheelAndIsr w k v s) {off : Nat} (x : Nat) (ho : 0x22000 ≤ off) : WheelAndIsr w k v (s.wr64 off x) :=
  (h.wr _ (isr_ne_of_above k ho)).wr _ (isr_ne_of_above k (Nat.le_add_right_of_le ho))

theorem raise (h : WheelAndIsr w k v s) (id detail : Nat) : WheelAndIsr w k v (s.raise id detail) := ⟨h.wheel, h.isr⟩
theorem raiseSrc (h : WheelAndIsr w k v s) (src : Nat) : WheelAndIsr w k v (s.raiseSrc src) := ⟨h.wheel, h.isr⟩
theorem onProt (h : WheelAndIsr w k v s) (f : Prot → Prot) : WheelAndIsr w k v (s.onProt f) := ⟨h.wheel, h.isr⟩
theorem onVe (h : WheelAndIsr w k v s) (f : Verify → Verify) : WheelAndIsr w k v (s.onVe f) := ⟨h.wheel, h.isr⟩
theorem onChan (h : WheelAndIsr w k v s) (n : Chan) (f : ChanState → ChanState) : WheelAndIsr w k v (s.onChan n f) :=
  ⟨h.wheel, h.isr⟩
theorem setBytes (h : WheelAndIsr w k v s) (a : Nat) (b : Bytes) : WheelAndIsr w k v (s.setBytes a b) := ⟨h.wheel, h.isr⟩

/-! ### Memory through the lattice code (R308) -/

theorem lastError (h : WheelAndIsr w k v s) (i a kind : Nat) : WheelAndIsr w k v (s.lastError i a kind) :=
  (h.wr _ (isr_ne_of_above k (Nat.le_add_right_of_le (by decide)))).wr _ (isr_ne_of_above k (Nat.le_add_right_of_le (by decide)))

theorem tileFault (h : WheelAndIsr w k v s) (t : Nat) : WheelAndIsr w k v (s.tileFault t) := by
  unfold State.tileFault
  exact (((holds_when h _ _ (fun _ h => h.putAbove _ _)).putAbove _ _).raise _ _ |>.raiseSrc _).onVe _

theorem countCorrection (h : WheelAndIsr w k v s) (i : Nat) : WheelAndIsr w k v (s.countCorrection i) :=
  holds_ite ((h.onProt _).raise _ _) (h.onProt _)

theorem recordError (h : WheelAndIsr w k v s) (i a : Nat) (o : LatOutcome) : WheelAndIsr w k v (s.recordError i a o) := by
  unfold State.recordError
  split
  next => exact h
  next => exact ((holds_ite (h.bumpAbove _) ((h.bumpAbove _).lastError _ _ _)).countCorrection _).onProt _
  next => exact (holds_ite h ((h.bumpAbove _).lastError _ _ _)).onProt _
  next =>
    extract_lets s1
    have h1 : WheelAndIsr w k v s1 := holds_ite ((h.bumpAbove _).tileFault _) ((h.bumpAbove _).lastError _ _ _)
    split
    · exact h1.raise _ _
    · exact h1

/-- A word of memory is no register, but for the words of RETAINED, which lie above the channels'. -/
theorem setWord64 (h : WheelAndIsr w k v s) (a : Nat) (d : DWord) : WheelAndIsr w k v (s.setWord64 a d) := by
  unfold State.setWord64
  split
  next hret =>
    refine h.wr64Above _ ?_
    unfold retBase at hret
    omega
  next => exact h.setBytes _ _

theorem recordDm (h : WheelAndIsr w k v s) (a : Nat) (o : LatOutcome) : WheelAndIsr w k v (s.recordDm a o) := by
  unfold State.recordDm
  extract_lets s0 corrected
  have h0 : WheelAndIsr w k v s0 := h.wr64Above _ (by decide)
  have hc : WheelAndIsr w k v (corrected s0) :=
    holds_ite (((h0.bumpAbove _ (by decide)).onProt _).raise _ _) ((h0.bumpAbove _ (by decide)).onProt _)
  cases o with
  | clean => exact h
  | dataBit b => exact (hc.setWord64 _ _).onProt _
  | checkBit => exact hc.onProt _
  | uncorrectable => exact h0.bumpAbove _ (by decide)

theorem readWord (h : WheelAndIsr w k v s) (a : Nat) : WheelAndIsr w k v (s.readWord a).1 := by
  unfold State.readWord
  split
  · exact holds_ite (h.recordDm _ _) h
  · exact h.recordError _ _ _

theorem writeWord (h : WheelAndIsr w k v s) (a : Nat) (d : DWord) : WheelAndIsr w k v (s.writeWord a d) := by
  unfold State.writeWord
  exact ((h.setWord64 _ _).onProt _).onProt _

theorem writeInWord (h : WheelAndIsr w k v s) (a off : Nat) (b : Bytes) : WheelAndIsr w k v (s.writeInWord a off b).1 := by
  have hread := h.readWord a
  unfold State.writeInWord
  split
  · exact h.writeWord _ _
  split
  next s1 e => rw [e] at hread; exact hread
  next s1 d e => rw [e] at hread; exact WheelAndIsr.writeWord hread _ _

theorem latWrite (h : WheelAndIsr w k v s) (fuel a : Nat) (b : Bytes) : WheelAndIsr w k v (s.latWrite fuel a b).1 := by
  induction fuel generalizing s a b with
  | zero => exact h
  | succ fuel ih =>
    cases b with
    | nil => exact h
    | cons x r => exact ih (h.writeInWord _ _ _) _ _

/-- An entry of the fire log touches memory and the registers of the log alone (R163). -/
theorem fireLog (h : WheelAndIsr w k v s) (e : Event) (late past held : Bool) (tt : Nat) :
    WheelAndIsr w k v (s.fireLog e late past held tt) :=
  holds_ite ((h.bumpAbove _).raise _ _) (((holds_ite (h.latWrite _ _ _) h).putAbove _ _).raiseSrc _)

/-! ### Channels (R164 to R166) -/

theorem putStat (h : WheelAndIsr w k v s) (n : Chan) (f : Fld) (b : Bool) (hf : f.off = PEO_STAT n := by rfl) :
    WheelAndIsr w k v (s.putFlag f b) :=
  h.wr _ (hf ▸ isr_ne_stat k n)

theorem syncChan (h : WheelAndIsr w k v s) (n : Chan) (at_ : Nat) : WheelAndIsr w k v (s.syncChan n at_) := by
  have h1 := h.putStat n (PEO_STAT_PULSING n) (s.outs.chan.get n).pulse.isSome
  obtain ⟨hlow, hhigh⟩ := isr_ne_lastTt k n
  exact holds_ite h1 ((((h1.putStat n (PEO_STAT_DRV_A n) _).putStat n (PEO_STAT_DRV_B n) _).wr _ hlow).wr _ hhigh)

theorem setLogic (h : WheelAndIsr w k v s) (n : Chan) (l : Bool) (at_ : Nat) : WheelAndIsr w k v (s.setLogic n l at_) :=
  holds_ite h ((h.putStat n (PEO_STAT_LOGIC n) l).onChan _ _)

theorem endPulse (h : WheelAndIsr w k v s) (n : Chan) (at_ : Nat) : WheelAndIsr w k v (s.endPulse n at_) :=
  holds_ite ((h.onChan _ _).setLogic _ _ _) h

theorem settleChans (h : WheelAndIsr w k v s) (old : State) (l : List Chan) (at_ : Nat) :
    WheelAndIsr w k v (s.settleChans old l at_) :=
  holds_each h _ _ (fun _ _ h => (holds_when h _ _ (fun _ h => h.onChan _ _)).syncChan _ _)

theorem endPosPulses (h : WheelAndIsr w k v s) (d : Dom) (at_ : Nat) : WheelAndIsr w k v (s.endPosPulses d at_) := by
  refine holds_each h _ _ (fun s n h => ?_)
  split
  · exact holds_ite ((h.endPulse _ _).syncChan _ _) h
  · exact h

end WheelAndIsr

/-! ### An event acts (R163 to R166) -/

/-- What an event does to its channel leaves the wheel. -/
theorem actOn_wheel (s : State) (e : Event) (up : Bool) (at_ : Nat) : (s.actOn e up at_).1.wheel = s.wheel := by
  have hlogic (t : State) (l : Bool) : (t.setLogic e.ch l at_).wheel = t.wheel := ((ChanOnly.refl e.ch t).setLogic l at_).wheel
  have hpulse (t : State) (p : Pulse) : (t.startPulse e.ch p at_).wheel = t.wheel := hlogic _ _
  unfold State.actOn
  extract_lets n s0 s1 wd pmax s2
  have h1 : s1.wheel = s.wheel := holds_ite (P := fun t => t.wheel = s.wheel) rfl rfl
  split
  · rfl
  · show s2.wheel = s.wheel
    unfold s2
    split
    · exact (hlogic _ _).trans h1
    · exact (hlogic _ _).trans h1
    · exact holds_ite (P := fun t => t.wheel = s.wheel) ((hpulse _ _).trans h1) ((hpulse _ _).trans h1)
    · exact (hlogic _ _).trans h1

/-- The state in which an event that is past due has acted on its channel and in the counters. -/
def actedPast (s : State) (e : Event) (up late : Bool) (at_ : Nat) : State :=
  (((s.actOn e up at_).1.bump EW_FIRE_CNT_CNT).when (s.actOn e up at_).2 (fun s => s.bump EW_HELD_CNT_CNT)).when late
    (fun s => ((s.bump EW_LATE_CNT_CNT).putFlag (PEO_ISR_LATE e.ch) true).raise F_EW_LATE_ARM e.ch)

theorem actedPast_wheel (s : State) (e : Event) (up late : Bool) (at_ : Nat) : (actedPast s e up late at_).wheel = s.wheel := by
  have hact : ((s.actOn e up at_).1.bump EW_FIRE_CNT_CNT).wheel = s.wheel := actOn_wheel s e up at_
  unfold actedPast
  refine holds_when (P := fun t => t.wheel = s.wheel) (holds_when (P := fun t => t.wheel = s.wheel) hact _ _ ?_) _ _ ?_
  all_goals exact fun _ h => h

theorem fire_past_eq (s : State) (slot : Nat) (e : Event) (up late : Bool) (at_ : Nat) : s.fire slot e up late true at_ =
    (((actedPast s e up late at_).putFlag (PEO_ISR_PAST e.ch) true).setFate slot e true).when e.log
      (fun t => t.fireLog e late true (s.actOn e up at_).2 at_) := rfl

/-- An event that acts past due leaves its fate in the wheel, and PAST in its channel (R156, R160). -/
theorem fire_past_shows (s : State) (slot : Nat) (e : Event) (up late : Bool) (at_ : Nat) :
    (s.fire slot e up late true at_).wheel = { s.wheel with fates := putKey s.wheel.fates slot ⟨e.handle, e.group, true⟩ } ∧
      (s.fire slot e up late true at_).flag (PEO_ISR_PAST e.ch) = true := by
  have hlog := holds_when (wheelAndIsr_self (((actedPast s e up late at_).putFlag (PEO_ISR_PAST e.ch) true).setFate slot e true) e.ch)
    e.log (fun t => t.fireLog e late true (s.actOn e up at_).2 at_) (fun _ h => h.fireLog _ _ _ _ _)
  rw [← fire_past_eq] at hlog
  constructor
  · rw [hlog.wheel, State.setFate, State.onWheel, putFlag_wheel, actedPast_wheel]
  · exact (flag_eq_of_rd_eq hlog.isr).trans (flag_putFlag_same (actedPast s e up late at_) _ _ rfl Nat.one_pos)

end Sys2Proof.Machine
end

section
/-! Insertions into the wheel (R152 to R156, R161): what each result leaves. -/

namespace Sys2Proof.Machine

variable {s : State} {g : Group} {m : Master} {v : Word} {m0 : Bool} {r : Insertion}

/-! ### The command (R154, R160) -/

theorem exec_ewInsert (s : State) (g : Group) (m : Master) (v : Word) : exec (.ewInsert g m v) s =
    .next (s.portal m (EW_INS_CTRL g) (ownOr0 g m)
      (if s.flag (EW_INS_STAT_BUSY g) || (s.wheel.masked.get g).isSome then s.holdPort g m 0x10 v else s.portInsert g m v)) := rfl

theorem exec_ewInsert_of_free (hreach : s.reaches m (EW_INS_CTRL g) = true) (hm : m.val = 0 ∨ m.val = g.val)
    (hbusy : s.flag (EW_INS_STAT_BUSY g) = false) (hmask : s.wheel.masked.get g = none) :
    exec (.ewInsert g m v) s = .next (s.portInsert g m v) := by
  rw [exec_ewInsert, ownOr0_of_own hm, portal_of_allowed hreach, hbusy, hmask, Option.isSome_none, Bool.or_false,
    if_neg Bool.false_ne_true]

theorem exec_ewInsert_of_busy (hreach : s.reaches m (EW_INS_CTRL g) = true) (hm : m.val = 0 ∨ m.val = g.val)
    (hbusy : s.flag (EW_INS_STAT_BUSY g) = true ∨ (s.wheel.masked.get g).isSome = true) :
    exec (.ewInsert g m v) s = .next (s.holdPort g m 0x10 v) := by
  rw [exec_ewInsert, ownOr0_of_own hm, portal_of_allowed hreach, Bool.or_eq_true_iff.2 hbusy, if_pos rfl]

theorem holdPort_insertion (s : State) (g : Group) (m : Master) (v : Word) : s.holdPort g m 0x10 v =
    (s.onWheel (fun w => { w with held := alter w.held g (fun l => l ++ [⟨0x10, v, m⟩]) })).putFlag (EW_INS_STAT_BUSY g) true := rfl

/-- An insertion that is held waits behind those held before it, and the port shows BUSY. -/
theorem holdPort_insertion_shows (s : State) (g : Group) (m : Master) (v : Word) :
    (s.holdPort g m 0x10 v).wheel.held.get g = s.wheel.held.get g ++ [⟨0x10, v, m⟩] ∧
      (s.holdPort g m 0x10 v).flag (EW_INS_STAT_BUSY g) = true ∧
      (s.holdPort g m 0x10 v).wheel.slots = s.wheel.slots ∧ (s.holdPort g m 0x10 v).mem = s.mem := by
  rw [holdPort_insertion, putFlag_wheel, putFlag_mem, onWheel_mem]
  exact ⟨Vector.getElem_set_self g.isLt, flag_putFlag_same _ _ _ rfl Nat.one_pos, rfl, rfl⟩

/-! ### What an insertion is made of (R152 to R155) -/

/-- The handle of the event that an insertion puts into the slot it takes (R154). -/
def State.nextHandle (s : State) : Nat :=
  s.pickSlot + s.nextGen s.pickSlot * 131072

/-- The domain of an insertion: that of its channel (R152). -/
def State.insertDom (s : State) (r : Insertion) : Dom :=
  toIx 4 (s.get (PEO_CFG_DOM r.ch))

/-- The event that an insertion describes (R152, R153). -/
def State.insertedEvent (s : State) (g : Group) (r : Insertion) : Event :=
  { cmp := cmpCount r.dir r.target, width := r.width, tag := r.tag, ch := r.ch, action := r.action, dir := r.dir,
    log := r.log, prio := r.prio, group := g, seq := s.wheel.seq, handle := s.nextHandle, insTt := s.tt,
    insFar := decide (nearReach ≤ (cmpCount r.dir r.target - s.count (s.insertDom r)).natAbs), near := false, kept := false }

/-- The state in which an insertion that is not refused has been counted. -/
def State.insertCounted (s : State) (g : Group) (r : Insertion) (res : Nat) : State :=
  ((s.insertNoted g r.ch res).bump EW_INS_CNT_CNT).onWheel (fun w => { w with
    seq := (w.seq + 1) % 2 ^ 32, inserts := w.inserts ++ [(g.val, r.bytes)] })

/-- The direction in which an event that is past due acts. -/
def Insertion.pastUp (r : Insertion) (k : Nat) : Bool :=
  if r.dir = 1 then false else if r.dir = 0 then true else Config.openUp k

/-- The state in which an event that is past due has acted at its insertion (R156). -/
def State.insertFired (s : State) (g : Group) (r : Insertion) : State :=
  ((s.insertCounted g r 2).draw.2.cleanSlot s.pickSlot).fire s.pickSlot (s.insertedEvent g r)
    (r.pastUp (s.insertCounted g r 2).draw.1) false true s.tt

theorem insert_of_refused (h : 2 < s.insertResult g m0 r) :
    s.insert g m0 r = (s.insertNoted g r.ch (s.insertResult g m0 r), s.insertResult g m0 r, 0) := by
  unfold State.insert
  extract_lets res s1
  exact if_pos h

theorem insert_of_slot (h : s.insertResult g m0 r ≤ 1) : s.insert g m0 r =
    ((s.insertCounted g r (s.insertResult g m0 r)).putEvent s.pickSlot (s.insertedEvent g r), s.insertResult g m0 r, s.nextHandle) := by
  unfold State.insert
  extract_lets res s1 d c slot handle e s2
  rw [if_neg (show ¬2 < res by omega), if_neg (show ¬res = 2 by omega)]
  rfl

theorem insert_of_past (h : s.insertResult g m0 r = 2) : s.insert g m0 r =
    (((s.insertFired g r).settleChans s [r.ch] s.tt).endPosPulses (s.insertDom r) s.tt, 2, s.nextHandle) := by
  unfold State.insert
  rw [h, if_neg (lt_irrefl 2), if_pos rfl]
  rfl

/-- The port shows the result, and below 3 the handle (R154). -/
theorem portInsert_of_insert {u t : State} {res handle : Nat} (hu : u = s.wr (EW_INS_CTRL g) (v &&& 0x000F3F1F))
    (h : u.insert g (m.val == 0) (u.portInsertion g v) = (t, res, handle)) :
    s.portInsert g m v = (if res ≤ 2 then t.put (EW_INS_STAT_HANDLE g) handle else t).put (EW_INS_STAT_RESULT g) res := by
  subst hu
  unfold State.portInsert
  dsimp only
  rw [h]

theorem insertResult_lt (s : State) (g : Group) (m0 : Bool) (r : Insertion) : s.insertResult g m0 r < 8 := by
  unfold State.insertResult
  extract_lets
  split_ifs <;> decide

theorem get_putResult (t : State) {res : Nat} (h : res < 8) :
    (t.put (EW_INS_STAT_RESULT g) res).get (EW_INS_STAT_RESULT g) = res :=
  (get_put_same t _ res rfl).trans (Nat.mod_eq_of_lt h)

/-- The handle stays where the result is shown beside it. -/
theorem get_putHandle (t : State) (handle res : Nat) :
    ((t.put (EW_INS_STAT_HANDLE g) handle).put (EW_INS_STAT_RESULT g) res).get (EW_INS_STAT_HANDLE g) = handle % 2 ^ 24 := by
  have hapart : (EW_INS_STAT_RESULT g).spares (EW_INS_STAT_HANDLE g) = true := by
    simp [Fld.spares, Fld.fits, Fld.apart, EW_INS_STAT_RESULT, EW_INS_STAT_HANDLE]
  rw [get_put_spared hapart]
  exact get_put_same t (EW_INS_STAT_HANDLE g) handle rfl

/-! ### What the parts leave -/

theorem insertNoted_of_slot {ch : Chan} {res : Nat} (h : res ≤ 1) : s.insertNoted g ch res = s := by
  obtain rfl | rfl := Nat.le_one_iff_eq_zero_or_eq_one.1 h <;> rfl

theorem insertNoted_rest (s : State) (g : Group) (ch : Chan) (res : Nat) : (s.insertNoted g ch res).wheel = s.wheel ∧
    (s.insertNoted g ch res).outs = s.outs ∧ (s.insertNoted g ch res).mem = s.mem := by
  unfold State.insertNoted
  split <;> exact ⟨rfl, rfl, rfl⟩

theorem insertCounted_of_slot {res : Nat} (h : res ≤ 1) : s.insertCounted g r res =
    (s.bump EW_INS_CNT_CNT).onWheel (fun w => { w with seq := (w.seq + 1) % 2 ^ 32, inserts := w.inserts ++ [(g.val, r.bytes)] }) := by
  rw [State.insertCounted, insertNoted_of_slot h]

/-- Words of a slot written afresh leave the rest of memory. -/
theorem byteAt_cleanSlot_outside {slot a : Nat} (h : a < wheelBase + slot * 32 ∨ wheelBase + slot * 32 + 32 ≤ a) :
    byteAt (s.cleanSlot slot).mem a = byteAt s.mem a :=
  (byteAt_dropBytes s _ _ a).trans (if_pos h)

theorem recount_rest (s : State) (e : Event) : (s.recount e).wheel = s.wheel ∧ (s.recount e).outs = s.outs ∧
    (s.recount e).fcuIn = s.fcuIn ∧ (s.recount e).mem = s.mem := by
  simp [State.recount, State.countNear]

/-- An event put into a slot leaves late events, fates, outputs, faults, and memory beside the slot. -/
theorem putEvent_shows (s : State) (slot : Nat) (e : Event) : (s.putEvent slot e).wheel.slots = putKey s.wheel.slots slot e ∧
    (s.putEvent slot e).wheel.late = s.wheel.late ∧ (s.putEvent slot e).wheel.fates = s.wheel.fates ∧
    (s.putEvent slot e).outs = s.outs ∧ (s.putEvent slot e).fcuIn = s.fcuIn ∧
    ∀ a, a < wheelBase + slot * 32 ∨ wheelBase + slot * 32 + 32 ≤ a → byteAt (s.putEvent slot e).mem a = byteAt s.mem a := by
  unfold State.putEvent
  extract_lets free wm s1
  obtain ⟨hwheel, houts, hfcu, hmem⟩ := recount_rest ((s.cleanSlot slot).onWheel (fun w => { w with slots := putKey w.slots slot e })) e
  have h1 : s1.wheel.slots = putKey s.wheel.slots slot e ∧ s1.wheel.late = s.wheel.late ∧ s1.wheel.fates = s.wheel.fates ∧
      s1.outs = s.outs ∧ s1.fcuIn = s.fcuIn ∧
      ∀ a, a < wheelBase + slot * 32 ∨ wheelBase + slot * 32 + 32 ≤ a → byteAt s1.mem a = byteAt s.mem a := by
    rw [hwheel, houts, hfcu, hmem]
    exact ⟨rfl, rfl, rfl, rfl, rfl, fun a h => byteAt_cleanSlot_outside h⟩
  split
  · rw [raiseSrc_wheel, raiseSrc_outs, raiseSrc_fcuIn, raiseSrc_mem]
    exact h1
  · exact h1

/-- An event past due at its insertion takes no slot: it leaves its fate, and PAST in its channel. -/
theorem insertFired_shows (s : State) (g : Group) (r : Insertion) : (s.insertFired g r).wheel.slots = s.wheel.slots ∧
    (s.insertFired g r).wheel.late = s.wheel.late ∧
    lookup (s.insertFired g r).wheel.fates s.pickSlot = some ⟨s.nextHandle, g, true⟩ ∧
    (s.insertFired g r).flag (PEO_ISR_PAST r.ch) = true := by
  obtain ⟨hwheel, hpast⟩ := fire_past_shows ((s.insertCounted g r 2).draw.2.cleanSlot s.pickSlot) s.pickSlot (s.insertedEvent g r)
    (r.pastUp (s.insertCounted g r 2).draw.1) false s.tt
  refine ⟨?_, ?_, ?_, hpast⟩
  · rw [State.insertFired, hwheel]
    rfl
  · rw [State.insertFired, hwheel]
    rfl
  · rw [State.insertFired, hwheel]
    exact lookup_putKey_same _ _ _

end Sys2Proof.Machine
end

section
open Sys2Proof Sys2Proof.Machine

/-- Settles O28: the port made free or held, and a free one by what `State.insert` leaves for each result. -/
theorem theWheelTakesInsertions : Obligations.TheWheelTakesInsertions := by
  unfold Obligations.TheWheelTakesInsertions
  refine ⟨?slot, ?refused, ?held, ?past, ?foreign⟩
  case slot =>
    intro s u g m v hreach hm hbusy hmask hu hres
    have hport := portInsert_of_insert hu (insert_of_slot hres)
    rw [if_pos (by omega), insertCounted_of_slot hres] at hport
    obtain ⟨hslots, hlate, hfates, houts, hfcu, hmem⟩ := putEvent_shows
      ((u.bump EW_INS_CNT_CNT).onWheel (fun w => { w with
        seq := (w.seq + 1) % 2 ^ 32, inserts := w.inserts ++ [(g.val, (u.portInsertion g v).bytes)] }))
      u.pickSlot (u.insertedEvent g (u.portInsertion g v))
    refine ⟨_, (exec_ewInsert_of_free hreach hm hbusy hmask).trans (congrArg _ hport), ?_, ⟨u.insertedEvent g (u.portInsertion g v),
      ?_, rfl, rfl, rfl, rfl, rfl, rfl, get_putHandle _ _ _⟩, ?_⟩
    · exact get_putResult _ (insertResult_lt _ _ _ _)
    · rw [put_wheel, put_wheel, hslots, hu]
      rfl
    · rw [put_wheel, put_wheel, put_outs, put_outs, put_fcuIn, put_fcuIn, put_mem, put_mem, hlate, hfates, houts, hfcu]
      subst hu
      exact ⟨rfl, rfl, rfl, rfl, hmem⟩
  case refused =>
    intro s u g m v hreach hm hbusy hmask hu hres
    have hport := portInsert_of_insert hu (insert_of_refused hres)
    rw [if_neg (by omega)] at hport
    obtain ⟨hwheel, houts, hmem⟩ := insertNoted_rest u g (u.portInsertion g v).ch (u.insertResult g (m.val == 0) (u.portInsertion g v))
    refine ⟨_, (exec_ewInsert_of_free hreach hm hbusy hmask).trans (congrArg _ hport), get_putResult _ (insertResult_lt _ _ _ _), ?_⟩
    rw [put_wheel, put_outs, put_mem, hwheel, houts, hmem, hu]
    exact ⟨rfl, rfl, rfl⟩
  case held =>
    intro s g m v hreach hm hbusy
    exact ⟨_, exec_ewInsert_of_busy hreach hm hbusy, holdPort_insertion_shows s g m v⟩
  case past =>
    intro s u g m v hreach hm hbusy hmask hu hres
    have hport := portInsert_of_insert hu (insert_of_past hres)
    rw [if_pos (le_refl 2)] at hport
    obtain ⟨hslots, hlate, hfate, hpast⟩ := insertFired_shows u g (u.portInsertion g v)
    have hrest := ((((wheelAndIsr_self (u.insertFired g (u.portInsertion g v)) (u.portInsertion g v).ch).settleChans u
      [(u.portInsertion g v).ch] u.tt).endPosPulses (u.insertDom (u.portInsertion g v)) u.tt).putAbove (EW_INS_STAT_HANDLE g)
        u.nextHandle).putAbove (EW_INS_STAT_RESULT g) 2
    refine ⟨_, (exec_ewInsert_of_free hreach hm hbusy hmask).trans (congrArg _ hport), get_putResult _ (by decide),
      get_putHandle _ _ _, ?_, (flag_eq_of_rd_eq (f := PEO_ISR_PAST (u.portInsertion g v).ch) hrest.isr).trans hpast, ?_⟩
    · rw [hrest.wheel, hfate]
      rfl
    · rw [hrest.wheel, hslots, hlate, hu]
      exact ⟨rfl, rfl⟩
  case foreign =>
    intro s g m v h0 hg hreach
    rw [exec_ewInsert, ownOr0_of_other h0 hg, portal_of_refused hreach]

end

section
/-! A debugger's read that finds a copy of a halted group differing for the third time within 1,000 firings (R196, R204). -/

namespace Sys2Proof.Machine

/-- Group 1 is selected and halted by a debugger with its three copies taking part, and copy B has been ejected twice. -/
def haltedTwiceEjected : State :=
  ((((State.reset.put DBG_SEL_GROUP 1).put (LS_STAT_STATE 1) lsHalted).putFlag (LS_DBG_HALTED 1) true).put (LS_STAT_ACTIVE 1) 7).onCore 1
    (fun c => { c with ejections := #v[0, 2, 0] })

/-- What the clause on a differing copy asks for holds of a read of g3, and the next ejection retires copy B. -/
theorem haltedTwiceEjected_meets : haltedTwiceEjected.lockDenies 14 0x40F00000 = false ∧ 2 ≤ haltedTwiceEjected.debugLevel ∧
    haltedTwiceEjected.dbgGroup = 1 ∧ haltedTwiceEjected.dbgHalted 1 = true ∧ haltedTwiceEjected.get (LS_STAT_ACTIVE (1 : Group)) = 7 ∧
    haltedTwiceEjected.retires 1 1 = true := by
  decide +kernel

/-- What the read leaves of g3 in which copy B differs in bit 0. -/
def retiredByRead : State :=
  ran (execDbgRegAccess 14 3 1 0 haltedTwiceEjected) haltedTwiceEjected

theorem exec_dbgRegAccess_haltedTwiceEjected : exec (.dbgRegAccess 14 3 1 0) haltedTwiceEjected = .next retiredByRead := rfl

/-- Copy B is retired: it stands in `LS_RETIRED` and not among the ejected copies. -/
theorem retiredByRead_shows : retiredByRead.get (LS_RETIRED_MAP (1 : Group)) = 2 ∧
    retiredByRead.get (LS_STAT_EJECTED (1 : Group)) = 0 := by
  decide +kernel

end Sys2Proof.Machine
end

section
open Sys2Proof Sys2Proof.Machine

/-- Refutes O50: its last clause has a copy that a debugger's read finds differing ejected, but one whose third ejection comes within
1,000 firings is retired (R196), and so is not among the ejected. -/
theorem not_theDebugPortActs : ¬ Obligations.TheDebugPortActs := by
  unfold Obligations.TheDebugPortActs
  rintro ⟨-, -, -, -, -, -, -, -, -, -, -, -, -, hdiffers⟩
  obtain ⟨hfree, hlevel, hgroup, hhalted, hactive, -⟩ := haltedTwiceEjected_meets
  obtain ⟨t, hexec, -, hejected, -⟩ := hdiffers haltedTwiceEjected 1 3 1 hfree hlevel hgroup hhalted (by decide) (by decide) hactive
    (by decide)
  obtain rfl : retiredByRead = t := Host.Outcome.next.inj (exec_dbgRegAccess_haltedTwiceEjected.symm.trans hexec)
  rw [retiredByRead_shows.2] at hejected
  exact absurd hejected (by decide)

end

section
/-! What leaves the LS blocks of the groups alone (R461): the modes and the outputs they bring in line, and the interrupt
distributor. -/

namespace Sys2Proof.Machine

variable {s t u : State}

/-! ### Words of the LS blocks -/

/-- A word of the LS block of a group. -/
def lsWord (o : Nat) : Prop :=
  0x200000 ≤ o ∧ o < 0x280000 ∧ o % 0x10000 < 0x1000

/-- A word lies in the LS block of each group where that of group 0 does. -/
theorem lsWord_of_group {c : Nat} (h : 0x200000 ≤ c ∧ c < 0x201000) (g : Group) : lsWord (c + g.val * 0x10000) := by
  unfold lsWord
  omega

theorem not_lsWord_of_low {o : Nat} (h : o < 0x200000) : ¬lsWord o :=
  fun k => absurd k.1 (Nat.not_le.2 h)

theorem not_lsWord_of_high {o : Nat} (h : 0x280000 ≤ o) : ¬lsWord o :=
  fun k => absurd k.2.1 (Nat.not_lt.2 h)

/-- A word in the interrupt block of a group is none of its LS block. -/
theorem not_lsWord_of_interrupt {c : Nat} (h : 0x204000 ≤ c ∧ c < 0x205000) (n : Nat) : ¬lsWord (c + n * 0x10000) := by
  unfold lsWord
  omega

/-- The words of the channels lie below the blocks of the groups. -/
theorem not_lsWord_of_chan {c : Nat} (h : c < 0x100000) (n : Chan) : ¬lsWord (c + n.val * 0x40) :=
  not_lsWord_of_low (by omega)

/-! ### The relation -/

/-- `t` shows the words of the LS blocks as `s` does, and differs from `s` in the other registers, the outputs, the twin link,
interrupt events on their way, and the distributor's records of orphans and of SETP alone. -/
structure BesideLs (s t : State) : Prop where
  words : ∀ o, lsWord o → t.rd o = s.rd o
  rest : t = { s with regs := t.regs, srcIn := t.srcIn, outs := t.outs, tw := t.tw, orphans := t.orphans, swGroups := t.swGroups }

theorem BesideLs.refl (s : State) : BesideLs s s :=
  ⟨fun _ _ => rfl, rfl⟩

theorem BesideLs.trans (h : BesideLs s t) (k : BesideLs t u) : BesideLs s u where
  words o ho := (k.words o ho).trans (h.words o ho)
  rest := by rw [k.rest, h.rest]

section
variable (h : BesideLs s t)
include h

theorem BesideLs.cores : t.cores = s.cores := by rw [h.rest]
theorem BesideLs.core (g : Group) : t.core g = s.core g := by rw [h.rest]; rfl
theorem BesideLs.mem : t.mem = s.mem := by rw [h.rest]
theorem BesideLs.fcuIn : t.fcuIn = s.fcuIn := by rw [h.rest]
theorem BesideLs.tt : t.tt = s.tt := by rw [h.rest]
theorem BesideLs.fn : t.fn = s.fn := by rw [h.rest]
theorem BesideLs.part : t.part = s.part := by rw [h.rest]

theorem BesideLs.get {f : Fld} (hf : lsWord f.off := by exact lsWord_of_group (by decide) _) : t.get f = s.get f :=
  get_eq_of_rd_eq (h.words _ hf)

theorem BesideLs.flag {f : Fld} (hf : lsWord f.off := by exact lsWord_of_group (by decide) _) : t.flag f = s.flag f :=
  flag_eq_of_rd_eq (h.words _ hf)

/-! ### Updates -/

theorem BesideLs.wr {off : Nat} (v : Word) (hoff : ¬lsWord off) : BesideLs s (t.wr off v) :=
  h.trans ⟨fun _ ho => rd_wr_other t v (fun e => hoff (e ▸ ho)), rfl⟩

theorem BesideLs.put {f : Fld} (v : Nat) (hf : ¬lsWord f.off) : BesideLs s (t.put f v) :=
  h.wr _ hf

theorem BesideLs.putFlag {f : Fld} (b : Bool) (hf : ¬lsWord f.off) : BesideLs s (t.putFlag f b) :=
  h.wr _ hf

theorem BesideLs.bump {f : Fld} (hf : ¬lsWord f.off) : BesideLs s (t.bump f) :=
  h.wr _ hf

theorem BesideLs.wr64 {off : Nat} (v : Nat) (hlow : ¬lsWord off) (hhigh : ¬lsWord (off + 4)) : BesideLs s (t.wr64 off v) :=
  (h.wr _ hlow).wr _ hhigh

theorem BesideLs.raiseSrc (src : Nat) : BesideLs s (t.raiseSrc src) := h.trans ⟨fun _ _ => rfl, rfl⟩
theorem BesideLs.onOuts (f : Outs → Outs) : BesideLs s (t.onOuts f) := h.trans ⟨fun _ _ => rfl, rfl⟩
theorem BesideLs.onChan (n : Chan) (f : ChanState → ChanState) : BesideLs s (t.onChan n f) := h.onOuts _
theorem BesideLs.onTw (f : Twin → Twin) : BesideLs s (t.onTw f) := h.trans ⟨fun _ _ => rfl, rfl⟩
theorem BesideLs.setSw (i m : Nat) : BesideLs s (t.setSw i m) := h.trans ⟨fun _ _ => rfl, rfl⟩

theorem BesideLs.ite {c : Prop} [Decidable c] (k : BesideLs s u) : BesideLs s (if c then t else u) :=
  holds_ite (P := BesideLs s) h k

theorem BesideLs.when (c : Bool) (f : State → State) (hf : ∀ t, BesideLs s t → BesideLs s (f t)) : BesideLs s (t.when c f) :=
  holds_when (P := BesideLs s) h c f hf

theorem BesideLs.each {α : Type} (l : List α) (f : State → α → State) (hf : ∀ t x, BesideLs s t → BesideLs s (f t x)) :
    BesideLs s (t.each l f) :=
  holds_each (P := BesideLs s) h l f hf

/-! ### Outputs and modes (R165, R169, R174, R434 to R436) -/

theorem BesideLs.dropTest (n : Chan) : BesideLs s (t.dropTest n) :=
  (h.onChan _ _).ite h

theorem BesideLs.setLogic (n : Chan) (l : Bool) (at_ : Nat) : BesideLs s (t.setLogic n l at_) :=
  h.ite ((h.putFlag _ (not_lsWord_of_chan (by decide) n)).onChan _ _)

theorem BesideLs.syncChan (n : Chan) (at_ : Nat) : BesideLs s (t.syncChan n at_) := by
  have hstat {f : Fld} (hf : f.off = PEO_STAT n) : ¬lsWord f.off := hf ▸ not_lsWord_of_chan (by decide) n
  have k := h.putFlag (f := PEO_STAT_PULSING n) (t.outs.chan.get n).pulse.isSome (hstat rfl)
  refine k.ite (((k.putFlag _ (hstat rfl)).putFlag _ (hstat rfl)).wr64 _ ?_ ?_)
  · exact not_lsWord_of_chan (by decide) n
  · exact not_lsWord_of_low (by unfold PEO_LAST_TT; omega)

theorem BesideLs.refreshChan (n : Chan) : BesideLs s (t.refreshChan n) := by
  unfold State.refreshChan
  extract_lets held off changed s1 s2 map
  have k1 : BesideLs s s1 := (((h.dropTest _).onChan _ _).setLogic _ _ _).ite ((h.setLogic _ _ _).ite h)
  have k2 : BesideLs s s2 := (k1.onChan _ _).ite k1
  exact ((k2.putFlag _ (not_lsWord_of_chan (by decide) n)).put _ (not_lsWord_of_low (by decide))).syncChan _ _

theorem BesideLs.refreshOuts : BesideLs s t.refreshOuts := by
  have k := h.each (allFin 32) State.refreshChan (fun _ n k => k.refreshChan n)
  refine k.ite ((((k.putFlag _ ?_).putFlag _ ?_).onOuts _).raiseSrc _)
  all_goals exact not_lsWord_of_low (by decide)

theorem BesideLs.abandonTest : BesideLs s t.abandonTest := by
  unfold State.abandonTest
  split
  · exact (h.onOuts _).putFlag _ (not_lsWord_of_high (by decide))
  · exact h

theorem BesideLs.enterMode (m : Nat) : BesideLs s (t.enterMode m) := by
  unfold State.enterMode
  refine h.ite ?_
  extract_lets s0 s1
  have k0 : BesideLs s s0 := h.when _ _ (fun _ k => k.abandonTest)
  have k1 : BesideLs s s1 := by
    refine ((((k0.put _ ?_).put _ ?_).wr64 _ ?_ ?_).bump ?_).refreshOuts
    all_goals exact not_lsWord_of_high (by decide)
  exact (k1.onTw _).ite k1

theorem BesideLs.degradeWhen (bit : Nat) (c : Bool) : BesideLs s (t.degradeWhen bit c) := by
  have k (v : Nat) : BesideLs s (t.put PM_MODE_DEGR v) := h.put v (not_lsWord_of_high (by decide))
  exact (((k _).enterMode _).ite (k _)).ite (k _)

/-! ### The distributor (R284, R291, R295) -/

theorem BesideLs.unpresent (g : Group) : BesideLs s (t.unpresent g) :=
  ((h.put _ (not_lsWord_of_high (Nat.le_add_right_of_le (by decide)))).wr _
    (not_lsWord_of_interrupt (by decide) g)).ite h

theorem BesideLs.withdraw (g : Group) : BesideLs s (t.withdraw g) :=
  ((h.unpresent g).bump (not_lsWord_of_interrupt (by decide) g)).ite h

theorem BesideLs.countOrphan (i : Nat) : BesideLs s (t.countOrphan i) :=
  (h.bump (not_lsWord_of_high (Nat.le_add_right_of_le (by decide)))).bump (not_lsWord_of_high (by decide))

theorem BesideLs.syncOrphans : BesideLs s t.syncOrphans := by
  unfold State.syncOrphans
  extract_lets now s1
  have k1 : BesideLs s s1 := h.each _ _ (fun _ i k => k.countOrphan i)
  clear_value s1 now
  exact k1.trans ⟨fun _ _ => rfl, rfl⟩

theorem BesideLs.syncIc : BesideLs s t.syncIc :=
  (h.each _ _ (fun _ g k => (k.withdraw g).ite k)).syncOrphans

theorem BesideLs.undeliver (g : Group) (e : EntryWindow) : BesideLs s (t.undeliver g e) := by
  unfold State.undeliver
  extract_lets old now pend s1
  have k1 : BesideLs s s1 := h.wr _ (not_lsWord_of_high (Nat.le_add_right_of_le (by decide)))
  exact (k1.setSw _ _).ite k1

end

end Sys2Proof.Machine
end

section
/-! The operations on a lockstep group: what each shows in the group's LS words and leaves in its core, and what it leaves
alone (R191, R192, R196, R198). -/

namespace Sys2Proof.Machine

variable {s t u : State} {g : Group}

/-! ### Cores and the words of a group -/

theorem core_onCore_other (s : State) (f : Core → Core) {k : Group} (h : k ≠ g) : (s.onCore g f).core k = s.core k := by
  rw [State.core, State.onCore, alter]
  exact Vector.getElem_set_ne g.isLt k.isLt (fun e => h (Fin.ext e.symm))

@[simp] theorem get_onCore (s : State) (g : Group) (f : Core → Core) (x : Fld) : (s.onCore g f).get x = s.get x := rfl
@[simp] theorem flag_onCore (s : State) (g : Group) (f : Core → Core) (x : Fld) : (s.onCore g f).flag x = s.flag x := rfl

@[simp] theorem rd64_onCore (s : State) (g : Group) (f : Core → Core) (o : Nat) : (s.onCore g f).rd64 o = s.rd64 o := rfl

theorem core_eq_of_cores_eq (h : t.cores = s.cores) (k : Group) : t.core k = s.core k := by
  rw [State.core, h, State.core]

@[simp] theorem core_wr (s : State) (off : Nat) (v : Word) (k : Group) : (s.wr off v).core k = s.core k := rfl
@[simp] theorem core_put (s : State) (f : Fld) (v : Nat) (k : Group) : (s.put f v).core k = s.core k := rfl
@[simp] theorem core_putFlag (s : State) (f : Fld) (b : Bool) (k : Group) : (s.putFlag f b).core k = s.core k := rfl
@[simp] theorem core_bump (s : State) (f : Fld) (k : Group) : (s.bump f).core k = s.core k := rfl
@[simp] theorem core_raiseTo (s : State) (f : Fld) (n : Nat) (k : Group) : (s.raiseTo f n).core k = s.core k := rfl
@[simp] theorem core_wr64 (s : State) (off v : Nat) (k : Group) : (s.wr64 off v).core k = s.core k := rfl
@[simp] theorem core_raise (s : State) (id detail : Nat) (k : Group) : (s.raise id detail).core k = s.core k := rfl

/-- A field of a group spares another of that group where those of group 0 do. -/
theorem spares_of_group {n c d lo w lo' w' : Nat} (h : Fld.spares ⟨c, lo, w⟩ ⟨d, lo', w'⟩ = true) :
    Fld.spares ⟨c + n * 0x10000, lo, w⟩ ⟨d + n * 0x10000, lo', w'⟩ = true := by
  simpa [Fld.spares, Fld.fits, Fld.apart] using h

/-- The value read after it is put into a field that it fits. -/
theorem get_put_fitting (s : State) {f : Fld} {v : Nat} (hf : f.fits = true) (hv : v < 2 ^ f.width) : (s.put f v).get f = v :=
  (get_put_same s f v hf).trans (Nat.mod_eq_of_lt hv)

/-! ### What leaves the other groups alone -/

/-- `t` differs from `s` in the registers, the core of group `g`, faults and interrupt events on their way, the outputs, the twin
link, and the distributor's records alone. -/
structure GroupOnly (g : Group) (s t : State) : Prop where
  others : ∀ k : Group, k ≠ g → t.core k = s.core k
  rest : t = { s with regs := t.regs, cores := t.cores, fcuIn := t.fcuIn, srcIn := t.srcIn, outs := t.outs, tw := t.tw,
                      orphans := t.orphans, swGroups := t.swGroups }

theorem GroupOnly.refl (g : Group) (s : State) : GroupOnly g s s :=
  ⟨fun _ _ => rfl, rfl⟩

theorem GroupOnly.trans (h : GroupOnly g s t) (k : GroupOnly g t u) : GroupOnly g s u where
  others j hj := (k.others j hj).trans (h.others j hj)
  rest := by rw [k.rest, h.rest]

theorem BesideLs.groupOnly (h : BesideLs s t) (g : Group) : GroupOnly g s t where
  others k _ := h.core k
  rest := by rw [h.rest]

section
variable (h : GroupOnly g s t)
include h

theorem GroupOnly.mem : t.mem = s.mem := by rw [h.rest]
theorem GroupOnly.tt : t.tt = s.tt := by rw [h.rest]
theorem GroupOnly.fn : t.fn = s.fn := by rw [h.rest]
theorem GroupOnly.part : t.part = s.part := by rw [h.rest]

theorem GroupOnly.wr (off : Nat) (v : Word) : GroupOnly g s (t.wr off v) := h.trans ⟨fun _ _ => rfl, rfl⟩
theorem GroupOnly.put (f : Fld) (v : Nat) : GroupOnly g s (t.put f v) := h.wr _ _
theorem GroupOnly.putFlag (f : Fld) (b : Bool) : GroupOnly g s (t.putFlag f b) := h.wr _ _
theorem GroupOnly.bump (f : Fld) : GroupOnly g s (t.bump f) := h.wr _ _
theorem GroupOnly.raiseTo (f : Fld) (n : Nat) : GroupOnly g s (t.raiseTo f n) := h.wr _ _
theorem GroupOnly.wr64 (off v : Nat) : GroupOnly g s (t.wr64 off v) := (h.wr _ _).wr _ _
theorem GroupOnly.raise (id detail : Nat) : GroupOnly g s (t.raise id detail) := h.trans ⟨fun _ _ => rfl, rfl⟩

theorem GroupOnly.onCore (f : Core → Core) : GroupOnly g s (t.onCore g f) :=
  h.trans ⟨fun _ hk => core_onCore_other t f hk, rfl⟩

theorem GroupOnly.beside (k : BesideLs t u) : GroupOnly g s u :=
  h.trans (k.groupOnly g)

theorem GroupOnly.ite {c : Prop} [Decidable c] (k : GroupOnly g s u) : GroupOnly g s (if c then t else u) :=
  holds_ite (P := GroupOnly g s) h k

end

/-! ### Craze records (R191) -/

/-- A craze record is made of registers alone. -/
theorem craze_regs (s : State) (g : Group) (z : Craze) : s.craze g z = { s with regs := (s.craze g z).regs } := by
  unfold State.craze
  extract_lets b k s1
  have h1 : s1 = { s with regs := s1.regs } :=
    holds_each (P := fun t => t = { s with regs := t.regs }) rfl _ _ (fun t j h => by rw [h]; rfl)
  rw [h1]
  rfl

@[simp] theorem craze_cores (s : State) (g : Group) (z : Craze) : (s.craze g z).cores = s.cores := by rw [craze_regs]
@[simp] theorem craze_mem (s : State) (g : Group) (z : Craze) : (s.craze g z).mem = s.mem := by rw [craze_regs]
@[simp] theorem craze_fcuIn (s : State) (g : Group) (z : Craze) : (s.craze g z).fcuIn = s.fcuIn := by rw [craze_regs]
@[simp] theorem craze_tt (s : State) (g : Group) (z : Craze) : (s.craze g z).tt = s.tt := by rw [craze_regs]

/-- The words beside a group's craze records and their head read as before. -/
theorem rd_craze (s : State) (g : Group) (z : Craze) {o : Nat}
    (h : o < 0x200080 + g.val * 0x10000 ∨ 0x200084 + g.val * 0x10000 ≤ o ∧ o < 0x200200 + g.val * 0x10000) :
    (s.craze g z).rd o = s.rd o := by
  unfold State.craze
  extract_lets b k s1
  have hhead : o ≠ (LS_CRAZE_HEAD_CNT g).off := by
    dsimp only [LS_CRAZE_HEAD_CNT, LS_CRAZE_HEAD]
    omega
  have hrecord (j : Nat) : o ≠ LS_CRAZE g k j := by
    unfold LS_CRAZE
    omega
  rw [State.bumpWrap, rd_put_other _ _ _ hhead]
  exact each_preserves (fun t => t.rd o) _ _ (fun t j => rd_wr_other t _ (hrecord j)) s

theorem get_craze (s : State) (g : Group) (z : Craze) {f : Fld}
    (h : f.off < 0x200080 + g.val * 0x10000 ∨ 0x200084 + g.val * 0x10000 ≤ f.off ∧ f.off < 0x200200 + g.val * 0x10000) :
    (s.craze g z).get f = s.get f :=
  get_eq_of_rd_eq (rd_craze s g z h)

@[simp] theorem core_craze (s : State) (g : Group) (z : Craze) (k : Group) : (s.craze g z).core k = s.core k :=
  core_eq_of_cores_eq (craze_cores s g z) k

theorem GroupOnly.craze (h : GroupOnly g s t) (k : Group) (z : Craze) : GroupOnly g s (t.craze k z) :=
  h.trans ⟨fun j _ => core_craze t k z j, by rw [craze_regs]⟩

/-! ### DEGRADED (R192) -/

/-- The words of the LS blocks show the cause and are else as before. -/
theorem syncDegr_beside (s : State) (g : Group) :
    BesideLs (s.putFlag (LS_STAT_DEGR g) (s.get (LS_STAT_EJECTED g) != 0 || s.get (LS_RETIRED_MAP g) != 0)) (s.syncDegr g) :=
  (BesideLs.refl _).degradeWhen _ _

/-- A field of an LS block beside DEGR reads as before. -/
theorem get_syncDegr {f : Fld} (hls : lsWord f.off) (h : (LS_STAT_DEGR g).spares f = true) : (s.syncDegr g).get f = s.get f := by
  rw [(syncDegr_beside s g).get hls, get_putFlag_spared h]

/-- A word of an LS block beside the group's LS_STAT reads as before. -/
theorem rd_syncDegr {o : Nat} (hls : lsWord o) (h : o ≠ LS_STAT g) : (s.syncDegr g).rd o = s.rd o :=
  ((syncDegr_beside s g).words o hls).trans (rd_put_other _ _ _ h)

@[simp] theorem core_syncDegr (s : State) (g k : Group) : (s.syncDegr g).core k = s.core k := (syncDegr_beside s g).core k
@[simp] theorem syncDegr_fcuIn (s : State) (g : Group) : (s.syncDegr g).fcuIn = s.fcuIn := (syncDegr_beside s g).fcuIn
@[simp] theorem syncDegr_tt (s : State) (g : Group) : (s.syncDegr g).tt = s.tt := (syncDegr_beside s g).tt

theorem GroupOnly.syncDegr (h : GroupOnly g s t) (k : Group) : GroupOnly g s (t.syncDegr k) :=
  (h.putFlag _ _).beside (syncDegr_beside t k)

/-! ### Faults with a craze detail (R191) -/

theorem fcuIn_raise_craze (s : State) (id differ : Nat) (g : Group) :
    (s.raise id (crazeDetail g differ)).fcuIn = s.fcuIn ++ [⟨id, g.val + differ % 8 * 16, false, 0, s.tt⟩] := by
  have h : crazeDetail g differ % 2 ^ 32 = g.val + differ % 8 * 16 := Nat.mod_eq_of_lt (by unfold crazeDetail; omega)
  rw [State.raise, h]

/-- The bit of a copy in the differing copies of a craze record. -/
theorem copyBit_mod_eight (c : Fin 3) : 2 ^ c.val % 8 = 2 ^ c.val :=
  match c with
  | 0 | 1 | 2 => rfl

end Sys2Proof.Machine
end

section
/-! Ejection of a copy (R190, R191, R196). -/

namespace Sys2Proof.Machine

variable {s t u : State} {g : Group} {c : Fin 3} {counted retire : Bool} {z : Craze} {own : Copy → Copy}

/-! ### Counting (R196) -/

/-- The counters of ejections stand one behind the other. -/
theorem ejCnt_eq (g : Group) (c : Fin 3) : ejCnt g c = ⟨0x200010 + c.val * 4 + g.val * 0x10000, 0, 16⟩ :=
  match c with
  | 0 | 1 | 2 => rfl

/-- The words beside the counter and the FN of a copy's ejections read as before one is counted. -/
theorem rd_countEject (s : State) (g : Group) (c : Fin 3) {o : Nat}
    (h : o < 0x200010 + g.val * 0x10000 ∨ 0x200070 + g.val * 0x10000 ≤ o) : (s.countEject g c).rd o = s.rd o := by
  have hb : o ≠ LS_EJ_FN_B g c ∧ o ≠ LS_EJ_FN_B g c + 4 := by unfold LS_EJ_FN_B; omega
  have ha : o ≠ LS_EJ_FN g c ∧ o ≠ LS_EJ_FN g c + 4 := by unfold LS_EJ_FN; omega
  have hcnt : o ≠ (ejCnt g c).off := by rw [ejCnt_eq]; dsimp only; omega
  unfold State.countEject
  extract_lets s1
  rw [rd_onCore, rd_wr64_other _ _ _ ha.1 ha.2, rd_wr64_other _ _ _ hb.1 hb.2]
  exact rd_put_other s _ _ hcnt

/-- A counted ejection shows in the copy's counter, and its FN in the record. -/
theorem countEject_shows (s : State) (g : Group) (c : Fin 3) :
    (s.countEject g c).get (ejCnt g c) = min (s.get (ejCnt g c) + 1) (2 ^ (ejCnt g c).width - 1) ∧
      (s.countEject g c).rd64 (LS_EJ_FN g c) = s.fn % 2 ^ 64 := by
  have hb : (ejCnt g c).off ≠ LS_EJ_FN_B g c ∧ (ejCnt g c).off ≠ LS_EJ_FN_B g c + 4 := by
    rw [ejCnt_eq]; unfold LS_EJ_FN_B; dsimp only; omega
  have ha : (ejCnt g c).off ≠ LS_EJ_FN g c ∧ (ejCnt g c).off ≠ LS_EJ_FN g c + 4 := by
    rw [ejCnt_eq]; unfold LS_EJ_FN; dsimp only; omega
  have hfits : (ejCnt g c).fits = true := by rw [ejCnt_eq]; rfl
  rw [State.countEject, rd64_onCore, rd64_wr64_same, get_onCore, get_wr64_other _ ha.1 ha.2, get_wr64_other _ hb.1 hb.2,
    get_bump_same _ _ hfits]
  exact ⟨rfl, rfl⟩

theorem countEject_core (s : State) (g : Group) (c : Fin 3) :
    ∃ e, (s.countEject g c).core g = { s.core g with ejections := e } := by
  rw [State.countEject, core_onCore_same, core_wr64, core_wr64, core_bump]
  exact ⟨_, rfl⟩

@[simp] theorem countEject_fcuIn (s : State) (g : Group) (c : Fin 3) : (s.countEject g c).fcuIn = s.fcuIn := by
  rw [State.countEject, onCore_fcuIn, wr64_fcuIn, wr64_fcuIn, bump_fcuIn]

theorem GroupOnly.countEject (h : GroupOnly g s t) (c : Fin 3) : GroupOnly g s (t.countEject g c) :=
  (((h.bump _).wr64 _ _).wr64 _ _).onCore _

/-! ### The steps of an ejection -/

/-- A copy that takes no part any more, as one ejected or as one retired. -/
def State.copyOut (s : State) (g : Group) (c : Fin 3) (retire : Bool) : State :=
  let s1 := s.put (LS_STAT_ACTIVE g) (s.get (LS_STAT_ACTIVE g) &&& (7 - 2 ^ c.val))
  if retire then (s1.put (LS_RETIRED_MAP g) (s.get (LS_RETIRED_MAP g) ||| 2 ^ c.val)).put (LS_STAT_EJECTED g)
    (s.get (LS_STAT_EJECTED g) &&& (7 - 2 ^ c.val))
  else s1.put (LS_STAT_EJECTED g) (s.get (LS_STAT_EJECTED g) ||| 2 ^ c.val)

/-- The same with the ejection counted where it is, and the copy's own state held or dropped. -/
def State.copyStopped (s : State) (g : Group) (c : Fin 3) (counted retire : Bool) (own : Copy → Copy) : State :=
  let s3 := if counted then (s.copyOut g c retire).countEject g c else s.copyOut g c retire
  if retire then s3.dropCopies g (2 ^ c.val) else s3.holdCopy g c own

theorem eject_eq (hr : (counted && s.retires g c) = retire) : s.eject g c z counted own =
    (((s.copyStopped g c counted retire own).craze g { z with action := if retire then 1 else 0 }).syncDegr g).raise
      (if retire then F_LS_RETIRE else F_LS_EJECT) (crazeDetail g z.differ) := by
  subst hr
  rfl

theorem rd_copyStopped (s : State) (g : Group) (c : Fin 3) (counted retire : Bool) (own : Copy → Copy) (o : Nat) :
    (s.copyStopped g c counted retire own).rd o =
      (if counted then (s.copyOut g c retire).countEject g c else s.copyOut g c retire).rd o := by
  unfold State.copyStopped
  extract_lets s3
  split
  · exact rd_onCore _ _ _ _
  · exact rd_onCore _ _ _ _

/-! ### The words that show it -/

/-- The copies as they show once one takes no part any more. -/
theorem copyOut_shows (s : State) (g : Group) (c : Fin 3) (retire : Bool) :
    (s.copyOut g c retire).get (LS_STAT_ACTIVE g) = s.get (LS_STAT_ACTIVE g) &&& (7 - 2 ^ c.val) ∧
      (s.copyOut g c false).get (LS_STAT_EJECTED g) = s.get (LS_STAT_EJECTED g) ||| 2 ^ c.val ∧
      (s.copyOut g c true).get (LS_RETIRED_MAP g) = s.get (LS_RETIRED_MAP g) ||| 2 ^ c.val ∧
      (s.copyOut g c retire).get (LS_STAT_STATE g) = s.get (LS_STAT_STATE g) := by
  have hbit : 2 ^ c.val < 2 ^ 3 := Nat.pow_lt_pow_right (by decide) c.isLt
  have hactive : s.get (LS_STAT_ACTIVE g) &&& (7 - 2 ^ c.val) < 2 ^ 3 :=
    lt_of_le_of_lt Nat.and_le_left (get_lt s (LS_STAT_ACTIVE g))
  unfold State.copyOut
  extract_lets s1
  have h1 : s1.get (LS_STAT_ACTIVE g) = s.get (LS_STAT_ACTIVE g) &&& (7 - 2 ^ c.val) := get_put_fitting s rfl hactive
  refine ⟨?_, ?_, ?_, ?_⟩
  · split
    · rw [get_put_spared, get_put_spared, h1]
      all_goals exact spares_of_group rfl
    · rw [get_put_spared, h1]
      exact spares_of_group rfl
  · exact get_put_fitting _ rfl (Nat.or_lt_two_pow (get_lt s (LS_STAT_EJECTED g)) hbit)
  · refine (get_put_spared (spares_of_group rfl) _ _).trans ?_
    exact get_put_fitting _ rfl (Nat.or_lt_two_pow (get_lt s (LS_RETIRED_MAP g)) hbit)
  · split
    · rw [get_put_spared, get_put_spared, get_put_spared]
      all_goals exact spares_of_group rfl
    · rw [get_put_spared, get_put_spared]
      all_goals exact spares_of_group rfl

/-- The fields of the copies' status stand as the copy's going out has left them. -/
theorem get_eject {f : Fld} (hr : (counted && s.retires g c) = retire) (hf : f.off = LS_STAT g ∨ f.off = LS_RETIRED g)
    (hdegr : (LS_STAT_DEGR g).spares f = true) : (s.eject g c z counted own).get f = (s.copyOut g c retire).get f := by
  have hoff : f.off = 0x200008 + g.val * 0x10000 ∨ f.off = 0x200090 + g.val * 0x10000 := hf
  have hcount : ((s.copyOut g c retire).countEject g c).rd f.off = (s.copyOut g c retire).rd f.off := rd_countEject _ g c (by omega)
  rw [eject_eq hr, get_raise, get_syncDegr (by unfold lsWord; omega) hdegr, get_craze _ _ _ (by omega)]
  refine get_eq_of_rd_eq ((rd_copyStopped _ _ _ _ _ _ _).trans ?_)
  split
  · exact hcount
  · rfl

/-- The words of the group beside its status stand as the counting has left them. -/
theorem rd_eject {o : Nat} (hr : (counted && s.retires g c) = retire)
    (ho : 0x20000C + g.val * 0x10000 ≤ o ∧ o < 0x200080 + g.val * 0x10000) : (s.eject g c z counted own).rd o =
      (if counted then (s.copyOut g c retire).countEject g c else s.copyOut g c retire).rd o := by
  rw [eject_eq hr, rd_raise, rd_syncDegr (by unfold lsWord; omega) (by unfold LS_STAT; omega), rd_craze _ _ _ (by omega),
    rd_copyStopped]

theorem rd_copyOut {o : Nat} (retire : Bool) (ho : 0x20000C + g.val * 0x10000 ≤ o ∧ o < 0x200080 + g.val * 0x10000) :
    (s.copyOut g c retire).rd o = s.rd o := by
  have hstat : o ≠ LS_STAT g := by unfold LS_STAT; omega
  have hretired : o ≠ LS_RETIRED g := by unfold LS_RETIRED; omega
  unfold State.copyOut
  extract_lets s1
  have h1 : s1.rd o = s.rd o := rd_put_other _ _ _ hstat
  split
  · exact (rd_put_other _ _ _ hstat).trans ((rd_put_other _ _ _ hretired).trans h1)
  · exact (rd_put_other _ _ _ hstat).trans h1

/-! ### What it leaves -/

theorem copyOut_rest (s : State) (g : Group) (c : Fin 3) (retire : Bool) :
    s.copyOut g c retire = { s with regs := (s.copyOut g c retire).regs } := by
  cases retire <;> rfl

theorem groupOnly_copyStopped (s : State) (g : Group) (c : Fin 3) (counted retire : Bool) (own : Copy → Copy) :
    GroupOnly g s (s.copyStopped g c counted retire own) := by
  have h := GroupOnly.refl g s
  have hout : GroupOnly g s (s.copyOut g c retire) := (((h.put _ _).put _ _).put _ _).ite ((h.put _ _).put _ _)
  have hcount := (hout.countEject c).ite (c := counted = true) hout
  exact (hcount.onCore _).ite (hcount.onCore _)

theorem GroupOnly.eject (h : GroupOnly g s t) (c : Fin 3) (z : Craze) (counted : Bool) (own : Copy → Copy) :
    GroupOnly g s (t.eject g c z counted own) := by
  rw [eject_eq rfl]
  exact (((h.trans (groupOnly_copyStopped t g c _ _ _)).craze _ _).syncDegr _).raise _ _

/-- An ejection raises its fault. -/
theorem fcuIn_eject (hr : (counted && s.retires g c) = retire) : (s.eject g c z counted own).fcuIn =
    s.fcuIn ++ [⟨if retire then F_LS_RETIRE else F_LS_EJECT, g.val + z.differ % 8 * 16, false, 0, s.tt⟩] := by
  have hout : (s.copyOut g c retire).fcuIn = s.fcuIn := by rw [copyOut_rest]
  have hstopped : (s.copyStopped g c counted retire own).fcuIn = s.fcuIn := by
    unfold State.copyStopped
    extract_lets s3
    have h3 : s3.fcuIn = s.fcuIn :=
      holds_ite (P := fun t => t.fcuIn = s.fcuIn) ((countEject_fcuIn _ _ _).trans hout) hout
    split <;> exact h3
  have htt : (s.copyStopped g c counted retire own).tt = s.tt := (groupOnly_copyStopped s g c counted retire own).tt
  rw [eject_eq hr, fcuIn_raise_craze, syncDegr_fcuIn, craze_fcuIn, hstopped, syncDegr_tt, craze_tt, htt]

/-- The group's core but for what it holds of its ejections and of the copies that are out. -/
theorem eject_core (s : State) (g : Group) (c : Fin 3) (z : Craze) (counted : Bool) (own : Copy → Copy) :
    ∃ e x, (s.eject g c z counted own).core g = { s.core g with ejections := e, held := x } := by
  have hout (retire : Bool) : (s.copyOut g c retire).core g = s.core g := by rw [copyOut_rest]; rfl
  rw [eject_eq rfl, core_raise, core_syncDegr, core_craze, State.copyStopped]
  generalize (counted && s.retires g c) = retire
  obtain ⟨e, he⟩ := countEject_core (s.copyOut g c retire) g c
  rw [hout] at he
  cases counted
  · cases retire
    · exact ⟨_, _, (core_onCore_same _ _ _).trans (by rw [if_neg Bool.false_ne_true, hout])⟩
    · exact ⟨_, _, (core_onCore_same _ _ _).trans (by rw [if_neg Bool.false_ne_true, hout])⟩
  · cases retire
    · exact ⟨_, _, (core_onCore_same _ _ _).trans (by rw [if_pos rfl, he])⟩
    · exact ⟨_, _, (core_onCore_same _ _ _).trans (by rw [if_pos rfl, he])⟩

end Sys2Proof.Machine
end

section
/-! Groups that stop, mismatches without a majority, and the ends of pauses (R194, R198, R199, R200). -/

namespace Sys2Proof.Machine

variable {s t u : State} {g : Group} {z : Craze}

/-! ### Stop (R198, R200) -/

/-- A core at a stop: nothing it has not committed takes effect. -/
def Core.stopped (c : Core) : Core :=
  { c with broken := true, inject := none, pause := none, stopDue := false, stepping := false, storeErrs := [], due := [] }

/-- The status of a group that stops. -/
def State.stopShown (s : State) (g : Group) : State :=
  (((s.put (LS_STAT_STATE g) lsStopped).putFlag (LS_STAT_WAIT g) false).putFlag (LS_DBG_HALTED g) false).putFlag (LS_DBG_HALT_PEND g)
    false

theorem stopNow_beside (s : State) (g : Group) : BesideLs ((s.onCore g Core.stopped).stopShown g) (s.stopNow g) :=
  ((BesideLs.refl _).withdraw g).syncOrphans

theorem get_stopShown (s : State) (g : Group) : (s.stopShown g).get (LS_STAT_STATE g) = 1 := by
  rw [State.stopShown, get_putFlag_spared, get_putFlag_spared, get_putFlag_spared, get_put_fitting s rfl (show 1 < 2 ^ 2 by decide)]
  · rfl
  all_goals exact spares_of_group rfl

theorem rd_stopShown (s : State) {o : Nat} (hstat : o ≠ LS_STAT g) (hdbg : o ≠ LS_DBG g) : (s.stopShown g).rd o = s.rd o := by
  unfold State.stopShown State.putFlag
  rw [rd_put_other _ _ _ hdbg, rd_put_other _ _ _ hdbg, rd_put_other _ _ _ hstat, rd_put_other _ _ _ hstat]

theorem get_stopNow_state (s : State) (g : Group) : (s.stopNow g).get (LS_STAT_STATE g) = 1 := by
  rw [(stopNow_beside s g).get, get_stopShown]

theorem rd_stopNow (s : State) {o : Nat} (hls : lsWord o) (hstat : o ≠ LS_STAT g) (hdbg : o ≠ LS_DBG g) :
    (s.stopNow g).rd o = s.rd o := by
  rw [(stopNow_beside s g).words o hls, rd_stopShown _ hstat hdbg, rd_onCore]

theorem core_stopNow (s : State) (g : Group) : (s.stopNow g).core g = (s.core g).stopped := by
  rw [(stopNow_beside s g).core, State.stopShown, core_putFlag, core_putFlag, core_putFlag, core_put, core_onCore_same]

@[simp] theorem stopNow_fcuIn (s : State) (g : Group) : (s.stopNow g).fcuIn = s.fcuIn := by
  rw [(stopNow_beside s g).fcuIn, State.stopShown, putFlag_fcuIn, putFlag_fcuIn, putFlag_fcuIn, put_fcuIn, onCore_fcuIn]

theorem GroupOnly.stopNow (h : GroupOnly g s t) : GroupOnly g s (t.stopNow g) :=
  (((((h.onCore Core.stopped).put _ _).putFlag _ _).putFlag _ _).putFlag _ _).beside (stopNow_beside t g)

/-! ### An entry that is not completed (R278, R297) -/

theorem breakEntry_shows (s : State) (g : Group) : (∀ o, lsWord o → (s.breakEntry g).rd o = s.rd o) ∧
    (∃ e, (s.breakEntry g).core g = { s.core g with entry := e }) ∧ (s.breakEntry g).fcuIn = s.fcuIn := by
  unfold State.breakEntry
  split
  · exact ⟨fun _ _ => rfl, ⟨_, rfl⟩, rfl⟩
  next e _ =>
    split
    · have h : BesideLs s ((s.undeliver g e).put (IC_TAKEN_CNT_CNT g) (s.get (IC_TAKEN_CNT_CNT g) - 1)) :=
        ((BesideLs.refl s).undeliver g e).put _ (not_lsWord_of_interrupt (by decide) g)
      refine ⟨fun o ho => (rd_onCore _ _ _ _).trans (h.words o ho), ?_, h.fcuIn⟩
      rw [core_onCore_same, h.core]
      exact ⟨_, rfl⟩
    · exact ⟨fun _ _ => rfl, ⟨_, rfl⟩, rfl⟩

theorem GroupOnly.breakEntry (h : GroupOnly g s t) : GroupOnly g s (t.breakEntry g) := by
  unfold State.breakEntry
  split
  · exact h
  · exact (((h.beside ((BesideLs.refl t).undeliver g _)).put _ _).onCore _).ite h

/-! ### A mismatch without a majority (R198, R199) -/

/-- A mismatch counted and recorded. -/
def State.mismatchNoted (s : State) (g : Group) (z : Craze) : State :=
  ((s.breakEntry g).bump (LS_MISMATCH_CNT_CNT g)).craze g { z with action := if g.val = 0 then 3 else 2 }

theorem mismatchStop_eq (s : State) (g : Group) (z : Craze) : s.mismatchStop g z =
    (((s.mismatchNoted g z).stopNow g).onCore g (fun c => { c with restartDue := true })).raise
      (if g.val = 0 then F_LS_MISMATCH_KW else F_LS_MISMATCH_APP) (crazeDetail g z.differ) := rfl

theorem GroupOnly.mismatchStop (h : GroupOnly g s t) (z : Craze) : GroupOnly g s (t.mismatchStop g z) :=
  ((((h.breakEntry.bump _).craze _ _).stopNow).onCore _).raise _ _

/-- A mismatch stops the group until the next boundary, and is counted and raised. -/
theorem mismatchStop_shows (s : State) (g : Group) (z : Craze) : (s.mismatchStop g z).get (LS_STAT_STATE g) = 1 ∧
    (s.mismatchStop g z).get (LS_MISMATCH_CNT_CNT g) =
      min (s.get (LS_MISMATCH_CNT_CNT g) + 1) (2 ^ (LS_MISMATCH_CNT_CNT g).width - 1) ∧
    (s.mismatchStop g z).fcuIn =
      s.fcuIn ++ [⟨if g = 0 then F_LS_MISMATCH_KW else F_LS_MISMATCH_APP, g.val + z.differ % 8 * 16, false, 0, s.tt⟩] := by
  obtain ⟨hwords, -, hfcu⟩ := breakEntry_shows s g
  have hg : (if g.val = 0 then F_LS_MISMATCH_KW else F_LS_MISMATCH_APP) = if g = 0 then F_LS_MISMATCH_KW else F_LS_MISMATCH_APP :=
    if_congr (Fin.val_eq_zero_iff (a := g)) rfl rfl
  have htt : ((s.mismatchNoted g z).stopNow g).tt = s.tt := (((GroupOnly.refl g s).breakEntry.bump _).craze _ _).stopNow.tt
  have hcnt : ((s.breakEntry g).get (LS_MISMATCH_CNT_CNT g)) = s.get (LS_MISMATCH_CNT_CNT g) :=
    get_eq_of_rd_eq (hwords _ (lsWord_of_group (by decide) g))
  have hstat : LS_MISMATCH_CNT g ≠ LS_STAT g := by unfold LS_MISMATCH_CNT LS_STAT; omega
  have hdbg : LS_MISMATCH_CNT g ≠ LS_DBG g := by unfold LS_MISMATCH_CNT LS_DBG; omega
  have hrecord : LS_MISMATCH_CNT g < 0x200080 + g.val * 0x10000 := by unfold LS_MISMATCH_CNT; omega
  have hword : ((s.mismatchNoted g z).stopNow g).rd (LS_MISMATCH_CNT g) =
      ((s.breakEntry g).bump (LS_MISMATCH_CNT_CNT g)).rd (LS_MISMATCH_CNT g) :=
    (rd_stopNow _ (lsWord_of_group (by decide) g) hstat hdbg).trans (rd_craze _ _ _ (.inl hrecord))
  rw [mismatchStop_eq, get_raise, get_raise, get_onCore, get_onCore, fcuIn_raise_craze, onCore_fcuIn, stopNow_fcuIn, onCore_tt, htt, hg]
  refine ⟨get_stopNow_state _ _, ?_, ?_⟩
  · rw [get_eq_of_rd_eq (f := LS_MISMATCH_CNT_CNT g) hword, get_bump_same _ _ rfl, hcnt]
  · rw [State.mismatchNoted, craze_fcuIn, bump_fcuIn, hfcu]

/-- The group's core is stopped, and restarts at the next boundary. -/
theorem mismatchStop_core (s : State) (g : Group) (z : Craze) :
    ∃ e, (s.mismatchStop g z).core g = { ({ s.core g with entry := e } : Core).stopped with restartDue := true } := by
  obtain ⟨-, ⟨e, he⟩, -⟩ := breakEntry_shows s g
  refine ⟨e, ?_⟩
  rw [mismatchStop_eq, core_raise, core_onCore_same, core_stopNow, State.mismatchNoted, core_craze, core_bump, he]

/-! ### The end of a pause (R194, R200) -/

/-- A group that issues again after a pause. -/
def State.pauseOver (s : State) (g : Group) (cclk : Nat) : State :=
  (((s.put (LS_PAUSE_LAST_CCLK g) cclk).raiseTo (LS_PAUSE_MAX_CCLK g) cclk).onCore g
    (fun c => { c with pause := none, stopDue := false })).put (LS_STAT_STATE g) lsRunning

theorem endPause_of_running (cclk : Nat) (h : (s.core g).stopDue = false) : s.endPause g cclk = s.pauseOver g cclk := by
  unfold State.endPause
  extract_lets c s1 s2
  exact if_neg (by rw [show c.stopDue = false from h]; exact Bool.false_ne_true)

theorem groupOnly_pauseOver (s : State) (g : Group) (cclk : Nat) : GroupOnly g s (s.pauseOver g cclk) :=
  ((((GroupOnly.refl g s).put _ _).raiseTo _ _).onCore _).put _ _

theorem GroupOnly.endPause (h : GroupOnly g s t) (cclk : Nat) : GroupOnly g s (t.endPause g cclk) :=
  (h.trans (groupOnly_pauseOver t g cclk)).stopNow.ite (h.trans (groupOnly_pauseOver t g cclk))

/-- The words of the group beside its status and its pauses read as before. -/
theorem rd_pauseOver (s : State) (cclk : Nat) {o : Nat} (hstat : o ≠ LS_STAT g) (hlast : o ≠ LS_PAUSE_LAST g)
    (hmax : o ≠ LS_PAUSE_MAX g) : (s.pauseOver g cclk).rd o = s.rd o := by
  rw [State.pauseOver, rd_put_other _ _ _ hstat, rd_onCore, State.raiseTo, rd_put_other _ _ _ hmax, rd_put_other _ _ _ hlast]

theorem rd_endPause (s : State) (cclk : Nat) {o : Nat} (hls : lsWord o) (hstat : o ≠ LS_STAT g) (hlast : o ≠ LS_PAUSE_LAST g)
    (hmax : o ≠ LS_PAUSE_MAX g) (hdbg : o ≠ LS_DBG g) : (s.endPause g cclk).rd o = s.rd o := by
  have h := rd_pauseOver s cclk hstat hlast hmax
  exact holds_ite (P := fun t => t.rd o = s.rd o) ((rd_stopNow _ hls hstat hdbg).trans h) h

/-- A pause that is over shows its length, and the group running. -/
theorem pauseOver_shows (s : State) (g : Group) {cclk : Nat} (h : cclk < 2 ^ 11) :
    (s.pauseOver g cclk).get (LS_PAUSE_LAST_CCLK g) = cclk ∧ (s.pauseOver g cclk).get (LS_STAT_STATE g) = 0 ∧
      (s.pauseOver g cclk).core g = { s.core g with pause := none, stopDue := false } := by
  refine ⟨?_, get_put_fitting _ rfl (show 0 < 2 ^ 2 by decide), ?_⟩
  · rw [State.pauseOver, get_put_spared, get_onCore, State.raiseTo, get_put_spared, get_put_fitting s rfl h]
    all_goals exact spares_of_group rfl
  · rw [State.pauseOver, core_put, core_onCore_same, core_raiseTo, core_put]

/-- The other fields of the group's status stand as before. -/
theorem get_pauseOver (s : State) (g : Group) (cclk : Nat) {f : Fld} (hoff : f.off = LS_STAT g)
    (hstate : (LS_STAT_STATE g).spares f = true) : (s.pauseOver g cclk).get f = s.get f := by
  have hlast : f.off ≠ (LS_PAUSE_LAST_CCLK g).off := by rw [hoff]; dsimp only [LS_STAT, LS_PAUSE_LAST_CCLK, LS_PAUSE_LAST]; omega
  have hmax : f.off ≠ (LS_PAUSE_MAX_CCLK g).off := by rw [hoff]; dsimp only [LS_STAT, LS_PAUSE_MAX_CCLK, LS_PAUSE_MAX]; omega
  rw [State.pauseOver, get_put_spared hstate, get_onCore, State.raiseTo, get_put_otherWord _ hmax, get_put_otherWord _ hlast]

end Sys2Proof.Machine
end

section
/-! The vote on a slot, and what it makes of a group (R181 to R184, R190, R198, R202). -/

namespace Sys2Proof.Machine

variable {s t : State} {g : Group} {x y z : CopyRecord} {k : Fin 3} {part : List (Fin 3 × CopyRecord)}

/-! ### The outcomes of a vote (R184, R202) -/

theorem taking_of_three (r : Fin 3 → CopyRecord) (h : s.get (LS_STAT_ACTIVE g) = 7) :
    s.taking g r = [(0, r 0), (1, r 1), (2, r 2)] := by
  rw [State.taking, h]
  rfl

theorem taking_of_two (r : Fin 3 → CopyRecord) (h : s.get (LS_STAT_ACTIVE g) = 3) : s.taking g r = [(0, r 0), (1, r 1)] := by
  rw [State.taking, h]
  rfl

/-- Three copies of which copy `k` alone has other records. -/
def oddOne (x y : CopyRecord) (k : Fin 3) : List (Fin 3 × CopyRecord) :=
  [(0, if k = 0 then y else x), (1, if k = 1 then y else x), (2, if k = 2 then y else x)]

theorem vote_of_odd (taking : Nat) (inj : Bool) (h : y ≠ x) :
    vote (oddOne x y k) taking inj = .minority (crazeOf x y taking (2 ^ k.val) inj) k y := by
  match k with
  | 0 => simp [vote, oddOne, h]
  | 1 => simp [vote, oddOne, h, h.symm]
  | 2 => simp [vote, oddOne, h.symm]

theorem vote_of_three_apart (taking : Nat) (hxy : x ≠ y) (hyz : y ≠ z) (hxz : x ≠ z) :
    ∃ c : Craze, c.differ = taking ∧ vote [(0, x), (1, y), (2, z)] taking false = .none c :=
  ⟨{ crazeOf x y taking taking false with kind := 2 }, rfl, by simp [vote, hxy, hyz, hxz]⟩

theorem vote_of_two_apart (taking : Nat) (hxy : x ≠ y) :
    ∃ c : Craze, c.differ = taking ∧ vote [(0, x), (1, y)] taking false = .none c :=
  ⟨{ crazeOf x y taking taking false with kind := 2 }, rfl, by simp [vote, hxy]⟩

/-- An injection changes the records that it corrupts. -/
theorem corruptCopy_ne (x : CopyRecord) : corruptCopy x ≠ x := by
  have hflip (v : Vector (BitVec 128) 8) (i : Fin 8) : alter v i (fun b => b ^^^ 1) ≠ v := by
    intro h
    have hi : v.get i ^^^ 1 = v.get i := by
      conv_rhs => rw [← h]
      exact (Vector.getElem_set_self i.isLt).symm
    exact absurd ((BitVec.xor_right_inj (v.get i)).1 (hi.trans BitVec.xor_zero.symm)) (by decide)
  unfold corruptCopy
  extract_lets k
  exact fun h => hflip x.slot0 k (congrArg CopyRecord.slot0 h)

/-! ### The vote on a slot -/

/-- Whether a slot goes on after its vote. -/
def VoteOutcome.goesOn (v : VoteOutcome) : Bool :=
  match v with
  | .none _ => false
  | _ => true

/-- Whether a pending injection falls on a copy that commits in the slot. -/
def hitBy (inject : Option (Fin 3)) (e : Fin 3 × CopyRecord) : Bool :=
  inject == some e.1 && copyCommits e.2

/-- The records of a slot as they are voted. -/
def corrupted (inject : Option (Fin 3)) (part : List (Fin 3 × CopyRecord)) : List (Fin 3 × CopyRecord) :=
  part.map (fun e => if hitBy inject e then (e.1, corruptCopy e.2) else e)

theorem voteSlot_eq {inj : Bool} {v : VoteOutcome} (hinj : part.any (hitBy (s.core g).inject) = inj)
    (hv : vote (corrupted (s.core g).inject part) (s.get (LS_STAT_ACTIVE g)) inj = v) : s.voteSlot g part =
      (if inj then s.applyInjected g v else s.applyVote g v true, (inj && s.mode == modeGlost) || v.goesOn) := by
  subst hinj hv
  rfl

/-- Without an injection the records are voted as they are. -/
theorem voteSlot_of_plain {v : VoteOutcome} (h : (s.core g).inject = none)
    (hv : vote part (s.get (LS_STAT_ACTIVE g)) false = v) : s.voteSlot g part = (s.applyVote g v true, v.goesOn) := by
  have hsame : corrupted (s.core g).inject part = part := by
    rw [h]
    exact List.map_id part
  refine voteSlot_eq (inj := false) ?_ (hsame.symm ▸ hv)
  rw [h]
  exact List.any_eq_false.2 (fun _ _ => Bool.false_ne_true)

/-- An injection on copy `k` makes it the odd one of three that agree and commit. -/
theorem voteSlot_of_injection (h : (s.core g).inject = some k) (hactive : s.get (LS_STAT_ACTIVE g) = 7) (hc : copyCommits x = true) :
    s.voteSlot g (oddOne x x k) =
      (s.applyInjected g (.minority (crazeOf x (corruptCopy x) 7 (2 ^ k.val) true) k (corruptCopy x)), true) := by
  have hodd : corrupted (some k) (oddOne x x k) = oddOne x (corruptCopy x) k := by
    match k with
    | 0 | 1 | 2 => simp [corrupted, hitBy, oddOne, hc]
  have hany : (oddOne x x k).any (hitBy (some k)) = true := by
    match k with
    | 0 | 1 | 2 => simp [hitBy, oddOne, hc]
  have hv : vote (corrupted (s.core g).inject (oddOne x x k)) (s.get (LS_STAT_ACTIVE g)) true =
      .minority (crazeOf x (corruptCopy x) 7 (2 ^ k.val) true) k (corruptCopy x) := by
    rw [h, hodd, hactive]
    exact vote_of_odd 7 true (corruptCopy_ne x)
  rw [voteSlot_eq (h.symm ▸ hany) hv, if_pos rfl]
  exact congrArg (Prod.mk _) (Bool.or_true _)

/-! ### The comparison (R181 to R184) -/

/-- The bus record of the first copy that still takes part issues. -/
def State.issueWon (s : State) (g : Group) (part : List (Fin 3 × CopyRecord)) : State :=
  match part.find? (fun e => (s.get (LS_STAT_ACTIVE g)).testBit e.1.val) with
  | some (_, r) => s.issueBus g r.bus
  | none => s

theorem exec_lockstepCompare {go : Bool} (hg : g.val < s.part.groups) (hstate : s.get (LS_STAT_STATE g) ≠ 1)
    (hpart : s.taking g (fun k => if k = 0 then x else if k = 1 then y else z) = part) (hvote : s.voteSlot g part = (t, go)) :
    exec (.lockstepCompare g x y z) s = .next (if go then t.issueWon g part else t) := by
  show execLockstepCompare g x y z s = _
  have hruns : (!s.hasGroup g || s.get (LS_STAT_STATE g) == lsStopped) = false := by
    rw [State.hasGroup, decide_eq_true hg, Bool.not_true, Bool.false_or]
    exact beq_false_of_ne hstate
  unfold execLockstepCompare
  extract_lets part'
  rw [show part' = part from hpart, hruns, if_neg Bool.false_ne_true, hvote]
  rfl

theorem issueWon_of_first (h : part.find? (fun e => (s.get (LS_STAT_ACTIVE g)).testBit e.1.val) = some (k, x)) :
    s.issueWon g part = s.issueBus g x.bus := by
  rw [State.issueWon, h]

/-- With copy `k` out, the first of the others wins. -/
theorem find_oddOne (hactive : s.get (LS_STAT_ACTIVE g) = 7 - 2 ^ k.val) :
    ∃ i, (oddOne x y k).find? (fun e => (s.get (LS_STAT_ACTIVE g)).testBit e.1.val) = some (i, x) := by
  rw [hactive]
  match k with
  | 0 => exact ⟨1, by simp [oddOne, Nat.testBit]⟩
  | 1 => exact ⟨0, by simp [oddOne, Nat.testBit]⟩
  | 2 => exact ⟨0, by simp [oddOne, Nat.testBit]⟩

theorem GroupOnly.issueBus {u : State} (h : GroupOnly g s u) (bus : Vector (BitVec 128) 8) : GroupOnly g s (u.issueBus g bus) :=
  h.ite (h.onCore _)

/-- A bus record that issues stands in the group's core, and in nothing else. -/
theorem issueBus_shows (s : State) (g : Group) (bus : Vector (BitVec 128) 8) : (∀ o, (s.issueBus g bus).rd o = s.rd o) ∧
    (s.issueBus g bus).fcuIn = s.fcuIn ∧ (s.issueBus g bus).core g =
      { s.core g with issued := if bus = Vector.replicate 8 0 then (s.core g).issued else some (s.tt, bus) } := by
  unfold State.issueBus
  split
  · exact ⟨fun _ => rfl, rfl, rfl⟩
  · exact ⟨fun _ => rfl, rfl, core_onCore_same _ _ _⟩

end Sys2Proof.Machine
end

section
/-! The commands of lockstep: comparison, the end of a re-admission pause, and the comparator self-test (R181 to R184, R190, R194,
R195, R201, R202). -/

namespace Sys2Proof.Machine

variable {s t : State} {g : Group} {x y z : CopyRecord} {k : Fin 3} {counted retire : Bool} {w : Craze} {own : Copy → Copy}

/-! ### Ejections as the statements read them -/

theorem seven_and_others (k : Fin 3) : 7 &&& (7 - 2 ^ k.val) = 7 - 2 ^ k.val :=
  match k with
  | 0 | 1 | 2 => rfl

/-- An ejection from three leaves two, in the group's running state. -/
theorem eject_from_three (hr : (counted && s.retires g k) = retire) (hactive : s.get (LS_STAT_ACTIVE g) = 7) :
    (s.eject g k w counted own).get (LS_STAT_ACTIVE g) = 7 - 2 ^ k.val ∧
      (s.eject g k w counted own).get (LS_STAT_STATE g) = s.get (LS_STAT_STATE g) := by
  obtain ⟨hout, -, -, hstate⟩ := copyOut_shows s g k retire
  have hstays {f : Fld} (hoff : f.off = LS_STAT g) (hdegr : (LS_STAT_DEGR g).spares f = true) :
      (s.eject g k w counted own).get f = (s.copyOut g k retire).get f := get_eject hr (.inl hoff) hdegr
  rw [hactive, seven_and_others] at hout
  exact ⟨(hstays rfl (spares_of_group rfl)).trans hout, (hstays rfl (spares_of_group rfl)).trans hstate⟩

/-- A counted ejection shows in the copy's counter and in the FN of its last one. -/
theorem eject_counts : (s.eject g k w true own).get (ejCnt g k) = min (s.get (ejCnt g k) + 1) (2 ^ (ejCnt g k).width - 1) ∧
    (s.eject g k w true own).rd64 (LS_EJ_FN g k) = s.fn % 2 ^ 64 := by
  obtain ⟨hcnt, hfn⟩ := countEject_shows (s.copyOut g k (true && s.retires g k)) g k
  have hoff : (ejCnt g k).off = 0x200010 + k.val * 4 + g.val * 0x10000 := by rw [ejCnt_eq]
  have hrd {o : Nat} (ho : 0x20000C + g.val * 0x10000 ≤ o ∧ o < 0x200080 + g.val * 0x10000) :
      (s.eject g k w true own).rd o = ((s.copyOut g k (true && s.retires g k)).countEject g k).rd o := rd_eject rfl ho
  have hlow : 0x20000C + g.val * 0x10000 ≤ LS_EJ_FN g k ∧ LS_EJ_FN g k < 0x200080 + g.val * 0x10000 := by unfold LS_EJ_FN; omega
  have hhigh : 0x20000C + g.val * 0x10000 ≤ LS_EJ_FN g k + 4 ∧ LS_EJ_FN g k + 4 < 0x200080 + g.val * 0x10000 := by
    unfold LS_EJ_FN; omega
  have hfnStays : (s.copyOut g k (true && s.retires g k)).fn = s.fn := by rw [copyOut_rest]
  constructor
  · rw [get_eq_of_rd_eq (hrd (by rw [hoff]; omega)), hcnt, get_eq_of_rd_eq (rd_copyOut _ (by rw [hoff]; omega))]
  · exact (rd64_eq_of_rd_eq (hrd hlow) (hrd hhigh)).trans (hfn.trans (congrArg (· % 2 ^ 64) hfnStays))

theorem get_ejCnt_eject_uncounted : (s.eject g k w false own).get (ejCnt g k) = s.get (ejCnt g k) := by
  have hoff : (ejCnt g k).off = 0x200010 + k.val * 4 + g.val * 0x10000 := by rw [ejCnt_eq]
  have hrange : 0x20000C + g.val * 0x10000 ≤ (ejCnt g k).off ∧ (ejCnt g k).off < 0x200080 + g.val * 0x10000 := by rw [hoff]; omega
  refine get_eq_of_rd_eq ((rd_eject (retire := false) rfl hrange).trans ?_)
  rw [if_neg Bool.false_ne_true]
  exact rd_copyOut false hrange

/-- A copy that is ejected and not retired shows in EJECTED. -/
theorem testBit_ejected (hr : (counted && s.retires g k) = false) :
    ((s.eject g k w counted own).get (LS_STAT_EJECTED g)).testBit k.val = true := by
  have h : (s.eject g k w counted own).get (LS_STAT_EJECTED g) = s.get (LS_STAT_EJECTED g) ||| 2 ^ k.val :=
    (get_eject hr (.inl rfl) (spares_of_group rfl)).trans (copyOut_shows s g k false).2.1
  rw [h, Nat.testBit_or, Nat.testBit_two_pow_self, Bool.or_true]

/-- A copy that is retired shows in `LS_RETIRED`. -/
theorem testBit_retired (hr : (counted && s.retires g k) = true) :
    ((s.eject g k w counted own).get (LS_RETIRED_MAP g)).testBit k.val = true := by
  have h : (s.eject g k w counted own).get (LS_RETIRED_MAP g) = s.get (LS_RETIRED_MAP g) ||| 2 ^ k.val :=
    (get_eject hr (.inr rfl) (spares_of_group rfl)).trans (copyOut_shows s g k true).2.2.1
  rw [h, Nat.testBit_or, Nat.testBit_two_pow_self, Bool.or_true]

/-! ### Comparison -/

/-- Three copies that agree, or A and B that do, go on with their bus record. -/
theorem exec_lockstepCompare_of_agreed (hg : g.val < s.part.groups) (hstate : s.get (LS_STAT_STATE g) ≠ 1)
    (hinject : (s.core g).inject = none) (hactive : s.get (LS_STAT_ACTIVE g) = 7 ∧ z = x ∨ s.get (LS_STAT_ACTIVE g) = 3) :
    exec (.lockstepCompare g x x z) s = .next (s.issueBus g x.bus) := by
  obtain ⟨hthree, rfl⟩ | htwo := hactive
  · rw [exec_lockstepCompare hg hstate (taking_of_three _ hthree)
      (voteSlot_of_plain (v := .agree) hinject (by simp [vote])), VoteOutcome.goesOn, if_pos rfl]
    · exact congrArg _ (issueWon_of_first (k := 0) (by rw [State.applyVote, hthree]; simp [Nat.testBit]))
    · exact fun _ h => nomatch h
  · rw [exec_lockstepCompare hg hstate (taking_of_two _ htwo)
      (voteSlot_of_plain (v := .agree) hinject (by simp [vote])), VoteOutcome.goesOn, if_pos rfl]
    · exact congrArg _ (issueWon_of_first (k := 0) (by rw [State.applyVote, htwo]; simp [Nat.testBit]))
    · exact fun _ h => nomatch h

/-- The odd one of three is ejected, and the bus record of the others issues. -/
theorem exec_lockstepCompare_of_odd (hg : g.val < s.part.groups) (hstate : s.get (LS_STAT_STATE g) ≠ 1)
    (hinject : (s.core g).inject = none) (hactive : s.get (LS_STAT_ACTIVE g) = 7) (hne : y ≠ x) :
    exec (.lockstepCompare g (if k = 0 then y else x) (if k = 1 then y else x) (if k = 2 then y else x)) s =
      .next ((s.eject g k (crazeOf x y 7 (2 ^ k.val) false) true (fun c => c.wrote y)).issueBus g x.bus) := by
  have hv : vote (oddOne x y k) (s.get (LS_STAT_ACTIVE g)) false = .minority (crazeOf x y 7 (2 ^ k.val) false) k y := by
    rw [hactive, vote_of_odd 7 false hne]
  obtain ⟨i, hi⟩ := find_oddOne (x := x) (y := y)
    (eject_from_three (w := crazeOf x y 7 (2 ^ k.val) false) (counted := true) (own := fun c => c.wrote y) (k := k) rfl hactive).1
  exact (exec_lockstepCompare hg hstate (taking_of_three _ hactive) (voteSlot_of_plain hinject hv)).trans
    (congrArg _ (issueWon_of_first hi))

/-- What the vote against one of three leaves, whether it is ejected or retired. -/
theorem outvoted_shows (bus : Vector (BitVec 128) 8) (hr : (true && s.retires g k) = retire) (hactive : s.get (LS_STAT_ACTIVE g) = 7)
    (hdiffer : w.differ = 2 ^ k.val) :
    ((s.eject g k w true own).issueBus g bus).get (LS_STAT_ACTIVE g) = 7 - 2 ^ k.val ∧
      ((s.eject g k w true own).issueBus g bus).get (ejCnt g k) = min (s.get (ejCnt g k) + 1) (2 ^ (ejCnt g k).width - 1) ∧
      ((s.eject g k w true own).issueBus g bus).fcuIn =
        s.fcuIn ++ [⟨if retire then F_LS_RETIRE else F_LS_EJECT, g.val + 2 ^ k.val * 16, false, 0, s.tt⟩] := by
  obtain ⟨hrd, hfcu, -⟩ := issueBus_shows (s.eject g k w true own) g bus
  refine ⟨?_, ?_, ?_⟩
  · rw [get_eq_of_rd_eq (hrd _), (eject_from_three hr hactive).1]
  · rw [get_eq_of_rd_eq (hrd _), eject_counts.1]
  · rw [hfcu, fcuIn_eject hr, hdiffer, copyBit_mod_eight]

/-- What an injected slot leaves outside GLOST. -/
def State.injected (s : State) (g : Group) (k : Fin 3) (w : Craze) (own : Copy → Copy) : State :=
  ((s.onCore g (fun c => { c with inject := none })).eject g k w false own).raise F_LS_INJECT (crazeDetail g w.differ)

theorem applyInjected_of_minority (h : s.mode ≠ modeGlost) :
    s.applyInjected g (.minority w k y) = s.injected g k w (fun c => c.wrote y) :=
  if_neg h

theorem injected_shows (s : State) (hactive : s.get (LS_STAT_ACTIVE g) = 7) (hdiffer : w.differ = 2 ^ k.val) :
    (s.injected g k w own).get (LS_STAT_ACTIVE g) = 7 - 2 ^ k.val ∧ (s.injected g k w own).get (ejCnt g k) = s.get (ejCnt g k) ∧
      ((s.injected g k w own).core g).inject = none ∧ (s.injected g k w own).fcuIn = s.fcuIn ++
        [⟨F_LS_EJECT, g.val + 2 ^ k.val * 16, false, 0, s.tt⟩, ⟨F_LS_INJECT, g.val + 2 ^ k.val * 16, false, 0, s.tt⟩] := by
  have htt (u : State) : (u.eject g k w false own).tt = u.tt := ((GroupOnly.refl g u).eject k w false own).tt
  refine ⟨?_, ?_, ?_, ?_⟩
  · rw [State.injected, get_raise]
    exact (eject_from_three rfl ((get_onCore _ _ _ _).trans hactive)).1
  · rw [State.injected, get_raise, get_ejCnt_eject_uncounted, get_onCore]
  · obtain ⟨e, c, hcore⟩ := eject_core (s.onCore g (fun c => { c with inject := none })) g k w false own
    rw [State.injected, core_raise, hcore, core_onCore_same]
  · rw [State.injected, fcuIn_raise_craze, fcuIn_eject rfl, htt, hdiffer, copyBit_mod_eight, onCore_fcuIn, onCore_tt,
      List.append_assoc]
    rfl

/-- The injected copy of three that agree is ejected uncounted, and the bus record of the others issues. -/
theorem exec_lockstepCompare_of_injection (hg : g.val < s.part.groups) (hstate : s.get (LS_STAT_STATE g) ≠ 1)
    (hinject : (s.core g).inject = some k) (hactive : s.get (LS_STAT_ACTIVE g) = 7) (hcommits : copyCommits x = true)
    (hmode : s.mode ≠ modeGlost) : ∃ w own, w.differ = 2 ^ k.val ∧
      exec (.lockstepCompare g x x x) s = .next ((s.injected g k w own).issueBus g x.bus) := by
  refine ⟨crazeOf x (corruptCopy x) 7 (2 ^ k.val) true, fun c => c.wrote (corruptCopy x), rfl, ?_⟩
  have hpart : s.taking g (fun j => if j = 0 then x else if j = 1 then x else x) = oddOne x x k := by
    rw [taking_of_three _ hactive]
    simp only [oddOne, ite_self]
  have hvote := voteSlot_of_injection hinject hactive hcommits
  rw [applyInjected_of_minority hmode] at hvote
  obtain ⟨i, hi⟩ := find_oddOne (x := x) (y := x)
    (injected_shows (k := k) (w := crazeOf x (corruptCopy x) 7 (2 ^ k.val) true) (own := fun c => c.wrote (corruptCopy x)) s hactive
      rfl).1
  exact (exec_lockstepCompare hg hstate hpart hvote).trans (congrArg _ (issueWon_of_first hi))

/-- Without a majority the group stops, and no bus record issues. -/
theorem exec_lockstepCompare_of_none {part : List (Fin 3 × CopyRecord)} (hg : g.val < s.part.groups)
    (hstate : s.get (LS_STAT_STATE g) ≠ 1) (hinject : (s.core g).inject = none)
    (hpart : s.taking g (fun k => if k = 0 then x else if k = 1 then y else z) = part)
    (hv : vote part (s.get (LS_STAT_ACTIVE g)) false = .none w) : exec (.lockstepCompare g x y z) s = .next (s.mismatchStop g w) :=
  (exec_lockstepCompare hg hstate hpart (voteSlot_of_plain hinject hv)).trans (congrArg _ (if_neg Bool.false_ne_true))

/-! ### The end of a re-admission pause (R194, R195) -/

/-- The copies of a pause take part again. -/
def State.readmitted (s : State) (g : Group) (p : Pause) : State :=
  let s1 := (s.onCore g (fun c => { c with pred := {}, readmit := c.readmit &&& (7 ^^^ p.copies) })).dropCopies g p.copies
  let s2 := s1.put (LS_STAT_ACTIVE g) (s.dropC g (s.get (LS_STAT_ACTIVE g) ||| p.copies))
  let s3 := s2.put (LS_STAT_EJECTED g) (s.get (LS_STAT_EJECTED g) &&& (7 ^^^ p.copies))
  (s3.bump (LS_READMIT_CNT_CNT g)).syncDegr g

section
variable {r : ReadmitRun} {p : Pause} (hpause : (s.core g).pause = some p)

theorem exec_readmissionComplete_of_none (h : (s.core g).pause = none) : exec (.readmissionComplete g r) s = .next s := by
  show execReadmissionComplete g r s = _
  rw [execReadmissionComplete, h]

include hpause

theorem exec_readmissionComplete_of_late (hdrain : 320 < r.drain) (htime : 320 * 25 ≤ (s.tt - p.start) * 32) :
    exec (.readmissionComplete g r) s = .next ((s.bump (LS_READMIT_DEFER_CNT g)).endPause g 320) := by
  show execReadmissionComplete g r s = _
  rw [execReadmissionComplete, hpause]
  simp only [if_pos hdrain, if_neg (Nat.not_lt.2 htime)]

theorem exec_readmissionComplete_of_split (hdrain : r.drain ≤ 320) (htime : (r.drain + 1072) * 25 ≤ (s.tt - p.start) * 32)
    (hmajority : r.majorityEqual = false) : exec (.readmissionComplete g r) s = .next ((s.endPause g (r.drain + 1072)).mismatchStop g
      { kind := 3, taking := s.get (LS_STAT_ACTIVE g), differ := s.get (LS_STAT_ACTIVE g), action := 0 }) := by
  show execReadmissionComplete g r s = _
  rw [execReadmissionComplete, hpause]
  simp only [if_neg (Nat.not_lt.2 hdrain), if_neg (Nat.not_lt.2 htime), hmajority, Bool.not_false, if_true]

theorem exec_readmissionComplete_of_equal (hdrain : r.drain ≤ 320) (htime : (r.drain + 1072) * 25 ≤ (s.tt - p.start) * 32)
    (hcopy : r.copyEqual = true) (hmajority : r.majorityEqual = true) :
    exec (.readmissionComplete g r) s = .next ((s.readmitted g p).endPause g (r.drain + 1072)) := by
  show execReadmissionComplete g r s = _
  rw [execReadmissionComplete, hpause]
  simp only [if_neg (Nat.not_lt.2 hdrain), if_neg (Nat.not_lt.2 htime), hmajority, hcopy, Bool.not_true, Bool.false_eq_true,
    if_false]
  rfl

end

theorem groupOnly_readmitted (s : State) (g : Group) (p : Pause) : GroupOnly g s (s.readmitted g p) :=
  ((((((GroupOnly.refl g s).onCore _).onCore _).put _ _).put _ _).bump _).syncDegr g

/-- The copies that take part of those that could (R189). -/
theorem dropC_eq (s : State) (g : Group) (m : Nat) :
    s.dropC g m = if s.flag (LS_CFG_TMR g) = false ∧ m &&& 3 = 3 then 3 else m := by
  simp [State.dropC]

theorem dropC_lt (s : State) (g : Group) {m : Nat} (h : m < 2 ^ 3) : s.dropC g m < 2 ^ 3 := by
  rw [dropC_eq]
  split
  · decide
  · exact h

/-- Copies that are back take part, are not ejected any more, and are counted. -/
theorem readmitted_shows (s : State) (g : Group) {p : Pause} (h : p.copies < 8) :
    (s.readmitted g p).get (LS_STAT_ACTIVE g) = s.dropC g (s.get (LS_STAT_ACTIVE g) ||| p.copies) ∧
      (s.readmitted g p).get (LS_STAT_EJECTED g) = s.get (LS_STAT_EJECTED g) &&& (7 ^^^ p.copies) ∧
      (s.readmitted g p).get (LS_READMIT_CNT_CNT g) =
        min (s.get (LS_READMIT_CNT_CNT g) + 1) (2 ^ (LS_READMIT_CNT_CNT g).width - 1) := by
  have hactive := dropC_lt s g (Nat.or_lt_two_pow (get_lt s (LS_STAT_ACTIVE g)) h)
  have hejected : s.get (LS_STAT_EJECTED g) &&& (7 ^^^ p.copies) < 2 ^ 3 :=
    lt_of_le_of_lt Nat.and_le_left (get_lt s (LS_STAT_EJECTED g))
  have hls : lsWord (LS_STAT g) := lsWord_of_group (by decide) g
  unfold State.readmitted
  extract_lets s1 s2 s3
  have h1 (f : Fld) : s1.get f = s.get f := rfl
  refine ⟨?_, ?_, ?_⟩
  · refine ((get_syncDegr hls (spares_of_group rfl)).trans (get_bump_spared (spares_of_group rfl) _)).trans ?_
    exact (get_put_spared (spares_of_group rfl) _ _).trans (get_put_fitting s1 rfl hactive)
  · refine ((get_syncDegr hls (spares_of_group rfl)).trans (get_bump_spared (spares_of_group rfl) _)).trans ?_
    exact get_put_fitting s2 rfl hejected
  · have h3 : s3.get (LS_READMIT_CNT_CNT g) = s.get (LS_READMIT_CNT_CNT g) :=
      ((get_put_spared (spares_of_group rfl) _ _).trans (get_put_spared (spares_of_group rfl) _ _)).trans (h1 _)
    rw [← h3, ← get_bump_same s3 _ rfl]
    exact get_syncDegr (lsWord_of_group (by decide) g) (spares_of_group rfl)

theorem readmitted_core (s : State) (g : Group) (p : Pause) :
    ∃ a x, (s.readmitted g p).core g = { s.core g with pred := {}, readmit := a, held := x } := by
  unfold State.readmitted State.dropCopies
  extract_lets s1 s2 s3
  rw [core_syncDegr, core_bump, core_put, core_put, core_onCore_same, core_onCore_same]
  exact ⟨_, _, rfl⟩

theorem readmitted_fcuIn (s : State) (g : Group) (p : Pause) : (s.readmitted g p).fcuIn = s.fcuIn := by
  unfold State.readmitted State.dropCopies
  extract_lets s1 s2 s3
  rw [syncDegr_fcuIn, bump_fcuIn, put_fcuIn, put_fcuIn, onCore_fcuIn, onCore_fcuIn]

/-- The counters beside a pause's own words stand as before it ends. -/
theorem get_pauseOver_count (s : State) (g : Group) (cclk : Nat) {f : Fld}
    (h : 0x20000C + g.val * 0x10000 ≤ f.off ∧ f.off < 0x200024 + g.val * 0x10000) : (s.pauseOver g cclk).get f = s.get f :=
  get_eq_of_rd_eq (rd_pauseOver s cclk (by unfold LS_STAT; omega) (by unfold LS_PAUSE_LAST; omega) (by unfold LS_PAUSE_MAX; omega))

/-- A re-admission that is deferred is counted, and leaves the copies out. -/
theorem deferred_shows (s : State) (g : Group) (cclk : Nat) :
    ((s.bump (LS_READMIT_DEFER_CNT g)).pauseOver g cclk).get (LS_STAT_ACTIVE g) = s.get (LS_STAT_ACTIVE g) ∧
      ((s.bump (LS_READMIT_DEFER_CNT g)).pauseOver g cclk).get (LS_READMIT_DEFER_CNT g) =
        min (s.get (LS_READMIT_DEFER_CNT g) + 1) (2 ^ (LS_READMIT_DEFER_CNT g).width - 1) := by
  constructor
  · exact (get_pauseOver _ _ _ rfl (spares_of_group rfl)).trans (get_bump_spared (spares_of_group rfl) s)
  · refine (get_pauseOver_count _ _ _ ?_).trans (get_bump_same s _ rfl)
    dsimp only [LS_READMIT_DEFER_CNT, LS_READMIT_DEFER]
    omega

/-- A re-admission that is complete shows its copies, its count and its length. -/
theorem readmittedOver_shows (s : State) (g : Group) {p : Pause} (cclk : Nat) (h : p.copies < 8) :
    ((s.readmitted g p).pauseOver g cclk).get (LS_STAT_ACTIVE g) = s.dropC g (s.get (LS_STAT_ACTIVE g) ||| p.copies) ∧
      ((s.readmitted g p).pauseOver g cclk).get (LS_STAT_EJECTED g) = s.get (LS_STAT_EJECTED g) &&& (7 ^^^ p.copies) ∧
      ((s.readmitted g p).pauseOver g cclk).get (LS_READMIT_CNT_CNT g) =
        min (s.get (LS_READMIT_CNT_CNT g) + 1) (2 ^ (LS_READMIT_CNT_CNT g).width - 1) := by
  obtain ⟨hactive, hejected, hcnt⟩ := readmitted_shows s g h
  refine ⟨(get_pauseOver _ _ _ rfl (spares_of_group rfl)).trans hactive, (get_pauseOver _ _ _ rfl (spares_of_group rfl)).trans hejected,
    (get_pauseOver_count _ _ _ ?_).trans hcnt⟩
  dsimp only [LS_READMIT_CNT_CNT, LS_READMIT_CNT]
  omega

@[simp] theorem pauseOver_fcuIn (s : State) (g : Group) (cclk : Nat) : (s.pauseOver g cclk).fcuIn = s.fcuIn := by
  rw [State.pauseOver, put_fcuIn, onCore_fcuIn, raiseTo_fcuIn, put_fcuIn]

/-- The count of mismatches stands as before a pause ends. -/
theorem get_mismatchCount_endPause (s : State) (g : Group) (cclk : Nat) :
    (s.endPause g cclk).get (LS_MISMATCH_CNT_CNT g) = s.get (LS_MISMATCH_CNT_CNT g) := by
  refine get_eq_of_rd_eq (rd_endPause s cclk (lsWord_of_group (by decide) g) ?_ ?_ ?_ ?_)
  all_goals
    dsimp only [LS_MISMATCH_CNT_CNT, LS_MISMATCH_CNT, LS_STAT, LS_PAUSE_LAST, LS_PAUSE_MAX, LS_DBG]
    omega

/-! ### The comparator self-test (R201) -/

theorem fcuIn_raise_group (s : State) (id : Nat) (g : Group) : (s.raise id g).fcuIn = s.fcuIn ++ [⟨id, g, false, 0, s.tt⟩] := by
  have hg : g.val % 2 ^ 32 = g := Nat.mod_eq_of_lt (by omega)
  rw [State.raise, hg]

/-- A self-test of a group ended now. -/
def State.tested (s : State) (g : Group) : State :=
  s.onCore g (fun c => { c with stestFn := s.fn })

/-- What a unit and a half that fail their test leave. -/
def State.testFailed (s : State) (g : Group) (u : Fin 3) (h : Fin 2) : State :=
  ((((s.tested g).putFlag (LS_STEST_STAT_FAIL g) true).put (LS_STEST_STAT_UNIT g) u).put (LS_STEST_STAT_HALF g) h)

theorem exec_comparatorSelfTest_of_start (f : Option (Fin 3 × Fin 2)) (h : s.fn = 0) :
    exec (.comparatorSelfTest g f) s = .next s := by
  show execComparatorSelfTest g f s = _
  rw [execComparatorSelfTest, h]
  simp

/-- The self-test of a group is due. -/
structure StestDue (s : State) (g : Group) : Prop where
  present : g.val < s.part.groups
  started : s.fn ≠ 0
  period : s.fn % s.get (LS_STEST_PER_FIRINGS g) = 0
  fresh : (s.core g).stestFn ≠ s.fn

theorem StestDue.acts (h : StestDue s g) : (!s.hasGroup g || s.fn == 0 || s.fn % s.get (LS_STEST_PER_FIRINGS g) != 0 ||
    (s.core g).stestFn == s.fn) = false := by
  simp [State.hasGroup, h.present, h.started, h.period, h.fresh]

theorem exec_comparatorSelfTest_of_pass (h : StestDue s g) :
    exec (.comparatorSelfTest g none) s = .next ((s.tested g).bump (LS_STEST_CNT_CNT g)) := by
  show execComparatorSelfTest g none s = _
  rw [execComparatorSelfTest, h.acts]
  rfl

theorem exec_comparatorSelfTest_of_fail (h : StestDue s g) (u : Fin 3) (half : Fin 2) :
    exec (.comparatorSelfTest g (some (u, half))) s = .next (((s.testFailed g u half).craze g
      { kind := 4, taking := s.get (LS_STAT_ACTIVE g), differ := 0, action := 4 }).raise F_LS_CMP_STEST g) := by
  show execComparatorSelfTest g (some (u, half)) s = _
  rw [execComparatorSelfTest, h.acts]
  rfl

theorem testFailed_shows (s : State) (g : Group) (u : Fin 3) (h : Fin 2) :
    (s.testFailed g u h).flag (LS_STEST_STAT_FAIL g) = true ∧ (s.testFailed g u h).get (LS_STEST_STAT_UNIT g) = u.val ∧
      (s.testFailed g u h).get (LS_STEST_STAT_HALF g) = h.val ∧
      (s.testFailed g u h).get (LS_STAT_ACTIVE g) = s.get (LS_STAT_ACTIVE g) := by
  refine ⟨?_, ?_, ?_, ?_⟩
  · refine ((flag_put_spared (spares_of_group rfl) _ _).trans (flag_put_spared (spares_of_group rfl) _ _)).trans ?_
    exact flag_putFlag_same _ _ _ rfl Nat.one_pos
  · refine (get_put_spared (spares_of_group rfl) _ _).trans (get_put_fitting _ rfl ?_)
    exact lt_trans u.isLt (show 3 < 2 ^ 2 by decide)
  · exact get_put_fitting _ rfl h.isLt
  · refine ((get_put_spared (spares_of_group rfl) _ _).trans (get_put_spared (spares_of_group rfl) _ _)).trans ?_
    exact (get_putFlag_spared (spares_of_group rfl) _ _).trans (get_onCore _ _ _ _)

/-- The status of a failed test stands beside the craze record that goes with it. -/
theorem get_testFailed_crazed (s : State) (g : Group) (u : Fin 3) (h : Fin 2) (w : Craze) (id : Nat) {f : Fld}
    (hf : f.off < 0x200080 + g.val * 0x10000) :
    (((s.testFailed g u h).craze g w).raise id g).get f = (s.testFailed g u h).get f :=
  (get_raise _ _ _ _).trans (get_craze _ _ _ (.inl hf))

end Sys2Proof.Machine
end

section
open Sys2Proof Sys2Proof.Machine

/-- Settles O31: the outcomes of the vote, of the pause and of the self-test, each by what it shows, and `GroupOnly` for the rest. -/
theorem copiesAreComparedAndReadmitted : Obligations.CopiesAreComparedAndReadmitted := by
  unfold Obligations.CopiesAreComparedAndReadmitted
  refine ⟨?agreed, ?ejected, ?retired, ?injected, ?threeApart, ?twoApart, ?readmitted, ?deferred, ?split, ?noPause, ?passed, ?failed,
    fun s g f h => exec_comparatorSelfTest_of_start f h⟩
  case agreed => exact fun s g x c hg hstate hinject hactive => exec_lockstepCompare_of_agreed hg hstate hinject hactive
  case ejected =>
    intro s g x y k hg hstate hinject hactive hne hretires
    have hr : (true && s.retires g k) = false := (Bool.true_and _).trans hretires
    have hexec := exec_lockstepCompare_of_odd (k := k) hg hstate hinject hactive hne
    have hdiffer : (crazeOf x y 7 (2 ^ k.val) false).differ = 2 ^ k.val := rfl
    generalize crazeOf x y 7 (2 ^ k.val) false = w at hexec hdiffer
    generalize (fun c : Copy => c.wrote y) = own at hexec
    have honly := (GroupOnly.refl g s).eject k w true own
    obtain ⟨e, held, hejected⟩ := eject_core s g k w true own
    obtain ⟨hrd, -, hcore⟩ := issueBus_shows (s.eject g k w true own) g x.bus
    obtain ⟨hout, hcnt, hraised⟩ := outvoted_shows (own := own) x.bus hr hactive hdiffer
    refine ⟨_, hexec, hout, ?_, hcnt, (rd64_eq_of_rd_eq (hrd _) (hrd _)).trans eject_counts.2, hraised,
      (get_eq_of_rd_eq (hrd _)).trans (eject_from_three hr hactive).2, ?_, ?_, (honly.issueBus x.bus).others,
      (honly.issueBus x.bus).mem⟩
    · rw [get_eq_of_rd_eq (hrd _)]
      exact testBit_ejected hr
    · rw [hcore, hejected, honly.tt]
    · rw [hcore, hejected]
  case retired =>
    intro s g x y k hg hstate hinject hactive hne hretires
    have hr : (true && s.retires g k) = true := (Bool.true_and _).trans hretires
    have hexec := exec_lockstepCompare_of_odd (k := k) hg hstate hinject hactive hne
    have hdiffer : (crazeOf x y 7 (2 ^ k.val) false).differ = 2 ^ k.val := rfl
    generalize crazeOf x y 7 (2 ^ k.val) false = w at hexec hdiffer
    generalize (fun c : Copy => c.wrote y) = own at hexec
    have honly := ((GroupOnly.refl g s).eject k w true own).issueBus x.bus
    obtain ⟨hrd, -, -⟩ := issueBus_shows (s.eject g k w true own) g x.bus
    obtain ⟨hout, hcnt, hraised⟩ := outvoted_shows (own := own) x.bus hr hactive hdiffer
    refine ⟨_, hexec, hout, ?_, hcnt, hraised, honly.others, honly.mem⟩
    rw [get_eq_of_rd_eq (hrd _)]
    exact testBit_retired hr
  case injected =>
    intro s g x k hg hstate hinject hactive hcommits hmode
    obtain ⟨w, own, hdiffer, hexec⟩ := exec_lockstepCompare_of_injection hg hstate hinject hactive hcommits hmode
    obtain ⟨hactive', hcnt, hdone, hraised⟩ := injected_shows (own := own) s hactive hdiffer
    obtain ⟨hrd, hfcu, hcore⟩ := issueBus_shows (s.injected g k w own) g x.bus
    have honly := ((((GroupOnly.refl g s).onCore (fun c => { c with inject := none })).eject k w false own).raise F_LS_INJECT
      (crazeDetail g w.differ)).issueBus x.bus
    refine ⟨_, hexec, ?_, ?_, ?_, ?_, honly.others, honly.mem⟩
    · rw [hcore]
      exact hdone
    · rw [get_eq_of_rd_eq (hrd _), hactive']
    · rw [get_eq_of_rd_eq (hrd _), hcnt]
    · rw [hfcu, hraised]
  case threeApart =>
    intro s g a b c hg hstate hinject hactive hab hbc hac
    obtain ⟨w, hdiffer, hv⟩ := vote_of_three_apart 7 hab hbc hac
    obtain ⟨hstopped, hcnt, hfcu⟩ := mismatchStop_shows s g w
    obtain ⟨e, hcore⟩ := mismatchStop_core s g w
    have honly := (GroupOnly.refl g s).mismatchStop w
    refine ⟨_, exec_lockstepCompare_of_none hg hstate hinject (taking_of_three _ hactive) (hactive.symm ▸ hv), hstopped, ?_,
      hcnt, ?_, ?_, honly.others, honly.mem⟩
    · rw [hcore]
    · rw [hfcu, hdiffer]
    · rw [hcore, Core.stopped]
  case twoApart =>
    intro s g a b c hg hstate hinject hactive hab
    obtain ⟨w, hdiffer, hv⟩ := vote_of_two_apart 3 hab
    obtain ⟨hstopped, hcnt, hfcu⟩ := mismatchStop_shows s g w
    obtain ⟨e, hcore⟩ := mismatchStop_core s g w
    have honly := (GroupOnly.refl g s).mismatchStop w
    refine ⟨_, exec_lockstepCompare_of_none hg hstate hinject (taking_of_two _ hactive) (hactive.symm ▸ hv), hstopped, ?_, hcnt, ?_, ?_,
      ?_, honly.others, honly.mem⟩
    · rw [hcore]
    · rw [hfcu, hdiffer]
    · rw [hcore, Core.stopped]
    · rw [hcore, Core.stopped]
  case readmitted =>
    intro s g r p hpause hdrain htime hcopy hmajority hstop hcopies
    obtain ⟨a, x, hcore⟩ := readmitted_core s g p
    have hrun : (s.readmitted g p).endPause g (r.drain + 1072) = (s.readmitted g p).pauseOver g (r.drain + 1072) :=
      endPause_of_running _ (by rw [hcore]; exact hstop)
    obtain ⟨hactive, hejected, hcnt⟩ := readmittedOver_shows s g (r.drain + 1072) hcopies
    obtain ⟨hlast, hstate, hover⟩ := pauseOver_shows (s.readmitted g p) g (cclk := r.drain + 1072) (by omega)
    have honly := (groupOnly_readmitted s g p).trans (groupOnly_pauseOver _ g (r.drain + 1072))
    refine ⟨_, (exec_readmissionComplete_of_equal hpause hdrain htime hcopy hmajority).trans (congrArg _ hrun),
      hactive.trans (dropC_eq s g _), hejected, hstate, ?_, hcnt, hlast, ?_, (pauseOver_fcuIn _ _ _).trans (readmitted_fcuIn s g p),
      honly.others, honly.mem⟩
    · rw [hover]
    · rw [hover, hcore]
  case deferred =>
    intro s g r p hpause hdrain htime hstop
    have hrun : (s.bump (LS_READMIT_DEFER_CNT g)).endPause g 320 = (s.bump (LS_READMIT_DEFER_CNT g)).pauseOver g 320 :=
      endPause_of_running _ (by rw [core_bump]; exact hstop)
    obtain ⟨hactive, hcnt⟩ := deferred_shows s g 320
    obtain ⟨hlast, hstate, hover⟩ := pauseOver_shows (s.bump (LS_READMIT_DEFER_CNT g)) g (cclk := 320) (by decide)
    have honly := ((GroupOnly.refl g s).bump (LS_READMIT_DEFER_CNT g)).trans (groupOnly_pauseOver _ g 320)
    refine ⟨_, (exec_readmissionComplete_of_late hpause hdrain htime).trans (congrArg _ hrun), hactive, hcnt, hstate,
      hlast, ?_, honly.mem⟩
    rw [hover]
  case split =>
    intro s g r p hpause hdrain htime hmajority
    have hexec := exec_readmissionComplete_of_split hpause hdrain htime hmajority
    generalize ({ kind := 3, taking := s.get (LS_STAT_ACTIVE g), differ := s.get (LS_STAT_ACTIVE g), action := 0 } : Craze) = w at hexec
    obtain ⟨hstopped, hcnt, -⟩ := mismatchStop_shows (s.endPause g (r.drain + 1072)) g w
    obtain ⟨e, hcore⟩ := mismatchStop_core (s.endPause g (r.drain + 1072)) g w
    have honly := ((GroupOnly.refl g s).endPause (r.drain + 1072)).mismatchStop w
    rw [get_mismatchCount_endPause] at hcnt
    refine ⟨_, hexec, hstopped, ?_, ?_, hcnt, honly.others, honly.mem⟩
    · rw [hcore]
    · rw [hcore, Core.stopped]
  case noPause => exact fun s g r h => exec_readmissionComplete_of_none h
  case passed =>
    exact fun s g hg hfn hperiod hfresh => exec_comparatorSelfTest_of_pass ⟨hg, hfn, hperiod, hfresh⟩
  case failed =>
    intro s g u h hg hfn hperiod hfresh
    have hexec := exec_comparatorSelfTest_of_fail ⟨hg, hfn, hperiod, hfresh⟩ u h
    generalize ({ kind := 4, taking := s.get (LS_STAT_ACTIVE g), differ := 0, action := 4 } : Craze) = w at hexec
    obtain ⟨hfail, hunit, hhalf, hactive⟩ := testFailed_shows s g u h
    have hoff {c : Nat} (hc : c < 0x200080) : c + g.val * 0x10000 < 0x200080 + g.val * 0x10000 := Nat.add_lt_add_right hc _
    have hstays {f : Fld} (hf : f.off < 0x200080 + g.val * 0x10000) := get_testFailed_crazed s g u h w F_LS_CMP_STEST hf
    refine ⟨_, hexec, (flag_eq_of_get_eq (hstays (hoff (by decide)))).trans hfail, (hstays (hoff (by decide))).trans hunit,
      (hstays (hoff (by decide))).trans hhalf, ?_, (hstays (hoff (by decide))).trans hactive, ?_⟩
    · rw [fcuIn_raise_group, craze_fcuIn, craze_tt]
      rfl
    · rw [raise_mem, craze_mem]
      rfl

end

section
/-! The controls of the groups (R189, R197, R200, R202, R203, R205): writes of the LS block by master 0, and what follows them. -/

namespace Sys2Proof.Machine

variable {s t : State} {g : Group} {m : Master} {v : Word} {off : Nat} {f : State → State}

/-! ### Writes of the LS block -/

theorem next_lsWrite_of_zero (h : s.reaches 0 off = true) :
    (.next (s.lsWrite 0 off f) : Host.Outcome State Fault Refusal) = .next (f s) := by
  rw [State.lsWrite, beq_self_eq_true, portal_of_allowed h]

theorem next_lsWrite_of_other (hm : m.val ≠ 0) (h : s.reaches m off = true) :
    (.next (s.lsWrite m off f) : Host.Outcome State Fault Refusal) = .next (s.refusedBy m off) := by
  rw [State.lsWrite, beq_false_of_ne (fun e => hm (congrArg Fin.val e)), portal_of_refused h]

section
variable (h : s.reaches 0 off = true) (hnew : s.stage.find? (fun e => e.off = off) = none) (hroom : s.stagedNext < 1024)
include h hnew hroom

/-- A write that master 0 may make, of a register with nothing staged, is staged for the boundary. -/
theorem next_lsWrite_staged (hf : f s = s.stageBy 0 off v) : (.next (s.lsWrite 0 off f) : Host.Outcome State Fault Refusal) =
    .next { s with stage := s.stage ++ [⟨off, v, 0, s.stagings⟩], stagings := s.stagings + 1 } := by
  rw [next_lsWrite_of_zero h, hf, stageBy_of_room hnew hroom]

end

/-! ### Configuration (R189) -/

/-- What a write of `LS_CFG` by master 0 does. -/
theorem exec_lsCfgWrite (h : s.reaches 0 (LS_CFG g) = true) : exec (.lsCfgWrite g 0 v) s =
    .next (if (v.getLsbD 0 && !s.part.copyC) || (v.getLsbD 0 != (s.latest (LS_CFG g)).getLsbD 0 && !s.quietMode) then s.lsReject g
      else s.stageBy 0 (LS_CFG g) (v &&& 3)) :=
  next_lsWrite_of_zero h

theorem quietMode_eq_false (hstandby : s.mode ≠ modeStandby) (hmaintenance : s.mode ≠ modeMaintenance) : s.quietMode = false := by
  rw [State.quietMode, beq_false_of_ne hstandby, beq_false_of_ne hmaintenance]
  rfl

/-! ### Injection (R202) -/

/-- An injection that waits for its slot. -/
def State.armed (s : State) (g : Group) (k : Nat) : State :=
  (s.put (LS_CTRL_COPY g) k).onCore g (fun c => { c with inject := some (toIx 3 k) })

/-- An injection is refused outside MAINTENANCE and GLOST. -/
theorem exec_lsInject_of_mode (h : s.reaches 0 (LS_CTRL g) = true) (hglost : s.mode ≠ modeGlost)
    (hmaintenance : s.mode ≠ modeMaintenance) : exec (.lsInject g 0 v) s = .next (s.lsReject g) := by
  refine (next_lsWrite_of_zero h).trans (congrArg _ (if_pos ?_))
  rw [bne_iff_ne.2 hglost, bne_iff_ne.2 hmaintenance]
  rfl

theorem exec_lsInject_of_running (h : s.reaches 0 (LS_CTRL g) = true) (hmode : s.mode = modeMaintenance ∨ s.mode = modeGlost)
    (hk : bitsOf v.toNat 4 2 < 3) (hactive : (s.get (LS_STAT_ACTIVE g)).testBit (bitsOf v.toNat 4 2) = true)
    (hrun : s.get (LS_STAT_STATE g) ≠ 1) (hhalt : s.get (LS_STAT_STATE g) ≠ 3) (hpower : s.poweredOff g = false)
    (hnone : (s.core g).inject = none) : exec (.lsInject g 0 v) s = .next (s.armed g (bitsOf v.toNat 4 2)) := by
  refine (next_lsWrite_of_zero h).trans (congrArg _ (if_neg ?_))
  have hallowed : (s.mode != modeGlost && s.mode != modeMaintenance) = false := by
    obtain h | h := hmode
    · rw [h]; rfl
    · rw [h]; rfl
  simp [hallowed, hk.ne, hactive, hpower, hnone, lsStopped, lsHalted, hrun, hhalt]

theorem groupOnly_armed (s : State) (g : Group) (k : Nat) : GroupOnly g s (s.armed g k) :=
  ((GroupOnly.refl g s).put _ _).onCore _

theorem armed_shows (s : State) (g : Group) {k : Nat} (hk : k < 3) :
    ((s.armed g k).core g).inject = some (toIx 3 k) ∧ (s.armed g k).get (LS_CTRL_COPY g) = k ∧ (s.armed g k).fcuIn = s.fcuIn := by
  refine ⟨?_, ?_, ?_⟩
  · rw [State.armed, core_onCore_same]
  · exact (get_onCore _ _ _ _).trans (get_put_fitting s rfl (lt_trans hk (show 3 < 2 ^ 2 by decide)))
  · rw [State.armed, onCore_fcuIn, put_fcuIn]

/-! ### Un-retirement (R197) -/

/-- A copy's ejections on record and its retirement are cleared. -/
def State.pardoned (s : State) (g : Group) (k : Nat) : State :=
  (((s.put (LS_CTRL_COPY g) k).put (LS_RETIRED_MAP g) (s.get (LS_RETIRED_MAP g) &&& (7 - 2 ^ k))).wr64 (LS_EJ_FN g k) 0).wr64
    (LS_EJ_FN_B g k) 0

/-- A copy that is not retired any more, with the mask of the copies that are then re-admitted. -/
def State.unretired (s : State) (g : Group) (k due : Nat) : State :=
  (((s.pardoned g k).onCore g (fun c => { c with ejections := c.ejections.set (toIx 3 k) 0, readmit := c.readmit ||| due })).put
    (LS_STAT_EJECTED g) (s.get (LS_STAT_EJECTED g) ||| due)).syncDegr g

/-- A copy is un-retired in MAINTENANCE alone. -/
theorem exec_lsUnretire_of_mode (h : s.reaches 0 (LS_CTRL g) = true) (hmode : s.mode ≠ modeMaintenance) :
    exec (.lsUnretire g 0 v) s = .next (s.lsReject g) := by
  refine (next_lsWrite_of_zero h).trans (congrArg _ (if_pos ?_))
  rw [bne_iff_ne.2 hmode]
  rfl

theorem exec_lsUnretire_of_retired (h : s.reaches 0 (LS_CTRL g) = true) (hmode : s.mode = modeMaintenance)
    (hk : bitsOf v.toNat 4 2 < 3) (hfitted : s.fitted.testBit (bitsOf v.toNat 4 2) = true)
    (hretired : (s.get (LS_RETIRED_MAP g)).testBit (bitsOf v.toNat 4 2) = true) : exec (.lsUnretire g 0 v) s =
      .next (s.unretired g (bitsOf v.toNat 4 2)
        (2 ^ bitsOf v.toNat 4 2 &&& (s.pardoned g (bitsOf v.toNat 4 2)).startCopies g)) := by
  refine (next_lsWrite_of_zero h).trans (congrArg _ (if_neg ?_))
  simp [hmode, hk.ne, hfitted, hretired]

/-- The copies of a restart follow from the part, the retired copies and TMR. -/
theorem startCopies_congr (hpart : t.part = s.part) (hretired : t.get (LS_RETIRED_MAP g) = s.get (LS_RETIRED_MAP g))
    (htmr : t.flag (LS_CFG_TMR g) = s.flag (LS_CFG_TMR g)) : t.startCopies g = s.startCopies g := by
  rw [State.startCopies, State.startCopies, State.fitted, State.fitted, hpart, hretired, htmr]

theorem groupOnly_pardoned (s : State) (g : Group) (k : Nat) : GroupOnly g s (s.pardoned g k) :=
  ((((GroupOnly.refl g s).put _ _).put _ _).wr64 _ _).wr64 _ _

/-- What follows the clearing in an un-retirement. -/
theorem groupOnly_unretired_of_pardoned (s : State) (g : Group) (k due : Nat) : GroupOnly g (s.pardoned g k) (s.unretired g k due) :=
  (((GroupOnly.refl g _).onCore _).put _ _).syncDegr g

theorem groupOnly_unretired (s : State) (g : Group) (k due : Nat) : GroupOnly g s (s.unretired g k due) :=
  (groupOnly_pardoned s g k).trans (groupOnly_unretired_of_pardoned s g k due)

/-- A word of the LS blocks beside `LS_STAT` reads as after the clearing. -/
theorem rd_unretired (s : State) (g : Group) (k due : Nat) {o : Nat} (hls : lsWord o) (h : o ≠ LS_STAT g) :
    (s.unretired g k due).rd o = (s.pardoned g k).rd o := by
  rw [State.unretired, rd_syncDegr hls h, rd_put_other _ _ _ h, rd_onCore]

/-- An un-retirement leaves the copies of a restart as the clearing has them. -/
theorem startCopies_unretired (s : State) (g : Group) (k due : Nat) :
    (s.unretired g k due).startCopies g = (s.pardoned g k).startCopies g := by
  have hstays {c : Nat} (hc : 0x200000 ≤ c ∧ c < 0x201000) (h : c + g.val * 0x10000 ≠ LS_STAT g) :=
    rd_unretired s g k due (lsWord_of_group hc g) h
  refine startCopies_congr (groupOnly_unretired_of_pardoned s g k due).part (get_eq_of_rd_eq (hstays (by decide) ?_))
    (flag_eq_of_rd_eq (hstays (by decide) ?_))
  all_goals
    unfold LS_STAT
    omega

/-- The mask of the other two of three copies lacks a copy's bit. -/
theorem testBit_seven_sub {k : Nat} (hk : k < 3) : (7 - 2 ^ k).testBit k = false := by
  interval_cases k <;> rfl

/-- The copy is not retired any more. -/
theorem testBit_retired_unretired (s : State) (g : Group) {k : Nat} (due : Nat) (hk : k < 3) :
    ((s.unretired g k due).get (LS_RETIRED_MAP g)).testBit k = false := by
  have hfit : s.get (LS_RETIRED_MAP g) &&& (7 - 2 ^ k) < 2 ^ 3 := lt_of_le_of_lt Nat.and_le_left (get_lt s (LS_RETIRED_MAP g))
  have hmap : (s.unretired g k due).get (LS_RETIRED_MAP g) = s.get (LS_RETIRED_MAP g) &&& (7 - 2 ^ k) := by
    refine (get_eq_of_rd_eq (rd_unretired s g k due (lsWord_of_group (by decide) g) ?_)).trans ?_
    · dsimp only [LS_RETIRED_MAP, LS_RETIRED, LS_STAT]
      omega
    · refine ((get_wr64_other _ ?_ ?_).trans (get_wr64_other _ ?_ ?_)).trans (get_put_fitting _ rfl hfit)
      all_goals
        dsimp only [LS_RETIRED_MAP, LS_RETIRED, LS_EJ_FN, LS_EJ_FN_B]
        omega
  rw [hmap, Nat.testBit_and, testBit_seven_sub hk, Bool.and_false]

theorem core_unretired (s : State) (g : Group) (k due : Nat) : (s.unretired g k due).core g =
    { s.core g with ejections := (s.core g).ejections.set (toIx 3 k) 0, readmit := (s.core g).readmit ||| due } := by
  rw [State.unretired, core_syncDegr, core_put, core_onCore_same, State.pardoned, core_wr64, core_wr64, core_put, core_put]

/-! ### Power (R205) -/

theorem exec_lsPowerGood {k : Nat} (h : (s.core g).powering = some k) : exec (.lsPowerGood g) s =
    .next ((s.onCore g (fun c => { c with powering := none })).putFlag (LS_PWR_ON_ACK g) true) := by
  show execLsPowerGood g s = _
  rw [execLsPowerGood, h]

theorem exec_lsPwrFail {k : Nat} (h : (s.core g).powering = some k) : exec (.lsPwrFail g) s =
    .next (if k + 125000 ≤ s.tt then (s.onCore g (fun c => { c with powering := none })).raise F_LS_PWR_FAIL g.val else s) := by
  show execLsPwrFail g s = _
  rw [execLsPwrFail, h]
  rfl

/-! ### Debug halt (R203) -/

/-- A halt that is taken. -/
def State.halted (s : State) (g : Group) : State :=
  (((s.putFlag (LS_DBG_HALT_PEND g) false).putFlag (LS_DBG_HALTED g) true).put (LS_STAT_STATE g) lsHalted).syncIc

theorem exec_debugHaltTaken_of_pending (hg : g.val < s.part.groups) (hpend : s.flag (LS_DBG_HALT_PEND g) = true)
    (hrun : s.get (LS_STAT_STATE g) = 0) (hdelay : (s.core g).delay = none) :
    exec (.debugHaltTaken g) s = .next (s.halted g) := by
  refine congrArg Host.Outcome.next (if_pos ?_)
  simp [State.hasGroup, hg, hpend, hrun, hdelay, lsRunning]

theorem exec_debugHaltTaken_of_none (hpend : s.flag (LS_DBG_HALT_PEND g) = false) : exec (.debugHaltTaken g) s = .next s := by
  refine congrArg Host.Outcome.next (if_neg ?_)
  simp [hpend]

theorem halted_shows (s : State) (g : Group) : (s.halted g).get (LS_STAT_STATE g) = 3 ∧
    (s.halted g).flag (LS_DBG_HALTED g) = true ∧ (s.halted g).flag (LS_DBG_HALT_PEND g) = false := by
  have hbeside := (BesideLs.refl (((s.putFlag (LS_DBG_HALT_PEND g) false).putFlag (LS_DBG_HALTED g) true).put
    (LS_STAT_STATE g) lsHalted)).syncIc
  refine ⟨?_, ?_, ?_⟩
  · exact hbeside.get.trans (get_put_fitting _ rfl (show 3 < 2 ^ 2 by decide))
  · exact hbeside.flag.trans ((flag_put_spared (spares_of_group rfl) _ _).trans (flag_putFlag_same _ _ _ rfl Nat.one_pos))
  · refine hbeside.flag.trans ((flag_put_spared (spares_of_group rfl) _ _).trans ?_)
    exact (flag_putFlag_spared (spares_of_group rfl) _ _).trans (flag_putFlag_same _ _ _ rfl Nat.one_pos)

theorem groupOnly_halted (s : State) (g : Group) : GroupOnly g s (s.halted g) :=
  ((((GroupOnly.refl g s).putFlag _ _).putFlag _ _).put _ _).beside (BesideLs.refl _).syncIc

theorem core_halted (s : State) (g : Group) : (s.halted g).core g = s.core g := by
  rw [State.halted, (BesideLs.refl _).syncIc.core, core_put, core_putFlag, core_putFlag]

end Sys2Proof.Machine
end

section
open Sys2Proof Sys2Proof.Machine

/-- Settles O32: what is staged, what acts at once and what is refused, each from the command's equation. -/
theorem groupsAreControlled : Obligations.GroupsAreControlled := by
  unfold Obligations.GroupsAreControlled
  refine ⟨?cfgStaged, ?cfgRefused, ?ctrlStaged, ?injected, ?refusedInRun, ?unretired, ?powerOffStaged, ?powerOnStaged, ?groupZero,
    fun s g k h => ⟨exec_lsPowerGood h, exec_lsPwrFail h⟩, ?haltTaken, fun s g h => exec_debugHaltTaken_of_none h, ?others⟩
  case cfgStaged =>
    intro s g v hreach hsame htmr hcopyC hnew hroom
    rw [exec_lsCfgWrite hreach, ← hsame, htmr, hcopyC, bne_self_eq_false, if_neg (by simp), stageBy_of_room hnew hroom]
  case cfgRefused =>
    intro s g v hreach h
    rw [exec_lsCfgWrite hreach, if_pos, State.lsReject]
    obtain ⟨hchange, hstandby, hmaintenance⟩ | ⟨htmr, hcopyC⟩ := h
    · rw [bne_iff_ne.2 hchange, quietMode_eq_false hstandby hmaintenance]
      exact Bool.or_true _
    · rw [htmr, hcopyC]
      rfl
  case ctrlStaged =>
    exact fun s g hreach hnew hroom => ⟨next_lsWrite_staged hreach hnew hroom rfl, next_lsWrite_staged hreach hnew hroom rfl⟩
  case injected =>
    intro s g v hreach hmode hk hactive hrun hhalt hpower hnone
    obtain ⟨harmed, hcopy, hfcu⟩ := armed_shows s g hk
    have honly := groupOnly_armed s g (bitsOf v.toNat 4 2)
    exact ⟨_, exec_lsInject_of_running hreach hmode hk hactive hrun hhalt hpower hnone, ⟨_, toIx_val hk, harmed⟩, hcopy,
      honly.others, hfcu, honly.mem⟩
  case refusedInRun =>
    intro s g v hreach hmode
    have hne {m : Nat} (h : modeRun ≠ m) : s.mode ≠ m := hmode ▸ h
    exact ⟨exec_lsInject_of_mode hreach (hne (by decide)) (hne (by decide)), exec_lsUnretire_of_mode hreach (hne (by decide))⟩
  case unretired =>
    intro s g v hreach hmode hk hfitted hretired
    have hexec := exec_lsUnretire_of_retired hreach hmode hk hfitted hretired
    generalize hcopy : bitsOf v.toNat 4 2 = k at *
    have honly := groupOnly_unretired s g k (2 ^ k &&& (s.pardoned g k).startCopies g)
    refine ⟨_, hexec, testBit_retired_unretired s g _ hk, ?_, ?_, honly.others, honly.mem⟩
    · rw [core_unretired]
      exact Vector.getElem_set_self _
    · rw [core_unretired, startCopies_unretired, Nat.testBit_or, Nat.testBit_and, Nat.testBit_two_pow_self, Bool.true_and]
  case powerOffStaged =>
    intro s g hreach hg hmay hnew hroom
    refine next_lsWrite_staged hreach hnew hroom (if_neg ?_)
    simpa [hmay] using hg
  case powerOnStaged =>
    intro s g hreach hg hnew hroom
    exact next_lsWrite_staged hreach hnew hroom (if_neg (fun h => hg (Fin.ext h)))
  case groupZero =>
    exact fun s hreach => ⟨(next_lsWrite_of_zero hreach).trans (congrArg _ (if_pos (.inl rfl))),
      (next_lsWrite_of_zero hreach).trans (congrArg _ (if_pos rfl))⟩
  case haltTaken =>
    intro s g hg hpend hrun hdelay
    obtain ⟨hstate, hhalted, hpending⟩ := halted_shows s g
    refine ⟨_, exec_debugHaltTaken_of_pending hg hpend hrun hdelay, hstate, hhalted, hpending, ?_, (groupOnly_halted s g).mem⟩
    rw [core_halted]
  case others =>
    exact fun s g m v hm hcfg hctrl hpwr => ⟨next_lsWrite_of_other hm hcfg, next_lsWrite_of_other hm hctrl,
      next_lsWrite_of_other hm hctrl, next_lsWrite_of_other hm hctrl, next_lsWrite_of_other hm hctrl, next_lsWrite_of_other hm hpwr,
      next_lsWrite_of_other hm hpwr⟩

end

section
/-! A WAIT that a write in its mode shadow ends (R224, R257). -/

namespace Sys2Proof.Machine

/-- Group 1 runs, and the next commit ends the shadow of a write of 0 to the word at offset 8 of its block, which is `LS_STAT` and
no MPU-control register (R314). -/
def statusInShadow : State :=
  (State.reset.put (LS_STAT_STATE 1) lsRunning).onCore 1 (fun c => { c with shadow := [⟨.mpu 8, 0, 1⟩] })

/-- What the clause on WAIT asks for holds: the group fetches its next instruction, in no delay slot and at a level other than T. -/
theorem statusInShadow_meets : statusInShadow.fetches (statusInShadow.fetchFault 1).1 1 = true ∧
    ((statusInShadow.fetchFault 1).1.core 1).delay = none ∧ ((statusInShadow.fetchFault 1).1.core 1).pl ≠ 2 := by
  decide +kernel

/-- What WAIT leaves. -/
def endedWait : State :=
  ran (execWait 1 statusInShadow) statusInShadow

theorem exec_wait_statusInShadow : exec (.wait 1) statusInShadow = .next endedWait := rfl

theorem endedWait_flag : endedWait.flag (LS_STAT_WAIT (1 : Group)) = false := by
  decide +kernel

end Sys2Proof.Machine
end

section
open Sys2Proof Sys2Proof.Machine

/-- Refutes O44: no premise has the writes in their mode shadow name MPU-control registers alone, and one that names `LS_STAT`
takes effect with the commit of WAIT and clears `LS_STAT.WAIT` again. -/
theorem not_systemInstructionsActAtTheirLevel : ¬ Obligations.SystemInstructionsActAtTheirLevel := by
  unfold Obligations.SystemInstructionsActAtTheirLevel
  rintro ⟨-, -, -, h, -⟩
  obtain ⟨hfetches, hdelay, hlevel⟩ := statusInShadow_meets
  obtain ⟨⟨t, hexec, hwait, -⟩, -⟩ := h statusInShadow _ 1 hfetches hdelay hlevel
  obtain rfl := Host.Outcome.next.inj (exec_wait_statusInShadow.symm.trans hexec)
  exact absurd (endedWait_flag.symm.trans hwait) (by decide)

end

section
/-! One instruction of a group (R213, R250, R266, R267): what it comes to before it acts. -/

namespace Sys2Proof.Machine

variable {s u : State} {g : Group} {i : Ins} {effect : State → Effect} {e : Exc}

/-! ### The instruction commands -/

theorem exists_run_of_loadReg (s : State) (g : Group) (i : Ins) (rd ra : GReg) (imm : BitVec 16) (n : Nat) (signed : Bool) :
    ∃ ins effect, s.loadReg g i rd ra imm n signed = s.run g ins effect := by
  unfold State.loadReg State.load
  exact ⟨_, _, rfl⟩

/-- Every instruction command runs one instruction of its group. -/
theorem exec_eq_run {i : Instr} (h : groupOf i = some g) (s : State) :
    ∃ ins effect, exec i s = .next (s.run g ins effect) := by
  cases i
  case ldb | ldh | ldw | ldbu | ldhu =>
    cases h
    obtain ⟨ins, effect, hload⟩ := exists_run_of_loadReg s g _ _ _ _ _ _
    exact ⟨ins, effect, congrArg Host.Outcome.next hload⟩
  -- `cases h` closes every command that belongs to no group
  all_goals cases h
  all_goals exact ⟨_, _, rfl⟩

/-! ### Before the instruction -/

theorem run_of_not_groupRuns (h : s.groupRuns g = false) : s.run g i effect = s := by
  rw [State.run, h]
  rfl

theorem run_of_takeDue {t : State} (hruns : s.groupRuns g = true) (h : s.takeDue g = some t) : s.run g i effect = t.endStep g := by
  rw [State.run, hruns, h]
  rfl

theorem run_of_fetchWaits (hdue : s.takeDue g = none) (h : s.fetchWaits g = true) : s.run g i effect = s := by
  rw [State.run, hdue, h]
  exact ite_self s

theorem run_of_fetchFault (hruns : s.groupRuns g = true) (hdue : s.takeDue g = none) (hready : s.fetchWaits g = false)
    (h : s.fetchFault g = (u, some e)) :
    s.run g i effect = ((u.bump (LS_P_ISSUE_CNT g)).faultAt g e (u.core g).pc).endStep g := by
  rw [State.run, hruns, hdue, hready, h]
  rfl

theorem takeDue_of_cons {x : Exc × Word} {l : List (Exc × Word)} (h : (s.core g).due = x :: l)
    (hdelay : (s.core g).delay = none) :
    s.takeDue g = some ((s.onCore g (fun c => { c with due := l })).enterAtBoundary g x.1 x.2) := by
  rw [State.takeDue, h, hdelay]
  rfl

theorem takeDue_of_nil (h : (s.core g).due = []) : s.takeDue g = none := by
  rw [State.takeDue, h]

/-! ### A fetch that succeeds -/

theorem fetches_iff : s.fetches u g = true ↔ s.groupRuns g = true ∧ (s.core g).due = [] ∧ (s.core g).inject = none ∧
    s.fetchWaits g = false ∧ s.fetchFault g = (u, none) ∧ u.groupRuns g = true := by
  simp [State.fetches, and_assoc]

end Sys2Proof.Machine
end

section
/-! What a fetch leaves of its group's core (R213 to R216, R226). -/

namespace Sys2Proof.Machine

variable {P : State → Prop} (hP : Blind P) {g : Group}
  (hpred : ∀ s (f : Core → Predictor), P s → P (s.onCore g (fun c => { c with pred := f c }))) {s : State}

section
include hpred

theorem holds_askNext (h : P s) (line : Nat) : P (s.askNext g line) :=
  holds_ite (hpred s _ h) h

theorem holds_captureLoop (h : P s) : P (s.captureLoop g) :=
  holds_ite (hpred s _ h) h

include hP

theorem holds_fillLine (h : P s) (line : Nat) : P (s.fillLine g line).1 := by
  unfold State.fillLine
  extract_lets s1 put
  have k1 : P s1 := hP.bump h _
  have kput {t : State} (k : P t) (f : Nat) (b : Bytes) : P (put t f b) := holds_askNext hpred (hpred t _ k) line
  split
  · exact kput k1 _ _
  next f _ =>
    have k2 : P (s1.fetch f 128).1 := hP.latRead k1 _ _ _
    split
    · split
      next s2 b ok e =>
        rw [e] at k2
        split
        · exact kput k2 _ _
        · exact hP.raiseUnc k2 _ _
    · exact hP.recordDenial (by omega) k1 _ _ _ _
    · exact k1
  · exact k1

end

include hP in
theorem holds_takeGroup (h : P s) (f : Nat) : P (s.takeGroup g f).1 := by
  unfold State.takeGroup
  split
  · exact h
  split
  · exact h
  · exact hP.latRead h _ _ _

include hP hpred

theorem holds_fetchIsp (h : P s) (f : Nat) : P (s.fetchIsp g f).1 :=
  hpred _ _ (holds_takeGroup hP (holds_takeGroup hP h _) _)

theorem holds_fetchFault (h : P s) : P (s.fetchFault g).1 := by
  have kisp := holds_fetchIsp hP hpred h
  have kline := holds_fillLine hP hpred h
  unfold State.fetchFault
  extract_lets c pc k
  split
  · exact (holds_ite (hP.bump h _) h : P (s.countDeny g .fetchNx))
  split
  · exact h
  split
  · exact h
  split
  · exact holds_captureLoop hpred (kisp k)
  split
  · exact holds_captureLoop hpred h
  have kfilled := kline (pc / 128 * 128)
  split
  next e => rw [e] at kfilled; exact kfilled
  next e => rw [e] at kfilled; exact kfilled
  next e => rw [e] at kfilled; exact holds_captureLoop hpred kfilled

end Sys2Proof.Machine
end

section
/-! What the steps of an instruction leave of the state: the writes whose shadow ends, entry into a handler, and the end of a
debugger's step (R203, R224, R266, R271, R277). -/

namespace Sys2Proof.Machine

variable {s t u : State} {g : Group}

/-! ### What leaves the device outside a group alone -/

/-- `t` differs from `s` in the registers, the core of group `g`, the memories' guards and the record of orphans alone. -/
structure RunOnly (g : Group) (s t : State) : Prop where
  others : ∀ k : Group, k ≠ g → t.core k = s.core k
  rest : t = { s with regs := t.regs, cores := t.cores, prot := t.prot, orphans := t.orphans }

theorem RunOnly.refl (g : Group) (s : State) : RunOnly g s s :=
  ⟨fun _ _ => rfl, rfl⟩

theorem RunOnly.trans (h : RunOnly g s t) (k : RunOnly g t u) : RunOnly g s u where
  others j hj := (k.others j hj).trans (h.others j hj)
  rest := by rw [k.rest, h.rest]

section
variable (h : RunOnly g s t)
include h

theorem RunOnly.onlyGroup : s.onlyGroup t g := by
  refine ⟨?_, ?_, ?_, ?_, ?_, ?_, ?_, ?_, ?_, ?_, ?_, ?_, ?_, h.others⟩
  all_goals rw [h.rest]

theorem RunOnly.wr (off : Nat) (v : Word) : RunOnly g s (t.wr off v) := h.trans ⟨fun _ _ => rfl, rfl⟩
theorem RunOnly.put (f : Fld) (v : Nat) : RunOnly g s (t.put f v) := h.wr _ _
theorem RunOnly.putFlag (f : Fld) (b : Bool) : RunOnly g s (t.putFlag f b) := h.wr _ _
theorem RunOnly.bump (f : Fld) : RunOnly g s (t.bump f) := h.wr _ _
theorem RunOnly.onProt (f : Prot → Prot) : RunOnly g s (t.onProt f) := h.trans ⟨fun _ _ => rfl, rfl⟩

theorem RunOnly.onCore (f : Core → Core) : RunOnly g s (t.onCore g f) :=
  h.trans ⟨fun _ hk => core_onCore_other t f hk, rfl⟩

theorem RunOnly.ite {c : Prop} [Decidable c] (k : RunOnly g s u) : RunOnly g s (if c then t else u) :=
  holds_ite (P := RunOnly g s) h k

theorem RunOnly.withdraw (k : Group) : RunOnly g s (t.withdraw k) :=
  ((((h.put _ _).wr _ _).ite h).bump _).ite h

theorem RunOnly.syncOrphans : RunOnly g s t.syncOrphans := by
  unfold State.syncOrphans
  extract_lets now s1
  have k1 : RunOnly g s s1 := holds_each (P := RunOnly g s) h _ _ (fun _ i k => (k.bump _).bump _)
  clear_value s1 now
  exact k1.trans ⟨fun _ _ => rfl, rfl⟩

theorem RunOnly.syncIc : RunOnly g s t.syncIc :=
  (holds_each (P := RunOnly g s) h _ _ (fun _ j k => (k.withdraw j).ite k)).syncOrphans

theorem RunOnly.setEffect (r : ShadowReg) (v : Word) : RunOnly g s (t.setEffect g r v) := by
  cases r with
  | status => exact (h.onCore _).syncIc
  | predctl => exact h.onCore _
  | mpu off => exact (h.wr _ _).ite ((h.wr _ _).onProt _)

theorem RunOnly.age (n : Nat) : RunOnly g s (t.age g n) :=
  holds_each (P := RunOnly g s) (h.onCore _) _ _ (fun _ w k => k.setEffect w.reg w.val)

theorem RunOnly.endStep : RunOnly g s (t.endStep g) :=
  (((h.onCore _).putFlag _ _).put _ _).syncIc.ite h

end

/-! ### Writes whose shadow ends (R224) -/

@[simp] theorem core_syncIc (s : State) (k : Group) : s.syncIc.core k = s.core k :=
  (BesideLs.refl s).syncIc.core k

theorem core_mpuTake (s : State) (rel : Nat) (v : Word) (k : Group) : (s.mpuTake g rel v).core k = s.core k := by
  unfold State.mpuTake
  dsimp only
  split
  · rfl
  · rfl

section
variable {β : Type} (p : Core → β) (hp : ∀ (c : Core) pl ie dze predctl shadow,
  p { c with pl := pl, ie := ie, dze := dze, predctl := predctl, shadow := shadow } = p c)
include hp

/-- A value put into effect leaves what does not depend on STATUS and PREDCTL. -/
theorem core_setEffect_preserves (s : State) (r : ShadowReg) (v : Word) : p ((s.setEffect g r v).core g) = p (s.core g) := by
  cases r with
  | status =>
    rw [State.setEffect, core_syncIc, core_onCore_same]
    exact hp _ _ _ _ _ _
  | predctl =>
    rw [State.setEffect, core_onCore_same]
    exact hp _ _ _ _ _ _
  | mpu off => exact congrArg p (core_mpuTake s off v g)

theorem core_age_preserves (s : State) (n : Nat) : p ((s.age g n).core g) = p (s.core g) := by
  have heffects (l : List ShadowWrite) := each_preserves (fun t => p (t.core g)) l _
    (fun t (w : ShadowWrite) => core_setEffect_preserves p hp t w.reg w.val)
  refine (heffects _ _).trans ?_
  rw [core_onCore_same]
  exact hp _ _ _ _ _ _

end

/-! ### The general registers (R232) -/

@[simp] theorem gpr_setEffect (s : State) (r : ShadowReg) (v : Word) : ((s.setEffect g r v).core g).gpr = (s.core g).gpr :=
  core_setEffect_preserves (fun c => c.gpr) (fun _ _ _ _ _ _ => rfl) s r v

@[simp] theorem gpr_tsbFail (s : State) (overflow : Bool) : ((s.tsbFail g overflow).core g).gpr = (s.core g).gpr := by
  rw [State.tsbFail, core_onCore_same, core_stopNow, core_raise]
  rfl

@[simp] theorem core_store (s : State) (a : Nat) (b : Bytes) (k : Group) : (s.store a b).1.core k = s.core k :=
  Blind.latWrite (P := fun t => t.core k = s.core k) (fun _ _ _ _ _ _ _ _ _ _ _ h => h) rfl _ _ _

@[simp] theorem gpr_enter (s : State) (e : Entering) : ((s.enter g e).core g).gpr = (s.core g).gpr := by
  unfold State.enter
  dsimp only
  split
  · rw [gpr_tsbFail]
  split
  · rw [gpr_tsbFail, core_store]
  · rw [core_syncIc, core_onCore_same, core_store]
    rfl

@[simp] theorem gpr_faultAt (s : State) (e : Exc) (faddr : Word) : ((s.faultAt g e faddr).core g).gpr = (s.core g).gpr := by
  unfold State.faultAt
  split
  · exact gpr_enter _ _
  next d _ =>
    refine (gpr_enter _ _).trans ?_
    rw [core_onCore_same]
    exact each_preserves (fun t => (t.core g).gpr) _ _ (fun t (w : ShadowWrite × Word) => gpr_setEffect t w.1.reg w.2) s

/-- The end of a debugger's step leaves all of a core but that it steps. -/
theorem core_endStep (s : State) (g : Group) : ∃ b, (s.endStep g).core g = { s.core g with stepping := b } := by
  unfold State.endStep
  dsimp only
  split
  · rw [core_syncIc, core_put, core_putFlag, core_onCore_same]
    exact ⟨_, rfl⟩
  · exact ⟨_, rfl⟩

@[simp] theorem gpr_endStep (s : State) : ((s.endStep g).core g).gpr = (s.core g).gpr := by
  obtain ⟨b, h⟩ := core_endStep s g
  rw [h]

@[simp] theorem core_countDeny (s : State) (e : Exc) (k : Group) : (s.countDeny g e).core k = s.core k :=
  holds_ite (P := fun t => t.core k = s.core k) rfl rfl

@[simp] theorem gpr_refuseIns (s : State) (e : Exc) (faddr : Word) : ((s.refuseIns g e faddr).core g).gpr = (s.core g).gpr := by
  rw [State.refuseIns, gpr_endStep, gpr_faultAt, core_countDeny, core_bump]

end Sys2Proof.Machine
end

section
/-! An instruction in an annulled delay slot (R250, R278). -/

namespace Sys2Proof.Machine

variable {s u : State} {g : Group} {d : DelaySlot} {i : Ins} {effect : State → Effect}

/-- The commit of an instruction without effects that goes on in sequence. -/
def State.slotPassed (s : State) (g : Group) : State :=
  (((s.bump (LS_P_ISSUE_CNT g)).bump (LS_P_COMMIT_CNT g)).age g (s.core g).shadow.length).onCore g (fun c =>
    { c.follow (s.core g) .next ((s.core g).shadow.map (fun w => (w, s.inEffect g w.reg))) with entry := none })

theorem runOnly_slotPassed (s : State) (g : Group) : RunOnly g s (s.slotPassed g) :=
  ((((RunOnly.refl g s).bump _).bump _).age _).onCore _

/-- A core whose slot has passed goes on at the address of the branch, its general registers and returned errors as before. -/
theorem core_slotPassed (h : (s.core g).delay = some d) : ((s.slotPassed g).core g).gpr = (s.core g).gpr ∧
    ((s.slotPassed g).core g).pc = d.next ∧ ((s.slotPassed g).core g).delay = none ∧
    ((s.slotPassed g).core g).due = (s.core g).due := by
  have hgpr := core_age_preserves (g := g) (fun c => c.gpr) (fun _ _ _ _ _ _ => rfl)
    ((s.bump (LS_P_ISSUE_CNT g)).bump (LS_P_COMMIT_CNT g)) (s.core g).shadow.length
  have hdue := core_age_preserves (g := g) (fun c => c.due) (fun _ _ _ _ _ _ => rfl)
    ((s.bump (LS_P_ISSUE_CNT g)).bump (LS_P_COMMIT_CNT g)) (s.core g).shadow.length
  rw [State.slotPassed, core_onCore_same]
  unfold Core.follow
  dsimp only
  rw [h]
  exact ⟨hgpr, rfl, rfl, hdue⟩

theorem get_state_of_groupRuns (h : s.groupRuns g = true) : s.get (LS_STAT_STATE g) = lsRunning := by
  simp only [State.groupRuns, Bool.and_eq_true, beq_iff_eq] at h
  obtain ⟨⟨⟨-, hstate⟩, -⟩, -⟩ := h
  exact hstate

theorem commit_of_slot (hruns : s.groupRuns g = true) (hdelay : (s.core g).delay = some d) (hdue : (s.core g).due = []) :
    s.commit s g .next none = s.slotPassed g := by
  obtain ⟨-, -, -, hstays⟩ := core_slotPassed hdelay
  have hnone : (s.slotPassed g).takeDue g = none := takeDue_of_nil (hstays.trans hdue)
  rw [State.commit, get_state_of_groupRuns hruns, bne_self_eq_false, if_neg Bool.false_ne_true]
  extract_lets c0 before s1 s2 s3
  rw [show s3.takeDue g = none from hnone]
  rfl

theorem votedSlot_of_inject_none (t : State) {wrote : Option (GReg × Word)} (h : (s.core g).inject = none) :
    t.votedSlot s g wrote = t := by
  rw [State.votedSlot, h]
  rfl

/-- A fetch leaves the returned errors of its group and the injection that waits. -/
theorem core_fetched (h : s.fetches u g = true) : (u.core g).due = [] ∧ (u.core g).inject = none := by
  obtain ⟨-, hdue, hinject, -, hfetch, -⟩ := fetches_iff.1 h
  have hu : (s.fetchFault g).1 = u := congrArg Prod.fst hfetch
  rw [← hu]
  refine holds_fetchFault (P := fun t => (t.core g).due = [] ∧ (t.core g).inject = none)
    (fun _ _ _ _ _ _ _ _ _ _ _ h => h) (fun t f h => ?_) ⟨hdue, hinject⟩
  rw [core_onCore_same]
  exact h

/-- In an annulled slot an instruction is ILLEGAL or passes. -/
theorem run_of_annulled (h : s.fetches u g = true) (hdelay : (u.core g).delay = some d) (hannul : d.annul = true) :
    s.run g i effect = if !i.legal || (i.sys || i.branch) then u.refuseIns g .illegal i.word else (u.slotPassed g).endStep g := by
  obtain ⟨hdue, hinject⟩ := core_fetched h
  obtain ⟨hruns, hdueBefore, -, hready, hfetch, hrunsOn⟩ := fetches_iff.1 h
  have hslot : (u.core g).delay.any (fun x => x.annul) = true := by rw [hdelay, Option.any_some, hannul]
  rw [State.run, hruns, takeDue_of_nil hdueBefore, hready, hfetch]
  dsimp only
  rw [hslot, hdelay, commit_of_slot hrunsOn hdelay hdue, votedSlot_of_inject_none _ hinject]
  rfl

theorem gpr_run_of_annulled (h : s.fetches u g = true) (hdelay : (u.core g).delay = some d) (hannul : d.annul = true) :
    ((s.run g i effect).core g).gpr = (u.core g).gpr := by
  rw [run_of_annulled h hdelay hannul]
  split
  · exact gpr_refuseIns u _ _
  · obtain ⟨hgpr, -⟩ := core_slotPassed hdelay
    rw [gpr_endStep, hgpr]

/-- A plain instruction in an annulled slot goes on at the address of the branch and leaves the rest of the device alone. -/
theorem run_plainIns_of_annulled (w : Word) (h : s.fetches u g = true) (hdelay : (u.core g).delay = some d)
    (hannul : d.annul = true) : ∃ t, (.next (s.run g (plainIns w) effect) : Host.Outcome State Fault Refusal) = .next t ∧
      (t.core g).gpr = (u.core g).gpr ∧ (t.core g).pc = d.next ∧ (t.core g).delay = none ∧ u.onlyGroup t g := by
  obtain ⟨hgpr, hpc, hnone, -⟩ := core_slotPassed hdelay
  obtain ⟨b, hcore⟩ := core_endStep (u.slotPassed g) g
  refine ⟨_, congrArg Host.Outcome.next (run_of_annulled h hdelay hannul), ?_⟩
  rw [if_neg (by exact Bool.false_ne_true), hcore]
  exact ⟨hgpr, hpc, hnone, (runOnly_slotPassed u g).endStep.onlyGroup⟩

end Sys2Proof.Machine
end

section
open Sys2Proof Sys2Proof.Machine

/-- Settles O45: every instruction command is a run of its group (`exec_eq_run`), which ends before the instruction acts. -/
theorem instructionsAreFetchedFirst : Obligations.InstructionsAreFetchedFirst := by
  unfold Obligations.InstructionsAreFetchedFirst
  refine ⟨?notRunning, ?storeError, ?fetchFault, ?busyPlane, ?annulled, ?arithmetic⟩
  case notRunning =>
    intro s i g hg hruns
    obtain ⟨ins, effect, hexec⟩ := exec_eq_run hg s
    rw [hexec, run_of_not_groupRuns hruns]
  case storeError =>
    intro s i g e l hg hruns hdue hdelay
    obtain ⟨ins, effect, hexec⟩ := exec_eq_run hg s
    rw [hexec, run_of_takeDue hruns (takeDue_of_cons hdue hdelay)]
  case fetchFault =>
    intro s u i g e hg hruns hdue hready hfault
    obtain ⟨ins, effect, hexec⟩ := exec_eq_run hg s
    rw [hexec, run_of_fetchFault hruns hdue hready hfault]
  case busyPlane =>
    intro s i g hg hdue hwaits
    obtain ⟨ins, effect, hexec⟩ := exec_eq_run hg s
    rw [hexec, run_of_fetchWaits hdue hwaits]
  case annulled =>
    intro s u i g d hg hfetches hdelay hannul
    obtain ⟨ins, effect, hexec⟩ := exec_eq_run hg s
    exact ⟨_, hexec, gpr_run_of_annulled hfetches hdelay hannul⟩
  case arithmetic =>
    intro s u g d rd ra rb imm hfetches hdelay hannul
    have hpasses {effect : State → Effect} (w : Word) :=
      run_plainIns_of_annulled (effect := effect) w hfetches hdelay hannul
    exact ⟨hpasses _, hpasses _, hpasses _, hpasses _, hpasses _, hpasses _⟩

end

section
/-! What the commit of an instruction leaves (R224, R232, R250, R254), and how one that its fetch and its place let act ends (R266,
R267). -/

namespace Sys2Proof.Machine

variable {s t u : State} {g : Group} {i : Ins} {effect : State → Effect} {flow : Flow} {e : Exc} {a : Word}

/-! ### Registers of a core (R232, R237) -/

theorem setRg_eq (c : Core) (rd : GReg) (v : Word) : c.setRg rd v = { c with gpr := (c.setRg rd v).gpr } := by
  unfold Core.setRg
  split
  · rfl
  · rfl

theorem rg_setRg (c : Core) (rd : GReg) (v : Word) (r : GReg) :
    (c.setRg rd v).rg r = if r = rd ∧ r ≠ 0 then v else c.rg r := by
  unfold Core.setRg
  by_cases hrd : rd = 0
  · rw [if_pos hrd, if_neg (fun h => h.2 (h.1.trans hrd))]
  rw [if_neg hrd]
  by_cases hr : r = rd
  · subst hr
    rw [if_pos ⟨rfl, hrd⟩, Core.rg, if_neg hrd]
    exact Vector.getElem_set_self _
  · rw [if_neg (fun h => hr h.1), Core.rg, Core.rg]
    have hne : rd.toFin.val ≠ r.toFin.val := fun h => hr (BitVec.eq_of_toNat_eq h.symm)
    exact congrArg (fun x => if r = 0 then 0 else x) (Vector.getElem_set_ne rd.toFin.isLt r.toFin.isLt hne)

/-- A core without its mode, its predictor, the window of an interrupt entry and the debugger's step. -/
def Core.steady (c : Core) : Core :=
  { c with pl := 0, ie := false, dze := false, predctl := 0, shadow := [], pred := {}, entry := none, stepping := false }

/-- The mode of a core in effect: level, interrupts, divide-by-zero and prediction (R220, R234). -/
def Core.mode (c : Core) : Fin 3 × Bool × Bool × Word :=
  (c.pl, c.ie, c.dze, c.predctl)

/-- The special registers are kept where no more than the general registers, the sequence and what `Core.steady` leaves out changes,
and the mode stays with no write in its shadow. -/
theorem keepsSpecial_of_steady {c d : Core} {gpr : Vector Word 32} {pc lc : Word} {delay : Option DelaySlot}
    (h : d.steady = { c with gpr := gpr, pc := pc, lc := lc, delay := delay }.steady)
    (hmode : c.shadow = [] → d.mode = c.mode) : c.keepsSpecial d := by
  have hnest : d.nest = c.nest := congrArg (fun x => x.nest) h
  have hprio : d.prio = c.prio := congrArg (fun x => x.prio) h
  refine ⟨congrArg (fun x => x.evb) h, congrArg (fun x => x.tsbp) h, congrArg (fun x => x.cause) h, congrArg (fun x => x.faddr) h,
    congrArg (fun x => x.ls) h, congrArg (fun x => x.le) h, congrArg (fun x => x.dwb) h, hnest, hprio, fun hempty => ?_⟩
  simp only [Core.mode, Prod.mk.injEq] at hmode
  obtain ⟨hpl, hie, hdze, hctl⟩ := hmode hempty
  exact ⟨by rw [Core.status, Core.status, hpl, hie, hdze, hnest, hprio], hctl⟩

/-! ### Where execution goes on (R250, R254) -/

/-- Where execution goes on, the PC, LC, the delay slot and the predictor alone change. -/
theorem core_follow_preserves {β : Type} (p : Core → β)
    (hp : ∀ (c : Core) pc lc delay pred, p { c with pc := pc, lc := lc, delay := delay, pred := pred } = p c) (c c0 : Core)
    (flow : Flow) (before : List (ShadowWrite × Word)) : p (c.follow c0 flow before) = p c := by
  unfold Core.follow
  cases flow with
  | branch b => exact hp _ _ _ _ _
  | goto pc => exact hp _ _ _ _ _
  | next => dsimp only; split <;> [skip; split] <;> exact hp _ _ _ _ _
  | keepLc => dsimp only; split <;> [skip; split] <;> exact hp _ _ _ _ _

/-- Where execution goes on does not depend on what `Core.steady` leaves out. -/
theorem steady_follow {c d : Core} (h : d.steady = c.steady) (c0 : Core) (flow : Flow) (before : List (ShadowWrite × Word)) :
    (d.follow c0 flow before).steady = (c.follow c0 flow before).steady := by
  have hfollow (x : Core) : (x.follow c0 flow before).steady = (x.steady.follow c0 flow before).steady := by
    unfold Core.follow
    cases flow with
    | branch b => rfl
    | goto pc => rfl
    | next => dsimp only; split <;> [skip; split] <;> rfl
    | keepLc => dsimp only; split <;> [skip; split] <;> rfl
  rw [hfollow d, h, ← hfollow c]

/-- An instruction in sequence goes on at `Core.seqPc`, with LC as `Core.seqLc` has it. -/
theorem steady_follow_next {c c0 : Core} (hdelay : c.delay = c0.delay) (hlc : c.lc = c0.lc) (before : List (ShadowWrite × Word)) :
    (c.follow c0 .next before).steady = { c with pc := c0.seqPc, lc := c0.seqLc, delay := none }.steady := by
  unfold Core.follow Core.seqPc Core.seqLc
  dsimp only
  cases h : c0.delay with
  | some d => simp [Core.steady, hlc]
  | none =>
    rw [h] at hdelay
    by_cases hend : c0.pc = c0.le ∧ c0.lc ≠ 0
    · have hlast : (if c0.lc - 1 ≠ 0 then c0.ls else c0.le + 4) = if c0.lc = 1 then c0.le + 4 else c0.ls := by
        rw [ite_not]
        exact if_congr sub_eq_zero rfl rfl
      dsimp only
      rw [if_pos hend, if_pos hend, hlast, if_pos (show none.isNone = true ∧ _ from ⟨rfl, hend⟩)]
      simp only [Core.steady, hdelay, Bool.false_eq_true, if_false]
    · dsimp only
      rw [if_neg hend, if_neg hend, if_neg (fun x => hend x.2)]
      simp only [Core.steady, hdelay, hlc]

/-! ### The commit -/

/-- What a flow leaves of the predictor and its counters. -/
def State.predicted (s : State) (g : Group) (pc : Word) (flow : Flow) : State :=
  match flow with
  | .branch b => s.predict g pc b
  | _ => s

/-- The commit of an instruction whose effects `t` holds and whose state before it was `u`, with no exception that follows it. -/
def State.committed (t u : State) (g : Group) (flow : Flow) : State :=
  ((((t.bump (LS_P_ISSUE_CNT g)).bump (LS_P_COMMIT_CNT g)).predicted g (u.core g).pc flow).age g
    (u.core g).shadow.length).onCore g (fun c =>
      { c.follow (u.core g) flow ((u.core g).shadow.map (fun w => (w, u.inEffect g w.reg))) with entry := none })

section
variable {β : Type} (p : Core → β) (hp : ∀ (c : Core) (x : Predictor), p { c with pred := x } = p c)
include hp

theorem core_predict_preserves (s : State) (pc : Word) (b : Branch) : p ((s.predict g pc b).core g) = p (s.core g) := by
  unfold State.predict
  extract_lets c ctl s1 alloc s2
  have hwander (v : State) : p ((v.wander g ctl).core g) = p (v.core g) := by
    unfold State.wander
    split
    · rfl
    · dsimp only
      rw [core_onCore_same, hp]
      rfl
  have h1 : p (s1.core g) = p (s.core g) := holds_ite (P := fun v => p (v.core g) = p (s.core g)) (hwander _) rfl
  have h2 : p (s2.core g) = p (s.core g) := holds_ite (P := fun v => p (v.core g) = p (s.core g)) h1 h1
  rw [core_onCore_same, hp, h2]

theorem core_predicted_preserves (s : State) (pc : Word) (flow : Flow) :
    p ((s.predicted g pc flow).core g) = p (s.core g) := by
  cases flow with
  | branch b => exact core_predict_preserves p hp s pc b
  | next => rfl
  | keepLc => rfl
  | goto pc => rfl

end

theorem steady_committed (t u : State) (g : Group) (flow : Flow) : ∃ before,
    ((t.committed u g flow).core g).steady = ((t.core g).follow (u.core g) flow before).steady := by
  refine ⟨(u.core g).shadow.map (fun w => (w, u.inEffect g w.reg)), ?_⟩
  rw [State.committed, core_onCore_same]
  refine steady_follow ?_ _ _ _
  exact (core_age_preserves Core.steady (fun _ _ _ _ _ _ => rfl) _ _).trans
    (core_predicted_preserves Core.steady (fun _ _ => rfl) _ _ _)

theorem core_age_zero (s : State) (g : Group) : (s.age g 0).core g = s.core g := by
  rw [State.age, List.take_zero, List.drop_zero]
  exact core_onCore_same s g _

/-- With no write in its shadow a commit leaves the mode. -/
theorem mode_committed (h : (u.core g).shadow = []) : ((t.committed u g flow).core g).mode = (t.core g).mode := by
  rw [State.committed, core_onCore_same, h, List.length_nil, core_age_zero]
  exact (core_follow_preserves Core.mode (fun _ _ _ _ _ => rfl) _ _ _ _).trans
    (core_predicted_preserves Core.mode (fun _ _ => rfl) _ _ _)

theorem due_committed (t u : State) (g : Group) (flow : Flow) : ((t.committed u g flow).core g).due = (t.core g).due := by
  rw [State.committed, core_onCore_same]
  exact (core_follow_preserves (fun c => c.due) (fun _ _ _ _ _ => rfl) _ _ _ _).trans
    ((core_age_preserves (fun c => c.due) (fun _ _ _ _ _ _ => rfl) _ _).trans
      (core_predicted_preserves (fun c => c.due) (fun _ _ => rfl) _ _ _))

section
variable (hstate : t.get (LS_STAT_STATE g) = lsRunning) (hdue : (t.core g).due = [])
include hstate hdue

/-- With no store error to take, a commit is followed by its completion exception or by nothing (R266, R267). -/
theorem commit_of_nothingDue (after : Option (Exc × Word)) : t.commit u g flow after =
    after.elim (t.committed u g flow) (fun x => (t.committed u g flow).completeExc g x.1 x.2) := by
  have hnone : (t.committed u g flow).takeDue g = none := takeDue_of_nil ((due_committed t u g flow).trans hdue)
  rw [State.commit, hstate, bne_self_eq_false, if_neg Bool.false_ne_true]
  extract_lets c0 before s1 s2 s3
  rw [show s3.takeDue g = none from hnone]
  cases after with
  | none => rfl
  | some x => rfl

end

/-! ### What a commit leaves alone -/

theorem onlyGroup_trans (h : s.onlyGroup t g) (k : t.onlyGroup u g) : s.onlyGroup u g := by
  obtain ⟨h1, h2, h3, h4, h5, h6, h7, h8, h9, h10, h11, h12, h13, hcores⟩ := h
  obtain ⟨k1, k2, k3, k4, k5, k6, k7, k8, k9, k10, k11, k12, k13, kcores⟩ := k
  exact ⟨k1.trans h1, k2.trans h2, k3.trans h3, k4.trans h4, k5.trans h5, k6.trans h6, k7.trans h7, k8.trans h8, k9.trans h9,
    k10.trans h10, k11.trans h11, k12.trans h12, k13.trans h13, fun k hk => (kcores k hk).trans (hcores k hk)⟩

theorem onlyGroup_draw (s : State) (g : Group) : s.onlyGroup s.draw.2 g :=
  ⟨rfl, rfl, rfl, rfl, rfl, rfl, rfl, rfl, rfl, rfl, rfl, rfl, rfl, fun _ _ => rfl⟩

theorem onlyGroup_wander (s : State) (g : Group) (ctl : Word) : s.onlyGroup (s.wander g ctl) g :=
  holds_ite (P := fun t => s.onlyGroup t g) (RunOnly.refl g s).onlyGroup
    (onlyGroup_trans (onlyGroup_draw s g) ((RunOnly.refl g s.draw.2).onCore _).onlyGroup)

theorem onlyGroup_predict (s : State) (g : Group) (pc : Word) (b : Branch) : s.onlyGroup (s.predict g pc b) g := by
  unfold State.predict
  extract_lets c ctl s1 alloc s2
  have h1 : s.onlyGroup s1 g := holds_ite (P := fun t => s.onlyGroup t g)
    (onlyGroup_trans ((RunOnly.refl g s).bump _).onlyGroup (onlyGroup_wander _ g ctl)) (RunOnly.refl g s).onlyGroup
  exact onlyGroup_trans h1 ((((RunOnly.refl g s1).bump _).ite (RunOnly.refl g s1)).onCore _).onlyGroup

theorem onlyGroup_committed (t u : State) (g : Group) (flow : Flow) : t.onlyGroup (t.committed u g flow) g := by
  have hcounted := ((RunOnly.refl g t).bump (LS_P_ISSUE_CNT g)).bump (LS_P_COMMIT_CNT g)
  have hpredicted (s : State) (pc : Word) : s.onlyGroup (s.predicted g pc flow) g := by
    cases flow with
    | branch b => exact onlyGroup_predict s g pc b
    | next => exact (RunOnly.refl g s).onlyGroup
    | keepLc => exact (RunOnly.refl g s).onlyGroup
    | goto _ => exact (RunOnly.refl g s).onlyGroup
  exact onlyGroup_trans (onlyGroup_trans hcounted.onlyGroup (hpredicted _ _))
    (((RunOnly.refl g _).age _).onCore _).onlyGroup

/-! ### From the fetch to the commit -/

/-- Where an instruction stands lets it act: it is legal and permitted, in no slot that forbids or annuls it, and at no loop's end
that it may not end. -/
def Core.proceeds (c : Core) (i : Ins) : Bool :=
  i.legal && !(c.delay.isSome && (i.sys || i.branch)) && !c.delay.any (fun d => d.annul) && i.permitted && !c.badLoopEnd i

theorem proceeds_of_acts {c : Core} (h : c.acts = true) (w : Word) {legal : Bool} (hlegal : legal = true) :
    c.proceeds (plainIns w legal) = true := by
  subst hlegal
  simp only [Core.acts, Bool.and_eq_true, Bool.not_eq_true'] at h
  obtain ⟨hannul, hend⟩ := h
  have hgood : c.badLoopEnd (plainIns w) = false := by
    rw [← hend, Core.badLoopEnd, plainIns, Bool.false_or, Bool.and_comm, Bool.and_assoc]
  simp only [Core.proceeds, hannul, hgood]
  simp [plainIns]

theorem proceeds_of_mayBranch {c : Core} (h : c.mayBranch = true) (hlegal : i.legal = true) (hpermitted : i.permitted = true) :
    c.proceeds i = true := by
  simp only [Core.mayBranch, Bool.and_eq_true, Bool.not_eq_true', Option.isNone_iff_eq_none] at h
  obtain ⟨hdelay, hend⟩ := h
  simp only [Core.proceeds, Core.badLoopEnd, hlegal, hpermitted, hdelay, hend, Option.isSome_none, Option.any_none,
    Bool.false_and, Bool.not_false, Bool.and_self]

section
variable (h : s.fetches u g = true)
include h

theorem run_of_fetches_illegal (hill : (!i.legal || (u.core g).delay.isSome && (i.sys || i.branch)) = true) :
    s.run g i effect = u.refuseIns g .illegal i.word := by
  obtain ⟨hruns, hdue, -, hready, hfetch, -⟩ := fetches_iff.1 h
  rw [State.run, hruns, takeDue_of_nil hdue, hready, hfetch]
  exact if_pos hill

theorem run_of_fetches_loopSetup (hlegal : i.legal = true) (hpermitted : i.permitted = true) (hdelay : (u.core g).delay = none)
    (hend : (u.core g).badLoopEnd i = true) : s.run g i effect = u.refuseIns g .loopSetup (u.core g).le := by
  obtain ⟨hruns, hdue, -, hready, hfetch, -⟩ := fetches_iff.1 h
  rw [State.run, hruns, takeDue_of_nil hdue, hready, hfetch]
  dsimp only
  rw [hlegal, hpermitted, hdelay, hend]
  rfl

theorem run_of_fault (hp : (u.core g).proceeds i = true) (heffect : effect u = .fault e a t) :
    s.run g i effect = t.refuseIns g e a := by
  obtain ⟨hruns, hdue, -, hready, hfetch, -⟩ := fetches_iff.1 h
  simp only [Core.proceeds, Bool.and_eq_true, Bool.not_eq_true'] at hp
  obtain ⟨⟨⟨⟨hlegal, hslot⟩, hannul⟩, hpermitted⟩, hend⟩ := hp
  rw [State.run, hruns, takeDue_of_nil hdue, hready, hfetch]
  dsimp only
  rw [hlegal, hslot, hannul, hpermitted, hend, heffect]
  rfl

theorem run_of_done (hp : (u.core g).proceeds i = true) {after : Option (Exc × Word)} (heffect : effect u = .done t flow after) :
    s.run g i effect = (t.commit u g flow after).endStep g := by
  obtain ⟨hruns, hdue, -, hready, hfetch, -⟩ := fetches_iff.1 h
  obtain ⟨-, hinject⟩ := core_fetched h
  simp only [Core.proceeds, Bool.and_eq_true, Bool.not_eq_true'] at hp
  obtain ⟨⟨⟨⟨hlegal, hslot⟩, hannul⟩, hpermitted⟩, hend⟩ := hp
  rw [State.run, hruns, takeDue_of_nil hdue, hready, hfetch]
  dsimp only
  rw [hlegal, hslot, hannul, hpermitted, hend, heffect]
  exact congrArg (fun x => x.endStep g) (votedSlot_of_inject_none _ hinject)

end

/-! ### An instruction whose effects are on the core of its group -/

theorem steady_endStep (s : State) (g : Group) : ((s.endStep g).core g).steady = (s.core g).steady := by
  obtain ⟨b, h⟩ := core_endStep s g
  rw [h]
  rfl

theorem mode_endStep (s : State) (g : Group) : ((s.endStep g).core g).mode = (s.core g).mode := by
  obtain ⟨b, h⟩ := core_endStep s g
  rw [h]
  rfl

/-- What an instruction leaves that commits with effects `f` on the core of its group alone: where execution goes on by its flow,
the mode with no write in its shadow, and every other unit. -/
theorem run_of_onCore {f : Core → Core} (h : s.fetches u g = true) (hp : (u.core g).proceeds i = true)
    (heffect : effect u = .done (u.onCore g f) flow none) (hdue : (f (u.core g)).due = (u.core g).due)
    (hmode : (f (u.core g)).mode = (u.core g).mode) : ∃ t before, s.run g i effect = t ∧
      (t.core g).steady = ((f (u.core g)).follow (u.core g) flow before).steady ∧
      ((u.core g).shadow = [] → (t.core g).mode = (u.core g).mode) ∧ u.onlyGroup t g := by
  obtain ⟨hnone, -⟩ := core_fetched h
  obtain ⟨-, -, -, -, -, hruns⟩ := fetches_iff.1 h
  obtain ⟨before, hsteady⟩ := steady_committed (u.onCore g f) u g flow
  have hcore := core_onCore_same u g f
  rw [hcore] at hsteady
  have hrun := run_of_done h hp heffect
  rw [commit_of_nothingDue (t := u.onCore g f) (get_state_of_groupRuns hruns) (by rw [hcore, hdue, hnone]),
    Option.elim_none] at hrun
  refine ⟨_, before, hrun, (steady_endStep _ _).trans hsteady, fun hempty => ?_, ?_⟩
  · rw [mode_endStep, mode_committed hempty, hcore, hmode]
  · exact onlyGroup_trans (onlyGroup_trans ((RunOnly.refl g u).onCore f).onlyGroup (onlyGroup_committed _ u g flow))
      (RunOnly.refl g _).endStep.onlyGroup

end Sys2Proof.Machine
end

section
/-! The register and sequence instructions that compute one general register (R232, R237, R250, R254). -/

namespace Sys2Proof.Machine

variable {s u : State} {g : Group} {i : Ins} {effect : State → Effect} {rd : GReg} {v : Core → Word}

/-- An instruction that computes a general register and goes on in sequence changes nothing else. -/
theorem run_computes {x : Word} (h : s.fetches u g = true) (hp : (u.core g).proceeds i = true)
    (heffect : effect u = .done (u.setRg g rd x) .next none) : u.computed (s.run g i effect) g rd x := by
  have hset := setRg_eq (u.core g) rd x
  have hdelay : ((u.core g).setRg rd x).delay = (u.core g).delay := by rw [hset]
  have hlc : ((u.core g).setRg rd x).lc = (u.core g).lc := by rw [hset]
  obtain ⟨t, before, hrun, hfollow, hmode, honly⟩ := run_of_onCore (f := fun c => c.setRg rd x) h hp heffect (by rw [hset])
    (by rw [hset]; rfl)
  have hsteady := hfollow.trans (steady_follow_next hdelay hlc before)
  rw [hrun]
  refine ⟨fun r => ?_, congrArg (fun c => c.pc) hsteady, congrArg (fun c => c.lc) hsteady, congrArg (fun c => c.delay) hsteady,
    keepsSpecial_of_steady (hsteady.trans (by rw [hset])) hmode, honly⟩
  have hrg : (t.core g).rg r = ((u.core g).setRg rd x).rg r := congrArg (fun c => c.rg r) hsteady
  rw [hrg, rg_setRg]

section
variable (h : s.fetches u g = true) (hacts : (u.core g).acts = true)
include h hacts

/-- A plain instruction writes the value that its function gives of the core. -/
theorem computeReg_computes {w : Word} {legal : Bool} {x : Word} (hlegal : legal = true) (hx : v (u.core g) = x) :
    ∃ t, (.next (s.computeReg g (plainIns w legal) rd v) : Host.Outcome State Fault Refusal) = .next t ∧
      u.computed t g rd x := by
  subst hx
  exact ⟨_, rfl, run_computes h (proceeds_of_acts hacts w hlegal) rfl⟩

/-- The value that a plain instruction writes, by what holds of it. -/
theorem computeReg_computes_some {w : Word} {legal : Bool} {P : Word → Prop} (hlegal : legal = true) (hx : P (v (u.core g))) :
    ∃ t, (.next (s.computeReg g (plainIns w legal) rd v) : Host.Outcome State Fault Refusal) = .next t ∧
      ∃ x, u.computed t g rd x ∧ P x := by
  obtain ⟨t, hexec, hcomputed⟩ := computeReg_computes (rd := rd) (w := w) h hacts hlegal (rfl : v (u.core g) = _)
  exact ⟨t, hexec, _, hcomputed, hx⟩

/-- A divide that raises no DIV0 writes its result (R245). -/
theorem divide_computes {w x : Word} {ra rb : GReg} {f : Word → Word → Word}
    (hzero : (u.core g).rg rb ≠ 0 ∨ (u.core g).dze = false) (hx : f ((u.core g).rg ra) ((u.core g).rg rb) = x) :
    ∃ t, (.next (s.divide g (plainIns w) rd ra rb f) : Host.Outcome State Fault Refusal) = .next t ∧ u.computed t g rd x := by
  subst hx
  refine ⟨_, rfl, run_computes h (proceeds_of_acts hacts w rfl) (if_neg ?_)⟩
  rcases hzero with hne | hoff
  · exact fun htrap => hne (beq_iff_eq.1 (Bool.and_eq_true_iff.1 htrap).2)
  · rw [hoff]
    exact Bool.false_ne_true

end

end Sys2Proof.Machine
end

section
/-! Results of the arithmetic in closed form (R242 to R245). -/

namespace Sys2Proof.Machine

/-! ### Numbers and their bytes (R10) -/

theorem testBit_leNat (b : Bytes) (k : Nat) : (leNat b).testBit k = (b[k / 8]?.getD 0).getLsbD (k % 8) := by
  induction b generalizing k with
  | nil => simp [leNat]
  | cons x r ih =>
    rw [leNat, Nat.add_comm, show (256 : Nat) = 2 ^ 8 by rfl, Nat.testBit_two_pow_mul_add _ x.isLt]
    split
    next h => simp [Nat.div_eq_of_lt h, Nat.mod_eq_of_lt h, BitVec.getLsbD]
    next h =>
      have hdiv : k / 8 = (k - 8) / 8 + 1 := by omega
      rw [ih, hdiv, List.getElem?_cons_succ, show (k - 8) % 8 = k % 8 by omega]

@[simp] theorem length_natLe (n v : Nat) : (natLe n v).length = n := by
  induction n generalizing v with
  | zero => rfl
  | succ n ih => exact congrArg Nat.succ (ih _)

theorem getElem?_natLe {n i : Nat} (v : Nat) (h : i < n) : (natLe n v)[i]? = some (BitVec.ofNat 8 (v / 256 ^ i)) := by
  induction n generalizing v i with
  | zero => exact absurd h (Nat.not_lt_zero i)
  | succ n ih =>
    cases i with
    | zero => simp [natLe]
    | succ i =>
      rw [natLe, List.getElem?_cons_succ, ih _ (Nat.lt_of_succ_lt_succ h), Nat.div_div_eq_div_mul, pow_succ']

theorem natLe_leNat (b : Bytes) : natLe b.length (leNat b) = b := by
  induction b with
  | nil => rfl
  | cons x r ih =>
    have hhead : BitVec.ofNat 8 (x.toNat + 256 * leNat r) = x :=
      BitVec.eq_of_toNat_eq (by rw [BitVec.toNat_ofNat]; have := x.isLt; omega)
    have htail : (x.toNat + 256 * leNat r) / 256 = leNat r := by have := x.isLt; omega
    rw [leNat, List.length_cons, natLe, hhead, htail, ih]

theorem leNat_natLe (n v : Nat) : leNat (natLe n v) = v % 256 ^ n := by
  induction n generalizing v with
  | zero => rw [pow_zero, Nat.mod_one]; rfl
  | succ n ih =>
    rw [natLe, leNat, ih, BitVec.toNat_ofNat, pow_succ' 256, Nat.mod_mul]

/-! ### Comparison, shifts and saturation (R242) -/

theorem ofBool32_slt (a b : Word) : ofBool32 (a.slt b) = if a.toInt < b.toInt then 1 else 0 := by
  simp [ofBool32, BitVec.slt]

theorem ofBool32_ult (a b : Word) : ofBool32 (a.ult b) = if a.toNat < b.toNat then 1 else 0 := by
  simp [ofBool32, BitVec.ult]

theorem shiftLeft_eq_ofNat (a : Word) (n : Nat) : a <<< n = BitVec.ofNat 32 (a.toNat * 2 ^ n) := by
  refine BitVec.eq_of_toNat_eq ?_
  rw [BitVec.toNat_shiftLeft, BitVec.toNat_ofNat, Nat.shiftLeft_eq]

theorem shiftRight_eq_ofNat (a : Word) (n : Nat) : a >>> n = BitVec.ofNat 32 (a.toNat / 2 ^ n) := by
  refine BitVec.eq_of_toNat_eq ?_
  rw [BitVec.toNat_ushiftRight, BitVec.toNat_ofNat, Nat.shiftRight_eq_div_pow,
    Nat.mod_eq_of_lt (lt_of_le_of_lt (Nat.div_le_self _ _) a.isLt)]

theorem sshiftRight_eq_ofInt (a : Word) (n : Nat) : a.sshiftRight n = BitVec.ofInt 32 (a.toInt / 2 ^ n) := by
  rw [BitVec.sshiftRight, Int.shiftRight_eq_div_pow]
  norm_cast

theorem min_eq_ofInt (a b : Word) : (if a.slt b then a else b) = BitVec.ofInt 32 (min a.toInt b.toInt) := by
  rw [min_def_lt, apply_ite (BitVec.ofInt 32), BitVec.ofInt_toInt, BitVec.ofInt_toInt]
  simp [BitVec.slt]

theorem max_eq_ofInt (a b : Word) : (if a.slt b then b else a) = BitVec.ofInt 32 (max a.toInt b.toInt) := by
  rw [max_def_lt, apply_ite (BitVec.ofInt 32), BitVec.ofInt_toInt, BitVec.ofInt_toInt]
  simp [BitVec.slt]

theorem minu_eq_ofNat (a b : Word) : (if a.ult b then a else b) = BitVec.ofNat 32 (min a.toNat b.toNat) := by
  rw [min_def_lt, apply_ite (BitVec.ofNat 32), BitVec.ofNat_toNat, BitVec.ofNat_toNat]
  simp [BitVec.ult]

theorem maxu_eq_ofNat (a b : Word) : (if a.ult b then b else a) = BitVec.ofNat 32 (max a.toNat b.toNat) := by
  rw [max_def_lt, apply_ite (BitVec.ofNat 32), BitVec.ofNat_toNat, BitVec.ofNat_toNat]
  simp [BitVec.ult]

theorem sat32_eq_ofInt (x : Int) : sat32 x = BitVec.ofInt 32 (max (-2 ^ 31) (min x (2 ^ 31 - 1))) := by
  norm_num [sat32]

/-! ### Counts and the order of bytes (R242) -/

/-- The first of 32 positions at which `f` holds, 32 where there is none: no position before it holds, and it does. -/
theorem find_first_spec (f : Nat → Bool) :
    let v : Word := BitVec.ofNat 32 (((List.range 32).find? f).getD 32)
    v.toNat ≤ 32 ∧ (∀ k, k < v.toNat → f k = false) ∧ (v.toNat < 32 → f v.toNat = true) := by
  cases h : (List.range 32).find? f with
  | none =>
    have hnone := List.find?_range_eq_none.1 h
    exact ⟨by decide, fun k hk => by simpa using hnone k hk, fun hlt => absurd hlt (by decide)⟩
  | some n =>
    obtain ⟨hset, hlt, hbefore⟩ := List.find?_range_eq_some.1 h
    have hn : (BitVec.ofNat 32 n).toNat = n := by
      rw [BitVec.toNat_ofNat]
      exact Nat.mod_eq_of_lt (lt_trans (List.mem_range.1 hlt) (by decide))
    dsimp only [Option.getD_some]
    rw [hn]
    exact ⟨le_of_lt (List.mem_range.1 hlt), fun k hk => by simpa using hbefore k hk, fun _ => hset⟩

theorem getLsbD_byteSwap (a : Word) {k : Nat} (hk : k < 32) :
    (byteSwap a).getLsbD k = a.getLsbD (24 - k / 8 * 8 + k % 8) := by
  have hbyte : (natLe 4 a.toNat).reverse[k / 8]? = some (BitVec.ofNat 8 (a.toNat / 2 ^ (24 - k / 8 * 8))) := by
    rw [List.getElem?_reverse (by rw [length_natLe]; omega), length_natLe, getElem?_natLe _ (by omega),
      show (256 : Nat) = 2 ^ 8 by rfl, ← pow_mul, show 8 * (4 - 1 - k / 8) = 24 - k / 8 * 8 by omega]
  have hbit : k % 8 < 8 := Nat.mod_lt _ (by decide)
  rw [byteSwap, BitVec.getLsbD_ofNat, testBit_leNat, hbyte, Option.getD_some, BitVec.getLsbD_ofNat, Nat.testBit_div_two_pow,
    decide_eq_true hk, decide_eq_true hbit, Bool.true_and, Bool.true_and, Nat.add_comm]
  rfl

/-! ### Immediates (R242, R243) -/

theorem ofBool32_slt_sext16 (a : Word) (imm : BitVec 16) :
    ofBool32 (a.slt (sext16 imm)) = if a.toInt < imm.toInt then 1 else 0 := by
  rw [ofBool32_slt, sext16, BitVec.toInt_signExtend_of_le (by decide)]

theorem zext16_shiftLeft (imm : BitVec 16) : zext16 imm <<< 16 = BitVec.ofNat 32 (imm.toNat * 0x10000) := by
  rw [shiftLeft_eq_ofNat, zext16, BitVec.toNat_setWidth_of_le (by decide)]
  rfl

/-! ### Products (R244) -/

theorem mul_eq_ofNat (a b : Word) : a * b = BitVec.ofNat 32 (a.toNat * b.toNat) := by
  refine BitVec.eq_of_toNat_eq ?_
  rw [BitVec.toNat_mul, BitVec.toNat_ofNat]

theorem highWord_eq_ofInt (p : Int) : highWord p = BitVec.ofInt 32 (p / 2 ^ 32) := by
  norm_num [highWord]

theorem highWord_natCast (n m : Nat) : highWord (n * m) = BitVec.ofNat 32 (n * m / 2 ^ 32) := by
  rw [highWord_eq_ofInt, ← BitVec.ofInt_natCast]
  norm_num

/-- The Q1.31 product rounded to nearest, ties away from zero. -/
theorem mulQ_eq (a b : Word) : mulQ a b = if 0 ≤ a.toInt * b.toInt then (a.toInt * b.toInt + 2 ^ 30) / 2 ^ 31
    else -((-(a.toInt * b.toInt) + 2 ^ 30) / 2 ^ 31) := by
  rw [mulQ, divNearest]
  generalize a.toInt * b.toInt = p
  split
  · omega
  · omega

/-! ### Bit fields (R242) -/

theorem getLsbD_maskOf {k n : Nat} (hk : k < 32) : (maskOf n).getLsbD k = decide (k < n) := by
  rw [maskOf, BitVec.getLsbD_ofNat, Nat.testBit_two_pow_sub_one, decide_eq_true hk, Bool.true_and]

theorem getLsbD_extractBits (a : Word) (w sh : BitVec 5) {k : Nat} (hk : k < 32) :
    (extractBits a w sh).getLsbD k = (decide (k ≤ w.toNat) && a.getLsbD (k + sh.toNat)) := by
  rw [extractBits, BitVec.getLsbD_and, getLsbD_maskOf hk, BitVec.getLsbD_ushiftRight, widthOf, Bool.and_comm,
    decide_eq_decide.2 Nat.lt_succ_iff, Nat.add_comm]

theorem signedOf_eq_toInt {n v : Nat} : signedOf (n + 1) v = (BitVec.ofNat (n + 1) v).toInt := by
  have hhalf : (2 : Nat) ^ (n + 1) = 2 * 2 ^ n := pow_succ' 2 n
  rw [signedOf, BitVec.toInt_eq_toNat_cond, BitVec.toNat_ofNat, Nat.add_sub_cancel]
  split
  · rw [if_neg (by omega)]
  · rw [if_pos (by omega)]

theorem getLsbD_extractSigned (a : Word) (w sh : BitVec 5) {k : Nat} (hk : k < 32) :
    (extractSigned a w sh).getLsbD k = a.getLsbD (min k w.toNat + sh.toNat) := by
  have hw : w.toNat < 32 := w.isLt
  have hextend : extractSigned a w sh = (BitVec.ofNat (w.toNat + 1) (extractBits a w sh).toNat).signExtend 32 := by
    rw [extractSigned, widthOf, signedOf_eq_toInt, BitVec.signExtend]
  have hfield {j : Nat} (hj : j ≤ w.toNat) :
      (BitVec.ofNat (w.toNat + 1) (extractBits a w sh).toNat).getLsbD j = a.getLsbD (j + sh.toNat) := by
    have hbit := getLsbD_extractBits a w sh (lt_of_le_of_lt hj hw)
    rw [decide_eq_true hj, Bool.true_and] at hbit
    rw [BitVec.getLsbD_ofNat, decide_eq_true (Nat.lt_succ_of_le hj), Bool.true_and, ← hbit, BitVec.getLsbD]
  rw [hextend, BitVec.getLsbD_signExtend, decide_eq_true hk, Bool.true_and, BitVec.msb_eq_getLsbD_last]
  by_cases hin : k ≤ w.toNat
  · rw [if_pos (Nat.lt_succ_of_le hin), hfield hin, min_eq_left hin]
  · rw [if_neg (by omega), Nat.add_sub_cancel, hfield le_rfl, min_eq_right (by omega)]

theorem getLsbD_insertBits (d a : Word) (w sh : BitVec 5) {k : Nat} (hk : k < 32) :
    (insertBits d a w sh).getLsbD k =
      if sh.toNat ≤ k ∧ k ≤ sh.toNat + w.toNat then a.getLsbD (k - sh.toNat) else d.getLsbD k := by
  have hmask : (maskOf (widthOf w) <<< sh.toNat).getLsbD k = decide (sh.toNat ≤ k ∧ k ≤ sh.toNat + w.toNat) := by
    rw [BitVec.getLsbD_shiftLeft, getLsbD_maskOf (by omega), widthOf, decide_eq_true hk, Bool.true_and]
    by_cases hlow : k < sh.toNat
    · simp [hlow, Nat.not_le.2 hlow]
    · simp only [hlow, decide_false, Bool.not_false, Bool.true_and, decide_eq_decide]
      omega
  have hvalue : ((a &&& maskOf (widthOf w)) <<< sh.toNat).getLsbD k =
      (decide (sh.toNat ≤ k ∧ k ≤ sh.toNat + w.toNat) && a.getLsbD (k - sh.toNat)) := by
    rw [← hmask, BitVec.getLsbD_shiftLeft, BitVec.getLsbD_shiftLeft, BitVec.getLsbD_and, Bool.and_assoc, Bool.and_assoc,
      Bool.and_assoc, Bool.and_comm (a.getLsbD _)]
  rw [insertBits, BitVec.getLsbD_or, BitVec.getLsbD_and, BitVec.getLsbD_not, hmask, hvalue]
  by_cases hin : sh.toNat ≤ k ∧ k ≤ sh.toNat + w.toNat
  · simp [hin]
  · simp [hin, hk]

/-! ### Remainders (R245) -/

theorem remSigned_eq (a b : Word) : remSigned a b = if b = 0 then a else BitVec.ofInt 32 (a.toInt.tmod b.toInt) := by
  rw [remSigned]
  refine if_congr Iff.rfl rfl ?_
  split
  next h =>
    obtain ⟨rfl, rfl⟩ := h
    rfl
  · rfl

end Sys2Proof.Machine
end

section
open Sys2Proof Sys2Proof.Machine

/-- Settles O40: each instruction of the group computes one register (`computeReg_computes`), by its result in closed form. -/
theorem theAluComputes : Obligations.TheAluComputes := by
  unfold Obligations.TheAluComputes
  intro s u g rd ra rb sh h hacts
  have hcomputes {w x : Word} {v : Core → Word} := computeReg_computes (rd := rd) (v := v) (w := w) (x := x) h hacts rfl
  have hsome {w : Word} {v : Core → Word} {P : Word → Prop} :=
    computeReg_computes_some (rd := rd) (v := v) (w := w) (P := P) h hacts rfl
  refine ⟨hcomputes ?add, hcomputes ?sub, hcomputes ?and, hcomputes ?or, hcomputes ?xor, hcomputes ?nor, hcomputes ?slt,
    hcomputes ?sltu, hcomputes ?sll, hcomputes ?srl, hcomputes ?sra, hcomputes ?slli, hcomputes ?srli, hcomputes ?srai,
    hcomputes ?min, hcomputes ?max, hcomputes ?minu, hcomputes ?maxu, hcomputes ?adds, hcomputes ?subs, hsome ?clz, hsome ?ctz,
    hcomputes ?popc, hsome ?bswap⟩
  case add | sub | and | or | xor | nor | popc => rfl
  case slt => exact ofBool32_slt _ _
  case sltu => exact ofBool32_ult _ _
  case sll | slli => exact shiftLeft_eq_ofNat _ _
  case srl | srli => exact shiftRight_eq_ofNat _ _
  case sra | srai => exact sshiftRight_eq_ofInt _ _
  case min => exact min_eq_ofInt _ _
  case max => exact max_eq_ofInt _ _
  case minu => exact minu_eq_ofNat _ _
  case maxu => exact maxu_eq_ofNat _ _
  case adds | subs => exact sat32_eq_ofInt _
  case clz | ctz => exact find_first_spec _
  case bswap => exact fun k hk => getLsbD_byteSwap _ hk

end

section
/-! Entry into the handler of an exception (R264 to R272, R277, R279). -/

namespace Sys2Proof.Machine

variable {s t u v : State} {g : Group} {e : Exc} {x : Entering} {faddr : Word}

/-! ### Words written whole (R308) -/

theorem setBytesAt_append (m : List Host.Cell) (a : Nat) (b c : Bytes) :
    setBytesAt m a (b ++ c) = setBytesAt (setBytesAt m a b) (a + b.length) c := by
  induction b generalizing m a with
  | nil => rfl
  | cons x r ih =>
    rw [List.cons_append, setBytesAt, ih, setBytesAt, List.length_cons, Nat.add_right_comm, Nat.add_assoc]

theorem mem_writeWord {a : Nat} {b : Bytes} (hb : b.length = 8) (ha : a < retBase) :
    (s.writeWord a (BitVec.ofNat 64 (leNat b))).mem = setBytesAt s.mem a b := by
  have hnum : (BitVec.ofNat 64 (leNat b)).toNat = leNat b := by
    rw [BitVec.toNat_ofNat]
    exact Nat.mod_eq_of_lt (lt_of_lt_of_eq (leNat_lt b) (by rw [hb]; rfl))
  have hbytes : natLe 8 (leNat b) = b := by rw [← hb, natLe_leNat]
  show (s.setWord64 a _).mem = _
  rw [State.setWord64, if_neg (fun h => absurd h.1 (Nat.not_le.2 ha)), hnum, hbytes]
  rfl

/-- Whole words stored in memory below RETAINED are written as they are. -/
theorem mem_latWrite_words (fuel : Nat) {a : Nat} {b : Bytes} (ha : a % 8 = 0) (hb : b.length % 8 = 0) (hfuel : b.length < fuel)
    (hlow : a + b.length ≤ retBase) : (s.latWrite fuel a b).1.mem = setBytesAt s.mem a b := by
  induction fuel generalizing s a b with
  | zero => exact absurd hfuel (Nat.not_lt_zero _)
  | succ fuel ih =>
    cases b with
    | nil => rfl
    | cons x r =>
      have hlong : 8 ≤ (x :: r).length := by
        rw [List.length_cons] at hb ⊢
        omega
      have hword : ((x :: r).take 8).length = 8 := List.length_take_of_le hlong
      have hrest : ((x :: r).drop 8).length = (x :: r).length - 8 := List.length_drop
      have happend := setBytesAt_append s.mem a ((x :: r).take 8) ((x :: r).drop 8)
      rw [List.take_append_drop, hword] at happend
      rw [State.latWrite, ha, Nat.sub_zero, Nat.div_mul_cancel (Nat.dvd_of_mod_eq_zero ha), State.writeInWord, if_pos hword]
      dsimp only
      rw [ih (by omega) (by omega) (by omega) (by omega), mem_writeWord hword (by omega), happend]

/-- The first word of whole words that are stored is read back. -/
theorem num_store_word {a : Nat} {x : Word} {b : Bytes} (ha : a % 8 = 0) (hb : (natLe 4 x.toNat ++ b).length % 8 = 0)
    (hlow : a + (natLe 4 x.toNat ++ b).length ≤ retBase) : (s.store a (natLe 4 x.toNat ++ b)).1.num a 4 = x.toNat := by
  have hread : (s.store a (natLe 4 x.toNat ++ b)).1.bytes a 4 = natLe 4 x.toNat := by
    refine List.ext_getElem (by rw [State.bytes, bytesAt, List.length_map, List.length_range, length_natLe]) fun k hk hk' => ?_
    have hin : k < (natLe 4 x.toNat ++ b).length := by
      rw [List.length_append]
      omega
    simp only [State.bytes, bytesAt, List.getElem_map, List.getElem_range]
    rw [State.store, mem_latWrite_words _ ha hb (Nat.lt_succ_self _) hlow, byteAt_setBytesAt_inside _ _ _ _ hin,
      List.getElem_append_left]
  rw [State.num, hread, leNat_natLe]
  exact Nat.mod_eq_of_lt x.isLt

/-! ### Entry -/

/-- An image is 160 bytes, the address at which execution resumes first (R269). -/
theorem slotImage_eq (c : Core) (pc : Word) (ds : Bool) (cause : Word) :
    ∃ b, c.slotImage pc ds cause = natLe 4 pc.toNat ++ b ∧ b.length = 156 := by
  refine ⟨_, List.flatMap_cons, ?_⟩
  rw [List.length_flatMap]
  simp

section
variable (htsb : (s.core g).tsbOk = true) (hnest : (s.core g).nest.val < 15)
include htsb hnest

theorem enter_eq : s.enter g x =
    (((s.store (s.slotAddr g (s.core g).nest.val) ((s.core g).slotImage x.pc x.ds (s.core g).cause)).1).onCore g
      (fun c => c.entered x)).syncIc := by
  rw [State.enter, htsb]
  exact (if_neg Bool.false_ne_true).trans (if_neg (Nat.ne_of_lt hnest))

theorem core_enter : (s.enter g x).core g = (s.core g).entered x := by
  rw [enter_eq htsb hnest, core_syncIc, core_onCore_same, core_store]

theorem core_enter_other {k : Group} (hk : k ≠ g) : (s.enter g x).core k = s.core k := by
  rw [enter_eq htsb hnest, core_syncIc, core_onCore_other _ _ hk, core_store]

/-- The slot of the depth holds the address at which execution resumes (R269). -/
theorem num_enter : (s.enter g x).num (s.slotAddr g (s.core g).nest.val) 4 = x.pc.toNat := by
  have hvalid := htsb
  simp only [Core.tsbOk, Bool.and_eq_true, beq_iff_eq, decide_eq_true_eq] at hvalid
  obtain ⟨⟨haligned, -⟩, hend⟩ := hvalid
  have hgroup := g.isLt
  obtain ⟨b, himage, hrest⟩ := slotImage_eq (s.core g) x.pc x.ds (s.core g).cause
  have hlength : (natLe 4 x.pc.toNat ++ b).length = 160 := by rw [List.length_append, length_natLe, hrest]
  have hmem : (s.enter g x).mem = (s.store (s.slotAddr g (s.core g).nest.val) (natLe 4 x.pc.toNat ++ b)).1.mem := by
    rw [enter_eq htsb hnest, himage]
    obtain ⟨h, -⟩ := ((RunOnly.refl g (s.store (s.slotAddr g (s.core g).nest.val) (natLe 4 x.pc.toNat ++ b)).1).onCore
      (fun c => c.entered x)).syncIc.onlyGroup
    exact h
  rw [State.num, State.bytes, hmem, ← State.bytes, ← State.num]
  refine num_store_word ?_ ?_ ?_
  · rw [State.slotAddr]; omega
  · rw [hlength]
  · rw [hlength, State.slotAddr, retBase]; omega

end

/-! ### The handler of an exception -/

/-- A fault enters the handler from a state with the same cores but for the mode in effect, which in a slot is the one before the
branch (R271, R277). -/
theorem faultAt_eq (s : State) (g : Group) (e : Exc) (faddr : Word) :
    ∃ (v : State) (pc : Word) (ds : Bool), s.faultAt g e faddr = v.enterExc g e faddr pc ds ∧
    (v.core g).steady = (s.core g).steady ∧ ∀ k : Group, k ≠ g → v.core k = s.core k := by
  unfold State.faultAt
  cases (s.core g).delay with
  | none => exact ⟨s, _, _, rfl, rfl, fun _ _ => rfl⟩
  | some d =>
    refine ⟨_, _, _, rfl, ?_, fun k hk => ?_⟩
    · rw [core_onCore_same]
      exact each_preserves (fun t => (t.core g).steady) _ _
        (fun t w => core_setEffect_preserves Core.steady (fun _ _ _ _ _ _ => rfl) t _ _) s
    · rw [core_onCore_other _ _ hk]
      exact (holds_each (P := RunOnly g s) (RunOnly.refl g s) d.before _ (fun t w h => h.setEffect w.1.reg w.2)).others k hk

/-- What an exception leaves that enters from a state with a valid TSBP and room in the block (R271, R272). -/
theorem inHandler_enterExc (e : Exc) (faddr pc : Word) (ds : Bool) (htsb : (v.core g).tsbOk = true)
    (hnest : (v.core g).nest.val < 15) :
    v.inHandler ((v.enterExc g e faddr pc ds).endStep g) g ((v.core g).evb + BitVec.ofNat 32 (excCode e * 0x40)) (excCause e) faddr
      false (v.core g).prio.val := by
  obtain ⟨b, hend⟩ := core_endStep (v.enterExc g e faddr pc ds) g
  unfold State.inHandler
  rw [hend, State.enterExc, core_enter htsb hnest]
  refine ⟨rfl, rfl, rfl, ?_, rfl, rfl, rfl, rfl, rfl, rfl, rfl, rfl, rfl, rfl, rfl, fun k hk => ?_⟩
  · exact Nat.mod_eq_of_lt (Nat.succ_lt_succ hnest)
  · rw [(RunOnly.refl g _).endStep.others k hk, core_enter_other htsb hnest hk]

theorem num_enterExc_endStep (e : Exc) (faddr pc : Word) (ds : Bool) (htsb : (v.core g).tsbOk = true)
    (hnest : (v.core g).nest.val < 15) :
    ((v.enterExc g e faddr pc ds).endStep g).num (v.slotAddr g (v.core g).nest.val) 4 = pc.toNat := by
  obtain ⟨hmem, -⟩ := ((RunOnly.refl g (v.enterExc g e faddr pc ds)).endStep).onlyGroup
  rw [State.num, State.bytes, hmem, ← State.bytes, ← State.num, State.enterExc, num_enter htsb hnest]

/-- An instruction that is refused enters the handler of its exception (R266, R271). -/
theorem inHandler_refuseIns (e : Exc) (faddr : Word) (htsb : (u.core g).tsbOk = true) (hnest : (u.core g).nest.val < 15) :
    u.inHandler (u.refuseIns g e faddr) g ((u.core g).evb + BitVec.ofNat 32 (excCode e * 0x40)) (excCause e) faddr false
      (u.core g).prio.val := by
  obtain ⟨v, pc, ds, hfault, hsteady, hothers⟩ := faultAt_eq ((u.bump (LS_P_ISSUE_CNT g)).countDeny g e) g e faddr
  rw [core_countDeny, core_bump] at hsteady
  have htsbp : (v.core g).tsbp = (u.core g).tsbp := congrArg (fun c => c.tsbp) hsteady
  have hdepth : (v.core g).nest = (u.core g).nest := congrArg (fun c => c.nest) hsteady
  have hevb : (v.core g).evb = (u.core g).evb := congrArg (fun c => c.evb) hsteady
  have hprio : (v.core g).prio = (u.core g).prio := congrArg (fun c => c.prio) hsteady
  obtain ⟨hvec, hcause, hfaddr, hdeeper, hpl, hie, hkept, hlc, hdelay, hgpr, hls, hle, hevb', htsbp', hdwb, hcores⟩ :=
    inHandler_enterExc (v := v) (g := g) e faddr pc ds (by rwa [Core.tsbOk, htsbp]) (by rwa [hdepth])
  rw [State.refuseIns, hfault]
  exact ⟨by rw [hvec, hevb], hcause, hfaddr, by rw [hdeeper, hdepth], hpl, hie, by rw [hkept, hprio], hlc, hdelay,
    hgpr.trans (congrArg (fun c => c.gpr) hsteady), hls.trans (congrArg (fun c => c.ls) hsteady),
    hle.trans (congrArg (fun c => c.le) hsteady), hevb'.trans hevb, htsbp'.trans htsbp,
    hdwb.trans (congrArg (fun c => c.dwb) hsteady), fun k hk => by rw [hcores k hk, hothers k hk, core_countDeny, core_bump]⟩

end Sys2Proof.Machine
end

section
/-! Exceptions that follow the commit of an instruction (R245, R266, R271). -/

namespace Sys2Proof.Machine

variable {s u : State} {g : Group} {i : Ins} {effect : State → Effect} {e : Exc} {a : Word}

/-- The handler of a completion exception has been entered (R266, R271): no general register has changed, and the slot holds where
execution goes on in sequence. -/
abbrev State.completed (u t : State) (g : Group) (e : Exc) (faddr : Word) : Prop :=
  (t.core g).pc = ((u.core g).evb + BitVec.ofNat 32 (excCode e * 0x40)) &&& 0xFFFFFFFC ∧ (t.core g).cause = excCause e ∧
  (t.core g).faddr = faddr ∧ (t.core g).gpr = (u.core g).gpr ∧ (t.core g).nest.val = (u.core g).nest.val + 1 ∧
  t.num (u.slotAddr g (u.core g).nest.val) 4 = (u.core g).seqPc.toNat ∧ ∀ k : Group, k ≠ g → t.core k = u.core k

/-- An instruction whose completion exception follows it changes no general register and enters the handler, which resumes where it
goes on in sequence. -/
theorem run_completes (h : s.fetches u g = true) (hp : (u.core g).proceeds i = true)
    (heffect : effect u = .done u .next (some (e, a))) (htsb : (u.core g).tsbOk = true) (hnest : (u.core g).nest.val < 15) :
    ∃ t, (.next (s.run g i effect) : Host.Outcome State Fault Refusal) = .next t ∧ u.completed t g e a := by
  obtain ⟨hdue, -⟩ := core_fetched h
  obtain ⟨-, -, -, -, -, hruns⟩ := fetches_iff.1 h
  have hrun := run_of_done h hp heffect
  rw [commit_of_nothingDue (get_state_of_groupRuns hruns) hdue, Option.elim_some] at hrun
  obtain ⟨before, hfollow⟩ := steady_committed u u g .next
  have hothers : ∀ k : Group, k ≠ g → (u.committed u g .next).core k = u.core k := by
    obtain ⟨-, -, -, -, -, -, -, -, -, -, -, -, -, h⟩ := onlyGroup_committed u u g .next
    exact h
  have hsteady := hfollow.trans (steady_follow_next rfl rfl before)
  generalize u.committed u g .next = v at hrun hothers hsteady
  have htsbp : (v.core g).tsbp = (u.core g).tsbp := congrArg (fun c => c.tsbp) hsteady
  have hdepth : (v.core g).nest = (u.core g).nest := congrArg (fun c => c.nest) hsteady
  have hevb : (v.core g).evb = (u.core g).evb := congrArg (fun c => c.evb) hsteady
  have hpc : (v.core g).pc = (u.core g).seqPc := congrArg (fun c => c.pc) hsteady
  have htsbOk : (v.core g).tsbOk = true := by rwa [Core.tsbOk, htsbp]
  have hnestOk : (v.core g).nest.val < 15 := by rwa [hdepth]
  have hslot : u.slotAddr g (u.core g).nest.val = v.slotAddr g (v.core g).nest.val := by
    rw [State.slotAddr, State.slotAddr, htsbp, hdepth]
  obtain ⟨hvec, hcause, hfaddr, hdeeper, -, -, -, -, -, hgpr, -, -, -, -, -, hcores⟩ :=
    inHandler_enterExc e a (v.core g).pc false htsbOk hnestOk
  exact ⟨_, congrArg Host.Outcome.next hrun, by rw [State.completeExc, hvec, hevb], hcause, hfaddr,
    hgpr.trans (congrArg (fun c => c.gpr) hsteady), by rw [State.completeExc, hdeeper, hdepth],
    by rw [hslot, State.completeExc, num_enterExc_endStep _ _ _ _ htsbOk hnestOk, hpc],
    fun k hk => (hcores k hk).trans (hothers k hk)⟩

theorem acts_of_no_delay {c : Core} (h : c.delay = none) : c.acts = true := by
  rw [Core.acts, h]
  rfl

/-- A divide by zero with DZE in effect raises DIV0 after its commit (R245). -/
theorem divide_raises_div0 {w : Word} {rd ra rb : GReg} {f : Word → Word → Word} (h : s.fetches u g = true)
    (hzero : (u.core g).rg rb = 0) (hon : (u.core g).dze = true) (hdelay : (u.core g).delay = none)
    (htsb : (u.core g).tsbOk = true) (hnest : (u.core g).nest.val < 15) :
    ∃ t, (.next (s.divide g (plainIns w) rd ra rb f) : Host.Outcome State Fault Refusal) = .next t ∧
      u.completed t g .div0 (u.core g).pc := by
  refine run_completes h (proceeds_of_acts (acts_of_no_delay hdelay) w rfl) (if_pos ?_) htsb hnest
  rw [hon, hzero]
  rfl

theorem fieldFits_iff {w sh : BitVec 5} : fieldFits w sh = true ↔ sh.toNat + w.toNat + 1 ≤ 32 := by
  rw [fieldFits, decide_eq_true_iff, widthOf, Nat.add_assoc]

/-- An instruction that is not legal raises ILLEGAL with its word (R239). -/
theorem computeReg_refused {w : Word} {rd : GReg} {v : Core → Word} {legal : Bool} (h : s.fetches u g = true)
    (hlegal : ¬ legal = true) : s.computeReg g (plainIns w legal) rd v = u.refuseIns g .illegal w := by
  rw [Bool.not_eq_true] at hlegal
  exact run_of_fetches_illegal h (by rw [plainIns, hlegal]; rfl)

end Sys2Proof.Machine
end

section
open Sys2Proof Sys2Proof.Machine

/-- Settles O41: each instruction computes one register by its result in closed form, is refused, or completes with DIV0. -/
theorem fieldsImmediatesProductsAndQuotients : Obligations.FieldsImmediatesProductsAndQuotients := by
  unfold Obligations.FieldsImmediatesProductsAndQuotients
  refine ⟨?immediatesAndProducts, ?fields, ?badFields, ?quotients, ?div0⟩
  case immediatesAndProducts =>
    intro s u g rd ra rb imm h hacts
    have hcomputes {w x : Word} {v : Core → Word} := computeReg_computes (rd := rd) (v := v) (w := w) (x := x) h hacts rfl
    refine ⟨hcomputes ?addi, hcomputes ?slti, hcomputes ?sltiu, hcomputes ?andi, hcomputes ?ori, hcomputes ?xori, hcomputes ?lui,
      hcomputes ?mul, hcomputes ?mulh, hcomputes ?mulhu, hcomputes ?mulhsu, hcomputes ?mulq, hcomputes ?macq⟩
    case addi | andi | ori | xori => rfl
    case slti => exact ofBool32_slt_sext16 _ _
    case sltiu => exact ofBool32_ult _ _
    case lui => exact zext16_shiftLeft imm
    case mul => exact mul_eq_ofNat _ _
    case mulh | mulhsu => exact highWord_eq_ofInt _
    case mulhu => exact highWord_natCast _ _
    case mulq | macq => rw [sat32_eq_ofInt, mulQ_eq]
  case fields =>
    intro s u g rd ra w sh h hacts hfit
    have hsome {x : Word} {v : Core → Word} {P : Word → Prop} :=
      computeReg_computes_some (rd := rd) (v := v) (w := x) (P := P) h hacts (fieldFits_iff.2 hfit)
    exact ⟨hsome fun k hk => getLsbD_extractBits _ w sh hk, hsome fun k hk => getLsbD_extractSigned _ w sh hk,
      hsome fun k hk => getLsbD_insertBits _ _ w sh hk⟩
  case badFields =>
    intro s u g rd ra w sh h hlong
    have hrefused {x : Word} {v : Core → Word} := computeReg_refused (w := x) (rd := rd) (v := v) h
      (fun hfit => Nat.not_le.2 hlong (fieldFits_iff.1 hfit))
    exact ⟨congrArg Host.Outcome.next hrefused, congrArg Host.Outcome.next hrefused, congrArg Host.Outcome.next hrefused⟩
  case quotients =>
    intro s u g rd ra rb h hacts hzero
    have hdivides {w x : Word} {f : Word → Word → Word} :=
      divide_computes (rd := rd) (ra := ra) (w := w) (x := x) (f := f) h hacts hzero
    exact ⟨hdivides rfl, hdivides rfl, hdivides (remSigned_eq _ _), hdivides rfl⟩
  case div0 =>
    intro s u g rd ra rb h hzero hon hdelay _ htsb hnest
    have hraises {w : Word} {f : Word → Word → Word} :=
      divide_raises_div0 (rd := rd) (ra := ra) (w := w) (f := f) h hzero hon hdelay htsb hnest
    exact ⟨hraises, hraises, hraises, hraises⟩

end

section
/-! Branches, jumps and LOOP (R250 to R255). -/

namespace Sys2Proof.Machine

variable {s u : State} {g : Group} {i : Ins} {effect : State → Effect} {f : Core → Core} {b : Branch} {w : Word}

/-! ### Where a branch, a jump or a SYS instruction may not stand (R252, R255) -/

/-- A branch, a jump or a SYS instruction in a delay slot is ILLEGAL, annulled or not. -/
theorem run_in_slot (h : s.fetches u g = true) (hdelay : (u.core g).delay ≠ none) (hclass : (i.sys || i.branch) = true) :
    s.run g i effect = u.refuseIns g .illegal i.word := by
  refine run_of_fetches_illegal h ?_
  rw [hclass, Option.isSome_iff_ne_none.2 hdelay, Bool.and_self, Bool.or_true]

/-- A branch or a jump where a loop ends raises LOOP_SETUP. -/
theorem run_at_loopEnd (h : s.fetches u g = true) (hdelay : (u.core g).delay = none) (hend : (u.core g).pc = (u.core g).le)
    (hcount : (u.core g).lc ≠ 0) (hlegal : i.legal = true) (hpermitted : i.permitted = true) (hbranch : i.branch = true) :
    s.run g i effect = u.refuseIns g .loopSetup (u.core g).le := by
  refine run_of_fetches_loopSetup h hlegal hpermitted hdelay ?_
  rw [Core.badLoopEnd, hend, hbranch, beq_self_eq_true, bne_iff_ne.2 hcount]
  rfl

/-! ### Branches and jumps (R250, R251) -/

@[simp] theorem onCore_id (s : State) (g : Group) : s.onCore g (fun c => c) = s := by
  have hcores : alter s.cores g (fun c => c) = s.cores := Vector.set_getElem_self _
  rw [State.onCore, hcores]

/-- A branch or jump has committed (R250): its delay slot comes next, annulled or not, and after it execution goes on at `next`; the
general registers are as `v` has them, and nothing else has changed. -/
abbrev State.branched (u t : State) (g : Group) (next : Word) (annul : Bool) (v : GReg → Word) : Prop :=
  (t.core g).delay.map (fun d => (d.branch, d.next, d.annul)) = some ((u.core g).pc, next, annul) ∧
  (∀ r : GReg, (t.core g).rg r = v r) ∧ (t.core g).pc = (u.core g).pc + 4 ∧ (t.core g).lc = (u.core g).lc ∧
  (u.core g).keepsSpecial (t.core g) ∧ u.onlyGroup t g

/-- A branch that acts has its delay slot come next, and then goes to its target or past the slot. -/
theorem run_branches (h : s.fetches u g = true) (hp : (u.core g).proceeds i = true)
    (heffect : effect u = .done (u.onCore g f) (.branch b) none)
    (hf : f (u.core g) = { u.core g with gpr := (f (u.core g)).gpr }) :
    ∃ t, (.next (s.run g i effect) : Host.Outcome State Fault Refusal) = .next t ∧
      u.branched t g (if b.taken then b.target else (u.core g).pc + 8) (!b.taken && b.annul) (f (u.core g)).rg := by
  obtain ⟨t, before, hrun, hsteady, hmode, honly⟩ := run_of_onCore h hp heffect (by rw [hf]) (by rw [hf]; rfl)
  rw [hf] at hsteady
  refine ⟨t, congrArg Host.Outcome.next hrun, ?_, fun r => ?_, congrArg (fun c => c.pc) hsteady, congrArg (fun c => c.lc) hsteady,
    keepsSpecial_of_steady hsteady hmode, honly⟩
  · exact congrArg (fun c => c.delay.map (fun d => (d.branch, d.next, d.annul))) hsteady
  · rw [hf]
    exact congrArg (fun c => c.rg r) hsteady

section
variable (h : s.fetches u g = true) (hmay : (u.core g).mayBranch = true)
include h hmay

/-- A conditional branch is taken where `P` holds, and its slot annulled where A is 1 and `Q` holds, its opposite. -/
theorem condBranch_branches {an : Bool} {off : BitVec 15} {test : Core → Bool} {P Q : Prop} [Decidable P] [Decidable Q]
    (htest : test (u.core g) = decide P) (hopposite : Q ↔ ¬ P) :
    ∃ t, (.next (s.condBranch g w an off test) : Host.Outcome State Fault Refusal) = .next t ∧
      u.branched t g (if P then (u.core g).pc + (off.signExtend 32 <<< 2) else (u.core g).pc + 8) (an && decide Q)
        (u.core g).rg := by
  obtain ⟨t, hexec, hdelay, hrest⟩ := run_branches (f := fun c => c)
    (b := ⟨test (u.core g), (u.core g).pc + off15 off, an, .conditional, false⟩)
    (effect := fun s => .done s (.branch ⟨test (s.core g), (s.core g).pc + off15 off, an, .conditional, false⟩) none)
    h (proceeds_of_mayBranch (i := { word := w, branch := true }) hmay rfl rfl) (by rw [onCore_id]) rfl
  refine ⟨t, hexec, hdelay.trans ?_, hrest⟩
  simp only [htest, off15, decide_eq_true_eq, Bool.and_comm an, decide_eq_decide.2 hopposite, decide_not]

/-- A jump without a link. -/
theorem jump_branches {target : Word} {kind : BranchKind} {direct : Bool} (hlegal : i.legal = true)
    (hpermitted : i.permitted = true) (heffect : effect u = .done u (.branch ⟨true, target, false, kind, direct⟩) none) :
    ∃ t, (.next (s.run g i effect) : Host.Outcome State Fault Refusal) = .next t ∧
      u.branched t g target false (u.core g).rg :=
  run_branches (f := fun c => c) (b := ⟨true, target, false, kind, direct⟩) h (proceeds_of_mayBranch hmay hlegal hpermitted)
    (heffect.trans (by rw [onCore_id])) rfl

/-- A jump that writes its link to a register (R251). -/
theorem jump_links {rd : GReg} {target : Word} {kind : BranchKind} {direct : Bool} (hlegal : i.legal = true)
    (hpermitted : i.permitted = true)
    (heffect : effect u = .done (u.setRg g rd (u.core g).link) (.branch ⟨true, target, false, kind, direct⟩) none) :
    ∃ t, (.next (s.run g i effect) : Host.Outcome State Fault Refusal) = .next t ∧
      u.branched t g target false (fun r => if r = rd ∧ r ≠ 0 then (u.core g).pc + 8 else (u.core g).rg r) := by
  obtain ⟨t, hexec, hdelay, hregs, hrest⟩ := run_branches (f := fun c => c.setRg rd (u.core g).link) h
    (proceeds_of_mayBranch hmay hlegal hpermitted) heffect (setRg_eq _ _ _)
  exact ⟨t, hexec, hdelay, fun r => (hregs r).trans (rg_setRg _ _ _ _), hrest⟩

/-- LOOP sets up the loop's registers and goes on in its body, or past it with a count of 0 (R254). -/
theorem run_loops {ls le k pc : Word} (hlegal : i.legal = true) (hpermitted : i.permitted = true)
    (heffect : effect u = .done (u.onCore g (fun c => c.setLoop ls le k)) (.goto pc) none) :
    ∃ t, (.next (s.run g i effect) : Host.Outcome State Fault Refusal) = .next t ∧ (t.core g).ls = ls ∧ (t.core g).le = le ∧
      (t.core g).lc = k ∧ (t.core g).pc = pc ∧ (t.core g).delay = none ∧ (∀ r : GReg, (t.core g).rg r = (u.core g).rg r) ∧
      u.onlyGroup t g := by
  obtain ⟨t, before, hrun, hsteady, -, honly⟩ := run_of_onCore h (proceeds_of_mayBranch hmay hlegal hpermitted) heffect rfl rfl
  exact ⟨t, congrArg Host.Outcome.next hrun, congrArg (fun c => c.ls) hsteady, congrArg (fun c => c.le) hsteady,
    congrArg (fun c => c.lc) hsteady, congrArg (fun c => c.pc) hsteady, congrArg (fun c => c.delay) hsteady,
    fun r => congrArg (fun c => c.rg r) hsteady, honly⟩

end

end Sys2Proof.Machine
end

section
open Sys2Proof Sys2Proof.Machine

/-- Settles O60: in a slot each of them is refused before it acts, and the refusal enters the handler of ILLEGAL. -/
theorem noBranchNorSystemInstructionInADelaySlot : Obligations.NoBranchNorSystemInstructionInADelaySlot := by
  unfold Obligations.NoBranchNorSystemInstructionInADelaySlot
  intro s u g an ra rb off off25 n e sr k h hdelay htsb hnest
  have hrefused {i : Ins} {effect : State → Effect} (hclass : (i.sys || i.branch) = true) :
      ∃ t, (.next (s.run g i effect) : Host.Outcome State Fault Refusal) = .next t ∧
        u.inHandler t g ((u.core g).evb + 0x40) 0x01 i.word false (u.core g).prio.val :=
    ⟨_, congrArg Host.Outcome.next (run_in_slot h hdelay hclass), inHandler_refuseIns .illegal i.word htsb hnest⟩
  exact ⟨hrefused rfl, hrefused rfl, hrefused rfl, hrefused rfl, hrefused rfl, hrefused rfl, hrefused rfl, hrefused rfl,
    hrefused rfl, hrefused rfl, hrefused rfl, hrefused rfl, hrefused rfl, hrefused rfl, hrefused rfl, hrefused rfl,
    hrefused rfl, hrefused rfl, hrefused rfl⟩

/-- Settles O43: branches and jumps by `run_branches`, LOOP by what it sets up, and each that may not stand where it does by its
refusal. -/
theorem branchesJumpsAndLoopsSteer : Obligations.BranchesJumpsAndLoopsSteer := by
  unfold Obligations.BranchesJumpsAndLoopsSteer
  refine ⟨?branches, ?jalr, ?jalrUnaligned, ?jalrSameRegister, ?loop, ?loopEmptyBody, ?inSlot, ?atLoopEnd⟩
  case branches =>
    intro s u g an ra rb off offJ h hmay
    have hbranches {w : Word} {test : Core → Bool} {P Q : Prop} [Decidable P] [Decidable Q] :=
      condBranch_branches (w := w) (an := an) (off := off) (test := test) (P := P) (Q := Q) h hmay
    refine ⟨hbranches rfl Iff.rfl, hbranches ?bne not_not.symm, hbranches rfl not_lt.symm, hbranches ?bge not_le.symm,
      hbranches rfl not_lt.symm, hbranches ?bgeu not_le.symm, jump_branches h hmay rfl rfl rfl, ?jal⟩
    case bne => exact decide_not.symm
    case bge | bgeu => exact decide_not.symm.trans (decide_eq_decide.2 not_lt)
    case jal =>
      obtain ⟨t, hexec, hdelay, hregs, hrest⟩ := jump_links (s := s) (rd := 31)
        (i := { word := wordJ 0x29 offJ, branch := true }) (effect := fun s => .done (s.setRg g 31 (s.core g).link)
          (.branch ⟨true, (s.core g).pc + off25 offJ, false, .call, true⟩) none) h hmay rfl rfl rfl
      refine ⟨t, hexec, hdelay, fun r => (hregs r).trans (if_congr (and_iff_left_of_imp ?_) rfl rfl), hrest⟩
      rintro rfl
      decide
  case jalr =>
    intro s u g rd ra off h hmay hdistinct haligned
    have hlegal : (rd != ra || rd == 0) = true := by simpa using hdistinct
    exact jump_links h hmay hlegal rfl (if_neg (not_not.2 haligned))
  case jalrUnaligned =>
    intro s u g rd ra off h hmay hdistinct hunaligned _ htsb hnest
    have hlegal : (rd != ra || rd == 0) = true := by simpa using hdistinct
    exact ⟨_, congrArg Host.Outcome.next (run_of_fault h (proceeds_of_mayBranch hmay hlegal rfl) (if_pos hunaligned)),
      inHandler_refuseIns .align _ htsb hnest⟩
  case jalrSameRegister =>
    intro s u g ra off h hne
    have hillegal : (ra != ra || ra == 0) = false := by simpa using hne
    exact congrArg Host.Outcome.next (run_of_fetches_illegal h (by rw [hillegal]; rfl))
  case loop =>
    intro s u g n e k h hmay hbody hcount
    subst hcount
    cases n with
    | imm c => exact run_loops h hmay rfl rfl (if_neg hbody)
    | reg ra => exact run_loops h hmay rfl rfl (if_neg hbody)
  case loopEmptyBody =>
    intro s u g n h hmay _ htsb hnest
    exact ⟨_, congrArg Host.Outcome.next (run_of_fault h (proceeds_of_mayBranch hmay rfl rfl) (if_pos rfl)),
      inHandler_refuseIns .loopSetup _ htsb hnest⟩
  case inSlot =>
    intro s u g an ra rb off offJ n e h hdelay
    have hrefused {i : Ins} {effect : State → Effect} (hclass : (i.sys || i.branch) = true) :
        (.next (s.run g i effect) : Host.Outcome State Fault Refusal) = .next (u.refuseIns g .illegal i.word) :=
      congrArg Host.Outcome.next (run_in_slot h hdelay hclass)
    exact ⟨hrefused rfl, hrefused rfl, hrefused rfl, hrefused rfl, hrefused rfl, hrefused rfl, hrefused rfl, hrefused rfl,
      hrefused rfl, hrefused rfl⟩
  case atLoopEnd =>
    intro s u g an ra rb off offJ n e h hdelay hend hcount
    have hrefused {i : Ins} {effect : State → Effect} (hlegal : i.legal = true) (hpermitted : i.permitted = true)
        (hbranch : i.branch = true) :
        (.next (s.run g i effect) : Host.Outcome State Fault Refusal) = .next (u.refuseIns g .loopSetup (u.core g).le) :=
      congrArg Host.Outcome.next (run_at_loopEnd h hdelay hend hcount hlegal hpermitted hbranch)
    have hjalr : ((0 : GReg) != ra || (0 : GReg) == 0) = true := Bool.or_true _
    exact ⟨hrefused rfl rfl rfl, hrefused rfl rfl rfl, hrefused rfl rfl rfl, hrefused rfl rfl rfl, hrefused rfl rfl rfl,
      hrefused rfl rfl rfl, hrefused rfl rfl rfl, hrefused rfl rfl rfl, hrefused hjalr rfl rfl, hrefused rfl rfl rfl⟩

end
